-- ==== Sys2Proof/Word.lean ====
section
/-! DEFINITION. The octet and word types of R7 and R11, their byte order (most significant octet first in every
AOP message, record and event, R499, R485, R534; least significant first in memory images, R7), two's complement,
and the binary32 image of an exact ratio. -/

namespace Sys2Proof

/-- One octet. -/
abbrev Byte := BitVec 8

/-- The native 32-bit word of R7. -/
abbrev Word := BitVec 32

/-- The octet that holds the low eight bits of a number. -/
def byteOf (n : Nat) : Byte := BitVec.ofNat 8 n

/-- `n` octets of a number, most significant octet first (R499). -/
def be : Nat → Nat → List Byte
  | 0, _ => []
  | n + 1, v => byteOf (v / 256 ^ n) :: be n v

/-- The number that octets spell, most significant first. -/
def ofBe (l : List Byte) : Nat := l.foldl (fun a b => a * 256 + b.toNat) 0

/-- `n` octets of a number, least significant octet first (R7). -/
def le : Nat → Nat → List Byte
  | 0, _ => []
  | n + 1, v => byteOf v :: le n (v / 256)

/-- The number that octets spell, least significant first. -/
def ofLe : List Byte → Nat
  | [] => 0
  | b :: l => b.toNat + 256 * ofLe l

/-- Two's complement image of an integer in a number of bits. -/
def twos (bits : Nat) (v : Int) : Nat := (v % (2 ^ bits : Nat)).toNat

/-- The integer that a two's complement image stands for. -/
def ofTwos (bits n : Nat) : Int :=
  if n < 2 ^ (bits - 1) then (n : Int) else (n : Int) - (2 ^ bits : Nat)

/-- `⌈a / b⌉`, 0 when `b` is 0. -/
def ceilDiv (a b : Nat) : Nat := (a + b - 1) / b

/-- Field `hi..lo` of a number written in bits (R7). -/
def bits (v hi lo : Nat) : Nat := v / 2 ^ lo % 2 ^ (hi + 1 - lo)

/-- Bit `i` of a number. -/
def bit (v i : Nat) : Bool := v / 2 ^ i % 2 == 1

/-- 1 for true, 0 for false: the octet of a BOOL (R11). -/
def b2n (b : Bool) : Nat := if b then 1 else 0

/-- Octets `from .. from + len - 1` of a string of octets; absent ones are left out. -/
def slice (l : List Byte) (start len : Nat) : List Byte := (l.drop start).take len

/-- A string of octets extended with zeros, or cut, to a fixed length. -/
def fit (n : Nat) (l : List Byte) : List Byte := (l ++ List.replicate n 0).take n

/-- Zeros that pad a length to a multiple of 4 (R500). -/
def padding (n : Nat) : Nat := (4 - n % 4) % 4

/-- The octets of ASCII text (R499, R507). -/
def ascii (t : String) : List Byte := t.toList.map (fun c => byteOf c.toNat)

/-- Bitwise CRC over octets, each fed most significant bit first: `width` bits, polynomial `poly`, start value
`init`; the caller applies any final exclusive-or. -/
def crc (width poly init : Nat) (l : List Byte) : Nat :=
  l.foldl (fun r b =>
    (List.range 8).foldl (fun r i =>
      let top := bit r (width - 1) != bit b.toNat (7 - i)
      let r' := r * 2 % 2 ^ width
      if top then r' ^^^ poly else r') r) init

/-- Largest power of two exponent not above a positive number. -/
def log2Floor (n : Nat) : Nat := Nat.log2 n

/-- Raw binary32 image of the ratio `n / d`, rounded to nearest, ties to even (DESIGN CHOICE, log entry 6: the spec
gives F32 objects and no rounding). 0 for a ratio with no meaning. -/
def f32OfRat (n : Int) (d : Nat) : Nat :=
  if n = 0 ∨ d = 0 then 0 else
    let a := n.natAbs
    let e0 : Int := (log2Floor a : Int) - (log2Floor d : Int)
    let atLeast : Bool :=
      if 0 ≤ e0 then decide (d * 2 ^ e0.toNat ≤ a) else decide (d ≤ a * 2 ^ (-e0).toNat)
    let e1 := if atLeast then e0 else e0 - 1
    let e := if e1 < -126 then (-126 : Int) else e1
    let sh := 23 - e
    let num := if 0 ≤ sh then a * 2 ^ sh.toNat else a
    let den := if 0 ≤ sh then d else d * 2 ^ (-sh).toNat
    let q := num / den
    let r := num % den
    let q' := if den < 2 * r ∨ (2 * r = den ∧ q % 2 = 1) then q + 1 else q
    let m := if q' < 2 ^ 23 then q' else (e + 126).toNat * 2 ^ 23 + q'
    let m' := if 0x7F800000 < m then 0x7F800000 else m
    if n < 0 then m' + 2 ^ 31 else m'

/-- Numerator and denominator of the value of a raw binary32 image (finite values). -/
def f32Ratio (raw : Nat) : Int × Nat :=
  let e := bits raw 30 23
  let f := bits raw 22 0
  let m := if e = 0 then f else f + 2 ^ 23
  let x : Int := (if e = 0 then (1 : Int) else (e : Int)) - 150
  let num := if 0 ≤ x then m * 2 ^ x.toNat else m
  let den := if 0 ≤ x then 1 else 2 ^ (-x).toNat
  (if bit raw 31 then -(num : Int) else (num : Int), den)

/-- `n / d` lies above the value of a raw binary32 image. -/
def ratAbove (n : Int) (d raw : Nat) : Bool :=
  let (p, q) := f32Ratio raw
  decide (p * d < n * q)

/-- `n / d` lies below the value of a raw binary32 image. -/
def ratBelow (n : Int) (d raw : Nat) : Bool :=
  let (p, q) := f32Ratio raw
  decide (n * q < p * d)

/-- The entry of a list at an index, or a default. -/
def nth {α : Type} (l : List α) (i : Nat) (d : α) : α := (l[i]?).getD d

/-- A list with the entry at one index replaced; unchanged where the index lies beyond it. -/
def setNth {α : Type} : List α → Nat → α → List α
  | [], _, _ => []
  | _ :: l, 0, x => x :: l
  | y :: l, i + 1, x => y :: setNth l i x

/-- A list with the entry at one index changed by a function. -/
def modNth {α : Type} : List α → Nat → (α → α) → List α
  | [], _, _ => []
  | y :: l, 0, f => f y :: l
  | y :: l, i + 1, f => y :: modNth l i f

/-- Largest of a list of naturals, 0 for none. -/
def maxNat (l : List Nat) : Nat := l.foldl max 0

/-- Sum of a list of naturals. -/
def sumNat (l : List Nat) : Nat := l.foldl (· + ·) 0

/-- Least number from `lo` on, among `n` candidates, that a test admits. -/
def firstFrom (lo : Nat) : Nat → (Nat → Bool) → Option Nat
  | 0, _ => none
  | n + 1, ok => if ok lo then some lo else firstFrom (lo + 1) n ok

end Sys2Proof
end

