-- ==== Sys2Proof/Syntax.lean ====
section
/-! DEFINITION. The commands that reach the TH6400 and the values they carry. A command is a write or a read that
comes over AOP, a message or frame that a port receives, or an event inside the engine that the opcode table lists:
its operands are what the outside world, or an analogue part that the spec measures, supplies with it. -/

namespace Sys2Proof

/-- The two carriers of R9's levels: wavelengths A and B. -/
inductive Carrier where
  | a | b
  deriving DecidableEq, Repr

/-- 0 for A, 1 for B. -/
def Carrier.toNat : Carrier → Nat
  | .a => 0
  | .b => 1

/-- Instance nibble of a carrier's objects, R9: 1h A, 2h B; also its octet in an event record, R534. -/
def Carrier.inst (c : Carrier) : Nat := c.toNat + 1

/-- The other carrier. -/
def Carrier.other : Carrier → Carrier
  | .a => .b
  | .b => .a

/-- A value per carrier. -/
structure Pair (α : Type) where
  a : α
  b : α
  deriving DecidableEq, Repr

/-- The value of one carrier. -/
def Pair.get {α : Type} (p : Pair α) : Carrier → α
  | .a => p.a
  | .b => p.b

/-- The value of one carrier replaced. -/
def Pair.set {α : Type} (p : Pair α) : Carrier → α → Pair α
  | .a, x => { p with a := x }
  | .b, x => { p with b := x }

/-- The value of one carrier changed. -/
def Pair.upd {α : Type} (p : Pair α) (c : Carrier) (f : α → α) : Pair α := p.set c (f (p.get c))

/-- The two directions of a carrier, seen from this engine. -/
inductive Dir where
  | tx | rx
  deriving DecidableEq, Repr

/-- The three counts an entry may be keyed to (R36). -/
inductive SCount where
  | loc
  | rx (c : Carrier)
  deriving DecidableEq, Repr

/-- Who sent an AOP operation: transport code of R511 (0 MG0, 1 MG1, 2 MOC A, 3 MOC B, 4 UART), source address as a
number, UDP port, Session and Sequence (R499). -/
structure Requester where
  transport : Fin 5
  source    : Nat
  port      : Nat
  session   : Nat
  sequence  : Nat
  deriving DecidableEq, Repr

/-- An object value as a write carries it: a number (BOOL, U8 to I64, SFN64 and the raw image of an F32), or octets
(TIME96, STR, OCTETS, and a TABLE in the form of R502). `len` is the Length field of the operation header. -/
inductive Val where
  | num  (v : Int)
  | octs (b : List Byte)
  deriving DecidableEq, Repr

/-- A target of a scheduled write (R41, R500): absolute or relative SFN, offset in ticks or symbols. -/
structure Target where
  relative : Bool
  sfn      : Nat
  symbols  : Bool
  offset   : Nat
  deriving DecidableEq, Repr


/-- What the Belvedere measures over one local superframe (R326, R334, R337): inputs among 1 to 4 and 13 that show edges;
the frequency offset of each of the 13 inputs against the time base, in 10⁻¹²; the time base against the master
oscillator, in 10⁻¹²; the phase error of the frequency loop, in ps. -/
structure BelIn where
  signal  : List Nat
  offsets : List Int
  steer   : Int
  phase   : Int
  deriving DecidableEq, Repr

/-- A ToD message as it ends (R342): its 16 octets. -/
structure TodIn where
  octets : List Byte
  deriving DecidableEq, Repr

/-- What a restart meets (R3, R304, R305, R442, R486): the straps, whether BOOTSEL is held low, the known-answer test
that fails, if one does, whether slot 1 unwraps, committed records that the mount finds bad by first page with the
cause of R486 (2 marker mismatch, 3 digest, 4 uncorrectable), the factory calibration copies that fail, and the time of
the mount in milliseconds. -/
structure BootIn where
  straps     : BitVec 13
  bootsel    : Bool
  kat        : Option Nat
  identity   : Bool
  bad        : List (Nat × Nat)
  factoryBad : Nat
  mountMs    : Nat
  deriving DecidableEq, Repr
/-- What the trim unit reports at the end of a fit (R75, R88): the six terms of R99, the residual interleave spur in
0.001 dBc, and whether the fit converged within its window. -/
structure TrimFit where
  terms     : List Int
  spur      : Int
  converged : Bool
  deriving DecidableEq, Repr

/-- What the slice on one phase shows over a superframe (R89): mean of its samples in 1/64 code, RMS in 0.001 code,
samples at its commonest code, and whether a DAC's driver current left its window. -/
structure SliceIn where
  mean   : Int
  rms    : Nat
  common : Nat
  driver : Bool
  deriving DecidableEq, Repr

/-- What a converter meets over one superframe (R89, R95 to R97): how many of its samples had each value, raw codes in
an ADC and values before scaling in a DAC; largest interleave spur in 0.001 dBc; and the slices by phase, one that is not
listed being in order. -/
structure ConvIn where
  hist   : List (Int × Nat)
  spur   : Int
  slices : List SliceIn
  deriving DecidableEq, Repr

/-- One 1 µs window of the receiver (R117, R584): pilot SNR in 0.001 dB, mean power of the data slots of the loaded
subcarriers and of the pilots in one unit, and whether the pilot pattern is found on every subcarrier. -/
structure PilotWin where
  snr     : Int
  data    : Nat
  pilots  : Nat
  pattern : Bool
  deriving DecidableEq, Repr

/-- What an acquisition step yields (R114, R115, R584): the offset found in step 1, in kHz; how well each coarse and each
fine dispersion candidate of step 2 did; the windows of the pilot search. -/
structure AcqResult where
  offset  : Int
  coarse  : List Nat
  fine    : List Nat
  windows : List PilotWin
  deriving DecidableEq, Repr

/-- Symbols whose errors a receiver took together (R141): from pilots or decision residuals, whether they lie between a
cycle slip and its correction or are erasures, their number, and their error power in 10⁻⁶ of a symbol's mean power. -/
structure ErrIn where
  pilot   : Bool
  lost    : Bool
  symbols : Nat
  power   : Nat
  deriving DecidableEq, Repr

/-- What the receiver of a carrier measures over one received superframe (R102, R105, R110, R122 to R126, R141): the
residual dispersion in the adaptive taps, in 0.1 ps/nm; DGD 0.1 ps, PDL 0.01 dB, polarisation rotation krad/s, offset
kHz, linewidth kHz, the errors of each subcarrier, line clock in 10⁻¹²; the I/Q terms wanted (skew X, Y, gain X, Y, phase
X, Y); and the cycle slips, each with the subcarriers it touched and the symbols to its correction. -/
structure RxIn where
  residual  : Int
  dgd       : Nat
  pdl       : Nat
  sop       : Nat
  offset    : Int
  linewidth : Nat
  subs      : List (List ErrIn)
  clock     : Int
  iq        : List Int
  slips     : List (Nat × Nat)
  deriving DecidableEq, Repr


/-- An Ethernet frame that enters on a client's host lane (R215): the 257b block and octet in it where its first octet
after the SFD lies, its octets up to the FCS, and the stamp of that first octet in 2⁻¹⁶ ns after the local boundary. -/
structure PtpIn where
  block   : Nat
  octet   : Fin 32
  frame   : List Byte
  ingress : Int
  deriving DecidableEq, Repr

/-- The fields of a block header (R222). -/
structure BlockHead where
  typ      : Nat
  cipher   : Bool
  parity   : Bool
  count    : Nat
  seq      : Nat
  cells    : Nat
  client   : Nat
  context  : Nat
  deriving DecidableEq, Repr

/-- The descriptor of a Grotto request (R296) without its Type: Source code of the master, tag, slot, OutSlot, and
address and length of source, destination and parameter area. -/
structure Descriptor where
  master  : Fin 6
  tag     : BitVec 16
  slot    : BitVec 8
  outSlot : BitVec 8
  src     : BitVec 32
  srcLen  : BitVec 32
  dst     : BitVec 32
  dstLen  : BitVec 32
  par     : BitVec 32
  parLen  : BitVec 32
  deriving DecidableEq, Repr

/-- How a Grotto unit ends a request (R300, R301): the two paths agree, or they do not and the known-answer tests that
follow pass, or one of them (numbered) fails. -/
inductive PathCheck where
  | agree
  | differ
  | differFails (test : Nat)
  deriving DecidableEq, Repr

/-- A seal as it arrives (R220, R280): context, number in its block, the 16 header octets, its cells' octets and its
16-octet tag. -/
structure SealIn where
  ctx    : Fin 65
  index  : Nat
  cells  : List Byte
  tag    : List Byte
  deriving DecidableEq, Repr

/-- A frame of the group bus as it is received (R542): Source, Cycle, body, and whether its CRC-32 held. -/
structure GroupFrame where
  source : BitVec 16
  cycle  : BitVec 16
  crcOk  : Bool
  body   : List Byte
  deriving DecidableEq, Repr

/-- Neighbour discovery at an MG port (R497): a solicitation of an address by a source, 0 for the unspecified one of
duplicate detection; an advertisement of an address with a link-layer address; or the end of detection for an
address. -/
inductive NdIn where
  | solicit (target source : BitVec 128)
  | advert (target : BitVec 128) (link : BitVec 48)
  | timer (target : BitVec 128)
  deriving DecidableEq, Repr

/-- What a lane shows over one superframe (R244, R245, R252): corrected symbols, the image of `LanePreFecBer` over the
last second, the recovered clock in 0.01 ppm, and bits compared and in error while the checker is in sync. -/
structure LaneIn where
  lane    : Fin 32
  symbols : Nat
  ber     : Nat
  ppm     : Int
  bits    : Nat
  errors  : Nat
  deriving DecidableEq, Repr

/-- A client's stream over a superframe at ingress or egress rate matching (R249, R250): 64b/66b blocks that come in, for
egress those that the lane's timing takes, idle blocks among them that may be deleted, the measured ingress offset in
0.01 ppm, and uncorrectable RS codewords (R244). -/
structure BlockIn where
  egress  : Bool
  blocks  : Nat
  wanted  : Nat
  idles   : Nat
  ppm     : Int
  badRs   : Nat
  deriving DecidableEq, Repr

/-- What a strong or retention word holds (R471, R476): the spec puts contents in regions, not at addresses. -/
inductive Content where
  | setData
  | sliceTerms (c : Carrier) (k : Fin 8) (i : Fin 68)
  | firmware (sub : Fin 3)
  | microcode (bank : Fin 4)
  | shiftTables
  | masterUcode
  | tfeFixed (j : Fin 8)
  | tfeUser (j : Fin 2)
  | sequence (k : Fin 72)
  | userImage
  | dictValue (obj : BitVec 16) (mem : BitVec 8)
  | keySlot (k : BitVec 8)
  | linkKey (c : Carrier) (d : Dir) (ctx : Fin 65)
  | taps (c : Carrier) (bins : Nat)
  | filter (c : Carrier)
  | eqLoop (c : Carrier)
  | iqTerm (c : Carrier) (i : Fin 6)
  | belLoop
  | belHistory
  | refEntry (m : Fin 16)
  | entry (n : Fin 1024)
  | counter (n : Fin 2048)
  | snapshot (buffer : Fin 8) (index : Fin 2048)
  | other
  deriving DecidableEq, Repr

/-- An error that a read of a strong or retention word finds (R474): the word, whether it is beyond correction, and what
it holds. -/
structure SramHit where
  bank          : Fin 1536
  word          : Fin 65536
  uncorrectable : Bool
  content       : Content
  deriving DecidableEq, Repr

/-- What a light byte outside the decoder slots holds (R477): a plot or reorder buffer, scratch of a TFE channel. -/
inductive LightContent where
  | buffer
  | scratch (j : Fin 8)
  deriving DecidableEq, Repr

/-- What a page read shows of one sector (R483): erased, decoded with so many bits corrected, or beyond the code. -/
inductive SectorIn where
  | erased
  | corrected (bits : Nat)
  | uncorrectable
  deriving DecidableEq, Repr

/-- A group of codewords assembled at step V6 (R171, R175): the frame, the group, the channel LLRs of each of its codewords
in the order of their bits, an erasure as 0 (R174, R188), and whether the group belongs to a trial decode (R158). -/
structure GroupIn where
  frame  : Nat
  group  : Nat
  llrs   : List (List Int)
  trial  : Bool
  deriving DecidableEq, Repr

/-- What a TFE step takes and gives (R412 to R422): the 12-bit code of a new sample of its converter, if one is taken with
it, and the value that the channel's filter gives where its coefficients are the engine's own (channels 0 to 5). -/
structure TfeIn where
  sample : Option Int
  value  : Int
  deriving DecidableEq, Repr

/-- What an engine meets over the superframe that ends at a local boundary: each converter (R95, R96), in order ADC then
DAC of a carrier; the lanes that run (R244); per carrier the contexts and seals that failed the inverse check and
whether the known-answer vectors passed (R278, R279); the Belvedere's measurements; TxDepart of the frame that begins,
in 2⁻¹⁶ ns (R214); and the transports that take no more notifications (R516). -/
structure SfIn where
  conv    : Pair (List ConvIn)
  lanes   : List LaneIn
  inverse : Pair (List (Nat × Nat))
  vectors : Pair Bool
  bel     : BelIn
  depart  : Pair Int
  full    : List (Fin 5)
  deriving DecidableEq, Repr

/-! ## The commands -/

/-- One command per row of the table of events and requests, with its operands. -/
inductive Instr where
  /-- POWER_ON (R572): VIN rises through 5.8 V; AON starts, the regulator reaches full mode and PGOOD is released. -/
  | powerOn
  /-- RESETN (R571): A RESETN low of 1 µs or more resets every domain, and AON apart from ResetCause and
  BrownOutCount. -/
  | resetn (ns : Nat)
  /-- RESET_RELEASE (R571): At the later of PGOOD + 1 ms and the RESETN rising edge, the straps are sampled and the
  Grotto boot begins. -/
  | resetRelease (x : BootIn)
  /-- CP_RELEASE (R304): Grotto boot completes and releases the CP; the Allotment starts and the privileged
  calibrations begin. -/
  | cpRelease (ms : Nat)
  /-- PRIV_CAL_COMPLETE (R439): A privileged calibration step completes; the results are recorded and 4010h is logged
  when all are done. -/
  | privCalComplete (step : Fin 3) (part : Fin 7) (passed : Bool) (lasers : List (Fin 4))
  /-- BROWN_OUT (R468): A brown-out case resets everything except AON, and the cause is recorded and counted. -/
  | brownOut (k : Fin 4)
  /-- VIN_ABOVE_60 (R566): VIN rises above 60 V; operation continues and 1017h is logged. -/
  | vinAbove60 (mv : Nat)
  /-- OVER_VOLTAGE_LATCH_OFF (R567): VIN above 72 V, or above 60 V for too long, stops the regulator and every
  domain. -/
  | overVoltageLatchOff
  /-- LATCH_OFF_RESTART (R567): After VIN has stayed below 58 V for 1 s, the engine starts again as at power-on. -/
  | latchOffRestart
  /-- VIN_BELOW_6 (R566): VIN falls below 6.0 V after start; requests are refused with 03h and 1018h is logged. -/
  | vinBelow6 (mv : Nat)
  /-- CASE_ABOVE_95 (R575): The case stays above 95 °C for 1 s; 1015h is logged and the R5 figures no longer bind. -/
  | caseAbove95
  /-- THERMAL_TRIP (R576): At 105 °C for 100 ms the engine enters keep-alive at once, without the entry checks. -/
  | thermalTrip (peak : Int)
  /-- ALERT_ACK (R573): A write of AlertAck releases ALERTN when the Sequence is at or above that of the latest
  alerting record. -/
  | alertAck (w : Requester) (v : Int)
  /-- LOCAL_BOUNDARY (R33): The local SFN rises by one; the per-SF work of the engine runs. -/
  | localBoundary (x : SfIn)
  /-- RECEIVED_BOUNDARY (R36): The start of a far-end superframe reaches the receive converters of a carrier. -/
  | receivedBoundary (c : Carrier) (delay : BitVec 32) (arrive : Int) (x : RxIn)
  /-- SUNDIAL_ENTRY_RUN (R50): The entries due at an instant on a count run in precedence order, and their entries
  are freed. -/
  | sundialEntryRun (k : SCount) (tick : Fin 1024)
  /-- SUNDIAL_PRE_WAKE (R43): One wake latency before an entry's instant, the Sundial wakes the domains the entry
  needs. -/
  | sundialPreWake
  /-- COMMIT_POINT (R47): At the local boundary of n − 4, a coordinated entry that is not agreed is cancelled at both
  ends. -/
  | commitPoint
  /-- CANCEL_ENTRY (R47): A host write cancels an entry, and every entry of the same write, up to the commit point.
  -/
  | cancelEntry (w : Requester) (n : Int)
  /-- SLICE_DUE (R73): The temperature or age trigger of an active slice fires and the slice becomes due for
  rotation. -/
  | sliceDue (c : Carrier) (k : Fin 8) (i : Nat) (temp : Int)
  /-- TRIM_RETRY (R87): 100 SF after a refusal, the converter asks again for its trim. -/
  | trimRetry (c : Carrier) (k : Fin 8)
  /-- TRIM_FIT_COMPLETE (R75): The fit ends, the spare goes to trimmed and a slice swap is armed. -/
  | trimFitComplete (c : Carrier) (k : Fin 8) (fit : TrimFit) (temp : Int)
  /-- HANDOVER_CHECK (R78): At the end of the handover SF the two slices are compared, and the swap passes or a swap
  back is armed. -/
  | handoverCheck (c : Carrier) (k : Fin 8) (rms : Nat) (faultIncoming : Bool)
  /-- TRIM_EXPIRED (R80): A trim outlives 64 SF, or its temperature moves 0.25 °C, so the armed swap is cancelled. -/
  | trimExpired (c : Carrier) (k : Fin 8) (temp : Int)
  /-- SLICE_FAILED (R89): Active slice statistics or driver current fail for 3 SF, and the slice is declared failed.
  -/
  | sliceFailed (c : Carrier) (k : Fin 8) (i : Nat) (cause : Fin 2)
  /-- SLICE_RETIRE (R93): A host write retires a slice, at once or through an emergency swap, and records the
  retirement. -/
  | sliceRetire (w : Requester) (c : Carrier) (v : Nat)
  /-- SLICE_RESTORE (R94): A host write returns a withdrawn or retired slice to idle spare. -/
  | sliceRestore (w : Requester) (c : Carrier) (v : Nat)
  /-- SLICE_OVERDUE (R87): A slice that stays due for 60 s logs 400Ah. -/
  | sliceOverdue (c : Carrier) (k : Fin 8) (i : Nat)
  /-- ADC_CLIP_ALARM (R95): The ADC clip ratio exceeds AdcClipAlarm for 10 SF and 400Bh is logged. -/
  | adcClipAlarm (c : Carrier) (k : Fin 4)
  /-- DAC_CLIP_ALARM (R97): The DAC clip ratio exceeds DacClipAlarm for 10 SF and 400Ch is logged. -/
  | dacClipAlarm (c : Carrier) (k : Fin 4)
  /-- LOSS_OF_INPUT (R96): The RMS stays below 3 codes at full gain for 10 SF; loss of input is declared and rotation
  case 5 is entered. -/
  | lossOfInput (c : Carrier) (k : Fin 4) (rms : Nat)
  /-- LO_FREQUENCY_WRITE (R583): A write of LoFrequency retunes the LO and starts a cold acquisition. -/
  | loFrequencyWrite (w : Requester) (c : Carrier) (f : Nat)
  /-- ACQUISITION_STEP_COMPLETE (R114): A step of cold or warm acquisition completes and the next state begins, or
  tracking is reached. -/
  | acquisitionStepComplete (c : Carrier) (r : AcqResult)
  /-- ACQUISITION_STEP_FAILED (R116): An acquisition step reaches its bound or fails; 5005h is logged and acquisition
  restarts. -/
  | acquisitionStepFailed (c : Carrier) (reason : Fin 5)
  /-- ACQUISITION_WAIT_END (R116): The 1 s wait after repeated failures ends and a new attempt asks for ledger cost.
  -/
  | acquisitionWaitEnd (c : Carrier)
  /-- ACQUISITION_LEDGER_RETRY (R129): 100 SF after a refusal, acquisition asks the Allotment again for 2.40 W. -/
  | acquisitionLedgerRetry (c : Carrier)
  /-- PILOT_SNR_WINDOW (R117): Each 1 µs window measures pilot SNR and mute across the subcarriers. -/
  | pilotWindowEnd (c : Carrier) (x : PilotWin)
  /-- LOSS_OF_LOCK (R119): Signal fail lasts 10 SF; loss of lock is declared and frame lock is lost. -/
  | lossOfLock (c : Carrier)
  /-- DISPERSION_RECORD_VALID (R124): After the required unbroken tracking, the dispersion record becomes valid. -/
  | recordValid (c : Carrier)
  /-- LOADING_CEILING_WRITE (R149): A ceiling write below the current code starts a change to that ceiling. -/
  | loadingCeilingWrite (w : Requester) (c : Carrier) (k : Fin 16) (v : Nat)
  /-- LOADING_REQUEST (R161): A host write makes a loading proposal with reason host. -/
  | loadingRequest (w : Requester) (c : Carrier) (row : List Byte)
  /-- POLICY_CODE_RATE_WRITE (R161): A write makes a proposal with reason rate, which recomputes the best codes at
  the new rate. -/
  | policyCodeRateWrite (w : Requester) (c : Carrier) (v : Nat)
  /-- RELOCK_CANDIDATE (R159): After 2 SF without frame lock, the receiver tries the next candidate loading. -/
  | relockCandidate (c : Carrier)
  /-- LOADING_RESET (R159): A received loading reset request enters a local change to base loading at the named SFN.
  -/
  | loadingReset (c : Carrier) (n : BitVec 64) (foot : Bool)
  /-- CAP_CEILING_EXPIRE (R155): The extra ceiling from a far-end cap refusal expires after 10,000 SF. -/
  | capCeilingExpire (c : Carrier)
  /-- CODEWORD_ARRIVE (R175): A codeword group is assembled and each codeword takes a slot in the next active bank.
  -/
  | codewordArrive (c : Carrier) (g : GroupIn)
  /-- ITERATION_COMPLETE (R176): An engine completes an iteration; the codeword stops early or the engine takes the
  next codeword. -/
  | iterationEnd (slot : Nat)
  /-- CODEWORD_RELEASE (R177): One residency budget after arrival, the codeword's information bits are released and
  its slot is freed. -/
  | codewordLeaves (c : Carrier) (frame : Nat) (number : Nat) (trial : Bool)
  /-- BANK_WAKE_RETRY (R181): Every 10 SF the pool asks again for a refused bank wake. -/
  | bankWakeRetry (b : Fin 4)
  /-- GRANT_EFFECTIVE (R184): A lower iteration grant that was given notice takes effect at t + 50. -/
  | grantEffective
  /-- GRANT_REQUEST_RETRY (R184): The pool asks again for its full iteration request on the shed-hold and 100 SF
  schedule. -/
  | grantRequestRetry
  /-- BANK_DRAINED (R190): A draining bank empties and starts reloading its microcode. -/
  | bankDrained (b : Fin 4)
  /-- MICROCODE_RELOAD_DONE (R190): Microcode reload completes and the bank returns to active at the next boundary.
  -/
  | microcodeReloadDone (b : Fin 4)
  /-- BANK_RETURNED (R192): After 10 SF of failing the tests, the engine returns the lowest bank that is out. -/
  | bankReturned
  /-- CORE_RECEIVED (R204): A valid overhead core leaves step V7, and its fields are acted on. -/
  | coreArrives (c : Carrier)
  /-- CORE_INVALID (R212): A core fails its alignment or CRC; it is counted and the frame is demapped by the agreed
  map. -/
  | coreInvalid (c : Carrier)
  /-- MOC_RESEND (R210): The oldest unacknowledged unit times out, and the transmitter resends from it. -/
  | mocResend (c : Carrier)
  /-- PTP_EVENT_MESSAGE (R215): A PTP event message on ingress is stamped and entered in the frame's PTP list. -/
  | ptpEventMessage (x : Fin 64) (p : PtpIn)
  /-- PTP_CORRECTION (R217): On egress a matched PTP event message has its residence time added to correctionField.
  -/
  | ptpEgress (c : Carrier) (x : Fin 64) (p : PtpIn)
  /-- CLIENT_BLOCK_RECEIVED (R225): A client block header is checked against the map, and mismatching blocks are
  discarded. -/
  | clientBlockReceived (c : Carrier) (x : Fin 64) (head : List Nat)
  /-- SEAL_RECEIVED (R280): A seal is authenticated or CRC-checked, and its cells are released to V8 or discarded. -/
  | sealReceived (c : Carrier) (x : SealIn)
  /-- CLIENT_RATE_WRITE (R230): A ClientRate write sets the wanted rate, or starts removal when 0. -/
  | clientRateWrite (w : Requester) (x : Fin 64) (v : Nat)
  /-- CLIENT_RATE_MISMATCH (R230): The rates at the two ends differ for 10,000 SF, and 7006h is logged. -/
  | clientRateMismatch (c : Carrier) (x : Fin 64)
  /-- LANE_RATE_WRITE (R242): A LaneRate write retrains the lane, or is refused while the lane is in use or by the
  ledger. -/
  | laneRateWrite (w : Requester) (l : Fin 32) (v : Nat)
  /-- CLIENT_LANES_WRITE (R241): A ClientLanes write places a client on a lane run, and consistency is judged. -/
  | clientLanesWrite (w : Requester) (x : Fin 64) (v : Nat)
  /-- LANE_STATE_CHANGE (R247): A lane changes state through signal, CDR, FEC alignment or deskew. -/
  | laneStateChange (l : Fin 32) (v : Fin 7)
  /-- INGRESS_FAULT (R246): A lane of a client is out of service for 3 µs, and the client sends Local Fault. -/
  | ingressFault (x : Fin 64) (cause : Fin 5) (l : Fin 32)
  /-- LREF_LOST (R237): A quad loses its LREF, and its lanes move to the Belvedere clock. -/
  | lrefLost (q : Fin 4)
  /-- LREF_RESTORED (R237): The LREF has been valid for 1 s, and the lanes return to it at the next boundary. -/
  | lrefRestored (q : Fin 4)
  /-- LANE_BER_ALARM (R245): LanePreFecBer stays above or below the alarm for 10 s, and 7013h is logged. -/
  | laneBerAlarm (l : Fin 32)
  /-- HOST_BLOCK_RECEIVED (R249): Ingress rate matching deletes or inserts idles in the client's 64b/66b stream. -/
  | hostBlockReceived (x : Fin 64) (b : BlockIn)
  /-- LANE_TEST_WRITE (R251): A LaneTest write sets the generator, checker or loopback mode and clears the checker
  counts. -/
  | laneTestWrite (w : Requester) (l : Fin 32) (v : Nat)
  /-- CHECKER_SYNC_LOST (R252): The checker loses sync over 10,000 bits, resynchronises and logs 7016h. -/
  | checkerSyncLost (l : Fin 32) (errors : Nat)
  /-- CONTEXT_ENABLE (R276): A host write proposes turning a cipher context on or off on every carrier of the client.
  -/
  | contextEnable (w : Requester) (x : Fin 64) (v : Nat) (t : Target)
  /-- CONTEXT_ROLL (R269): A host write arms a roll with reason host. -/
  | contextRoll (w : Requester) (c : Carrier) (k : Nat)
  /-- ROLL_INTERVAL (R269): A context has been carried for RollInterval SF in its epoch, and a roll is armed. -/
  | rollInterval (c : Carrier) (k : Fin 65)
  /-- TRANSMIT_RESUME (R279): After 100 clean SF of known-answer tests, the contexts return to on. -/
  | transmitResume (c : Carrier)
  /-- XTS_ENCRYPT (R297): A Grotto request encrypts a sector with XTS-AES-256. -/
  | xtsEncrypt (x : Descriptor)
  /-- XTS_DECRYPT (R297): A Grotto request decrypts a sector with XTS-AES-256. -/
  | xtsDecrypt (x : Descriptor)
  /-- GCM_ENCRYPT (R297): A Grotto request encrypts and tags with AES-256-GCM. -/
  | gcmEncrypt (x : Descriptor)
  /-- GCM_DECRYPT (R297): A Grotto request checks the tag and decrypts with AES-256-GCM. -/
  | gcmDecrypt (x : Descriptor)
  /-- KMAC256_DERIVE (R297): A Grotto request derives a key with KMAC256 into a key region or slot. -/
  | kmac256Derive (x : Descriptor)
  /-- SHAKE256 (R297): A Grotto request computes a SHAKE256 digest. -/
  | shake256 (x : Descriptor)
  /-- FALCON_VERIFY (R297): A Grotto request verifies a Falcon-1024 signature. -/
  | falconVerify (x : Descriptor)
  /-- FALCON_SIGN (R297): A Grotto request signs with a Falcon-1024 private key. -/
  | falconSign (x : Descriptor)
  /-- ML_KEM_KEY_GENERATION (R297): A Grotto request generates an ML-KEM-1024 key pair. -/
  | mlKemKeyGeneration (x : Descriptor)
  /-- ML_KEM_ENCAPSULATE (R297): A Grotto request encapsulates to an ML-KEM key and writes the shared secret to a
  slot. -/
  | mlKemEncapsulate (x : Descriptor)
  /-- ML_KEM_DECAPSULATE (R297): A Grotto request decapsulates a ciphertext into a shared-secret slot. -/
  | mlKemDecapsulate (x : Descriptor)
  /-- REQUEST_COMPLETION (R298): A Grotto request finishes both computations and ends with a completion and status.
  -/
  | requestCompletion (u : Fin 4) (check : PathCheck)
  /-- SLOT_WRITE (R293): A host write of public material to an owner slot, shadowing in-flight contents. -/
  | slotWrite (w : Requester) (row : List Byte)
  /-- SLOT_ERASE (R294): A host erase puts a slot into erasing. -/
  | slotErase (w : Requester) (k : Nat)
  /-- ERASE_COMPLETE (R294): When in-flight requests finish, or after 20 ms, the slot is zeroised and emptied. -/
  | eraseComplete (k : Fin 256)
  /-- QUOTE_REQUEST (R307): A host write starts an attestation quote over a nonce and a register mask. -/
  | quoteRequest (w : Requester) (row : List Byte)
  /-- OWNER_KEY_ENROL (R320): A host write enrols, replaces or removes the owner image-signing key. -/
  | ownerKeyEnrol (w : Requester) (value : List Byte)
  /-- ROLLBACK_FLOOR (R321): A host write raises a subsystem's fused rollback floor. -/
  | rollbackFloor (w : Requester) (sub : Fin 7) (v : Int)
  /-- REKEY_ROOT (R310): A host write starts a link key agreement on a carrier. -/
  | rekeyRoot (w : Requester) (v : Nat)
  /-- ROOT_INTERVAL (R310): RootInterval runs out since the root was installed, and a key agreement starts. -/
  | rootInterval (c : Carrier)
  /-- OFFER (R311): A received Offer is checked and answered with an encapsulation in an Answer. -/
  | offer (c : Carrier) (session : Nat) (body : List Byte)
  /-- ANSWER (R311): A received Answer is checked, decapsulated, the root derived and Confirm I sent. -/
  | answer (c : Carrier) (session : Nat) (body : List Byte)
  /-- CONFIRM_I (R311): The responder checks the tag and InstallSfn, writes its next root and sends Confirm R. -/
  | confirmI (c : Carrier) (session : Nat) (body : List Byte)
  /-- CONFIRM_R (R311): The initiator checks the tag in time, writes its next root and logs 9007h. -/
  | confirmR (c : Carrier) (session : Nat) (tag : List Byte)
  /-- ABORT (R312): A received Abort ends the session and erases its ephemeral slots and any root it wrote. -/
  | abort (c : Carrier) (session : Nat) (reason : Nat)
  /-- OFFER_WAIT (R310): A non-initiator without a root hears no Offer for 2 s and initiates itself. -/
  | offerWait (c : Carrier)
  /-- AGREEMENT_TIMEOUT (R312): A key agreement message is not answered within 200 ms, and the session fails with
  timeout. -/
  | agreementTimeout (c : Carrier)
  /-- AGREEMENT_RETRY (R312): The initiator's back-off delay ends and it retries the agreement. -/
  | agreementRetry (c : Carrier)
  /-- ROOT_INSTALL (R314): At InstallSfn the new root becomes current or starts migration. -/
  | rootInstall (c : Carrier)
  /-- ROOT_MIGRATION_DEADLINE (R314): 36,000,000 SF after InstallSfn, the roll of a context not yet moved is armed at
  once. -/
  | rootMigrationDeadline (c : Carrier)
  /-- LATTICE_RETRY (R316): Every 100 SF a waiting agreement asks again for the lattice unit's cost. -/
  | latticeRetry (c : Carrier)
  /-- HOLD_OFF_END (R328): At the end of hold-off, an input with a remaining cause fails, or returns to its previous
  state. -/
  | holdOffEnd (i : Fin 14)
  /-- QUALIFICATION_END (R328): An input clear for its qualification period becomes available. -/
  | qualificationEnd (i : Fin 14)
  /-- REF_TABLE_WRITE (R329): A RefTable write changes the priority table at the next boundary. -/
  | refTableWrite (w : Requester) (m : Nat) (v : Nat)
  /-- FORCE_REF_WRITE (R330): A ForceRef write forces a selection while the input is available. -/
  | forceRefWrite (w : Requester) (m : Nat) (v : Nat)
  /-- LOOP_BANDWIDTH_STEP (R334): A loop whose phase error has stayed small moves to its next bandwidth rung. -/
  | loopBandwidthStep
  /-- PPS_EDGE (R342): A PPS_IN edge gives the PPS loop a phase sample. -/
  | ppsEdge (x : Fin 2) (off : Int) (err : Int)
  /-- TOD_MESSAGE (R342): A TOD_IN message naming the next edge is checked and taken. -/
  | todMessage (x : Fin 2) (m : TodIn)
  /-- ADVERT_READ (R348): Once per second the far end's LineAdvert is read over the MOC into FarAdvert. -/
  | advertRead (c : Carrier) (status : Nat) (row : List Byte)
  /-- AVENUE_MODE_WRITE (R354): A write proposes a mode change for each direction of each carrier. -/
  | avenueModeWrite (w : Requester) (mode : Nat) (t : Target)
  /-- CELL_ARRIVAL (R357): At V8 an authenticated cell is discarded as a duplicate, buffered, or released. -/
  | cellArrival (c : Carrier) (x : Fin 64) (seq : BitVec 32)
  /-- CELL_LOST (R357): A later cell waits ReorderWindow while cell s is absent, so s is declared lost. -/
  | cellLost (x : Fin 64)
  /-- ALIGNED_RELEASE (R358): In aligned mode a cell is released when its slower-avenue copy is due plus 2 µs. -/
  | alignedRelease (x : Fin 64)
  /-- REORDER_WINDOW_SHORT (R360): ReorderWindow is below the path difference plus 2 µs, and A008h is raised or
  cleared. -/
  | reorderWindowShort
  /-- TAKEOVER (R364): After hold-off, a fault on the carrying avenue leads to a check, a mute and a switch to the
  standby. -/
  | takeover
  /-- SWITCH_MUTE_END (R365): The mute ends when the far core shows the new avenue, or after 10 SF. -/
  | switchMuteEnd (c : Carrier)
  /-- VIEW_RECORD (R370): Every 1 ms, or on change, the view record is sent to the Keeper, the far end and the
  footpath. -/
  | viewRecord
  /-- KEEPER_DECISION (R372): The link Keeper sees a dispute and within 1 ms orders an avenue. -/
  | keeperDecision (slot : Fin 32)
  /-- KEEPER_ORDER (R373): An end receives a Keeper order and applies it by takeover without checks. -/
  | keeperOrder (b : List Byte)
  /-- KEEPER_UNREACHABLE (R374): The link Keeper is unheard for 50 ms; disputes stay unresolved and A007h is raised.
  -/
  | keeperUnreachable
  /-- AVENUE_CLEAR (R375): AvenueCommand 0 ends lockout and forced. -/
  | avenueClear (w : Requester) (sfn : BitVec 64)
  /-- LOCKOUT (R375): AvenueCommand 1 stops any takeover, order or revert from moving traffic. -/
  | lockout (w : Requester) (sfn : BitVec 64)
  /-- FORCED_SWITCH (R375): AvenueCommand 2 or 3 proposes a switch to A or B at TargetSfn, and holds there. -/
  | forcedSwitch (w : Requester) (c : Carrier) (sfn : BitVec 64)
  /-- MANUAL_SWITCH (R375): AvenueCommand 4 or 5 proposes a switch to A or B if both views of the target are good. -/
  | manualSwitch (w : Requester) (c : Carrier) (sfn : BitVec 64)
  /-- EXERCISE (R375): AvenueCommand 6 switches to the standby at TargetSfn and back 100 SF later. -/
  | exercise (w : Requester) (sfn : BitVec 64)
  /-- DEGRADE_SWITCH (R378): The carrying view is degraded for 100 SF, so a planned switch with cause degrade is
  armed. -/
  | degradeSwitch
  /-- REVERT (R378): The preferred avenue has stayed good for SpareWaitToRestore, so a revert switch is armed. -/
  | revert
  /-- FOOTPATH_PACKET_TRANSMIT (R385): The next queued packet is sent by dithering the tone, after the inter-packet
  gap. -/
  | footpathPacketTransmit (c : Carrier)
  /-- HELLO (R387): The Hello timer queues a Hello packet every 100 ms or 1 s. -/
  | hello (c : Carrier)
  /-- FOOTPATH_SEND (R388): A host write queues a host message packet. -/
  | footpathSend (w : Requester) (c : Carrier) (row : List Byte)
  /-- TONE_DETECTED (R390): A tone lies above its floor for 8 bit periods, so the AGC freezes and sync search begins.
  -/
  | toneHeard (c : Carrier) (levels : List (List Int))
  /-- SYNC_MATCH (R391): A window matches the sync word, and the header begins. -/
  | syncMatch (c : Carrier) (window : BitVec 32) (level : Int)
  /-- FALSE_DETECTION (R389): No sync is found within 96 bit periods of detection, and the receiver returns to
  searching. -/
  | falseDetection (c : Carrier)
  /-- HEADER_CHECK (R392): The header completes, and its check passes or fails. -/
  | headerCheck (c : Carrier) (octets : List Byte)
  /-- WATCH_MATCH (R393): The watch correlator matches a stronger packet, and the receiver switches to it. -/
  | watchHit (c : Carrier) (tone : Fin 64) (rise : List Int) (window : BitVec 32) (level : Int)
  /-- FOOTPATH_PACKET_END (R392): The CRC-32 ends a packet; it is discarded or acted on. -/
  | footpathPacketEnd (c : Carrier) (payload : List Byte) (check : BitVec 32) (level : Int) (snr : Int)
  /-- NOISE_FLOOR_WINDOW (R394): A 1 ms window in searching updates each tone's noise floor. -/
  | noiseFloorWindow (c : Carrier) (levels : List Int)
  /-- NEIGHBOUR_LOST (R396): No Hello arrives for 3 intervals; the neighbour is lost and D004h is logged. -/
  | neighbourLost (c : Carrier)
  /-- KEEPER_ORDER_REPEAT (R397): A Keeper order in force is resent on the footpath at 1 ms, then every 10 ms. -/
  | keeperOrderRepeat
  /-- FOOTPATH_LEDGER_RETRY (R398): Every 100 SF a refused footpath direction asks the Allotment again. -/
  | footpathLedgerRetry (c : Carrier) (d : Fin 2)
  /-- SVC2_CONVERSION (R405): An SVC2 entry completes its samples, and the result register and accumulator are
  updated. -/
  | svc2Conversion (samples : List Int) (ended : Option Bool)
  /-- COMPARATOR_FIRE (R411): A fast comparator crosses its threshold and triggers the injected sequence. -/
  | comparatorFire (k : Fin 4) (code : Int)
  /-- COMPARATOR_REARM (R411): The input returns 1 % past the threshold and the comparator arms again. -/
  | comparatorRearm (k : Fin 4) (code : Int)
  /-- COMPARATOR_WRITE (R411): A Comparator write sets the comparator and arms it at the next sample. -/
  | comparatorWrite (w : Requester) (k : Nat) (v : Nat)
  /-- INJECT_NOW (R408): A host write triggers the injected sequence. -/
  | injectNow (w : Requester) (v : Nat)
  /-- INJECT_LENGTH_WRITE (R410): A write of InjectLength, which at 0 ends a run and drops the pending trigger. -/
  | injectLengthWrite (w : Requester) (v : Nat)
  /-- SVC_ACCUM_CLEAR (R417): A write clears every accumulator at the next boundary. -/
  | svcAccumClear (w : Requester) (v : Nat)
  /-- TFE_RUN_WRITE (R421): A TfeRun write starts or stops a user channel, subject to the ledger. -/
  | tfeRunWrite (w : Requester) (j : Nat) (v : Nat)
  /-- TFE_COEFF_WRITE (R421): A write of TfeFilter or TfeCoeff loads filter coefficients while the channel is
  stopped. -/
  | tfeCoeffWrite (w : Requester) (j : Nat) (v : Val)
  /-- CAL_RELOAD (R437): A host write arms set loads for every converter of the carrier. -/
  | calReload (w : Requester) (c : Carrier) (v : Int)
  /-- CAL_LEARNED_CLEAR (R444): A host write marks every slice not learned, saves and reloads. -/
  | calLearnedClear (w : Requester) (v : Int)
  /-- CAL_SAVE (R441): A host write saves the learned set to the Icehouse. -/
  | calSave (w : Requester) (v : Int)
  /-- CAL_SAVE_INTERVAL (R441): CalSaveInterval expires with the learned set changed, so a save begins. -/
  | calSaveInterval
  /-- CAL_SAVE_RETRY (R441): 60 s after ICE could not wake, the save is tried again. -/
  | calSaveRetry
  /-- IDLE_TIMER_EXPIRE (R450): A domain's idle timer expires and the domain attempts sleep. -/
  | idleTimerExpire (d : Fin 25)
  /-- SLEEP_ENTRY_DONE (R451): The domain's supply goes off and its awake cost leaves the ledger. -/
  | sleepEntryDone (d : Fin 25)
  /-- DOMAIN_ACCESS (R453): An access to a sleeping domain asks for its awake cost and starts the wake. -/
  | domainAccess (d : Fin 25)
  /-- DOMAIN_WAKE_COMPLETE (R453): The domain is awake with its retention checked, and stalled accesses proceed. -/
  | domainWakeComplete (d : Fin 25) (bad : List (Fin 16))
  /-- WAKE_STALL_PROGRESS (R506): Every 100 ms a stalled AOP operation receives a 0401h progress message. -/
  | wakeStallProgress (i : Nat)
  /-- STALL_LIMIT (R453): A stall reaches 60 s; the operation ends with 0801h and the wake continues. -/
  | stallLimit (i : Nat)
  /-- DOMAIN_HOLD_WRITE (R450): A DomainHold write of 1 accesses the domain and holds it awake. -/
  | domainHoldWrite (w : Requester) (d : Fin 25) (v : Int)
  /-- LEDGER_REQUEST (R458): An activity's cost is judged against the effective ceiling and granted or refused. -/
  | ledgerRequest (act : Fin 12) (item : Nat) (cost : Nat)
  /-- SHED (R461): M exceeds Ceiling for 50 SF, and groups are shed in ShedOrder. -/
  | shed
  /-- CEILING_WRITE (R463): A Ceiling write takes effect at the next boundary. -/
  | ceilingWrite (w : Requester) (v : Int)
  /-- SHED_POSITION_RESET (R461): M stays at or below Ceiling for 10,000 SF; the shed position returns to member 00
  and state 3 clears. -/
  | shedPositionReset
  /-- SHED_UNRESOLVED (R464): Every group is shed and M stays high for 50 SF, so ShedState reads 3. -/
  | shedUnresolved
  /-- KEEP_ALIVE_EXIT (R467): An enabled wake source restores full mode, CTL, MGT and BEL. -/
  | keepAliveExit (source : Fin 4) (us : BitVec 48) (bad : List (Fin 16)) (cool : Bool)
  /-- SRAM_ERROR (R474): A strong-region read finds an error; it is corrected and written back, or the word is
  poisoned. -/
  | sramError (x : SramHit) (scrubber : Bool)
  /-- SCRUB_PASS (R475): Each ScrubPeriod the scrubber reads every valid strong and retention word. -/
  | scrubPass (ms : Nat) (found : List SramHit)
  /-- POISON_RELOAD (R476): At the next safe boundary the owner's reloaded data replaces the poisoned word. -/
  | poisonReload (addr : Nat)
  /-- LIGHT_PARITY_ERROR (R477): A light-region parity error is handled by the owner of the data. -/
  | lightParityError (bank : Fin 1536) (offset : Fin 262144) (x : LightContent)
  /-- RECORD_WRITE (R484): An Icehouse record write is requested, and its pages are encrypted and queued. -/
  | recordWrite (typ : Fin 8) (region : Fin 6) (subject : Nat) (payload : List Byte)
  /-- PAGE_PROGRAM_DONE (R484): A page program completes, and the next page or the marker starts. -/
  | pageProgramDone (ok : Bool)
  /-- COMMIT_MARKER_PROGRAMMED (R485): The commit marker is programmed and the record is committed. -/
  | commitMarkerProgrammed
  /-- PAGE_READ_DONE (R484): A page read completes and its sectors are decoded and decrypted. -/
  | pageReadDone (block : Fin 3968) (page : Fin 256) (sectors : List SectorIn)
  /-- BLOCK_ERASE_DONE (R489): A block erase completes and the block joins the erased pool. -/
  | blockEraseDone (ok : Bool)
  /-- REFRESH (R490): Each RefreshPeriod every committed record is read and weak ones are relocated. -/
  | refresh (shown : List (Nat × Nat))
  /-- BLOCK_RESTORE (R492): A host write returns a suspended block to service. -/
  | blockRestore (w : Requester) (v : Int)
  /-- LOG_WRITE (R535): With 256 records waiting, or 1 s after the oldest, event records are written to the log
  region. -/
  | logWrite
  /-- AOP_MESSAGE (R504): An AOP message from MG, MOC or UART enters the Gatehouse queue and is checked whole. -/
  | aopMessage (t : Fin 5) (source : BitVec 128) (port : BitVec 16) (octets : List Byte) (crcOk : Bool)
  /-- AOP_READ (R505): Op 01h returns the value of an object in force. -/
  | aopRead (w : Requester) (o : BitVec 16) (m : BitVec 8) (offset : BitVec 32)
  /-- AOP_WRITE (R505): Op 02h writes an object that has no row of its own, after the Gatehouse checks. -/
  | aopWrite (w : Requester) (o : BitVec 16) (m : BitVec 8) (offset : BitVec 32) (v : Val)
  /-- SCHEDULED_WRITE (R512): Op 03h creates a Sundial entry that writes an RWS object at its target. -/
  | scheduledWrite (w : Requester) (o : BitVec 16) (m : BitVec 8) (t : Target) (v : Val)
  /-- SUBSCRIBE (R515): Op 04h creates a subscription in on-change, periodic or event-stream mode. -/
  | subscribe (w : Requester) (mode : BitVec 8) (o : BitVec 16) (m : BitVec 8) (period : BitVec 32)
  /-- UNSUBSCRIBE (R515): Op 05h ends a subscription. -/
  | unsubscribe (w : Requester) (n : BitVec 8)
  /-- DESCRIBE (R503): Op 06h returns the type, access and roles of an object. -/
  | describe (w : Requester) (o : BitVec 16) (m : BitVec 8)
  /-- SESSION_OPEN (R507): An open message allocates a session and returns an EngineNonce. -/
  | sessionOpen (w : Requester) (role : BitVec 8) (slot : BitVec 8) (nonce : BitVec 256)
  /-- PROOF (R507): A proof message is verified under the key slot and grants the requested role. -/
  | proof (w : Requester) (sig : List Byte)
  /-- CLOSE (R509): A close message ends a session and its subscriptions. -/
  | close (w : Requester)
  /-- SESSION_IDLE (R509): A session receives no message for SessionIdle and is closed. -/
  | sessionIdle (id : BitVec 32)
  /-- UNPROVED_SESSION_DISCARD (R507): A session not proved within 10 s is discarded. -/
  | unprovedSessionDiscard (id : BitVec 32)
  /-- SESSION_CLOSE (R509): A write of SessionClose closes the named session. -/
  | sessionClose (w : Requester) (v : Int)
  /-- AOP_PORT_WRITE (R509): An AopPort change closes every session after the response is sent. -/
  | aopPortWrite (w : Requester) (v : Int)
  /-- DICT_SAVE (R517): A write commits the NV dictionary record of saved objects. -/
  | dictSave (w : Requester) (v : Int)
  /-- DICT_RESTORE (R519): A write discards live writes and returns saved objects to their resolved values. -/
  | dictRestore (w : Requester) (v : Int)
  /-- DICT_FACTORY (R519): A write commits an empty record and restores every object to its factory default. -/
  | dictFactory (w : Requester) (v : Int)
  /-- COUNTER_SELECT_WRITE (R526): A select write takes effect at the next boundary and clears the counter. -/
  | counterSelectWrite (w : Requester) (n : Fin 2048) (v : Int)
  /-- COUNTER_CLEAR (R526): A write clears one or all counters at the next boundary. -/
  | counterClear (w : Requester) (v : Int)
  /-- COUNTER_RANGE_WRITE (R527): A range write changes the address filter at the next boundary. -/
  | counterRangeWrite (w : Requester) (m : Fin 65) (row : List Byte)
  /-- SNAPSHOT_LATCH (R531): 200 ns after the instant, the counters are latched into the next buffer. -/
  | snapshotLatch
  /-- SNAPSHOT_COPY_RETRY (R532): Every 60 s an Icehouse copy of a snapshot buffer is retried. -/
  | snapshotCopyRetry (b : Fin 8)
  /-- EVENT_FETCH (R535): A write places up to 64 event records from the given Sequence in EventFetched. -/
  | eventFetch (w : Requester) (v : Int)
  /-- GROUP_WINDOW (R541): A 10 µs group bus window opens and the engine owning it sends its frame. -/
  | groupWindow (window : Fin 40) (collision : Bool)
  /-- BEACON (R543): A received beacon sets window timing, admissions, masks and handover. -/
  | beacon (f : GroupFrame)
  /-- MEMBER_STATUS (R543): A received member status frame carries views and any order of a member. -/
  | memberStatus (f : GroupFrame)
  /-- ORDERS (R543): A received orders frame carries the Keeper orders in force. -/
  | orders (f : GroupFrame)
  /-- JOIN (R546): The Keeper receives a Join and admits the slot or marks it duplicate. -/
  | join (slot : Fin 32) (f : GroupFrame)
  /-- LEAVE (R547): The Keeper receives a Leave and clears the slot. -/
  | leave (f : GroupFrame)
  /-- LISTEN_END (R544): Listening ends with no beacon heard, and an eligible engine becomes Keeper. -/
  | listenEnd
  /-- DEPUTY_TAKEOVER (R545): Window 32 is empty for 50 cycles, and the deputy becomes Keeper. -/
  | deputyTakeover
  /-- HANDOVER (R545): At HandoverCycle the named member becomes Keeper. -/
  | handover
  /-- MEMBER_ABSENT (R547): A member silent for 50 cycles is cleared. -/
  | memberAbsent (slot : Fin 32)
  /-- GROUP_LEAVE (R547): A host write makes the engine send Leave for 3 cycles and fall silent. -/
  | groupLeave (w : Requester) (v : BitVec 8)
  /-- DUPLICATE_JOIN_RETRY (R546): An engine marked duplicate sends Join again every 1 s. -/
  | duplicateJoinRetry
  /-- ANNOUNCE_TIMER (R549): Once per second a Keeper multicasts Announce. -/
  | announceTimer
  /-- ANNOUNCE (R549): A received Announce updates the site lead and registrar claims. -/
  | announce (b : List Byte)
  /-- SETTLE_END (R549): A claimant hears no lower claimant for SettleTime and takes its role. -/
  | settleEnd (registrar : Bool)
  /-- ROLL_BACKOFF_END (R550): A random back-off delay ends and a GroupRoll or SiteRoll is sent. -/
  | rollBackoffEnd (site : Bool)
  /-- GROUP_ROLL (R550): A site lead receives a GroupRoll, registers it and acknowledges it. -/
  | groupRoll (b : List Byte)
  /-- SITE_ROLL (R550): The registrar receives a SiteRoll, registers it and acknowledges it. -/
  | siteRoll (b : List Byte)
  /-- ACK (R550): A received Ack confirms a registration, or redirects, or refuses a duplicate group. -/
  | ack (b : List Byte)
  /-- ACK_TIMEOUT (R550): A registration is unacknowledged after AckTimeout, so it is resent with doubled back-off.
  -/
  | ackTimeout (site : Bool)
  /-- REGISTRATION_RETRY (R550): 60 s after the attempts are exhausted, registration starts again. -/
  | registrationRetry (site : Bool)
  /-- DOMAIN_ROLL (R551): A received DomainRoll updates the domain roll masks. -/
  | domainRoll (b : List Byte)
  /-- DOMAIN_ROLL_TIMER (R551): Every 10 s the registrar multicasts DomainRoll. -/
  | domainRollTimer
  /-- ROLL_INCOMPLETE (R553): At 45 s after power-on an incomplete roll logs 100Dh. -/
  | rollIncomplete
  /-- CARRIER_WITHOUT_TRAFFIC (R553): At 60 s after power-on a carrier without traffic logs 100Fh with its stage. -/
  | carrierWithoutTraffic (c : Carrier)
  /-- IMAGE_WRITE (R555): A host write appends image data to the inactive slot's record. -/
  | imageWrite (w : Requester) (row : List Byte)
  /-- IMAGE_COMMIT (R555): A host write checks the image and writes its digest and commit marker. -/
  | imageCommit (w : Requester) (row : List Byte)
  /-- IMAGE_ACTIVATE (R556): A host write schedules activation of an image slot. -/
  | imageActivate (w : Requester) (sub : Fin 7) (t : Target) (v : Int)
  /-- PROBATION_PASS (R557): ImageProbation passes without a failed health check, and the slot becomes the boot slot.
  -/
  | probationPass (sub : Fin 7) (c : Option Carrier)
  /-- PROBATION_FAIL (R557): A health check fails in probation, so activation of the previous slot is armed. -/
  | probationFail (sub : Fin 7) (c : Option Carrier)
  /-- VIN_BACK_IN_OPERATING_RANGE (R566): VIN returns into 6.0 to 60.0 V after lying below 6.0 V or above 60.0 V; the
  refusals with 03h end and 1018h or 1017h is cleared. -/
  | vinBack (extreme : Nat)
  /-- AON_LOST (R468): VIN falls below 4.0 V, AON loses power as well, and the next start is a power-on with AON
  state such as BrownOutCount cleared. -/
  | aonLost
  /-- CHECKER_GAINS_SYNC (R252): The lane checker sees 256 error-free bits, gains sync and starts accumulating
  LaneCheckBits and LaneCheckErrors. -/
  | checkerGainsSync (l : Fin 32)
  /-- TFE_OUTPUT (R422): An SVC0 or SVC1 sample is taken and a TFE channel delivers an output word; over-range is
  clamped and counted, the Unsettled and carried flags are set, and the peak, RMS and envelope detectors update. -/
  | tfeOutput (j : Fin 8) (x : TfeIn)
  /-- NEW_IMAGE_LOADED (R556): After an activation, the CP restart within 20 ms, the Grotto's 2 ms queue hold, or the
  TFE's 20 µs load ends, and the subsystem resumes on the new image. -/
  | newImageLoaded (sub : Fin 7)
  /-- NEIGHBOUR_DISCOVERY (R497): An IPv6 neighbour discovery or duplicate address detection message is received on
  MG0 or MG1, or its timer runs out, for the link-local or static address. -/
  | neighbourDiscovery (port : Fin 2) (x : NdIn)
  deriving DecidableEq, Repr

end Sys2Proof
end

