-- ==== Sys2Proof/Decode.lean ====
section
/-! DEFINITION. The table of events and requests gives no row a bit pattern: no word spells a command. -/

namespace Sys2Proof

/-- The command that a word spells: none, since the table gives no bits. -/
def decodeTableWord (_nbits _w : Nat) : Option Instr := none

end Sys2Proof
end

