-- ==== Sys2Proof/Config.lean ====
section
/-! DEFINITION. What an implementation fixes and the spec leaves open: the free values, the cryptographic primitives
that the spec names by standard and does not define, and the values a part carries from the factory. All of them are
opaque: nothing can be proved of a value of theirs. Log entries 1 to 4 and 8. -/

namespace Sys2Proof

/-- The stream of free values (log entry 1). A step that meets a value the spec leaves open reads this at the counter
`State.free` and advances the counter. -/
opaque Config.freeValue : Nat → BitVec 64

/-- What a column of a table shows of a count that is past the column's largest value: argument the count (log
entry 4). -/
opaque Config.countPast : Nat → BitVec 64

/-- A result of the Grotto's arithmetic that the spec names by its standard only, as octets: first argument the
operation's number (`Config.opXts` and so on), second the octet strings it works on (log entry 2). -/
opaque Config.prim : Nat → List (List Byte) → List Byte

/-- The verdict of a check that the spec names by its standard only: tag, signature (log entry 2). -/
opaque Config.verdict : Nat → List (List Byte) → Bool

/-- Octet `i` of a value that a part carries from the factory: first argument the object that shows it
(log entry 3). -/
opaque Config.factoryOctet : Nat → Nat → Byte

/-- A number that a part carries from the factory: first argument the item, second its index (log entry 3). -/
opaque Config.factoryNumber : Nat → Nat → BitVec 32

/-- A string of `len` factory octets of an item. -/
def Config.factoryOctets (item len : Nat) : List Byte :=
  (List.range len).map (Config.factoryOctet item)

/-- Latency of steps T1 to T7 in ps (R19, R27): carrier, symbol rate, subcarriers, lane rates. The spec gives its bound and
what it depends on, no value (log entry 77). -/
opaque Config.txSteps : Nat → Nat → Nat → List Nat → Nat

/-- Latency of steps V1 to V10 in ps without the residency budget (R20, R27), likewise (log entry 77). -/
opaque Config.rxSteps : Nat → Nat → Nat → List Nat → Nat

/-- An entry of the base matrix of a rate before its structure is laid on: rate, row, column. The spec fixes the shift
tables in the silicon and does not print them (R168, log entry 79). -/
opaque Config.ldpcEntry : Nat → Nat → Nat → Nat

/-- Which base rows hold the three entries of the first parity block column (R168, log entry 79). -/
opaque Config.heavyRow : Nat → Nat → Nat

/-- Decisions of a codeword after some iterations of layered normalised min-sum decoding, as a word: rate code, channel
LLRs, iterations. The spec gives neither the normalisation nor the order of the layers (R174, log entry 79). -/
opaque Config.decoded : Nat → List Int → Nat → Nat

/-- The channel's hard decision on an erasure, by position (R174, R178, log entry 79). -/
opaque Config.erasedBit : Nat → Bool

/-- Frame-stream bits that the information bits of a codeword carry, as a number, the first most significant: rate code,
entropy codes, information bits. The spec does not give the shaping (T6, R582, log entry 79). -/
opaque Config.unshaped : Nat → List Nat → Nat → Nat

/-- The usage mask of a key slot admits a master (R297): slot, Source code of R40. The spec gives no mask
(log entry 8). -/
opaque Config.slotAdmits : Nat → Nat → Bool

/-- The octet that a request reads at an address beyond the 384 MiB of SRAM (log entry 11). -/
opaque Config.absentOctet : Nat → Byte

/-- What a requester meets in the place of an octet of a poisoned word, which it never receives as data (R474). -/
opaque Config.poisonedOctet : Nat → Byte

/-- An SRAM address lies in the cipher key store of CIP (R297). The spec gives no address (log entry 8). -/
opaque Config.inKeyStore : Nat → Bool

/-! Numbers of the primitives in `Config.prim` and `Config.verdict`. -/

/-- XTS-AES-256 encryption (IEEE 1619, R6). -/
abbrev Config.xtsEnc : Nat := 1
/-- XTS-AES-256 decryption. -/
abbrev Config.xtsDec : Nat := 2
/-- AES-256-GCM encryption, ciphertext then 16-octet tag (SP 800-38D, R6). -/
abbrev Config.gcmEnc : Nat := 3
/-- AES-256-GCM decryption. -/
abbrev Config.gcmDec : Nat := 4
/-- KMAC256 (SP 800-185, R6). -/
abbrev Config.kmac : Nat := 5
/-- SHAKE256 (FIPS 202, R6). -/
abbrev Config.shake : Nat := 6
/-- Falcon-1024 signature generation (R6). -/
abbrev Config.falconSign : Nat := 7
/-- Falcon-1024 verification, a verdict. -/
abbrev Config.falconVerify : Nat := 8
/-- ML-KEM-1024 key generation, encapsulation key (FIPS 203, R6). -/
abbrev Config.kemPublic : Nat := 9
/-- ML-KEM-1024 key generation, decapsulation key. -/
abbrev Config.kemPrivate : Nat := 10
/-- ML-KEM-1024 encapsulation, ciphertext. -/
abbrev Config.kemCipher : Nat := 11
/-- ML-KEM-1024 encapsulation, shared secret. -/
abbrev Config.kemSecret : Nat := 12
/-- ML-KEM-1024 decapsulation, shared secret. -/
abbrev Config.kemDecap : Nat := 13

/-- SHAKE256 digest of `len` octets over octets. -/
def Config.shake256 (len : Nat) (data : List Byte) : List Byte :=
  fit len (Config.prim Config.shake [be 4 len, data])

/-- KMAC256 of `len` octets under a key, over data, with a customisation string. -/
def Config.kmac256 (len : Nat) (key data custom : List Byte) : List Byte :=
  fit len (Config.prim Config.kmac [be 4 len, key, data, custom])

end Sys2Proof
end

