-- ==== Sys2Proof/Machine/Obj.lean ====
section
/-! DEFINITION. The numbers of the objects of the object dictionary (R9), under the spec's own names. An object with
an instance per carrier, lane quad or decoder bank carries its first instance's number; the others lie 0100h apart.
The docstring gives the rule whose table lists the object. -/

namespace Sys2Proof

/-- `AopPort (1001h.00)`, R520. -/
abbrev Obj.aopPort : Nat := 0x1001
/-- `MgAddress (1002h.00 to .01)`, R520. -/
abbrev Obj.mgAddress : Nat := 0x1002
/-- `SessionIdle (1003h.00)`, R520. -/
abbrev Obj.sessionIdle : Nat := 0x1003
/-- `SessionInfo (1004h.00 to .31)`, R520. -/
abbrev Obj.sessionInfo : Nat := 0x1004
/-- `SessionClose (1005h.00)`, R520. -/
abbrev Obj.sessionClose : Nat := 0x1005
/-- `RoleGrant (1006h.00 to .31)`, R520. -/
abbrev Obj.roleGrant : Nat := 0x1006
/-- `ViolationLog (1010h.00 to .255)`, R520. -/
abbrev Obj.violationLog : Nat := 0x1010
/-- `ViolationNext (1011h.00)`, R520. -/
abbrev Obj.violationNext : Nat := 0x1011
/-- `ViolationCount (1012h.00)`, R520. -/
abbrev Obj.violationCount : Nat := 0x1012
/-- `DictSave (1020h.00)`, R520. -/
abbrev Obj.dictSave : Nat := 0x1020
/-- `DictRestore (1021h.00)`, R520. -/
abbrev Obj.dictRestore : Nat := 0x1021
/-- `DictFactory (1022h.00)`, R520. -/
abbrev Obj.dictFactory : Nat := 0x1022
/-- `DictImageState (1023h.00)`, R520. -/
abbrev Obj.dictImageState : Nat := 0x1023
/-- `LastDictSave (1024h.00)`, R520. -/
abbrev Obj.lastDictSave : Nat := 0x1024
/-- `NotifyDropCount (1025h.00)`, R520. -/
abbrev Obj.notifyDropCount : Nat := 0x1025
/-- `UartFrameErrors (1026h.00)`, R520. -/
abbrev Obj.uartFrameErrors : Nat := 0x1026
/-- `DeviceAddress (1040h.00)`, R558. -/
abbrev Obj.deviceAddress : Nat := 0x1040
/-- `DomainRole (1041h.00)`, R558. -/
abbrev Obj.domainRole : Nat := 0x1041
/-- `SiteLeadAddress (1042h.00)`, R558. -/
abbrev Obj.siteLeadAddress : Nat := 0x1042
/-- `RegistrarAddress (1043h.00)`, R558. -/
abbrev Obj.registrarAddress : Nat := 0x1043
/-- `DomainGroup (1044h.00)`, R558. -/
abbrev Obj.domainGroup : Nat := 0x1044
/-- `DomainPort (1045h.00)`, R558. -/
abbrev Obj.domainPort : Nat := 0x1045
/-- `SettleTime (1046h.00)`, R558. -/
abbrev Obj.settleTime : Nat := 0x1046
/-- `GroupBackoff (1047h.00)`, R558. -/
abbrev Obj.groupBackoff : Nat := 0x1047
/-- `SiteBackoff (1048h.00)`, R558. -/
abbrev Obj.siteBackoff : Nat := 0x1048
/-- `AckTimeout (1049h.00)`, R558. -/
abbrev Obj.ackTimeout : Nat := 0x1049
/-- `RollAttempts (104Ah.00)`, R558. -/
abbrev Obj.rollAttempts : Nat := 0x104A
/-- `RollTime (104Bh.00)`, R558. -/
abbrev Obj.rollTime : Nat := 0x104B
/-- `DomainRollMasks (1050h.00 to .255)`, R558. -/
abbrev Obj.domainRollMasks : Nat := 0x1050
/-- `DomainSerials (1051h.00 to .255)`, R558. -/
abbrev Obj.domainSerials : Nat := 0x1051
/-- `ImageWrite (1060h.00)`, R558. -/
abbrev Obj.imageWrite : Nat := 0x1060
/-- `ImageCommit (1061h.00)`, R558. -/
abbrev Obj.imageCommit : Nat := 0x1061
/-- `ImageActivate (1062h.01 to .06)`, R558. -/
abbrev Obj.imageActivate : Nat := 0x1062
/-- `ImageActive (1063h.01 to .06)`, R558. -/
abbrev Obj.imageActive : Nat := 0x1063
/-- `ImageProbation (1064h.00)`, R558. -/
abbrev Obj.imageProbation : Nat := 0x1064
/-- `ImageProgress (1065h.01 to .06)`, R558. -/
abbrev Obj.imageProgress : Nat := 0x1065
/-- `CaseTemp (1070h.00)`, R579. -/
abbrev Obj.caseTemp : Nat := 0x1070
/-- `CaseWarn (1071h.00)`, R579. -/
abbrev Obj.caseWarn : Nat := 0x1071
/-- `ThermalState (1072h.00)`, R579. -/
abbrev Obj.thermalState : Nat := 0x1072
/-- `AlertMask (1073h.00)`, R579. -/
abbrev Obj.alertMask : Nat := 0x1073
/-- `AlertAck (1074h.00)`, R579. -/
abbrev Obj.alertAck : Nat := 0x1074
/-- `AlertState (1075h.00)`, R579. -/
abbrev Obj.alertState : Nat := 0x1075
/-- `TripCount (1076h.00)`, R579. -/
abbrev Obj.tripCount : Nat := 0x1076
/-- `TxLatency (1141h.00, 1241h.00)`, R27. -/
abbrev Obj.txLatency : Nat := 0x1141
/-- `RxLatency (1142h.00, 1242h.00)`, R27. -/
abbrev Obj.rxLatency : Nat := 0x1142
/-- `Ceiling (2001h.00)`, R469. -/
abbrev Obj.ceiling : Nat := 0x2001
/-- `LedgerTotal (2002h.00)`, R469. -/
abbrev Obj.ledgerTotal : Nat := 0x2002
/-- `MeasuredPower (2003h.00)`, R469. -/
abbrev Obj.measuredPower : Nat := 0x2003
/-- `DriftTerm (2004h.00)`, R469. -/
abbrev Obj.driftTerm : Nat := 0x2004
/-- `Headroom (2005h.00)`, R469. -/
abbrev Obj.headroom : Nat := 0x2005
/-- `InputVoltage (2006h.00)`, R469. -/
abbrev Obj.inputVoltage : Nat := 0x2006
/-- `InputCurrent (2007h.00)`, R469. -/
abbrev Obj.inputCurrent : Nat := 0x2007
/-- `PeakPower (2008h.00)`, R469. -/
abbrev Obj.peakPower : Nat := 0x2008
/-- `ShedOrder (2010h.00 to .07)`, R469. -/
abbrev Obj.shedOrder : Nat := 0x2010
/-- `ShedMargin (2011h.00)`, R469. -/
abbrev Obj.shedMargin : Nat := 0x2011
/-- `ShedHold (2012h.00)`, R469. -/
abbrev Obj.shedHold : Nat := 0x2012
/-- `ShedState (2013h.00)`, R469. -/
abbrev Obj.shedState : Nat := 0x2013
/-- `LedgerByActivity (2020h.00 to .11)`, R469. -/
abbrev Obj.ledgerByActivity : Nat := 0x2020
/-- `RefuseCount (2021h.00 to .11)`, R469. -/
abbrev Obj.refuseCount : Nat := 0x2021
/-- `ShedCount (2022h.00 to .08)`, R469. -/
abbrev Obj.shedCount : Nat := 0x2022
/-- `KeepAlive (2040h.00)`, R469. -/
abbrev Obj.keepAlive : Nat := 0x2040
/-- `KeepAliveMgt (2041h.00)`, R469. -/
abbrev Obj.keepAliveMgt : Nat := 0x2041
/-- `KeepAliveWake (2042h.00)`, R469. -/
abbrev Obj.keepAliveWake : Nat := 0x2042
/-- `RegulatorMode (2043h.00)`, R469. -/
abbrev Obj.regulatorMode : Nat := 0x2043
/-- `ResetCause (2044h.00)`, R469. -/
abbrev Obj.resetCause : Nat := 0x2044
/-- `BrownOutCount (2045h.00)`, R469. -/
abbrev Obj.brownOutCount : Nat := 0x2045
/-- `DomainState (2701h.01 to .24)`, R469. -/
abbrev Obj.domainState : Nat := 0x2701
/-- `IdleTimer (2702h.01 to .24)`, R469. -/
abbrev Obj.idleTimer : Nat := 0x2702
/-- `WakeLatency (2703h.01 to .24)`, R469. -/
abbrev Obj.wakeLatency : Nat := 0x2703
/-- `DomainHold (2704h.01 to .24)`, R469. -/
abbrev Obj.domainHold : Nat := 0x2704
/-- `SleepRefusals (2705h.01 to .24)`, R469. -/
abbrev Obj.sleepRefusals : Nat := 0x2705
/-- `WakeCount (2706h.01 to .24)`, R469. -/
abbrev Obj.wakeCount : Nat := 0x2706
/-- `DomainCost (2707h.01 to .24)`, R469. -/
abbrev Obj.domainCost : Nat := 0x2707
/-- `FreqRefSelected (3001h.00)`, R352. -/
abbrev Obj.freqRefSelected : Nat := 0x3001
/-- `TimeRefSelected (3002h.00)`, R352. -/
abbrev Obj.timeRefSelected : Nat := 0x3002
/-- `BelState (3003h.00)`, R352. -/
abbrev Obj.belState : Nat := 0x3003
/-- `LoopBandwidth (3004h.00 to .01)`, R352. -/
abbrev Obj.loopBandwidth : Nat := 0x3004
/-- `HoldoverValid (3005h.00)`, R352. -/
abbrev Obj.holdoverValid : Nat := 0x3005
/-- `HoldoverFreq (3006h.00)`, R352. -/
abbrev Obj.holdoverFreq : Nat := 0x3006
/-- `HoldOff (3008h.00)`, R352. -/
abbrev Obj.holdOff : Nat := 0x3008
/-- `WaitToRestore (3009h.00)`, R352. -/
abbrev Obj.waitToRestore : Nat := 0x3009
/-- `RankMateThreshold (300Ah.00)`, R352. -/
abbrev Obj.rankMateThreshold : Nat := 0x300A
/-- `QlEnable (300Bh.00)`, R352. -/
abbrev Obj.qlEnable : Nat := 0x300B
/-- `QlMinimum (300Ch.00)`, R352. -/
abbrev Obj.qlMinimum : Nat := 0x300C
/-- `MaxHops (300Dh.00)`, R352. -/
abbrev Obj.maxHops : Nat := 0x300D
/-- `OscClass (300Eh.00)`, R352. -/
abbrev Obj.oscClass : Nat := 0x300E
/-- `OscFreq (300Fh.00)`, R352. -/
abbrev Obj.oscFreq : Nat := 0x300F
/-- `BwFrequency (3010h.00)`, R352. -/
abbrev Obj.bwFrequency : Nat := 0x3010
/-- `BwLine (3011h.00)`, R352. -/
abbrev Obj.bwLine : Nat := 0x3011
/-- `BwPps (3012h.00)`, R352. -/
abbrev Obj.bwPps : Nat := 0x3012
/-- `ForceRef (3013h.00 to .01)`, R352. -/
abbrev Obj.forceRef : Nat := 0x3013
/-- `RefTable (3020h.00 to .15)`, R352. -/
abbrev Obj.refTable : Nat := 0x3020
/-- `SwitchCount (3030h.00 to .01)`, R352. -/
abbrev Obj.switchCount : Nat := 0x3030
/-- `PpsOutAlign (3040h.00 to .01)`, R352. -/
abbrev Obj.ppsOutAlign : Nat := 0x3040
/-- `PpsOutOffset (3041h.00 to .01)`, R352. -/
abbrev Obj.ppsOutOffset : Nat := 0x3041
/-- `PpsOutWidth (3042h.00 to .01)`, R352. -/
abbrev Obj.ppsOutWidth : Nat := 0x3042
/-- `SfOutAlign (3043h.00)`, R352. -/
abbrev Obj.sfOutAlign : Nat := 0x3043
/-- `SfOutOffset (3044h.00)`, R352. -/
abbrev Obj.sfOutOffset : Nat := 0x3044
/-- `ClkOutFreq (3045h.00 to .03)`, R352. -/
abbrev Obj.clkOutFreq : Nat := 0x3045
/-- `ClkOutSquelch (3046h.00 to .03)`, R352. -/
abbrev Obj.clkOutSquelch : Nat := 0x3046
/-- `PpsOutSquelch (3047h.00 to .01)`, R352. -/
abbrev Obj.ppsOutSquelch : Nat := 0x3047
/-- `LineTimeOffset (3101h.00, 3201h.00)`, R352. -/
abbrev Obj.lineTimeOffset : Nat := 0x3101
/-- `Asymmetry (3102h.00, 3202h.00)`, R352. -/
abbrev Obj.asymmetry : Nat := 0x3102
/-- `AsymmetryState (3103h.00, 3203h.00)`, R352. -/
abbrev Obj.asymmetryState : Nat := 0x3103
/-- `AsymmetryUncertainty (3104h.00, 3204h.00)`, R352. -/
abbrev Obj.asymmetryUncertainty : Nat := 0x3104
/-- `PathDelayIn (3105h.00, 3205h.00)`, R352. -/
abbrev Obj.pathDelayIn : Nat := 0x3105
/-- `PathDelayOut (3106h.00, 3206h.00)`, R352. -/
abbrev Obj.pathDelayOut : Nat := 0x3106
/-- `FibreMode (3107h.00, 3207h.00)`, R352. -/
abbrev Obj.fibreMode : Nat := 0x3107
/-- `ExtDelayTx (3108h.00, 3208h.00)`, R352. -/
abbrev Obj.extDelayTx : Nat := 0x3108
/-- `ExtDelayRx (3109h.00, 3209h.00)`, R352. -/
abbrev Obj.extDelayRx : Nat := 0x3109
/-- `StaticAsymmetry (310Ah.00, 320Ah.00)`, R352. -/
abbrev Obj.staticAsymmetry : Nat := 0x310A
/-- `StaticAsymmetryUnc (310Bh.00, 320Bh.00)`, R352. -/
abbrev Obj.staticAsymmetryUnc : Nat := 0x310B
/-- `LineAdvert (3110h.00, 3210h.00)`, R352. -/
abbrev Obj.lineAdvert : Nat := 0x3110
/-- `FarAdvert (3111h.00, 3211h.00)`, R352. -/
abbrev Obj.farAdvert : Nat := 0x3111
/-- `LinkTimeUncertainty (3112h.00, 3212h.00)`, R352. -/
abbrev Obj.linkTimeUncertainty : Nat := 0x3112
/-- `InputState (3701h.01 to .13)`, R352. -/
abbrev Obj.inputState : Nat := 0x3701
/-- `InputFailCause (3702h.01 to .13)`, R352. -/
abbrev Obj.inputFailCause : Nat := 0x3702
/-- `InputFreqOffset (3703h.01 to .13)`, R352. -/
abbrev Obj.inputFreqOffset : Nat := 0x3703
/-- `InputPhase (3704h.05 to .08)`, R352. -/
abbrev Obj.inputPhase : Nat := 0x3704
/-- `InputQl (3705h.01 to .13)`, R352. -/
abbrev Obj.inputQl : Nat := 0x3705
/-- `InputNominal (3706h.01 to .04)`, R352. -/
abbrev Obj.inputNominal : Nat := 0x3706
/-- `InputDelay (3707h.05 to .06)`, R352. -/
abbrev Obj.inputDelay : Nat := 0x3707
/-- `InputTimeUncertainty (3708h.05 to .06)`, R352. -/
abbrev Obj.inputTimeUncertainty : Nat := 0x3708
/-- `CalPointTemp (4001h.00 to .07)`, R445. -/
abbrev Obj.calPointTemp : Nat := 0x4001
/-- `CalSaveInterval (4002h.00)`, R445. -/
abbrev Obj.calSaveInterval : Nat := 0x4002
/-- `CalSave (4003h.00)`, R445. -/
abbrev Obj.calSave : Nat := 0x4003
/-- `CalLearnedClear (4004h.00)`, R445. -/
abbrev Obj.calLearnedClear : Nat := 0x4004
/-- `CalSetState (4005h.00)`, R445. -/
abbrev Obj.calSetState : Nat := 0x4005
/-- `PrivCalState (4006h.00 to .02)`, R445. -/
abbrev Obj.privCalState : Nat := 0x4006
/-- `PrivCalTime (4007h.00)`, R445. -/
abbrev Obj.privCalTime : Nat := 0x4007
/-- `LastCalSave (4008h.00)`, R445. -/
abbrev Obj.lastCalSave : Nat := 0x4008
/-- `CalSelect (4009h.00)`, R445. -/
abbrev Obj.calSelect : Nat := 0x4009
/-- `CalSelected (400Ah.00)`, R445. -/
abbrev Obj.calSelected : Nat := 0x400A
/-- `RotationEnable (4101h.00, 4201h.00)`, R98. -/
abbrev Obj.rotationEnable : Nat := 0x4101
/-- `RotationState (4102h.00, 4202h.00)`, R98. -/
abbrev Obj.rotationState : Nat := 0x4102
/-- `SwapCount (4103h.00, 4203h.00)`, R98. -/
abbrev Obj.swapCount : Nat := 0x4103
/-- `TrimDeferCount (4104h.00, 4204h.00)`, R98. -/
abbrev Obj.trimDeferCount : Nat := 0x4104
/-- `TrimFailCount (4105h.00, 4205h.00)`, R98. -/
abbrev Obj.trimFailCount : Nat := 0x4105
/-- `SwapCancelCount (4106h.00, 4206h.00)`, R98. -/
abbrev Obj.swapCancelCount : Nat := 0x4106
/-- `PhaseMap (4110h to 4113h, 4210h to 4213h; members 00 to 63)`, R98. -/
abbrev Obj.phaseMapAdc : Nat := 0x4110
/-- `PhaseMap (4118h to 411Bh, 4218h to 421Bh; members 00 to 31)`, R98. -/
abbrev Obj.phaseMapDac : Nat := 0x4118
/-- `SliceState (4120h to 4123h, 4220h to 4223h; members 00 to 67)`, R98. -/
abbrev Obj.sliceStateAdc : Nat := 0x4120
/-- `SliceState (4128h to 412Bh, 4228h to 422Bh; members 00 to 33)`, R98. -/
abbrev Obj.sliceStateDac : Nat := 0x4128
/-- `SliceTrim (4130h to 4133h, 4230h to 4233h; members 00 to 67)`, R98. -/
abbrev Obj.sliceTrimAdc : Nat := 0x4130
/-- `SliceTrim (4138h to 413Bh, 4238h to 423Bh; members 00 to 33)`, R98. -/
abbrev Obj.sliceTrimDac : Nat := 0x4138
/-- `SliceRetire (4140h.00, 4240h.00)`, R98. -/
abbrev Obj.sliceRetire : Nat := 0x4140
/-- `SliceRestore (4141h.00, 4241h.00)`, R98. -/
abbrev Obj.sliceRestore : Nat := 0x4141
/-- `ConverterHealth (4142h.00 to .07, 4242h.00 to .07)`, R98. -/
abbrev Obj.converterHealth : Nat := 0x4142
/-- `InterleaveSpur (4143h.00 to .03, 4243h.00 to .03)`, R98. -/
abbrev Obj.interleaveSpur : Nat := 0x4143
/-- `ClipCount (4150h.00 to .07, 4250h.00 to .07)`, R98. -/
abbrev Obj.clipCount : Nat := 0x4150
/-- `ClipRatio (4151h.00 to .07, 4251h.00 to .07)`, R98. -/
abbrev Obj.clipRatio : Nat := 0x4151
/-- `AdcClipAlarm (4152h.00, 4252h.00)`, R98. -/
abbrev Obj.adcClipAlarm : Nat := 0x4152
/-- `DacClipAlarm (4153h.00, 4253h.00)`, R98. -/
abbrev Obj.dacClipAlarm : Nat := 0x4153
/-- `AdcTargetRms (4154h.00, 4254h.00)`, R98. -/
abbrev Obj.adcTargetRms : Nat := 0x4154
/-- `AdcGain (4155h.00 to .03, 4255h.00 to .03)`, R98. -/
abbrev Obj.adcGain : Nat := 0x4155
/-- `DacBackoff (4156h.00, 4256h.00)`, R98. -/
abbrev Obj.dacBackoff : Nat := 0x4156
/-- `TrimTempStep (4160h.00, 4260h.00)`, R445. -/
abbrev Obj.trimTempStep : Nat := 0x4160
/-- `TrimAgeLimit (4161h.00, 4261h.00)`, R445. -/
abbrev Obj.trimAgeLimit : Nat := 0x4161
/-- `CalReloadStep (4162h.00, 4262h.00)`, R445. -/
abbrev Obj.calReloadStep : Nat := 0x4162
/-- `CalReload (4163h.00, 4263h.00)`, R445. -/
abbrev Obj.calReload : Nat := 0x4163
/-- `CalPoint (4170h.00 to .07, 4270h.00 to .07)`, R445. -/
abbrev Obj.calPoint : Nat := 0x4170
/-- `ClientClass (5040h.00 to .63)`, R165. -/
abbrev Obj.clientClass : Nat := 0x5040
/-- `ShedRank (5041h.00 to .63)`, R165. -/
abbrev Obj.shedRank : Nat := 0x5041
/-- `LockState (5101h.00, 5201h.00)`, R130. -/
abbrev Obj.lockState : Nat := 0x5101
/-- `LockLossCount (5102h.00, 5202h.00)`, R130. -/
abbrev Obj.lockLossCount : Nat := 0x5102
/-- `SignalFailCount (5103h.00, 5203h.00)`, R130. -/
abbrev Obj.signalFailCount : Nat := 0x5103
/-- `AcqTimeLast (5104h.00, 5204h.00)`, R130. -/
abbrev Obj.acqTimeLast : Nat := 0x5104
/-- `CdSearchMin (5108h.00, 5208h.00)`, R130. -/
abbrev Obj.cdSearchMin : Nat := 0x5108
/-- `CdSearchMax (5109h.00, 5209h.00)`, R130. -/
abbrev Obj.cdSearchMax : Nat := 0x5109
/-- `CdLimit (510Ah.00, 520Ah.00)`, R130. -/
abbrev Obj.cdLimit : Nat := 0x510A
/-- `CdEstimate (5110h.00, 5210h.00)`, R130. -/
abbrev Obj.cdEstimate : Nat := 0x5110
/-- `CdUncertainty (5111h.00, 5211h.00)`, R130. -/
abbrev Obj.cdUncertainty : Nat := 0x5111
/-- `CdRecord (5112h.00, 5212h.00)`, R130. -/
abbrev Obj.cdRecord : Nat := 0x5112
/-- `CdStatic (5113h.00, 5213h.00)`, R130. -/
abbrev Obj.cdStatic : Nat := 0x5113
/-- `DgdEstimate (5114h.00, 5214h.00)`, R130. -/
abbrev Obj.dgdEstimate : Nat := 0x5114
/-- `PdlEstimate (5115h.00, 5215h.00)`, R130. -/
abbrev Obj.pdlEstimate : Nat := 0x5115
/-- `SopRate (5116h.00, 5216h.00)`, R130. -/
abbrev Obj.sopRate : Nat := 0x5116
/-- `SopRateMax (5117h.00, 5217h.00)`, R130. -/
abbrev Obj.sopRateMax : Nat := 0x5117
/-- `SopTransientCount (5118h.00, 5218h.00)`, R130. -/
abbrev Obj.sopTransientCount : Nat := 0x5118
/-- `FreqOffset (5119h.00, 5219h.00)`, R130. -/
abbrev Obj.freqOffset : Nat := 0x5119
/-- `RxCarrierFreq (511Ah.00, 521Ah.00)`, R130. -/
abbrev Obj.rxCarrierFreq : Nat := 0x511A
/-- `Linewidth (511Bh.00, 521Bh.00)`, R130. -/
abbrev Obj.linewidth : Nat := 0x511B
/-- `CycleSlipCount (511Ch.00, 521Ch.00)`, R130. -/
abbrev Obj.cycleSlipCount : Nat := 0x511C
/-- `CarrierSnr (511Dh.00, 521Dh.00)`, R130. -/
abbrev Obj.carrierSnr : Nat := 0x511D
/-- `IqSkew (511Eh.00 to .01, 521Eh.00 to .01)`, R130. -/
abbrev Obj.iqSkew : Nat := 0x511E
/-- `IqGain (511Fh.00 to .01, 521Fh.00 to .01)`, R130. -/
abbrev Obj.iqGain : Nat := 0x511F
/-- `IqPhase (5120h.00 to .01, 5220h.00 to .01)`, R130. -/
abbrev Obj.iqPhase : Nat := 0x5120
/-- `LineClockOffset (5121h.00, 5221h.00)`, R130. -/
abbrev Obj.lineClockOffset : Nat := 0x5121
/-- `LoSteerEnable (5122h.00, 5222h.00)`, R130. -/
abbrev Obj.loSteerEnable : Nat := 0x5122
/-- `LoSteerTotal (5123h.00, 5223h.00)`, R130. -/
abbrev Obj.loSteerTotal : Nat := 0x5123
/-- `SfThreshold (5124h.00, 5224h.00)`, R130. -/
abbrev Obj.sfThreshold : Nat := 0x5124
/-- `EqPartialCount (5125h.00, 5225h.00)`, R130. -/
abbrev Obj.eqPartialCount : Nat := 0x5125
/-- `LoFrequency (5126h.00, 5226h.00)`, R130. -/
abbrev Obj.loFrequency : Nat := 0x5126
/-- `SubcarrierCount (5140h.00, 5240h.00)`, R165. -/
abbrev Obj.subcarrierCount : Nat := 0x5140
/-- `LoadingMode (5141h.00, 5241h.00)`, R165. -/
abbrev Obj.loadingMode : Nat := 0x5141
/-- `RxCodeRate (5142h.00, 5242h.00)`, R165. -/
abbrev Obj.rxCodeRate : Nat := 0x5142
/-- `CarrierEntropy (5143h.00 to .15, 5243h.00 to .15)`, R165. -/
abbrev Obj.carrierEntropy : Nat := 0x5143
/-- `RxLoadingWord (5144h.00 to .15, 5244h.00 to .15)`, R165. -/
abbrev Obj.rxLoadingWord : Nat := 0x5144
/-- `TxLoadingWord (5145h.00 to .15, 5245h.00 to .15)`, R165. -/
abbrev Obj.txLoadingWord : Nat := 0x5145
/-- `TxCodeRate (5146h.00, 5246h.00)`, R165. -/
abbrev Obj.txCodeRate : Nat := 0x5146
/-- `RxPlotCapacity (5147h.00, 5247h.00)`, R165. -/
abbrev Obj.rxPlotCapacity : Nat := 0x5147
/-- `TxPlotCapacity (5148h.00, 5248h.00)`, R165. -/
abbrev Obj.txPlotCapacity : Nat := 0x5148
/-- `RxGeneration (5149h.00, 5249h.00)`, R165. -/
abbrev Obj.rxGeneration : Nat := 0x5149
/-- `TxGeneration (514Ah.00, 524Ah.00)`, R165. -/
abbrev Obj.txGeneration : Nat := 0x514A
/-- `PolicyCodeRate (514Bh.00, 524Bh.00)`, R165. -/
abbrev Obj.policyCodeRate : Nat := 0x514B
/-- `MarginTarget (514Ch.00, 524Ch.00)`, R165. -/
abbrev Obj.marginTarget : Nat := 0x514C
/-- `DropBand (514Dh.00, 524Dh.00)`, R165. -/
abbrev Obj.dropBand : Nat := 0x514D
/-- `RaiseBand (514Eh.00, 524Eh.00)`, R165. -/
abbrev Obj.raiseBand : Nat := 0x514E
/-- `RaiseHold (514Fh.00, 524Fh.00)`, R165. -/
abbrev Obj.raiseHold : Nat := 0x514F
/-- `MarginAlarm (5150h.00, 5250h.00)`, R165. -/
abbrev Obj.marginAlarm : Nat := 0x5150
/-- `MarginAlarmState (5151h.00, 5251h.00)`, R165. -/
abbrev Obj.marginAlarmState : Nat := 0x5151
/-- `PlotCeiling (5152h.00, 5252h.00)`, R165. -/
abbrev Obj.plotCeiling : Nat := 0x5152
/-- `LoadingCeiling (5153h.00 to .15, 5253h.00 to .15)`, R165. -/
abbrev Obj.loadingCeiling : Nat := 0x5153
/-- `LoadingFloor (5154h.00 to .15, 5254h.00 to .15)`, R165. -/
abbrev Obj.loadingFloor : Nat := 0x5154
/-- `TxLoadingCap (5155h.00 to .15, 5255h.00 to .15)`, R165. -/
abbrev Obj.txLoadingCap : Nat := 0x5155
/-- `LoadingRequest (5156h.00, 5256h.00)`, R165. -/
abbrev Obj.loadingRequest : Nat := 0x5156
/-- `SymbolRate (5157h.00, 5257h.00)`, R165. -/
abbrev Obj.symbolRate : Nat := 0x5157
/-- `SubcarrierSnr (5160h.00 to .15, 5260h.00 to .15)`, R165. -/
abbrev Obj.subcarrierSnr : Nat := 0x5160
/-- `SubcarrierSnrSlow (5161h.00 to .15, 5261h.00 to .15)`, R165. -/
abbrev Obj.subcarrierSnrSlow : Nat := 0x5161
/-- `SubcarrierMargin (5162h.00 to .15, 5262h.00 to .15)`, R165. -/
abbrev Obj.subcarrierMargin : Nat := 0x5162
/-- `LoadingGap (5163h.00 to .08, 5263h.00 to .08)`, R165. -/
abbrev Obj.loadingGap : Nat := 0x5163
/-- `IterationGap (5164h.00, 5264h.00)`, R165. -/
abbrev Obj.iterationGap : Nat := 0x5164
/-- `ProposalCount (5170h.00, 5270h.00)`, R165. -/
abbrev Obj.proposalCount : Nat := 0x5170
/-- `RefusalCount (5171h.00, 5271h.00)`, R165. -/
abbrev Obj.refusalCount : Nat := 0x5171
/-- `NoReplyCount (5172h.00, 5272h.00)`, R165. -/
abbrev Obj.noReplyCount : Nat := 0x5172
/-- `ChangeCount (5173h.00, 5273h.00)`, R165. -/
abbrev Obj.changeCount : Nat := 0x5173
/-- `MismatchCount (5174h.00, 5274h.00)`, R165. -/
abbrev Obj.mismatchCount : Nat := 0x5174
/-- `ClientLoadState (5180h.00 to .63, 5280h.00 to .63)`, R165. -/
abbrev Obj.clientLoadState : Nat := 0x5180
/-- `ShedCount (5181h.00, 5281h.00)`, R165. -/
abbrev Obj.loadShedCount : Nat := 0x5181
/-- `ResidencyBudget (6001h.00)`, R196. -/
abbrev Obj.residencyBudget : Nat := 0x6001
/-- `IterMax (6002h.00)`, R196. -/
abbrev Obj.iterMax : Nat := 0x6002
/-- `IterFloor (6003h.00)`, R196. -/
abbrev Obj.iterFloor : Nat := 0x6003
/-- `IterBudgetSf (6004h.00)`, R196. -/
abbrev Obj.iterBudgetSf : Nat := 0x6004
/-- `IterCap (6005h.00)`, R196. -/
abbrev Obj.iterCap : Nat := 0x6005
/-- `GrantedMean (6006h.00)`, R196. -/
abbrev Obj.grantedMean : Nat := 0x6006
/-- `SlotsInUse (6007h.00)`, R196. -/
abbrev Obj.slotsInUse : Nat := 0x6007
/-- `SlotsPeak (6008h.00)`, R196. -/
abbrev Obj.slotsPeak : Nat := 0x6008
/-- `ActiveBanks (6009h.00)`, R196. -/
abbrev Obj.activeBanks : Nat := 0x6009
/-- `OverflowCount (600Ah.00)`, R196. -/
abbrev Obj.overflowCount : Nat := 0x600A
/-- `MeanIterations (600Bh.00)`, R196. -/
abbrev Obj.meanIterations : Nat := 0x600B
/-- `IterHistogram (600Ch.00 to .32)`, R196. -/
abbrev Obj.iterHistogram : Nat := 0x600C
/-- `LdpcExponents (6020h.00 to .02)`, R196. -/
abbrev Obj.ldpcExponents : Nat := 0x6020
/-- `LdpcDigest (6021h.00 to .02)`, R196. -/
abbrev Obj.ldpcDigest : Nat := 0x6021
/-- `CodewordsPerSf (6101h.00, 6201h.00)`, R196. -/
abbrev Obj.codewordsPerSf : Nat := 0x6101
/-- `PadBits (6102h.00, 6202h.00)`, R196. -/
abbrev Obj.padBits : Nat := 0x6102
/-- `DecodedCount (6103h.00, 6203h.00)`, R196. -/
abbrev Obj.decodedCount : Nat := 0x6103
/-- `UncorrectedCount (6104h.00, 6204h.00)`, R196. -/
abbrev Obj.uncorrectedCount : Nat := 0x6104
/-- `CorrectedBits (6105h.00, 6205h.00)`, R196. -/
abbrev Obj.correctedBits : Nat := 0x6105
/-- `PreFecBer (6106h.00, 6206h.00)`, R196. -/
abbrev Obj.preFecBer : Nat := 0x6106
/-- `UncorrectedRatio (6107h.00, 6207h.00)`, R196. -/
abbrev Obj.uncorrectedRatio : Nat := 0x6107
/-- `UncorrectedAlarm (6108h.00, 6208h.00)`, R196. -/
abbrev Obj.uncorrectedAlarm : Nat := 0x6108
/-- `ErasedCount (6109h.00, 6209h.00)`, R196. -/
abbrev Obj.erasedCount : Nat := 0x6109
/-- `ParityErasureCount (610Ah.00, 620Ah.00)`, R196. -/
abbrev Obj.parityErasureCount : Nat := 0x610A
/-- `BudgetDiscardCount (610Bh.00, 620Bh.00)`, R196. -/
abbrev Obj.budgetDiscardCount : Nat := 0x610B
/-- `BankService (6701h.00 to 6A01h.00)`, R196. -/
abbrev Obj.bankService : Nat := 0x6701
/-- `BankState (6702h.00 to 6A02h.00)`, R196. -/
abbrev Obj.bankState : Nat := 0x6702
/-- `BankSlotsInUse (6703h.00 to 6A03h.00)`, R196. -/
abbrev Obj.bankSlotsInUse : Nat := 0x6703
/-- `BankIterations (6704h.00 to 6A04h.00)`, R196. -/
abbrev Obj.bankIterations : Nat := 0x6704
/-- `BankParityErrors (6705h.00 to 6A05h.00)`, R196. -/
abbrev Obj.bankParityErrors : Nat := 0x6705
/-- `ClientRate (7040h.00 to .63)`, R232. -/
abbrev Obj.clientRate : Nat := 0x7040
/-- `ClientCarrier (7041h.00 to .63)`, R232. -/
abbrev Obj.clientCarrier : Nat := 0x7041
/-- `ClientLanes (7042h.00 to .63)`, R255. -/
abbrev Obj.clientLanes : Nat := 0x7042
/-- `ClientLaneState (7043h.00 to .63)`, R255. -/
abbrev Obj.clientLaneState : Nat := 0x7043
/-- `ClientFecUncorrected (7044h.00 to .63)`, R255. -/
abbrev Obj.clientFecUncorrected : Nat := 0x7044
/-- `ClientPpm (7045h.00 to .63)`, R255. -/
abbrev Obj.clientPpm : Nat := 0x7045
/-- `ClientDeleteCount (7046h.00 to .63)`, R255. -/
abbrev Obj.clientDeleteCount : Nat := 0x7046
/-- `ClientInsertCount (7047h.00 to .63)`, R255. -/
abbrev Obj.clientInsertCount : Nat := 0x7047
/-- `RateMatchDrops (7048h.00 to .63)`, R255. -/
abbrev Obj.rateMatchDrops : Nat := 0x7048
/-- `SyncLanes (7050h.00 to .03)`, R255. -/
abbrev Obj.syncLanes : Nat := 0x7050
/-- `LaneBerAlarm (7051h.00)`, R255. -/
abbrev Obj.laneBerAlarm : Nat := 0x7051
/-- `FrameLock (7101h.00, 7201h.00)`, R232. -/
abbrev Obj.frameLock : Nat := 0x7101
/-- `LofCount (7102h.00, 7202h.00)`, R232. -/
abbrev Obj.lofCount : Nat := 0x7102
/-- `CoreInvalidCount (7103h.00, 7203h.00)`, R232. -/
abbrev Obj.coreInvalidCount : Nat := 0x7103
/-- `RxMapGeneration (7104h.00, 7204h.00)`, R232. -/
abbrev Obj.rxMapGeneration : Nat := 0x7104
/-- `TxMapGeneration (7105h.00, 7205h.00)`, R232. -/
abbrev Obj.txMapGeneration : Nat := 0x7105
/-- `StuffBits (7106h.00, 7206h.00)`, R232. -/
abbrev Obj.stuffBits : Nat := 0x7106
/-- `MapMismatchCount (7107h.00, 7207h.00)`, R232. -/
abbrev Obj.mapMismatchCount : Nat := 0x7107
/-- `MocResendCount (7108h.00, 7208h.00)`, R232. -/
abbrev Obj.mocResendCount : Nat := 0x7108
/-- `MocErrorCount (7109h.00, 7209h.00)`, R232. -/
abbrev Obj.mocErrorCount : Nat := 0x7109
/-- `PtpEventCount (710Ah.00, 720Ah.00)`, R232. -/
abbrev Obj.ptpEventCount : Nat := 0x710A
/-- `PtpOverflowCount (710Bh.00, 720Bh.00)`, R232. -/
abbrev Obj.ptpOverflowCount : Nat := 0x710B
/-- `PtpUnmatchedCount (710Ch.00, 720Ch.00)`, R232. -/
abbrev Obj.ptpUnmatchedCount : Nat := 0x710C
/-- `RxOverheadCore (710Dh.00, 720Dh.00)`, R232. -/
abbrev Obj.rxOverheadCore : Nat := 0x710D
/-- `RemoteDefect (710Eh.00, 720Eh.00)`, R232. -/
abbrev Obj.remoteDefect : Nat := 0x710E
/-- `PlotOwner (7110h.00 to .129, 7210h.00 to .129)`, R232. -/
abbrev Obj.plotOwner : Nat := 0x7110
/-- `ClientSealDrops (7120h.00 to .63, 7220h.00 to .63)`, R232. -/
abbrev Obj.clientSealDrops : Nat := 0x7120
/-- `ClientBlockDrops (7121h.00 to .63, 7221h.00 to .63)`, R232. -/
abbrev Obj.clientBlockDrops : Nat := 0x7121
/-- `LaneRate (7301h.00 to .07)`, R255. -/
abbrev Obj.laneRate : Nat := 0x7301
/-- `LaneTxClock (7302h.00 to .07)`, R255. -/
abbrev Obj.laneTxClock : Nat := 0x7302
/-- `LanePolarity (7303h.00 to .07)`, R255. -/
abbrev Obj.lanePolarity : Nat := 0x7303
/-- `LaneTxFfe (7304h.00 to .07)`, R255. -/
abbrev Obj.laneTxFfe : Nat := 0x7304
/-- `LaneRxPinDelay (7305h.00 to .07)`, R255. -/
abbrev Obj.laneRxPinDelay : Nat := 0x7305
/-- `LaneTxPinDelay (7306h.00 to .07)`, R255. -/
abbrev Obj.laneTxPinDelay : Nat := 0x7306
/-- `LaneTest (7310h.00 to .07)`, R255. -/
abbrev Obj.laneTest : Nat := 0x7310
/-- `LanePattern (7311h.00 to .07)`, R255. -/
abbrev Obj.lanePattern : Nat := 0x7311
/-- `LaneInject (7312h.00 to .07)`, R255. -/
abbrev Obj.laneInject : Nat := 0x7312
/-- `LaneState (7320h.00 to .07)`, R255. -/
abbrev Obj.laneState : Nat := 0x7320
/-- `LaneCheckBits (7321h.00 to .07)`, R255. -/
abbrev Obj.laneCheckBits : Nat := 0x7321
/-- `LaneCheckErrors (7322h.00 to .07)`, R255. -/
abbrev Obj.laneCheckErrors : Nat := 0x7322
/-- `LaneSymbolErrors (7323h.00 to .07)`, R255. -/
abbrev Obj.laneSymbolErrors : Nat := 0x7323
/-- `LanePreFecBer (7324h.00 to .07)`, R255. -/
abbrev Obj.lanePreFecBer : Nat := 0x7324
/-- `LaneRxPpm (7325h.00 to .07)`, R255. -/
abbrev Obj.laneRxPpm : Nat := 0x7325
/-- `QuadRefState (73F0h.00)`, R255. -/
abbrev Obj.quadRefState : Nat := 0x73F0
/-- `RollInterval (8001h.00)`, R288. -/
abbrev Obj.rollInterval : Nat := 0x8001
/-- `CipherLedger (8002h.00)`, R288. -/
abbrev Obj.cipherLedger : Nat := 0x8002
/-- `ContextEnable (8040h.00 to .63)`, R288. -/
abbrev Obj.contextEnable : Nat := 0x8040
/-- `LinkIdentity (8101h.00, 8201h.00)`, R288. -/
abbrev Obj.linkIdentity : Nat := 0x8101
/-- `RootId (8102h.00, 8202h.00)`, R288. -/
abbrev Obj.rootId : Nat := 0x8102
/-- `ContextRoll (8110h.00, 8210h.00)`, R288. -/
abbrev Obj.contextRoll : Nat := 0x8110
/-- `TxContextState (8120h.00 to .64, 8220h.00 to .64)`, R288. -/
abbrev Obj.txContextState : Nat := 0x8120
/-- `RxContextState (8121h.00 to .64, 8221h.00 to .64)`, R288. -/
abbrev Obj.rxContextState : Nat := 0x8121
/-- `TxEpoch (8122h.00 to .64, 8222h.00 to .64)`, R288. -/
abbrev Obj.txEpoch : Nat := 0x8122
/-- `RxEpoch (8123h.00 to .64, 8223h.00 to .64)`, R288. -/
abbrev Obj.rxEpoch : Nat := 0x8123
/-- `TxCellCounter (8124h.00 to .64, 8224h.00 to .64)`, R288. -/
abbrev Obj.txCellCounter : Nat := 0x8124
/-- `RxCellCounter (8125h.00 to .64, 8225h.00 to .64)`, R288. -/
abbrev Obj.rxCellCounter : Nat := 0x8125
/-- `AuthFailCount (8126h.00 to .64, 8226h.00 to .64)`, R288. -/
abbrev Obj.authFailCount : Nat := 0x8126
/-- `InverseMismatchCount (8127h.00 to .64, 8227h.00 to .64)`, R288. -/
abbrev Obj.inverseMismatchCount : Nat := 0x8127
/-- `RollCount (8128h.00 to .64, 8228h.00 to .64)`, R288. -/
abbrev Obj.rollCount : Nat := 0x8128
/-- `RollCancelCount (8129h.00, 8229h.00)`, R288. -/
abbrev Obj.rollCancelCount : Nat := 0x8129
/-- `MaintenanceCount (812Ah.00 to .64, 822Ah.00 to .64)`, R288. -/
abbrev Obj.maintenanceCount : Nat := 0x812A
/-- `DesyncCount (812Bh.00 to .64, 822Bh.00 to .64)`, R288. -/
abbrev Obj.desyncCount : Nat := 0x812B
/-- `BootState (9001h.00)`, R322. -/
abbrev Obj.bootState : Nat := 0x9001
/-- `ImageStatus (9002h.00 to .11)`, R322. -/
abbrev Obj.imageStatus : Nat := 0x9002
/-- `RollbackFloor (9003h.01 to .06)`, R322. -/
abbrev Obj.rollbackFloor : Nat := 0x9003
/-- `OwnerKeyEnrol (9004h.00)`, R322. -/
abbrev Obj.ownerKeyEnrol : Nat := 0x9004
/-- `OwnerKeyDigest (9005h.00)`, R322. -/
abbrev Obj.ownerKeyDigest : Nat := 0x9005
/-- `DeviceSerial (9010h.00)`, R322. -/
abbrev Obj.deviceSerial : Nat := 0x9010
/-- `IdentityCert (9011h.00)`, R322. -/
abbrev Obj.identityCert : Nat := 0x9011
/-- `QuoteRequest (9020h.00)`, R322. -/
abbrev Obj.quoteRequest : Nat := 0x9020
/-- `QuoteResult (9021h.00)`, R322. -/
abbrev Obj.quoteResult : Nat := 0x9021
/-- `AttestReg (9022h.00 to .15)`, R322. -/
abbrev Obj.attestReg : Nat := 0x9022
/-- `PeerPolicy (9030h.00)`, R322. -/
abbrev Obj.peerPolicy : Nat := 0x9030
/-- `RootInterval (9031h.00)`, R322. -/
abbrev Obj.rootInterval : Nat := 0x9031
/-- `RekeyRoot (9032h.00)`, R322. -/
abbrev Obj.rekeyRoot : Nat := 0x9032
/-- `SlotInfo (9040h.00 to .255)`, R322. -/
abbrev Obj.slotInfo : Nat := 0x9040
/-- `SlotPublic (9041h.00 to .255)`, R322. -/
abbrev Obj.slotPublic : Nat := 0x9041
/-- `SlotWrite (9042h.00)`, R322. -/
abbrev Obj.slotWrite : Nat := 0x9042
/-- `SlotErase (9043h.00)`, R322. -/
abbrev Obj.slotErase : Nat := 0x9043
/-- `QueueDepth (9050h.00 to .02)`, R322. -/
abbrev Obj.queueDepth : Nat := 0x9050
/-- `CompareMismatchCount (9052h.00)`, R322. -/
abbrev Obj.compareMismatchCount : Nat := 0x9052
/-- `UnitState (9053h.00 to .03)`, R322. -/
abbrev Obj.unitState : Nat := 0x9053
/-- `RequestFailCount (9054h.00 to .12)`, R322. -/
abbrev Obj.requestFailCount : Nat := 0x9054
/-- `AgreementState (9130h.00, 9230h.00)`, R322. -/
abbrev Obj.agreementState : Nat := 0x9130
/-- `PeerSerial (9131h.00, 9231h.00)`, R322. -/
abbrev Obj.peerSerial : Nat := 0x9131
/-- `AgreementCount (9132h.00, 9232h.00)`, R322. -/
abbrev Obj.agreementCount : Nat := 0x9132
/-- `AgreementFailCount (9133h.00, 9233h.00)`, R322. -/
abbrev Obj.agreementFailCount : Nat := 0x9133
/-- `AvenueMode (A001h.00)`, R379. -/
abbrev Obj.avenueMode : Nat := 0xA001
/-- `ReorderWindow (A002h.00)`, R379. -/
abbrev Obj.reorderWindow : Nat := 0xA002
/-- `TwinRelease (A003h.00)`, R379. -/
abbrev Obj.twinRelease : Nat := 0xA003
/-- `PreferredAvenue (A004h.00)`, R379. -/
abbrev Obj.preferredAvenue : Nat := 0xA004
/-- `SpareRevert (A005h.00)`, R379. -/
abbrev Obj.spareRevert : Nat := 0xA005
/-- `SpareWaitToRestore (A006h.00)`, R379. -/
abbrev Obj.spareWaitToRestore : Nat := 0xA006
/-- `SpareHoldOff (A007h.00)`, R379. -/
abbrev Obj.spareHoldOff : Nat := 0xA007
/-- `AvenueCommand (A008h.00)`, R379. -/
abbrev Obj.avenueCommand : Nat := 0xA008
/-- `AvenueState (A010h.00)`, R379. -/
abbrev Obj.avenueState : Nat := 0xA010
/-- `CarryingAvenue (A011h.00)`, R379. -/
abbrev Obj.carryingAvenue : Nat := 0xA011
/-- `PathDelayDiff (A012h.00)`, R379. -/
abbrev Obj.pathDelayDiff : Nat := 0xA012
/-- `TakeoverCount (A013h.00)`, R379. -/
abbrev Obj.takeoverCount : Nat := 0xA013
/-- `LastGap (A014h.00)`, R379. -/
abbrev Obj.lastGap : Nat := 0xA014
/-- `KeeperAddress (A020h.00)`, R379. -/
abbrev Obj.keeperAddress : Nat := 0xA020
/-- `KeeperRole (A021h.00)`, R379. -/
abbrev Obj.keeperRole : Nat := 0xA021
/-- `KeeperEligible (A022h.00)`, R379. -/
abbrev Obj.keeperEligible : Nat := 0xA022
/-- `KeeperOrderCount (A023h.00)`, R379. -/
abbrev Obj.keeperOrderCount : Nat := 0xA023
/-- `GroupBusState (A030h.00)`, R558. -/
abbrev Obj.groupBusState : Nat := 0xA030
/-- `GroupValidMask (A031h.00)`, R558. -/
abbrev Obj.groupValidMask : Nat := 0xA031
/-- `GroupMember (A032h.00 to .31)`, R558. -/
abbrev Obj.groupMember : Nat := 0xA032
/-- `GroupLeave (A033h.00)`, R558. -/
abbrev Obj.groupLeave : Nat := 0xA033
/-- `GroupMisstrapCount (A034h.00)`, R558. -/
abbrev Obj.groupMisstrapCount : Nat := 0xA034
/-- `GroupCrcErrors (A035h.00)`, R558. -/
abbrev Obj.groupCrcErrors : Nat := 0xA035
/-- `DuplicateAddress (A036h.00)`, R558. -/
abbrev Obj.duplicateAddress : Nat := 0xA036
/-- `DuplicateDiscards (A040h.00 to .63)`, R379. -/
abbrev Obj.duplicateDiscards : Nat := 0xA040
/-- `LateCopyCount (A041h.00 to .63)`, R379. -/
abbrev Obj.lateCopyCount : Nat := 0xA041
/-- `LostCellCount (A042h.00 to .63)`, R379. -/
abbrev Obj.lostCellCount : Nat := 0xA042
/-- `ReleaseAvenue (A043h.00 to .63)`, R379. -/
abbrev Obj.releaseAvenue : Nat := 0xA043
/-- `RxView (A101h.00, A201h.00)`, R379. -/
abbrev Obj.rxView : Nat := 0xA101
/-- `FarView (A102h.00, A202h.00)`, R379. -/
abbrev Obj.farView : Nat := 0xA102
/-- `ScrubPeriod (B001h.00)`, R494. -/
abbrev Obj.scrubPeriod : Nat := 0xB001
/-- `ScrubPassTime (B002h.00)`, R494. -/
abbrev Obj.scrubPassTime : Nat := 0xB002
/-- `CorrectedTotal (B003h.00)`, R494. -/
abbrev Obj.correctedTotal : Nat := 0xB003
/-- `PoisonTotal (B004h.00)`, R494. -/
abbrev Obj.poisonTotal : Nat := 0xB004
/-- `SramTrendAlarm (B005h.00)`, R494. -/
abbrev Obj.sramTrendAlarm : Nat := 0xB005
/-- `SramSelect (B010h.00)`, R494. -/
abbrev Obj.sramSelect : Nat := 0xB010
/-- `SramBankInfo (B011h.00)`, R494. -/
abbrev Obj.sramBankInfo : Nat := 0xB011
/-- `SramRetire (B012h.00)`, R494. -/
abbrev Obj.sramRetire : Nat := 0xB012
/-- `RepairBanksFree (B013h.00)`, R494. -/
abbrev Obj.repairBanksFree : Nat := 0xB013
/-- `RetentionInfo (B020h.00 to .15)`, R494. -/
abbrev Obj.retentionInfo : Nat := 0xB020
/-- `RetentionRetire (B021h.00)`, R494. -/
abbrev Obj.retentionRetire : Nat := 0xB021
/-- `IcehouseState (B030h.00)`, R494. -/
abbrev Obj.icehouseState : Nat := 0xB030
/-- `MountTime (B031h.00)`, R494. -/
abbrev Obj.mountTime : Nat := 0xB031
/-- `RegionInfo (B032h.00 to .05)`, R494. -/
abbrev Obj.regionInfo : Nat := 0xB032
/-- `ReserveFree (B033h.00)`, R494. -/
abbrev Obj.reserveFree : Nat := 0xB033
/-- `BlockSelect (B040h.00)`, R494. -/
abbrev Obj.blockSelect : Nat := 0xB040
/-- `BlockInfo (B041h.00)`, R494. -/
abbrev Obj.blockInfo : Nat := 0xB041
/-- `BlockRetire (B042h.00)`, R494. -/
abbrev Obj.blockRetire : Nat := 0xB042
/-- `BlockRestore (B043h.00)`, R494. -/
abbrev Obj.blockRestore : Nat := 0xB043
/-- `RefreshPeriod (B044h.00)`, R494. -/
abbrev Obj.refreshPeriod : Nat := 0xB044
/-- `IgnoredRecordCount (B045h.00)`, R494. -/
abbrev Obj.ignoredRecordCount : Nat := 0xB045
/-- `LogDropCount (B046h.00)`, R494. -/
abbrev Obj.logDropCount : Nat := 0xB046
/-- `SvcInputScale (C001h.00 to .47)`, R427. -/
abbrev Obj.svcInputScale : Nat := 0xC001
/-- `RegularEntry (C010h.00 to .63)`, R427. -/
abbrev Obj.regularEntry : Nat := 0xC010
/-- `UserLength (C011h.00)`, R427. -/
abbrev Obj.userLength : Nat := 0xC011
/-- `InjectEntry (C012h.00 to .07)`, R427. -/
abbrev Obj.injectEntry : Nat := 0xC012
/-- `InjectLength (C013h.00)`, R427. -/
abbrev Obj.injectLength : Nat := 0xC013
/-- `InjectNow (C014h.00)`, R427. -/
abbrev Obj.injectNow : Nat := 0xC014
/-- `InjectTrigger (C015h.00)`, R427. -/
abbrev Obj.injectTrigger : Nat := 0xC015
/-- `Comparator (C020h.00 to .03)`, R427. -/
abbrev Obj.comparator : Nat := 0xC020
/-- `ComparatorState (C021h.00 to .03)`, R427. -/
abbrev Obj.comparatorState : Nat := 0xC021
/-- `ComparatorFireCount (C022h.00 to .03)`, R427. -/
abbrev Obj.comparatorFireCount : Nat := 0xC022
/-- `SvcAccum (C030h.00 to .71)`, R427. -/
abbrev Obj.svcAccum : Nat := 0xC030
/-- `SvcAccumClear (C031h.00)`, R427. -/
abbrev Obj.svcAccumClear : Nat := 0xC031
/-- `PassLateCount (C032h.00)`, R427. -/
abbrev Obj.passLateCount : Nat := 0xC032
/-- `InjectRunCount (C033h.00)`, R427. -/
abbrev Obj.injectRunCount : Nat := 0xC033
/-- `InjectMissCount (C034h.00)`, R427. -/
abbrev Obj.injectMissCount : Nat := 0xC034
/-- `PassTime (C035h.00)`, R427. -/
abbrev Obj.passTime : Nat := 0xC035
/-- `FrontGain (C101h.00, C201h.00)`, R427. -/
abbrev Obj.frontGain : Nat := 0xC101
/-- `FrontOverRangeCount (C102h.00, C202h.00)`, R427. -/
abbrev Obj.frontOverRangeCount : Nat := 0xC102
/-- `TfeRun (C801h.00 to .07)`, R427. -/
abbrev Obj.tfeRun : Nat := 0xC801
/-- `TfeInput (C802h.06 to .07)`, R427. -/
abbrev Obj.tfeInput : Nat := 0xC802
/-- `TfeFilter (C803h.00 to .07)`, R427. -/
abbrev Obj.tfeFilter : Nat := 0xC803
/-- `TfeCoeff (C804h.06 to .07)`, R427. -/
abbrev Obj.tfeCoeff : Nat := 0xC804
/-- `TfeSettling (C805h.00 to .07)`, R427. -/
abbrev Obj.tfeSettling : Nat := 0xC805
/-- `TfeUnsettledCount (C806h.00 to .07)`, R427. -/
abbrev Obj.tfeUnsettledCount : Nat := 0xC806
/-- `TfeDetWindow (C807h.04 to .07)`, R427. -/
abbrev Obj.tfeDetWindow : Nat := 0xC807
/-- `TfeEnvelopeTc (C808h.04 to .07)`, R427. -/
abbrev Obj.tfeEnvelopeTc : Nat := 0xC808
/-- `TfePeak (C810h.04 to .07)`, R427. -/
abbrev Obj.tfePeak : Nat := 0xC810
/-- `TfeRms (C811h.04 to .07)`, R427. -/
abbrev Obj.tfeRms : Nat := 0xC811
/-- `TfeEnvelope (C812h.04 to .07)`, R427. -/
abbrev Obj.tfeEnvelope : Nat := 0xC812
/-- `TfeSkew (C820h.00)`, R427. -/
abbrev Obj.tfeSkew : Nat := 0xC820
/-- `FootpathEnable (D101h.00, D201h.00)`, R399. -/
abbrev Obj.footpathEnable : Nat := 0xD101
/-- `FootpathTone (D102h.00, D202h.00)`, R399. -/
abbrev Obj.footpathTone : Nat := 0xD102
/-- `FootpathToneInUse (D103h.00, D203h.00)`, R399. -/
abbrev Obj.footpathToneInUse : Nat := 0xD103
/-- `FootpathDepth (D104h.00, D204h.00)`, R399. -/
abbrev Obj.footpathDepth : Nat := 0xD104
/-- `SyncTolerance (D105h.00, D205h.00)`, R399. -/
abbrev Obj.syncTolerance : Nat := 0xD105
/-- `DetectMargin (D106h.00, D206h.00)`, R399. -/
abbrev Obj.detectMargin : Nat := 0xD106
/-- `FootpathRxState (D110h.00, D210h.00)`, R399. -/
abbrev Obj.footpathRxState : Nat := 0xD110
/-- `NoiseFloor (D111h.00 to .63, D211h.00 to .63)`, R399. -/
abbrev Obj.noiseFloor : Nat := 0xD111
/-- `LastRxLevel (D112h.00, D212h.00)`, R399. -/
abbrev Obj.lastRxLevel : Nat := 0xD112
/-- `LastRxSnr (D113h.00, D213h.00)`, R399. -/
abbrev Obj.lastRxSnr : Nat := 0xD113
/-- `Neighbour (D114h.00, D214h.00)`, R399. -/
abbrev Obj.neighbour : Nat := 0xD114
/-- `FootpathSend (D120h.00, D220h.00)`, R399. -/
abbrev Obj.footpathSend : Nat := 0xD120
/-- `FootpathReceive (D121h.00, D221h.00)`, R399. -/
abbrev Obj.footpathReceive : Nat := 0xD121
/-- `RxPacketCount (D130h.00, D230h.00)`, R399. -/
abbrev Obj.rxPacketCount : Nat := 0xD130
/-- `TxPacketCount (D131h.00, D231h.00)`, R399. -/
abbrev Obj.txPacketCount : Nat := 0xD131
/-- `FalseDetectCount (D132h.00, D232h.00)`, R399. -/
abbrev Obj.falseDetectCount : Nat := 0xD132
/-- `HeaderFailCount (D133h.00, D233h.00)`, R399. -/
abbrev Obj.headerFailCount : Nat := 0xD133
/-- `CrcFailCount (D134h.00, D234h.00)`, R399. -/
abbrev Obj.crcFailCount : Nat := 0xD134
/-- `LostToStrongerCount (D135h.00, D235h.00)`, R399. -/
abbrev Obj.lostToStrongerCount : Nat := 0xD135
/-- `EchoCount (D136h.00, D236h.00)`, R399. -/
abbrev Obj.echoCount : Nat := 0xD136
/-- `NotForUsCount (D137h.00, D237h.00)`, R399. -/
abbrev Obj.notForUsCount : Nat := 0xD137
/-- `FormatErrorCount (D138h.00, D238h.00)`, R399. -/
abbrev Obj.formatErrorCount : Nat := 0xD138
/-- `TxDropCount (D139h.00, D239h.00)`, R399. -/
abbrev Obj.txDropCount : Nat := 0xD139
/-- `SfnNow (E001h.00)`, R63. -/
abbrev Obj.sfnNow : Nat := 0xE001
/-- `TimeQuality (E002h.00)`, R63. -/
abbrev Obj.timeQuality : Nat := 0xE002
/-- `TimeUncertainty (E003h.00)`, R63. -/
abbrev Obj.timeUncertainty : Nat := 0xE003
/-- `EntriesFree (E004h.00)`, R63. -/
abbrev Obj.entriesFree : Nat := 0xE004
/-- `LateCount (E005h.00)`, R63. -/
abbrev Obj.lateCount : Nat := 0xE005
/-- `MissedCount (E006h.00)`, R63. -/
abbrev Obj.missedCount : Nat := 0xE006
/-- `MovedCount (E007h.00)`, R63. -/
abbrev Obj.movedCount : Nat := 0xE007
/-- `DroppedCount (E008h.00)`, R63. -/
abbrev Obj.droppedCount : Nat := 0xE008
/-- `CancelEntry (E010h.00)`, R63. -/
abbrev Obj.cancelEntry : Nat := 0xE010
/-- `CoordLeadMin (E110h.00, E210h.00)`, R63. -/
abbrev Obj.coordLeadMin : Nat := 0xE110
/-- `RxBoundaryDelay (E111h.00, E211h.00)`, R63. -/
abbrev Obj.rxBoundaryDelay : Nat := 0xE111
/-- `RoundTrip (E112h.00, E212h.00)`, R63. -/
abbrev Obj.roundTrip : Nat := 0xE112
/-- `RxSfn (E113h.00, E213h.00)`, R63. -/
abbrev Obj.rxSfn : Nat := 0xE113
/-- `EventEntry (E720h.00 to EA20h.255)`, R63. -/
abbrev Obj.eventEntry : Nat := 0xE720
/-- `CounterClear (F001h.00)`, R536. -/
abbrev Obj.counterClear : Nat := 0xF001
/-- `CounterRange (F010h.01 to .64)`, R536. -/
abbrev Obj.counterRange : Nat := 0xF010
/-- `SnapshotTrigger (F020h.00)`, R536. -/
abbrev Obj.snapshotTrigger : Nat := 0xF020
/-- `SnapshotPeriod (F021h.00)`, R536. -/
abbrev Obj.snapshotPeriod : Nat := 0xF021
/-- `SnapshotLatest (F022h.00)`, R536. -/
abbrev Obj.snapshotLatest : Nat := 0xF022
/-- `SnapshotData (F023h.00 to .07)`, R536. -/
abbrev Obj.snapshotData : Nat := 0xF023
/-- `SnapshotOverwrites (F024h.00)`, R536. -/
abbrev Obj.snapshotOverwrites : Nat := 0xF024
/-- `EventRecent (F030h.00 to .255)`, R536. -/
abbrev Obj.eventRecent : Nat := 0xF030
/-- `EventRecentNext (F031h.00)`, R536. -/
abbrev Obj.eventRecentNext : Nat := 0xF031
/-- `EventFetch (F032h.00)`, R536. -/
abbrev Obj.eventFetch : Nat := 0xF032
/-- `EventFetched (F033h.00)`, R536. -/
abbrev Obj.eventFetched : Nat := 0xF033
/-- `CounterValue (F710h.00 to FE10h.255)`, R536. -/
abbrev Obj.counterValue : Nat := 0xF710
/-- `CounterSelect (F711h.00 to FE11h.255)`, R536. -/
abbrev Obj.counterSelect : Nat := 0xF711

end Sys2Proof
end

