-- ==== Sys2Proof/Machine/Dict.lean ====
section
/-! DEFINITION. The object dictionary: one row per object table row of the spec (R27, R63, R98, R130, R165, R196, R232,
R255, R288, R322, R352, R379, R399, R427, R445, R469, R494, R520, R536, R558, R579), giving type, access class, roles,
members, default and range. A range the table gives by reference to another rule is left wide here and checked by
`ownerRange` (Machine/Operands.lean). -/

namespace Sys2Proof

/-- The value types of R11. -/
inductive OType where
  | bool | u8 | u16 | u32 | u64 | i8 | i16 | i32 | i64 | f32 | time96 | sfn64 | str | octets | table
  deriving DecidableEq, Repr

/-- Type code of R11. -/
def OType.code : OType → Nat
  | .bool => 0 | .u8 => 1 | .u16 => 2 | .u32 => 3 | .u64 => 4 | .i8 => 5 | .i16 => 6 | .i32 => 7 | .i64 => 8
  | .f32 => 9 | .time96 => 10 | .sfn64 => 11 | .str => 12 | .octets => 13 | .table => 14

/-- Size in octets of a value of a fixed-size type; 0 for STR, OCTETS and TABLE (R11). -/
def OType.size : OType → Nat
  | .bool => 1 | .u8 => 1 | .u16 => 2 | .u32 => 4 | .u64 => 8 | .i8 => 1 | .i16 => 2 | .i32 => 4 | .i64 => 8
  | .f32 => 4 | .time96 => 12 | .sfn64 => 8 | .str => 0 | .octets => 0 | .table => 0

/-- The access classes of R12. -/
inductive Access where
  | ro | rw | wo | rws
  deriving DecidableEq, Repr

/-- Access code of R503. -/
def Access.code : Access → Nat
  | .ro => 0 | .rw => 1 | .wo => 2 | .rws => 3

/-- One dictionary row: first object number, instances 0100h apart, consecutive items, members, type, access, lowest
read and write role (255 none), defaults from the first member on (the last one stands for the rest), range, and
whether zero is refused with 0303h (R16). -/
structure DictRow where
  base  : Nat
  insts : Nat
  items : Nat
  memLo : Nat
  memHi : Nat
  ty    : OType
  acc   : Access
  rd    : Nat
  wr    : Nat
  dflt  : List Int
  lo    : Int
  hi    : Int
  zr    : Bool
  deriving DecidableEq, Repr

/-- Dictionary rows of subsystem 1h, part 1. -/
def dict1a : List DictRow := [
  ⟨Obj.aopPort, 1, 1, 0, 0, .u16, .rw, 0, 3, [30250], 1024, 65535, false⟩,
  ⟨Obj.mgAddress, 1, 1, 0, 1, .octets, .rw, 0, 3, [0], 0, 0, false⟩,
  ⟨Obj.sessionIdle, 1, 1, 0, 0, .u32, .rw, 0, 2, [300], 10, 86400, true⟩,
  ⟨Obj.sessionInfo, 1, 1, 0, 31, .table, .ro, 0, 255, [0], 0, 0, false⟩,
  ⟨Obj.sessionClose, 1, 1, 0, 0, .u32, .wo, 255, 3, [0], 1, 4294967295, true⟩,
  ⟨Obj.roleGrant, 1, 1, 0, 31, .u16, .rw, 0, 3, [0], 0, 65535, false⟩,
  ⟨Obj.violationLog, 1, 1, 0, 255, .table, .ro, 0, 255, [0], 0, 0, false⟩,
  ⟨Obj.violationNext, 1, 1, 0, 0, .u8, .ro, 0, 255, [0], 0, 255, false⟩,
  ⟨Obj.violationCount, 1, 1, 0, 0, .u64, .ro, 0, 255, [0], 0, 18446744073709551615, false⟩,
  ⟨Obj.dictSave, 1, 1, 0, 0, .u8, .wo, 255, 2, [0], 1, 1, false⟩,
  ⟨Obj.dictRestore, 1, 1, 0, 0, .u8, .wo, 255, 2, [0], 1, 1, false⟩,
  ⟨Obj.dictFactory, 1, 1, 0, 0, .u8, .wo, 255, 3, [0], 1, 1, false⟩,
  ⟨Obj.dictImageState, 1, 1, 0, 0, .u8, .ro, 0, 255, [0], 0, 2, false⟩,
  ⟨Obj.lastDictSave, 1, 1, 0, 0, .sfn64, .ro, 0, 255, [0], 0, 18446744073709551615, false⟩,
  ⟨Obj.notifyDropCount, 1, 1, 0, 0, .u32, .ro, 0, 255, [0], 0, 4294967295, false⟩,
  ⟨Obj.uartFrameErrors, 1, 1, 0, 0, .u32, .ro, 0, 255, [0], 0, 4294967295, false⟩,
  ⟨Obj.deviceAddress, 1, 1, 0, 0, .u16, .ro, 0, 255, [0], 0, 8191, false⟩,
  ⟨Obj.domainRole, 1, 1, 0, 0, .u8, .ro, 0, 255, [0], 0, 15, false⟩,
  ⟨Obj.siteLeadAddress, 1, 1, 0, 0, .u16, .ro, 0, 255, [65535], 0, 65535, false⟩,
  ⟨Obj.registrarAddress, 1, 1, 0, 0, .u16, .ro, 0, 255, [65535], 0, 65535, false⟩,
  ⟨Obj.domainGroup, 1, 1, 0, 0, .octets, .rw, 0, 3, [0], 0, 0, false⟩,
  ⟨Obj.domainPort, 1, 1, 0, 0, .u16, .rw, 0, 3, [30251], 1024, 65535, false⟩,
  ⟨Obj.settleTime, 1, 1, 0, 0, .u16, .rw, 0, 2, [5000], 1000, 30000, false⟩,
  ⟨Obj.groupBackoff, 1, 1, 0, 0, .u16, .rw, 0, 2, [1000], 100, 10000, true⟩,
  ⟨Obj.siteBackoff, 1, 1, 0, 0, .u16, .rw, 0, 2, [2000], 100, 10000, true⟩,
  ⟨Obj.ackTimeout, 1, 1, 0, 0, .u16, .rw, 0, 2, [500], 100, 5000, false⟩,
  ⟨Obj.rollAttempts, 1, 1, 0, 0, .u8, .rw, 0, 2, [3], 1, 8, true⟩,
  ⟨Obj.rollTime, 1, 1, 0, 0, .u32, .ro, 0, 255, [0], 0, 4294967295, false⟩,
  ⟨Obj.domainRollMasks, 1, 1, 0, 255, .u32, .ro, 0, 255, [0], 0, 4294967295, false⟩,
  ⟨Obj.domainSerials, 1, 1, 0, 255, .table, .ro, 0, 255, [0], 0, 0, false⟩,
  ⟨Obj.imageWrite, 1, 1, 0, 0, .table, .wo, 255, 2, [0], 0, 0, false⟩,
  ⟨Obj.imageCommit, 1, 1, 0, 0, .table, .wo, 255, 2, [0], 0, 0, false⟩,
  ⟨Obj.imageActivate, 1, 1, 1, 6, .u8, .rws, 0, 2, [0], 0, 255, false⟩,
  ⟨Obj.imageActive, 1, 1, 1, 6, .u8, .ro, 0, 255, [0], 0, 1, false⟩,
  ⟨Obj.imageProbation, 1, 1, 0, 0, .u32, .rw, 0, 2, [100000], 10000, 36000000, true⟩,
  ⟨Obj.imageProgress, 1, 1, 1, 6, .u32, .ro, 0, 255, [0], 0, 4294967295, false⟩,
  ⟨Obj.caseTemp, 1, 1, 0, 0, .i16, .ro, 0, 255, [0], -32768, 32767, false⟩,
  ⟨Obj.caseWarn, 1, 1, 0, 0, .i16, .rw, 0, 2, [9000], 6000, 9500, false⟩,
  ⟨Obj.thermalState, 1, 1, 0, 0, .u8, .ro, 0, 255, [0], 0, 2, false⟩,
  ⟨Obj.alertMask, 1, 1, 0, 0, .u16, .rw, 0, 2, [6], 0, 65535, false⟩]

/-- Dictionary rows of subsystem 1h, part 2. -/
def dict1b : List DictRow := [
  ⟨Obj.alertAck, 1, 1, 0, 0, .u32, .wo, 255, 1, [0], 0, 4294967295, false⟩,
  ⟨Obj.alertState, 1, 1, 0, 0, .bool, .ro, 0, 255, [0], 0, 1, false⟩,
  ⟨Obj.tripCount, 1, 1, 0, 0, .u32, .ro, 0, 255, [0], 0, 4294967295, false⟩,
  ⟨Obj.txLatency, 2, 1, 0, 0, .u32, .ro, 0, 255, [0], 0, 3000000, false⟩,
  ⟨Obj.rxLatency, 2, 1, 0, 0, .u32, .ro, 0, 255, [0], 0, 45000000, false⟩]

/-- Dictionary rows of subsystem 2h. -/
def dict2a : List DictRow := [
  ⟨Obj.ceiling, 1, 1, 0, 0, .u16, .rw, 0, 2, [2300], 600, 2300, false⟩,
  ⟨Obj.ledgerTotal, 1, 1, 0, 0, .f32, .ro, 0, 255, [0], 0, 4294967295, false⟩,
  ⟨Obj.measuredPower, 1, 1, 0, 0, .f32, .ro, 0, 255, [0], 0, 4294967295, false⟩,
  ⟨Obj.driftTerm, 1, 1, 0, 0, .f32, .ro, 0, 255, [0], 0, 4294967295, false⟩,
  ⟨Obj.headroom, 1, 1, 0, 0, .f32, .ro, 0, 255, [0], 0, 4294967295, false⟩,
  ⟨Obj.inputVoltage, 1, 1, 0, 0, .f32, .ro, 0, 255, [0], 0, 4294967295, false⟩,
  ⟨Obj.inputCurrent, 1, 1, 0, 0, .f32, .ro, 0, 255, [0], 0, 4294967295, false⟩,
  ⟨Obj.peakPower, 1, 1, 0, 0, .f32, .ro, 0, 255, [0], 0, 4294967295, false⟩,
  ⟨Obj.shedOrder, 1, 1, 0, 7, .u8, .rw, 0, 2, [4, 2, 3, 1, 0], 0, 8, false⟩,
  ⟨Obj.shedMargin, 1, 1, 0, 0, .u16, .rw, 0, 2, [20], 5, 200, false⟩,
  ⟨Obj.shedHold, 1, 1, 0, 0, .u16, .rw, 0, 2, [1000], 100, 60000, false⟩,
  ⟨Obj.shedState, 1, 1, 0, 0, .u8, .ro, 0, 255, [0], 0, 3, false⟩,
  ⟨Obj.ledgerByActivity, 1, 1, 0, 11, .f32, .ro, 0, 255, [0], 0, 4294967295, false⟩,
  ⟨Obj.refuseCount, 1, 1, 0, 11, .u32, .ro, 0, 255, [0], 0, 4294967295, false⟩,
  ⟨Obj.shedCount, 1, 1, 0, 8, .u32, .ro, 0, 255, [0], 0, 4294967295, false⟩,
  ⟨Obj.keepAlive, 1, 1, 0, 0, .bool, .rws, 0, 2, [0], 1, 1, false⟩,
  ⟨Obj.keepAliveMgt, 1, 1, 0, 0, .bool, .rw, 0, 2, [1], 0, 1, false⟩,
  ⟨Obj.keepAliveWake, 1, 1, 0, 0, .u8, .rw, 0, 2, [15], 1, 15, false⟩,
  ⟨Obj.regulatorMode, 1, 1, 0, 0, .u8, .ro, 0, 255, [0], 0, 2, false⟩,
  ⟨Obj.resetCause, 1, 1, 0, 0, .u8, .ro, 0, 255, [1], 1, 6, false⟩,
  ⟨Obj.brownOutCount, 1, 1, 0, 0, .u32, .ro, 0, 255, [0], 0, 4294967295, false⟩,
  ⟨Obj.domainState, 1, 1, 1, 24, .u8, .ro, 0, 255, [0], 0, 3, false⟩,
  ⟨Obj.idleTimer, 1, 1, 1, 24, .u32, .rw, 0, 2, [4294967295, 4294967295, 4294967295, 10000, 1000, 4294967295, 1000, 10000, 10000, 10000, 10000, 1000, 100, 100, 100, 100, 10000, 10000, 60000, 10000, 10000, 60000, 1000, 4294967295], 0, 4294967295, true⟩,
  ⟨Obj.wakeLatency, 1, 1, 1, 24, .u32, .ro, 0, 255, [0, 2000, 2000, 40, 500, 300000, 20, 50000, 50000, 50000, 50000, 2, 30, 30, 30, 30, 60, 80, 25000000, 60, 80, 25000000, 4, 0], 0, 4294967295, false⟩,
  ⟨Obj.domainHold, 1, 1, 1, 24, .bool, .rw, 0, 2, [0], 0, 1, false⟩,
  ⟨Obj.sleepRefusals, 1, 1, 1, 24, .table, .ro, 0, 255, [0], 0, 0, false⟩,
  ⟨Obj.wakeCount, 1, 1, 1, 24, .u32, .ro, 0, 255, [0], 0, 4294967295, false⟩,
  ⟨Obj.domainCost, 1, 1, 1, 24, .f32, .ro, 0, 255, [1041865114, 1082130432, 1061997773, 1067030938, 1069547520, 1073741824, 1070386381, 1065353216, 1065353216, 1065353216, 1065353216, 1069547520, 1072064102, 1072064102, 1072064102, 1072064102, 1099431936, 1107558400, 1094713344, 1099431936, 1107558400, 1094713344, 1086324736, 1053609165], 0, 4294967295, false⟩]

/-- Dictionary rows of subsystem 3h, part 1. -/
def dict3a : List DictRow := [
  ⟨Obj.freqRefSelected, 1, 1, 0, 0, .u8, .ro, 0, 255, [0], 0, 13, false⟩,
  ⟨Obj.timeRefSelected, 1, 1, 0, 0, .u8, .ro, 0, 255, [0], 0, 255, false⟩,
  ⟨Obj.belState, 1, 1, 0, 0, .u8, .ro, 0, 255, [0], 0, 4, false⟩,
  ⟨Obj.loopBandwidth, 1, 1, 0, 1, .f32, .ro, 0, 255, [0], 0, 4294967295, false⟩,
  ⟨Obj.holdoverValid, 1, 1, 0, 0, .bool, .ro, 0, 255, [0], 0, 1, false⟩,
  ⟨Obj.holdoverFreq, 1, 1, 0, 0, .i32, .ro, 0, 255, [0], -2147483648, 2147483647, false⟩,
  ⟨Obj.holdOff, 1, 1, 0, 0, .u16, .rw, 0, 2, [1000], 100, 10000, false⟩,
  ⟨Obj.waitToRestore, 1, 1, 0, 0, .u16, .rw, 0, 2, [300], 0, 3600, false⟩,
  ⟨Obj.rankMateThreshold, 1, 1, 0, 0, .u16, .rw, 0, 2, [200], 10, 10000, false⟩,
  ⟨Obj.qlEnable, 1, 1, 0, 0, .bool, .rw, 0, 2, [0], 0, 1, false⟩,
  ⟨Obj.qlMinimum, 1, 1, 0, 0, .u8, .rw, 0, 2, [11], 0, 255, false⟩,
  ⟨Obj.maxHops, 1, 1, 0, 0, .u8, .rw, 0, 2, [16], 1, 64, false⟩,
  ⟨Obj.oscClass, 1, 1, 0, 0, .u8, .rw, 0, 2, [0], 0, 2, false⟩,
  ⟨Obj.oscFreq, 1, 1, 0, 0, .u32, .rw, 0, 2, [0], 0, 4294967295, false⟩,
  ⟨Obj.bwFrequency, 1, 1, 0, 0, .f32, .rw, 0, 2, [1077936128], 1065353216, 1092616192, false⟩,
  ⟨Obj.bwLine, 1, 1, 0, 0, .f32, .rw, 0, 2, [1092616192], 1036831949, 1120403456, false⟩,
  ⟨Obj.bwPps, 1, 1, 0, 0, .f32, .rw, 0, 2, [1028443341], 1008981770, 1036831949, false⟩,
  ⟨Obj.forceRef, 1, 1, 0, 1, .u8, .rw, 0, 2, [0], 0, 13, false⟩,
  ⟨Obj.refTable, 1, 1, 0, 15, .u32, .rw, 0, 2, [69637, 73734, 77831, 77832, 81921, 61453, 0], 0, 4294967295, false⟩,
  ⟨Obj.switchCount, 1, 1, 0, 1, .u32, .ro, 0, 255, [0], 0, 4294967295, false⟩,
  ⟨Obj.ppsOutAlign, 1, 1, 0, 1, .u8, .rw, 0, 2, [0], 0, 2, false⟩,
  ⟨Obj.ppsOutOffset, 1, 1, 0, 1, .i64, .rw, 0, 2, [0], -500000000000, 500000000000, false⟩,
  ⟨Obj.ppsOutWidth, 1, 1, 0, 1, .u32, .rw, 0, 2, [100000], 1, 500000, false⟩,
  ⟨Obj.sfOutAlign, 1, 1, 0, 0, .u8, .rw, 0, 2, [0], 0, 2, false⟩,
  ⟨Obj.sfOutOffset, 1, 1, 0, 0, .i64, .rw, 0, 2, [0], -500000000000, 500000000000, false⟩,
  ⟨Obj.clkOutFreq, 1, 1, 0, 3, .u32, .rw, 0, 2, [10000000, 156250000, 0], 0, 4294967295, false⟩,
  ⟨Obj.clkOutSquelch, 1, 1, 0, 3, .u8, .rw, 0, 2, [0], 0, 2, false⟩,
  ⟨Obj.ppsOutSquelch, 1, 1, 0, 1, .u8, .rw, 0, 2, [0], 0, 2, false⟩,
  ⟨Obj.lineTimeOffset, 2, 1, 0, 0, .i64, .ro, 0, 255, [0], -9223372036854775808, 9223372036854775807, false⟩,
  ⟨Obj.asymmetry, 2, 1, 0, 0, .i64, .ro, 0, 255, [0], -9223372036854775808, 9223372036854775807, false⟩,
  ⟨Obj.asymmetryState, 2, 1, 0, 0, .u8, .ro, 0, 255, [0], 0, 2, false⟩,
  ⟨Obj.asymmetryUncertainty, 2, 1, 0, 0, .u32, .ro, 0, 255, [4294967295], 0, 4294967295, false⟩,
  ⟨Obj.pathDelayIn, 2, 1, 0, 0, .u64, .ro, 0, 255, [0], 0, 18446744073709551615, false⟩,
  ⟨Obj.pathDelayOut, 2, 1, 0, 0, .u64, .ro, 0, 255, [0], 0, 18446744073709551615, false⟩,
  ⟨Obj.fibreMode, 2, 1, 0, 0, .u8, .rw, 0, 2, [0], 0, 1, false⟩,
  ⟨Obj.extDelayTx, 2, 1, 0, 0, .u32, .rw, 0, 2, [0], 0, 10000000, false⟩,
  ⟨Obj.extDelayRx, 2, 1, 0, 0, .u32, .rw, 0, 2, [0], 0, 10000000, false⟩,
  ⟨Obj.staticAsymmetry, 2, 1, 0, 0, .i32, .rw, 0, 2, [0], -1000000000, 1000000000, false⟩,
  ⟨Obj.staticAsymmetryUnc, 2, 1, 0, 0, .u32, .rw, 0, 2, [0], 0, 1000000000, false⟩,
  ⟨Obj.lineAdvert, 2, 1, 0, 0, .table, .ro, 0, 255, [0], 0, 0, false⟩]

/-- Dictionary rows of subsystem 3h, part 2. -/
def dict3b : List DictRow := [
  ⟨Obj.farAdvert, 2, 1, 0, 0, .table, .ro, 0, 255, [0], 0, 0, false⟩,
  ⟨Obj.linkTimeUncertainty, 2, 1, 0, 0, .u32, .ro, 0, 255, [4294967295], 0, 4294967295, false⟩,
  ⟨Obj.inputState, 1, 1, 1, 13, .u8, .ro, 0, 255, [0], 0, 5, false⟩,
  ⟨Obj.inputFailCause, 1, 1, 1, 13, .u16, .ro, 0, 255, [0], 0, 65535, false⟩,
  ⟨Obj.inputFreqOffset, 1, 1, 1, 13, .i32, .ro, 0, 255, [0], -2147483648, 2147483647, false⟩,
  ⟨Obj.inputPhase, 1, 1, 5, 8, .i64, .ro, 0, 255, [0], -9223372036854775808, 9223372036854775807, false⟩,
  ⟨Obj.inputQl, 1, 1, 1, 13, .u8, .rw, 0, 2, [11], 0, 255, false⟩,
  ⟨Obj.inputNominal, 1, 1, 1, 4, .u32, .rw, 0, 2, [10000000], 1000000, 156250000, false⟩,
  ⟨Obj.inputDelay, 1, 1, 5, 6, .i32, .rw, 0, 2, [0], -1000000, 1000000, false⟩,
  ⟨Obj.inputTimeUncertainty, 1, 1, 5, 6, .u32, .rw, 0, 2, [100], 1, 1000000, false⟩]

/-- Dictionary rows of subsystem 4h. -/
def dict4a : List DictRow := [
  ⟨Obj.calPointTemp, 1, 1, 0, 7, .i16, .ro, 0, 255, [-4000, -2000, 0, 2000, 4000, 6000, 8000, 9500], -32768, 32767, false⟩,
  ⟨Obj.calSaveInterval, 1, 1, 0, 0, .u32, .rw, 0, 2, [3600], 600, 86400, true⟩,
  ⟨Obj.calSave, 1, 1, 0, 0, .u8, .wo, 255, 2, [0], 1, 1, false⟩,
  ⟨Obj.calLearnedClear, 1, 1, 0, 0, .u8, .wo, 255, 3, [0], 1, 1, false⟩,
  ⟨Obj.calSetState, 1, 1, 0, 0, .u8, .ro, 0, 255, [0], 0, 2, false⟩,
  ⟨Obj.privCalState, 1, 1, 0, 2, .u8, .ro, 0, 255, [0], 0, 3, false⟩,
  ⟨Obj.privCalTime, 1, 1, 0, 0, .u32, .ro, 0, 255, [0], 0, 4294967295, false⟩,
  ⟨Obj.lastCalSave, 1, 1, 0, 0, .sfn64, .ro, 0, 255, [0], 0, 18446744073709551615, false⟩,
  ⟨Obj.calSelect, 1, 1, 0, 0, .u32, .rw, 2, 2, [0], 0, 4294967295, false⟩,
  ⟨Obj.calSelected, 1, 1, 0, 0, .table, .ro, 2, 255, [0], 0, 0, false⟩,
  ⟨Obj.rotationEnable, 2, 1, 0, 0, .bool, .rw, 0, 2, [1], 0, 1, false⟩,
  ⟨Obj.rotationState, 2, 1, 0, 0, .u8, .ro, 0, 255, [0], 0, 5, false⟩,
  ⟨Obj.swapCount, 2, 1, 0, 0, .u32, .ro, 0, 255, [0], 0, 4294967295, false⟩,
  ⟨Obj.trimDeferCount, 2, 1, 0, 0, .u32, .ro, 0, 255, [0], 0, 4294967295, false⟩,
  ⟨Obj.trimFailCount, 2, 1, 0, 0, .u32, .ro, 0, 255, [0], 0, 4294967295, false⟩,
  ⟨Obj.swapCancelCount, 2, 1, 0, 0, .u32, .ro, 0, 255, [0], 0, 4294967295, false⟩,
  ⟨Obj.phaseMapAdc, 2, 4, 0, 63, .u8, .ro, 0, 255, [0, 1, 2, 3, 4, 5, 6, 7, 8, 9, 10, 11, 12, 13, 14, 15, 16, 17, 18, 19, 20, 21, 22, 23, 24, 25, 26, 27, 28, 29, 30, 31, 32, 33, 34, 35, 36, 37, 38, 39, 40, 41, 42, 43, 44, 45, 46, 47, 48, 49, 50, 51, 52, 53, 54, 55, 56, 57, 58, 59, 60, 61, 62, 63], 0, 67, false⟩,
  ⟨Obj.phaseMapDac, 2, 4, 0, 31, .u8, .ro, 0, 255, [0, 1, 2, 3, 4, 5, 6, 7, 8, 9, 10, 11, 12, 13, 14, 15, 16, 17, 18, 19, 20, 21, 22, 23, 24, 25, 26, 27, 28, 29, 30, 31], 0, 33, false⟩,
  ⟨Obj.sliceStateAdc, 2, 4, 0, 67, .u8, .ro, 0, 255, [0], 0, 7, false⟩,
  ⟨Obj.sliceStateDac, 2, 4, 0, 33, .u8, .ro, 0, 255, [0], 0, 7, false⟩,
  ⟨Obj.sliceTrimAdc, 2, 4, 0, 67, .table, .ro, 2, 255, [0], 0, 0, false⟩,
  ⟨Obj.sliceTrimDac, 2, 4, 0, 33, .table, .ro, 2, 255, [0], 0, 0, false⟩,
  ⟨Obj.sliceRetire, 2, 1, 0, 0, .u16, .wo, 255, 3, [0], 0, 65535, false⟩,
  ⟨Obj.sliceRestore, 2, 1, 0, 0, .u16, .wo, 255, 3, [0], 0, 65535, false⟩,
  ⟨Obj.converterHealth, 2, 1, 0, 7, .u8, .ro, 0, 255, [0], 0, 3, false⟩,
  ⟨Obj.interleaveSpur, 2, 1, 0, 3, .f32, .ro, 0, 255, [0], 0, 4294967295, false⟩,
  ⟨Obj.clipCount, 2, 1, 0, 7, .u64, .ro, 0, 255, [0], 0, 18446744073709551615, false⟩,
  ⟨Obj.clipRatio, 2, 1, 0, 7, .f32, .ro, 0, 255, [0], 0, 1065353216, false⟩,
  ⟨Obj.adcClipAlarm, 2, 1, 0, 0, .f32, .rw, 0, 2, [953267991], 869711765, 1008981770, false⟩,
  ⟨Obj.dacClipAlarm, 2, 1, 0, 0, .f32, .rw, 0, 2, [925353388], 869711765, 1008981770, false⟩,
  ⟨Obj.adcTargetRms, 2, 1, 0, 0, .u8, .rw, 0, 2, [26], 12, 48, false⟩,
  ⟨Obj.adcGain, 2, 1, 0, 3, .u16, .ro, 0, 255, [0], 0, 2000, false⟩,
  ⟨Obj.dacBackoff, 2, 1, 0, 0, .u8, .rws, 0, 2, [100], 40, 160, false⟩,
  ⟨Obj.trimTempStep, 2, 1, 0, 0, .u16, .rw, 0, 2, [150], 25, 1000, true⟩,
  ⟨Obj.trimAgeLimit, 2, 1, 0, 0, .u32, .rw, 0, 2, [600], 10, 86400, true⟩,
  ⟨Obj.calReloadStep, 2, 1, 0, 0, .u16, .rw, 0, 2, [500], 100, 2000, false⟩,
  ⟨Obj.calReload, 2, 1, 0, 0, .u8, .wo, 255, 2, [0], 1, 1, false⟩,
  ⟨Obj.calPoint, 2, 1, 0, 7, .table, .ro, 0, 255, [0], 0, 0, false⟩]

/-- Dictionary rows of subsystem 5h, part 1. -/
def dict5a : List DictRow := [
  ⟨Obj.clientClass, 1, 1, 0, 63, .u8, .rw, 0, 1, [0], 0, 1, false⟩,
  ⟨Obj.shedRank, 1, 1, 0, 63, .u8, .rw, 0, 1, [0], 0, 255, false⟩,
  ⟨Obj.lockState, 2, 1, 0, 0, .u8, .ro, 0, 255, [0], 0, 8, false⟩,
  ⟨Obj.lockLossCount, 2, 1, 0, 0, .u32, .ro, 0, 255, [0], 0, 4294967295, false⟩,
  ⟨Obj.signalFailCount, 2, 1, 0, 0, .u32, .ro, 0, 255, [0], 0, 4294967295, false⟩,
  ⟨Obj.acqTimeLast, 2, 1, 0, 0, .u32, .ro, 0, 255, [0], 0, 4294967295, false⟩,
  ⟨Obj.cdSearchMin, 2, 1, 0, 0, .i32, .rw, 0, 2, [-160000], -160000, 160000, false⟩,
  ⟨Obj.cdSearchMax, 2, 1, 0, 0, .i32, .rw, 0, 2, [160000], -160000, 160000, false⟩,
  ⟨Obj.cdLimit, 2, 1, 0, 0, .i32, .ro, 0, 255, [0], 60000, 160000, false⟩,
  ⟨Obj.cdEstimate, 2, 1, 0, 0, .i32, .ro, 0, 255, [0], -1600000, 1600000, false⟩,
  ⟨Obj.cdUncertainty, 2, 1, 0, 0, .u32, .ro, 0, 255, [4294967295], 0, 4294967295, false⟩,
  ⟨Obj.cdRecord, 2, 1, 0, 0, .table, .ro, 0, 255, [0], 0, 0, false⟩,
  ⟨Obj.cdStatic, 2, 1, 0, 0, .i32, .ro, 0, 255, [0], -1600000, 1600000, false⟩,
  ⟨Obj.dgdEstimate, 2, 1, 0, 0, .u16, .ro, 0, 255, [0], 0, 3000, false⟩,
  ⟨Obj.pdlEstimate, 2, 1, 0, 0, .u16, .ro, 0, 255, [0], 0, 1000, false⟩,
  ⟨Obj.sopRate, 2, 1, 0, 0, .u32, .ro, 0, 255, [0], 0, 4294967295, false⟩,
  ⟨Obj.sopRateMax, 2, 1, 0, 0, .u32, .ro, 0, 255, [0], 0, 4294967295, false⟩,
  ⟨Obj.sopTransientCount, 2, 1, 0, 0, .u32, .ro, 0, 255, [0], 0, 4294967295, false⟩,
  ⟨Obj.freqOffset, 2, 1, 0, 0, .i32, .ro, 0, 255, [0], -3600000, 3600000, false⟩,
  ⟨Obj.rxCarrierFreq, 2, 1, 0, 0, .u32, .ro, 0, 255, [0], 0, 4294967295, false⟩,
  ⟨Obj.linewidth, 2, 1, 0, 0, .u32, .ro, 0, 255, [0], 0, 4294967295, false⟩,
  ⟨Obj.cycleSlipCount, 2, 1, 0, 0, .u32, .ro, 0, 255, [0], 0, 4294967295, false⟩,
  ⟨Obj.carrierSnr, 2, 1, 0, 0, .f32, .ro, 0, 255, [0], 0, 4294967295, false⟩,
  ⟨Obj.iqSkew, 2, 1, 0, 1, .i16, .ro, 0, 255, [0], -400, 400, false⟩,
  ⟨Obj.iqGain, 2, 1, 0, 1, .i16, .ro, 0, 255, [0], -150, 150, false⟩,
  ⟨Obj.iqPhase, 2, 1, 0, 1, .i16, .ro, 0, 255, [0], -500, 500, false⟩,
  ⟨Obj.lineClockOffset, 2, 1, 0, 0, .i32, .ro, 0, 255, [0], -2147483648, 2147483647, false⟩,
  ⟨Obj.loSteerEnable, 2, 1, 0, 0, .bool, .rw, 0, 2, [1], 0, 1, false⟩,
  ⟨Obj.loSteerTotal, 2, 1, 0, 0, .i32, .ro, 0, 255, [0], -5000, 5000, false⟩,
  ⟨Obj.sfThreshold, 2, 1, 0, 0, .u8, .rw, 0, 2, [30], 0, 100, false⟩,
  ⟨Obj.eqPartialCount, 2, 1, 0, 0, .u32, .ro, 0, 255, [0], 0, 4294967295, false⟩,
  ⟨Obj.loFrequency, 2, 1, 0, 0, .u32, .rw, 0, 2, [193100000], 190700000, 197200000, false⟩,
  ⟨Obj.subcarrierCount, 2, 1, 0, 0, .u8, .rws, 0, 2, [16], 0, 255, false⟩,
  ⟨Obj.loadingMode, 2, 1, 0, 0, .u8, .rw, 0, 2, [0], 0, 1, false⟩,
  ⟨Obj.rxCodeRate, 2, 1, 0, 0, .u8, .ro, 0, 255, [0], 0, 2, false⟩,
  ⟨Obj.carrierEntropy, 2, 1, 0, 15, .u8, .ro, 0, 255, [64], 0, 255, false⟩,
  ⟨Obj.rxLoadingWord, 2, 1, 0, 15, .u16, .ro, 0, 255, [16448], 0, 65535, false⟩,
  ⟨Obj.txLoadingWord, 2, 1, 0, 15, .u16, .ro, 0, 255, [16448], 0, 65535, false⟩,
  ⟨Obj.txCodeRate, 2, 1, 0, 0, .u8, .ro, 0, 255, [0], 0, 2, false⟩,
  ⟨Obj.rxPlotCapacity, 2, 1, 0, 0, .u8, .ro, 0, 255, [0], 0, 130, false⟩]

/-- Dictionary rows of subsystem 5h, part 2. -/
def dict5b : List DictRow := [
  ⟨Obj.txPlotCapacity, 2, 1, 0, 0, .u8, .ro, 0, 255, [0], 0, 130, false⟩,
  ⟨Obj.rxGeneration, 2, 1, 0, 0, .u8, .ro, 0, 255, [0], 0, 255, false⟩,
  ⟨Obj.txGeneration, 2, 1, 0, 0, .u8, .ro, 0, 255, [0], 0, 255, false⟩,
  ⟨Obj.policyCodeRate, 2, 1, 0, 0, .u8, .rw, 0, 2, [1], 0, 2, false⟩,
  ⟨Obj.marginTarget, 2, 1, 0, 0, .u16, .rw, 0, 2, [100], 0, 600, false⟩,
  ⟨Obj.dropBand, 2, 1, 0, 0, .u16, .rw, 0, 2, [30], 10, 300, false⟩,
  ⟨Obj.raiseBand, 2, 1, 0, 0, .u16, .rw, 0, 2, [50], 10, 300, false⟩,
  ⟨Obj.raiseHold, 2, 1, 0, 0, .u32, .rw, 0, 2, [10000], 100, 36000000, true⟩,
  ⟨Obj.marginAlarm, 2, 1, 0, 0, .i16, .rw, 0, 2, [30], -300, 300, false⟩,
  ⟨Obj.marginAlarmState, 2, 1, 0, 0, .bool, .ro, 0, 255, [0], 0, 1, false⟩,
  ⟨Obj.plotCeiling, 2, 1, 0, 0, .u8, .rw, 0, 2, [130], 0, 130, false⟩,
  ⟨Obj.loadingCeiling, 2, 1, 0, 15, .u8, .rw, 0, 2, [192], 0, 255, false⟩,
  ⟨Obj.loadingFloor, 2, 1, 0, 15, .u8, .rw, 0, 2, [0], 0, 255, false⟩,
  ⟨Obj.txLoadingCap, 2, 1, 0, 15, .u8, .rw, 0, 2, [192], 0, 255, false⟩,
  ⟨Obj.loadingRequest, 2, 1, 0, 0, .table, .wo, 255, 2, [0], 0, 0, false⟩,
  ⟨Obj.symbolRate, 2, 1, 0, 0, .u16, .rws, 0, 2, [330], 0, 65535, false⟩,
  ⟨Obj.subcarrierSnr, 2, 1, 0, 15, .f32, .ro, 0, 255, [0], 0, 4294967295, false⟩,
  ⟨Obj.subcarrierSnrSlow, 2, 1, 0, 15, .f32, .ro, 0, 255, [0], 0, 4294967295, false⟩,
  ⟨Obj.subcarrierMargin, 2, 1, 0, 15, .f32, .ro, 0, 255, [0], 0, 4294967295, false⟩,
  ⟨Obj.loadingGap, 2, 1, 0, 8, .f32, .ro, 0, 255, [1072064102, 1071225242, 1071225242, 1072902963, 1072902963, 1073741824, 1074161254, 1074161254, 1074580685], 0, 4294967295, false⟩,
  ⟨Obj.iterationGap, 2, 1, 0, 0, .f32, .ro, 0, 255, [0], 0, 4294967295, false⟩,
  ⟨Obj.proposalCount, 2, 1, 0, 0, .u32, .ro, 0, 255, [0], 0, 4294967295, false⟩,
  ⟨Obj.refusalCount, 2, 1, 0, 0, .u32, .ro, 0, 255, [0], 0, 4294967295, false⟩,
  ⟨Obj.noReplyCount, 2, 1, 0, 0, .u32, .ro, 0, 255, [0], 0, 4294967295, false⟩,
  ⟨Obj.changeCount, 2, 1, 0, 0, .u32, .ro, 0, 255, [0], 0, 4294967295, false⟩,
  ⟨Obj.mismatchCount, 2, 1, 0, 0, .u32, .ro, 0, 255, [0], 0, 4294967295, false⟩,
  ⟨Obj.clientLoadState, 2, 1, 0, 63, .u8, .ro, 0, 255, [3], 0, 3, false⟩,
  ⟨Obj.loadShedCount, 2, 1, 0, 0, .u32, .ro, 0, 255, [0], 0, 4294967295, false⟩]

/-- Dictionary rows of subsystem 6h. -/
def dict6a : List DictRow := [
  ⟨Obj.residencyBudget, 1, 1, 0, 0, .u16, .rws, 0, 2, [100], 20, 400, true⟩,
  ⟨Obj.iterMax, 1, 1, 0, 0, .u8, .rw, 0, 2, [32], 1, 32, true⟩,
  ⟨Obj.iterFloor, 1, 1, 0, 0, .u8, .rw, 0, 2, [2], 1, 4, true⟩,
  ⟨Obj.iterBudgetSf, 1, 1, 0, 0, .u32, .ro, 0, 255, [0], 0, 4294967295, false⟩,
  ⟨Obj.iterCap, 1, 1, 0, 0, .u8, .ro, 0, 255, [32], 1, 32, false⟩,
  ⟨Obj.grantedMean, 1, 1, 0, 0, .f32, .ro, 0, 255, [0], 0, 4294967295, false⟩,
  ⟨Obj.slotsInUse, 1, 1, 0, 0, .u16, .ro, 0, 255, [0], 0, 16384, false⟩,
  ⟨Obj.slotsPeak, 1, 1, 0, 0, .u16, .ro, 0, 255, [0], 0, 16384, false⟩,
  ⟨Obj.activeBanks, 1, 1, 0, 0, .u8, .ro, 0, 255, [15], 0, 15, false⟩,
  ⟨Obj.overflowCount, 1, 1, 0, 0, .u32, .ro, 0, 255, [0], 0, 4294967295, false⟩,
  ⟨Obj.meanIterations, 1, 1, 0, 0, .f32, .ro, 0, 255, [0], 0, 4294967295, false⟩,
  ⟨Obj.iterHistogram, 1, 1, 0, 32, .u64, .ro, 0, 255, [0], 0, 18446744073709551615, false⟩,
  ⟨Obj.ldpcExponents, 1, 1, 0, 2, .table, .ro, 0, 255, [0], 0, 0, false⟩,
  ⟨Obj.ldpcDigest, 1, 1, 0, 2, .octets, .ro, 0, 255, [0], 0, 0, false⟩,
  ⟨Obj.codewordsPerSf, 2, 1, 0, 0, .u16, .ro, 0, 255, [0], 16, 19184, false⟩,
  ⟨Obj.padBits, 2, 1, 0, 0, .u32, .ro, 0, 255, [0], 0, 20479, false⟩,
  ⟨Obj.decodedCount, 2, 1, 0, 0, .u64, .ro, 0, 255, [0], 0, 18446744073709551615, false⟩,
  ⟨Obj.uncorrectedCount, 2, 1, 0, 0, .u64, .ro, 0, 255, [0], 0, 18446744073709551615, false⟩,
  ⟨Obj.correctedBits, 2, 1, 0, 0, .u64, .ro, 0, 255, [0], 0, 18446744073709551615, false⟩,
  ⟨Obj.preFecBer, 2, 1, 0, 0, .f32, .ro, 0, 255, [0], 0, 4294967295, false⟩,
  ⟨Obj.uncorrectedRatio, 2, 1, 0, 0, .f32, .ro, 0, 255, [0], 0, 1065353216, false⟩,
  ⟨Obj.uncorrectedAlarm, 2, 1, 0, 0, .f32, .rw, 0, 2, [786163455], 646978941, 981668463, false⟩,
  ⟨Obj.erasedCount, 2, 1, 0, 0, .u64, .ro, 0, 255, [0], 0, 18446744073709551615, false⟩,
  ⟨Obj.parityErasureCount, 2, 1, 0, 0, .u32, .ro, 0, 255, [0], 0, 4294967295, false⟩,
  ⟨Obj.budgetDiscardCount, 2, 1, 0, 0, .u32, .ro, 0, 255, [0], 0, 4294967295, false⟩,
  ⟨Obj.bankService, 4, 1, 0, 0, .u8, .rws, 0, 2, [1], 0, 1, false⟩,
  ⟨Obj.bankState, 4, 1, 0, 0, .u8, .ro, 0, 255, [2], 0, 5, false⟩,
  ⟨Obj.bankSlotsInUse, 4, 1, 0, 0, .u16, .ro, 0, 255, [0], 0, 4096, false⟩,
  ⟨Obj.bankIterations, 4, 1, 0, 0, .u64, .ro, 0, 255, [0], 0, 18446744073709551615, false⟩,
  ⟨Obj.bankParityErrors, 4, 1, 0, 0, .u32, .ro, 0, 255, [0], 0, 4294967295, false⟩]

/-- Dictionary rows of subsystem 7h, part 1. -/
def dict7a : List DictRow := [
  ⟨Obj.clientRate, 1, 1, 0, 63, .u8, .rw, 0, 1, [0], 0, 5, false⟩,
  ⟨Obj.clientCarrier, 1, 1, 0, 63, .u8, .rw, 0, 1, [0], 0, 1, false⟩,
  ⟨Obj.clientLanes, 1, 1, 0, 63, .u16, .rw, 0, 1, [0], 0, 65535, false⟩,
  ⟨Obj.clientLaneState, 1, 1, 0, 63, .u8, .ro, 0, 255, [0], 0, 3, false⟩,
  ⟨Obj.clientFecUncorrected, 1, 1, 0, 63, .u64, .ro, 0, 255, [0], 0, 18446744073709551615, false⟩,
  ⟨Obj.clientPpm, 1, 1, 0, 63, .i32, .ro, 0, 255, [0], -20000, 20000, false⟩,
  ⟨Obj.clientDeleteCount, 1, 1, 0, 63, .u64, .ro, 0, 255, [0], 0, 18446744073709551615, false⟩,
  ⟨Obj.clientInsertCount, 1, 1, 0, 63, .u64, .ro, 0, 255, [0], 0, 18446744073709551615, false⟩,
  ⟨Obj.rateMatchDrops, 1, 1, 0, 63, .u32, .ro, 0, 255, [0], 0, 4294967295, false⟩,
  ⟨Obj.syncLanes, 1, 1, 0, 3, .u8, .rw, 0, 2, [255], 0, 255, false⟩,
  ⟨Obj.laneBerAlarm, 1, 1, 0, 0, .f32, .rw, 0, 2, [964405378], 841731191, 1008981770, false⟩,
  ⟨Obj.frameLock, 2, 1, 0, 0, .u8, .ro, 0, 255, [0], 0, 1, false⟩,
  ⟨Obj.lofCount, 2, 1, 0, 0, .u32, .ro, 0, 255, [0], 0, 4294967295, false⟩,
  ⟨Obj.coreInvalidCount, 2, 1, 0, 0, .u32, .ro, 0, 255, [0], 0, 4294967295, false⟩,
  ⟨Obj.rxMapGeneration, 2, 1, 0, 0, .u8, .ro, 0, 255, [0], 0, 255, false⟩,
  ⟨Obj.txMapGeneration, 2, 1, 0, 0, .u8, .ro, 0, 255, [0], 0, 255, false⟩,
  ⟨Obj.stuffBits, 2, 1, 0, 0, .u32, .ro, 0, 255, [0], 0, 4294967295, false⟩,
  ⟨Obj.mapMismatchCount, 2, 1, 0, 0, .u32, .ro, 0, 255, [0], 0, 4294967295, false⟩,
  ⟨Obj.mocResendCount, 2, 1, 0, 0, .u32, .ro, 0, 255, [0], 0, 4294967295, false⟩,
  ⟨Obj.mocErrorCount, 2, 1, 0, 0, .u32, .ro, 0, 255, [0], 0, 4294967295, false⟩,
  ⟨Obj.ptpEventCount, 2, 1, 0, 0, .u64, .ro, 0, 255, [0], 0, 18446744073709551615, false⟩,
  ⟨Obj.ptpOverflowCount, 2, 1, 0, 0, .u32, .ro, 0, 255, [0], 0, 4294967295, false⟩,
  ⟨Obj.ptpUnmatchedCount, 2, 1, 0, 0, .u32, .ro, 0, 255, [0], 0, 4294967295, false⟩,
  ⟨Obj.rxOverheadCore, 2, 1, 0, 0, .octets, .ro, 2, 255, [0], 0, 0, false⟩,
  ⟨Obj.remoteDefect, 2, 1, 0, 0, .bool, .ro, 0, 255, [0], 0, 1, false⟩,
  ⟨Obj.plotOwner, 2, 1, 0, 129, .u8, .ro, 0, 255, [255], 0, 255, false⟩,
  ⟨Obj.clientSealDrops, 2, 1, 0, 63, .u64, .ro, 0, 255, [0], 0, 18446744073709551615, false⟩,
  ⟨Obj.clientBlockDrops, 2, 1, 0, 63, .u32, .ro, 0, 255, [0], 0, 4294967295, false⟩,
  ⟨Obj.laneRate, 4, 1, 0, 7, .u8, .rw, 0, 2, [0], 0, 5, false⟩,
  ⟨Obj.laneTxClock, 4, 1, 0, 7, .u8, .rw, 0, 2, [0], 0, 1, false⟩,
  ⟨Obj.lanePolarity, 4, 1, 0, 7, .u8, .rw, 0, 2, [0], 0, 3, false⟩,
  ⟨Obj.laneTxFfe, 4, 1, 0, 7, .table, .rw, 0, 2, [0], 0, 0, false⟩,
  ⟨Obj.laneRxPinDelay, 4, 1, 0, 7, .i16, .rw, 0, 2, [0], -5000, 5000, false⟩,
  ⟨Obj.laneTxPinDelay, 4, 1, 0, 7, .i16, .rw, 0, 2, [0], -5000, 5000, false⟩,
  ⟨Obj.laneTest, 4, 1, 0, 7, .u8, .rw, 0, 2, [0], 0, 5, false⟩,
  ⟨Obj.lanePattern, 4, 1, 0, 7, .u8, .rw, 0, 2, [0], 0, 6, false⟩,
  ⟨Obj.laneInject, 4, 1, 0, 7, .u32, .rws, 255, 2, [0], 0, 4294967295, false⟩,
  ⟨Obj.laneState, 4, 1, 0, 7, .u8, .ro, 0, 255, [0], 0, 6, false⟩,
  ⟨Obj.laneCheckBits, 4, 1, 0, 7, .u64, .ro, 0, 255, [0], 0, 18446744073709551615, false⟩,
  ⟨Obj.laneCheckErrors, 4, 1, 0, 7, .u64, .ro, 0, 255, [0], 0, 18446744073709551615, false⟩]

/-- Dictionary rows of subsystem 7h, part 2. -/
def dict7b : List DictRow := [
  ⟨Obj.laneSymbolErrors, 4, 1, 0, 7, .u64, .ro, 0, 255, [0], 0, 18446744073709551615, false⟩,
  ⟨Obj.lanePreFecBer, 4, 1, 0, 7, .f32, .ro, 0, 255, [0], 0, 4294967295, false⟩,
  ⟨Obj.laneRxPpm, 4, 1, 0, 7, .i32, .ro, 0, 255, [0], -2147483648, 2147483647, false⟩,
  ⟨Obj.quadRefState, 4, 1, 0, 0, .u8, .ro, 0, 255, [0], 0, 2, false⟩]

/-- Dictionary rows of subsystem 8h. -/
def dict8a : List DictRow := [
  ⟨Obj.rollInterval, 1, 1, 0, 0, .u32, .rw, 0, 2, [36000000], 600000, 100000000, true⟩,
  ⟨Obj.cipherLedger, 1, 1, 0, 0, .f32, .ro, 0, 255, [0], 0, 4294967295, false⟩,
  ⟨Obj.contextEnable, 1, 1, 0, 63, .bool, .rws, 0, 3, [1], 0, 1, false⟩,
  ⟨Obj.linkIdentity, 2, 1, 0, 0, .octets, .ro, 0, 255, [0], 0, 0, false⟩,
  ⟨Obj.rootId, 2, 1, 0, 0, .u64, .ro, 0, 255, [0], 0, 18446744073709551615, false⟩,
  ⟨Obj.contextRoll, 2, 1, 0, 0, .u8, .wo, 255, 2, [0], 0, 64, false⟩,
  ⟨Obj.txContextState, 2, 1, 0, 64, .u8, .ro, 0, 255, [0], 0, 4, false⟩,
  ⟨Obj.rxContextState, 2, 1, 0, 64, .u8, .ro, 0, 255, [0], 0, 4, false⟩,
  ⟨Obj.txEpoch, 2, 1, 0, 64, .u16, .ro, 0, 255, [0], 0, 65535, false⟩,
  ⟨Obj.rxEpoch, 2, 1, 0, 64, .u16, .ro, 0, 255, [0], 0, 65535, false⟩,
  ⟨Obj.txCellCounter, 2, 1, 0, 64, .u64, .ro, 0, 255, [0], 0, 1099511627776, false⟩,
  ⟨Obj.rxCellCounter, 2, 1, 0, 64, .u64, .ro, 0, 255, [0], 0, 1099511627776, false⟩,
  ⟨Obj.authFailCount, 2, 1, 0, 64, .u64, .ro, 0, 255, [0], 0, 18446744073709551615, false⟩,
  ⟨Obj.inverseMismatchCount, 2, 1, 0, 64, .u32, .ro, 0, 255, [0], 0, 4294967295, false⟩,
  ⟨Obj.rollCount, 2, 1, 0, 64, .u32, .ro, 0, 255, [0], 0, 4294967295, false⟩,
  ⟨Obj.rollCancelCount, 2, 1, 0, 0, .u32, .ro, 0, 255, [0], 0, 4294967295, false⟩,
  ⟨Obj.maintenanceCount, 2, 1, 0, 64, .u64, .ro, 0, 255, [0], 0, 18446744073709551615, false⟩,
  ⟨Obj.desyncCount, 2, 1, 0, 64, .u32, .ro, 0, 255, [0], 0, 4294967295, false⟩]

/-- Dictionary rows of subsystem 9h. -/
def dict9a : List DictRow := [
  ⟨Obj.bootState, 1, 1, 0, 0, .u8, .ro, 0, 255, [0], 0, 4, false⟩,
  ⟨Obj.imageStatus, 1, 1, 0, 11, .u8, .ro, 0, 255, [0], 0, 5, false⟩,
  ⟨Obj.rollbackFloor, 1, 1, 1, 6, .u8, .rw, 0, 3, [0], 0, 63, false⟩,
  ⟨Obj.ownerKeyEnrol, 1, 1, 0, 0, .octets, .wo, 255, 3, [0], 0, 0, false⟩,
  ⟨Obj.ownerKeyDigest, 1, 1, 0, 0, .octets, .ro, 0, 255, [0], 0, 0, false⟩,
  ⟨Obj.deviceSerial, 1, 1, 0, 0, .octets, .ro, 0, 255, [0], 0, 0, false⟩,
  ⟨Obj.identityCert, 1, 1, 0, 0, .octets, .ro, 0, 255, [0], 0, 0, false⟩,
  ⟨Obj.quoteRequest, 1, 1, 0, 0, .table, .wo, 255, 1, [0], 0, 0, false⟩,
  ⟨Obj.quoteResult, 1, 1, 0, 0, .octets, .ro, 0, 255, [0], 0, 0, false⟩,
  ⟨Obj.attestReg, 1, 1, 0, 15, .octets, .ro, 0, 255, [0], 0, 0, false⟩,
  ⟨Obj.peerPolicy, 1, 1, 0, 0, .u8, .rw, 0, 3, [0], 0, 1, false⟩,
  ⟨Obj.rootInterval, 1, 1, 0, 0, .u32, .rw, 0, 2, [864000000], 36000000, 4000000000, true⟩,
  ⟨Obj.rekeyRoot, 1, 1, 0, 0, .u8, .wo, 255, 2, [0], 0, 1, false⟩,
  ⟨Obj.slotInfo, 1, 1, 0, 255, .table, .ro, 0, 255, [0], 0, 0, false⟩,
  ⟨Obj.slotPublic, 1, 1, 0, 255, .octets, .ro, 0, 255, [0], 0, 0, false⟩,
  ⟨Obj.slotWrite, 1, 1, 0, 0, .table, .wo, 255, 3, [0], 0, 0, false⟩,
  ⟨Obj.slotErase, 1, 1, 0, 0, .u8, .wo, 255, 3, [0], 32, 255, false⟩,
  ⟨Obj.queueDepth, 1, 1, 0, 2, .u16, .ro, 0, 255, [0], 0, 3072, false⟩,
  ⟨Obj.compareMismatchCount, 1, 1, 0, 0, .u32, .ro, 0, 255, [0], 0, 4294967295, false⟩,
  ⟨Obj.unitState, 1, 1, 0, 3, .u8, .ro, 0, 255, [0], 0, 2, false⟩,
  ⟨Obj.requestFailCount, 1, 1, 0, 12, .u32, .ro, 0, 255, [0], 0, 4294967295, false⟩,
  ⟨Obj.agreementState, 2, 1, 0, 0, .u8, .ro, 0, 255, [0], 0, 5, false⟩,
  ⟨Obj.peerSerial, 2, 1, 0, 0, .octets, .ro, 0, 255, [0], 0, 0, false⟩,
  ⟨Obj.agreementCount, 2, 1, 0, 0, .u32, .ro, 0, 255, [0], 0, 4294967295, false⟩,
  ⟨Obj.agreementFailCount, 2, 1, 0, 0, .u32, .ro, 0, 255, [0], 0, 4294967295, false⟩]

/-- Dictionary rows of subsystem Ah. -/
def dictAa : List DictRow := [
  ⟨Obj.avenueMode, 1, 1, 0, 0, .u8, .rws, 0, 2, [0], 0, 2, false⟩,
  ⟨Obj.reorderWindow, 1, 1, 0, 0, .u16, .rw, 0, 2, [64], 0, 65535, false⟩,
  ⟨Obj.twinRelease, 1, 1, 0, 0, .u8, .rw, 0, 2, [0], 0, 1, false⟩,
  ⟨Obj.preferredAvenue, 1, 1, 0, 0, .u8, .rw, 0, 2, [0], 0, 1, false⟩,
  ⟨Obj.spareRevert, 1, 1, 0, 0, .bool, .rw, 0, 2, [0], 0, 1, false⟩,
  ⟨Obj.spareWaitToRestore, 1, 1, 0, 0, .u16, .rw, 0, 2, [300], 10, 3600, false⟩,
  ⟨Obj.spareHoldOff, 1, 1, 0, 0, .u16, .rw, 0, 2, [0], 0, 1000, false⟩,
  ⟨Obj.avenueCommand, 1, 1, 0, 0, .table, .wo, 255, 2, [0], 0, 0, false⟩,
  ⟨Obj.avenueState, 1, 1, 0, 0, .u8, .ro, 0, 255, [0], 0, 7, false⟩,
  ⟨Obj.carryingAvenue, 1, 1, 0, 0, .u8, .ro, 0, 255, [0], 0, 3, false⟩,
  ⟨Obj.pathDelayDiff, 1, 1, 0, 0, .i32, .ro, 0, 255, [0], -2147483648, 2147483647, false⟩,
  ⟨Obj.takeoverCount, 1, 1, 0, 0, .u32, .ro, 0, 255, [0], 0, 4294967295, false⟩,
  ⟨Obj.lastGap, 1, 1, 0, 0, .u32, .ro, 0, 255, [0], 0, 4294967295, false⟩,
  ⟨Obj.keeperAddress, 1, 1, 0, 0, .u16, .ro, 0, 255, [65535], 0, 65535, false⟩,
  ⟨Obj.keeperRole, 1, 1, 0, 0, .u8, .ro, 0, 255, [0], 0, 2, false⟩,
  ⟨Obj.keeperEligible, 1, 1, 0, 0, .bool, .rw, 0, 3, [1], 0, 1, false⟩,
  ⟨Obj.keeperOrderCount, 1, 1, 0, 0, .u32, .ro, 0, 255, [0], 0, 4294967295, false⟩,
  ⟨Obj.groupBusState, 1, 1, 0, 0, .u8, .ro, 0, 255, [0], 0, 3, false⟩,
  ⟨Obj.groupValidMask, 1, 1, 0, 0, .u32, .ro, 0, 255, [0], 0, 4294967295, false⟩,
  ⟨Obj.groupMember, 1, 1, 0, 31, .table, .ro, 0, 255, [0], 0, 0, false⟩,
  ⟨Obj.groupLeave, 1, 1, 0, 0, .u8, .wo, 255, 3, [0], 1, 1, false⟩,
  ⟨Obj.groupMisstrapCount, 1, 1, 0, 0, .u32, .ro, 0, 255, [0], 0, 4294967295, false⟩,
  ⟨Obj.groupCrcErrors, 1, 1, 0, 0, .u32, .ro, 0, 255, [0], 0, 4294967295, false⟩,
  ⟨Obj.duplicateAddress, 1, 1, 0, 0, .bool, .ro, 0, 255, [0], 0, 1, false⟩,
  ⟨Obj.duplicateDiscards, 1, 1, 0, 63, .u64, .ro, 0, 255, [0], 0, 18446744073709551615, false⟩,
  ⟨Obj.lateCopyCount, 1, 1, 0, 63, .u64, .ro, 0, 255, [0], 0, 18446744073709551615, false⟩,
  ⟨Obj.lostCellCount, 1, 1, 0, 63, .u64, .ro, 0, 255, [0], 0, 18446744073709551615, false⟩,
  ⟨Obj.releaseAvenue, 1, 1, 0, 63, .u8, .ro, 0, 255, [0], 0, 2, false⟩,
  ⟨Obj.rxView, 2, 1, 0, 0, .u8, .ro, 0, 255, [3], 0, 3, false⟩,
  ⟨Obj.farView, 2, 1, 0, 0, .u8, .ro, 0, 255, [3], 0, 3, false⟩]

/-- Dictionary rows of subsystem Bh. -/
def dictBa : List DictRow := [
  ⟨Obj.scrubPeriod, 1, 1, 0, 0, .u16, .rw, 0, 2, [10], 2, 600, true⟩,
  ⟨Obj.scrubPassTime, 1, 1, 0, 0, .u32, .ro, 0, 255, [0], 0, 4294967295, false⟩,
  ⟨Obj.correctedTotal, 1, 1, 0, 0, .u64, .ro, 0, 255, [0], 0, 18446744073709551615, false⟩,
  ⟨Obj.poisonTotal, 1, 1, 0, 0, .u32, .ro, 0, 255, [0], 0, 4294967295, false⟩,
  ⟨Obj.sramTrendAlarm, 1, 1, 0, 0, .u16, .rw, 0, 2, [16], 1, 10000, false⟩,
  ⟨Obj.sramSelect, 1, 1, 0, 0, .u16, .rw, 0, 2, [0], 0, 1535, false⟩,
  ⟨Obj.sramBankInfo, 1, 1, 0, 0, .table, .ro, 0, 255, [0], 0, 0, false⟩,
  ⟨Obj.sramRetire, 1, 1, 0, 0, .u16, .rws, 255, 3, [0], 0, 1407, false⟩,
  ⟨Obj.repairBanksFree, 1, 1, 0, 0, .u8, .ro, 0, 255, [8], 0, 8, false⟩,
  ⟨Obj.retentionInfo, 1, 1, 0, 15, .table, .ro, 0, 255, [0], 0, 0, false⟩,
  ⟨Obj.retentionRetire, 1, 1, 0, 0, .u8, .rws, 255, 3, [0], 0, 10, false⟩,
  ⟨Obj.icehouseState, 1, 1, 0, 0, .u8, .ro, 0, 255, [0], 0, 3, false⟩,
  ⟨Obj.mountTime, 1, 1, 0, 0, .u32, .ro, 0, 255, [0], 0, 4294967295, false⟩,
  ⟨Obj.regionInfo, 1, 1, 0, 5, .table, .ro, 0, 255, [0], 0, 0, false⟩,
  ⟨Obj.reserveFree, 1, 1, 0, 0, .u16, .ro, 0, 255, [0], 0, 128, false⟩,
  ⟨Obj.blockSelect, 1, 1, 0, 0, .u16, .rw, 0, 2, [0], 0, 3967, false⟩,
  ⟨Obj.blockInfo, 1, 1, 0, 0, .table, .ro, 0, 255, [0], 0, 0, false⟩,
  ⟨Obj.blockRetire, 1, 1, 0, 0, .u16, .rws, 255, 3, [0], 16, 3967, false⟩,
  ⟨Obj.blockRestore, 1, 1, 0, 0, .u16, .wo, 255, 3, [0], 16, 3967, false⟩,
  ⟨Obj.refreshPeriod, 1, 1, 0, 0, .u16, .rw, 0, 2, [30], 1, 365, true⟩,
  ⟨Obj.ignoredRecordCount, 1, 1, 0, 0, .u32, .ro, 0, 255, [0], 0, 4294967295, false⟩,
  ⟨Obj.logDropCount, 1, 1, 0, 0, .u32, .ro, 0, 255, [0], 0, 4294967295, false⟩]

/-- Dictionary rows of subsystem Ch. -/
def dictCa : List DictRow := [
  ⟨Obj.svcInputScale, 1, 1, 0, 47, .f32, .ro, 0, 255, [869711765, 869711765, 869711765, 869711765, 869711765, 869711765, 869711765, 869711765, 925353388, 925353388, 925353388, 925353388, 953267991, 953267991, 953267991, 953267991, 1008981770, 1008981770, 1008981770, 1008981770, 1008981770, 1008981770, 1008981770, 1008981770, 1008981770, 1008981770, 1008981770, 1008981770, 956502639, 956502639, 956502639, 956502639, 956502639, 956502639, 956502639, 956502639, 956502639, 956502639, 956502639, 956502639, 956502639, 956502639, 956502639, 956502639, 992204554, 985963430, 956502639, 956502639], 0, 4294967295, false⟩,
  ⟨Obj.regularEntry, 1, 1, 0, 63, .u32, .rw, 0, 2, [1048576, 68157440, 135266304, 202375168, 269484032, 336592896, 403701760, 470810624, 537919488, 605028352, 672137216, 739246080, 806354944, 873463808, 940572672, 1007681536, 1074790400, 1141899264, 1209008128, 1276116992, 1343225856, 1410334720, 1477443584, 1544552448, 1611661312, 1678770176, 1745879040, 1812987904, 1880096768, 1947205632, 2014314496, 2081423360, 2148532224, 2215641088, 2282749952, 2349858816, 2416967680, 2484076544, 2551185408, 2618294272, 2685403136, 2752512000, 2819620864, 2886729728, 2953838592, 3020947456, 3088056320, 3155165184, 0], 0, 4294967295, false⟩,
  ⟨Obj.userLength, 1, 1, 0, 0, .u8, .rw, 0, 2, [0], 0, 16, false⟩,
  ⟨Obj.injectEntry, 1, 1, 0, 7, .u32, .rw, 0, 2, [0], 0, 4294967295, false⟩,
  ⟨Obj.injectLength, 1, 1, 0, 0, .u8, .rw, 0, 2, [0], 0, 8, false⟩,
  ⟨Obj.injectNow, 1, 1, 0, 0, .bool, .wo, 255, 2, [0], 1, 1, false⟩,
  ⟨Obj.injectTrigger, 1, 1, 0, 0, .bool, .rws, 0, 2, [0], 1, 1, false⟩,
  ⟨Obj.comparator, 1, 1, 0, 3, .u32, .rw, 0, 2, [0], 0, 4294967295, false⟩,
  ⟨Obj.comparatorState, 1, 1, 0, 3, .u8, .ro, 0, 255, [0], 0, 2, false⟩,
  ⟨Obj.comparatorFireCount, 1, 1, 0, 3, .u32, .ro, 0, 255, [0], 0, 4294967295, false⟩,
  ⟨Obj.svcAccum, 1, 1, 0, 71, .table, .ro, 0, 255, [0], 0, 0, false⟩,
  ⟨Obj.svcAccumClear, 1, 1, 0, 0, .u8, .wo, 255, 1, [0], 1, 1, false⟩,
  ⟨Obj.passLateCount, 1, 1, 0, 0, .u32, .ro, 0, 255, [0], 0, 4294967295, false⟩,
  ⟨Obj.injectRunCount, 1, 1, 0, 0, .u32, .ro, 0, 255, [0], 0, 4294967295, false⟩,
  ⟨Obj.injectMissCount, 1, 1, 0, 0, .u32, .ro, 0, 255, [0], 0, 4294967295, false⟩,
  ⟨Obj.passTime, 1, 1, 0, 0, .u32, .ro, 0, 255, [0], 0, 4294967295, false⟩,
  ⟨Obj.frontGain, 2, 1, 0, 0, .u8, .rw, 0, 2, [6], 0, 12, false⟩,
  ⟨Obj.frontOverRangeCount, 2, 1, 0, 0, .u64, .ro, 0, 255, [0], 0, 18446744073709551615, false⟩,
  ⟨Obj.tfeRun, 1, 1, 0, 7, .bool, .rw, 0, 2, [1, 1, 1, 1, 1, 1, 0], 0, 1, false⟩,
  ⟨Obj.tfeInput, 1, 1, 6, 7, .u8, .rw, 0, 2, [0], 0, 1, false⟩,
  ⟨Obj.tfeFilter, 1, 1, 0, 7, .u8, .rw, 0, 2, [3, 3, 4, 4, 1, 1, 0], 0, 255, false⟩,
  ⟨Obj.tfeCoeff, 1, 1, 6, 7, .table, .rw, 0, 2, [0], 0, 0, false⟩,
  ⟨Obj.tfeSettling, 1, 1, 0, 7, .u16, .ro, 0, 255, [192, 192, 5, 5, 63, 63, 8], 0, 65535, false⟩,
  ⟨Obj.tfeUnsettledCount, 1, 1, 0, 7, .u64, .ro, 0, 255, [0], 0, 18446744073709551615, false⟩,
  ⟨Obj.tfeDetWindow, 1, 1, 4, 7, .u32, .rw, 0, 2, [80000], 16, 1000000, true⟩,
  ⟨Obj.tfeEnvelopeTc, 1, 1, 4, 7, .u32, .rw, 0, 2, [8000], 1, 1000000, true⟩,
  ⟨Obj.tfePeak, 1, 1, 4, 7, .i16, .ro, 0, 255, [0], -32768, 32767, false⟩,
  ⟨Obj.tfeRms, 1, 1, 4, 7, .f32, .ro, 0, 255, [0], 0, 4294967295, false⟩,
  ⟨Obj.tfeEnvelope, 1, 1, 4, 7, .i16, .ro, 0, 255, [0], -32768, 32767, false⟩,
  ⟨Obj.tfeSkew, 1, 1, 0, 0, .u32, .ro, 0, 255, [1562500], 0, 4294967295, false⟩]

/-- Dictionary rows of subsystem Dh. -/
def dictDa : List DictRow := [
  ⟨Obj.footpathEnable, 2, 1, 0, 0, .bool, .rw, 0, 2, [1], 0, 1, false⟩,
  ⟨Obj.footpathTone, 2, 1, 0, 0, .u8, .rw, 0, 2, [255], 0, 255, false⟩,
  ⟨Obj.footpathToneInUse, 2, 1, 0, 0, .u8, .ro, 0, 255, [0], 0, 63, false⟩,
  ⟨Obj.footpathDepth, 2, 1, 0, 0, .u16, .rw, 0, 2, [100], 25, 400, true⟩,
  ⟨Obj.syncTolerance, 2, 1, 0, 0, .u8, .rw, 0, 2, [3], 0, 6, false⟩,
  ⟨Obj.detectMargin, 2, 1, 0, 0, .u8, .rw, 0, 2, [100], 60, 200, false⟩,
  ⟨Obj.footpathRxState, 2, 1, 0, 0, .u8, .ro, 0, 255, [0], 0, 4, false⟩,
  ⟨Obj.noiseFloor, 2, 1, 0, 63, .i16, .ro, 0, 255, [-600], -32768, 32767, false⟩,
  ⟨Obj.lastRxLevel, 2, 1, 0, 0, .i16, .ro, 0, 255, [0], -32768, 32767, false⟩,
  ⟨Obj.lastRxSnr, 2, 1, 0, 0, .i16, .ro, 0, 255, [0], -32768, 32767, false⟩,
  ⟨Obj.neighbour, 2, 1, 0, 0, .table, .ro, 0, 255, [0], 0, 0, false⟩,
  ⟨Obj.footpathSend, 2, 1, 0, 0, .table, .wo, 255, 2, [0], 0, 0, false⟩,
  ⟨Obj.footpathReceive, 2, 1, 0, 0, .table, .ro, 0, 255, [0], 0, 0, false⟩,
  ⟨Obj.rxPacketCount, 2, 1, 0, 0, .u32, .ro, 0, 255, [0], 0, 4294967295, false⟩,
  ⟨Obj.txPacketCount, 2, 1, 0, 0, .u32, .ro, 0, 255, [0], 0, 4294967295, false⟩,
  ⟨Obj.falseDetectCount, 2, 1, 0, 0, .u32, .ro, 0, 255, [0], 0, 4294967295, false⟩,
  ⟨Obj.headerFailCount, 2, 1, 0, 0, .u32, .ro, 0, 255, [0], 0, 4294967295, false⟩,
  ⟨Obj.crcFailCount, 2, 1, 0, 0, .u32, .ro, 0, 255, [0], 0, 4294967295, false⟩,
  ⟨Obj.lostToStrongerCount, 2, 1, 0, 0, .u32, .ro, 0, 255, [0], 0, 4294967295, false⟩,
  ⟨Obj.echoCount, 2, 1, 0, 0, .u32, .ro, 0, 255, [0], 0, 4294967295, false⟩,
  ⟨Obj.notForUsCount, 2, 1, 0, 0, .u32, .ro, 0, 255, [0], 0, 4294967295, false⟩,
  ⟨Obj.formatErrorCount, 2, 1, 0, 0, .u32, .ro, 0, 255, [0], 0, 4294967295, false⟩,
  ⟨Obj.txDropCount, 2, 1, 0, 0, .u32, .ro, 0, 255, [0], 0, 4294967295, false⟩]

/-- Dictionary rows of subsystem Eh. -/
def dictEa : List DictRow := [
  ⟨Obj.sfnNow, 1, 1, 0, 0, .sfn64, .ro, 0, 255, [0], 0, 18446744073709551615, false⟩,
  ⟨Obj.timeQuality, 1, 1, 0, 0, .u8, .ro, 0, 255, [0], 0, 3, false⟩,
  ⟨Obj.timeUncertainty, 1, 1, 0, 0, .u32, .ro, 0, 255, [4294967295], 0, 4294967295, false⟩,
  ⟨Obj.entriesFree, 1, 1, 0, 0, .u16, .ro, 0, 255, [1024], 0, 1024, false⟩,
  ⟨Obj.lateCount, 1, 1, 0, 0, .u32, .ro, 0, 255, [0], 0, 4294967295, false⟩,
  ⟨Obj.missedCount, 1, 1, 0, 0, .u32, .ro, 0, 255, [0], 0, 4294967295, false⟩,
  ⟨Obj.movedCount, 1, 1, 0, 0, .u32, .ro, 0, 255, [0], 0, 4294967295, false⟩,
  ⟨Obj.droppedCount, 1, 1, 0, 0, .u32, .ro, 0, 255, [0], 0, 4294967295, false⟩,
  ⟨Obj.cancelEntry, 1, 1, 0, 0, .u16, .wo, 255, 1, [0], 0, 1023, false⟩,
  ⟨Obj.coordLeadMin, 2, 1, 0, 0, .u32, .ro, 0, 255, [8], 0, 4294967295, false⟩,
  ⟨Obj.rxBoundaryDelay, 2, 1, 0, 0, .u32, .ro, 0, 255, [0], 0, 4294967295, false⟩,
  ⟨Obj.roundTrip, 2, 1, 0, 0, .u32, .ro, 0, 255, [0], 0, 4294967295, false⟩,
  ⟨Obj.rxSfn, 2, 1, 0, 0, .sfn64, .ro, 0, 255, [0], 0, 18446744073709551615, false⟩,
  ⟨Obj.eventEntry, 4, 1, 0, 255, .octets, .ro, 0, 255, [0], 0, 0, false⟩]

/-- Dictionary rows of subsystem Fh. -/
def dictFa : List DictRow := [
  ⟨Obj.counterClear, 1, 1, 0, 0, .u16, .wo, 255, 1, [0], 0, 65535, false⟩,
  ⟨Obj.counterRange, 1, 1, 1, 64, .table, .rw, 0, 2, [0], 0, 0, false⟩,
  ⟨Obj.snapshotTrigger, 1, 1, 0, 0, .u8, .rws, 0, 1, [0], 0, 255, false⟩,
  ⟨Obj.snapshotPeriod, 1, 1, 0, 0, .u32, .rw, 0, 2, [0], 0, 4294967295, false⟩,
  ⟨Obj.snapshotLatest, 1, 1, 0, 0, .u8, .ro, 0, 255, [0], 0, 7, false⟩,
  ⟨Obj.snapshotData, 1, 1, 0, 7, .octets, .ro, 0, 255, [0], 0, 0, false⟩,
  ⟨Obj.snapshotOverwrites, 1, 1, 0, 0, .u32, .ro, 0, 255, [0], 0, 4294967295, false⟩,
  ⟨Obj.eventRecent, 1, 1, 0, 255, .octets, .ro, 0, 255, [0], 0, 0, false⟩,
  ⟨Obj.eventRecentNext, 1, 1, 0, 0, .u8, .ro, 0, 255, [0], 0, 255, false⟩,
  ⟨Obj.eventFetch, 1, 1, 0, 0, .u32, .wo, 255, 0, [0], 0, 4294967295, false⟩,
  ⟨Obj.eventFetched, 1, 1, 0, 0, .octets, .ro, 0, 255, [0], 0, 0, false⟩,
  ⟨Obj.counterValue, 8, 1, 0, 255, .u64, .ro, 0, 255, [0], 0, 18446744073709551615, false⟩,
  ⟨Obj.counterSelect, 8, 1, 0, 255, .u64, .rw, 0, 2, [281472829227008], 0, 18446744073709551615, false⟩]

/-- The rows of a subsystem nibble (R9). -/
def dictOf : Nat → List DictRow
  | 1 => dict1a ++ dict1b
  | 2 => dict2a
  | 3 => dict3a ++ dict3b
  | 4 => dict4a
  | 5 => dict5a ++ dict5b
  | 6 => dict6a
  | 7 => dict7a ++ dict7b
  | 8 => dict8a
  | 9 => dict9a
  | 10 => dictAa
  | 11 => dictBa
  | 12 => dictCa
  | 13 => dictDa
  | 14 => dictEa
  | 15 => dictFa
  | _ => []

/-- A row covers an object number: same item range, an instance from the first on. -/
def DictRow.covers (r : DictRow) (o : Nat) : Bool :=
  decide (r.base % 256 ≤ o % 256) && decide (o % 256 < r.base % 256 + r.items) &&
  decide (r.base / 256 ≤ o / 256) && decide (o / 256 < r.base / 256 + r.insts)

/-- The dictionary row of an object, if it exists (0101h otherwise, R510). -/
def dictRow (o : Nat) : Option DictRow := (dictOf (o / 4096)).find? (fun r => r.covers o)

/-- Factory default of a member (R18), as a number. -/
def DictRow.default (r : DictRow) (m : Nat) : Int :=
  nth r.dflt (m - r.memLo) (r.dflt.getLastD 0)

/-- The key of an object's member in the object store. -/
def okey (o m : Nat) : Nat := o * 256 + m

/-- Factory default of a key (R18); 0 where no object stands. -/
def factoryNum (k : Nat) : Int :=
  match dictRow (k / 256) with
  | some r => r.default (k % 256)
  | none => 0

/-- Factory default octets of the objects that carry octets (R18, and the tables named there). -/
def factoryOcts (k : Nat) : List Byte :=
  let o := k / 256
  if o == Obj.deviceSerial then Config.factoryOctets k 16 else
  if o == Obj.identityCert then Config.factoryOctets k 3105 else
  if o == Obj.domainGroup then [0xFF, 0x08, 0x00, 0x00, 0x00, 0x00, 0x00, 0x00, 0x00, 0x00, 0x00, 0x00, 0x54, 0x48, 0x36, 0x34] else
  if o % 256 == 0x04 && decide (0x73 ≤ o / 256) && decide (o / 256 < 0x77) then [0x00, 0x01, 0x00, 0xFC, 0x38, 0xF8] else
  if o == Obj.mgAddress then List.replicate 17 0 else
  if o == Obj.counterRange then [0x00, 0x01, 0x00, 0x00, 0x00, 0x00, 0x00, 0x00, 0x00, 0x00, 0x00] else
  if o == Obj.ownerKeyDigest then List.replicate 64 0 else
  if o == Obj.attestReg then List.replicate 64 0 else
  if o % 256 == 0x01 && decide (0x81 ≤ o / 256) && decide (o / 256 < 0x83) then List.replicate 16 0 else
  if o % 256 == 0x31 && decide (0x91 ≤ o / 256) && decide (o / 256 < 0x93) then List.replicate 16 0 else
  if o == Obj.tfeCoeff then List.replicate 2 0 else
  []

end Sys2Proof
end

