-- ==== Sys2Proof/Machine/Types.lean ====
section
/-! DEFINITION. The parts of the machine's state, one group per chapter of the spec. A quantity that the dictionary
shows as a scalar object has its home in the object store (`Store`); the structures here hold what the spec gives the
machine beside those objects, and the tables and rings that objects only show. -/

namespace Sys2Proof.Machine

/-! ## Object values (R9, R18) -/

/-- One layer of object values, keyed object × 256 + member, keys strictly rising: numbers (an F32 as its raw
image), and octets. -/
structure Store where
  nums : List (Nat × Int)
  octs : List (Nat × List Byte)
  deriving DecidableEq, Repr

/-! ## Superframe time and the Sundial (02_superframe_and_sundial.md) -/

/-- The kinds of event of R52; code and rank are the position in this list, from 1. -/
inductive Kind where
  | snapshot | modeChange | plannedSwitch | imageActivation | loadingChange | mapChange | contextSwitch | keyRoll
  | sliceSwap | calWindow | scheduledWrite | injectTrigger | domainWake
  deriving DecidableEq, Repr

/-- The states of an entry, R40 W3 21..19. A free entry is one that is not in the list. -/
inductive EntrySt where
  | armed | proposed | agreed | pendingLate
  deriving DecidableEq, Repr

/-- One Sundial entry (R38, R40). `write` groups the entries of one write (R513), 0 for engine-generated; `asker` is the
AOP operation still waiting for its response (R46); `prop` the proposal number (R205); `data` and `val` what the
entry carries out. -/
structure Entry where
  num     : Nat
  kind    : Kind
  coord   : Bool
  count   : SCount
  carrier : Option Carrier
  st      : EntrySt
  src     : Nat
  late    : Bool
  moves   : Nat
  symbols : Bool
  offset  : Nat
  sfn     : Nat
  orig    : Nat
  key     : Nat
  obj     : Nat
  mem     : Nat
  val     : Val
  data    : List Nat
  write   : Nat
  role    : Option Nat
  asker   : Option Requester
  prop    : Nat
  dir     : Dir
  deriving DecidableEq, Repr

/-- The time base and the Sundial (R33, R38, R59 to R62). `withhold` counts boundaries that a step back withholds
(R61); `sleepFrom` is the instant the sleep counter started (R60); `anchored` says the first anchor is done (R62);
`nextProp` is the number of this engine's next proposal (R154). -/
structure Clock where
  sfn       : Nat
  tick      : Nat
  withhold  : Nat
  anchored  : Bool
  sleepFrom : Option Nat
  entries   : List Entry
  nextWrite : Nat
  nextProp  : Nat
  deriving DecidableEq, Repr

/-! ## Event log, Bandstand and alert (19_bandstand_counters.md, R573) -/

/-- One event record of R534. -/
structure EventRec where
  code    : Nat
  carrier : Nat
  flags   : Nat
  seq     : Nat
  sfn     : Nat
  tick    : Nat
  data    : List Byte
  deriving DecidableEq, Repr

/-- One counter that is not in its default state (R523, R524): number, select word in force, count and bits. -/
structure Ctr where
  n         : Nat
  select    : Nat
  count     : Nat
  overflow  : Bool
  restarted : Bool
  deriving DecidableEq, Repr

/-- One snapshot (R531, R532): its buffer, header fields, the counters held, sparse, words found poisoned, and when a
copy that found no ICE is tried again. -/
structure Snap where
  buffer  : Nat
  number  : Nat
  sfn     : Nat
  tick    : Nat
  quality : Nat
  flags   : Nat
  entry   : Nat
  actual  : Nat
  values  : List Ctr
  bad     : List Nat
  retryAt : Option Nat
  deriving DecidableEq, Repr

/-- Event log and Bandstand. `ring` is newest first; `waiting` are the records not yet written to the log region, oldest
first (R535, R491). `pendSelect` are selects and clears for the next boundary (R526), a clear without a select, key
65535 for all; `pendRange` the ranges. `latch` are snapshots that wait their 200 ns (R531). `alerting` is the Sequence
of the latest alerting record (R573). `limiter` serves events that are logged at most once in a time. -/
structure Diag where
  ring       : List EventRec
  ringNext   : Nat
  nextSeq    : Nat
  waiting    : List EventRec
  ctrs       : List Ctr
  pendSelect : List (Nat × Option Nat)
  ranges     : List (Nat × Nat × Nat × Nat)
  pendRange  : List (Nat × Nat × Nat × Nat)
  latch      : List Snap
  snaps      : List Snap
  snapCount  : Nat
  snapNext   : Nat
  alerting   : Option Nat
  limiter    : List (Nat × Nat)
  deriving DecidableEq, Repr

/-! ## Power domains and the Allotment (16_power_and_allotment.md) -/

/-- The states of a power domain, `DomainState` (R469). -/
inductive DomSt where
  | off | entering | waking | awake
  deriving DecidableEq, Repr

/-- One power domain (R448): state, the SFN of its last access, the instant its wake was granted or its sleep entry
began and the instant step 4 of that entry begins (R451), in 0.01 ps, whether an access waits for the end of the entry,
and the refusal counts of R452 (refused, then aborted). -/
structure Dom where
  st       : DomSt
  access   : Nat
  since    : Nat
  iso      : Nat
  wakeNext : Bool
  refused  : List Nat
  aborted  : List Nat
  deriving DecidableEq, Repr

/-- One activity in the ledger (R456): activity code, item, cost in microwatts. -/
structure LedgerItem where
  act  : Nat
  item : Nat
  cost : Nat
  deriving DecidableEq, Repr

/-- A write to a sleeping domain's objects that waits for its wake (R450). -/
structure HeldWrite where
  dom : Nat
  obj : Nat
  mem : Nat
  val : Val
  deriving DecidableEq, Repr

/-- Supply, domains and ledger. Powers in microwatts, VIN in half millivolts, IIN in tenths of a milliampere, both as
SVC2 last read them: `vinKnown` that it did since the start, `passes` the powers of the usable passes of this SF (R457). `vinState` is 0 while VIN lies in 6.0 to 60.0 V, 1
below and 2 above, since `vinSince`, with the extreme met (R566).
`drift` holds the (SFN, M − L) pairs that can still be the largest of the last 10,000 SF, oldest first (R457).
`aboveRun`, `belowRun`, `groupShed` and `shedPos` serve R461 and R464. -/
structure Power where
  on          : Bool
  aonOn       : Bool
  pgood       : Bool
  latched     : Bool
  vin         : Nat
  iin         : Nat
  vinKnown    : Bool
  passes      : List Nat
  vinState    : Nat
  vinExtreme  : Nat
  vinSince    : Nat
  doms        : List Dom
  ledger      : List LedgerItem
  measured    : Nat
  haveM       : Bool
  recentM     : List Nat
  noPassRun   : Nat
  mInvalid    : Bool
  drift       : List (Nat × Int)
  frozenD     : Nat
  peak        : Nat
  aboveRun    : Nat
  belowRun    : Nat
  shedPos     : Nat
  shedAt      : Option Nat
  groupShed   : List (Option Nat)
  unresolved  : Bool
  newCeiling  : Option Nat
  oldCeiling  : Option (Nat × Nat)
  shedCheck   : Bool
  keepAlive   : Bool
  kaSince     : Nat
  alarm       : Option Nat
  tripped     : Bool
  tripPeak    : Int
  caseHot     : Bool
  held        : List HeldWrite
  deriving DecidableEq, Repr

/-! ## SRAM and the Icehouse (17_memory_and_icehouse.md) -/

/-- What the engine keeps of one SRAM bank (R474, R478, R494): corrected, uncorrectable and parity errors, the SFNs
of corrected errors of the last 24 h, the last SFN a trend alarm was logged, and its retirement state. -/
structure BankInfo where
  bank      : Nat
  corrected : Nat
  uncorr    : Nat
  parity    : Nat
  recent    : List Nat
  alarmAt   : Option Nat
  state     : Nat
  repair    : Nat
  deriving DecidableEq, Repr

/-- One retention bank (R479 to R481): the bank of R479 whose contents it holds, the domain it serves, 0 for none, state
code of `RetentionInfo`, last CRC and losses. -/
structure RetBank where
  role  : Nat
  dom   : Nat
  state : Nat
  crc   : Nat
  lost  : Nat
  deriving DecidableEq, Repr

/-- A record of the Icehouse (R485). `pages` counts header to digest, `blocks` are the blocks that its pages and marker
lie in, in order; `committed` that its marker stands; `ignored` why a mount ignored it (R486): 1 no marker, 2 marker
mismatch, 3 digest, 4 uncorrectable. -/
structure IceRec where
  typ       : Nat
  region    : Nat
  subject   : Nat
  seq       : Nat
  sfn       : Nat
  payload   : List Byte
  firstPage : Nat
  pages     : Nat
  blocks    : List Nat
  committed : Bool
  ignored   : Nat
  deriving DecidableEq, Repr

/-- A record write in progress or waiting (R484): the record, pages already programmed, the AOP operation that waits
for the marker, and whether it is a copy of a record that stands (R489, R490). -/
structure IceJob where
  recd  : IceRec
  done  : Nat
  asker : Option Requester
  copy  : Bool
  deriving DecidableEq, Repr

/-- One logical block that is not in its factory state (R494). -/
structure BlockSt where
  block     : Nat
  state     : Nat
  physical  : Nat
  erases    : Nat
  maxCorr   : Nat
  progFails : Nat
  eraFails  : Nat
  lastErase : Nat
  erased    : Bool
  wornLogged : Bool
  deriving DecidableEq, Repr

/-- SRAM and store. `sram` holds the octets of the 384 MiB that differ from zero, keyed by byte address in canonical
form (R471, R473); `poison` the addresses of words that are poisoned and what they hold (R474), of which those with an
owner's reload ahead wait for it (R476). `writeAt` is the next page of each write space (R484 to R490): regions 0 to 5,
then image slots 0 to 11; none where the next write starts a fresh block. `erasing` are blocks being erased, `moving`
blocks being relocated with the Sequences still to be committed (R489). `dropped` are log records dropped and not yet
logged. `retireDue` is when a retirement record that found no ICE is tried again. `retireBlocks` are moved blocks that retire once
their records are committed again (R493). `nand` holds the programmed sectors by sector number, encrypted, and `lastRead`
the sectors of the last page read, decrypted (R483). -/
structure Mem where
  sram       : List (Nat × Byte)
  poison     : List (Nat × Content)
  banks      : List BankInfo
  ret        : List RetBank
  repairs    : Nat
  recs       : List IceRec
  queue      : List IceJob
  blocks     : List BlockSt
  writeAt    : List (Option Nat)
  nextSeq    : List Nat
  fullRegions : List Nat
  erasing    : List Nat
  moving     : List (Nat × List Nat)
  reserve    : Nat
  refreshAt  : Nat
  scrubAt    : Nat
  retireDue  : Option Nat
  retireBlocks : List Nat
  nand       : List (Nat × List Byte)
  lastRead   : List (Nat × List Byte)
  deriving DecidableEq, Repr

/-! ## Object dictionary and AOP (18_object_dictionary.md) -/

/-- A session of R507 to R509. `role` is the role granted, once `proved`; `kept` the responses kept by Sequence, newest
first, at most 16. -/
structure Session where
  id          : Nat
  transport   : Fin 5
  source      : Nat
  port        : Nat
  requested   : Nat
  keySlot     : Nat
  hostNonce   : List Byte
  engineNonce : List Byte
  proved      : Bool
  role        : Nat
  opened      : Nat
  last        : Nat
  highSeq     : Nat
  kept        : List (Nat × List Byte)
  deriving DecidableEq, Repr

/-- One operation of a message (R500): header fields, target block, value octets. -/
structure AopOp where
  op     : Nat
  form   : Nat
  obj    : Nat
  mem    : Nat
  offset : Nat
  sfn    : Nat
  offW   : Nat
  value  : List Byte
  deriving DecidableEq, Repr

/-- A message in the Gatehouse queue (R504): its sender, the operations not yet run, and the operation responses
formed so far. -/
structure QMsg where
  asker : Requester
  left : List AopOp
  resp : List (List Byte)
  deriving DecidableEq, Repr

/-- An operation that stalls on a waking domain (R506): since when, and when its last progress went out, none before
the first. -/
structure Stall where
  asker : Requester
  op    : AopOp
  dom   : Nat
  since : Nat
  told  : Option Nat
  deriving DecidableEq, Repr

/-- A subscription of R515. -/
structure Sub where
  num     : Nat
  session : Nat
  mode    : Nat
  obj     : Nat
  mem     : Nat
  period  : Nat
  last    : List Byte
  sent    : Nat
  seq     : Nat
  deriving DecidableEq, Repr

/-- One entry of the violation log (R511). -/
structure Violation where
  asker : Requester
  role : Nat
  op   : Nat
  obj  : Nat
  mem  : Nat
  code : Nat
  sfn  : Nat
  deriving DecidableEq, Repr

/-- A neighbour discovery address of an MG port (R497): the address, whether it is still tentative, and whether a
duplicate was found. -/
structure MgAddr where
  port      : Nat
  addr      : Nat
  tentative : Bool
  duplicate : Bool
  deriving DecidableEq, Repr

/-- Sessions, queue, subscriptions and the violation log. `saving` holds a `DictSave` under way: its requester, and
`saveTaken` that the record's values were taken at the boundary (R517); `factorySave` a `DictFactory` whose empty
record is being committed; `restore` a restore due at the next boundary: true for the user image, false for factory
(R519). `full` lists the transports that take no more notifications, `dropped` a subscription whose notification was
dropped since the last boundary (R516). `forwards` holds requests forwarded over a carrier's MOC that await their
response: carrier number, Sequence and sender (R498). -/
structure Aop where
  sessions  : List Session
  queue     : List QMsg
  stalls    : List Stall
  subs      : List Sub
  viol      : List Violation
  violNext  : Nat
  violCount : Nat
  saving    : Option Requester
  saveTaken : Bool
  factorySave : Option Requester
  restore   : Option (Bool × Requester)
  mgAddrs   : List MgAddr
  neighbours : List (Nat × Nat)
  full      : List Nat
  dropped   : Option Nat
  forwards  : List (Nat × Requester)
  deriving DecidableEq, Repr


/-! ## Line frame and client mapping (07_line_frame_and_client_mapping.md) -/

/-- A message of the coordination slots (R205): type 1 proposal, 2 agree, 3 refuse, 4 cancel. It goes out in every
frame from `first` to `last` (R207, R585). `away` is the Direction bit: away from the proposer. -/
structure CoordMsg where
  typ    : Nat
  kind   : Kind
  away   : Bool
  number : Nat
  target : Nat
  status : Nat
  body   : List Byte
  first  : Nat
  last   : Nat
  deriving DecidableEq, Repr

/-- A client map (R227 to R229, R586): carried mask, the 64 size codes, plots and MapGeneration. -/
structure CMap where
  carried : Nat
  sizes   : List Nat
  plots   : Nat
  gen     : Nat
  deriving DecidableEq, Repr

/-- A numbered MOC unit that is not acknowledged (R209, R210). -/
structure MocUnit where
  seq   : Nat
  start : Bool
  data  : List Byte
  sent  : Nat
  deriving DecidableEq, Repr

/-- One entry of a PTP list (R216). -/
structure PtpEntry where
  client  : Nat
  block   : Nat
  octet   : Nat
  msgType : Nat
  ingress : Int
  deriving DecidableEq, Repr

/-- Part of the overhead core that a released codeword of group 0 carries: frame, whether of a trial decode, first bit of
the frame stream, number of bits, and the bits, the first most significant (R173, R582). -/
structure HeadPart where
  frame : Nat
  trial : Bool
  start : Nat
  len   : Nat
  bits  : Nat
  deriving DecidableEq, Repr

/-- One carrier's framing. `validRun`, `invalidRun`, `jumpRun` count cores for R212 and R213; `lastSfn` is the SFN of
the last core counted in `validRun`, `ranTo` the last received SFN whose boundary has run (R213). `core` is the last valid core,
sparse by word. `coordOut` are the messages of the slots, `replies` the replies already given by proposal number
(R207). `mocOut` is the packet octets still to be sent, each packet apart; the first may be partly sent. `mocHead` says
that the first begins a packet. `waiting` lists the clients neither carried nor shed (R152, R164). `mocIn` is the octet stream received, `mocSync` false while it waits for Start (R211). `mocAgain` lists the
units to be sent again (R210). `missed` are the agreed entries of the
received count whose boundary did not come (R48, R264). `head` holds what the pool has released of group 0 (R173),
`blockIn` the header of the block of each client in the received frame (R222). -/
structure FrameSt where
  rxMap     : CMap
  txMap     : CMap
  validRun  : Nat
  lastSfn   : Nat
  invalidRun : Nat
  ranTo     : Nat
  jumpRun   : Nat
  jumpSfn   : Nat
  lockedAt  : Nat
  unlockedAt : Nat
  core      : List (Nat × Nat)
  coordOut  : List CoordMsg
  replies   : List CoordMsg
  mocOut    : List (List Byte)
  mocHead   : Bool
  mocNoStart : Nat
  mocTxSeq  : Nat
  mocUnacked : List MocUnit
  mocAgain  : List Nat
  mocRxNext : Nat
  mocIn     : List Byte
  mocSync   : Bool
  ptp       : List PtpEntry
  ptpOver   : Nat
  rxPtp     : List PtpEntry
  rateDiff  : List (Nat × Nat)
  rateLogged : List Nat
  waiting   : List Nat
  missed    : List Entry
  head      : List HeadPart
  blockIn   : List (Nat × BlockHead)
  deriving DecidableEq, Repr


/-! ## Line converters (03_line_converters.md) and calibration (15_calibration.md) -/

/-- One physical slice (R68, R72, R99): state code of R72, the six terms of R99 in force, temperature and SFN of its
last trim, run of failed trims, whether it is due (R73), since when, and when it was last logged overdue (R87);
`failed` that it was declared failed (R89); `restored` that a first failed trim withdraws it again (R94); `badRun`
superframes in a row in which it broke a limit of R89; `stuck` that 4009h was logged for it (R91). -/
structure Slice where
  st       : Nat
  terms    : List Int
  temp     : Int
  trimSfn  : Nat
  failRun  : Nat
  due      : Bool
  dueSince : Nat
  overdue  : Nat
  failed   : Bool
  restored : Bool
  badRun   : Nat
  stuck    : Bool
  deriving DecidableEq, Repr

/-- Where a converter's rotation cycle stands (R75): `spare` is the incoming slice, `phase` the phase it takes,
`out` the slice relieved. -/
inductive Cycle where
  | idle
  | trimming (spare out phase winSfn : Nat) (emergency : Bool)
  | armed (spare out phase winSfn : Nat) (emergency back : Bool)
  | handover (spare out phase swapSfn : Nat) (count : SCount) (index : Nat) (back interrupted : Bool)
  deriving DecidableEq, Repr

/-- One line converter (R65, R66). `nextWin` is the first local SF in which a window may open (R79), `retryAt` the
first SF in which a refused trim is asked for again, `refusedRun` that the refusal was logged (R87). `temp` is the
converter temperature of R431; `loadStep` the last CalReloadStep step that a set load was made for (R437); `urgent`
the failed or retiring slices still to be relieved (R90, R93). -/
structure Conv where
  slices     : List Slice
  phases     : List Nat
  cycle      : Cycle
  nextWin    : Nat
  retryAt    : Nat
  refusedRun : Bool
  clipRun    : Nat
  clipClear  : Nat
  clipAlarm  : Bool
  lossRun    : Nat
  loss       : Bool
  temp       : Int
  loadStep   : Nat
  urgent     : List Nat
  deriving DecidableEq, Repr

/-- The eight converters of a carrier (R65). `countLocal` is case 3 of R84; `actAt` the SFN of the last activation that
touched the carrier (R84). -/
structure ConvSt where
  convs      : List Conv
  countLocal : Bool
  actAt      : Option Nat
  deriving DecidableEq, Repr

/-- One learned point value (R433): the key counts slices over both carriers, converters and slices. -/
structure Learned where
  key   : Nat
  point : Nat
  terms : List Int
  temp  : Int
  sfn   : Nat
  deriving DecidableEq, Repr

/-- Calibration (R432 to R444). `changed` lists the slices changed since the last save; `points` per carrier × 8 + point
the updates and the SFN of the last one; `runs` are the privileged calibrations under way as (step, part), part 0 the
whole, 1 and 2 a carrier, 3 to 6 a lane quad, `failed` those that failed once; `pendingParts` the parts whose steps wait
for a first wake after keep-alive (R439); `wakeLoads` the set loads, as converter, slice or 255 for all, and cause, made at wake (R438); `factoryBad` that both factory copies failed (R442). -/
structure Cal where
  learned    : List Learned
  changed    : List Nat
  points     : List (Nat × Nat × Nat)
  savedAt    : Nat
  retryAt    : Option Nat
  clearDue   : Bool
  runs       : List (Nat × Nat)
  failed     : List (Nat × Nat)
  started    : Nat
  elapsed    : Nat
  factoryBad : Bool
  delayExtra : Nat
  lockerBad  : List Nat
  pendingParts : List Nat
  wakeLoads  : List (Nat × Nat × Nat)
  suspect    : Bool
  deriving DecidableEq, Repr


/-! ## Equaliser and carrier recovery (04_equaliser_and_carrier_recovery.md) -/

/-- What an acquisition is: cold, a warm one's 20 SF pilot search, or its second part from state 5 (R114, R120). -/
inductive AcqKind where
  | cold | warmPilots | warmFull
  deriving DecidableEq, Repr

/-- One carrier's receiver beside its objects. `acqStart` and `stepStart` are SFNs; `fails` the failed attempts in a row,
`failLog` the SFN of the last 5005h, `waitUntil` the end of the 1 s wait (R116); `refusedRun` that 5006h was logged,
`retryAt` the next request (R129). `bad`, `good` and `pilots` count consecutive windows (R117, R584). `sfSince` is the
instant signal fail was raised, in 0.01 ps, `sfCause` its cause. `trackedFrom` starts the unbroken tracking that
`needed` SF of makes the record valid (R124). `lo` is the LO frequency in MHz, `loBase` that of the last cold
acquisition; `offRun` counts SF with the offset beyond 1,000 MHz, `steering` that the LO moves (R110). `iqLogged` lists
the terms logged at their limit in this lock (R102). `goneSince` is when the input was lost. `window` is the search
window of the settings at the start of the acquisition (R115, R130); `offset` the frequency offset that V4 removes, in
kHz (R109, R114); `cdSum` the filtered dispersion estimate in 10⁻⁹ ps/nm (R122) and `cds` the per-SF estimates of
the last 10,000 SF in 0.1 ps/nm, each with its SFN (R124); `sfSeen` that signal fail was raised in the received SF
(R141). -/
structure EqSt where
  kind        : AcqKind
  acqStart    : Nat
  stepStart   : Nat
  fails       : Nat
  failLog     : Nat
  waitUntil   : Option Nat
  refusedRun  : Bool
  retryAt     : Nat
  bad         : Nat
  good        : Nat
  pilots      : Nat
  sfRaised    : Bool
  sfSince     : Nat
  sfCause     : Nat
  pilotSnr    : Int
  trackedFrom : Nat
  needed      : Nat
  validity    : Nat
  cdHeld      : Int
  uHeld       : Nat
  lo          : Nat
  loBase      : Nat
  offRun      : Nat
  steering    : Bool
  steerLogged : Bool
  iqLogged    : List Nat
  goneSince   : Option Nat
  window      : Int × Int
  offset      : Int
  cdSum       : Int
  cds         : List (Nat × Int)
  sfSeen      : Bool
  deriving DecidableEq, Repr



/-! ## Subcarriers and adaptive loading (05_subcarrier_loading.md) -/

/-- A loading of one direction and what a change to it carries (R137, R138, R154): rate code, generation, plot capacity,
shed and restore masks, reason, the generation of the client map change it implies, or 0 (R586), and sixteen loading
words. -/
structure Loading where
  rate    : Nat
  gen     : Nat
  plots   : Nat
  shed    : Nat
  restore : Nat
  reason  : Nat
  mapGen  : Nat
  words   : List Nat
  deriving DecidableEq, Repr

/-- The loading policy of a carrier beside its objects. `snrs` holds the per-SF values of the last 1,000 SF in
0.001 dB, newest first (R142). `dropRun`, `raiseRun` and `alarmRun` count consecutive SF per subcarrier, `clearRun` of
the direction (R145 to R147). `caps` are the far end's cap words and when they expire (R155). `dropFrom` and `raiseFrom`
are the first SFNs at which the next drop and raise may be proposed (R148). `ceilDue` that a ceiling write wants its
change (R149). `held` are the changes of the receive direction whose contents are kept, with their SFN (R157, R159).
`lastForce`, `cand` and `candFrom` serve re-lock: the loading in force when lock was lost, the number of the candidate
tried and since when (R159). `resetAt` is the SFN of a reset requested and not yet passed. `iterGap` is Gᵢ in 0.001 dB
(R185). `shed` and `shedTx` are the clients shed on the receive and transmit directions (R150). `withheld` that a drop waits for
the margin alarm (R151); `share` the share of full power, as a ratio, that the
launch power setpoint is scaled by (R134). `prior` is the
loading before the last change of the receive direction, with its SFN, for the codewords of frames before it (R173). -/
structure LoadSt where
  snrs      : List (List Int)
  dropRun   : List Nat
  raiseRun  : List Nat
  alarmRun  : List Nat
  clearRun  : Nat
  alarmAt   : Nat
  shed      : List Nat
  caps      : Option (List Nat × Nat)
  dropFrom  : Nat
  raiseFrom : Nat
  ceilDue   : Bool
  held      : List (Nat × Loading)
  lastForce : Option Loading
  cand      : Nat
  candFrom  : Nat
  resetAt   : Option Nat
  iterGap   : Nat
  withheld  : Bool
  share     : Nat × Nat
  shedTx    : List Nat
  prior     : Option (Nat × Loading)
  deriving DecidableEq, Repr



/-! ## Decoder pool (06_decoder_pool.md) -/

/-- A codeword between arrival and release (R175 to R178). `slot` is none for an overflow; times in 0.01 ps. `running`
says an engine works on it, `finished` that it stopped, `zero` that its syndrome is zero; `low` that it is held to
`IterFloor` (R187); `trial` that it belongs to a trial decode (R158). `load` and `codes` are the loading of its frame
(R173), `start` and `len` the frame-stream bits it carries (R582), `llrs` its channel LLRs, `hard` the channel's hard
decisions and `bits` those of the last completed iteration, as words whose bit i is codeword bit i (R169, R174). -/
structure Codeword where
  slot     : Option Nat
  carrier  : Carrier
  frame    : Nat
  number   : Nat
  arrived  : Nat
  release  : Nat
  iters    : Nat
  running  : Bool
  finished : Bool
  zero     : Bool
  erased   : Bool
  low      : Bool
  trial    : Bool
  load     : Loading
  codes    : List Nat
  start    : Nat
  len      : Nat
  llrs     : List Int
  hard     : Nat
  bits     : Nat
  deriving DecidableEq, Repr

/-- Why a bank drains or loads (R181, R190, R191, R193); `poisonOut` where it was on its way out. -/
inductive Drain where
  | none | poison (addr : Nat) | out | poisonOut (addr : Nat) | activation | wake
  deriving DecidableEq, Repr

/-- What one SF of a carrier released: bits corrected in codewords of zero syndrome, such codewords, uncorrected ones,
all (R195). -/
structure SfCount where
  corrected : Nat
  zero      : Nat
  bad       : Nat
  all       : Nat
  deriving DecidableEq, Repr

/-- The pool beside its objects. `rot` is the bank that took the last codeword; `lastOut` per carrier the latest release
of a codeword under a budget that has changed (R180). `hist` and `prev` count the codewords of this and the last SF by
iterations run. `used` iterations of this SF, `budget` its Iₛ (R183). `recent` holds (iterations, codewords) of the last
10,000 SF, newest first, and `sec` what each of the last 10,000 SF released per carrier. `grant` and `request` are the
allowance in microwatts, `pendGrant` a lower one with the SFN it takes effect, `grantRetry` the next request (R184).
`wakeRetry` holds banks whose wake was refused and when to ask again (R181). `failRun` serves R192. `ucode` lists the
banks an activation has still to update, with its image slot (R193). `masterBad` that the master copy or the shift
tables await their reload (R190). `capLog` is the SFN of the last 6003h, `cap` the cap of this SF (R183),
`ucodeAt` the SFN at which the next step of an activation is due (R193). -/
structure Pool where
  words      : List Codeword
  rot        : Nat
  lastOut    : Pair Nat
  discarding : Option (Nat × Nat × Nat)
  drains     : List Drain
  hist       : List Nat
  prev       : List Nat
  used       : Nat
  budget     : Nat
  recent     : List (Nat × Nat)
  cur        : Pair SfCount
  sec        : Pair (List SfCount)
  alarm      : Pair Bool
  belowFrom  : Pair Nat
  overflows  : Nat
  grant      : Nat
  request    : Nat
  pendGrant  : Option (Nat × Nat)
  grantRetry : Option Nat
  wakeRetry  : List (Nat × Nat)
  failRun    : Nat
  ucode      : List Nat
  ucodeSlot  : Nat
  masterBad  : Bool
  capLog     : Nat
  cap        : Nat
  ucodeAt    : Nat
  deriving DecidableEq, Repr



/-! ## Host lanes (08_host_lanes.md) -/

/-- One lane beside its objects: the checker's sync (R252), what is left of an injection and its spacing (R253), since
when the BER lies above or not above the alarm, and whether the alarm stands (R245). -/
structure LaneSt where
  sync    : Bool
  inject  : Nat
  spacing : Nat
  overAt  : Option Nat
  underAt : Option Nat
  alarm   : Bool
  deriving DecidableEq, Repr

/-- The 32 lanes; clients in ingress fault with cause and lane (R246); clients whose inconsistent assignment was logged
(R241); per quad whether LREF is lost, and since when it is valid again (R237). -/
structure Lanes where
  lanes   : List LaneSt
  faults  : List (Nat × Nat × Nat)
  logged  : List Nat
  lref    : List Bool
  deriving DecidableEq, Repr



/-! ## Link cipher (09_link_cipher.md) -/

/-- One context of a direction of a carrier (R257, R263). `on` is the agreed state, `stopped` that its counter reached
its limit (R268), `e` the cell counter at the start of the present frame, `carried` the SF carried in its epoch,
`ending` that epoch ending was raised, `root` the RootId its epoch runs under, `key` the 38 octets of R260, none while
it waits, `next` the epoch, root and, once derived, key of an agreed roll, `want` the reason of a roll that is armed
and not yet proposed. `oks` and `bads` count the seals of the present frame that passed and failed, `badRun` the frames
of R283, `failed` the seals failed since the last 8007h, `poison` that its key is to be derived again (R287). -/
structure Ctx where
  on      : Bool
  stopped : Bool
  e       : Nat
  epoch   : Nat
  carried : Nat
  ending  : Bool
  root    : Nat
  key     : Option (List Byte)
  next    : Option (Nat × Nat × Option (List Byte))
  want    : Option Nat
  oks     : Nat
  bads    : Nat
  badRun  : Nat
  failed  : Nat
  poison  : Bool
  deriving DecidableEq, Repr

/-- The contexts of a carrier, 0 to 63 and the fill context 64. `badSf` counts consecutive SF with inverse-check
failures, `suspended` that the transmit contexts are, `clean` the consecutive clean SF since (R279). -/
structure CipherSt where
  tx        : List Ctx
  rx        : List Ctx
  badSf     : Nat
  suspended : Bool
  clean     : Nat
  deriving DecidableEq, Repr

/-! ## The Grotto (10_grotto.md) -/

/-- A key slot (R290 to R294): type, generation, contents, shadow, the SFN at which an erase began, and a write from inside
the engine that waits for the shadow or the erase: type, contents and the SFN since when (R293). -/
structure GSlot where
  typ    : Nat
  gen    : Nat
  data   : List Byte
  shadow : Option (List Byte)
  erase  : Option Nat
  later  : Option (Nat × List Byte × Nat)
  deriving DecidableEq, Repr

/-- What a request is for: a descriptor of its own, the key of an epoch (R262), or a quote (R307). -/
inductive GUse where
  | plain
  | derive (c : Carrier) (d : Dir) (ctx epoch root : Nat)
  | quote (nonce : List Byte) (mask : Nat)
  deriving DecidableEq, Repr

/-- A request in the queue (R295, R296). `unit` is the unit that runs it. -/
structure GReq where
  master : Nat
  typ    : Nat
  slot   : Nat
  gen    : Nat
  outSlot : Nat
  tag    : Nat
  src    : Nat × Nat
  dst    : Nat × Nat
  par    : Nat × Nat
  cls    : Nat
  unit   : Option Nat
  use    : GUse
  deriving DecidableEq, Repr

/-- The part an engine takes in a key agreement. -/
inductive Part where
  | none | offered | answered | confirming
  deriving DecidableEq, Repr

/-- A carrier's roots and its key agreement (R309 to R315). `cur` and `next` are slot, RootId and `LinkIdentity`;
`install` the InstallSfn of the next, `since` that of the current one. `session`, `offer`, `answer`, `peer`
(the peer's public key) and `root` (root key, identity and RootId derived) belong to the session under way, which began
its present message at `sentAt`. `backoff` is the delay in seconds of the next retry, `retryAt` when it falls,
`waitFrom` since when an Offer is awaited (R310), `askAt` when the lattice unit is asked for again (R316), `asked` that
its refusal was logged, `initiates` that this end sent the Offer, `rxAt` the received SFN from which the receive contexts
hold a first root. -/
structure RootSt where
  cur      : Option (Nat × Nat × List Byte)
  next     : Option (Nat × Nat × List Byte)
  install  : Nat
  since    : Nat
  part     : Part
  initiates : Bool
  session  : Nat
  offer    : List Byte
  answer   : List Byte
  peer     : List Byte
  root     : List Byte
  sfn      : Nat
  sentAt   : Nat
  backoff  : Nat
  retryAt  : Option Nat
  waitFrom : Option Nat
  askAt    : Option Nat
  asked    : Bool
  rxAt     : Option Nat
  deriving DecidableEq, Repr

/-- The Grotto beside its objects. `turn` shares service between classes 1 and 2 (R295); `units` holds the units out of
service (R301); `regs` the attestation registers (R306); `quote` the result of the last quote; `identity` that slot 1
unwrapped (R305); `lost` that retention was lost since reset (R318); `slotLost` the slots to be derived, copied or
reloaded at the next boundary (R319); `floors` the fused rollback floors per subsystem code (R321); `hold` that new requests wait for a new image (R317). -/
structure Grotto where
  slots    : List GSlot
  queue    : List GReq
  turn     : Nat
  out      : List Nat
  regs     : List (List Byte)
  quote    : Option (List Byte)
  identity : Bool
  ownerBad : Bool
  lost     : Bool
  reload   : List Nat
  floors   : List Nat
  hold     : Bool
  roots    : Pair RootSt
  deriving DecidableEq, Repr



/-! ## The Belvedere (11_belvedere_clock_and_time.md) -/

/-- One role of an input (R327, R328): state code 1 failed, 2 hold-off, 3 qualifying, 4 available; since when; and
whether it has failed since reset. -/
structure RoleSt where
  st     : Nat
  since  : Nat
  failed : Bool
  deriving DecidableEq, Repr

/-- A candidate input: its causes of R326 as bits, and its two roles. -/
structure RefSt where
  causes : Nat
  freq   : RoleSt
  time   : RoleSt
  deriving DecidableEq, Repr

/-- A PPS input (R326, R342): SFN of its last edge; the valid ToD message that waits for its edge (seconds, and the SFN
at which it ended); Seconds of the previous one; whether the last edge had its message; consecutive edges off the
predicted phase; the last edge less the nearest second of the time base (R340), and the time of the input less that of
the time base, in ps. -/
structure PpsSt where
  edge    : Option Nat
  tod     : Option (Nat × Nat)
  prev    : Option Nat
  todBad  : Bool
  jumps   : Nat
  rel     : Int
  offset  : Int
  deriving DecidableEq, Repr

/-- A line's stamps and its asymmetry (R343 to R348): own TxDepart per SFN of the last 256 SF; arrival stamps per
received SFN with the instant they were measured, in 2⁻¹⁶ ns and 0.01 ps; SFN of the last freeze, the bound, fibre term
and carrier frequencies at it; consecutive failed advert reads, and the roles for which a timing loop was logged. -/
structure LineTime where
  departs  : List (Nat × Int)
  arrives  : List (Nat × Int × Nat)
  frozenAt : Nat
  bound    : Nat
  fibre    : Int
  freqs    : Nat × Nat
  advFails : Nat
  loops    : List Nat
  deriving DecidableEq, Repr

/-- A loop (R334): bandwidth in millihertz, 0 while it does not run; whether that is its final value; since when its
phase error lies within ±10 ns. -/
structure LoopSt where
  mhz   : Nat
  fin   : Bool
  since : Option Nat
  deriving DecidableEq, Repr

/-- The Belvedere beside its objects. `table` is the priority table in force (R329). `hist` holds the per-SF frequency of
the time base against the master, in 10⁻¹², newest first (R337), `steer` the present one. `slew` is the offset still
being slewed, in ps. `u0` is the uncertainty at `heldFrom` in 10⁻¹² ps and `case` the case of R339 in force. `mates`
per role says that rank-mates disagree. `holdSf` is the SF of a microcode activation (R351). `drop` holds RefTable
entries to be resolved again. `pps`, `sfOff`, `ppsOff` and `clkF` are what the outputs use from the last second edge on
(R340, R341). `todKeep` is the TimeSource shown while time is held (R348). -/
structure BelSt where
  inputs   : List RefSt
  pps      : List PpsSt
  lines    : Pair LineTime
  table    : List Nat
  freqLoop : LoopSt
  timeLoop : LoopSt
  hist     : List Int
  steer    : Int
  slew     : Int
  u0       : Nat
  heldFrom : Nat
  hcase    : Nat
  mates    : List Bool
  holdSf   : Option Nat
  drop     : List Nat
  sfOff    : Int
  ppsOff   : List Int
  clkF     : List Nat
  source   : Nat
  deriving DecidableEq, Repr



/-! ## The footpath (13_footpath_channel.md) -/

/-- A queued packet (R387, R388). -/
structure FootPkt where
  typ  : Nat
  dest : Nat
  data : List Byte
  deriving DecidableEq, Repr

/-- A Hello heard: source, level in 0.1 dBc, tone, SFN, its 32 octets (R396). -/
structure FootHello where
  source : Nat
  level  : Int
  tone   : Nat
  sfn    : Nat
  hello  : List Byte
  deriving DecidableEq, Repr

/-- The footpath of a carrier (R383 to R398). `txOn` and `rxOn` say which directions run, `refused` per direction that
a run of refusals was logged and when to ask again. `seq` is the number of the next packet, `freeAt` the instant from
which the next may begin, in 0.01 ps. `tone`, `level`, `since` and `header` belong to a reception: its tone, reference
level in 0.1 dBc, instant of detection, and header octets. `heard` holds the Hellos of the last second, one a source;
`neighbour` the neighbour by address, `found` when its last Hello came; `clash` the pair of sources logged, `mismatch`
that D003h was logged. `off` says per direction why it last was not wanted: 0 enable, 1 domain. `helloAt` is the SFN of the last own Hello. `floors` holds the last 100 window averages of each
tone. -/
structure FootSt where
  txOn      : Bool
  rxOn      : Bool
  off       : List Nat
  refused   : List (Option Nat)
  queue     : List FootPkt
  seq       : Nat
  freeAt    : Nat
  tone      : Nat
  level     : Int
  since     : Nat
  header    : List Byte
  heard     : List FootHello
  neighbour : Option Nat
  found     : Nat
  clash     : Option (Nat × Nat)
  mismatch  : Bool
  helloAt   : Nat
  floors    : List (List Int)
  deriving DecidableEq, Repr

/-! ## Avenues and the Keeper (12_avenues_and_keeper.md) -/

/-- A cell that waits in a client's buffer at V8: sequence number, carrier, arrival instant in 0.01 ps (R357). -/
structure Cell8 where
  seq : Nat
  c   : Carrier
  at_ : Nat
  deriving DecidableEq, Repr

/-- A client at V8 (R357 to R359): the next number due, none before its first cell; waiting cells; numbers declared
lost; the latency still to be caught up, in 0.01 ps, and since when; cells lost since the last whole second. -/
structure Client8 where
  due    : Option Nat
  buffer : List Cell8
  lost   : List Nat
  lag    : Nat
  lagAt  : Nat
  lostNow : Nat
  deriving DecidableEq, Repr

/-- A Keeper order in force (R373): link Keeper, OrderSeq, avenue, its eight octets; whether it came over the group bus,
how often the footpath has sent it, and when last. -/
structure Order where
  keeper : Nat
  seq    : Nat
  avenue : Carrier
  octets : List Byte
  bus    : Bool
  sent   : Nat
  sentAt : Nat
  deriving DecidableEq, Repr

/-- The avenues beside their objects. `prev` carried until frame `takeSfn` of the last takeover, `takeRound` its round
(R366). `rx` per carrier holds mode and carrying avenue in force on its received count, `rxNext` a carrying avenue from
a received SFN on. `cmd` is the host command in force: 0 none, 1 lockout, 2 forced. `exercise` says that one runs.
`mute` per carrier since when the switch mute stands (R365). `elig` per carrier the standby eligibility. `blocked` says
that a blocked takeover was logged. `order` is the order in force and `lastSeq` the OrderSeq applied last, 256 before any. `heardAt` is
the SFN at which the link Keeper was last heard, `unreach` that A007h stands (R374). `disputeFrom` is since when the
ends' Carrying values differ; `degraded` since when the carrying view is degraded and `goodFrom` since when the
preferred avenue's views are good (R378). `short` says that A008h stands and `okFrom` since when its condition holds.
`startMode` says that the
link's starting mode is still to be compared with the far end's (R518). `gapFrom` is the instant of the last release before a switch, `released` of the last release. `record` is the last view
record, `recordAt` its SFN, `footAt` when one last went to the footpath. `farRecord` is the far end's as last
received. -/
structure AvSt where
  prev      : Nat
  takeSfn   : Nat
  takeRound : Nat
  tookOver  : Bool
  rx        : Pair (Nat × Nat)
  rxNext    : Pair (Option (Nat × Nat))
  seenTake  : Option Nat
  cmd       : Nat
  exercise  : Bool
  mute      : Pair (Option Nat)
  elig      : Pair Bool
  blocked   : Bool
  order     : Option Order
  lastSeq   : Nat
  heardAt   : Option Nat
  unreach   : Bool
  disputeFrom : Option Nat
  degraded  : Option Nat
  goodFrom  : Option Nat
  waiting   : Bool
  short     : Bool
  okFrom    : Option Nat
  gapFrom   : Option Nat
  startMode : Bool
  released  : Nat
  record    : List Byte
  recordAt  : Nat
  footAt    : Nat
  farRecord : List Byte
  clients   : List Client8
  deriving DecidableEq, Repr



/-! ## Supervisory converters and the filter engine (14_supervisory_converters_and_filters.md) -/

/-- One accumulator (R416). -/
structure Accum where
  count : Nat
  sum   : Int
  lo    : Int
  hi    : Int
  ovr  : Nat
  rec_  : Nat
  sfn   : Nat
  deriving DecidableEq, Repr

/-- A front converter's present word: value, OverRange, and samples that still carry Recovery (R414). -/
structure Front where
  value    : Int
  ovr     : Bool
  recovery : Nat
  deriving DecidableEq, Repr

/-- A TFE channel (R418 to R422): outputs still unsettled, input samples for which OverRange and Recovery still show, its
last output word, input samples newest first, how many came since the last output, the CIC's outputs newest first, each
biquad section's last two inputs and outputs in 2⁻¹⁶ codes, the outputs of the detectors' window newest first (none for
one that they do not take), and the envelope in 2⁻¹⁶ codes. `stopped` says that damage or an image load holds it (R423, R426). -/
structure TfeCh where
  unsettled : Nat
  ovr      : Nat
  recovery  : Nat
  word      : Nat
  samples   : List Int
  fed       : Nat
  cic       : List Int
  biquad    : List (List Int)
  window    : List (Option Int)
  envelope  : Nat
  stopped   : Bool
  deriving DecidableEq, Repr

/-- SVC2, its comparators' filter engine and what reads them. `entry` is the regular entry under way, `start` the
instant its pass began, `lateNext` that the next pass starts at once. `userLen` and `user` are the user sequence of the
pass, `injLen` and `injEnt` the injected one of the run. `inj` is the injected entry under way, `resume` the regular entry
it interrupted, `injAt` the instant its trigger came, `injSource` its source, `pending` a pending trigger's source
and `pendAt` the instant it came, `merged` counts merged triggers (R408, R409). `recover` counts
conversions that still carry Recovery (R413). `regs` are the result registers. `clearDue` clears the accumulators at the
next boundary. `failRun` and `passRun` serve R415. `skip` lists entries whose word awaits its reload (R426).
`warn` and `hot` say that 1014h and 1015h stand, `warnLow`, `hotFrom` and `hotLow` since when their conditions hold (R575). `reload` lists
TFE channels whose fixed coefficients come back at the next boundary. -/
structure Svc where
  entry    : Option Nat
  start    : Nat
  lateNext : Bool
  userLen  : Nat
  user     : List Nat
  inj      : Option Nat
  injLen   : Nat
  injEnt   : List Nat
  resume   : Option Nat
  injAt    : Nat
  injSource : Nat
  pending  : Option Nat
  pendAt   : Nat
  merged   : Nat
  recover  : Nat
  regs     : List Nat
  accums   : List Accum
  clearDue : Bool
  failRun  : Nat
  passRun  : Nat
  skip     : List Nat
  warn     : Bool
  warnLow  : Option Nat
  hot      : Bool
  hotFrom  : Option Nat
  hotLow   : Option Nat
  fronts   : Pair Front
  tfe      : List TfeCh
  reload   : List Nat
  deriving DecidableEq, Repr



/-! ## Images (10_grotto.md R302 to R304, 20_domain_assembly.md R555 to R557) -/

/-- An image slot: whether it holds the factory image, the octets of a committed one, the octets written of a new
record, none when none is begun (R302, R555). -/
structure ImgSlot where
  factory : Bool
  data    : List Byte
  opened  : Option (List Byte)
  deriving DecidableEq, Repr

/-- An activation on probation (R557): subsystem code, its slot and the one before, carrier for code 5, and the SFN at
which probation ends. -/
structure Probation where
  sub     : Nat
  slot    : Nat
  prev    : Nat
  carrier : Option Carrier
  until_  : Nat
  deriving DecidableEq, Repr

/-- The image slots, member 2 × (code − 1) + slot. `active` and `boot` are per code, `dsp` the coefficient slots of the
carriers in force (code 5), `loading` the codes whose new image is still being loaded (R556), `unloaded` those without a
valid image since boot (R304). -/
structure Img where
  slots    : List ImgSlot
  active   : List Nat
  boot     : List Nat
  dsp      : Pair Nat
  probation : List Probation
  loading  : List Nat
  unloaded : List Nat
  deriving DecidableEq, Repr



/-! ## Groups and domains (20_domain_assembly.md, R371 to R374) -/

/-- What an engine knows of one slot of its group (R543, R546, R547): serial, BootState and Flags of the last frame,
Peer, the two view records and the order of the last member status; when it was last heard, and since when without a gap,
as SFNs; since when the Carrying values of the two records differ (R372); the serial that last held the slot in the
roll. -/
structure Member where
  serial : List Byte
  boot   : Nat
  flags  : Nat
  peer   : Nat
  own    : List Byte
  far    : List Byte
  order  : List Byte
  heard  : Option Nat
  since  : Nat
  differ : Option Nat
  holder : List Byte
  deriving DecidableEq, Repr

/-- An order in force as the group knows it (R373): its eight octets, whether a frame of window 33 of the Keeper has
carried it, when, and whether the lower end has shown it. -/
structure GOrder where
  octets  : List Byte
  carried : Bool
  at_     : Nat
  shown   : Bool
  deriving DecidableEq, Repr

/-- The group bus (R541 to R547). `listening` is the SFN from which the engine listens, none once it has heard a beacon
or sends its own. `keeper` and `deputy` are addresses, FFFFh for none. `base` is a cycle number and the SFN at which it
began, none while cycles follow the own SFN. `dup` is DuplicateMask, `admits` the slots and serials that the
next beacon admits, `joinBad` the consecutive join windows with a bad CRC per slot. `handover` is HandoverCycle and
HandoverTo. `leaving` counts the Leave frames still to send, `silent` that the engine has left. `beaconAt` is the SFN of
the last beacon in window 32, `mirror` its body until it is mirrored. `shift` is the cycle start in steps of 4 µs
(R544). `seqs` holds the last OrderSeq per lower end. `strays` are the misstrapped sources logged (R539), `dupAt` the
SFN of the last retry of a duplicate, `joinDue` that a Join is to be sent once. -/
structure GroupSt where
  listening : Option Nat
  keeper    : Nat
  deputy    : Nat
  base      : Option (Nat × Nat)
  members   : List Member
  dup       : Nat
  admits    : List (Nat × List Byte)
  joinBad   : List Nat
  handover  : Option (Nat × Nat)
  leaving   : Nat
  silent    : Bool
  beaconAt  : Nat
  mirror    : List Byte
  shift     : Nat
  orders    : List GOrder
  seqs      : List (Nat × Nat)
  strays    : List Nat
  dupAt     : Nat
  joinDue   : Bool
  deriving DecidableEq, Repr

/-- A registration, of the group roll at the site lead or of the site roll at the registrar (R550): whether a first one
stands, the messages sent in this series, when the next is due, the Sequence that awaits its Ack and until when, and
when a series that failed begins again. -/
structure RegSt where
  done    : Bool
  attempt : Nat
  dueAt   : Option Nat
  seq     : Nat
  ackBy   : Option Nat
  retryAt : Option Nat
  deriving DecidableEq, Repr

/-- An Announce heard (R549): address, Roles, ValidMask and the SFN of the last. -/
structure Claim where
  addr  : Nat
  roles : Nat
  valid : Nat
  heard : Nat
  deriving DecidableEq, Repr

/-- A group's roll as registered (R548, R550): SITE × 16 + GROUP, Keeper, Deputy, ValidMask and the 32 serials. -/
structure Roll where
  group   : Nat
  keeper  : Nat
  deputy  : Nat
  valid   : Nat
  serials : List Byte
  deriving DecidableEq, Repr

/-- The domain (R548 to R553). `leadQuiet` and `regQuiet` are the SFNs from which no lower claimant of each role was
heard; `settled` when this engine took the site lead's role. `sentRoll` is the own group's roll as last sent. `groupRolls` are held by the site lead, `siteRolls` by the
registrar. `txSeq` is the Sequence of the next message, `powerAt` the SFN of power-on. `late` says that 100Dh was
logged, `noTraffic` per carrier that its 60 s were judged. -/
structure DomainSt where
  claims     : List Claim
  leadQuiet  : Nat
  regQuiet   : Nat
  settled    : Option Nat
  group      : RegSt
  site       : RegSt
  sentRoll   : Option Roll
  groupRolls : List Roll
  siteRolls  : List Roll
  complete   : Bool
  announceAt : Nat
  rollAt     : Nat
  txSeq      : Nat
  powerAt    : Nat
  late       : Bool
  noTraffic  : Pair Bool
  deriving DecidableEq, Repr

end Sys2Proof.Machine
end

