-- ==== Sys2Proof/Machine/Init.lean ====
section
/-! DEFINITION. What each part of the state holds right after reset (R17, R67, R473, R523, R571): the defaults of the
chapters' rules, the values a part carries from the factory, and, where the spec gives none, empty or zero (log entry
10). -/

namespace Sys2Proof.Machine

/-- Physical slices of a converter member (R66). -/
def sliceCount (conv : Nat) : Nat := if conv < 4 then 68 else 34

/-- Terms of a slice that was never trimmed and stands in no set (R68), in the order of R99. -/
def defaultTerms : List Int := [0, 0, 0, 0, 16384, 0]

/-- A slice at reset: active where it serves a phase, else an idle spare, and due (R67, R79). -/
def Slice.init (active : Bool) : Slice :=
  { st := if active then 0 else 1, terms := defaultTerms, temp := 0, trimSfn := 0, failRun := 0, due := active
    dueSince := 0, overdue := 0, failed := false, restored := false, badRun := 0, stuck := false }

/-- Active phases of a converter member (R66). -/
def phaseCount (k : Nat) : Nat := if k < 4 then 64 else 32

/-- A converter at the first power-up of a part: phase p is served by slice p (R67). -/
def Conv.init (k : Nat) : Conv :=
  { slices := (List.range (sliceCount k)).map (fun i => Slice.init (decide (i < phaseCount k)))
    phases := List.range (phaseCount k), cycle := .idle, nextWin := 0, retryAt := 0, refusedRun := false
    clipRun := 0, clipClear := 0, clipAlarm := false, lossRun := 0, loss := false, temp := 0, loadStep := 0
    urgent := [] }

/-- The domain that a retention bank belongs to at the factory (R479), 0 for a spare. -/
def retDomain (r : Nat) : Nat := nth [2, 2, 2, 4, 7, 17, 18, 18, 20, 21, 21] r 0

/-- A retention bank at reset: in use for its domain, or a spare (R479). -/
def RetBank.init (r : Nat) : RetBank :=
  { role := r, dom := retDomain r, state := if r < 11 then 0 else 4, crc := 0, lost := 0 }

/-- A domain that is off and was never touched. -/
def Dom.init : Dom :=
  { st := .off, access := 0, since := 0, iso := 0, wakeNext := false, refused := [0, 0, 0, 0, 0], aborted := [0, 0, 0, 0, 0] }

/-- A client that has shown no cell. -/
def Client8.init : Client8 := { due := none, buffer := [], lost := [], lag := 0, lagAt := 0, lostNow := 0 }

/-- A role of an input that nothing has happened to. -/
def RoleSt.init : RoleSt := { st := 0, since := 0, failed := false }

/-- An input that nothing has happened to. -/
def RefSt.init : RefSt := { causes := 0, freq := RoleSt.init, time := RoleSt.init }

/-- A PPS input that has shown nothing. -/
def PpsSt.init : PpsSt :=
  { edge := none, tod := none, prev := none, todBad := true, jumps := 0, rel := 0, offset := 0 }

/-- A loop that does not run. -/
def LoopSt.idle : LoopSt := { mhz := 0, fin := true, since := none }

/-- A context that is off and never ran. -/
def Ctx.init : Ctx :=
  { on := false, stopped := false, e := 0, epoch := 0, carried := 0, ending := false, root := 0, key := none
    next := none, want := none, oks := 0, bads := 0, badRun := 0, failed := 0, poison := false }

/-- A slot that was never written. -/
def GSlot.init : GSlot := { typ := 0, gen := 0, data := [], shadow := none, erase := none, later := none }

/-- A slot of which nothing is known. -/
def Member.init : Member :=
  { serial := List.replicate 16 0, boot := 0, flags := 0, peer := 0xFFFF, own := List.replicate 16 0
    far := List.replicate 16 0, order := List.replicate 8 0, heard := none, since := 0, differ := none
    holder := List.replicate 16 0 }

/-- An empty image slot. -/
def ImgSlot.init : ImgSlot := { factory := false, data := [], opened := none }

/-- A lane that nothing has happened to. -/
def LaneSt.init : LaneSt := { sync := false, inject := 0, spacing := 0, overAt := none, underAt := none, alarm := false }

/-- An accumulator that holds nothing (R417). -/
def Accum.init : Accum := { count := 0, sum := 0, lo := 0, hi := 0, ovr := 0, rec_ := 0, sfn := 0 }

/-- A channel that is off. -/
def TfeCh.init : TfeCh :=
  { unsettled := 0, ovr := 0, recovery := 0, word := 0, samples := [], fed := 0, cic := []
    biquad := List.replicate 4 [0, 0, 0, 0], window := [], envelope := 0, stopped := false }

/-- A value for each carrier. -/
def Pair.both {α : Type} (x : α) : Pair α := { a := x, b := x }

/-- A layer with no value. -/
def Store.empty : Store := { nums := [], octs := [] }

/-- The time base at reset: it counts from 0, not anchored (R59, R62), and the event table is empty (R58). -/
def Clock.start : Clock :=
  { sfn := 0, tick := 0, withhold := 0, anchored := false, sleepFrom := none, entries := [], nextWrite := 1, nextProp := 0 }

/-- Event log and Bandstand at reset (R533): every counter 0, every buffer empty. -/
def Diag.start : Diag :=
  { ring := [], ringNext := 0, nextSeq := 0, waiting := [], ctrs := [], pendSelect := [], ranges := [], pendRange := []
    latch := [], snaps := [], snapCount := 0, snapNext := 0, alerting := none, limiter := [] }

/-- Domains whose rails are up when PGOOD is released (R570, R572): AON, CTL, GRT, ICE and RET. -/
def railsAtReset (d : Nat) : Bool := d == 1 || d == 2 || d == 4 || d == 5 || d == 24

/-- Supply, domains and ledger after power-on: AON runs, PGOOD is released, the Grotto boot has not begun. -/
def Power.start : Power :=
  { on := true, aonOn := true, pgood := true, latched := false, vin := 0, iin := 0
    vinKnown := false, passes := [], vinState := 0, vinExtreme := 0, vinSince := 0
    doms := (List.range 25).map (fun d => if railsAtReset d then { Dom.init with st := .awake } else Dom.init)
    ledger := [], measured := 0, haveM := false, recentM := [], noPassRun := 0, mInvalid := false, drift := []
    frozenD := 0, peak := 0, aboveRun := 0, belowRun := 0, shedPos := 0, shedAt := none
    groupShed := List.replicate 9 none, unresolved := false, newCeiling := none, oldCeiling := none
    shedCheck := false, keepAlive := false, kaSince := 0, alarm := none, tripped := false, tripPeak := 0
    caseHot := false, held := [] }

/-- Blocks that the factory left in the reserve (R482; log entry 3). -/
def factoryReserve : Nat := (Config.factoryNumber 0xB033 999).toNat % 129

/-- SRAM and store of a part at its first start: nothing is listed in the SRAM, every octet of which reads as zero (R17,
R473), and no record is written. -/
def Mem.start : Mem :=
  { sram := [], poison := [], banks := [], ret := (List.range 16).map RetBank.init, repairs := 8, recs := [], queue := []
    blocks := [], writeAt := List.replicate 18 none, nextSeq := List.replicate 6 1, fullRegions := [], erasing := []
    moving := [], reserve := factoryReserve, refreshAt := 0, scrubAt := 0, retireDue := none, retireBlocks := [], nand := [], lastRead := [] }

/-- AOP at reset: no session, no subscription, empty queue and violation log. -/
def Aop.start : Aop :=
  { sessions := [], queue := [], stalls := [], subs := [], viol := [], violNext := 0, violCount := 0, saving := none
    saveTaken := false, factorySave := none, restore := none, mgAddrs := [], neighbours := [], full := [], dropped := none
    forwards := [] }

/-- A map that carries nothing (R231). -/
def CMap.empty : CMap := { carried := 0, sizes := List.replicate 64 0, plots := 0, gen := 0 }

/-- Framing of a carrier at reset: no lock, empty map. -/
def FrameSt.start : FrameSt :=
  { rxMap := CMap.empty, txMap := CMap.empty, validRun := 0, lastSfn := 0, invalidRun := 0, ranTo := 0, jumpRun := 0
    jumpSfn := 0, lockedAt := 0, unlockedAt := 0, core := [], coordOut := [], replies := [], mocOut := []
    mocHead := true, mocNoStart := 0, mocTxSeq := 0, mocUnacked := [], mocAgain := [], mocRxNext := 0, mocIn := []
    mocSync := false, ptp := [], ptpOver := 0, rxPtp := [], rateDiff := [], rateLogged := [], waiting := List.range 64
    missed := [], head := [], blockIn := [] }

/-- The converters of a carrier at the first power-up of a part. -/
def ConvSt.start : ConvSt := { convs := (List.range 8).map Conv.init, countLocal := true, actAt := none }

/-- Calibration at reset: nothing is learned until the mount (R442). -/
def Cal.start : Cal :=
  { learned := [], changed := [], points := [], savedAt := 0, retryAt := none, clearDue := false, runs := [], failed := []
    started := 0, elapsed := 0, factoryBad := false, delayExtra := 0, lockerBad := [], pendingParts := [], wakeLoads := []
    suspect := false }

/-- The receiver of a carrier at reset: unlocked, no dispersion record. -/
def EqSt.start : EqSt :=
  { kind := .cold, acqStart := 0, stepStart := 0, fails := 0, failLog := 0, waitUntil := none, refusedRun := false
    retryAt := 0, bad := 0, good := 0, pilots := 0, sfRaised := false, sfSince := 0, sfCause := 0, pilotSnr := 0
    trackedFrom := 0, needed := 0, validity := 0, cdHeld := 0, uHeld := 0, lo := 0, loBase := 0, offRun := 0
    steering := false, steerLogged := false, iqLogged := [], goneSince := none
    window := (-160000, 160000), offset := 0, cdSum := 0, cds := [], sfSeen := false }

/-- The loading policy of a carrier at reset. -/
def LoadSt.start : LoadSt :=
  { snrs := [], dropRun := List.replicate 16 0, raiseRun := List.replicate 16 0, alarmRun := List.replicate 16 0
    clearRun := 0, alarmAt := 0, shed := [], caps := none, dropFrom := 0, raiseFrom := 0, ceilDue := false, held := []
    lastForce := none, cand := 0, candFrom := 0, resetAt := none, iterGap := 0, withheld := false, share := (1, 1), shedTx := []
    prior := none }

/-- Counts of an SF that released nothing. -/
def SfCount.none : SfCount := { corrected := 0, zero := 0, bad := 0, all := 0 }

/-- The decoder pool at reset: empty, every bank in service. -/
def Pool.start : Pool :=
  { words := [], rot := 0, lastOut := Pair.both 0, discarding := none, drains := List.replicate 4 .none
    hist := List.replicate 33 0, prev := List.replicate 33 0, used := 0, budget := 0, recent := []
    cur := Pair.both SfCount.none, sec := Pair.both [], alarm := Pair.both false, belowFrom := Pair.both 0, overflows := 0
    grant := 0, request := 0, pendGrant := none, grantRetry := none, wakeRetry := [], failRun := 0, ucode := []
    ucodeSlot := 0, masterBad := false, capLog := 0, cap := 32, ucodeAt := 0 }

/-- The host lanes at reset: off. -/
def Lanes.start : Lanes :=
  { lanes := List.replicate 32 LaneSt.init, faults := [], logged := [], lref := List.replicate 4 false }

/-- The cipher of a carrier at reset: every context off, the fill context too while there is no root key (R259). -/
def CipherSt.start : CipherSt :=
  { tx := List.replicate 65 Ctx.init, rx := List.replicate 65 Ctx.init, badSf := 0, suspended := false, clean := 0 }

/-- Roots and agreement of a carrier at reset: none (R286). -/
def RootSt.start : RootSt :=
  { cur := none, next := none, install := 0, since := 0, part := .none, initiates := false, session := 0, offer := []
    answer := [], peer := [], root := [], sfn := 0, sentAt := 0, backoff := 0, retryAt := none, waitFrom := none
    askAt := none, asked := false, rxAt := none }

/-- The Grotto at reset, before its boot: slots empty with generation 0 (R292), registers zero (R306). -/
def Grotto.start : Grotto :=
  { slots := List.replicate 256 GSlot.init, queue := [], turn := 0, out := []
    regs := List.replicate 16 (List.replicate 64 0), quote := none, identity := false, ownerBad := false, lost := false
    reload := [], floors := List.replicate 7 0, hold := false, roots := Pair.both RootSt.start }

/-- Time stamps of a line at reset. -/
def LineTime.start : LineTime :=
  { departs := [], arrives := [], frozenAt := 0, bound := 0, fibre := 0, freqs := (0, 0), advFails := 0, loops := [] }

/-- The Belvedere at reset: every input without signal, the factory priority table. -/
def BelSt.start : BelSt :=
  { inputs := List.replicate 14 RefSt.init, pps := List.replicate 2 PpsSt.init, lines := Pair.both LineTime.start
    table := (List.range 16).map (fun m => (factoryNum (okey Obj.refTable m)).toNat), freqLoop := LoopSt.idle
    timeLoop := LoopSt.idle, hist := [], steer := 0, slew := 0, u0 := 0, heldFrom := 0, hcase := 0, mates := [false, false]
    holdSf := none, drop := [], sfOff := 0, ppsOff := [0, 0], clkF := [0, 0, 0, 0], source := 0 }

/-- The footpath of a carrier at reset. -/
def FootSt.start : FootSt :=
  { txOn := false, rxOn := false, off := [1, 1], refused := [none, none], queue := [], seq := 0, freeAt := 0, tone := 0, level := 0
    since := 0, header := [], heard := [], neighbour := none, found := 0, clash := none, mismatch := false, helloAt := 0
    floors := List.replicate 64 [] }

/-- The avenues at reset: mode off until the dictionary gives another (R18). -/
def AvSt.start : AvSt :=
  { prev := 0, takeSfn := 0, takeRound := 0, tookOver := false, rx := Pair.both (0, 0), rxNext := Pair.both none
    seenTake := none, cmd := 0, exercise := false, mute := Pair.both none, elig := Pair.both false, blocked := false
    order := none, lastSeq := 256, heardAt := none, unreach := false, disputeFrom := none, degraded := none
    goodFrom := none, waiting := false, short := false, okFrom := none, gapFrom := none, startMode := true, released := 0
    record := List.replicate 16 0, recordAt := 0, footAt := 0, farRecord := []
    clients := List.replicate 64 Client8.init }

/-- A front converter that has shown nothing. -/
def Front.none : Front := { value := 0, ovr := false, recovery := 0 }

/-- SVC2 and the filter engine at reset (R425): registers and accumulators read zero. -/
def Svc.reset0 : Svc :=
  { entry := none, start := 0, lateNext := false, userLen := 0, user := [], inj := none, injLen := 0, injEnt := []
    resume := none, injAt := 0, injSource := 0, pending := none, pendAt := 0, merged := 0, recover := 0, regs := List.replicate 72 0
    accums := List.replicate 72 Accum.init, clearDue := false, failRun := 0, passRun := 0, skip := [], warn := false
    warnLow := none, hot := false, hotFrom := none, hotLow := none, fronts := Pair.both Front.none
    tfe := List.replicate 8 TfeCh.init, reload := [] }

/-- The images of a part at its first start: slot A of every subsystem holds the factory image and boots (log
entry 3). -/
def Img.start : Img :=
  { slots := (List.range 12).map (fun k => { ImgSlot.init with factory := k % 2 == 0 }), active := List.replicate 7 0
    boot := List.replicate 7 0, dsp := Pair.both 0, probation := [], loading := [], unloaded := [] }

/-- The group bus at reset: silent until `BootState` 2 (R544). -/
def GroupSt.start : GroupSt :=
  { listening := none, keeper := 0xFFFF, deputy := 0xFFFF, base := none, members := List.replicate 32 Member.init
    dup := 0, admits := [], joinBad := List.replicate 32 0, handover := none, leaving := 0, silent := false, beaconAt := 0
    mirror := [], shift := 0, orders := [], seqs := [], strays := [], dupAt := 0, joinDue := false }

/-- A registration that has not begun. -/
def RegSt.start : RegSt := { done := false, attempt := 0, dueAt := none, seq := 0, ackBy := none, retryAt := none }

/-- The domain at reset: no claim heard, no role. -/
def DomainSt.start : DomainSt :=
  { claims := [], leadQuiet := 0, regQuiet := 0, settled := none, group := RegSt.start, site := RegSt.start
    sentRoll := none, groupRolls := [], siteRolls := [], complete := false, announceAt := 0, rollAt := 0, txSeq := 1
    powerAt := 0, late := false, noTraffic := Pair.both false }

end Sys2Proof.Machine
end

