-- ==== Sys2Proof/Machine/State.lean ====
section
/-! DEFINITION. The state of the TH6400: the object store with its two layers above the factory default (R18), the
parts of Types.lean, the model's own fields (`free`, `out`) and the queue of waiting commands; and the state after
reset. -/

namespace Sys2Proof.Machine

/-- Why a command stops the block. -/
inductive Fault where
  /-- Raised by no command: the spec gives every one an effect. It stands so that the type has a member. Safe. -/
  | neverRaised
  deriving DecidableEq, Repr

/-- Why a command is refused by the model. -/
inductive Refusal where
  /-- A command of the table that has no meaning here. Raised by no meaning: every row has one. Safe. -/
  | notModelled (mnemonic : String)
  deriving DecidableEq, Repr

/-- What a client's egress lanes carry in place of, or as, its data (R248). -/
inductive Egress where
  | localFault | errorBlocks | idle
  | cell (seq : Nat)
  deriving DecidableEq, Repr

/-- What leaves the engine: an AOP message; the completion of a Grotto request (R298); a carrier's core as it is sent,
sparse by word; a MOC packet for a protocol that another unit serves (R211); a PTP correction (R217); what a client's
egress carries; a pulse of a timing output with its offset and width in ps (R340); a footpath packet as its tone in kHz,
its dither depth in 0.01 % and the phase of the tone in each bit period (R381, R382, R384); a frame of the group bus; a domain message; a neighbour discovery message. -/
inductive Output where
  | aop (transport : Fin 5) (source port : Nat) (message : List Byte)
  | completion (tag status : Nat)
  | core (c : Carrier) (sfn : Nat) (words : List (Nat × Nat))
  | blocks (c : Carrier) (sfn : Nat) (heads : List BlockHead)
  | codeword (c : Carrier) (frame number info : Nat) (bad : Bool)
  | mocPacket (c : Carrier) (protocol : Nat) (data : List Byte)
  | ptp (client : Nat) (frame : List Byte)
  | egress (client : Nat) (what : Egress)
  | pulse (pin : Nat) (offset : Int) (width : Nat)
  | foot (c : Carrier) (khz depth : Nat) (phases : List Bool)
  | group (window : Nat) (octets : List Byte)
  | domain (dest : Option Nat) (octets : List Byte)
  | neighbour (port : Nat) (advert : Bool) (target : Nat)
  deriving DecidableEq, Repr

/-- The machine. `live` and `user` are the two layers of object values above the factory default (R18); each further
part belongs to a chapter. `free` counts the free values read (log entry 1), `out` holds what left the engine, newest
first, and `pending` the commands that wait, first in, first out. -/
structure State where
  live  : Store
  user  : Store
  clk   : Clock
  diag  : Diag
  pow   : Power
  mem   : Mem
  aop   : Aop
  frame : Pair FrameSt
  conv  : Pair ConvSt
  cal   : Cal
  eq    : Pair EqSt
  load  : Pair LoadSt
  pool  : Pool
  lanes : Lanes
  ciph  : Pair CipherSt
  grot  : Grotto
  bel   : BelSt
  foot  : Pair FootSt
  av    : AvSt
  svc   : Svc
  img   : Img
  grp   : GroupSt
  dmn   : DomainSt
  free  : Nat
  out   : List Output
  pending : List Instr
  deriving DecidableEq, Repr

/-- The machine right after the power-on of a part fresh from the factory (R571, R572): every object at its factory
default (R18), nothing in SRAM, no record in the Icehouse, no command waiting. -/
def State.reset : State :=
  { live := Store.empty, user := Store.empty, clk := Clock.start, diag := Diag.start, pow := Power.start
    mem := Mem.start, aop := Aop.start, frame := Pair.both FrameSt.start, conv := Pair.both ConvSt.start
    cal := Cal.start, eq := Pair.both EqSt.start, load := Pair.both LoadSt.start, pool := Pool.start
    lanes := Lanes.start, ciph := Pair.both CipherSt.start, grot := Grotto.start, bel := BelSt.start
    foot := Pair.both FootSt.start, av := AvSt.start, svc := Svc.reset0, img := Img.start, grp := GroupSt.start
    dmn := DomainSt.start, free := 0, out := [], pending := [] }

end Sys2Proof.Machine
end

