-- ==== Sys2Proof/Machine/Ops.lean ====
section
/-! DEFINITION. Named operations over the state that every chapter uses: reading and writing object values in their
three layers (R18), free values, counters of the dictionary, event records (R534), counting in the Bandstand (R525),
the alert line (R573), and the messages that leave a port. -/

namespace Sys2Proof.Machine

/-! ## Object values -/

/-- A sorted association list with one key set. -/
def assocSet {α : Type} : List (Nat × α) → Nat → α → List (Nat × α)
  | [], k, v => [(k, v)]
  | (j, w) :: l, k, v =>
    if k < j then (k, v) :: (j, w) :: l
    else if k = j then (k, v) :: l
    else (j, w) :: assocSet l k v

/-- The value of a key in an association list. -/
def assocGet {α : Type} : List (Nat × α) → Nat → Option α
  | [], _ => none
  | (j, w) :: l, k => if k = j then some w else assocGet l k

/-- An association list with one key removed. -/
def assocDel {α : Type} (l : List (Nat × α)) (k : Nat) : List (Nat × α) := l.filter (fun p => p.1 != k)

/-- Number of the instance of an object for a carrier: 0100h apart (R9). -/
def on (c : Carrier) (o : Nat) : Nat := o + 256 * c.toNat

/-- Numeric value in force of a key: the live layer, else the user image, else the factory default (R18). -/
def State.numAt (s : State) (k : Nat) : Int :=
  match assocGet s.live.nums k with
  | some v => v
  | none =>
    match assocGet s.user.nums k with
    | some v => v
    | none => factoryNum k

/-- Octets in force of a key (R18). -/
def State.octsAt (s : State) (k : Nat) : List Byte :=
  match assocGet s.live.octs k with
  | some v => v
  | none =>
    match assocGet s.user.octs k with
    | some v => v
    | none => factoryOcts k

/-- Integer value in force of an object's member. -/
def State.i (s : State) (o : Nat) (m : Nat := 0) : Int := s.numAt (okey o m)

/-- Value in force of an object's member that is never negative. -/
def State.u (s : State) (o : Nat) (m : Nat := 0) : Nat := (s.i o m).toNat

/-- Octets in force of an object's member. -/
def State.o (s : State) (o : Nat) (m : Nat := 0) : List Byte := s.octsAt (okey o m)

/-- The live value of an object's member set. -/
def State.put (s : State) (o m : Nat) (v : Int) : State :=
  { s with live := { s.live with nums := assocSet s.live.nums (okey o m) v } }

/-- The live octets of an object's member set. -/
def State.putO (s : State) (o m : Nat) (v : List Byte) : State :=
  { s with live := { s.live with octs := assocSet s.live.octs (okey o m) v } }

/-- The next free value, cut to a number of bits, and the state with the free-value counter advanced (log entry 1). -/
def State.fresh (s : State) (w : Nat) : Nat × State :=
  ((Config.freeValue s.free).toNat % 2 ^ w, { s with free := s.free + 1 })

/-- A counter object raised by `n`. The spec does not say what a counter of `w` bits holds past its largest value:
from there on it holds a free value (log entry 4). -/
def State.addTo (s : State) (w o m n : Nat) : State :=
  if s.u o m + n < 2 ^ w then s.put o m (s.u o m + n : Nat)
  else (s.fresh w).2.put o m ((s.fresh w).1 : Nat)

/-- What a column of `w` bits shows of a count: past its largest value, a free value (log entry 4). -/
def shownCount (w n : Nat) : Nat := if n < 2 ^ w then n else (Config.countPast n).toNat % 2 ^ w

/-- A U32 counter object raised by one. -/
def State.bump (s : State) (o : Nat) (m : Nat := 0) : State := s.addTo 32 o m 1

/-- A U64 counter object raised by `n`. -/
def State.add64 (s : State) (o m n : Nat) : State := s.addTo 64 o m n

/-- A number in `lo .. lo + n - 1` that a test shows unused, starting the search at a free value: the spec says only
that the engine chooses one (log entry 5). No table it is used for holds more than 1,024 numbers, so the search is as
long. -/
def State.freshNum (s : State) (lo n : Nat) (used : Nat → Bool) : Option Nat × State :=
  let r := s.fresh 32
  let start := r.1 % (if n = 0 then 1 else n)
  let cand := fun i => lo + (start + i) % n
  (((List.range (min n 1025)).find? (fun i => !used (cand i))).map cand, r.2)

/-! ## Output -/

/-- Something that leaves the engine, newest first. -/
def State.emit (s : State) (o : Output) : State := { s with out := o :: s.out }

/-! ## Bandstand (R525, R528) -/

/-- What an occurrence carries for the filters of R524; `none` where it carries no value (R525). Role is a code of
R503, master a Source code of R40, class a class of R524, address a space of R527 with an address in it. -/
structure Attr where
  carrier : Option Carrier := none
  role    : Option Nat := none
  master  : Option Nat := none
  cls     : Option Nat := none
  addr    : Option (Nat × Nat) := none
  deriving DecidableEq, Repr

/-- A mask field admits an attribute: with a value, by its bit; without one, only while the mask is all ones (R525). -/
def maskAdmits (mask width shift : Nat) : Option Nat → Bool
  | none => mask == 2 ^ width - 1
  | some v => bit mask (v + shift)

/-- The Carrier field of R524 admits an occurrence. -/
def carrierAdmits (f : Nat) (c : Option Carrier) : Bool :=
  f == 0 || (match c with
    | some x => f == x.inst
    | none => false)

/-- The range a select word names admits an address (R527). -/
def rangeAdmits (ranges : List (Nat × Nat × Nat × Nat)) (r : Nat) (a : Option (Nat × Nat)) : Bool :=
  r == 0 || (match a, ranges.find? (fun x => x.1 == r) with
    | some (sp, x), some (_, sp', lo, hi) => sp' != 0 && sp == sp' && decide (lo ≤ x) && decide (x ≤ hi)
    | _, _ => false)

/-- A select word admits an occurrence of an event (R524, R525). -/
def selectAdmits (ranges : List (Nat × Nat × Nat × Nat)) (w ev : Nat) (a : Attr) : Bool :=
  bits w 63 48 == ev && ev != 0 &&
  maskAdmits (bits w 47 42) 6 1 a.role &&
  maskAdmits (bits w 41 36) 6 0 a.master &&
  maskAdmits (bits w 35 31) 5 0 a.cls &&
  carrierAdmits (bits w 30 29) a.carrier &&
  rangeAdmits ranges (bits w 23 16) a.addr

/-- A count raised by some units: it wraps at 2⁴⁸ to the remainder, and the wrap sets Overflow (R523). -/
def Ctr.add (c : Ctr) (n : Nat) : Ctr :=
  { c with count := (c.count + n) % 2 ^ 48, overflow := c.overflow || decide (2 ^ 48 ≤ c.count + n) }

/-- The counters with an occurrence counted, and how many of them wrapped. -/
def countAll (ranges : List (Nat × Nat × Nat × Nat)) (ev n : Nat) (a : Attr) : List Ctr → List Ctr × Nat
  | [] => ([], 0)
  | c :: l =>
    let r := countAll ranges ev n a l
    if selectAdmits ranges c.select ev a then
      (c.add n :: r.1, r.2 + (if 2 ^ 48 ≤ c.count + n then 1 else 0))
    else (c :: r.1, r.2)

/-- `n` units of an event occur (R525). Each wrap of a counter is an occurrence of F081h in turn (R528). -/
def State.occurN (s : State) (ev n : Nat) (a : Attr) : State :=
  let r := countAll s.diag.ranges ev n a s.diag.ctrs
  let r' := if r.2 = 0 then r.1 else (countAll s.diag.ranges 0xF081 r.2 {} r.1).1
  { s with diag := { s.diag with ctrs := r' } }

/-- One unit of an event occurs. -/
def State.occur (s : State) (ev : Nat) (a : Attr := {}) : State := s.occurN ev 1 a

/-- Class of a client's occurrence (R525): 0 committed, 1 crop, by `ClientClass` at the instant. -/
def State.clsOf (s : State) (client : Nat) : Nat := s.u Obj.clientClass client

/-! ## Messages that leave over AOP (R499, R500, R516) -/

/-- The 20-octet header of R499 in front of a body: type, OpCount, Session, Sequence, Status. -/
def aopMsg (type ops session sequence status : Nat) (body : List Byte) : List Byte :=
  be 1 1 ++ be 1 type ++ be 2 (20 + body.length) ++ be 2 0xFFFF ++ be 2 ops ++ be 4 session ++ be 4 sequence ++
    be 2 status ++ be 2 0 ++ body

/-- A 16-octet operation header of R500, the value after it padded to a multiple of 4. -/
def opMsg (op form obj mem status offset : Nat) (target value : List Byte) : List Byte :=
  be 1 op ++ be 1 form ++ be 2 obj ++ be 1 mem ++ be 1 0 ++ be 2 status ++ be 2 value.length ++ be 2 0 ++
    be 4 offset ++ target ++ value ++ List.replicate (padding value.length) 0

/-- A message sent to whoever sent a request (R496: responses return by the transport and to the source). -/
def State.sendTo (s : State) (w : Requester) (m : List Byte) : State := s.emit (.aop w.transport w.source w.port m)

/-- Octets of an event record (R534). -/
def EventRec.bytes (r : EventRec) : List Byte :=
  be 2 r.code ++ be 1 r.carrier ++ be 1 r.flags ++ be 4 r.seq ++ be 8 r.sfn ++ be 2 r.tick ++ be 2 r.data.length ++
    fit 44 r.data

/-- A notification of a subscription (R516): Type 04h, its own Sequence, one operation header with the object, the
subscription number as Offset, the value, and the SFN of the boundary. Dropped and counted where its transport is
full. -/
def State.notify (s : State) (b : Sub) (value : List Byte) : State :=
  match s.aop.sessions.find? (fun x => x.id == b.session) with
  | none => s
  | some x =>
    let mark := fun (s : State) (v : List Byte) => { s with aop := { s.aop with subs := s.aop.subs.map (fun y =>
      if y.num = b.num then { y with seq := y.seq + 1, sent := s.clk.sfn, last := v } else y) } }
    if s.aop.full.contains x.transport.val then
      let s := mark (s.bump Obj.notifyDropCount) b.last
      { s with aop := { s.aop with dropped := some b.num } }
    else
      let m := aopMsg 4 1 b.session b.seq 0 (opMsg 1 0 b.obj b.mem 0 b.num [] (value ++ be 8 s.clk.sfn))
      let s := s.emit (.aop x.transport x.source x.port m)
      mark (s.occur 0x1083 { cls := some 2 }) value

/-! ## Event log (R534, R535, R573) -/

/-- The record enters the ring of 256 and counts as waiting (R535). -/
def Diag.push (d : Diag) (r : EventRec) : Diag :=
  { d with
    ring := (r :: d.ring).take 256
    ringNext := (d.ringNext + 1) % 256
    nextSeq := d.nextSeq + 1
    waiting := d.waiting ++ [r] }

/-- ALERTN is pulled low by a record whose subsystem nibble has its bit set in `AlertMask` (R573). -/
def State.alert (s : State) (r : EventRec) : State :=
  if bit (s.u Obj.alertMask) (r.code / 4096) then
    { s with diag := { s.diag with alerting := some r.seq } }.put Obj.alertState 0 1
  else s

/-- The event-stream subscriptions that take a record: mode 2, mask bit of its subsystem (R515). -/
def State.streams (s : State) (code : Nat) : List Sub :=
  s.aop.subs.filter (fun b => b.mode == 2 && bit b.obj (code / 4096))

/-- The record of an event as it stands now (R534). -/
def State.record (s : State) (code carrier : Nat) (data : List Byte) (restarted : Bool) : EventRec :=
  { code := code, carrier := carrier
    flags := b2n (s.i Obj.timeQuality != 1) + 2 * b2n restarted
    seq := s.diag.nextSeq, sfn := s.clk.sfn, tick := s.clk.tick, data := data.take 44 }

/-- An event is logged: ring, count in the Bandstand, alert, event streams. -/
def State.logRec (s : State) (r : EventRec) (c : Option Carrier) : State :=
  let s := { s with diag := s.diag.push r }
  let s := s.occur r.code { carrier := c }
  let s := s.alert r
  (s.streams r.code).foldl (fun s b => s.notify b r.bytes) s

/-- A device-wide event is logged. -/
def State.log (s : State) (code : Nat) (data : List Byte := []) : State :=
  s.logRec (s.record code 0 data false) none

/-- An event of a carrier is logged. -/
def State.logC (s : State) (c : Carrier) (code : Nat) (data : List Byte := []) : State :=
  s.logRec (s.record code c.inst data false) (some c)

/-- An event that is logged after a restart for something before it (R534 flag bit 1). -/
def State.logAfter (s : State) (code : Nat) (data : List Byte := []) : State :=
  s.logRec (s.record code 0 data true) none

/-- An event that is logged at most once in `sf` superframes under a key of its own. -/
def State.logLimited (s : State) (key sf code carrier : Nat) (data : List Byte) : State :=
  let due := match assocGet s.diag.limiter key with
    | some t => decide (t + sf ≤ s.clk.sfn)
    | none => true
  if due then
    let s := { s with diag := { s.diag with limiter := assocSet s.diag.limiter key s.clk.sfn } }
    let c := if carrier = 1 then some Carrier.a else if carrier = 2 then some Carrier.b else none
    s.logRec (s.record code carrier data false) c
  else s

/-- Superframes in one second (R32). -/
abbrev sfPerSecond : Nat := 10000

/-- An event logged at most once per second, keyed by its code and an item. -/
def State.logSecond (s : State) (code item carrier : Nat) (data : List Byte) : State :=
  s.logLimited (code * 65536 + item) sfPerSecond code carrier data

/-! Added-data items (R534): a number in 1, 2, 4 or 8 octets, a signed number, a binary32. The width of an item that
is no object's value is the model's (log entry 7). -/

/-- A one-octet item. -/
def d8 (n : Nat) : List Byte := be 1 n
/-- A two-octet item. -/
def d16 (n : Nat) : List Byte := be 2 n
/-- A four-octet item. -/
def d32 (n : Nat) : List Byte := be 4 n
/-- An eight-octet item. -/
def d64 (n : Nat) : List Byte := be 8 n
/-- A signed two-octet item. -/
def i16 (n : Int) : List Byte := be 2 (twos 16 n)
/-- A signed four-octet item. -/
def i32 (n : Int) : List Byte := be 4 (twos 32 n)
/-- A signed eight-octet item. -/
def i64 (n : Int) : List Byte := be 8 (twos 64 n)
/-- Watts as a binary32 item, from microwatts. -/
def dW (uw : Int) : List Byte := be 4 (f32OfRat uw 1000000)

/-! ## Time -/

/-- Local time since the epoch in units of 0.01 ps: 10¹⁰ of them to a superframe, 9,765,625 to a tick (R32, R34). -/
def State.now (s : State) : Nat := s.clk.sfn * 10000000000 + s.clk.tick * 9765625

/-- Milliseconds in superframes. -/
def sfOfMs (ms : Nat) : Nat := ms * 10

end Sys2Proof.Machine
end

