-- ==== Sys2Proof/Machine/Ledger.lean ====
section
/-! DEFINITION. The ledger of the Allotment (R456 to R459) and the power domains as every chapter uses them: asking for
a cost, releasing it, waking a domain and touching its idle timer (R448, R450, R453). -/

namespace Sys2Proof.Machine

/-! ## Domains (R448) -/

/-- Domain numbers of R448. -/
abbrev Dn.aon : Nat := 1
/-- CTL. -/
abbrev Dn.ctl : Nat := 2
/-- MGT. -/
abbrev Dn.mgt : Nat := 3
/-- GRT. -/
abbrev Dn.grt : Nat := 4
/-- ICE. -/
abbrev Dn.ice : Nat := 5
/-- BEL. -/
abbrev Dn.bel : Nat := 6
/-- SVC. -/
abbrev Dn.svc : Nat := 7
/-- HLA, the first of the four lane quads. -/
abbrev Dn.hla : Nat := 8
/-- CIP. -/
abbrev Dn.cip : Nat := 12
/-- DPA, the first of the four decoder banks. -/
abbrev Dn.dpa : Nat := 13
/-- FRM. -/
abbrev Dn.frm : Nat := 23
/-- RET. -/
abbrev Dn.ret : Nat := 24

/-- TXA or TXB. -/
def Dn.tx : Carrier → Nat
  | .a => 17
  | .b => 20
/-- RXA or RXB. -/
def Dn.rx : Carrier → Nat
  | .a => 18
  | .b => 21
/-- OPA or OPB. -/
def Dn.op : Carrier → Nat
  | .a => 19
  | .b => 22

/-- Awake costs of R448 in microwatts, domain 1 first. -/
def domainCosts : List Nat :=
  [150000, 4000000, 800000, 1200000, 1500000, 2000000, 1600000, 1000000, 1000000, 1000000, 1000000, 1500000,
   1800000, 1800000, 1800000, 1800000, 17000000, 33000000, 12000000, 17000000, 33000000, 12000000, 6000000, 400000]

/-- Awake cost of a domain in microwatts (R448). -/
def domainCost (d : Nat) : Nat := nth domainCosts (d - 1) 0

/-- Wake latency of a domain in microseconds (R448). -/
def State.wakeLatency (s : State) (d : Nat) : Nat := s.u Obj.wakeLatency d

/-- Wake latency in superframes, rounded up. -/
def State.wakeSf (s : State) (d : Nat) : Nat := ceilDiv (s.wakeLatency d) 100

/-- A domain's entry; the list counts from domain 0, which does not exist. -/
def State.dom (s : State) (d : Nat) : Dom := nth s.pow.doms d Dom.init

/-- A domain's entry changed. -/
def State.setDom (s : State) (d : Nat) (f : Dom → Dom) : State :=
  { s with pow := { s.pow with doms := modNth s.pow.doms d f } }

/-- A domain is awake. -/
def State.awake (s : State) (d : Nat) : Bool := decide ((s.dom d).st = .awake)

/-- A domain draws its awake cost: from the grant of its wake to the end of its sleep entry (R451, R453). -/
def State.domOff (s : State) (d : Nat) : Bool := decide ((s.dom d).st = .off)

/-- An access restarts a domain's idle timer (R450). -/
def State.touch (s : State) (d : Nat) : State := s.setDom d (fun x => { x with access := s.clk.sfn })

/-- `DomainState` code of a domain (R469): off, entering sleep, waking, awake. -/
def DomSt.code : DomSt → Nat
  | .off => 0
  | .entering => 1
  | .waking => 2
  | .awake => 3

/-! ## The ledger (R456 to R459) -/

/-- Activity codes of R456. -/
abbrev Act.domain : Nat := 0
/-- Host lane running. -/
abbrev Act.lane : Nat := 1
/-- Decode floor. -/
abbrev Act.floor : Nat := 2
/-- Iteration allowance. -/
abbrev Act.iter : Nat := 3
/-- Slice trim. -/
abbrev Act.trim : Nat := 4
/-- Acquisition. -/
abbrev Act.acq : Nat := 5
/-- Link cipher. -/
abbrev Act.cipher : Nat := 6
/-- Grotto units. -/
abbrev Act.grotto : Nat := 7
/-- Footpath. -/
abbrev Act.foot : Nat := 8
/-- User filter channel. -/
abbrev Act.tfe : Nat := 9
/-- Launch power. -/
abbrev Act.launch : Nat := 10
/-- Privileged calibrations. -/
abbrev Act.cal : Nat := 11

/-- Shed group of an activity, 0 for none (R456, R462); a lane's group is that of its quad. -/
def shedGroup (act item : Nat) : Nat :=
  if act = Act.domain then 4
  else if act = Act.lane then 5 + item / 8
  else if act = Act.iter then 1
  else if act = Act.trim then 2
  else if act = Act.acq then 3
  else 0

/-- Ledger total L in microwatts. -/
def ledgerSum (l : List LedgerItem) : Nat := sumNat (l.map (·.cost))

/-- L (R457). -/
def State.ledgerTotal (s : State) : Nat := ledgerSum s.pow.ledger

/-- The largest M − L that the window still holds, 0 when none is positive (R457). -/
def driftMax (l : List (Nat × Int)) : Nat := l.foldl (fun m p => max m p.2.toNat) 0

/-- The drift term D (R457): frozen while the measurement is invalid. -/
def State.driftTerm (s : State) : Nat := if s.pow.mInvalid then s.pow.frozenD else driftMax s.pow.drift

/-- `Ceiling` in microwatts. -/
def State.ceiling (s : State) : Nat := s.u Obj.ceiling * 100000

/-- `ShedMargin` in microwatts. -/
def State.shedMargin (s : State) : Nat := s.u Obj.shedMargin * 100000

/-- The effective ceiling C′: `Ceiling`, or `Ceiling` less `ShedMargin` within 600,000 SF of the last shed (R458). -/
def State.effCeiling (s : State) : Nat :=
  match s.pow.shedAt with
  | some t => if s.clk.sfn < t + 600000 then s.ceiling - s.shedMargin else s.ceiling
  | none => s.ceiling

/-- C′ − L − D in microwatts (`Headroom`, R469). -/
def State.headroom (s : State) : Int := (s.effCeiling : Int) - s.ledgerTotal - s.driftTerm

/-- A group was shed within `ShedHold` (R458). -/
def State.inShedHold (s : State) (g : Nat) : Bool :=
  g != 0 && (match nth s.pow.groupShed g none with
    | some t => decide (s.clk.sfn < t + sfOfMs (s.u Obj.shedHold))
    | none => false)

/-- The latest VIN lies outside 6.0 to 60.0 V (R458, R566). -/
def State.supplyBad (s : State) : Bool :=
  s.pow.vinState != 0 || (s.pow.vinKnown && (decide (s.pow.vin < 12000) || decide (120000 < s.pow.vin)))

/-- Reason for which a request is refused, 0 when it is granted (R458): 3 supply, 2 shed hold, 1 ceiling. -/
def State.judge (s : State) (act item cost : Nat) : Nat :=
  if s.supplyBad then 3
  else if s.inShedHold (shedGroup act item) then 2
  else if s.effCeiling < s.ledgerTotal + s.driftTerm + cost then 1
  else 0

/-- A cost entered in the ledger; an item already there is replaced. -/
def State.enter (s : State) (act item cost : Nat) : State :=
  let l := s.pow.ledger.filter (fun x => !(x.act == act && x.item == item))
  { s with pow := { s.pow with ledger := l ++ [{ act := act, item := item, cost := cost }] } }

/-- An activity's cost leaves the ledger (R456). -/
def State.release (s : State) (act item : Nat) : State :=
  { s with pow := { s.pow with ledger := s.pow.ledger.filter (fun x => !(x.act == act && x.item == item)) } }

/-- Cost that an item holds in the ledger. -/
def State.holds (s : State) (act item : Nat) : Nat :=
  ledgerSum (s.pow.ledger.filter (fun x => x.act == act && x.item == item))

/-- A refusal: counted in `RefuseCount`, logged at most once per second per activity (R458). -/
def State.refuseCost (s : State) (act reason cost : Nat) : State :=
  let s := s.bump Obj.refuseCount act
  let s := s.occur 0x2081 { master := some 2 }
  s.logSecond 0x2001 act 0 (d8 act ++ d8 reason ++ dW cost ++ dW s.headroom)

/-- A request for a cost (R458): the reason, 0 when granted, and the state after it. -/
def State.ask (s : State) (act item cost : Nat) : Nat × State :=
  let r := s.judge act item cost
  if r = 0 then (0, (s.enter act item (s.holds act item + cost)).occur 0x2080 { master := some 2 })
  else (r, s.refuseCost act r cost)

/-- A request that is never refused (R459). -/
def State.askPrivileged (s : State) (act item cost : Nat) : State :=
  (s.enter act item (s.holds act item + cost)).occur 0x2080 { master := some 2 }

/-! ## Waking (R453, R454) -/

/-- The wake of one domain begins: it draws its cost and counts. -/
def State.beginWake (s : State) (d : Nat) : State :=
  (s.setDom d (fun x => { x with st := .waking, since := s.now, wakeNext := false })).bump Obj.wakeCount d

/-- An entry into sleep that an access or refuser ends before step 4 counts as aborted (R452). -/
def State.abortCount (s : State) (d refuser : Nat) : State :=
  s.setDom d (fun x => { x with aborted := modNth x.aborted (refuser - 1) (· + 1) })

/-- An access that arrives during a sleep entry (R451): before step 4 it ends the entry, afterwards it waits for the
entry's end. -/
def State.accessEntering (s : State) (d : Nat) : State :=
  if s.now < (s.dom d).iso then (s.abortCount d 5).setDom d (fun x => { x with st := .awake })
  else s.setDom d (fun x => { x with wakeNext := true })

/-- A sleeping domain's awake cost is asked for, and its wake begins when it is granted (R453). `agreed` is set for a
wake that an agreed coordinated entry needs, which is never refused (R454, R459). 0 when granted or not needed. -/
def State.wakeOne (s : State) (d : Nat) (agreed : Bool) : Nat × State :=
  match (s.dom d).st with
  | .awake => (0, s)
  | .waking => (0, s)
  | .entering => (0, s.accessEntering d)
  | .off =>
    if agreed then (0, (s.askPrivileged Act.domain d (domainCost d)).beginWake d)
    else
      let r := s.ask Act.domain d (domainCost d)
      if r.1 = 0 then (0, r.2.beginWake d)
      else (r.1, r.2.log 0x2005 (d8 d ++ d8 r.1))

/-- An access to a domain (R450, R453): the idle timer restarts; a domain that is entering sleep is awake again; a
sleeping one asks for its awake cost, SVC first if it sleeps too. 0 when the domain is or will be awake, else the
ledger's reason. -/
def State.accessDom (s : State) (d : Nat) (agreed : Bool := false) : Nat × State :=
  let s := s.touch d
  match (s.dom d).st with
  | .awake => (0, s)
  | .waking => (0, s)
  | .entering => (0, s.accessEntering d)
  | .off =>
    let r := if d = Dn.svc then (0, s) else s.wakeOne Dn.svc agreed
    if r.1 = 0 then r.2.wakeOne d agreed else (r.1, r.2)

end Sys2Proof.Machine
end

