-- ==== Sys2Proof/Machine/Sched.lean ====
section
/-! DEFINITION. The Sundial's table: what an entry is in octets (R40), where a target falls (R41, R42), which entries
may not meet (R31, R51, R53), how an engine-generated event moves or drops and a request is refused (R38, R54, R57),
how entries are missed and cancelled (R47, R56), and how a coordinated event is proposed (R44 to R46, R585). -/

namespace Sys2Proof.Machine

/-! ## Kinds and octets (R40, R52) -/

/-- Kind code and rank of R52. -/
def Kind.code : Kind → Nat
  | .snapshot => 1
  | .modeChange => 2
  | .plannedSwitch => 3
  | .imageActivation => 4
  | .loadingChange => 5
  | .mapChange => 6
  | .contextSwitch => 7
  | .keyRoll => 8
  | .sliceSwap => 9
  | .calWindow => 10
  | .scheduledWrite => 11
  | .injectTrigger => 12
  | .domainWake => 13

/-- The kind of a code, for the codes of R52. -/
def kindOf : Nat → Option Kind
  | 1 => some .snapshot
  | 2 => some .modeChange
  | 3 => some .plannedSwitch
  | 4 => some .imageActivation
  | 5 => some .loadingChange
  | 6 => some .mapChange
  | 7 => some .contextSwitch
  | 8 => some .keyRoll
  | 9 => some .sliceSwap
  | 10 => some .calWindow
  | 11 => some .scheduledWrite
  | 12 => some .injectTrigger
  | 13 => some .domainWake
  | _ => none

/-- Kinds marked coordinated in R52. -/
def Kind.coordinated (k : Kind) : Bool := decide (2 ≤ k.code) && decide (k.code ≤ 8) && k.code != 4

/-- Kinds whose offset may be other than 0 (R52). -/
def Kind.hasTicks : Kind → Bool
  | .snapshot => true
  | .calWindow => true
  | .scheduledWrite => true
  | .injectTrigger => true
  | .domainWake => true
  | _ => false

/-- Count field of R40 W3 25..24. -/
def scountCode : SCount → Nat
  | .loc => 0
  | .rx .a => 1
  | .rx .b => 2

/-- Carrier field of R40 and R534: device 0, A 1, B 2. -/
def carrierCode : Option Carrier → Nat
  | none => 0
  | some c => c.inst

/-- State field of R40 W3 21..19. -/
def EntrySt.code : EntrySt → Nat
  | .armed => 1
  | .proposed => 2
  | .agreed => 3
  | .pendingLate => 4

/-- The six words of an entry as one number, W5 first (R40). -/
def Entry.w3 (e : Entry) : Nat :=
  e.kind.code * 2 ^ 27 + b2n e.coord * 2 ^ 26 + scountCode e.count * 2 ^ 24 + carrierCode e.carrier * 2 ^ 22 +
    e.st.code * 2 ^ 19 + e.src % 8 * 2 ^ 16 + b2n e.late * 2 ^ 15 + b2n (e.moves != 0) * 2 ^ 14 + e.moves % 64 * 2 ^ 8

/-- The 24 octets of `EventEntry` (R40). -/
def Entry.octets (e : Entry) : List Byte :=
  be 4 e.key ++ be 2 e.obj ++ be 1 e.mem ++ be 1 0 ++ be 4 e.w3 ++
    be 4 (b2n e.symbols * 2 ^ 31 + e.offset % 2 ^ 25) ++ be 8 e.sfn

/-- `EventEntry` of an entry number: all zero while it is free (R40). -/
def State.entryOctets (s : State) (n : Nat) : List Byte :=
  match s.clk.entries.find? (fun e => e.num == n) with
  | some e => e.octets
  | none => List.replicate 24 0

/-- An entry that a chapter fills in: engine-generated by the CP, local count, armed, device-wide. -/
def Entry.base (k : Kind) (sfn : Nat) : Entry :=
  { num := 0, kind := k, coord := k.coordinated, count := .loc, carrier := none, st := .armed, src := 2
    late := false, moves := 0, symbols := false, offset := 0, sfn := sfn, orig := sfn, key := 0, obj := 0, mem := 0
    val := .num 0, data := [], write := 0, role := none, asker := none, prop := 0, dir := .tx }

/-! ## Placing (R34, R35, R41, R42) -/

/-- Symbols of a carrier in one superframe (R34). -/
def State.symbolsPerSf (s : State) (c : Carrier) : Nat := s.u (on c Obj.symbolRate) * 100000

/-- The tick an entry falls in (R35). -/
def State.tickOf (s : State) (e : Entry) : Nat :=
  if e.symbols then
    match e.carrier with
    | some c => e.offset * 1024 / s.symbolsPerSf c
    | none => 0
  else e.offset

/-- How far a count's boundaries lie behind the local ones, in nanoseconds (R36, `RxBoundaryDelay`). -/
def State.countDelay (s : State) : SCount → Nat
  | .loc => 0
  | .rx c => s.u (on c Obj.rxBoundaryDelay)

/-- Local instant of a superframe of a count, in 0.01 ps. -/
def State.instantOf (s : State) (k : SCount) (sfn tick : Nat) : Nat :=
  sfn * 10000000000 + tick * 9765625 + s.countDelay k * 100000

/-- The arm time of R41, 5 µs, in 0.01 ps. -/
abbrev armTime : Nat := 500000000

/-- n₀ of R41: the first SFN of a count whose event instant lies at least the arm time ahead. -/
def State.firstSfn (s : State) (k : SCount) (tick : Nat) : Nat :=
  ceilDiv (s.now + armTime - (tick * 9765625 + s.countDelay k * 100000)) 10000000000

/-- The horizon of R42 and R54. -/
abbrev horizon : Nat := 864000000

/-- The superframe a target names, and the status that refuses it, if one does, in the order of R15 (R34, R41, R42,
R45); 0801h still names the superframe, since a conflict there comes first. -/
def State.resolve (s : State) (t : Target) (k : Kind) (cnt : SCount) (c : Option Carrier) : Nat × Nat :=
  let tick :=
    if t.symbols then (match c with
      | some x => t.offset * 1024 / s.symbolsPerSf x
      | none => 0)
    else t.offset
  let okOffset :=
    if t.symbols then (match c with
      | some x => decide (t.offset < s.symbolsPerSf x)
      | none => false) && k == .scheduledWrite
    else decide (t.offset < 1024) && (k.hasTicks || t.offset == 0)
  let n := if t.relative then s.firstSfn cnt tick + t.sfn else t.sfn
  let lead := match c with
    | some x => s.u (on x Obj.coordLeadMin)
    | none => 8
  if k.coordinated && t.relative && t.sfn == 0 then (0x0303, 0)
  else if !okOffset || decide (s.clk.sfn + horizon < n) then (0x0301, 0)
  else if !t.relative && decide (s.instantOf cnt n tick < s.now + armTime) then (0x0501, 0)
  else if k.coordinated && decide (n < s.clk.sfn + lead) then (0x0501, 0)
  else if !t.relative && s.u Obj.timeQuality == 0 then (0x0801, n)
  else (0, n)

/-! ## Exclusions (R31, R51, R53) -/

/-- Two SFNs differ by less than a window (R53). -/
def within (w a b : Nat) : Bool := decide (a < b + w) && decide (b < a + w)

/-- An image activation that touches a carrier's converters or DSP coefficients: code 5 on that carrier (R556). -/
def Entry.touches (e : Entry) (c : Option Carrier) : Bool :=
  decide (e.kind = .imageActivation) && e.mem == 5 && decide (e.carrier = c)

/-- Same kind in one SF (R31, and R228 for client map changes, R52 and R530 for scheduled writes). -/
def State.sameKindClash (s : State) (e x : Entry) : Bool :=
  e.sfn == x.sfn && decide (e.kind = x.kind) &&
  (match e.kind with
   | .snapshot => s.tickOf e == s.tickOf x
   | .modeChange => decide (e.carrier = x.carrier) && decide (e.count = x.count)
   | .plannedSwitch => false
   | .imageActivation => true
   | .loadingChange => decide (e.carrier = x.carrier) && decide (e.count = x.count)
   | .mapChange => decide (e.carrier = x.carrier) && decide (e.count = x.count)
   | .contextSwitch => decide (e.carrier = x.carrier) && decide (e.count = x.count) && e.key == x.key
   | .keyRoll => decide (e.carrier = x.carrier) && decide (e.count = x.count) && e.key == x.key
   | .sliceSwap => decide (e.carrier = x.carrier) && e.key % 256 == x.key % 256
   | .calWindow => false
   | .scheduledWrite => e.obj == x.obj && e.mem == x.mem
   | .injectTrigger => true
   | .domainWake => false)

/-- `AvenueMode` in force is twin or spare (R29). -/
def State.pairedMode (s : State) : Bool := s.u Obj.avenueMode != 0

/-- A loading change that sheds or restores clients, which brings a client map change with it (R586); `data` begins
with rate, generation, plots and the two masks. -/
def Entry.implies (e : Entry) : Bool := decide (e.kind = .loadingChange) && (nth e.data 3 0 != 0 || nth e.data 4 0 != 0)

/-- Pairs of R53, and the per-carrier activations of R30 (A × F), taken in one order; key 64 is the fill context, which is
no client's (R257). The map change that a loading change brings is one of its kind (R31). -/
def State.pairClash (s : State) (e x : Entry) : Bool :=
  match e.kind, x.kind with
  | .sliceSwap, .loadingChange => decide (e.carrier = x.carrier) && decide (e.count = x.count) && e.sfn == x.sfn
  | .sliceSwap, .imageActivation => x.touches e.carrier && within 1 e.sfn x.sfn
  | .sliceSwap, .sliceSwap =>
    s.pairedMode && decide (e.carrier ≠ x.carrier) &&
      within 10000000000 (s.instantOf e.count e.sfn 0) (s.instantOf x.count x.sfn 0)
  | .imageActivation, .loadingChange => decide (e.carrier ≠ none) && decide (e.carrier = x.carrier) && e.sfn == x.sfn
  | .imageActivation, .imageActivation =>
    e.mem == 5 && x.mem == 5 && decide (e.carrier ≠ x.carrier) && within 16 e.sfn x.sfn
  | .imageActivation, .keyRoll => e.mem == 2 && within 16 e.sfn x.sfn
  | .keyRoll, .keyRoll =>
    s.u Obj.avenueMode == 1 && decide (e.carrier ≠ x.carrier) && decide (e.dir = x.dir) && e.key == x.key &&
      decide (e.key < 64) && within 16 e.sfn x.sfn
  | .loadingChange, .mapChange =>
    e.implies && decide (e.carrier = x.carrier) && decide (e.count = x.count) && e.sfn == x.sfn
  | .modeChange, .plannedSwitch => e.sfn == x.sfn
  | .modeChange, .imageActivation => e.sfn == x.sfn
  | _, _ => false

/-- A slice swap that stands gives way to a loading change (R30, R156). -/
def Entry.yieldsTo (x e : Entry) : Bool := decide (x.kind = .sliceSwap) && decide (e.kind = .loadingChange)

/-- An entry may not enter beside one that stands. -/
def State.clash (s : State) (e x : Entry) : Bool :=
  (e.write != x.write || e.write == 0) && !x.yieldsTo e &&
    (s.sameKindClash e x || s.pairClash e x || s.pairClash x e)

/-- The entries of a count at an SFN. -/
def State.entriesAt (s : State) (k : SCount) (n : Nat) : List Entry :=
  s.clk.entries.filter (fun x => decide (x.count = k) && x.sfn == n)

/-- Entries that one about to enter takes: two where it brings a client map change. -/
def Entry.width (e : Entry) : Nat := if e.implies then 2 else 1

/-- Entries that one in the table holds: a proposal keeps room for the map change that its agreement enters. -/
def Entry.room (e : Entry) : Nat := if e.implies && decide (e.st = .proposed) then 2 else 1

/-- Entries held by some of the table's. -/
def roomOf (l : List Entry) : Nat := sumNat (l.map Entry.room)

/-- An entry fits the table where it stands: no clash, at most 64 entries of its count in the SF (R51), at most 8
contexts of a direction rolling (R31). -/
def State.fits (s : State) (e : Entry) : Bool :=
  s.clk.entries.all (fun x => !s.clash e x) &&
  decide (roomOf (s.entriesAt e.count e.sfn) + e.width ≤ 64) &&
  (if e.kind = .keyRoll then
    decide (((s.entriesAt e.count e.sfn).filter
      (fun x => decide (x.kind = .keyRoll) && decide (x.carrier = e.carrier))).length < 8)
   else true)

/-! ## The table (R38, R39) -/

/-- Free entries (`EntriesFree`). -/
def State.entriesFree (s : State) : Nat := 1024 - s.clk.entries.length

/-- The table has no room for an entry (R38). -/
def State.tableFull (s : State) (e : Entry) : Bool := decide (1024 < roomOf s.clk.entries + e.width)

/-- The table has no room for a request's entry: none at all, or none of the 768 that AOP may hold (R38). -/
def State.hostFull (s : State) (e : Entry) : Bool :=
  s.tableFull e || decide (768 < roomOf (s.clk.entries.filter (fun x => x.write != 0)) + e.width)

/-- The table replaced. -/
def State.setEntries (s : State) (l : List Entry) : State := { s with clk := { s.clk with entries := l } }

/-- An entry with a number enters the table last; the number is one that is free (log entry 5). -/
def State.addEntry (s : State) (e : Entry) : Nat × State :=
  let r := s.freshNum 0 1024 (fun n => s.clk.entries.any (fun x => x.num == n))
  let n := r.1.getD 0
  (n, r.2.setEntries (s.clk.entries ++ [{ e with num := n }]))

/-- An entry leaves the table (R39). -/
def State.freeEntry (s : State) (e : Entry) : State := s.setEntries (s.clk.entries.filter (fun x => x.num != e.num))

/-- An entry of the table changed. -/
def State.setEntry (s : State) (n : Nat) (f : Entry → Entry) : State :=
  s.setEntries (s.clk.entries.map (fun x => if x.num = n then f x else x))

/-- The Sundial's record of an entry: its 24 octets, then the added data (R64). -/
def State.logEntry (s : State) (code : Nat) (e : Entry) (data : List Byte) : State :=
  s.logRec (s.record code (carrierCode e.carrier) (e.octets ++ data) false) e.carrier

/-- What an occurrence of an entry carries: its role and master (R528). -/
def Entry.attr (e : Entry) : Attr := { carrier := e.carrier, role := e.role, master := some e.src }

/-- An engine-generated event is dropped (R57); reason 0 moves exhausted, 1 beyond horizon, 2 table full, 3 retention
lost. -/
def State.dropEvent (s : State) (e : Entry) (reason : Nat) : State :=
  (s.bump Obj.droppedCount).logEntry 0xE006 e (d8 reason)

/-- An entry is cancelled: freed, and logged with its contents (R39, R47; E003h for every cancelled entry, log
entry 81). -/
def State.cancelEntry (s : State) (e : Entry) : State := (s.freeEntry e).logEntry 0xE003 e []

/-- A coordinated entry is missed (R56) and freed; reason 0 line down, 1 reset, 2 retention lost, 3 time stepped. -/
def State.missEntry (s : State) (e : Entry) (reason : Nat) : State :=
  ((s.freeEntry e).bump Obj.missedCount).logEntry 0xE002 e (d8 reason)

/-- How far the search of R54 for a superframe that fits can have to look: each of the 1,024 entries excludes at most
33 superframes. -/
abbrev searchSpan : Nat := 40000

/-- An engine-generated event enters the table, moving to the first later SF that fits (R54), or is dropped (R57).
Answers the entry number it took. -/
def State.arm (s : State) (e : Entry) : Option Nat × State :=
  if s.tableFull e then (none, s.dropEvent e 2)
  else
    match firstFrom e.sfn searchSpan (fun n => s.fits { e with sfn := n, orig := n }) with
    | none => (none, s.dropEvent e 1)
    | some n =>
      if n = e.sfn then
        let r := s.addEntry e
        (some r.1, r.2)
      else if 63 ≤ e.moves then (none, s.dropEvent e 0)
      else if s.clk.sfn + horizon < n then (none, s.dropEvent e 1)
      else
        let e' := { e with sfn := n, orig := n, moves := e.moves + 1 }
        let r := s.addEntry e'
        let s := r.2.bump Obj.movedCount
        let s := s.occur 0xE081 e'.attr
        (some r.1, s.logEntry 0xE005 { e' with num := r.1 } (d64 e.sfn ++ d64 n))

/-- An engine-generated entry that stands moves to the first later SF that fits, or is dropped (R54, R57). -/
def State.moveLater (s : State) (x : Entry) : State :=
  let s := s.freeEntry x
  match firstFrom (x.sfn + 1) searchSpan (fun n => s.fits { x with sfn := n, orig := n }) with
  | none => s.dropEvent x 1
  | some n =>
    if 63 ≤ x.moves then s.dropEvent x 0
    else if s.clk.sfn + horizon < n then s.dropEvent x 1
    else
      let x' := { x with sfn := n, orig := n, moves := x.moves + 1 }
      let s := ((s.setEntries (s.clk.entries ++ [x'])).bump Obj.movedCount).occur 0xE081 x'.attr
      s.logEntry 0xE005 x' (d64 x.sfn ++ d64 n)

/-- The slice swaps that a loading change meets in its SF move on (R30, R156). -/
def State.yieldSwaps (s : State) (e : Entry) : State :=
  (s.clk.entries.filter (fun x => x.yieldsTo e && decide (x.carrier = e.carrier) && decide (x.count = e.count) &&
    x.sfn == e.sfn)).foldl (fun s x => s.moveLater x) s

/-- A request's entry enters the table, or the status that refuses it (R38, R54). -/
def State.schedule (s : State) (e : Entry) : Nat × Nat × State :=
  if !s.fits e then (0x0502, 0, s)
  else if s.hostFull e then (0x0801, 0, s)
  else
    let r := s.addEntry e
    (0, r.1, r.2)

/-- A new write number, which groups the entries of one write (R513). -/
def State.newWrite (s : State) : Nat × State :=
  (s.clk.nextWrite, { s with clk := { s.clk with nextWrite := s.clk.nextWrite + 1 } })

/-! ## Coordination (R44 to R47, R207, R585) -/

/-- The framing of one carrier. -/
def State.fr (s : State) (c : Carrier) : FrameSt := s.frame.get c

/-- The framing of one carrier changed. -/
def State.setFr (s : State) (c : Carrier) (f : FrameSt → FrameSt) : State := { s with frame := s.frame.upd c f }

/-- The line on a carrier is locked in both directions and the MOC runs (R44). -/
def State.lineUp (s : State) (c : Carrier) : Bool :=
  s.u (on c Obj.frameLock) == 1 && s.u (on c Obj.remoteDefect) == 0

/-- The first local frame whose boundary lies at least 5 µs ahead (R585). -/
def State.nextCoreSfn (s : State) : Nat := s.firstSfn .loc 0

/-- A message of the coordination slots is queued; an older message of the same number and type gives way. -/
def State.sendCoord (s : State) (c : Carrier) (m : CoordMsg) : State :=
  let l := (s.fr c).coordOut.filter (fun x => !(x.number == m.number && x.typ == m.typ && x.away == m.away))
  s.setFr c (fun f => { f with coordOut := l ++ [m] })

/-- Messages of a proposal number are taken out of the slots. -/
def State.dropCoord (s : State) (c : Carrier) (typ number : Nat) : State :=
  s.setFr c (fun f => { f with coordOut := f.coordOut.filter (fun x => !(x.number == number && x.typ == typ)) })

/-- The count on which a direction of a carrier acts: local for what this engine sends, received for what it receives
(R37). -/
def countOf (c : Carrier) : Dir → SCount
  | .tx => .loc
  | .rx => .rx c

/-- An entry enters as proposed and its proposal goes out until it is answered or its commit point passes (R46, R207).
Direction bit 0 is towards the proposer. -/
def State.propose (s : State) (c : Carrier) (e : Entry) (body : List Byte) : Nat × State :=
  let n := s.clk.nextProp
  let s := { s with clk := { s.clk with nextProp := (n + 1) % 65536 } }
  let r := s.addEntry { e with st := .proposed, coord := true, prop := n, carrier := some c, count := countOf c e.dir }
  (r.1, r.2.sendCoord c
    { typ := 1, kind := e.kind, away := decide (e.dir = .tx), number := n, target := e.sfn, status := 0
      body := body, first := s.nextCoreSfn, last := e.sfn - 4 })

/-- First SFN that meets the minimum lead of R45 on a carrier, from now. -/
def State.leadSfn (s : State) (c : Carrier) : Nat := s.clk.sfn + s.u (on c Obj.coordLeadMin)

/-- An engine-generated proposal (R585): it goes to the first SFN from its target on that meets R45 and the exclusions;
nothing is proposed while the line is not up (R44), and a full table drops it (R57). -/
def State.proposeEngine (s : State) (c : Carrier) (e : Entry) (body : Nat → List Byte) : Option Nat × State :=
  let e := { e with carrier := some c, count := countOf c e.dir, coord := true }
  if !s.lineUp c then (none, s)
  else if s.tableFull e then (none, s.dropEvent e 2)
  else
    match firstFrom (max e.sfn (s.leadSfn c)) searchSpan (fun n => s.fits { e with sfn := n }) with
    | none => (none, s.dropEvent e 1)
    | some n =>
      if s.clk.sfn + horizon < n then (none, s.dropEvent e 1)
      else
        let e' := { e with sfn := n, orig := n, moves := if n = max e.sfn (s.leadSfn c) then e.moves else e.moves + 1 }
        let r := s.propose c e' (body n)
        if n = max e.sfn (s.leadSfn c) then (some r.1, r.2)
        else
          let s := (r.2.bump Obj.movedCount).occur 0xE081 e'.attr
          (some r.1, s.logEntry 0xE005 { e' with num := r.1 } (d64 (max e.sfn (s.leadSfn c)) ++ d64 n))

/-- A cancel of an entry goes to the far end, repeated until the commit point (R47, R207); its number and direction are
those of the proposal, whichever end made it. -/
def State.sendCancel (s : State) (e : Entry) : State :=
  match e.carrier with
  | none => s
  | some c =>
    let s := if e.src = 1 then s else s.dropCoord c 1 e.prop
    s.sendCoord c { typ := 4, kind := e.kind, away := decide (e.dir = .tx) != (e.src == 1), number := e.prop
                    target := e.sfn, status := 0, body := [], first := s.nextCoreSfn, last := e.sfn - 4 }

end Sys2Proof.Machine
end

