-- ==== Sys2Proof/Machine/Value.lean ====
section
/-! DEFINITION. Object values: their octets by type (R11, R499, R502), and the range a dictionary row gives them. -/

namespace Sys2Proof

/-- A number in the octets of its type, most significant first. -/
def encodeNum (ty : OType) (v : Int) : List Byte := be ty.size (twos (8 * ty.size) v)

/-- The type is one of the signed integers of R11. -/
def OType.signed : OType → Bool
  | .i8 => true
  | .i16 => true
  | .i32 => true
  | .i64 => true
  | _ => false

/-- The number that octets of a type stand for. -/
def decodeNum (ty : OType) (b : List Byte) : Int :=
  if ty.signed then ofTwos (8 * ty.size) (ofBe b) else (ofBe b : Int)

/-- The type holds a number: every fixed-size type but TIME96. -/
def OType.numeric (ty : OType) : Bool := ty.size != 0 && ty.size != 12

/-- A number can stand in a type's octets. -/
def OType.holds (ty : OType) (v : Int) : Bool :=
  if ty.signed then decide (-(2 ^ (8 * ty.size - 1) : Nat) ≤ v) && decide (v < (2 ^ (8 * ty.size - 1) : Nat))
  else decide (0 ≤ v) && decide (v < (2 ^ (8 * ty.size) : Nat))

/-- The octets of a value. -/
def valBytes (ty : OType) : Val → List Byte
  | .num v => encodeNum ty v
  | .octs b => b

/-- The number of a value, 0 for octets. -/
def Val.int : Val → Int
  | .num v => v
  | .octs _ => 0

/-- The number of a value as a natural. -/
def Val.nat (v : Val) : Nat := v.int.toNat

/-- The octets of a value, none for a number. -/
def Val.bytes : Val → List Byte
  | .num _ => []
  | .octs b => b

/-- A value lies in the range its dictionary row gives. -/
def DictRow.inRow (r : DictRow) : Val → Bool
  | .num v => decide (r.lo ≤ v) && decide (v ≤ r.hi)
  | .octs _ => true

/-- Zero is refused by the row (R16). -/
def DictRow.zeroBad (r : DictRow) : Val → Bool
  | .num v => r.zr && decide (v = 0)
  | .octs _ => false

end Sys2Proof
end

