-- ==== Sys2Proof/Machine/Operands.lean ====
section
/-! DEFINITION. Operand forms of an AOP operation: how a value is encoded by its type (R11, R502), which values an
object takes (R16, and the range each owning chapter gives), and which members refuse every write. -/

namespace Sys2Proof.Machine

/-- Octets needed for a TABLE or OCTETS value that an object takes (R502): `some n` for a fixed length. -/
def fixedLength (o : Nat) : Option Nat :=
  if o = Obj.mgAddress then some 17
  else if o = Obj.domainGroup then some 16
  else if o % 256 = 0x56 ∧ o / 4096 = 5 then some 44
  else if o = Obj.avenueCommand then some 11
  else if o = Obj.quoteRequest then some 36
  else if o = Obj.imageCommit then some 8
  else if o / 4096 = 7 ∧ o % 256 = 0x04 then some 6
  else if o = Obj.counterRange then some 11
  else none

/-- Octets before the varying octets of a command with an OCTETS column, its length in the last two (R502). -/
def varPrefix (o : Nat) : Option Nat :=
  if o = Obj.slotWrite then some 6
  else if o / 4096 = 13 ∧ o % 256 = 0x20 then some 6
  else if o = Obj.imageWrite then some 10
  else none

/-- The length and row count of an OCTETS or TABLE value match its object (R502). -/
def shapeOk (ty : OType) (o : Nat) (b : List Byte) : Bool :=
  match fixedLength o with
  | some n => b.length == n && (ty != .table || ofBe (slice b 0 2) == 1)
  | none =>
    match varPrefix o with
    | some p => decide (p ≤ b.length) && ofBe (slice b 0 2) == 1 && b.length == p + ofBe (slice b (p - 2) 2)
    | none =>
      if o = Obj.ownerKeyEnrol then b.length == 1289 || b.length == 1802 || b.length == 3082
      else true

/-- The value a write carries, brought to its object's type; `none` where length or type does not match (0302h). -/
def normalise (r : DictRow) (o : Nat) : Val → Option Val
  | .num v => if r.ty.numeric && r.ty.holds v then some (.num v) else none
  | .octs b =>
    if r.ty.numeric then
      if b.length = r.ty.size then some (.num (decodeNum r.ty b)) else none
    else if shapeOk r.ty o b then some (.octs b) else none

/-! ## Ranges the tables give by reference -/

/-- A valid entropy code of R136. -/
def validCode (c : Nat) : Bool :=
  c == 0 || c == 64 || (decide (72 ≤ c) && decide (c ≤ 192))

/-- A valid loading word of R137: base matches the code, reserved bits 0. -/
def validWord (w : Nat) : Bool :=
  let c := w % 256
  validCode c && bits w 13 8 == 0 &&
  bits w 15 14 == (if c = 0 then 0 else if c = 64 then 1 else if c ≤ 128 then 2 else 3)

/-- A quality level code of R336. -/
def validQl (q : Nat) : Bool := q == 2 || q == 4 || q == 8 || q == 11 || q == 15

/-- A slice address of R92. -/
def validSlice (v : Nat) : Bool :=
  bits v 15 12 == 0 && decide (bits v 11 8 < 8) && decide (bits v 7 0 < sliceCount (bits v 11 8))

/-- A sequence entry word of R404, Samples apart. -/
def validSeqEntry (w : Nat) : Bool :=
  decide (bits w 31 26 < 48) && (bits w 25 24 == 0 || decide (bits w 31 26 < 16)) && bits w 7 0 == 0

/-- A comparator word of R411. -/
def validComparator (w : Nat) : Bool :=
  let i := bits w 29 24
  ((decide (8 ≤ i) && decide (i ≤ 15)) || i == 44 || i == 45) && bits w 23 16 == 0

/-- A client's lane run of R239. -/
def validLaneRun (w : Nat) : Bool :=
  let n := bits w 3 0
  bits w 15 13 == 0 && bits w 7 4 == 0 && (n == 0 || n == 1 || n == 2 || n == 4 || n == 8)

/-- A calibration selection of R446. -/
def validCalSelect (w : Nat) : Bool :=
  bits w 31 21 == 0 && decide (bits w 19 16 < 8) && bits w 15 12 == 0 && validSlice (bits w 11 0)

/-- The signal events of R528. -/
def signalEvents : List Nat :=
  [0x1080, 0x1081, 0x1082, 0x1083, 0x2080, 0x2081, 0x3080, 0x3081, 0x4080, 0x4081, 0x5080, 0x5081, 0x6080, 0x6081,
   0x6082, 0x6083, 0x7080, 0x7081, 0x7082, 0x7083, 0x7084, 0x8080, 0x8081, 0x9080, 0x9081, 0xA080, 0xA081, 0xB080,
   0xB081, 0xB082, 0xC080, 0xC081, 0xD080, 0xD081, 0xE080, 0xE081, 0xF080, 0xF081]

/-- First and last of each run of event codes that the event tables of the chapters list. -/
def loggedRuns : List (Nat × Nat) :=
  [(0x1001, 0x1018), (0x2001, 0x200B), (0x3001, 0x300F), (0x4001, 0x400E), (0x4010, 0x4016), (0x5001, 0x500D),
   (0x5010, 0x501C), (0x6001, 0x600D), (0x7001, 0x7009), (0x7010, 0x7016), (0x8001, 0x800B), (0x9001, 0x9011),
   (0xA001, 0xA00F), (0xB001, 0xB010), (0xC001, 0xC001), (0xC003, 0xC00B), (0xD001, 0xD005), (0xD007, 0xD008),
   (0xE001, 0xE00B), (0xF001, 0xF004)]

/-- An event number is listed under R528. -/
def listedEvent (e : Nat) : Bool :=
  signalEvents.contains e || loggedRuns.any (fun p => decide (p.1 ≤ e) && decide (e ≤ p.2))

/-- A select word of R524, masks apart. -/
def validSelect (w : Nat) : Bool :=
  let e := bits w 63 48
  (e == 0 || listedEvent e) && bits w 30 29 != 3 && bits w 28 24 == 0 && decide (bits w 23 16 ≤ 64) && bits w 15 0 == 0

/-- `o` is an instance of the object `base` among the instances its row covers. -/
def isObj (o base : Nat) : Bool :=
  match dictRow base with
  | some r => r.covers o
  | none => false

/-- Members that refuse every write with 0202h though their object is RW or RWS (R352, R406, R418, R469). -/
def fixedMember (o m : Nat) : Bool :=
  (o == Obj.idleTimer && (m == 1 || m == 2 || m == 3 || m == 6 || m == 24)) ||
  (o == Obj.inputQl && (m == 7 || m == 8)) ||
  (o == Obj.regularEntry && decide (m < 48)) ||
  ((o == Obj.tfeRun || o == Obj.tfeFilter) && decide (m < 6))

/-- An I8 of a string of octets. -/
def i8At (b : List Byte) (i : Nat) : Int := ofTwos 8 (ofBe (slice b i 1))

/-- A number lies in a range. -/
def inRange (lo hi v : Int) : Bool := decide (lo ≤ v) && decide (v ≤ hi)

/-- Zero is refused by the owning chapter in a field or under a condition (0303h, R16). -/
def State.zeroRefused (s : State) (o : Nat) (v : Val) : Bool :=
  (o == Obj.reorderWindow && v.nat == 0 && s.u Obj.avenueMode != 0) ||
  ((o == Obj.regularEntry || o == Obj.injectEntry) && bits v.nat 23 16 == 0) ||
  (o == Obj.imageWrite && ofBe (slice v.bytes 8 2) == 0) ||
  (o == Obj.imageCommit && ofBe (slice v.bytes 4 4) == 0) ||
  (isObj o Obj.laneInject && bits v.nat 15 0 == 0) ||
  (isObj o Obj.counterSelect && (bits v.nat 47 42 == 0 || bits v.nat 41 36 == 0 || bits v.nat 35 31 == 0))

/-- A stored setting as it stands once the writes held for its domain are applied, the last one counting (R450). -/
def State.settled (s : State) (o m : Nat) : Int :=
  match s.pow.held.reverse.find? (fun h => h.obj == o && h.mem == m) with
  | some h => h.val.int
  | none => s.i o m

/-- Ranges of the objects of subsystem 1h and 2h given by rule. -/
def State.rangeSystem (s : State) (o m : Nat) (v : Val) : Bool :=
  let n := v.nat
  if o = Obj.mgAddress then decide (ofBe (slice v.bytes 16 1) ≤ 128)
  else if o = Obj.roleGrant then
    n == 0 || (decide (32 ≤ bits n 15 8) && bits n 7 3 == 0 && decide (1 ≤ bits n 2 0) && decide (bits n 2 0 ≤ 3))
  else if o = Obj.imageActivate then
    if m = 5 then decide (n < 8) && bits n 2 1 != 3 else decide (n < 2)
  else if o = Obj.imageWrite then
    let b := v.bytes
    inRange 1 6 (ofBe (slice b 2 1)) && decide (ofBe (slice b 3 1) ≤ 1) && inRange 1 32768 (ofBe (slice b 8 2))
  else if o = Obj.imageCommit then inRange 1 6 (ofBe (slice v.bytes 2 1)) && decide (ofBe (slice v.bytes 3 1) ≤ 1)
  else if o = Obj.idleTimer then n == 0xFFFFFFFF || decide (n ≤ 86400000)
  else if o = Obj.shedOrder then
    n == 0 || (List.range 8).all (fun j => j == m || s.u Obj.shedOrder j != n)
  else if o = Obj.keepAliveWake then
    bits n 3 1 != 0 || (bit n 0 && s.u Obj.keepAliveMgt == 1)
  else if o = Obj.keepAliveMgt then n == 1 || bits (s.u Obj.keepAliveWake) 3 1 != 0
  else true

/-- Ranges of the objects of subsystem 3h and 4h given by rule. -/
def State.rangeTime (s : State) (o m : Nat) (v : Val) : Bool :=
  let n := v.nat
  if o = Obj.qlMinimum ∨ o = Obj.inputQl then validQl n
  else if o = Obj.oscFreq then n == 0 || decide (10000000 ≤ n)
  else if o = Obj.clkOutFreq then n == 0 || decide (1000000 ≤ n)
  else if o = Obj.refTable then
    bits n 31 17 == 0 && bits n 11 4 == 0 && decide (bits n 3 0 ≤ 13) &&
      (bits n 3 0 == 0 || (List.range 16).all (fun j => j == m || bits (s.u Obj.refTable j) 3 0 != bits n 3 0))
  else if o = Obj.calSelect then validCalSelect n
  else if isObj o Obj.sliceRetire || isObj o Obj.sliceRestore then validSlice n
  else true

/-- Ranges of the objects of subsystems 5h to 7h given by rule. -/
def State.rangeLine (s : State) (o m : Nat) (v : Val) : Bool :=
  let n := v.nat
  if isObj o Obj.subcarrierCount then n == 1 || n == 2 || n == 4 || n == 8 || n == 16
  else if isObj o Obj.symbolRate then n % 10 == 0 && decide (110 ≤ n) && decide (n ≤ 330)
  else if isObj o Obj.loadingCeiling then validCode n && decide (s.settled (o + 1) m ≤ n)
  else if isObj o Obj.loadingFloor then validCode n && decide ((n : Int) ≤ s.settled (o - 1) m)
  else if isObj o Obj.txLoadingCap then validCode n
  else if isObj o Obj.loadingRequest then
    let b := v.bytes
    decide (ofBe (slice b 10 1) ≤ 1) && decide (ofBe (slice b 11 1) ≤ 2) &&
      (List.range 16).all (fun k => validWord (ofBe (slice b (12 + 2 * k) 2)))
  else if o = Obj.iterMax then decide (s.u Obj.iterFloor ≤ n)
  else if o = Obj.iterFloor then decide (n ≤ s.u Obj.iterMax)
  else if o = Obj.clientLanes then validLaneRun n
  else if o = Obj.syncLanes then decide (n ≤ 31) || n == 255
  else if isObj o Obj.laneTxFfe then
    let b := v.bytes
    inRange (-8) 0 (i8At b 2) && inRange (-16) 0 (i8At b 3) && inRange 32 63 (i8At b 4) && inRange (-16) 0 (i8At b 5)
  else true

/-- Ranges of the objects of subsystems 9h to Fh given by rule. -/
def State.rangeRest (s : State) (o : Nat) (v : Val) : Bool :=
  let n := v.nat
  if o = Obj.slotWrite then decide (32 ≤ ofBe (slice v.bytes 2 1))
  else if o = Obj.reorderWindow then n == 0 || decide (16 ≤ n)
  else if o = Obj.avenueCommand then decide (ofBe (slice v.bytes 2 1) ≤ 6)
  else if o = Obj.regularEntry ∨ o = Obj.injectEntry then validSeqEntry n
  else if o = Obj.comparator then validComparator n
  else if o = Obj.tfeFilter then n == 0 || n == 1 || n == 2 || n == 5 || n == 6
  else if isObj o Obj.footpathTone then decide (n ≤ 63) || n == 255
  else if isObj o Obj.footpathSend then decide (ofBe (slice v.bytes 4 2) ≤ 256)
  else if o = Obj.counterClear then decide (n ≤ 2047) || n == 0xFFFF
  else if o = Obj.counterRange then
    let b := v.bytes
    decide (ofBe (slice b 2 1) ≤ 3) && decide (ofBe (slice b 3 4) ≤ ofBe (slice b 7 4))
  else if o = Obj.snapshotTrigger then decide (n < 2)
  else if o = Obj.snapshotPeriod then n == 0 || (decide (10 ≤ n) && decide (n ≤ 864000000))
  else if isObj o Obj.counterSelect then validSelect n
  else if isObj o Obj.cdSearchMin then decide (v.int ≤ s.settled (o + 1) 0)
  else if isObj o Obj.cdSearchMax then decide (s.settled (o - 1) 0 ≤ v.int)
  else true

/-- A value lies in the range its owning chapter gives by rule (0301h otherwise). -/
def State.ownerRange (s : State) (o m : Nat) (v : Val) : Bool :=
  s.rangeSystem o m v && s.rangeTime o m v && s.rangeLine o m v && s.rangeRest o v

end Sys2Proof.Machine
end

