-- ==== Sys2Proof/Machine/Gatehouse.lean ====
section
/-! DEFINITION. The Gatehouse as every write passes it (R510): the role of a session (R507, R508), the checks in the
order of R15, the violation log (R511), how an operation is answered (R501, R504), and `hostWrite`, the one path of
every AOP write. -/

namespace Sys2Proof.Machine

/-! ## Sessions and roles -/

/-- A requester is bound to the transport and source that opened a session (R509). -/
def Session.boundTo (x : Session) (w : Requester) : Bool :=
  x.transport == w.transport && x.source == w.source && x.port == w.port

/-- The session a requester names. -/
def State.session? (s : State) (w : Requester) : Option Session :=
  s.aop.sessions.find? (fun x => x.id == w.session)

/-- A requester names a session that is not open, or that another source opened (message Status 0201h, R509). -/
def State.badSession (s : State) (w : Requester) : Bool :=
  w.session != 0 && (match s.session? w with
    | some x => !x.boundTo w
    | none => true)

/-- Role code of a requester: Observer without a session or before a role is granted (R507). -/
def State.roleOf (s : State) (w : Requester) : Nat :=
  match s.session? w with
  | some x => if w.session != 0 && x.proved then x.role else 0
  | none => 0

/-- Source code of R40 for an operation's transport: far end over the MOC, else AOP host. -/
def masterOf (w : Requester) : Nat := if w.transport = 2 ∨ w.transport = 3 then 1 else 0

/-- The engine is in recovery and serves only a part of the dictionary, over the recovery UART (R304). -/
def State.recovering (s : State) : Bool := s.u Obj.bootState == 3

/-- Objects served in recovery (R304, R305): the identity objects (address, serial, certificate, and the owner key, which is
enrolled again there), `ImageStatus`, and the image objects of R558. -/
def servedInRecovery (o : Nat) : Bool :=
  [Obj.deviceAddress, Obj.imageStatus, Obj.ownerKeyEnrol, Obj.ownerKeyDigest, Obj.deviceSerial, Obj.identityCert].contains o ||
    (decide (Obj.imageWrite ≤ o) && decide (o ≤ Obj.imageProgress))

/-- What an AOP operation's occurrence carries (R528): role, master, object, class management. -/
def State.opAttr (s : State) (w : Requester) (o m : Nat) : Attr :=
  { role := some (s.roleOf w), master := some (masterOf w), cls := some 2, addr := some (1, o * 256 + m) }

/-! ## The violation log (R511) -/

/-- One entry of the violation log; the newest of 256 overwrites the oldest. -/
def State.violate (s : State) (w : Requester) (op o m code : Nat) : State :=
  let v : Violation := { asker := w, role := s.roleOf w, op := op, obj := o, mem := m, code := code, sfn := s.clk.sfn }
  { s with aop := { s.aop with
      viol := (v :: s.aop.viol).take 256
      violNext := (s.aop.violNext + 1) % 256
      violCount := s.aop.violCount + 1 } }

/-! ## Answers (R501, R504, R509) -/

/-- The response to a message is sent and, within a session, kept under its Sequence (R509). -/
def State.sendResponse (s : State) (w : Requester) (m : List Byte) : State :=
  let s := s.sendTo w m
  let keep := fun (x : Session) =>
    if x.id = w.session ∧ w.session ≠ 0 then
      { x with kept := ((w.sequence, m) :: x.kept).take 16 }
    else x
  { s with aop := { s.aop with sessions := s.aop.sessions.map keep } }

/-- A whole message is refused with a message Status, and none of its operations runs. -/
def State.refuseMsg (s : State) (w : Requester) (code : Nat) : State :=
  (s.violate w 0 0 0 code).sendResponse w (aopMsg 2 0 w.session w.sequence code [])

/-- An operation's response joins its message; the message is answered when its last operation is (R501). An
operation that stands in no queued message is answered by itself. -/
def State.respond (s : State) (w : Requester) (op : List Byte) : State :=
  match s.aop.queue.find? (fun q => decide (q.asker = w)) with
  | none => s.sendResponse w (aopMsg 2 1 w.session w.sequence 0 op)
  | some q =>
    let q' : QMsg := { q with left := q.left.drop 1, resp := q.resp ++ [op] }
    if q'.left.isEmpty then
      let s := { s with aop := { s.aop with queue := s.aop.queue.erase q } }
      s.sendResponse w (aopMsg 2 q'.resp.length w.session w.sequence 0 q'.resp.flatten)
    else
      { s with aop := { s.aop with queue := s.aop.queue.replace q q' } }

/-- An operation ends with 0000h: it is counted (R528) and answered. -/
def State.accept (s : State) (w : Requester) (op form o m offset : Nat) (target value : List Byte) : State :=
  (s.occur 0x1080 (s.opAttr w o m)).respond w (opMsg op form o m 0 offset target value)

/-- An operation is refused: counted, entered in the violation log, answered; nothing else changes (R15, R511). -/
def State.refuse (s : State) (w : Requester) (op o m code : Nat) : State :=
  ((s.occur 0x1081 (s.opAttr w o m)).violate w op o m code).respond w (opMsg op 0 o m code 0 [] [])

/-! ## The checks of a write, in the order of R15 -/

/-- The codes of R15 in its order. -/
def codeOrder : List Nat :=
  [0x0101, 0x0102, 0x0202, 0x0203, 0x0201, 0x0302, 0x0303, 0x0301, 0x0501, 0x0502, 0x0601, 0x0701, 0x0402, 0x0801,
   0x0401]

/-- Of the faults a request meets, the first in the order of R15; 0 for none. -/
def firstFault (codes : List Nat) : Nat := (codeOrder.find? (fun c => codes.contains c)).getD 0

/-- Status of a write before its owning chapter judges it, 0000h when the Gatehouse lets it pass, and the value brought
to the object's type. `op` is 2 for a write and 3 for a scheduled write, which needs an RWS object (0502h, R510). -/
def State.checkWrite (s : State) (w : Requester) (op o m : Nat) (v : Val) : Nat × Val :=
  match dictRow o with
  | none => (0x0101, v)
  | some r =>
    if s.recovering && !servedInRecovery o then (0x0101, v)
    else if m < r.memLo || r.memHi < m then (0x0102, v)
    else if r.acc = .ro || fixedMember o m then (0x0202, v)
    else if s.roleOf w < r.wr then (0x0201, v)
    else
      match normalise r o v with
      | none => (0x0302, v)
      | some v' =>
        if r.zeroBad v' || s.zeroRefused o v' then (0x0303, v')
        else if !r.inRow v' || !s.ownerRange o m v' then (0x0301, v')
        else if op = 3 && !decide (r.acc = .rws) then (0x0502, v')
        else (0, v')

/-! ## What a write does to a domain (R450) -/

/-- The domain whose hardware the command of a WO object acts in (R450). -/
def commandDomain (o : Nat) : Option Nat :=
  if isObj o Obj.contextRoll then some Dn.cip
  else if o = Obj.ownerKeyEnrol ∨ o = Obj.quoteRequest ∨ o = Obj.rekeyRoot ∨ o = Obj.slotWrite ∨ o = Obj.slotErase then
    some Dn.grt
  else if o = Obj.injectNow ∨ o = Obj.svcAccumClear then some Dn.svc
  else if o = Obj.blockRestore ∨ o = Obj.imageWrite ∨ o = Obj.imageCommit then some Dn.ice
  else none

/-- Lane quad of a per-lane object's instance (R234): 0 to 3. -/
def quadOf (o : Nat) : Nat := o / 256 % 16 - 3

/-- The domain that a write accesses, with the values that make it an access (R450). -/
def accessedBy (o m : Nat) (v : Val) : Option Nat :=
  match commandDomain o with
  | some d => some d
  | none =>
    if isObj o Obj.laneRate || isObj o Obj.laneTest then (if v.nat = 0 then none else some (Dn.hla + quadOf o))
    else if o = Obj.tfeRun then (if v.nat = 1 then some Dn.svc else none)
    else if o = Obj.domainHold then (if v.nat = 1 then some m else none)
    else none

/-- The domain that an RW setting's hardware sits in, where its chapter puts it in one (R450; log entry 9). -/
def settingDomain (o : Nat) : Option Nat :=
  let g := o / 4096
  let inst := o / 256 % 16
  if g = 7 ∧ 3 ≤ inst ∧ inst ≤ 6 then some (Dn.hla + (inst - 3))
  else if g = 12 then some Dn.svc
  else if g = 5 ∧ inst = 1 then some 18
  else if g = 5 ∧ inst = 2 then some 21
  else none

/-! ## The path of every write -/

/-- What an owning chapter answers to a write: a status, whether the answer waits (R46, R506), the value and Target
block of the response (R513). -/
structure Res where
  code   : Nat := 0
  wait   : Bool := false
  target : List Byte := []
  value  : List Byte := []
  deriving DecidableEq, Repr

/-- An operation waits for a domain to wake (R506). -/
def State.stall (s : State) (w : Requester) (op o m d : Nat) (v : Val) : State :=
  let ty := match dictRow o with
    | some r => r.ty
    | none => .octets
  let y : AopOp := { op := op, form := 0, obj := o, mem := m, offset := 0, sfn := 0, offW := 0, value := valBytes ty v }
  let x : Stall := { asker := w, op := y, dom := d, since := s.clk.sfn, told := none }
  { s with aop := { s.aop with stalls := s.aop.stalls ++ [x] } }

/-- A stored setting of a sleeping domain is applied at its wake, in the order written (R450). -/
def State.holdWrite (s : State) (d o m : Nat) (v : Val) : State :=
  { s with pow := { s.pow with held := s.pow.held ++ [{ dom := d, obj := o, mem := m, val := v }] } }

/-- The answer to a checked write, from what its owner made of it: a refusal keeps only what the owner's refusal itself
records, such as the ledger's count. -/
def finishWrite (w : Requester) (op form o m : Nat) (r : Res × State) : State :=
  if r.1.code ≠ 0 then
    r.2.refuse w op o m r.1.code
  else if r.1.wait then r.2
  else r.2.accept w op form o m 0 r.1.target r.1.value

/-- A write that acts in a domain (R450, R453): a fault that R15 puts before 0402h is found first; then the domain is
accessed, and the effect follows, or waits for the wake. What the owner refuses leaves the domain as it was (R15). -/
def State.accessWrite (s : State) (w : Requester) (op o m d : Nat) (v : Val) (eff : Val → State → Res × State) : State :=
  let pre := eff v s
  if pre.1.code ≠ 0 ∧ firstFault [pre.1.code, 0x0402] ≠ 0x0402 then finishWrite w op 0 o m pre
  else
    let r := s.accessDom d
    if r.1 ≠ 0 then r.2.refuse w op o m 0x0402
    else if pre.1.code ≠ 0 then finishWrite w op 0 o m pre
    else if r.2.awake d then finishWrite w op 0 o m (eff v r.2)
    else r.2.stall w op o m d v

/-- Every write of AOP (R504, R505, R510): session, checks in the order of R15, access to the domain it acts on
(R450, R453), then the owner's effect on the value. -/
def State.hostWrite (s : State) (w : Requester) (op o m : Nat) (v : Val) (eff : Val → State → Res × State) : State :=
  if s.badSession w then s.refuseMsg w 0x0201
  else
    let c := s.checkWrite w op o m v
    if c.1 ≠ 0 then s.refuse w op o m c.1
    else
      match accessedBy o m c.2 with
      | some d => s.accessWrite w op o m d c.2 eff
      | none =>
        match settingDomain o, dictRow o with
        | some d, some row =>
          if row.acc = .rw && s.domOff d then (s.holdWrite d o m c.2).accept w op 0 o m 0 [] []
          else finishWrite w op 0 o m (eff c.2 s)
        | _, _ => finishWrite w op 0 o m (eff c.2 s)

/-- The effect of a setting that its owner only stores. -/
def storeEffect (o m : Nat) : Val → State → Res × State
  | .num v, s => ({}, s.put o m v)
  | .octs b, s => ({}, s.putO o m b)

end Sys2Proof.Machine
end

