-- ==== Sys2Proof/Machine/Coord.lean ====
section
/-! DEFINITION. Requests that schedule an event: the entry of a local kind and its answer (R513), a coordinated request
from AOP (R44 to R46), the answer it waits for, and a write's entries as one (R513). -/

namespace Sys2Proof.Machine

/-- Octets of the Target block of a response: absolute target, Form 0 (R500, R513). -/
def Entry.target (e : Entry) : List Byte := be 8 e.sfn ++ be 4 (b2n e.symbols * 2 ^ 31 + e.offset % 2 ^ 25)

/-- The entries that one write created (R513). -/
def State.writeGroup (s : State) (e : Entry) : List Entry :=
  if e.write = 0 then s.clk.entries.filter (fun x => x.num == e.num)
  else s.clk.entries.filter (fun x => x.write == e.write)

/-- The operation that made an object's entries: a scheduled write of an RWS object, else a plain write. -/
def opOf (o : Nat) : Nat :=
  match dictRow o with
  | some r => if r.acc = .rws then 3 else 2
  | none => 2

/-- The response of a write that scheduled entries: absolute target and lowest entry number (R513). -/
def scheduledRes (e : Entry) (num : Nat) : Res := { target := e.target, value := be 2 num }

/-- The entries of a group no longer wait for an answer. -/
def State.clearAskers (s : State) (g : List Entry) : State :=
  s.setEntries (s.clk.entries.map (fun x => if g.any (fun y => y.num == x.num) then { x with asker := none } else x))

/-- An entry of a write is agreed; when all of that write's are, the write is answered with 0000h (R46, R513). -/
def State.answerAgreed (s : State) (e : Entry) : State :=
  let g := s.writeGroup e
  if g.all (fun x => decide (x.st ≠ .proposed)) then
    match g.findSome? (·.asker) with
    | none => s
    | some w =>
      let s := s.clearAskers g
      let num := (g.map (·.num)).foldl min e.num
      let r := if opOf e.obj = 3 then scheduledRes e num else {}
      s.accept w (opOf e.obj) 0 e.obj e.mem 0 r.target r.value
  else s

/-- An entry of a write is refused or cancelled: the write is answered with the status, and the write's other entries
that are not agreed by both ends are cancelled with it (R46, R47, R513). -/
def State.answerFailed (s : State) (e : Entry) (code : Nat) : State :=
  let g := (s.writeGroup e).filter (fun x => x.num != e.num)
  let asker := match e.asker with
    | some w => some w
    | none => g.findSome? (·.asker)
  let s := (g.filter (fun x => x.write != 0)).foldl (fun s x => (s.sendCancel x).cancelEntry x) s
  match asker with
  | none => s
  | some w => s.refuse w (opOf e.obj) e.obj e.mem code

/-- A coordinated request from AOP for one direction of a carrier, whose target names the SFN `r.2` or is refused with
`r.1` (R44 to R46): refused with the first fault of R15, or entered as proposed, when the answer waits. -/
def State.hostProposeAt (s : State) (w : Requester) (c : Carrier) (r : Nat × Nat) (e : Entry) (body : Nat → List Byte)
    (extra : List Nat) : Res × State :=
  let e := { e with carrier := some c, count := countOf c e.dir, sfn := r.2, orig := r.2, coord := true
                    src := masterOf w, role := some (s.roleOf w), asker := some w }
  let codes := extra ++ [if s.lineUp c then 0 else 0x0502, r.1,
    if (r.1 = 0 ∨ r.1 = 0x0801) ∧ !s.fits e then 0x0502 else 0, if s.hostFull e then 0x0801 else 0]
  let code := firstFault codes
  if code ≠ 0 then ({ code := code }, s)
  else
    let (n, s) := if e.write = 0 then s.newWrite else (e.write, s)
    let p := s.propose c { e with write := n } (body r.2)
    ({ wait := true }, p.2)

/-- A coordinated request from AOP for one direction of a carrier. -/
def State.hostPropose (s : State) (w : Requester) (c : Carrier) (t : Target) (e : Entry) (body : Nat → List Byte)
    (extra : List Nat) : Res × State :=
  s.hostProposeAt w c (s.resolve t e.kind (countOf c e.dir) (some c)) e body extra

/-- A request from AOP for a local kind (R41, R42, R513): the entry it makes, or the status that refuses it. -/
def State.hostSchedule (s : State) (w : Requester) (t : Target) (e : Entry) : Res × State :=
  let r := s.resolve t e.kind e.count e.carrier
  let e := { e with sfn := r.2, orig := r.2, symbols := t.symbols, offset := t.offset, src := masterOf w
                    role := some (s.roleOf w) }
  if r.1 ≠ 0 ∧ r.1 ≠ 0x0801 then ({ code := r.1 }, s)
  else if r.1 ≠ 0 then ({ code := if s.fits e then r.1 else 0x0502 }, s)
  else
    let (n, s') := if e.write = 0 then s.newWrite else (e.write, s)
    let e := { e with write := n }
    let x := s'.schedule e
    if x.1 ≠ 0 then ({ code := x.1 }, s) else (scheduledRes e x.2.1, x.2.2)

end Sys2Proof.Machine
end

