-- ==== Sys2Proof/Machine/Ice.lean ====
section
/-! DEFINITION. SRAM and Icehouse as every chapter uses them: octets of the SRAM in canonical form (R471, R473), records
and their octets (R485), the record that stands (R486), and the queue of record writes (R484). -/

namespace Sys2Proof.Machine

/-! ## SRAM (R471 to R473) -/

/-- Octets of SRAM: 1,536 banks of 256 KiB. -/
abbrev sramSize : Nat := 384 * 1024 * 1024

/-- Octets of one bank. -/
abbrev bankSize : Nat := 256 * 1024

/-- The octet at an address; memory never written reads as zero (R17, R473). -/
def sramRead (m : List (Nat × Byte)) (a : Nat) : Byte := (assocGet m a).getD 0

/-- The memory with one octet written, in canonical form: addresses strictly rising, no entry zero. -/
def sramWrite (m : List (Nat × Byte)) (a : Nat) (v : Byte) : List (Nat × Byte) :=
  match m with
  | [] => if v = 0 then [] else [(a, v)]
  | (b, w) :: l =>
    if a < b then (if v = 0 then (b, w) :: l else (a, v) :: (b, w) :: l)
    else if a = b then (if v = 0 then l else (a, v) :: l)
    else (b, w) :: sramWrite l a v

/-- `n` octets from an address. -/
def sramReadN (m : List (Nat × Byte)) (a n : Nat) : List Byte := (List.range n).map (fun i => sramRead m (a + i))

/-- Octets written from an address on. -/
def sramWriteN : List (Nat × Byte) → Nat → List Byte → List (Nat × Byte)
  | m, _, [] => m
  | m, a, v :: l => sramWriteN (sramWrite m a v) (a + 1) l

/-- Addresses strictly rise above a bound, and no entry is zero. -/
def sramWfFrom : Option Nat → List (Nat × Byte) → Bool
  | _, [] => true
  | lo, (a, v) :: l =>
    (match lo with
     | none => true
     | some b => decide (b < a)) && v != 0 && sramWfFrom (some a) l

/-- The canonical form of the SRAM's contents. -/
def Memory.wf (m : List (Nat × Byte)) : Bool := sramWfFrom none m

/-- The octets of a bank are lost: its valid bits are cleared, so it reads as zero (R473). -/
def sramClear (m : List (Nat × Byte)) (lo hi : Nat) : List (Nat × Byte) :=
  m.filter (fun p => decide (p.1 < lo) || decide (hi ≤ p.1))

/-- First SRAM address of retention bank `r` (R471). -/
def retBase (r : Nat) : Nat := (1408 + 8 * r) * bankSize

/-- A retention bank. -/
def State.ret (s : State) (r : Nat) : RetBank := nth s.mem.ret r (RetBank.init 15)

/-- A retention bank changed. -/
def State.setRet (s : State) (r : Nat) (f : RetBank → RetBank) : State :=
  { s with mem := { s.mem with ret := modNth s.mem.ret r f } }

/-- The retention banks that serve a domain. -/
def State.retBanksOf (s : State) (d : Nat) : List Nat :=
  (List.range 16).filter (fun r => (s.ret r).dom == d && (s.ret r).state != 5)

/-- CRC-64 of R204: polynomial 42F0E1EBA9EA3693h, initial value and final exclusive-or all ones. -/
def crc64 (l : List Byte) : Nat := crc 64 0x42F0E1EBA9EA3693 0xFFFFFFFFFFFFFFFF l ^^^ 0xFFFFFFFFFFFFFFFF

/-! ## Regions and records (R482, R485) -/

/-- First logical block and number of blocks of each region (R482). -/
def regionBlocks : Nat → Nat × Nat
  | 0 => (0, 16)
  | 1 => (16, 192)
  | 2 => (208, 64)
  | 3 => (272, 128)
  | 4 => (400, 64)
  | _ => (464, 3504)

/-- Bit errors that the code of a region corrects per sector (R482, R483). -/
def regionT (r : Nat) : Nat := if r = 5 then 16 else 72

/-- Region of a logical block. -/
def regionOf (b : Nat) : Nat :=
  if b < 16 then 0 else if b < 208 then 1 else if b < 272 then 2 else if b < 400 then 3 else if b < 464 then 4 else 5

/-- Sector number of the first sector of a page (R483): logical block × 2,048 + page × 8. -/
def sectorOf (page : Nat) : Nat := page * 8

/-- Pages of header, payload and digest (R485). -/
def recordPages (len : Nat) : Nat := ceilDiv (128 + len) 16384

/-- The 64-octet header of a record (R485). -/
def IceRec.header (r : IceRec) : List Byte :=
  ascii "THRC" ++ be 1 r.typ ++ be 1 r.region ++ be 2 r.subject ++ be 8 r.seq ++ be 4 r.payload.length ++ be 8 r.sfn ++
    List.replicate 36 0

/-- The digest of a record: SHAKE256 over header and payload (R485). -/
def IceRec.digest (r : IceRec) : List Byte := Config.shake256 64 (r.header ++ r.payload)

/-- The commit marker of a record (R485). -/
def IceRec.marker (r : IceRec) : List Byte :=
  ascii "THCM" ++ be 8 r.seq ++ be 4 r.firstPage ++ r.digest.take 32

/-- A record's octets: header, payload and digest, padded with zeros to the end of its last page (R485). -/
def IceRec.octets (r : IceRec) : List Byte := fit (16384 * r.pages) (r.header ++ r.payload ++ r.digest)

/-- The sectors that the program of page `i` writes: eight of the record, or the one of the marker, whose page's other
sectors stay erased (R485). -/
def IceRec.sectors (r : IceRec) (i : Nat) : List (List Byte) :=
  if i < r.pages then (List.range 8).map (fun k => slice r.octets (16384 * i + 2048 * k) 2048) else [fit 2048 r.marker]

/-- A sector encrypted or decrypted with XTS-AES-256 under slot 4, the sector number its tweak (R483). -/
def State.sectorCipher (s : State) (prim sector : Nat) (data : List Byte) : List Byte :=
  fit 2048 (Config.prim prim [(nth s.grot.slots 4 GSlot.init).data, be 8 sector, data])

/-- Types whose committed record with the highest Sequence stands for its subject (R486). -/
def superseding (typ : Nat) : Bool := typ != 6 && typ != 7

/-- The record that stands for a type and subject (R486). -/
def State.standing (s : State) (typ subject : Nat) : Option IceRec :=
  (s.mem.recs.filter (fun r => r.committed && r.typ == typ && r.subject == subject)).foldl
    (fun best r => match best with
      | none => some r
      | some b => if b.seq < r.seq then some r else some b) none

/-- Order in which record writes wait (R484): retirement, keys, dictionary, calibration, images, logs. -/
def recordRank (typ : Nat) : Nat :=
  if typ = 4 then 0 else if typ = 5 then 1 else if typ = 2 then 2 else if typ = 3 then 3 else if typ = 1 then 4 else 5

/-- A job waits behind those of its rank or better (R484), and behind the first of all where `busy` says that it is under
way. -/
def enqueueJob (busy : Bool) (q : List IceJob) (j : IceJob) : List IceJob :=
  let rk := recordRank j.recd.typ
  let first := if busy then q.take 1 else []
  let rest := if busy then q.drop 1 else q
  first ++ rest.filter (fun x => decide (recordRank x.recd.typ ≤ rk)) ++ [j] ++
    rest.filter (fun x => decide (rk < recordRank x.recd.typ))

/-! ## Blocks and pages (R482, R489, R490, R492) -/

/-- A logical block's entry, or the state of a block that nothing has happened to. -/
def State.block (s : State) (b : Nat) : BlockSt :=
  (s.mem.blocks.find? (fun x => x.block == b)).getD
    { block := b, state := 0, physical := b, erases := 0, maxCorr := 0, progFails := 0, eraFails := 0, lastErase := 0
      erased := true, wornLogged := false }

/-- A logical block's entry changed. -/
def State.setBlock (s : State) (b : Nat) (f : BlockSt → BlockSt) : State :=
  let x := f (s.block b)
  { s with mem := { s.mem with blocks := x :: s.mem.blocks.filter (fun y => y.block != b) } }

/-- Write space of a region and subject: the region, or an image slot of its own (R482). -/
def spaceOf (region subject : Nat) : Nat := if region = 1 then 6 + subject else region

/-- First block and number of blocks of a write space. -/
def spaceBlocks (sp : Nat) : Nat × Nat := if 6 ≤ sp then (16 + 16 * (sp - 6), 16) else regionBlocks sp

/-- The erased blocks of some blocks, that take writes: erased, not suspended, no erase under way. -/
def State.erasedBlocks (s : State) (r : Nat × Nat) : List Nat :=
  ((List.range r.2).map (· + r.1)).filter (fun b =>
    (s.block b).erased && (s.block b).state != 1 && !s.mem.erasing.contains b)

/-- The erased block with the fewest erases (R490); of several the lowest. -/
def State.pickBlock (s : State) (r : Nat × Nat) : Option Nat :=
  (s.erasedBlocks r).foldl (fun best b => match best with
    | none => some b
    | some x => if (s.block b).erases < (s.block x).erases then some b else some x) none

/-- Takes `n` pages of a write space from its next page on, fresh blocks as they are needed: the first page, the blocks
in order, and the state; none where no erased block is left. -/
def State.takePages (s : State) (sp : Nat) : Nat → Nat → Option (List Nat × State)
  | 0, _ => none
  | fuel + 1, n =>
    if n = 0 then some ([], s)
    else
      let at_ := match nth s.mem.writeAt sp none with
        | some p => some (p, s)
        | none =>
          match s.pickBlock (spaceBlocks sp) with
          | none => none
          | some b => some (b * 256, s.setBlock b (fun x => { x with erased := false }))
      match at_ with
      | none => none
      | some (p, s) =>
        let k := min n (256 - p % 256)
        let nextAt := if (p + k) % 256 = 0 then none else some (p + k)
        let s := { s with mem := { s.mem with writeAt := setNth s.mem.writeAt sp nextAt } }
        match s.takePages sp fuel (n - k) with
        | none => none
        | some (l, s) => some (p :: l, s)

/-- Page `i` of a record, the marker being page `pages` (R485). -/
def IceRec.page (r : IceRec) (i : Nat) : Nat :=
  let o := r.firstPage % 256 + i
  nth r.blocks (o / 256) 0 * 256 + o % 256

/-- A page of a record is programmed: its sectors lie encrypted in the store (R483). -/
def State.program (s : State) (r : IceRec) (i : Nat) : State :=
  let base := sectorOf (r.page i)
  let l := (r.sectors i).mapIdx (fun k d => (base + k, s.sectorCipher Config.xtsEnc (base + k) d))
  { s with mem := { s.mem with nand := l.foldl (fun m p => assocSet m p.1 p.2) s.mem.nand } }

/-- A record's pages lie in a block. -/
def IceRec.inBlock (r : IceRec) (b : Nat) : Bool := r.blocks.contains b

/-- The record is one that a reader can get: committed, not ignored, and standing or of a type that accumulates
(R486, R487). -/
def State.liveRec (s : State) (r : IceRec) : Bool :=
  r.committed && r.ignored == 0 && (!superseding r.typ ||
    (match s.standing r.typ r.subject with
     | some x => x.seq == r.seq && x.region == r.region
     | none => false))

/-- Live records of a block. -/
def State.liveIn (s : State) (b : Nat) : List IceRec := s.mem.recs.filter (fun r => r.inBlock b && s.liveRec r)

/-- A block's erase begins; the records in it that no longer live are gone (R489). -/
def State.beginErase (s : State) (b : Nat) : State :=
  { s with mem := { s.mem with
    erasing := s.mem.erasing ++ [b], recs := s.mem.recs.filter (fun r => !r.inBlock b) } }

/-- A region cannot free a block: the write fails (R489). -/
def State.regionFull (s : State) (region : Nat) : State :=
  let s := { s with mem := { s.mem with fullRegions := (region :: s.mem.fullRegions).eraseDups } }
  (s.put Obj.icehouseState 0 3).log 0xB00D (d8 region)

/-- A record with pages of its own, at its region's next Sequence (R485): none where the region has no page left. -/
def State.newRecord (s : State) (typ region subject : Nat) (payload : List Byte) : Option (IceRec × State) :=
  let n := recordPages payload.length
  match s.takePages (spaceOf region subject) (n / 256 + 3) (n + 1) with
  | none => none
  | some (ps, s) =>
    let seq := nth s.mem.nextSeq region 1
    let r : IceRec := { typ := typ, region := region, subject := subject, seq := seq, sfn := s.clk.sfn
                        payload := payload, firstPage := nth ps 0 0, pages := n, blocks := ps.map (· / 256)
                        committed := false, ignored := 0 }
    some (r, { s with mem := { s.mem with nextSeq := setNth s.mem.nextSeq region (seq + 1) } })

/-- A record joins the queue of writes (R484); `copy` for one that a relocation or refresh writes again. -/
def State.queueRecord (s : State) (r : IceRec) (asker : Option Requester) (copy : Bool) : State :=
  let j : IceJob := { recd := r, done := 0, asker := asker, copy := copy }
  { s with mem := { s.mem with queue := enqueueJob (s.awake Dn.ice) s.mem.queue j } }

/-- Blocks of a region that can be relocated: written, good, no erase or relocation under way, not the one being written. -/
def State.movable (s : State) (region : Nat) : List Nat :=
  let (f, k) := regionBlocks region
  ((List.range k).map (· + f)).filter (fun b =>
    !(s.block b).erased && (s.block b).state != 1 && !s.mem.erasing.contains b && s.mem.moving.all (fun m => m.1 != b) &&
      s.mem.writeAt.all (fun p => match p with
        | some x => x / 256 != b
        | none => true) &&
      s.mem.queue.all (fun j => !j.recd.inBlock b))

/-- The live records of a block are written again as new records (R489, R490, R493), and the block is erased once they
are committed; at once where it holds none. `none` where a record finds no room. -/
def State.relocate (s : State) (b : Nat) : Option State :=
  let go := (s.liveIn b).foldl (fun (acc : Option (List Nat × State)) r =>
    match acc with
    | none => none
    | some (l, s) =>
      match s.newRecord r.typ r.region r.subject r.payload with
      | none => none
      | some (x, s) => some (l ++ [x.seq], s.queueRecord x none true)) (some ([], s))
  match go with
  | none => none
  | some ([], s) => some (s.beginErase b)
  | some (l, s) => some { s with mem := { s.mem with moving := s.mem.moving ++ [(b, l)] } }

/-- A region with fewer than 4 erased blocks frees one (R489): the log region erases its oldest block, the others
relocate the block with the fewest live records. -/
def State.tidy (s : State) (region : Nat) : State :=
  if region = 0 ∨ 4 ≤ (s.erasedBlocks (regionBlocks region)).length + (s.mem.erasing.filter (regionOf · == region)).length +
      (s.mem.moving.filter (regionOf ·.1 == region)).length then s
  else if region = 5 then
    let age := fun (b : Nat) => (s.mem.recs.filter (fun r => r.inBlock b)).foldl (fun m r => min m r.seq) (2 ^ 64)
    match (s.movable 5).foldl (fun best b => match best with
        | none => some b
        | some x => if age b < age x then some b else some x) none with
    | none => s
    | some b => s.beginErase b
  else
    match (s.movable region).foldl (fun best b => match best with
        | none => some b
        | some x => if (s.liveIn b).length < (s.liveIn x).length then some b else some x) none with
    | none => s
    | some b => (s.relocate b).getD s

/-- A record write is requested (R484): ICE is woken for it first. Answers the ledger's reason when that wake is refused,
9 when the region has no room (R489), 0 otherwise. -/
def State.writeRecord (s : State) (typ region subject : Nat) (payload : List Byte) (asker : Option Requester) :
    Nat × State :=
  let r := s.accessDom Dn.ice
  if r.1 ≠ 0 then (r.1, r.2)
  else
    match r.2.newRecord typ region subject payload with
    | none => (9, r.2.regionFull region)
    | some (x, s) => (0, (s.queueRecord x asker false).tidy region)

/-- Sectors read or programmed, counted (R528). -/
def State.countSectors (s : State) (ev page : Nat) : State :=
  (List.range 8).foldl (fun s i => s.occur ev { master := some 2, addr := some (3, sectorOf page + i) }) s

end Sys2Proof.Machine
end

