-- ==== Sys2Proof/Machine/Grotto.lean ====
section
/-! DEFINITION. The Grotto's slots and requests (10_grotto.md): slots, generations, shadows and erases (R290 to R294),
the queue (R295, R296), the requests and their results (R297, R298), double computation (R300, R301). -/

namespace Sys2Proof.Machine

/-! ## Slots (R290 to R294) -/

/-- Octets of a slot's contents by type (R291). -/
def slotOctets : Nat → Nat
  | 1 => 32
  | 2 => 64
  | 3 => 32
  | 4 => 1793
  | 5 => 2305
  | 6 => 3168
  | 8 => 64
  | _ => 0

/-- One slot. -/
def State.slot (s : State) (k : Nat) : GSlot := nth s.grot.slots k GSlot.init

/-- The Grotto changed. -/
def State.setGr (s : State) (f : Grotto → Grotto) : State := { s with grot := f s.grot }

/-- One slot changed. -/
def State.modSlot (s : State) (k : Nat) (f : GSlot → GSlot) : State :=
  s.setGr (fun g => { g with slots := modNth g.slots k f })

/-- The generation after another (R292). -/
def nextSlotGen (g : Nat) : Nat := if 65535 ≤ g then 1 else g + 1

/-- A request type uses the contents of the slot it names (R297). -/
def usesSlot (typ : Nat) : Bool := typ != 6 && typ != 9 && typ != 10

/-- A request type names a slot: all but those whose Slot is ignored (R297). -/
def namesSlot (typ : Nat) : Bool := typ != 6 && typ != 10

/-- Requests in flight on a slot. -/
def State.inFlight (s : State) (k : Nat) : List GReq := s.grot.queue.filter (fun r => r.slot == k && usesSlot r.typ)

/-- Requests in flight on a slot's live contents. -/
def State.liveFlight (s : State) (k : Nat) : List GReq := (s.inFlight k).filter (fun r => r.gen == (s.slot k).gen)

/-- A slot is written (R292, R293): contents with requests in flight move to the shadow. -/
def State.writeSlot (s : State) (k typ : Nat) (data : List Byte) : State :=
  let keep := !(s.liveFlight k).isEmpty
  s.modSlot k (fun x => { x with
    typ := typ, data := data, gen := nextSlotGen x.gen, shadow := if keep then some x.data else x.shadow })

/-- A write from inside the engine (R293): it waits while the slot holds a shadow or is erasing, a newer one in place of
an older. -/
def State.putSlot (s : State) (k typ : Nat) (data : List Byte) : State :=
  if (s.slot k).shadow.isSome ∨ (s.slot k).erase.isSome then
    s.modSlot k (fun x => { x with later := some (typ, data, s.clk.sfn) })
  else s.writeSlot k typ data

/-- A slot is zeroised (R294). -/
def State.emptySlot (s : State) (k : Nat) : State :=
  s.modSlot k (fun x => { x with typ := 0, gen := nextSlotGen x.gen, data := [], shadow := none, erase := none })

/-- Contents of a slot as the engine last wrote them, waiting or not. -/
def State.slotData (s : State) (k : Nat) : List Byte :=
  match (s.slot k).later with
  | some (_, d, _) => d
  | none => (s.slot k).data

/-- A slot holds usable contents of a type. -/
def State.slotIs (s : State) (k typ : Nat) : Bool := (s.slot k).typ == typ && (s.slot k).erase.isNone

/-! ## Completions (R298) -/

/-- AOP code of a completion status (R298). -/
def aopOfStatus (st : Nat) : Nat :=
  nth [0x0000, 0x0701, 0x0701, 0x0701, 0x0302, 0x0303, 0x0701, 0x0701, 0x0801, 0x0402, 0x0701, 0x0701, 0x0201] st 0

/-- A request ends with a status (R298). -/
def State.complete (s : State) (r : GReq) (st : Nat) : State :=
  let s := if st = 0 then s.occur 0x9080 { master := some r.master }
    else (s.bump Obj.requestFailCount st).occur 0x9081 { master := some r.master }
  s.emit (.completion r.tag st)

/-- A request for an epoch's key fails: 800Ah with the status (R274). -/
def State.useFailed (s : State) (r : GReq) (st : Nat) : State :=
  match r.use with
  | .derive c d ctx _ _ => s.logC c 0x800A (d8 st ++ d8 0 ++ d8 (if d = .rx then 0 else 1) ++ d8 ctx)
  | _ => s

/-- Some requests end with a status and leave the queue; answers how many. -/
def State.abortWhere (s : State) (p : GReq → Bool) (st : Nat) : Nat × State :=
  let l := s.grot.queue.filter p
  let s := s.setGr (fun g => { g with queue := g.queue.filter (fun r => !p r) })
  (l.length, l.foldl (fun s r => (s.complete r st).useFailed r st) s)

/-- Requests of a slot end with a status and leave the queue; answers how many. -/
def State.abortOn (s : State) (k st : Nat) : Nat × State := s.abortWhere (fun r => r.slot == k && usesSlot r.typ) st

/-- A slot is erased or lost: zeroised, and logged with the requests aborted (R294, R319); cause 0 erase, 1 loss. -/
def State.dropSlot (s : State) (k cause : Nat) : State :=
  let r := s.abortOn k 0x0A
  (r.2.emptySlot k).log 0x900D (d8 k ++ d8 cause ++ d16 r.1)

/-- An erase begins; it completes at once with no request in flight (R294). A write that waits is part of what goes. -/
def State.eraseSlot (s : State) (k : Nat) : State :=
  let s := s.modSlot k (fun x => { x with later := none })
  if (s.slot k).typ = 0 then s
  else if (s.inFlight k).isEmpty then s.dropSlot k 0
  else s.modSlot k (fun x => { x with erase := some s.clk.sfn })

/-- The write that waits takes place once the slot has no shadow and is not erasing (R293). -/
def State.takeLater (s : State) (k : Nat) : State :=
  match (s.slot k).later with
  | some (typ, data, _) =>
    if (s.slot k).shadow.isSome ∨ (s.slot k).erase.isSome then s
    else (s.modSlot k (fun x => { x with later := none })).writeSlot k typ data
  | none => s

/-- A request of a slot has ended: the shadow is zeroised with its last request, an erase with none left completes, and a
write that waits takes place (R293, R294). -/
def State.settleSlot (s : State) (k : Nat) : State :=
  let s := if (s.inFlight k).any (fun x => x.gen != (s.slot k).gen) then s
    else s.modSlot k (fun x => { x with shadow := none })
  let s := if (s.slot k).erase.isSome ∧ (s.inFlight k).isEmpty then s.dropSlot k 0 else s
  s.takeLater k

/-- A write that has waited 20 ms, the erase bound of R294, ends the requests that the shadow serves (R293). -/
def State.laterDue (s : State) (k : Nat) : State :=
  match (s.slot k).later with
  | some (_, _, t) =>
    if t + 200 ≤ s.clk.sfn ∧ (s.slot k).erase.isNone then
      (s.abortWhere (fun r => r.slot == k && usesSlot r.typ && r.gen != (s.slot k).gen) 0x0A).2.settleSlot k
    else s
  | none => s

/-- ERASE_COMPLETE: the requests in flight have finished, or 20 ms have passed (R294); the same bound ends the wait of a
write for the shadow (R293). -/
def execEraseComplete (k : Fin 256) (s : State) : Host.Outcome State Fault Refusal :=
  .next (match (s.slot k).erase with
    | some t => if (s.inFlight k).isEmpty ∨ t + 200 ≤ s.clk.sfn then (s.dropSlot k 0).takeLater k else s
    | none => s.laterDue k)

/-! ## The queue (R295) -/

/-- Requests of a class. -/
def State.classDepth (s : State) (cls : Nat) : Nat := (s.grot.queue.filter (fun r => r.cls == cls)).length

/-- Limits of the three classes (R295). -/
def classLimit (cls : Nat) : Nat := nth [256, 3072, 768] cls 0

/-- Units that can run a type: 0 and 1 AES, 2 Keccak, 3 lattice (R295). -/
def unitsFor (typ : Nat) : List Nat := if typ ≤ 4 then [0, 1] else if typ ≤ 6 then [2] else [3]

/-- Ledger cost of a unit (R316). -/
def unitCost (u : Nat) : Nat := if u = 1 then 500000 else if u = 3 then 900000 else 0

/-- `UnitState` shown for a unit. -/
def State.showUnit (s : State) (u v : Nat) : State := s.put Obj.unitState u v

/-- `QueueDepth` shown. -/
def State.showDepth (s : State) : State :=
  [0, 1, 2].foldl (fun s k => s.put Obj.queueDepth k (s.classDepth k)) s

/-- The waiting request that a free unit takes (R295): class 0 first; classes 1 and 2 share 3 : 1. -/
def State.pickFor (s : State) (u : Nat) : Option GReq :=
  let w := s.grot.queue.filter (fun r => r.unit.isNone && (unitsFor r.typ).contains u)
  let of := fun k => w.find? (fun r => r.cls == k)
  let first := if s.grot.turn % 4 = 3 then 2 else 1
  match of 0 with
  | some r => some r
  | none =>
    match of first with
    | some r => some r
    | none => of (3 - first)

/-- The first request equal to one is changed. -/
def modFirst (r : GReq) (f : GReq → List GReq) : List GReq → List GReq
  | [] => []
  | x :: l => if x = r then f x ++ l else x :: modFirst r f l

/-- A free unit takes its next request; the second AES unit and the lattice unit ask for their cost (R316). -/
def State.startUnit (s : State) (u : Nat) : State :=
  if s.grot.out.contains u ∨ s.grot.queue.any (fun r => decide (r.unit = some u)) ∨ !s.awake Dn.grt then s
  else
    match s.pickFor u with
    | none => (s.release Act.grotto u).showUnit u 0
    | some r =>
      let a := if unitCost u = 0 ∨ s.holds Act.grotto u ≠ 0 then (0, s) else s.ask Act.grotto u (unitCost u)
      let s := a.2
      if a.1 ≠ 0 then
        let s := s.showUnit u 1
        if u = 3 ∧ r.cls = 2 then
          let s := s.setGr (fun g => { g with queue := modFirst r (fun _ => []) g.queue })
          s.complete r 9
        else s
      else
        let s := s.showUnit u 0
        s.setGr (fun g => { g with
          queue := modFirst r (fun x => [{ x with unit := some u }]) g.queue
          turn := if r.cls = 0 then g.turn else g.turn + 1 })

/-- Every free unit takes a request. -/
def State.startUnits (s : State) : State :=
  if s.grot.hold then s.showDepth else ([0, 1, 2, 3].foldl (fun s u => s.startUnit u) s).showDepth

/-- Least and largest source length, least and largest parameter length, and destination lengths of a type, with the
source length they depend on (R297). -/
def lengthsOk (typ src par dst : Nat) : Bool :=
  match typ with
  | 1 => decide (16 ≤ src) && decide (src ≤ 2048) && par == 8 && dst == src
  | 2 => decide (16 ≤ src) && decide (src ≤ 2048) && par == 8 && dst == src
  | 3 => decide (src ≤ 16384) && decide (12 ≤ par) && decide (par ≤ 4108) && dst == src + 16
  | 4 => decide (16 ≤ src) && decide (src ≤ 16400) && decide (12 ≤ par) && decide (par ≤ 4108) && dst + 16 == src
  | 5 => decide (src ≤ 256) && decide (1 ≤ par) && decide (par ≤ 64) && decide (1 ≤ dst) && decide (dst ≤ 64)
  | 6 => decide (src ≤ 16777216) && par == 0 && decide (1 ≤ dst) && decide (dst ≤ 4096)
  | 7 => decide (src ≤ 16777216) && par == 1280 && dst == 0
  | 8 => decide (src ≤ 16777216) && par == 0 && dst == 1280
  | 9 => src == 0 && par == 0 && dst == 1568
  | 10 => src == 1568 && par == 0 && dst == 1568
  | _ => src == 1568 && par == 0 && dst == 0

/-- A length of zero that the table of R297 refuses. -/
def zeroLength (typ src par dst : Nat) : Bool :=
  match typ with
  | 1 => src == 0 || dst == 0 || par == 0
  | 2 => src == 0 || dst == 0 || par == 0
  | 3 => par == 0 || dst == 0
  | 4 => par == 0 || src == 0
  | 5 => par == 0 || dst == 0
  | 6 => dst == 0
  | 7 => par == 0
  | 8 => dst == 0
  | 9 => dst == 0
  | 10 => src == 0 || dst == 0
  | _ => src == 0

/-- The types of slot that a request type takes (R297). -/
def slotTypes (typ : Nat) : List Nat :=
  match typ with
  | 1 => [2]
  | 2 => [2]
  | 3 => [1]
  | 4 => [1]
  | 5 => [1, 3]
  | 7 => [4]
  | 8 => [5]
  | 11 => [6]
  | _ => []

/-- Status with which a request fails as it is accepted, 0 for none (R294, R295, R297); the order is the model's
(log entry 8). -/
def State.admission (s : State) (r : GReq) : Nat :=
  let x := s.slot r.slot
  if classLimit r.cls ≤ s.classDepth r.cls then 8
  else if namesSlot r.typ ∧ x.erase.isSome then 2
  else if usesSlot r.typ ∧ x.typ = 0 then 1
  else if usesSlot r.typ ∧ !(slotTypes r.typ).contains x.typ then 3
  else if namesSlot r.typ ∧ !Config.slotAdmits r.slot r.master then 12
  else if zeroLength r.typ r.src.2 r.par.2 r.dst.2 then 5
  else if !lengthsOk r.typ r.src.2 r.par.2 r.dst.2 then 4
  else if (r.typ = 5 ∨ r.typ = 10 ∨ r.typ = 11) ∧ r.use = .plain ∧
      !((8 ≤ r.outSlot ∧ r.outSlot ≤ 15) ∨ (r.typ = 5 ∧ r.outSlot = 0 ∧ Config.inKeyStore r.dst.1)) then 11
  else if (unitsFor r.typ).all (fun u => s.grot.out.contains u) then 7
  else 0

/-- A request is submitted (R292, R295): it fails at once or enters the queue, bound to its slot's generation. GRT is
woken for it; where the Allotment refuses, it fails with 09h. -/
def State.submit (s : State) (r : GReq) : State :=
  let a := s.accessDom Dn.grt
  if a.1 ≠ 0 then (a.2.complete r 9).useFailed r 9
  else
    let s := a.2
    let st := s.admission r
    if st = 8 then ((s.logSecond 0x9011 r.cls 0 (d8 r.cls)).complete r 8).useFailed r 8
    else if st ≠ 0 then (s.complete r st).useFailed r st
    else
      let r := { r with gen := (s.slot r.slot).gen, unit := none }
      (s.setGr (fun g => { g with queue := g.queue ++ [r] })).startUnits

/-! ## Results (R297, R300) -/

/-- The key that a request uses: the live contents, or the shadow of an older generation (R293). -/
def State.keyFor (s : State) (r : GReq) : List Byte :=
  let x := s.slot r.slot
  if r.gen = x.gen then x.data else x.shadow.getD []

/-- The octet that a requester reads: one of a poisoned word never as data (R474); beyond the 384 MiB of SRAM (R471) the
spec states none. Both are free values (log entry 11). -/
def State.octetAt (s : State) (a : Nat) : Byte :=
  if sramSize ≤ a then Config.absentOctet a
  else if s.mem.poison.any (fun p => p.1 == a / 4 * 4) then Config.poisonedOctet a
  else sramRead s.mem.sram a

/-- The octets a request reads at an address and length. -/
def State.area (s : State) (a : Nat × Nat) : List Byte := (List.range a.2).map (fun i => s.octetAt (a.1 + i))

/-- The octets a request writes to SRAM, as far as its 384 MiB reach (R471); a write replaces the poisoned words that it
touches (R474). -/
def State.writeArea (s : State) (a : Nat) (b : List Byte) : State :=
  { s with mem := { s.mem with
      sram := sramWriteN s.mem.sram a (b.take (sramSize - a))
      poison := s.mem.poison.filter (fun p => decide (p.1 + 4 ≤ a) || decide (a + b.length ≤ p.1)) } }

/-- Type of the key that an engine slot takes (R290). -/
def outType (k : Nat) : Nat := if k < 12 then 3 else if k < 14 then 6 else 1

/-- Eight-octet words of random input. -/
def State.randomWords (s : State) : Nat → List Byte × State
  | 0 => ([], s)
  | k + 1 =>
    let a := s.fresh 64
    let b := a.2.randomWords k
    (be 8 a.1 ++ b.1, b.2)

/-- Random input of a randomised request (R300): free values. -/
def State.random (s : State) (n : Nat) : List Byte × State :=
  let r := s.randomWords (ceilDiv n 8)
  (r.1.take n, r.2)

/-- What a request of a type writes (R297), and its status: 0, or 6 where a tag or signature fails. -/
def State.result (s : State) (r : GReq) : Nat × State :=
  let key := s.keyFor r
  let src := s.area r.src
  let par := s.area r.par
  match r.typ with
  | 1 => (0, s.writeArea r.dst.1 (fit r.dst.2 (Config.prim Config.xtsEnc [key, par, src])))
  | 2 => (0, s.writeArea r.dst.1 (fit r.dst.2 (Config.prim Config.xtsDec [key, par, src])))
  | 3 => (0, s.writeArea r.dst.1 (fit r.dst.2 (Config.prim Config.gcmEnc [key, par.take 12, par.drop 12, src])))
  | 4 =>
    if Config.verdict Config.gcmDec [key, par.take 12, par.drop 12, src] then
      (0, s.writeArea r.dst.1 (fit r.dst.2 (Config.prim Config.gcmDec [key, par.take 12, par.drop 12, src])))
    else (6, s)
  | 5 =>
    let k := Config.kmac256 r.dst.2 key src par
    (0, if r.outSlot = 0 then s.writeArea r.dst.1 k
        else s.putSlot r.outSlot (outType r.outSlot) (fit (slotOctets (outType r.outSlot)) k))
  | 6 => (0, s.writeArea r.dst.1 (Config.shake256 r.dst.2 src))
  | 7 => (if Config.verdict Config.falconVerify [key, src, par] then 0 else 6, s)
  | 8 =>
    let (rnd, s) := s.random 40
    (0, s.writeArea r.dst.1 (fit 1280 (Config.prim Config.falconSign [key, src, rnd])))
  | 9 =>
    let (rnd, s) := s.random 64
    let s := s.putSlot r.slot 6 (fit 3168 (Config.prim Config.kemPrivate [rnd]))
    (0, s.writeArea r.dst.1 (fit 1568 (Config.prim Config.kemPublic [rnd])))
  | 10 =>
    let (rnd, s) := s.random 32
    let s := s.putSlot r.outSlot (outType r.outSlot) (fit 32 (Config.prim Config.kemSecret [src, rnd]))
    (0, s.writeArea r.dst.1 (fit 1568 (Config.prim Config.kemCipher [src, rnd])))
  | _ => (0, s.putSlot r.outSlot (outType r.outSlot) (fit 32 (Config.prim Config.kemDecap [key, src])))

/-! ## The request commands (R296, R297) -/

/-- Class of a request, set from master and type (R295, R296): key requests of the Grotto itself are class 0. -/
def classOf (master typ : Nat) : Nat :=
  if typ = 1 ∨ typ = 2 then 1
  else if master = 3 ∧ (typ = 5 ∨ 9 ≤ typ) then 0
  else 2

/-- A request by descriptor (R296): every one ends with a completion (R298). -/
def State.request (s : State) (typ : Nat) (x : Descriptor) : Host.Outcome State Fault Refusal :=
  .next (s.submit
    { master := x.master, typ := typ, slot := x.slot.toNat, gen := 0, outSlot := x.outSlot.toNat
      tag := x.tag.toNat, src := (x.src.toNat, x.srcLen.toNat), dst := (x.dst.toNat, x.dstLen.toNat)
      par := (x.par.toNat, x.parLen.toNat), cls := classOf x.master typ, unit := none, use := .plain })

/-- XTS_ENCRYPT (R297). -/
def execXtsEncrypt (x : Descriptor) (s : State) : Host.Outcome State Fault Refusal := s.request 1 x
/-- XTS_DECRYPT (R297). -/
def execXtsDecrypt (x : Descriptor) (s : State) : Host.Outcome State Fault Refusal := s.request 2 x
/-- GCM_ENCRYPT (R297). -/
def execGcmEncrypt (x : Descriptor) (s : State) : Host.Outcome State Fault Refusal := s.request 3 x
/-- GCM_DECRYPT (R297). -/
def execGcmDecrypt (x : Descriptor) (s : State) : Host.Outcome State Fault Refusal := s.request 4 x
/-- KMAC256_DERIVE (R297). -/
def execKmac256Derive (x : Descriptor) (s : State) : Host.Outcome State Fault Refusal := s.request 5 x
/-- SHAKE256 (R297). -/
def execShake256 (x : Descriptor) (s : State) : Host.Outcome State Fault Refusal := s.request 6 x
/-- FALCON_VERIFY (R297). -/
def execFalconVerify (x : Descriptor) (s : State) : Host.Outcome State Fault Refusal := s.request 7 x
/-- FALCON_SIGN (R297). -/
def execFalconSign (x : Descriptor) (s : State) : Host.Outcome State Fault Refusal := s.request 8 x
/-- ML_KEM_KEY_GENERATION (R297). -/
def execMlKemKeyGeneration (x : Descriptor) (s : State) : Host.Outcome State Fault Refusal := s.request 9 x
/-- ML_KEM_ENCAPSULATE (R297). -/
def execMlKemEncapsulate (x : Descriptor) (s : State) : Host.Outcome State Fault Refusal := s.request 10 x
/-- ML_KEM_DECAPSULATE (R297). -/
def execMlKemDecapsulate (x : Descriptor) (s : State) : Host.Outcome State Fault Refusal := s.request 11 x

end Sys2Proof.Machine
end

