-- ==== Sys2Proof/Machine/Cal.lean ====
section
/-! DEFINITION. Calibration sets (15_calibration.md): point values and interpolation (R433, R434), the learned set
(R435, R441, R444), set loads (R436 to R438), and the privileged calibrations (R439, R440); with the accessors of the
converters that they share with rotation. -/

namespace Sys2Proof.Machine

/-! ## Converters -/

/-- Smallest and largest value of each term (R99). -/
def termRange : List (Int × Int) :=
  [(-983, 983), (-512, 512), (-200, 200), (-2048, 2048), (14336, 18432), (-2048, 2048)]

/-- A term brought into its range (R434). -/
def clipTerm (i : Nat) (v : Int) : Int :=
  let (lo, hi) := nth termRange i (0, 0)
  if v < lo then lo else if hi < v then hi else v

/-- Every term lies in its range (R68). -/
def termsInRange (l : List Int) : Bool :=
  l.length == 6 && (List.range 6).all (fun i => let (lo, hi) := nth termRange i (0, 0); inRange lo hi (nth l i 0))

/-- One converter of a carrier. -/
def State.cv (s : State) (c : Carrier) (k : Nat) : Conv := nth (s.conv.get c).convs k (Conv.init k)

/-- One converter changed. -/
def State.setCv (s : State) (c : Carrier) (k : Nat) (f : Conv → Conv) : State :=
  { s with conv := s.conv.upd c (fun x => { x with convs := modNth x.convs k f }) }

/-- One slice of a converter. -/
def Conv.slice (v : Conv) (i : Nat) : Slice := nth v.slices i (Slice.init false)

/-- One slice of a converter changed. -/
def Conv.setSlice (v : Conv) (i : Nat) (f : Slice → Slice) : Conv := { v with slices := modNth v.slices i f }

/-- A slice of the machine changed. -/
def State.setSlice (s : State) (c : Carrier) (k i : Nat) (f : Slice → Slice) : State :=
  s.setCv c k (fun v => v.setSlice i f)

/-- The phase that a slice serves. -/
def Conv.phaseOf (v : Conv) (i : Nat) : Nat := v.phases.idxOf i

/-- The count that carries a converter's swaps: local for a DAC, received for an ADC unless case 3 of R84 holds
(R37, R84). -/
def State.swapCount (s : State) (c : Carrier) (k : Nat) : SCount :=
  if 4 ≤ k then .loc else if (s.conv.get c).countLocal then .loc else .rx c

/-! ## Point values (R433, R434) -/

/-- Key of a slice over both carriers and all converters. -/
def sliceKey (c : Carrier) (k i : Nat) : Nat := (c.toNat * 8 + k) * 128 + i

/-- Factory value of a term of a slice at a point (R433): the part's own, brought into the term's range. -/
def factoryTerm (key point i : Nat) : Int :=
  clipTerm i (ofTwos 16 ((Config.factoryNumber 0x4170 (key * 64 + point * 8 + i)).toNat % 65536))

/-- Learned value of a slice at a point, if it is learned (R433). -/
def State.learnedAt (s : State) (key point : Nat) : Option Learned :=
  s.cal.learned.find? (fun x => x.key == key && x.point == point)

/-- Point value of a slice: learned if learned, else factory, else the default (R433, R442). -/
def State.pointValue (s : State) (key point : Nat) : List Int :=
  match s.learnedAt key point with
  | some x => x.terms
  | none => if s.cal.factoryBad then defaultTerms else (List.range 6).map (factoryTerm key point)

/-- Temperature of a point in 0.01 °C (R432). -/
def pointTemp (p : Nat) : Int := nth [-4000, -2000, 0, 2000, 4000, 6000, 8000, 9500] p 0

/-- A ratio rounded to the nearest integer, ties towards zero (R434). -/
def roundToZero (n : Int) (d : Nat) : Int :=
  let q := n.natAbs / d
  let q' := if d < 2 * (n.natAbs % d) then q + 1 else q
  if n < 0 then -(q' : Int) else q'

/-- The point at or below a temperature, at most point 6. -/
def pointBelow (t : Int) : Nat := ((List.range 7).filter (fun p => decide (pointTemp p ≤ t))).length - 1

/-- Interpolated terms of a slice at a temperature (R434). -/
def State.interpolated (s : State) (key : Nat) (t : Int) : List Int :=
  if t ≤ pointTemp 0 then s.pointValue key 0
  else if pointTemp 7 ≤ t then s.pointValue key 7
  else
    let p := pointBelow t
    let a := s.pointValue key p
    let b := s.pointValue key (p + 1)
    let d := (pointTemp (p + 1) - pointTemp p).toNat
    (List.range 6).map (fun i =>
      clipTerm i (roundToZero (nth a i 0 * d + (nth b i 0 - nth a i 0) * (t - pointTemp p)) d))

/-! ## The learned set (R435, R441, R444) -/

/-- The point within 5.00 °C of a temperature, if any (R435). -/
def nearPoint (t : Int) : Option Nat := (List.range 8).find? (fun p => decide ((t - pointTemp p).natAbs ≤ 500))

/-- Updates and SFN of the last update of a carrier's point (`CalPoint`). -/
def State.pointStats (s : State) (c : Carrier) (p : Nat) : Nat × Nat :=
  match s.cal.points.find? (fun x => x.1 == c.toNat * 8 + p) with
  | some (_, n, t) => (n, t)
  | none => (0, 0)

/-- A passing trim updates the learned set near a point (R435), unless SVC2 results are suspect (R431). -/
def State.learn (s : State) (c : Carrier) (k i : Nat) : State :=
  let sl := (s.cv c k).slice i
  match nearPoint sl.temp with
  | none => s
  | some p =>
    if s.cal.suspect then s else
    let key := sliceKey c k i
    let terms := match s.learnedAt key p with
      | none => sl.terms
      | some x => (List.range 6).map (fun j => nth x.terms j 0 + roundToZero (nth sl.terms j 0 - nth x.terms j 0) 4)
    let x : Learned := { key := key, point := p, terms := terms, temp := sl.temp, sfn := s.clk.sfn }
    let kp := c.toNat * 8 + p
    let st := s.pointStats c p
    { s with cal := { s.cal with
        learned := x :: s.cal.learned.filter (fun y => !(y.key == key && y.point == p))
        changed := if s.cal.changed.contains key then s.cal.changed else key :: s.cal.changed
        points := (kp, st.1 + 1, s.clk.sfn) :: s.cal.points.filter (fun y => y.1 != kp) } }

/-- Payload of a learned-set record (R441): per learned value its key, point, temperature, SFN and terms. -/
def State.learnedPayload (s : State) : List Byte :=
  (s.cal.learned.map (fun x => be 2 x.key ++ be 1 x.point ++ i16 x.temp ++ be 8 x.sfn ++
    (x.terms.map i16).flatten)).flatten

/-- The learned values that a record's payload holds. -/
def learnedOf : Nat → List Byte → List Learned
  | 0, _ => []
  | _, [] => []
  | n + 1, b =>
    let t := (List.range 6).map (fun j => ofTwos 16 (ofBe (slice b (13 + 2 * j) 2)))
    { key := ofBe (slice b 0 2), point := ofBe (slice b 2 1), terms := t
      temp := ofTwos 16 (ofBe (slice b 3 2)), sfn := ofBe (slice b 5 8) } :: learnedOf n (b.drop 25)

/-- A save of the learned set begins (R441); if ICE cannot wake it is tried again after 60 s. 0 when it began. -/
def State.calSave (s : State) (asker : Option Requester) : Nat × State :=
  let r := s.writeRecord 3 3 0 s.learnedPayload asker
  if r.1 = 0 then
    (0, { r.2 with cal := { r.2.cal with retryAt := none, savedAt := s.clk.sfn } })
  else (r.1, { r.2 with cal := { r.2.cal with retryAt := some (s.clk.sfn + 600000) } })

/-- A learned-set record is committed: the save is done and logged (R441). -/
def State.calSaved (s : State) : State :=
  let n := s.cal.changed.length
  let s := { s with cal := { s.cal with changed := [] } }
  (s.put Obj.lastCalSave 0 s.clk.sfn).log 0x4013 (d16 n)

/-! ## Set loads (R436 to R438) -/

/-- Key of a slice swap or set load (R81, R436). -/
def swapKey (out inc k : Nat) : Nat := out * 65536 + inc * 256 + k

/-- A set load of a converter is armed: the whole converter, or one slice; cause per R437, from 0 in its order. A
domain that is asleep is loaded at its wake instead (R438). -/
def State.armLoad (s : State) (c : Carrier) (k inc cause : Nat) : State :=
  if s.domOff (if k < 4 then Dn.rx c else Dn.tx c) then
    { s with cal := { s.cal with wakeLoads := s.cal.wakeLoads ++ [(c.toNat * 8 + k, inc, cause)] } }
  else
  let cnt := s.swapCount c k
  let e := { Entry.base .sliceSwap (s.firstSfn cnt 0) with
    count := cnt, carrier := some c, key := swapKey 255 inc k, data := [0, cause] }
  (s.arm e).2

/-- Set loads of some converters of a carrier. -/
def State.armLoads (s : State) (c : Carrier) (ks : List Nat) (cause : Nat) : State :=
  ks.foldl (fun s k => s.armLoad c k 255 cause) s

/-- Every slice that a converter keeps in service becomes due (R79, R437). -/
def Conv.allDue (v : Conv) (now : Nat) : Conv :=
  { v with slices := v.slices.map (fun x =>
      if x.st = 0 ∨ x.st = 6 then { x with due := true, dueSince := if x.due then x.dueSince else now } else x) }

/-- A set load applies at its swap word (R436, R438): interpolated terms on the loaded slices, a trim window open on the
converter is abandoned, and the slices are due. -/
def State.applyLoad (s : State) (c : Carrier) (k inc cause : Nat) : State :=
  let v := s.cv c k
  let loads := fun (i : Nat) (x : Slice) => (x.st == 0 || x.st == 6) && (inc == 255 || inc == i)
  let slices := v.slices.mapIdx (fun i x =>
    if loads i x then
      { x with terms := s.interpolated (sliceKey c k i) v.temp, due := true
               dueSince := if x.due then x.dueSince else s.clk.sfn }
    else x)
  let v' := { v with slices := slices }
  let s := match v.cycle with
    | .trimming spare _ _ _ _ =>
      let v'' := v'.setSlice spare (fun x => { x with st := 1 })
      (s.setCv c k (fun _ => { v'' with cycle := .idle })).release Act.trim (c.toNat * 8 + k)
    | _ => s.setCv c k (fun _ => v')
  let s := s.occur 0x4080 { carrier := some c }
  s.logC c 0x4012 (d8 c.inst ++ d8 k ++ d8 inc ++ d8 cause)

/-! ## Privileged calibrations (R439, R440) -/

/-- The carrier of a part of a privileged run: 1 A, 2 B. -/
def partCarrier : Nat → List Carrier
  | 0 => [.a, .b]
  | 1 => [.a]
  | 2 => [.b]
  | _ => []

/-- The domains that a privileged step of a part needs (R439). -/
def privDomains (step part : Nat) : List Nat :=
  if step = 0 then [Dn.bel]
  else if step = 1 then (partCarrier part).map Dn.op
  else
    ((partCarrier part).map (fun c => [Dn.tx c, Dn.rx c, Dn.op c])).flatten ++
      (if part = 0 then [8, 9, 10, 11] else if 3 ≤ part then [Dn.hla + (part - 3)] else [])

/-- A privileged calibration runs (R439). -/
def State.calRunning (s : State) : Bool := !s.cal.runs.isEmpty

/-- A privileged step of a part begins: its domains are woken and its 18 W entered whatever the headroom (R439, R459),
and it runs. -/
def State.startPriv (s : State) (step part : Nat) : State :=
  let s := (privDomains step part).foldl (fun s d => (s.accessDom d true).2) s
  let s := if s.calRunning then s else
    { (s.askPrivileged Act.cal 0 18000000) with cal := { s.cal with started := s.clk.sfn } }
  { s.put Obj.privCalState step 1 with cal := { s.cal with runs := s.cal.runs ++ [(step, part)] } }

/-- The fallback of a calibration that failed twice (R440): `bad` are the lasers whose locker failed. -/
def State.privFallback (s : State) (step : Nat) (bad : List Nat) : State :=
  let s := (s.put Obj.privCalState step 3).log 0x4011 (d8 step ++ d8 1)
  if step = 0 then
    ((s.put Obj.belState 0 0).put Obj.timeQuality 0 0).put Obj.timeUncertainty 0 0xFFFFFFFF
  else if step = 1 then { s with cal := { s.cal with lockerBad := s.cal.lockerBad ++ bad } }
  else { s with cal := { s.cal with delayExtra := 1000 } }

end Sys2Proof.Machine
end

