-- ==== Sys2Proof/Machine/Path.lean ====
section
/-! DEFINITION. The samples of the line converters: phases (R66), correction terms (R68), the complex words of V1 (R70)
and the scaling ahead of the DACs (R97). -/

namespace Sys2Proof.Machine

/-! ## Samples and phases (R66, R67) -/

/-- Samples of a converter in one clock word (R66). -/
abbrev wordSamples : Nat := 256

/-- Clock words of a superframe (R66). -/
abbrev wordsPerSf : Nat := 150000

/-- Samples of a converter in one SF (R66). -/
abbrev samplesPerSf : Nat := wordSamples * wordsPerSf

/-- Samples of one slice in one SF (R66). -/
def sliceSamples (k : Nat) : Nat := samplesPerSf / phaseCount k

/-- Phase of sample `j` of a clock word (R66). -/
def samplePhase (k j : Nat) : Nat := j % phaseCount k

/-- The slice that takes or drives sample `j` of a clock word (R66, R67). -/
def Conv.sampleSlice (v : Conv) (k j : Nat) : Slice := v.slice (nth v.phases (samplePhase k j) 0)

/-! ## Correction (R68) -/

/-- A quotient rounded to the nearest integer, halves upwards (log entry 6). -/
def roundHalf (n : Int) (d : Nat) : Int := (2 * n + d) / (2 * d)

/-- Term of a slice by its column of R99. -/
def Slice.term (x : Slice) (i : Nat) : Int := nth x.terms i 0

/-- A three-tap FIR over a slice's own samples before, at and after one, over 2¹⁴ (R68, log entry 78). -/
def Slice.fir (x : Slice) (before at' after : Int) : Int := x.term 5 * before + x.term 4 * at' + x.term 3 * after

/-- Digital terms of an ADC slice over its codes, in the order offset, gain, FIR: the sample in 1/256 code (R68, R70). -/
def Slice.corrected (x : Slice) (before at' after : Int) : Int :=
  let f := fun (c : Int) => (c * 64 - x.term 1) * (2 ^ 14 + x.term 0)
  roundHalf (x.fir (f before) (f at') (f after)) (2 ^ 26)

/-- Digital terms of a DAC slice over its values, in codes, in the order FIR, gain, offset: the value in code × 2³⁴
(R68). -/
def Slice.driven (x : Slice) (before at' after : Int) : Int :=
  64 * (x.fir before at' after * (2 ^ 14 + x.term 0)) - x.term 1 * 2 ^ 28

/-- A value held within two limits. -/
def saturate (lo hi v : Int) : Int := if v < lo then lo else if hi < v then hi else v

/-- The complex word of V1: Q in bits 31 to 16, I in 15 to 0, each in 1/256 code, saturated (R70). -/
def v1Word (i q : Int) : Nat :=
  let f := fun (v : Int) => twos 16 (saturate (-32768) 32767 v)
  f q * 2 ^ 16 + f i

/-- The V1 word of one instant of a polarisation: sample `j` of converters 2p and 2p + 1 with the samples of their slices
before and after it (R66, R68, R70). -/
def ConvSt.v1 (x : ConvSt) (p j : Nat) (i q : Int × Int × Int) : Nat :=
  let one := fun (k : Nat) (t : Int × Int × Int) =>
    ((nth x.convs k (Conv.init k)).sampleSlice k j).corrected t.1 t.2.1 t.2.2
  v1Word (one (2 * p) i) (one (2 * p + 1) q)

end Sys2Proof.Machine

namespace Sys2Proof

/-! ## What a superframe's samples show (R95 to R97) -/

/-- Samples counted. -/
def ConvIn.total (x : ConvIn) : Nat := sumNat (x.hist.map (·.2))

/-- Sum of the squares of the samples; the RMS is the root of its share per sample. -/
def ConvIn.squares (x : ConvIn) : Nat := sumNat (x.hist.map (fun p => p.1.natAbs ^ 2 * p.2))

/-- Samples that pass a test. -/
def ConvIn.counted (x : ConvIn) (f : Int → Bool) : Nat := sumNat ((x.hist.filter (fun p => f p.1)).map (·.2))

/-- The RMS of a converter's samples lies below some codes. -/
def ConvIn.rmsBelow (x : ConvIn) (codes : Nat) : Bool := decide (x.squares < codes ^ 2 * x.total)

/-- The RMS of a converter's samples lies above some codes. -/
def ConvIn.rmsAbove (x : ConvIn) (codes : Nat) : Bool := decide (codes ^ 2 * x.total < x.squares)

/-- A value of size `v`, scaled so that the RMS lies `backoff` × 0.1 dB below a full scale of 128 codes, exceeds `half`
half codes (R97, log entry 78): both sides to the power 200, where 10^(backoff/200) is whole. -/
def ConvIn.exceeds (x : ConvIn) (backoff v half : Nat) : Bool :=
  decide (half ^ 200 * (x.squares ^ 100 * 10 ^ backoff) < (2 * v * 128) ^ 200 * x.total ^ 100)

/-- A value goes beyond the code range after scaling and saturates (R97). -/
def ConvIn.beyond (x : ConvIn) (backoff : Nat) (v : Int) : Bool :=
  x.exceeds backoff v.natAbs (if v < 0 then 256 else 254)

/-- The code that a value has after scaling: the nearest one, or −128 or +127 where it saturates (R97). -/
def ConvIn.dacCode (x : ConvIn) (backoff : Nat) (v : Int) : Int :=
  let n := ((List.range 128).filter (fun c => x.exceeds backoff v.natAbs (2 * c + 1))).length
  Machine.saturate (-128) 127 (if v < 0 then -(n : Int) else n)

/-- Clipped samples of a converter: at the end codes in an ADC (R95), beyond the range after scaling in a DAC (R97). -/
def ConvIn.clipped (x : ConvIn) (k backoff : Nat) : Nat :=
  if k < 4 then x.counted (fun c => c == -128 || c == 127) else x.counted (x.beyond backoff)

end Sys2Proof

namespace Sys2Proof.Machine

/-! ## Failed slices (R89) -/

/-- What an ADC slice shows breaks one of its limits: mean more than 2 codes from its offset, RMS more than 10 % from the
mean RMS of the other phases, or one code for more than half its samples (R89). -/
def adcBad (all : List SliceIn) (k : Nat) (x : Slice) (y : SliceIn) : Bool :=
  let others := sumNat (all.map (·.rms)) - y.rms
  let n := all.length - 1
  decide (128 < (y.mean - x.term 1).natAbs) ||
    decide (others < 10 * ((y.rms * n : Int) - others).natAbs) ||
    decide (sliceSamples k < 2 * y.common)

/-- A slice in service breaks a limit of R89 in this superframe; ADC statistics are not judged under case 5 of R84. -/
def Conv.bad (v : Conv) (k : Nat) (noInput : Bool) (l : List SliceIn) (i : Nat) : Bool :=
  match l[v.phases.idxOf i]? with
  | none => false
  | some y => if k < 4 then !noInput && adcBad l k (v.slice i) y else y.driver

end Sys2Proof.Machine
end

