-- ==== Sys2Proof/Machine/Conv.lean ====
section
/-! DEFINITION. Line converters and slice rotation (03_line_converters.md): the rotation cycle, swaps and handover,
failed, withdrawn and retired slices, clipping and loss of input, and the commands of that chapter. -/

namespace Sys2Proof.Machine

/-! ## Choosing slices (R73, R74) -/

/-- A slice's temperature movement since its last trim. -/
def moved (temp : Int) (x : Slice) : Nat := (temp - x.temp).natAbs

/-- A slice's trigger fires (R430): never trimmed, temperature beyond `TrimTempStep` (not judged while the results are
suspect, R431), or age beyond `TrimAgeLimit`. -/
def State.triggered (s : State) (c : Carrier) (temp : Int) (x : Slice) : Bool :=
  x.trimSfn == 0 ||
  (!s.cal.suspect && decide (s.u (on c Obj.trimTempStep) < moved temp x)) ||
  decide (x.trimSfn + s.u (on c Obj.trimAgeLimit) * sfPerSecond < s.clk.sfn)

/-- Score of a slice (R73), over a denominator that is the same for every slice of a converter. -/
def State.score (s : State) (c : Carrier) (temp : Int) (x : Slice) : Nat :=
  max (moved temp x * (s.u (on c Obj.trimAgeLimit) * sfPerSecond))
    ((s.clk.sfn - x.trimSfn) * s.u (on c Obj.trimTempStep))

/-- The best of some slices by a strict order; ties go to the lowest number. -/
def pickBest (l : List (Nat × Slice)) (better : Slice → Slice → Bool) : Option Nat :=
  (l.foldl (fun best x => match best with
    | none => some x
    | some b => if better x.2 b.2 then some x else some b) (none : Option (Nat × Slice))).map (·.1)

/-- Slices with their numbers. -/
def Conv.numbered (v : Conv) : List (Nat × Slice) := v.slices.mapIdx (fun i x => (i, x))

/-- The slice to relieve: the due active slice with the highest score (R73). -/
def State.pickDue (s : State) (c : Carrier) (k : Nat) : Option Nat :=
  let v := s.cv c k
  pickBest (v.numbered.filter (fun p => p.2.st == 0 && p.2.due))
    (fun x y => decide (s.score c v.temp y < s.score c v.temp x))

/-- The spare to trim: the idle spare with the oldest last trim (R74). -/
def Conv.pickSpare (v : Conv) : Option Nat :=
  pickBest (v.numbered.filter (fun p => p.2.st == 1)) (fun x y => decide (x.trimSfn < y.trimSfn))

/-! ## Health and rotation state (R84, R91) -/

/-- Usable spares: slices outside service that can serve. -/
def Conv.usable (v : Conv) : Nat :=
  (v.slices.filter (fun x => x.st == 1 || x.st == 2 || x.st == 3 || x.st == 4)).length

/-- A failed slice still serves a phase. -/
def Slice.failing (x : Slice) : Bool := x.failed && (x.st == 0 || x.st == 6)

/-- `ConverterHealth` of R91. -/
def Conv.health (v : Conv) : Nat :=
  if v.slices.any Slice.failing then 3
  else if v.usable = 0 then 2
  else if v.usable = 1 then 1
  else 0

/-- `ConverterHealth` follows the slices; a failed slice that no spare is left to relieve is logged once (4009h, R91). -/
def State.setHealth (s : State) (c : Carrier) (k : Nat) : State :=
  let v := s.cv c k
  let none' := v.usable == 0
  let s := (v.numbered.filter (fun p => p.2.failing && none' && !p.2.stuck)).foldl (fun s p =>
    s.logC c 0x4009 (d8 k ++ d8 p.1 ++ d8 (v.phaseOf p.1))) s
  let s := s.setCv c k (fun v =>
    { v with slices := v.slices.map (fun x => { x with stuck := x.failing && none' }) })
  s.put (on c Obj.converterHealth) k (v.health : Nat)

/-- An activation that touches the carrier lies within 1 SF (R84 case 1). -/
def State.nearActivation (s : State) (c : Carrier) : Bool :=
  s.clk.entries.any (fun e => e.touches (some c) && decide (e.sfn ≤ s.clk.sfn + 1)) ||
  (match (s.conv.get c).actAt with
   | some n => decide (s.clk.sfn ≤ n + 1)
   | none => false)

/-- An ADC of the carrier has lost its input (case 5 of R84). -/
def State.noInput (s : State) (c : Carrier) : Bool := (s.conv.get c).convs.any (·.loss)

/-- The case of R84 that holds; where several do, the first of 1, 2, 4, 5, 3 (log entry 20). -/
def State.rotationCase (s : State) (c : Carrier) : Nat :=
  if s.nearActivation c then 1
  else if !s.awake (Dn.tx c) || !s.awake (Dn.rx c) || !s.awake Dn.svc then 2
  else if s.u (on c Obj.rotationEnable) = 0 then 4
  else if s.noInput c then 5
  else if (s.conv.get c).countLocal then 3
  else 0

/-- A new cycle may start on a converter (R84); `urgent` for an emergency swap, which `RotationEnable` 0 does not hold
back (R90, log entry 20). -/
def State.mayRotate (s : State) (c : Carrier) (k : Nat) (urgent : Bool) : Bool :=
  let r := s.rotationCase c
  r != 1 && r != 2 && (r != 4 || urgent) && !(s.noInput c && decide (k < 4))

/-! ## The cycle (R75) -/

/-- Ledger item of a converter's trim. -/
def trimItem (c : Carrier) (k : Nat) : Nat := c.toNat * 8 + k

/-- Ledger cost of a trim (R86) in microwatts. -/
def trimCost (k : Nat) : Nat := if k < 4 then 300000 else 200000

/-- The entry of a calibration window or swap that a converter has in the table. -/
def State.rotationEntry (s : State) (c : Carrier) (k : Nat) (kind : Kind) : Option Entry :=
  s.clk.entries.find? (fun e => decide (e.kind = kind) && decide (e.carrier = some c) && nth e.data 1 99 == k &&
    (kind != .sliceSwap || e.key / 65536 != 255))

/-- A converter that has a slice to relieve and a spare to trim arms its next calibration window (R75, R79): for an
emergency at once but for a refusal of the Allotment, in place of a later window (R87, R90). -/
def State.startCycle (s : State) (c : Carrier) (k : Nat) : State :=
  let v := s.cv c k
  let urgent := !v.urgent.isEmpty
  let idle := match v.cycle with
    | .idle => true
    | _ => false
  let first := max (s.firstSfn .loc 0) v.retryAt
  let n := if urgent then first else max first v.nextWin
  let armed := s.rotationEntry c k .calWindow
  let free := match armed with
    | some e => urgent && decide (n < e.sfn)
    | none => true
  if idle && free && s.mayRotate c k urgent && v.pickSpare.isSome && (urgent || (s.pickDue c k).isSome) then
    let s := match armed with
      | some e => s.cancelEntry e
      | none => s
    (s.arm { Entry.base .calWindow n with carrier := some c, data := [0, k] }).2
  else s

/-- The Allotment refuses a trim (R87): counted, logged once per run, asked again 100 SF later. -/
def State.trimRefused (s : State) (c : Carrier) (k reason : Nat) : State :=
  let first := !(s.cv c k).refusedRun
  let s := s.setCv c k (fun v => { v with retryAt := s.clk.sfn + 100, refusedRun := true })
  let s := s.bump (on c Obj.trimDeferCount)
  if first then s.logC c 0x4002 (d8 k ++ d8 reason) else s

/-- The calibration window of a converter opens (R75 step 1): the slice to relieve and the spare are chosen, the ledger
is asked, and the spare starts trimming on the relieved phase. -/
def State.openWindow (s : State) (c : Carrier) (k : Nat) : State :=
  let v := s.cv c k
  let urgent := v.urgent.head?
  let out := match urgent with
    | some i => some i
    | none => s.pickDue c k
  match v.cycle, out, v.pickSpare with
  | .idle, some i, some sp =>
    if s.mayRotate c k urgent.isSome then
      let r := s.ask Act.trim (trimItem c k) (trimCost k)
      if r.1 ≠ 0 then r.2.trimRefused c k r.1
      else
        let s := r.2.setCv c k (fun v =>
          { (v.setSlice sp (fun x => { x with st := 2 })) with
            cycle := .trimming sp i (v.phaseOf i) s.clk.sfn urgent.isSome, refusedRun := false })
        s.setHealth c k
    else s
  | _, _, _ => s

/-- A cycle ends without a swap: the spare is idle again and the trim's cost leaves the ledger. The spare keeps the terms
that were fitted, with their SFN and temperature (log entry 21: the spec does not say what a discarded trim leaves). -/
def State.endCycle (s : State) (c : Carrier) (k spare : Nat) : State :=
  let s := s.setCv c k (fun v =>
    { (v.setSlice spare (fun x => if x.st = 2 ∨ x.st = 3 then { x with st := 1 } else x)) with cycle := .idle })
  (s.release Act.trim (trimItem c k)).setHealth c k

/-- A slice leaves service until restart (R88 to R90): reason 0 statistics, 1 driver current, 2 handover check, 3 two
failed trims. -/
def State.withdraw (s : State) (c : Carrier) (k i reason : Nat) : State :=
  ((s.setSlice c k i (fun x => { x with st := 5, due := false, failed := false, restored := false })).logC c 0x4004 (d8 k ++ d8 i ++ d8 reason)).setHealth c k

/-- A failed trim (R88): counted against the slice, which is withdrawn at the second in a row, or at the first after a
restore (R94). Reason 0 term out of range, 1 residual spur, 2 no convergence, 3 handover check. -/
def State.trimFailed (s : State) (c : Carrier) (k i reason : Nat) : State :=
  let x := (s.cv c k).slice i
  let s := s.setSlice c k i (fun x => { x with failRun := if x.failRun = 2 then 2 else x.failRun + 1 })
  let s := (s.bump (on c Obj.trimFailCount)).logC c 0x4003 (d8 k ++ d8 i ++ d8 reason)
  if 1 ≤ x.failRun ∨ x.restored then s.withdraw c k i 3 else s

/-- A slice swap is armed with relative SF offset 0 (R75 step 3, R81). -/
def State.armSwap (s : State) (c : Carrier) (k out inc phase : Nat) : Option Nat × State :=
  let cnt := s.swapCount c k
  s.arm { Entry.base .sliceSwap (s.firstSfn cnt 0) with
    count := cnt, carrier := some c, key := swapKey out inc k, data := [phase, k] }

/-- An armed swap is cancelled (R80, R84, R85, R93): reason 0 trim expired, 1 temperature moved, 2 frame lock lost,
3 frame lock regained, 4 rotation stopped, 5 slice retired, 6 cancelled by CancelEntry (log entry 21). The trim is
discarded and the relieved slice stays active and due. -/
def State.cancelSwap (s : State) (c : Carrier) (k reason : Nat) : State :=
  match (s.cv c k).cycle with
  | .armed spare out _ _ _ _ =>
    let s := match s.rotationEntry c k .sliceSwap with
      | some e => s.cancelEntry e
      | none => s
    let s := (s.endCycle c k spare).setSlice c k out (fun x =>
      { x with due := true, dueSince := if x.due then x.dueSince else s.clk.sfn })
    (s.bump (on c Obj.swapCancelCount)).logC c 0x4007 (d8 k ++ d8 out ++ d8 spare ++ d8 reason)
  | _ => s

/-- A trim window in progress is abandoned (R84, R87). -/
def State.abandonWindow (s : State) (c : Carrier) (k : Nat) : State :=
  let s := match s.rotationEntry c k .calWindow with
    | some e => s.cancelEntry e
    | none => s
  match (s.cv c k).cycle with
  | .trimming spare _ _ _ _ => s.endCycle c k spare
  | _ => s

/-- Rotation on a converter stops (R84): its window is abandoned and its armed swap cancelled. -/
def State.stopConv (s : State) (c : Carrier) (k : Nat) : State := (s.abandonWindow c k).cancelSwap c k 4

/-! ## Retirement (R92, R93) -/

/-- Payload of the retirement record (R485 type 04h): every retired slice, SRAM bank, retention bank and block. -/
def State.retirementPayload (s : State) : List Byte :=
  let slices := [Carrier.a, Carrier.b].flatMap (fun c =>
    (List.range 8).flatMap (fun k =>
      ((s.cv c k).numbered.filter (fun p => p.2.st == 7)).flatMap (fun p => be 1 0 ++ be 4 (sliceKey c k p.1))))
  let banks := (s.mem.banks.filter (fun b => b.state == 2)).flatMap (fun b => be 1 1 ++ be 4 (b.bank * 256 + b.repair))
  let blocks := (s.mem.blocks.filter (fun b => b.state == 2)).flatMap (fun b => be 1 2 ++ be 4 (b.block * 65536 + b.physical))
  let rets := (s.mem.ret.mapIdx (fun i r => (i, r))).filter (fun p => p.2.state == 5)
  let heir := fun (role i : Nat) => ((List.range 16).find? (fun n => n != i && (s.ret n).role == role)).getD 255
  slices ++ banks ++ rets.flatMap (fun p => be 1 3 ++ be 4 (p.1 * 256 + heir p.2.role p.1)) ++ blocks

/-- The retirement record is written, in two blocks (R482, R493); tried again after 60 s while ICE cannot wake. -/
def State.recordRetirement (s : State) : State :=
  let r := s.writeRecord 4 3 0 s.retirementPayload none
  if r.1 = 0 then
    let s := { r.2 with mem := { r.2.mem with writeAt := setNth r.2.mem.writeAt 3 none } }
    let m := (s.writeRecord 4 3 0 s.retirementPayload none).2
    { m with mem := { m.mem with retireDue := none } }
  else { r.2 with mem := { r.2.mem with retireDue := some (s.clk.sfn + 600000) } }

/-- A slice is permanently out of service (R93). -/
def State.retireSlice (s : State) (c : Carrier) (k i : Nat) : State :=
  let s := s.setSlice c k i (fun x => { x with st := 7, due := false })
  (s.recordRetirement.logC c 0x4005 (d8 k ++ d8 i)).setHealth c k

/-! ## Swap and handover (R76 to R78) -/

/-- Sample index of the swap word within the local SF (R76): 0 on the local count, whose swap word starts on the
boundary; on the received count the word that holds the first sample at or after the received boundary, which
`RxBoundaryDelay` places to a nanosecond of 384 samples: where in that nanosecond is a free value (log entry 20). -/
def State.swapIndex (s : State) (c : Carrier) (cnt : SCount) : Nat × State :=
  match cnt with
  | .loc => (0, s)
  | _ =>
    let r := s.fresh 26
    let j := s.u (on c Obj.rxBoundaryDelay) % 100000 * 384 + r.1 % 384
    (j % samplesPerSf / wordSamples * wordSamples, r.2)

/-- The swap is complete (R75 step 6, R100 4001h): result 0 passed, 1 incoming slice at fault, 2 relieved slice at
fault, 3 no check (log entry 21: the spec gives the result no values). -/
def State.swapDone (s : State) (c : Carrier) (k out inc phase n : Nat) (cnt : SCount) (index result : Nat) : State :=
  let s := s.bump (on c Obj.swapCount)
  s.logC c 0x4001 (d8 k ++ d8 out ++ d8 inc ++ d8 phase ++ d64 n ++ d8 (scountCode cnt) ++ d32 index ++ d8 result)

/-- A slice swap runs (R77): the incoming slice and its terms take the phase. The relieved slice becomes a shadow, or
goes straight out of service when it failed or is being retired (R90, R93). -/
def State.runSwap (s : State) (c : Carrier) (e : Entry) : State :=
  let k := e.key % 256
  match (s.cv c k).cycle with
  | .armed spare out phase _ _ back =>
    let x := (s.cv c k).slice out
    let r := s.swapIndex c e.count
    let s := r.2.setCv c k (fun v =>
      { (v.setSlice spare (fun y => { y with st := 0, due := false })) with
        phases := setNth v.phases phase spare, urgent := v.urgent.filter (· != out) })
    let s := s.occur 0x4080 { carrier := some c }
    if x.failed ∨ x.st = 6 then
      let s := s.setCv c k (fun v =>
        { (if back then v else v.setSlice spare (fun y => { y with failRun := 0, restored := false })) with
          cycle := .idle, nextWin := s.clk.sfn + 1 })
      let s := s.release Act.trim (trimItem c k)
      let s := s.swapDone c k out spare phase e.sfn e.count r.1 3
      let s := if x.st = 6 then s.retireSlice c k out
        else (s.setSlice c k out (fun y => { y with st := 5, failed := false })).setHealth c k
      s.startCycle c k
    else
      let s := s.setCv c k (fun v =>
        { (v.setSlice out (fun y => { y with st := 4 })) with
          cycle := .handover spare out phase e.sfn e.count r.1 back false })
      s.setHealth c k
  | _ => s

/-- The relieved slice is free after the handover SF (R75 step 6). -/
def State.freeRelieved (s : State) (c : Carrier) (k out : Nat) : State :=
  let x := (s.cv c k).slice out
  if x.st = 6 then s.retireSlice c k out
  else if 2 ≤ x.failRun then s.withdraw c k out 3
  else s.setSlice c k out (fun y => if y.st = 4 then { y with st := 1 } else y)

/-- First local SF that begins at or after now: this one at its boundary, else the next (R79). -/
def State.nextLocal (s : State) : Nat := if s.clk.tick = 0 then s.clk.sfn else s.clk.sfn + 1

/-! ## Emergency (R89 to R91) -/

/-- A failed or retiring slice is to be relieved at once (R90): with the spare in state 3 if there is one, else by the
next spare; where no spare can be trimmed it stays in service (R91). It waits in `urgent` until a swap relieves it. -/
def State.relieve (s : State) (c : Carrier) (k i : Nat) : State :=
  let s := s.setCv c k (fun v => { v with urgent := v.urgent.filter (· != i) ++ [i] })
  let v := s.cv c k
  let s := match v.cycle with
    | .armed spare _ _ win _ false =>
      let s := match s.rotationEntry c k .sliceSwap with
        | some e => s.cancelEntry e
        | none => s
      let r := s.armSwap c k i spare (v.phaseOf i)
      match r.1 with
      | some _ => r.2.setCv c k (fun v => { v with cycle := .armed spare i (v.phaseOf i) win true false })
      | none => r.2.endCycle c k spare
    | _ => s.startCycle c k
  s.setHealth c k

/-- A slice in service has failed (R89): 4004h with the reason of `withdraw`, and an emergency swap (R90). -/
def State.sliceFails (s : State) (c : Carrier) (k i reason : Nat) : State :=
  let s := s.setSlice c k i (fun x => { x with failed := true })
  (s.logC c 0x4004 (d8 k ++ d8 i ++ d8 reason)).relieve c k i

/-! ## The handover check (R78) -/

/-- The check finds the incoming slice at fault: a failed trim, and a swap back to the relieved slice with no cost
(R78, R86, R88). Where the relieved slice is being retired or no swap back can be armed, the incoming one has failed in
service (R89) and an emergency swap relieves it. -/
def State.incomingFaulty (s : State) (c : Carrier) (k spare out phase : Nat) : State :=
  let s := s.setSlice c k spare (fun x =>
    { x with failRun := if x.failRun = 0 ∧ x.restored = false then 1 else 2 })
  let s := (s.bump (on c Obj.trimFailCount)).logC c 0x4003 (d8 k ++ d8 spare ++ d8 3)
  if ((s.cv c k).slice out).st = 6 then
    ((s.setCv c k (fun v => { v with cycle := .idle })).retireSlice c k out).sliceFails c k spare 2
  else
    let r := s.armSwap c k spare out phase
    match r.1 with
    | some _ =>
      let s := r.2.setCv c k (fun v =>
        { (v.setSlice out (fun y => { y with st := 3 })) with cycle := .armed out spare phase s.clk.sfn false true })
      s.setHealth c k
    | none =>
      let s := r.2.setCv c k (fun v => { (v.setSlice out (fun y => { y with st := 1 })) with cycle := .idle })
      s.sliceFails c k spare 2

/-- The handover check of a converter (R78): `rms` is the RMS difference in 0.001 LSB, `faultIncoming` which slice the
ensemble shows at fault. An interrupted check counts as passed (R87). The trim's cost leaves the ledger with the handover
SF (R86); a passed check clears the run of failures of the slice that was trimmed (R88, R94). -/
def State.handoverCheck (s : State) (c : Carrier) (k rms : Nat) (faultIncoming : Bool) : State :=
  match (s.cv c k).cycle with
  | .handover spare out phase n cnt index back interrupted =>
    let s := s.release Act.trim (trimItem c k)
    let ended := fun (s : State) => s.setCv c k (fun v => { v with cycle := .idle, nextWin := s.nextLocal })
    if interrupted ∨ rms ≤ 1000 then
      let s := ((ended s).freeRelieved c k out).swapDone c k out spare phase n cnt index 0
      let s := if back then s
        else (s.setSlice c k spare (fun x => { x with failRun := 0, restored := false })).learn c k spare
      (s.setHealth c k).startCycle c k
    else if faultIncoming then
      (s.swapDone c k out spare phase n cnt index 1).incomingFaulty c k spare out phase
    else
      let s := (ended s).swapDone c k out spare phase n cnt index 2
      let s := if ((s.cv c k).slice out).st = 6 then s.retireSlice c k out else s.withdraw c k out 2
      s.startCycle c k
  | _ => s

/-! ## Count of ADC rotation (R85) -/

/-- Frame lock was lost or regained: armed ADC swaps of the old count are cancelled and the count changes (R85). -/
def State.rotationCount (s : State) (c : Carrier) (gained : Bool) : State :=
  if (s.conv.get c).countLocal = !gained then s
  else
    let s := (List.range 4).foldl (fun s k => s.cancelSwap c k (if gained then 3 else 2)) s
    let s := { s with conv := s.conv.upd c (fun x => { x with countLocal := !gained }) }
    let s := s.logC c 0x4008 (d8 255 ++ d8 (b2n gained))
    (List.range 4).foldl (fun s k => s.startCycle c k) s

/-! ## Boundary work (R84, R95 to R97) -/

/-- What the cases of R84 that hold stop (R84): all cycles near an activation and in sleep, the ADC cycles with no input,
and with rotation disabled the windows that are no emergency's. -/
def State.rotationStops (s : State) (c : Carrier) : State :=
  let r := s.rotationCase c
  let s := if r = 1 ∨ r = 2 then (List.range 8).foldl (fun s k => s.stopConv c k) s else s
  let s := if s.noInput c then (List.range 4).foldl (fun s k => s.stopConv c k) s else s
  if r = 4 then (List.range 8).foldl (fun s k => if (s.cv c k).urgent.isEmpty then s.abandonWindow c k else s) s else s

/-- `RotationState` follows the case of R84; what a case stops ends, leaving sleep makes every slice due, and a converter
that may rotate arms its next window. -/
def State.rotationState (s : State) (c : Carrier) : State :=
  let was := s.u (on c Obj.rotationState)
  let now := s.rotationCase c
  let s := if was = now then s else (s.put (on c Obj.rotationState) 0 now).logC c 0x400D (d8 255 ++ d8 now)
  let s := s.rotationStops c
  let s := if was = 2 ∧ now ≠ 2 then (List.range 8).foldl (fun s k => s.setCv c k (fun v => v.allDue s.clk.sfn)) s else s
  if now = 1 ∨ now = 2 then s
  else (List.range 8).foldl (fun s k => if (s.cv c k).refusedRun then s else s.startCycle c k) s

/-- Clip alarm threshold of a converter, raw binary32 (R95, R97). -/
def State.clipAlarmRaw (s : State) (c : Carrier) (k : Nat) : Nat :=
  s.u (on c (if k < 4 then Obj.adcClipAlarm else Obj.dacClipAlarm))

/-- Runs of SF in which the slices in service broke a limit of R89. -/
def State.slicesJudged (s : State) (c : Carrier) (k : Nat) (l : List SliceIn) : State :=
  let gone := s.noInput c
  s.setCv c k (fun v => { v with slices := v.slices.mapIdx (fun i x =>
    { x with badRun := if (x.st == 0 || x.st == 6) && v.bad k gone l i then x.badRun + 1 else 0 }) })

/-- One converter's clipping, gain loop and slices over the superframe that ended (R89, R95 to R97). The run that arms a
clip alarm again counts superframes below the alarm, one equal to it being neither above nor below. -/
def State.convBoundary (s : State) (c : Carrier) (k : Nat) (x : ConvIn) : State :=
  let clipped := x.clipped k (s.u (on c Obj.dacBackoff))
  let s := s.add64 (on c Obj.clipCount) k clipped
  let s := s.put (on c Obj.clipRatio) k (f32OfRat clipped samplesPerSf : Nat)
  let s := if clipped = 0 then s else s.occurN 0x4081 clipped { carrier := some c }
  let above := ratAbove clipped samplesPerSf (s.clipAlarmRaw c k)
  let below := ratBelow clipped samplesPerSf (s.clipAlarmRaw c k)
  let s := s.setCv c k (fun v =>
    let clear := if below then v.clipClear + 1 else 0
    { v with clipRun := if above then v.clipRun + 1 else 0, clipClear := clear
             clipAlarm := v.clipAlarm && decide (clear < 10) })
  let s := s.slicesJudged c k x.slices
  if k < 4 then
    let g := s.u (on c Obj.adcGain) k
    let target := s.u (on c Obj.adcTargetRms)
    let low := x.rmsBelow 3 && g == 2000
    let g' := if x.rmsBelow target then min 2000 (g + 5) else if x.rmsAbove target then g - 5 else g
    let s := s.put (on c Obj.adcGain) k (g' : Nat)
    let s := s.put (on c Obj.interleaveSpur) k (f32OfRat x.spur 1000 : Nat)
    s.setCv c k (fun v => { v with lossRun := if low then v.lossRun + 1 else 0, loss := v.loss && low })
  else s

/-! ## The commands -/

/-- SLICE_DUE: the temperature or age trigger of an active slice fires, and it becomes due for rotation (R73, R430). -/
def execSliceDue (c : Carrier) (k : Fin 8) (i : Nat) (temp : Int) (s : State) : Host.Outcome State Fault Refusal :=
  let s := s.setCv c k (fun v => { v with temp := temp })
  let x := (s.cv c k).slice i
  .next (if x.st = 0 ∧ s.triggered c temp x then
    (s.setSlice c k i (fun x => { x with due := true, dueSince := if x.due then x.dueSince else s.clk.sfn })).startCycle c k
  else s)

/-- TRIM_RETRY: 100 SF after a refusal the converter asks again (R87). -/
def execTrimRetry (c : Carrier) (k : Fin 8) (s : State) : Host.Outcome State Fault Refusal :=
  .next (if (s.cv c k).refusedRun ∧ (s.cv c k).retryAt ≤ s.clk.sfn then s.startCycle c k else s)

/-- TRIM_FIT_COMPLETE: the fit ends; a good one arms the swap, of a failed or retiring slice before the one that the
window was opened for (R90), a bad one is a failed trim (R75, R88). -/
def execTrimFitComplete (c : Carrier) (k : Fin 8) (fit : TrimFit) (temp : Int) (s : State) :
    Host.Outcome State Fault Refusal :=
  match (s.cv c k).cycle with
  | .trimming spare out _ win em =>
    let bad := if !termsInRange fit.terms then some 0
      else if -48000 < fit.spur then some 1
      else if !fit.converged then some 2
      else none
    .next (match bad with
      | some reason =>
        let s := s.endCycle c k spare
        let s := s.setCv c k (fun v => { v with nextWin := s.clk.sfn + 1 })
        (s.trimFailed c k spare reason).startCycle c k
      | none =>
        let s := s.setSlice c k spare (fun x => { x with st := 3, terms := fit.terms, temp := temp, trimSfn := win })
        let out := (s.cv c k).urgent.head?.getD out
        let phase := (s.cv c k).phaseOf out
        let em := em || !(s.cv c k).urgent.isEmpty
        let r := s.armSwap c k out spare phase
        match r.1 with
        | some _ => (r.2.setCv c k (fun v => { v with cycle := .armed spare out phase win em false, temp := temp })).setHealth c k
        | none => r.2.endCycle c k spare)
  | _ => .next s

/-- HANDOVER_CHECK: the two slices are compared at the end of the handover SF (R78). -/
def execHandoverCheck (c : Carrier) (k : Fin 8) (rms : Nat) (faultIncoming : Bool) (s : State) :
    Host.Outcome State Fault Refusal :=
  .next (s.handoverCheck c k rms faultIncoming)

/-- TRIM_EXPIRED: a trim outlives 64 SF or its temperature moves by more than 0.25 °C, and its swap is cancelled (R80). -/
def execTrimExpired (c : Carrier) (k : Fin 8) (temp : Int) (s : State) : Host.Outcome State Fault Refusal :=
  match (s.cv c k).cycle with
  | .armed spare _ _ win _ false =>
    let late := match s.rotationEntry c k .sliceSwap with
      | some e => decide (win + 64 < e.sfn)
      | none => false
    let hot := decide (25 < (temp - ((s.cv c k).slice spare).temp).natAbs)
    .next (if late then (s.cancelSwap c k 0).startCycle c k
      else if hot then (s.cancelSwap c k 1).startCycle c k
      else s)
  | _ => .next s

/-- SLICE_FAILED: an active slice that broke a limit of R89 in 3 SF in a row is declared failed and relieved by an
emergency swap (R89, R90); cause 0 the statistics of an ADC slice, 1 the driver current of a DAC slice. -/
def execSliceFailed (c : Carrier) (k : Fin 8) (i : Nat) (cause : Fin 2) (s : State) : Host.Outcome State Fault Refusal :=
  let x := (s.cv c k).slice i
  .next (if (x.st = 0 ∨ x.st = 6) ∧ x.failed = false ∧ 3 ≤ x.badRun ∧ (cause.val = 0 ↔ k.val < 4) then
    s.sliceFails c k i cause
  else s)

/-- What a write of `SliceRetire` does to a slice by its state (R93). -/
def State.retireEffect (s : State) (c : Carrier) (v : Nat) : Res × State :=
  let k := bits v 11 8
  let i := bits v 7 0
  let cv := s.cv c k
  let x := cv.slice i
  if x.st = 6 ∨ x.st = 7 then ({}, s)
  else if x.st = 0 ∨ x.st = 4 then
    if (cv.setSlice i (fun y => { y with st := 6 })).usable = 0 then ({ code := 0x0801 }, s)
    else
      let s := s.setSlice c k i (fun x => { x with st := 6 })
      ({}, if x.st = 0 then s.relieve c k i else s)
  else
    let s := match cv.cycle with
      | .trimming spare _ _ _ _ => if spare = i then s.abandonWindow c k else s
      | .armed spare _ _ _ _ _ => if spare = i then s.cancelSwap c k 5 else s
      | _ => s
    ({}, (s.retireSlice c k i).startCycle c k)

/-- What a write of `SliceRestore` does (R94). -/
def State.restoreEffect (s : State) (c : Carrier) (v : Nat) : Res × State :=
  let k := bits v 11 8
  let i := bits v 7 0
  let x := (s.cv c k).slice i
  if x.st = 5 ∨ x.st = 7 then
    let s := s.setSlice c k i (fun x => { x with st := 1, restored := true, failed := false })
    let s := if x.st = 7 then s.recordRetirement else s
    let s := (s.logC c 0x4006 (d8 k ++ d8 i)).setHealth c k
    ({}, s.startCycle c k)
  else ({}, s)

/-- SLICE_RETIRE: a host write retires a slice (R93). -/
def execSliceRetire (w : Requester) (c : Carrier) (v : Nat) (s : State) : Host.Outcome State Fault Refusal :=
  .next (s.hostWrite w 2 (on c Obj.sliceRetire) 0 (.num v) (fun x s => s.retireEffect c x.nat))

/-- SLICE_RESTORE: a host write returns a withdrawn or retired slice to idle spare (R94). -/
def execSliceRestore (w : Requester) (c : Carrier) (v : Nat) (s : State) : Host.Outcome State Fault Refusal :=
  .next (s.hostWrite w 2 (on c Obj.sliceRestore) 0 (.num v) (fun x s => s.restoreEffect c x.nat))

/-- SLICE_OVERDUE: an active slice stays due for 60 s, and again each further 60 s (R87). -/
def execSliceOverdue (c : Carrier) (k : Fin 8) (i : Nat) (s : State) : Host.Outcome State Fault Refusal :=
  let v := s.cv c k
  let x := v.slice i
  .next (if x.st = 0 ∧ x.due ∧ x.dueSince + 600000 ≤ s.clk.sfn ∧ x.overdue + 600000 ≤ s.clk.sfn then
    let s := s.setSlice c k i (fun x => { x with overdue := s.clk.sfn })
    s.logC c 0x400A (d8 k ++ d8 i ++ i16 (moved v.temp x) ++ d32 ((s.clk.sfn - x.trimSfn) / sfPerSecond))
  else s)

/-- A clip alarm of a converter: after 10 SF above the alarm, and again only after 10 SF below it (R95, R97). -/
def State.clipAlarm (s : State) (c : Carrier) (k code : Nat) : State :=
  let v := s.cv c k
  if 10 ≤ v.clipRun ∧ v.clipAlarm = false then
    (s.setCv c k (fun v => { v with clipAlarm := true })).logC c code (d8 k ++ d32 (s.u (on c Obj.clipRatio) k))
  else s

/-- ADC_CLIP_ALARM (R95). -/
def execAdcClipAlarm (c : Carrier) (k : Fin 4) (s : State) : Host.Outcome State Fault Refusal :=
  .next (s.clipAlarm c k 0x400B)

/-- DAC_CLIP_ALARM (R97); the DAC is counted from 0. -/
def execDacClipAlarm (c : Carrier) (k : Fin 4) (s : State) : Host.Outcome State Fault Refusal :=
  .next (s.clipAlarm c (4 + k) 0x400C)

end Sys2Proof.Machine
end

