-- ==== Sys2Proof/Machine/Grid.lean ====
section
/-! DEFINITION. The subcarriers of a carrier (R132 to R137): layout, symbol slots, pilots, loading words; the loading in
force; what the equaliser takes its errors from (R107), and signal-to-noise ratios formed from them (R141). -/

namespace Sys2Proof.Machine

/-! ## Layout (R132, R133) -/

/-- Symbol rate of a carrier in GBd. -/
def State.baud (s : State) (c : Carrier) : Nat := s.u (on c Obj.symbolRate)

/-- N (R132). -/
def State.subN (s : State) (c : Carrier) : Nat := s.u (on c Obj.subcarrierCount)

/-- Spacing of adjacent subcarriers, 1.02 × B / N, as a ratio in MHz; 0.02 is the roll-off (R132). -/
def State.subSpacing (s : State) (c : Carrier) : Nat × Nat := (1020 * s.baud c, s.subN c)

/-- Centre of subcarrier `i` from the carrier centre, as a ratio in MHz (R132). -/
def State.subCentre (s : State) (c : Carrier) (i : Nat) : Int × Nat :=
  ((2 * (i : Int) - (s.subN c - 1)) * (s.subSpacing c).1, 2 * s.subN c)

/-- Symbol slots S of a subcarrier per SF and polarisation (R133). -/
def State.slotsS (s : State) (c : Carrier) : Nat := s.baud c * 100000 / s.subN c

/-- Pilots of a subcarrier per SF (R133). -/
def State.pilotsOf (s : State) (c : Carrier) : Nat := ceilDiv (s.slotsS c) 64

/-- Data symbols D of a subcarrier per SF (R133). -/
def State.dataD (s : State) (c : Carrier) : Nat := 2 * s.slotsS c - s.pilotsOf c

/-- Slot `j` holds a pilot on a polarisation, 0 X, 1 Y; the other polarisation carries data (R133). -/
def isPilot (j pol : Nat) : Bool := j % 64 == 0 && j / 64 % 2 == pol

/-! ## Pilots (R134) -/

/-- Bits of a shift-register sequence `x^n + x^m + 1` from a register of `n` bits: the oldest bit of the register leaves,
and the sum of the bits `n` and `m` places back enters (log entry 78). -/
def prbs (n m : Nat) : Nat → Nat → List Bool
  | 0, _ => []
  | len + 1, r =>
    let out := bit r (n - 1)
    out :: prbs n m len (r * 2 % 2 ^ n + b2n (out != bit r (m - 1)))

/-- Pilot `k` of subcarrier `i` of a frame, as signs of I and Q, true for negative: bits 2k and 2k + 1 of the sequence
x¹⁵ + x¹⁴ + 1 from seed i + 1 (R134). -/
def pilotPoint (i k : Nat) : Bool × Bool :=
  let l := prbs 15 14 (2 * k + 2) (i + 1)
  (nth l (2 * k) false, nth l (2 * k + 1) false)

/-- The point that a pilot slot sends: its complement under a switch mute (R134, R365). -/
def State.pilotSent (s : State) (c : Carrier) (i k : Nat) : Bool × Bool :=
  let p := pilotPoint i k
  if (s.av.mute.get c).isSome then (!p.1, !p.2) else p

/-! ## Loading words (R136, R137) -/

/-- Bits m of a base constellation, by entropy code (R136). -/
def codeBits (code : Nat) : Nat := if code = 0 then 0 else if code = 64 then 2 else if code ≤ 128 then 4 else 6

/-- The loading word of an entropy code (R137). -/
def wordOf (code : Nat) : Nat := codeBits code / 2 * 16384 + code

/-- Entropy code of a loading word. -/
def codeOf (w : Nat) : Nat := w % 256

/-- Objects of a direction's words, rate, plot capacity and generation. -/
def loadObjs : Dir → Nat × Nat × Nat × Nat
  | .rx => (Obj.rxLoadingWord, Obj.rxCodeRate, Obj.rxPlotCapacity, Obj.rxGeneration)
  | .tx => (Obj.txLoadingWord, Obj.txCodeRate, Obj.txPlotCapacity, Obj.txGeneration)

/-- The loading in force on a direction. -/
def State.loading (s : State) (c : Carrier) (d : Dir) : Loading :=
  let (w, r, p, g) := loadObjs d
  { rate := s.u (on c r), gen := s.u (on c g), plots := s.u (on c p), shed := 0, restore := 0, reason := 0, mapGen := 0
    words := (List.range 16).map (fun k => s.u (on c w) k) }

/-- The entropy codes of the N subcarriers of a loading. -/
def State.codesOf (s : State) (c : Carrier) (l : Loading) : List Nat := (l.words.take (s.subN c)).map codeOf

/-- Mean symbol power of a subcarrier's slots over the power of a symbol, as pilots or symbols sent among 2S: data slots
of code 0 are at zero amplitude (R134, R135). -/
def State.subPower (s : State) (c : Carrier) (code : Nat) : Nat :=
  if code = 0 then s.pilotsOf c else 2 * s.slotsS c

/-- Launch power of a loading over that of one with no subcarrier at code 0, by which the transmitter scales its setpoint
(R134). -/
def State.launchShare (s : State) (c : Carrier) (codes : List Nat) : Nat × Nat :=
  (sumNat (codes.map (s.subPower c)), 2 * s.slotsS c * codes.length)

/-! ## What the equaliser learns from (R107, R135) -/

/-- Errors that update the taps of a subcarrier (R107): its pilots, and with a code other than 0 the decisions for the
base constellation and the shaping of that code. -/
inductive ErrorSource where
  | pilots
  | decisions (bits code : Nat)
  deriving DecidableEq, Repr

/-- Error sources of a carrier's subcarriers. The decision rule is that of the loading in force, which a change switches
at the first symbol of the received frame that carries it (R107, R160). -/
def State.errorSources (s : State) (c : Carrier) : List ErrorSource :=
  (s.codesOf c (s.loading c .rx)).map (fun x => if x = 0 then .pilots else .decisions (codeBits x) x)

/-- Symbols that count for a subcarrier's noise (R141): no symbol between a slip and its correction, no erasure, and from
pilots alone where the decisions are not used. -/
def ErrorSource.counts (e : ErrorSource) (l : List ErrIn) : List ErrIn :=
  l.filter (fun x => !x.lost && (x.pilot || decide (e ≠ .pilots)))

/-- `10^n ≤ x^20000` for x = a / b: `n` halves of 0.001 dB do not exceed x. -/
def halfMilliDb (a b : Nat) (n : Int) : Bool :=
  if 0 ≤ n then decide (10 ^ n.toNat * b ≤ a) else decide (b ≤ a * 10 ^ (-n).toNat)

/-- 10 × log₁₀ (a / b) in 0.001 dB, rounded to the nearest unit, from −100 dB to +100 dB. -/
def decibels (a b : Nat) : Int :=
  let a' := a ^ 20000
  let b' := b ^ 20000
  let n := (List.range 19).foldl (fun (n : Int) i =>
    let m := n + 2 ^ (18 - i)
    if halfMilliDb a' b' m then m else n) (-200000)
  (n + 1) / 2

/-- SNR of counted symbols in 0.001 dB, each source weighted by its symbol count (R141): none where no symbol counts. -/
def snrOf (l : List ErrIn) : Option Int :=
  let n := sumNat (l.map (·.symbols))
  if n = 0 then none else some (decibels (n * 1000000) (max 1 (sumNat (l.map (·.power)))))

/-- SNR of each subcarrier (R141). -/
def State.subSnrs (s : State) (c : Carrier) (x : RxIn) : List (Option Int) :=
  (s.errorSources c).mapIdx (fun i e => snrOf (e.counts (nth x.subs i [])))

/-- SNR over all subcarriers (R125). -/
def State.snrAll (s : State) (c : Carrier) (x : RxIn) : Option Int :=
  snrOf ((s.errorSources c).mapIdx (fun i e => e.counts (nth x.subs i []))).flatten

end Sys2Proof.Machine
end

