-- ==== Sys2Proof/Machine/Equaliser.lean ====
section
/-! DEFINITION. Equaliser and carrier recovery (04_equaliser_and_carrier_recovery.md): lock states, cold and warm
acquisition, signal fail and loss of lock, the dispersion record, LO steering, and the commands of that chapter; with
the loss of frame lock (R212), which a loss of lock brings. -/

namespace Sys2Proof.Machine

/-! ## Figures of a symbol rate (R103, R105, R115) -/

/-- L of R103 in ps/nm. -/
def State.cdLimit (s : State) (c : Carrier) : Nat :=
  let b := s.baud c
  min 160000 (60000 * 330 * 330 / (b * b) / 1000 * 1000)

/-- T of R105 in ps/nm. -/
def State.recentreLimit (s : State) (c : Carrier) : Nat :=
  let b := s.baud c
  200 * 330 * 330 / (b * b) / 10 * 10

/-! ## Receiver state -/

/-- One carrier's receiver. -/
def State.rxs (s : State) (c : Carrier) : EqSt := s.eq.get c

/-- One carrier's receiver changed. -/
def State.setRx (s : State) (c : Carrier) (f : EqSt → EqSt) : State := { s with eq := s.eq.upd c f }

/-- `LockState` of a carrier (R113). -/
def State.lock (s : State) (c : Carrier) : Nat := s.u (on c Obj.lockState)

/-- `LockState` set. -/
def State.setLock (s : State) (c : Carrier) (v : Nat) : State := s.put (on c Obj.lockState) 0 v

/-- The validity of the dispersion record changes, and 5007h is logged (R124, R131). -/
def State.setValidity (s : State) (c : Carrier) (v : Nat) : State :=
  if (s.rxs c).validity = v then s
  else (s.setRx c (fun x => { x with validity := v })).logC c 0x5007 (d8 v)

/-! ## The dispersion search (R115) -/

/-- The dispersion search window [a, b] of R115 in ps/nm, from the settings at the start of the acquisition. -/
def State.searchWindow (s : State) (c : Carrier) : Int × Int :=
  let l : Int := s.cdLimit c
  let w := (s.rxs c).window
  (max (-l) w.1, min l w.2)

/-- The coarse step s in ps/nm (R115). -/
def State.coarseStep (s : State) (c : Carrier) : Nat := 1000 * 330 * 330 / (s.baud c * s.baud c) / 10 * 10

/-- Coarse candidates: from a by the step up to the last below b, and b itself (R115). -/
def State.coarseList (s : State) (c : Carrier) : List Int :=
  let (a, b) := s.searchWindow c
  let d := s.coarseStep c
  (List.range (ceilDiv (b - a).toNat d)).map (fun (k : Nat) => a + (d : Int) * k) ++ [b]

/-- Fine candidates around the best coarse one, clipped to the window (R115). -/
def State.fineList (s : State) (c : Carrier) (best : Int) : List Int :=
  let (a, b) := s.searchWindow c
  (List.range 11).map (fun (j : Nat) => max a (min b (best + ((j : Int) - 5) * (s.coarseStep c / 10 : Nat))))

/-- The candidate that did best, the earlier of two that did as well (log entry 82); `d` where there is none. -/
def bestOf (cand : List Int) (merits : List Nat) (d : Int) : Int :=
  ((cand.mapIdx (fun i x => (x, nth merits i 0))).foldl (fun (b : Option (Int × Nat)) x => match b with
    | none => some x
    | some y => if y.2 < x.2 then some x else b) none).elim d (·.1)

/-- The best fine candidate of a search (R115). -/
def State.searchResult (s : State) (c : Carrier) (r : AcqResult) : Int :=
  let coarse := bestOf (s.coarseList c) r.coarse 0
  bestOf (s.fineList c coarse) r.fine coarse

/-! ## Loss of frame lock (R48, R85, R212) -/

/-- Coordinated entries on a received count whose boundary should have come by now are missed while the carrier has no
frame lock (R48, R56). -/
def State.missOverdue (s : State) (c : Carrier) : State :=
  if s.u (on c Obj.frameLock) = 1 then s
  else
    (s.clk.entries.filter (fun e => e.coord && decide (e.count = .rx c) &&
      decide (s.instantOf e.count e.sfn 0 < s.now))).foldl (fun s e =>
        let s := s.missEntry e 0
        if e.st = .agreed then s.setFr c (fun f => { f with missed := f.missed ++ [e] }) else s) s

/-- The far end's frames on a carrier are a standby's idle frames, on the received count (R356, R362). -/
def State.rxStandby (s : State) (c : Carrier) : Bool :=
  (s.av.rx.get c).1 == 2 && (s.av.rx.get c).2 == c.other.inst

/-- The other avenue delivers a client's frame (R248): locked, not a standby's, the client carried there and its block not
of maintenance. -/
def State.otherDelivers (s : State) (c : Carrier) (x : Nat) : Bool :=
  let o := c.other
  let f := s.fr o
  s.u (on o Obj.frameLock) == 1 && !s.rxStandby o && bit f.rxMap.carried x &&
    (match assocGet f.blockIn x with
     | some h => h.typ != 1
     | none => true)

/-- A client's egress lanes take Local Fault where no avenue delivers its frame (R248). -/
def State.egressFault (s : State) (c : Carrier) (x : Nat) : State :=
  if s.otherDelivers c x then s else s.emit (.egress x .localFault)

/-- Frame lock is lost (R212): cause 0 invalid cores, 1 loss of lock. RemoteDefect follows from `FrameLock` in the
frames this engine sends. -/
def State.loseFrameLock (s : State) (c : Carrier) (cause : Nat) : State :=
  if s.u (on c Obj.frameLock) = 0 then s
  else
    let s := (s.put (on c Obj.frameLock) 0 0).bump (on c Obj.lofCount)
    let s := s.setFr c (fun f => { f with validRun := 0, invalidRun := 0, jumpRun := 0, unlockedAt := s.clk.sfn })
    let s := (s.logC c 0x7002 (d8 cause)).setFr c (fun f => { f with head := [], blockIn := [], rxPtp := [] })
    let s := ((List.range 64).filter (fun x => bit (s.fr c).rxMap.carried x)).foldl (fun s x => s.egressFault c x) s
    (s.rotationCount c false).missOverdue c

/-! ## Acquisition (R114 to R121, R129) -/

/-- Ledger cost of acquisition in microwatts (R129). -/
abbrev acqCost : Nat := 2400000

/-- An acquisition takes its first state (R114, R120): state 3 cold, state 6 for the pilot search of a warm one. A cold
one takes the search settings as they stand (R130) and forgets the dispersion estimates (R124). -/
def State.enterAcq (s : State) (c : Carrier) (k : AcqKind) : State :=
  let s := match k with
    | .cold =>
      let f := s.u (on c Obj.loFrequency)
      (s.setRx c (fun x => { x with lo := f, loBase := f, offRun := 0, steering := false, steerLogged := false })).put
        (on c Obj.loSteerTotal) 0 0
    | _ => s
  let s := s.setRx c (fun x =>
    { x with kind := k, acqStart := s.clk.sfn, stepStart := s.clk.sfn, waitUntil := none, bad := 0, good := 0
             pilots := 0, sfRaised := false
             window := if k = .cold then (s.i (on c Obj.cdSearchMin), s.i (on c Obj.cdSearchMax)) else x.window
             cds := if k = .cold then [] else x.cds })
  let s := s.setLock c (if k = .cold then 3 else 6)
  if k = .cold then s.setValidity c 0 else s

/-- The Allotment refuses an acquisition (R129): state 2, asked again every 100 SF, logged once per run of refusals. -/
def State.acqRefused (s : State) (c : Carrier) (k : AcqKind) (reason : Nat) : State :=
  let first := !(s.rxs c).refusedRun
  let s := s.setRx c (fun x => { x with kind := k, refusedRun := true, retryAt := s.clk.sfn + 100 })
  let s := s.setLock c 2
  if first then s.logC c 0x5006 (d8 reason) else s

/-- The input has been gone for more than 1,000 SF (R120). -/
def State.goneLong (s : State) (c : Carrier) : Bool :=
  match (s.rxs c).goneSince with
  | some t => decide (t + 1000 < s.clk.sfn)
  | none => false

/-- An acquisition is asked for (R129): the cost, then its first state; a cold one where the input has been gone for
long (R120). Without input it waits in state 1 (R113). -/
def State.startAcq (s : State) (c : Carrier) (k : AcqKind) : State :=
  let k := if s.goneLong c then .cold else k
  if s.noInput c then (s.setRx c (fun x => { x with kind := k })).setLock c 1
  else if s.holds Act.acq c.toNat ≠ 0 then s.enterAcq c k
  else
    let r := s.ask Act.acq c.toNat acqCost
    if r.1 = 0 then (r.2.setRx c (fun x => { x with refusedRun := false })).enterAcq c k
    else r.2.acqRefused c k r.1

/-- With input present again, a carrier in state 1 goes on: with the 1 s wait of R116 where it still runs, else with the
acquisition it waits for (R113, R116, R120). -/
def State.inputBack (s : State) (c : Carrier) : State :=
  if s.noInput c ∨ !s.awake (Dn.rx c) then s
  else
    let s := if s.lock c ≠ 1 then s
      else match (s.rxs c).waitUntil with
        | some _ => s.setLock c 3
        | none => s.startAcq c (s.rxs c).kind
    s.setRx c (fun x => { x with goneSince := none })

/-- Tracking is reached (R114 step 5): the cost is released, the offset removed is shown (R125), 5001h logged, and frame
search begins (R212). -/
def State.reachTracking (s : State) (c : Carrier) : State :=
  let x := s.rxs c
  let cold := decide (x.kind = .cold)
  let s := s.put (on c Obj.acqTimeLast) 0 ((s.clk.sfn - x.acqStart : Nat) : Int)
  let s := (s.release Act.acq c.toNat).setLock c 7
  let s := s.put (on c Obj.freqOffset) 0 x.offset
  let s := s.setRx c (fun x =>
    { x with fails := 0, waitUntil := none, trackedFrom := s.clk.sfn, needed := if cold then 10000 else 1000
             bad := 0, good := 0, pilots := 0, iqLogged := [], goneSince := none })
  let s := s.setFr c (fun f => { f with validRun := 0, invalidRun := 0, unlockedAt := s.clk.sfn })
  s.logC c 0x5001 (d8 (b2n (!cold)) ++ d32 (s.u (on c Obj.acqTimeLast)) ++ i32 (s.i (on c Obj.cdStatic)) ++
    i32 (s.i (on c Obj.freqOffset)))

/-- An attempt has failed (R116): reason 0 frequency out of range, 1 dispersion at window edge, 2 empty search window,
3 no convergence, 4 no pilots. After 4 failures in a row a 1 s wait comes before each further attempt. -/
def State.attemptFailed (s : State) (c : Carrier) (reason : Nat) : State :=
  let x := s.rxs c
  let state := s.lock c
  let logNow := x.fails == 0 || decide (x.failLog + 600000 ≤ s.clk.sfn)
  let s := s.setRx c (fun x => { x with fails := x.fails + 1, failLog := if logNow then s.clk.sfn else x.failLog })
  let s := if logNow then s.logC c 0x5005 (d8 state ++ d8 reason) else s
  if 4 ≤ x.fails + 1 then
    let s := (s.release Act.acq c.toNat).setLock c 3
    s.setRx c (fun x => { x with waitUntil := some (s.clk.sfn + sfPerSecond), kind := .cold })
  else s.startAcq c .cold

/-- A step reaches its bound or fails (R114, R116, R120). The 20 SF pilot search of a warm acquisition goes on to
states 5 and 6. -/
def State.stepFailed (s : State) (c : Carrier) (reason : Nat) : State :=
  match (s.rxs c).kind, s.lock c with
  | .warmPilots, 6 =>
    (s.setRx c (fun x => { x with kind := .warmFull, stepStart := s.clk.sfn, pilots := 0 })).setLock c 5
  | _, _ => s.attemptFailed c reason

/-- Loss of lock (R119, R120): frame lock is lost and a warm acquisition starts, a cold one when the input has been
gone for more than 1,000 SF. -/
def State.lossOfLock (s : State) (c : Carrier) : State :=
  let x := s.rxs c
  let s := (s.bump (on c Obj.lockLossCount)).logC c 0x5004 (be 4 (f32OfRat x.pilotSnr 1000))
  let s := s.setRx c (fun x => { x with sfRaised := false, bad := 0, good := 0 })
  (s.loseFrameLock c 1).startAcq c .warmPilots

/-- The bound of the step under way, in SF (R114, R120). -/
def State.stepBound (s : State) (c : Carrier) : Nat :=
  match s.lock c, (s.rxs c).kind with
  | 3, _ => 10
  | 4, _ => 140
  | 5, _ => 200
  | _, .warmPilots => 20
  | _, _ => 50

/-- The step under way has gone past its bound (R114). -/
def State.stepLate (s : State) (c : Carrier) : Bool := decide ((s.rxs c).stepStart + s.stepBound c < s.clk.sfn)

/-- The reason of R116 for a step that reaches its bound; state 4 has no reason of its own there (log entry 82). -/
def State.lateReason (s : State) (c : Carrier) : Nat :=
  match s.lock c with
  | 3 => 0
  | 6 => 4
  | _ => 3

/-- A change of symbol rate, subcarrier count or LO frequency restarts acquisition (R121, R583): 500Ch names the
setting, 0 symbol rate, 1 subcarrier count, 2 LO frequency. The static filter is clipped to the new L. -/
def State.restartAcq (s : State) (c : Carrier) (setting old new : Nat) (k : AcqKind) : State :=
  let l : Int := (s.cdLimit c : Int) * 10
  let cd := s.i (on c Obj.cdStatic)
  let s := s.put (on c Obj.cdStatic) 0 (max (-l) (min l cd))
  let s := s.logC c 0x500C (d8 setting ++ d32 old ++ d32 new)
  if s.lock c = 0 then s
  else (s.loseFrameLock c 1).startAcq c k

/-! ## Signal fail (R117, R118) -/

/-- Signal fail is raised (R117): state 8, and a valid record freezes (R124). Cause 0 SNR, 1 mute, 2 loss of input. -/
def State.raiseSignalFail (s : State) (c : Carrier) (cause : Nat) : State :=
  if s.lock c = 7 then
    let s := s.setRx c (fun x => { x with sfRaised := true, sfSeen := true, sfSince := s.now, sfCause := cause, bad := 0, good := 0 })
    let s := (s.setLock c 8).logC c 0x5002 (be 4 (f32OfRat (s.rxs c).pilotSnr 1000) ++ d8 cause)
    if (s.rxs c).validity = 1 then s.setValidity c 2 else s
  else s

/-- Signal fail clears within 10 SF (R118): tracking again with the held taps. -/
def State.clearSignalFail (s : State) (c : Carrier) : State :=
  let us := (s.now - (s.rxs c).sfSince) / 100000000
  let s := s.setRx c (fun x => { x with sfRaised := false, bad := 0, good := 0, trackedFrom := s.clk.sfn, needed := 1000 })
  ((s.setLock c 7).logC c 0x5003 (d32 us)).bump (on c Obj.signalFailCount)

/-- Signal fail has lasted 10 SF (R119). -/
def State.signalFailLong (s : State) (c : Carrier) : Bool :=
  (s.rxs c).sfRaised && decide ((s.rxs c).sfSince + 10 * 10000000000 ≤ s.now)

/-- A window shows a mute (R117): some subcarrier is loaded, and the data slots of those carry less than 1/16 of the mean
pilot power. -/
def State.muteSeen (s : State) (c : Carrier) (w : PilotWin) : Bool :=
  (s.codesOf c (s.loading c .rx)).any (· != 0) && decide (16 * w.data < w.pilots)

/-- One 1 µs window (R117, R584). -/
def State.pilotWindow (s : State) (c : Carrier) (w : PilotWin) : State :=
  let thr : Int := (s.u (on c Obj.sfThreshold) : Int) * 100
  let mute := s.muteSeen c w
  let s := s.setRx c (fun x => { x with pilotSnr := w.snr })
  let x := s.rxs c
  if s.lock c = 6 then
    if s.stepLate c then s.stepFailed c 4
    else
      let ok := w.pattern && decide (thr + 1000 ≤ w.snr) && !mute
      let s := s.setRx c (fun x => { x with pilots := if ok then x.pilots + 1 else 0 })
      if ok && decide (1 ≤ x.pilots) then s.reachTracking c else s
  else if s.lock c = 7 then
    let bad := decide (w.snr < thr) || mute
    let s := s.setRx c (fun x => { x with bad := if bad then x.bad + 1 else 0 })
    if bad && decide (1 ≤ x.bad) then s.raiseSignalFail c (if w.snr < thr then 0 else 1) else s
  else if s.lock c = 8 then
    let ok := decide (thr + 1000 ≤ w.snr) && !mute && !s.noInput c
    let s := s.setRx c (fun x => { x with good := if ok then x.good + 1 else 0 })
    if ok && decide (1 ≤ x.good) && !s.signalFailLong c then s.clearSignalFail c else s
  else s

/-! ## Per received superframe (R102, R105, R110, R122 to R126) -/

/-- Range of each I/Q term (R102): skew 10 fs, gain 0.01 dB, phase 0.01°. -/
def iqRange (i : Nat) : Int := if i < 2 then 400 else if i < 4 then 150 else 500

/-- Object and member of an I/Q term. -/
def iqObj (i : Nat) : Nat × Nat :=
  (if i < 2 then Obj.iqSkew else if i < 4 then Obj.iqGain else Obj.iqPhase, i % 2)

/-- One I/Q term moves by at most one step towards the value wanted; one that would need more than its range is held
and logged once per lock (R102). -/
def State.iqStep (s : State) (c : Carrier) (i : Nat) (want : Int) : State :=
  let (o, m) := iqObj i
  let v := s.i (on c o) m
  let r := iqRange i
  let goal := max (-r) (min r want)
  let v' := if v < goal then v + 1 else if goal < v then v - 1 else v
  let s := s.put (on c o) m v'
  if r < want.natAbs ∧ !(s.rxs c).iqLogged.contains i then
    (s.setRx c (fun x => { x with iqLogged := i :: x.iqLogged })).logC c 0x500D (d8 (i / 2) ++ d8 (i % 2))
  else s

/-- Re-centring (R105): beyond T the static filter takes the residual, at a received boundary that no entry of the
carrier's received count shares. -/
def State.recentre (s : State) (c : Carrier) (residual : Int) (shared : Bool) : State :=
  if (s.recentreLimit c : Int) * 10 < residual.natAbs ∧ !shared then
    s.put (on c Obj.cdStatic) 0 (s.i (on c Obj.cdStatic) + roundHalf residual 100 * 100)
  else s

/-- LO steering (R110): after 100 SF beyond 1,000 MHz the LO moves by at most 50 MHz per SF until the offset lies
within 50 MHz, and no further than 5,000 MHz in all, with an equal and opposite step of the offset that V4 removes. At
the limit it stops, and 500Bh is logged once per cold acquisition. -/
def State.loStep (s : State) (c : Carrier) : State :=
  if s.u (on c Obj.loSteerEnable) = 0 then s.setRx c (fun x => { x with steering := false, offRun := 0 })
  else
    let x := s.rxs c
    let run := if 1000000 < x.offset.natAbs then x.offRun + 1 else 0
    let steer := (x.steering || decide (100 ≤ x.offRun)) && decide (50000 < x.offset.natAbs)
    let s := s.setRx c (fun x => { x with offRun := run, steering := steer })
    if !steer then s
    else
      let want := max (-50) (min 50 (roundHalf x.offset 1000))
      let total := s.i (on c Obj.loSteerTotal)
      let next := max (-5000) (min 5000 (total + want))
      let s := (s.put (on c Obj.loSteerTotal) 0 next).setRx c (fun x => { x with
        lo := ((x.lo : Int) + (next - total)).toNat, offset := x.offset - 1000 * (next - total) })
      if next.natAbs < 5000 then s
      else
        let s := s.setRx c (fun x => { x with steering := false, steerLogged := true })
        if x.steerLogged then s else s.logC c 0x500B (i32 next)

/-- U = ⌈20 + 3σ⌉ in 0.1 ps/nm (R124), σ² = spread of the estimates over n (n − 1) (log entry 82); 1,000 and above show
as 1,000, and fewer than two estimates have no standard error. -/
def cdUncertainty (l : List Int) : Nat :=
  let n := l.length
  let sum : Int := l.foldl (· + ·) 0
  let squares : Int := (l.map (fun x => x * x)).foldl (· + ·) 0
  let spread := ((n : Int) * squares - sum * sum).toNat
  if n < 2 then 1000
  else 20 + (firstFrom 0 980 (fun u => decide (9 * spread ≤ u * u * (n * n * (n - 1))))).getD 980

/-- U of a carrier (R124). -/
def State.cdBound (s : State) (c : Carrier) : Nat := cdUncertainty ((s.rxs c).cds.map (·.2))

/-- The dispersion estimate in 0.1 ps/nm (R122). -/
def State.cdNow (s : State) (c : Carrier) : Int := roundHalf (s.rxs c).cdSum 100000000

/-- The per-SF estimate, static setting plus residual, enters the filter of 1 s and the spread (R122, R124). -/
def State.cdMeasured (s : State) (c : Carrier) (residual : Int) : State :=
  let x := s.i (on c Obj.cdStatic) + residual
  s.setRx c (fun y => { y with
    cdSum := if y.cds.isEmpty then x * 100000000 else y.cdSum + roundHalf (x * 100000000 - y.cdSum) 10000
    cds := (s.clk.sfn, x) :: y.cds.filter (fun p => decide (s.clk.sfn < p.1 + 10000)) })

/-- The dispersion record of the SF (R123 to R125): the estimate is shown; the record holds it while valid, and freezes
when U passes 200. -/
def State.dispersionRecord (s : State) (c : Carrier) (residual : Int) : State :=
  let s := s.cdMeasured c residual
  let u := s.cdBound c
  let cd := s.cdNow c
  let s := s.put (on c Obj.cdEstimate) 0 cd
  let s := if (s.rxs c).validity = 1 ∧ 200 < u then s.setValidity c 2 else s
  if (s.rxs c).validity = 1 then
    (s.setRx c (fun y => { y with cdHeld := cd, uHeld := u })).put (on c Obj.cdUncertainty) 0 u
  else s

/-- Octets of `CdRecord`'s row (R123). -/
def State.cdRecordRow (s : State) (c : Carrier) : List Byte :=
  let x := s.rxs c
  let sfn := if s.u (on c Obj.frameLock) = 1 then s.u (on c Obj.rxSfn) else s.clk.sfn
  let freq := ((x.lo : Int) + roundHalf (s.i (on c Obj.freqOffset)) 1000).toNat
  be 8 sfn ++ i32 (if x.validity = 0 then 0 else x.cdHeld) ++
    be 4 (if x.validity = 0 then 0xFFFFFFFF else x.uHeld) ++ be 4 freq ++ be 2 (s.u (on c Obj.dgdEstimate)) ++
    be 1 x.validity

/-- The measurements of a received SF, in tracking (R102, R105, R110, R111, R122 to R126); `shared` says that an entry
of the carrier's received count runs at this boundary. -/
def State.eqReceived (s : State) (c : Carrier) (x : RxIn) (shared : Bool) : State :=
  if s.lock c = 8 then s.occur 0x5080 { carrier := some c }
  else if s.lock c ≠ 7 then s
  else
    let s := (List.range 6).foldl (fun s i => s.iqStep c i (nth x.iq i 0)) s
    let s := (s.dispersionRecord c x.residual).recentre c x.residual shared
    let s := (s.setRx c (fun y => { y with offset := x.offset })).loStep c
    let s := s.put (on c Obj.dgdEstimate) 0 x.dgd
    let s := s.put (on c Obj.pdlEstimate) 0 x.pdl
    let s := s.put (on c Obj.sopRate) 0 x.sop
    let s := s.put (on c Obj.sopRateMax) 0 (max (s.u (on c Obj.sopRateMax)) x.sop : Nat)
    let s := s.put (on c Obj.freqOffset) 0 (s.rxs c).offset
    let s := s.put (on c Obj.rxCarrierFreq) 0 ((s.rxs c).lo + roundHalf (s.rxs c).offset 1000)
    let s := s.put (on c Obj.linewidth) 0 x.linewidth
    let s := match s.snrAll c x with
      | some snr => s.put (on c Obj.carrierSnr) 0 (f32OfRat (roundHalf snr 10) 100 : Nat)
      | none => s
    let s := s.put (on c Obj.lineClockOffset) 0 x.clock
    let s := x.slips.foldl (fun s p =>
      ((s.bump (on c Obj.cycleSlipCount)).occur 0x5081 { carrier := some c }).logC c 0x5009 (d8 p.1 ++ d16 p.2)) s
    if 20000 < x.sop then
      (s.bump (on c Obj.sopTransientCount)).logLimited (0x5008 * 65536 + c.toNat) 100 0x5008 c.inst (d32 x.sop)
    else s

/-- Object that shows an I/Q term, back at its default. -/
def State.iqReset (s : State) (c : Carrier) (i : Nat) : State := s.put (on c (iqObj i).1) (iqObj i).2 0

/-- A poisoned word of equaliser state is re-acquired in part (R127): 0 taps, 1 static filter, 2 loop state, treated as
signal fail with cause SNR (log entry 82), 3 an I/Q term, estimated again from its default (log entry 82). -/
def State.eqPoison (s : State) (c : Carrier) (part addr n : Nat) : State :=
  if part = 0 then (s.bump (on c Obj.eqPartialCount)).logC c 0x500A (d32 addr ++ d16 n)
  else if part = 1 then s
  else if part = 2 then s.raiseSignalFail c 0
  else s.iqReset c n

/-! ## The commands -/

/-- LOSS_OF_INPUT: the RMS of an ADC stayed below 3 codes at full gain for 10 SF (R96): 400Eh, case 5 of R84, and signal
fail unless it is raised already (R117). -/
def execLossOfInput (c : Carrier) (k : Fin 4) (rms : Nat) (s : State) : Host.Outcome State Fault Refusal :=
  let v := s.cv c k
  .next (if 10 ≤ v.lossRun ∧ v.loss = false then
    let s := s.setCv c k (fun v => { v with loss := true })
    let s := s.logC c 0x400E (d8 k ++ d8 (rms / 1000))
    let s := s.setRx c (fun x => { x with goneSince := some (x.goneSince.getD (s.clk.sfn - v.lossRun)) })
    let s := s.rotationState c
    let s := s.raiseSignalFail c 2
    if 2 ≤ s.lock c ∧ s.lock c ≤ 6 then (s.release Act.acq c.toNat).setLock c 1 else s
  else s)

/-- LO_FREQUENCY_WRITE: `LoFrequency` retunes the LO and starts a cold acquisition (R583). -/
def State.loFrequencyEffect (s : State) (c : Carrier) (f : Nat) : Res × State :=
  let old := s.u (on c Obj.loFrequency)
  let s := (s.put (on c Obj.loFrequency) 0 f).setRx c (fun x => { x with lo := f, loBase := f })
  ({}, s.restartAcq c 2 old f .cold)

/-- LO_FREQUENCY_WRITE. -/
def execLoFrequencyWrite (w : Requester) (c : Carrier) (f : Nat) (s : State) : Host.Outcome State Fault Refusal :=
  .next (s.hostWrite w 2 (on c Obj.loFrequency) 0 (.num f) (fun v s => s.loFrequencyEffect c v.nat))

/-- ACQUISITION_STEP_COMPLETE: a step of an acquisition completes within its bound and the next begins, or tracking is
reached; the pilot search ends by its windows (R114, R115, R584). -/
def execAcquisitionStepComplete (c : Carrier) (r : AcqResult) (s : State) : Host.Outcome State Fault Refusal :=
  let go := fun (s : State) (n : Nat) => (s.setRx c (fun x => { x with stepStart := s.clk.sfn, pilots := 0 })).setLock c n
  let st := s.lock c
  let (a, b) := s.searchWindow c
  .next (if st < 3 ∨ 6 < st ∨ (s.rxs c).waitUntil.isSome then s
  else if s.stepLate c then s.stepFailed c (s.lateReason c)
  else if st = 3 then
    if 3600000 < r.offset.natAbs then s.attemptFailed c 0
    else
      let s := s.setRx c (fun x => { x with offset := r.offset })
      if b < a then (s.setLock c 4).attemptFailed c 2 else go s 4
  else if st = 4 then
    let cd := s.searchResult c r
    if b < a then s.attemptFailed c 2
    else if cd ≤ a ∨ b ≤ cd then s.attemptFailed c 1
    else go (s.put (on c Obj.cdStatic) 0 (cd * 10)) 5
  else if st = 5 then go s 6
  else r.windows.foldl (fun s w => if s.lock c = 6 then s.pilotWindow c w else s) s)

/-- ACQUISITION_STEP_FAILED: a step reaches its bound or fails, and acquisition restarts (R116, R120). -/
def execAcquisitionStepFailed (c : Carrier) (reason : Fin 5) (s : State) : Host.Outcome State Fault Refusal :=
  .next (if 3 ≤ s.lock c ∧ s.lock c ≤ 6 ∧ (s.rxs c).waitUntil = none then s.stepFailed c reason else s)

/-- ACQUISITION_WAIT_END: the 1 s wait ends and a new attempt asks for its cost (R116). -/
def execAcquisitionWaitEnd (c : Carrier) (s : State) : Host.Outcome State Fault Refusal :=
  .next (match (s.rxs c).waitUntil with
    | some t => if s.lock c = 3 ∧ t ≤ s.clk.sfn then (s.setRx c (fun x => { x with waitUntil := none })).startAcq c .cold
      else s
    | none => s)

/-- ACQUISITION_LEDGER_RETRY: 100 SF after a refusal the cost is asked for again (R129). -/
def execAcquisitionLedgerRetry (c : Carrier) (s : State) : Host.Outcome State Fault Refusal :=
  .next (if s.lock c = 2 ∧ (s.rxs c).retryAt ≤ s.clk.sfn then s.startAcq c (s.rxs c).kind else s)

/-- PILOT_SNR_WINDOW: one 1 µs window of pilot SNR and mute (R117, R118, R584). -/
def execPilotWindowEnd (c : Carrier) (x : PilotWin) (s : State) : Host.Outcome State Fault Refusal :=
  .next (s.pilotWindow c x)

/-- LOSS_OF_LOCK: signal fail has lasted 10 SF (R119). -/
def execLossOfLock (c : Carrier) (s : State) : Host.Outcome State Fault Refusal :=
  .next (if s.lock c = 8 ∧ s.signalFailLong c then s.lossOfLock c else s)

/-- DISPERSION_RECORD_VALID: after the unbroken tracking it needs, the record becomes valid, if its U is at most 200
(R124). -/
def execRecordValid (c : Carrier) (s : State) : Host.Outcome State Fault Refusal :=
  let x := s.rxs c
  let u := s.cdBound c
  .next (if s.lock c = 7 ∧ x.validity ≠ 1 ∧ x.trackedFrom + x.needed ≤ s.clk.sfn ∧ u ≤ 200 then
    let s := (s.setValidity c 1).setRx c (fun y => { y with cdHeld := s.cdNow c, uHeld := u })
    (s.put (on c Obj.cdEstimate) 0 (s.cdNow c)).put (on c Obj.cdUncertainty) 0 u
  else s)

end Sys2Proof.Machine
end

