-- ==== Sys2Proof/Machine/SnrTable.lean ====
section
/-! DEFINITION. `10 × log₁₀(2^η − 1)` of R143 in 0.001 dB, rounded to the nearest unit (R581), for every entropy code of
R136 at each rate code. The implementation gap G is apart. -/

namespace Sys2Proof.Machine

/-- Rate code 0, entropy codes from 64 on in the order of R136. -/
def shannon0a : List Int := [
  3078, 2386, 2533, 2679, 2823, 2965, 3106, 3245, 3383, 3520, 3655, 3789, 3922, 4054, 4184, 4314, 4442, 4569, 4696,
  4821, 4946, 5070, 5193, 5315, 5436, 5557, 5677, 5796, 5914, 6032, 6149]

/-- Rate code 0, entropy codes from 102 on in the order of R136. -/
def shannon0b : List Int := [
  6266, 6382, 6497, 6612, 6727, 6840, 6954, 7066, 7179, 7291, 7402, 7513, 7624, 7734, 7843, 7953, 8062, 8170, 8279,
  8386, 8494, 8601, 8708, 8815, 8921, 9027, 9133, 7865, 7975, 8083, 8192]

/-- Rate code 0, entropy codes from 133 on in the order of R136. -/
def shannon0c : List Int := [
  8300, 8408, 8515, 8623, 8729, 8836, 8942, 9048, 9154, 9259, 9364, 9469, 9574, 9678, 9782, 9886, 9989, 10093,
  10196, 10299, 10402, 10504, 10607, 10709, 10811, 10913, 11014, 11116, 11217, 11318, 11419]

/-- Rate code 0, entropy codes from 164 on in the order of R136. -/
def shannon0d : List Int := [
  11520, 11620, 11721, 11821, 11921, 12021, 12121, 12221, 12321, 12420, 12520, 12619, 12718, 12817, 12916, 13015,
  13114, 13212, 13311, 13409, 13507, 13606, 13704, 13802, 13900, 13998, 14095, 14193, 14291]

/-- Rate code 0: code 64, then codes 72 to 192. -/
def shannon0 : List Int := shannon0a ++ shannon0b ++ shannon0c ++ shannon0d

/-- Rate code 1, entropy codes from 64 on in the order of R136. -/
def shannon1a : List Int := [
  3520, 3301, 3438, 3574, 3709, 3842, 3975, 4106, 4236, 4365, 4493, 4620, 4746, 4871, 4996, 5119, 5242, 5363, 5484,
  5605, 5724, 5843, 5962, 6079, 6196, 6312, 6428, 6543, 6658, 6772, 6886]

/-- Rate code 1, entropy codes from 102 on in the order of R136. -/
def shannon1b : List Int := [
  6999, 7111, 7224, 7335, 7447, 7557, 7668, 7778, 7887, 7996, 8105, 8214, 8322, 8429, 8537, 8644, 8751, 8857, 8963,
  9069, 9175, 9280, 9385, 9490, 9594, 9699, 9803, 8900, 9006, 9112, 9217]

/-- Rate code 1, entropy codes from 133 on in the order of R136. -/
def shannon1c : List Int := [
  9322, 9427, 9532, 9636, 9740, 9844, 9948, 10052, 10155, 10258, 10361, 10463, 10566, 10668, 10770, 10872, 10974,
  11075, 11176, 11278, 11379, 11479, 11580, 11681, 11781, 11881, 11981, 12081, 12181, 12281, 12380]

/-- Rate code 1, entropy codes from 164 on in the order of R136. -/
def shannon1d : List Int := [
  12480, 12579, 12678, 12777, 12876, 12975, 13074, 13173, 13271, 13370, 13468, 13566, 13665, 13763, 13861, 13958,
  14056, 14154, 14252, 14349, 14447, 14544, 14641, 14739, 14836, 14933, 15030, 15127, 15224]

/-- Rate code 1: code 64, then codes 72 to 192. -/
def shannon1 : List Int := shannon1a ++ shannon1b ++ shannon1c ++ shannon1d

/-- Rate code 2, entropy codes from 64 on in the order of R136. -/
def shannon2a : List Int := [
  3948, 4158, 4288, 4416, 4544, 4671, 4796, 4921, 5045, 5168, 5290, 5412, 5533, 5653, 5772, 5891, 6009, 6126, 6243,
  6359, 6474, 6589, 6704, 6818, 6931, 7044, 7156, 7268, 7380, 7491, 7601]

/-- Rate code 2, entropy codes from 102 on in the order of R136. -/
def shannon2b : List Int := [
  7712, 7822, 7931, 8040, 8149, 8257, 8365, 8472, 8580, 8687, 8793, 8900, 9006, 9112, 9217, 9322, 9427, 9532, 9636,
  9740, 9844, 9948, 10052, 10155, 10258, 10361, 10463, 9907, 10010, 10114, 10217]

/-- Rate code 2, entropy codes from 133 on in the order of R136. -/
def shannon2c : List Int := [
  10320, 10422, 10525, 10627, 10729, 10831, 10933, 11034, 11136, 11237, 11338, 11439, 11540, 11640, 11741, 11841,
  11941, 12041, 12141, 12241, 12341, 12440, 12539, 12639, 12738, 12837, 12936, 13035, 13133, 13232, 13330]

/-- Rate code 2, entropy codes from 164 on in the order of R136. -/
def shannon2d : List Int := [
  13429, 13527, 13625, 13723, 13821, 13919, 14017, 14115, 14213, 14310, 14408, 14505, 14603, 14700, 14797, 14894,
  14991, 15088, 15185, 15282, 15379, 15476, 15572, 15669, 15766, 15862, 15959, 16055, 16152]

/-- Rate code 2: code 64, then codes 72 to 192. -/
def shannon2 : List Int := shannon2a ++ shannon2b ++ shannon2c ++ shannon2d

/-- The table of a rate code. -/
def shannonTable : Nat → List Int
  | 0 => shannon0
  | 1 => shannon1
  | _ => shannon2

/-- `10 × log₁₀(2^η − 1)` of a code other than 0 at a rate code, in 0.001 dB. -/
def shannon (rate code : Nat) : Int := nth (shannonTable rate) (if code = 64 then 0 else code - 71) 0

end Sys2Proof.Machine
end

