-- ==== Sys2Proof/Machine/Loading.lean ====
section
/-! DEFINITION. Subcarriers and adaptive loading (05_subcarrier_loading.md): capacity (R133, R139, R140), margins
(R143, R581), the loading policy (R144 to R149), shedding (R150 to R152), proposals and their check (R154 to R157),
and a change at its SFN (R160). -/

namespace Sys2Proof.Machine

/-! ## Layout and capacity -/

/-- `(1 − ρ) × 100` of a rate code (R139). -/
def rateLoss (rate : Nat) : Nat := nth [20, 15, 10] rate 20

/-- η × 3200 (R139). -/
def eta (rate code : Nat) : Nat := code * 100 - 32 * rateLoss rate * codeBits code

/-- Net bits C per SF of a loading (R139). -/
def State.netBits (s : State) (c : Carrier) (rate : Nat) (codes : List Nat) : Nat :=
  sumNat (codes.map (fun x => s.dataD c * eta rate x)) / 3200

/-- Plot capacity of C net bits (R139). -/
def plotsOf (net : Nat) : Nat := if net < 262144 then 0 else min 130 ((net - 262144) / 2512500)

/-- P of a loading. -/
def State.plotsFor (s : State) (c : Carrier) (rate : Nat) (codes : List Nat) : Nat := plotsOf (s.netBits c rate codes)

/-- Coded bits per SF (R140). -/
def State.codedBits (s : State) (c : Carrier) (codes : List Nat) : Nat :=
  sumNat (codes.map (fun x => s.dataD c * codeBits x))

/-- Codewords W per SF (R172). -/
def State.codewords (s : State) (c : Carrier) (codes : List Nat) : Nat := s.codedBits c codes / 20480

/-- Plots open to clients (R139). -/
def clientPlots (p : Nat) : Nat := 4 * (p / 4)

/-! ## The loading in force -/

/-- The loading policy of one carrier. -/
def State.ld (s : State) (c : Carrier) : LoadSt := s.load.get c

/-- The loading policy of one carrier changed. -/
def State.setLd (s : State) (c : Carrier) (f : LoadSt → LoadSt) : State := { s with load := s.load.upd c f }

/-- Sixteen words of N entropy codes; words beyond N are 0 (R154). -/
def wordsOf (codes : List Nat) : List Nat := (codes.map wordOf ++ List.replicate 16 0).take 16

/-- The base loading (R138). -/
def State.baseLoading (s : State) (c : Carrier) : Loading :=
  let codes := List.replicate (s.subN c) 64
  { rate := 0, gen := 0, plots := s.plotsFor c 0 codes, shed := 0, restore := 0, reason := 0, mapGen := 0
    words := wordsOf codes }

/-- A loading put in force on a direction: words, entropy codes, rate, P, generation, for the receive direction W and the
pad (R172), for the transmit direction the scaling of the launch power setpoint (R134). -/
def State.setLoading (s : State) (c : Carrier) (d : Dir) (l : Loading) : State :=
  let (w, r, p, g) := loadObjs d
  let codes := s.codesOf c l
  let s := (List.range 16).foldl (fun s k => s.put (on c w) k (nth l.words k 0 : Nat)) s
  let s := ((s.put (on c r) 0 l.rate).put (on c p) 0 (s.plotsFor c l.rate codes)).put (on c g) 0 l.gen
  match d with
  | .tx => s.setLd c (fun x => { x with share := s.launchShare c codes })
  | .rx =>
    let s := (List.range 16).foldl (fun s k => s.put (on c Obj.carrierEntropy) k (codeOf (nth l.words k 0))) s
    (s.put (on c Obj.codewordsPerSf) 0 (s.codewords c codes)).put (on c Obj.padBits) 0 (s.codedBits c codes % 20480)

/-- A loading as an entry's data. -/
def Loading.data (l : Loading) : List Nat :=
  [l.rate, l.gen, l.plots, l.shed, l.restore, l.reason, l.mapGen] ++ l.words

/-- The loading that an entry's data holds. -/
def loadingOf (d : List Nat) : Loading :=
  { rate := nth d 0 0, gen := nth d 1 0, plots := nth d 2 0, shed := nth d 3 0, restore := nth d 4 0
    reason := nth d 5 0, mapGen := nth d 6 0, words := d.drop 7 }

/-! ## SNR, SNRreq and margin (R141 to R143, R581) -/

/-- The implementation gap G in 0.001 dB: member 3 × base + rate code (R143). -/
def loadingGaps : List Nat := [1800, 1700, 1700, 1900, 1900, 2000, 2100, 2100, 2200]

/-- SNRreq of a code other than 0, in 0.001 dB. -/
def State.snrReq (s : State) (c : Carrier) (rate code : Nat) : Int :=
  shannon rate code + nth loadingGaps (3 * (codeBits code / 2 - 1) + rate) 0 + (s.ld c).iterGap

/-- An SNR meets a code at a margin of at least `m` (0.001 dB); code 0 always does (R143). -/
def State.meets (s : State) (c : Carrier) (rate code : Nat) (snr m : Int) : Bool :=
  code == 0 || decide (s.snrReq c rate code + m ≤ snr)

/-- Per-SF values of the latest SF measured. -/
def State.snrNow (s : State) (c : Carrier) : List Int := nth (s.ld c).snrs 0 []

/-- Nearest integer to a ratio, ties rounded down (R581). -/
def roundDown (n : Int) (d : Nat) : Int := (2 * n + d - 1) / (2 * d)

/-- The slow value of a subcarrier in 0.001 dB (R142): the mean of the values held while there are fewer than 1,000, and 0
with none (log entry 44). -/
def State.snrSlow (s : State) (c : Carrier) (i : Nat) : Int :=
  let l := (s.ld c).snrs
  if l.isEmpty then 0 else roundDown ((l.map (fun x => nth x i 0)).foldl (· + ·) 0) l.length

/-- The lowest per-SF value of a subcarrier over the last 3 SF measured (R145). -/
def State.snrLow3 (s : State) (c : Carrier) (i : Nat) : Int :=
  let l := ((s.ld c).snrs.take 3).map (fun x => nth x i 0)
  l.foldl min (nth l 0 0)

/-- `MarginTarget` in 0.001 dB. -/
def State.target (s : State) (c : Carrier) : Int := 10 * s.i (on c Obj.marginTarget)

/-- The entropy codes of R136. -/
def allCodes : List Nat := [0, 64] ++ (List.range 121).map (· + 72)

/-- The valid code next below one, 0 below 64. -/
def codeBelow (code : Nat) : Nat := if code ≤ 64 then 0 else if code = 72 then 64 else code - 1

/-- Highest code a subcarrier may take: `LoadingCeiling`, and the far end's cap while it holds (R144, R155). -/
def State.codeCeiling (s : State) (c : Carrier) (i : Nat) : Nat :=
  let top := s.u (on c Obj.loadingCeiling) i
  match (s.ld c).caps with
  | some (l, t) => if s.clk.sfn < t then min top (nth l i 0) else top
  | none => top

/-- A code is a better choice than another: larger η, then smaller base (R144). -/
def betterCode (rate x y : Nat) : Bool :=
  decide (eta rate y < eta rate x) || (eta rate x == eta rate y && decide (codeBits x < codeBits y))

/-- The best code of a subcarrier at an SNR and rate (R144). -/
def State.bestCode (s : State) (c : Carrier) (i : Nat) (snr : Int) (rate : Nat) : Nat :=
  let lo := s.u (on c Obj.loadingFloor) i
  let hi := s.codeCeiling c i
  let ok := allCodes.filter (fun x => decide (lo ≤ x) && decide (x ≤ hi) && s.meets c rate x snr (s.target c))
  match ok with
  | [] => lo
  | x :: l => l.foldl (fun b y => if betterCode rate y b then y else b) x

/-! ## Shedding and restoring (R150 to R152) -/

/-- Plots of a `ClientRate` code (R21). -/
def ratePlots (r : Nat) : Nat := nth [0, 4, 8, 16, 32, 64] r 0

/-- The client map in force on a direction. -/
def State.mapOf (s : State) (c : Carrier) : Dir → CMap
  | .tx => (s.fr c).txMap
  | .rx => (s.fr c).rxMap

/-- A client map changed on a direction. -/
def State.setMap (s : State) (c : Carrier) (d : Dir) (m : CMap) : State :=
  s.setFr c (fun f => match d with
    | .tx => { f with txMap := m }
    | .rx => { f with rxMap := m })

/-- Clients carried by a map. -/
def CMap.clients (m : CMap) : List Nat := (List.range 64).filter (fun x => bit m.carried x)

/-- Plots of a client in a map. -/
def CMap.plotsOf (m : CMap) (x : Nat) : Nat := ratePlots (nth m.sizes x 0)

/-- Plots in use in a map. -/
def CMap.inUse (m : CMap) : Nat := sumNat (m.clients.map m.plotsOf)

/-- A set of client numbers as a mask. -/
def maskOf (l : List Nat) : Nat := sumNat (l.map (2 ^ ·))

/-- The map that a map change leads to: the one it carries, or shed and restore masks (R586). -/
def CMap.after (m : CMap) (data : List Nat) : CMap :=
  if nth data 3 0 = 1 then
    let out := (List.range 64).filter (fun x =>
      (bit m.carried x && !bit (nth data 1 0) x) || bit (nth data 2 0) x)
    { m with carried := maskOf out, gen := nth data 0 0 }
  else { carried := nth data 1 0, sizes := data.drop 4, plots := nth data 2 0, gen := nth data 0 0 }

/-- Agreed client map changes of a direction that have not applied, in order of SFN. -/
def State.mapsAgreed (s : State) (c : Carrier) (d : Dir) : List Entry :=
  (s.clk.entries.filter (fun e => decide (e.kind = .mapChange) && decide (e.carrier = some c) && decide (e.dir = d) &&
    decide (e.st = .agreed))).mergeSort (fun x y => decide (x.sfn ≤ y.sfn))

/-- The map that the next change of a direction meets: the one in force after every change agreed. -/
def State.mapBase (s : State) (c : Carrier) (d : Dir) : CMap :=
  (s.mapsAgreed c d).foldl (fun m e => m.after e.data) (s.mapOf c d)

/-- Clients shed on a direction. -/
def LoadSt.shedOf (x : LoadSt) : Dir → List Nat
  | .rx => x.shed
  | .tx => x.shedTx

/-- Clients shed on a direction changed. -/
def LoadSt.setShed (x : LoadSt) (l : List Nat) : Dir → LoadSt
  | .rx => { x with shed := l }
  | .tx => { x with shedTx := l }

/-- A list of naturals in ascending order of a key. -/
def sortBy (key : Nat → Nat) : List Nat → List Nat
  | [] => []
  | x :: l => insert x (sortBy key l)
where
  insert (x : Nat) : List Nat → List Nat
    | [] => [x]
    | y :: l => if key x ≤ key y then x :: y :: l else y :: insert x l

/-- Clients of a class in ascending `ShedRank`, ties to the lower number (R150). -/
def State.shedRow (s : State) (cls : Nat) (l : List Nat) : List Nat :=
  sortBy (fun x => s.u Obj.shedRank x * 64 + x) (l.filter (fun x => s.clsOf x == cls))

/-- Crop clients, then committed ones (R150). -/
def State.shedOrderOf (s : State) (l : List Nat) : List Nat := s.shedRow 1 l ++ s.shedRow 0 l

/-- Clients shed, strictly in order, until those that remain fit. -/
def shedUntil (plots : Nat → Nat) (cap : Nat) : Nat → List Nat → List Nat
  | _, [] => []
  | used, x :: l => if used ≤ cap then [] else x :: shedUntil plots cap (used - plots x) l

/-- Clients restored, strictly in order, while each fits (R152). -/
def restoreWhile (plots : Nat → Nat) (cap : Nat) : Nat → List Nat → List Nat
  | _, [] => []
  | used, x :: l => if used + plots x ≤ cap then x :: restoreWhile plots cap (used + plots x) l else []

/-- The clients that a capacity sheds from a map (R150). -/
def State.shedFor (s : State) (m : CMap) (p : Nat) : List Nat :=
  shedUntil m.plotsOf (clientPlots p) m.inUse (s.shedOrderOf m.clients)

/-- The clients that a capacity restores to a map (R152): those with a size code that it does not carry. -/
def State.restoreFor (s : State) (m : CMap) (p : Nat) : List Nat :=
  let out := (List.range 64).filter (fun x => !bit m.carried x && nth m.sizes x 0 != 0)
  restoreWhile m.plotsOf (clientPlots p) m.inUse (s.shedOrderOf out).reverse

/-- A generation of R138 or R228 next after another. -/
def nextGen (g : Nat) : Nat := if 255 ≤ g then 1 else g + 1

/-! ## Changes in progress -/

/-- The loading changes of a direction in the table. -/
def State.changes (s : State) (c : Carrier) (d : Dir) : List Entry :=
  s.clk.entries.filter (fun e => decide (e.kind = .loadingChange) && decide (e.carrier = some c) && decide (e.dir = d))

/-- The last agreed change of a direction that has not applied. -/
def State.lastAgreed (s : State) (c : Carrier) (d : Dir) : Option Entry :=
  ((s.changes c d).filter (fun e => decide (e.st = .agreed))).foldl
    (fun b e => match b with
      | none => some e
      | some x => if x.sfn < e.sfn then some e else some x) none

/-- The loading that the next change of a direction follows: the latest agreed one, else the one in force (R148,
R155). -/
def State.loadingBase (s : State) (c : Carrier) (d : Dir) : Loading :=
  match s.lastAgreed c d with
  | some e => loadingOf e.data
  | none => s.loading c d

/-- The generation that the next client map change of a direction follows (R586). -/
def State.mapGenBase (s : State) (c : Carrier) (d : Dir) : Nat := (s.mapBase c d).gen

/-- A loading of some codes at a rate, as a change to a direction would carry it, and the committed client that it would
have to shed while the margin alarm is not raised (R151). It restores clients when it raises client capacity (R152), and
a raise whenever one fits (R146). -/
def State.formLoading (s : State) (c : Carrier) (d : Dir) (rate reason : Nat) (alarm : Bool) (codes : List Nat) :
    Loading × Option Nat :=
  let p := s.plotsFor c rate codes
  let m := s.mapBase c d
  let base := s.loadingBase c d
  let shed := s.shedFor m p
  let more := decide (clientPlots (s.plotsFor c base.rate (s.codesOf c base)) < clientPlots p)
  let back := if shed.isEmpty && (more || reason == 1) then s.restoreFor m p else []
  let l : Loading :=
    { rate := rate, gen := nextGen base.gen, plots := p, shed := maskOf shed, restore := maskOf back
      reason := reason, mapGen := if shed.isEmpty ∧ back.isEmpty then 0 else nextGen m.gen
      words := wordsOf codes }
  (l, if alarm then none else shed.find? (fun x => s.clsOf x == 0))

/-- Slots that an arrival rate needs: ⌈V × T⌉ + 64, for W codewords per SF and a budget in 0.1 µs (R179). -/
def slotsFor (w budget : Nat) : Nat := ceilDiv (w * budget) 1000 + 64

/-- Banks that W codewords per SF of both carriers need at least for their slots (R181). -/
def State.slotBanks (s : State) (w : Nat) : Nat := ceilDiv (slotsFor w (s.u Obj.residencyBudget)) 4096

/-- A carrier delivers codewords: its receiver tracks or holds. -/
def State.delivers (s : State) (c : Carrier) : Bool := decide (7 ≤ s.lock c)

/-- W of a carrier that delivers codewords, 0 otherwise. -/
def State.wOf (s : State) (c : Carrier) : Nat := if s.delivers c then s.u (on c Obj.codewordsPerSf) else 0

/-- Wₛ (R181, R182). -/
def State.wS (s : State) : Nat := s.wOf .a + s.wOf .b

/-- A bank is in service (`BankService`, R191). -/
def State.inService (s : State) (b : Nat) : Bool := s.u (Obj.bankService + 256 * b) == 1

/-- The four banks. -/
abbrev allBanks : List Nat := [0, 1, 2, 3]

/-- Banks in service. -/
def State.serviceBanks (s : State) : List Nat := allBanks.filter s.inService

/-- Iterations of one bank per SF (R174). -/
abbrev bankCapacity : Nat := 75000

/-- `IterFloor`. -/
def State.iterFloor (s : State) : Nat := s.u Obj.iterFloor

/-- Iterations and codewords of the last SFs, summed. -/
def sumPairs (l : List (Nat × Nat)) : Nat × Nat := l.foldl (fun a x => (a.1 + x.1, a.2 + x.2)) (0, 0)

/-- Banks that W codewords per SF of both carriers need (R181): for their slots, and for the larger of `IterFloor` and
1.25 times the mean iterations of the last 100 SF; all in service until 100 SF have been measured. -/
def State.banksFor (s : State) (w : Nat) : Nat :=
  if s.pool.recent.length < 100 then s.serviceBanks.length
  else
    let (it, cw) := sumPairs (s.pool.recent.take 100)
    let byEngines :=
      if 5 * it ≤ 4 * s.iterFloor * cw then ceilDiv (w * s.iterFloor) bankCapacity
      else ceilDiv (w * 5 * it) (4 * cw * bankCapacity)
    max (s.slotBanks w) byEngines

/-- Banks asleep that a change of loading of a receive direction needs, lowest first, among those in service (R30, R156,
R181). -/
def State.banksToWake (s : State) (c : Carrier) (old new : List Nat) : List Nat :=
  (s.serviceBanks.take (s.banksFor (s.wS + s.codewords c new - s.codewords c old))).filter
    (fun b => s.domOff (Dn.dpa + b))

/-- Ledger item of the floor that a carrier's raise has been granted and that no codeword uses yet (R456). -/
def raiseItem (c : Carrier) : Nat := 1 + c.toNat

/-- Room for a raise of base is asked of the Allotment (R163, R182): the rise of the decode floor, and 1.80 W for each
bank the change would wake. The floor is held from the grant until the change applies (R456). Answers the ledger's
reason. -/
def State.askRaise (s : State) (c : Carrier) (old new : List Nat) : Nat × State :=
  let w0 := s.codewords c old
  let w1 := s.codewords c new
  let raises := (List.range new.length).any (fun i => decide (codeBits (nth old i 0) < codeBits (nth new i 0)))
  if !raises then (0, s)
  else
    let banks := s.banksToWake c old new
    let floor := s.iterFloor * (w1 - w0) * 100
    let cost := floor + 1800000 * banks.length
    let r := s.judge Act.floor 0 cost
    if r ≠ 0 then (r, s.refuseCost Act.floor r cost)
    else
      let s := (if floor = 0 then s else s.enter Act.floor (raiseItem c) (s.holds Act.floor (raiseItem c) + floor)).occur 0x2080 { master := some 2 }
      (0, banks.foldl (fun s b => (s.accessDom (Dn.dpa + b)).2) s)

/-! ## The proposal's octets (R206) -/

/-- Body of a loading proposal. -/
def Loading.body (l : Loading) (alarm : Bool) : List Byte :=
  be 4 (l.reason * 2 ^ 29 + b2n alarm * 2 ^ 28 + l.gen * 2 ^ 20 + l.rate * 2 ^ 18 + l.plots * 2 ^ 10) ++
    (l.words.map (be 2)).flatten ++ be 8 l.shed ++ be 8 l.restore

/-- The loading that a proposal's body spells. -/
def loadingOfBody (b : List Byte) : Loading :=
  let w := ofBe (slice b 0 4)
  { rate := bits w 19 18, gen := bits w 27 20, plots := bits w 17 10, shed := ofBe (slice b 36 8)
    restore := ofBe (slice b 44 8), reason := bits w 31 29, mapGen := 0
    words := (List.range 16).map (fun k => ofBe (slice b (4 + 2 * k) 2)) }

/-- The margin alarm bit of a proposal's body. -/
def alarmOfBody (b : List Byte) : Bool := bit (ofBe (slice b 0 4)) 28

/-! ## Proposing -/

/-- Lowest margin of the subcarriers that are loaded, in 0.001 dB (log entry 7). -/
def State.lowestMargin (s : State) (c : Carrier) : Int :=
  let l := s.loading c .rx
  let ms := (List.range (s.subN c)).filterMap (fun i =>
    let code := codeOf (nth l.words i 0)
    if code = 0 then none else some (nth (s.snrNow c) i 0 - s.snrReq c l.rate code))
  ms.foldl min (nth ms 0 0)

/-- Octet of a direction in the records of R166: 0 receive, 1 transmit. -/
def dirOctet : Dir → Nat
  | .rx => 0
  | .tx => 1

/-- The margin alarm of a direction as this engine knows it (R154): its own state, or the far end's as given. -/
def State.alarmOf (s : State) (c : Carrier) : Dir → Bool
  | .rx => s.u (on c Obj.marginAlarmState) == 1
  | .tx => bit ((assocGet (s.fr c).core 5).getD 0) 7

/-- A proposal was withheld (R151, R163): the next raise waits for `RaiseHold`. -/
def State.raiseLater (s : State) (c : Carrier) : State :=
  s.setLd c (fun x => { x with raiseFrom := s.clk.sfn + s.u (on c Obj.raiseHold) })

/-- A loading change of the receive direction that the policy has formed is proposed, unless it would shed a committed
client (R151), carries fewer than 16 codewords (R172), changes and restores nothing, or finds no room (R163). A drop or a
change to the ceiling that is withheld waits for the margin alarm. -/
def State.proposeLoading (s : State) (c : Carrier) (rate reason : Nat) (codes : List Nat) : State :=
  let base := s.loadingBase c .rx
  let (l, kept) := s.formLoading c .rx rate reason (s.alarmOf c .rx) codes
  if wordsOf codes = base.words ∧ rate = base.rate ∧ l.restore = 0 then s
  else if s.codewords c codes < 16 then s
  else
    match kept with
    | some x =>
      let s := s.logC c 0x5019 (d8 x ++ i32 (s.lowestMargin c) ++ d8 0)
      if reason = 1 ∨ reason = 3 then s.raiseLater c else s.setLd c (fun y => { y with withheld := true })
    | none =>
      let banks := s.banksToWake c (s.codesOf c base) codes
      let r := s.askRaise c (s.codesOf c base) codes
      if r.1 ≠ 0 then (r.2.logC c 0x501A (d8 r.1 ++ d8 0)).raiseLater c
      else
        let s := r.2
        let wake := maxNat (banks.map (fun b => s.wakeSf (Dn.dpa + b)))
        let first := if banks.isEmpty then s.leadSfn c else max (s.leadSfn c) (s.clk.sfn + wake)
        let after := match s.lastAgreed c .rx with
          | some e => e.sfn + 1
          | none => 0
        let e := { Entry.base .loadingChange (max first after) with dir := .rx, data := l.data }
        let p := s.proposeEngine c e (fun _ => l.body (s.alarmOf c .rx))
        match p.1 with
        | none => p.2.release Act.floor (raiseItem c)
        | some n =>
          let s := p.2
          match s.clk.entries.find? (fun x => x.num == n) with
          | none => s
          | some x =>
            let s := (s.yieldSwaps x).bump (on c Obj.proposalCount)
            let s := s.setLd c (fun y => { y with held := y.held ++ [(x.sfn, l)] })
            s.logC c 0x5010 (d8 l.gen ++ d64 x.sfn ++ d8 reason ++ d8 l.plots ++ d8 0)

/-- What a loading change held goes with it: the map change that it implies (R586), and the floor of a raise (R163). -/
def State.impliedGone (s : State) (e : Entry) : State :=
  let s := match e.carrier, e.dir with
    | some c, .rx => s.release Act.floor (raiseItem c)
    | _, _ => s
  s.setEntries (s.clk.entries.filter (fun x => !(decide (x.kind = .mapChange) && decide (x.carrier = e.carrier) &&
    decide (x.dir = e.dir) && x.sfn == e.sfn && nth x.data 3 0 == 1)))

/-- A change of this engine is cancelled by the engine itself, agreed or not (R47, R148). -/
def State.cancelOwn (s : State) (e : Entry) : State := ((s.sendCancel e).cancelEntry e).impliedGone e

/-! ## The policy (R144 to R149) -/

/-- The policy may run (R144). -/
def State.policyOn (s : State) (c : Carrier) : Bool :=
  s.u (on c Obj.loadingMode) == 0 && s.lock c == 7 && s.lineUp c &&
    decide ((s.fr c).lockedAt + 100 ≤ s.clk.sfn)

/-- Consecutive SF that a test has held, per subcarrier. -/
def runs (old : List Nat) (n : Nat) (test : Nat → Bool) : List Nat :=
  (List.range n).map (fun i => if test i then nth old i 0 + 1 else 0)

/-- The per-SF values of a received SF enter, with their objects and runs (R141, R142, R145 to R147). A subcarrier at code
0 has no margin (R143): its object shows 0 (log entry 44). -/
def State.snrMeasured (s : State) (c : Carrier) (snr : List Int) : State :=
  let n := s.subN c
  let l := s.loading c .rx
  let code := fun i => codeOf (nth l.words i 0)
  let s := s.setLd c (fun x => { x with snrs := (snr.take n :: x.snrs).take 1000 })
  let margin := fun i => nth snr i 0 - s.snrReq c l.rate (code i)
  let slow := fun i => s.snrSlow c i
  let drop := fun i => code i != 0 && decide (margin i < s.target c - 10 * s.i (on c Obj.dropBand))
  let raise := fun i => code i == 0 ||
    decide (s.target c + 10 * s.i (on c Obj.raiseBand) ≤ slow i - s.snrReq c l.rate (code i))
  let low := fun i => code i != 0 && decide (margin i < 10 * s.i (on c Obj.marginAlarm))
  let x := s.ld c
  let clear := if (List.range n).any low then 0 else x.clearRun + 1
  let s := s.setLd c (fun x => { x with
    dropRun := runs x.dropRun n drop, raiseRun := runs x.raiseRun n raise, alarmRun := runs x.alarmRun n low
    clearRun := clear })
  (List.range n).foldl (fun s i =>
    let m := if code i = 0 then 0 else f32OfRat (margin i) 1000
    ((s.put (on c Obj.subcarrierSnr) i (f32OfRat (nth snr i 0) 1000)).put (on c Obj.subcarrierSnrSlow) i
      (f32OfRat (slow i) 1000)).put (on c Obj.subcarrierMargin) i m) s

/-- The margin alarm of the receive direction (R147). -/
def State.marginAlarmStep (s : State) (c : Carrier) : State :=
  let x := s.ld c
  let below := (List.range 16).filter (fun i => decide (3 ≤ nth x.alarmRun i 0))
  if s.u (on c Obj.marginAlarmState) = 0 then
    if below.isEmpty then s
    else
      let s := (s.put (on c Obj.marginAlarmState) 0 1).setLd c (fun x => { x with alarmAt := s.clk.sfn })
      s.logC c 0x5015 (d16 (maskOf below) ++ i32 (s.lowestMargin c) ++ d8 0)
  else if 100 ≤ x.clearRun then
    (s.put (on c Obj.marginAlarmState) 0 0).logC c 0x5016 (d32 (s.clk.sfn - x.alarmAt) ++ d8 0)
  else s

/-- The drop rule fires on these subcarriers (R145). -/
def State.dropFired (s : State) (c : Carrier) : List Nat :=
  (List.range (s.subN c)).filter (fun i => decide (3 ≤ nth (s.ld c).dropRun i 0))

/-- Codes of a drop (R145), or of a drop while the rates differ (R161). -/
def State.dropCodes (s : State) (c : Carrier) (fired : List Nat) : Nat × List Nat :=
  let base := s.loadingBase c .rx
  let rate := s.u (on c Obj.policyCodeRate)
  if base.rate = rate then
    (rate, (s.codesOf c base).mapIdx (fun i x =>
      if fired.contains i then min x (s.bestCode c i (s.snrLow3 c i) rate) else x))
  else
    (rate, (List.range (s.subN c)).map (fun i =>
      s.bestCode c i (if fired.contains i then s.snrLow3 c i else s.snrSlow c i) rate))

/-- The codes trimmed of entropy that buys no plot (R146); the loop ends after at most `fuel` steps. -/
def State.trimCodes (s : State) (c : Carrier) (rate goal : Nat) (cur : List Nat) : Nat → List Nat → List Nat
  | 0, new => new
  | fuel + 1, new =>
    let lower := fun i => setNth new i (codeBelow (nth new i 0))
    let cand := (List.range new.length).filter (fun i =>
      decide (nth cur i 0 < nth new i 0) && decide (goal ≤ s.plotsFor c rate (lower i)))
    let margin := fun i => s.snrSlow c i - s.snrReq c rate (nth new i 0)
    match cand with
    | [] => new
    | i :: l =>
      let pick := l.foldl (fun b j => if margin j < margin b then j else b) i
      s.trimCodes c rate goal cur fuel (lower pick)

/-- The raise rule (R146). -/
def State.raiseStep (s : State) (c : Carrier) : State :=
  let base := s.loadingBase c .rx
  let cur := s.codesOf c base
  let hold := if s.clk.sfn < (s.fr c).lockedAt + 10000 then 100 else s.u (on c Obj.raiseHold)
  let new := cur.mapIdx (fun i x =>
    if hold ≤ nth (s.ld c).raiseRun i 0 then max x (s.bestCode c i (s.snrSlow c i) base.rate) else x)
  let goal := min (min 130 (s.u (on c Obj.plotCeiling))) (s.plotsFor c base.rate new)
  let new := s.trimCodes c base.rate goal cur 2048 new
  let m := s.mapBase c .rx
  let p := s.plotsFor c base.rate new
  if s.plotsFor c base.rate cur < p ∨ (s.restoreFor m p).any (fun x => (s.ld c).shed.contains x) then
    s.proposeLoading c base.rate 1 new
  else s

/-- The codes of a proposal with reason rate: every best code at its slow SNR (R161). -/
def State.rateCodes (s : State) (c : Carrier) : List Nat :=
  (List.range (s.subN c)).map (fun i => s.bestCode c i (s.snrSlow c i) (s.u (on c Obj.policyCodeRate)))

/-- The codes of a change to the ceilings (R149). -/
def State.ceilingCodes (s : State) (c : Carrier) : List Nat :=
  (s.codesOf c (s.loadingBase c .rx)).mapIdx (fun i x => min x (s.u (on c Obj.loadingCeiling) i))

/-- The loading policy of one received SF (R144 to R149, R161). A drop cancels a raise that has not passed its commit point;
any other change in progress holds it back until then (R148). -/
def State.policyRun (s : State) (c : Carrier) : State :=
  let x := s.ld c
  let pend := s.changes c .rx
  let before := pend.filter (fun e => decide (e.st ≠ .agreed) || decide (s.clk.sfn + 4 < e.sfn))
  let raises := before.filter (fun e => (loadingOf e.data).reason == 1)
  let fired := s.dropFired c
  let free := !x.withheld || s.alarmOf c .rx
  let dropOk := !fired.isEmpty && free && decide (x.dropFrom ≤ s.clk.sfn)
  let drop := fun (s : State) =>
    let d := s.dropCodes c fired
    s.proposeLoading c d.1 0 d.2
  let s := if fired.isEmpty && !x.ceilDue then s.setLd c (fun x => { x with withheld := false }) else s
  if dropOk && before.length == raises.length then
    let s := if raises.isEmpty then s else (raises.foldl (fun s e => s.cancelOwn e) s).raiseLater c
    drop s
  else if !pend.isEmpty then s
  else if x.ceilDue && free && decide (x.dropFrom ≤ s.clk.sfn) then
    s.proposeLoading c (s.u (on c Obj.rxCodeRate)) 4 (s.ceilingCodes c)
  else if s.clk.sfn < x.raiseFrom then s
  else if s.u (on c Obj.rxCodeRate) ≠ s.u (on c Obj.policyCodeRate) then
    s.proposeLoading c (s.u (on c Obj.policyCodeRate)) 3 (s.rateCodes c)
  else s.raiseStep c

/-- What a received SF brings to loading: SNRs while tracking, of an SF in which no signal fail was raised (R141), the
alarm in every `LoadingMode`, the policy where it runs; contents whose SFN has passed by one are let go while locked
(R157). -/
def State.loadingReceived (s : State) (c : Carrier) (x : RxIn) : State :=
  let r := s.rxs c
  let snr := (s.subSnrs c x).mapIdx (fun i v => v.getD (nth (s.snrNow c) i 0))
  let s := if s.lock c = 7 ∧ !r.sfRaised ∧ !r.sfSeen then (s.snrMeasured c snr).marginAlarmStep c else s
  let s := s.setRx c (fun x => { x with sfSeen := x.sfRaised })
  let s := if s.u (on c Obj.frameLock) = 1 then
      s.setLd c (fun x => { x with held := x.held.filter (fun h => decide (s.u (on c Obj.rxSfn) ≤ h.1 + 1)) })
    else s
  if s.policyOn c then s.policyRun c else s

/-! ## Checking a proposal (R155, R172) -/

/-- The status with which a proposal of the far end for a direction of this engine is refused by its contents, 0 for
none, and whether a cap is the cause. The margin alarm is that of the engine that receives the direction, its own or as
its latest valid core shows it. -/
def State.checkLoading (s : State) (c : Carrier) (d : Dir) (l : Loading) : Nat × Bool :=
  let n := s.subN c
  let codes := s.codesOf c l
  let bad := !(l.words.take n).all validWord || (l.words.drop n).any (· != 0) || decide (2 < l.rate) ||
    decide (s.codewords c codes < 16)
  let ovr := decide (d = .tx) && (List.range n).any (fun i =>
    decide (s.u (on c Obj.txLoadingCap) i < nth codes i 0))
  let committed := (List.range 64).any (fun x => bit l.shed x && s.clsOf x == 0)
  if bad then (0x0301, false)
  else if ovr then (0x0301, true)
  else if committed && !s.alarmOf c d then (0x0502, false)
  else if l.gen ≠ nextGen (s.loadingBase c d).gen then (0x0502, false)
  else (0, false)

/-- The cap words that a refusal carries (R155, R206). -/
def State.capBody (s : State) (c : Carrier) : List Byte :=
  (List.range 16).map (fun i => byteOf (if i < s.subN c then s.u (on c Obj.txLoadingCap) i else 0))

/-! ## Outcomes of an own proposal -/

/-- After a refusal or a cancellation of a change to the receive direction, the next drop waits for 10 SF and the next
raise for `RaiseHold` (R148). -/
def State.loadingFailed (s : State) (c : Carrier) (e : Entry) : State :=
  if e.kind = .loadingChange ∧ e.dir = .rx then (s.setLd c (fun x => { x with dropFrom := s.clk.sfn + 10 })).raiseLater c
  else s

/-- An own proposal is refused: counted, logged with the cap words, which become an extra ceiling (R148, R155). -/
def State.loadingRefused (s : State) (c : Carrier) (e : Entry) (status : Nat) (body : List Byte) : State :=
  let s := (s.bump (on c Obj.refusalCount)).logC c 0x5012 (d16 status ++ body.take 16 ++ d8 (dirOctet e.dir))
  let caps := if status = 0x0301 ∧ body.length = 16 then
      some (body.map (·.toNat), s.clk.sfn + 10000)
    else (s.ld c).caps
  (s.setLd c (fun x => { x with caps := caps, held := x.held.filter (fun h => h.1 != e.sfn) })).loadingFailed c e

/-- An own proposal is cancelled without a reply (R157). -/
def State.loadingNoReply (s : State) (c : Carrier) (e : Entry) : State :=
  let s := (s.bump (on c Obj.noReplyCount)).logC c 0x5013
    (d8 (loadingOf e.data).gen ++ d64 e.sfn ++ d8 (dirOctet e.dir))
  s.loadingFailed c e

/-- The client map change that an agreed loading change implies (R586); the SFs of a map change are the change's own. -/
def State.impliedMap (s : State) (e : Entry) : State :=
  let l := loadingOf e.data
  if l.shed = 0 ∧ l.restore = 0 then s
  else
    let x := { e with kind := .mapChange, st := .agreed, prop := 0, asker := none
                      data := [l.mapGen, l.shed, l.restore, 1] }
    (s.addEntry x).2

/-! ## At its SFN (R160) -/

/-- A loading change takes effect on its direction. -/
def State.applyLoading (s : State) (c : Carrier) (d : Dir) (l : Loading) : State :=
  let old := s.loading c d
  let s := s.setLoading c d l
  let now := s.loading c d
  let s := s.bump (on c Obj.changeCount)
  let s := s.setLd c (fun x => { x with
    caps := if d = .rx then none else x.caps
    held := if d = .rx then x.held.filter (fun h => h.2.gen != l.gen) else x.held
    ceilDue := x.ceilDue && (d == .tx || ((s.codesOf c l).mapIdx (fun i v => (i, v))).any (fun p =>
      decide (s.u (on c Obj.loadingCeiling) p.1 < p.2)))
    dropRun := if d = .rx then [] else x.dropRun
    prior := if d = .rx then some (s.u (on c Obj.rxSfn), old) else x.prior })
  let s := if d = .rx then s.release Act.floor (raiseItem c) else s
  s.logC c 0x5011 (d8 old.gen ++ d8 now.gen ++ d8 old.plots ++ d8 now.plots ++ d8 (dirOctet d))

end Sys2Proof.Machine
end

