-- ==== Sys2Proof/Machine/LoadCmd.lean ====
section
/-! DEFINITION. The writes of the loading policy (R149, R155, R161). -/

namespace Sys2Proof.Machine

/-- What a write of `LoadingCeiling` does (R149): a current code above it starts a change, unless the loading is
fixed. -/
def State.ceilingEffect (s : State) (c : Carrier) (k v : Nat) : Res × State :=
  if v < s.u (on c Obj.loadingFloor) k then ({ code := 0x0301 }, s)
  else
    let s := s.put (on c Obj.loadingCeiling) k v
    let cur := codeOf (s.u (on c Obj.rxLoadingWord) k)
    if s.u (on c Obj.loadingMode) = 0 ∧ k < s.subN c ∧ v < cur then
      let s := s.setLd c (fun x => { x with ceilDue := true })
      ({}, if s.policyOn c ∧ (s.changes c .rx).isEmpty then
          s.proposeLoading c (s.u (on c Obj.rxCodeRate)) 4 (s.ceilingCodes c)
        else s)
    else ({}, s)

/-- What a write of `LoadingFloor` does (R149). -/
def State.floorEffect (s : State) (c : Carrier) (k v : Nat) : Res × State :=
  if s.u (on c Obj.loadingCeiling) k < v then ({ code := 0x0301 }, s)
  else ({}, s.put (on c Obj.loadingFloor) k v)

/-- What a write of `LoadingRequest` does (R46, R161, R163). -/
def State.loadingRequestEffect (s : State) (w : Requester) (c : Carrier) (b : List Byte) : Res × State :=
  let t : Target := { relative := false, sfn := ofBe (slice b 2 8), symbols := false, offset := 0 }
  let d := if ofBe (slice b 10 1) = 0 then Dir.rx else Dir.tx
  let rate := ofBe (slice b 11 1)
  let words := (List.range 16).map (fun k => ofBe (slice b (12 + 2 * k) 2))
  let n := s.subN c
  let codes := (words.take n).map codeOf
  let (l, kept) := s.formLoading c d rate 2 (s.alarmOf c d) codes
  let e := { Entry.base .loadingChange t.sfn with dir := d, data := l.data, obj := on c Obj.loadingRequest }
  let extra := [if (words.drop n).any (· != 0) ∨ s.codewords c codes < 16 then 0x0301 else 0,
    if (s.changes c d).isEmpty ∧ kept.isNone then 0 else 0x0502]
  let try? := s.hostPropose w c t e (fun _ => l.body (s.alarmOf c d)) extra
  if try?.1.code ≠ 0 then
    (try?.1, match kept with
      | some x => if try?.1.code = 0x0502 then
          s.logC c 0x5019 (d8 x ++ i32 (s.lowestMargin c) ++ d8 (dirOctet d)) else s
      | none => s)
  else
    let a := if d = .rx then s.askRaise c (s.codesOf c (s.loadingBase c d)) codes else (0, s)
    if a.1 ≠ 0 then ({ code := 0x0402 }, a.2.logC c 0x501A (d8 a.1 ++ d8 (dirOctet d)))
    else
      let r := a.2.hostPropose w c t e (fun _ => l.body (s.alarmOf c d)) extra
      let s := (r.2.yieldSwaps { e with carrier := some c, count := countOf c d }).bump (on c Obj.proposalCount)
      let s := if d = .rx then s.setLd c (fun y => { y with held := y.held ++ [(t.sfn, l)] }) else s
      (r.1, s.logC c 0x5010 (d8 l.gen ++ d64 t.sfn ++ d8 2 ++ d8 l.plots ++ d8 (dirOctet d)))

/-- What a write of `PolicyCodeRate` does (R161): the policy proposes the new rate where it runs. -/
def State.policyRateEffect (s : State) (c : Carrier) (v : Nat) : Res × State :=
  let s := s.put (on c Obj.policyCodeRate) 0 v
  ({}, if v ≠ s.u (on c Obj.rxCodeRate) ∧ s.policyOn c ∧ (s.changes c .rx).isEmpty then
      s.proposeLoading c v 3 (s.rateCodes c)
    else s)

/-- LOADING_CEILING_WRITE (R149). -/
def execLoadingCeilingWrite (w : Requester) (c : Carrier) (k : Fin 16) (v : Nat) (s : State) :
    Host.Outcome State Fault Refusal :=
  .next (s.hostWrite w 2 (on c Obj.loadingCeiling) k (.num v) (fun x s => s.ceilingEffect c k x.nat))

/-- LOADING_REQUEST (R161); the operand is the TABLE value of `LoadingRequest`. -/
def execLoadingRequest (w : Requester) (c : Carrier) (row : List Byte) (s : State) :
    Host.Outcome State Fault Refusal :=
  .next (s.hostWrite w 2 (on c Obj.loadingRequest) 0 (.octs row) (fun x s => s.loadingRequestEffect w c x.bytes))

/-- POLICY_CODE_RATE_WRITE (R161). -/
def execPolicyCodeRateWrite (w : Requester) (c : Carrier) (v : Nat) (s : State) :
    Host.Outcome State Fault Refusal :=
  .next (s.hostWrite w 2 (on c Obj.policyCodeRate) 0 (.num v) (fun x s => s.policyRateEffect c x.nat))

/-- CAP_CEILING_EXPIRE: the extra ceiling ends after 10,000 SF (R155). -/
def execCapCeilingExpire (c : Carrier) (s : State) : Host.Outcome State Fault Refusal :=
  .next (match (s.ld c).caps with
    | some (_, t) => if t ≤ s.clk.sfn then s.setLd c (fun x => { x with caps := none }) else s
    | none => s)

end Sys2Proof.Machine
end

