-- ==== Sys2Proof/Machine/Code.lean ====
section
/-! DEFINITION. The line code (R167 to R169), the coded bits of a superframe (R170 to R172), the codeword slots (R174), and
the frame stream that codewords carry (R198 to R200, R582). -/

namespace Sys2Proof.Machine

/-! ## The code (R167 to R169) -/

/-- Bits n of a codeword (R167). -/
abbrev codeLength : Nat := 20480

/-- Size of a circulant (R167). -/
abbrev circulant : Nat := 128

/-- Rows of the base matrix of a rate: one per parity block column (R167). -/
def baseRows (rate : Nat) : Nat := 32 - 8 * rate

/-- Information block columns of a rate, out of 160 (R167). -/
def infoColumns (rate : Nat) : Nat := 160 - baseRows rate

/-- Information bits k of a codeword (R167). -/
def infoBits (rate : Nat) : Nat := circulant * infoColumns rate

/-- The three base rows in which the first parity block column has an entry (R168); the spec does not say which. -/
def heavyRows (rate : Nat) : List Nat :=
  ([0, 1, 2].foldl (fun (x : List Nat × List Nat) i =>
    let a := nth x.2 (Config.heavyRow rate i % x.2.length) 0
    (a :: x.1, x.2.erase a)) ([], List.range (baseRows rate))).1

/-- Entry of a base matrix: a shift, or −1 for the zero block (R168). The parity block columns form a dual diagonal. -/
def ldpcShift (rate row col : Nat) : Int :=
  let x := Config.ldpcEntry rate row col
  let j := col - infoColumns rate
  let shift : Int := (x % 128 : Nat)
  if col < infoColumns rate then (x % 129 : Nat) - 1
  else if (if j = 0 then (heavyRows rate).contains row else row + 1 == j || row == j) then shift
  else -1

/-- Rows and columns of a base matrix, in row-major order. -/
def baseCells (rate : Nat) : List (Nat × Nat) :=
  (List.range (baseRows rate)).flatMap (fun r => (List.range 160).map (fun c => (r, c)))

/-- Rows of `LdpcExponents` (R196): Row, Column, Shift. -/
def ldpcTable (rate : Nat) : List (List Byte) :=
  (baseCells rate).map (fun p => be 1 p.1 ++ be 1 p.2 ++ be 2 (twos 16 (ldpcShift rate p.1 p.2)))

/-- `LdpcDigest` (R168): over the shifts in row-major order, each a little-endian I16. -/
def ldpcDigest (rate : Nat) : List Byte :=
  Config.shake256 32 ((baseCells rate).flatMap (fun p => (be 2 (twos 16 (ldpcShift rate p.1 p.2))).reverse))

/-- Check `t` of a base row over a word whose bit `i` is codeword bit `i`: the identity circulant rotated right by s has
its one of row t in column (t + s) mod 128 (R168, R169). -/
def parityCheck (rate w row t : Nat) : Bool :=
  (List.range 160).foldl (fun a c =>
    let s := ldpcShift rate row c
    if s < 0 then a else a != bit w (circulant * c + (t + s.toNat) % circulant)) false

/-- The syndrome of a word is zero. -/
def syndromeZero (rate w : Nat) : Bool :=
  (List.range (baseRows rate)).all (fun r => (List.range circulant).all (fun t => !parityCheck rate w r t))

/-- A word is the codeword of some information bits: they come first, and the parity behind them completes it (R169). -/
def isCodeword (rate info w : Nat) : Bool :=
  decide (w < 2 ^ codeLength) && w % 2 ^ infoBits rate == info && syndromeZero rate w

/-! ## Coded bits in a superframe (R170 to R172) -/

/-- Places of the data symbols of a superframe in the order of the bit sequence: slot, polarisation, subcarrier (R170). -/
def State.dataPlaces (s : State) (c : Carrier) (codes : List Nat) : List (Nat × Nat × Nat) :=
  (List.range (s.slotsS c)).flatMap (fun j => [0, 1].flatMap (fun p =>
    if isPilot j p then []
    else ((List.range codes.length).filter (fun i => nth codes i 0 != 0)).map (fun i => (j, p, i))))

/-- Bits of a Gray-coded amplitude label, most significant first: amplitude 2a + 1 has label a XOR a / 2 (log entry 78). -/
def amplitudeBits (n a : Nat) : List Bool := (List.range n).map (fun i => bit (a ^^^ a / 2) (n - 1 - i))

/-- Bits of a data symbol of `m` bits: the signs of I and Q, then their amplitude labels (R170). -/
def symbolBits (m : Nat) (iNeg qNeg : Bool) (iAmp qAmp : Nat) : List Bool :=
  [iNeg, qNeg] ++ amplitudeBits (m / 2 - 1) iAmp ++ amplitudeBits (m / 2 - 1) qAmp

/-- Groups of W codewords (R171). -/
def groupCount (w : Nat) : Nat := ceilDiv w 16

/-- Codewords of a group: 16, or r in the last (R171). -/
def groupSize (w g : Nat) : Nat := min 16 (w - 16 * g)

/-- Codeword and position of bit `q` of the bit sequence; none for pad (R171, R172). -/
def seqPlace (w q : Nat) : Option (Nat × Nat) :=
  if w * codeLength ≤ q then none
  else
    let g := q / (16 * codeLength)
    let x := q % (16 * codeLength)
    some (16 * g + x % groupSize w g, x / groupSize w g)

/-- Bit `q` of the bit sequence of a superframe's codewords; pad is sent as zero (R172). -/
def seqBit (words : List Nat) (q : Nat) : Bool :=
  match seqPlace words.length q with
  | some (k, i) => bit (nth words k 0) i
  | none => false

/-! ## Slots (R174) -/

/-- Octets of a slot (R174). -/
abbrev codewordOctets : Nat := 15360

/-- The octets of a slot: four LLRs of 6 bits in three octets (R174, log entry 78). -/
def packLlrs : List Int → List Byte
  | a :: b :: c :: d :: l =>
    be 3 (twos 6 a * 2 ^ 18 + twos 6 b * 2 ^ 12 + twos 6 c * 2 ^ 6 + twos 6 d) ++ packLlrs l
  | _ => []

/-- The two LLRs that share an octet of a slot (R174, R189). -/
def octetLlrs (i : Nat) : Nat × Nat := (4 * (i / 3) + i % 3, 4 * (i / 3) + i % 3 + 1)

/-- Hard decisions of LLRs as a word: a positive one favours 0 (R174); of an erasure it is free. -/
def hardBits (l : List Int) : Nat :=
  sumNat (l.mapIdx (fun i x => if x < 0 ∨ (x = 0 ∧ Config.erasedBit i) then 2 ^ i else 0))

/-- Erasures among LLRs (R174). -/
def erasures (l : List Int) : Nat := (l.filter (· == 0)).length

/-- Bits in which two words differ. -/
def bitsDiffer (a b : Nat) : Nat := ((List.range codeLength).filter (fun i => bit (a ^^^ b) i)).length

/-- Pool bank's slot and octet of an SRAM address: slots lie one after the other, pool bank b in SRAM banks 240b to
240b + 239 (R174, R471). -/
def slotAt (addr : Nat) : Nat × Nat := (addr / codewordOctets, addr % codewordOctets)

/-! ## The frame stream (R198 to R200, R582) -/

/-- Bits of the overhead core (R199). -/
abbrev coreBits : Nat := 98304

/-- First bit of the payload region (R199). -/
abbrev payloadStart : Nat := 262144

/-- First bit and number of bits of the frame stream in codeword `k` of W, of C in all (R582). -/
def wordSpan (net w k : Nat) : Nat × Nat := (k * net / w, (k + 1) * net / w - k * net / w)

/-- Codeword that carries a bit of the frame stream (R582). -/
def wordOfBit (net w b : Nat) : Nat := ((b + 1) * w - 1) / net

/-- Group that carries the last of the bits up to `b`, with whose release they reach V8 (R582). -/
def groupOfBit (net w b : Nat) : Nat := wordOfBit net w b / 16

/-- Bits as a number, the first most significant. -/
def bitsNat (l : List Bool) : Nat := l.foldl (fun a b => 2 * a + b2n b) 0

/-- The scrambling sequence of R200 over bits 64 to 64 + len − 1 of the frame stream. -/
def scrambler (len : Nat) : List Bool := prbs 31 28 len (2 ^ 31 - 1)

/-- Core bits of the frame stream with the scrambling put on or taken off (R200); the first bit sent is most
significant. -/
def scrambled (x : Nat) : Nat := x ^^^ bitsNat (scrambler (coreBits - 64))

/-- The core as the number its bits spell: word w in bits 32w to 32w + 31 (R200). -/
def coreNumber (k : List (Nat × Nat)) : Nat := sumNat (k.map (fun p => p.2 * 2 ^ (32 * (3071 - p.1))))

/-- The words that core bits spell; those not listed are 0. -/
def coreWordsOf (x : Nat) : List (Nat × Nat) :=
  ((List.range 3072).map (fun w => (w, x / 2 ^ (32 * (3071 - w)) % 2 ^ 32))).filter (fun p => p.2 != 0)

/-- The core bits that released parts of group 0 spell; the reserve behind them is ignored (R199), and what is missing
counts as 0. -/
def HeadPart.place (p : HeadPart) : Nat := p.bits * 2 ^ coreBits / 2 ^ (p.start + p.len)

/-- The overhead core in the parts of group 0 that the pool has released (R173, R199, R200). -/
def State.heldCore (s : State) (c : Carrier) (trial : Bool) : List (Nat × Nat) :=
  coreWordsOf (scrambled (sumNat (((s.frame.get c).head.filter (fun p => p.trial == trial)).map HeadPart.place)))

/-! ## The loading of a received frame (R158, R173) -/

/-- The loading under which a codeword of frame `n` is demapped and decoded: the one in force in that frame, for a trial
decode the other one (R158, R173). -/
def State.frameLoading (s : State) (c : Carrier) (n : Nat) (trial : Bool) : Loading :=
  let now := s.loading c .rx
  if trial then
    match (s.ld c).held.find? (fun h => h.1 == n) with
    | some h => h.2
    | none => now
  else
    match (s.ld c).prior with
    | some (t, l) => if n < t then l else now
    | none => now

end Sys2Proof.Machine
end

