-- ==== Sys2Proof/Machine/Block.lean ====
section
/-! DEFINITION. Client blocks (R218 to R224): transcoding, rates, packing into cells, headers, seals without encryption;
and the places of blocks in the frame stream (R226, R227). -/

namespace Sys2Proof.Machine

/-! ## Transcoding (R218) -/

/-- A block of 64b/66b with a synchronisation header for data, or for control, and its 64 bits, bit 0 first on the line. -/
structure Block66 where
  control : Bool
  payload : Nat
  deriving DecidableEq, Repr

/-- Position of the first control block among four, 4 where there is none. -/
def firstControl (l : List Block66) : Nat := (l.takeWhile (fun b => !b.control)).length

/-- Four 66-bit blocks as one of 257 bits, bit 0 first on the line (R218; IEEE 802.3 256b/257b, log entry 80): a 1 before
four data blocks; else a 0, a bit per block that is 1 for data, and the blocks without the second nibble of the first
control block. -/
def transcode (l : List Block66) : Nat :=
  let all := sumNat (l.mapIdx (fun i b => b.payload * 2 ^ (64 * i)))
  let c := firstControl l
  if c = 4 then 1 + 2 * all
  else
    let flags := sumNat (l.mapIdx (fun i b => b2n (!b.control) * 2 ^ i))
    let low := all % 2 ^ (64 * c + 4)
    2 * flags + 32 * (low + all / 2 ^ (64 * c + 8) * 2 ^ (64 * c + 4))

/-- The four 66-bit blocks of a block of 257 bits. `typeOf` gives a control block's type from its first nibble: the first
nibble tells the types of IEEE 802.3 apart. -/
def transcodeBack (typeOf : Nat → Nat) (x : Nat) : List Block66 :=
  if x % 2 = 1 then (List.range 4).map (fun i => ⟨false, x / 2 / 2 ^ (64 * i) % 2 ^ 64⟩)
  else
    let data := fun i => bit x (1 + i)
    let c := ((List.range 4).takeWhile data).length
    let y := x / 32
    let first := y / 2 ^ (64 * c) % 16
    let all := y % 2 ^ (64 * c) + typeOf first * 2 ^ (64 * c) + y / 2 ^ (64 * c + 4) * 2 ^ (64 * c + 8)
    (List.range 4).map (fun i => ⟨!data i, all / 2 ^ (64 * i) % 2 ^ 64⟩)

/-- The 257-bit blocks of a client's stream: alignment markers taken out, then four blocks at a time (R218). -/
def transcodeAll (marker : Block66 → Bool) (l : List Block66) : List Nat :=
  let l := l.filter (fun b => !marker b)
  (List.range (l.length / 4)).map (fun i => transcode ((l.drop (4 * i)).take 4))

/-! ## Rates (R219, R221) -/

/-- 257b blocks of a client per SF, by rate code and frame (R221). -/
def rateBlocks (rate frame : Nat) : Nat :=
  if rate = 1 then 39062 + frame % 2 else nth [0, 0, 78125, 156250, 312500, 625000] rate 0

/-- Octets of some packed 257b blocks, padded to a whole octet (R220). -/
def dataOctets (blocks : Nat) : Nat := ceilDiv (257 * blocks) 8

/-- Cells of a client per SF, by `ClientRate` code (R221). -/
def rateCells (r : Nat) : Nat := nth [0, 613, 1226, 2451, 4902, 9804] r 0

/-- Cells that some octets fill (R220). -/
def cellsFor (octets : Nat) : Nat := ceilDiv octets 2048

/-- Seals over some cells (R220). -/
def sealsFor (cells : Nat) : Nat := ceilDiv cells 8

/-- Bits of a block: header, cells, tags (R220, R221). -/
def blockBits (octets : Nat) : Nat := 128 + 8 * octets + 128 * sealsFor (cellsFor octets)

/-- Tail bits of a block in its plots (R220, R221). -/
def tailBits (plots octets : Nat) : Nat := 2512500 * plots - blockBits octets

/-- Cells of a fill block over some plots (R224): as many whole cells, with their tags, as fit behind the header. -/
def fillCells (plots : Nat) : Nat :=
  if plots = 0 then 0
  else
    let room := plots * 2512500 - 128
    let k := room / (8 * 16384 + 128) * 8
    let rest := room - k / 8 * (8 * 16384 + 128)
    k + (rest - 128) / 16384

/-! ## Packing (R220) -/

/-- 257b blocks packed most significant bit first, with zero bits to a whole octet (R220). -/
def packBlocks (l : List Nat) : List Byte :=
  let n := dataOctets l.length
  be n (l.foldl (fun a x => a * 2 ^ 257 + x) 0 * 2 ^ (8 * n - 257 * l.length))

/-- Cells of 2,048 octets; the last holds the remainder (R220). -/
def cellsOf (b : List Byte) : List (List Byte) :=
  (List.range (cellsFor b.length)).map (fun i => slice b (2048 * i) (min 2048 (b.length - 2048 * i)))

/-- Cells of each seal: up to 8 (R220). -/
def sealCells (cells : List (List Byte)) : List (List (List Byte)) :=
  (List.range (sealsFor cells.length)).map (fun i => (cells.drop (8 * i)).take 8)

/-- A block on the line: header, then each seal's cells and tag, then zeros to the end of its plots (R220). -/
def blockOctets (head : List Byte) (seals : List (List Byte × List Byte)) : List Byte :=
  head ++ seals.flatMap (fun x => x.1 ++ x.2)

/-! ## Headers (R222) -/

/-- Words K0 to K3 of a header (R222). -/
def headWords (h : BlockHead) : List Nat :=
  [h.client * 2 ^ 26 + h.context * 2 ^ 20, h.seq * 2 ^ 14 + h.cells,
   h.typ * 2 ^ 29 + b2n h.cipher * 2 ^ 28 + b2n h.parity * 2 ^ 27 + h.count, 0]

/-- Octets of a header, K0 first. -/
def headOctets (h : BlockHead) : List Byte := (headWords h).flatMap (be 4)

/-- The header that words K0 to K3 spell (R222). -/
def headOf (k : List Nat) : BlockHead :=
  let w := fun i => nth k i 0
  { typ := bits (w 2) 31 29, cipher := bit (w 2) 28, parity := bit (w 2) 27, count := bits (w 2) 19 0
    seq := bits (w 1) 31 14, cells := bits (w 1) 13 0, client := bits (w 0) 31 26, context := bits (w 0) 25 20 }

/-- Avenue sequence number of a cell (R223). -/
def avenueSeq (frame cell : Nat) : Nat := frame % 2 ^ 18 * 16384 + cell

/-- The CRC-32 of IEEE 802.3 over octets (R224): least significant bit first. -/
def crc32 (l : List Byte) : Nat :=
  (l.foldl (fun r b => (List.range 8).foldl (fun r _ => if r % 2 = 1 then r / 2 ^^^ 0xEDB88320 else r / 2)
    (r ^^^ b.toNat)) 0xFFFFFFFF) ^^^ 0xFFFFFFFF

/-- Tag of a seal in cleartext: the CRC-32 over the header and the seal's cells in its least significant bits (R224). -/
def clearTag (head cells : List Byte) : List Byte := be 12 0 ++ be 4 (crc32 (head ++ cells))

/-! ## Places in the frame stream (R226, R227) -/

/-- X: stuff bits of a frame (R226). -/
def stuffBits (net plots : Nat) : Nat := net - payloadStart - plots * 2512500

/-- First bit of round `r` in the frame stream (R226). -/
def roundStart (net plots r : Nat) : Nat := payloadStart + 100 * plots * r + r * stuffBits net plots / 25125

/-- Bit of the frame stream that is bit `i` of a plot (R226). -/
def plotBit (net plots p i : Nat) : Nat := roundStart net plots (i / 100) + 100 * p + i % 100

/-- Bit of the frame stream that is bit `x` of a client's block in its plots, lowest first (R227). -/
def clientBit (net plots : Nat) (own : List Nat) (x : Nat) : Nat :=
  let k := own.length
  plotBit net plots (nth own (x / 100 % k) 0) (100 * (x / (100 * k)) + x % 100)

/-- What lies at a bit of the frame stream (R199, R226). -/
inductive StreamPlace where
  | core (word bit : Nat)
  | reserve
  | plot (p bit : Nat)
  | stuff
  deriving DecidableEq, Repr

/-- The place of bit `b` of a frame of `net` bits and P plots (R199, R226). -/
def streamPlace (net plots b : Nat) : StreamPlace :=
  if b < coreBits then .core (b / 32) (31 - b % 32)
  else if b < payloadStart ∨ plots = 0 then (if b < payloadStart then .reserve else .stuff)
  else
    let r := ((List.range 25125).filter (fun r => decide (roundStart net plots r ≤ b))).length - 1
    let x := b - roundStart net plots r
    if x < 100 * plots then .plot (x / 100) (100 * r + x % 100) else .stuff

/-- A bit of a frame before scrambling: the reserve, stuff and what no block fills are sent as zero (R199, R226). `owner`
gives a plot's place among those of its block; `block` the octets of the block that holds a plot (R227). -/
def streamBit (net plots : Nat) (core : List (Nat × Nat)) (owner : Nat → List Nat) (block : Nat → List Byte) (b : Nat) :
    Bool :=
  match streamPlace net plots b with
  | .core w i => bit ((core.find? (fun p => p.1 == w)).elim 0 (·.2)) i
  | .reserve => false
  | .stuff => false
  | .plot p i =>
    let own := owner p
    let x := 100 * (i / 100 * own.length + own.idxOf p) + i % 100
    bit (nth (block p) (x / 8) 0).toNat (7 - x % 8)

end Sys2Proof.Machine
end

