-- ==== Sys2Proof/Machine/Pool.lean ====
section
/-! DEFINITION. The decoder pool (06_decoder_pool.md): slots, engines and banks (R174 to R178), the residency budget
(R179, R180), active banks (R181), iterations and their grant (R182 to R185), erasures (R188, R189), microcode
(R190, R193), bank service (R191, R192) and reporting (R195). -/

namespace Sys2Proof.Machine

/-! ## Accessors -/

/-- The pool changed. -/
def State.setPool (s : State) (f : Pool → Pool) : State := { s with pool := f s.pool }

/-- `BankState` of a bank. -/
def State.bankSt (s : State) (b : Nat) : Nat := s.u (Obj.bankState + 256 * b)

/-- `BankState` set. -/
def State.setBankSt (s : State) (b v : Nat) : State := s.put (Obj.bankState + 256 * b) 0 v

/-- Bank of a slot (R174). -/
def bankOf (slot : Nat) : Nat := slot / 4096

/-- Codewords that hold a slot of a bank. -/
def State.inBank (s : State) (b : Nat) : List Codeword :=
  s.pool.words.filter (fun x => match x.slot with
    | some i => bankOf i == b
    | none => false)

/-- The avenue that carries in this engine's frame `n` of spare mode: the former one before a takeover frame (R366). -/
def State.carryAt (s : State) (n : Nat) : Nat :=
  if s.av.tookOver ∧ n < s.av.takeSfn then s.av.prev else s.u Obj.carryingAvenue

/-- The carrier is the standby of spare mode in this engine's present frame (R29, R187); in a takeover frame both carry
(R366). -/
def State.isStandby (s : State) (c : Carrier) : Bool :=
  s.u Obj.avenueMode == 2 && s.carryAt s.clk.sfn == c.other.inst &&
    !(s.av.tookOver && s.av.takeSfn == s.clk.sfn)

/-- Wₛ without the codewords of a standby's idle frames (R182, R187). -/
def State.wTraffic (s : State) : Nat :=
  (if s.rxStandby .a then 0 else s.wOf .a) + (if s.rxStandby .b then 0 else s.wOf .b)

/-- One microsecond in 0.01 ps. -/
abbrev microsecond : Nat := 100000000

/-! ## Engines (R176, R177) -/

/-- A codeword goes before another on a free engine (R176). -/
def Codeword.before (x y : Codeword) : Bool :=
  decide (x.iters < y.iters) || (x.iters == y.iters && (decide (x.arrived < y.arrived) ||
    (x.arrived == y.arrived && (decide (x.carrier.toNat < y.carrier.toNat) ||
      (decide (x.carrier = y.carrier) && decide (x.number < y.number))))))

/-- The same codeword. -/
def Codeword.is (x y : Codeword) : Bool :=
  decide (x.carrier = y.carrier) && x.frame == y.frame && x.number == y.number && x.trial == y.trial

/-- A codeword of the pool changed. -/
def State.setWord (s : State) (x : Codeword) (f : Codeword → Codeword) : State :=
  s.setPool (fun p => { p with words := p.words.map (fun y => if y.is x then f y else y) })

/-- The cap of iterations of a codeword (R183, R187). -/
def State.capOf (s : State) (x : Codeword) : Nat := if x.low then s.iterFloor else s.pool.cap

/-- A codeword may start an iteration: below its cap, more than 0.25 µs from its release, and below `IterFloor` once
the SF's budget is run (R177, R183). -/
def State.mayIterate (s : State) (x : Codeword) : Bool :=
  !x.running && !x.finished && decide (x.iters < s.capOf x) && decide (s.now + microsecond / 4 < x.release) &&
    (decide (s.pool.used < s.pool.budget) || decide (x.iters < s.iterFloor))

/-- One free engine of a bank takes its next codeword, if there is one. -/
def State.engineTake (s : State) (b : Nat) : State :=
  if 12 ≤ ((s.inBank b).filter (·.running)).length then s
  else
    match (s.inBank b).filter s.mayIterate with
    | [] => s
    | x :: l => s.setWord (l.foldl (fun a y => if y.before a then y else a) x) (fun y => { y with running := true })

/-- Every free engine of a bank takes a codeword. -/
def State.fillEngines (s : State) (b : Nat) : State := (List.range 12).foldl (fun s _ => s.engineTake b) s

/-! ## Arrival (R175, R178, R180, R188) -/

/-- A bank is active. -/
def State.isActive (s : State) (b : Nat) : Bool := bit (s.u Obj.activeBanks) b && s.bankSt b == 2

/-- Lowest free slot of a bank. -/
def State.freeSlot (s : State) (b : Nat) : Option Nat :=
  let used := (s.inBank b).filterMap (·.slot)
  firstFrom (4096 * b) 4096 (fun i => !used.contains i)

/-- The next active bank in rotation with a free slot, and the slot. -/
def State.nextSlot (s : State) : Option (Nat × Nat) :=
  [1, 2, 3, 4].findSome? (fun k =>
    let b := (s.pool.rot + k) % 4
    if s.isActive b then (s.freeSlot b).map (fun i => (b, i)) else none)

/-- The codeword that LLRs of group `g` make, under the loading of its frame (R171, R173, R188, R582). In state 8 every
LLR arrives as an erasure (R118). -/
def State.newWord (s : State) (c : Carrier) (g : GroupIn) (j : Nat) (llrs : List Int) : Codeword :=
  let number := 16 * g.group + j
  let load := s.frameLoading c g.frame g.trial
  let codes := s.codesOf c load
  let llrs := if s.lock c = 8 then llrs.map (fun _ => 0) else llrs
  let span := wordSpan (s.netBits c load.rate codes) (s.codewords c codes) number
  let erased := decide (codeLength < 2 * erasures llrs)
  { slot := none, carrier := c, frame := g.frame, number := number, arrived := s.now
    release := s.now + s.u Obj.residencyBudget * (microsecond / 10), iters := 0, running := false, finished := erased
    zero := false, erased := erased, low := s.rxStandby c && g.group != 0, trial := g.trial, load := load, codes := codes
    start := span.1, len := span.2, llrs := llrs, hard := hardBits llrs, bits := hardBits llrs }

/-- One codeword arrives. -/
def State.wordArrives (s : State) (c : Carrier) (g : GroupIn) (j : Nat) (llrs : List Int) : State :=
  let x := s.newWord c g j llrs
  if x.release ≤ s.pool.lastOut.get c then
    let s := s.bump (on c Obj.budgetDiscardCount)
    s.setPool (fun p => { p with discarding := p.discarding.map (fun (o, n, k) => (o, n, k + 1)) })
  else
    match s.nextSlot with
    | some (b, i) => s.setPool (fun p => { p with words := p.words ++ [{ x with slot := some i }], rot := b })
    | none =>
      let s := s.bump Obj.overflowCount
      s.setPool (fun p => { p with
        words := p.words ++ [{ x with finished := true }], overflows := p.overflows + 1 })

/-- Slots in use. -/
def State.slotsUsed (s : State) : Nat := (s.pool.words.filter (·.slot.isSome)).length

/-- CODEWORD_ARRIVE: a group is assembled, each of its codewords takes a slot (R175). The last group has the codewords
that W leaves it, and there is none behind it (R171). -/
def State.groupArrives (s : State) (c : Carrier) (g : GroupIn) : State :=
  let w := s.codewords c (s.codesOf c (s.frameLoading c g.frame g.trial))
  let s := ((g.llrs.take (groupSize w g.group)).mapIdx (fun j l => (j, l))).foldl (fun s p =>
    s.wordArrives c g p.1 p.2) s
  let s := if s.u Obj.slotsPeak < s.slotsUsed then s.put Obj.slotsPeak 0 s.slotsUsed else s
  allBanks.foldl (fun s b => s.fillEngines b) s

/-- CODEWORD_ARRIVE (R175, R178, R188). -/
def execCodewordArrive (c : Carrier) (g : GroupIn) (s : State) : Host.Outcome State Fault Refusal :=
  .next (s.groupArrives c g)

/-- A codeword after one more completed iteration: its decisions and their syndrome (R174, R177). -/
def State.iterated (s : State) (x : Codeword) : Codeword :=
  let w := Config.decoded x.load.rate x.llrs (x.iters + 1)
  let zero := syndromeZero x.load.rate w
  { x with
    running := false, iters := x.iters + 1, zero := zero, bits := w, finished := zero || decide (s.capOf x ≤ x.iters + 1) }

/-- ITERATION_COMPLETE: an engine ends an iteration of the codeword in a slot (R176, R177). -/
def execIterationEnd (slot : Nat) (s : State) : Host.Outcome State Fault Refusal :=
  .next (match s.pool.words.find? (fun x => decide (x.slot = some slot) && x.running) with
    | none => s
    | some x =>
      let b := bankOf slot
      let late := decide (x.release ≤ s.now + microsecond / 4)
      let s :=
        if late then s.setWord x (fun y => { y with running := false, finished := true })
        else
          let s := s.add64 (Obj.bankIterations + 256 * b) 0 1
          let s := s.occur 0x6081 { carrier := some x.carrier }
          let s := s.setPool (fun p => { p with used := p.used + 1 })
          s.setWord x s.iterated
      s.fillEngines b)

/-- A slot octet fails its parity (R189): the two LLRs that share it become erasures of the codeword in the slot. -/
def State.slotParity (s : State) (addr : Nat) : State :=
  let (slot, octet) := slotAt addr
  let b := bankOf slot
  let (i, k) := octetLlrs octet
  let s := match s.pool.words.find? (fun x => decide (x.slot = some slot)) with
    | none => s
    | some x => (s.bump (on x.carrier Obj.parityErasureCount)).setWord x (fun y => { y with
        llrs := setNth (setNth y.llrs i 0) k 0 })
  (s.bump (Obj.bankParityErrors + 256 * b)).logSecond 0x600A b 0 (d8 b ++ d32 addr)

/-! ## Release (R177, R178, R195) -/

/-- What a release adds to the SF's counts of its carrier. -/
def SfCount.add (k : SfCount) (zero : Bool) (corrected : Nat) : SfCount :=
  { corrected := k.corrected + (if zero then corrected else 0), zero := k.zero + b2n zero, bad := k.bad + b2n (!zero)
    all := k.all + 1 }

/-- What the pool passes on of a codeword (R177, R178): its information bits, flagged where it is uncorrected, and, of
group 0, the frame-stream bits of the overhead that they carry (R173). The framer keeps those of one frame. -/
def State.passOn (s : State) (x : Codeword) : State :=
  let info := x.bits % 2 ^ infoBits x.load.rate
  let s := s.emit (.codeword x.carrier x.frame x.number info (!x.zero))
  if 16 ≤ x.number then s
  else
    let part : HeadPart :=
      { frame := x.frame, trial := x.trial, start := x.start, len := x.len
        bits := Config.unshaped x.load.rate x.codes info % 2 ^ x.len }
    { s with frame := s.frame.upd x.carrier (fun f => { f with
        head := part :: f.head.filter (fun p => p.frame == x.frame) }) }

/-- CODEWORD_RELEASE: one residency budget after arrival the codeword leaves and its slot is freed (R24, R177). -/
def execCodewordLeaves (c : Carrier) (frame number : Nat) (trial : Bool) (s : State) :
    Host.Outcome State Fault Refusal :=
  .next (match s.pool.words.find? (fun x => decide (x.carrier = c) && x.frame == frame && x.number == number &&
      x.trial == trial && decide (x.release < s.now + 9765625)) with
    | none => s
    | some x =>
      let i := min x.iters 32
      let corrected := bitsDiffer x.bits x.hard
      let s := (s.passOn x).setPool (fun p => { p with
        words := p.words.filter (fun y => !y.is x)
        hist := modNth p.hist i (· + 1)
        cur := p.cur.upd c (fun k => k.add x.zero corrected) })
      let s := (s.add64 (on c Obj.decodedCount) 0 1).add64 Obj.iterHistogram i 1
      let s := s.occur 0x6080 { carrier := some c }
      let s := if x.zero then
          (s.add64 (on c Obj.correctedBits) 0 corrected).occurN 0x6083 corrected { carrier := some c }
        else (s.add64 (on c Obj.uncorrectedCount) 0 1).occur 0x6082 { carrier := some c }
      let s := if x.erased then s.add64 (on c Obj.erasedCount) 0 1 else s
      match x.slot with
      | some i => s.fillEngines (bankOf i)
      | none => s)

/-! ## Banks (R181, R190 to R193) -/

/-- The tests of R191 for a set of banks: 0 passed, 1 slots fail, 2 engines fail. -/
def State.serviceTest (s : State) (banks : List Nat) : Nat :=
  if 4096 * banks.length < slotsFor s.wS (s.u Obj.residencyBudget) then 1
  else if 2 * bankCapacity * banks.length < 11 * s.wS then 2
  else 0

/-- A bank that is needed and asleep is asked to wake (R181); a refusal is logged and asked again after 10 SF. -/
def State.wakeBank (s : State) (b : Nat) : State :=
  if !s.domOff (Dn.dpa + b) then s
  else
    let r := s.accessDom (Dn.dpa + b)
    if r.1 = 0 then r.2.setPool (fun p => { p with wakeRetry := p.wakeRetry.filter (fun x => x.1 != b) })
    else
      (r.2.log 0x600D (d8 b ++ d8 r.1)).setPool (fun p => { p with
        wakeRetry := (b, s.clk.sfn + 10) :: p.wakeRetry.filter (fun x => x.1 != b) })

/-- The active set of an SF (R181). -/
def State.activeSet (s : State) : State :=
  let need := s.serviceBanks.take (s.banksFor s.wS)
  let s := need.foldl (fun s b =>
    if s.pool.wakeRetry.any (fun x => x.1 == b) then s else s.wakeBank b) s
  let act := need.filter (fun b => s.awake (Dn.dpa + b) && (s.bankSt b == 1 || s.bankSt b == 2))
  let old := s.u Obj.activeBanks
  let new := maskOf act
  let s := allBanks.foldl (fun s b =>
    if act.contains b then (s.setBankSt b 2).touch (Dn.dpa + b)
    else if s.bankSt b = 2 then s.setBankSt b 1
    else s) s
  if old = new then s else (s.put Obj.activeBanks 0 new).log 0x600B (d8 old ++ d8 new)

/-- A bank drains for a reason: it takes no new codewords (R190, R191, R193). -/
def State.drain (s : State) (b : Nat) (why : Drain) : State :=
  (s.setBankSt b 3).setPool (fun p => { p with drains := setNth p.drains b why })

/-- A bank's microcode is found poisoned (R190): the bank drains and reloads it, whatever else it drains for; a load under
way is made again, and a bank that is out loads where it stands. An activation's load replaces the word. -/
def State.poolPoison (s : State) (b addr : Nat) : State :=
  let why := fun (d : Drain) => s.setPool (fun p => { p with drains := setNth p.drains b d })
  match s.bankSt b with
  | 1 => s.drain b (.poison addr)
  | 2 => s.drain b (.poison addr)
  | 3 => if nth s.pool.drains b .none = .out then why (.poisonOut addr) else s
  | 4 => if s.awake (Dn.dpa + b) then (why (.poison addr)).setBankSt b 5 else s
  | 5 => if nth s.pool.drains b .none = .wake then why (.poison addr) else s
  | _ => s

/-- A bank's load begins or, while the master copy awaits its reload, waits (R190). -/
def State.bankEmpty (s : State) (b : Nat) : State :=
  match nth s.pool.drains b .none with
  | .out => ((s.setBankSt b 4).setPool (fun p => { p with drains := setNth p.drains b .none })).log 0x6005 (d8 b)
  | .none => s
  | _ => if s.pool.masterBad then s else s.setBankSt b 5

/-- BANK_DRAINED: a draining bank's last codeword has left (R190, R191, R193). -/
def execBankDrained (b : Fin 4) (s : State) : Host.Outcome State Fault Refusal :=
  .next (if s.bankSt b = 3 ∧ (s.inBank b).isEmpty then s.bankEmpty b else s)

/-- MICROCODE_RELOAD_DONE: a load ends, and the bank takes codewords again from the next boundary (R181, R190, R193); one
out of service stays out. No load ends that waits for the master copy. -/
def execMicrocodeReloadDone (b : Fin 4) (s : State) : Host.Outcome State Fault Refusal :=
  .next (if s.bankSt b = 5 ∧ !s.pool.masterBad then
    let why := nth s.pool.drains b .none
    let s := (s.setBankSt b (if s.inService b then 1 else 4)).setPool (fun p => { p with
      drains := setNth p.drains b .none })
    match why with
    | .poison a => s.log 0x6008 (d8 b ++ d32 a)
    | .poisonOut a =>
      let s := s.log 0x6008 (d8 b ++ d32 a)
      if s.inService b then s else s.log 0x6005 (d8 b)
    | _ => s
  else s)

/-- What a `BankService` entry does at its SFN (R191); `none` while the test fails and the entry waits. -/
def State.bankServiceRun (s : State) (b v : Nat) : Option State :=
  if v = 0 then
    if !s.inService b then some s
    else if s.serviceTest (s.serviceBanks.filter (· != b)) ≠ 0 then none
    else
      let s := s.put (Obj.bankService + 256 * b) 0 0
      if s.bankSt b = 0 then some ((s.setBankSt b 4).log 0x6005 (d8 b))
      else
        let s := s.drain b .out
        some (if (s.inBank b).isEmpty then s.bankEmpty b else s)
  else if s.inService b then some s
  else
    let s := s.put (Obj.bankService + 256 * b) 0 1
    let s := if s.domOff (Dn.dpa + b) then s.setBankSt b 0 else s.setBankSt b 1
    some (s.log 0x6006 (d8 b))

/-- Status with which a `BankService` write is refused when it is accepted (R191). -/
def State.bankServiceCheck (s : State) (b v : Nat) : Nat :=
  if v = 0 ∧ s.serviceTest (s.serviceBanks.filter (· != b)) ≠ 0 then 0x0801 else 0

/-- BANK_RETURNED: after 10 SF of failing a test the engine returns the lowest bank that is out (R192). -/
def execBankReturned (s : State) : Host.Outcome State Fault Refusal :=
  .next (if 10 ≤ s.pool.failRun then
    match allBanks.find? (fun b => !s.inService b && s.bankSt b != 5 && s.bankSt b != 3) with
    | none => s
    | some b =>
      let t := s.serviceTest s.serviceBanks
      let s := s.put (Obj.bankService + 256 * b) 0 1
      let s := if s.domOff (Dn.dpa + b) then (s.setBankSt b 0).wakeBank b else s.setBankSt b 1
      (s.setPool (fun p => { p with failRun := 0 })).log 0x6007 (d8 b ++ d8 (t - 1))
  else s)

/-- BANK_WAKE_RETRY: 10 SF after a refused wake the pool asks again (R181). -/
def execBankWakeRetry (b : Fin 4) (s : State) : Host.Outcome State Fault Refusal :=
  .next (match s.pool.wakeRetry.find? (fun x => x.1 == b.val) with
    | some (_, t) =>
      if t ≤ s.clk.sfn then
        let s := s.setPool (fun p => { p with wakeRetry := p.wakeRetry.filter (fun x => x.1 != b.val) })
        if (s.serviceBanks.take (s.banksFor s.wS)).contains b.val then s.wakeBank b else s
      else s
    | none => s)

/-- DPA to DPD wakes: its microcode is reloaded from the master copy within the wake latency (R181), or, while that awaits
its own reload, after it (R190); a bank that is out stays out. -/
def State.bankWoken (s : State) (b : Nat) : State :=
  if s.pool.masterBad then
    (s.setBankSt b 5).setPool (fun p => { p with drains := setNth p.drains b .wake })
  else if s.inService b then s.setBankSt b 1
  else s.setBankSt b 4

/-- DPA to DPD sleeps (R181). -/
def State.bankSlept (s : State) (b : Nat) : State := if s.inService b then s.setBankSt b 0 else s

/-- A decoder microcode image activates: the banks in service update one per SF (R193). -/
def State.poolActivate (s : State) (slot : Nat) : State :=
  s.setPool (fun p => { p with ucode := s.serviceBanks, ucodeSlot := slot, ucodeAt := s.clk.sfn })

/-- The entry of a microcode activation, for the record of a late step (R55, R193). -/
def State.ucodeEntry (s : State) : Entry :=
  { Entry.base .imageActivation s.pool.ucodeAt with
    late := true, obj := Obj.imageActivate, mem := 4, data := [s.pool.ucodeSlot] }

/-- One step of a microcode activation at a boundary (R193): it waits, late, while a bank of it is away or the test fails.
A bank asleep has nothing to drain and loads the new image as it wakes (R181). -/
def State.ucodeStep (s : State) : State :=
  match s.pool.ucode with
  | [] => s
  | b :: l =>
    let next := fun (s : State) => s.setPool (fun p => { p with ucode := l, ucodeAt := s.clk.sfn + 1 })
    let late := fun (s : State) =>
      if s.pool.ucodeAt < s.clk.sfn then
        (s.bump Obj.lateCount).logEntry 0xE001 s.ucodeEntry (d64 s.pool.ucodeAt ++ d64 s.clk.sfn)
      else s
    let logged := fun (s : State) => s.log 0x600C (d8 b ++ d8 s.pool.ucodeSlot)
    if (List.range 4).any (fun i => decide (nth s.pool.drains i .none = .activation)) then s
    else if !s.inService b then next s
    else if s.bankSt b = 0 then next (logged (late s))
    else if s.serviceTest (s.serviceBanks.filter (· != b)) ≠ 0 then s
    else
      let s := next (logged ((late s).drain b .activation))
      if (s.inBank b).isEmpty then s.bankEmpty b else s

/-! ## Iterations and the Allotment (R182 to R185) -/

/-- Decode floor in microwatts: 100 µW per iteration per SF (R182). -/
def State.floorCost (s : State) : Nat := s.iterFloor * s.wS * 100

/-- Full iteration allowance in microwatts (R182). -/
def State.fullAllowance (s : State) : Nat :=
  min (550 * s.wTraffic) (bankCapacity * 100 * s.serviceBanks.length) - s.floorCost

/-- Iₛ of a granted allowance (R183). -/
def State.budgetOf (s : State) (grant : Nat) : Nat :=
  let i := (s.floorCost + grant) / 100
  if s.pool.wakeRetry.isEmpty then i
  else min i (bankCapacity * (allBanks.filter (fun b => bit (s.u Obj.activeBanks) b)).length)

/-- Gᵢ in 0.001 dB from n̄ = Iₛ / Wₛ (R185). -/
def gapOf (i w : Nat) : Nat :=
  if 11 * w ≤ 2 * i then 0
  else if 9 * w ≤ 2 * i then 100
  else if 4 * w ≤ i then 250
  else if 7 * w ≤ 2 * i then 450
  else if 3 * w ≤ i then 700
  else if 5 * w ≤ 2 * i then 1100
  else if 2 * w ≤ i then 1800
  else 3000

/-- Gᵢ published for both carriers (R143, R185). -/
def State.setGap (s : State) (g : Nat) : State :=
  let s := { s with load := { a := { s.load.a with iterGap := g }, b := { s.load.b with iterGap := g } } }
  (s.put (on .a Obj.iterationGap) 0 (f32OfRat g 1000)).put (on .b Obj.iterationGap) 0 (f32OfRat g 1000)

/-- Gᵢ for an allowance: 0 where it is the full request (R185). -/
def State.publishGap (s : State) (grant : Nat) : State :=
  s.setGap (if s.pool.request ≤ grant then 0 else gapOf (s.budgetOf grant) s.wS)

/-- The allowance in force or already on its way (R184). -/
def State.grantAhead (s : State) : Nat :=
  match s.pool.pendGrant with
  | some (g, _) => g
  | none => s.pool.grant

/-- The grant changes, with the SFN it takes effect (R184). -/
def State.grantLogged (s : State) (old new eff : Nat) : State :=
  let i := s.budgetOf new
  s.log 0x6002 (dW old ++ dW new ++ be 4 (f32OfRat i s.wS) ++ be 4 (f32OfRat (s.ld .a).iterGap 1000) ++ d64 eff)

/-- The granted allowance set, in the ledger too. -/
def State.setGrant (s : State) (g : Nat) : State :=
  let s := if g = 0 then s.release Act.iter 0 else s.enter Act.iter 0 g
  s.setPool (fun p => { p with grant := g, pendGrant := none })

/-- The Allotment lowers the allowance (R184): with notice it takes effect after 50 SF and the gap moves now; after a
shed on measured power it takes effect at the next boundary. The first request follows at the end of the shed hold. -/
def State.lowerGrant (s : State) (new : Nat) (notice : Bool) : State :=
  let old := s.pool.grant
  let s := s.publishGap new
  let t := s.clk.sfn + (if notice then 50 else 1)
  (s.setPool (fun p => { p with
    pendGrant := some (new, t), grantRetry := some (s.clk.sfn + sfOfMs (s.u Obj.shedHold)) })).grantLogged old new t

/-- GRANT_EFFECTIVE: a lower grant takes effect (R184). -/
def State.grantDue (s : State) : State :=
  match s.pool.pendGrant with
  | some (g, t) => if t ≤ s.clk.sfn then s.setGrant g else s
  | none => s

/-- A smaller request needs no more than itself (R182): what is granted beyond it goes back, and a lower grant that is on
its way still comes (R184). -/
def State.giveBack (s : State) : State :=
  let old := s.pool.grant
  let full := s.pool.request
  if old ≤ full then s
  else
    let pend := s.pool.pendGrant.filter (fun p => decide (p.1 < full))
    let s := (s.setGrant full).setPool (fun p => { p with pendGrant := pend })
    s.grantLogged old full s.clk.sfn

/-- The pool asks for what its full request lacks (R184). -/
def State.askGrant (s : State) : State :=
  let lack := s.pool.request - s.pool.grant
  if lack = 0 then s.setPool (fun p => { p with grantRetry := none })
  else
    let r := s.ask Act.iter 0 lack
    if r.1 = 0 then
      let old := s.pool.grant
      let s := r.2.setPool (fun p => { p with grant := p.request, grantRetry := none, pendGrant := none })
      (s.publishGap s.pool.grant).grantLogged old s.pool.grant (s.clk.sfn + 1)
    else r.2.setPool (fun p => { p with grantRetry := some (s.clk.sfn + 100) })

/-- GRANT_EFFECTIVE (R184). -/
def execGrantEffective (s : State) : Host.Outcome State Fault Refusal := .next s.grantDue

/-- GRANT_REQUEST_RETRY (R184). -/
def execGrantRequestRetry (s : State) : Host.Outcome State Fault Refusal :=
  .next (match s.pool.grantRetry with
    | some t => if t ≤ s.clk.sfn then s.askGrant else s
    | none => s)

/-- The largest cap from `IterFloor` to `IterMax` that fits the last SF's codewords in Iₛ (R183). -/
def capFor (prev : List Nat) (budget lo hi : Nat) : Nat :=
  let need := fun cap => sumNat (prev.mapIdx (fun i n => n * min i cap))
  ((List.range (hi + 1 - lo)).map (· + lo)).foldl (fun best cap => if need cap ≤ budget then cap else best) lo

/-- Floor, request, budget and cap of a new SF (R182, R183). A raise that is no longer to come holds no floor (R456). -/
def State.iterationStep (s : State) : State :=
  let s := s.grantDue
  let s := if s.floorCost = 0 then s.release Act.floor 0 else s.enter Act.floor 0 s.floorCost
  let s := [Carrier.a, Carrier.b].foldl (fun s c =>
    if (s.changes c .rx).isEmpty then s.release Act.floor (raiseItem c) else s) s
  let s := (s.setPool (fun p => { p with request := s.fullAllowance })).giveBack
  let s := if s.pool.grantRetry.isNone ∧ s.pool.pendGrant.isNone ∧ s.pool.grant < s.pool.request then s.askGrant else s
  let s := s.publishGap s.grantAhead
  let budget := s.budgetOf s.pool.grant
  let s := if s.wS = 0 then s else s.put Obj.grantedMean 0 (f32OfRat budget s.wS)
  let demand := sumNat (s.pool.hist.mapIdx (fun i n => i * n))
  let cap := capFor s.pool.hist budget s.iterFloor (s.u Obj.iterMax)
  let s := (s.put Obj.iterBudgetSf 0 budget).put Obj.iterCap 0 s.pool.cap
  let s := s.setPool (fun p => { p with
    cap := cap, prev := p.hist, hist := List.replicate 33 0, used := 0, budget := budget
    recent := ((p.used, sumNat p.hist) :: p.recent).take 10000 })
  if cap < s.u Obj.iterMax ∧ s.pool.capLog + 100 ≤ s.clk.sfn then
    (s.setPool (fun p => { p with capLog := s.clk.sfn })).log 0x6003 (d8 cap ++ d32 demand)
  else s

/-! ## Reporting (R195) -/

/-- The last second of a carrier, summed. -/
def sumCounts (l : List SfCount) : SfCount :=
  l.foldl (fun a x => { corrected := a.corrected + x.corrected, zero := a.zero + x.zero, bad := a.bad + x.bad
                        all := a.all + x.all }) { corrected := 0, zero := 0, bad := 0, all := 0 }

/-- `PreFecBer`, `UncorrectedRatio` and the alarm of a carrier at a boundary. -/
def State.poolReport (s : State) (c : Carrier) : State :=
  let s := s.setPool (fun p => { p with
    sec := p.sec.upd c (fun l => (p.cur.get c :: l).take sfPerSecond)
    cur := p.cur.set c { corrected := 0, zero := 0, bad := 0, all := 0 } })
  let k := sumCounts (s.pool.sec.get c)
  let s := (s.put (on c Obj.preFecBer) 0 (f32OfRat k.corrected (20480 * k.zero))).put (on c Obj.uncorrectedRatio) 0
    (f32OfRat k.bad k.all)
  let thr := s.u (on c Obj.uncorrectedAlarm)
  let above := k.all != 0 && ratAbove k.bad k.all thr
  let below := k.all == 0 || ratBelow k.bad k.all thr
  let data := d8 c.inst ++ be 4 (f32OfRat k.bad k.all)
  let s := if below then s else s.setPool (fun p => { p with belowFrom := p.belowFrom.set c s.clk.sfn })
  if above ∧ !s.pool.alarm.get c then (s.setPool (fun p => { p with alarm := p.alarm.set c true })).logC c 0x6001 data
  else if s.pool.alarm.get c ∧ s.pool.belowFrom.get c + 10 * sfPerSecond ≤ s.clk.sfn then
    (s.setPool (fun p => { p with alarm := p.alarm.set c false })).logC c 0x6001 data
  else s

/-- The record of a change of budget, with the codewords that it has discarded (R180). -/
def State.budgetReport (s : State) : State :=
  match s.pool.discarding with
  | some (o, n, k) => (s.log 0x6009 (d16 o ++ d16 n ++ d32 k)).setPool (fun p => { p with discarding := none })
  | none => s

/-- `ResidencyBudget` changes at its SFN (R180). -/
def State.budgetRun (s : State) (v : Nat) : State :=
  let old := s.u Obj.residencyBudget
  let last := fun c => (s.pool.words.filter (fun x => decide (x.carrier = c))).foldl (fun m x => max m x.release)
    (s.pool.lastOut.get c)
  if v = old then s
  else
    let s := (s.budgetReport.put Obj.residencyBudget 0 v).setPool (fun p => { p with
      lastOut := { a := last .a, b := last .b }, discarding := some (old, v, 0) })
    if old < v then s.budgetReport else s

/-- Status with which a value of `ResidencyBudget` is refused (R179). -/
def State.budgetCheck (s : State) (v : Nat) : Nat :=
  if 4096 * s.serviceBanks.length < slotsFor s.wS v then 0x0301 else 0

/-- The pool's work at a local boundary. -/
def State.poolBoundary (s : State) : State :=
  let s := if s.pool.overflows = 0 then s
    else (s.log 0x6004 (d16 s.pool.overflows)).setPool (fun p => { p with overflows := 0 })
  let s := (s.poolReport .a).poolReport .b
  let s := s.setPool (fun p => { p with masterBad := false })
  let s := allBanks.foldl (fun s b => if s.bankSt b = 3 ∧ (s.inBank b).isEmpty then s.bankEmpty b else s) s
  let s := s.ucodeStep.activeSet.iterationStep
  let (it, cw) := sumPairs s.pool.recent
  let s := s.put Obj.meanIterations 0 (f32OfRat it cw)
  let s := s.put Obj.slotsInUse 0 s.slotsUsed
  let s := allBanks.foldl (fun s b => s.put (Obj.bankSlotsInUse + 256 * b) 0 (s.inBank b).length) s
  let s := s.setPool (fun p => { p with
    failRun := if s.serviceTest s.serviceBanks = 0 then 0 else p.failRun + 1 })
  allBanks.foldl (fun s b => s.fillEngines b) s

end Sys2Proof.Machine
end

