-- ==== Sys2Proof/Machine/Lanes.lean ====
section
/-! DEFINITION. Host lanes (08_host_lanes.md): lanes and quads (R234 to R237), clients on lanes (R239 to R242), ledger
cost (R243), ingress fault (R246, R247), rate matching (R249, R250), generator and checker (R251 to R253). -/

namespace Sys2Proof.Machine

/-! ## Accessors (R234) -/

/-- A per-lane object's value for lane L: instance of its quad, member L mod 8. -/
def State.lane (s : State) (o l : Nat) : Nat := s.u (o + 256 * (l / 8)) (l % 8)

/-- A per-lane object's value set. -/
def State.putLane (s : State) (o l : Nat) (v : Int) : State := s.put (o + 256 * (l / 8)) (l % 8) v

/-- One lane. -/
def State.laneSt (s : State) (l : Nat) : LaneSt := nth s.lanes.lanes l LaneSt.init

/-- One lane changed. -/
def State.setLane (s : State) (l : Nat) (f : LaneSt → LaneSt) : State :=
  { s with lanes := { s.lanes with lanes := modNth s.lanes.lanes l f } }

/-- A lane changes state, and the change is logged (R247, R256). -/
def State.laneState (s : State) (l v : Nat) : State :=
  let old := s.lane Obj.laneState l
  if old = v then s else (s.putLane Obj.laneState l v).log 0x7011 (d8 l ++ d8 old ++ d8 v)

/-! ## Clients on lanes (R239 to R241) -/

/-- FirstLane and Width of a client (R239). -/
def State.run (s : State) (x : Nat) : Nat × Nat :=
  let w := s.u Obj.clientLanes x
  (bits w 12 8, bits w 3 0)

/-- The lanes of a client's run. -/
def State.runLanes (s : State) (x : Nat) : List Nat :=
  (List.range (s.run x).2).map (fun i => (s.run x).1 + i)

/-- Rate of a lane code in units of 26.5625 Gb/s (R235), for the codes a client may use. -/
def laneUnits (code : Nat) : Nat := nth [0, 1, 2, 4, 8, 0] code 0

/-- Signalling rate of a client in the same unit (R240). -/
def clientUnits (rate : Nat) : Nat := nth [0, 4, 8, 16, 32, 64] rate 0

/-- `ClientRate`. -/
def State.clientRate (s : State) (x : Nat) : Nat := s.u Obj.clientRate x

/-- First failing condition of R240, from 0 in its order; `none` when the assignment is consistent. -/
def State.failing (s : State) (x : Nat) : Option Nat :=
  let (f, w) := s.run x
  let code := s.lane Obj.laneRate f
  if w = 0 ∨ w * laneUnits code ≠ clientUnits (s.clientRate x) then some 0
  else if f % w ≠ 0 then some 1
  else if (s.runLanes x).any (fun l => s.lane Obj.laneRate l != code) then some 2
  else if (List.range 64).any (fun y => y != x && s.clientRate y != 0 &&
      (s.runLanes y).any (fun l => (s.runLanes x).contains l)) then some 3
  else none

/-- A client's assignment is consistent. -/
def State.consistent (s : State) (x : Nat) : Bool := (s.failing x).isNone

/-- The `ClientRate` that R230 sees: 0 while the assignment is not consistent (R241). -/
def State.wantedRate (s : State) (x : Nat) : Nat := if s.consistent x then s.clientRate x else 0

/-- The client that a lane belongs to. -/
def State.clientOn (s : State) (l : Nat) : Option Nat :=
  (List.range 64).find? (fun x => s.clientRate x != 0 && s.consistent x && (s.runLanes x).contains l)

/-- A client leaves ingress fault (R246). -/
def State.leaveFault (s : State) (x : Nat) : State :=
  match s.lanes.faults.find? (fun f => f.1 == x) with
  | none => s
  | some (_, cause, l) =>
    ({ s with lanes := { s.lanes with faults := s.lanes.faults.filter (fun y => y.1 != x) } }).log 0x7010
      (d8 x ++ d8 cause ++ d8 l)

/-- `ClientLaneState` of every client, and 7012h once for each that has become inconsistent (R241). -/
def State.judgeLanes (s : State) : State :=
  (List.range 64).foldl (fun s x =>
    if s.clientRate x = 0 then
      let s := { s with lanes := { s.lanes with logged := s.lanes.logged.filter (· != x) } }
      (s.leaveFault x).put Obj.clientLaneState x 0
    else
      match s.failing x with
      | some r =>
        let s := s.put Obj.clientLaneState x 1
        if s.lanes.logged.contains x then s
        else
          ({ s with lanes := { s.lanes with logged := x :: s.lanes.logged } }).log 0x7012 (d8 x ++ d8 r)
      | none =>
        let s := { s with lanes := { s.lanes with logged := s.lanes.logged.filter (· != x) } }
        s.put Obj.clientLaneState x (if s.lanes.faults.any (fun f => f.1 == x) then 2 else 3)) s

/-- A client enters ingress fault (R246). -/
def State.enterFault (s : State) (x cause l : Nat) : State :=
  if s.lanes.faults.any (fun f => f.1 == x) then s
  else
    let s := { s with lanes := { s.lanes with faults := (x, cause, l) :: s.lanes.faults } }
    (s.put Obj.clientLaneState x 2).log 0x7010 (d8 x ++ d8 cause ++ d8 l)

/-- Clients whose lanes are all in service again leave ingress fault (R246). -/
def State.leaveFaults (s : State) : State :=
  s.lanes.faults.foldl (fun s (f : Nat × Nat × Nat) =>
    if (s.runLanes f.1).all (fun l => s.lane Obj.laneState l == 4) then
      (s.leaveFault f.1).judgeLanes
    else s) s

/-- The state of a lane that starts afresh (R247, R251). -/
def State.laneStart (s : State) (l : Nat) : Nat :=
  if s.lane Obj.laneRate l = 0 ∨ s.domOff (Dn.hla + l / 8) then 0
  else if s.lane Obj.laneTest l ≠ 0 then 5
  else 1

/-! ## Rates and their cost (R242, R243) -/

/-- Ledger cost of a lane code in microwatts (R243). -/
def laneCost (code : Nat) : Nat := nth [0, 100000, 150000, 250000, 450000, 500000] code 0

/-- What a write of `LaneRate` does (R242, R243). -/
def State.laneRateEffect (s : State) (l v : Nat) : Res × State :=
  let old := s.lane Obj.laneRate l
  if (s.clientOn l).isSome then ({ code := 0x0801 }, s)
  else
    let extra := laneCost v - s.holds Act.lane l
    let r := if extra = 0 then 0 else s.judge Act.lane l extra
    if r ≠ 0 then ({ code := 0x0402 }, s.refuseCost Act.lane r extra)
    else
      let s := if laneCost v = 0 then s.release Act.lane l else s.enter Act.lane l (laneCost v)
      let s := if extra = 0 then s else s.occur 0x2080 { master := some 2 }
      let s := s.putLane Obj.laneRate l v
      let s := if old = v then s else s.laneState l (s.laneStart l)
      ({}, s.judgeLanes)

/-- LANE_RATE_WRITE (R242). -/
def execLaneRateWrite (w : Requester) (l : Fin 32) (v : Nat) (s : State) : Host.Outcome State Fault Refusal :=
  .next (s.hostWrite w 2 (Obj.laneRate + 256 * (l.val / 8)) (l.val % 8) (.num v) (fun x s => s.laneRateEffect l x.nat))

/-- What a write of `ClientLanes` does (R239, R241). -/
def State.clientLanesEffect (s : State) (x v : Nat) : Res × State := ({}, (s.put Obj.clientLanes x v).judgeLanes)

/-- CLIENT_LANES_WRITE (R241). -/
def execClientLanesWrite (w : Requester) (x : Fin 64) (v : Nat) (s : State) : Host.Outcome State Fault Refusal :=
  .next (s.hostWrite w 2 Obj.clientLanes x (.num v) (fun a s => s.clientLanesEffect x a.nat))

/-- A quad's domain is awake: its lanes start, and its reference is in use (R236, R237). -/
def State.quadWoken (s : State) (q : Nat) : State :=
  let s := s.put (Obj.quadRefState + 256 * q) 0 (if nth s.lanes.lref q false then 2 else 1)
  (List.range 8).foldl (fun s i => s.laneState (8 * q + i) (s.laneStart (8 * q + i))) s

/-- A quad's domain is off: its lanes are (R236, R243). -/
def State.quadSlept (s : State) (q : Nat) : State :=
  let s := s.put (Obj.quadRefState + 256 * q) 0 0
  (List.range 8).foldl (fun s i => s.laneState (8 * q + i) 0) s

/-! ## Lane events -/

/-- LANE_STATE_CHANGE: a lane that runs outside a test changes between states 1 to 4 and 6 (R247); state 4 needs a
client and state 6 none. -/
def execLaneStateChange (l : Fin 32) (v : Fin 7) (s : State) : Host.Outcome State Fault Refusal :=
  let old := s.lane Obj.laneState l
  let ok := old != 0 && old != 5 && v != 0 && v != 5 && (v != 4 || (s.clientOn l).isSome) &&
    (v != 6 || (s.clientOn l).isNone)
  .next (if ok then (s.laneState l v).leaveFaults else s)

/-- INGRESS_FAULT: a lane of a client's run has been out of state 4 for 3 µs (R246); cause 0 signal, 1 CDR, 2 FEC
alignment, 3 test mode, 4 quad off. -/
def execIngressFault (x : Fin 64) (cause : Fin 5) (l : Fin 32) (s : State) : Host.Outcome State Fault Refusal :=
  .next (if s.clientRate x ≠ 0 ∧ s.consistent x ∧ (s.runLanes x).contains l.val ∧ s.lane Obj.laneState l ≠ 4 then
    s.enterFault x cause l
  else s)

/-- LREF_LOST: a quad loses its reference, and its lanes move to the Belvedere clock (R237). -/
def execLrefLost (q : Fin 4) (s : State) : Host.Outcome State Fault Refusal :=
  .next (if nth s.lanes.lref q false then s
  else
    let s := { s with lanes := { s.lanes with lref := setNth s.lanes.lref q true } }
    if s.u (Obj.quadRefState + 256 * q) = 1 then
      (s.put (Obj.quadRefState + 256 * q) 0 2).log 0x7015 (d8 q)
    else s)

/-- LREF_RESTORED: the reference has been valid for 1 s, and the lanes return to it (R237). -/
def execLrefRestored (q : Fin 4) (s : State) : Host.Outcome State Fault Refusal :=
  .next (if nth s.lanes.lref q false then
    let s := { s with lanes := { s.lanes with lref := setNth s.lanes.lref q false } }
    if s.u (Obj.quadRefState + 256 * q) = 2 then
      (s.put (Obj.quadRefState + 256 * q) 0 1).log 0x7015 (d8 q)
    else s
  else s)

/-- Bits of a lane code in one SF (R235). -/
def laneBits (code : Nat) : Nat := nth [0, 2656250, 5312500, 10625000, 21250000, 22687500] code 0

/-- What one SF leaves of an injection (R253). -/
def LaneSt.inverted (y : LaneSt) (code : Nat) : LaneSt := { y with inject := y.inject - laneBits code / y.spacing }

/-- A lane's figures of one superframe (R244, R245, R252, R253). -/
def State.laneBoundary (s : State) (x : LaneIn) : State :=
  let l := x.lane.val
  if s.lane Obj.laneState l = 0 then s
  else
    let o := Obj.laneSymbolErrors + 256 * (l / 8)
    let s := (s.add64 o (l % 8) x.symbols).setLane l (fun y => y.inverted (s.lane Obj.laneRate l))
    let s := (s.putLane Obj.lanePreFecBer l x.ber).putLane Obj.laneRxPpm l x.ppm
    let ber := f32Ratio x.ber
    let thr := s.u Obj.laneBerAlarm
    let since := fun (t : Option Nat) (holds : Bool) => if holds then some (t.getD s.clk.sfn) else none
    let s := s.setLane l (fun y => { y with
      overAt := since y.overAt (ratAbove ber.1 ber.2 thr), underAt := since y.underAt (ratBelow ber.1 ber.2 thr) })
    let t := s.lane Obj.laneTest l
    if (s.laneSt l).sync ∧ 2 ≤ t ∧ t ≤ 4 then
      (s.add64 (Obj.laneCheckBits + 256 * (l / 8)) (l % 8) x.bits).add64 (Obj.laneCheckErrors + 256 * (l / 8)) (l % 8)
        x.errors
    else s

/-- A time of some seconds has passed since an SFN. -/
def State.lasted (s : State) (at? : Option Nat) (seconds : Nat) : Bool :=
  match at? with
  | some t => decide (t + seconds * sfPerSecond ≤ s.clk.sfn)
  | none => false

/-- LANE_BER_ALARM: the BER has stayed above, or below, the alarm for 10 s (R245). -/
def execLaneBerAlarm (l : Fin 32) (s : State) : Host.Outcome State Fault Refusal :=
  let x := s.laneSt l
  let data := d8 l ++ be 4 (s.lane Obj.lanePreFecBer l)
  .next (if x.alarm = false ∧ s.lasted x.overAt 10 then
    (s.setLane l (fun y => { y with alarm := true })).log 0x7013 data
  else if x.alarm ∧ s.lasted x.underAt 10 then
    (s.setLane l (fun y => { y with alarm := false })).log 0x7013 data
  else s)

/-- 64b/66b blocks that rate matching leaves of a client's superframe: at ingress exactly those of the 257b blocks of its
frame (R219, R221), at egress what the lane takes (R249). -/
def State.blocksWanted (s : State) (x : Nat) (b : BlockIn) : Nat :=
  if b.egress then b.wanted
  else if s.clientRate x = 0 then b.blocks
  else 4 * rateBlocks (s.clientRate x) s.clk.sfn

/-- HOST_BLOCK_RECEIVED: rate matching deletes or inserts idles so that the count is exactly met; with too few idles to
delete it drops the rest of a frame (R219, R249, R250). -/
def execHostBlockReceived (x : Fin 64) (b : BlockIn) (s : State) : Host.Outcome State Fault Refusal :=
  .next (
    let want := s.blocksWanted x b
    let surplus := b.blocks - want
    let deleted := min surplus b.idles
    let inserted := want - b.blocks
    let s := if b.egress then s
      else
        let s := (s.add64 Obj.clientDeleteCount x deleted).add64 Obj.clientInsertCount x inserted
        (s.put Obj.clientPpm x (max (-20000) (min 20000 b.ppm))).add64 Obj.clientFecUncorrected x b.badRs
    let s := s.occurN 0x7084 (deleted + inserted) { cls := some (s.clsOf x) }
    if deleted < surplus then (s.bump Obj.rateMatchDrops x).logSecond 0x7014 x 0 (d8 x ++ d8 (b2n b.egress)) else s)

/-! ## Generator and checker (R251 to R253) -/

/-- What a write of `LaneTest` does (R251, R252). -/
def State.laneTestEffect (s : State) (l v : Nat) : Res × State :=
  let s := s.putLane Obj.laneTest l v
  let s := (s.putLane Obj.laneCheckBits l 0).putLane Obj.laneCheckErrors l 0
  let s := s.setLane l (fun y => { y with sync := false })
  ({}, s.laneState l (s.laneStart l))

/-- LANE_TEST_WRITE (R251). -/
def execLaneTestWrite (w : Requester) (l : Fin 32) (v : Nat) (s : State) : Host.Outcome State Fault Refusal :=
  .next (s.hostWrite w 2 (Obj.laneTest + 256 * (l.val / 8)) (l.val % 8) (.num v) (fun x s => s.laneTestEffect l x.nat))

/-- The checker of a lane runs (R251). -/
def State.checking (s : State) (l : Nat) : Bool :=
  s.lane Obj.laneState l == 5 && decide (2 ≤ s.lane Obj.laneTest l) && decide (s.lane Obj.laneTest l ≤ 4)

/-- CHECKER_SYNC_LOST (R252); `errors` in the window of 10,000 bits. -/
def execCheckerSyncLost (l : Fin 32) (errors : Nat) (s : State) : Host.Outcome State Fault Refusal :=
  .next (if s.checking l ∧ (s.laneSt l).sync ∧ 100 < errors then
    (s.setLane l (fun y => { y with sync := false })).log 0x7016 (d8 l ++ d16 errors)
  else s)

/-- CHECKER_GAINS_SYNC: 256 bits without an error (R252). -/
def execCheckerGainsSync (l : Fin 32) (s : State) : Host.Outcome State Fault Refusal :=
  .next (if s.checking l then s.setLane l (fun y => { y with sync := true }) else s)

/-- `LaneInject` at its SFN (R253): Count 0 stops an injection, and one with the generator off changes nothing. -/
def State.laneInjectRun (s : State) (l v : Nat) : State :=
  let s := s.putLane Obj.laneInject l v
  let t := s.lane Obj.laneTest l
  let on? := t == 1 || t == 3 || t == 4
  s.setLane l (fun y => { y with inject := if on? then bits v 31 16 else 0, spacing := bits v 15 0 })

end Sys2Proof.Machine
end

