-- ==== Sys2Proof/Machine/Cipher.lean ====
section
/-! DEFINITION. The link cipher (09_link_cipher.md): contexts and their states (R257 to R259), keys (R260 to R262),
counters (R263 to R268), rolls (R269 to R275), on and off (R276, R277), the inverse check (R278, R279), seals (R280,
R283), cost (R284); and the end of a Grotto request (R298, R300). -/

namespace Sys2Proof.Machine

/-! ## Contexts -/

/-- The fill context (R257). -/
abbrev fillCtx : Nat := 64

/-- The cipher of a carrier changed. -/
def State.setCi (s : State) (c : Carrier) (f : CipherSt → CipherSt) : State := { s with ciph := s.ciph.upd c f }

/-- The contexts of a direction. -/
def CipherSt.dir (x : CipherSt) : Dir → List Ctx
  | .tx => x.tx
  | .rx => x.rx

/-- One context. -/
def State.ctx (s : State) (c : Carrier) (d : Dir) (k : Nat) : Ctx := nth ((s.ciph.get c).dir d) k Ctx.init

/-- Objects of a direction: state, epoch, counter. -/
def ctxObjs : Dir → Nat × Nat × Nat
  | .tx => (Obj.txContextState, Obj.txEpoch, Obj.txCellCounter)
  | .rx => (Obj.rxContextState, Obj.rxEpoch, Obj.rxCellCounter)

/-- State of a context (R259). -/
def Ctx.code (x : Ctx) (suspended : Bool) : Nat :=
  if !x.on then 0
  else if x.stopped then 3
  else if x.key.isNone then 2
  else if suspended then 4
  else 1

/-- The state of a context as its carrier stands; a receive context sees no suspension (R279). -/
def State.ctxCode (s : State) (c : Carrier) (d : Dir) (k : Nat) : Nat :=
  (s.ctx c d k).code (decide (d = .tx) && (s.ciph.get c).suspended)

/-- State, epoch and counter shown in the dictionary (R288). -/
def State.showCtx (s : State) (c : Carrier) (d : Dir) (k : Nat) : State :=
  let (st, ep, ec) := ctxObjs d
  let x := s.ctx c d k
  ((s.put (on c st) k (s.ctxCode c d k)).put (on c ep) k x.epoch).put (on c ec) k x.e

/-- One context changed, and shown. -/
def State.setCtx (s : State) (c : Carrier) (d : Dir) (k : Nat) (f : Ctx → Ctx) : State :=
  (s.setCi c (fun x => match d with
    | .tx => { x with tx := modNth x.tx k f }
    | .rx => { x with rx := modNth x.rx k f })).showCtx c d k

/-- Numbers of all contexts of a direction. -/
def allCtx : List Nat := List.range 65

/-- Octet of a direction in the records of R289: 0 transmit, 1 receive. -/
def ctxDir : Dir → Nat
  | .tx => 0
  | .rx => 1

/-- A record of the link cipher (R289): direction and context first. -/
def State.logCtx (s : State) (c : Carrier) (d : Dir) (k code : Nat) (data : List Byte) : State :=
  s.logC c code (d8 (ctxDir d) ++ d8 k ++ data)

/-! ## Cells (R221, R224, R263) -/

/-- Cells that a context advances by in a frame of a map and plot capacity (R263). A standby's clients do not. -/
def State.cellsOf (s : State) (c : Carrier) (d : Dir) (m : CMap) (plots k : Nat) : Nat :=
  if k = fillCtx then fillCells (plots - m.inUse)
  else if bit m.carried k && !(if d = .tx then s.isStandby c else s.rxStandby c) then rateCells (nth m.sizes k 0)
  else 0

/-! ## Keys (R260 to R262) -/

/-- This engine is the lower end of a carrier's link (R49, R258, R310): by address, then by serial. -/
def State.isLower (s : State) (c : Carrier) : Bool :=
  let own := s.u Obj.deviceAddress
  let far := bits ((assocGet (s.fr c).core 4).getD 0) 31 19
  decide (own < far) ||
    (own == far && decide (ofBe (s.o Obj.deviceSerial) < ofBe (s.o (on c Obj.peerSerial))))

/-- Direction octet of a label (R258): 0 from the lower to the higher end. -/
def State.labelDir (s : State) (c : Carrier) (d : Dir) : Nat :=
  if s.isLower c = decide (d = .tx) then 0 else 1

/-- The roots of a carrier. -/
def State.rt (s : State) (c : Carrier) : RootSt := s.grot.roots.get c

/-- The roots of a carrier changed. -/
def State.setRt (s : State) (c : Carrier) (f : RootSt → RootSt) : State :=
  s.setGr (fun g => { g with roots := g.roots.upd c f })

/-- The slot and identity of a root a carrier holds, by RootId. -/
def State.rootOf (s : State) (c : Carrier) (id : Nat) : Option (Nat × Nat × List Byte) :=
  match (s.rt c).cur, (s.rt c).next with
  | some x, some y => if x.2.1 = id then some x else if y.2.1 = id then some y else none
  | some x, none => if x.2.1 = id then some x else none
  | none, some y => if y.2.1 = id then some y else none
  | none, none => none

/-- The label of an epoch's key (R260). -/
def State.label (s : State) (c : Carrier) (d : Dir) (k epoch : Nat) (identity : List Byte) : List Byte :=
  fit 16 identity ++ be 1 c.toNat ++ be 1 (s.labelDir c d) ++ be 1 k ++ be 1 0 ++ be 2 epoch ++ be 2 0

/-- The key and salt of an epoch under a root key (R260). -/
def State.epochKey (s : State) (c : Carrier) (d : Dir) (k epoch : Nat) (identity root : List Byte) : List Byte :=
  Config.kmac256 38 root (s.label c d k epoch identity) (ascii "TH6400 LINK")

/-- The Grotto is asked for the key of an agreed epoch (R262). -/
def State.askKey (s : State) (c : Carrier) (d : Dir) (k epoch root : Nat) : State :=
  match s.rootOf c root with
  | none => s
  | some (slot, _, _) =>
    s.submit { master := 2, typ := 5, slot := slot, gen := 0, outSlot := 0, tag := 0, src := (0, 24), dst := (0, 38)
               par := (0, 11), cls := 0, unit := none, use := .derive c d k epoch root }

/-- A derived key arrives: for the epoch in force, which then runs, or for the next one (R274). -/
def State.keyArrives (s : State) (c : Carrier) (d : Dir) (k epoch root : Nat) (key : List Byte) : State :=
  s.setCtx c d k (fun x =>
    if x.epoch = epoch ∧ x.root = root then { x with key := some key, poison := false }
    else match x.next with
      | some (e, r, _) => if e = epoch ∧ r = root then { x with next := some (e, r, some key) } else x
      | none => x)

/-- The octets that a quote signs (R307). -/
def State.quoteBody (s : State) (nonce : List Byte) (mask : Nat) : List Byte :=
  let flags := b2n (s.u Obj.timeQuality != 1) + 2 * b2n s.grot.lost + 4 * b2n ((s.slot 3).typ == 4)
  ascii "THQT" ++ be 1 1 ++ be 1 flags ++ be 2 mask ++ fit 16 (s.o Obj.deviceSerial) ++ be 8 s.clk.sfn ++
    be 2 (s.u Obj.deviceAddress) ++ List.replicate 30 0 ++ fit 32 nonce ++
    (((List.range 16).filter (bit mask)).map (fun i => fit 64 (nth s.grot.regs i []))).flatten

/-- A request is for a quote. -/
def isQuote : GUse → Bool
  | .quote _ _ => true
  | _ => false

/-- REQUEST_COMPLETION: a unit ends its request (R298, R300, R301). -/
def execRequestCompletion (u : Fin 4) (check : PathCheck) (s : State) : Host.Outcome State Fault Refusal :=
  .next (match s.grot.queue.find? (fun r => decide (r.unit = some u.val)) with
    | none => s
    | some r =>
      let leave := fun (s : State) => s.setGr (fun g => { g with queue := modFirst r (fun _ => []) g.queue })
      let failed := fun (s : State) =>
        let s := (s.bump Obj.compareMismatchCount).log 0x900A (d8 u ++ d8 r.typ ++ d8 r.master)
        ((leave s).complete r 7).useFailed r 7
      let s := match check with
        | .differ => failed s
        | .differFails test =>
          let s := (failed s).setGr (fun g => { g with out := u :: g.out })
          let s := ((s.showUnit u 2).release Act.grotto u).log 0x900B (d8 u ++ d8 test)
          (s.abortWhere (fun x => (unitsFor x.typ).all (fun v => s.grot.out.contains v)) 7).2
        | .agree =>
          match r.use with
          | .plain =>
            let a := s.result r
            (leave a.2).complete r a.1
          | .derive c d k epoch root =>
            let s := (leave s).complete r 0
            match s.rootOf c root with
            | none => s
            | some (_, _, identity) =>
              s.keyArrives c d k epoch root (s.epochKey c d k epoch identity (s.keyFor r))
          | .quote nonce mask =>
            let body := s.quoteBody nonce mask
            let (rnd, s) := s.random 40
            let sig := fit 1280 (Config.prim Config.falconSign [s.keyFor r, body, rnd])
            let s := (leave s).complete r 0
            let newer := s.grot.queue.any (fun x => isQuote x.use)
            let s := if newer then s else s.setGr (fun g => { g with quote := some (body ++ sig) })
            s.log 0x9006 (d16 mask)
      (s.settleSlot r.slot).startUnits)

/-! ## Ledger (R284, R285) -/

/-- Ledger item of a context. -/
def ctxItem (c : Carrier) (d : Dir) (k : Nat) : Nat := (c.toNat * 2 + ctxDir d) * 128 + k

/-- Cost of a client context by `ClientRate` code, in microwatts: 1.00 W per Tb/s to send, 0.55 to receive (R284). -/
def ctxCost (d : Dir) (rate : Nat) : Nat :=
  ratePlots rate / 4 * (match d with
    | .tx => 100000
    | .rx => 55000)

/-- `CipherLedger` shown. -/
def State.showCipherCost (s : State) : State :=
  let w := ledgerSum (s.pow.ledger.filter (fun x => x.act == Act.cipher))
  s.put Obj.cipherLedger 0 (f32OfRat w 1000000)

/-- A context's cost is asked for; a refusal is logged (R277, R285). Answers the ledger's reason. -/
def State.askCtx (s : State) (c : Carrier) (d : Dir) (k rate : Nat) : Nat × State :=
  let want := ctxCost d rate
  let have? := s.holds Act.cipher (ctxItem c d k)
  if want ≤ have? then (0, s)
  else
    let r := s.ask Act.cipher (ctxItem c d k) (want - have?)
    if r.1 = 0 then (0, r.2.showCipherCost) else (r.1, r.2.logCtx c d k 0x800B (d8 r.1))

/-- A context's cost leaves the ledger (R284). -/
def State.releaseCtx (s : State) (c : Carrier) (d : Dir) (k : Nat) : State :=
  (s.release Act.cipher (ctxItem c d k)).showCipherCost

/-! ## Rolls (R269 to R275) -/

/-- A roll of a context is in the table. -/
def State.rollPending (s : State) (c : Carrier) (d : Dir) (k : Nat) : Bool :=
  s.clk.entries.any (fun e => decide (e.kind = .keyRoll) && decide (e.carrier = some c) && decide (e.dir = d) &&
    e.key == k)

/-- Body of a roll's proposal (R270). -/
def rollBody (k : Nat) (newRoot : Bool) (reason epoch root : Nat) : List Byte :=
  be 4 (k * 2 ^ 25 + b2n newRoot * 2 ^ 24 + reason * 2 ^ 21 + epoch) ++ be 8 root

/-- What the next roll of a context rolls to: epoch, RootId, whether the root is new; `none` where it can go nowhere
(R261, R314). -/
def State.rollGoal (s : State) (c : Carrier) (d : Dir) (k : Nat) : Option (Nat × Nat × Bool) :=
  let x := s.ctx c d k
  match (s.rt c).next with
  | some (_, id, _) =>
    if id ≠ x.root ∧ (s.rt c).install ≤ s.clk.sfn then some (0, id, true)
    else if x.epoch < 65535 then some (x.epoch + 1, x.root, false) else none
  | none => if x.epoch < 65535 then some (x.epoch + 1, x.root, false) else none

/-- A roll is proposed as soon as it can be (R269, R272); until then the wish stands. -/
def State.tryRoll (s : State) (c : Carrier) (d : Dir) (k : Nat) : State :=
  let x := s.ctx c d k
  match x.want, s.rollGoal c d k with
  | some reason, some (epoch, root, new) =>
    if s.rollPending c d k ∨ root = 0 then s
    else
      let reason := if new ∧ reason ≠ 4 then 3 else reason
      let e := { Entry.base .keyRoll (s.leadSfn c) with dir := d, key := k, data := [epoch, root, reason, b2n new] }
      let p := s.proposeEngine c e (fun _ => rollBody k new reason epoch root)
      match p.1 with
      | some _ => p.2.setCtx c d k (fun x => { x with want := none })
      | none => if s.lineUp c then p.2.setCtx c d k (fun x => { x with want := none }) else p.2
  | _, _ => s

/-- A roll is armed (R269): reason 0 interval, 1 epoch ending, 2 host, 3 new root, 4 restart. -/
def State.armRoll (s : State) (c : Carrier) (d : Dir) (k reason : Nat) : State :=
  if s.rollPending c d k ∨ (s.ctx c d k).want.isSome then s
  else (s.setCtx c d k (fun x => { x with want := some reason })).tryRoll c d k

/-- Status with which a roll proposal is refused by its contents (R271). -/
def State.checkRoll (s : State) (c : Carrier) (d : Dir) (k epoch root : Nat) (new : Bool) : Nat :=
  let x := s.ctx c d k
  if (!new && epoch ≠ x.epoch + 1) || (new && epoch ≠ 0) then 0x0301
  else if (s.rootOf c root).isNone then 0x0502
  else 0

/-- A roll is agreed: the Grotto is asked for its key (R262). -/
def State.rollAgreed (s : State) (c : Carrier) (d : Dir) (k epoch root : Nat) : State :=
  (s.setCtx c d k (fun x => { x with next := some (epoch, root, none) })).askKey c d k epoch root

/-- Every context that is on has left the old root in a direction (R314). -/
def State.dirMoved (s : State) (c : Carrier) (d : Dir) (id : Nat) : Bool :=
  allCtx.all (fun k => !(s.ctx c d k).on || (s.ctx c d k).root == id)

/-- Contexts that are off take epoch 0 of the new root once a direction has moved; once both have, the new root becomes
current and the old slot is erased (R314). -/
def State.migrate (s : State) (c : Carrier) : State :=
  match (s.rt c).next with
  | none => s
  | some (slot, id, identity) =>
    let settle := fun (s : State) (d : Dir) =>
      if s.dirMoved c d id then
        allCtx.foldl (fun s k =>
          if (s.ctx c d k).on ∨ (s.ctx c d k).root = id then s
          else s.setCtx c d k (fun x => { x with epoch := 0, e := 0, root := id, key := none, next := none })) s
      else s
    let s := settle (settle s .tx) .rx
    if (s.rt c).install ≤ s.clk.sfn ∧ s.dirMoved c .tx id ∧ s.dirMoved c .rx id then
      match (s.rt c).cur with
      | none => s
      | some (old, oldId, _) =>
        let s := s.setRt c (fun r => { r with cur := some (slot, id, identity), next := none, since := r.install })
        let s := ((s.put (on c Obj.rootId) 0 id).putO (on c Obj.linkIdentity) 0 identity).eraseSlot old
        (s.put (on c Obj.agreementState) 0 0).log 0x9009 (d8 c.inst ++ d64 oldId ++ d64 id)
    else s

/-- A roll applies to a context at its SFN (R273, R275). -/
def State.applyRoll (s : State) (c : Carrier) (d : Dir) (k epoch root reason : Nat) : State :=
  let x := s.ctx c d k
  if !x.on then
    let s := s.setCtx c d k (fun x => { x with next := none })
    ((s.bump (on c Obj.rollCancelCount)).logCtx c d k 0x8009 (d64 s.clk.sfn))
  else
    let key := match x.next with
      | some (e, r, y) => if e = epoch ∧ r = root then y else none
      | none => none
    let s := s.setCtx c d k (fun x => { x with
      epoch := epoch, root := root, e := 0, carried := 0, ending := false, stopped := false, key := key, next := none
      badRun := 0, want := none })
    let s := if d = .tx then s.bump (on c Obj.rollCount) k else s
    let s := s.logCtx c d k 0x8002 (d16 x.epoch ++ d16 epoch ++ d8 reason ++ d64 root)
    let s := if key.isNone then s.logCtx c d k 0x800A (d8 0 ++ d8 0) else s
    s.migrate c

/-- ROLL_INTERVAL: a context has been carried for `RollInterval` SF in its epoch (R269). -/
def execRollInterval (c : Carrier) (k : Fin 65) (s : State) : Host.Outcome State Fault Refusal :=
  .next (if s.u Obj.rollInterval ≤ (s.ctx c .tx k).carried ∧ (s.ctx c .tx k).on then s.armRoll c .tx k 0 else s)

/-- What a write of `ContextRoll` does (R269). -/
def State.contextRollEffect (s : State) (c : Carrier) (k : Nat) : Res × State := ({}, s.armRoll c .tx k 2)

/-- CONTEXT_ROLL (R269). -/
def execContextRoll (w : Requester) (c : Carrier) (k : Nat) (s : State) : Host.Outcome State Fault Refusal :=
  .next (s.hostWrite w 2 (on c Obj.contextRoll) 0 (.num k) (fun x s => s.contextRollEffect c x.nat))

/-! ## On and off (R276, R277) -/

/-- A context is on or off from now on: one that comes on asks for its key where it holds none, one that goes off frees
what it holds. -/
def State.turnCtx (s : State) (c : Carrier) (d : Dir) (k : Nat) (v : Bool) : State :=
  if (s.ctx c d k).on = v then s
  else
    let s := s.setCtx c d k (fun x => { x with on := v })
    if v then
      (if (s.ctx c d k).key.isNone ∧ (s.ctx c d k).root ≠ 0 then
        s.askKey c d k (s.ctx c d k).epoch (s.ctx c d k).root
      else s)
    else s.releaseCtx c d k

/-- A context is turned on or off by its entry (R276): 8001h. -/
def State.setOn (s : State) (c : Carrier) (d : Dir) (k : Nat) (v : Bool) : State :=
  if (s.ctx c d k).on = v then s
  else (s.turnCtx c d k v).logCtx c d k 0x8001 (d8 (b2n v) ++ d64 s.clk.sfn)

/-- A carrier is configured to carry a client (R230, R276). -/
def State.configured (s : State) (c : Carrier) (x : Nat) : Bool :=
  s.wantedRate x != 0 && (s.u Obj.avenueMode != 0 || s.u Obj.clientCarrier x == c.toNat)

/-- The carriers that a setting of a client's context concerns. -/
def State.ctxCarriers (s : State) (x : Nat) : List Carrier :=
  [Carrier.a, Carrier.b].filter (fun c => bit (s.fr c).txMap.carried x || s.configured c x)

/-- Body of an on or off proposal (R276). -/
def onBody (k : Nat) (v : Bool) : List Byte := be 4 (k * 2 ^ 25 + b2n v * 2 ^ 24)

/-- What a scheduled write of `ContextEnable` does when it is accepted (R276, R277). -/
def State.contextEnableEffect (s : State) (w : Requester) (x : Nat) (v : Bool) (t : Target) : Res × State :=
  let cs := s.ctxCarriers x
  if cs.isEmpty then
    let s := s.put Obj.contextEnable x (b2n v)
    ({}, [Carrier.a, Carrier.b].foldl (fun s c => s.setOn c .tx x v) s)
  else
    let noRoot := v && cs.any (fun c => (s.rt c).cur.isNone)
    let asleep := v && s.domOff Dn.cip && decide ((if t.relative then t.sfn else t.sfn - s.clk.sfn) < s.wakeSf Dn.cip)
    let extra := [if asleep then 0x0501 else 0, if noRoot then 0x0801 else 0]
    let (n, s1) := s.newWrite
    let one := fun (a : Res × State) (c : Carrier) =>
      if a.1.code ≠ 0 then a
      else
        let e := { Entry.base .contextSwitch t.sfn with
          dir := .tx, key := x, obj := Obj.contextEnable, mem := x, val := .num (b2n v), data := [b2n v], write := n }
        a.2.hostPropose w c t e (fun _ => onBody x v) extra
    let r := cs.foldl one ({}, s1)
    if r.1.code ≠ 0 then (r.1, s)
    else if v then
      let cost := cs.foldl (fun (a : Nat × State) c =>
        if a.1 ≠ 0 then a else a.2.askCtx c .tx x (s.wantedRate x)) (0, r.2)
      if cost.1 ≠ 0 then
        ({ code := 0x0402 }, (cs.foldl (fun (a : Nat × State) c =>
          if a.1 ≠ 0 then a else a.2.askCtx c .tx x (s.wantedRate x)) (0, s)).2)
      else (r.1, cost.2)
    else r

/-- CONTEXT_ENABLE (R276). -/
def execContextEnable (w : Requester) (x : Fin 64) (v : Nat) (t : Target) (s : State) :
    Host.Outcome State Fault Refusal :=
  .next (s.hostWrite w 3 Obj.contextEnable x (.num v) (fun a s => s.contextEnableEffect w x (a.nat == 1) t))

/-- Status with which an on or off proposal is refused by its contents (R276, R285), and the state with the receive
cost held. -/
def State.checkOn (s : State) (c : Carrier) (d : Dir) (k : Nat) (v : Bool) : Nat × State :=
  if 64 ≤ k then (0x0301, s)
  else if v then
    let r := s.askCtx c d k (nth (s.mapOf c d).sizes k 0)
    (if r.1 = 0 then 0 else 0x0402, r.2)
  else (0, s)

/-! ## Counters (R263, R264, R268) -/

/-- Epoch ending is raised for a context (R268). -/
def State.endingCheck (s : State) (c : Carrier) (k : Nat) : State :=
  let x := s.ctx c .tx k
  if x.on ∧ !x.ending ∧ 2 ^ 40 - 2 ^ 32 ≤ x.e then
    ((s.setCtx c .tx k (fun x => { x with ending := true })).logCtx c .tx k 0x8003 (d64 x.e)).armRoll c .tx k 1
  else s

/-- The counters of a direction pass some frames under one map (R263, R264); a counter that would pass 2⁴⁰ stays at its
last value (R268). -/
def State.countersPass (s : State) (c : Carrier) (d : Dir) (m : CMap) (plots frames : Nat) : State :=
  allCtx.foldl (fun s k =>
    let x := s.ctx c d k
    let n := s.cellsOf c d m plots k
    if x.on ∧ !x.stopped ∧ n ≠ 0 then
      let f := min frames ((2 ^ 40 - x.e) / n)
      s.setCtx c d k (fun x => { x with e := x.e + f * n, carried := x.carried + f })
    else s) s

/-- A context whose counter cannot hold the frame that begins stops (R268). -/
def State.stopCheck (s : State) (c : Carrier) (d : Dir) (m : CMap) (plots : Nat) : State :=
  allCtx.foldl (fun s k =>
    let x := s.ctx c d k
    if x.on ∧ !x.stopped ∧ 2 ^ 40 < x.e + s.cellsOf c d m plots k then
      let s := s.setCtx c d k (fun x => { x with stopped := true })
      if d = .tx then s.logCtx c d k 0x8004 (d64 x.e ++ d16 x.epoch) else s
    else s) s

/-- Maintenance blocks of a frame, counted (R224, R259, R288). -/
def State.maintenance (s : State) (c : Carrier) : State :=
  (s.fr c).txMap.clients.foldl (fun s k =>
    if 2 ≤ s.ctxCode c .tx k then s.add64 (on c Obj.maintenanceCount) k 1 else s) s

/-- The transmit contexts over the frame that ends, before the entries of the next run. -/
def State.cipherPass (s : State) (c : Carrier) : State :=
  let s := s.countersPass c .tx (s.fr c).txMap (s.u (on c Obj.txPlotCapacity)) 1
  allCtx.foldl (fun s k => s.endingCheck c k) s

/-- The transmit contexts as a frame begins, after its entries. -/
def State.cipherFrame (s : State) (c : Carrier) : State :=
  let s := s.stopCheck c .tx (s.fr c).txMap (s.u (on c Obj.txPlotCapacity))
  let s := allCtx.foldl (fun s k => if (s.ctx c .tx k).want.isSome then s.tryRoll c .tx k else s) s
  let s := allCtx.foldl (fun s k =>
    [Dir.tx, Dir.rx].foldl (fun s d =>
      let x := s.ctx c d k
      if x.poison then (s.setCtx c d k (fun x => { x with poison := false })).askKey c d k x.epoch x.root else s) s) s
  s.maintenance c

/-! ## The inverse check (R278, R279) -/

/-- What the inverse check of a SF found: contexts and seal numbers that failed, and whether the known-answer vectors
passed. -/
def State.inverseChecks (s : State) (c : Carrier) (bad : List (Nat × Nat)) (vectors : Bool) : State :=
  let s := bad.foldl (fun s p => s.bump (on c Obj.inverseMismatchCount) p.1) s
  let firsts := allCtx.filterMap (fun k => bad.find? (fun p => p.1 == k))
  let s := firsts.foldl (fun s p => s.logCtx c .tx p.1 0x8005 (d16 p.2)) s
  let x := s.ciph.get c
  if x.suspended then s.setCi c (fun x => { x with clean := if bad.isEmpty ∧ vectors then x.clean + 1 else 0 })
  else
    let run := if bad.isEmpty then 0 else x.badSf + 1
    let s := s.setCi c (fun x => { x with badSf := run })
    if 3 ≤ run then
      let s := s.setCi c (fun x => { x with suspended := true, clean := 0 })
      (allCtx.foldl (fun s k => s.showCtx c .tx k) s).logC c 0x8006 (d8 0 ++ d8 0 ++ d8 4)
    else s

/-- TRANSMIT_RESUME: after 100 clean SF the contexts return to on (R279). -/
def execTransmitResume (c : Carrier) (s : State) : Host.Outcome State Fault Refusal :=
  .next (if (s.ciph.get c).suspended ∧ 100 ≤ (s.ciph.get c).clean then
    let s := s.setCi c (fun x => { x with suspended := false, badSf := 0, clean := 0 })
    (allCtx.foldl (fun s k => s.showCtx c .tx k) s).logC c 0x8006 (d8 0 ++ d8 0 ++ d8 1)
  else s)

/-! ## Seals (R220, R224, R265, R266, R280) -/

/-- The IV of a seal (R265). -/
def sealIv (salt : List Byte) (k e : Nat) : List Byte := fit 6 salt ++ be 1 k ++ be 5 e

/-- The additional data of a seal (R266): the header, then the avenue sequence number of each cell (R223). -/
def sealAad (header : List Byte) (frame j n : Nat) : List Byte :=
  header ++ ((List.range n).map (fun i => be 4 (avenueSeq frame (8 * j + i)))).flatten

/-- Header of the fill block of a frame over some plots (R222, R224). -/
def fillHead (frame plots : Nat) (on? : Bool) (epoch : Nat) : BlockHead :=
  { typ := 2, cipher := on?, parity := epoch % 2 == 1, count := 0, seq := frame % 2 ^ 18, cells := fillCells plots
    client := 0, context := 0 }

/-- Header of the block of a client that this engine sends in a frame (R222): of type maintenance, with BlockCount 0, where
the context does not let data pass and in a standby's idle frame (R224, R259, R356). -/
def State.clientHead (s : State) (c : Carrier) (x : Nat) : BlockHead :=
  let n := s.clk.sfn
  let k := s.ctx c .tx x
  let rate := nth (s.fr c).txMap.sizes x 0
  let stopped := decide (2 ≤ s.ctxCode c .tx x) || s.isStandby c
  { typ := b2n stopped, cipher := k.on, parity := k.epoch % 2 == 1, count := if stopped then 0 else rateBlocks rate n
    seq := n % 2 ^ 18, cells := rateCells rate, client := x, context := x }

/-- Headers of the blocks of a frame: each client's, and that of the fill block where a plot is left (R220, R224). -/
def State.frameHeads (s : State) (c : Carrier) : List BlockHead :=
  let m := (s.fr c).txMap
  let k := s.ctx c .tx fillCtx
  let left := s.u (on c Obj.txPlotCapacity) - m.inUse
  m.clients.map (s.clientHead c) ++ (if left = 0 then [] else [fillHead s.clk.sfn left k.on k.epoch])

/-- Header that a seal's tag covers: its client's as it came in this frame, for the fill block the one that the frame must
have (R224, R266). -/
def State.sealHead (s : State) (c : Carrier) (x : Nat) : Option BlockHead :=
  if x = fillCtx then
    let m := (s.fr c).rxMap
    let k := s.ctx c .rx x
    some (fillHead (s.u (on c Obj.rxSfn)) (s.u (on c Obj.rxPlotCapacity) - m.inUse) k.on k.epoch)
  else assocGet (s.fr c).blockIn x

/-- A seal passes its tag, or its CRC-32 where the context is off (R224, R280). -/
def State.sealPasses (s : State) (c : Carrier) (x : SealIn) (head : BlockHead) : Bool :=
  let k := s.ctx c .rx x.ctx
  let header := headOctets head
  if !k.on then x.tag == clearTag header x.cells
  else
    match k.key with
    | none => false
    | some key =>
      let n := cellsFor x.cells.length
      let aad := sealAad header (s.u (on c Obj.rxSfn)) x.index n
      decide (n ≠ 0) && Config.verdict Config.gcmDec
        [key.take 32, sealIv (key.drop 32) x.ctx (k.e + 8 * x.index), aad, x.cells ++ x.tag]

/-- A seal fails: counted for its context and its client (R225, R280). -/
def State.sealFails (s : State) (c : Carrier) (x : Nat) (on? : Bool) (cls : Option Nat) : State :=
  let s := s.setCtx c .rx x (fun k => { k with bads := k.bads + 1, failed := k.failed + 1 })
  let s := if x = fillCtx then s else s.add64 (on c Obj.clientSealDrops) x 1
  if on? then
    let s := (s.add64 (on c Obj.authFailCount) x 1).occur 0x8081 { carrier := some c, cls := cls }
    let key := 0x8007 * 65536 + c.toNat * 128 + x
    let due := match assocGet s.diag.limiter key with
      | some t => decide (t + sfPerSecond ≤ s.clk.sfn)
      | none => true
    if due then
      let n := (s.ctx c .rx x).failed
      let s := { s with diag := { s.diag with limiter := assocSet s.diag.limiter key s.clk.sfn } }
      let s := s.logCtx c .rx x 0x8007 (d32 n)
      s.setCtx c .rx x (fun k => { k with failed := 0 })
    else s
  else s

/-- SEAL_RECEIVED: a seal of the present received frame is checked, and its cells pass to V8 or are discarded (R280). The
seals of a discarded block go with it (R225), and those of a maintenance block are not authenticated (R224). A seal
position of an idle frame that does not pass is not counted (R366). -/
def execSealReceived (c : Carrier) (x : SealIn) (s : State) : Host.Outcome State Fault Refusal :=
  let on? := (s.ctx c .rx x.ctx).on
  let cls := if x.ctx.val = fillCtx then none else some (s.clsOf x.ctx)
  .next (match s.sealHead c x.ctx with
    | none => s
    | some h =>
      if h.typ = 1 then s
      else if s.sealPasses c x h then
        let s := s.setCtx c .rx x.ctx (fun k => { k with oks := k.oks + 1 })
        let s := s.occurN 0x7081 (cellsFor x.cells.length) { carrier := some c, cls := cls }
        if on? then s.occur 0x8080 { carrier := some c, cls := cls } else s
      else if s.rxStandby c ∧ x.ctx.val ≠ fillCtx then s
      else s.sealFails c x.ctx on? cls)

/-- A received frame has ended (R283): a context all of whose seals failed in 2 frames in a row, while another's passed,
is desynchronised, and a restart is proposed. -/
def State.desyncCheck (s : State) (c : Carrier) : State :=
  let l := (s.ciph.get c).rx
  let anyOk := l.any (fun x => x.on && x.oks != 0)
  allCtx.foldl (fun s k =>
    let x := s.ctx c .rx k
    let bad := x.on && x.bads != 0 && x.oks == 0 && anyOk
    let run := if x.oks = 0 ∧ x.bads = 0 then x.badRun else if bad then x.badRun + 1 else 0
    let s := s.setCi c (fun y => { y with rx := modNth y.rx k (fun x => { x with oks := 0, bads := 0, badRun := run }) })
    if run = 2 then
      let s := (s.bump (on c Obj.desyncCount) k).logCtx c .rx k 0x8008 (d64 (s.leadSfn c))
      (s.setCi c (fun y => { y with rx := modNth y.rx k (fun x => { x with badRun := 0 }) })).armRoll c .rx k 4
    else s) s

/-! ## Damage and restart (R286, R287) -/

/-- A word that holds a derived key is poisoned (R287): the key is derived again at the next boundary. -/
def State.keyPoison (s : State) (c : Carrier) (d : Dir) (k : Nat) : State :=
  (s.setCtx c d k (fun x => { x with key := none, poison := true })).logCtx c d k 0x800A (d8 0 ++ d8 1)

/-- The roots of a carrier are gone: its contexts wait for a key (R259, R286, R313). -/
def State.rootsGone (s : State) (c : Carrier) : State :=
  let s := s.setRt c (fun r => { r with cur := none, next := none, rxAt := none })
  let s := (s.put (on c Obj.rootId) 0 0).putO (on c Obj.linkIdentity) 0 (List.replicate 16 0)
  [Dir.tx, Dir.rx].foldl (fun s d => allCtx.foldl (fun s k =>
    s.setCtx c d k (fun x => { x with
      key := none, next := none, root := 0, epoch := 0, e := 0, on := x.on && k != fillCtx })) s) s

end Sys2Proof.Machine
end

