-- ==== Sys2Proof/Machine/Agree.lean ====
section
/-! DEFINITION. The Grotto's owner slots and quotes (R290, R293, R294, R307) and link key agreement (R309 to R316). -/

namespace Sys2Proof.Machine

/-! ## Owner slots (R290, R291) -/

/-- A slot's contents wrapped under slot 6 for the Icehouse (R290): type, IV, ciphertext and tag. -/
def State.wrapped (s : State) (typ : Nat) (data : List Byte) : List Byte × State :=
  let (iv, s) := s.random 12
  (be 1 typ ++ iv ++ fit (data.length + 16) (Config.prim Config.gcmEnc [(s.slot 6).data, iv, [], data]), s)

/-- Type and contents that a wrapped payload unwraps to (R304), `none` where its tag fails. -/
def State.unwrapped (s : State) (b : List Byte) : Option (Nat × List Byte) :=
  let key := (s.slot 6).data
  let iv := slice b 1 12
  let ct := b.drop 13
  if Config.verdict Config.gcmDec [key, iv, [], ct] then
    some (ofBe (b.take 1), fit (ct.length - 16) (Config.prim Config.gcmDec [key, iv, [], ct]))
  else none

/-- A slot is saved wrapped to the Icehouse (R290, R482). -/
def State.saveSlot (s : State) (k : Nat) : State :=
  let x := s.slot k
  if x.typ = 0 then (s.writeRecord 5 4 k [] none).2
  else
    let (b, s) := s.wrapped x.typ x.data
    (s.writeRecord 5 4 k b none).2

/-- What a write of `SlotWrite` does (R291, R293). -/
def State.slotWriteEffect (s : State) (b : List Byte) : Res × State :=
  let k := ofBe (slice b 2 1)
  let typ := ofBe (slice b 3 1)
  let data := b.drop 6
  if typ ≠ 4 ∧ typ ≠ 8 then ({ code := 0x0301 }, s)
  else if data.length ≠ slotOctets typ then ({ code := 0x0302 }, s)
  else if (s.slot k).shadow.isSome then ({ code := 0x0801 }, s)
  else
    let s := s.writeSlot k typ data
    let s := s.log 0x900C (d8 k ++ d8 typ ++ d16 (s.slot k).gen)
    ({}, s.saveSlot k)

/-- SLOT_WRITE (R293); the operand is the TABLE value of `SlotWrite`. -/
def execSlotWrite (w : Requester) (row : List Byte) (s : State) : Host.Outcome State Fault Refusal :=
  .next (s.hostWrite w 2 Obj.slotWrite 0 (.octs row) (fun x s => s.slotWriteEffect x.bytes))

/-- What a write of `SlotErase` does (R294): the saved copy goes too. -/
def State.slotEraseEffect (s : State) (k : Nat) : Res × State :=
  if (s.slot k).typ = 0 then ({}, s) else ({}, (s.eraseSlot k).writeRecord 5 4 k [] none |>.2)

/-- SLOT_ERASE (R294). -/
def execSlotErase (w : Requester) (k : Nat) (s : State) : Host.Outcome State Fault Refusal :=
  .next (s.hostWrite w 2 Obj.slotErase 0 (.num k) (fun x s => s.slotEraseEffect x.nat))

/-! ## Quotes (R307) -/

/-- What a write of `QuoteRequest` does (R305, R307). -/
def State.quoteEffect (s : State) (b : List Byte) : Res × State :=
  if !s.grot.identity then ({ code := 0x0701 }, s)
  else
    let mask := ofBe (slice b 34 2)
    let nonce := slice b 2 32
    let r : GReq :=
      { master := 3, typ := 8, slot := 1, gen := 0, outSlot := 0, tag := 0, src := (0, (s.quoteBody nonce mask).length)
        dst := (0, 1280), par := (0, 0), cls := 2, unit := none, use := .quote nonce mask }
    let st := s.admission r
    if st ≠ 0 then ({ code := aopOfStatus st }, s.submit r)
    else ({}, (s.setGr (fun g => { g with quote := none })).submit r)

/-- QUOTE_REQUEST (R307); the operand is the TABLE value of `QuoteRequest`. -/
def execQuoteRequest (w : Requester) (row : List Byte) (s : State) : Host.Outcome State Fault Refusal :=
  .next (s.hostWrite w 2 Obj.quoteRequest 0 (.octs row) (fun x s => s.quoteEffect x.bytes))

/-! ## Messages of the agreement (R309) -/

/-- A packet joins a carrier's MOC (R211). -/
def State.sendMoc (s : State) (c : Carrier) (proto : Nat) (data : List Byte) : State :=
  s.setFr c (fun f => { f with mocOut := f.mocOut ++ [be 2 data.length ++ be 1 proto ++ data] })

/-- The fragments of a body: 4,088 octets each (R309). -/
def fragments : Nat → List Byte → List (List Byte)
  | 0, _ => []
  | n + 1, b => if b.length ≤ 4088 then [b] else b.take 4088 :: fragments n (b.drop 4088)

/-- A message of the agreement goes out over the MOC. -/
def State.sendAgree (s : State) (c : Carrier) (typ session : Nat) (body : List Byte) : State :=
  let fs := fragments 8 body
  (fs.mapIdx (fun i f => be 1 typ ++ be 1 i ++ be 1 fs.length ++ be 1 0 ++ be 4 session ++ f)).foldl
    (fun s p => s.sendMoc c 2 p) s

/-- Slot of a carrier's ephemeral key, and of its shared secret (R290). -/
def ephSlot (c : Carrier) : Nat := 12 + c.toNat

/-- Slot of a carrier's shared secret. -/
def secretSlot (c : Carrier) : Nat := 14 + c.toNat

/-- The slot that a carrier's next root takes (R290, R311). -/
def State.freeRoot (s : State) (c : Carrier) : Nat :=
  let base := 8 + 2 * c.toNat
  match (s.rt c).cur with
  | some (k, _, _) => if k = base then base + 1 else base
  | none => base

/-- `AgreementState`. -/
def State.agreeState (s : State) (c : Carrier) (v : Nat) : State := s.put (on c Obj.agreementState) 0 v

/-- The slots that a session used are erased (R311, R312). -/
def State.eraseSession (s : State) (c : Carrier) : State := (s.eraseSlot (ephSlot c)).eraseSlot (secretSlot c)

/-- A root written by a session that has failed and not yet usable is erased (R312, R315). -/
def State.eraseNext (s : State) (c : Carrier) : State :=
  match (s.rt c).next with
  | some (k, _, _) => (s.setRt c (fun r => { r with next := none })).eraseSlot k
  | none => s

/-- An agreement fails (R312); `sent` says whether this end found it. The initiator backs off, from 1 s to 64 s. -/
def State.agreeFail (s : State) (c : Carrier) (reason : Nat) (sent : Bool) : State :=
  let r := s.rt c
  let s := if sent ∧ r.part ≠ .none then s.sendAgree c 5 r.session (be 1 reason ++ [0, 0, 0]) else s
  let s := (s.eraseSession c).release Act.grotto 3
  let s := if s.clk.sfn < r.install then s.eraseNext c else s
  let s := (s.bump (on c Obj.agreementFailCount)).log 0x9008 (d8 c.inst ++ d8 reason ++ d8 (b2n (!sent)))
  let wait := if r.backoff = 0 then 1 else min 64 (2 * r.backoff)
  if r.initiates then
    (s.setRt c (fun r => { r with
      part := .none, backoff := wait, retryAt := some (s.clk.sfn + wait * sfPerSecond), askAt := none })).agreeState c 5
  else (s.setRt c (fun r => { r with part := .none, askAt := none })).agreeState c 0

/-- The lattice unit's cost is asked for an agreement (R316): refused, the agreement waits 100 SF, and 900Eh is logged
once for a run of refusals. -/
def State.askLattice (s : State) (c : Carrier) : Bool × State :=
  let a := s.accessDom Dn.grt
  let b := if a.1 ≠ 0 then a else if a.2.holds Act.grotto 3 ≠ 0 then (0, a.2) else a.2.ask Act.grotto 3 900000
  if b.1 = 0 then (true, b.2.setRt c (fun r => { r with askAt := none, asked := false }))
  else
    let s := if (s.rt c).asked then b.2 else b.2.log 0x900E (d8 b.1)
    (false, s.setRt c (fun r => { r with askAt := some (s.clk.sfn + 100), asked := true }))

/-- The head of an Offer or Answer: flags, carrier, address, certificate. -/
def State.agreeHead (s : State) (c : Carrier) (fresh : Bool) : List Byte :=
  be 1 (b2n fresh) ++ be 1 c.toNat ++ be 2 (s.u Obj.deviceAddress) ++ fit 3105 (s.o Obj.identityCert)

/-- A signature of this engine's identity (slot 1). -/
def State.sign (s : State) (m : List Byte) : List Byte × State :=
  let (rnd, s) := s.random 40
  (fit 1280 (Config.prim Config.falconSign [(s.slot 1).data, m, rnd]), s)

/-- A key agreement starts (R310, R311): an ephemeral key, and the Offer. -/
def State.startAgree (s : State) (c : Carrier) : State :=
  let r := s.rt c
  if r.part ≠ .none ∨ r.next.isSome ∨ !s.lineUp c then s
  else
    let s := s.setRt c (fun r => { r with initiates := true, retryAt := none, waitFrom := none })
    if !s.grot.identity then s.agreeFail c 9 true
    else
      let (ok, s) := s.askLattice c
      if !ok then s
      else
        let (rnd, s) := s.random 64
        let (nonce, s) := s.random 32
        let (session, s) := s.fresh 32
        let s := s.putSlot (ephSlot c) 6 (fit 3168 (Config.prim Config.kemPrivate [rnd]))
        let body := s.agreeHead c r.cur.isNone ++ nonce ++ fit 1568 (Config.prim Config.kemPublic [rnd])
        let (sig, s) := s.sign body
        let s := s.setRt c (fun r => { r with
          part := .offered, session := session, offer := body ++ sig, sentAt := s.clk.sfn })
        (s.sendAgree c 1 session (body ++ sig)).agreeState c 1

/-- Reason for which a peer's Offer or Answer is refused, 0 for none (R311): certificate and address, signature, pinned
peers. `signed` is what its signature covers. -/
def State.checkPeer (s : State) (c : Carrier) (body signed : List Byte) : Nat :=
  let cert := slice body 4 3105
  let pub := slice cert 32 1793
  let sig := body.drop 4709
  let source := bits ((assocGet (s.fr c).core 4).getD 0) 31 19
  if body.length ≠ 5989 ∨ !Config.verdict Config.falconVerify [(s.slot 5).data, cert.take 1825, cert.drop 1825] then 1
  else if !Config.verdict Config.falconVerify [pub, signed, sig] then 3
  else if ofBe (slice body 2 2) ≠ source then 1
  else if s.u Obj.peerPolicy = 1 ∧ !((List.range 256).any (fun k => decide (32 ≤ k) && s.slotIs k 8 &&
      decide ((s.slot k).data = Config.shake256 64 pub))) then 2
  else 0

/-- T of R311. -/
def transcript (offer answer : List Byte) : List Byte := Config.shake256 64 (offer ++ answer)

/-- Root key, `LinkIdentity` and RootId of a session (R311): 56 octets, an identifier of 0 replaced by 1. -/
def rootOutput (secret t : List Byte) : List Byte :=
  let k := Config.kmac256 56 secret t (ascii "TH6400 ROOT")
  if ofBe (k.drop 48) = 0 then k.take 48 ++ be 8 1 else k

/-- The root of a session is derived, and the session's slots are erased (R311). -/
def State.deriveRoot (s : State) (c : Carrier) (offer answer : List Byte) : State :=
  let k := rootOutput (s.slotData (secretSlot c)) (transcript offer answer)
  ((s.setRt c (fun r => { r with root := k, offer := offer, answer := answer })).eraseSession c).release Act.grotto 3

/-- The serial of a peer is shown (R322). -/
def State.showPeer (s : State) (c : Carrier) (body : List Byte) : State :=
  s.putO (on c Obj.peerSerial) 0 (slice body 8 16)

/-- A received Offer is answered (R311). Where it is Fresh and passes its checks, both root slots of the carrier are erased
before the Answer (R313). -/
def State.answerOffer (s : State) (c : Carrier) (session : Nat) (body : List Byte) : State :=
  let s := s.setRt c (fun r => { r with part := .answered, initiates := false, session := session, offer := body
                                        sentAt := s.clk.sfn, waitFrom := none })
  let bad := s.checkPeer c body (body.take 4709)
  if !s.grot.identity then s.agreeFail c 9 true
  else if bad ≠ 0 then s.agreeFail c bad true
  else
    let (ok, s) := s.askLattice c
    if !ok then s.setRt c (fun r => { r with part := .none })
    else
      let s := if bit (ofBe (body.take 1)) 0 then
          let base := 8 + 2 * c.toNat
          ((s.eraseSlot base).eraseSlot (base + 1)).rootsGone c
        else s
      let ek := slice body 3141 1568
      let (rnd, s) := s.random 32
      let (nonce, s) := s.random 32
      let s := s.putSlot (secretSlot c) 1 (fit 32 (Config.prim Config.kemSecret [ek, rnd]))
      let ans := s.agreeHead c (s.rt c).cur.isNone ++ nonce ++ fit 1568 (Config.prim Config.kemCipher [ek, rnd])
      let (sig, s) := s.sign (body ++ ans)
      let s := (s.showPeer c body).deriveRoot c body (ans ++ sig)
      (s.sendAgree c 2 session (ans ++ sig)).agreeState c 2

/-- OFFER: a received Offer is checked and answered (R311 to R313). While a root waits to become current, no new agreement
starts (R315), but that of a peer that has lost its roots (R313). -/
def execOffer (c : Carrier) (session : Nat) (body : List Byte) (s : State) : Host.Outcome State Fault Refusal :=
  .next (
    let s := if (s.rt c).part ≠ .none then s.agreeFail c 8 true else s
    let s := if (s.rt c).next.isSome ∧ s.clk.sfn < (s.rt c).install then s.eraseNext c else s
    if (s.rt c).next.isSome ∧ !bit (ofBe (body.take 1)) 0 then s.sendAgree c 5 session (be 1 8 ++ [0, 0, 0])
    else s.answerOffer c session body)

/-- ANSWER: a received Answer is checked and decapsulated, the root derived and Confirm I sent (R311). -/
def execAnswer (c : Carrier) (session : Nat) (body : List Byte) (s : State) : Host.Outcome State Fault Refusal :=
  let r := s.rt c
  .next (if r.part ≠ .offered ∨ r.session ≠ session then s
  else
    let bad := s.checkPeer c body (r.offer ++ body.take 4709)
    if bad ≠ 0 then s.agreeFail c bad true
    else
      let ct := slice body 3141 1568
      let s := s.putSlot (secretSlot c) 1 (fit 32 (Config.prim Config.kemDecap [s.slotData (ephSlot c), ct]))
      let s := (s.showPeer c body).deriveRoot c r.offer body
      let t := transcript r.offer body
      let n := s.leadSfn c + 4
      let tag := Config.kmac256 32 ((s.rt c).root.take 32) t (ascii "TH6400 CONF I")
      let s := s.setRt c (fun r => { r with part := .confirming, sfn := n, sentAt := s.clk.sfn })
      (s.sendAgree c 3 session (be 8 n ++ tag)).agreeState c 3)

/-- A session's root is written into the carrier's next slot, usable at InstallSfn; with no current root, the keys of
epoch 0 are asked for (R262, R311, R314). -/
def State.writeRoot (s : State) (c : Carrier) (n : Nat) : State :=
  let k := (s.rt c).root
  let slot := s.freeRoot c
  let id := ofBe (k.drop 48)
  let s := s.putSlot slot 3 (k.take 32)
  let s := s.setRt c (fun r => { r with next := some (slot, id, slice k 32 16), install := n, backoff := 0 })
  if (s.rt c).cur.isSome then s
  else
    [Dir.tx, Dir.rx].foldl (fun s d => allCtx.foldl (fun s j =>
      if (s.ctx c d j).on ∨ j = fillCtx then
        (s.setCtx c d j (fun x => { x with next := some (0, id, none) })).askKey c d j 0 id
      else s) s) s

/-- CONFIRM_I: the responder checks the tag and InstallSfn, writes its next root and replies (R311). -/
def execConfirmI (c : Carrier) (session : Nat) (body : List Byte) (s : State) : Host.Outcome State Fault Refusal :=
  let r := s.rt c
  .next (if r.part ≠ .answered ∨ r.session ≠ session then s
  else
    let t := transcript r.offer r.answer
    let n := ofBe (body.take 8)
    if body.drop 8 ≠ Config.kmac256 32 (r.root.take 32) t (ascii "TH6400 CONF I") then s.agreeFail c 4 true
    else if n < s.leadSfn c then s.agreeFail c 5 true
    else
      let s := (s.writeRoot c n).setRt c (fun r => { r with part := .none })
      let tag := Config.kmac256 32 (r.root.take 32) t (ascii "TH6400 CONF R")
      (s.sendAgree c 4 session tag).agreeState c 3)

/-- CONFIRM_R: the initiator checks the tag in time and writes its next root (R311). -/
def execConfirmR (c : Carrier) (session : Nat) (tag : List Byte) (s : State) : Host.Outcome State Fault Refusal :=
  let r := s.rt c
  .next (if r.part ≠ .confirming ∨ r.session ≠ session then s
  else if tag ≠ Config.kmac256 32 (r.root.take 32) (transcript r.offer r.answer) (ascii "TH6400 CONF R") then
    s.agreeFail c 4 true
  else if r.sfn ≤ s.clk.sfn + 4 then s.agreeFail c 5 true
  else
    let s := (s.writeRoot c r.sfn).setRt c (fun r => { r with part := .none })
    s.log 0x9007 (d8 c.inst ++ d64 (ofBe (r.root.drop 48)) ++ fit 16 (s.o (on c Obj.peerSerial)) ++ d64 r.sfn))

/-- ABORT: a received Abort ends the session (R312, R315). -/
def execAbort (c : Carrier) (session : Nat) (reason : Nat) (s : State) : Host.Outcome State Fault Refusal :=
  let r := s.rt c
  .next (if r.session ≠ session then s
  else if r.part ≠ .none ∨ (r.next.isSome ∧ s.clk.sfn < r.install) then s.agreeFail c reason false
  else s)

/-! ## When an agreement starts (R310) -/

/-- Frame lock with no root: the lower end initiates, the other waits 2 s for an Offer (R310). -/
def State.agreeAtLock (s : State) (c : Carrier) : State :=
  if (s.rt c).cur.isSome ∨ (s.rt c).next.isSome ∨ (s.rt c).part ≠ .none then s
  else if s.isLower c then s.startAgree c
  else s.setRt c (fun r => { r with waitFrom := some s.clk.sfn })

/-- OFFER_WAIT: no Offer came for 2 s, and this engine initiates (R310). -/
def execOfferWait (c : Carrier) (s : State) : Host.Outcome State Fault Refusal :=
  .next (match (s.rt c).waitFrom with
    | some t => if t + 2 * sfPerSecond ≤ s.clk.sfn ∧ (s.rt c).cur.isNone then s.startAgree c else s
    | none => s)

/-- AGREEMENT_TIMEOUT: a message is not answered within 200 ms (R312). -/
def execAgreementTimeout (c : Carrier) (s : State) : Host.Outcome State Fault Refusal :=
  .next (if (s.rt c).part ≠ .none ∧ (s.rt c).sentAt + 2000 ≤ s.clk.sfn then s.agreeFail c 6 true else s)

/-- AGREEMENT_RETRY: the back-off ends (R312). -/
def execAgreementRetry (c : Carrier) (s : State) : Host.Outcome State Fault Refusal :=
  .next (match (s.rt c).retryAt with
    | some t => if t ≤ s.clk.sfn then s.startAgree c else s
    | none => s)

/-- LATTICE_RETRY: a waiting agreement asks again for the lattice unit (R316). -/
def execLatticeRetry (c : Carrier) (s : State) : Host.Outcome State Fault Refusal :=
  let r := s.rt c
  .next (match r.askAt with
    | some t =>
      if t ≤ s.clk.sfn ∧ r.part = .none then
        (if r.initiates then s.startAgree c else s.answerOffer c r.session r.offer)
      else s
    | none => s)

/-- What a write of `RekeyRoot` does (R305, R310, R315). -/
def State.rekeyEffect (s : State) (v : Nat) : Res × State :=
  let c := if v = 0 then Carrier.a else Carrier.b
  if !s.grot.identity then ({ code := 0x0701 }, s)
  else if (s.rt c).next.isSome then ({ code := 0x0801 }, s)
  else ({}, s.startAgree c)

/-- REKEY_ROOT (R310). -/
def execRekeyRoot (w : Requester) (v : Nat) (s : State) : Host.Outcome State Fault Refusal :=
  .next (s.hostWrite w 2 Obj.rekeyRoot 0 (.num v) (fun x s => s.rekeyEffect x.nat))

/-- ROOT_INTERVAL: `RootInterval` has run out since the current root was installed; the lower end initiates (R310). -/
def execRootInterval (c : Carrier) (s : State) : Host.Outcome State Fault Refusal :=
  .next (if (s.rt c).cur.isSome ∧ (s.rt c).since + s.u Obj.rootInterval ≤ s.clk.sfn ∧ s.isLower c then s.startAgree c
  else s)

/-! ## Installing a root (R314) -/

/-- The contexts of a direction, and its fill context, take epoch 0 and E = 0 under the current root (R259, R314). -/
def State.installDir (s : State) (c : Carrier) (d : Dir) : State :=
  let id := match (s.rt c).cur with
    | some (_, i, _) => i
    | none => 0
  allCtx.foldl (fun s k =>
    s.setCtx c d k (fun x =>
      let key := match x.next with
        | some (0, i, y) => if i = id then y else none
        | _ => none
      { x with epoch := 0, e := 0, root := id, key := key, next := none, stopped := false, ending := false
               carried := 0, on := x.on || k == fillCtx })) s

/-- ROOT_INSTALL: at InstallSfn the new root becomes current, or its migration begins (R314). The transmit contexts take a
first root at once, the receive contexts where the received count reaches InstallSfn (R37). -/
def execRootInstall (c : Carrier) (s : State) : Host.Outcome State Fault Refusal :=
  let r := s.rt c
  .next (match r.next with
    | none => s
    | some (slot, id, identity) =>
      if s.clk.sfn < r.install then s
      else if r.cur.isSome then
        if s.u (on c Obj.agreementState) = 4 then s
        else ((s.bump (on c Obj.agreementCount)).agreeState c 4).migrate c
      else
        let s := s.setRt c (fun r => { r with cur := some (slot, id, identity), next := none, since := r.install })
        let s := ((s.put (on c Obj.rootId) 0 id).putO (on c Obj.linkIdentity) 0 identity).agreeState c 0
        let s := (s.bump (on c Obj.agreementCount)).installDir c .tx
        if r.install ≤ s.u (on c Obj.rxSfn) then s.installDir c .rx
        else s.setRt c (fun x => { x with rxAt := some r.install }))

/-- ROOT_MIGRATION_DEADLINE: a context that has not moved within 36,000,000 SF has its roll armed at once (R314). -/
def execRootMigrationDeadline (c : Carrier) (s : State) : Host.Outcome State Fault Refusal :=
  let r := s.rt c
  .next (match r.cur, r.next with
    | some _, some (_, id, _) =>
      if r.install + 36000000 ≤ s.clk.sfn then
        allCtx.foldl (fun s k =>
          if (s.ctx c .tx k).on ∧ (s.ctx c .tx k).root ≠ id then s.armRoll c .tx k 3 else s) s
      else s
    | _, _ => s)

/-- A word of a slot is poisoned: the slot is lost (R319). -/
def State.slotPoison (s : State) (k : Nat) : State :=
  let s := s.dropSlot k 1
  if 8 ≤ k ∧ k ≤ 11 then
    let c := if k < 10 then Carrier.a else Carrier.b
    let held := fun (x : Option (Nat × Nat × List Byte)) => match x with
      | some (j, _, _) => j == k
      | none => false
    if held (s.rt c).cur || held (s.rt c).next then (s.rootsGone c).startAgree c else s
  else if k = 12 ∨ k = 14 then (if (s.rt .a).part ≠ .none then s.agreeFail .a 8 true else s)
  else if k = 13 ∨ k = 15 then (if (s.rt .b).part ≠ .none then s.agreeFail .b 8 true else s)
  else s.setGr (fun g => { g with reload := k :: g.reload })

end Sys2Proof.Machine
end

