-- ==== Sys2Proof/Machine/MemCmd.lean ====
section
/-! DEFINITION. Memory and Icehouse commands (17_memory_and_icehouse.md): counting SRAM errors per bank and their trend
(R474, R478), record writes page by page (R484), reads, erases and refreshes (R483, R489 to R492), and retirement
(R493). -/

namespace Sys2Proof.Machine

/-! ## SRAM banks (R471, R474, R478) -/

/-- Region of an SRAM bank as `SramBankInfo` codes it (R471, R494): 0 strong, 1 light, 2 retention. Which of banks 960
to 1,407 are strong the part carries from the factory (log entry 3). -/
def bankRegion (b : Nat) : Nat :=
  if b < 960 then 1 else if 1408 ≤ b then 2 else (Config.factoryNumber 0xB011 b).toNat % 2

/-- Power domain of an SRAM bank (R471): the pool's banks in DPA to DPD, retention on RET, the rest from the factory. -/
def bankDomain (b : Nat) : Nat :=
  if b < 960 then Dn.dpa + b / 240 else if 1408 ≤ b then Dn.ret else (Config.factoryNumber 0xB012 b).toNat % 24 + 1

/-- Figures of an SRAM bank. -/
def State.bankInfo (s : State) (b : Nat) : BankInfo :=
  (s.mem.banks.find? (fun x => x.bank == b)).getD
    { bank := b, corrected := 0, uncorr := 0, parity := 0, recent := [], alarmAt := none, state := 0, repair := 0 }

/-- Figures of an SRAM bank changed. -/
def State.setBank (s : State) (b : Nat) (f : BankInfo → BankInfo) : State :=
  let x := f (s.bankInfo b)
  { s with mem := { s.mem with banks := x :: s.mem.banks.filter (fun y => y.bank != b) } }

/-- Superframes of 24 h. -/
abbrev daySf : Nat := 864000000

/-- Corrected errors of a bank over the last 24 h (R478). -/
def State.bankTrend (s : State) (b : Nat) : Nat :=
  ((s.bankInfo b).recent.filter (fun t => decide (s.clk.sfn < t + daySf))).length

/-- The trend alarm of a bank, once per bank and day (R478). -/
def State.trendCheck (s : State) (b : Nat) (uncorrectable : Bool) : State :=
  let x := s.bankInfo b
  let due : Bool := match x.alarmAt with
    | some t => decide (t + daySf ≤ s.clk.sfn)
    | none => true
  if due ∧ (uncorrectable ∨ s.u Obj.sramTrendAlarm < s.bankTrend b) then
    (s.setBank b (fun y => { y with alarmAt := some s.clk.sfn })).log 0xB001 (d16 b ++ d32 (shownCount 32 (s.bankTrend b)) ++ d32 (shownCount 32 x.uncorr))
  else s

/-- A corrected error of a bank (R474): written back and counted. -/
def State.sramCorrected (s : State) (b addr : Nat) : State :=
  let s := s.setBank b (fun x => { x with
    corrected := x.corrected + 1
    recent := s.clk.sfn :: x.recent.filter (fun t => decide (s.clk.sfn < t + daySf)) })
  let s := (s.add64 Obj.correctedTotal 0 1).occur 0xB080 { addr := some (2, addr) }
  s.trendCheck b false

/-- A word is poisoned (R474): counted and logged with address, region and finder. -/
def State.sramPoisoned (s : State) (b addr : Nat) (scrubber : Bool) : State :=
  let s := s.setBank b (fun x => { x with uncorr := x.uncorr + 1 })
  let s := (s.bump Obj.poisonTotal).log 0xB002 (d32 addr ++ d8 (bankRegion b) ++ d8 (b2n scrubber))
  s.trendCheck b true

/-- The banks of a domain outside the retention banks lose their contents (R473). -/
def State.clearDomainSram (s : State) (d : Nat) : State :=
  { s with mem := { s.mem with
      sram := s.mem.sram.filter (fun p => decide (1408 * bankSize ≤ p.1) || bankDomain (p.1 / bankSize) != d)
      poison := s.mem.poison.filter (fun p => decide (1408 * bankSize ≤ p.1) || bankDomain (p.1 / bankSize) != d) } }

/-- A failed retention bank reads as zero (R473, R481). -/
def State.clearRetBank (s : State) (r : Nat) : State :=
  let lo := retBase r
  let hi := lo + 8 * bankSize
  { s with mem := { s.mem with
      sram := sramClear s.mem.sram lo hi
      poison := s.mem.poison.filter (fun p => decide (p.1 < lo) || decide (hi ≤ p.1)) } }

/-! ## Record writes (R484, R492) -/

/-- The object whose write waits for a record of a type (R517, R519, R555). -/
def State.recordObj (s : State) (j : IceJob) : Nat :=
  if j.recd.typ = 1 then Obj.imageCommit
  else if j.asker.isSome ∧ s.aop.factorySave = j.asker then Obj.dictFactory
  else Obj.dictSave

/-- A record write fails for want of a block (R489): its region is full, and a write that waits for it ends with
0801h. -/
def State.failJob (s : State) (j : IceJob) : State :=
  let s := s.regionFull j.recd.region
  match j.asker with
  | none => s
  | some w => s.refuse w 2 (s.recordObj j) 0 0x0801

/-- A block is suspended (R492): `erase` says what failed. -/
def State.suspend (s : State) (b : Nat) (erase : Bool) : State :=
  let s := s.setBlock b (fun x => { x with
    state := 1
    progFails := x.progFails + (if erase then 0 else 1)
    eraFails := x.eraFails + (if erase then 1 else 0) })
  let s := { s with mem := { s.mem with writeAt := s.mem.writeAt.map (fun p => match p with
    | some x => if x / 256 = b then none else p
    | none => none) } }
  s.log 0xB00A (d16 b ++ d8 (b2n erase))

/-- The record under way is written again in another block (R492). -/
def State.rewrite (s : State) (j : IceJob) (l : List IceJob) : State :=
  let n := j.recd.pages
  match s.takePages (spaceOf j.recd.region j.recd.subject) (n / 256 + 3) (n + 1) with
  | none => ({ s with mem := { s.mem with queue := l } }).failJob j
  | some (ps, s) =>
    let r := { j.recd with firstPage := nth ps 0 0, blocks := ps.map (· / 256) }
    { s with mem := { s.mem with queue := { j with recd := r, done := 0 } :: l } }

/-- PAGE_PROGRAM_DONE (R484, R492): the page under way is programmed, or its program fails and its block is
suspended. -/
def execPageProgramDone (ok : Bool) (s : State) : Host.Outcome State Fault Refusal :=
  .next (match s.mem.queue with
    | [] => s
    | j :: l =>
      if !s.awake Dn.ice then s
      else if ok then
        if j.done < j.recd.pages then
          let s := ((s.program j.recd j.done).countSectors 0xB082 (j.recd.page j.done)).touch Dn.ice
          { s with mem := { s.mem with queue := { j with done := j.done + 1 } :: l } }
        else s
      else
        let b := j.recd.page j.done / 256
        ((s.suspend b false).rewrite j l).tidy j.recd.region)

/-- RECORD_WRITE (R484, R485): a record write that the engine requests, ICE woken first. Nothing is written in region 0
in service (R482). -/
def execRecordWrite (typ : Fin 8) (region : Fin 6) (subject : Nat) (payload : List Byte) (s : State) :
    Host.Outcome State Fault Refusal :=
  .next (if typ.val = 0 ∨ region.val = 0 ∨ (region.val = 1 ∧ 12 ≤ subject) then s
    else (s.writeRecord typ region subject payload none).2)

/-! ## Reads, erases, refresh (R483, R489, R490) -/

/-- A sector that was read within its code reaches its reader decrypted (R483). -/
def State.sectorPlain (s : State) (sector : Nat) : State :=
  match assocGet s.mem.nand sector with
  | none => s
  | some c => { s with mem := { s.mem with
      lastRead := s.mem.lastRead ++ [(sector, s.sectorCipher Config.xtsDec sector c)] } }

/-- One sector of a page that was read. -/
def State.sectorRead (s : State) (page i : Nat) (x : SectorIn) : State :=
  let b := page / 256
  let sector := sectorOf page + i
  match x with
  | .erased => s
  | .uncorrectable => s.log 0xB00C (d32 sector)
  | .corrected n =>
    if regionT (regionOf b) < n then s.log 0xB00C (d32 sector)
    else (s.sectorPlain sector).setBlock b (fun y => { y with maxCorr := max y.maxCorr n })

/-- PAGE_READ_DONE (R483, R484): a page is read, its sectors corrected and decrypted. -/
def execPageReadDone (block : Fin 3968) (page : Fin 256) (sectors : List SectorIn) (s : State) :
    Host.Outcome State Fault Refusal :=
  .next (if !s.awake Dn.ice then s
    else
      let p := block.val * 256 + page.val
      let s := (s.countSectors 0xB081 p).touch Dn.ice
      let s := { s with mem := { s.mem with lastRead := [] } }
      ((sectors.take 8).mapIdx (fun i x => (i, x))).foldl (fun s q => s.sectorRead p q.1 q.2) s)

/-- BLOCK_ERASE_DONE (R489, R490, R492): the erase under way ends; the block joins the erased ones, or is suspended. -/
def execBlockEraseDone (ok : Bool) (s : State) : Host.Outcome State Fault Refusal :=
  .next (match s.mem.erasing with
    | [] => s
    | b :: l =>
      if !s.awake Dn.ice then s
      else
        let s := { s with mem := { s.mem with erasing := l } }
        if !ok then (s.suspend b true).tidy (regionOf b)
        else
          let s := s.setBlock b (fun x => { x with erased := true, erases := x.erases + 1, lastErase := s.clk.sfn })
          let s := { s with mem := { s.mem with nand := s.mem.nand.filter (fun p => p.1 / 2048 != b) } }
          let s := { s with mem := { s.mem with fullRegions := s.mem.fullRegions.filter (· != regionOf b) } }
          let s := if s.u Obj.icehouseState = 3 ∧ s.mem.fullRegions.isEmpty then s.put Obj.icehouseState 0 2 else s
          let x := s.block b
          let s := if 45000 ≤ x.erases ∧ x.wornLogged = false then
              (s.setBlock b (fun x => { x with wornLogged := true })).log 0xB010 (d16 b)
            else s
          s.tidy (regionOf b))

/-- A record is weak (R490): a sector of one of its pages shows more corrected bits than the refresh allows. -/
def weakRec (shown : List (Nat × Nat)) (r : IceRec) : Bool :=
  let limit := if r.region = 5 then 12 else 54
  (List.range r.pages).any (fun i => shown.any (fun p => p.1 == r.page i && decide (limit < p.2)))

/-- REFRESH (R490): every `RefreshPeriod` the committed records are read, and weak ones relocated. `shown` holds pages
and the corrected bits of their weakest sector. -/
def execRefresh (shown : List (Nat × Nat)) (s : State) : Host.Outcome State Fault Refusal :=
  .next (if s.clk.sfn < s.mem.refreshAt then s
    else
      let r := s.accessDom Dn.ice
      if r.1 ≠ 0 then r.2
      else
        let s := { r.2 with mem := { r.2.mem with refreshAt := s.clk.sfn + s.u Obj.refreshPeriod * daySf } }
        (s.mem.recs.filter (fun x => s.liveRec x && weakRec shown x)).foldl (fun s x =>
          match s.newRecord x.typ x.region x.subject x.payload with
          | none => s.regionFull x.region
          | some (y, s) =>
            (s.queueRecord y none true).log 0xB00E (d8 x.region ++ d16 (x.firstPage / 256) ++ d16 (y.firstPage / 256))) s)

/-! ## Retirement (R492, R493) -/

/-- Physical block that a reserve block is, by its place in the reserve (log entry 3). -/
def reserveBlock (n : Nat) : Nat := (Config.factoryNumber 0xB033 n).toNat % 4096

/-- A block whose live records are committed elsewhere is retired: its logical block is mapped onto a reserve block
(R493). -/
def State.blockRetired (s : State) (b : Nat) : State :=
  if s.mem.reserve = 0 then s
  else
    let phys := reserveBlock s.mem.reserve
    let s := { s with mem := { s.mem with
      reserve := s.mem.reserve - 1
      recs := s.mem.recs.filter (fun r => !r.inBlock b)
      nand := s.mem.nand.filter (fun p => p.1 / 2048 != b)
      retireBlocks := s.mem.retireBlocks.filter (· != b)
      erasing := s.mem.erasing.filter (· != b) } }
    let s := s.setBlock b (fun x => { x with
      state := 2, physical := phys, erases := 0, maxCorr := 0, progFails := 0, eraFails := 0, lastErase := 0
      erased := true, wornLogged := false })
    s.recordRetirement.log 0xB00B (d16 b ++ d16 phys)

/-- A `BlockRetire` entry at its SFN (R493): nothing more is written into the block, its live records move as under R489,
and then it retires; at once where it holds none. -/
def State.blockRetireRun (s : State) (b : Nat) : State :=
  let s := (s.accessDom Dn.ice).2
  let s := { s with mem := { s.mem with
    writeAt := s.mem.writeAt.map (fun p => match p with
      | some x => if x / 256 = b then none else p
      | none => none) } }
  let later := fun (s : State) => { s with mem := { s.mem with retireBlocks := b :: s.mem.retireBlocks } }
  if s.mem.retireBlocks.contains b then s
  else if s.mem.moving.any (fun m => m.1 == b) then later s
  else if (s.liveIn b).isEmpty then s.blockRetired b
  else match s.relocate b with
    | some s => later s
    | none => s.regionFull (regionOf b)

/-- A `SramRetire` entry at its SFN (R493): the repair bank that holds the copy takes over. -/
def State.sramRetireRun (s : State) (b : Nat) : State :=
  if s.mem.repairs = 0 ∨ (s.bankInfo b).state = 2 then s
  else
    let n := 8 - s.mem.repairs
    let s := s.setBank b (fun x => { x with state := 2, repair := n })
    let s := { s with mem := { s.mem with repairs := s.mem.repairs - 1 } }.put Obj.repairBanksFree 0 (s.mem.repairs - 1 : Nat)
    s.recordRetirement.log 0xB006 (d16 b ++ d8 n)

/-- The spare retention bank that the next retirement takes (R479). -/
def State.spareRet (s : State) : Option Nat := (List.range 16).find? (fun r => (s.ret r).state == 4)

/-- A `RetentionRetire` entry at its SFN (R493): a spare takes over the bank's domain. -/
def State.retentionRetireRun (s : State) (r : Nat) : State :=
  match s.spareRet with
  | none => s
  | some n =>
    if (s.ret r).state = 5 then s
    else
      let old := s.ret r
      let s := s.setRet n (fun _ => old)
      let s := s.setRet r (fun x => { x with state := 5 })
      s.recordRetirement.log 0xB007 (d8 r ++ d8 n)

/-- Extra status that a retirement write meets (R493): 0801h while nothing is left to replace it. -/
def State.retireStatus (s : State) (o : Nat) : Nat :=
  if o = Obj.blockRetire then (if s.mem.reserve = 0 then 0x0801 else 0)
  else if o = Obj.sramRetire then (if s.mem.repairs = 0 then 0x0801 else 0)
  else if o = Obj.retentionRetire then (if s.spareRet.isNone then 0x0801 else 0)
  else 0

/-- Memory at a local boundary: a bank due to retire in the next SF is being copied (R493), and a retirement record that
found no ICE is tried again (R93). -/
def State.memBoundary (s : State) : State :=
  let due := s.clk.entries.filter (fun e => e.obj == Obj.sramRetire && decide (e.kind = .scheduledWrite) &&
    e.sfn == s.clk.sfn + 1)
  let s := due.foldl (fun s e => s.setBank e.val.nat (fun x => if x.state = 0 then { x with state := 1 } else x)) s
  match s.mem.retireDue with
  | some t => if t ≤ s.clk.sfn then s.recordRetirement else s
  | none => s

/-- A write of `BlockRestore` (R492, R494): a suspended block returns to service; others are left as they are. -/
def State.blockRestoreEffect (s : State) (b : Nat) : Res × State :=
  if (s.block b).state = 1 then
    ({}, (s.setBlock b (fun x => { x with state := 0 })).log 0xB00B (d16 b ++ d16 (s.block b).physical))
  else ({}, s)

/-- BLOCK_RESTORE (R492): a host write returns a suspended block to service. -/
def execBlockRestore (w : Requester) (v : Int) (s : State) : Host.Outcome State Fault Refusal :=
  .next (s.hostWrite w 2 Obj.blockRestore 0 (.num v) (fun x s => s.blockRestoreEffect x.nat))

end Sys2Proof.Machine
end

