-- ==== Sys2Proof/Machine/Bandstand.lean ====
section
/-! DEFINITION. The Bandstand and the event log (19_bandstand_counters.md): selects, clears and ranges at their boundary
(R526, R527), snapshots, their latch and their Icehouse copy (R530 to R532), log records written and fetched (R535,
R491). -/

namespace Sys2Proof.Machine

/-- Select word that counts nothing and admits everything (R524). -/
abbrev defaultSelect : Nat := 0x0000FFFF80000000

/-- A counter that nothing has happened to. -/
def Ctr.init (n : Nat) : Ctr := { n := n, select := defaultSelect, count := 0, overflow := false, restarted := false }

/-- A counter of the machine. -/
def State.ctr (s : State) (n : Nat) : Ctr := (s.diag.ctrs.find? (fun c => c.n == n)).getD (Ctr.init n)

/-- A counter of the machine replaced; one in its default state needs no entry. -/
def State.setCtr (s : State) (c : Ctr) : State :=
  let l := s.diag.ctrs.filter (fun x => x.n != c.n)
  { s with diag := { s.diag with ctrs := if c = Ctr.init c.n then l else c :: l } }

/-- The word of `CounterValue` (R523). -/
def Ctr.word (c : Ctr) : Nat := b2n c.overflow * 2 ^ 63 + b2n c.restarted * 2 ^ 62 + c.count

/-- A counter at 0 with both bits clear (R526). -/
def Ctr.cleared (c : Ctr) : Ctr := { c with count := 0, overflow := false, restarted := false }

/-- Object and member of a counter's select word (R522). -/
def selectObj (n : Nat) : Nat × Nat := (0xF711 + 256 * (n / 256), n % 256)

/-! ## Selects, clears, ranges (R526, R527) -/

/-- A write of `CounterSelect` waits for the next boundary. -/
def State.counterSelectEffect (s : State) (n v : Nat) : Res × State :=
  ({}, { s with diag := { s.diag with pendSelect := s.diag.pendSelect ++ [(n, some v)] } })

/-- A write of `CounterClear` waits for the next boundary. -/
def State.counterClearEffect (s : State) (n : Nat) : Res × State :=
  ({}, { s with diag := { s.diag with pendSelect := s.diag.pendSelect ++ [(n, none)] } })

/-- A write of `CounterRange` waits for the next boundary: its row is Space, Low, High (R527). -/
def State.counterRangeEffect (s : State) (m : Nat) (b : List Byte) : Res × State :=
  let r := (m, ofBe (slice b 2 1), ofBe (slice b 3 4), ofBe (slice b 7 4))
  ({}, { s with diag := { s.diag with pendRange := s.diag.pendRange ++ [r] } })

/-- COUNTER_SELECT_WRITE (R526). -/
def execCounterSelectWrite (w : Requester) (n : Fin 2048) (v : Int) (s : State) : Host.Outcome State Fault Refusal :=
  let o := selectObj n
  .next (s.hostWrite w 2 o.1 o.2 (.num v) (fun x s => s.counterSelectEffect n x.nat))

/-- COUNTER_CLEAR (R526): one counter, or FFFFh for all. -/
def execCounterClear (w : Requester) (v : Int) (s : State) : Host.Outcome State Fault Refusal :=
  .next (s.hostWrite w 2 Obj.counterClear 0 (.num v) (fun x s => s.counterClearEffect x.nat))

/-- COUNTER_RANGE_WRITE (R527). -/
def execCounterRangeWrite (w : Requester) (m : Fin 65) (row : List Byte) (s : State) : Host.Outcome State Fault Refusal :=
  .next (s.hostWrite w 2 Obj.counterRange m (.octs row) (fun x s => s.counterRangeEffect m x.bytes))

/-- Selects, clears and ranges written before the boundary take effect, after its snapshots (R526, R527). -/
def State.counterBoundary (s : State) : State :=
  let s := s.diag.pendSelect.foldl (fun (s : State) p =>
    match p.2 with
    | some v =>
      let o := selectObj p.1
      (s.setCtr { (s.ctr p.1).cleared with select := v }).put o.1 o.2 v
    | none =>
      if p.1 = 0xFFFF then s.diag.ctrs.foldl (fun s c => s.setCtr c.cleared) s else s.setCtr (s.ctr p.1).cleared) s
  let s := s.diag.pendRange.foldl (fun (s : State) r =>
    let s := { s with diag := { s.diag with ranges := r :: s.diag.ranges.filter (fun x => x.1 != r.1) } }
    s.putO Obj.counterRange r.1 (be 2 1 ++ be 1 r.2.1 ++ be 4 r.2.2.1 ++ be 4 r.2.2.2)) s
  { s with diag := { s.diag with pendSelect := [], pendRange := [] } }

/-- Counters whose storage was lost restart at 0 (R533): cause 0 retention, 1 poison. -/
def State.countersLost (s : State) (ns : List Nat) (cause : Nat) : State :=
  let lost : List Ctr := ns.map (fun n => { (s.ctr n).cleared with restarted := true })
  let s := { s with diag := { s.diag with ctrs := lost ++ s.diag.ctrs.filter (fun (c : Ctr) => !ns.contains c.n) } }
  s.log 0xF004 (d16 (nth ns 0 0) ++ d16 ns.length ++ d8 cause)

/-! ## Snapshots (R530 to R532) -/

/-- A snapshot entry at its instant: the counters as they stand (R530, R531). -/
def State.snapshotRun (s : State) (e : Entry) (late : Bool) : State :=
  let x : Snap := { buffer := 0, number := 0, sfn := e.sfn, tick := s.tickOf e, quality := s.u Obj.timeQuality
                    flags := b2n late + 2 * (nth e.data 0 0 % 2), entry := e.num, actual := s.clk.sfn
                    values := s.diag.ctrs, bad := [], retryAt := none }
  let s := { s with diag := { s.diag with latch := s.diag.latch ++ [x] } }
  s.occur 0xF080 { master := some e.src }

/-- Octets of a snapshot buffer (R532): 64 of header, then 2,048 counter values. -/
def State.snapOctets (s : State) (x : Snap) : List Byte :=
  let v := fun (n : Nat) => if x.bad.contains n then 0 else
    (match x.values.find? (fun c => c.n == n) with
     | some c => c.word
     | none => 0)
  ascii "THSN" ++ be 4 x.number ++ be 8 x.sfn ++ be 2 x.tick ++ be 1 x.quality ++ be 1 x.flags ++
    be 2 (s.u Obj.deviceAddress) ++ be 2 x.entry ++ be 8 x.actual ++ List.replicate 32 0 ++
    (List.range 2048).flatMap (fun n => be 8 (v n))

/-- A snapshot buffer changed. -/
def State.setSnap (s : State) (buffer : Nat) (f : Snap → Snap) : State :=
  { s with diag := { s.diag with snaps := s.diag.snaps.map (fun x => if x.buffer = buffer then f x else x) } }

/-- The Icehouse copy of a snapshot (R532): a record of type 07h whose Subject is the buffer; tried again after 60 s
while ICE cannot wake. -/
def State.snapCopy (s : State) (x : Snap) : State :=
  let r := s.writeRecord 7 5 x.buffer (s.snapOctets x) none
  r.2.setSnap x.buffer (fun y => { y with retryAt := if r.1 = 0 then none else some (s.clk.sfn + 600000) })

/-- SNAPSHOT_LATCH (R531, R532): 200 ns after its instant a snapshot enters the next buffer. -/
def execSnapshotLatch (s : State) : Host.Outcome State Fault Refusal :=
  .next (match s.diag.latch with
    | [] => s
    | x :: l =>
      let b := s.diag.snapNext
      let n := s.diag.snapCount + 1
      let x := { x with buffer := b, number := n }
      let old := s.diag.snaps.find? (fun y => y.buffer == b)
      let s := match old with
        | none => s
        | some y =>
          let s := s.bump Obj.snapshotOverwrites
          if y.retryAt.isSome then s.log 0xF003 (d32 y.number) else s
      let s := { s with diag := { s.diag with
        latch := l, snaps := x :: s.diag.snaps.filter (fun y => y.buffer != b)
        snapCount := n, snapNext := (b + 1) % 8 } }
      let s := (s.put Obj.snapshotLatest 0 b).log 0xF001 (d32 n ++ d8 b)
      let s := if x.flags % 2 = 1 then s.log 0xF002 (d32 n ++ d64 x.sfn ++ d64 x.actual) else s
      if bit x.flags 1 then s.snapCopy x else s)

/-- SNAPSHOT_COPY_RETRY (R532): 60 s after ICE could not wake, a copy is tried again. -/
def execSnapshotCopyRetry (b : Fin 8) (s : State) : Host.Outcome State Fault Refusal :=
  .next (match s.diag.snaps.find? (fun x => x.buffer == b.val) with
    | none => s
    | some x =>
      match x.retryAt with
      | none => s
      | some t => if s.clk.sfn < t then s else s.snapCopy x)

/-- The marker of the copy of a snapshot, by buffer and number, is programmed (R532); one that overwrote it is another. -/
def State.snapCommitted (s : State) (b number : Nat) : State :=
  s.setSnap b (fun x =>
    { x with flags := if bit x.flags 2 ∨ x.number ≠ number then x.flags else x.flags + 4 })

/-- A poisoned word of a buffer (R532). -/
def State.snapPoison (s : State) (b n : Nat) : State :=
  s.setSnap b (fun x => { x with flags := if bit x.flags 3 then x.flags else x.flags + 8, bad := n :: x.bad })

/-- While `SnapshotPeriod` is not 0 the engine arms a snapshot at the next multiple of it (R530); one armed for another
period goes. -/
def State.snapshotPeriodic (s : State) : State :=
  let p := s.u Obj.snapshotPeriod
  let mine := fun (e : Entry) => decide (e.kind = .snapshot) && e.write == 0
  let s := s.setEntries (s.clk.entries.filter (fun e => !(mine e && (p == 0 || (e.moves == 0 && e.sfn % p != 0)))))
  if p = 0 ∨ s.clk.entries.any mine then s
  else
    let n := ceilDiv (s.firstSfn .loc 0) p * p
    (s.arm { Entry.base .snapshot n with obj := Obj.snapshotPeriod, data := [1] }).2

/-! ## The event log (R535, R491) -/

/-- Event records that retention bank 2 can hold (R491): 1 MiB of 64 octets each. -/
abbrev logHold : Nat := 16384

/-- Log records beyond what bank 2 holds are dropped, oldest first, counted and logged (R491). -/
def State.logOverflow (s : State) : State :=
  let n := s.diag.waiting.length - logHold
  if n = 0 then s
  else
    let s := { s with diag := { s.diag with waiting := s.diag.waiting.drop n } }
    (s.addTo 32 Obj.logDropCount 0 n).log 0xB00F (d32 n)

/-- LOG_WRITE (R535): with 256 records waiting, or 1 s after the oldest, up to 256 go to the log region in one record;
while ICE cannot wake they wait (R491). -/
def execLogWrite (s : State) : Host.Outcome State Fault Refusal :=
  .next (match s.diag.waiting with
    | [] => s
    | r :: _ =>
      if s.diag.waiting.length < 256 ∧ s.clk.sfn < r.sfn + sfPerSecond then s
      else
        let l := s.diag.waiting.take 256
        let n := l.length
        let x := s.writeRecord 6 5 0 (l.flatMap (·.bytes)) none
        if x.1 = 0 then { x.2 with diag := { x.2.diag with waiting := x.2.diag.waiting.drop n } }
        else x.2.logOverflow)

/-- A log record's payload cut into event records of 64 octets. -/
def chunks64 : Nat → List Byte → List (List Byte)
  | 0, _ => []
  | n + 1, b => if b.isEmpty then [] else b.take 64 :: chunks64 n (b.drop 64)

/-- Every event record held, in order of Sequence: in the log region, on its way there, waiting, or in the ring. -/
def State.heldRecords (s : State) : List (Nat × List Byte) :=
  let stored := (s.mem.recs.filter (fun r => r.typ == 6 && r.committed && r.ignored == 0)).map (·.payload)
  let going := (s.mem.queue.filter (fun j => j.recd.typ == 6)).map (·.recd.payload)
  let old := (stored ++ going).flatMap (fun p => (chunks64 256 p).map (fun b => (ofBe (slice b 4 4), b)))
  let new := (s.diag.waiting ++ s.diag.ring).map (fun r => (r.seq, r.bytes))
  (old ++ new).foldl (fun l p => assocSet l p.1 p.2) []

/-- A write of `EventFetch` (R535): up to 64 records from a Sequence on, or from the first held after a gap. -/
def State.eventFetchEffect (s : State) (q : Nat) : Res × State :=
  let l := (s.heldRecords.filter (fun p => decide (q ≤ p.1))).take 64
  let s := if l.any (fun p => s.diag.ring.all (fun r => r.seq != p.1)) then (s.accessDom Dn.ice).2 else s
  ({}, s.putO Obj.eventFetched 0 (l.flatMap (·.2)))

/-- EVENT_FETCH (R535). -/
def execEventFetch (w : Requester) (v : Int) (s : State) : Host.Outcome State Fault Refusal :=
  .next (s.hostWrite w 2 Obj.eventFetch 0 (.num v) (fun x s => s.eventFetchEffect x.nat))

end Sys2Proof.Machine
end

