-- ==== Sys2Proof/Machine/CalCmd.lean ====
section
/-! DEFINITION. The calibration commands: set loads and saves that a host asks for (R437, R441, R444), and the saves
that the engine makes by itself (R441). -/

namespace Sys2Proof.Machine

/-- A write of `CalReload`: set loads for every converter of the carrier (R437). -/
def State.calReloadEffect (s : State) (c : Carrier) : Res × State := ({}, s.armLoads c (List.range 8) 2)

/-- A write of `CalLearnedClear`: it acts at the next local boundary (R444). -/
def State.calClearEffect (s : State) : Res × State := ({}, { s with cal := { s.cal with clearDue := true } })

/-- A write of `CalSave` (R441). A refused wake of ICE is retried after 60 s, so the write itself is accepted. -/
def State.calSaveEffect (s : State) : Res × State := ({}, (s.calSave none).2)

/-- Calibration at a local boundary: a clear that is due marks every slice not learned, saves, and loads sets
(R444). -/
def State.calBoundary (s : State) : State :=
  if !s.cal.clearDue then s
  else
    let keys := (s.cal.learned.map (·.key)).eraseDups
    let s := { s with cal := { s.cal with
      clearDue := false, learned := [], changed := (keys ++ s.cal.changed).eraseDups } }
    let s := (s.calSave none).2
    (s.armLoads .a (List.range 8) 3).armLoads .b (List.range 8) 3

/-- The set loads that waited for a domain's wake (R438): `lo` and `hi` bound its converters. -/
def State.wakeSetLoads (s : State) (c : Carrier) (lo hi : Nat) : State :=
  let mine := fun (p : Nat × Nat × Nat) => decide (c.toNat * 8 + lo ≤ p.1) && decide (p.1 < c.toNat * 8 + hi)
  let due := s.cal.wakeLoads.filter mine
  let s := { s with cal := { s.cal with wakeLoads := s.cal.wakeLoads.filter (fun p => !mine p) } }
  due.foldl (fun s p => s.armLoad c (p.1 - c.toNat * 8) p.2.1 p.2.2) s

/-- CAL_RELOAD (R437): a write of `CalReload` of a carrier. -/
def execCalReload (w : Requester) (c : Carrier) (v : Int) (s : State) : Host.Outcome State Fault Refusal :=
  .next (s.hostWrite w 2 (on c Obj.calReload) 0 (.num v) (fun _ s => s.calReloadEffect c))

/-- CAL_LEARNED_CLEAR (R444): a write of `CalLearnedClear`. -/
def execCalLearnedClear (w : Requester) (v : Int) (s : State) : Host.Outcome State Fault Refusal :=
  .next (s.hostWrite w 2 Obj.calLearnedClear 0 (.num v) (fun _ s => s.calClearEffect))

/-- CAL_SAVE (R441): a write of `CalSave`. -/
def execCalSave (w : Requester) (v : Int) (s : State) : Host.Outcome State Fault Refusal :=
  .next (s.hostWrite w 2 Obj.calSave 0 (.num v) (fun _ s => s.calSaveEffect))

/-- CAL_SAVE_INTERVAL (R441): `CalSaveInterval` has run since the last save; the learned set is saved if it has
changed, and the interval starts again. -/
def execCalSaveInterval (s : State) : Host.Outcome State Fault Refusal :=
  if s.clk.sfn < s.cal.savedAt + s.u Obj.calSaveInterval * sfPerSecond then .next s
  else if s.cal.changed.isEmpty then .next { s with cal := { s.cal with savedAt := s.clk.sfn } }
  else .next ({ s with cal := { s.cal with savedAt := s.clk.sfn } }.calSave none).2

/-- CAL_SAVE_RETRY (R441): 60 s after ICE could not wake, the save is tried again. -/
def execCalSaveRetry (s : State) : Host.Outcome State Fault Refusal :=
  match s.cal.retryAt with
  | none => .next s
  | some t => if s.clk.sfn < t then .next s else .next (s.calSave none).2

end Sys2Proof.Machine
end

