-- ==== Sys2Proof/Machine/Rebase.lean ====
section
/-! DEFINITION. When the time base steps (R61, R62), SFNs and instants that the engine keeps only to measure an interval
move with it, so that the interval keeps its length. SFNs that name a frame (targets, entries, records, InstallSfn) and
those of a received count stay. -/

namespace Sys2Proof.Machine

/-- An SFN moved by some superframes. -/
def mvS (d : Int) (n : Nat) : Nat := ((n : Int) + d).toNat

/-- An instant in 0.01 ps moved by some superframes. -/
def mvT (d : Int) (n : Nat) : Nat := mvS (d * 10000000000) n

/-- An optional SFN moved. -/
def mvO (d : Int) (n : Option Nat) : Option Nat := n.map (mvS d)

/-- The SFNs of a list of pairs moved. -/
def mvL {α : Type} (d : Int) (l : List (α × Nat)) : List (α × Nat) := l.map (fun p => (p.1, mvS d p.2))

/-- Both values of a pair changed. -/
def bothMap {α : Type} (p : Pair α) (f : α → α) : Pair α := { a := f p.a, b := f p.b }

/-- Log, power, memory and port. -/
def State.rebaseCore (s : State) (d : Int) : State :=
  { s with
    diag := { s.diag with
      limiter := mvL d s.diag.limiter
      snaps := s.diag.snaps.map (fun x => { x with retryAt := mvO d x.retryAt }) }
    pow := { s.pow with
      doms := s.pow.doms.map (fun x => { x with access := mvS d x.access, since := mvT d x.since, iso := mvT d x.iso })
      vinSince := mvS d s.pow.vinSince
      drift := s.pow.drift.map (fun p => (mvS d p.1, p.2))
      shedAt := mvO d s.pow.shedAt
      groupShed := s.pow.groupShed.map (mvO d)
      oldCeiling := s.pow.oldCeiling.map (fun p => (p.1, mvS d p.2))
      kaSince := mvS d s.pow.kaSince }
    mem := { s.mem with
      banks := s.mem.banks.map (fun x => { x with recent := x.recent.map (mvS d), alarmAt := mvO d x.alarmAt })
      refreshAt := mvS d s.mem.refreshAt
      scrubAt := mvS d s.mem.scrubAt
      retireDue := mvO d s.mem.retireDue }
    aop := { s.aop with
      sessions := s.aop.sessions.map (fun x => { x with opened := mvS d x.opened, last := mvS d x.last })
      stalls := s.aop.stalls.map (fun x => { x with since := mvS d x.since, told := mvO d x.told })
      subs := s.aop.subs.map (fun x => { x with sent := mvS d x.sent }) } }

/-- A rotation cycle. -/
def Cycle.rebase (d : Int) : Cycle → Cycle
  | .idle => .idle
  | .trimming sp o p w e => .trimming sp o p (mvS d w) e
  | .armed sp o p w e b => .armed sp o p (mvS d w) e b
  | .handover sp o p n k i b x => .handover sp o p (if k = .loc then mvS d n else n) k i b x

/-- A line converter. -/
def Conv.rebase (d : Int) (v : Conv) : Conv :=
  { v with
    slices := v.slices.map (fun x => { x with
      trimSfn := mvS d x.trimSfn, dueSince := mvS d x.dueSince, overdue := mvS d x.overdue })
    cycle := v.cycle.rebase d, nextWin := mvS d v.nextWin, retryAt := mvS d v.retryAt }

/-- Framing, converters, calibration, receiver and loading. -/
def State.rebaseLine (s : State) (d : Int) : State :=
  { s with
    frame := bothMap s.frame (fun f => { f with
      lockedAt := mvS d f.lockedAt, unlockedAt := mvS d f.unlockedAt, rateDiff := mvL d f.rateDiff
      coordOut := f.coordOut.map (fun m => { m with first := mvS d m.first, last := mvS d m.last })
      mocUnacked := f.mocUnacked.map (fun u => { u with sent := mvS d u.sent }) })
    conv := bothMap s.conv (fun x => { x with convs := x.convs.map (Conv.rebase d), actAt := mvO d x.actAt })
    cal := { s.cal with
      savedAt := mvS d s.cal.savedAt, retryAt := mvO d s.cal.retryAt, started := mvS d s.cal.started }
    eq := bothMap s.eq (fun x => { x with
      acqStart := mvS d x.acqStart, stepStart := mvS d x.stepStart, failLog := mvS d x.failLog
      waitUntil := mvO d x.waitUntil, retryAt := mvS d x.retryAt, sfSince := mvT d x.sfSince
      trackedFrom := mvS d x.trackedFrom, goneSince := mvO d x.goneSince
      cds := x.cds.map (fun p => (mvS d p.1, p.2)) })
    load := bothMap s.load (fun x => { x with
      alarmAt := mvS d x.alarmAt, caps := x.caps.map (fun p => (p.1, mvS d p.2)), dropFrom := mvS d x.dropFrom
      raiseFrom := mvS d x.raiseFrom, candFrom := mvS d x.candFrom }) }

/-- Decoder pool, lanes, Grotto and Belvedere. -/
def State.rebaseInner (s : State) (d : Int) : State :=
  { s with
    pool := { s.pool with
      words := s.pool.words.map (fun x => { x with arrived := mvT d x.arrived, release := mvT d x.release })
      lastOut := bothMap s.pool.lastOut (mvT d), belowFrom := bothMap s.pool.belowFrom (mvS d)
      pendGrant := s.pool.pendGrant.map (fun p => (p.1, mvS d p.2)), grantRetry := mvO d s.pool.grantRetry
      wakeRetry := mvL d s.pool.wakeRetry, capLog := mvS d s.pool.capLog }
    lanes := { s.lanes with lanes := s.lanes.lanes.map (fun x => { x with
      overAt := mvO d x.overAt, underAt := mvO d x.underAt }) }
    grot := { s.grot with
      slots := s.grot.slots.map (fun x => { x with
        erase := mvO d x.erase, later := x.later.map (fun (t, b, n) => (t, b, mvS d n)) })
      roots := bothMap s.grot.roots (fun r => { r with
        since := mvS d r.since, sentAt := mvS d r.sentAt, retryAt := mvO d r.retryAt, waitFrom := mvO d r.waitFrom
        askAt := mvO d r.askAt }) }
    bel := { s.bel with
      inputs := s.bel.inputs.map (fun x => { x with
        freq := { x.freq with since := mvS d x.freq.since }, time := { x.time with since := mvS d x.time.since } })
      pps := s.bel.pps.map (fun x => { x with edge := mvO d x.edge, tod := x.tod.map (fun p => (p.1, mvS d p.2)) })
      lines := bothMap s.bel.lines (fun x => { x with
        arrives := x.arrives.map (fun p => (p.1, p.2.1, mvT d p.2.2)), frozenAt := mvS d x.frozenAt })
      freqLoop := { s.bel.freqLoop with since := mvO d s.bel.freqLoop.since }
      timeLoop := { s.bel.timeLoop with since := mvO d s.bel.timeLoop.since }
      heldFrom := mvS d s.bel.heldFrom, holdSf := mvO d s.bel.holdSf } }

/-- Footpath, avenues, supervisory converters, images, group and domain. -/
def State.rebaseOuter (s : State) (d : Int) : State :=
  { s with
    foot := bothMap s.foot (fun f => { f with
      refused := f.refused.map (mvO d), freeAt := mvT d f.freeAt, since := mvT d f.since
      heard := f.heard.map (fun h => { h with sfn := mvS d h.sfn }), found := mvS d f.found
      helloAt := mvS d f.helloAt })
    av := { s.av with
      mute := bothMap s.av.mute (mvO d)
      order := s.av.order.map (fun o => { o with sentAt := mvS d o.sentAt })
      heardAt := mvO d s.av.heardAt, disputeFrom := mvO d s.av.disputeFrom, degraded := mvO d s.av.degraded
      goodFrom := mvO d s.av.goodFrom, okFrom := mvO d s.av.okFrom, gapFrom := s.av.gapFrom.map (mvT d)
      released := mvT d s.av.released, recordAt := mvS d s.av.recordAt, footAt := mvS d s.av.footAt
      clients := s.av.clients.map (fun k => { k with
        buffer := k.buffer.map (fun x => { x with at_ := mvT d x.at_ }), lagAt := mvT d k.lagAt }) }
    svc := { s.svc with
      start := mvT d s.svc.start, injAt := mvT d s.svc.injAt, pendAt := mvT d s.svc.pendAt, warnLow := mvO d s.svc.warnLow
      hotFrom := mvO d s.svc.hotFrom, hotLow := mvO d s.svc.hotLow }
    img := { s.img with probation := s.img.probation.map (fun p => { p with until_ := mvS d p.until_ }) }
    grp := { s.grp with
      listening := mvO d s.grp.listening, base := s.grp.base.map (fun p => (p.1, mvS d p.2))
      members := s.grp.members.map (fun m => { m with
        heard := mvO d m.heard, since := mvS d m.since, differ := mvO d m.differ })
      beaconAt := mvS d s.grp.beaconAt, orders := s.grp.orders.map (fun o => { o with at_ := mvS d o.at_ })
      dupAt := mvS d s.grp.dupAt }
    dmn := { s.dmn with
      claims := s.dmn.claims.map (fun c => { c with heard := mvS d c.heard }), leadQuiet := mvS d s.dmn.leadQuiet
      regQuiet := mvS d s.dmn.regQuiet, settled := mvO d s.dmn.settled, announceAt := mvS d s.dmn.announceAt
      group := { s.dmn.group with
        dueAt := mvO d s.dmn.group.dueAt, ackBy := mvO d s.dmn.group.ackBy, retryAt := mvO d s.dmn.group.retryAt }
      site := { s.dmn.site with
        dueAt := mvO d s.dmn.site.dueAt, ackBy := mvO d s.dmn.site.ackBy, retryAt := mvO d s.dmn.site.retryAt }
      rollAt := mvS d s.dmn.rollAt, powerAt := mvS d s.dmn.powerAt } }

/-- Intervals under way keep their length when the local SFN moves by `d` (R61, R62). -/
def State.rebase (s : State) (d : Int) : State :=
  (((s.rebaseCore d).rebaseLine d).rebaseInner d).rebaseOuter d

end Sys2Proof.Machine
end

