-- ==== Sys2Proof/Machine/Belvedere.lean ====
section
/-! DEFINITION. The Belvedere (11_belvedere_clock_and_time.md): candidate inputs and their causes (R324 to R328),
selection (R329 to R333), loops (R334, R335), holdover and time quality (R337 to R339), outputs (R340, R341), time
transfer (R343 to R348), and the re-anchoring of the local count (R61, R62). -/

namespace Sys2Proof.Machine

/-! ## Accessors -/

/-- The Belvedere changed. -/
def State.setBel (s : State) (f : BelSt → BelSt) : State := { s with bel := f s.bel }

/-- An input by its code. -/
def State.input (s : State) (i : Nat) : RefSt := nth s.bel.inputs i RefSt.init

/-- An input changed. -/
def State.setInput (s : State) (i : Nat) (f : RefSt → RefSt) : State :=
  s.setBel (fun b => { b with inputs := modNth b.inputs i f })

/-- PPS input 0 or 1. -/
def State.ppsIn (s : State) (x : Nat) : PpsSt := nth s.bel.pps x PpsSt.init

/-- A line's stamps. -/
def State.line (s : State) (c : Carrier) : LineTime := s.bel.lines.get c

/-- A line's stamps changed. -/
def State.setLine (s : State) (c : Carrier) (f : LineTime → LineTime) : State :=
  s.setBel (fun b => { b with lines := b.lines.upd c f })

/-- A word of the latest valid core of a carrier. -/
def State.farWord (s : State) (c : Carrier) (k : Nat) : Nat := (assocGet (s.fr c).core k).getD 0

/-- The role of an input: 0 frequency, 1 time. -/
def RefSt.role (x : RefSt) (role : Nat) : RoleSt := if role = 0 then x.freq else x.time

/-- The input gives time (R324). -/
def timeCapable (i : Nat) : Bool := decide (5 ≤ i) && decide (i ≤ 8)

/-- The line of an input code 7 or 8. -/
def lineOf (i : Nat) : Option Carrier := if i = 7 then some .a else if i = 8 then some .b else none

/-- Loop class (R324): 0 none, 1 frequency, 2 PPS, 3 line. -/
def loopClass (i : Nat) : Nat :=
  if i = 0 ∨ i = 13 then 0 else if i = 5 ∨ i = 6 then 2 else if i = 7 ∨ i = 8 then 3 else 1

/-- Selected input of a role. -/
def State.selected (s : State) (role : Nat) : Nat :=
  if role = 0 then s.u Obj.freqRefSelected else s.u Obj.timeRefSelected

/-! ## The advert (R348) -/

/-- The default advert. -/
def advertDefault : List Byte := be 1 15 ++ be 1 0 ++ be 1 0 ++ be 2 0xFFFF ++ be 1 255 ++ List.replicate 17 0

/-- Octets of an advert: its ten columns (R348). -/
abbrev advertOctets : Nat := 23

/-- The last advert read on a carrier. -/
def State.advert (s : State) (c : Carrier) : List Byte :=
  let b := s.o (on c Obj.farAdvert)
  if b.length = advertOctets then b else advertDefault

/-- A column of the far advert: first octet and length. -/
def State.advCol (s : State) (c : Carrier) (start len : Nat) : Nat := ofBe (slice (s.advert c) start len)

/-- The far end follows this engine in a role (cause 4 of R326). -/
def State.peerFollows (s : State) (i role : Nat) : Bool :=
  match lineOf i with
  | some c => s.advCol c (1 + role) 1 == 1
  | none => false

/-- This engine's advert on a carrier (R348). -/
def State.lineAdvertRow (s : State) (c : Carrier) : List Byte :=
  let f := s.selected 0
  let t := s.selected 1
  let me := 7 + c.toNat
  let ql := if f = me then 15 else if f = 0 ∨ f = 13 then 11 else s.u Obj.inputQl f
  let hops := match lineOf t with
    | some x => min 255 (s.advCol x 5 1 + 1)
    | none => if t = 0 then 255 else 0
  be 1 ql ++ be 1 (b2n (f == me)) ++ be 1 (b2n (t == me)) ++ be 2 s.bel.source ++ be 1 hops ++
    be 1 (s.u (on c Obj.fibreMode)) ++ be 4 (s.u (on c Obj.extDelayTx)) ++ be 4 (s.u (on c Obj.extDelayRx)) ++
    i32 (s.i (on c Obj.staticAsymmetry)) ++ be 4 (s.u (on c Obj.staticAsymmetryUnc))

/-! ## Asymmetry (R344 to R346) -/

/-- The link's `FibreMode`, of the engine with the lower address (R344). -/
def State.linkDuplex (s : State) (c : Carrier) : Bool :=
  (if s.isLower c then s.u (on c Obj.fibreMode) else s.advCol c 6 1) == 1

/-- Δ_static in ps: the lower engine's, negated when that is the far end (R345). -/
def State.deltaStatic (s : State) (c : Carrier) : Int :=
  if s.isLower c then s.i (on c Obj.staticAsymmetry) else -(ofTwos 32 (s.advCol c 15 4))

/-- The bound of Δ_static in ps. -/
def State.staticUnc (s : State) (c : Carrier) : Nat :=
  if s.isLower c then s.u (on c Obj.staticAsymmetryUnc) else s.advCol c 19 4

/-- Δ_elem in ps (R345). -/
def State.deltaElem (s : State) (c : Carrier) : Int :=
  ((s.advCol c 7 4 + s.u (on c Obj.extDelayRx) : Nat) : Int) - ((s.u (on c Obj.extDelayTx) + s.advCol c 11 4 : Nat) : Int)

/-- `CarrierFreq` of this engine's record and of the far end's, in MHz (R123). -/
def State.recordFreqs (s : State) (c : Carrier) : Nat × Nat :=
  (ofBe (slice (s.cdRecordRow c) 16 4), s.farWord c 22)

/-- An integer divided, to the nearest, halves up (log entry 6). -/
def roundDiv (a : Int) (b : Nat) : Int := (2 * a + b) / (2 * (b : Int))

/-- `(num) × (λ_in − λ_out)` with num in twentieths of ps/nm, to the nearest ps (R345). -/
def byLambda (num : Int) (f : Nat × Nat) : Int :=
  if f.1 = 0 ∨ f.2 = 0 then 0
  else roundDiv (num * 299792458000 * ((f.2 : Int) - f.1)) (20 * f.1 * f.2)

/-- Δ_fibre in single-fibre mode, from both records (R345). -/
def State.deltaFibre (s : State) (c : Carrier) : Int :=
  byLambda ((s.rxs c).cdHeld + ofTwos 32 (s.farWord c 20)) (s.recordFreqs c)

/-- U_Δ in ps (R345). -/
def State.deltaBound (s : State) (c : Carrier) : Nat :=
  (byLambda ((s.rxs c).uHeld + s.farWord c 21 : Nat) (s.recordFreqs c)).natAbs + 2 + s.staticUnc c

/-- Both dispersion records read Validity 1. -/
def State.recordsValid (s : State) (c : Carrier) : Bool :=
  (s.rxs c).validity == 1 && bits (s.farWord c 23) 7 0 == 1

/-- `AsymmetryState` set, 300Ah logged on a change. -/
def State.setAsym (s : State) (c : Carrier) (v : Nat) : State :=
  if s.u (on c Obj.asymmetryState) = v then s
  else (s.put (on c Obj.asymmetryState) 0 v).logC c 0x300A (d8 c.inst ++ d8 v)

/-- `Asymmetry`, `AsymmetryUncertainty` and `LinkTimeUncertainty` set from the fibre term and the bound (R345, R347). -/
def State.showAsym (s : State) (c : Carrier) (fibre : Int) (bound : Nat) : State :=
  let s := s.put (on c Obj.asymmetry) 0 (fibre + s.deltaElem c + s.deltaStatic c)
  let s := s.put (on c Obj.asymmetryUncertainty) 0 (min bound 0xFFFFFFFF : Nat)
  let extra := if s.linkDuplex c then s.staticUnc c else 0
  s.put (on c Obj.linkTimeUncertainty) 0 (min (900 + (bound + extra + 1) / 2 + s.cal.delayExtra) 0xFFFFFFFF : Nat)

/-- The asymmetry of a line in this SF (R346). -/
def State.asymRun (s : State) (c : Carrier) : State :=
  if s.u (on c Obj.frameLock) = 0 then s
  else if s.linkDuplex c then (s.setAsym c 1).showAsym c 0 (s.deltaBound c)
  else if s.recordsValid c then
    let f := s.deltaFibre c
    let u := s.deltaBound c
    let s := s.setLine c (fun l => { l with fibre := f, bound := u, freqs := s.recordFreqs c })
    (s.setAsym c 1).showAsym c f u
  else if (s.line c).freqs = (0, 0) then s.setAsym c 0
  else
    let s := if s.u (on c Obj.asymmetryState) = 2 then s
      else (s.setLine c (fun l => { l with frozenAt := s.clk.sfn })).setAsym c 2
    let l := s.line c
    s.showAsym c l.fibre (l.bound + 50 + ceilDiv (10 * (s.clk.sfn - l.frozenAt)) 600000)

/-- At frame lock the asymmetry has not been live yet (R346). -/
def State.asymAtLock (s : State) (c : Carrier) : State :=
  (s.setLine c (fun l => { l with freqs := (0, 0) })).setAsym c (b2n (s.linkDuplex c))

/-- A carrier frequency lies more than 1 GHz from its value at the freeze. -/
def movedFar (a b : Nat) : Bool := decide (b + 1000 < a) || decide (a + 1000 < b)

/-- Cause 10 of R326 (R346). -/
def State.asymGone (s : State) (c : Carrier) : Bool :=
  let st := s.u (on c Obj.asymmetryState)
  let f := s.recordFreqs c
  let l := s.line c
  !s.linkDuplex c && (st == 0 || (st == 2 && (movedFar f.1 l.freqs.1 || movedFar f.2 l.freqs.2)))

/-! ## The stamps (R214, R343) -/

/-- Own TxDepart of a frame, kept for 256 SF. -/
def State.departs (s : State) (c : Carrier) (v : Int) : State :=
  s.setLine c (fun l => { l with departs := ((s.clk.sfn, v) :: l.departs).take 256 })

/-- The arrival stamp of a received frame: relative to the local boundary of its SFN, in 2⁻¹⁶ ns. -/
def State.arrives (s : State) (c : Carrier) (sfn : Nat) (v : Int) : State :=
  s.setLine c (fun l => { l with arrives := ((sfn, v, s.now) :: l.arrives).take 256 })

/-- RxRefSfn and RxArrive of the frame that starts now (R214): the latest received boundary measured at least 20 µs
ago. -/
def State.rxRef (s : State) (c : Carrier) : Option (Nat × Int) :=
  ((s.line c).arrives.find? (fun x => decide (x.2.2 + 2000000000 ≤ s.now))).map (fun x => (x.1, x.2.1))

/-- Two words of a core as a signed number. -/
def State.farI64 (s : State) (c : Carrier) (k : Nat) : Int := ofTwos 64 (s.farWord c k * 2 ^ 32 + s.farWord c (k + 1))

/-- Time in 2⁻¹⁶ ns to whole picoseconds. -/
def stampPs (v : Int) : Int := roundDiv (v * 1000) 65536

/-- θ, the path delays, `RoundTrip` and `CoordLeadMin` from the stamps of the core of frame `k` (R343, R45). -/
def State.lineStamps (s : State) (c : Carrier) (k : Nat) : State :=
  let j := s.farWord c 8 * 2 ^ 32 + s.farWord c 9
  match (s.line c).arrives.find? (fun x => x.1 == k), (s.line c).departs.find? (fun x => x.1 == j) with
  | some (_, aN, _), some (_, dN) =>
    let inn := aN - s.farI64 c 6
    let out := s.farI64 c 10 - dN
    let theta := roundDiv ((inn - out) * 1000 - s.i (on c Obj.asymmetry) * 65536) 131072
    let s := (s.put (on c Obj.lineTimeOffset) 0 theta).occur 0x3080 { carrier := some c, cls := some 4 }
    let s := s.put (on c Obj.pathDelayIn) 0 (stampPs inn - theta)
    let s := s.put (on c Obj.pathDelayOut) 0 (stampPs out + theta)
    let s := s.put Obj.inputPhase (7 + c.toNat) (-theta)
    let rt := (stampPs (inn + out) / 1000).toNat + 2 * (8000 + s.u Obj.residencyBudget * 100)
    let s := s.put (on c Obj.roundTrip) 0 rt
    s.put (on c Obj.coordLeadMin) 0 (max 8 (ceilDiv rt 100000 + 6) : Nat)
  | _, _ => s

/-! ## Causes (R326) -/

/-- The sum of the cause bits whose conditions hold. -/
def causeBits (l : List (Nat × Bool)) : Nat := sumNat (l.map (fun x => if x.2 then 2 ^ x.1 else 0))

/-- Quality level rule of R326: enabled, and DNU or worse than the minimum. -/
def State.qlBad (s : State) (i : Nat) : Bool :=
  s.u Obj.qlEnable == 1 && (s.u Obj.inputQl i == 15 || decide (s.u Obj.qlMinimum < s.u Obj.inputQl i))

/-- No signal on an input (cause 1). -/
def State.noSignal (s : State) (i : Nat) (x : BelIn) : Bool :=
  if i ≤ 4 ∨ i = 13 then !x.signal.contains i
  else if i ≤ 6 then (match (s.ppsIn (i - 5)).edge with
    | some t => decide (t + 11000 < s.clk.sfn)
    | none => true)
  else if 9 ≤ i then
    let l := s.u Obj.syncLanes (i - 9)
    decide (31 < l) || s.lane Obj.laneState l != 4
  else false

/-- Cause 9: the line offers no time source. -/
def State.noTimeSource (s : State) (c : Carrier) : Bool :=
  let src := s.advCol c 3 2
  bits (s.farWord c 4) 5 4 == 0 || src == 0xFFFF || src == s.u Obj.deviceAddress ||
    decide (s.u Obj.maxHops ≤ s.advCol c 5 1)

/-- The causes of an input in this SF (R326). -/
def State.causesOf (s : State) (i : Nat) (x : BelIn) : Nat :=
  let off := s.i Obj.inputFreqOffset i
  let common := [(1, s.noSignal i x), (2, i != 13 && (decide (off < -9200000) || decide (9200000 < off))),
    (6, i != 13 && s.qlBad i)]
  let line := match lineOf i with
    | some c => [(3, s.lock c != 7 || s.u (on c Obj.frameLock) == 0), (4, s.peerFollows i 0 || s.peerFollows i 1),
        (5, decide (3 ≤ (s.line c).advFails)), (9, s.noTimeSource c), (10, s.asymGone c)]
    | none => []
  let pps := if i = 5 ∨ i = 6 then
      let p := s.ppsIn (i - 5)
      [(7, p.todBad), (8, decide (2 ≤ p.jumps))]
    else []
  causeBits (common ++ line ++ pps)

/-- Some cause other than 4 takes a role away (R326): causes 7 to 10 only the time role. -/
def roleBad (causes role : Nat) : Bool :=
  let l := if role = 0 then [1, 2, 3, 5, 6] else [1, 2, 3, 5, 6, 7, 8, 9, 10]
  l.any (fun c => bit causes c)

/-! ## States of an input (R327, R328) -/

/-- The input stands in the table in force with a rank. -/
def State.ranked (s : State) (i : Nat) : Bool := s.bel.table.any (fun w => bits w 3 0 == i && bits w 15 12 != 0)

/-- A role after its causes of this SF. -/
def RoleSt.test (r : RoleSt) (ranked bad : Bool) (n : Nat) : RoleSt :=
  if !ranked then { r with st := 0 }
  else match r.st with
  | 4 => if bad then { r with st := 2, since := n } else r
  | 2 => if bad then r else { r with st := 4, since := n }
  | 3 => if bad then { r with st := 1, since := n } else r
  | 1 => if bad then r else { r with st := 3, since := n }
  | _ => { r with st := if bad then 1 else 3, since := n }

/-- `InputState` of an input (R327). -/
def State.inputCode (s : State) (i : Nat) : Nat :=
  let x := s.input i
  if x.freq.st = 4 then (if timeCapable i && !(x.time.st == 4 && !s.peerFollows i 1) then 5 else 4) else x.freq.st

/-- `InputState` follows the roles. -/
def State.showInput (s : State) (i : Nat) : State := s.put Obj.inputState i (s.inputCode i)

/-- A role of an input is lost to a set of causes; with the PLL calibration failed every input counts as failed (R440). -/
def State.roleLost (s : State) (causes role : Nat) : Bool := s.u Obj.privCalState 0 == 3 || roleBad causes role

/-- One input is tested (R326, R328). The last 2 s before a hold-off of the frequency reference leave the holdover history
(R337). A timing loop is logged once (R348). -/
def State.testInput (s : State) (x : BelIn) (i : Nat) : State :=
  let off : Int := match lineOf i with
    | some c => s.i (on c Obj.lineClockOffset)
    | none => nth x.offsets (i - 1) 0
  let s := s.put Obj.inputFreqOffset i off
  let causes := s.causesOf i x
  let s := s.put Obj.inputFailCause i causes
  let n := s.clk.sfn
  let old := s.input i
  let rk := s.ranked i
  let f := old.freq.test rk (s.roleLost causes 0) n
  let t := if timeCapable i then old.time.test rk (s.roleLost causes 1) n else old.time
  let s := s.setInput i (fun _ => { causes := causes, freq := f, time := t })
  let s := if f.st = 2 ∧ old.freq.st ≠ 2 ∧ s.selected 0 = i then
      s.setBel (fun b => { b with hist := b.hist.drop 20000 })
    else s
  let s := match lineOf i with
    | none => s
    | some c =>
      let loops := (if s.peerFollows i 0 then [0] else []) ++
        (if s.peerFollows i 1 ∨ s.advCol c 3 2 = s.u Obj.deviceAddress then [1] else [])
      let s' := (loops.filter (fun r => !(s.line c).loops.contains r)).foldl
        (fun (s : State) r => s.logC c 0x300B (d8 c.inst ++ d8 r)) s
      s'.setLine c (fun l => { l with loops := loops })
  s.showInput i

/-! ## Selection (R329 to R331) -/

/-- Rank of an entry word. -/
def rankOf (w : Nat) : Nat := bits w 15 12

/-- The role of an input can be selected: available, and the far end does not follow this engine in it. -/
def State.roleReady (s : State) (role i : Nat) : Bool :=
  (role == 0 || timeCapable i) && ((s.input i).role role).st == 4 && !s.peerFollows i role

/-- The role of the current input keeps it selected: available or in hold-off. -/
def State.roleKept (s : State) (role i : Nat) : Bool :=
  let st := ((s.input i).role role).st
  i != 0 && s.ranked i && (st == 4 || st == 2) && !s.peerFollows i role

/-- An input in qualification whose causes have been clear for 10 s. -/
def State.roleClear (s : State) (role i : Nat) : Bool :=
  let r := (s.input i).role role
  (role == 0 || timeCapable i) && r.st == 3 && decide (r.since + 100000 ≤ s.clk.sfn) && !s.peerFollows i role

/-- Two inputs disagree as rank-mates of a role (R331). -/
def State.disagree (s : State) (role i j : Nat) : Bool :=
  let d := s.i Obj.inputFreqOffset i - s.i Obj.inputFreqOffset j
  let p := s.i Obj.inputPhase i - s.i Obj.inputPhase j
  decide (s.u Obj.rankMateThreshold * 10 < d.natAbs) || (role == 1 && decide (100000 < p.natAbs))

/-- Distance of an input's frequency from the holdover estimate, both against the master oscillator. -/
def State.fromEstimate (s : State) (i : Nat) : Nat :=
  (s.i Obj.inputFreqOffset i + s.bel.steer - s.i Obj.holdoverFreq).natAbs

/-- The best-ranked of some entries, rank-mates resolved (R331): the input, and whether it was chosen without a valid
estimate. Entries come in the order of their numbers. -/
def State.pickBest (s : State) (role cur : Nat) (ws : List Nat) : Nat × Bool :=
  match (ws.map rankOf).min? with
  | none => (0, false)
  | some best =>
    let ms := (ws.filter (fun w => rankOf w == best)).map (fun w => bits w 3 0)
    if ms.contains cur then (cur, false)
    else if ms.any (fun i => ms.any (fun j => s.disagree role i j)) then
      if s.u Obj.holdoverValid = 1 then
        (ms.foldl (fun b i => if s.fromEstimate i < s.fromEstimate b then i else b) (ms.headD 0), false)
      else (ms.headD 0, true)
    else (ms.headD 0, false)

/-- What a selector takes (R330): the input, the cause of a change (0 failed or first choice, 1 better-ranked
revertive, 2 forced), and whether rank-mates were chosen without a valid estimate. -/
def State.choose (s : State) (role : Nat) : Nat × Nat × Bool :=
  let cur := s.selected role
  let ws := s.bel.table.filter (fun w => bits w 3 0 != 0 && rankOf w != 0)
  let ready := ws.filter (fun w => s.roleReady role (bits w 3 0))
  let force := s.u Obj.forceRef role
  if force ≠ 0 ∧ s.ranked force ∧ s.roleReady role force then (force, 2, false)
  else if s.roleKept role cur then
    let rank := ((ws.find? (fun w => bits w 3 0 == cur)).map rankOf).getD 15
    let better := ready.filter (fun w => bit w 16 && decide (rankOf w < rank))
    if better.isEmpty then (cur, 0, false)
    else
      let p := s.pickBest role cur better
      (p.1, 1, p.2)
  else
    let pool := if ready.isEmpty then ws.filter (fun w => s.roleClear role (bits w 3 0)) else ready
    let p := s.pickBest role cur pool
    (p.1, 0, p.2)

/-- Rank-mates of the current input that disagree with it raise 3006h; when none does any more it clears (R331). -/
def State.mateAlarm (s : State) (role : Nat) : State :=
  let cur := s.selected role
  let rank := (s.bel.table.find? (fun w => bits w 3 0 == cur)).map rankOf
  let mate := (s.bel.table.map (fun w => (bits w 3 0, rankOf w))).find? (fun x =>
    some x.2 == rank && x.1 != cur && x.1 != 0 && s.roleReady role x.1 && s.disagree role cur x.1)
  let was := nth s.bel.mates role false
  let set := fun (s : State) (v : Bool) => s.setBel (fun b => { b with mates := setNth b.mates role v })
  match mate with
  | some (j, _) =>
    if was ∨ cur = 0 then s
    else (set s true).log 0x3006 (d8 cur ++ d8 j ++ i64 (s.i Obj.inputFreqOffset cur - s.i Obj.inputFreqOffset j))
  | none => if was then (set s false).log 0x3006 (d8 cur ++ d8 0 ++ i64 0) else s

/-! ## Loops (R334, R335) -/

/-- The object that holds a class's final bandwidth. -/
def finalObj (cls : Nat) : Nat := if cls = 2 then Obj.bwPps else if cls = 3 then Obj.bwLine else Obj.bwFrequency

/-- A rung lies above the final value of a class. -/
def State.aboveFinal (s : State) (cls mhz : Nat) : Bool := ratAbove mhz 1000 (s.u (finalObj cls))

/-- The ladder in millihertz. -/
def ladder : List Nat := [100000, 30000, 10000, 3000, 1000, 300, 100, 30, 10]

/-- The image that `LoopBandwidth` shows for a loop. -/
def State.loopImage (s : State) (cls : Nat) (l : LoopSt) : Nat :=
  if cls = 0 then 0 else if l.fin then s.u (finalObj cls) else f32OfRat l.mhz 1000

/-- The frequency loop takes a rung; 3008h when that is its final value. -/
def State.setRung (s : State) (cls : Nat) (l : LoopSt) : State :=
  let s := s.setBel (fun b => { b with freqLoop := l })
  if l.fin && cls != 0 then s.log 0x3008 (d8 0 ++ d32 (s.loopImage cls l)) else s

/-- The frequency loop starts on the selected input: 100 Hz, 0.1 Hz on a PPS (R334); OSC_IN is not followed (R325). -/
def State.startLoop (s : State) : State :=
  let cls := loopClass (s.selected 0)
  let m := if cls = 2 then 100 else 100000
  if cls = 0 then s.setBel (fun b => { b with freqLoop := LoopSt.idle })
  else s.setRung cls { mhz := m, fin := !s.aboveFinal cls m, since := none }

/-- A phase error of the frequency loop is seen: within ±10 ns it counts towards the next rung (R334). -/
def State.seePhase (s : State) (err : Int) : State :=
  let l := s.bel.freqLoop
  let since := if err.natAbs ≤ 10000 then (match l.since with
    | some t => some t
    | none => some s.clk.sfn) else none
  s.setBel (fun b => { b with freqLoop := { l with since := since } })

/-- LOOP_BANDWIDTH_STEP: the error has stayed within ±10 ns for 5 / B seconds (R334). -/
def execLoopBandwidthStep (s : State) : Host.Outcome State Fault Refusal :=
  let l := s.bel.freqLoop
  let cls := loopClass (s.selected 0)
  .next (match l.since with
    | none => s
    | some t =>
      if cls = 0 ∨ l.fin ∨ l.mhz = 0 ∨ s.clk.sfn < t + ceilDiv 50000000 l.mhz then s
      else match ladder.find? (fun r => decide (r < l.mhz)) with
        | none => s
        | some r =>
          if s.aboveFinal cls r then s.setRung cls { mhz := r, fin := false, since := none }
          else s.setRung cls { mhz := r, fin := true, since := none })

/-! ## Moving the local count (R61, R62) -/

/-- Picoseconds in a superframe. -/
abbrev sfPs : Int := 100000000

/-- The time base steps by some picoseconds at a local boundary (R61). Forward over boundaries: the skipped SFNs' agreed
coordinated entries on the local count are missed; the others run late at the next boundary. Back: the boundaries
withheld are counted. -/
def State.stepTime (s : State) (d : Int) : State :=
  if 0 ≤ d then
    let n := (d / sfPs).toNat
    let tick := ((d % sfPs) * 1024 / sfPs).toNat
    let new := s.clk.sfn + n
    let gone := s.clk.entries.filter (fun e => e.coord && decide (e.st = .agreed) && decide (e.count = .loc) &&
      decide (s.clk.sfn < e.sfn) && decide (e.sfn ≤ new))
    let s := gone.foldl (fun s e => s.missEntry e 3) s
    let s := { s with clk := { s.clk with sfn := new, tick := tick } }
    s.rebase n
  else { s with clk := { s.clk with tick := 0, withhold := s.clk.withhold + ceilDiv d.natAbs 100000000 } }

/-- The first anchor after reset (R62): entries of the local count keep their distance. -/
def State.firstAnchor (s : State) (d : Int) : State :=
  let n := (d / sfPs).toNat
  let s := s.setEntries (s.clk.entries.map (fun e =>
    if e.count = .loc then { e with sfn := e.sfn + n, orig := e.orig + n } else e))
  let s := s.stepTime d
  ({ s with clk := { s.clk with anchored := true } }).log 0xE009 (i64 n)

/-! ## Switching (R332, R333, R337) -/

/-- Cause of a change when the current input left the table (R332). -/
def State.switchCause (s : State) (old why : Nat) : Nat := if old ≠ 0 ∧ !s.ranked old then 3 else why

/-- The frequency selector takes an input, or none (R333, R337). -/
def State.takeFreq (s : State) (new why : Nat) : State :=
  let old := s.selected 0
  if new = old then s
  else
    let why := s.switchCause old why
    let s := s.put Obj.freqRefSelected 0 new
    let held := !s.bel.hist.isEmpty
    if new = 0 then
      let s := s.setBel (fun b => { b with freqLoop := LoopSt.idle })
      if held then s.log 0x3003 (d8 0 ++ d8 (s.u Obj.holdoverValid)) else s.log 0x300D
    else
      let s := (s.bump Obj.switchCount 0).log 0x3001 (d8 old ++ d8 new ++ d8 why)
      let s := if old = 0 ∧ held then s.log 0x3003 (d8 0 ++ d8 (s.u Obj.holdoverValid)) else s
      let s := if new = 13 then s.log 0x300D else s
      s.startLoop

/-- Time of an input less that of the time base, in ps. -/
def State.timeOffset (s : State) (i : Nat) : Int :=
  match lineOf i with
  | some c => -(s.i (on c Obj.lineTimeOffset))
  | none => (s.ppsIn (i - 5)).offset

/-- U of R338 while a time reference is selected, in ps. -/
def State.lockedUncertainty (s : State) : Nat :=
  let t := s.selected 1
  let src := match lineOf t with
    | some c => s.farWord c 12 * 1000 + s.u (on c Obj.linkTimeUncertainty)
    | none => s.u Obj.inputTimeUncertainty t * 1000
  src + s.bel.slew.natAbs + 100

/-- The case of R339 in force: 1 and 2 with a frequency reference, 3 to 5 holdover by `OscClass` 2, 1, 0, 6 to 8 the
same with the estimate not valid. -/
def State.holdCase (s : State) : Nat :=
  let f := s.selected 0
  if f ≠ 0 then (if s.u Obj.qlEnable = 1 ∧ s.u Obj.inputQl f = 2 then 1 else 2)
  else 5 - min 2 (s.u Obj.oscClass) + (if s.u Obj.holdoverValid = 1 then 0 else 3)

/-- Growth of a case of R339 over `n` SF, in 10⁻¹² ps. -/
def caseGrowth (k n : Nat) : Nat :=
  let y := nth [0, 1000000000, 100000000000, 10000000000, 100000000000, 200000000000] (if 5 < k then k - 3 else k) 0
  let a := nth [0, 0, 0, 50, 50000, 250000] (if 5 < k then k - 3 else k) 0
  (y + (if 5 < k then 5000000000000 else 0)) * n + a * n * n

/-- U of R339 while time is held, in 10⁻¹² ps. -/
def State.heldUncertainty (s : State) : Nat :=
  s.bel.u0 + caseGrowth s.bel.hcase (s.clk.sfn - s.bel.heldFrom)

/-- Time begins to be held with an uncertainty in 10⁻¹² ps. -/
def State.holdTime (s : State) (u : Nat) : State :=
  s.setBel (fun b => { b with u0 := u, heldFrom := s.clk.sfn, hcase := s.holdCase, slew := 0 })

/-- The time selector takes an input, or none (R333, R338, R61, R62). -/
def State.takeTime (s : State) (new : Nat) : State :=
  let old := s.selected 1
  if new = old then s
  else if new = 0 then
    let u := s.lockedUncertainty * 10 ^ 12
    let s := (s.put Obj.timeRefSelected 0 0).put Obj.timeQuality 0 2
    (s.holdTime u).log 0x3003 (d8 1 ++ d8 (s.u Obj.holdoverValid))
  else
    let off := s.timeOffset new
    let q := s.u Obj.timeQuality
    let s := (s.put Obj.timeRefSelected 0 new).bump Obj.switchCount 1
    let s := s.log 0x3002 (d8 old ++ d8 new ++ i64 off)
    let s := if old = 0 ∧ 2 ≤ q then s.log 0x3003 (d8 1 ++ d8 (s.u Obj.holdoverValid)) else s
    let s := s.put Obj.timeQuality 0 1
    if !s.clk.anchored then (s.firstAnchor off).setBel (fun b => { b with slew := 0 })
    else if q = 3 then ((s.stepTime off).setBel (fun b => { b with slew := 0 })).log 0xE008 (i64 off)
    else if off.natAbs ≤ 1000000 then s.setBel (fun b => { b with slew := off })
    else
      let s := (s.stepTime off).setBel (fun b => { b with slew := 0 })
      (s.log 0x3009 (i64 off)).log 0xE008 (i64 off)

/-- Both selectors run (R330 to R333). -/
def State.selectRefs (s : State) : State :=
  let f := s.choose 0
  let s := if f.2.2 then s.log 0x3007 (d8 f.1) else s
  let s := (s.takeFreq f.1 f.2.1).mateAlarm 0
  let t := s.choose 1
  let s := if t.2.2 then s.log 0x3007 (d8 t.1) else s
  (s.takeTime t.1).mateAlarm 1

/-! ## Per-superframe work -/

/-- A loop in use is held (R332, R351). -/
def State.belHeld (s : State) : Bool :=
  (s.selected 0 != 0 && ((s.input (s.selected 0)).freq.st == 2)) ||
  (s.selected 1 != 0 && ((s.input (s.selected 1)).time.st == 2)) || s.bel.holdSf == some s.clk.sfn

/-- `BelState` (R334, R337). -/
def State.belCode (s : State) : Nat :=
  let f := s.selected 0
  if s.u Obj.privCalState 0 = 3 then 0
  else if s.belHeld then 4
  else if f = 0 then (if s.bel.hist.isEmpty then 0 else 3)
  else if f = 13 then 0
  else if s.bel.freqLoop.fin then 2 else 1

/-- The time loop (R335): the frequency loop itself when one input serves both, else at the final value of its class. -/
def State.timeLoopRun (s : State) : State :=
  let t := s.selected 1
  let l := if t ≠ 0 ∧ t = s.selected 0 then s.bel.freqLoop else LoopSt.idle
  let s := s.setBel (fun b => { b with timeLoop := l })
  let s := s.put Obj.loopBandwidth 0 (s.loopImage (loopClass (s.selected 0)) s.bel.freqLoop)
  s.put Obj.loopBandwidth 1 (s.loopImage (loopClass t) l)

/-- History and estimate (R337). -/
def State.holdoverRun (s : State) (x : BelIn) : State :=
  let f := s.selected 0
  let s := s.setBel (fun b => { b with steer := x.steer })
  let s := if f ≠ 0 ∧ f ≠ 13 ∧ !s.belHeld ∧ s.bel.freqLoop.fin then
      s.setBel (fun b => { b with hist := (x.steer :: b.hist).take 3000000 })
    else s
  let n := s.bel.hist.length
  let s := s.put Obj.holdoverValid 0 (b2n (decide (600000 ≤ n)))
  if n = 0 then s else s.put Obj.holdoverFreq 0 (roundDiv (s.bel.hist.foldl (· + ·) 0) n)

/-- A step of the slew at 100 ns/s, 10 ps per SF (R333). -/
def slewStep (v : Int) : Int := if 10 < v then v - 10 else if v < -10 then v + 10 else 0

/-- Quality and uncertainty of the SF (R338, R339, R59), and the TimeSource of the advert (R348). In hold-off the time base
keeps its phase (R332), and the slew waits. -/
def State.qualityRun (s : State) : State :=
  let q := s.u Obj.timeQuality
  if q = 1 then
    let t := s.selected 1
    let src := match lineOf t with
      | some c => s.advCol c 3 2
      | none => s.u Obj.deviceAddress
    let s := s.put Obj.timeUncertainty 0 (min (ceilDiv s.lockedUncertainty 1000) 0xFFFFFFFF : Nat)
    let held := (s.input t).time.st == 2
    s.setBel (fun b => { b with slew := if held then b.slew else slewStep b.slew, source := src })
  else if q = 2 then
    let s := if s.holdCase = s.bel.hcase then s
      else
        let u := s.heldUncertainty
        s.setBel (fun b => { b with u0 := u, heldFrom := s.clk.sfn, hcase := s.holdCase })
    s.put Obj.timeUncertainty 0 (min (ceilDiv s.heldUncertainty (10 ^ 15)) 0xFFFFFFFF : Nat)
  else s

/-! ## Outputs (R340, R341) -/

/-- A squelch value holds its output low (R341). -/
def State.squelched (s : State) (v : Nat) : Bool :=
  let b := s.u Obj.belState
  (v == 1 || v == 2) && (b == 0 || s.u Obj.timeQuality == 0 || (v == 2 && b == 3))

/-- Frequency at CLK_OUTx, 0 while it is low (R341). -/
def State.clkOut (s : State) (x : Nat) : Nat :=
  if s.squelched (s.u Obj.clkOutSquelch x) then 0 else nth s.bel.clkF x 0

/-- Where an aligned output stands against the time base (R340): the last measured relation of its PPS input. -/
def State.aligned (s : State) (align : Nat) : Int := if align = 0 then 0 else (s.ppsIn (align - 1)).rel

/-- The pulses of this SF: SF_OUT each boundary, PPS_OUT at each second edge, when offsets and clock frequencies
written before take effect (R340, R341). -/
def State.outputsRun (s : State) : State :=
  let second := s.clk.sfn % 10000 == 0
  let s := if second then
      s.setBel (fun b => { b with
        sfOff := s.i Obj.sfOutOffset
        ppsOff := [s.i Obj.ppsOutOffset 0, s.i Obj.ppsOutOffset 1]
        clkF := [s.u Obj.clkOutFreq 0, s.u Obj.clkOutFreq 1, s.u Obj.clkOutFreq 2, s.u Obj.clkOutFreq 3] })
    else s
  let s := s.emit (.pulse 2 ((s.bel.sfOff + s.aligned (s.u Obj.sfOutAlign)) % sfPs) 0)
  if second then
    [0, 1].foldl (fun s x =>
      if s.squelched (s.u Obj.ppsOutSquelch x) then s
      else s.emit (.pulse x (nth s.bel.ppsOff x 0 + s.aligned (s.u Obj.ppsOutAlign x)) (s.u Obj.ppsOutWidth x))) s
  else s

/-- The Belvedere's work at a local boundary. -/
def State.belBoundary (s : State) (x : BelIn) : State :=
  if !s.awake Dn.bel then s
  else
    let s := s.bel.drop.foldl (fun s m =>
      { s with live := { s.live with nums := assocDel s.live.nums (okey Obj.refTable m) } }) s
    let s := s.setBel (fun b => { b with drop := [], table := (List.range 16).map (fun m => s.u Obj.refTable m) })
    let s := (s.asymRun .a).asymRun .b
    let s := [1, 2, 3, 4, 5, 6, 7, 8, 9, 10, 11, 12, 13].foldl (fun s i => s.testInput x i) s
    let cls := loopClass (s.selected 0)
    let s := if cls = 2 ∨ cls = 0 ∨ s.belHeld then s else s.seePhase x.phase
    let s := s.selectRefs
    let s := (s.timeLoopRun).holdoverRun x
    let s := s.put Obj.belState 0 s.belCode
    (s.qualityRun).outputsRun

/-! ## The commands -/

/-- A role that ends its hold-off with a cause has failed; the force that names it ends (R328, R330). -/
def State.failRole (s : State) (i role : Nat) : State :=
  if s.u Obj.forceRef role = i then (s.put Obj.forceRef role 0).log 0x300E (d8 role ++ d8 i) else s

/-- HOLD_OFF_END: hold-off of an input's roles is over (R328). -/
def execHoldOffEnd (i : Fin 14) (s : State) : Host.Outcome State Fault Refusal :=
  let x := s.input i
  let due := fun (r : RoleSt) => r.st == 2 && decide (r.since + sfOfMs (s.u Obj.holdOff) ≤ s.clk.sfn)
  let fin := fun (r : RoleSt) (role : Nat) =>
    if due r then (if s.roleLost x.causes role then { r with st := 1, since := s.clk.sfn, failed := true }
      else { r with st := 4, since := s.clk.sfn }) else r
  let s' := s.setInput i (fun x => { x with freq := fin x.freq 0, time := fin x.time 1 })
  let lost := [0, 1].filter (fun r => due (x.role r) && s.roleLost x.causes r)
  let s' := lost.foldl (fun s r => s.failRole i r) s'
  let s' := if lost.isEmpty then s' else s'.log 0x3004 (d8 i ++ d16 x.causes)
  .next (if due x.freq ∨ due x.time then s'.showInput i else s)

/-- QUALIFICATION_END: a role has been clear for its qualification period (R328). -/
def execQualificationEnd (i : Fin 14) (s : State) : Host.Outcome State Fault Refusal :=
  let x := s.input i
  let due := fun (r : RoleSt) => r.st == 3 &&
    decide (r.since + (if r.failed then s.u Obj.waitToRestore * 10000 else 100000) ≤ s.clk.sfn)
  let fin := fun (r : RoleSt) => if due r then { r with st := 4, since := s.clk.sfn } else r
  .next (if due x.freq ∨ due x.time then
      let s := (s.setInput i (fun x => { x with freq := fin x.freq, time := fin x.time })).showInput i
      if s.inputCode i = 4 ∨ s.inputCode i = 5 then s.log 0x3005 (d8 i ++ d8 (s.inputCode i)) else s
    else s)

/-- REF_TABLE_WRITE: an entry of the priority table (R329); in force from the next boundary. -/
def execRefTableWrite (w : Requester) (m v : Nat) (s : State) : Host.Outcome State Fault Refusal :=
  .next (s.hostWrite w 2 Obj.refTable m (.num v) (storeEffect Obj.refTable m))

/-- A force is set or taken away (R330). -/
def State.forceRefEffect (s : State) (m v : Nat) : Res × State :=
  ({}, (s.put Obj.forceRef m v).log 0x300E (d8 m ++ d8 v))

/-- FORCE_REF_WRITE. -/
def execForceRefWrite (w : Requester) (m v : Nat) (s : State) : Host.Outcome State Fault Refusal :=
  .next (s.hostWrite w 2 Obj.forceRef m (.num v) (fun x s => s.forceRefEffect m x.nat))

/-- PPS_EDGE: an edge of PPS_INx, `off` ps after the present local boundary, `err` ps from the phase the loop predicts
(R326, R334, R340, R342). The ToD message that named it gives its second. -/
def execPpsEdge (x : Fin 2) (off err : Int) (s : State) : Host.Outcome State Fault Refusal :=
  let i := 5 + x.val
  let p := s.ppsIn x
  let t : Int := s.clk.sfn * sfPs + off - s.i Obj.inputDelay i
  let r := t % 1000000000000
  let rel := if 500000000000 < r then r - 1000000000000 else r
  let p' : PpsSt := match p.tod with
    | some (sec, _) =>
      { p with edge := some s.clk.sfn, tod := none, prev := some sec
               todBad := (match p.prev with
                 | some q => sec != q + 1
                 | none => false)
               rel := rel, offset := (sec : Int) * 1000000000000 - t }
    | none => { p with edge := some s.clk.sfn, todBad := true, rel := rel, offset := -rel }
  let p' := { p' with jumps := if 200000 < err.natAbs then p.jumps + 1 else 0 }
  let s := (s.setBel (fun b => { b with pps := setNth b.pps x p' })).occur 0x3081 { cls := some 4 }
  let s := s.put Obj.inputPhase i (-rel)
  .next (if s.selected 0 = i ∧ !s.belHeld then
      let s := if 1000000 < err.natAbs then s.startLoop else s
      s.seePhase err
    else s)

/-- The ToD message is sound in itself (R342): 0, or the reason it is not: 1 form or CRC, 2 not valid. -/
def todReason (b : List Byte) : Nat :=
  if b.length ≠ 16 ∨ slice b 0 2 ≠ be 2 0x5444 ∨ ofBe (slice b 14 2) ≠ crc 16 0x1021 0xFFFF (b.take 14) then 1
  else if !bit (ofBe (slice b 8 1)) 0 then 2
  else 0

/-- TOD_MESSAGE: a message ends (R342); it must do so 100 to 900 ms after an edge. -/
def execTodMessage (x : Fin 2) (m : TodIn) (s : State) : Host.Outcome State Fault Refusal :=
  let i := 5 + x.val
  let inWindow := match (s.ppsIn x).edge with
    | some e => decide (e + 1000 ≤ s.clk.sfn) && decide (s.clk.sfn ≤ e + 9000)
    | none => false
  let why := if todReason m.octets ≠ 0 then todReason m.octets else if inWindow then 0 else 3
  .next (if why ≠ 0 then s.logLimited 0x300C 600000 0x300C 0 (d8 i ++ d8 why)
    else
      let ql := bits (ofBe (slice m.octets 9 1)) 3 0
      let s := s.setBel (fun b => { b with pps := modNth b.pps x (fun p =>
        { p with tod := some (ofBe (slice m.octets 2 6), s.clk.sfn) }) })
      if ql = 0 then s else s.put Obj.inputQl i ql)

/-- ADVERT_READ: the once-per-second read of the far end's advert over the MOC ends with an AOP status and, when that is
0000h, a row (R348). -/
def execAdvertRead (c : Carrier) (status : Nat) (row : List Byte) (s : State) : Host.Outcome State Fault Refusal :=
  let r := s.fresh 32
  let s := r.2.sendMoc c 1 (aopMsg 1 1 0 r.1 0 (opMsg 1 0 (on c Obj.lineAdvert) 0 0 0 [] []))
  .next (if status = 0 ∧ row.length = advertOctets then
      let s := s.putO (on c Obj.farAdvert) 0 row
      let s := s.put Obj.inputQl (7 + c.toNat) (ofBe (row.take 1))
      s.setLine c (fun l => { l with advFails := 0 })
    else
      let s := s.setLine c (fun l => { l with advFails := l.advFails + 1 })
      s.logC c 0x300F (d8 c.inst ++ d16 status))

/-! ## Damage (R351) -/

/-- A poisoned word of the Belvedere: 0 loop state, 1 holdover history, else an entry of `RefTable` (R351). -/
def State.belPoison (s : State) (part m : Nat) : State :=
  if part = 0 then s.startLoop
  else if part = 1 then (s.setBel (fun b => { b with hist := [] })).put Obj.holdoverValid 0 0
  else s.setBel (fun b => { b with drop := m :: b.drop })

/-- A Belvedere microcode activation holds both loops for its SF (R351). -/
def State.belActivate (s : State) : State := s.setBel (fun b => { b with holdSf := some s.clk.sfn })

end Sys2Proof.Machine
end

