-- ==== Sys2Proof/Machine/Footpath.lean ====
section
/-! DEFINITION. The footpath (13_footpath_channel.md) but for what a good packet does: tones (R381), directions and
their cost (R383, R398), the transmit queue and packets (R385 to R388), the receiver's states (R389 to R393), noise
floors (R394), and the neighbour (R396). -/

namespace Sys2Proof.Machine

/-- A condition that stands keeps its first SFN. -/
def since (now : Nat) (was : Option Nat) (holds : Bool) : Option Nat := if holds then some (was.getD now) else none

/-- The footpath of a carrier. -/
def State.ft (s : State) (c : Carrier) : FootSt := s.foot.get c

/-- The footpath of a carrier changed. -/
def State.setFt (s : State) (c : Carrier) (f : FootSt → FootSt) : State := { s with foot := s.foot.upd c f }

/-- The tone that a carrier's transmitter should use (R381). -/
def State.toneWanted (s : State) (c : Carrier) : Nat :=
  let v := s.u (on c Obj.footpathTone)
  if v = 255 then (2 * s.u Obj.deviceAddress + c.toNat) % 64 else v

/-- `FootpathRxState`. -/
def State.rxState (s : State) (c : Carrier) : Nat := s.u (on c Obj.footpathRxState)

/-- `FootpathRxState` set. -/
def State.setRxState (s : State) (c : Carrier) (v : Nat) : State := s.put (on c Obj.footpathRxState) 0 v

/-! ## Directions and their cost (R383, R398) -/

/-- Ledger item of a direction: 0 transmit, 1 receive. -/
def footItem (c : Carrier) (d : Nat) : Nat := c.toNat * 2 + d

/-- Cost of a direction in microwatts (R398). -/
def footCost (d : Nat) : Nat := if d = 0 then 50000 else 200000

/-- A direction should run: enabled, optics awake, and SVC awake to receive. -/
def State.footWanted (s : State) (c : Carrier) (d : Nat) : Bool :=
  s.u (on c Obj.footpathEnable) == 1 && s.awake (Dn.op c) && (d == 0 || s.awake Dn.svc)

/-- A direction runs. -/
def State.footOn (s : State) (c : Carrier) (d : Nat) : Bool := if d = 0 then (s.ft c).txOn else (s.ft c).rxOn

/-- A direction starts or stops, and D001h says so: cause 0 enable, 1 domain, 2 Allotment; a start names what kept the
direction off (log entry 62). -/
def State.footSwitch (s : State) (c : Carrier) (d : Nat) (v : Bool) (cause : Nat) : State :=
  let s := s.setFt c (fun f => if d = 0 then { f with txOn := v } else { f with rxOn := v })
  let s := if d = 1 then s.setRxState c (b2n v) else s
  s.logC c 0xD001 (d8 d ++ d8 cause)

/-- The cost of a direction is asked for (R398): it starts, or the refusal is logged once per run and asked again after
100 SF. -/
def State.footAsk (s : State) (c : Carrier) (d : Nat) : State :=
  let r := s.ask Act.foot (footItem c d) (footCost d)
  let was := nth (s.ft c).refused d none
  let mark := fun (s : State) (v : Option Nat) => s.setFt c (fun f => { f with refused := setNth f.refused d v })
  if r.1 = 0 then (mark r.2 none).footSwitch c d true (if was.isSome then 2 else nth (s.ft c).off d 1)
  else
    let s := mark r.2 (some s.clk.sfn)
    if was.isSome then s else s.logC c 0xD007 (d8 d ++ d8 r.1)

/-- A direction at a local boundary: stopped when it no longer should run, started when it should and no refusal
stands. -/
def State.footDirection (s : State) (c : Carrier) (d : Nat) : State :=
  if s.footWanted c d then
    if s.footOn c d ∨ (nth (s.ft c).refused d none).isSome then s else s.footAsk c d
  else
    let why := b2n (s.u (on c Obj.footpathEnable) == 1)
    let s := s.setFt c (fun f => { f with refused := setNth f.refused d none, off := setNth f.off d why })
    if s.footOn c d then (s.release Act.foot (footItem c d)).footSwitch c d false why else s

/-- FOOTPATH_LEDGER_RETRY: a refused direction asks again every 100 SF (R398). -/
def execFootpathLedgerRetry (c : Carrier) (d : Fin 2) (s : State) : Host.Outcome State Fault Refusal :=
  .next (match nth (s.ft c).refused d none with
    | some t => if t + 100 ≤ s.clk.sfn ∧ s.footWanted c d ∧ !s.footOn c d then s.footAsk c d else s
    | none => s)

/-! ## The transmit queue (R387, R388) -/

/-- Place of a packet type in the order of leaving: 3, 4, 2, 1, 5. -/
def footRank (typ : Nat) : Nat := if typ = 3 then 0 else if typ = 4 then 1 else if typ = 2 then 2 else if typ = 1 then 3 else 4

/-- A packet that found the queue full is dropped (R388). -/
def State.footDrop (s : State) (c : Carrier) (typ : Nat) : State :=
  (s.bump (on c Obj.txDropCount)).logSecond 0xD008 c.toNat c.inst (d8 typ)

/-- A packet joins the queue (R388): one of type 01h to 04h replaces its like; into a full queue it enters only by
displacing the newest packet of a lower type. -/
def State.footQueue (s : State) (c : Carrier) (p : FootPkt) : State :=
  let q := (s.ft c).queue.filter (fun x => !(p.typ != 5 && x.typ == p.typ && x.dest == p.dest))
  if q.length < 16 then s.setFt c (fun f => { f with queue := q ++ [p] })
  else
    let worst := q.foldl (fun r x => max r (footRank x.typ)) 0
    if worst ≤ footRank p.typ then s.footDrop c p.typ
    else
      match q.reverse.find? (fun x => footRank x.typ == worst) with
      | none => s.footDrop c p.typ
      | some x => (s.setFt c (fun f => { f with queue := (q.reverse.erase x).reverse ++ [p] })).footDrop c x.typ

/-- The packet that leaves next. -/
def nextPkt (q : List FootPkt) : Option FootPkt :=
  [0, 1, 2, 3, 4].findSome? (fun r => q.find? (fun x => footRank x.typ == r))

/-- CRC-8 of a header (R386). -/
def headerCheck (b : List Byte) : Nat := crc 8 0x07 0 (b.take 9)

/-- The header of a packet (R386). -/
def State.footHeader (s : State) (c : Carrier) (p : FootPkt) : List Byte :=
  let flags := s.u (on c Obj.frameLock) + 2 * b2n (s.lock c == 7)
  let b := be 1 p.typ ++ be 1 flags ++ be 2 p.data.length ++ be 2 (c.toNat * 8192 + s.u Obj.deviceAddress) ++
    be 2 p.dest ++ be 1 (s.ft c).seq
  b ++ be 1 (headerCheck b)

/-- Frequency of a tone in kHz (R381). -/
def toneKhz (k : Nat) : Nat := 2125 + 250 * k

/-- The sync word (R385). -/
def footSync : Nat := 0x6D2B79C4

/-- A packet's octets in order, preamble and sync word first, CRC-32 last (R385). -/
def State.footOctets (s : State) (c : Carrier) (p : FootPkt) : List Byte :=
  let b := s.footHeader c p ++ p.data
  be 4 0 ++ be 4 footSync ++ b ++ be 4 (crc32 b)

/-- The bits of octets, most significant first (R384). -/
def octetBits (b : List Byte) : List Bool :=
  (b.map (fun x => (List.range 8).map (fun i => x.getLsbD (7 - i)))).flatten

/-- The phase of the tone in each bit period, differential from the phase before: a 1 inverts it, a 0 keeps it (R384).
-/
def dpskPhases : Bool → List Bool → List Bool
  | _, [] => []
  | p, b :: l => (p != b) :: dpskPhases (p != b) l

/-- FOOTPATH_PACKET_TRANSMIT: the next packet goes out once 32 bit periods have passed since the last (R385); a new
tone takes effect with it (R381). During a privileged calibration none is sent (R439). -/
def execFootpathPacketTransmit (c : Carrier) (s : State) : Host.Outcome State Fault Refusal :=
  let f := s.ft c
  .next (match nextPkt f.queue with
    | none => s
    | some p =>
      if !f.txOn ∨ s.now < f.freeAt ∨ s.calRunning then s
      else
        let s := s.put (on c Obj.footpathToneInUse) 0 (s.toneWanted c)
        let s := s.emit (.foot c (toneKhz (s.toneWanted c)) (s.u (on c Obj.footpathDepth))
          (dpskPhases false (octetBits (s.footOctets c p))))
        let s := (s.bump (on c Obj.txPacketCount)).occur 0xD081 { carrier := some c, cls := some 3 }
        s.setFt c (fun f => { f with
          queue := f.queue.erase p
          seq := (f.seq + 1) % 256
          freeAt := s.now + (176 + 8 * p.data.length + 32) * 80000000 }))

/-- The Hello payload (R396). The spec gives no object for the transmit laser's frequency: it is a factory number
(log entry 3). -/
def State.helloPayload (s : State) (c : Carrier) : List Byte :=
  fit 16 (s.o Obj.deviceSerial) ++ be 2 (s.u Obj.deviceAddress) ++ be 1 c.toNat ++ be 1 (s.toneWanted c) ++
    be 4 (Config.factoryNumber 0xD114 c.toNat).toNat ++ be 4 (s.rxs c).lo ++ be 1 (s.lock c) ++
    be 1 (s.u Obj.timeQuality) ++ be 2 0

/-- The Hello interval in SF: 100 ms without frame lock, 1 s with it (R387). -/
def State.helloSf (s : State) (c : Carrier) : Nat := if s.u (on c Obj.frameLock) = 1 then 10000 else 1000

/-- HELLO: the timer queues a Hello (R387). -/
def execHello (c : Carrier) (s : State) : Host.Outcome State Fault Refusal :=
  .next (if (s.ft c).txOn ∧ (s.ft c).helloAt + s.helloSf c ≤ s.clk.sfn then
      (s.footQueue c { typ := 1, dest := 0xFFFF, data := s.helloPayload c }).setFt c
        (fun f => { f with helloAt := s.clk.sfn })
    else s)

/-- What a write of `FootpathSend` does (R388): at most four host messages wait. -/
def State.footSendEffect (s : State) (c : Carrier) (row : List Byte) : Res × State :=
  if 4 ≤ ((s.ft c).queue.filter (fun p => p.typ == 5)).length then ({ code := 0x0801 }, s)
  else ({}, s.footQueue c { typ := 5, dest := ofBe (slice row 2 2), data := row.drop 6 })

/-- FOOTPATH_SEND. -/
def execFootpathSend (w : Requester) (c : Carrier) (row : List Byte) (s : State) : Host.Outcome State Fault Refusal :=
  .next (s.hostWrite w 2 (on c Obj.footpathSend) 0 (.octs row) (fun x s => s.footSendEffect c x.bytes))

/-! ## The receiver (R389 to R394) -/

/-- The receiver returns to searching. -/
def State.footSearch (s : State) (c : Carrier) : State := s.setRxState c 1

/-- A tone's level lies the margin above its floor in every bit period given, the last first (R390). -/
def State.toneQualifies (s : State) (c : Carrier) (levels : List (List Int)) (k : Nat) : Bool :=
  levels.all (fun l => decide (s.i (on c Obj.noiseFloor) k + s.u (on c Obj.detectMargin) ≤ nth l k (-32768)))

/-- The strongest tone that qualifies, the lower on a tie (R390). -/
def State.toneFound (s : State) (c : Carrier) (levels : List (List Int)) : Option Nat :=
  let last := levels.headD []
  ((List.range 64).filter (s.toneQualifies c levels)).foldl (fun b k => match b with
    | none => some k
    | some j => if nth last j (-32768) < nth last k (-32768) then some k else some j) none

/-- TONE_DETECTED: the levels of every tone over 8 bit periods, the last first, in 0.1 dBc; a tone that lies the margin
above its floor in all of them is detected, and its level becomes the reference level (R390). -/
def execToneHeard (c : Carrier) (levels : List (List Int)) (s : State) : Host.Outcome State Fault Refusal :=
  .next (match s.toneFound c levels with
    | some k =>
      if s.rxState c = 1 then
        (s.setRxState c 2).setFt c (fun f => { f with
          tone := k, level := nth (levels.headD []) k (-32768), since := s.now })
      else s
    | none => s)

/-- Bits in which a window differs from the sync word (R391). -/
def syncErrors (w : BitVec 32) : Nat :=
  ((List.range 32).filter (fun i => w.getLsbD i != bit footSync i)).length

/-- A window of demodulated bits is a match (R391). -/
def State.syncMatches (s : State) (c : Carrier) (w : BitVec 32) : Bool :=
  decide (syncErrors w ≤ s.u (on c Obj.syncTolerance))

/-- The header starts after a sync word (R391). -/
def State.startHeader (s : State) (c : Carrier) (tone : Nat) (level : Int) : State :=
  (s.setRxState c 3).setFt c (fun f => { f with tone := tone, level := level, header := [] })

/-- SYNC_MATCH: a window of 32 demodulated bits, and the tone's level measured over it; a match starts the header
(R391), and in a header it shows that the reception was false (R392). -/
def execSyncMatch (c : Carrier) (window : BitVec 32) (level : Int) (s : State) : Host.Outcome State Fault Refusal :=
  .next (if !s.syncMatches c window then s
    else if s.rxState c = 2 then s.startHeader c (s.ft c).tone level
    else if s.rxState c = 3 then (s.bump (on c Obj.falseDetectCount)).startHeader c (s.ft c).tone level
    else s)

/-- FALSE_DETECTION: 96 bit periods after detection no sync word has come (R389). -/
def execFalseDetection (c : Carrier) (s : State) : Host.Outcome State Fault Refusal :=
  .next (if s.rxState c = 2 ∧ (s.ft c).since + 96 * 80000000 ≤ s.now then
      (s.bump (on c Obj.falseDetectCount)).footSearch c
    else s)

/-- HEADER_CHECK: ten octets complete the header (R392). -/
def execHeaderCheck (c : Carrier) (octets : List Byte) (s : State) : Host.Outcome State Fault Refusal :=
  .next (if s.rxState c ≠ 3 then s
    else if octets.length = 10 ∧ headerCheck octets = ofBe (slice octets 9 1) ∧ ofBe (slice octets 2 2) ≤ 256 then
      (s.setRxState c 4).setFt c (fun f => { f with header := octets })
    else (s.bump (on c Obj.headerFailCount)).footSearch c)

/-- WATCH_MATCH: the watch correlator's window on a tone whose level rose at least 6 dB above the reference level for 8
bit periods matches; the level measured over it becomes the reference level (R393). -/
def execWatchHit (c : Carrier) (tone : Fin 64) (rise : List Int) (window : BitVec 32) (level : Int) (s : State) :
    Host.Outcome State Fault Refusal :=
  .next (if 2 ≤ s.rxState c ∧ rise.all (fun l => decide ((s.ft c).level + 60 ≤ l)) ∧ s.syncMatches c window then
      (s.bump (on c Obj.lostToStrongerCount)).startHeader c tone level
    else s)

/-- NOISE_FLOOR_WINDOW: a 1 ms window without a detection, in searching (R394). -/
def execNoiseFloorWindow (c : Carrier) (levels : List Int) (s : State) : Host.Outcome State Fault Refusal :=
  .next (if s.rxState c ≠ 1 then s
    else (List.range (min 64 levels.length)).foldl (fun s k =>
      let l := (nth levels k 0 :: nth (s.ft c).floors k []).take 100
      let s := s.setFt c (fun f => { f with floors := setNth f.floors k l })
      s.put (on c Obj.noiseFloor) k (roundDiv (l.foldl (· + ·) 0) l.length)) s)

/-! ## The neighbour (R396) -/

/-- The neighbour by address: the Source of the valid cores while the carrier has frame lock, else the loudest Hello of
the last second. -/
def State.neighbourOf (s : State) (c : Carrier) : Option Nat :=
  if s.u (on c Obj.frameLock) = 1 then some (bits (s.farWord c 4) 31 19)
  else
    let l := (s.ft c).heard.filter (fun h => decide (s.clk.sfn < h.sfn + 10000))
    (l.foldl (fun (b : Option FootHello) h => match b with
      | none => some h
      | some x => if x.level < h.level then some h else some x) none).map (·.source)

/-- The neighbour follows what is heard; D002h on a new one, D003h when its wavelength cannot be acquired, D005h when
two sources clash (R396). -/
def State.neighbourRun (s : State) (c : Carrier) : State :=
  match s.neighbourOf c with
  | none => s
  | some a =>
    let f := s.ft c
    let h := f.heard.find? (fun x => x.source == a)
    let hello := (h.map (·.hello)).getD []
    let s := if f.neighbour = some a then s
      else
        let s := s.setFt c (fun f => { f with neighbour := some a, mismatch := false })
        s.logC c 0xD002 (d16 a ++ slice (fit 32 hello) 0 16 ++ slice (fit 32 hello) 19 1 ++ slice (fit 32 hello) 20 4)
    match h with
    | none => s
    | some h =>
      let s := s.putO (on c Obj.neighbour) 0 (h.hello ++ i16 h.level ++ be 8 h.sfn)
      let tx := ofBe (slice h.hello 20 4)
      let lo := (s.rxs c).lo
      let far := decide (lo + 3600 < tx) || decide (tx + 3600 < lo)
      let s := if far ∧ !(s.ft c).mismatch then s.logC c 0xD003 (d32 tx ++ d32 lo) else s
      s.setFt c (fun f => { f with mismatch := far })

/-- A pair of sources heard within a second on tones no more than 6 apart (R396). -/
def clashPair (l : List FootHello) (now : Nat) : Option (FootHello × FootHello) :=
  let l := l.filter (fun h => decide (now < h.sfn + 10000))
  (l.findSome? (fun x => (l.find? (fun y =>
    decide (x.source < y.source) && decide (x.tone ≤ y.tone + 6) && decide (y.tone ≤ x.tone + 6))).map (fun y => (x, y))))

/-- A Hello is heard (R396). -/
def State.helloHeard (s : State) (c : Carrier) (source : Nat) (hello : List Byte) : State :=
  let h : FootHello := { source := source, level := (s.ft c).level, tone := (s.ft c).tone, sfn := s.clk.sfn
                         hello := hello }
  let s := s.setFt c (fun f => { f with heard := h :: f.heard.filter (fun x =>
    x.source != source && decide (s.clk.sfn < x.sfn + 30000)) })
  let s := s.neighbourRun c
  let s := if (s.ft c).neighbour = some source then s.setFt c (fun f => { f with found := s.clk.sfn }) else s
  match clashPair (s.ft c).heard s.clk.sfn with
  | none => s.setFt c (fun f => { f with clash := none })
  | some (x, y) =>
    if (s.ft c).clash = some (x.source, y.source) then s
    else
      (s.setFt c (fun f => { f with clash := some (x.source, y.source) })).logC c 0xD005
        (d16 x.source ++ d8 x.tone ++ d16 y.source ++ d8 y.tone)

/-- NEIGHBOUR_LOST: no Hello of the neighbour for three intervals (R396). With frame lock the cores still name it. -/
def execNeighbourLost (c : Carrier) (s : State) : Host.Outcome State Fault Refusal :=
  .next (match (s.ft c).neighbour with
    | none => s
    | some a =>
      if (s.ft c).found + 3 * s.helloSf c ≤ s.clk.sfn then
        let keep := s.u (on c Obj.frameLock) == 1
        let s := s.setFt c (fun f => { f with
          neighbour := if keep then some a else none
          heard := f.heard.filter (fun x => x.source != a), mismatch := false, found := s.clk.sfn })
        (s.putO (on c Obj.neighbour) 0 []).logC c 0xD004 (d16 a)
      else s)

/-- The footpath's work at a local boundary. -/
def State.footBoundary (s : State) (c : Carrier) : State :=
  (((s.footDirection c 0).footDirection c 1).neighbourRun c)

/-- Queues and neighbour are empty after a reset or brown-out (R398). -/
def State.footReset (s : State) (c : Carrier) : State :=
  (s.putO (on c Obj.neighbour) 0 []).setFt c (fun f => { f with queue := [], heard := [], neighbour := none })

end Sys2Proof.Machine
end

