-- ==== Sys2Proof/Machine/Frame.lean ====
section
/-! DEFINITION. Line frame and client mapping (07_line_frame_and_client_mapping.md): blocks and their headers (R219 to
R225), plots (R226, R227), client map changes (R228 to R230, R586), the MOC (R209 to R211) and PTP lists (R215 to
R217). -/

namespace Sys2Proof.Machine

/-! ## Client maps (R227 to R230, R586) -/

/-- Plots that the clients of a carrier may use on a direction at present (R139). -/
def State.openPlots (s : State) (c : Carrier) (d : Dir) : Nat :=
  clientPlots (match d with
    | .tx => s.u (on c Obj.txPlotCapacity)
    | .rx => s.u (on c Obj.rxPlotCapacity))

/-- Clients of a map in the order in which plots are placed (R227): most plots first, then lower number. -/
def CMap.placed (m : CMap) : List Nat := sortBy (fun x => (64 - m.plotsOf x) * 64 + x) m.clients

/-- Owner of each plot below P (R227): client, or FEh for fill. -/
def CMap.owners (m : CMap) (p : Nat) : List Nat :=
  let l := (m.placed.map (fun x => List.replicate (m.plotsOf x) x)).flatten
  (l ++ List.replicate p 0xFE).take p

/-- Size codes of a map as octets, core words 34 to 41 in order (R202). -/
def sizeOctets (sizes : List Nat) : List Byte :=
  ((List.range 8).map (fun w => be 4 (sumNat ((List.range 8).map (fun i =>
    nth sizes (8 * w + i) 0 * 2 ^ (4 * i)))))).flatten

/-- The size codes that octets spell. -/
def sizesOf (b : List Byte) : List Nat :=
  (List.range 64).map (fun x => bits (ofBe (slice b (4 * (x / 8)) 4)) (4 * (x % 8) + 3) (4 * (x % 8)))

/-- Body of a client map change (R586). -/
def mapBody (m : CMap) (p : Nat) : List Byte :=
  be 4 (m.gen * 2 ^ 24 + p * 2 ^ 16) ++ be 8 m.carried ++ sizeOctets m.sizes

/-- The map that a body spells. -/
def mapOfBody (b : List Byte) : CMap :=
  { carried := ofBe (slice b 4 8), sizes := sizesOf (slice b 12 32), plots := bits (ofBe (slice b 0 4)) 23 16
    gen := bits (ofBe (slice b 0 4)) 31 24 }

/-- A map as an entry's data; the last flag marks a map given whole. -/
def CMap.data (m : CMap) : List Nat := [m.gen, m.carried, m.plots, 0] ++ m.sizes

/-- The map that a map change leads to on a direction (R586). -/
def State.mapAfter (s : State) (c : Carrier) (d : Dir) (data : List Nat) : CMap := (s.mapOf c d).after data

/-- Objects that show a map on the receive or transmit side. -/
def mapGenObj : Dir → Nat
  | .rx => Obj.rxMapGeneration
  | .tx => Obj.txMapGeneration

/-- A map takes effect on a direction (R150, R152, R228): clients shed and restored are logged, and the egress lanes of
those no longer carried take Local Fault (R248). -/
def State.applyMap (s : State) (c : Carrier) (d : Dir) (data : List Nat) : State :=
  let old := s.mapOf c d
  let new := { s.mapAfter c d data with plots := (s.loading c d).plots }
  let added := new.clients.filter (fun x => !bit old.carried x)
  let gone := old.clients.filter (fun x => !bit new.carried x)
  let s := (s.setMap c d new).put (on c (mapGenObj d)) 0 new.gen
  let s := s.logC c 0x7004 (d8 (dirOctet d) ++ d8 old.gen ++ d8 new.gen ++ d64 (maskOf added) ++ d64 (maskOf gone))
  let shed := gone.filter (fun x => nth new.sizes x 0 != 0)
  let s := shed.foldl (fun s x =>
    let s := s.logC c 0x5017 (d8 x ++ d8 (s.clsOf x) ++ d8 (old.plotsOf x) ++ d8 (dirOctet d))
    if d = .rx then s.bump (on c Obj.loadShedCount) else s) s
  let back := added.filter (fun x => ((s.ld c).shedOf d).contains x)
  let s := back.foldl (fun s x => s.logC c 0x5018 (d8 x ++ d8 (new.plotsOf x) ++ d8 (dirOctet d))) s
  let s := s.setLd c (fun l => l.setShed
    ((l.shedOf d ++ shed).eraseDups.filter (fun x => !bit new.carried x && nth new.sizes x 0 != 0)) d)
  let s := if d = .rx then
      let s := s.setFr c (fun f => { f with waiting := (List.range 64).filter (fun x =>
        !bit new.carried x && !((s.ld c).shed.contains x)) })
      gone.foldl (fun s x => s.egressFault c x) s
    else s
  (gone.filter (fun x => nth new.sizes x 0 == 0)).foldl (fun s x => s.releaseCtx c d x) s

/-- Size code of a client that the latest valid core of a carrier shows. -/
def State.farSize (s : State) (c : Carrier) (x : Nat) : Nat :=
  bits ((assocGet (s.fr c).core (34 + x / 8)).getD 0) (4 * (x % 8) + 3) (4 * (x % 8))

/-- Size code of a client in this engine's core (R202): the rate wanted on the carrier. -/
def State.ownSize (s : State) (c : Carrier) (x : Nat) : Nat := if s.configured c x then s.clientRate x else 0

/-- The map that a direction should have (R230): clients whose wanted rates agree at both ends, less those removed; those
that do not fit wait, and those shed come back with capacity only (R152). A carried client of another rate enters like a
new one. -/
def State.mapWanted (s : State) (c : Carrier) (d : Dir) (removed : List Nat) : CMap :=
  let m := s.mapOf c d
  let size := fun x =>
    if removed.contains x then 0
    else if s.ownSize c x = s.farSize c x then s.ownSize c x
    else nth m.sizes x 0
  let sizes := (List.range 64).map size
  let kept := m.clients.filter (fun x => nth sizes x 0 != 0 && nth sizes x 0 == nth m.sizes x 0)
  let base : CMap := { m with sizes := sizes, carried := maskOf kept }
  let out := (List.range 64).filter (fun x =>
    !bit base.carried x && nth sizes x 0 != 0 && !((s.ld c).shedOf d).contains x)
  let back := restoreWhile base.plotsOf (s.openPlots c d) base.inUse (s.shedOrderOf out).reverse
  { base with carried := maskOf (kept ++ back), gen := nextGen (s.mapGenBase c d), plots := (s.loading c d).plots }

/-- A client map change of a direction is in the table. -/
def State.mapPending (s : State) (c : Carrier) (d : Dir) : Bool :=
  s.clk.entries.any (fun e => decide (e.kind = .mapChange) && decide (e.carrier = some c) && decide (e.dir = d))

/-- Costs of the contexts of the clients that a map adds are asked for (R284). -/
def State.askMapCost (s : State) (c : Carrier) (d : Dir) (new : CMap) : Nat × State :=
  let old := s.mapOf c d
  (List.range 64).foldl (fun (a : Nat × State) x =>
    if a.1 ≠ 0 ∨ nth new.sizes x 0 = 0 ∨ nth old.sizes x 0 ≠ 0 ∨ !(a.2.ctx c d x).on then a
    else a.2.askCtx c d x (nth new.sizes x 0)) (0, s)

/-- A client map change of a direction is proposed, if it changes anything. -/
def State.proposeMap (s : State) (c : Carrier) (d : Dir) (removed : List Nat) : State :=
  let m := s.mapOf c d
  let new := s.mapWanted c d removed
  if s.mapPending c d ∨ (new.sizes = m.sizes ∧ new.carried = m.carried) then s
  else
    let a := s.askMapCost c d new
    if a.1 ≠ 0 then a.2
    else
      let e := { Entry.base .mapChange (a.2.leadSfn c) with dir := d, data := new.data }
      (a.2.proposeEngine c e (fun _ => mapBody new new.plots)).2

/-- The client map proposals of R230 for both directions, by the lower end. -/
def State.mapProposals (s : State) (c : Carrier) : State :=
  if s.isLower c then (s.proposeMap c .rx []).proposeMap c .tx [] else s

/-- A removal starts at once on every carrier that carries a client (R230). -/
def State.removeClient (s : State) (x : Nat) : State :=
  [Carrier.a, Carrier.b].foldl (fun s c =>
    if bit (s.fr c).txMap.carried x || bit (s.fr c).rxMap.carried x || nth (s.fr c).rxMap.sizes x 0 != 0 then
      (s.proposeMap c .rx [x]).proposeMap c .tx [x]
    else s) s

/-- Status with which a map proposal is refused by its contents (R586), 0 for none. -/
def State.mapStatus (s : State) (c : Carrier) (d : Dir) (m : CMap) : Nat :=
  if m.sizes.any (fun z => decide (5 < z)) || m.clients.any (fun x => nth m.sizes x 0 == 0) then 0x0301
  else if m.gen ≠ nextGen (s.mapGenBase c d) then 0x0502
  else 0

/-- What a coordinated entry held for its run goes with it when it is refused or cancelled: the map change that a
loading change implies (R586), the next key of a roll, the cost of a context that is off (R284), the trim of a swap
(R80). -/
def State.entryGone (s : State) (e : Entry) : State :=
  match e.carrier, e.kind with
  | some _, .loadingChange => s.impliedGone e
  | some c, .keyRoll => s.setCtx c e.dir e.key (fun x => { x with next := none })
  | some c, .contextSwitch => if (s.ctx c e.dir e.key).on then s else s.releaseCtx c e.dir e.key
  | some c, .sliceSwap => if e.key / 65536 = 255 then s else s.cancelSwap c (e.key % 256) 6
  | _, _ => s

/-- What a write of `ClientRate` does (R230, R241): 0 starts a removal. -/
def State.clientRateEffect (s : State) (x v : Nat) : Res × State :=
  let s := (s.put Obj.clientRate x v).judgeLanes
  ({}, if v = 0 then s.removeClient x else s)

/-- CLIENT_RATE_WRITE (R230). -/
def execClientRateWrite (w : Requester) (x : Fin 64) (v : Nat) (s : State) : Host.Outcome State Fault Refusal :=
  .next (s.hostWrite w 2 Obj.clientRate x (.num v) (fun a s => s.clientRateEffect x a.nat))

/-- CLIENT_RATE_MISMATCH: the rates at the two ends have differed for 10,000 SF (R230). -/
def execClientRateMismatch (c : Carrier) (x : Fin 64) (s : State) : Host.Outcome State Fault Refusal :=
  .next (match assocGet (s.fr c).rateDiff x with
    | some t =>
      if t + 10000 ≤ s.clk.sfn ∧ !(s.fr c).rateLogged.contains x.val then
        let s := s.setFr c (fun f => { f with rateLogged := x :: f.rateLogged })
        s.logC c 0x7006 (d8 x ++ d8 (s.ownSize c x) ++ d8 (s.farSize c x))
      else s
    | none => s)

/-! ## Client blocks (R219 to R225) -/

/-- What the header of a block in a client's plots must say (R225, R273, R280): BlockSeq, Client and Cells as the map has
them, the BlockCount of R221, or 0 in a maintenance block (R224). -/
def State.blockSound (s : State) (c : Carrier) (x : Nat) (h : BlockHead) : Bool :=
  let n := s.u (on c Obj.rxSfn)
  let m := (s.fr c).rxMap
  let rate := nth m.sizes x 0
  let k := s.ctx c .rx x
  h.seq == n % 2 ^ 18 && h.client == x && bit m.carried x && h.cells == rateCells rate &&
    (if h.typ = 1 then h.count == 0
     else h.typ == 0 && h.context == x && h.count == rateBlocks rate n && h.cipher == k.on)

/-- CLIENT_BLOCK_RECEIVED: the header of the block in a client's plots, words K0 to K3, is checked (R222, R225, R273,
R280). A maintenance block carries no data (R224). -/
def execClientBlockReceived (c : Carrier) (x : Fin 64) (head : List Nat) (s : State) :
    Host.Outcome State Fault Refusal :=
  let h := headOf head
  let keep := fun (s : State) => s.setFr c (fun f => { f with blockIn := assocSet f.blockIn x h })
  let drop := fun (s : State) => (s.egressFault c x).setFr c (fun f => { f with blockIn := assocDel f.blockIn x })
  let parity := (s.ctx c .rx x).epoch % 2 == 1
  .next (if !s.blockSound c x h then drop (s.bump (on c Obj.clientBlockDrops) x)
  else if h.typ = 1 then (keep s).egressFault c x
  else if h.cipher ∧ h.parity ≠ parity then drop (s.bump (on c Obj.desyncCount) x)
  else keep s)

/-! ## The MOC (R209 to R211) -/

/-- Octets of the packet stream for one unit: from `out`, at most `room`; whether the first begins a packet is known
from `head`. With `cut` the unit ends at the end of the packet in progress (R211). Answers the payload, the stream left
and whether what is left begins a packet. -/
def takeUnit (cut : Bool) : Nat → Bool → List (List Byte) → List Byte × List (List Byte) × Bool
  | _, head, [] => ([], [], head)
  | room, head, p :: l =>
    if room = 0 then ([], p :: l, head)
    else if p.length ≤ room then
      if cut then (p, l, true)
      else
        let r := takeUnit cut (room - p.length) true l
        (p ++ r.1, r.2.1, r.2.2)
    else (p.take room, p.drop room :: l, false)

/-- The MOC words of a frame, M0 first (R209), and the state after it: a unit sent again, a new one, or none. -/
def State.mocUnit (s : State) (c : Carrier) : List Nat × State :=
  let f := s.fr c
  let ack := (f.mocRxNext + 255) % 256
  let form := fun (seq : Nat) (start : Bool) (data : List Byte) =>
    let b := be 1 seq ++ be 1 ack ++ be 2 (b2n start * 2 ^ 15 + data.length * 2 ^ 8) ++ fit 125 data
    let w0 := ofBe (b.take 4) + ofBe (slice b 4 1)
    w0 :: (List.range 31).map (fun i => ofBe (slice b (5 + 4 * i) 4))
  let again := f.mocAgain.findSome? (fun q => f.mocUnacked.find? (fun u => u.seq == q))
  match again with
  | some u =>
    let s := s.setFr c (fun f => { f with
      mocAgain := f.mocAgain.filter (· != u.seq)
      mocUnacked := f.mocUnacked.map (fun y => if y.seq = u.seq then { y with sent := s.clk.sfn } else y) })
    (form u.seq u.start u.data, s.occurN 0x7083 u.data.length { carrier := some c, cls := some 2 })
  | none =>
    if f.mocOut.isEmpty ∨ 128 ≤ f.mocUnacked.length then (form f.mocTxSeq false [], s)
    else
      let cut := decide (16 ≤ f.mocNoStart)
      let (data, rest, head) := takeUnit cut 125 f.mocHead f.mocOut
      let u : MocUnit := { seq := f.mocTxSeq, start := f.mocHead, data := data, sent := s.clk.sfn }
      let s := s.setFr c (fun f => { f with
        mocOut := rest, mocHead := head, mocNoStart := if u.start then 0 else f.mocNoStart + 1
        mocTxSeq := (f.mocTxSeq + 1) % 256, mocUnacked := f.mocUnacked ++ [u] })
      (form u.seq u.start data, s.occurN 0x7083 data.length { carrier := some c, cls := some 2 })

/-- Both ends of a MOC restart at Seq 0, and units in flight are lost (R210). -/
def State.mocRestart (s : State) (c : Carrier) : State :=
  s.setFr c (fun f => { f with
    mocOut := if f.mocHead then f.mocOut else f.mocOut.drop 1
    mocHead := true, mocNoStart := 0, mocTxSeq := 0, mocUnacked := [], mocAgain := [], mocRxNext := 0, mocIn := []
    mocSync := false })

/-- Timeout of the oldest unit in SF (R210). -/
def State.mocTimeout (s : State) (c : Carrier) : Nat := ceilDiv (s.u (on c Obj.roundTrip)) 100000 + 4

/-- MOC_RESEND: the oldest unit is not acknowledged in time, and everything from it goes again (R210). -/
def execMocResend (c : Carrier) (s : State) : Host.Outcome State Fault Refusal :=
  .next (match (s.fr c).mocUnacked with
    | [] => s
    | u :: l =>
      if u.sent + s.mocTimeout c ≤ s.clk.sfn then
        let s := s.setFr c (fun f => { f with mocAgain := (u :: l).map (·.seq) })
        (s.bump (on c Obj.mocResendCount)).logSecond 0x7008 c.toNat c.inst (d8 u.seq)
      else s)

/-- Packets complete in the octets received, the octets left, and whether the stream broke (R211). -/
def parsePackets : Nat → List Byte → List (Nat × List Byte) × List Byte × Bool
  | 0, b => ([], b, false)
  | n + 1, b =>
    if b.length < 3 then ([], b, false)
    else
      let len := ofBe (b.take 2)
      let proto := ofBe (slice b 2 1)
      if len = 0 ∨ 4096 < len ∨ proto = 0 ∨ 3 < proto then ([], [], true)
      else if b.length < 3 + len then ([], b, false)
      else
        let r := parsePackets n (b.drop (3 + len))
        ((proto, slice b 3 len) :: r.1, r.2)

/-- A unit of the far end's MOC (R209 to R211): acknowledgements, then the payload if its Seq is the next. The packets
that it completes are handed on: an AOP message, an agreement message or a reset request is a command of its own. -/
def State.mocReceived (s : State) (c : Carrier) (words : List Nat) : State :=
  let b := (words.map (be 4)).flatten
  let seq := ofBe (slice b 0 1)
  let ack := ofBe (slice b 1 1)
  let start := bit (ofBe (slice b 2 1)) 7
  let len := ofBe (slice b 2 1) % 128
  let s := s.setFr c (fun f =>
    if f.mocUnacked.any (fun u => u.seq == ack) then
      let left := (f.mocUnacked.dropWhile (fun u => u.seq != ack)).drop 1
      { f with mocUnacked := left, mocAgain := f.mocAgain.filter (fun q => left.any (fun u => u.seq == q)) }
    else f)
  let f := s.fr c
  if len = 0 ∨ 125 < len ∨ seq ≠ f.mocRxNext then s
  else
    let data := slice b 3 len
    let s := s.setFr c (fun f => { f with mocRxNext := (f.mocRxNext + 1) % 256 })
    if !f.mocSync ∧ !start then s
    else
      let buf := if f.mocSync then f.mocIn ++ data else data
      let r := parsePackets 128 buf
      let s := s.setFr c (fun f => { f with mocIn := r.2.1, mocSync := !r.2.2 })
      let s := if r.2.2 then s.bump (on c Obj.mocErrorCount) else s
      r.1.foldl (fun s p => s.emit (.mocPacket c p.1 p.2)) s

/-! ## PTP lists (R215 to R217) -/

/-- Where the PTP header of an Ethernet frame begins: behind EtherType 88F7h, untagged or behind one or two tags of 8100h
or 88A8h (R215). -/
def ptpHead (b : List Byte) : Option Nat :=
  let typ := fun i => ofBe (slice b i 2)
  let tag := fun i => typ i == 0x8100 || typ i == 0x88A8
  [12, 16, 20].find? (fun i => typ i == 0x88F7 && (i == 12 || tag 12) && (i != 20 || tag 16)) |>.map (· + 2)

/-- The messageType of a PTP event message, 0 to 3; none where a frame is none (R215). -/
def ptpType (b : List Byte) : Option Nat :=
  match ptpHead b with
  | none => none
  | some i =>
    let t := ofBe (slice b i 1) % 16
    if t < 4 then some t else none

/-- An event message with a residence time added to correctionField, and the FCS behind it (R217; the field is the I64 at
octet 8 of the PTP header, log entry 80). -/
def ptpCorrected (b : List Byte) (residence : Int) : List Byte :=
  let b := match ptpHead b with
    | none => b
    | some i => b.take (i + 8) ++ be 8 (twos 64 (ofTwos 64 (ofBe (slice b (i + 8) 8)) + residence)) ++ b.drop (i + 16)
  b ++ (be 4 (crc32 b)).reverse

/-- A message on a client's ingress enters the list of each carrier that carries the client (R215). -/
def State.ptpIngress (s : State) (c : Carrier) (x : Nat) (p : PtpIn) (typ : Nat) : State :=
  if !bit (s.fr c).txMap.carried x || s.isStandby c then s
  else if 256 ≤ (s.fr c).ptp.length then
    let s := (s.setFr c (fun f => { f with ptpOver := f.ptpOver + 1 })).bump (on c Obj.ptpOverflowCount)
    s.logSecond 0x7007 c.toNat c.inst (d16 (s.fr c).ptpOver)
  else
    let e : PtpEntry := { client := x, block := p.block, octet := p.octet, msgType := typ, ingress := p.ingress }
    (s.setFr c (fun f => { f with ptp := f.ptp ++ [e] })).occur 0x7082 { carrier := some c, cls := some 4 }

/-- PTP_EVENT_MESSAGE: an event message is detected, stamped and listed (R215); any other frame passes. -/
def execPtpEventMessage (x : Fin 64) (p : PtpIn) (s : State) : Host.Outcome State Fault Refusal :=
  .next (match ptpType p.frame with
    | none => s
    | some t => (s.ptpIngress .a x p t).ptpIngress .b x p t)

/-- PTP_CORRECTION: the next event message of a client in the present received frame is paired with its next entry, its
residence time added, its FCS formed again, and it leaves on the host lane (R217); its stamp here is that of its egress, in
2⁻¹⁶ ns after the boundary that the entry's stamp counts from. One without its entry leaves unchanged. -/
def execPtpEgress (c : Carrier) (x : Fin 64) (p : PtpIn) (s : State) : Host.Outcome State Fault Refusal :=
  let plain := fun (s : State) => (s.bump (on c Obj.ptpUnmatchedCount)).emit (.ptp x (ptpCorrected p.frame 0))
  .next (if (ptpType p.frame).isNone then s
  else match (s.fr c).rxPtp.find? (fun e => e.client == x.val) with
    | none => plain s
    | some e =>
      let s := s.setFr c (fun f => { f with rxPtp := f.rxPtp.erase e })
      if e.block = p.block ∧ e.octet = p.octet.val then
        (s.add64 (on c Obj.ptpEventCount) 0 1).emit (.ptp x (ptpCorrected p.frame (p.ingress - e.ingress)))
      else plain s)

end Sys2Proof.Machine
end

