-- ==== Sys2Proof/Machine/Avenues.lean ====
section
/-! DEFINITION. Avenues and the Keeper (12_avenues_and_keeper.md): mode changes (R354 to R356), duplicate discard at V8
(R357 to R361), takeover (R362 to R368), core fields and view records (R369, R370), orders and disputes (R372 to R374),
planned switches (R375 to R378). -/

namespace Sys2Proof.Machine

/-! ## Accessors -/

/-- The avenues changed. -/
def State.setAv (s : State) (f : AvSt → AvSt) : State := { s with av := f s.av }

/-- `AvenueMode` in force. -/
def State.mode (s : State) : Nat := s.u Obj.avenueMode

/-- The carrier of an avenue code 1 or 2. -/
def avenueOf (n : Nat) : Option Carrier := if n = 1 then some .a else if n = 2 then some .b else none

/-- The carrying avenue of spare mode. -/
def State.carrying (s : State) : Option Carrier := avenueOf (s.u Obj.carryingAvenue)

/-- The preferred avenue. -/
def State.preferred (s : State) : Carrier := if s.u Obj.preferredAvenue = 0 then .a else .b

/-- Avenues that carry clients: 0 none, 1 A, 2 B, 3 both (R202, R362, R379). -/
def State.carryCode (s : State) : Nat :=
  match s.mode with
  | 2 => s.u Obj.carryingAvenue
  | 1 => 3
  | _ => b2n ((s.fr .a).txMap.carried != 0) + 2 * b2n ((s.fr .b).txMap.carried != 0)

/-- The present instant as a takeover round and its frame: the first round that step T4 builds after it, or round 0 of
the next frame (R366). -/
def State.nextRound (s : State) : Nat × Nat :=
  let r := ceilDiv (s.clk.tick * 25125) 1024
  if 25125 ≤ r then (s.clk.sfn + 1, 0) else (s.clk.sfn, r)

/-! ## Views (R369) and eligibility (R153, R356) -/

/-- This engine's view of an avenue: 0 good, 1 degraded, 2 failed, 3 not in service. -/
def State.viewOf (s : State) (c : Carrier) : Nat :=
  if s.lock c = 0 then 3
  else if s.lock c ≠ 7 ∨ s.u (on c Obj.frameLock) = 0 then 2
  else if s.u (on c Obj.marginAlarmState) = 1 ∨ s.u (on c Obj.uncorrectedAlarm) < s.u (on c Obj.uncorrectedRatio) then 1
  else 0

/-- Both ends' views of an avenue are good. -/
def State.viewsGood (s : State) (c : Carrier) : Bool := s.u (on c Obj.rxView) == 0 && s.u (on c Obj.farView) == 0

/-- Plots that a client takes when it is carried. -/
def State.clientSize (s : State) (x : Nat) : Nat := nth [0, 4, 8, 16, 32, 64] (s.clientRate x) 0

/-- A carrier's client capacity holds every committed client (R153). -/
def State.eligible (s : State) (c : Carrier) : Bool :=
  let need := sumNat ((List.range 64).map (fun x =>
    if s.configured c x && s.clsOf x == 0 then s.clientSize x else 0))
  decide (need ≤ clientPlots (s.u (on c Obj.txPlotCapacity))) && decide (need ≤ clientPlots (s.u (on c Obj.rxPlotCapacity)))

/-- The engine's eligibility bit (R153, R363): one bit, that of the avenue which is its standby. -/
def State.eligBit (s : State) : Bool := s.av.elig.a || s.av.elig.b

/-- The eligibility bit follows the standby's capacity; A00Ah on a change, with the carrier it is about. -/
def State.eligRun (s : State) : State :=
  let new : Pair Bool := { a := s.isStandby .a && s.eligible .a, b := s.isStandby .b && s.eligible .b }
  if s.av.elig = new then s
  else
    let was := s.eligBit
    let c : Carrier := if new.b || (!new.a && s.av.elig.b) then .b else .a
    let s := s.setAv (fun a => { a with elig := new })
    if s.eligBit = was then s else s.logC c 0xA00A (d8 c.inst ++ d8 (b2n s.eligBit))

/-! ## Core words 26 and 27 (R202, R369) -/

/-- The link Keeper is reachable (R374). -/
def State.keeperReachable (s : State) : Bool :=
  s.u Obj.keeperAddress != 0xFFFF && (match s.av.heardAt with
    | some t => decide (s.clk.sfn < t + 500)
    | none => false)

/-- Takeover shown in the cores of 16 SF (R366). -/
def State.takeoverShown (s : State) : Bool :=
  s.av.tookOver && decide (s.av.takeSfn < s.clk.sfn) && decide (s.clk.sfn ≤ s.av.takeSfn + 16)

/-- Request and RequestAvenue (R369). -/
def State.avRequest (s : State) : Nat × Nat :=
  match s.av.order with
  | some o => (5, o.avenue.inst)
  | none =>
    if s.av.cmd = 1 then (3, 0)
    else if s.av.cmd = 2 then (4, s.u Obj.carryingAvenue)
    else if s.av.blocked then (2, 3 - min 2 (s.u Obj.carryingAvenue))
    else if s.takeoverShown then (1, s.u Obj.carryingAvenue)
    else if s.av.waiting then (6, s.preferred.inst)
    else (0, 0)

/-- Word 26 of a carrier's core. -/
def State.word26 (s : State) : Nat :=
  let r := s.avRequest
  s.carryCode * 2 ^ 30 + b2n s.eligBit * 2 ^ 29 + s.u (on .a Obj.rxView) % 4 * 2 ^ 27 +
    s.u (on .b Obj.rxView) % 4 * 2 ^ 25 + r.1 * 2 ^ 22 + r.2 % 4 * 2 ^ 20 + b2n s.keeperReachable * 2 ^ 19 +
    s.av.lastSeq % 256 * 2 ^ 8

/-- Word 27. -/
def State.word27 (s : State) : Nat :=
  if s.takeoverShown then s.av.takeSfn % 65536 * 2 ^ 16 + s.av.takeRound else 0

/-! ## Clients on carriers (R355) -/

/-- The map that a mode gives a direction of a carrier, from both carriers' maps (R355). -/
def State.modeMap (s : State) (c : Carrier) (d : Dir) (mode : Nat) : CMap :=
  let m := s.mapOf c d
  let o := s.mapOf c.other d
  let keep := fun x => mode != 0 || s.u Obj.clientCarrier x == c.toNat
  let sizes := (List.range 64).map (fun x => if keep x then max (nth m.sizes x 0) (nth o.sizes x 0) else 0)
  let stay := m.clients.filter keep
  let base : CMap := { m with sizes := sizes, carried := maskOf stay }
  let more := o.clients.filter (fun x => keep x && !bit base.carried x)
  let back := restoreWhile base.plotsOf (s.openPlots c d) base.inUse (s.shedOrderOf more).reverse
  { base with carried := maskOf (stay ++ back), gen := nextGen m.gen, plots := (s.loading c d).plots }

/-- A direction's map follows a mode change, if the mode moves clients; the transmitter's contexts of the clients that it
adds take their setting, and the receiver takes them from the core (R276). -/
def State.moveClients (s : State) (c : Carrier) (d : Dir) (mode : Nat) : State :=
  let m := s.mapOf c d
  let new := s.modeMap c d mode
  if new.sizes = m.sizes ∧ new.carried = m.carried then s
  else
    let added := new.clients.filter (fun x => !bit m.carried x)
    let s := s.applyMap c d new.data
    if d = .rx then s else added.foldl (fun s x => s.turnCtx c d x (s.u Obj.contextEnable x == 1)) s

/-- Pause of a planned move, in nanoseconds (R376). -/
def State.movePause (s : State) (new : Carrier) : Nat :=
  (s.u (on new Obj.rxBoundaryDelay) - s.u (on new.other Obj.rxBoundaryDelay)) + 2000

/-- A mode change runs on the local count: the transmit side (R355). The first carrier's entry moves both. -/
def State.modeChangeTx (s : State) (mode carry : Nat) : State :=
  let old := s.mode
  if old = mode then s
  else
    let s := s.put Obj.avenueMode 0 mode
    let s := if mode = 2 then s.put Obj.carryingAvenue 0 carry else s
    let s := s.setAv (fun a => { a with tookOver := false, order := none, cmd := 0, exercise := false, waiting := false
                                        degraded := none, goodFrom := none, blocked := false })
    let s := s.log 0xA001 (d8 old ++ d8 mode)
    if (old = 1 ∧ mode = 2) ∨ (old = 2 ∧ mode = 1) then s
    else
      (s.moveClients .a .tx mode).moveClients .b .tx mode

/-- Clients that move to a carrier pause, their egress filled with idle (R376): `LastGap`. -/
def State.pauseOn (s : State) (new : Carrier) (moved : List Nat) : State :=
  if moved.isEmpty then s
  else moved.foldl (fun s x => s.emit (.egress x .idle)) (s.put Obj.lastGap 0 (s.movePause new : Nat))

/-- A mode change runs on a received count (R355): a client that the carrier takes over from the other is a planned
move. -/
def State.modeChangeRx (s : State) (c : Carrier) (mode carry : Nat) : State :=
  let old := (s.av.rx.get c).1
  let was := (s.mapOf c .rx).clients
  let other := (s.mapOf c.other .rx).clients
  let s := s.setAv (fun a => { a with rx := a.rx.set c (mode, carry), rxNext := a.rxNext.set c none })
  if old = mode ∨ (old = 1 ∧ mode = 2) ∨ (old = 2 ∧ mode = 1) then s
  else
    let s := s.moveClients c .rx mode
    if mode = 1 ∨ (mode = 2 ∧ carry ≠ c.inst) then s
    else s.pauseOn c ((s.mapOf c .rx).clients.filter (fun x => !was.contains x && other.contains x))

/-- Body of a kind 02h proposal (R354). -/
def modeBody (mode carry : Nat) : List Byte := be 4 (mode * 2 ^ 30 + carry * 2 ^ 28)

/-- Proposals of one write for several carriers and directions: all, or the first refusal and nothing. -/
def State.proposeAll (s : State) (l : List (Carrier × Dir)) (one : Carrier → Dir → State → Res × State) : Res × State :=
  let r := l.foldl (fun (a : Res × State) x => if a.1.code ≠ 0 then a else one x.1 x.2 a.2) ({}, s)
  if r.1.code ≠ 0 then (r.1, s) else r

/-- Both directions of both carriers. -/
def bothWays : List (Carrier × Dir) := [(.a, .tx), (.a, .rx), (.b, .tx), (.b, .rx)]

/-- What a scheduled write of `AvenueMode` does (R354): four proposals for one SFN. -/
def State.avenueModeEffect (s : State) (w : Requester) (mode : Nat) (t : Target) : Res × State :=
  let carry := if mode = 2 then s.preferred.inst else 0
  let extra := [if mode ≠ 0 ∧ s.u Obj.reorderWindow = 0 then 0x0303 else 0]
  let (n, s1) := s.newWrite
  let e := { Entry.base .modeChange 0 with obj := Obj.avenueMode, val := .num mode, data := [mode, carry], write := n }
  let r := s1.proposeAll bothWays (fun c d s =>
    s.hostProposeAt w c (s.resolve t .modeChange .loc (some c)) { e with dir := d } (fun _ => modeBody mode carry) extra)
  if r.1.code ≠ 0 then (r.1, s) else r

/-- AVENUE_MODE_WRITE (R354). -/
def execAvenueModeWrite (w : Requester) (mode : Nat) (t : Target) (s : State) : Host.Outcome State Fault Refusal :=
  .next (s.hostWrite w 3 Obj.avenueMode 0 (.num mode) (fun x s => s.avenueModeEffect w x.nat t))

/-- Status with which a mode proposal is refused by its contents (R354), under the rules of a local write (R46). -/
def State.checkMode (s : State) (mode carry : Nat) : Nat :=
  if mode ≠ 0 ∧ s.u Obj.reorderWindow = 0 then 0x0303 else
  if 2 < mode then 0x0301 else if mode = 2 ∧ carry ≠ 1 ∧ carry ≠ 2 then 0x0301
  else if mode ≠ 2 ∧ carry ≠ 0 then 0x0301 else 0

/-! ## The carrying avenue of the far end on the received counts (R362 to R366, R264) -/

/-- Cells that the present map gives a client in a frame that carries it. -/
def State.mapCells (s : State) (c : Carrier) (k : Nat) : Nat :=
  let m := (s.fr c).rxMap
  if bit m.carried k then rateCells (nth m.sizes k 0) else 0

/-- At a switch the clients that the new carrier's map does not hold are shed there (R150, R153). -/
def State.switchSheds (s : State) (new : Carrier) (d : Dir) : State :=
  let old := s.mapOf new.other d
  let lost := old.clients.filter (fun x => !bit (s.mapOf new d).carried x)
  let s := lost.foldl (fun s x =>
    let s := s.logC new 0x5017 (d8 x ++ d8 (s.clsOf x) ++ d8 (old.plotsOf x) ++ d8 (dirOctet d))
    if d = .rx then s.bump (on new Obj.loadShedCount) else s) s
  let s := s.setLd new (fun l => l.setShed (l.shedOf d ++ lost).eraseDups d)
  if d = .rx then s.setFr new (fun f => { f with waiting := f.waiting.filter (fun x => !lost.contains x) }) else s

/-- From received frame `n` on, the far end's carrying avenue is another (R264, R366). Frames of the carrier that have
passed under the former one are counted again under the new; a frame still to come waits. -/
def State.rxCarry (s : State) (c : Carrier) (avenue n : Nat) : State :=
  let m := s.u (on c Obj.rxSfn)
  let old := s.av.rx.get c
  if old.1 ≠ 2 then s
  else if m < n then s.setAv (fun a => { a with rxNext := a.rxNext.set c (some (n, avenue)) })
  else
    let was := old.2 == c.inst
    let is := avenue == c.inst
    let s := s.setAv (fun a => { a with rx := a.rx.set c (2, avenue), rxNext := a.rxNext.set c none })
    let s := if is ∧ !was then s.switchSheds c .rx else s
    if was = is then s
    else (List.range 64).foldl (fun s k =>
      let x := s.ctx c .rx k
      let cells := (m - n) * s.mapCells c k
      if x.on ∧ !x.stopped ∧ cells ≠ 0 then
        s.setCtx c .rx k (fun x => { x with e := if is then x.e + cells else x.e - cells })
      else s) s

/-- At a received boundary a carrying avenue that waited for its frame takes effect. -/
def State.rxCarryDue (s : State) (c : Carrier) : State :=
  match s.av.rxNext.get c with
  | some (n, avenue) => if n ≤ s.u (on c Obj.rxSfn) then s.rxCarry c avenue n else s
  | none => s

/-- The takeover frame that word 27 of frame `k` names (R369). -/
def takeoverFrame (k w : Nat) : Nat := k - (k + 65536 - bits w 31 16) % 65536

/-- A core of frame `k` shows the far end's carrying avenue (R362, R366): after a takeover the new avenue carries from
the takeover frame on, and the old one ends with it. -/
def State.farCarrying (s : State) (k av w27 : Nat) : State :=
  if w27 = 0 ∨ (s.av.rx.a.2 = av ∧ s.av.rx.b.2 = av) then s
  else
    let t := takeoverFrame k w27
    if s.av.seenTake = some t then s
    else
      let s := s.setAv (fun a => { a with seenTake := some t })
      [Carrier.a, Carrier.b].foldl (fun s c => s.rxCarry c av (if c.inst = av then t else t + 1)) s

/-! ## Takeover (R363 to R368) -/

/-- The receiver on an avenue has failed, and since when (R363): signal fail, or no frame lock, the earlier of the two. -/
def State.faultSince (s : State) (c : Carrier) : Option Nat :=
  let fail := if (s.rxs c).sfRaised then [(s.rxs c).sfSince] else []
  let lost := if s.u (on c Obj.frameLock) = 0 then [(s.fr c).unlockedAt * 10000000000] else []
  (fail ++ lost).min?

/-- The condition of R363 that fails for a standby: 0 none, 3 its receiver, 4 the far end's view or eligibility. -/
def State.standbyFault (s : State) (c : Carrier) : Nat :=
  if s.lock c ≠ 7 ∨ s.u (on c Obj.frameLock) = 0 ∨ !s.eligBit then 3
  else
    let w := s.farWord c 26
    let view := if c = .a then bits w 28 27 else bits w 26 25
    let fresh := decide (s.instantOf (.rx c) (s.farWord c 2 * 2 ^ 32 + s.farWord c 3) 0 + 3 * 10000000000 ≥ s.now)
    if view = 0 ∧ bit w 29 ∧ fresh then 0 else 4

/-- A switch: the avenue carries every client from the takeover round on, and the old one is muted (R364, R366). Cause
0 own evidence, 1 Keeper order. Clients that the new avenue does not carry are shed (R153). -/
def State.takeOver (s : State) (new : Carrier) (cause : Nat) : State :=
  let old := new.other
  let t := s.nextRound
  let s := s.put Obj.carryingAvenue 0 new.inst
  let s := s.bump Obj.takeoverCount
  let s := s.setAv (fun a => { a with
    prev := old.inst, takeSfn := t.1, takeRound := t.2, tookOver := true, blocked := false
    mute := a.mute.set old (some s.clk.sfn), gapFrom := some a.released, degraded := none, goodFrom := none })
  (s.log 0xA002 (d8 new.inst ++ d8 cause ++ d64 t.1 ++ d16 t.2)).switchSheds new .tx

/-- TAKEOVER: signal fail or loss of frame lock on the carrying avenue has outlasted the hold-off (R363, R364). -/
def execTakeover (s : State) : Host.Outcome State Fault Refusal :=
  .next (match s.carrying with
    | none => s
    | some c =>
      if s.mode ≠ 2 ∨ s.av.cmd ≠ 0 then s
      else match s.faultSince c with
        | none => s
        | some t =>
          if s.now < t + s.u Obj.spareHoldOff * 100000000000 then s
          else
            let f := s.standbyFault c.other
            if f = 0 then s.takeOver c.other 0
            else if s.av.blocked then s
            else (s.setAv (fun a => { a with blocked := true })).log 0xA004 (d8 f))

/-- SWITCH_MUTE_END: the far core on the new avenue shows the new carrying avenue, or 10 SF have passed (R365). -/
def execSwitchMuteEnd (c : Carrier) (s : State) : Host.Outcome State Fault Refusal :=
  .next (match s.av.mute.get c with
    | none => s
    | some t =>
      if bits (s.farWord c.other 26) 31 30 = c.other.inst ∨ t + 10 ≤ s.clk.sfn then
        s.setAv (fun a => { a with mute := a.mute.set c none })
      else s)

/-! ## Duplicate discard at V8 (R357 to R361) -/

/-- A client at V8. -/
def State.c8 (s : State) (x : Nat) : Client8 := nth s.av.clients x Client8.init

/-- A client at V8 changed. -/
def State.setC8 (s : State) (x : Nat) (f : Client8 → Client8) : State :=
  s.setAv (fun a => { a with clients := modNth a.clients x f })

/-- How far a number lies ahead of another, modulo 2³². -/
def ahead (n d : Nat) : Nat := (n + 2 ^ 32 - d) % 2 ^ 32

/-- Received boundary delay of B less A, in ns (`PathDelayDiff`). -/
def State.pathDiff (s : State) : Int := (s.u (on .b Obj.rxBoundaryDelay) : Int) - s.u (on .a Obj.rxBoundaryDelay)

/-- The faster avenue. -/
def State.faster (s : State) : Carrier := if s.pathDiff < 0 then .b else .a

/-- Latency after a release on an avenue (R358, R359): a slower copy leaves the client behind by the path difference;
copies from the faster one catch up by at most 1 block in 1,000, and A009h ends it. -/
def State.catchUp (s : State) (x : Nat) (c : Carrier) : State :=
  let k := s.c8 x
  if s.mode = 0 then s
  else if c ≠ s.faster then s.setC8 x (fun k => { k with lag := s.pathDiff.natAbs * 100000, lagAt := s.now })
  else if k.lag = 0 then s
  else
    let left := k.lag - (s.now - k.lagAt) / 1000
    let s := s.setC8 x (fun k => { k with lag := left, lagAt := s.now })
    if left = 0 then s.log 0xA009 (d8 x ++ d8 c.inst ++ i32 (-(s.pathDiff.natAbs : Int))) else s

/-- A write of `TwinRelease` (R358): the latency of every client that a paired mode releases steps between first arrival
and the slower avenue's instant plus 2 µs, and each step is reported (R26; A009h for it, log entry 76). -/
def State.twinReleaseEffect (s : State) (v : Nat) : Res × State :=
  let old := s.u Obj.twinRelease
  let s := s.put Obj.twinRelease 0 v
  if v = old ∨ s.mode = 0 then ({}, s)
  else
    ({}, (List.range 64).foldl (fun s x =>
      let c := s.u Obj.releaseAvenue x
      let wait : Int := (if c = s.faster.inst then (s.pathDiff.natAbs : Int) else 0) + 2000
      if c = 0 then s else s.log 0xA009 (d8 x ++ d8 c ++ i32 (if v = 1 then wait else -wait))) s)

/-- A cell is released (R357, R358): the release avenue may change, which under first arrival is a latency change, and the
gap of a switch ends (`LastGap`). -/
def State.releaseCell (s : State) (x : Nat) (k : Cell8) : State :=
  let s := s.emit (.egress x (.cell k.seq))
  let s := s.setC8 x (fun y => { y with
    due := some ((k.seq + 1) % 2 ^ 32), buffer := y.buffer.filter (fun z => z.seq != k.seq) })
  let old := s.u Obj.releaseAvenue x
  let first := s.u Obj.twinRelease == 0
  let s := if old = k.c.inst then s
    else
      let step : Int := if old = 0 then 0 else if k.c = .b then s.pathDiff else -s.pathDiff
      let s := s.put Obj.releaseAvenue x k.c.inst
      if first then s.log 0xA009 (d8 x ++ d8 k.c.inst ++ i32 step) else s
  let s := if first then s.catchUp x k.c else s
  let s := match s.av.gapFrom with
    | some t => (s.put Obj.lastGap 0 ((s.now - t) / 100000 : Nat)).setAv (fun a => { a with gapFrom := none })
    | none => s
  s.setAv (fun a => { a with released := s.now })

/-- Cells due and present are released, one after another, at most as many as wait. -/
def State.releaseRun (s : State) (x : Nat) : Nat → State
  | 0 => s
  | n + 1 =>
    match (s.c8 x).due with
    | none => s
    | some d =>
      match (s.c8 x).buffer.find? (fun k => k.seq == d) with
      | none => s
      | some k => (s.releaseCell x k).releaseRun x n

/-- Under first arrival every cell that is due and present goes at once (R358). -/
def State.firstArrival (s : State) (x : Nat) : State :=
  if s.u Obj.twinRelease = 0 then s.releaseRun x (s.c8 x).buffer.length else s

/-- CELL_ARRIVAL: a cell that has passed its tag or CRC-32 comes to V8 (R357, R282). The first cell of a client sets the
number due (log entry 22). -/
def execCellArrival (c : Carrier) (x : Fin 64) (seq : BitVec 32) (s : State) : Host.Outcome State Fault Refusal :=
  let n := seq.toNat
  let d := ((s.c8 x).due).getD n
  let cls := some (s.clsOf x)
  let dup := fun (s : State) => (s.add64 Obj.duplicateDiscards x 1).occur 0xA080 { cls := cls }
  .next (if 2 ^ 31 ≤ ahead n d then
      if (s.c8 x).lost.contains n then
        s.add64 Obj.lateCopyCount x 1
      else dup s
    else if (s.c8 x).buffer.any (fun k => k.seq == n) then dup s
    else
      let s := s.setC8 x (fun k => { k with
        due := some d, buffer := k.buffer ++ [{ seq := n, c := c, at_ := s.now }] })
      s.firstArrival x)

/-- CELL_LOST: a later cell has waited `ReorderWindow` while the cell due is absent (R357); its place carries error
blocks (R248). -/
def execCellLost (x : Fin 64) (s : State) : Host.Outcome State Fault Refusal :=
  let k := s.c8 x
  .next (match k.due with
    | none => s
    | some d =>
      if k.buffer.any (fun z => z.seq == d) then s
      else if k.buffer.any (fun z => decide (z.at_ + s.u Obj.reorderWindow * 100000000 ≤ s.now)) then
        let s := (s.add64 Obj.lostCellCount x 1).occur 0xA081 { cls := some (s.clsOf x) }
        let s := s.setC8 x (fun y => { y with
          due := some ((d + 1) % 2 ^ 32), lostNow := y.lostNow + 1
          lost := d :: y.lost.filter (fun z => decide (ahead d z < 2 ^ 31)) })
        (s.emit (.egress x .errorBlocks)).firstArrival x
      else s)

/-- ALIGNED_RELEASE: the copy of the cell due on the slower avenue is due, plus 2 µs (R358). -/
def execAlignedRelease (x : Fin 64) (s : State) : Host.Outcome State Fault Refusal :=
  .next (if s.u Obj.twinRelease = 1 then s.releaseRun x 1 else s)

/-- The reorder window is too short (R360). -/
def State.windowShort (s : State) : Bool :=
  decide (s.u Obj.reorderWindow * 1000 ≤ s.pathDiff.natAbs + 2000)

/-- REORDER_WINDOW_SHORT: A008h is raised, or cleared once the window has been long enough for 1 s (R360). -/
def execReorderWindowShort (s : State) : Host.Outcome State Fault Refusal :=
  let data := i32 s.pathDiff ++ d16 (s.u Obj.reorderWindow)
  .next (if s.windowShort then
      if s.av.short then s
      else (s.setAv (fun a => { a with short := true, okFrom := none })).log 0xA008 (data ++ d8 1)
    else if s.av.short && (match s.av.okFrom with
        | some t => decide (t + sfPerSecond ≤ s.clk.sfn)
        | none => false) then
      (s.setAv (fun a => { a with short := false, okFrom := none })).log 0xA008 (data ++ d8 0)
    else s)

/-! ## View records (R370) -/

/-- The view record as it stands (R370). -/
def State.viewRecord (s : State) : List Byte :=
  let peer := match s.carrying with
    | some c => bits (s.farWord c 4) 31 19
    | none => bits (s.farWord .a 4) 31 19
  let known := (s.fr .a).core.length + (s.fr .b).core.length != 0
  let w := s.avRequest
  let elig := s.eligBit
  be 2 (s.u Obj.deviceAddress) ++ be 2 (if known then peer else 0xFFFF) ++ be 1 s.mode ++ be 1 s.carryCode ++
    be 1 (s.u (on .a Obj.rxView)) ++ be 1 (s.u (on .b Obj.rxView)) ++ be 1 (s.u (on .a Obj.farView)) ++
    be 1 (s.u (on .b Obj.farView)) ++ be 1 w.1 ++
    be 1 (b2n elig + 2 * b2n (s.av.cmd == 1) + 4 * b2n s.keeperReachable) ++ be 4 s.clk.sfn

/-- Either avenue lacks frame lock. -/
def State.unlocked (s : State) : Bool := s.u (on .a Obj.frameLock) == 0 || s.u (on .b Obj.frameLock) == 0

/-- A packet goes out on the footpath of both carriers. -/
def State.footBoth (s : State) (typ : Nat) (data : List Byte) : State :=
  [Carrier.a, Carrier.b].foldl (fun s c => s.footQueue c { typ := typ, dest := 0xFFFF, data := data }) s

/-- VIEW_RECORD: every 1 ms, and at once on a change; to the footpath every 10 ms, and at once on a change, while
either avenue lacks frame lock (R370, R387). The group bus and the core carry it from there. -/
def execViewRecord (s : State) : Host.Outcome State Fault Refusal :=
  let new := s.viewRecord
  let changed := decide (new.take 12 ≠ s.av.record.take 12)
  .next (if s.mode ≠ 2 ∨ (!changed ∧ s.clk.sfn < s.av.recordAt + 10) then s
    else
      let s := s.setAv (fun a => { a with record := new, recordAt := s.clk.sfn })
      if s.unlocked ∧ (changed ∨ s.av.footAt + 100 ≤ s.clk.sfn) then
        (s.setAv (fun a => { a with footAt := s.clk.sfn })).footBoth 2 new
      else s)

/-- The record of a far end that has sent none: the defaults of R370. -/
def viewDefault : List Byte := be 4 0xFFFF ++ be 2 0 ++ [3, 3, 3, 3] ++ be 6 0

/-- The far end's view record as last received. -/
def State.farRecordNow (s : State) : List Byte := if s.av.farRecord.length = 16 then s.av.farRecord else viewDefault

/-- A view record of the far end arrives (R370, R395). -/
def State.farRecordHeard (s : State) (b : List Byte) : State :=
  let s := s.put (on .a Obj.farView) 0 (ofBe (slice b 6 1) % 4 : Nat)
  let s := s.put (on .b Obj.farView) 0 (ofBe (slice b 7 1) % 4 : Nat)
  s.setAv (fun a => { a with farRecord := b })

/-! ## Disputes and orders (R372 to R374) -/

/-- The far end's view record as a core carries it (R370): its fields, and for its sight of this engine's views, which the
core does not carry, this engine's own (log entry 22). -/
def State.coreRecord (s : State) (word : Nat → Nat) : List Byte :=
  let w := word 26
  let r := bits w 24 22
  be 2 (bits (word 4) 31 19) ++ be 2 (s.u Obj.deviceAddress) ++ be 1 (bits (word 4) 17 16) ++ be 1 (bits w 31 30) ++
    be 1 (bits w 28 27) ++ be 1 (bits w 26 25) ++ be 1 (s.u (on .a Obj.rxView)) ++ be 1 (s.u (on .b Obj.rxView)) ++
    be 1 r ++ be 1 (bits w 29 29 + 2 * b2n (r == 3) + 4 * bits w 19 19) ++ be 4 (word 3)

/-- The far end's Mode and Carrying as last seen. -/
def State.farModeCarry (s : State) : Option (Nat × Nat) :=
  if s.av.farRecord.length = 16 then some (ofBe (slice s.av.farRecord 4 1), ofBe (slice s.av.farRecord 5 1)) else none

/-- The far end shows a blocked takeover. -/
def State.farBlocked (s : State) : Bool := s.av.farRecord.length == 16 && ofBe (slice s.av.farRecord 10 1) == 2

/-- The link is in dispute (R372). -/
def State.inDispute (s : State) : Bool :=
  let failed := fun c => s.u (on c Obj.rxView) == 2 || s.u (on c Obj.farView) == 2
  s.mode == 2 && (s.av.blocked || s.farBlocked || (failed .a && failed .b) ||
    (match s.av.disputeFrom with
      | some t => decide (t + 10 < s.clk.sfn)
      | none => false) ||
    (match s.farModeCarry with
      | some x => x.1 != s.mode
      | none => false))

/-- An order reaches an end of its link (R373): applied at its first sight unless a lockout stands. -/
def State.keeperOrder (s : State) (b : List Byte) (bus : Bool) : State :=
  let me := s.u Obj.deviceAddress
  let lower := ofBe (slice b 2 2)
  let higher := ofBe (slice b 4 2)
  let seq := ofBe (slice b 6 1)
  match avenueOf (ofBe (slice b 7 1)) with
  | none => s
  | some c =>
    if s.mode ≠ 2 ∨ (me ≠ lower ∧ me ≠ higher) ∨ seq = s.av.lastSeq then s
    else if s.av.cmd = 1 then s
    else
      let o : Order := { keeper := ofBe (slice b 0 2), seq := seq, avenue := c, octets := b.take 8, bus := bus
                         sent := 0, sentAt := s.clk.sfn }
      let s := s.setAv (fun a => { a with order := some o, lastSeq := seq, blocked := false })
      let s := (s.bump Obj.keeperOrderCount).log 0xA005 (d8 seq ++ d8 c.inst ++ d16 o.keeper)
      if s.u Obj.carryingAvenue = c.inst then s else s.takeOver c 1

/-- KEEPER_ORDER: an order comes over the group bus (R373). -/
def execKeeperOrder (b : List Byte) (s : State) : Host.Outcome State Fault Refusal :=
  .next (if b.length = 8 then s.keeperOrder b true else s)

/-- The higher end sees an order in the far core (R373): Request 101b with the avenue and a new OrderSeq. -/
def State.orderSeen (s : State) (c : Carrier) (w26 : Nat) : State :=
  let far := bits (s.farWord c 4) 31 19
  if bits w26 24 22 = 5 ∧ !s.isLower c then
    s.keeperOrder (be 2 (s.u Obj.keeperAddress) ++ be 2 far ++ be 2 (s.u Obj.deviceAddress) ++ be 1 (bits w26 15 8) ++
      be 1 (bits w26 21 20)) false
  else s

/-- KEEPER_ORDER_REPEAT: an order taken over the group bus goes out on the footpath of both carriers three times, 1 ms
apart, then every 10 ms, while either avenue lacks frame lock (R397). -/
def execKeeperOrderRepeat (s : State) : Host.Outcome State Fault Refusal :=
  .next (match s.av.order with
    | none => s
    | some o =>
      let wait := if o.sent = 0 then 0 else if o.sent < 3 then 10 else 100
      if o.bus ∧ s.unlocked ∧ o.sentAt + wait ≤ s.clk.sfn then
        (s.setAv (fun a => { a with order := some { o with sent := o.sent + 1, sentAt := s.clk.sfn } })).footBoth 3
          o.octets
      else s)

/-- KEEPER_UNREACHABLE: the link Keeper has not been heard for 50 ms while a dispute stands (R374). -/
def execKeeperUnreachable (s : State) : Host.Outcome State Fault Refusal :=
  .next (if s.keeperReachable ∨ !s.inDispute ∨ s.av.unreach then s
    else
      (s.setAv (fun a => { a with unreach := true })).log 0xA007
        (d8 (s.u (on .a Obj.rxView)) ++ d8 (s.u (on .b Obj.rxView)) ++ d8 (s.u (on .a Obj.farView)) ++
          d8 (s.u (on .b Obj.farView))))

/-! ## Planned switches (R375 to R378) -/

/-- Body of a kind 03h proposal (R375). -/
def switchBody (avenue cause : Nat) : List Byte := be 4 (avenue * 2 ^ 30 + cause * 2 ^ 27)

/-- The carrier that a planned switch names (R375). -/
def State.switchCarrier (s : State) : Carrier :=
  let c := (s.carrying).getD .a
  if s.lineUp c then c else c.other

/-- Proposals of a planned switch by the host for one SFN (R375). -/
def State.hostSwitch (s : State) (w : Requester) (write : Nat) (avenue : Carrier) (cause sfn : Nat) (extra : List Nat) :
    Res × State :=
  let c := s.switchCarrier
  let e := { Entry.base .plannedSwitch sfn with
    obj := Obj.avenueCommand, data := [avenue.inst, cause], write := write }
  let t : Target := { relative := false, sfn := sfn, symbols := false, offset := 0 }
  s.proposeAll [(c, .tx), (c, .rx)] (fun c d s =>
    s.hostProposeAt w c (s.resolve t .plannedSwitch .loc (some c)) { e with dir := d }
      (fun _ => switchBody avenue.inst cause) extra)

/-- What a write of `AvenueCommand` does (R375); one that is accepted replaces a Keeper order (R373). -/
def State.avenueCommandEffect (s : State) (w : Requester) (row : List Byte) : Res × State :=
  let k := ofBe (slice row 2 1)
  let sfn := ofBe (slice row 3 8)
  if s.mode ≠ 2 then ({ code := 0x0502 }, s)
  else
    let s0 := s
    let s := s.setAv (fun a => { a with order := none })
    let keep := fun (r : Res × State) => if r.1.code ≠ 0 then (r.1, s0) else r
    let target : Carrier := if k = 2 ∨ k = 4 then .a else .b
    let (n, s1) := s.newWrite
    if k = 0 then ({}, s.setAv (fun a => { a with cmd := 0 }))
    else if k = 1 then ({}, s.setAv (fun a => { a with cmd := 1 }))
    else if k = 2 ∨ k = 3 then keep (s1.hostSwitch w n target 1 sfn [])
    else if k = 4 ∨ k = 5 then keep (s1.hostSwitch w n target 0 sfn [if s.viewsGood target then 0 else 0x0502])
    else
      let c := (s.carrying).getD .a
      let r := s1.hostSwitch w n c.other 4 sfn []
      if r.1.code ≠ 0 then (r.1, s0) else keep (r.2.hostSwitch w n c 4 (sfn + 100) [])

/-- Octets of an `AvenueCommand` row. -/
def commandRow (k sfn : Nat) : List Byte := be 2 1 ++ be 1 k ++ be 8 sfn

/-- A write of `AvenueCommand`. -/
def State.avenueCommand (s : State) (w : Requester) (k sfn : Nat) : State :=
  s.hostWrite w 2 Obj.avenueCommand 0 (.octs (commandRow k sfn)) (fun x s => s.avenueCommandEffect w x.bytes)

/-- AVENUE_CLEAR: command 0. -/
def execAvenueClear (w : Requester) (sfn : BitVec 64) (s : State) : Host.Outcome State Fault Refusal :=
  .next (s.avenueCommand w 0 sfn.toNat)

/-- LOCKOUT: command 1. -/
def execLockout (w : Requester) (sfn : BitVec 64) (s : State) : Host.Outcome State Fault Refusal :=
  .next (s.avenueCommand w 1 sfn.toNat)

/-- FORCED_SWITCH: command 2 to A, 3 to B. -/
def execForcedSwitch (w : Requester) (c : Carrier) (sfn : BitVec 64) (s : State) : Host.Outcome State Fault Refusal :=
  .next (s.avenueCommand w (1 + c.inst) sfn.toNat)

/-- MANUAL_SWITCH: command 4 to A, 5 to B. -/
def execManualSwitch (w : Requester) (c : Carrier) (sfn : BitVec 64) (s : State) : Host.Outcome State Fault Refusal :=
  .next (s.avenueCommand w (3 + c.inst) sfn.toNat)

/-- EXERCISE: command 6. -/
def execExercise (w : Requester) (sfn : BitVec 64) (s : State) : Host.Outcome State Fault Refusal :=
  .next (s.avenueCommand w 6 sfn.toNat)

/-- A planned switch is in the table. -/
def State.switchPending (s : State) : Bool := s.clk.entries.any (fun e => decide (e.kind = .plannedSwitch))

/-- The engine arms a planned switch in both directions, for one SFN (R378). -/
def State.armSwitch (s : State) (avenue : Carrier) (cause : Nat) : State :=
  let c := s.switchCarrier
  let e := { Entry.base .plannedSwitch (s.leadSfn c) with data := [avenue.inst, cause] }
  let p := s.proposeEngine c { e with dir := .tx } (fun _ => switchBody avenue.inst cause)
  match p.1 with
  | none => p.2
  | some n =>
    let sfn := ((p.2.clk.entries.find? (fun x => x.num == n)).map (·.sfn)).getD e.sfn
    (p.2.proposeEngine c { e with dir := .rx, sfn := sfn } (fun _ => switchBody avenue.inst cause)).2

/-- No lockout, forced command or Keeper order stands, and no switch is under way. -/
def State.mayArm (s : State) : Bool :=
  s.mode == 2 && s.av.cmd == 0 && s.av.order.isNone && !s.switchPending

/-- DEGRADE_SWITCH: the carrying view has been degraded for 100 SF and the standby's views are good (R378). -/
def execDegradeSwitch (s : State) : Host.Outcome State Fault Refusal :=
  .next (match s.carrying, s.av.degraded with
    | some c, some t =>
      if s.mayArm ∧ t + 100 ≤ s.clk.sfn ∧ s.viewsGood c.other then s.armSwitch c.other 3 else s
    | _, _ => s)

/-- REVERT: the preferred avenue's views have stayed good for `SpareWaitToRestore` (R378). -/
def execRevert (s : State) : Host.Outcome State Fault Refusal :=
  .next (match s.av.goodFrom with
    | none => s
    | some t =>
      if s.mayArm ∧ s.u Obj.spareRevert = 1 ∧ s.u Obj.carryingAvenue ≠ s.preferred.inst ∧
          t + s.u Obj.spareWaitToRestore * sfPerSecond ≤ s.clk.sfn then s.armSwitch s.preferred 2
      else s)

/-- Status with which a planned switch is refused by its contents at the far end (R375): the target's view for a manual
one, a lockout, forced command or order in force for revert or degrade. -/
def State.checkSwitch (s : State) (avenue cause : Nat) : Nat :=
  match avenueOf avenue with
  | none => 0x0301
  | some c =>
    if 4 < cause then 0x0301
    else if s.mode ≠ 2 then 0x0502
    else if cause = 0 ∧ !s.viewsGood c then 0x0502
    else if (cause = 2 ∨ cause = 3) ∧ (s.av.cmd ≠ 0 ∨ s.av.order.isSome) then 0x0502
    else 0

/-- A planned switch runs on the local count (R376): no cell is lost. A forced one of this engine's
host holds there; an exercise ends with its second switch. -/
def State.switchTx (s : State) (e : Entry) : State :=
  match avenueOf (nth e.data 0 0) with
  | none => s
  | some c =>
    if s.mode ≠ 2 then s
    else
      let cause := nth e.data 1 0
      let was := s.u Obj.carryingAvenue
      let s := s.put Obj.carryingAvenue 0 c.inst
      let s := s.setAv (fun a => { a with
        tookOver := false, degraded := none, goodFrom := none, waiting := false
        cmd := if cause = 1 ∧ e.role.isSome then 2 else a.cmd
        exercise := if cause = 4 then !a.exercise else a.exercise })
      let s := s.log 0xA003 (d8 c.inst ++ d8 cause)
      if was = c.inst then s
      else
        s.switchSheds c .tx

/-- A planned switch runs on a received count (R376): both carriers' frames from its SFN on; the outputs of the clients
that move pause. -/
def State.switchRx (s : State) (e : Entry) : State :=
  let dest := nth e.data 0 0
  let moves := [Carrier.a, Carrier.b].any (fun c => (s.av.rx.get c).1 == 2 && (s.av.rx.get c).2 != dest)
  let s := [Carrier.a, Carrier.b].foldl (fun s c => s.rxCarry c dest e.sfn) s
  match avenueOf dest with
  | some c => if moves then s.pauseOn c (s.fr c).rxMap.clients else s
  | none => s

/-! ## Per-superframe work -/

/-- `AvenueState` (R379). -/
def State.avenueCode (s : State) : Nat :=
  if s.mode = 0 then 0
  else if s.mode = 1 then 1
  else if s.av.exercise then 7
  else if s.inDispute then 6
  else if s.av.cmd ≠ 0 then 5
  else if s.av.waiting then 4
  else if s.u Obj.carryingAvenue = s.preferred.inst then 2
  else 3

/-- Cells lost in the last second are logged per client (A00Bh), at whole seconds. -/
def State.lostRun (s : State) : State :=
  if s.clk.sfn % 10000 ≠ 0 then s
  else (List.range 64).foldl (fun s x =>
    let n := (s.c8 x).lostNow
    if n = 0 then s else (s.setC8 x (fun k => { k with lostNow := 0 })).log 0xA00B (d8 x ++ d32 n)) s

/-- A client that no received map carries begins anew at V8. -/
def State.idleClients (s : State) : State :=
  (List.range 64).foldl (fun s x =>
    if (s.c8 x).due.isSome ∧ !bit (s.fr .a).rxMap.carried x ∧ !bit (s.fr .b).rxMap.carried x then
      (s.setC8 x (fun k => { k with due := none, buffer := [], lost := [], lag := 0 })).put Obj.releaseAvenue x 0
    else s) s

/-- The avenues' work at a local boundary. -/
def State.avBoundary (s : State) : State :=
  let s := (s.put (on .a Obj.rxView) 0 (s.viewOf .a)).put (on .b Obj.rxView) 0 (s.viewOf .b)
  let s := s.put Obj.pathDelayDiff 0 s.pathDiff
  let s := if s.mode = 2 then s else s.put Obj.carryingAvenue 0 s.carryCode
  let s := s.eligRun
  let n := s.clk.sfn
  let carry := s.carrying
  let deg := match carry with
    | some c => s.mode == 2 && s.u (on c Obj.rxView) == 1
    | none => false
  let good := s.mode == 2 && s.u Obj.carryingAvenue != s.preferred.inst && s.viewsGood s.preferred
  let differ := s.mode == 2 && (match s.farModeCarry with
    | some x => x.2 != s.u Obj.carryingAvenue
    | none => false)
  let done := s.viewsGood .a && s.viewsGood .b
  let fault := match carry with
    | some c => (s.faultSince c).isSome
    | none => false
  let s := s.setAv (fun a => { a with
    degraded := since n a.degraded deg
    goodFrom := since n a.goodFrom good
    disputeFrom := since n a.disputeFrom differ
    okFrom := since n a.okFrom (a.short && !s.windowShort)
    order := if done then none else a.order
    blocked := a.blocked && fault
    waiting := good && s.u Obj.spareRevert == 1 && a.cmd == 0 && a.order.isNone })
  let s := if s.av.unreach ∧ (s.keeperReachable ∨ !s.inDispute) then s.setAv (fun a => { a with unreach := false }) else s
  let s := s.put Obj.avenueState 0 s.avenueCode
  (s.lostRun).idleClients

end Sys2Proof.Machine
end

