-- ==== Sys2Proof/Machine/Group.lean ====
section
/-! DEFINITION. The group bus: windows and frames (R541 to R543), election, handover and takeover of the Keeper (R371,
R544, R545), joining and leaving (R538, R539, R546, R547), and what a link Keeper decides (R372, R373). -/

namespace Sys2Proof.Machine

/-! ## Accessors -/

/-- Own numeric address (R4). -/
def State.address (s : State) : Nat := s.u Obj.deviceAddress

/-- Own SLOT (R4). -/
def State.slotNo (s : State) : Nat := s.address % 32

/-- An address lies in the own SITE and GROUP. -/
def State.ownGroup (s : State) (a : Nat) : Bool := a / 32 == s.address / 32

/-- The address of a slot of the own group. -/
def State.groupAddress (s : State) (slot : Nat) : Nat := s.address / 32 * 32 + slot

/-- The group changed. -/
def State.setGrp (s : State) (f : GroupSt → GroupSt) : State := { s with grp := f s.grp }

/-- What is known of a slot. -/
def State.member (s : State) (slot : Nat) : Member := nth s.grp.members slot Member.init

/-- What is known of a slot changed. -/
def State.setMember (s : State) (slot : Nat) (f : Member → Member) : State :=
  s.setGrp (fun g => { g with members := modNth g.members slot f })

/-- ValidMask. -/
def State.validMask (s : State) : Nat := s.u Obj.groupValidMask

/-- A mask with a bit set or cleared. -/
def setBit (m i : Nat) (v : Bool) : Nat := (if bit m i then m - 2 ^ i else m) + (if v then 2 ^ i else 0)

/-- A slot's bit in ValidMask. -/
def State.setValid (s : State) (slot : Nat) (v : Bool) : State :=
  s.put Obj.groupValidMask 0 (setBit s.validMask slot v : Nat)

/-- `GroupBusState`, and with it `DuplicateAddress`: the address is valid while the engine holds its slot (R538). -/
def State.setBus (s : State) (st : Nat) : State :=
  (s.put Obj.groupBusState 0 st).put Obj.duplicateAddress 0 (b2n (st != 2) : Nat)

/-- The engine holds its slot (R538). -/
def State.isMember (s : State) : Bool := s.u Obj.groupBusState == 2

/-- This engine is its group's Keeper. -/
def State.isKeeper (s : State) : Bool := s.u Obj.keeperRole == 1

/-- This engine is its group's deputy. -/
def State.isDeputy (s : State) : Bool := s.u Obj.keeperRole == 2

/-- Cycle number: from the own SFN, or from the timing taken over with a beacon (R541). -/
def State.cycle (s : State) : Nat :=
  match s.grp.base with
  | none => s.clk.sfn / 4 % 65536
  | some (n, at_) => (n + (s.clk.sfn - at_) / 4) % 65536

/-- The windows of the bus are known: a Keeper has its own, and a member keeps the timing of the latest beacon for up to 50
cycles (R541). -/
def State.timed (s : State) : Bool :=
  match s.grp.base with
  | none => s.isKeeper
  | some (_, t) => s.isKeeper || decide (s.clk.sfn ≤ t + 200)

/-- Superframes of 50 cycles (R541, R545, R547). -/
abbrev fiftyCycles : Nat := 200

/-- A number from 0 to `n`, chosen at random (R544, R550): a free value. -/
def State.uniform (s : State) (n : Nat) : Nat × State :=
  let r := s.fresh 32
  (r.1 % (n + 1), r.2)

/-! ## Eligible members and the link Keeper (R371) -/

/-- Flags that a member status of this engine shows (R543), the order bit apart. -/
def State.ownFlags (s : State) : Nat :=
  s.u Obj.keeperEligible + 2 * b2n (s.mode == 2) + 4 * b2n (s.isLower ((s.carrying).getD .a))

/-- A slot holds a valid member with `KeeperEligible` 1 and `BootState` 2 that was heard within 50 cycles. -/
def State.candidate (s : State) (slot : Nat) : Bool :=
  bit s.validMask slot &&
  (if slot = s.slotNo then s.u Obj.keeperEligible == 1 && s.u Obj.bootState == 2
   else bit (s.member slot).flags 0 && (s.member slot).boot == 2 && (match (s.member slot).heard with
     | some t => decide (s.clk.sfn < t + fiftyCycles)
     | none => false))

/-- The lowest candidate other than some, as an address, FFFFh for none. -/
def State.lowest (s : State) (others : List Nat) : Nat :=
  match (List.range 32).find? (fun k => s.candidate k && !others.contains (s.groupAddress k)) with
  | some k => s.groupAddress k
  | none => 0xFFFF

/-- The link Keeper of a link whose lower end lies in the own group: Keeper, deputy, else the lowest valid eligible
member, the first that is neither end (R371). -/
def State.linkKeeper (s : State) (e1 e2 : Nat) : Nat :=
  match [s.grp.keeper, s.grp.deputy].find? (fun a => a != 0xFFFF && a != e1 && a != e2) with
  | some a => a
  | none => s.lowest [e1, e2]

/-- The far end of this engine's link, once a core named it. -/
def State.linkPeer (s : State) : Option Nat :=
  ([(s.carrying).getD .a, .a, .b].find? (fun c => (s.fr c).core.length != 0)).map (fun c => bits (s.farWord c 4) 31 19)

/-- `KeeperAddress` (R371): known where the lower end lies in the own group. -/
def State.showKeeper (s : State) : State :=
  let v := match s.linkPeer with
    | none => 0xFFFF
    | some p =>
      let lower := if s.isLower ((s.carrying).getD .a) then s.address else p
      if s.ownGroup lower then s.linkKeeper s.address p else 0xFFFF
  s.put Obj.keeperAddress 0 (v : Nat)

/-- A frame of the link Keeper was heard (R374). -/
def State.keeperHeard (s : State) (source : Nat) : State :=
  if source = s.u Obj.keeperAddress then s.setAv (fun a => { a with heardAt := some s.clk.sfn }) else s

/-- Keeper and deputy as known now; each change logs A006h with role 1 or 2 (R371, R545). -/
def State.setKeepers (s : State) (keeper deputy : Nat) : State :=
  let k := s.grp.keeper
  let d := s.grp.deputy
  let s := s.setGrp (fun g => { g with keeper := keeper, deputy := deputy })
  let role : Nat := if !s.isMember then 0 else if keeper = s.address then 1 else if deputy = s.address then 2 else 0
  let s := s.put Obj.keeperRole 0 (role : Nat)
  let s := if k = keeper then s else s.log 0xA006 (d8 1 ++ d16 keeper)
  let s := if d = deputy then s else s.log 0xA006 (d8 2 ++ d16 deputy)
  s.showKeeper

/-- The Keeper sets the deputy under R371. -/
def State.setDeputy (s : State) : State :=
  if s.isKeeper then s.setKeepers s.address (s.lowest [s.address]) else s

/-! ## Frames (R542, R543) -/

/-- Octets of a frame (R542). -/
def groupFrame (type source cycle : Nat) (body : List Byte) : List Byte :=
  let x := be 1 type ++ be 1 body.length ++ be 2 source ++ be 2 cycle ++ be 2 0 ++ body
  be 4 0x555555D5 ++ x ++ be 4 (crc32 x)

/-- A frame leaves in a window. -/
def State.sendGroup (s : State) (window type : Nat) (body : List Byte) : State :=
  s.emit (.group window (groupFrame type s.address s.cycle body))

/-- Body of a beacon (R543). -/
def State.beaconBody (s : State) (admits : List (Nat × List Byte)) : List Byte :=
  let h := s.grp.handover.getD (0, 0)
  let row := fun i => match admits[i]? with
    | some x => be 1 x.1 ++ fit 16 x.2
    | none => be 1 0xFF ++ List.replicate 16 0
  be 8 s.clk.sfn ++ be 1 (s.u Obj.timeQuality) ++ be 1 0 ++ be 2 s.grp.keeper ++ be 2 s.grp.deputy ++
    be 4 s.validMask ++ be 4 s.grp.dup ++ be 2 h.1 ++ be 1 h.2 ++ be 1 0 ++ ((List.range 4).map row).flatten

/-- The order that this engine sends in its own member status: as a link Keeper that is neither Keeper nor deputy
(R373). -/
def State.ownOrder (s : State) : Option GOrder :=
  if s.isKeeper || s.isDeputy then none
  else s.grp.orders.find? (fun o => ofBe (slice o.octets 0 2) == s.address)

/-- Body of a member status (R543). -/
def State.statusBody (s : State) : List Byte :=
  let o := s.ownOrder
  fit 16 (s.o Obj.deviceSerial) ++ be 1 (s.u Obj.bootState) ++ be 1 (s.ownFlags + 8 * b2n o.isSome) ++
    be 2 ((s.linkPeer).getD 0xFFFF) ++ fit 16 s.viewRecord ++ fit 16 s.farRecordNow ++
    fit 8 ((o.map (·.octets)).getD [])

/-- Body of an orders frame, of at most 11 orders (R543). -/
def ordersBody (l : List GOrder) : List Byte :=
  be 1 l.length ++ List.replicate 3 0 ++ (l.map (fun o => fit 8 o.octets)).flatten

/-- Orders in the order in which they go out: new ones first, then those sent longest ago (R543). -/
def sendOrder (l : List GOrder) : List GOrder :=
  l.filter (fun o => !o.carried) ++ (l.filter (·.carried)).mergeSort (fun a b => decide (a.at_ ≤ b.at_))

/-- Octets of a Join (R543). -/
def State.joinBody (s : State) : List Byte :=
  fit 16 (s.o Obj.deviceSerial) ++ be 1 (s.u Obj.bootState) ++ be 1 s.ownFlags ++ be 2 0

/-- Window 32: the Keeper's beacon admits up to four slots (R546), each marked replaced where its serial differs from
the slot's last holder, and names a handover (R545). -/
def State.sendBeacon (s : State) : State :=
  let now := s.grp.admits.take 4
  let s := now.foldl (fun s x =>
    let m := s.member x.1
    let replaced := m.holder != List.replicate 16 0 && m.holder != x.2
    let s := (s.setMember x.1 (fun m => { m with holder := x.2, heard := some s.clk.sfn, since := s.clk.sfn })).setValid x.1 true
    s.log 0xA00C (d8 x.1 ++ fit 16 x.2 ++ d8 (b2n replaced))) s
  let s := s.setGrp (fun g => { g with admits := g.admits.drop 4 })
  let s := s.setDeputy
  let next := (List.range s.slotNo).find? (fun k => s.candidate k && decide ((s.member k).since + 400 ≤ s.clk.sfn))
  let s := match s.grp.handover, next with
    | none, some k =>
      let n := (s.cycle + 10) % 65536
      s.setGrp (fun g => { g with handover := some (if n = 0 then 1 else n, k) })
    | _, _ => s
  s.sendGroup 32 1 (s.beaconBody now)

/-- Own window of a member: member status, or Leave for three cycles, after which the engine is silent (R547). -/
def State.sendOwn (s : State) : State :=
  if s.grp.leaving = 0 then s.sendGroup s.slotNo 2 s.statusBody
  else
    let s := s.sendGroup s.slotNo 5 (fit 16 (s.o Obj.deviceSerial))
    let s := s.setGrp (fun g => { g with leaving := g.leaving - 1 })
    if s.grp.leaving = 0 then
      ((s.setGrp (fun g => { g with silent := true })).setBus 0).setKeepers s.grp.keeper s.grp.deputy
    else s

/-- Window 33: the Keeper sends every order in force, the deputy one of its own that the Keeper has not carried yet
(R373, R543). -/
def State.sendOrders (s : State) : State :=
  if s.isKeeper then
    let l := (sendOrder s.grp.orders).take 11
    let sent := fun (o : GOrder) => if l.contains o then { o with carried := true, at_ := s.clk.sfn } else o
    (s.sendGroup 33 3 (ordersBody l)).setGrp (fun g => { g with orders := g.orders.map sent })
  else
    let l := s.grp.orders.filter (fun o => !o.carried && ofBe (slice o.octets 0 2) == s.address)
    if s.isDeputy ∧ !l.isEmpty then s.sendGroup 33 3 (ordersBody (l.take 11)) else s

/-- The join window of a slot is open (R541). -/
def State.joinWindow (s : State) (window : Nat) : Bool :=
  window == 36 + s.slotNo % 4 && s.cycle % 8 == s.slotNo / 4

/-- GROUP_WINDOW: a window opens and the engine that owns it sends (R541). A Keeper that reads back a collision in its
beacon moves its cycle start by a random 0 to 396 µs in steps of 4 µs (R544). -/
def execGroupWindow (window : Fin 40) (collision : Bool) (s : State) : Host.Outcome State Fault Refusal :=
  let n := window.val
  .next (if s.grp.silent ∨ !s.timed then s
    else if n = 32 then
      if !s.isKeeper then s
      else
        let s := s.sendBeacon
        if collision then
          let r := s.uniform 99
          r.2.setGrp (fun g => { g with shift := (g.shift + r.1) % 100 })
        else s
    else if n = 33 then s.sendOrders
    else if n = 34 then
      if s.isDeputy ∧ !s.grp.mirror.isEmpty then
        (s.sendGroup 34 1 (slice s.grp.mirror 0 9 ++ be 1 1 ++ s.grp.mirror.drop 10)).setGrp
          (fun g => { g with mirror := [] })
      else s
    else if n = s.slotNo then (if s.isMember then s.sendOwn else s)
    else if s.joinWindow n ∧ (s.u Obj.groupBusState = 1 ∨ (s.u Obj.groupBusState = 3 ∧ s.grp.joinDue)) then
      (s.sendGroup n 4 s.joinBody).setGrp (fun g => { g with joinDue := false })
    else s)

/-! ## Receiving (R539, R542) -/

/-- A frame is fit to be taken: its CRC holds, and its Source lies in the own group; else it is counted (R539, R542). -/
def State.takeFrame (s : State) (f : GroupFrame) (length : Nat) : Bool × State :=
  let a := f.source.toNat
  if !f.crcOk then (false, s.bump Obj.groupCrcErrors)
  else if !s.ownGroup a then
    let s := s.bump Obj.groupMisstrapCount
    if s.grp.strays.contains a then (false, s)
    else (false, (s.setGrp (fun g => { g with strays := a :: g.strays })).log 0xA00F (d16 a))
  else (decide (length ≤ f.body.length) && a != s.address, s)

/-- A member of lower slot beacons, or another engine does while this one is no Keeper (R544). -/
def State.beaconStands (s : State) (source : Nat) : Bool := !s.isKeeper || decide (source < s.address)

/-- BEACON: masks, admissions, timing and handover of a received beacon (R543, R544, R546). -/
def execBeacon (f : GroupFrame) (s : State) : Host.Outcome State Fault Refusal :=
  let r := s.takeFrame f 94
  let s := r.2
  let b := f.body
  let a := f.source.toNat
  .next (if !r.1 ∨ !s.beaconStands a ∨ s.grp.silent then s
    else
      let mirrored := bit (ofBe (slice b 9 1)) 0
      let hc := ofBe (slice b 22 2)
      let valid := ofBe (slice b 14 4)
      let dup := ofBe (slice b 18 4)
      let admitted := (List.range 4).any (fun i =>
        ofBe (slice b (26 + 17 * i) 1) == s.slotNo && slice b (27 + 17 * i) 16 == fit 16 (s.o Obj.deviceSerial))
      let s := s.setGrp (fun g => { g with
        listening := none
        base := some (f.cycle.toNat, s.clk.sfn)
        dup := dup
        handover := if hc = 0 then none else some (hc, ofBe (slice b 24 1) % 32)
        beaconAt := if mirrored then g.beaconAt else s.clk.sfn
        mirror := if mirrored then g.mirror else b })
      let s := s.put Obj.groupValidMask 0 (valid : Nat)
      let st := s.u Obj.groupBusState
      let s := if bit dup s.slotNo then
          if st = 3 then s
          else
            let s := s.setGrp (fun g => { g with dupAt := s.clk.sfn, joinDue := false })
            (s.setBus 3).log 0xA00E (d8 s.slotNo)
        else if admitted ∧ st ≠ 2 then s.setBus 2
        else if st = 2 ∧ bit valid s.slotNo then s
        else s.setBus 1
      (s.setKeepers (ofBe (slice b 10 2)) (ofBe (slice b 12 2))).keeperHeard a)

/-- An order that stands among those in force; an older one of its link gives way. -/
def State.storeOrder (s : State) (b : List Byte) (carried : Bool) : State :=
  let lower := ofBe (slice b 2 2)
  let same := fun (o : GOrder) => slice o.octets 2 2 == slice b 2 2
  let old := s.grp.orders.find? (fun o => o.octets == b)
  let new : GOrder := { octets := b, carried := carried || (old.map (·.carried)).getD false, at_ := s.clk.sfn
                        shown := (old.map (·.shown)).getD false }
  s.setGrp (fun g => { g with
    orders := g.orders.filter (fun o => !same o) ++ [new]
    seqs := assocSet g.seqs lower (ofBe (slice b 6 1)) })

/-- An order is heard: kept with those in force, and applied by an end of its link (R373). -/
def State.hearOrder (s : State) (b : List Byte) (carried : Bool) : State := (s.storeOrder b carried).keeperOrder b true

/-- The orders of a lower end that its member status shows to be over: its four views are good, or it no longer shows
the order it had applied (R373). -/
def State.orderRun (s : State) (lower : Nat) (own : List Byte) : State :=
  let req := ofBe (slice own 10 1)
  let good := slice own 6 4 == List.replicate 4 0
  s.setGrp (fun g => { g with
    orders := (g.orders.filter (fun o =>
        !(ofBe (slice o.octets 2 2) == lower && o.shown && (good || req != 5)))).map
      (fun o => if ofBe (slice o.octets 2 2) = lower ∧ req = 5 then { o with shown := true } else o) })

/-- MEMBER_STATUS: views and any order of a member (R372, R373, R543). -/
def execMemberStatus (f : GroupFrame) (s : State) : Host.Outcome State Fault Refusal :=
  let r := s.takeFrame f 60
  let s := r.2
  let b := f.body
  let a := f.source.toNat
  .next (if !r.1 then s
    else
      let n := s.clk.sfn
      let own := slice b 20 16
      let far := slice b 36 16
      let flags := ofBe (slice b 17 1)
      let differ := bit flags 1 && far != viewDefault && slice far 5 1 != slice own 5 1
      let s := s.setMember (a % 32) (fun m => { m with
        serial := slice b 0 16, boot := ofBe (slice b 16 1), flags := flags, peer := ofBe (slice b 18 2), own := own
        far := far, order := slice b 52 8, heard := some n
        since := if (match m.heard with
          | some t => decide (n ≤ t + 8)
          | none => false) then m.since else n
        differ := since n m.differ differ })
      let s := s.orderRun a own
      let s := if bit flags 3 then s.hearOrder (slice b 52 8) false else s
      s.keeperHeard a)

/-- ORDERS: the orders in force as the Keeper sends them (R373, R543). -/
def execOrders (f : GroupFrame) (s : State) : Host.Outcome State Fault Refusal :=
  let r := s.takeFrame f 4
  let s := r.2
  let a := f.source.toNat
  let n := min 11 (ofBe (slice f.body 0 1))
  .next (if !r.1 then s
    else
      let l := ((List.range n).map (fun i => slice f.body (4 + 8 * i) 8)).filter (fun b => b.length == 8)
      (l.foldl (fun s b => s.hearOrder b (a == s.grp.keeper)) s).keeperHeard a)

/-- JOIN: the Keeper hears the join window of a slot (R546): a third bad CRC in a row, or another serial than that of a
member heard within 50 cycles, marks the slot duplicate; a valid Join clears the mark and has the slot admitted. -/
def execJoin (slot : Fin 32) (f : GroupFrame) (s : State) : Host.Outcome State Fault Refusal :=
  let k := slot.val
  let r := s.takeFrame f 20
  let s := r.2
  let serial := slice f.body 0 16
  .next (if !s.isKeeper then s
    else if !f.crcOk then
      let s := s.setGrp (fun g => { g with joinBad := modNth g.joinBad k (· + 1) })
      if 3 ≤ nth s.grp.joinBad k 0 then s.setGrp (fun g => { g with dup := setBit g.dup k true }) else s
    else if !r.1 then s
    else
      let s := s.setGrp (fun g => { g with joinBad := setNth g.joinBad k 0 })
      let m := s.member k
      let held := bit s.validMask k && m.serial != serial && (match m.heard with
        | some t => decide (s.clk.sfn < t + fiftyCycles)
        | none => false)
      if held then s.setGrp (fun g => { g with dup := setBit g.dup k true })
      else
        let s := s.setMember k (fun m => { m with serial := serial, boot := ofBe (slice f.body 16 1)
                                                  flags := ofBe (slice f.body 17 1) })
        s.setGrp (fun g => { g with
          dup := setBit g.dup k false, admits := g.admits.filter (fun x => x.1 != k) ++ [(k, serial)] }))

/-- The Keeper clears a slot (R547); cause 0 left, 1 absent. -/
def State.clearSlot (s : State) (k cause : Nat) : State :=
  ((s.setValid k false).log 0xA00D (d8 k ++ d8 cause)).setDeputy

/-- LEAVE: the Keeper clears the sender's slot at once (R547). -/
def execLeave (f : GroupFrame) (s : State) : Host.Outcome State Fault Refusal :=
  let r := s.takeFrame f 16
  let k := f.source.toNat % 32
  .next (if r.1 ∧ r.2.isKeeper ∧ bit r.2.validMask k then r.2.clearSlot k 0 else r.2)

/-- MEMBER_ABSENT: a member has been silent in its window for 50 cycles (R547). -/
def execMemberAbsent (slot : Fin 32) (s : State) : Host.Outcome State Fault Refusal :=
  let k := slot.val
  let silent : Bool := match (s.member k).heard with
    | some t => decide (t + fiftyCycles ≤ s.clk.sfn)
    | none => true
  .next (if s.isKeeper ∧ k ≠ s.slotNo ∧ bit s.validMask k ∧ silent then s.clearSlot k 1 else s)

/-! ## Election, takeover, handover (R544, R545) -/

/-- The engine becomes Keeper: it holds its slot and sets the deputy (R371). -/
def State.becomeKeeper (s : State) : State :=
  let s := (s.setBus 2).setValid s.slotNo true
  let s := s.setMember s.slotNo (fun m => { m with holder := fit 16 (s.o Obj.deviceSerial) })
  let s := s.setGrp (fun g => { g with listening := none, handover := none })
  s.setKeepers s.address (s.lowest [s.address])

/-- The instant from which an engine may become Keeper: 10 ms of listening and 4 ms × SLOT (R544). -/
def State.listenUntil (s : State) (t : Nat) : Nat := t + 100 + 40 * s.slotNo

/-- LISTEN_END: no beacon was heard, and an eligible engine becomes Keeper and starts its own cycles (R544). -/
def execListenEnd (s : State) : Host.Outcome State Fault Refusal :=
  .next (match s.grp.listening with
    | none => s
    | some t =>
      if s.u Obj.bootState = 2 ∧ s.u Obj.keeperEligible = 1 ∧ s.listenUntil t ≤ s.clk.sfn then
        (s.setGrp (fun g => { g with base := none })).becomeKeeper
      else s)

/-- DEPUTY_TAKEOVER: window 32 has been empty for 50 cycles; the deputy keeps timing and orders (R545). -/
def execDeputyTakeover (s : State) : Host.Outcome State Fault Refusal :=
  .next (if s.isDeputy ∧ s.grp.beaconAt + fiftyCycles ≤ s.clk.sfn then s.becomeKeeper else s)

/-- HANDOVER: at HandoverCycle the named member becomes Keeper and the deputy is set again (R545). -/
def execHandover (s : State) : Host.Outcome State Fault Refusal :=
  .next (match s.grp.handover with
    | none => s
    | some (n, k) =>
      if 32768 ≤ (s.cycle + 65536 - n) % 65536 then s
      else
        let s := s.setGrp (fun g => { g with handover := none, beaconAt := s.clk.sfn })
        if k = s.slotNo then
          if s.isMember then (s.setGrp (fun g => { g with base := none })).becomeKeeper else s
        else s.setKeepers (s.groupAddress k) (s.lowest [s.groupAddress k]))

/-- What a write of `GroupLeave` does (R545, R547): three Leave frames; a Keeper hands over at the next cycle. -/
def State.groupLeaveEffect (s : State) : Res × State :=
  let next := s.lowest [s.address]
  let s := s.setGrp (fun g => { g with leaving := if g.silent then 0 else 3 })
  ({}, if s.isKeeper ∧ next ≠ 0xFFFF then
      s.setGrp (fun g => { g with handover := some ((s.cycle + 1) % 65536, next % 32) })
    else s)

/-- GROUP_LEAVE (R547). -/
def execGroupLeave (w : Requester) (v : BitVec 8) (s : State) : Host.Outcome State Fault Refusal :=
  .next (s.hostWrite w 2 Obj.groupLeave 0 (.num v.toNat) (fun _ s => s.groupLeaveEffect))

/-- DUPLICATE_JOIN_RETRY: a duplicate sends Join again every 1 s (R546). -/
def execDuplicateJoinRetry (s : State) : Host.Outcome State Fault Refusal :=
  .next (if s.u Obj.groupBusState = 3 ∧ s.grp.dupAt + sfPerSecond ≤ s.clk.sfn then
    s.setGrp (fun g => { g with joinDue := true, dupAt := s.clk.sfn })
  else s)

/-! ## Decisions of a link Keeper (R372) -/

/-- The four views of an avenue: own and far view of both ends' records (R370, R372). -/
def fourViews (own far : List Byte) (c : Carrier) : List Nat :=
  [ofBe (slice own (6 + c.toNat) 1), ofBe (slice own (8 + c.toNat) 1), ofBe (slice far (6 + c.toNat) 1),
   ofBe (slice far (8 + c.toNat) 1)]

/-- Failed views among some. -/
def failedViews (l : List Nat) : Nat := (l.filter (· == 2)).length

/-- A member's link is in dispute as its records show it (R372). A far end whose record has not come reports no Mode. -/
def Member.disputed (m : Member) (n : Nat) : Bool :=
  bit m.flags 1 &&
  (ofBe (slice m.own 10 1) == 2 || ofBe (slice m.far 10 1) == 2 ||
   (match m.differ with
    | some t => decide (t + 10 < n)
    | none => false) ||
   (failedViews (fourViews m.own m.far .a) != 0 && failedViews (fourViews m.own m.far .b) != 0) ||
   (m.far != viewDefault && slice m.own 4 1 != slice m.far 4 1))

/-- The avenue that the rules of R372 choose. -/
def chooseAvenue (own far : List Byte) : Carrier :=
  let low := (avenueOf (ofBe (slice own 5 1))).getD .a
  let good := fun c => (fourViews own far c).all (· == 0)
  let f := fun c => failedViews (fourViews own far c)
  if good .a && good .b then low
  else if good .a then .a
  else if good .b then .b
  else if f .a < f .b then .a
  else if f .b < f .a then .b
  else low

/-- KEEPER_DECISION: the link Keeper sees a dispute of the link whose lower end holds a slot, and orders an avenue
(R372, R373). An order in force for the same avenue stands. -/
def execKeeperDecision (slot : Fin 32) (s : State) : Host.Outcome State Fault Refusal :=
  let m := s.member slot.val
  let lower := s.groupAddress slot.val
  .next (if !s.isMember ∨ !bit m.flags 2 ∨ s.linkKeeper lower m.peer ≠ s.address ∨ !m.disputed s.clk.sfn then s
    else
      let c := chooseAvenue m.own m.far
      let standing := s.grp.orders.any (fun o =>
        ofBe (slice o.octets 2 2) == lower && ofBe (slice o.octets 7 1) == c.inst)
      if standing then s
      else
        let seq := ((assocGet s.grp.seqs lower).getD 0 + 1) % 256
        s.storeOrder (be 2 s.address ++ be 2 lower ++ be 2 m.peer ++ be 1 seq ++ be 1 c.inst) false)

end Sys2Proof.Machine
end

