-- ==== Sys2Proof/Machine/Domain.lean ====
section
/-! DEFINITION. Sites and the registrar: domain messages (R548), claims of the site lead and the registrar (R549),
registration of rolls (R550), the domain roll (R551, R553), and neighbour discovery at the MG ports (R497). -/

namespace Sys2Proof.Machine

/-! ## Messages (R548) -/

/-- The domain changed. -/
def State.setDmn (s : State) (f : DomainSt → DomainSt) : State := { s with dmn := f s.dmn }

/-- A domain message leaves: multicast without a destination, else unicast to an engine's latest Announce source. The
Sequence it carries is the one before the step. -/
def State.sendDomain (s : State) (type status : Nat) (dest : Option Nat) (body : List Byte) : State :=
  let m := ascii "THDM" ++ be 1 type ++ be 1 status ++ be 2 s.address ++ be 4 s.dmn.txSeq ++ be 4 body.length ++ body
  (s.emit (.domain dest m)).setDmn (fun d => { d with txSeq := (d.txSeq + 1) % 2 ^ 32 })

/-- A received message of a type with a body of a length: Status, Source, Sequence and body. -/
def readDomain (type length : Nat) (b : List Byte) : Option (Nat × Nat × Nat × List Byte) :=
  if slice b 0 4 == ascii "THDM" && ofBe (slice b 4 1) == type && ofBe (slice b 12 4) == length &&
      b.length == 16 + length then
    some (ofBe (slice b 5 1), ofBe (slice b 6 2), ofBe (slice b 8 4), b.drop 16)
  else none

/-- A bit of `DomainRole`: 0 Keeper, 1 site lead, 2 registrar, 3 duplicate group. -/
def State.roleBit (s : State) (i : Nat) : Bool := bit (s.u Obj.domainRole) i

/-- A bit of `DomainRole` set or cleared. -/
def State.setRole (s : State) (i : Nat) (v : Bool) : State := s.put Obj.domainRole 0 (setBit (s.u Obj.domainRole) i v : Nat)

/-- SITE of an address. -/
def siteOf (a : Nat) : Nat := a / 512 % 16

/-- SITE × 16 + GROUP of an address. -/
def groupOf (a : Nat) : Nat := a / 32 % 256

/-- The Keeper takes part in the domain: it holds its slot (R538), and 4010h has been logged (R549). -/
def State.inDomain (s : State) : Bool := s.isKeeper && s.isMember && s.pow.shedCheck

/-! ## Claims (R549) -/

/-- Site lead or registrar as known; a change logs 1009h with role 1 or 2. -/
def State.setLead (s : State) (role address : Nat) : State :=
  let o := if role = 1 then Obj.siteLeadAddress else Obj.registrarAddress
  if s.u o = address then s else (s.put o 0 (address : Nat)).log 0x1009 (d8 role ++ d16 address)

/-- An engine that is no Keeper holds no role (R538, R549); one that is shows it. -/
def State.roleRun (s : State) : State :=
  if s.inDomain then (if s.roleBit 0 then s else
      (s.setRole 0 true).setDmn (fun d => { d with leadQuiet := s.clk.sfn, regQuiet := s.clk.sfn, settled := none }))
  else ((s.setRole 0 false).setRole 1 false).setRole 2 false

/-- Own claims, as Announce and DomainRoll show them. -/
def State.ownRoles (s : State) : Nat := s.u Obj.domainRole % 8

/-- The 32 serials of the own group. -/
def State.groupSerials (s : State) : List Byte :=
  ((List.range 32).map (fun k => if bit s.validMask k then fit 16 (s.member k).holder else List.replicate 16 0)).flatten

/-- The own group's roll. -/
def State.ownRoll (s : State) : Roll :=
  { group := groupOf s.address, keeper := s.address, deputy := s.grp.deputy, valid := s.validMask
    serials := s.groupSerials }

/-- ANNOUNCE_TIMER: a Keeper multicasts Announce once per second (R549). -/
def execAnnounceTimer (s : State) : Host.Outcome State Fault Refusal :=
  let s := s.roleRun
  .next (if s.inDomain ∧ s.dmn.announceAt + sfPerSecond ≤ s.clk.sfn then
      (s.sendDomain 1 0 none (be 1 s.ownRoles ++ be 1 (s.u Obj.timeQuality) ++ be 2 0 ++ be 4 s.validMask)).setDmn
        (fun d => { d with announceAt := s.clk.sfn })
    else s)

/-! ## Registration (R550 to R552) -/

/-- The registration of a roll: of the group at its site lead, or of the site at the registrar. -/
def State.reg (s : State) (site : Bool) : RegSt := if site then s.dmn.site else s.dmn.group

/-- A registration changed. -/
def State.setReg (s : State) (site : Bool) (f : RegSt → RegSt) : State :=
  s.setDmn (fun d => if site then { d with site := f d.site } else { d with group := f d.group })

/-- The back-off of a registration in superframes. -/
def State.backoff (s : State) (site : Bool) : Nat := sfOfMs (s.u (if site then Obj.siteBackoff else Obj.groupBackoff))

/-- Whom a roll goes to: the site lead, or the registrar. -/
def State.regDest (s : State) (site : Bool) : Nat := s.u (if site then Obj.registrarAddress else Obj.siteLeadAddress)

/-- G of R552, in superframes. -/
def State.groupWindow (s : State) : Nat :=
  sfOfMs (sumNat ((List.range (s.u Obj.rollAttempts)).map (fun i => s.u Obj.groupBackoff * 2 ^ i + s.u Obj.ackTimeout)))

/-- A registration is due at a random delay in a window, from an SFN on. -/
def State.dueIn (s : State) (site : Bool) (start window : Nat) : State :=
  let r := s.uniform window
  r.2.setReg site (fun g => { g with dueAt := some (start + r.1) })

/-- A registration that has not begun, for an engine that has to make it. -/
def RegSt.idle (g : RegSt) : Bool := !g.done && g.dueAt.isNone && g.ackBy.isNone && g.retryAt.isNone

/-- Registrations begin: of the group once the lead has settled, of the site once G has passed since the own settling
and a registrar is known (R550). -/
def State.startRegs (s : State) : State :=
  let s := if s.inDomain ∧ !s.roleBit 1 ∧ s.regDest false ≠ 0xFFFF ∧ (s.reg false).idle then
      s.dueIn false s.clk.sfn (s.backoff false)
    else s
  match s.dmn.settled with
  | some t =>
    if s.roleBit 1 ∧ s.regDest true ≠ 0xFFFF ∧ (s.reg true).idle then
      s.dueIn true (max s.clk.sfn (t + s.groupWindow)) (s.backoff true)
    else s
  | none => s

/-- A changed roll is sent within 1 s with no back-off, after the first registration (R550). -/
def State.rollChanged (s : State) (site : Bool) : State :=
  if (s.reg site).done then s.setReg site (fun g => { g with dueAt := some s.clk.sfn, attempt := 0, ackBy := none })
  else s

/-- The rolls of a site in the order of its groups: 16 entries, then 512 serials (R548). -/
def State.siteBody (s : State) : List Byte :=
  let site := siteOf s.address
  let roll := fun i => s.dmn.groupRolls.find? (fun r => r.group == site * 16 + i)
  let mask := sumNat ((List.range 16).map (fun i => if (roll i).isSome then 2 ^ i else 0))
  let entry := fun i => match roll i with
    | some r => be 2 r.keeper ++ be 2 0 ++ be 4 r.valid
    | none => List.replicate 8 0
  let serials := fun i => match roll i with
    | some r => fit 512 r.serials
    | none => List.replicate 512 0
  be 1 site ++ be 1 0 ++ be 2 mask ++ ((List.range 16).map entry).flatten ++ ((List.range 16).map serials).flatten

/-- A group roll stands at the site lead; 100Ah is logged, and the site's roll has changed. -/
def State.registerGroup (s : State) (r : Roll) : State :=
  let s := s.setDmn (fun d => { d with groupRolls := d.groupRolls.filter (fun x => x.group != r.group) ++ [r] })
  (s.log 0x100A (d8 r.group ++ d32 r.valid)).rollChanged true

/-- Keepers heard to announce, with this engine itself. -/
def State.announced (s : State) : List Nat := s.address :: s.dmn.claims.map (·.addr)

/-- Keepers that announce and stand in no registered site roll (R551, R553). -/
def State.missing (s : State) : List Nat :=
  s.announced.filter (fun a => !s.dmn.siteRolls.any (fun r => r.keeper == a))

/-- DomainRoll (R548, R551). -/
def State.sendRoll (s : State) : State :=
  let sites := sumNat ((List.range 16).map (fun i => if s.dmn.siteRolls.any (fun r => r.group / 16 == i) then 2 ^ i else 0))
  let body := be 2 sites ++ be 2 0 ++ ((List.range 256).map (fun g => be 4 (s.u Obj.domainRollMasks g))).flatten
  (s.sendDomain 5 0 none body).setDmn (fun d => { d with rollAt := s.clk.sfn })

/-- The domain roll is complete when every Keeper heard to announce is registered (R551); after that a change is
multicast at once. -/
def State.completeRun (s : State) : State :=
  if s.dmn.complete then s.sendRoll
  else if s.missing.isEmpty then
    let t := (s.clk.sfn - s.dmn.powerAt) / 10
    let s := (s.setDmn (fun d => { d with complete := true })).put Obj.rollTime 0 (t : Nat)
    (s.log 0x100C (d32 t)).sendRoll
  else s

/-- A site roll stands at the registrar (R550, R551); 100Bh is logged. -/
def State.registerSite (s : State) (site mask : Nat) (l : List Roll) : State :=
  let s := s.setDmn (fun d => { d with siteRolls := d.siteRolls.filter (fun x => x.group / 16 != site) ++ l })
  let row := fun (s : State) i =>
    let g := site * 16 + i
    match l.find? (fun r => r.group == g) with
    | some r => (s.put Obj.domainRollMasks g (r.valid : Nat)).putO Obj.domainSerials g r.serials
    | none => (s.put Obj.domainRollMasks g 0).putO Obj.domainSerials g (List.replicate 512 0)
  ((List.range 16).foldl row s |>.log 0x100B (d8 site ++ d16 mask)).completeRun

/-- The mask of the groups of some rolls. -/
def groupMask (l : List Roll) : Nat := sumNat ((List.range 16).map (fun i => if l.any (fun r => r.group % 16 == i) then 2 ^ i else 0))

/-- ANNOUNCE: claims of the site lead and the registrar (R549). A claimant that is lower delays the own settling; the
role itself passes when its claim shows the role. -/
def execAnnounce (b : List Byte) (s : State) : Host.Outcome State Fault Refusal :=
  let s := s.roleRun
  .next (match readDomain 1 8 b with
    | none => s
    | some (_, a, _, body) =>
      if a = s.address then s
      else
        let roles := ofBe (slice body 0 1)
        let n := s.clk.sfn
        let c : Claim := { addr := a, roles := roles, valid := ofBe (slice body 4 4), heard := n }
        let here := siteOf a == siteOf s.address
        let lower := decide (a < s.address)
        let s := s.setDmn (fun d => { d with
          claims := d.claims.filter (fun x => x.addr != a) ++ [c]
          leadQuiet := if here && lower then n else d.leadQuiet
          regQuiet := if lower then n else d.regQuiet })
        let lead := here && bit roles 1 && (lower || !s.roleBit 1)
        let s := if lead then (s.setRole 1 false).setLead 1 a else s
        let reg := bit roles 2 && (lower || !s.roleBit 2)
        let s := if reg then (s.setRole 2 false).setLead 2 a else s
        s.startRegs)

/-- SETTLE_END: no lower claimant was heard for `SettleTime`, and the Keeper takes the role (R549): the site lead's,
which registers its own group, or the registrar's. -/
def execSettleEnd (registrar : Bool) (s : State) : Host.Outcome State Fault Refusal :=
  let s := s.roleRun
  let quiet := if registrar then s.dmn.regQuiet else s.dmn.leadQuiet
  .next (if !s.inDomain ∨ s.clk.sfn < quiet + sfOfMs (s.u Obj.settleTime) then s
    else if registrar then
      if s.roleBit 2 ∨ !s.roleBit 1 then s
      else ((s.setRole 2 true).setLead 2 s.address).startRegs
    else if s.roleBit 1 then s
    else
      let s := (s.setRole 1 true).setLead 1 s.address
      let s := s.setDmn (fun d => { d with settled := some s.clk.sfn })
      (s.registerGroup s.ownRoll).startRegs)

/-- ROLL_BACKOFF_END: the random delay of a registration ends, and GroupRoll or SiteRoll is sent (R550). An engine that
is its own registrar registers its site itself. -/
def execRollBackoffEnd (site : Bool) (s : State) : Host.Outcome State Fault Refusal :=
  let s := s.roleRun
  let g := s.reg site
  let dest := s.regDest site
  let may := s.inDomain && (if site then s.roleBit 1 else !s.roleBit 1) && dest != 0xFFFF
  .next (match g.dueAt with
    | none => s
    | some t =>
      if !may ∨ s.clk.sfn < t then s
      else if site ∧ dest = s.address then
        let s := s.setReg true (fun g => { g with done := true, dueAt := none, attempt := 0 })
        s.registerSite (siteOf s.address) (groupMask s.dmn.groupRolls) s.dmn.groupRolls
      else
        let r := s.ownRoll
        let body := if site then s.siteBody else be 2 r.keeper ++ be 2 r.deputy ++ be 4 r.valid ++ r.serials
        let seq := s.dmn.txSeq
        let s := s.sendDomain (if site then 3 else 2) 0 (some dest) body
        let s := if site then s else s.setDmn (fun d => { d with sentRoll := some r })
        s.setReg site (fun g => { g with
          attempt := g.attempt + 1, dueAt := none, seq := seq
          ackBy := some (s.clk.sfn + sfOfMs (s.u Obj.ackTimeout)) }))

/-- A membership change of the own group: the Keeper's group roll goes out again within 1 s (R547); the site lead
registers its own. -/
def State.membershipRun (s : State) : State :=
  if s.inDomain then
    if s.roleBit 1 then
      let r := s.ownRoll
      if s.dmn.groupRolls.contains r then s else s.registerGroup r
    else if s.dmn.sentRoll = some s.ownRoll ∨ (s.reg false).dueAt.isSome then s
    else s.rollChanged false
  else s

/-- GROUP_ROLL: a site lead registers a group's roll and acknowledges it (R550): 01h where it is not the lead, 02h
where another Keeper's roll of the same group stands. -/
def execGroupRoll (b : List Byte) (s : State) : Host.Outcome State Fault Refusal :=
  .next (match readDomain 2 520 b with
    | none => s
    | some (_, a, seq, body) =>
      let ack := fun (s : State) status => s.sendDomain 4 status (some a) (be 4 seq)
      let r : Roll := { group := groupOf a, keeper := ofBe (slice body 0 2), deputy := ofBe (slice body 2 2)
                        valid := ofBe (slice body 4 4), serials := slice body 8 512 }
      if !s.roleBit 1 ∨ siteOf a ≠ siteOf s.address then ack s 1
      else match s.dmn.groupRolls.find? (fun x => x.group == r.group) with
        | some x =>
          if x.keeper ≠ r.keeper then ack s 2
          else if x = r then ack s 0
          else ack (s.registerGroup r) 0
        | none => ack (s.registerGroup r) 0)

/-- The rolls that a SiteRoll carries. -/
def rollsOf (site mask : Nat) (body : List Byte) : List Roll :=
  ((List.range 16).filter (fun i => bit mask i)).map (fun i =>
    { group := site * 16 + i, keeper := ofBe (slice body (4 + 8 * i) 2), deputy := 0xFFFF
      valid := ofBe (slice body (8 + 8 * i) 4), serials := slice body (132 + 512 * i) 512 })

/-- SITE_ROLL: the registrar registers a site's roll and acknowledges it (R550, R551). -/
def execSiteRoll (b : List Byte) (s : State) : Host.Outcome State Fault Refusal :=
  .next (match readDomain 3 8324 b with
    | none => s
    | some (_, a, seq, body) =>
      let ack := fun (s : State) status => s.sendDomain 4 status (some a) (be 4 seq)
      let site := ofBe (slice body 0 1) % 16
      let mask := ofBe (slice body 2 2)
      let l := rollsOf site mask body
      let other := fun (r : Roll) => s.dmn.siteRolls.any (fun x => x.group == r.group && x.keeper != r.keeper)
      if !s.roleBit 2 then ack s 1
      else if l.any other then ack s 2
      else ack (s.registerSite site mask l) 0)

/-- ACK: a registration is confirmed, or its sender looks for the lead again (01h), or its group is refused as a
duplicate (02h), which logs 1013h with the standing Keeper, the one heard to announce the same group (R550); it asks
again after the 60 s of exhausted attempts, and a later acceptance clears the mark (log entry 83). -/
def execAck (b : List Byte) (s : State) : Host.Outcome State Fault Refusal :=
  .next (match readDomain 4 4 b with
    | none => s
    | some (status, a, _, body) =>
      let n := ofBe (slice body 0 4)
      let waits := fun site => (s.reg site).ackBy.isSome && (s.reg site).seq == n && s.regDest site == a
      let site := waits true
      if !site ∧ !waits false then s
      else
        let again := if status = 2 then some (s.clk.sfn + 600000) else none
        let s := s.setReg site (fun g => { g with ackBy := none, attempt := 0, retryAt := again
                                                  done := g.done || status == 0 })
        let s := if status = 0 ∧ !site then s.setRole 3 false else s
        if status = 1 then
          s.setLead (if site then 2 else 1) 0xFFFF
        else if status = 2 then
          let same := s.dmn.claims.find? (fun c => groupOf c.addr == groupOf s.address)
          let r := s.fresh 13
          let k := match same with
            | some c => (c.addr, s)
            | none => r
          (k.2.setRole 3 true).log 0x1013 (d8 (groupOf s.address) ++ d16 k.1)
        else s)

/-- ACK_TIMEOUT: a message stays unacknowledged: it is sent again after a fresh random delay with the back-off window
doubled, up to `RollAttempts` in all; then 100Eh is logged (R550). -/
def execAckTimeout (site : Bool) (s : State) : Host.Outcome State Fault Refusal :=
  let g := s.reg site
  .next (match g.ackBy with
    | none => s
    | some t =>
      if s.clk.sfn < t then s
      else
        let s := s.setReg site (fun g => { g with ackBy := none })
        if g.attempt < s.u Obj.rollAttempts then s.dueIn site s.clk.sfn (s.backoff site * 2 ^ g.attempt)
        else
          let s := s.setReg site (fun g => { g with attempt := 0, retryAt := some (s.clk.sfn + 600000) })
          s.log 0x100E (d8 (if site then 3 else 2) ++ d16 (s.regDest site)))

/-- REGISTRATION_RETRY: 60 s after the attempts were exhausted, registration starts again (R550). -/
def execRegistrationRetry (site : Bool) (s : State) : Host.Outcome State Fault Refusal :=
  .next (match (s.reg site).retryAt with
    | none => s
    | some t =>
      if s.clk.sfn < t then s
      else (s.setReg site (fun g => { g with retryAt := none })).dueIn site s.clk.sfn (s.backoff site))

/-- DOMAIN_ROLL: a received DomainRoll updates the masks (R551). -/
def execDomainRoll (b : List Byte) (s : State) : Host.Outcome State Fault Refusal :=
  .next (match readDomain 5 1028 b with
    | none => s
    | some (_, _, _, body) =>
      (List.range 256).foldl (fun s g => s.put Obj.domainRollMasks g (ofBe (slice body (4 + 4 * g) 4) : Nat)) s)

/-- DOMAIN_ROLL_TIMER: every 10 s the registrar multicasts DomainRoll (R551). -/
def execDomainRollTimer (s : State) : Host.Outcome State Fault Refusal :=
  .next (if s.roleBit 2 ∧ s.dmn.complete ∧ s.dmn.rollAt + 100000 ≤ s.clk.sfn then s.sendRoll else s)

/-- ROLL_INCOMPLETE: at 45 s after power-on an incomplete roll logs 100Dh with the groups missing (R553). -/
def execRollIncomplete (s : State) : Host.Outcome State Fault Refusal :=
  .next (if s.roleBit 2 ∧ !s.dmn.complete ∧ !s.dmn.late ∧ s.dmn.powerAt + 450000 ≤ s.clk.sfn then
      (s.setDmn (fun d => { d with late := true })).log 0x100D ((s.missing.map groupOf).flatMap d8)
    else s)

/-- How far a carrier has come (R553): 0 no neighbour heard, 1 acquisition, 2 frame lock, 3 key agreement, 4 client
map. -/
def State.trafficStage (s : State) (c : Carrier) : Nat :=
  if s.u (on c Obj.frameLock) = 1 then
    if (s.ciph.get c).tx.any (·.key.isSome) then 4 else 3
  else if s.lock c = 7 then 2
  else if (s.foot.get c).neighbour.isSome then 1
  else 0

/-- CARRIER_WITHOUT_TRAFFIC: at 60 s after power-on a carrier with configured clients that carries none logs 100Fh with
its stage (R553). -/
def execCarrierWithoutTraffic (c : Carrier) (s : State) : Host.Outcome State Fault Refusal :=
  .next (if s.dmn.noTraffic.get c ∨ s.clk.sfn < s.dmn.powerAt + 600000 then s
    else
      let s := s.setDmn (fun d => { d with noTraffic := d.noTraffic.set c true })
      if (List.range 64).any (fun x => s.configured c x) ∧ (s.fr c).txMap.carried = 0 then
        s.logC c 0x100F (d8 c.inst ++ d8 (s.trafficStage c))
      else s)

/-! ## Neighbour discovery (R497) -/

/-- The link-local address fe80::1:0:P:A of an MG port. -/
def State.linkLocal (s : State) (port : Nat) : Nat := 0xFE80 * 2 ^ 112 + 2 ^ 48 + port * 2 ^ 16 + s.address

/-- An address of a port enters detection of duplicates. -/
def State.assignAddress (s : State) (port addr : Nat) : State :=
  let l := s.aop.mgAddrs.filter (fun x => !(x.port == port && x.addr == addr))
  { s with aop := { s.aop with mgAddrs := l ++ [{ port := port, addr := addr, tentative := true, duplicate := false }] } }

/-- A port's static address is the one of `MgAddress`, all zero for none. -/
def State.staticAddress (s : State) (port : Nat) : State :=
  let keep := s.aop.mgAddrs.filter (fun x => x.port != port || x.addr == s.linkLocal port)
  let s := { s with aop := { s.aop with mgAddrs := keep } }
  let a := ofBe (slice (s.o Obj.mgAddress port) 0 16)
  if a = 0 then s else s.assignAddress port a

/-- An address entry changed. -/
def State.setAddress (s : State) (port addr : Nat) (f : MgAddr → MgAddr) : State :=
  let g := fun (x : MgAddr) => if x.port = port ∧ x.addr = addr then f x else x
  { s with aop := { s.aop with mgAddrs := s.aop.mgAddrs.map g } }

/-- NEIGHBOUR_DISCOVERY (R497): an address under detection for which another engine solicits or advertises is a
duplicate; the end of detection assigns it; a solicitation of an assigned address is answered; an advertisement of
another address enters the neighbours. -/
def execNeighbourDiscovery (port : Fin 2) (x : NdIn) (s : State) : Host.Outcome State Fault Refusal :=
  let p := port.val
  let own := fun (t : BitVec 128) => s.aop.mgAddrs.find? (fun a => a.port == p && a.addr == t.toNat)
  let clash := fun (t : BitVec 128) (s : State) =>
    s.setAddress p t.toNat (fun a => if a.tentative then { a with duplicate := true } else a)
  .next (match x with
    | .solicit t src =>
      match own t with
      | some a =>
        if a.tentative then (if src = 0 then clash t s else s)
        else if a.duplicate then s
        else s.emit (.neighbour p true t.toNat)
      | none => s
    | .advert t link =>
      match own t with
      | some _ => clash t s
      | none => { s with aop := { s.aop with neighbours := assocSet s.aop.neighbours t.toNat link.toNat } }
    | .timer t => s.setAddress p t.toNat (fun a => { a with tentative := false }))

end Sys2Proof.Machine
end

