-- ==== Sys2Proof/Machine/SvcTfe.lean ====
section
/-! DEFINITION. Supervisory converters and the filter engine (14_supervisory_converters_and_filters.md): sequences
(R404 to R411), output words and over-range (R412 to R415), accumulators (R416, R417), the TFE (R418 to R423), cost,
sleep and damage (R424 to R426); with what reads an SVC2 result: VIN and IIN, converter temperatures (R431, R437) and
the case temperature (R574, R575). -/

namespace Sys2Proof.Machine

/-- SVC2 and the TFE changed. -/
def State.setSvc (s : State) (f : Svc → Svc) : State := { s with svc := f s.svc }

/-! ## Words and accumulators (R412, R416) -/

/-- An output word (R412). -/
def outWord (ovr recovery unsettled injected suspect : Bool) (source index : Nat) (v : Int) : Nat :=
  b2n ovr * 2 ^ 31 + b2n recovery * 2 ^ 30 + b2n unsettled * 2 ^ 29 + b2n injected * 2 ^ 28 + b2n suspect * 2 ^ 27 +
    source * 2 ^ 24 + index * 2 ^ 16 + twos 16 v

/-- A value clamped to 16 bits (R413). -/
def clamp16 (v : Int) : Int := if 32767 < v then 32767 else if v < -32768 then -32768 else v

/-- Sum saturates at 64 bits (R417). -/
def satSum (v : Int) : Int := if 2 ^ 63 - 1 < v then 2 ^ 63 - 1 else if v < -(2 ^ 63) then -(2 ^ 63) else v

/-- A result joins an accumulator (R416). -/
def Accum.add (a : Accum) (v : Int) (ovr recovery : Bool) (sfn : Nat) : Accum :=
  let fresh := decide (a.count = a.rec_)
  let b := { a with count := a.count + 1, ovr := a.ovr + b2n ovr, sfn := sfn }
  if recovery then { b with rec_ := a.rec_ + 1 }
  else { b with sum := satSum (a.sum + v), lo := if fresh then v else min a.lo v
                hi := if fresh then v else max a.hi v }

/-- LSB of an SVC2 input as a binary32 image (R402): A, V or °C. -/
def inputScale (i : Nat) : Nat :=
  if i < 8 then f32OfRat 1 10000000
  else if i < 12 then f32OfRat 1 100000
  else if i < 16 then f32OfRat 1 10000
  else if i < 28 then f32OfRat 1 100
  else if i = 44 then f32OfRat 25 10000
  else if i = 45 then f32OfRat 15 10000
  else f32OfRat 1 8000

/-! ## Sequences (R404 to R410) -/

/-- Input of an entry of the sequences in force: system entry k samples input k (R406). -/
def State.entryInput (s : State) (k : Nat) : Nat :=
  if k < 48 then k
  else if k < 64 then bits (nth s.svc.user (k - 48) 0) 31 26
  else bits (nth s.svc.injEnt (k - 64) 0) 31 26

/-- An entry runs: a system entry, or a written one that no reload holds back (R426). -/
def State.entryRuns (s : State) (k : Nat) : Bool := decide (k < 48) || !s.svc.skip.contains k

/-- First entry from `k` on, below `stop`, that runs. -/
def State.nextEntry (s : State) (k stop : Nat) : Option Nat := firstFrom k (stop - k) s.entryRuns

/-- A pass starts: the user sequence written before is in force (R406, R407). -/
def State.passStart (s : State) : State :=
  let user := (List.range 16).map (fun i => s.u Obj.regularEntry (48 + i))
  let len := s.u Obj.userLength
  let s := s.setSvc (fun x => { x with user := user, userLen := len, start := s.now, lateNext := false })
  if s.svc.inj.isSome then s.setSvc (fun x => { x with resume := some 0 })
  else s.setSvc (fun x => { x with entry := some 0 })

/-- A pass is under way, interrupted or not. -/
def State.passRunning (s : State) : Bool := s.svc.entry.isSome || s.svc.resume.isSome

/-- At tick 0 a pass starts, or the one that still runs is late (R406). -/
def State.passBoundary (s : State) : State :=
  if s.passRunning then
    let s := s.setSvc (fun x => { x with lateNext := true })
    (s.bump Obj.passLateCount).logSecond 0xC004 0 0 (d32 (s.u Obj.passTime))
  else s.passStart

/-- An injected run starts at the call of a trigger that came at `at_`; `resume` holds what it interrupted (R408). -/
def State.injStart (s : State) (source at_ : Nat) (master : Option Nat) : State :=
  let ent := (List.range 8).map (fun i => s.u Obj.injectEntry i)
  let len := s.u Obj.injectLength
  let s := (s.bump Obj.injectRunCount).occur 0xC081 { master := master }
  let s := s.setSvc (fun x => { x with
    injEnt := ent, injLen := len, injAt := at_, injSource := source, pending := none, entry := none
    resume := match x.entry with
      | some e => some e
      | none => x.resume })
  match s.nextEntry 64 (64 + len) with
  | some k => s.setSvc (fun x => { x with inj := some k })
  | none => s.setSvc (fun x => { x with inj := none, entry := x.resume, resume := none })

/-- A missed trigger (R409, R410). -/
def State.injMiss (s : State) (source : Nat) : State := (s.bump Obj.injectMissCount).log 0xC003 (d8 source)

/-- A trigger (R408 to R410): source 0 comparator, 1 Sundial, 2 host. One at the instant of another that called a run is
merged with it, and the first of the two sources in that order is the run's. -/
def State.injTrigger (s : State) (source : Nat) (master : Option Nat) : State :=
  if s.u Obj.injectLength = 0 ∨ !s.awake Dn.svc then s.injMiss source
  else if s.svc.inj.isNone then s.injStart source s.now master
  else if s.svc.injAt = s.now then
    s.setSvc (fun x => { x with injSource := min x.injSource source, merged := x.merged + 1 })
  else match s.svc.pending with
    | none => s.setSvc (fun x => { x with pending := some source, pendAt := s.now })
    | some p =>
      if s.svc.pendAt = s.now then
        s.setSvc (fun x => { x with pending := some (min p source), merged := x.merged + 1 })
      else s.injMiss source

/-! ## What reads an SVC2 result -/

/-- The converters of a temperature input 16 to 23 (R403). -/
def tempPair (i : Nat) : Carrier × List Nat :=
  let k := (i - 16) % 4
  (if i < 20 then .a else .b, if k = 0 then [0, 1] else if k = 1 then [2, 3] else if k = 2 then [4, 5] else [6, 7])

/-- A converter temperature is read (R431); a set load follows for each `CalReloadStep` crossed while rotation is
stopped (R437). -/
def State.tempRead (s : State) (c : Carrier) (k : Nat) (t : Int) : State :=
  let s := s.setCv c k (fun v => { v with temp := t })
  let v := s.cv c k
  let far := v.slices.foldl (fun m x => if x.st = 0 ∨ x.st = 6 then max m (moved t x) else m) 0
  let step := s.u (on c Obj.calReloadStep)
  let n := if step = 0 then 0 else (far - 1) / step
  let s' := s.setCv c k (fun v => { v with loadStep := n })
  if s.u (on c Obj.rotationState) ≠ 0 ∧ v.loadStep < n then s'.armLoad c k 255 4 else s'

/-- The case temperature is read (R574, R575): 1014h above `CaseWarn`, and cleared once 2 °C below it for 10 s. -/
def State.caseRead (s : State) (t : Int) : State :=
  let s := s.put Obj.caseTemp 0 t
  let warn := s.i Obj.caseWarn
  let n := s.clk.sfn
  let low := since n s.svc.warnLow (decide (t ≤ warn - 200))
  let clear := match low with
    | some a => decide (a + 100000 ≤ n)
    | none => false
  let hotFrom := since n s.svc.hotFrom (decide (9500 < t))
  let hotLow := since n s.svc.hotLow (decide (t ≤ 9300))
  let cool := match hotLow with
    | some a => decide (a + 100000 ≤ n)
    | none => false
  let raise := decide (warn < t) && !s.svc.warn
  let s' := s.setSvc (fun x => { x with
    warn := (x.warn && !clear) || raise, warnLow := low, hotFrom := hotFrom, hotLow := hotLow, hot := x.hot && !cool })
  let s' := if raise || (s.svc.warn && clear) then s'.log 0x1014 (i16 t) else s'
  let s' := if s.svc.hot && cool then s'.log 0x1015 (i16 t) else s'
  s'.put Obj.thermalState 0 (if s'.svc.hot then 2 else b2n s'.svc.warn : Nat)

/-- CASE_ABOVE_95: the case has been above 95 °C for 1 s (R575). -/
def execCaseAbove95 (s : State) : Host.Outcome State Fault Refusal :=
  .next (match s.svc.hotFrom with
    | some t =>
      if t + sfPerSecond ≤ s.clk.sfn ∧ !s.svc.hot then
        ((s.setSvc (fun x => { x with hot := true })).put Obj.thermalState 0 2).log 0x1015 (i16 (s.i Obj.caseTemp))
      else s
    | none => s)

/-- The consumers of a result (R402, R403, R431): system and user readings of VIN, IIN and the temperatures. -/
def State.consume (s : State) (input gain : Nat) (v : Int) (flagged : Bool) : State :=
  if gain ≠ 0 then s
  else if input = 44 then { s with pow := { s.pow with vin := v.toNat * 5, vinKnown := true } }
  else if input = 45 then { s with pow := { s.pow with iin := v.toNat * 15 } }
  else if flagged then s
  else if input = 27 then s.caseRead v
  else if 16 ≤ input ∧ input < 24 ∧ !s.cal.suspect then
    let p := tempPair input
    p.2.foldl (fun s k => s.tempRead p.1 k v) s
  else s

/-- The self-check at the end of a pass (R415): input 46 within 48 codes of 9,600, input 47 within 8 of 0. -/
def State.selfCheck (s : State) : State :=
  let r := ofTwos 16 (nth s.svc.regs 46 0 % 65536)
  let g := ofTwos 16 (nth s.svc.regs 47 0 % 65536)
  let ok := decide ((r - 9600).natAbs ≤ 48) && decide (g.natAbs ≤ 8)
  let s := s.setSvc (fun x => { x with failRun := if ok then 0 else x.failRun + 1, passRun := if ok then x.passRun + 1 else 0 })
  let flip := if s.cal.suspect then decide (3 ≤ s.svc.passRun) else decide (3 ≤ s.svc.failRun)
  if flip then
    ({ s with cal := { s.cal with suspect := !s.cal.suspect } }).log 0xC00B (i16 r ++ i16 g)
  else s

/-- A result word without OverRange, Recovery and Suspect (R412, R457). -/
def usableWord (w : Nat) : Bool := !bit w 31 && !bit w 30 && !bit w 27

/-- A pass ends (R406): its time, its VIN × IIN in microwatts (R457), the self-check, and the next pass at once when it
was late. -/
def State.passEnd (s : State) : State :=
  let s := s.put Obj.passTime 0 ((s.now - s.svc.start) / 100000 : Nat)
  let v := nth s.svc.regs 44 0
  let i := nth s.svc.regs 45 0
  let s := if usableWord v ∧ usableWord i then
      { s with pow := { s.pow with passes := s.pow.passes ++
        [(ofTwos 16 (v % 65536)).toNat * (ofTwos 16 (i % 65536)).toNat * 15 / 4] } }
    else s
  let s := (s.setSvc (fun x => { x with entry := none, resume := none })).selfCheck
  if s.svc.lateNext then s.passStart else s

/-- The regular sequence goes on after an entry (R406). -/
def State.regularNext (s : State) (k : Nat) : State :=
  match s.nextEntry (k + 1) (48 + s.svc.userLen) with
  | some j => s.setSvc (fun x => { x with entry := some j })
  | none => s.passEnd

/-- The injected sequence goes on after an entry: its next, a pending run directly, or the interrupted regular entry
from its start (R408, R409). -/
def State.injectedNext (s : State) (k : Nat) : State :=
  match s.nextEntry (k + 1) (64 + s.svc.injLen) with
  | some j => s.setSvc (fun x => { x with inj := some j })
  | none =>
    let s := s.setSvc (fun x => { x with inj := none })
    match s.svc.pending with
    | some src => s.injStart src s.svc.pendAt none
    | none =>
      match s.svc.resume with
      | some e => s.setSvc (fun x => { x with entry := some e, resume := none })
      | none => s

/-- Word of an entry of the sequences in force: system entry k samples input k 16 times (R404, R406). -/
def State.entryWord (s : State) (k : Nat) : Nat :=
  if k < 48 then k * 2 ^ 26 + 16 * 2 ^ 16
  else if k < 64 then nth s.svc.user (k - 48) 0
  else nth s.svc.injEnt (k - 64) 0

/-- How long an entry lasts in ns: settling, its extension, its samples (R405). -/
def State.entryNs (s : State) (k : Nat) : Nat :=
  700 + 50 * bits (s.entryWord k) 15 8 + 50 * bits (s.entryWord k) 23 16

/-- The calibrated result of an entry before clamping: the mean of its samples, nearest code (R402, R405). -/
def meanCode (l : List Int) : Int := roundDiv (l.foldl (· + ·) 0) (max 1 l.length)

/-- SVC2_CONVERSION: the entry under way completes its samples (R405, R412, R413, R416), given after the factory
calibration of its input; `ended` says that a sample reached an end code of the converter, the upper or the lower. A
list of another length than the entry's Samples completes nothing. -/
def execSvc2Conversion (samples : List Int) (ended : Option Bool) (s : State) : Host.Outcome State Fault Refusal :=
  .next (match (match s.svc.inj with
      | some k => some k
      | none => s.svc.entry) with
    | none => s
    | some k =>
      if samples.length ≠ bits (s.entryWord k) 23 16 ∨ s.domOff Dn.svc then s
      else
      let mean := meanCode samples
      let ovr := ended.isSome || decide (clamp16 mean ≠ mean)
      let v := if ovr then (if ended.getD (decide (0 ≤ mean)) then 32767 else -32768) else mean
      let recovery := s.svc.recover != 0
      let w := outWord ovr recovery false (decide (64 ≤ k)) s.cal.suspect 2 k v
      let s := s.setSvc (fun x => { x with
        recover := if ovr then 2 else x.recover - 1
        regs := setNth x.regs k w
        accums := modNth x.accums k (fun a => a.add v ovr recovery s.clk.sfn) })
      let s := s.occur 0xC080
      let s := if ovr then s.logSecond 0xC001 k 0 (d32 w) else s
      let s := s.consume (s.entryInput k) (bits (s.entryWord k) 25 24) v (ovr || recovery)
      if 64 ≤ k then s.injectedNext k else s.regularNext k)

/-! ## Comparators (R411) -/

/-- COMPARATOR_FIRE: an armed comparator's input, as a code at gain ×1, lies past its threshold. -/
def execComparatorFire (k : Fin 4) (code : Int) (s : State) : Host.Outcome State Fault Refusal :=
  let w := s.u Obj.comparator k
  let th := ofTwos 16 (bits w 15 0)
  let past := if bit w 30 then decide (th < code) else decide (code < th)
  .next (if bit w 31 ∧ s.u Obj.comparatorState k = 1 ∧ past ∧ s.awake Dn.svc then
      let s := (s.put Obj.comparatorState k 2).bump Obj.comparatorFireCount k
      let out := outWord (decide (clamp16 code ≠ code)) false false false s.cal.suspect 2 (bits w 29 24) (clamp16 code)
      let s := s.log 0xC005 (d8 k ++ d8 (bits w 29 24) ++ d32 out)
      s.injTrigger 0 none
    else s)

/-- COMPARATOR_REARM: the input has returned past the threshold by 328 codes. -/
def execComparatorRearm (k : Fin 4) (code : Int) (s : State) : Host.Outcome State Fault Refusal :=
  let w := s.u Obj.comparator k
  let th := ofTwos 16 (bits w 15 0)
  let back := if bit w 30 then decide (code ≤ th - 328) else decide (th + 328 ≤ code)
  .next (if bit w 31 ∧ s.u Obj.comparatorState k = 2 ∧ back then s.put Obj.comparatorState k 1 else s)

/-- A comparator is set and armed. -/
def State.comparatorEffect (s : State) (k v : Nat) : Res × State :=
  ({}, (s.put Obj.comparator k v).put Obj.comparatorState k (b2n (bit v 31)))

/-- COMPARATOR_WRITE. -/
def execComparatorWrite (w : Requester) (k v : Nat) (s : State) : Host.Outcome State Fault Refusal :=
  .next (s.hostWrite w 2 Obj.comparator k (.num v) (fun x s => s.comparatorEffect k x.nat))

/-! ## Writes of the sequences (R407 to R410, R417) -/

/-- The host triggers the injected sequence. -/
def State.injectNowEffect (s : State) (w : Requester) : Res × State := ({}, s.injTrigger 2 (some (masterOf w)))

/-- INJECT_NOW (R408). -/
def execInjectNow (w : Requester) (v : Nat) (s : State) : Host.Outcome State Fault Refusal :=
  .next (s.hostWrite w 2 Obj.injectNow 0 (.num v) (fun _ s => s.injectNowEffect w))

/-- `InjectLength` is written; 0 ends a run after its entry and drops what is pending (R410). -/
def State.injectLengthEffect (s : State) (v : Nat) : Res × State :=
  let s := s.put Obj.injectLength 0 v
  if v = 0 then
    ({}, s.setSvc (fun x => { x with pending := none, injLen := match x.inj with
      | some k => k - 63
      | none => x.injLen }))
  else ({}, s)

/-- INJECT_LENGTH_WRITE. -/
def execInjectLengthWrite (w : Requester) (v : Nat) (s : State) : Host.Outcome State Fault Refusal :=
  .next (s.hostWrite w 2 Obj.injectLength 0 (.num v) (fun x s => s.injectLengthEffect x.nat))

/-- SVC_ACCUM_CLEAR: every accumulator is cleared at the next boundary (R417). -/
def execSvcAccumClear (w : Requester) (v : Nat) (s : State) : Host.Outcome State Fault Refusal :=
  .next (s.hostWrite w 2 Obj.svcAccumClear 0 (.num v) (fun _ s => ({}, s.setSvc (fun x => { x with clearDue := true }))))

/-! ## The TFE (R418 to R423) -/

/-- A channel. -/
def State.tfe (s : State) (j : Nat) : TfeCh := nth s.svc.tfe j TfeCh.init

/-- A channel changed. -/
def State.setTfe (s : State) (j : Nat) (f : TfeCh → TfeCh) : State :=
  s.setSvc (fun x => { x with tfe := modNth x.tfe j f })

/-- Filter code of a channel (R418). -/
def State.tfeCode (s : State) (j : Nat) : Nat := if j < 2 then 3 else if j < 4 then 4 else if j < 6 then 1 else s.u Obj.tfeFilter j

/-- The converter that feeds a channel. -/
def State.tfeConv (s : State) (j : Nat) : Carrier :=
  if (if j < 6 then j % 2 else s.u Obj.tfeInput j) = 0 then .a else .b

/-- Settling count of a filter code (R419). -/
def settling (f : Nat) : Nat := nth [8, 63, 127, 192, 5, 4096, 35] f 0

/-- A channel runs. -/
def State.tfeOn (s : State) (j : Nat) : Bool :=
  s.awake Dn.svc && !(s.tfe j).stopped && (decide (j < 6) || s.u Obj.tfeRun j == 1)

/-- Outputs of a channel are unsettled for its settling count (R420). -/
def State.unsettle (s : State) (j : Nat) : State := s.setTfe j (fun t => { t with unsettled := settling (s.tfeCode j) })

/-- Channels that a converter feeds restart their settling (R420). -/
def State.unsettleFrom (s : State) (c : Carrier) : State :=
  (List.range 8).foldl (fun s j => if s.tfeConv j = c then s.unsettle j else s) s

/-- The output word of SVC0 or SVC1 (R412). -/
def State.frontWord (s : State) (c : Carrier) : Nat :=
  let f := s.svc.fronts.get c
  outWord f.ovr (f.recovery != 0) false false false c.toNat 0 f.value

/-- Input samples for one output of a filter: 64 for the tone bank and the CIC (R419). -/
def decimation (f : Nat) : Nat := if f = 4 ∨ f = 6 then 64 else 1

/-- I32 coefficients of a biquad section: b0, b1, b2, a1, a2 (R419). -/
def State.section (s : State) (j k : Nat) : List Int :=
  (List.range 5).map (fun i => ofTwos 32 (ofBe (slice (s.o Obj.tfeCoeff j) (2 + 20 * k + 4 * i) 4)))

/-- One step of a biquad section on an input in 2⁻¹⁶ codes: its output, and the history [x₁, x₂, y₁, y₂] after it
(nearest: log entry 6). -/
def biquadStep (co h : List Int) (x : Int) : Int × List Int :=
  let g := fun (l : List Int) (i : Nat) => nth l i 0
  let y := roundDiv (g co 0 * x + g co 1 * g h 0 + g co 2 * g h 1 - g co 3 * g h 2 - g co 4 * g h 3) (2 ^ 28)
  (y, [x, g h 0, y, g h 2])

/-- The four sections of a cascade take an input in order (R419). -/
def State.cascade (s : State) (j : Nat) (hist : List (List Int)) (x : Int) : List (List Int) :=
  ((List.range 4).foldl (fun (acc : Int × List (List Int)) k =>
    let r := biquadStep (s.section j k) (nth hist k []) acc.1
    (r.1, acc.2 ++ [r.2])) (x, [])).2

/-- A sample of its converter reaches a channel that runs (R420): one with OverRange or Recovery counts as zero, and its
flags show for the settling count. -/
def State.feed (s : State) (c : Carrier) (j : Nat) : State :=
  if s.tfeConv j ≠ c ∨ !s.tfeOn j then s
  else
    let f := s.svc.fronts.get c
    let n := settling (s.tfeCode j) * decimation (s.tfeCode j)
    let v := if f.ovr || f.recovery != 0 then 0 else f.value
    let hist := if s.tfeCode j = 5 then s.cascade j (s.tfe j).biquad (v * 65536) else (s.tfe j).biquad
    s.setTfe j (fun t => { t with
      samples := (v :: t.samples).take 320, fed := t.fed + 1, biquad := hist
      ovr := if f.ovr then n else t.ovr - 1
      recovery := if f.recovery ≠ 0 then n else t.recovery - 1 })

/-- A sample of SVC0 or SVC1 is taken (R412, R414) and reaches the channels that the converter feeds. -/
def State.frontSample (s : State) (c : Carrier) (code : Int) : State :=
  let ovr := decide (code ≤ -2048) || decide (2047 ≤ code)
  let v := if ovr then (if 0 ≤ code then 32767 else -32768) else code * 16
  let f := s.svc.fronts.get c
  let rec_ := if f.ovr then 8 else f.recovery - 1
  let s := s.setSvc (fun x => { x with fronts := x.fronts.set c { value := v, ovr := ovr, recovery := rec_ } })
  let s := if ovr then (s.add64 (on c Obj.frontOverRangeCount) 0 1).logSecond 0xC009 c.toNat c.inst (d8 c.toNat) else s
  (List.range 8).foldl (fun s j => s.feed c j) s

/-- Coefficients of a user channel as I16. -/
def State.firTaps (s : State) (j : Nat) : List Int :=
  let b := (s.o Obj.tfeCoeff j).drop 2
  (List.range (b.length / 2)).map (fun i => ofTwos 16 (ofBe (slice b (2 * i) 2)))

/-- Sums over a window of 64 neighbours, one for each place where the window fits. -/
def boxSums (l : List Int) : List Int :=
  (List.range (l.length - 63)).map (fun i => ((l.drop i).take 64).foldl (· + ·) 0)

/-- A CIC of order 4 over 64 samples: its sum over the last 253, not yet divided by its gain of 64⁴ (R419). -/
def cicSum (samples : List Int) : Int :=
  nth (boxSums (boxSums (boxSums (boxSums ((samples ++ List.replicate 253 0).take 253))))) 0 0

/-- The sum of taps and values, newest first. -/
def dot (taps l : List Int) : Int := (List.zipWith (· * ·) taps l).foldl (· + ·) 0

/-- The value of an output of a channel, with the CIC's outputs after it (R419): the sample itself in bypass, an FIR, the
cascade, or the CIC and its FIR for the host's coefficients (nearest, saturated, the CIC's gain divided out: log entry
6); in channels 0 to 5, whose coefficients are the engine's own, the value supplied. -/
def State.filterValue (s : State) (j : Nat) (value : Int) : Int × List Int :=
  let f := s.tfeCode j
  let t := s.tfe j
  if j < 6 then (clamp16 value, t.cic)
  else if f = 0 then (nth t.samples 0 0, t.cic)
  else if f = 5 then (clamp16 (roundDiv (nth (nth t.biquad 3 []) 2 0) 65536), t.cic)
  else if f = 6 then
    let cic := (cicSum t.samples :: t.cic).take 31
    (clamp16 (roundDiv (dot (s.firTaps j) cic) (2 ^ 38)), cic)
  else (clamp16 (roundDiv (dot (s.firTaps j) t.samples) 16384), t.cic)

/-- Nearest integer root of `n / d` in 2⁻¹⁶. -/
def root16 (n d : Nat) : Nat := if d = 0 then 0 else Nat.sqrt (n * 2 ^ 32 / d)

/-- The detectors of a channel meet an output, which they take unless it is flagged (R422): none in the window leaves
peak and RMS as they are. The envelope decays by 1/τ of itself per output (log entry 6). -/
def State.detect (s : State) (j : Nat) (out : Option Int) : State :=
  let win := (out :: (s.tfe j).window).take (s.u Obj.tfeDetWindow j)
  let s := s.setTfe j (fun t => { t with window := win })
  let good := win.filterMap id
  let s := if good.isEmpty then s
    else
      let s := s.put Obj.tfePeak j (min 32767 (good.foldl (fun m x => max m x.natAbs) 0) : Nat)
      let sq := good.foldl (fun a x => a + x.natAbs * x.natAbs) 0
      s.put Obj.tfeRms j (f32OfRat (root16 sq good.length) 65536 : Nat)
  match out with
  | none => s
  | some v =>
    let e := (s.tfe j).envelope
    let e' := max (v.natAbs * 65536) (e - e / max 1 (s.u Obj.tfeEnvelopeTc j))
    (s.setTfe j (fun t => { t with envelope := e' })).put Obj.tfeEnvelope j (min 32767 (e' / 65536) : Nat)

/-- A channel delivers an output word (R418 to R422). -/
def State.tfeDeliver (s : State) (j : Nat) (value : Int) : State :=
  let t := s.tfe j
  let r := s.filterValue j value
  let unsettled := t.unsettled != 0
  let w := outWord (t.ovr != 0) (t.recovery != 0) unsettled false false 3 j r.1
  let s := s.setTfe j (fun t => { t with fed := 0, cic := r.2, unsettled := t.unsettled - 1, word := w })
  let s := if unsettled then s.add64 Obj.tfeUnsettledCount j 1 else s
  if j < 4 then s
  else s.detect j (if t.ovr = 0 ∧ t.recovery = 0 ∧ !unsettled then some r.1 else none)

/-- TFE_OUTPUT: a sample of the channel's converter may be taken, and the channel delivers an output word once its
filter has the samples of one (R414, R418 to R422). -/
def execTfeOutput (j : Fin 8) (x : TfeIn) (s : State) : Host.Outcome State Fault Refusal :=
  .next (if !s.awake Dn.svc then s
    else
      let s := match x.sample with
        | some code => s.frontSample (s.tfeConv j) code
        | none => s
      if !s.tfeOn j ∨ (s.tfe j).fed < decimation (s.tfeCode j) then s else s.tfeDeliver j x.value)

/-- A channel starts with nothing taken in (R420). -/
def State.restartTfe (s : State) (j : Nat) : State :=
  (s.setTfe j (fun t => { t with
    samples := [], fed := 0, cic := [], biquad := List.replicate 4 [0, 0, 0, 0], ovr := 0, recovery := 0
    stopped := false })).unsettle j

/-- A channel starts or stops (R421, R424). -/
def State.tfeRunEffect (s : State) (j v : Nat) : Res × State :=
  if v = 1 then
    if s.u Obj.tfeRun j = 1 then ({}, s)
    else
      let r := s.ask Act.tfe j 100000
      if r.1 ≠ 0 then ({ code := 0x0402 }, r.2)
      else ({}, (r.2.put Obj.tfeRun j 1).restartTfe j)
  else ({}, (s.put Obj.tfeRun j 0).release Act.tfe j)

/-- TFE_RUN_WRITE. -/
def execTfeRunWrite (w : Requester) (j v : Nat) (s : State) : Host.Outcome State Fault Refusal :=
  .next (s.hostWrite w 2 Obj.tfeRun j (.num v) (fun x s => s.tfeRunEffect j x.nat))

/-- Values of a filter's coefficient table (R419): taps, or five for each of four sections. -/
def coeffCount (f : Nat) : Nat := if f = 1 then 63 else if f = 2 then 127 else if f = 5 then 20 else if f = 6 then 31 else 0

/-- Octets of one value: I32 for the cascade, else I16 (R419). -/
def coeffSize (f : Nat) : Nat := if f = 5 then 4 else 2

/-- A coefficient table has a row for each value of its filter (R421, R502). -/
def coeffShape (f : Nat) (b : List Byte) : Bool :=
  b.length == 2 + coeffSize f * coeffCount f && ofBe (slice b 0 2) == coeffCount f

/-- A biquad section's poles lie within radius 0.998 (R421): |a2| ≤ 0.998² and |a1| ≤ 0.998 + a2 / 0.998, in 2⁻²⁸. -/
def polesOk (a1 a2 : Int) : Bool :=
  decide (a2.natAbs * 1000000 ≤ 996004 * 2 ^ 28) &&
    decide ((a1.natAbs : Int) * 998000 ≤ 996004 * 2 ^ 28 + a2 * 1000000)

/-- Every section of a biquad cascade's table is admitted. -/
def biquadOk (b : List Byte) : Bool :=
  (List.range 4).all (fun k =>
    polesOk (ofTwos 32 (ofBe (slice b (20 * k + 14) 4))) (ofTwos 32 (ofBe (slice b (20 * k + 18) 4))))

/-- A coefficient table is written (R421). -/
def State.tfeCoeffEffect (s : State) (j : Nat) (b : List Byte) : Res × State :=
  let f := s.tfeCode j
  if !coeffShape f b then ({ code := 0x0302 }, s)
  else if f = 5 ∧ !biquadOk b then ({ code := 0x0301 }, s)
  else if s.u Obj.tfeRun j = 1 then ({ code := 0x0801 }, s)
  else ({}, s.putO Obj.tfeCoeff j b)

/-- A filter is chosen (R421). -/
def State.tfeFilterEffect (s : State) (j v : Nat) : Res × State :=
  if s.u Obj.tfeRun j = 1 then ({ code := 0x0801 }, s) else ({}, s.put Obj.tfeFilter j v)

/-- TFE_COEFF_WRITE: `TfeFilter` as a number, `TfeCoeff` as octets. -/
def execTfeCoeffWrite (w : Requester) (j : Nat) (v : Val) (s : State) : Host.Outcome State Fault Refusal :=
  .next (match v with
    | .num _ => s.hostWrite w 2 Obj.tfeFilter j v (fun x s => s.tfeFilterEffect j x.nat)
    | .octs _ => s.hostWrite w 2 Obj.tfeCoeff j v (fun x s => s.tfeCoeffEffect j x.bytes))

/-- `TfeInput` is written: the channel unsettles (R420, R421). -/
def State.tfeInputEffect (s : State) (j v : Nat) : Res × State := ({}, (s.put Obj.tfeInput j v).unsettle j)

/-- `FrontGain` is written: the channels that the converter feeds unsettle (R401, R420). -/
def State.frontGainEffect (s : State) (c : Carrier) (v : Nat) : Res × State :=
  ({}, (s.put (on c Obj.frontGain) 0 v).unsettleFrom c)

/-- A filter engine image activates (R423): every channel stops; receptions are abandoned. -/
def State.tfeActivate (s : State) (slot : Nat) : State :=
  let s := (List.range 8).foldl (fun s j => s.setTfe j (fun t => { t with stopped := true })) s
  let s := [Carrier.a, Carrier.b].foldl (fun s c => if 2 ≤ s.rxState c then s.footSearch c else s) s
  s.log 0xC00A (d8 slot)

/-- The new filter engine image is loaded: the channels restart (R423). -/
def State.tfeLoaded (s : State) : State :=
  (List.range 8).foldl (fun s j => s.restartTfe j) s

/-! ## Boundary, sleep and damage (R417, R425, R426) -/

/-- SVC's work at a local boundary. -/
def State.svcBoundary (s : State) : State :=
  if !s.awake Dn.svc then s
  else
    let s := if s.svc.clearDue then
        s.setSvc (fun x => { x with clearDue := false, accums := x.accums.map (fun _ => Accum.init) })
      else s
    let s := s.svc.reload.foldl (fun s j => s.restartTfe j) s
    (s.setSvc (fun x => { x with reload := [] })).passBoundary

/-- SVC wakes (R425): registers and accumulators read zero, comparators are armed, channels restart. `lost` says that its
retention failed or a reset came: settings resolve under R18 and user channels stay stopped. -/
def State.svcWoken (s : State) (lost logged : Bool) : State :=
  let s := s.setSvc (fun x => { x with
    entry := none, inj := none, resume := none, pending := none, lateNext := false, recover := 0
    regs := List.replicate 72 0, accums := List.replicate 72 Accum.init })
  let s := if lost then
      let gone := fun (k : Nat) => [Obj.regularEntry, Obj.userLength, Obj.injectEntry, Obj.injectLength, Obj.comparator,
        Obj.tfeInput, Obj.tfeFilter, Obj.tfeCoeff, Obj.tfeRun].contains (k / 256)
      let s := { s with live := { nums := s.live.nums.filter (fun p => !gone p.1)
                                  octs := s.live.octs.filter (fun p => !gone p.1) } }
      let s := [6, 7].foldl (fun s j => (s.put Obj.tfeRun j 0).release Act.tfe j) s
      if logged then s.log 0xC008 (d8 1) else s
    else s
  let s := (List.range 4).foldl (fun s k => s.put Obj.comparatorState k (b2n (bit (s.u Obj.comparator k) 31))) s
  (List.range 8).foldl (fun s j => s.restartTfe j) s

/-- Damage to SVC state (R426): 0 TFE scratch of a channel, 1 fixed coefficients, 2 user coefficients, 3 a sequence
entry. -/
def State.svcPoison (s : State) (part k addr : Nat) : State :=
  if part = 0 then (s.unsettle k).log 0xC007 (d8 k ++ d32 addr)
  else if part = 1 then
    ((s.setTfe k (fun t => { t with stopped := true })).setSvc (fun x => { x with reload := k :: x.reload })).log 0xC006
      (d8 1 ++ d8 k)
  else if part = 2 then
    let key := okey Obj.tfeCoeff k
    let s := match assocGet s.user.octs key with
      | some b => (s.putO Obj.tfeCoeff k b).unsettle k
      | none => ((s.putO Obj.tfeCoeff k []).put Obj.tfeRun k 0).release Act.tfe k
    s.log 0xC006 (d8 2 ++ d8 k)
  else (s.setSvc (fun x => { x with skip := k :: x.skip })).log 0xC006 (d8 3 ++ d8 k)

/-- A sequence entry's word is reloaded as dictionary data (R426). -/
def State.svcEntryReloaded (s : State) (k : Nat) : State := s.setSvc (fun x => { x with skip := x.skip.filter (· != k) })

end Sys2Proof.Machine
end

