-- ==== Sys2Proof/Machine/Sleep.lean ====
section
/-! DEFINITION. Power domains asleep and awake (R448 to R455), the measured power and shedding (R457 to R464), and the
commands of 16_power_and_allotment.md that no later chapter has a part in. -/

namespace Sys2Proof.Machine

/-! ## What an entry needs (R43, R30) -/

/-- Domains that a scheduled write's object acts in (R450). -/
def scheduledDomains (o : Nat) : List Nat :=
  let c := if o / 256 % 16 = 2 then Carrier.b else Carrier.a
  if isObj o Obj.dacBackoff then [Dn.tx c]
  else if isObj o Obj.subcarrierCount ∨ isObj o Obj.symbolRate then [Dn.tx c, Dn.rx c]
  else if isObj o Obj.bankService then [Dn.dpa + (o - Obj.bankService) / 256]
  else if isObj o Obj.laneInject then [Dn.hla + quadOf o]
  else if o = Obj.blockRetire then [Dn.ice]
  else []

/-- Domains that an image of a subsystem acts in (R302, R556). -/
def imageDomains (sub : Nat) (c : Option Carrier) : List Nat :=
  if sub = 2 then [Dn.grt]
  else if sub = 3 then [Dn.bel]
  else if sub = 5 then (match c with
    | some x => [Dn.tx x, Dn.rx x]
    | none => [])
  else if sub = 6 then [Dn.svc]
  else []

/-- Domains that an entry needs (R43). -/
def Entry.domains (e : Entry) : List Nat :=
  let side := match e.carrier with
    | some c => [if e.dir = .tx then Dn.tx c else Dn.rx c]
    | none => []
  match e.kind with
  | .snapshot => []
  | .modeChange => side ++ [Dn.frm]
  | .plannedSwitch => side ++ [Dn.frm]
  | .imageActivation => imageDomains e.mem e.carrier
  | .loadingChange => side
  | .mapChange => side ++ [Dn.frm]
  | .contextSwitch => [Dn.cip, Dn.grt]
  | .keyRoll => [Dn.cip, Dn.grt]
  | .sliceSwap =>
    Dn.svc :: (match e.carrier with
      | some c => [if e.key % 256 < 4 then Dn.rx c else Dn.tx c]
      | none => [])
  | .calWindow =>
    Dn.svc :: (match e.carrier with
      | some c => [if nth e.data 1 0 < 4 then Dn.rx c else Dn.tx c]
      | none => [])
  | .scheduledWrite => scheduledDomains e.obj
  | .injectTrigger => [Dn.svc]
  | .domainWake => [e.key]

/-- The Sundial does not wake a domain for rotation (R84). -/
def Entry.wakes (e : Entry) : List Nat :=
  match e.kind with
  | .sliceSwap => []
  | .calWindow => []
  | _ => e.domains

/-- Instant of an entry on the local time base, in 0.01 ps. -/
def State.entryInstant (s : State) (e : Entry) : Nat := s.instantOf e.count e.sfn (s.tickOf e)

/-- An entry that needs a domain lies within its wake latency (R43, R452). -/
def State.pendingFor (s : State) (d : Nat) : Bool :=
  s.clk.entries.any (fun e => e.domains.contains d &&
    decide (s.entryInstant e ≤ s.now + s.wakeLatency d * 100000000))

/-! ## Refusers (R452) -/

/-- Carrier of a line domain. -/
def domCarrier (d : Nat) : Carrier := if d < 20 then .a else .b

/-- A carrier carries clients, or the mode in force is twin or spare (R452). -/
def State.traffic (s : State) (c : Carrier) : Bool :=
  (s.fr c).txMap.carried != 0 || (s.fr c).rxMap.carried != 0 || s.pairedMode

/-- A selected input lies in a domain (R350): a line in its RX, a SyncE lane in its quad. -/
def State.lockIn (s : State) (d : Nat) : Bool :=
  [s.selected 0, s.selected 1].any (fun i =>
    (i == 7 && d == Dn.rx .a) || (i == 8 && d == Dn.rx .b) ||
    (decide (9 ≤ i) && decide (i ≤ 12) && decide (s.u Obj.syncLanes (i - 9) ≤ 31) &&
      d == Dn.hla + s.u Obj.syncLanes (i - 9) / 8))

/-- Refuser 4, host hold, of a domain. -/
def State.hostHold (s : State) (d : Nat) : Bool :=
  s.u Obj.domainHold d == 1 ||
  (decide (Dn.hla ≤ d) && decide (d < Dn.hla + 4) &&
    (List.range 8).any (fun i => s.lane Obj.laneRate (8 * (d - Dn.hla) + i) != 0)) ||
  (d == Dn.svc && [Carrier.a, Carrier.b].any (fun c => s.u (on c Obj.footpathEnable) == 1 && s.awake (Dn.op c))) ||
  (d == Dn.cip && [Carrier.a, Carrier.b].any (fun c => (s.ciph.get c).tx.any (·.on) || (s.ciph.get c).rx.any (·.on))) ||
  (d == Dn.frm && (List.range 64).any (fun x => s.clientRate x != 0))

/-- Refuser 5, traffic present, of a domain. -/
def State.trafficHold (s : State) (d : Nat) : Bool :=
  if 17 ≤ d ∧ d ≤ 22 then s.traffic (domCarrier d)
  else if 13 ≤ d ∧ d ≤ 16 then s.bankSt (d - 13) == 2 || s.bankSt (d - 13) == 3
  else if d = Dn.frm then s.u (on .a Obj.frameLock) == 1 || s.u (on .b Obj.frameLock) == 1
  else if d = Dn.grt then
    !s.grot.queue.isEmpty || (s.rt .a).part != .none || (s.rt .b).part != .none ||
      s.grot.slots.any (fun x => x.erase.isSome)
  else if d = Dn.ice then !s.mem.queue.isEmpty || !s.mem.erasing.isEmpty
  else false

/-- The first refuser of R452 that applies to a domain, 0 for none. -/
def State.refuser (s : State) (d : Nat) : Nat :=
  if s.pendingFor d then 1
  else if s.lockIn d then 2
  else if d = Dn.svc ∧ (List.range 25).any (fun x => x != 0 && x != Dn.aon && x != Dn.ctl && x != Dn.mgt && x != Dn.ret &&
      x != Dn.svc && s.awake x) then 3
  else if s.hostHold d then 4
  else if s.trafficHold d then 5
  else 0

/-- A domain that no idle timer puts to sleep (R448). -/
def neverIdle (d : Nat) : Bool :=
  d == 0 || d == Dn.aon || d == Dn.ctl || d == Dn.mgt || d == Dn.bel || d == Dn.ret || decide (24 < d)

/-! ## Sleep entry (R451) -/

/-- Sleep entry begins (R451). Step 4 begins at an instant that depends on the work in flight: a free value within the
bound of steps 2 to 5 (log entry 1); `atOnce` for a shed quad. -/
def State.beginSleep (s : State) (d : Nat) (atOnce : Bool) : State :=
  let span := if d = 19 ∨ d = 22 then 900000000000 else 9800000000
  let r := s.fresh 64
  let iso := if atOnce then r.2.now else r.2.now + r.1 % span
  r.2.setDom d (fun x => { x with st := .entering, since := r.2.now, iso := iso, wakeNext := false })

/-- A domain attempts sleep (R451 step 1): a refused entry is counted and the timer restarts. -/
def State.trySleep (s : State) (d : Nat) : State :=
  let r := s.refuser d
  if r = 0 then s.beginSleep d false
  else (s.setDom d (fun x => { x with refused := modNth x.refused (r - 1) (· + 1) })).touch d

/-- Launch power in force of a carrier in 0.01 dB above −10 dBm, as the ledger holds it: 0.25 W a dB (R456). No object
sets it: a raise is a LEDGER_REQUEST of activity 0Ah for the difference, and where that is refused this stays. -/
def State.launchPower (s : State) (c : Carrier) : Nat := s.holds Act.launch c.toNat / 2500

/-- What a domain's chapter makes of its supply going off; with the optics off no light leaves (R455). -/
def State.slept (s : State) (d : Nat) : State :=
  if d = Dn.rx .a ∨ d = Dn.rx .b then
    let c := domCarrier d
    let s := ((s.release Act.acq c.toNat).setLock c 0).setRx c (fun x =>
      { x with waitUntil := none, sfRaised := false, bad := 0, good := 0, pilots := 0 })
    let s := if s.u (on c Obj.frameLock) = 1 then s.loseFrameLock c 1 else s
    if (s.rxs c).validity = 1 then s.setValidity c 2 else s
  else if 13 ≤ d ∧ d ≤ 16 then s.bankSlept (d - 13)
  else if Dn.hla ≤ d ∧ d < Dn.hla + 4 then
    let q := d - Dn.hla
    (List.range 8).foldl (fun s i => s.release Act.lane (8 * q + i)) (s.quadSlept q)
  else if d = Dn.op .a ∨ d = Dn.op .b then s.release Act.launch (domCarrier d).toNat
  else s

/-- A domain's supply goes off (R451 step 5): its SRAM is lost (R473), its retention banks hold with their checks (R480), and its awake cost
leaves the ledger. The check's value is free, since the spec gives no layout of a bank (log entry 1). -/
def State.supplyOff (s : State) (d : Nat) : State :=
  let s := (s.retBanksOf d).foldl (fun s r =>
    let f := s.fresh 64
    f.2.setRet r (fun x => { x with state := 1, crc := f.1 })) s
  let s := ((s.slept d).clearDomainSram d).release Act.domain d
  s.setDom d (fun x => { x with st := .off })

/-- The operations that stalled on a domain whose wake the ledger refuses end with 0402h (R459, R506). -/
def State.refuseStalls (s : State) (d : Nat) : State :=
  let due := s.aop.stalls.filter (fun x => x.dom == d)
  let s := { s with aop := { s.aop with stalls := s.aop.stalls.filter (fun x => x.dom != d) } }
  due.foldl (fun s x => s.refuse x.asker x.op.op x.op.obj x.op.mem 0x0402) s

/-- SLEEP_ENTRY_DONE (R451): the entry ends, and an access that waited for it wakes the domain. -/
def execSleepEntryDone (d : Fin 25) (s : State) : Host.Outcome State Fault Refusal :=
  .next (if (s.dom d).st ≠ .entering then s
    else
      let wake := (s.dom d).wakeNext
      let s := s.supplyOff d
      if wake then
        let r := (s.setDom d (fun x => { x with wakeNext := false })).accessDom d
        if r.1 = 0 then r.2 else r.2.refuseStalls d
      else s)

/-- Entries into sleep that a refuser ends before their step 4 (R451), judged at each local boundary; a shed quad's
does not end. -/
def State.sleepBoundary (s : State) : State :=
  (List.range 25).foldl (fun s d =>
    let x := s.dom d
    if x.st = .entering ∧ s.now < x.iso ∧ s.refuser d ≠ 0 then
      (s.abortCount d (s.refuser d)).setDom d (fun x => { x with st := .awake, access := s.clk.sfn })
    else s) s

/-- IDLE_TIMER_EXPIRE (R450, R451): the time since a domain's last access has reached its idle timer. -/
def execIdleTimerExpire (d : Fin 25) (s : State) : Host.Outcome State Fault Refusal :=
  let t := s.u Obj.idleTimer d
  .next (if s.awake d ∧ neverIdle d = false ∧ t ≠ 0xFFFFFFFF ∧ (s.dom d).access + sfOfMs t ≤ s.clk.sfn then s.trySleep d
    else s)

/-- DOMAIN_ACCESS (R450, R453): an internal access. -/
def execDomainAccess (d : Fin 25) (s : State) : Host.Outcome State Fault Refusal :=
  .next (if d.val = 0 then s else (s.accessDom d).2)

/-- DOMAIN_HOLD_WRITE (R450, R452): a write of `DomainHold`; 1 accesses the domain and holds it awake. -/
def execDomainHoldWrite (w : Requester) (d : Fin 25) (v : Int) (s : State) : Host.Outcome State Fault Refusal :=
  .next (s.hostWrite w 2 Obj.domainHold d (.num v) (storeEffect Obj.domainHold d))

/-- LEDGER_REQUEST (R456 to R459): an activity asks for a cost in microwatts. -/
def execLedgerRequest (act : Fin 12) (item cost : Nat) (s : State) : Host.Outcome State Fault Refusal :=
  .next (if act.val = Act.cal then s.askPrivileged act item cost else (s.ask act item cost).2)

/-! ## Measured power (R457) -/

/-- The (SFN, M − L) pairs that can still be the largest of the last 10,000 SF, with one more. -/
def driftPush (l : List (Nat × Int)) (now : Nat) (v : Int) : List (Nat × Int) :=
  (l.filter (fun p => decide (now < p.1 + 10000) && decide (v < p.2))) ++ [(now, v)]

/-- `Ceiling` that the check of R461 uses: the old one until t + 60 (R463). -/
def State.checkCeiling (s : State) : Nat :=
  match s.pow.oldCeiling with
  | some (c, t) => if s.clk.sfn < t then c * 100000 else s.ceiling
  | none => s.ceiling

/-- `ShedState` (R461, R464, R469). -/
def State.shedStateNow (s : State) : Nat :=
  if s.pow.unresolved then 3
  else if s.pow.haveM && decide (s.checkCeiling < s.pow.measured) then 1
  else if (List.range 9).any (fun g => s.inShedHold g) then 2
  else 0

/-- The power of an SF is formed from its usable passes (R457): M, D, and the runs of R461 and R464. -/
def State.powerMeasured (s : State) : State :=
  let p := s.pow
  let s := match p.passes with
    | [] =>
      let n := p.noPassRun + 1
      let s := { s with pow := { s.pow with noPassRun := n } }
      if p.haveM ∧ p.mInvalid = false ∧ (10 ≤ n ∨ !s.awake Dn.svc) then
        { s with pow := { s.pow with mInvalid := true, frozenD := driftMax p.drift } }.log 0x2007 (d8 1)
      else s
    | l =>
      let m := sumNat l / l.length
      let s := if p.mInvalid then { s with pow := { s.pow with mInvalid := false } }.log 0x2007 (d8 0) else s
      let ovr := decide (s.checkCeiling < m)
      let s := { s with pow := { s.pow with
        measured := m, haveM := true, noPassRun := 0, passes := [], recentM := (m :: p.recentM).take 10
        drift := driftPush p.drift s.clk.sfn ((m : Int) - s.ledgerTotal)
        aboveRun := if ovr && p.shedCheck then p.aboveRun + 1 else 0
        belowRun := if ovr then 0 else p.belowRun + 1
        peak := max p.peak m } }
      let s := s.put Obj.measuredPower 0 (f32OfRat m 1000000)
      let s := s.put Obj.inputVoltage 0 (f32OfRat p.vin 2000)
      s.put Obj.inputCurrent 0 (f32OfRat p.iin 10000)
  s.put Obj.shedState 0 s.shedStateNow

/-! ## Shedding (R461 to R464) -/

/-- What a shed has done so far: groups shed, microwatts freed. -/
structure Shed where
  groups : List Nat
  freed  : Nat
  deriving DecidableEq, Repr

/-- Group 1 frees only the part needed, in 1 mW steps (R462). -/
def State.shedIter (s : State) (need : Nat) (notice : Bool) : Nat × State :=
  let cut := min s.grantAhead (ceilDiv need 1000 * 1000)
  if cut = 0 then (0, s) else (cut, s.lowerGrant (s.grantAhead - cut) notice)

/-- Group 2 ends every trim in progress; interrupted handover checks count as passed (R87, R462). -/
def State.shedTrims (s : State) : Nat × State :=
  let cost := ledgerSum (s.pow.ledger.filter (fun x => x.act == Act.trim))
  let s := [Carrier.a, Carrier.b].foldl (fun s c => (List.range 8).foldl (fun s k =>
    let s := s.abandonWindow c k
    s.setCv c k (fun v => { v with cycle := match v.cycle with
      | .handover a o p w n i b _ => .handover a o p w n i b true
      | x => x })) s) s
  (cost, s)

/-- Group 3 abandons every acquisition attempt in states 3 to 6 (R129, R462); in the 1 s wait of R116 there is none. -/
def State.shedAcq (s : State) : Nat × State :=
  let cost := ledgerSum (s.pow.ledger.filter (fun x => x.act == Act.acq))
  let s := [Carrier.a, Carrier.b].foldl (fun s c =>
    if 3 ≤ s.lock c ∧ s.lock c ≤ 6 ∧ (s.rxs c).waitUntil = none then (s.release Act.acq c.toNat).acqRefused c (s.rxs c).kind 2 else s) s
  (cost, s)

/-- Domains that group 4 can sleep, highest cost first (R462). -/
def State.idleDomains (s : State) : List Nat :=
  let l := (List.range 25).filter (fun d => !neverIdle d && s.awake d && s.refuser d == 0)
  l.mergeSort (fun a b => decide (domainCost b ≤ domainCost a))

/-- Group 4 sleeps idle domains until the need is met (R462). -/
def State.shedIdle (s : State) (need : Nat) : Nat × State :=
  s.idleDomains.foldl (fun (acc : Nat × State) d =>
    if need ≤ acc.1 then acc else (acc.1 + domainCost d, acc.2.beginSleep d false)) (0, s)

/-- Groups 5 to 8 put a quad and every lane in it off (R243, R462). -/
def State.shedQuad (s : State) (q : Nat) : Nat × State :=
  let d := Dn.hla + q
  if s.domOff d then (0, s)
  else
    let lanes := ledgerSum (s.pow.ledger.filter (fun x => x.act == Act.lane && x.item / 8 == q))
    let s := s.beginSleep d true
    (domainCost d + lanes, s)

/-- One group is freed as far as the need goes (R462). -/
def State.shedGroupNow (s : State) (g need : Nat) (notice : Bool) : Nat × State :=
  if g = 1 then s.shedIter need notice
  else if g = 2 then s.shedTrims
  else if g = 3 then s.shedAcq
  else if g = 4 then s.shedIdle need
  else if 5 ≤ g ∧ g ≤ 8 then s.shedQuad (g - 5)
  else (0, s)

/-- Through `ShedOrder` from a member on until `need` is freed (R461): the position after the last group visited. -/
def State.shedFrom (s : State) (need : Nat) (notice : Bool) : Nat → Nat → Shed → Nat × Shed × State
  | 0, pos, x => (pos, x, s)
  | n + 1, pos, x =>
    if need ≤ x.freed then (pos, x, s)
    else
      let g := s.u Obj.shedOrder pos
      let r := s.shedGroupNow g (need - x.freed) notice
      if r.1 = 0 then r.2.shedFrom need notice n (pos + 1) x
      else
        let s := r.2.bump Obj.shedCount g
        let s := { s with pow := { s.pow with groupShed := setNth s.pow.groupShed g (some s.clk.sfn) } }
        s.shedFrom need notice n (pos + 1) { groups := x.groups ++ [g], freed := x.freed + r.1 }

/-- A shed of `need` microwatts from the present position (R461). -/
def State.shedNow (s : State) (need : Nat) (notice : Bool) : State :=
  let r := s.shedFrom need notice (8 - s.pow.shedPos) s.pow.shedPos { groups := [], freed := 0 }
  let s := { r.2.2 with pow := { r.2.2.pow with shedPos := r.1, aboveRun := 0 } }
  let s := { s with pow := { s.pow with shedAt := some s.clk.sfn } }
  s.log 0x2002 (d16 (sumNat (r.2.1.groups.map (fun g => 2 ^ g))) ++ dW r.2.1.freed ++ dW s.pow.measured ++ dW s.ceiling)

/-- Every group that `ShedOrder` names from the position on has been shed. -/
def State.shedExhausted (s : State) : Bool :=
  (List.range 8).all (fun j => decide (j < s.pow.shedPos) || s.u Obj.shedOrder j == 0)

/-- A planned shed when L + D exceeds `Ceiling` less `ShedMargin` (R463, R465). -/
def State.plannedShed (s : State) : State :=
  if s.ledgerTotal + s.driftTerm + s.shedMargin ≤ s.ceiling then s
  else s.shedNow (s.ledgerTotal + s.driftTerm + s.shedMargin - s.ceiling) true

/-- SHED (R461): M has exceeded `Ceiling` in 50 consecutive SF. -/
def execShed (s : State) : Host.Outcome State Fault Refusal :=
  .next (if s.pow.aboveRun < 50 ∨ s.pow.shedCheck = false ∨ s.shedExhausted then s
    else
      let mean := sumNat s.pow.recentM / (max 1 s.pow.recentM.length)
      s.shedNow (mean + s.shedMargin - s.ceiling) false)

/-- SHED_UNRESOLVED (R464): every group is shed and M has stayed above `Ceiling` for a further 50 SF. -/
def execShedUnresolved (s : State) : Host.Outcome State Fault Refusal :=
  .next (if s.pow.aboveRun < 50 ∨ s.pow.shedCheck = false ∨ s.shedExhausted = false ∨ s.pow.unresolved then s
    else ({ s with pow := { s.pow with unresolved := true } }.put Obj.shedState 0 3).log 0x2003 (d8 1 ++ dW s.pow.measured))

/-- SHED_POSITION_RESET (R461, R464): M has stayed at or below `Ceiling` for 10,000 SF. -/
def execShedPositionReset (s : State) : Host.Outcome State Fault Refusal :=
  .next (if s.pow.belowRun < 10000 then s
    else
      let s' := { s with pow := { s.pow with shedPos := 0, unresolved := false } }
      let s' := s'.put Obj.shedState 0 s'.shedStateNow
      if s.pow.unresolved then s'.log 0x2003 (d8 0 ++ dW s.pow.measured) else s')

/-- A write of `Ceiling` takes effect at the next local boundary (R463). -/
def State.ceilingWriteEffect (s : State) (v : Nat) : Res × State :=
  ({}, { s with pow := { s.pow with newCeiling := some v } })

/-- CEILING_WRITE (R463). -/
def execCeilingWrite (w : Requester) (v : Int) (s : State) : Host.Outcome State Fault Refusal :=
  .next (s.hostWrite w 2 Obj.ceiling 0 (.num v) (fun x s => s.ceilingWriteEffect x.nat))

/-- The Allotment at a local boundary: a written ceiling takes effect with its planned shed (R463), then the power of
the SF is formed (R457). -/
def State.powerBoundary (s : State) : State :=
  let s := match s.pow.newCeiling with
    | none => s
    | some v =>
      let old := s.u Obj.ceiling
      let s := { s with pow := { s.pow with newCeiling := none, oldCeiling := some (old, s.clk.sfn + 60) } }
      let s := s.put Obj.ceiling 0 v
      let planned := decide (s.ceiling < s.ledgerTotal + s.driftTerm + s.shedMargin)
      s.plannedShed.log 0x2004 (d16 old ++ d16 v ++ d8 (b2n planned))
  s.powerMeasured

end Sys2Proof.Machine
end

