-- ==== Sys2Proof/Machine/Image.lean ====
section
/-! DEFINITION. Images and the owner key: validity (R302, R303), enrolment and rollback floors (R320, R321), writing,
committing and activating an image, and its probation (R555 to R557). -/

namespace Sys2Proof.Machine

/-! ## Slots and validity (R302, R303) -/

/-- Index of an image slot: 2 × (code − 1) + slot. -/
def imgIndex (sub slot : Nat) : Nat := 2 * (sub - 1) + slot

/-- An image slot. -/
def State.imgSlot (s : State) (k : Nat) : ImgSlot := nth s.img.slots k ImgSlot.init

/-- The image state changed. -/
def State.setImg (s : State) (f : Img → Img) : State := { s with img := f s.img }

/-- An image slot changed. -/
def State.setImgSlot (s : State) (k : Nat) (f : ImgSlot → ImgSlot) : State :=
  s.setImg (fun x => { x with slots := modNth x.slots k f })

/-- A slot holds an image. -/
def ImgSlot.present (x : ImgSlot) : Bool := x.factory || !x.data.isEmpty

/-- Octets of a slot's image; of a factory image, its header and Bastepa signature as the part carries them (log
entry 3). -/
def State.imgOctets (s : State) (k : Nat) : List Byte :=
  let x := s.imgSlot k
  if x.factory then Config.factoryOctets (0x106000 + k) 1408 else x.data

/-- Octets before the payload: header and Bastepa signature, and the owner's where Flags bit 0 is set (R302). -/
def imgHeader (b : List Byte) : Nat := if bit (ofBe (slice b 5 1)) 0 then 2688 else 1408

/-- The OwnerSignature is present and verifies under a key (R303). -/
def ownerSigned (key b : List Byte) : Bool :=
  bit (ofBe (slice b 5 1)) 0 && Config.verdict Config.falconVerify [key, b.take 1408, slice b 1408 1280]

/-- `ImageStatus` of some octets for a subsystem (R303): 0 absent, 1 valid, 2 Bastepa signature, 3 owner signature, 4
below floor, 5 digest. -/
def State.judgeImage (s : State) (sub : Nat) (b : List Byte) : Nat :=
  if b.isEmpty then 0
  else if !Config.verdict Config.falconVerify [(s.slot 2).data, b.take 128, slice b 128 1280] then 2
  else if s.grot.ownerBad || ((s.slot 3).typ != 0 && !ownerSigned (s.slot 3).data b) then 3
  else if decide (ofBe (slice b 6 1) < nth s.grot.floors sub 0) then 4
  else if decide (Config.shake256 64 (b.drop (imgHeader b)) ≠ slice b 16 64) then 5
  else 1

/-- SecurityVersion of a slot's image. -/
def State.imgVersion (s : State) (k : Nat) : Nat := ofBe (slice (s.imgOctets k) 6 1) % 64

/-- `ImageStatus` of a slot. A factory image carries a good Bastepa signature and digest and no owner signature (log
entry 3). -/
def State.imageStatus (s : State) (k : Nat) : Nat :=
  let x := s.imgSlot k
  if x.factory then
    if s.grot.ownerBad || (s.slot 3).typ != 0 then 3
    else if s.imgVersion k < nth s.grot.floors (k / 2 + 1) 0 then 4 else 1
  else s.judgeImage (k / 2 + 1) x.data

/-- The slot of a subsystem in force. -/
def State.activeSlot (s : State) (sub : Nat) : Nat := nth s.img.active sub 0

/-- A slot is in force: for code 5 on either carrier. -/
def State.slotActive (s : State) (sub slot : Nat) : Bool :=
  if sub = 5 then s.img.dsp.a == slot || s.img.dsp.b == slot else s.activeSlot sub == slot

/-- A pending activation names a slot. -/
def State.slotPending (s : State) (sub slot : Nat) : Bool :=
  s.clk.entries.any (fun e => decide (e.kind = .imageActivation) && e.mem == sub && nth e.data 0 9 == slot)

/-! ## Attestation registers (R306) -/

/-- An attestation register is extended by a digest. -/
def State.extend (s : State) (i : Nat) (d : List Byte) : State :=
  s.setGr (fun g => { g with regs := modNth g.regs i (fun r => Config.shake256 64 (fit 64 r ++ d)) })

/-- Register of a subsystem's image. -/
def imageReg : Nat → Nat
  | 1 => 1
  | 2 => 0
  | 3 => 2
  | 4 => 3
  | 5 => 4
  | _ => 5

/-- An image is measured as it is accepted. -/
def State.measure (s : State) (sub slot : Nat) : State :=
  s.extend (imageReg sub) (Config.shake256 64 ((s.imgOctets (imgIndex sub slot)).take 1408))

/-! ## The owner key and the floors (R320, R321) -/

/-- What a write of `OwnerKeyEnrol` does. The octet of the operation, the SFN, then key and signature as it takes. -/
def State.ownerKeyEffect (s : State) (b : List Byte) : Res × State :=
  let op := ofBe (slice b 0 1)
  let sfn := ofBe (slice b 1 8)
  let key := if op = 3 then [] else slice b 9 1793
  let sig := b.drop (b.length - 1280)
  let len := nth [0, 1802, 3082, 1289] op 0
  let lenBad := decide (b.length ≠ len)
  let sfnBad := decide (s.clk.sfn + 10000 < sfn) || decide (sfn + 10000 < s.clk.sfn)
  let held := (s.slot 3).typ != 0
  let sigBad := op != 1 && (!held || s.grot.ownerBad ||
    !Config.verdict Config.falconVerify [(s.slot 3).data, b.take (b.length - 1280) ++ fit 16 (s.o Obj.deviceSerial), sig])
  let imgBad := op != 3 && ([1, 2, 3, 4, 5, 6].any (fun sub =>
    let k := imgIndex sub (s.activeSlot sub)
    (s.imgSlot k).factory || !ownerSigned key (s.imgSlot k).data))
  let code := firstFault [if lenBad then 0x0302 else 0, if sfnBad then 0x0301 else 0,
    if sigBad || imgBad then 0x0701 else 0, if (op = 1 ∧ held) ∨ (s.slot 3).shadow.isSome then 0x0801 else 0]
  if code ≠ 0 then ({ code := code }, s)
  else
    let s := if op = 3 then s.emptySlot 3 else s.writeSlot 3 4 key
    let s := s.setGr (fun g => { g with ownerBad := false })
    let digest := if op = 3 then List.replicate 64 0 else Config.shake256 64 key
    let s := (s.putO Obj.ownerKeyDigest 0 digest).saveSlot 3
    ({}, s.log 0x9004 (d8 op ++ digest))

/-- OWNER_KEY_ENROL (R320). -/
def execOwnerKeyEnrol (w : Requester) (value : List Byte) (s : State) : Host.Outcome State Fault Refusal :=
  .next (s.hostWrite w 2 Obj.ownerKeyEnrol 0 (.octs value) (fun x s => s.ownerKeyEffect x.bytes))

/-- What a write of `RollbackFloor` does: the SecurityVersion of the active image, above the floor in force (R321). -/
def State.rollbackEffect (s : State) (sub v : Nat) : Res × State :=
  if v ≠ s.imgVersion (imgIndex sub (s.activeSlot sub)) ∨ v ≤ nth s.grot.floors sub 0 then ({ code := 0x0301 }, s)
  else
    let s := s.setGr (fun g => { g with floors := setNth g.floors sub v })
    ({}, (s.put Obj.rollbackFloor sub v).log 0x9005 (d8 sub ++ d8 v))

/-- ROLLBACK_FLOOR (R321). -/
def execRollbackFloor (w : Requester) (sub : Fin 7) (v : Int) (s : State) : Host.Outcome State Fault Refusal :=
  .next (s.hostWrite w 2 Obj.rollbackFloor sub (.num v) (fun x s => s.rollbackEffect sub x.nat))

/-! ## Writing and committing (R555) -/

/-- Largest image in octets. -/
abbrev imageMax : Nat := 67043328

/-- A commit of the slot's record is under way. -/
def State.committing (s : State) (k : Nat) : Bool := s.mem.queue.any (fun j => j.recd.typ == 1 && j.recd.subject == k)

/-- Blocks of an image slot that hold nothing live are erased as a new record begins (R489). -/
def State.clearSlotBlocks (s : State) (k : Nat) : State :=
  let r := spaceBlocks (6 + k)
  ((List.range r.2).map (· + r.1)).foldl (fun s b =>
    if (s.movable 1).contains b && (s.liveIn b).isEmpty then s.beginErase b else s) s

/-- What a write of `ImageWrite` does: its row is Subsystem, Slot, Offset, Data. -/
def State.imageWriteEffect (s : State) (b : List Byte) : Res × State :=
  let sub := ofBe (slice b 2 1)
  let slot := ofBe (slice b 3 1)
  let off := ofBe (slice b 4 4)
  let data := b.drop 10
  let k := imgIndex sub slot
  let have_ := ((s.imgSlot k).opened.getD []).length
  let offBad := off != 0 && (off != have_ || (s.imgSlot k).opened.isNone)
  let code := firstFault [if offBad || decide (imageMax < off + data.length) then 0x0301 else 0,
    if s.slotActive sub slot || s.slotPending sub slot || s.committing k then 0x0801 else 0]
  if code ≠ 0 then ({ code := code }, s)
  else
    let s := if off = 0 then s.clearSlotBlocks k else s
    let all := if off = 0 then data else (s.imgSlot k).opened.getD [] ++ data
    let s := s.setImgSlot k (fun x => { x with opened := some all })
    ({}, s.put Obj.imageProgress sub all.length)

/-- IMAGE_WRITE (R555). -/
def execImageWrite (w : Requester) (row : List Byte) (s : State) : Host.Outcome State Fault Refusal :=
  .next (s.hostWrite w 2 Obj.imageWrite 0 (.octs row) (fun x s => s.imageWriteEffect x.bytes))

/-- What a write of `ImageCommit` does: its row is Subsystem, Slot, Length. It waits for the marker. -/
def State.imageCommitEffect (s : State) (w : Requester) (b : List Byte) : Res × State :=
  let sub := ofBe (slice b 2 1)
  let slot := ofBe (slice b 3 1)
  let len := ofBe (slice b 4 4)
  let k := imgIndex sub slot
  let data := (s.imgSlot k).opened.getD []
  let code := firstFault [if (s.imgSlot k).opened.isNone || data.length != len then 0x0301 else 0,
    if s.judgeImage sub data != 1 then 0x0701 else 0,
    if s.slotActive sub slot || s.slotPending sub slot || s.committing k then 0x0801 else 0]
  if code ≠ 0 then ({ code := code }, s)
  else
    let r := (s.accessDom Dn.grt).2.writeRecord 1 1 k data (some w)
    if r.1 = 0 then ({ wait := true }, r.2)
    else if r.1 = 9 then ({ code := 0x0801 }, r.2)
    else ({ code := 0x0402 }, r.2)

/-- IMAGE_COMMIT (R555). -/
def execImageCommit (w : Requester) (row : List Byte) (s : State) : Host.Outcome State Fault Refusal :=
  .next (s.hostWrite w 2 Obj.imageCommit 0 (.octs row) (fun x s => s.imageCommitEffect w x.bytes))

/-- The marker of an image's record is programmed: the slot holds it, 1010h is logged and the write answered. -/
def State.imageCommitted (s : State) (k : Nat) (data : List Byte) (asker : Option Requester) : State :=
  let s := s.setImgSlot k (fun _ => { factory := false, data := data, opened := none })
  let s := (s.put Obj.imageProgress (k / 2 + 1) 0).log 0x1010 (d8 (k / 2 + 1) ++ d8 (k % 2) ++ slice data 8 4)
  match asker with
  | some w => s.accept w 2 0 Obj.imageCommit 0 0 [] []
  | none => s

/-! ## Activation (R556) -/

/-- An entry that activates a slot on a carrier. -/
def activationEntry (sub slot : Nat) (c : Option Carrier) : Entry :=
  { Entry.base .imageActivation 0 with carrier := c, obj := Obj.imageActivate, mem := sub, data := [slot], key := 0 }

/-- The second entry of an activation on both carriers: the first SFN at least 16 SF later that fits. -/
def State.secondActivation (s : State) (num : Nat) (e : Entry) : Option State :=
  match s.clk.entries.find? (fun x => x.num == num) with
  | none => none
  | some x =>
    let e := { e with src := x.src, role := x.role, write := x.write }
    if s.hostFull e then none
    else
      match firstFrom (x.sfn + 16) searchSpan (fun n => s.fits { e with sfn := n, orig := n }) with
      | none => none
      | some n => some (s.addEntry { e with sfn := n, orig := n }).2

/-- What a write of `ImageActivate` does. -/
def State.imageActivateEffect (s : State) (w : Requester) (sub : Nat) (t : Target) (v : Nat) : Res × State :=
  let slot := v % 2
  let k := imgIndex sub slot
  let both := if s.u Obj.avenueMode = 2 ∧ s.carrying = some .a then [Carrier.b, Carrier.a] else [.a, .b]
  let cs : List (Option Carrier) :=
    if sub = 5 then
      ((if v / 2 = 1 then [Carrier.a] else if v / 2 = 2 then [.b] else both).filter
        (fun c => s.img.dsp.get c != slot)).map some
    else if s.activeSlot sub = slot then [] else [none]
  match cs with
  | [] => ({}, s)
  | c :: rest =>
    let s0 := (s.accessDom Dn.grt).2
    let bad := if (s.imgSlot k).opened.isSome || !(s.imgSlot k).present then 0x0601
      else if s.imageStatus k != 1 then 0x0701 else 0
    let r := s0.hostSchedule w t (activationEntry sub slot c)
    let code := firstFault [r.1.code, bad]
    if code ≠ 0 then ({ code := code }, s)
    else
      match rest with
      | [] => r
      | c2 :: _ =>
        match r.2.secondActivation (ofBe r.1.value) (activationEntry sub slot c2) with
        | none => ({ code := 0x0801 }, s)
        | some s2 => (r.1, s2)

/-- IMAGE_ACTIVATE (R556). -/
def execImageActivate (w : Requester) (sub : Fin 7) (t : Target) (v : Int) (s : State) : Host.Outcome State Fault Refusal :=
  .next (s.hostWrite w 3 Obj.imageActivate sub (.num v) (fun x s => s.imageActivateEffect w sub t x.nat))

/-- What a subsystem does with its new image at SFN n. -/
def State.activateSub (s : State) (sub slot : Nat) (c : Option Carrier) : State :=
  if sub = 1 then s.setImg (fun x => { x with loading := x.loading ++ [1] })
  else if sub = 2 then (s.setImg (fun x => { x with loading := x.loading ++ [2] })).setGr (fun g => { g with hold := true })
  else if sub = 3 then s.belActivate
  else if sub = 4 then s.poolActivate slot
  else if sub = 5 then
    match c with
    | some c => { s with conv := s.conv.upd c (fun x => { x with actAt := some s.clk.sfn }) }
    | none => s
  else (s.setImg (fun x => { x with loading := x.loading ++ [6] })).tfeActivate slot

/-- IMAGE_ACTIVATION: an activation entry at its SFN, and the start of its probation (R556, R557). -/
def State.imageRun (s : State) (e : Entry) : State :=
  let sub := e.mem
  let slot := nth e.data 0 0
  let prev := match e.carrier with
    | some c => s.img.dsp.get c
    | none => s.activeSlot sub
  let p : Probation := { sub := sub, slot := slot, prev := prev, carrier := e.carrier
                         until_ := s.clk.sfn + s.u Obj.imageProbation }
  let s := s.setImg (fun x => { x with
    active := setNth x.active sub slot
    dsp := match e.carrier with
      | some c => x.dsp.set c slot
      | none => x.dsp
    unloaded := x.unloaded.filter (· != sub)
    probation := x.probation.filter (fun q => !(q.sub == sub && decide (q.carrier = e.carrier))) ++ [p] })
  let s := (s.put Obj.imageActive sub slot).measure sub slot
  let s := s.activateSub sub slot e.carrier
  s.log 0x1011 (d8 sub ++ d8 slot ++ d8 (carrierCode e.carrier))

/-- NEW_IMAGE_LOADED (R556, R317, R423): the CP, the Grotto or the filter engine runs on its new image. -/
def execNewImageLoaded (sub : Fin 7) (s : State) : Host.Outcome State Fault Refusal :=
  .next (if !s.img.loading.contains sub.val then s
    else
      let s := s.setImg (fun x => { x with loading := x.loading.filter (· != sub.val) })
      if sub.val = 2 then (s.setGr (fun g => { g with hold := false })).startUnits
      else if sub.val = 6 then s.tfeLoaded
      else s)

/-! ## Probation (R557) -/

/-- The activation of a subsystem that is on probation. -/
def State.onProbation (s : State) (sub : Nat) (c : Option Carrier) : Option Probation :=
  s.img.probation.find? (fun p => p.sub == sub && decide (p.carrier = c))

/-- An activation is no longer on probation. -/
def State.endProbation (s : State) (p : Probation) : State :=
  s.setImg (fun x => { x with probation := x.probation.filter (fun q => !(q.sub == p.sub && decide (q.carrier = p.carrier))) })

/-- PROBATION_PASS (R557): the slot becomes the boot slot. -/
def execProbationPass (sub : Fin 7) (c : Option Carrier) (s : State) : Host.Outcome State Fault Refusal :=
  .next (match s.onProbation sub c with
    | none => s
    | some p =>
      if s.clk.sfn < p.until_ then s
      else (s.endProbation p).setImg (fun x => { x with boot := setNth x.boot p.sub p.slot }))

/-- PROBATION_FAIL (R557): the subsystem fails its health check within its probation, and an activation of the slot
before is armed. -/
def execProbationFail (sub : Fin 7) (c : Option Carrier) (s : State) : Host.Outcome State Fault Refusal :=
  .next (match s.onProbation sub c with
    | none => s
    | some p =>
      if p.until_ ≤ s.clk.sfn then s
      else
        let s := (s.endProbation p).log 0x1012 (d8 p.sub ++ d8 p.sub)
        let n := s.firstSfn .loc 0
        (s.arm { activationEntry p.sub p.prev p.carrier with sfn := n, orig := n }).2)

end Sys2Proof.Machine
end

