-- ==== Sys2Proof/Machine/Views.lean ====
section
/-! DEFINITION. What a read returns (R502, R505): objects whose value is formed from the machine's tables, rings and
parts, and every other object's value in force. A TABLE's value is its row count and its rows (R502). -/

namespace Sys2Proof.Machine

/-- A TABLE value of some rows (R502). -/
def tableOf (rows : List (List Byte)) : List Byte := be 2 rows.length ++ rows.flatten

/-- Carrier of an object that has an instance per carrier (R9). -/
def carrierOf (o : Nat) : Carrier := if o / 256 % 16 = 2 then .b else .a

/-- Watts as a raw binary32, from microwatts. -/
def wattsRaw (uw : Int) : Int := (f32OfRat uw 1000000 : Nat)

/-- L of R103 at a symbol rate in GBd. -/
def cdLimitAt (rate : Nat) : Nat := min 160000 (60000 * 330 * 330 / (rate * rate) / 1000 * 1000)

/-- `CalSetState` (R442, R445): 2 both factory copies failed, 1 nothing learned, 0 both. -/
def State.calSetState (s : State) : Nat := if s.cal.factoryBad then 2 else if s.cal.learned.isEmpty then 1 else 0

/-- Converter of an object of the phase maps, slice states and slice terms: ADC objects first, DAC objects from 8 on
(R98). -/
def converterOf (o : Nat) : Nat := if o % 16 < 8 then o % 16 else o % 16 - 4

/-- Numbers of the line side. -/
def State.viewLine (s : State) (o m : Nat) : Option Int :=
  let c := carrierOf o
  if isObj o Obj.phaseMapAdc || isObj o Obj.phaseMapDac then some (nth (s.cv c (converterOf o)).phases m 0 : Nat)
  else if isObj o Obj.sliceStateAdc || isObj o Obj.sliceStateDac then some (((s.cv c (converterOf o)).slice m).st : Nat)
  else if isObj o Obj.cdLimit then some (cdLimitAt (s.u (on c Obj.symbolRate)) : Nat)
  else if isObj o Obj.plotOwner then
    let p := s.u (on c Obj.rxPlotCapacity)
    some (nth ((s.fr c).rxMap.owners p) m 0xFF : Nat)
  else none

/-- Numbers of power and domains (R469). -/
def State.viewPower (s : State) (o m : Nat) : Option Int :=
  if o = Obj.ledgerTotal then some (wattsRaw s.ledgerTotal)
  else if o = Obj.driftTerm then some (wattsRaw s.driftTerm)
  else if o = Obj.headroom then some (wattsRaw s.headroom)
  else if o = Obj.peakPower then some (wattsRaw s.pow.peak)
  else if o = Obj.ledgerByActivity then some (wattsRaw (ledgerSum (s.pow.ledger.filter (fun x => x.act == m))))
  else if o = Obj.domainState then some ((s.dom m).st.code : Nat)
  else none

/-- Numbers formed from the machine's parts. -/
def State.viewNum (s : State) (o m : Nat) : Option Int :=
  if o = Obj.sfnNow then some (s.clk.sfn : Nat)
  else if o = Obj.entriesFree then some (s.entriesFree : Nat)
  else if o = Obj.imageStatus then some (s.imageStatus m : Nat)
  else if o = Obj.tfeSettling then some (settling (s.tfeCode m) : Nat)
  else if o = Obj.calSetState then some (s.calSetState : Nat)
  else if o = Obj.reserveFree then some (s.mem.reserve : Nat)
  else if o = Obj.violationNext then some (s.aop.violNext : Nat)
  else if o = Obj.violationCount then some (s.aop.violCount : Nat)
  else if o = Obj.eventRecentNext then some (s.diag.ringNext : Nat)
  else if isObj o Obj.counterValue then some ((s.ctr ((o / 256 - 0xF7) * 256 + m)).word : Nat)
  else
    match s.viewLine o m with
    | some v => some v
    | none => s.viewPower o m

/-- Columns of R99 of a slice. -/
def trimRow (terms : List Int) (temp : Int) (sfn fails : Nat) : List Byte :=
  (List.range 6).flatMap (fun i => i16 (nth terms i 0)) ++ i16 temp ++ be 8 sfn ++ be 1 fails

/-- `SliceTrim` of a converter's slice (R99). -/
def State.sliceTrimRow (s : State) (c : Carrier) (k i : Nat) : List Byte :=
  let x := (s.cv c k).slice i
  trimRow x.terms x.temp x.trimSfn x.failRun

/-- `CalSelected`: a factory and a learned row (R446). -/
def State.calSelectedRows (s : State) : List (List Byte) :=
  let v := s.u Obj.calSelect
  let c : Carrier := if bit v 20 then .b else .a
  let p := bits v 19 16
  let key := sliceKey c (bits v 11 8) (bits v 7 0)
  let factory := if s.cal.factoryBad then be 1 0 ++ trimRow defaultTerms 0 0 0
    else be 1 1 ++ trimRow ((List.range 6).map (factoryTerm key p)) (pointTemp p) 0 0
  let learned := match s.learnedAt key p with
    | some x => be 1 1 ++ trimRow x.terms x.temp x.sfn 0
    | none => be 1 0 ++ trimRow defaultTerms 0 0 0
  [factory, learned]

/-- `CalPoint` of a carrier (R445). -/
def State.calPointRow (s : State) (c : Carrier) (p : Nat) : List Byte :=
  let n := (s.cal.learned.filter (fun x => x.point == p && x.key / 1024 == c.toNat)).length
  let st := s.pointStats c p
  be 2 n ++ be 4 (shownCount 32 st.1) ++ be 8 st.2

/-- `SlotInfo` of a key slot (R322). -/
def State.slotRow (s : State) (k : Nat) : List Byte :=
  let x := s.slot k
  let n := (s.grot.queue.filter (fun r => r.slot == k)).length
  let st := if x.erase.isSome then 2 else if n ≠ 0 then 1 else 0
  be 1 x.typ ++ be 1 st ++ be 2 x.gen ++ be 2 n ++ be 1 (b2n x.shadow.isSome)

/-- `SvcAccum` (R427). -/
def State.accumRow (s : State) (m : Nat) : List Byte :=
  let a := nth s.svc.accums m Accum.init
  be 4 (shownCount 32 a.count) ++ i64 a.sum ++ i16 a.lo ++ i16 a.hi ++ be 4 (shownCount 32 a.ovr) ++
    be 4 (shownCount 32 a.rec_) ++ be 8 a.sfn

/-- `SleepRefusals` (R452, R469). -/
def State.sleepRow (s : State) (d : Nat) : List Byte := ((s.dom d).refused ++ (s.dom d).aborted).flatMap (fun n => be 4 (shownCount 32 n))

/-- `SramBankInfo` of the selected bank (R494). -/
def State.sramRow (s : State) : List Byte :=
  let b := s.u Obj.sramSelect
  let x := s.bankInfo b
  be 1 (bankRegion b) ++ be 1 (bankDomain b) ++ be 4 (shownCount 32 x.corrected) ++ be 4 (shownCount 32 x.uncorr) ++
    be 4 (shownCount 32 x.parity) ++ be 4 (shownCount 32 (s.bankTrend b)) ++ be 1 x.state

/-- `RetentionInfo` (R494). -/
def State.retentionRow (s : State) (r : Nat) : List Byte :=
  let x := s.ret r
  be 1 x.dom ++ be 1 x.state ++ be 8 x.crc ++ be 4 (shownCount 32 x.lost)

/-- `RegionInfo` (R494). -/
def State.regionRow (s : State) (r : Nat) : List Byte :=
  let (f, n) := regionBlocks r
  let live := s.mem.recs.filter (fun x => x.region == r && s.liveRec x)
  let erases := ((List.range n).map (fun i => (s.block (f + i)).erases))
  be 2 f ++ be 2 n ++ be 1 (regionT r) ++ be 2 (s.erasedBlocks (f, n)).length ++ be 4 live.length ++
    be 8 (nth s.mem.nextSeq r 1 - 1) ++ be 4 (shownCount 32 (erases.foldl min (nth erases 0 0))) ++
    be 4 (shownCount 32 (maxNat erases))

/-- `BlockInfo` of the selected block (R494). -/
def State.blockRow (s : State) : List Byte :=
  let b := s.u Obj.blockSelect
  let x := s.block b
  be 1 (regionOf b) ++ be 1 x.state ++ be 2 x.physical ++ be 4 (shownCount 32 x.erases) ++ be 1 x.maxCorr ++
    be 2 (shownCount 16 x.progFails) ++ be 2 (shownCount 16 x.eraFails) ++ be 8 x.lastErase

/-- `SessionInfo` of the m-th open session (R520). -/
def State.sessionRows (s : State) (m : Nat) : List (List Byte) :=
  match s.aop.sessions[m]? with
  | none => []
  | some x =>
    let n := (s.aop.subs.filter (fun b => b.session == x.id)).length
    [be 4 x.id ++ be 1 (if x.proved then x.role else 0) ++ be 1 x.transport ++ be 16 x.source ++ be 2 x.port ++ be 1 n ++
      be 8 x.last]

/-- The entry that a member of a ring of 256 holds, of entries listed newest first. -/
def ringAt {α : Type} (l : List α) (next m : Nat) : Option α := l[(next + 511 - m) % 256]?

/-- `ViolationLog` (R511). -/
def State.violationRow (s : State) (m : Nat) : List Byte :=
  match ringAt s.aop.viol s.aop.violNext m with
  | none => List.replicate 38 0
  | some v =>
    be 1 v.asker.transport ++ be 16 v.asker.source ++ be 2 v.asker.port ++ be 4 v.asker.session ++ be 1 v.role ++
      be 1 v.op ++ be 2 v.obj ++ be 1 v.mem ++ be 2 v.code ++ be 8 v.sfn

/-- The core as it was last valid, words in order (R202). -/
def State.coreOctets (s : State) (c : Carrier) : List Byte := (List.range 3072).flatMap (fun k => be 4 (s.farWord c k))

/-- Octets of the line side. -/
def State.viewOctsLine (s : State) (o m : Nat) : Option (List Byte) :=
  let c := carrierOf o
  if isObj o Obj.eventEntry then some (s.entryOctets ((o / 256 - 0xE7) * 256 + m))
  else if isObj o Obj.sliceTrimAdc || isObj o Obj.sliceTrimDac then some (tableOf [s.sliceTrimRow c (converterOf o) m])
  else if isObj o Obj.cdRecord then some (tableOf [s.cdRecordRow c])
  else if isObj o Obj.rxOverheadCore then some (s.coreOctets c)
  else if isObj o Obj.lineAdvert then some (tableOf [s.lineAdvertRow c])
  else if isObj o Obj.farAdvert then some (tableOf [s.advert c])
  else if isObj o Obj.neighbour then some (tableOf [fit 42 (s.o o)])
  else if isObj o Obj.footpathReceive then some (tableOf (if (s.o o).isEmpty then [] else [s.o o]))
  else if isObj o Obj.calPoint then some (tableOf [s.calPointRow c m])
  else if o = Obj.calSelected then some (tableOf s.calSelectedRows)
  else if o = Obj.ldpcExponents then some (tableOf (ldpcTable m))
  else if o = Obj.ldpcDigest then some (ldpcDigest m)
  else none

/-- Octets formed from the machine's parts. -/
def State.viewOcts (s : State) (o m : Nat) : Option (List Byte) :=
  if o = Obj.quoteResult then s.grot.quote
  else if o = Obj.attestReg then some (nth s.grot.regs m (List.replicate 64 0))
  else if o = Obj.slotInfo then some (tableOf [s.slotRow m])
  else if o = Obj.slotPublic then some (if (s.slot m).typ = 4 ∨ (s.slot m).typ = 8 then (s.slot m).data else [])
  else if o = Obj.svcAccum then some (tableOf [s.accumRow m])
  else if o = Obj.sleepRefusals then some (tableOf [s.sleepRow m])
  else if o = Obj.sramBankInfo then some (tableOf [s.sramRow])
  else if o = Obj.retentionInfo then some (tableOf [s.retentionRow m])
  else if o = Obj.regionInfo then some (tableOf [s.regionRow m])
  else if o = Obj.blockInfo then some (tableOf [s.blockRow])
  else if o = Obj.sessionInfo then some (tableOf (s.sessionRows m))
  else if o = Obj.violationLog then some (tableOf [s.violationRow m])
  else if o = Obj.eventRecent then
    some (match ringAt s.diag.ring s.diag.ringNext m with
      | some r => r.bytes
      | none => List.replicate 64 0)
  else if o = Obj.snapshotData then
    some (match s.diag.snaps.find? (fun x => x.buffer == m) with
      | some x => s.snapOctets x
      | none => List.replicate 16448 0)
  else if o = Obj.groupMember then
    let x := s.member m
    some (tableOf [fit 16 x.serial ++ be 1 x.boot ++ be 8 (x.heard.getD 0)])
  else if o = Obj.domainSerials then
    some (tableOf ((List.range 32).map (fun i => slice (fit 512 (s.o o m)) (16 * i) 16)))
  else s.viewOctsLine o m

/-- The value of an object in force (R505). -/
def State.valueOf (s : State) (o m : Nat) : Val :=
  match dictRow o with
  | none => .octs []
  | some r =>
    if r.ty.numeric then .num ((s.viewNum o m).getD (s.i o m)) else .octs ((s.viewOcts o m).getD (s.o o m))

/-- Octets of an object's value in force. -/
def State.valueOctets (s : State) (o m : Nat) : List Byte :=
  match dictRow o with
  | none => []
  | some r => valBytes r.ty (s.valueOf o m)

end Sys2Proof.Machine
end

