-- ==== Sys2Proof/Machine/Aop.lean ====
section
/-! DEFINITION. AOP beside the path of a write: messages and forwards (R496 to R501, R504), reads and describes (R502,
R503, R505), sessions (R507 to R509, R587), subscriptions (R515, R516), and the saved image (R517 to R519). -/

namespace Sys2Proof.Machine

/-- AOP's part of the state changed. -/
def State.setAop (s : State) (f : Aop → Aop) : State := { s with aop := f s.aop }

/-! ## Sessions (R507 to R509, R587) -/

/-- A session ends, and its subscriptions with it (R509). -/
def State.endSession (s : State) (id : Nat) : State :=
  s.setAop (fun a => { a with
    sessions := a.sessions.filter (fun x => x.id != id)
    subs := a.subs.filter (fun b => b.session != id) })

/-- A session closes (R509): cause 0 close, 1 idle, 2 port change, 3 reset, 4 keep-alive, 5 host. -/
def State.closeSession (s : State) (id cause : Nat) : State :=
  if s.aop.sessions.any (fun x => x.id == id) then (s.endSession id).log 0x1003 (d32 id ++ d8 cause) else s

/-- Every session closes. -/
def State.closeAll (s : State) (cause : Nat) : State :=
  s.aop.sessions.foldl (fun s x => s.closeSession x.id cause) s

/-- Highest role that an entry of `RoleGrant` gives a slot, 0 for none (R508). -/
def State.grantOf (s : State) (slot : Nat) : Nat :=
  maxNat ((List.range 32).map (fun m =>
    let v := s.u Obj.roleGrant m
    if bits v 15 8 = slot ∧ v ≠ 0 then bits v 2 0 else 0))

/-- Role that a key slot grants (R508). -/
def State.slotRole (s : State) (slot : Nat) : Nat :=
  if slot = 2 then 4 else if slot = 3 then 3 else if 32 ≤ slot then s.grantOf slot else 0

/-- The recovery UART grants Owner with no proof: slot 3 is empty and no entry of `RoleGrant` grants Owner (R508). -/
def State.uartOwner (s : State) (w : Requester) (slot : Nat) : Bool :=
  w.transport == 4 && slot == 0 && (s.slot 3).typ == 0 &&
    (List.range 32).all (fun m => s.u Obj.roleGrant m == 0 || bits (s.u Obj.roleGrant m) 2 0 != 3)

/-- An open, proof or close is refused: violation log with Op 00h, 1002h where it is an open or a proof, and the reply
(R507, R587). -/
def State.refuseSession (s : State) (w : Requester) (typ slot code : Nat) : State :=
  let s := s.violate w 0 0 0 code
  let s := if typ = 6 then s.log 0x1002 (d8 w.transport ++ d8 slot ++ d16 code) else s
  s.sendResponse w (aopMsg typ 0 w.session w.sequence code [])

/-- An open (R507 steps 1 and 2): a session and its EngineNonce, or 0801h for a 33rd. -/
def State.openSession (s : State) (w : Requester) (role slot : Nat) (nonce : List Byte) : State :=
  if 32 ≤ s.aop.sessions.length then s.refuseSession { w with session := 0 } 6 slot 0x0801
  else
    let n := s.freshNum 1 (2 ^ 32 - 1) (fun i => s.aop.sessions.any (fun x => x.id == i))
    let id := n.1.getD 0
    let r := n.2.random 32
    let owner := r.2.uartOwner w slot
    let x : Session :=
      { id := id, transport := w.transport, source := w.source, port := w.port, requested := role, keySlot := slot
        hostNonce := nonce, engineNonce := r.1, proved := owner, role := if owner then 3 else 0
        opened := s.clk.sfn, last := s.clk.sfn, highSeq := 0, kept := [] }
    let s := r.2.setAop (fun a => { a with sessions := a.sessions ++ [x] })
    let s := if owner then s.log 0x1001 (d32 id ++ d8 3 ++ d8 w.transport ++ d8 slot) else s
    s.sendTo w (aopMsg 6 0 id w.sequence 0 r.1)

/-- SESSION_OPEN (R507): Type 05h arrives. -/
def execSessionOpen (w : Requester) (role slot : BitVec 8) (nonce : BitVec 256) (s : State) :
    Host.Outcome State Fault Refusal :=
  .next (s.openSession w role.toNat slot.toNat (be 32 nonce.toNat))

/-- What a session's proof signs (R507 step 3). -/
def State.proofText (s : State) (x : Session) : List Byte :=
  ascii "TH6400 AOP" ++ fit 16 (s.o Obj.deviceSerial) ++ be 4 x.id ++ x.hostNonce ++ x.engineNonce ++ be 1 x.requested

/-- Status of a proof, in the order of R507. -/
def State.proofStatus (s : State) (x : Session) (sig : List Byte) : Nat :=
  let k := s.slot x.keySlot
  if k.typ ≠ 4 then 0x0701
  else if !Config.verdict Config.falconVerify [k.data, s.proofText x, sig] then 0x0701
  else if s.slotRole x.keySlot < x.requested then 0x0201
  else 0

/-- A proof (R507 steps 3 and 4). The Grotto is woken for the verification; a wake the Allotment refuses ends it with
0402h (R453). -/
def State.prove (s : State) (w : Requester) (sig : List Byte) : State :=
  if s.badSession w then s.refuseSession w 6 0 0x0201
  else
    match s.session? w with
    | none => s.refuseSession w 6 0 0x0201
    | some x =>
      let g := s.accessDom Dn.grt
      if g.1 ≠ 0 then g.2.refuseSession w 6 x.keySlot 0x0402
      else
        let s := g.2
        let code := s.proofStatus x sig
        if code ≠ 0 then s.refuseSession w 6 x.keySlot code
        else
          let up := fun (y : Session) =>
            if y.id = x.id then { y with proved := true, role := y.requested, last := s.clk.sfn } else y
          let s := s.setAop (fun a => { a with sessions := a.sessions.map up })
          let s := s.log 0x1001 (d32 x.id ++ d8 x.requested ++ d8 w.transport ++ d8 x.keySlot)
          s.sendResponse w (aopMsg 6 0 w.session w.sequence 0 [])

/-- PROOF (R507): Type 07h arrives with its 1,280-octet signature. -/
def execProof (w : Requester) (sig : List Byte) (s : State) : Host.Outcome State Fault Refusal := .next (s.prove w sig)

/-- A close (R509, R587): answered by Type 02h. -/
def State.closeBy (s : State) (w : Requester) : State :=
  if s.badSession w || w.session == 0 then s.refuseSession w 2 0 0x0201
  else (s.closeSession w.session 0).sendTo w (aopMsg 2 0 w.session w.sequence 0 [])

/-- CLOSE (R509): Type 08h arrives. -/
def execClose (w : Requester) (s : State) : Host.Outcome State Fault Refusal := .next (s.closeBy w)

/-- SESSION_IDLE (R509): `SessionIdle` has passed with no message. -/
def execSessionIdle (id : BitVec 32) (s : State) : Host.Outcome State Fault Refusal :=
  .next (match s.aop.sessions.find? (fun x => x.id == id.toNat) with
    | none => s
    | some x => if x.last + s.u Obj.sessionIdle * sfPerSecond ≤ s.clk.sfn then s.closeSession x.id 1 else s)

/-- UNPROVED_SESSION_DISCARD (R507): 10 s have passed without a proof. The spec gives the discard no status for its
1002h; the field is free (log entry 1). -/
def execUnprovedSessionDiscard (id : BitVec 32) (s : State) : Host.Outcome State Fault Refusal :=
  .next (match s.aop.sessions.find? (fun x => x.id == id.toNat) with
    | none => s
    | some x =>
      if !x.proved ∧ x.opened + 10 * sfPerSecond ≤ s.clk.sfn then
        let r := (s.endSession x.id).fresh 16
        r.2.log 0x1002 (d8 x.transport ++ d8 x.keySlot ++ d16 r.1)
      else s)

/-- What a write of `SessionClose` does (R509): 0301h for a session that is not open. -/
def State.sessionCloseEffect (s : State) (id : Nat) : Res × State :=
  if s.aop.sessions.any (fun x => x.id == id) then ({}, s.closeSession id 5) else ({ code := 0x0301 }, s)

/-- SESSION_CLOSE (R509). -/
def execSessionClose (w : Requester) (v : Int) (s : State) : Host.Outcome State Fault Refusal :=
  .next (s.hostWrite w 2 Obj.sessionClose 0 (.num v) (fun x s => s.sessionCloseEffect x.nat))

/-- A changed `AopPort` closes every session (R509). -/
def State.portChange (s : State) (old : Nat) : State := if s.u Obj.aopPort = old then s else s.closeAll 2

/-- AOP_PORT_WRITE (R509): the sessions close after the response is sent. -/
def execAopPortWrite (w : Requester) (v : Int) (s : State) : Host.Outcome State Fault Refusal :=
  .next ((s.hostWrite w 2 Obj.aopPort 0 (.num v) (storeEffect Obj.aopPort 0)).portChange (s.u Obj.aopPort))

/-! ## Reads and describes (R502, R503, R505) -/

/-- Largest message of a transport (R496). -/
def transportLimit (t : Nat) : Nat := if t ≤ 1 then 65527 else 4096

/-- Octets of a value that still fit the response of an operation: what the transport takes less header, the operation
responses formed so far and the headers of this and the following operations. -/
def State.room (s : State) (w : Requester) : Nat :=
  let q := s.aop.queue.find? (fun q => decide (q.asker = w))
  let used := match q with
    | some q => q.resp.flatten.length + 16 * q.left.length
    | none => 16
  (transportLimit w.transport - 20 - used) / 4 * 4

/-- Status of a read, in the order of R15. -/
def State.readStatus (s : State) (w : Requester) (o m : Nat) : Nat :=
  match dictRow o with
  | none => 0x0101
  | some r =>
    if s.recovering && !servedInRecovery o then 0x0101
    else if m < r.memLo || r.memHi < m then 0x0102
    else if r.acc = .wo then 0x0203
    else if r.rd ≠ 255 ∧ s.roleOf w < r.rd then 0x0201
    else if o = Obj.quoteResult ∧ s.grot.quote.isNone then 0x0801
    else 0

/-- What reading an object does to it: a read of `PeakPower`, `SopRateMax` or `SlotsPeak` clears it (R130, R196,
R469). -/
def State.readEffect (s : State) (o : Nat) : State :=
  if o = Obj.peakPower then { s with pow := { s.pow with peak := 0 } }
  else if o = Obj.slotsPeak ∨ isObj o Obj.sopRateMax then s.put o 0 0
  else s

/-- A read (R505): the value in force, from Offset on where it is OCTETS or TABLE, as far as it fits (R502). -/
def State.readOp (s : State) (w : Requester) (o m offset : Nat) : State :=
  if s.badSession w then s.refuseMsg w 0x0201
  else
    let code := s.readStatus w o m
    if code ≠ 0 then s.refuse w 1 o m code
    else
      let v := s.valueOctets o m
      let part := match dictRow o with
        | some r => if r.ty = .octets ∨ r.ty = .table then (v.drop offset).take (s.room w) else v
        | none => v
      (s.readEffect o).accept w 1 0 o m v.length [] part

/-- AOP_READ (R505). -/
def execAopRead (w : Requester) (o : BitVec 16) (m : BitVec 8) (offset : BitVec 32) (s : State) :
    Host.Outcome State Fault Refusal := .next (s.readOp w o.toNat m.toNat offset.toNat)

/-- A describe (R503): type, access, roles, members. -/
def State.describeOp (s : State) (w : Requester) (o m : Nat) : State :=
  if s.badSession w then s.refuseMsg w 0x0201
  else
    match dictRow o with
    | none => s.refuse w 6 o m 0x0101
    | some r =>
      if s.recovering && !servedInRecovery o then s.refuse w 6 o m 0x0101
      else if m < r.memLo || r.memHi < m then s.refuse w 6 o m 0x0102
      else
        let v := be 1 r.ty.code ++ be 1 r.acc.code ++ be 1 r.rd ++ be 1 r.wr ++ be 2 (r.memHi + 1) ++ be 2 0
        s.accept w 6 0 o m 8 [] v

/-- DESCRIBE (R503). -/
def execDescribe (w : Requester) (o : BitVec 16) (m : BitVec 8) (s : State) : Host.Outcome State Fault Refusal :=
  .next (s.describeOp w o.toNat m.toNat)

/-! ## Subscriptions (R515, R516) -/

/-- Status of a subscription, in the order of R15. In mode 2 Object is a mask and names no object. -/
def State.subscribeStatus (s : State) (w : Requester) (mode o m period : Nat) : Nat :=
  let obj := if mode = 2 then 0 else s.readStatus w o m
  firstFault [if obj = 0x0801 then 0 else obj, if w.session = 0 then 0x0201 else 0, if period = 0 then 0x0303 else 0,
    if 2 < mode then 0x0301 else 0,
    if 64 ≤ s.aop.subs.length ∨ 16 ≤ (s.aop.subs.filter (fun b => b.session == w.session)).length then 0x0801 else 0]

/-- A subscription is made (R515). -/
def State.subscribeOp (s : State) (w : Requester) (mode o m period : Nat) : State :=
  if s.badSession w then s.refuseMsg w 0x0201
  else
    let code := s.subscribeStatus w mode o m period
    if code ≠ 0 then s.refuse w 4 o m code
    else
      let r := s.freshNum 0 256 (fun n => s.aop.subs.any (fun b => b.num == n))
      let n := r.1.getD 0
      let b : Sub := { num := n, session := w.session, mode := mode, obj := o, mem := m, period := period, last := []
                       sent := s.clk.sfn, seq := 0 }
      (r.2.setAop (fun a => { a with subs := a.subs ++ [b] })).accept w 4 0 o m 2 [] (be 2 n)

/-- SUBSCRIBE (R515). -/
def execSubscribe (w : Requester) (mode : BitVec 8) (o : BitVec 16) (m : BitVec 8) (period : BitVec 32) (s : State) :
    Host.Outcome State Fault Refusal := .next (s.subscribeOp w mode.toNat o.toNat m.toNat period.toNat)

/-- A subscription ends: its number stands in Member, Object is 0000h (R515). -/
def State.unsubscribeOp (s : State) (w : Requester) (n : Nat) : State :=
  if s.badSession w then s.refuseMsg w 0x0201
  else if s.aop.subs.any (fun b => b.num == n && b.session == w.session) then
    (s.setAop (fun a => { a with subs := a.subs.filter (fun b => b.num != n) })).accept w 5 0 0 n 0 [] []
  else s.refuse w 5 0 n 0x0102

/-- UNSUBSCRIBE (R515). -/
def execUnsubscribe (w : Requester) (n : BitVec 8) (s : State) : Host.Outcome State Fault Refusal :=
  .next (s.unsubscribeOp w n.toNat)

/-- Subscriptions at a local boundary (R515): on change, when the value differs from the last one sent and the last is a
Period ago; periodic, every Period. A dropped notification is logged at most once per second (R516). -/
def State.subsBoundary (s : State) : State :=
  let s := s.aop.subs.foldl (fun (s : State) b =>
    let v := s.valueOctets b.obj b.mem
    let due := decide (b.sent + b.period ≤ s.clk.sfn)
    if b.mode = 0 ∧ v ≠ b.last ∧ (due ∨ b.seq = 0) then s.notify b v
    else if b.mode = 1 ∧ due then s.notify b v
    else s) s
  match s.aop.dropped with
  | none => s
  | some n => (s.setAop (fun a => { a with dropped := none })).logSecond 0x1008 0 0 (d16 n)

/-! ## Messages (R496 to R501, R504) -/

/-- One operation of a message (R500), and the octets after it: none where the lengths do not agree (R501). -/
def parseOp (b : List Byte) : Option (AopOp × List Byte) :=
  if b.length < 16 then none
  else
    let op := ofBe (slice b 0 1)
    let len := ofBe (slice b 8 2)
    let t := if op = 3 then 12 else 0
    let full := 16 + t + len + padding len
    if b.length < full ∨ op = 0 ∨ 6 < op then none
    else
      some ({ op := op, form := ofBe (slice b 1 1), obj := ofBe (slice b 2 2), mem := ofBe (slice b 4 1)
              offset := ofBe (slice b 12 4), sfn := if op = 3 then ofBe (slice b 16 8) else 0
              offW := if op = 3 then ofBe (slice b 24 4) else 0, value := slice b (16 + t) len }, b.drop full)

/-- The operations of a message: none where they do not fill it exactly. -/
def parseOps : Nat → List Byte → Option (List AopOp)
  | 0, b => if b.isEmpty then some [] else none
  | n + 1, b =>
    match parseOp b with
    | none => none
    | some (x, rest) =>
      match parseOps n rest with
      | none => none
      | some l => some (x :: l)

/-- A message for another device (R498): over the MOC of the carrier whose far engine Target names. -/
def State.forward (s : State) (w : Requester) (target : Nat) (b : List Byte) : State :=
  match [Carrier.a, Carrier.b].find? (fun c => (s.fr c).core.length != 0 && bits (s.farWord c 4) 31 19 == target) with
  | none => s.refuseMsg w 0x0801
  | some c =>
    if 4096 < b.length then s.refuseMsg w 0x0302
    else if !s.lineUp c then s.refuseMsg w 0x0801
    else (s.sendMoc c 1 b).setAop (fun a => { a with forwards := a.forwards ++ [(c.toNat, w)] })

/-- A response, progress, notification or open reply that comes back over a carrier's MOC goes to the sender of the
request it answers (R498). -/
def State.backward (s : State) (c typ session sequence : Nat) (b : List Byte) : State :=
  match s.aop.forwards.find? (fun f => f.1 == c && (f.2.session == session || typ == 6) && f.2.sequence == sequence) with
  | none => s
  | some f =>
    let s := if typ = 3 ∨ typ = 4 then s else s.setAop (fun a => { a with forwards := a.forwards.erase f })
    s.sendTo f.2 b

/-- A request of Type 01h enters the Gatehouse queue (R504, R509). -/
def State.takeRequest (s : State) (w : Requester) (ops : Option (List AopOp)) : State :=
  match ops with
  | none => s.refuseMsg w 0x0302
  | some l =>
    let x := s.session? w
    let kept := if w.session = 0 then none
      else x.bind (fun x => x.kept.find? (fun k => k.1 == w.sequence))
    let high := if w.session = 0 then 0 else (x.map (·.highSeq)).getD 0
    let up := fun (y : Session) =>
      if y.id = w.session ∧ w.session ≠ 0 then
        { y with last := s.clk.sfn, highSeq := max y.highSeq w.sequence }
      else y
    let s' := s.setAop (fun a => { a with sessions := a.sessions.map up })
    match kept with
    | some k => s'.sendTo w k.2
    | none =>
      if w.session ≠ 0 ∧ s.aop.queue.any (fun q => decide (q.asker = w)) then s'
      else if w.sequence + 16 < high then s'.refuseMsg w 0x0801
      else if 256 ≤ s.aop.queue.length then s'.refuseMsg w 0x0801
      else if l.isEmpty then s'.sendResponse w (aopMsg 2 0 w.session w.sequence 0 [])
      else s'.setAop (fun a => { a with queue := a.queue ++ [{ asker := w, left := l, resp := [] }] })

/-- A message whose frame arrived whole (R499 to R509, R587). -/
def State.takeMessage (s : State) (t : Fin 5) (source port : Nat) (b : List Byte) : State :=
  let typ := ofBe (slice b 1 1)
  let target := ofBe (slice b 4 2)
  let count := ofBe (slice b 6 2)
  let w : Requester := { transport := t, source := source, port := port, session := ofBe (slice b 8 4)
                         sequence := ofBe (slice b 12 4) }
  let body := b.drop 20
  let s := s.occur 0x1082 { master := some (masterOf w), cls := some 2 }
  if ofBe (slice b 0 1) ≠ 1 ∨ ofBe (slice b 2 2) ≠ b.length ∨ transportLimit t < b.length ∨ typ = 0 ∨ 8 < typ then
    s.refuseMsg w 0x0302
  else if typ = 2 ∨ typ = 3 ∨ typ = 4 ∨ typ = 6 then
    (if t = 2 ∨ t = 3 then s.backward (t.val - 2) typ w.session w.sequence b else s)
  else if target ≠ 0xFFFF ∧ target ≠ s.u Obj.deviceAddress then s.forward w target b
  else if typ = 1 then
    (if 64 < count then s.refuseMsg w 0x0302
    else
      match parseOps count body with
      | none => s.refuseMsg w 0x0302
      | some l => if s.badSession w then s.refuseMsg w 0x0201 else s.takeRequest w (some l))
  else if typ = 5 then
    (if count ≠ 0 ∨ body.length ≠ 36 then s.refuseMsg w 0x0302
    else s.openSession { w with session := 0 } (ofBe (slice body 0 1)) (ofBe (slice body 1 1)) (slice body 4 32))
  else if typ = 7 then
    (if count ≠ 0 ∨ body.length ≠ 1280 then s.refuseMsg w 0x0302 else s.prove w body)
  else if count ≠ 0 ∨ body.length ≠ 0 then s.refuseMsg w 0x0302
  else s.closeBy w

/-- AOP_MESSAGE (R496, R501, R504): a message comes from MG, MOC or UART, in recovery from the UART alone (R304). A UART
frame whose CRC fails, and a message too
short for a header, are discarded; the UART counts them. -/
def execAopMessage (t : Fin 5) (source : BitVec 128) (port : BitVec 16) (octets : List Byte) (crcOk : Bool) (s : State) :
    Host.Outcome State Fault Refusal :=
  .next (if t = 4 ∧ crcOk = false then s.bump Obj.uartFrameErrors
    else if s.recovering ∧ t ≠ 4 then s
    else if octets.length < 20 then (if t = 4 then s.bump Obj.uartFrameErrors else s)
    else s.takeMessage t source.toNat port.toNat octets)

/-! ## Cancelling an entry (R47, R513) -/

/-- A coordinated entry whose commit point has passed. -/
def State.committed (s : State) (e : Entry) : Bool := e.coord && decide (e.sfn ≤ s.clk.sfn + 4)

/-- What a write of `CancelEntry` does: every entry of the write that made the named one is cancelled, at both ends
where it is coordinated; 0301h for a free entry, 0502h past a commit point, 0201h for an Operator on an engine-generated
entry (R63). -/
def State.cancelEffect (s : State) (w : Requester) (n : Nat) : Res × State :=
  match s.clk.entries.find? (fun e => e.num == n) with
  | none => ({ code := 0x0301 }, s)
  | some e =>
    let g := s.writeGroup e
    let code := firstFault [if 2 ≤ e.src ∧ s.roleOf w < 2 then 0x0201 else 0, if g.any s.committed then 0x0502 else 0]
    if code ≠ 0 then ({ code := code }, s)
    else
      let asker := g.findSome? (·.asker)
      let s := g.foldl (fun (s : State) x =>
        let s := if x.coord then s.sendCancel x else s
        let s := (s.cancelEntry x).entryGone x
        match x.carrier with
        | some c => s.loadingFailed c x
        | none => s) s
      ({}, match asker with
        | some a => s.refuse a (opOf e.obj) e.obj e.mem 0x0502
        | none => s)

/-- CANCEL_ENTRY (R47). -/
def execCancelEntry (w : Requester) (n : Int) (s : State) : Host.Outcome State Fault Refusal :=
  .next (s.hostWrite w 2 Obj.cancelEntry 0 (.num n) (fun x s => s.cancelEffect w x.nat))

/-! ## The saved image (R517 to R519) -/

/-- Objects that no dictionary record holds though they are RW or RWS (R517). -/
def unsavedBases : List Nat :=
  [Obj.calSelect, Obj.sramSelect, Obj.blockSelect, Obj.forceRef, Obj.laneTest, Obj.lanePattern, Obj.keepAlive,
   Obj.imageActivate, Obj.snapshotTrigger, Obj.injectTrigger, Obj.laneInject, Obj.sramRetire, Obj.blockRetire,
   Obj.retentionRetire]

/-- A saved object (R517). -/
def savedObject (o : Nat) : Bool :=
  (match dictRow o with
    | some r => decide (r.acc = .rw) || decide (r.acc = .rws)
    | none => false) && !unsavedBases.any (isObj o)

/-- Keys of a layer of values, each with no value. -/
def Store.keys (x : Store) : List Nat := x.nums.map (·.1) ++ x.octs.map (·.1)

/-- Keys of saved objects that some layer holds, rising, each once. -/
def State.savedKeys (s : State) : List Nat :=
  let l := (s.live.keys ++ s.user.keys).filter (fun k => savedObject (k / 256))
  (l.foldl (fun a k => assocSet a k ()) []).map (·.1)

/-- A key's value in force differs from the factory default. -/
def State.offFactory (s : State) (k : Nat) : Bool :=
  s.numAt k != factoryNum k || s.octsAt k != factoryOcts k

/-- The type of an object. -/
def typeOf (o : Nat) : OType :=
  match dictRow o with
  | some r => r.ty
  | none => .octets

/-- One entry of the NV dictionary record (R517). -/
def State.savedEntry (s : State) (k : Nat) : List Byte :=
  let ty := typeOf (k / 256)
  let v := if ty.numeric then encodeNum ty (s.numAt k) else s.octsAt k
  be 2 (k / 256) ++ be 1 (k % 256) ++ be 1 ty.code ++ be 2 v.length ++ v ++ List.replicate (padding v.length) 0

/-- Payload of the NV dictionary record (R517). -/
def State.dictPayload (s : State) : List Byte :=
  let l := s.savedKeys.filter s.offFactory
  be 4 l.length ++ l.flatMap s.savedEntry

/-- The entries of a payload: object, member, value octets. -/
def dictParse : Nat → List Byte → List (Nat × Nat × List Byte)
  | 0, _ => []
  | n + 1, b =>
    if b.length < 6 then []
    else
      let len := ofBe (slice b 4 2)
      (ofBe (slice b 0 2), ofBe (slice b 2 1), slice b 6 len) :: dictParse n (b.drop (6 + len + padding len))

/-- The values that a standing record holds. -/
def dictValues (payload : List Byte) : List (Nat × Nat × List Byte) := dictParse (ofBe (slice payload 0 4)) (payload.drop 4)

/-- A value enters the user layer (R18). -/
def State.putUser (s : State) (o m : Nat) (v : Val) : State :=
  let u := match v with
    | .num n => { s.user with nums := assocSet s.user.nums (okey o m) n }
    | .octs b => { s.user with octs := assocSet s.user.octs (okey o m) b }
  { s with user := u }

/-- The user layer holds the values of a record's payload. -/
def State.takeUser (s : State) (payload : List Byte) : State :=
  (dictValues payload).foldl (fun (s : State) x =>
    match dictRow x.1 with
    | none => s
    | some r =>
      match normalise r x.1 (.octs x.2.2) with
      | none => s
      | some v => s.putUser x.1 x.2.1 v) { s with user := { nums := [], octs := [] } }

/-- What a write of `DictSave` does (R517): it waits for the marker of the record taken at the next boundary. -/
def State.dictSaveEffect (s : State) (w : Requester) : Res × State :=
  if s.aop.saving.isSome ∨ s.aop.factorySave.isSome then ({ code := 0x0801 }, s)
  else ({ wait := true }, s.setAop (fun a => { a with saving := some w, saveTaken := false }))

/-- DICT_SAVE (R517). -/
def execDictSave (w : Requester) (v : Int) (s : State) : Host.Outcome State Fault Refusal :=
  .next (s.hostWrite w 2 Obj.dictSave 0 (.num v) (fun _ s => s.dictSaveEffect w))

/-- What a write of `DictRestore` does (R519): 0601h where no record stands. -/
def State.dictRestoreEffect (s : State) (w : Requester) : Res × State :=
  if (s.standing 2 0).isNone then ({ code := 0x0601 }, s)
  else ({}, s.setAop (fun a => { a with restore := some (true, w) }))

/-- DICT_RESTORE (R519). -/
def execDictRestore (w : Requester) (v : Int) (s : State) : Host.Outcome State Fault Refusal :=
  .next (s.hostWrite w 2 Obj.dictRestore 0 (.num v) (fun _ s => s.dictRestoreEffect w))

/-- Status of a record write that ICE or its region refuses: 0402h for the wake, 0801h for the room. -/
def recordStatus (r : Nat) : Nat := if r = 9 then 0x0801 else 0x0402

/-- What a write of `DictFactory` does (R519): an empty record is committed first, and the write waits for it. -/
def State.dictFactoryEffect (s : State) (w : Requester) : Res × State :=
  if s.aop.saving.isSome ∨ s.aop.factorySave.isSome then ({ code := 0x0801 }, s)
  else
    let r := s.writeRecord 2 2 0 [] (some w)
    if r.1 ≠ 0 then ({ code := recordStatus r.1 }, r.2)
    else ({ wait := true }, r.2.setAop (fun a => { a with factorySave := some w }))

/-- DICT_FACTORY (R519). -/
def execDictFactory (w : Requester) (v : Int) (s : State) : Host.Outcome State Fault Refusal :=
  .next (s.hostWrite w 2 Obj.dictFactory 0 (.num v) (fun _ s => s.dictFactoryEffect w))

/-- The values of a `DictSave` are taken at the first local boundary after its acceptance (R517). -/
def State.saveBoundary (s : State) : State :=
  match s.aop.saving with
  | none => s
  | some w =>
    if s.aop.saveTaken then s
    else
      let r := s.writeRecord 2 2 0 s.dictPayload (some w)
      if r.1 = 0 then r.2.setAop (fun a => { a with saveTaken := true })
      else (r.2.setAop (fun a => { a with saving := none })).refuse w 2 Obj.dictSave 0 (recordStatus r.1)

/-- The marker of a dictionary record is programmed (R517, R519): the write is answered, and the record's values are the
user image. -/
def State.dictCommitted (s : State) (payload : List Byte) (seq : Nat) (asker : Option Requester) : State :=
  let s := (s.takeUser payload).put Obj.dictImageState 0 1
  match asker with
  | none => s
  | some w =>
    if s.aop.factorySave = some w then
      (s.setAop (fun a => { a with factorySave := none, restore := some (false, w) })).accept w 2 0 Obj.dictFactory 0 0 [] []
    else if s.aop.saving = some w then
      let s := (s.setAop (fun a => { a with saving := none, saveTaken := false })).put Obj.lastDictSave 0 s.clk.sfn
      let s := s.log 0x1005 (d32 (dictValues payload).length ++ d64 seq)
      s.accept w 2 0 Obj.dictSave 0 0 [] []
    else s

end Sys2Proof.Machine
end

