-- ==== Sys2Proof/Machine/Relock.lean ====
section
/-! DEFINITION. Re-lock and loading resets (R159, R164), and the changes that return both directions of a carrier to the
base loading (R162, R588). -/

namespace Sys2Proof.Machine

/-- Clients that no longer fit the base loading become waiting (R152, R159), and the direction takes it. -/
def State.toBase (s : State) (c : Carrier) (d : Dir) : State :=
  let m := s.mapOf c d
  let s := s.applyLoading c d (s.baseLoading c)
  let p := (s.loading c d).plots
  let out := s.shedFor m p
  let s := s.setLd c (fun l => if d = .rx then { l with held := [], lastForce := none, resetAt := none } else l)
  if out.isEmpty then s.setMap c d { m with plots := p }
  else
    let new : CMap := { m with carried := maskOf (m.clients.filter (fun x => !out.contains x)), gen := nextGen m.gen, plots := p }
    let s := (s.setMap c d new).put (on c (mapGenObj d)) 0 new.gen
    let s := s.logC c 0x7004 (d8 (dirOctet d) ++ d8 m.gen ++ d8 new.gen ++ d64 0 ++ d64 (maskOf out))
    if d = .rx then
      let s := s.setFr c (fun f => { f with waiting := f.waiting ++ out })
      out.foldl (fun s x => s.egressFault c x) s
    else s

/-- A loading reset at its SFN (R159): 501Ch with its target and path, 0 MOC, 1 footpath. -/
def State.resetRun (s : State) (c : Carrier) (e : Entry) : State := (s.toBase c e.dir).logC c 0x501C (d64 e.sfn ++ d8 e.key ++ d8 (dirOctet e.dir))

/-- The entry of a loading reset: a local loading change on the count of its direction (R159). -/
def resetEntry (c : Carrier) (d : Dir) (n path : Nat) : Entry :=
  { Entry.base .loadingChange n with
    coord := false, dir := d, carrier := some c, count := countOf c d, key := path, val := .num 1 }

/-- An entry is a loading reset. -/
def Entry.isReset (e : Entry) : Bool := decide (e.kind = .loadingChange) && !e.coord

/-- A loading reset enters the table: a swap of its SF gives way, another conflict moves it on, a full table drops it
(R51, R53, R54, R57). -/
def State.enterReset (s : State) (e : Entry) : State := ((s.yieldSwaps e).arm e).2

/-- The receiver requests a loading reset, unless one it has requested is still to come (R159): over the MOC while the
reverse direction has frame lock, else over the footpath. -/
def State.requestReset (s : State) (c : Carrier) : State :=
  let waits : Bool := match (s.ld c).resetAt with
    | some t => decide (s.clk.sfn ≤ t)
    | none => false
  if waits then s
  else
    let first := s.leadSfn c
    let n := (firstFrom first searchSpan (fun n => s.fits (resetEntry c .rx n 0))).getD first
    let moc := s.u (on c Obj.remoteDefect) == 0
    let s := s.setLd c (fun x => { x with resetAt := some n })
    let s := if moc then s.sendMoc c 3 (be 8 n) else s.footQueue c { typ := 4, dest := 0xFFFF, data := be 8 n }
    s.enterReset (resetEntry c .rx n (b2n (!moc)))

/-- Candidate loadings in their order (R159): the one last in force, the changes whose SFN passed meanwhile, the base. -/
def State.candidates (s : State) (c : Carrier) (last : Loading) : List Loading :=
  let passed := (s.ld c).held.filter (fun h => decide (s.instantOf (.rx c) h.1 0 ≤ s.now))
  let order := passed.mergeSort (fun a b => decide (a.1 ≤ b.1))
  last :: (order.map (·.2) ++ [s.baseLoading c])

/-- RELOCK_CANDIDATE: the receiver tracks and has tried a candidate for 2 SF without frame lock; it tries the next, and
after the last asks for a loading reset (R159). -/
def execRelockCandidate (c : Carrier) (s : State) : Host.Outcome State Fault Refusal :=
  let l := s.ld c
  let first := l.lastForce.isNone
  let from_ := if first then (s.fr c).unlockedAt else l.candFrom
  .next (if s.lock c ≠ 7 ∨ s.u (on c Obj.frameLock) = 1 ∨ s.clk.sfn < from_ + 2 then s
    else
      let last := l.lastForce.getD (s.loading c .rx)
      let list := s.candidates c last
      let k := (if first then 0 else l.cand) + 1
      match list[k]? with
      | some x =>
        let s := s.setLd c (fun l => { l with lastForce := some last, cand := k, candFrom := s.clk.sfn })
        s.setLoading c .rx x
      | none =>
        let s := s.setLd c (fun l => { l with lastForce := some last, cand := 0, candFrom := s.clk.sfn })
        let s := (s.setLoading c .rx last).logC c 0x501B (d8 list.length ++ d8 0 ++ d8 0)
        s.requestReset c)

/-- LOADING_RESET: the transmitter enters a local loading change to the base loading for the SFN named (R159). -/
def execLoadingReset (c : Carrier) (n : BitVec 64) (foot : Bool) (s : State) : Host.Outcome State Fault Refusal :=
  .next (s.enterReset (resetEntry c .tx n.toNat (b2n foot)))

/-- A written `SubcarrierCount` or `SymbolRate` at its SFN (R162, R588): both directions return to the base loading and
the receiver acquires again (R121); `setting` is 0 for the rate, 1 for the count. -/
def State.gridRun (s : State) (c : Carrier) (setting v : Nat) : State :=
  let o := if setting = 0 then Obj.symbolRate else Obj.subcarrierCount
  let old := s.u (on c o)
  if old = v then s
  else
    let s := s.put (on c o) 0 v
    ((s.toBase c .rx).toBase c .tx).restartAcq c setting old v .warmPilots

end Sys2Proof.Machine
end

