-- ==== Sys2Proof/Machine/Effects.lean ====
section
/-! DEFINITION. What a write of any object does once the Gatehouse lets it pass: the owning chapter's effect, by object
(R505, R510, R512). Rows of their own and the general AOP write use the same effects. -/

namespace Sys2Proof.Machine

/-- What a write of `AlertAck` does (R573). -/
def State.alertAckEffect (s : State) (q : Nat) : Res × State :=
  match s.diag.alerting with
  | none => ({}, s)
  | some r =>
    if r ≤ q then ({}, { s with diag := { s.diag with alerting := none } }.put Obj.alertState 0 0) else ({}, s)

/-- ALERT_ACK (R573). -/
def execAlertAck (w : Requester) (v : Int) (s : State) : Host.Outcome State Fault Refusal :=
  .next (s.hostWrite w 2 Obj.alertAck 0 (.num v) (fun x s => s.alertAckEffect x.nat))

/-! ## Commands (WO) -/

/-- What a write of a WO object of the control side does. -/
def State.commandEffect (s : State) (w : Requester) (o m : Nat) (v : Val) : Res × State :=
  let n := v.nat
  let b := v.bytes
  if o = Obj.cancelEntry then s.cancelEffect w n
  else if o = Obj.alertAck then s.alertAckEffect n
  else if o = Obj.sessionClose then s.sessionCloseEffect n
  else if o = Obj.dictSave then s.dictSaveEffect w
  else if o = Obj.dictRestore then s.dictRestoreEffect w
  else if o = Obj.dictFactory then s.dictFactoryEffect w
  else if o = Obj.counterClear then s.counterClearEffect n
  else if o = Obj.eventFetch then s.eventFetchEffect n
  else if o = Obj.imageWrite then s.imageWriteEffect b
  else if o = Obj.imageCommit then s.imageCommitEffect w b
  else if o = Obj.groupLeave then s.groupLeaveEffect
  else if o = Obj.ownerKeyEnrol then s.ownerKeyEffect b
  else if o = Obj.quoteRequest then s.quoteEffect b
  else if o = Obj.rekeyRoot then s.rekeyEffect n
  else if o = Obj.slotWrite then s.slotWriteEffect b
  else if o = Obj.slotErase then s.slotEraseEffect n
  else if o = Obj.blockRestore then s.blockRestoreEffect n
  else if o = Obj.avenueCommand then s.avenueCommandEffect w b
  else if o = Obj.injectNow then s.injectNowEffect w
  else if o = Obj.svcAccumClear then ({}, s.setSvc (fun x => { x with clearDue := true }))
  else if o = Obj.calSave then s.calSaveEffect
  else if o = Obj.calLearnedClear then s.calClearEffect
  else
    let c := carrierOf o
    if isObj o Obj.sliceRetire then s.retireEffect c n
    else if isObj o Obj.sliceRestore then s.restoreEffect c n
    else if isObj o Obj.loadingRequest then s.loadingRequestEffect w c b
    else if isObj o Obj.contextRoll then s.contextRollEffect c n
    else if isObj o Obj.footpathSend then s.footSendEffect c b
    else if isObj o Obj.calReload then s.calReloadEffect c
    else storeEffect o m v s

/-! ## Settings (RW) -/

/-- Number of a lane from the object and member that show it (R234). -/
def laneOf (o m : Nat) : Nat := quadOf o * 8 + m

/-- What a write of an RW object does: its owner's effect, or the value stored. -/
def State.settingEffect (s : State) (o m : Nat) (v : Val) : Res × State :=
  let n := v.nat
  let c := carrierOf o
  if o = Obj.ceiling then s.ceilingWriteEffect n
  else if o = Obj.clientRate then s.clientRateEffect m n
  else if o = Obj.clientLanes then s.clientLanesEffect m n
  else if isObj o Obj.laneRate then s.laneRateEffect (laneOf o m) n
  else if isObj o Obj.laneTest then s.laneTestEffect (laneOf o m) n
  else if isObj o Obj.loadingCeiling then s.ceilingEffect c m n
  else if isObj o Obj.loadingFloor then s.floorEffect c m n
  else if isObj o Obj.policyCodeRate then s.policyRateEffect c n
  else if isObj o Obj.loFrequency then s.loFrequencyEffect c n
  else if isObj o Obj.frontGain then s.frontGainEffect c n
  else if o = Obj.forceRef then s.forceRefEffect m n
  else if o = Obj.comparator then s.comparatorEffect m n
  else if o = Obj.injectLength then s.injectLengthEffect n
  else if o = Obj.tfeRun then s.tfeRunEffect m n
  else if o = Obj.twinRelease then s.twinReleaseEffect n
  else if o = Obj.tfeFilter then s.tfeFilterEffect m n
  else if o = Obj.tfeCoeff then s.tfeCoeffEffect m v.bytes
  else if o = Obj.tfeInput then s.tfeInputEffect m n
  else if o = Obj.rollbackFloor then s.rollbackEffect m n
  else if o = Obj.counterRange then s.counterRangeEffect m v.bytes
  else if isObj o Obj.counterSelect then s.counterSelectEffect ((o / 256 - 0xF7) * 256 + m) n
  else if o = Obj.mgAddress then
    let r := storeEffect o m v s
    (r.1, r.2.staticAddress m)
  else storeEffect o m v s

/-! ## Scheduled writes (RWS, R512) -/

/-- The carrier an RWS object's entry is tied to (R34). -/
def entryCarrier (o : Nat) : Option Carrier :=
  if isObj o Obj.dacBackoff || isObj o Obj.subcarrierCount || isObj o Obj.symbolRate then some (carrierOf o) else none

/-- Kind of the entry that a write of an RWS object creates (R52, R530). -/
def entryKind (o : Nat) : Kind :=
  if o = Obj.snapshotTrigger then .snapshot else if o = Obj.injectTrigger then .injectTrigger else .scheduledWrite

/-- The entry of a local RWS object (R52). -/
def scheduledEntry (o m : Nat) (v : Val) : Entry :=
  { Entry.base (entryKind o) 0 with
    carrier := entryCarrier o, key := if entryKind o = .scheduledWrite then m else 0, obj := o, mem := m, val := v
    data := [v.nat] }

/-- Number of the decoder bank of a `BankService` object. -/
def serviceBankOf (o : Nat) : Nat := o / 256 % 16 - 7

/-- Status that the owning chapter gives a scheduled write, when it is accepted and again when it runs (R179, R191,
R493, R514). -/
def State.scheduledStatus (s : State) (o v : Nat) : Nat :=
  if o = Obj.residencyBudget then s.budgetCheck v
  else if isObj o Obj.bankService then s.bankServiceCheck (serviceBankOf o) v
  else s.retireStatus o

/-- What a scheduled write of an RWS object does when it is accepted (R512, R513). -/
def State.scheduleEffect (s : State) (w : Requester) (o m : Nat) (t : Target) (v : Val) : Res × State :=
  if o = Obj.avenueMode then s.avenueModeEffect w v.nat t
  else if o = Obj.contextEnable then s.contextEnableEffect w m (v.nat == 1) t
  else if o = Obj.imageActivate then s.imageActivateEffect w m t v.nat
  else
    let r := s.hostSchedule w t (scheduledEntry o m v)
    let code := firstFault [r.1.code, s.scheduledStatus o v.nat]
    if code ≠ 0 then ({ code := code }, s) else r

/-! ## Any object -/

/-- Relative target with no offset: the next boundary that can be met, for which Op 02h stands (R512). -/
def Target.next : Target := { relative := true, sfn := 0, symbols := false, offset := 0 }

/-- What a write of an object does, by its access class. -/
def State.ownerEffect (s : State) (w : Requester) (o m : Nat) (t : Target) (v : Val) : Res × State :=
  match dictRow o with
  | none => ({ code := 0x0101 }, s)
  | some r =>
    match r.acc with
    | .ro => ({ code := 0x0202 }, s)
    | .wo => s.commandEffect w o m v
    | .rw => s.settingEffect o m v
    | .rws => s.scheduleEffect w o m t v

/-- The object's values are OCTETS or TABLE. -/
def longType (o : Nat) : Bool := decide (typeOf o = .octets) || decide (typeOf o = .table)

/-- AOP_WRITE (R505): Op 02h on an object. OCTETS and TABLE values must come whole, with Offset 0 (R502). -/
def execAopWrite (w : Requester) (o : BitVec 16) (m : BitVec 8) (offset : BitVec 32) (v : Val) (s : State) :
    Host.Outcome State Fault Refusal :=
  let o := o.toNat
  let m := m.toNat
  let code := (s.checkWrite w 2 o m v).1
  .next (if offset ≠ 0 ∧ longType o ∧ !s.badSession w then
      s.refuse w 2 o m (firstFault [code, 0x0301])
    else if o = Obj.aopPort then
      (s.hostWrite w 2 o m v (storeEffect o m)).portChange (s.u Obj.aopPort)
    else s.hostWrite w 2 o m v (fun x s => s.ownerEffect w o m Target.next x))

/-- SCHEDULED_WRITE (R512): Op 03h on an RWS object. -/
def execScheduledWrite (w : Requester) (o : BitVec 16) (m : BitVec 8) (t : Target) (v : Val) (s : State) :
    Host.Outcome State Fault Refusal :=
  .next (s.hostWrite w 3 o.toNat m.toNat v (fun x s => s.ownerEffect w o.toNat m.toNat t x))

/-! ## Writes that no operation carries -/

/-- The requester that stands for the engine itself. -/
def engineRequester : Requester := { transport := 0, source := 0, port := 0, session := 0, sequence := 0 }

/-- A setting written by the engine (R450, R518, R519): checked without a role; a domain it acts in is woken, and the
value is applied at that domain's wake; a setting of a sleeping domain is held. -/
def State.internalWrite (s : State) (o m : Nat) (v : Val) : Nat × State :=
  match dictRow o with
  | none => (0x0101, s)
  | some r =>
    if m < r.memLo || r.memHi < m then (0x0102, s)
    else if fixedMember o m then (0x0202, s)
    else if r.zeroBad v || s.zeroRefused o v then (0x0303, s)
    else if !r.inRow v || !s.ownerRange o m v then (0x0301, s)
    else
      match accessedBy o m v with
      | some d =>
        let g := s.accessDom d
        if g.1 ≠ 0 then (0x0402, g.2)
        else if g.2.awake d then
          let x := g.2.settingEffect o m v
          (x.1.code, x.2)
        else (0, g.2.holdWrite d o m v)
      | none =>
        match settingDomain o with
        | some d =>
          if s.domOff d then (0, s.holdWrite d o m v)
          else
            let x := s.settingEffect o m v
            (x.1.code, x.2)
        | none =>
          let x := s.settingEffect o m v
          (x.1.code, x.2)

/-- The live value of a key is dropped: the object resolves to its user or factory value (R18). -/
def State.dropLive (s : State) (k : Nat) : State :=
  { s with live := { nums := assocDel s.live.nums k, octs := assocDel s.live.octs k } }

/-- The value that a key has under R18 with no live layer. -/
def State.baseValue (s : State) (k : Nat) : Val :=
  let t : State := s.dropLive k
  if (typeOf (k / 256)).numeric then .num (t.numAt k) else .octs (t.octsAt k)

/-- A refused saved value (1007h). -/
def State.logRefused (s : State) (o m code : Nat) : State := s.log 0x1007 (d16 o ++ d8 m ++ d16 code)

/-- One saved object returns to its value under R18 (R519): an RW value is written at this boundary, an RWS value as a
scheduled write, local kinds at relative target 0 and coordinated ones at `CoordLeadMin`. -/
def State.restoreKey (s : State) (w : Requester) (k : Nat) : State :=
  let o := k / 256
  let m := k % 256
  let v := s.baseValue k
  let now := if (typeOf o).numeric then Val.num (s.numAt k) else .octs (s.octsAt k)
  if v = now then s.dropLive k
  else
    match dictRow o with
    | none => s
    | some r =>
      if r.acc = .rws then
        let lead := max (s.u (on .a Obj.coordLeadMin)) (s.u (on .b Obj.coordLeadMin))
        let coord := o = Obj.avenueMode ∨ o = Obj.contextEnable
        let x := s.scheduleEffect w o m { Target.next with sfn := if coord then lead else 0 } v
        if x.1.code ≠ 0 then s.logRefused o m x.1.code
        else x.2.clearAskers (x.2.clk.entries.filter (fun e => decide (e.obj = o) && e.mem == m && decide (e.asker = some w)))
      else
        let old := s.u Obj.aopPort
        let x := s.internalWrite o m v
        if x.1 ≠ 0 then x.2.logRefused o m x.1 else (x.2.dropLive k).portChange old

/-- A restore runs at a local boundary (R519). -/
def State.restoreBoundary (s : State) : State :=
  match s.aop.restore with
  | none => s
  | some (user, w) =>
    let s := s.setAop (fun a => { a with restore := none })
    let keys := (s.live.keys.filter (fun k => savedObject (k / 256))).foldl (fun a k => assocSet a k ()) []
    let s := keys.foldl (fun s k => s.restoreKey w k.1) s
    s.log 0x1006 (d8 (b2n (!user)))

/-- One value of the standing record at start (R518): an RW setting takes effect through its owner, an RWS value stands
as the link's starting state; a refused one is skipped. -/
def State.applyImage (s : State) (x : Nat × Nat × List Byte) : State :=
  let (o, m, b) := x
  let skip := fun (s : State) (code : Nat) => (s.put Obj.dictImageState 0 2).logRefused o m code
  match dictRow o with
  | none => skip s 0x0101
  | some r =>
    if !savedObject o then skip s 0x0502
    else
      match normalise r o (.octs b) with
      | none => skip s 0x0302
      | some v =>
        if r.acc = .rws then
          let bad := if m < r.memLo ∨ r.memHi < m then 0x0102
            else if r.zeroBad v ∨ s.zeroRefused o v then 0x0303
            else if !r.inRow v ∨ !s.ownerRange o m v then 0x0301
            else s.scheduledStatus o v.nat
          if bad ≠ 0 then skip s bad else s.putUser o m v
        else
          let y := s.internalWrite o m v
          if y.1 ≠ 0 then skip y.2 y.1 else (y.2.putUser o m v).dropLive (okey o m)

/-- The standing NV dictionary record is applied in ascending object and member order (R518). -/
def State.dictImageApply (s : State) : State :=
  match s.standing 2 0 with
  | none => s.put Obj.dictImageState 0 0
  | some r => (dictValues r.payload).foldl (fun s x => s.applyImage x) (s.put Obj.dictImageState 0 1)

end Sys2Proof.Machine
end

