-- ==== Sys2Proof/Machine/Mount.lean ====
section
/-! DEFINITION. The mount of the Icehouse (R486, R488, R442, R493), the key slots as a boot derives and reloads them
(R304, R305, R318, R319), and the choice of an image at boot (R303, R304). -/

namespace Sys2Proof.Machine

/-! ## The mount (R486, R488) -/

/-- Pages that a cut left without a marker become ignored records, and the next write of their space starts in a fresh
block; writes that had not begun are gone (R488). -/
def State.cutWrites (s : State) : State :=
  let cut := s.mem.queue.filter (fun j => j.done != 0)
  let lost := cut.map (fun j => { j.recd with committed := false, ignored := 1 })
  let spaces := cut.map (fun j => spaceOf j.recd.region j.recd.subject)
  let at_ := s.mem.writeAt.mapIdx (fun i p => if spaces.contains i then none else p)
  { s with mem := { s.mem with recs := s.mem.recs ++ lost, queue := [], moving := [], writeAt := at_ } }

/-- Committed records that a mount finds bad: first page and cause of R486. -/
def State.markBad (s : State) (bad : List (Nat × Nat)) : State :=
  { s with mem := { s.mem with recs := s.mem.recs.map (fun r => match bad.find? (fun p => p.1 == r.firstPage) with
    | some p => { r with committed := false, ignored := p.2 }
    | none => r) } }

/-- A record is ignored at a mount (R486): counted and logged; a learned set's also by the calibration (R442). -/
def State.ignoreRec (s : State) (block page cause typ : Nat) : State :=
  let s := (s.bump Obj.ignoredRecordCount).log 0xB009 (d16 block ++ d8 page ++ d8 cause)
  if typ = 3 then s.log 0x4014 (d8 (if cause = 1 ∨ cause = 2 then 0 else 1)) else s

/-- One entry of the retirement record, five octets: code 0 a slice's key, 1 an SRAM bank and its repair bank, 2 a block
and its physical block, 3 a retention bank and its heir. -/
def State.applyRetired (s : State) (code v : Nat) : State :=
  if code = 0 then
    let c := if v / 128 / 8 = 0 then Carrier.a else Carrier.b
    s.setSlice c (v / 128 % 8) (v % 128) (fun x => { x with st := 7, due := false })
  else if code = 1 then
    let s := s.setBank (v / 256) (fun x => { x with state := 2, repair := v % 256 })
    { s with mem := { s.mem with repairs := s.mem.repairs - 1 } }
  else if code = 2 then s.setBlock (v / 65536) (fun x => { x with state := 2, physical := v % 65536 })
  else
    let s := s.setRet (v % 256) (fun _ => { RetBank.init (v / 256) with role := v / 256 })
    s.setRet (v / 256) (fun x => { x with state := 5 })

/-- The entries of a retirement payload. -/
def retiredEntries : Nat → List Byte → List (Nat × Nat)
  | 0, _ => []
  | _, [] => []
  | n + 1, b => (ofBe (slice b 0 1), ofBe (slice b 1 4)) :: retiredEntries n (b.drop 5)

/-- Retirements are applied at every start (R93, R493). -/
def State.applyRetirement (s : State) : State :=
  let s := match s.standing 4 0 with
    | none => s
    | some r => (retiredEntries r.payload.length r.payload).foldl (fun (s : State) (p : Nat × Nat) => s.applyRetired p.1 p.2) s
  let s := s.put Obj.repairBanksFree 0 (s.mem.repairs : Nat)
  [Carrier.a, Carrier.b].foldl (fun s c => (List.range 8).foldl (fun s k => s.setHealth c k) s) s

/-- The calibration takes the newest learned record (R442); `factoryBad` counts the factory copies that fail. -/
def State.takeLearned (s : State) (factoryBad : Nat) : State :=
  let l := match s.standing 3 0 with
    | none => []
    | some r => learnedOf r.payload.length r.payload
  let s := { s with cal := { s.cal with learned := l } }
  if 2 ≤ factoryBad then { s with cal := { s.cal with factoryBad := true } }.log 0x4015 else s

/-- A mount (R486): cut writes and bad records are ignored, the index is built, register 7 extended by the digest of the
standing NV dictionary record, or 64 zero octets. -/
def State.mount (s : State) (bad : List (Nat × Nat)) (ms : Nat) : State :=
  let s := (s.markBad bad).put Obj.icehouseState 0 1
  let gone := s.mem.recs.filter (fun r => !r.committed || r.ignored != 0)
  let s := gone.foldl (fun s r => s.ignoreRec (r.firstPage / 256) (r.firstPage % 256) r.ignored r.typ) s
  let opened := (List.range 12).filter (fun k => (s.imgSlot k).opened.isSome)
  let s := opened.foldl (fun s k => s.ignoreRec (16 + 16 * k) 0 1 1) s
  let standing := (s.mem.recs.filter (fun r => s.liveRec r)).length
  let s := s.put Obj.icehouseState 0 (if s.mem.fullRegions.isEmpty then 2 else 3 : Nat)
  let s := s.put Obj.mountTime 0 (ms : Nat)
  let s := s.extend 7 (match s.standing 2 0 with
    | some r => r.digest
    | none => List.replicate 64 0)
  s.log 0xB008 (d16 standing ++ d16 (gone.length + opened.length) ++ d32 ms)

/-! ## Key slots at boot (R290, R304, R305) -/

/-- Slots that the ROM derives or copies (R304 step 2): the sealed root, the keys derived from it, and the two keys of
the ROM. What the ROM derives with is not given (log entry 2). -/
def State.deriveSlot (s : State) (k : Nat) : State :=
  if k = 0 then s.putSlot 0 1 (Config.factoryOctets 0x90000 32)
  else
    let root := (s.slot 0).data
    if k = 4 then s.putSlot 4 2 (Config.kmac256 64 root (ascii "TH6400 ICEHOUSE") [])
    else if k = 6 then s.putSlot 6 1 (Config.kmac256 32 root (ascii "TH6400 WRAP") [])
    else s.putSlot k 4 (Config.factoryOctets (0x90000 + k) 1793)

/-- Slots that are unwrapped from the Icehouse (R304 step 4, R305): slot 1 as `identity` says, slot 3 and the owner
slots from their standing records. -/
def State.reloadSlot (s : State) (identity : Bool) (k : Nat) : State :=
  if k = 1 then
    if identity then (s.putSlot 1 5 (Config.factoryOctets 0x90001 2305)).setGr (fun g => { g with identity := true })
    else (s.setGr (fun g => { g with identity := false })).log 0x9010 (d8 1)
  else
    match s.standing 5 k with
    | none => s
    | some r =>
      if r.payload.isEmpty then s
      else
        match s.unwrapped r.payload with
        | some (typ, data) => s.putSlot k typ data
        | none =>
          let s := s.log 0x9010 (d8 k)
          if k = 3 then s.setGr (fun g => { g with ownerBad := true }) else s.emptySlot k

/-- Slots 1, 3 and 32 to 255. -/
def wrappedSlots : List Nat := 1 :: 3 :: (List.range 224).map (· + 32)

/-- Slots 0 to 6 and 32 to 255 as a boot makes them. -/
def State.loadSlots (s : State) (identity : Bool) : State :=
  let s := [0, 4, 6, 2, 5].foldl (fun s k => s.deriveSlot k) s
  wrappedSlots.foldl (fun s k => s.reloadSlot identity k) s

/-- At a boundary, the slots that a poisoned word lost are derived, copied or reloaded again (R319), each reload with B003h
(R476). -/
def State.slotsBoundary (s : State) : State :=
  let l := s.grot.reload
  let s := s.setGr (fun g => { g with reload := [] })
  l.foldl (fun s k =>
    let s := if k = 0 ∨ k = 2 ∨ k = 4 ∨ k = 5 ∨ k = 6 then s.deriveSlot k else s.reloadSlot s.grot.identity k
    let mine := fun (p : Nat × Content) => p.2 == Content.keySlot (BitVec.ofNat 8 k)
    let s := (s.mem.poison.filter mine).foldl (fun s p => s.log 0xB003 (d32 p.1 ++ d16 k)) s
    { s with mem := { s.mem with poison := s.mem.poison.filter (fun p => !mine p) } }) s

/-- The digest that `OwnerKeyDigest` shows and register 6 takes: of slot 3, or 64 zero octets (R306). -/
def State.ownerDigest (s : State) : List Byte :=
  if (s.slot 3).typ = 0 then List.replicate 64 0 else Config.shake256 64 (s.slot 3).data

/-! ## Images at boot (R303, R304) -/

/-- A slot holds a committed, valid image. -/
def State.bootable (s : State) (sub slot : Nat) : Bool :=
  (s.imgSlot (imgIndex sub slot)).present && (s.imgSlot (imgIndex sub slot)).opened.isNone &&
    s.imageStatus (imgIndex sub slot) == 1

/-- The image of a subsystem is taken from the boot slot, or from the other one (9003h), and measured; with neither
valid the subsystem stays unloaded, 3 to 6 with 9002h for each slot. Answers whether it is loaded. -/
def State.bootImage (s : State) (sub : Nat) : Bool × State :=
  let first := s.activeSlot sub
  let pick := if s.bootable sub first then some first else if s.bootable sub (1 - first) then some (1 - first) else none
  match pick with
  | none =>
    let s := if sub ≤ 2 then s
      else [0, 1].foldl (fun s slot => s.log 0x9002 (d8 sub ++ d8 slot ++ d8 (s.imageStatus (imgIndex sub slot)))) s
    (false, s.setImg (fun x => { x with unloaded := x.unloaded ++ [sub] }))
  | some slot =>
    let s := if slot = first then s else s.log 0x9003 (d8 sub)
    let s := s.setImg (fun x => { x with
      active := setNth x.active sub slot, dsp := if sub = 5 then Pair.both slot else x.dsp })
    (true, (s.put Obj.imageActive sub slot).measure sub slot)

end Sys2Proof.Machine
end

