-- ==== Sys2Proof/Machine/Wake.lean ====
section
/-! DEFINITION. The end of a domain's wake (R453): its retention checked (R481), what its chapter does when it is awake,
the settings stored for it (R450), and the operations that stalled on it (R506). -/

namespace Sys2Proof.Machine

/-! ## Retention (R480, R481) -/

/-- A word of a retention bank is poisoned. -/
def State.retPoisoned (s : State) (r : Nat) : Bool :=
  s.mem.poison.any (fun p => decide (retBase r ≤ p.1) && decide (p.1 < retBase r + 8 * bankSize))

/-- One retention bank is checked before its domain takes an access (R481): it fails on a CRC mismatch (cause 0) or a
poisoned word (cause 1), and then reads as zero. -/
def State.checkBank (s : State) (d : Nat) (bad : List Nat) (r : Nat) : State :=
  if (s.ret r).state ≠ 1 then s
  else if bad.contains r || s.retPoisoned r then
    let cause := if bad.contains r then 0 else 1
    let s := s.setRet r (fun x => { x with state := 3, lost := x.lost + 1 })
    (s.clearRetBank r).log 0xB005 (d8 r ++ d8 d ++ d8 cause)
  else s.setRet r (fun x => { x with state := 2 })

/-- The banks of a domain that held contents are checked; answers the banks of R479 whose contents held, and those whose
contents are lost. -/
def State.retentionCheck (s : State) (d : Nat) (bad : List Nat) : List Nat × List Nat × State :=
  let banks := (s.retBanksOf d).filter (fun r => (s.ret r).state == 1)
  let t := banks.foldl (fun s r => s.checkBank d bad r) s
  let lost := fun (r : Nat) => (t.ret r).state == 3
  ((banks.filter (fun r => !lost r)).map (fun r => (s.ret r).role), (banks.filter lost).map (fun r => (s.ret r).role), t)

/-! ## What each domain does when it is awake -/

/-- The bank that holds the contents of a bank of R479. -/
def State.bankOfRole (s : State) (role : Nat) : Nat :=
  ((List.range 16).find? (fun r => (s.ret r).role == role && (s.ret r).state != 5)).getD role

/-- A carrier's TX domain is awake (R164, R437). -/
def State.txWoken (s : State) (c : Carrier) (lost : Bool) : State :=
  if lost then (s.armLoads c [4, 5, 6, 7] 1).setLoading c .tx (s.baseLoading c) else s.wakeSetLoads c 4 8

/-- The acquisition of a carrier begins or begins again with its receive path awake and no privileged calibration under
way (R128, R439). -/
def State.beginAcq (s : State) (c : Carrier) (warm : Bool) : State :=
  let k : AcqKind := if warm then .warmPilots else .cold
  if s.lock c ≠ 0 then s
  else if s.calRunning then s.setRx c (fun x => { x with kind := k })
  else s.startAcq c k

/-- A carrier's RX domain is awake (R128, R164, R437): `held` and `lost` are the banks of R479 that passed and failed. -/
def State.rxWoken (s : State) (c : Carrier) (held lost : List Nat) : State :=
  let terms := if c = .a then 6 else 9
  let state := if c = .a then 7 else 10
  let s := if lost.contains terms then s.armLoads c [0, 1, 2, 3] 1 else s.wakeSetLoads c 0 4
  let s := if lost.contains state then
      let s := s.setLoading c .rx (s.baseLoading c)
      let s := (List.range 6).foldl (fun s i => s.iqReset c i) (s.put (on c Obj.cdStatic) 0 0)
      (s.setLd c (fun l => { l with held := [], lastForce := none })).setValidity c 0
    else s
  s.beginAcq c (held.contains state)

/-- A quad's domain is awake: lanes with a code ask for their cost again where a shed took it, and those granted run
(R236, R243). -/
def State.quadAwake (s : State) (q : Nat) : State :=
  let s := s.quadWoken q
  (List.range 8).foldl (fun s i =>
    let l := 8 * q + i
    let code := s.lane Obj.laneRate l
    if code = 0 ∨ s.holds Act.lane l ≠ 0 then s
    else
      let r := s.ask Act.lane l (laneCost code)
      if r.1 = 0 then r.2 else r.2.laneState l 0) s

/-- The Grotto's retention bank failed (R318): every slot is cleared and made again as at boot, registers 0 to 7 are set,
quotes show the loss, and both carriers run a Fresh agreement. -/
def State.grottoLost (s : State) : State :=
  let mark := Config.shake256 64 (ascii "TH6400 RETENTION LOST")
  let s := (List.range 256).foldl (fun s k => s.emptySlot k) s
  let s := s.setGr (fun g => { g with ownerBad := false, reload := [] })
  let s := s.loadSlots s.grot.identity
  let s := s.setGr (fun g => { g with regs := List.replicate 8 mark ++ g.regs.drop 8, lost := true })
  let s := [Carrier.a, Carrier.b].foldl (fun s c => s.rootsGone c) s
  let s := s.log 0x900F (d8 (s.bankOfRole 3))
  [Carrier.a, Carrier.b].foldl (fun s c => s.startAgree c) s

/-- The event table is lost with its bank (R58): coordinated entries are missed, engine-generated ones dropped, the rest
gone; E00Ah. -/
def State.tableLost (s : State) : State :=
  let l := s.clk.entries
  let s := (s.setEntries []).log 0xE00A (d8 (s.bankOfRole 0))
  l.foldl (fun s e =>
    if e.coord then s.missEntry e 2 else if e.write = 0 then s.dropEvent e 3 else s) s

/-- Live values lost with retention bank 1 (R481): objects resolve under R18. -/
def State.liveLost (s : State) : State :=
  let keep := fun (k : Nat) => !savedObject (k / 256)
  { s with live := { nums := s.live.nums.filter (fun p => keep p.1), octs := s.live.octs.filter (fun p => keep p.1) } }

/-- CP state lost with retention bank 2 (R481, R533): pending log records are gone and counted, and every counter
restarts. -/
def State.cpLost (s : State) : State :=
  let n := s.diag.waiting.length
  let s := { s with diag := { s.diag with waiting := [] } }
  let s := s.addTo 32 Obj.logDropCount 0 n
  s.countersLost (List.range 2048) 0

/-- CTL is awake again (R481): what its banks lost. A mount in service takes a free time within its bound. -/
def State.ctlWoken (s : State) (lost : List Nat) : State :=
  let s := if lost.contains 0 then
      let s := s.tableLost
      let f := s.fresh 16
      f.2.mount [] (f.1 % 301)
    else s
  let s := if lost.contains 1 then s.liveLost else s
  if lost.contains 2 then s.cpLost else s

/-- What a domain's chapter does at the end of its wake; `held` and `lost` as `retentionCheck` answers them. -/
def State.woken (s : State) (d : Nat) (held lost : List Nat) : State :=
  if d = Dn.ctl then s.ctlWoken lost
  else if d = Dn.grt then (if lost.contains 3 then s.grottoLost else s.startUnits)
  else if d = Dn.svc then s.svcWoken (lost.contains 4) true
  else if Dn.hla ≤ d ∧ d < Dn.hla + 4 then s.quadAwake (d - Dn.hla)
  else if Dn.dpa ≤ d ∧ d < Dn.dpa + 4 then s.bankWoken (d - Dn.dpa)
  else if d = Dn.tx .a then s.txWoken .a (lost.contains 5)
  else if d = Dn.tx .b then s.txWoken .b (lost.contains 8)
  else if d = Dn.rx .a then s.rxWoken .a held lost
  else if d = Dn.rx .b then s.rxWoken .b held lost
  else s

/-! ## Stored settings and stalled operations (R450, R506) -/

/-- Settings stored for a domain are applied in the order written (R450). -/
def State.applyHeld (s : State) (d : Nat) : State :=
  let due := s.pow.held.filter (fun h => h.dom == d)
  let s := { s with pow := { s.pow with held := s.pow.held.filter (fun h => h.dom != d) } }
  due.foldl (fun s h => (s.settingEffect h.obj h.mem h.val).2) s

/-- A stalled operation runs (R506). -/
def State.runStall (s : State) (x : Stall) : State :=
  let v := match dictRow x.op.obj with
    | some r => (normalise r x.op.obj (.octs x.op.value)).getD (.octs x.op.value)
    | none => .octs x.op.value
  finishWrite x.asker x.op.op 0 x.op.obj x.op.mem (s.ownerEffect x.asker x.op.obj x.op.mem Target.next v)

/-- The operations that stalled on a domain proceed. -/
def State.runStalls (s : State) (d : Nat) : State :=
  let due := s.aop.stalls.filter (fun x => x.dom == d)
  let s := s.setAop (fun a => { a with stalls := a.stalls.filter (fun x => x.dom != d) })
  due.foldl (fun s x => s.runStall x) s

/-- A wake took more than 110 % of its latency (R453): 2006h with the time taken in microseconds. -/
def State.slowWake (s : State) (d : Nat) : State :=
  let t := s.now - (s.dom d).since
  if s.wakeLatency d * 110000000 < t then s.log 0x2006 (d8 d ++ d32 (t / 100000000)) else s

/-- The wake of a domain ends (R453, R473, R481). -/
def State.finishWake (s : State) (d : Nat) (bad : List Nat) : State :=
  let s := (s.slowWake d).clearDomainSram d
  let (held, lost, s) := s.retentionCheck d bad
  let s := (s.setDom d (fun x => { x with st := .awake })).touch d
  ((s.woken d held lost).applyHeld d).runStalls d

/-- DOMAIN_WAKE_COMPLETE (R453, R481): `bad` lists the retention banks whose CRC does not match. -/
def execDomainWakeComplete (d : Fin 25) (bad : List (Fin 16)) (s : State) : Host.Outcome State Fault Refusal :=
  .next (if (s.dom d).st ≠ .waking then s else s.finishWake d (bad.map (·.val)))

/-- Superframes between two progress messages: 100 ms (R506). -/
abbrev progressSf : Nat := 1000

/-- WAKE_STALL_PROGRESS (R506): a Type 03h message with status 0401h that names the stalled operation; the first also
enters the violation log (R511). -/
def execWakeStallProgress (i : Nat) (s : State) : Host.Outcome State Fault Refusal :=
  .next (match s.aop.stalls[i]? with
    | none => s
    | some x =>
      let last := x.told.getD x.since
      if s.clk.sfn < last + progressSf then s
      else
        let s := s.setAop (fun a => { a with stalls := setNth a.stalls i { x with told := some s.clk.sfn } })
        let s := if x.told.isNone then s.violate x.asker x.op.op x.op.obj x.op.mem 0x0401 else s
        s.sendTo x.asker (aopMsg 3 1 x.asker.session x.asker.sequence 0 (opMsg x.op.op 0 x.op.obj x.op.mem 0x0401 0 [] [])))

/-- STALL_LIMIT (R453, R506): at 60 s a stalled operation ends with 0801h, 200Bh is logged and the wake continues. -/
def execStallLimit (i : Nat) (s : State) : Host.Outcome State Fault Refusal :=
  .next (match s.aop.stalls[i]? with
    | none => s
    | some x =>
      if s.clk.sfn < x.since + 600000 then s
      else
        let s := s.setAop (fun a => { a with stalls := a.stalls.eraseIdx i })
        (s.log 0x200B (d8 x.dom)).refuse x.asker x.op.op x.op.obj x.op.mem 0x0801)

/-- A part whose privileged steps wait for its first wake after keep-alive starts them when that wake begins (R439). -/
def State.partsBoundary (s : State) : State :=
  let due := s.cal.pendingParts.filter (fun p =>
    let d := if p ≤ 2 then Dn.op (if p = 1 then .a else .b) else Dn.hla + (p - 3)
    !s.domOff d)
  let s := { s with cal := { s.cal with pendingParts := s.cal.pendingParts.filter (fun p => !due.contains p) } }
  due.foldl (fun s p => s.startPriv (if p ≤ 2 then 1 else 2) p) s

end Sys2Proof.Machine
end

