-- ==== Sys2Proof/Machine/Boot.lean ====
section
/-! DEFINITION. Power-on, reset and brown-out (R468, R570 to R572), the boot (R304, R439, R465), keep-alive mode (R466,
R467, R576), and the supply's events (R566, R567). -/

namespace Sys2Proof.Machine

/-! ## Restart (R468, R571) -/

/-- The power of the domains goes; `aon` says whether AON keeps its own. -/
def State.powerDown (s : State) (aon : Bool) : State :=
  let doms := (List.range 25).map (fun d => if aon && d == Dn.aon then { Dom.init with st := .awake } else Dom.init)
  { s with pow := { s.pow with on := false, aonOn := aon, pgood := false, keepAlive := false, ledger := [], doms := doms } }

/-- The machine as a restart begins: what the Icehouse, the fuses and the boot slots keep, everything else as after
reset. What left the engine and what waits outside it stay. -/
def State.restarted (s : State) : State :=
  let r := State.reset
  let conv := fun (x : ConvSt) => { ConvSt.start with convs := (List.range 8).map (fun k =>
    let old := nth x.convs k (Conv.init k)
    let fresh := Conv.init k
    { fresh with
      phases := old.phases
      slices := fresh.slices.mapIdx (fun i _ => Slice.init (old.phases.contains i)) }) }
  let s' : State := { r with
    conv := { a := conv s.conv.a, b := conv s.conv.b }
    mem := { r.mem with
      recs := s.mem.recs, queue := s.mem.queue, blocks := s.mem.blocks, writeAt := s.mem.writeAt
      nextSeq := s.mem.nextSeq, fullRegions := s.mem.fullRegions, erasing := s.mem.erasing, reserve := s.mem.reserve
      nand := s.mem.nand }
    grot := { r.grot with floors := s.grot.floors }
    img := { r.img with
      slots := s.img.slots, active := s.img.boot, boot := s.img.boot, dsp := Pair.both (nth s.img.boot 5 0) }
    diag := { r.diag with nextSeq := s.diag.nextSeq }
    free := s.free, out := s.out, pending := s.pending }
  [1, 2, 3, 4, 5, 6].foldl (fun s sub => s.put Obj.rollbackFloor sub (nth s.grot.floors sub 0 : Nat)) s'

/-- A restart with a `ResetCause`: 1 power-on, 2 RESETN, 3 to 6 brown-out cases 1 to 4 (R468, R469). After any but a
power-on, the sessions closed and the table emptied by it are logged (R58, R509), and the brown-out (200Ah). What AON
holds stays: through RESETN only `ResetCause` and `BrownOutCount`, through a brown-out also `TripCount` and the level of
ALERTN (R571, R573). -/
def State.restart (s : State) (cause : Nat) : State :=
  let t := (s.restarted).put Obj.resetCause 0 (cause : Nat)
  let t := { t with pow := { t.pow with
    vin := if cause = 1 then 0 else s.pow.vin, vinState := if cause = 1 then 0 else s.pow.vinState
    vinExtreme := if cause = 1 then 0 else s.pow.vinExtreme } }
  if cause = 1 then t
  else
    let t := t.put Obj.brownOutCount 0 (s.u Obj.brownOutCount : Nat)
    let t := if cause = 2 then t
      else
        let t := (t.put Obj.tripCount 0 (s.u Obj.tripCount : Nat)).put Obj.alertState 0 (s.u Obj.alertState : Nat)
        { t with diag := { t.diag with alerting := s.diag.alerting } }
    let t := s.aop.sessions.foldl (fun (t : State) x => t.logAfter 0x1003 (d32 x.id ++ d8 3)) t
    let t := t.logAfter 0xE00B (d8 cause)
    if cause = 2 then t else t.logAfter 0x200A (d8 (cause - 2))

/-- POWER_ON (R570, R572): VIN rises through 5.8 V. With AON still supplied this ends a brown-out of case 4 (R468). -/
def execPowerOn (s : State) : Host.Outcome State Fault Refusal :=
  .next (if s.pow.on ∨ s.pow.latched then s
    else if s.pow.aonOn then s.restart (s.u Obj.resetCause)
    else s.restart 1)

/-- RESETN (R571): a low of 1 µs or more, in nanoseconds, resets every domain; a shorter one is ignored. -/
def execResetn (ns : Nat) (s : State) : Host.Outcome State Fault Refusal :=
  .next (if ns < 1000 ∨ s.pow.on = false then s else s.restart 2)

/-- BROWN_OUT (R468): the case is recorded and counted. Cases 1 and 2 belong to keep-alive mode; after case 4 the restart
waits for VIN. -/
def execBrownOut (k : Fin 4) (s : State) : Host.Outcome State Fault Refusal :=
  .next (if s.pow.on = false ∨ (k.val < 2 ∧ s.pow.keepAlive = false) then s
    else
      let s := (s.bump Obj.brownOutCount).put Obj.resetCause 0 (k.val + 3 : Nat)
      if k.val = 3 then s.powerDown true else s.restart (k.val + 3))

/-- AON_LOST (R468, R566): VIN falls below 4.0 V, and the next start is a power-on. -/
def execAonLost (s : State) : Host.Outcome State Fault Refusal := .next (s.powerDown false)

/-! ## Supply (R566, R567) -/

/-- VIN has left its range, by 1 below or 2 above: 1018h or 1017h with the extreme in millivolts and the time outside in
milliseconds. -/
def State.logVin (s : State) (side : Nat) (mv ms : Nat) : State :=
  if s.awake Dn.ctl then s.log (if side = 2 then 0x1017 else 0x1018) (d32 mv ++ d32 ms) else s

/-- VIN leaves its range, raised at once (R566). -/
def State.vinOut (s : State) (side mv : Nat) : State :=
  if s.pow.on = false ∨ s.pow.vinState = side then s
  else
    let s := if s.pow.vinState = 0 then s
      else s.logVin s.pow.vinState s.pow.vinExtreme ((s.clk.sfn - s.pow.vinSince) / 10)
    ({ s with pow := { s.pow with vinState := side, vinExtreme := mv, vinSince := s.clk.sfn } }).logVin side mv 0

/-- VIN_ABOVE_60 (R566). -/
def execVinAbove60 (mv : Nat) (s : State) : Host.Outcome State Fault Refusal := .next (s.vinOut 2 mv)

/-- VIN_BELOW_6 (R566). -/
def execVinBelow6 (mv : Nat) (s : State) : Host.Outcome State Fault Refusal := .next (s.vinOut 1 mv)

/-- VIN_BACK_IN_OPERATING_RANGE (R566): `extreme` is the highest or lowest VIN met, in millivolts. -/
def execVinBack (extreme : Nat) (s : State) : Host.Outcome State Fault Refusal :=
  .next (if s.pow.vinState = 0 then s
    else
      let side := s.pow.vinState
      let ms := (s.clk.sfn - s.pow.vinSince) / 10
      ({ s with pow := { s.pow with vinState := 0 } }).logVin side extreme ms)

/-- OVER_VOLTAGE_LATCH_OFF (R567): every domain loses power, AON included. -/
def execOverVoltageLatchOff (s : State) : Host.Outcome State Fault Refusal :=
  let t := s.powerDown false
  .next { t with pow := { t.pow with latched := true } }

/-- LATCH_OFF_RESTART (R567): the engine starts as at power-on. -/
def execLatchOffRestart (s : State) : Host.Outcome State Fault Refusal :=
  .next (if s.pow.latched then s.restart 1 else s)

/-! ## Boot (R304, R306, R571) -/

/-- `PeerPolicy` as it resolves before the CP runs: of the standing NV dictionary record, else the factory default. -/
def State.bootPolicy (s : State) : List Byte :=
  let v : Option (Nat × Nat × List Byte) := match s.standing 2 0 with
    | none => none
    | some r => (dictValues r.payload).find? (fun x => x.1 == Obj.peerPolicy)
  match v with
  | some x => x.2.2
  | none => be 1 (s.u Obj.peerPolicy)

/-- Register 6 at boot (R306): the owner key's digest, `PeerPolicy`, the six rollback floors. -/
def State.measureConfig (s : State) : State :=
  let s := s.extend 6 s.ownerDigest
  let s := s.extend 6 (fit 64 s.bootPolicy)
  s.extend 6 (fit 64 ([1, 2, 3, 4, 5, 6].map (fun sub => byteOf (nth s.grot.floors sub 0))))

/-- A domain that runs from reset release on. -/
def State.runDomain (s : State) (d : Nat) : State := s.setDom d (fun x => { x with st := .awake, access := s.clk.sfn })

/-- RESET_RELEASE (R3, R304, R571): the straps are sampled and the Grotto boots. -/
def execResetRelease (x : BootIn) (s : State) : Host.Outcome State Fault Refusal :=
  .next (if s.pow.on = false ∨ s.pow.pgood = false ∨ s.pow.keepAlive ∨ s.u Obj.bootState ≠ 0 then s
    else
      let s := s.put Obj.deviceAddress 0 (x.straps.toNat : Nat)
      let s := [Dn.mgt, Dn.bel, Dn.svc].foldl (fun s d => s.runDomain d) s
      let s := [Dn.op .a, Dn.op .b].foldl (fun s d => s.beginWake d) s
      match x.kat with
      | some _ => s.put Obj.bootState 0 4
      | none =>
        let s := [0, 4, 6, 2, 5].foldl (fun s k => s.deriveSlot k) s
        let s := ((s.cutWrites).mount x.bad x.mountMs).applyRetirement.takeLearned x.factoryBad
        let g := s.bootImage 2
        if x.bootsel || !g.1 then g.2.put Obj.bootState 0 3
        else
          let s := wrappedSlots.foldl (fun s k => s.reloadSlot x.identity k) g.2
          let s := s.putO Obj.ownerKeyDigest 0 s.ownerDigest
          let cp := s.bootImage 1
          let s := [3, 4, 5, 6].foldl (fun s sub => (s.bootImage sub).2) cp.2
          let s := (s.measureConfig).svcWoken true false
          s.put Obj.bootState 0 (if cp.1 then 1 else 3 : Nat))

/-! ## The CP is released (R304, R439, R465, R518) -/

/-- The Allotment starts with the domains that are up (R465). -/
def State.startAllotment (s : State) : State :=
  (List.range 25).foldl (fun s d => if d = 0 ∨ s.domOff d then s else s.enter Act.domain d (domainCost d)) s

/-- A carrier begins at the base loading (R138, R164), its LO at its setting. -/
def State.startCarrier (s : State) (c : Carrier) : State :=
  let s := (s.setLoading c .rx (s.baseLoading c)).setLoading c .tx (s.baseLoading c)
  let f := s.u (on c Obj.loFrequency)
  s.setRx c (fun x => { x with lo := f, loBase := f })

/-- Contexts and avenue mode begin at their resolved values (R518). -/
def State.startLink (s : State) : State :=
  let s := (List.range 64).foldl (fun s x =>
    if s.u Obj.contextEnable x = 1 then
      [Carrier.a, Carrier.b].foldl (fun s c => s.turnCtx c .tx x true) s
    else s) s
  let carry := if s.mode = 2 then s.preferred.inst else 0
  let s := if s.mode = 2 then s.put Obj.carryingAvenue 0 (carry : Nat) else s
  s.setAv (fun a => { a with rx := Pair.both (s.mode, carry) })

/-- Addresses of the MG ports (R497). -/
def State.startPorts (s : State) : State :=
  [0, 1].foldl (fun s p => (s.assignAddress p (s.linkLocal p)).staticAddress p) s

/-- CP_RELEASE (R304, R439, R465): the CP runs, the Allotment starts and the privileged calibrations begin; `ms` is the
boot time of 9001h in milliseconds. -/
def execCpRelease (ms : Nat) (s : State) : Host.Outcome State Fault Refusal :=
  .next (if s.pow.on = false ∨ s.u Obj.bootState ≠ 1 then s
    else
      let s := (s.put Obj.bootState 0 2).startAllotment
      let used := sumNat ([1, 2, 3, 4, 5, 6].map (fun sub => s.activeSlot sub * 2 ^ (sub - 1)))
      let s := s.log 0x9001 (d32 ms ++ d8 used)
      let s := [Carrier.a, Carrier.b].foldl (fun s c => s.startCarrier c) s.dictImageApply
      let s := [0, 1, 2, 3].foldl (fun s b => s.bankSlept b) s.startLink.startPorts
      let s := (s.setGrp (fun g => { g with listening := some s.clk.sfn })).setBus 0
      let s := { s with
        mem := { s.mem with
          scrubAt := s.clk.sfn + s.u Obj.scrubPeriod * sfPerSecond
          refreshAt := s.clk.sfn + s.u Obj.refreshPeriod * daySf }
        cal := { s.cal with savedAt := s.clk.sfn } }
      s.startPriv 0 0)

/-! ## Privileged calibrations (R439, R440, R465) -/

/-- The last step of a run is done: 4010h once no part waits; at power-up the set loads of R437 follow, the check of R461
begins, and a planned shed if one is due. -/
def State.privDone (s : State) : State :=
  let s := (s.release Act.cal 0).put Obj.privCalTime 0 ((s.clk.sfn - s.cal.started) / 10 : Nat)
  let s := if s.cal.pendingParts.isEmpty then
      s.log 0x4010 (d32 (s.u Obj.privCalTime) ++ d8 (s.u Obj.privCalState 0) ++ d8 (s.u Obj.privCalState 1) ++
        d8 (s.u Obj.privCalState 2))
    else s
  let s := if s.pow.shedCheck then s
    else
      let s := [Carrier.a, Carrier.b].foldl (fun s c => s.armLoads c [0, 1, 2, 3, 4, 5, 6, 7] 0) s
      ({ s with pow := { s.pow with shedCheck := true } }).plannedShed
  [Carrier.a, Carrier.b].foldl (fun s c =>
    if s.awake (Dn.rx c) then s.beginAcq c (decide ((s.rxs c).kind ≠ .cold)) else s) s

/-- PRIV_CAL_COMPLETE (R439, R440): a step of a part ends; a step that fails runs once more, and then falls back.
`lasers` are the lasers whose locker failed. -/
def execPrivCalComplete (step : Fin 3) (part : Fin 7) (passed : Bool) (lasers : List (Fin 4)) (s : State) :
    Host.Outcome State Fault Refusal :=
  let run := (step.val, part.val)
  .next (if !s.cal.runs.contains run then s
    else if !passed && !s.cal.failed.contains run then
      { s with cal := { s.cal with failed := run :: s.cal.failed } }
    else
      let s := if passed then s.put Obj.privCalState step 2 else s.privFallback step (lasers.map (·.val))
      let s := { s with cal := { s.cal with
        runs := s.cal.runs.filter (· != run), failed := s.cal.failed.filter (· != run) } }
      let s := if step.val = 0 then (if s.pow.shedCheck then s else s.startPriv 1 0)
        else if step.val = 1 then s.startPriv 2 part
        else s
      if s.calRunning then s else s.privDone)

/-! ## Keep-alive mode (R466, R576) -/

/-- The first refuser of R452 but a pending event. -/
def State.otherRefuser (s : State) (d : Nat) : Nat :=
  if s.lockIn d then 2 else if s.hostHold d then 4 else if s.trafficHold d then 5 else 0

/-- Domains that may be awake when keep-alive is entered (R466). -/
def keepDomains : List Nat := [Dn.aon, Dn.ctl, Dn.mgt, Dn.grt, Dn.ice, Dn.bel, Dn.svc, Dn.ret]

/-- What stops an entry into keep-alive: a domain that is not off, or a refuser of GRT or ICE. -/
def State.keepAliveBar (s : State) : Option (Nat × Nat) :=
  match (List.range 25).find? (fun d => d != 0 && !keepDomains.contains d && !s.domOff d) with
  | some d => some (d, s.refuser d)
  | none => ([Dn.grt, Dn.ice].find? (fun d => s.otherRefuser d != 0)).map (fun d => (d, s.otherRefuser d))

/-- The domain sleeps at once if it is up. -/
def State.sleepNow (s : State) (d : Nat) : State := if s.domOff d then s else s.supplyOff d

/-- Keep-alive begins (R466): sessions close, the domains sleep in order, the sleep counter starts, AON holds an alarm
30,000 SF ahead of the earliest pending local entry, and no reference stays selected, so that the first valid one after
the wake re-anchors time (R61). -/
def State.keepAliveEnter (s : State) : State :=
  let s := (s.closeAll 4).log 0x2008 []
  let order := [Dn.grt, Dn.ice, Dn.bel, Dn.svc, Dn.ctl] ++ (if s.u Obj.keepAliveMgt = 1 then [] else [Dn.mgt])
  let s := order.foldl (fun s d => s.sleepNow d) s
  let due := (s.clk.entries.filter (fun e => decide (e.count = .loc))).map (·.sfn)
  let first := match due with
    | [] => none
    | n :: l => some (l.foldl min n - 30000)
  let s := { s with
    clk := { s.clk with sleepFrom := some s.now }
    pow := { s.pow with keepAlive := true, kaSince := s.clk.sfn, alarm := first }
    bel := { BelSt.start with table := s.bel.table } }
  let s := (s.put Obj.freqRefSelected 0 0).put Obj.timeRefSelected 0 0
  (s.put Obj.belState 0 0).put Obj.regulatorMode 0 1

/-- A `KeepAlive` entry at its SFN (R466): abandoned with 2009h where a check fails. -/
def State.keepAliveRun (s : State) : State :=
  match s.keepAliveBar with
  | some (d, r) => s.log 0x2009 (d8 d ++ d8 r)
  | none => s.keepAliveEnter

/-- Agreed coordinated entries that cannot run are missed, reason line down (R56, log entry 81); proposals not yet agreed
are cancelled. -/
def State.missAgreed (s : State) (due : Entry → Bool) : State :=
  (s.clk.entries.filter (fun e => e.coord && due e)).foldl (fun s e =>
    if e.st = .agreed then s.missEntry e 0 else s.cancelEntry e) s

/-- THERMAL_TRIP (R576): keep-alive at once, without the entry checks; a record is cut short and agreed coordinated
entries are missed. `peak` is the case temperature reached, in 0.01 °C. -/
def execThermalTrip (peak : Int) (s : State) : Host.Outcome State Fault Refusal :=
  .next (if s.pow.on = false ∨ s.pow.keepAlive then s
    else
      let s := (s.missAgreed (fun _ => true)).cutWrites
      let s := (List.range 25).foldl (fun s d =>
        if d = 0 ∨ keepDomains.contains d then s else s.sleepNow d) s
      let s := s.keepAliveEnter
      { s with pow := { s.pow with tripped := true, tripPeak := peak } })

/-- Time after a sleep (R60): the SFN and phase at its entry plus the count of the sleep counter, quality 3. -/
def State.carryTime (s : State) (us : Nat) : State :=
  let t := s.clk.sleepFrom.getD s.now + us * 100000000
  let s := { s with clk := { s.clk with
    sfn := t / 10000000000, tick := t % 10000000000 / 9765625, sleepFrom := none } }
  (s.put Obj.timeQuality 0 3).put Obj.timeUncertainty 0 (min (1000 + ceilDiv (5 * us) 1000) 0xFFFFFFFF : Nat)

/-- Entries whose instant passed during a sleep: local ones become pending late (R55), coordinated ones are missed. -/
def State.passedEntries (s : State) : State :=
  let gone := fun (e : Entry) => decide (s.entryInstant e ≤ s.now)
  let s := s.missAgreed gone
  s.setEntries (s.clk.entries.map (fun e => if gone e then { e with st := .pendingLate, late := true } else e))

/-- An exit source of R467 that counts: enabled in `KeepAliveWake`, source 0 only with MGT kept, source 3 only once the
alarm is reached; after a thermal trip none before AON's sensor reads below 85 °C (R576). -/
def State.wakeSource (s : State) (source us : Nat) (cool : Bool) : Bool :=
  bit (s.u Obj.keepAliveWake) source && (source != 0 || s.u Obj.keepAliveMgt == 1) &&
    (source != 3 || (match s.pow.alarm with
      | some n => decide (n * 10000000000 ≤ s.clk.sleepFrom.getD 0 + us * 100000000)
      | none => false)) && (!s.pow.tripped || cool)

/-- A domain is awake again at the end of keep-alive, its cost in the ledger. -/
def State.keepAliveWoken (s : State) (d : Nat) : State :=
  if s.domOff d then
    (((s.askPrivileged Act.domain d (domainCost d)).beginWake d).setDom d (fun x => { x with st := .awake })).touch d
  else s

/-- KEEP_ALIVE_EXIT (R467, R576): CTL, MGT and BEL return, time runs on, and the Belvedere calibration runs again.
`us` is the count of the sleep counter, `bad` the retention banks of CTL that fail, `cool` that AON's sensor reads below
85 °C. -/
def execKeepAliveExit (source : Fin 4) (us : BitVec 48) (bad : List (Fin 16)) (cool : Bool) (s : State) :
    Host.Outcome State Fault Refusal :=
  .next (if s.pow.keepAlive = false ∨ s.wakeSource source us.toNat cool = false then s
    else
      let s := (s.carryTime us.toNat).put Obj.regulatorMode 0 0
      let s := { s with pow := { s.pow with keepAlive := false, alarm := none } }
      let s := ((s.keepAliveWoken Dn.ctl).keepAliveWoken Dn.mgt).clearDomainSram Dn.ctl
      let (_, lost, s) := s.retentionCheck Dn.ctl (bad.map (·.val))
      let s := (s.ctlWoken lost).passedEntries
      let s := { s with cal := { s.cal with pendingParts := [1, 2, 3, 4, 5, 6], lockerBad := [], delayExtra := 0 } }
      let s := (s.setGrp (fun _ => { GroupSt.start with listening := some s.clk.sfn })).setBus 0
      let s := s.log 0x2008 (d8 source)
      let s := if s.pow.tripped then
          let ms := (s.clk.sfn - s.pow.kaSince) / 10
          let t := (s.bump Obj.tripCount).log 0x1016 (i16 s.pow.tripPeak ++ d32 ms)
          { t with pow := { t.pow with tripped := false } }
        else s
      s.startPriv 0 0)

end Sys2Proof.Machine
end

