-- ==== Sys2Proof/Machine/FootRx.lean ====
section
/-! DEFINITION. What a footpath packet does when its CRC-32 ends it (R387, R392, R395). -/

namespace Sys2Proof.Machine

/-- A packet type's payload length is right (R387). -/
def footFormat (typ len : Nat) : Bool :=
  if typ = 1 then len == 32 else if typ = 2 then len == 16 else if typ = 3 ∨ typ = 4 then len == 8
  else typ == 5 && decide (len ≤ 256)

/-- A good packet of a type is acted on (R395): a Hello, a view record, a Keeper order, a loading reset, a host
message. -/
def State.footAct (s : State) (c : Carrier) (typ source : Nat) (data : List Byte) : State :=
  if typ = 1 then s.helloHeard c source data
  else if (s.ft c).neighbour ≠ some source then s.bump (on c Obj.notForUsCount)
  else if typ = 2 then s.farRecordHeard data
  else if typ = 3 then s.keeperOrder data false
  else if typ = 4 then s.enterReset (resetEntry c .tx (ofBe data) 1)
  else s.putO (on c Obj.footpathReceive) 0 (be 2 source ++ be 8 s.clk.sfn ++ be 2 data.length ++ data)

/-- FOOTPATH_PACKET_END: the CRC-32 ends a packet, which is discarded or acted on (R387, R392, R395); level and SNR in
0.1 dB as `LastRxLevel` and `LastRxSnr` report them. -/
def execFootpathPacketEnd (c : Carrier) (payload : List Byte) (check : BitVec 32) (level snr : Int) (s : State) :
    Host.Outcome State Fault Refusal :=
  let h := (s.ft c).header
  let typ := ofBe (slice h 0 1)
  let source := ofBe (slice h 4 2) % 8192
  let dest := ofBe (slice h 6 2)
  let own := s.u Obj.deviceAddress
  .next (if s.rxState c ≠ 4 then s
    else if payload.length ≠ ofBe (slice h 2 2) ∨ crc32 (h ++ payload) ≠ check.toNat then
      (s.bump (on c Obj.crcFailCount)).footSearch c
    else
      let s := ((s.bump (on c Obj.rxPacketCount)).occur 0xD080 { carrier := some c, cls := some 3 })
      let s := (s.put (on c Obj.lastRxLevel) 0 level).put (on c Obj.lastRxSnr) 0 snr
      let s := if !footFormat typ payload.length then s.bump (on c Obj.formatErrorCount)
        else if source = own then s.bump (on c Obj.echoCount)
        else if dest ≠ own ∧ dest ≠ 0xFFFF then s.bump (on c Obj.notForUsCount)
        else s.footAct c typ source payload
      s.footSearch c)

end Sys2Proof.Machine
end

