-- ==== Sys2Proof/Machine/Store.lean ====
section
/-! DEFINITION. Errors of the SRAM and their owners' recovery (R474 to R478), and the commit of an Icehouse record (R485
to R489). -/

namespace Sys2Proof.Machine

/-! ## Strong and retention words (R474 to R476) -/

/-- Address of the first octet of a word. -/
def hitAddr (x : SramHit) : Nat := x.bank.val * bankSize + 4 * x.word.val

/-- A poisoned Sundial entry is freed (R476): coordinated ones are missed, engine-generated ones dropped. -/
def State.entryPoison (s : State) (n : Nat) : State :=
  match s.clk.entries.find? (fun e => e.num == n) with
  | none => s
  | some e =>
    if e.coord then s.missEntry e 2
    else if e.write = 0 then (s.freeEntry e).dropEvent e 3
    else s.cancelEntry e

/-- A poisoned live value is lost, and its object resolves under R18 (R476). -/
def State.dictPoison (s : State) (o m addr : Nat) : State :=
  (s.dropLive (okey o m)).log 0xB003 (d32 addr ++ d16 o ++ d8 m)

/-- What the owner of a poisoned word does at once (R476). -/
def State.ownerPoison (s : State) (addr : Nat) : Content → State
  | .setData => s
  | .sliceTerms c k i => s.armLoad c k i 5
  | .firmware _ => s
  | .microcode b => s.poolPoison b addr
  | .shiftTables => s.setPool (fun p => { p with masterBad := true })
  | .masterUcode => s.setPool (fun p => { p with masterBad := true })
  | .tfeFixed j => s.svcPoison 1 j addr
  | .tfeUser j => s.svcPoison 2 (6 + j.val) addr
  | .sequence k => s.svcPoison 3 k addr
  | .userImage => s
  | .dictValue o m => s.dictPoison o.toNat m.toNat addr
  | .keySlot k => s.slotPoison k.toNat
  | .linkKey c d k => s.keyPoison c d k
  | .taps c n => (s.eqPoison c 0 addr n).logC c 0xB004 (d32 addr ++ d8 0)
  | .filter c => (s.eqPoison c 1 addr 0).logC c 0xB004 (d32 addr ++ d8 1)
  | .eqLoop c => (s.eqPoison c 2 addr 0).logC c 0xB004 (d32 addr ++ d8 2)
  | .iqTerm c i => (s.eqPoison c 3 addr i).logC c 0xB004 (d32 addr ++ d8 3)
  | .belLoop => s.belPoison 0 0
  | .belHistory => s.belPoison 1 0
  | .refEntry m => s.belPoison 2 m
  | .entry n => s.entryPoison n
  | .counter n => s.countersLost [n.val] 1
  | .snapshot b n => s.snapPoison b n
  | .other => s

/-- The word waits for its owner's reload (R476). -/
def reloads : Content → Bool
  | .setData => true
  | .firmware _ => true
  | .microcode _ => true
  | .shiftTables => true
  | .masterUcode => true
  | .tfeFixed _ => true
  | .sequence _ => true
  | .userImage => true
  | _ => false

/-- The word stays poisoned without a reload of its own: a slot's until the slot is loaded again (R319), and one that no
owner of R476 recovers until a write replaces it (R474). -/
def State.awaits (s : State) (x : Content) : Bool :=
  match x with
  | .keySlot k => s.grot.reload.contains k.toNat
  | .other => true
  | _ => false

/-- A read finds an error in a strong or retention word (R474, R478); light regions correct nothing (R472). A word of a
retention bank stays poisoned until the bank is checked (R481). -/
def State.sramHit (s : State) (x : SramHit) (scrubber : Bool) : State :=
  let b := x.bank.val
  if bankRegion b = 1 then s
  else if x.uncorrectable then
    let s := s.sramPoisoned b (hitAddr x) scrubber
    let keep := s.mem.poison.filter (fun p => p.1 != (hitAddr x))
    if bankRegion b = 2 then { s with mem := { s.mem with poison := keep ++ [((hitAddr x), x.content)] } }
    else
      let s := { s with mem := { s.mem with poison := keep } }.ownerPoison (hitAddr x) x.content
      if reloads x.content || s.awaits x.content then
        { s with mem := { s.mem with poison := s.mem.poison ++ [((hitAddr x), x.content)] } }
      else s
  else s.sramCorrected b (hitAddr x)

/-- SRAM_ERROR (R474): `scrubber` says who found it. -/
def execSramError (x : SramHit) (scrubber : Bool) (s : State) : Host.Outcome State Fault Refusal :=
  .next (s.sramHit x scrubber)

/-- SCRUB_PASS (R475): a pass over every valid strong word of the awake domains and every retention bank, with the errors
it found and its time in milliseconds. The next begins a period after it began, or at once when it overran. -/
def execScrubPass (ms : Nat) (found : List SramHit) (s : State) : Host.Outcome State Fault Refusal :=
  .next (if s.clk.sfn < s.mem.scrubAt + sfOfMs ms ∨ s.awake Dn.ctl = false then s
    else
      let reads := fun (x : SramHit) => bankRegion x.bank == 2 || s.awake (bankDomain x.bank)
      let s := (found.filter reads).foldl (fun s x => s.sramHit x true) s
      let next := s.mem.scrubAt + s.u Obj.scrubPeriod * sfPerSecond
      let s := { s with mem := { s.mem with scrubAt := max next s.clk.sfn } }
      s.put Obj.scrubPassTime 0 (ms : Nat))

/-- A reload replaces a poisoned word (R476, R443): B003h with the address, and for set data 4016h. -/
def State.reloadWord (s : State) (addr : Nat) (x : Content) : State :=
  let s := match x with
    | .setData => s.log 0x4016 (d32 addr)
    | .sequence k => s.svcEntryReloaded k
    | .userImage =>
      (match s.standing 2 0 with
       | some r => s.takeUser r.payload
       | none => s)
    | _ => s
  s.log 0xB003 (d32 addr)

/-- An entry of the Sundial belongs to the subsystem that owns a content (R476): images of its code, and what else acts on
it. -/
def contentOwns (x : Content) (e : Entry) : Bool :=
  let image := fun (sub : Nat) => decide (e.kind = .imageActivation) && e.mem == sub
  match x with
  | .setData => decide (e.kind = .sliceSwap) || decide (e.kind = .calWindow)
  | .firmware k => image (nth [1, 3, 5] k 1)
  | .microcode _ => image 4
  | .shiftTables => image 4
  | .masterUcode => image 4
  | .tfeFixed _ => image 6
  | .sequence _ => image 6 || decide (e.kind = .injectTrigger)
  | _ => false

/-- The present boundary is safe for a reload: not the SFN of an entry of the owner (R476). -/
def State.safeFor (s : State) (x : Content) : Bool :=
  s.clk.tick == 0 && s.clk.entries.all (fun e => !(decide (e.count = .loc) && e.sfn == s.clk.sfn && contentOwns x e))

/-- POISON_RELOAD (R476): at the next safe boundary the owner's data is back. -/
def execPoisonReload (addr : Nat) (s : State) : Host.Outcome State Fault Refusal :=
  .next (match s.mem.poison.find? (fun p => p.1 == addr) with
    | none => s
    | some (_, x) =>
      if reloads x = false ∨ 1408 * bankSize ≤ addr ∨ s.safeFor x = false then s
      else
        let s := { s with mem := { s.mem with poison := s.mem.poison.filter (fun p => p.1 != addr) } }
        s.reloadWord addr x)

/-! ## Light bytes (R477) -/

/-- LIGHT_PARITY_ERROR (R477): counted against the bank. On a decoder slot the error makes erasures (R189), scratch of a
filter channel it unsettles (R426); on plot and reorder buffers it shows in the seal that covers the byte (R225). -/
def execLightParityError (bank : Fin 1536) (offset : Fin 262144) (x : LightContent) (s : State) :
    Host.Outcome State Fault Refusal :=
  let addr := bank.val * bankSize + offset.val
  .next (if bankRegion bank ≠ 1 then s
    else
      let s := s.setBank bank (fun b => { b with parity := b.parity + 1 })
      if bank.val < 960 then s.slotParity addr
      else match x with
        | .scratch j => s.svcPoison 0 j addr
        | .buffer => s)

/-! ## The commit of a record (R485 to R489) -/

/-- What a record's type makes of its commit. -/
def State.recordCommitted (s : State) (j : IceJob) : State :=
  let r := j.recd
  if j.copy then s
  else if r.typ = 1 then s.imageCommitted r.subject r.payload j.asker
  else if r.typ = 2 then s.dictCommitted r.payload r.seq j.asker
  else if r.typ = 3 then s.calSaved
  else if r.typ = 7 then s.snapCommitted r.subject (ofBe (slice r.payload 4 4))
  else s

/-- A block that was being relocated is erased once its records are committed again, or retired (R489, R493). -/
def State.movedOn (s : State) (seq region : Nat) : State :=
  let step := fun (m : Nat × List Nat) => if regionOf m.1 = region then (m.1, m.2.filter (· != seq)) else m
  let l := s.mem.moving.map step
  let done := l.filter (fun m => m.2.isEmpty)
  let s := { s with mem := { s.mem with moving := l.filter (fun m => !m.2.isEmpty) } }
  done.foldl (fun s m => if s.mem.retireBlocks.contains m.1 then s.blockRetired m.1 else s.beginErase m.1) s

/-- COMMIT_MARKER_PROGRAMMED (R484, R485): every page of the record under way and now its marker are programmed: it is
committed, and those that wait for it go on. -/
def execCommitMarkerProgrammed (s : State) : Host.Outcome State Fault Refusal :=
  .next (match s.mem.queue with
    | [] => s
    | j :: l =>
      if s.awake Dn.ice = false ∨ j.done < j.recd.pages then s
      else
        let s := ((s.program j.recd j.recd.pages).countSectors 0xB082 (j.recd.page j.recd.pages)).touch Dn.ice
        let r := { j.recd with committed := true }
        let s := { s with mem := { s.mem with queue := l, recs := s.mem.recs ++ [r] } }
        ((s.recordCommitted j).movedOn r.seq r.region).tidy r.region)

end Sys2Proof.Machine
end

