-- ==== Sys2Proof/Machine/CoreRx.lean ====
section
/-! DEFINITION. What a received overhead core does (R204): frame lock and the received count (R212, R213, R264),
coordination messages (R46, R47, R49, R207), announcements and trial decode (R158), the map (R229), and the other
fields of the core. -/

namespace Sys2Proof.Machine

/-! ## The core (R202, R204) -/

/-- A core, sparse by word; words not listed are 0. -/
abbrev Core := List (Nat × Nat)

/-- A word of a core. -/
def Core.word (k : Core) (i : Nat) : Nat := (assocGet k i).getD 0

/-- CRC-64 of a core: over words 0 to 3,069 (R204). -/
def Core.check (k : Core) : Nat := crc64 (((List.range 3070).map (fun i => be 4 (k.word i))).flatten)

/-- A core with the alignment word and its CRC-64 in place. -/
def Core.sealed (k : Core) : Core :=
  let k : Core := assocSet (assocSet k 0 0xA7C35E19) 1 0xD04B862F
  k ++ [(3070, k.check / 2 ^ 32), (3071, k.check % 2 ^ 32)]

/-- A core is valid: its alignment word matches and its CRC checks (R204). -/
def Core.valid (k : Core) : Bool :=
  k.word 0 == 0xA7C35E19 && k.word 1 == 0xD04B862F && k.word 3070 * 2 ^ 32 + k.word 3071 == k.check

/-- SFN of a core's frame. -/
def Core.sfn (k : Core) : Nat := k.word 2 * 2 ^ 32 + k.word 3

/-- Loading generation that a core shows (R203). -/
def Core.gen (k : Core) : Nat := bits (k.word 4) 15 8

/-- Octets of some words of a core. -/
def Core.octets (k : Core) (start n : Nat) : List Byte :=
  ((List.range n).map (fun i => be 4 (k.word (start + i)))).flatten

/-! ## The received count (R36, R48, R56, R213, R264) -/

/-- Receive counters pass some frames under the agreed map, and a context whose counter is full stops (R264, R268). -/
def State.passFrames (s : State) (c : Carrier) (plots n : Nat) : State :=
  (s.countersPass c .rx (s.fr c).rxMap plots n).stopCheck c .rx (s.fr c).rxMap plots

/-- What an agreed entry that was missed changes all the same, for the counters that pass its SFN (R48, R264). -/
def State.applyMissed (s : State) (c : Carrier) (e : Entry) : State :=
  match e.kind with
  | .mapChange => s.applyMap c .rx e.data
  | .contextSwitch => s.setOn c .rx e.key (nth e.data 0 0 == 1)
  | .keyRoll => s.applyRoll c .rx e.key (nth e.data 0 0) (nth e.data 1 0) (nth e.data 2 0)
  | .modeChange => s.modeChangeRx c (nth e.data 0 0) (nth e.data 1 0)
  | .plannedSwitch => s.switchRx e
  | _ => s

/-- Missed entries in the order in which they would have run (R50). -/
def missedOrder (l : List Entry) : List Entry :=
  l.mergeSort (fun x y => decide (x.sfn < y.sfn) || (x.sfn == y.sfn &&
    (decide (x.kind.code < y.kind.code) || (x.kind.code == y.kind.code && decide (x.key ≤ y.key)))))

/-- The received count reaches an SFN (R264): the counters pass every SFN since the last, each under the entries agreed
for it. A count that stepped back passes nothing again (R213). -/
def State.passTo (s : State) (c : Carrier) (n : Nat) : State :=
  let s := s.put (on c Obj.rxSfn) 0 (n : Nat)
  let last := (s.fr c).ranTo
  if n ≤ last then s
  else
    let plots := s.u (on c Obj.rxPlotCapacity)
    let due := missedOrder ((s.fr c).missed.filter (fun e => decide (last < e.sfn) && decide (e.sfn ≤ n)))
    let acts : List (Nat × Option Entry) := due.map (fun e => (e.sfn, some e))
    let acts := match (s.rt c).rxAt with
      | some t => if t ≤ n then acts.filter (fun (x : Nat × Option Entry) => decide (x.1 < t)) ++ (t, none) ::
          acts.filter (fun (x : Nat × Option Entry) => decide (t ≤ x.1)) else acts
      | none => acts
    let pass := fun (s : State) (plots k : Nat) => if last = 0 then s else s.passFrames c plots k
    let r := acts.foldl (fun (a : State × Nat × Nat) (x : Nat × Option Entry) =>
      let s := pass a.1 a.2.2 (x.1 - a.2.1)
      match x.2 with
      | some e => if last = 0 then a
          else (s.applyMissed c e, x.1, if e.kind = Kind.loadingChange then (loadingOf e.data).plots else a.2.2)
      | none => ((s.installDir c .rx).setRt c (fun x => { x with rxAt := none }), x.1, a.2.2)) (s, last, plots)
    let s := pass r.1 r.2.2 (n - r.2.1)
    s.setFr c (fun f => { f with ranTo := n, missed := f.missed.filter (fun e => decide (n < e.sfn)) })

/-- Entries of a received count whose SFN the count skips: coordinated ones are missed with the line down (R48, R56,
R213), ADC swaps cancelled (R85), set loads moved on (R54). -/
def State.skipTo (s : State) (c : Carrier) (n : Nat) : State :=
  let l := s.clk.entries.filter (fun e => decide (e.count = .rx c) && decide (e.sfn ≤ n))
  l.foldl (fun s e =>
    if e.coord then
      let s := s.missEntry e 0
      if e.st = .agreed then s.setFr c (fun f => { f with missed := f.missed ++ [e] }) else s
    else if e.kind = .sliceSwap then
      if e.key / 65536 = 255 then s.moveLater { e with sfn := n } else s.cancelSwap c (e.key % 256) 2
    else s) s

/-- A loading reset whose received SFN has been skipped took effect if the loading now in force is the base; otherwise
its request failed and may be repeated (R159). -/
def State.settleResets (s : State) (c : Carrier) : State :=
  let l := s.clk.entries.filter (fun e => e.isReset && decide (e.count = .rx c) &&
    decide (e.sfn ≤ s.u (on c Obj.rxSfn)))
  l.foldl (fun s e =>
    if (s.loading c .rx).words = (s.baseLoading c).words ∧ (s.loading c .rx).gen = (s.baseLoading c).gen then
      (s.freeEntry e).resetRun c e
    else s.cancelEntry e) s

/-! ## Frame lock (R212, R213) -/

/-- Frame lock is gained with a core (R212). -/
def State.gainLock (s : State) (c : Carrier) (k : Core) : State :=
  let s := s.put (on c Obj.frameLock) 0 1
  let s := s.setFr c (fun f => { f with
    lockedAt := s.clk.sfn, validRun := 0, invalidRun := 0, jumpRun := 0 })
  let s := s.logC c 0x7001 (d64 k.sfn)
  let s := ((s.skipTo c k.sfn).passTo c k.sfn).settleResets c
  let s := s.setLd c (fun l => { l with lastForce := none, cand := 0 })
  let mode := bits (k.word 4) 17 16
  let s := if (s.av.rx.get c).1 = mode then s
    else s.setAv (fun a => { a with rx := a.rx.set c (mode, if mode = 2 then bits (k.word 26) 31 30 else 0) })
  let s := ((s.rotationCount c true).mocRestart c).agreeAtLock c
  (s.asymAtLock c).rotationState c

/-- A valid core is judged against the received count (R159, R212, R213): whether its fields are acted on, and the state
after. -/
def State.judgeCore (s : State) (c : Carrier) (k : Core) : Bool × State :=
  let f := s.fr c
  let n := k.sfn
  if s.u (on c Obj.frameLock) = 0 then
    if s.lock c ≠ 7 then (false, s)
    else if k.gen ≠ (s.loading c .rx).gen then (false, s.setFr c (fun f => { f with validRun := 0 }))
    else
      let run := if f.validRun ≠ 0 ∧ n = f.lastSfn + 1 then f.validRun + 1 else 1
      let s := s.setFr c (fun f => { f with validRun := run, lastSfn := n })
      if run < 3 then (false, s) else (true, s.gainLock c k)
  else
    let s := s.setFr c (fun f => { f with invalidRun := 0 })
    let want := s.u (on c Obj.rxSfn)
    if n = want then (true, s.setFr c (fun f => { f with jumpRun := 0 }))
    else
      let run := if f.jumpRun ≠ 0 ∧ n = f.jumpSfn + 1 then f.jumpRun + 1 else 1
      let s := s.setFr c (fun f => { f with jumpRun := run, jumpSfn := n })
      if run < 3 then (false, s)
      else
        let s := s.setFr c (fun f => { f with jumpRun := 0 })
        let s := s.logC c 0x7003 (d64 want ++ d64 n)
        (true, ((s.skipTo c n).passTo c n).settleResets c)

/-! ## Coordination messages (R46, R47, R49, R205, R207) -/

/-- The message in a coordination slot, none where it is empty (R205). -/
def Core.message (k : Core) (slot : Nat) : Option CoordMsg :=
  let at_ := 320 + 32 * slot
  let w0 := k.word at_
  let w1 := k.word (at_ + 1)
  let typ := bits w0 31 29
  match kindOf (bits w0 28 24) with
  | none => none
  | some kind =>
    if typ = 0 ∨ 4 < typ then none
    else some { typ := typ, kind := kind, away := bit w0 23, number := bits w0 15 0
                target := k.word (at_ + 2) * 2 ^ 32 + k.word (at_ + 3), status := bits w1 31 16
                body := (k.octets (at_ + 4) 28).take (bits w1 15 0), first := 0, last := 0 }

/-- Direction of a message of the far end's own proposal, seen from here (R205). -/
def CoordMsg.farDir (m : CoordMsg) : Dir := if m.away then .rx else .tx

/-- Direction of a message about a proposal of this engine. -/
def CoordMsg.ownDir (m : CoordMsg) : Dir := if m.away then .tx else .rx

/-- First word of a body. -/
def CoordMsg.b0 (m : CoordMsg) : Nat := ofBe (fit 4 m.body)

/-- What the body of a proposal says: status that refuses it by its contents, the octets that go with that, key and data
of its entry (R155, R206, R270, R276, R354, R375, R586). -/
def State.contentsOf (s : State) (c : Carrier) (m : CoordMsg) : Nat × List Byte × Nat × List Nat :=
  let d := m.farDir
  let b := m.b0
  match m.kind with
  | .loadingChange =>
    let l := loadingOfBody m.body
    let l := { l with mapGen := if l.shed = 0 ∧ l.restore = 0 then 0 else nextGen (s.mapGenBase c d) }
    let r := s.checkLoading c d l
    (if m.body.length = 52 then r.1 else 0x0301, if r.2 then s.capBody c else [], 0, l.data)
  | .mapChange => (if m.body.length = 44 then s.mapStatus c d (mapOfBody m.body) else 0x0301, [], 0,
      (mapOfBody m.body).data)
  | .contextSwitch => (if bits b 31 25 < 64 then 0 else 0x0301, [], bits b 31 25, [bits b 24 24])
  | .keyRoll =>
    let root := ofBe (slice m.body 4 8)
    let x := bits b 31 25
    (if 64 < x then 0x0301 else s.checkRoll c d x (bits b 15 0) root (bit b 24), [], x,
      [bits b 15 0, root, bits b 23 21, bits b 24 24])
  | .modeChange => (s.checkMode (bits b 31 30) (bits b 29 28), [], 0, [bits b 31 30, bits b 29 28])
  | .plannedSwitch => (s.checkSwitch (bits b 31 30) (bits b 29 27), [], 0, [bits b 31 30, bits b 29 27])
  | _ => (0x0301, [], 0, [])

/-- The Allotment's answer to a far end's proposal (R163, R284, R285), and the state with the cost held. -/
def State.proposalCost (s : State) (c : Carrier) (e : Entry) : Nat × State :=
  match e.kind with
  | .loadingChange =>
    if e.dir = .rx then
      let a := s.askRaise c (s.codesOf c (s.loadingBase c .rx)) (s.codesOf c (loadingOf e.data))
      (if a.1 = 0 then 0 else 0x0402, a.2)
    else (0, s)
  | .mapChange =>
    let a := s.askMapCost c e.dir { carried := nth e.data 1 0, sizes := e.data.drop 4, plots := nth e.data 2 0
                                    gen := nth e.data 0 0 }
    (if a.1 = 0 then 0 else 0x0402, a.2)
  | .contextSwitch => s.checkOn c e.dir e.key (nth e.data 0 0 == 1)
  | _ => (0, s)

/-- The entry that a far end's proposal makes here (R46). -/
def farEntry (c : Carrier) (m : CoordMsg) (key : Nat) (data : List Nat) : Entry :=
  { Entry.base m.kind m.target with
    coord := true, st := .agreed, src := 1, carrier := some c, count := countOf c m.farDir, dir := m.farDir
    prop := m.number, key := key, data := data }

/-- Own proposals of the same kind, carrier and item that a far end's proposal crosses (R49). -/
def State.crossed (s : State) (e : Entry) : List Entry :=
  s.clk.entries.filter (fun x => decide (x.st = .proposed) && x.src != 1 && decide (x.kind = e.kind) &&
    decide (x.carrier = e.carrier) && x.key == e.key && s.clash e x)

/-- A reply goes out in every frame while the proposal is received, and in the 4 frames after (R207, R585): one that is
already going out goes on from where it began. It is remembered by its number. -/
def State.reply (s : State) (c : Carrier) (m : CoordMsg) : State :=
  let next := s.nextCoreSfn
  let first := match (s.fr c).coordOut.find? (fun x => x.number == m.number && x.typ == m.typ && x.away == m.away) with
    | some x => min x.first next
    | none => next
  let m := { m with first := first, last := next + 4 }
  (s.setFr c (fun f => { f with
    replies := m :: f.replies.filter (fun x => !(x.number == m.number && x.away == m.away) &&
      decide (s.clk.sfn ≤ x.target + s.u (on c Obj.coordLeadMin) + 8)) })).sendCoord c m

/-- A far end's proposal is accepted: its entry stands as agreed (R46), with what belongs to its kind. -/
def State.acceptProposal (s : State) (c : Carrier) (e : Entry) : State :=
  let s := if e.kind = .loadingChange then s.yieldSwaps e else s
  let s := (s.addEntry e).2
  match e.kind with
  | .loadingChange =>
    let s := s.impliedMap e
    if e.dir = .rx then s.setLd c (fun l => { l with held := l.held ++ [(e.sfn, loadingOf e.data)] }) else s
  | .keyRoll => s.rollAgreed c e.dir e.key (nth e.data 0 0) (nth e.data 1 0)
  | _ => s

/-- PROPOSAL_RECEIVED (R46, R49): a new proposal is checked, then agreed or refused; a copy gets the reply given. -/
def State.proposalHeard (s : State) (c : Carrier) (m : CoordMsg) : State :=
  match (s.fr c).replies.find? (fun x => x.number == m.number && x.away == m.away && decide (x.kind = m.kind) &&
      x.target == m.target) with
  | some r => s.reply c r
  | none =>
    let (code, extra, key, data) := s.contentsOf c m
    let e := farEntry c m key data
    let rivals := s.crossed e
    let others := s.setEntries (s.clk.entries.filter (fun x => !rivals.any (fun y => y.num == x.num)))
    let crossing := !rivals.isEmpty && others.fits e
    let own := s.isLower c
    let s := if crossing then
        s.logEntry 0xE007 e (d16 (if own then s.u Obj.deviceAddress else bits (s.farWord c 4) 31 19))
      else s
    let fits := if crossing then !own else s.fits e
    let first := firstFault [code, if s.clk.sfn + horizon < m.target then 0x0301 else 0,
      if m.target ≤ s.clk.sfn + 4 then 0x0501 else 0, if s.lineUp c && fits then 0 else 0x0502]
    let code := if m.kind = .loadingChange ∧ code ≠ 0 then code else first
    let refusal : Nat → List Byte → CoordMsg := fun code body => { m with typ := 3, status := code, body := body }
    if code ≠ 0 then s.reply c (refusal code (if code = 0x0301 then extra else []))
    else
      let a := s.proposalCost c e
      if a.1 ≠ 0 then a.2.reply c (refusal a.1 [])
      else if a.2.tableFull e then (a.2.entryGone e).reply c (refusal 0x0801 [])
      else (a.2.acceptProposal c e).reply c { m with typ := 2, status := 0, body := [] }

/-- The entry of this engine's own proposal that a message names. -/
def State.ownEntry (s : State) (c : Carrier) (m : CoordMsg) : Option Entry :=
  s.clk.entries.find? (fun e => e.coord && e.src != 1 && decide (e.carrier = some c) && e.prop == m.number &&
    decide (e.kind = m.kind) && decide (e.dir = m.ownDir) && e.sfn == m.target)

/-- AGREE_RECEIVED: the entry is agreed and the waiting write answered (R46). -/
def State.agreeHeard (s : State) (c : Carrier) (m : CoordMsg) : State :=
  match s.ownEntry c m with
  | none => s
  | some e =>
    if e.st ≠ .proposed then s
    else
      let e := { e with st := .agreed }
      let s := (s.setEntry e.num (fun _ => e)).dropCoord c 1 e.prop
      let s := match e.kind with
        | .loadingChange => s.impliedMap e
        | .keyRoll => s.rollAgreed c e.dir e.key (nth e.data 0 0) (nth e.data 1 0)
        | _ => s
      s.answerAgreed e

/-- REFUSE_RECEIVED: the entry is freed, E004h logged, and the status returned (R46). -/
def State.refuseHeard (s : State) (c : Carrier) (m : CoordMsg) : State :=
  match s.ownEntry c m with
  | none => s
  | some e =>
    if e.st ≠ .proposed then s
    else
      let s := ((s.freeEntry e).entryGone e).dropCoord c 1 e.prop
      let s := s.logEntry 0xE004 e (d16 m.status)
      let s := if e.kind = .loadingChange then s.loadingRefused c e m.status m.body else s
      s.answerFailed e m.status

/-- CANCEL_RECEIVED: the entry that a far end's cancel names is freed, with every entry of the write that made it (R47,
R513). -/
def State.cancelHeard (s : State) (c : Carrier) (m : CoordMsg) : State :=
  let far := s.clk.entries.find? (fun e => e.coord && e.src == 1 && decide (e.carrier = some c) && e.prop == m.number &&
    decide (e.kind = m.kind) && decide (e.dir = m.farDir) && e.sfn == m.target)
  match far with
  | some e => ((s.cancelEntry e).entryGone e).loadingFailed c e
  | none =>
    match s.ownEntry c m with
    | none => s
    | some e =>
      let s := (((s.cancelEntry e).entryGone e).dropCoord c 1 e.prop).loadingFailed c e
      s.answerFailed e 0x0502

/-- A message of a coordination slot is acted on. -/
def State.messageHeard (s : State) (c : Carrier) (m : CoordMsg) : State :=
  if m.typ = 1 then s.proposalHeard c m
  else if m.typ = 2 then s.agreeHeard c m
  else if m.typ = 3 then s.refuseHeard c m
  else s.cancelHeard c m

/-! ## Announcements and trial decode (R158, R159, R208) -/

/-- A change that was cancelled here and stands at the transmitter is reinstated (R158): its entry, and the map change
it implies; 5014h names the generation and 0 announcement, 1 trial decode. A change that cannot stand in its SF is missed
(R51, R53, log entry 44). -/
def State.reinstate (s : State) (c : Carrier) (n : Nat) (l : Loading) : State :=
  let e := { Entry.base .loadingChange n with
    coord := true, st := .agreed, carrier := some c, count := .rx c, dir := .rx, data := l.data }
  let s := (s.logC c 0x5014 (d8 l.gen ++ d8 0 ++ d8 0)).yieldSwaps e
  if s.tableFull e then s.dropEvent e 2
  else if s.fits e then ((s.addEntry e).2).impliedMap e
  else (s.bump Obj.missedCount).logEntry 0xE002 e (d8 0)

/-- A loading mismatch (R158, R159): counted and logged once while a reset requested for it is still to come. -/
def State.loadingMismatch (s : State) (c : Carrier) : State :=
  let waits : Bool := match (s.ld c).resetAt with
    | some t => decide (s.clk.sfn ≤ t)
    | none => false
  if waits then s
  else ((s.bump (on c Obj.mismatchCount)).logC c 0x501B (d8 0 ++ d8 1 ++ d8 0)).requestReset c

/-- LOADING_ANNOUNCEMENT (R158). -/
def State.announced05 (s : State) (c : Carrier) (n gen : Nat) : State :=
  let stands := (s.changes c .rx).any (fun e => e.sfn == n && decide (e.st = .agreed) && (loadingOf e.data).gen == gen)
  if stands ∨ n ≤ s.u (on c Obj.rxSfn) then s
  else
    match (s.ld c).held.find? (fun h => h.1 == n && h.2.gen == gen) with
    | some h => if (s.changes c .rx).any (fun e => e.sfn == n) then s else s.reinstate c n h.2
    | none => s.loadingMismatch c

/-- The announcements of a core (R208); only those of loading changes have an effect that the spec gives. -/
def State.announcements (s : State) (c : Carrier) (k : Core) : State :=
  (List.range 64).foldl (fun s i =>
    let at_ := 64 + 4 * i
    if bits (k.word at_) 31 27 = 5 then
      s.announced05 c (k.word (at_ + 2) * 2 ^ 32 + k.word (at_ + 3)) (k.word (at_ + 1) % 256)
    else s) s

/-- TRIAL_DECODE (R158): the overhead of frame n passed under the new loading of a change whose announcements were all
lost; the change applies with that frame. -/
def State.trialDecode (s : State) (c : Carrier) (k : Core) : State :=
  match (s.ld c).held.find? (fun h => h.1 == k.sfn && h.2.gen == k.gen) with
  | none => s
  | some (_, l) =>
    if k.gen = (s.loading c .rx).gen then s
    else
      let s := (s.logC c 0x5014 (d8 l.gen ++ d8 1 ++ d8 0)).applyLoading c .rx l
      if l.shed = 0 ∧ l.restore = 0 then s else s.applyMap c .rx [l.mapGen, l.shed, l.restore, 1]

/-! ## The map (R229) -/

/-- Size codes that a core shows. -/
def Core.sizes (k : Core) : List Nat := sizesOf (k.octets 34 8)

/-- Carried mask that a core shows. -/
def Core.carried (k : Core) : Nat := k.word 32 * 2 ^ 32 + k.word 33

/-- The core of a standby's idle frame (R202, R356): spare mode, another avenue carries, and a carried mask of 0. -/
def Core.idleOf (k : Core) (c : Carrier) : Bool :=
  bits (k.word 4) 17 16 == 2 && bits (k.word 26) 31 30 != c.inst && k.carried == 0

/-- MAP_MISMATCH (R229): a valid core that differs from the agreed map is followed. The mask of an idle frame says
nothing about the map (R356). -/
def State.followMap (s : State) (c : Carrier) (k : Core) : State :=
  let m := (s.fr c).rxMap
  let carried := if k.idleOf c then m.carried else k.carried
  let sizes := (List.range 64).map (fun x => if bit carried x then nth k.sizes x 0 else nth m.sizes x 0)
  let new : CMap := { carried := carried, sizes := sizes, plots := bits (k.word 5) 23 16, gen := bits (k.word 5) 31 24 }
  let same := m.carried == carried && (m.clients.all (fun x => nth m.sizes x 0 == nth k.sizes x 0)) &&
    s.u (on c Obj.rxPlotCapacity) == new.plots && m.gen == new.gen
  if same then s
  else
    let gone := m.clients.filter (fun x => !bit carried x)
    let s := (s.setMap c .rx new).put (on c Obj.rxMapGeneration) 0 new.gen
    let s := (s.bump (on c Obj.mapMismatchCount)).logC c 0x7005 (d8 m.gen ++ d8 new.gen)
    gone.foldl (fun s x => s.egressFault c x) s

/-- `ClientLoadState` follows the valid cores (R229). -/
def State.showClients (s : State) (c : Carrier) (k : Core) : State :=
  let carried := k.carried
  let sizes := k.sizes
  (List.range 64).foldl (fun s x =>
    let wanted := nth sizes x 0 != 0 || s.ownSize c x != 0
    let v := if bit carried x then 0 else if (s.fr c).waiting.contains x && wanted then 2
      else if nth sizes x 0 ≠ 0 then 1 else 3
    if s.u (on c Obj.clientLoadState) x = v then s else s.put (on c Obj.clientLoadState) x v) s

/-- Since when each client's rates differ between the ends (R230). -/
def State.rateCompare (s : State) (c : Carrier) : State :=
  let differ := (List.range 64).filter (fun x => s.ownSize c x != s.farSize c x)
  s.setFr c (fun f => { f with
    rateDiff := differ.map (fun x => (x, (assocGet f.rateDiff x).getD s.clk.sfn))
    rateLogged := f.rateLogged.filter differ.contains })

/-! ## Contexts, PTP list, avenues -/

/-- The contexts' states that a core shows (R202, R276): a context follows the transmitter's on or off. -/
def State.followContexts (s : State) (c : Carrier) (k : Core) : State :=
  allCtx.foldl (fun s x =>
    let w := if x = fillCtx then k.word 13 else k.word (28 + x / 16)
    s.turnCtx c .rx x (bit w (2 * (x % 16) + 1))) s

/-- The PTP list of a core (R216). -/
def Core.ptpList (k : Core) : List PtpEntry :=
  (List.range (min 256 (bits (k.word 480) 31 16))).map (fun i =>
    let at_ := 484 + 4 * i
    { client := bits (k.word at_) 31 26, block := bits (k.word at_) 19 0, octet := bits (k.word (at_ + 1)) 31 27
      msgType := bits (k.word (at_ + 1)) 26 23
      ingress := ofTwos 64 (k.word (at_ + 2) * 2 ^ 32 + k.word (at_ + 3)) })

/-- RemoteDefect of the far end; 7009h on a change (R203, R233). -/
def State.showDefect (s : State) (c : Carrier) (v : Bool) : State :=
  if s.u (on c Obj.remoteDefect) = b2n v then s
  else (s.put (on c Obj.remoteDefect) 0 (b2n v)).logC c 0x7009 (d8 (b2n v))

/-- The far end's views, record and carrying avenue, and an order that it shows (R362, R366, R369, R370, R373). -/
def State.avenueFields (s : State) (c : Carrier) (k : Core) : State :=
  let w := k.word 26
  let s := (s.put (on .a Obj.farView) 0 (bits w 28 27 : Nat)).put (on .b Obj.farView) 0 (bits w 26 25 : Nat)
  let s := s.setAv (fun a => { a with farRecord := s.coreRecord k.word })
  let s := if bits (k.word 4) 17 16 = 2 then s.farCarrying k.sfn (bits w 31 30) (k.word 27) else s
  s.orderSeen c w

/-- The link's starting avenue mode (R518): once both carriers are locked both ways, a mode of the far end that differs
makes this engine propose its own, and R49 settles crossings. -/
def State.startModeRun (s : State) (k : Core) : State :=
  if !s.av.startMode || !s.lineUp .a || !s.lineUp .b then s
  else
    let s := s.setAv (fun a => { a with startMode := false })
    let mode := s.mode
    if bits (k.word 4) 17 16 = mode then s
    else
      let carry := if mode = 2 then s.preferred.inst else 0
      let n := max (s.leadSfn .a) (s.leadSfn .b)
      bothWays.foldl (fun s x =>
        let e := { Entry.base .modeChange n with dir := x.2, data := [mode, carry] }
        (s.proposeEngine x.1 e (fun _ => modeBody mode carry)).2) s

/-- X of R226 for the frame received. -/
def State.stuff (s : State) (c : Carrier) : Nat :=
  let l := s.loading c .rx
  stuffBits (s.netBits c l.rate (s.codesOf c l)) l.plots

/-- The fields of a core that the receiver acts on (R204). -/
def State.actCore (s : State) (c : Carrier) (k : Core) : State :=
  let s := s.trialDecode c k
  let s := [0, 1, 2, 3].foldl (fun s i => match k.message i with
    | some m => s.messageHeard c m
    | none => s) s
  let s := s.announcements c k
  let s := s.followMap c k
  let s := (s.followContexts c k).setFr c (fun f => { f with rxPtp := k.ptpList })
  let s := (s.showClients c k).rateCompare c
  let s := s.put (on c Obj.stuffBits) 0 (s.stuff c : Nat)
  let s := (s.avenueFields c k).startModeRun k
  let s := s.mocReceived c ((List.range 32).map (fun i => k.word (448 + i)))
  (s.lineStamps c k.sfn).mapProposals c

/-! ## The commands -/

/-- A core fails its alignment or CRC (R212): while locked it is counted, and eight in a row end frame lock. -/
def State.coreInvalid (s : State) (c : Carrier) : State :=
  let s := s.setFr c (fun f => { f with rxPtp := [], head := [] })
  if s.u (on c Obj.frameLock) = 0 then s.setFr c (fun f => { f with validRun := 0 })
  else
    let s := s.bump (on c Obj.coreInvalidCount)
    let s := s.setFr c (fun f => { f with invalidRun := f.invalidRun + 1, jumpRun := 0 })
    if 8 ≤ (s.fr c).invalidRun then s.loseFrameLock c 0 else s

/-- CORE_RECEIVED: the core that group 0 carries leaves step V7 (R173, R199), the one of a trial decode where only that
passes its check (R158). A valid one is kept as the last (R204) and acted on where the received count admits it (R212,
R213); one set aside leaves no PTP entries (R217). The framer that does so lies in FRM. -/
def execCoreArrives (c : Carrier) (s : State) : Host.Outcome State Fault Refusal :=
  let own : Core := s.heldCore c false
  let core : Core := if Core.valid own then own else s.heldCore c true
  .next (if !s.awake Dn.frm then s
    else if !Core.valid core then s.coreInvalid c
    else
      let s := s.setFr c (fun f => { f with core := core, head := [], rxPtp := [], blockIn := [] })
      let s := s.showDefect c (bit (Core.word core 5) 6)
      let r := s.judgeCore c core
      if r.1 then r.2.actCore c core else r.2)

/-- CORE_INVALID (R212). -/
def execCoreInvalid (c : Carrier) (s : State) : Host.Outcome State Fault Refusal :=
  .next (if s.awake Dn.frm then s.coreInvalid c else s)

end Sys2Proof.Machine
end

