-- ==== Sys2Proof/Machine/Sundial.lean ====
section
/-! DEFINITION. How the Sundial runs its entries: their order (R50), what each kind does at its instant (R52), late runs
(R55), missed entries (R56), pre-wakes (R43, R454) and the commit point (R47). -/

namespace Sys2Proof.Machine

/-! ## Order (R50) -/

/-- Order of the entries of one SFN: tick, rank, carrier, key, number (R50). -/
def State.runsBefore (s : State) (x y : Entry) : Bool :=
  let k := fun (e : Entry) => [s.tickOf e, e.kind.code, carrierCode e.carrier, e.key, e.num]
  decide (k x ≤ k y)

/-- Entries in the order of R50. -/
def State.runOrder (s : State) (l : List Entry) : List Entry := l.mergeSort s.runsBefore

/-- Pending late entries in their order: original SFN, then R50 (R55). -/
def State.lateOrder (s : State) (l : List Entry) : List Entry :=
  l.mergeSort (fun x y => decide (x.orig < y.orig) || (x.orig == y.orig && s.runsBefore x y))

/-! ## What each kind does -/

/-- A scheduled write at its SFN (R512, R514); `none` where the owner defers it (R191). A value that the owner refuses
now leaves no effect but 1004h. -/
def State.scheduledRun (s : State) (e : Entry) : Option State :=
  let o := e.obj
  let v := e.val.nat
  let c := if o / 256 % 16 = 2 then Carrier.b else Carrier.a
  if isObj o Obj.bankService then s.bankServiceRun (serviceBankOf o) v
  else
    let code := s.scheduledStatus o v
    if code ≠ 0 then some (s.log 0x1004 (d16 o ++ d8 e.mem ++ d16 code))
    else some (
      if o = Obj.residencyBudget then s.budgetRun v
      else if o = Obj.keepAlive then s.keepAliveRun
      else if isObj o Obj.symbolRate then s.gridRun c 0 v
      else if isObj o Obj.subcarrierCount then s.gridRun c 1 v
      else if isObj o Obj.laneInject then s.laneInjectRun (quadOf o * 8 + e.mem) v
      else if o = Obj.blockRetire then s.blockRetireRun v
      else if o = Obj.sramRetire then s.sramRetireRun v
      else if o = Obj.retentionRetire then s.retentionRetireRun v
      else (storeEffect o e.mem e.val s).2)

/-- A context's on or off at its SFN (R276); `ContextEnable` reads the value written. -/
def State.contextSwitchRun (s : State) (c : Carrier) (e : Entry) : State :=
  let v := nth e.data 0 0
  let s := if e.obj = Obj.contextEnable then s.put Obj.contextEnable e.mem v else s
  s.setOn c e.dir e.key (v == 1)

/-- A slice swap or a set load at its SFN (R77, R436). -/
def State.swapRun (s : State) (c : Carrier) (e : Entry) : State :=
  if e.key / 65536 = 255 then s.applyLoad c (e.key % 256) (e.key / 256 % 256) (nth e.data 1 0) else s.runSwap c e

/-- What an entry of a carrier does at its instant. -/
def State.actLine (s : State) (c : Carrier) (e : Entry) : State :=
  match e.kind with
  | .modeChange =>
    if e.dir = .tx then s.modeChangeTx (nth e.data 0 0) (nth e.data 1 0)
    else s.modeChangeRx c (nth e.data 0 0) (nth e.data 1 0)
  | .plannedSwitch => if e.dir = .tx then s.switchTx e else s.switchRx e
  | .loadingChange => if e.isReset then s.resetRun c e else s.applyLoading c e.dir (loadingOf e.data)
  | .mapChange => s.applyMap c e.dir e.data
  | .contextSwitch => s.contextSwitchRun c e
  | .keyRoll => s.applyRoll c e.dir e.key (nth e.data 0 0) (nth e.data 1 0) (nth e.data 2 0)
  | .sliceSwap => s.swapRun c e
  | .calWindow => s.openWindow c (nth e.data 1 0)
  | _ => s

/-- What an entry does at its instant (R52), `none` where it is deferred; the entry has left the table. -/
def State.act (s : State) (e : Entry) (late : Bool) : Option State :=
  match e.kind with
  | .snapshot => some (s.snapshotRun e late)
  | .imageActivation => some (s.imageRun e)
  | .scheduledWrite => s.scheduledRun e
  | .injectTrigger => some (s.injTrigger 1 (some e.src))
  | .domainWake => some (s.accessDom e.key).2
  | _ => some (match e.carrier with
    | some c => s.actLine c e
    | none => s)

/-! ## Running one entry (R39, R55, R56) -/

/-- Domains without which an entry cannot run: those of R43; the Grotto's part in a roll or a context switch is over when
its key is there (R274). -/
def Entry.needs (e : Entry) : List Nat :=
  if e.kind = .domainWake then []
  else if e.kind = .keyRoll ∨ e.kind = .contextSwitch then e.domains.filter (· != Dn.grt)
  else e.domains

/-- COMMIT_POINT for one entry: not agreed in time, it is cancelled (R47, R157) and a waiting write receives 0502h. -/
def State.commitFail (s : State) (e : Entry) : State :=
  let s := (s.cancelEntry e).entryGone e
  let s := match e.carrier with
    | some c =>
      let s := s.dropCoord c 1 e.prop
      if e.kind = Kind.loadingChange then s.loadingNoReply c e else s
    | none => s
  s.answerFailed e 0x0502

/-- Rotation entries of a converter whose domain sleeps never run late (R84): a swap is cancelled, a window abandoned, a
set load made at wake instead (R438). -/
def State.rotationAsleep (s : State) (e : Entry) : State :=
  match e.carrier with
  | none => s.cancelEntry e
  | some c =>
    if e.kind = .calWindow then s.cancelEntry e
    else if e.key / 65536 = 255 then
      let s := s.cancelEntry e
      { s with cal := { s.cal with wakeLoads :=
        s.cal.wakeLoads ++ [(c.toNat * 8 + e.key % 256, e.key / 256 % 256, nth e.data 1 0)] } }
    else (s.cancelSwap c (e.key % 256) 4).freeEntry e

/-- An entry runs at an instant, or late at a boundary: a coordinated one that cannot run is missed (R56), a local one
becomes pending late (R55). -/
def State.runEntry (s : State) (e : Entry) (late : Bool) : State :=
  let wait := fun (s : State) => s.setEntry e.num (fun x => { x with st := .pendingLate, late := true })
  let asleep := e.needs.any (fun d => !s.awake d)
  if e.coord ∧ e.st ≠ .agreed then s.commitFail e
  else if e.coord ∧ asleep then s.missEntry e 0
  else if asleep ∧ (e.kind = .sliceSwap ∨ e.kind = .calWindow) then s.rotationAsleep e
  else if asleep then wait s
  else
    match (s.freeEntry e).act e late with
    | none => wait s
    | some s =>
      let s := s.occur 0xE080 e.attr
      if late then
        (s.bump Obj.lateCount).logEntry 0xE001 { e with late := true } (d64 e.orig ++ d64 s.clk.sfn)
      else s

/-- Entries run one after the other; one that an earlier one has taken from the table does not. -/
def State.runEntries (s : State) (l : List Entry) (late : Bool) : State :=
  l.foldl (fun s e => match s.clk.entries.find? (fun x => x.num == e.num) with
    | some x => if x.sfn = e.sfn ∧ x.kind = e.kind then s.runEntry x late else s
    | none => s) s

/-- SFN that a count has reached. -/
def State.countNow (s : State) : SCount → Nat
  | .loc => s.clk.sfn
  | .rx c => s.u (on c Obj.rxSfn)

/-- The entries due on a count at a tick of its present SFN run in the order of R50. -/
def State.runDue (s : State) (k : SCount) (tick : Nat) : State :=
  s.runEntries (s.runOrder ((s.entriesAt k (s.countNow k)).filter (fun e =>
    s.tickOf e == tick && decide (e.st ≠ .pendingLate)))) false

/-- Snapshots due at tick 0 of the local SFN run before every other entry of it (R531). -/
def State.runSnapshots (s : State) : State :=
  s.runEntries (s.runOrder ((s.entriesAt .loc s.clk.sfn).filter (fun e =>
    decide (e.kind = .snapshot) && s.tickOf e == 0 && decide (e.st ≠ .pendingLate)))) false

/-- LATE_ENTRY_RUN (R55): local entries pending late, and those whose SFN has passed without a run. -/
def State.runLate (s : State) : State :=
  s.runEntries (s.lateOrder (s.clk.entries.filter (fun e =>
    !e.coord && (decide (e.st = .pendingLate) || (decide (e.count = .loc) && decide (e.sfn < s.clk.sfn)))))) true

/-- What a step does with no command waiting: local time moves on by one tick and stops at the last tick of the
superframe, since the next boundary is a command of its own (R33, R34; log entry 12). -/
def State.idle (s : State) : State :=
  if s.pow.on = false ∨ s.pow.keepAlive then s
  else { s with clk := { s.clk with tick := if s.clk.tick < 1023 then s.clk.tick + 1 else s.clk.tick } }

/-! ## The commands -/

/-- SUNDIAL_ENTRY_RUN: an instant comes on a count (R50). -/
def execSundialEntryRun (k : SCount) (tick : Fin 1024) (s : State) : Host.Outcome State Fault Refusal :=
  .next (if s.pow.on = false ∨ s.pow.keepAlive then s
    else
      let s := if k = .loc then { s with clk := { s.clk with tick := max s.clk.tick tick } } else s
      s.runDue k tick)

/-- SUNDIAL_PRE_WAKE: entries that lie within the wake latency of a domain they need have it woken, in the order of R50;
an agreed coordinated one whatever the headroom (R43, R454, R459); it is an access of a domain that is awake (R450), and
ends a sleep entry as refuser 1 (R451, R452). -/
def execSundialPreWake (s : State) : Host.Outcome State Fault Refusal :=
  let due := s.clk.entries.filter (fun e => decide (e.st ≠ .proposed))
  let order := due.mergeSort (fun x y => decide (s.entryInstant x < s.entryInstant y) ||
    (s.entryInstant x == s.entryInstant y && s.runsBefore x y))
  .next (order.foldl (fun s e => e.wakes.foldl (fun s d =>
    if s.now + s.wakeLatency d * 100000000 < s.entryInstant e then s
    else if (s.dom d).st = .entering ∧ s.now < (s.dom d).iso then
      ((s.abortCount d 1).setDom d (fun x => { x with st := .awake })).touch d
    else (s.accessDom d (e.coord && decide (e.st = .agreed))).2) s) s)

/-- COMMIT_POINT: at the local boundary of n − 4 a coordinated entry that is not agreed is cancelled (R47). -/
def execCommitPoint (s : State) : Host.Outcome State Fault Refusal :=
  .next ((s.clk.entries.filter (fun e => e.coord && decide (e.st = .proposed) && decide (e.sfn ≤ s.clk.sfn + 4))).foldl
    (fun s e => if s.clk.entries.any (fun x => x.num == e.num) then s.commitFail e else s) s)

end Sys2Proof.Machine
end

