-- ==== Sys2Proof/Machine/Boundary.lean ====
section
/-! DEFINITION. The superframe boundaries: the core that opens each frame sent (R202 to R208, FRAME_TRANSMIT), the work
of a local boundary (R33) and of a received boundary (R36). -/

namespace Sys2Proof.Machine

/-! ## FRAME_TRANSMIT: the core of a frame (R202) -/

/-- Words that octets fill from a word on. -/
def wordsAt (start : Nat) (b : List Byte) : Core :=
  (List.range (ceilDiv b.length 4)).map (fun i => (start + i, ofBe (fit 4 (slice b (4 * i) 4))))

/-- New state that an announcement names (R208). -/
def Entry.newState (e : Entry) : Nat :=
  match e.kind with
  | .loadingChange => (loadingOf e.data).gen
  | .keyRoll => nth e.data 0 0 % 2
  | _ => nth e.data 0 0

/-- Announcements of a frame (R208): the agreed coordinated entries of the local count in their last four frames, lowest
countdown first, then rank, then key, at most 64. -/
def State.announcing (s : State) (c : Carrier) : List Entry :=
  let n := s.clk.sfn
  let due := s.clk.entries.filter (fun e => e.coord && decide (e.st = .agreed) && decide (e.count = .loc) &&
    decide (e.carrier = some c) && decide (n < e.sfn) && decide (e.sfn ≤ n + 4))
  let k := fun (e : Entry) => [e.sfn, e.kind.code, e.key]
  (due.mergeSort (fun x y => decide (k x ≤ k y))).take 64

/-- Octets of one announcement. -/
def announceOctets (n : Nat) (e : Entry) : List Byte :=
  let key := if e.kind = .contextSwitch ∨ e.kind = .keyRoll then e.key else 0
  be 4 (e.kind.code * 2 ^ 27 + (e.sfn - n) * 2 ^ 24 + key) ++ be 4 e.newState ++ be 8 e.sfn

/-- Octets of a coordination slot (R205). -/
def CoordMsg.octets (m : CoordMsg) : List Byte :=
  be 4 (m.typ * 2 ^ 29 + m.kind.code * 2 ^ 24 + b2n m.away * 2 ^ 23 + m.number % 65536) ++
    be 4 (m.status * 65536 + m.body.length) ++ be 8 m.target ++ fit 112 m.body

/-- Messages of a frame's slots (R207): replies, then cancels, then proposals by target, at most four. -/
def State.slotMessages (s : State) (c : Carrier) : List CoordMsg :=
  let n := s.clk.sfn
  let due := (s.fr c).coordOut.filter (fun m => decide (m.first ≤ n) && decide (n ≤ m.last))
  let of := fun (f : Nat → Bool) => due.filter (fun m => f m.typ)
  let props := (of (· == 1)).mergeSort (fun x y => decide (x.target ≤ y.target))
  (of (fun t => t == 2 || t == 3) ++ of (· == 4) ++ props).take 4

/-- Context state bits of sixteen contexts from one on (R202). -/
def State.ctxWord (s : State) (c : Carrier) (k n : Nat) : Nat :=
  sumNat ((List.range n).map (fun i =>
    let x := s.ctx c .tx (k + i)
    b2n x.on * 2 ^ (2 * i + 1) + x.epoch % 2 * 2 ^ (2 * i)))

/-- Words 4 and 5 (R203). -/
def State.identityWords (s : State) (c : Carrier) : Core :=
  let l := s.loading c .tx
  let w4 := s.u Obj.deviceAddress * 2 ^ 19 + c.toNat * 2 ^ 18 + s.mode % 4 * 2 ^ 16 + l.gen * 2 ^ 8 + l.rate % 4 * 2 ^ 6 +
    s.u Obj.timeQuality % 4 * 2 ^ 4
  let w5 := (s.fr c).txMap.gen * 2 ^ 24 + l.plots * 2 ^ 16 + s.u (on c Obj.marginAlarmState) * 2 ^ 7 +
    (1 - s.u (on c Obj.frameLock)) * 2 ^ 6
  [(4, w4), (5, w5)]

/-- Carried mask that a frame shows: 0 on a standby's idle frame (R202, R356). -/
def State.carriedShown (s : State) (c : Carrier) : Nat := if s.isStandby c then 0 else (s.fr c).txMap.carried

/-- Words 6 to 41 but for the dispersion record (R202, R214). -/
def State.stateWords (s : State) (c : Carrier) (depart : Int) : Core :=
  let ref := (s.rxRef c).getD (0, 0)
  wordsAt 6 (i64 depart ++ be 8 ref.1 ++ i64 ref.2 ++ be 4 (s.u Obj.timeUncertainty) ++ be 4 (s.ctxWord c fillCtx 1)) ++
    wordsAt 26 (be 4 s.word26 ++ be 4 s.word27 ++ be 4 (s.ctxWord c 0 16) ++ be 4 (s.ctxWord c 16 16) ++
      be 4 (s.ctxWord c 32 16) ++ be 4 (s.ctxWord c 48 16) ++ be 8 (s.carriedShown c) ++
      sizeOctets ((List.range 64).map (s.ownSize c)))

/-- Words 18 to 25: the dispersion record (R123, R202). -/
def State.recordWords (s : State) (c : Carrier) : Core :=
  let b := s.cdRecordRow c
  wordsAt 18 (slice b 0 20 ++ slice b 20 2 ++ [0] ++ slice b 22 1)

/-- Octets of the PTP list, header and entries (R216). -/
def State.ptpOctets (s : State) (c : Carrier) : List Byte :=
  let f := s.fr c
  be 4 (f.ptp.length * 65536 + min f.ptpOver 65535) ++ List.replicate 12 0 ++
    f.ptp.flatMap (fun e => be 4 (e.client * 2 ^ 26 + e.block % 2 ^ 20) ++
      be 4 (e.octet * 2 ^ 27 + e.msgType * 2 ^ 23) ++ i64 e.ingress)

/-- The core of the frame that begins, before its CRC (R202). -/
def State.coreWords (s : State) (c : Carrier) (depart : Int) (moc : List Nat) : Core :=
  let n := s.clk.sfn
  let all := [(2, n / 2 ^ 32), (3, n % 2 ^ 32)] ++ s.identityWords c ++ s.stateWords c depart ++ s.recordWords c ++
    wordsAt 64 ((s.announcing c).flatMap (announceOctets n)) ++
    wordsAt 320 ((s.slotMessages c).flatMap CoordMsg.octets) ++
    (moc.mapIdx (fun i w => (448 + i, w))) ++ wordsAt 480 (s.ptpOctets c)
  (all.filter (fun p => p.2 != 0)).mergeSort (fun x y => decide (x.1 ≤ y.1))

/-- The messages after a frame's slots are filled (R207): those past their last frame leave, and one that found no slot waits
for the next, a proposal up to its commit point. -/
def State.messagesLeft (s : State) (c : Carrier) : List CoordMsg :=
  let n := s.clk.sfn
  let sent := s.slotMessages c
  let wait := fun (m : CoordMsg) => m.first ≤ n && n ≤ m.last && m.typ != 1 && !sent.contains m
  ((s.fr c).coordOut.map (fun m => if wait m then { m with last := m.last + 1 } else m)).filter
    (fun m => decide (n < m.last))

/-- FRAME_TRANSMIT: the transmitter of a carrier builds frame n (R202); it leaves unless the switch mute or a privileged
calibration keeps it off the line or the optics sleep. With it go the headers of its blocks (R222). -/
def State.transmit (s : State) (c : Carrier) (depart : Int) : State :=
  if !s.awake (Dn.tx c) || !s.awake Dn.frm then s
  else
    let m := s.mocUnit c
    let core := (s.coreWords c depart m.1).sealed
    let s := m.2.departs c depart
    let s := s.setFr c (fun f => { f with
      ptp := [], ptpOver := 0, coordOut := s.messagesLeft c })
    let s := if s.isStandby c then s
      else (s.fr c).txMap.clients.foldl (fun s x =>
        s.occurN 0x7080 (rateCells (nth (s.fr c).txMap.sizes x 0)) { carrier := some c, cls := some (s.clsOf x) }) s
    if !s.awake (Dn.op c) || s.calRunning || (s.av.mute.get c).isSome then s
    else (s.emit (.core c s.clk.sfn core)).emit (.blocks c s.clk.sfn (s.frameHeads c))

/-! ## LOCAL_BOUNDARY (R33) -/

/-- The converters of a carrier over the superframe that ended (R95, R96). -/
def State.convsBoundary (s : State) (c : Carrier) (l : List ConvIn) : State :=
  (l.take 8).foldl (fun (a : State × Nat) x =>
    let d := if a.2 < 4 then Dn.rx c else Dn.tx c
    (if a.1.awake d then a.1.convBoundary c a.2 x else a.1, a.2 + 1)) (s, 0) |>.1

/-- The engine's own units at a boundary. -/
def State.unitsBoundary (s : State) : State :=
  let s := s.calBoundary.memBoundary.slotsBoundary.partsBoundary.sleepBoundary
  s.svcBoundary.powerBoundary.snapshotPeriodic.logOverflow

/-- Latencies of a carrier as the engine forms them (R27): within their bounds of R19 and R20, the receive side with the
residency budget; nothing but symbol rate, subcarrier count, lane rates and budget changes them (R26, log entry 77). -/
def State.latencyRun (s : State) (c : Carrier) : State :=
  let rates := (List.range 32).map (s.lane Obj.laneRate)
  let of := fun (f : Nat → Nat → Nat → List Nat → Nat) =>
    f c.toNat (s.u (on c Obj.symbolRate)) (s.u (on c Obj.subcarrierCount)) rates
  let s := if s.awake (Dn.tx c) then s.put (on c Obj.txLatency) 0 (of Config.txSteps % 3000001 : Nat) else s
  if s.awake (Dn.rx c) then
    s.put (on c Obj.rxLatency) 0 (of Config.rxSteps % 5000001 + s.u Obj.residencyBudget * 100000 : Nat)
  else s

/-- The line's units at a boundary. -/
def State.lineBoundary (s : State) (x : SfIn) : State :=
  let s := [Carrier.a, Carrier.b].foldl (fun s c =>
    let s := (((s.convsBoundary c (x.conv.get c)).rotationState c).inputBack c).missOverdue c
    let s := if s.awake Dn.cip then s.inverseChecks c (x.inverse.get c) (x.vectors.get c) else s
    ((s.footBoundary c).cipherFrame c).latencyRun c) s
  (x.lanes.foldl (fun s l => s.laneBoundary l) s).avBoundary.poolBoundary

/-- Hardware that the lines work with: FRM while a carrier sends or tracks (T2, T4 and V7 of R20, R231), CIP while a
context is on (R30, R287). One that sleeps is woken, a refused wake asked for again every 10 SF (log entry 13). -/
def State.lineWakes (s : State) : State :=
  let use := fun (s : State) (d : Nat) =>
    if s.awake d then s.touch d
    else if s.domOff d ∧ s.clk.sfn % 10 ≠ 0 then s
    else (s.accessDom d).2
  let line := [Carrier.a, Carrier.b].any (fun c =>
    (s.awake (Dn.tx c) && s.awake (Dn.op c)) || s.u (on c Obj.lockState) == 7)
  let ctx := [Carrier.a, Carrier.b].any (fun c => (s.ciph.get c).tx.any (·.on) || (s.ciph.get c).rx.any (·.on))
  if s.calRunning ∨ s.u Obj.bootState ≠ 2 then s
  else
    let s := if line then use s Dn.frm else s
    if ctx then use s Dn.cip else s

/-- What a new local boundary does, in order: cells of the frame that ends, discards of a budget change
(log entry 45), entries late, snapshots, then counters cleared (R526) and the other entries due, saved image, units,
lines, subscriptions, membership, the frames sent, and the Belvedere. -/
def State.boundary (s : State) (x : SfIn) : State :=
  let s := { s with aop := { s.aop with full := x.full.map (fun (t : Fin 5) => t.val) } }
  let s := (s.cipherPass .a).cipherPass .b
  let s := { s with clk := { s.clk with sfn := s.clk.sfn + 1, tick := 0 } }
  let s := s.budgetReport.runLate.runSnapshots.counterBoundary.runDue .loc 0
  let s := (s.saveBoundary.restoreBoundary).unitsBoundary.lineBoundary x
  let s := s.lineWakes.subsBoundary.membershipRun.roleRun.showKeeper
  let s := (s.transmit .a x.depart.a).transmit .b x.depart.b
  let belOk := s.u Obj.privCalState 0 == 2 || s.u Obj.privCalState 0 == 3
  let t := if belOk then s.belBoundary x.bel else s
  let skipped := t.clk.sfn - s.clk.sfn
  if skipped = 0 then t
  else [Carrier.a, Carrier.b].foldl (fun s c =>
    (s.countersPass c .tx (s.fr c).txMap (s.u (on c Obj.txPlotCapacity)) skipped)) t

/-- LOCAL_BOUNDARY: the local SFN rises by one (R33). While a step back withholds it, and in keep-alive mode, there is
none (R61, R466). -/
def execLocalBoundary (x : SfIn) (s : State) : Host.Outcome State Fault Refusal :=
  .next (if s.pow.on = false ∨ s.pow.keepAlive then s
    else if s.clk.withhold ≠ 0 then { s with clk := { s.clk with withhold := s.clk.withhold - 1 } }
    else s.boundary x)

/-! ## RECEIVED_BOUNDARY (R36) -/

/-- The received count moves on while the carrier has frame lock: delay, counters, the far carrying avenue that falls due
(R36, R264, R283). -/
def State.countReceived (s : State) (c : Carrier) (delay : Nat) : State :=
  let n := s.u (on c Obj.rxSfn) + 1
  let s := (s.put (on c Obj.rxBoundaryDelay) 0 (delay : Nat)).desyncCheck c
  (s.passTo c n).rxCarryDue c

/-- RECEIVED_BOUNDARY: the start of a far superframe reaches the receive converters of a carrier (R36): `delay` in ns as
`RxBoundaryDelay`, `arrive` its stamp in 2⁻¹⁶ ns (R214), and what the receiver measured over the superframe before. -/
def execReceivedBoundary (c : Carrier) (delay : BitVec 32) (arrive : Int) (x : RxIn) (s : State) :
    Host.Outcome State Fault Refusal :=
  .next (if s.pow.on = false ∨ s.pow.keepAlive ∨ !s.awake (Dn.rx c) then s
    else
      let locked := s.u (on c Obj.frameLock) == 1
      let was := (s.fr c).ranTo
      let s := if locked then s.countReceived c delay.toNat else s
      let n := s.u (on c Obj.rxSfn)
      let due := locked && decide (was < n)
      let shared := due && !(s.entriesAt (.rx c) n).isEmpty
      let s := (s.eqReceived c x shared).loadingReceived c x
      let s := if locked then s.arrives c n arrive else s
      if due then s.runDue (.rx c) 0 else s)

end Sys2Proof.Machine
end

