-- ==== Sys2Proof/Machine/Former.lean ====
section
/-! DEFINITION. Eight commands by the names and operands that they had before the review of this model: what such a
command carried and State now gives is an operand that nothing reads. No arm of exec calls these; a text that was
written with the former operands still reads. -/

namespace Sys2Proof

/-- PILOT_SNR_WINDOW with the window's values one by one: pilot SNR, mean power of data slots and pilots, pattern. -/
def Instr.pilotSnrWindow (c : Carrier) (snr : Int) (power : Nat × Nat) (pattern : Bool) : Instr :=
  .pilotWindowEnd c { snr := snr, data := power.1, pilots := power.2, pattern := pattern }

/-- DISPERSION_RECORD_VALID with an estimate and a spread. -/
def Instr.dispersionRecordValid (c : Carrier) (_estimate _spread : Int) : Instr := .recordValid c

/-- ITERATION_COMPLETE with a syndrome and a parity error. -/
def Instr.iterationComplete (slot : Nat) (_zero _parity : Bool) : Instr := .iterationEnd slot

/-- CODEWORD_RELEASE with a count of corrected bits. -/
def Instr.codewordRelease (c : Carrier) (frame number : Nat) (trial : Bool) (_corrected : Nat) : Instr :=
  .codewordLeaves c frame number trial

/-- CORE_RECEIVED with the words of the core. -/
def Instr.coreReceived (c : Carrier) (_core : List (Nat × Nat)) : Instr := .coreArrives c

/-- PTP_CORRECTION with the place, and the frame with its stamp. -/
def Instr.ptpCorrection (c : Carrier) (x : Fin 64) (block : Nat) (octet : Fin 32) (out : List Byte × Int) : Instr :=
  .ptpEgress c x { block := block, octet := octet, frame := out.1, ingress := out.2 }

/-- TONE_DETECTED with the number of a tone. -/
def Instr.toneDetected (c : Carrier) (_tone : Fin 64) (levels : List (List Int)) : Instr := .toneHeard c levels

/-- WATCH_MATCH with window and level together. -/
def Instr.watchMatch (c : Carrier) (tone : Fin 64) (rise : List Int) (at' : BitVec 32 × Int) : Instr :=
  .watchHit c tone rise at'.1 at'.2

namespace Machine

/-- PILOT_SNR_WINDOW with the window's values one by one. -/
def execPilotSnrWindow (c : Carrier) (snr : Int) (power : Nat × Nat) (pattern : Bool) (s : State) :
    Host.Outcome State Fault Refusal :=
  execPilotWindowEnd c { snr := snr, data := power.1, pilots := power.2, pattern := pattern } s

/-- DISPERSION_RECORD_VALID with an estimate and a spread. -/
def execDispersionRecordValid (c : Carrier) (_estimate _spread : Int) : State → Host.Outcome State Fault Refusal :=
  execRecordValid c

/-- ITERATION_COMPLETE with a syndrome and a parity error. -/
def execIterationComplete (slot : Nat) (_zero _parity : Bool) : State → Host.Outcome State Fault Refusal :=
  execIterationEnd slot

/-- CODEWORD_RELEASE with a count of corrected bits. -/
def execCodewordRelease (c : Carrier) (frame number : Nat) (trial : Bool) (_corrected : Nat) :
    State → Host.Outcome State Fault Refusal :=
  execCodewordLeaves c frame number trial

/-- CORE_RECEIVED with the words of the core. -/
def execCoreReceived (c : Carrier) (_core : List (Nat × Nat)) : State → Host.Outcome State Fault Refusal :=
  execCoreArrives c

/-- PTP_CORRECTION with the place, and the frame with its stamp. -/
def execPtpCorrection (c : Carrier) (x : Fin 64) (block : Nat) (octet : Fin 32) (out : List Byte × Int) :
    State → Host.Outcome State Fault Refusal :=
  execPtpEgress c x { block := block, octet := octet, frame := out.1, ingress := out.2 }

/-- TONE_DETECTED with the number of a tone. -/
def execToneDetected (c : Carrier) (_tone : Fin 64) (levels : List (List Int)) :
    State → Host.Outcome State Fault Refusal :=
  execToneHeard c levels

/-- WATCH_MATCH with window and level together. -/
def execWatchMatch (c : Carrier) (tone : Fin 64) (rise : List Int) (at' : BitVec 32 × Int) :
    State → Host.Outcome State Fault Refusal :=
  execWatchHit c tone rise at'.1 at'.2

end Machine

end Sys2Proof
end

