-- ==== Sys2Proof/Machine/Dispatch.lean ====
section
/-! DEFINITION. Which meaning each command calls. -/

namespace Sys2Proof.Machine

def exec (i : Instr) (s : State) : Host.Outcome State Fault Refusal :=
  match i with
  | .powerOn => Sys2Proof.Machine.execPowerOn s
  | .resetn ns => Sys2Proof.Machine.execResetn ns s
  | .resetRelease x => Sys2Proof.Machine.execResetRelease x s
  | .cpRelease ms => Sys2Proof.Machine.execCpRelease ms s
  | .privCalComplete step part passed lasers => Sys2Proof.Machine.execPrivCalComplete step part passed lasers s
  | .brownOut k => Sys2Proof.Machine.execBrownOut k s
  | .vinAbove60 mv => Sys2Proof.Machine.execVinAbove60 mv s
  | .overVoltageLatchOff => Sys2Proof.Machine.execOverVoltageLatchOff s
  | .latchOffRestart => Sys2Proof.Machine.execLatchOffRestart s
  | .vinBelow6 mv => Sys2Proof.Machine.execVinBelow6 mv s
  | .caseAbove95 => Sys2Proof.Machine.execCaseAbove95 s
  | .thermalTrip peak => Sys2Proof.Machine.execThermalTrip peak s
  | .alertAck w v => Sys2Proof.Machine.execAlertAck w v s
  | .localBoundary x => Sys2Proof.Machine.execLocalBoundary x s
  | .receivedBoundary c delay arrive x => Sys2Proof.Machine.execReceivedBoundary c delay arrive x s
  | .sundialEntryRun k tick => Sys2Proof.Machine.execSundialEntryRun k tick s
  | .sundialPreWake => Sys2Proof.Machine.execSundialPreWake s
  | .commitPoint => Sys2Proof.Machine.execCommitPoint s
  | .cancelEntry w n => Sys2Proof.Machine.execCancelEntry w n s
  | .sliceDue c k idx temp => Sys2Proof.Machine.execSliceDue c k idx temp s
  | .trimRetry c k => Sys2Proof.Machine.execTrimRetry c k s
  | .trimFitComplete c k fit temp => Sys2Proof.Machine.execTrimFitComplete c k fit temp s
  | .handoverCheck c k rms faultIncoming => Sys2Proof.Machine.execHandoverCheck c k rms faultIncoming s
  | .trimExpired c k temp => Sys2Proof.Machine.execTrimExpired c k temp s
  | .sliceFailed c k idx cause => Sys2Proof.Machine.execSliceFailed c k idx cause s
  | .sliceRetire w c v => Sys2Proof.Machine.execSliceRetire w c v s
  | .sliceRestore w c v => Sys2Proof.Machine.execSliceRestore w c v s
  | .sliceOverdue c k idx => Sys2Proof.Machine.execSliceOverdue c k idx s
  | .adcClipAlarm c k => Sys2Proof.Machine.execAdcClipAlarm c k s
  | .dacClipAlarm c k => Sys2Proof.Machine.execDacClipAlarm c k s
  | .lossOfInput c k rms => Sys2Proof.Machine.execLossOfInput c k rms s
  | .loFrequencyWrite w c f => Sys2Proof.Machine.execLoFrequencyWrite w c f s
  | .acquisitionStepComplete c r => Sys2Proof.Machine.execAcquisitionStepComplete c r s
  | .acquisitionStepFailed c reason => Sys2Proof.Machine.execAcquisitionStepFailed c reason s
  | .acquisitionWaitEnd c => Sys2Proof.Machine.execAcquisitionWaitEnd c s
  | .acquisitionLedgerRetry c => Sys2Proof.Machine.execAcquisitionLedgerRetry c s
  | .pilotWindowEnd c x => Sys2Proof.Machine.execPilotWindowEnd c x s
  | .lossOfLock c => Sys2Proof.Machine.execLossOfLock c s
  | .recordValid c => Sys2Proof.Machine.execRecordValid c s
  | .loadingCeilingWrite w c k v => Sys2Proof.Machine.execLoadingCeilingWrite w c k v s
  | .loadingRequest w c row => Sys2Proof.Machine.execLoadingRequest w c row s
  | .policyCodeRateWrite w c v => Sys2Proof.Machine.execPolicyCodeRateWrite w c v s
  | .relockCandidate c => Sys2Proof.Machine.execRelockCandidate c s
  | .loadingReset c n foot => Sys2Proof.Machine.execLoadingReset c n foot s
  | .capCeilingExpire c => Sys2Proof.Machine.execCapCeilingExpire c s
  | .codewordArrive c g => Sys2Proof.Machine.execCodewordArrive c g s
  | .iterationEnd slot => Sys2Proof.Machine.execIterationEnd slot s
  | .codewordLeaves c frame number trial => Sys2Proof.Machine.execCodewordLeaves c frame number trial s
  | .bankWakeRetry b => Sys2Proof.Machine.execBankWakeRetry b s
  | .grantEffective => Sys2Proof.Machine.execGrantEffective s
  | .grantRequestRetry => Sys2Proof.Machine.execGrantRequestRetry s
  | .bankDrained b => Sys2Proof.Machine.execBankDrained b s
  | .microcodeReloadDone b => Sys2Proof.Machine.execMicrocodeReloadDone b s
  | .bankReturned => Sys2Proof.Machine.execBankReturned s
  | .coreArrives c => Sys2Proof.Machine.execCoreArrives c s
  | .coreInvalid c => Sys2Proof.Machine.execCoreInvalid c s
  | .mocResend c => Sys2Proof.Machine.execMocResend c s
  | .ptpEventMessage x p => Sys2Proof.Machine.execPtpEventMessage x p s
  | .ptpEgress c x p => Sys2Proof.Machine.execPtpEgress c x p s
  | .clientBlockReceived c x head => Sys2Proof.Machine.execClientBlockReceived c x head s
  | .sealReceived c x => Sys2Proof.Machine.execSealReceived c x s
  | .clientRateWrite w x v => Sys2Proof.Machine.execClientRateWrite w x v s
  | .clientRateMismatch c x => Sys2Proof.Machine.execClientRateMismatch c x s
  | .laneRateWrite w l v => Sys2Proof.Machine.execLaneRateWrite w l v s
  | .clientLanesWrite w x v => Sys2Proof.Machine.execClientLanesWrite w x v s
  | .laneStateChange l v => Sys2Proof.Machine.execLaneStateChange l v s
  | .ingressFault x cause l => Sys2Proof.Machine.execIngressFault x cause l s
  | .lrefLost q => Sys2Proof.Machine.execLrefLost q s
  | .lrefRestored q => Sys2Proof.Machine.execLrefRestored q s
  | .laneBerAlarm l => Sys2Proof.Machine.execLaneBerAlarm l s
  | .hostBlockReceived x b => Sys2Proof.Machine.execHostBlockReceived x b s
  | .laneTestWrite w l v => Sys2Proof.Machine.execLaneTestWrite w l v s
  | .checkerSyncLost l errors => Sys2Proof.Machine.execCheckerSyncLost l errors s
  | .contextEnable w x v t => Sys2Proof.Machine.execContextEnable w x v t s
  | .contextRoll w c k => Sys2Proof.Machine.execContextRoll w c k s
  | .rollInterval c k => Sys2Proof.Machine.execRollInterval c k s
  | .transmitResume c => Sys2Proof.Machine.execTransmitResume c s
  | .xtsEncrypt x => Sys2Proof.Machine.execXtsEncrypt x s
  | .xtsDecrypt x => Sys2Proof.Machine.execXtsDecrypt x s
  | .gcmEncrypt x => Sys2Proof.Machine.execGcmEncrypt x s
  | .gcmDecrypt x => Sys2Proof.Machine.execGcmDecrypt x s
  | .kmac256Derive x => Sys2Proof.Machine.execKmac256Derive x s
  | .shake256 x => Sys2Proof.Machine.execShake256 x s
  | .falconVerify x => Sys2Proof.Machine.execFalconVerify x s
  | .falconSign x => Sys2Proof.Machine.execFalconSign x s
  | .mlKemKeyGeneration x => Sys2Proof.Machine.execMlKemKeyGeneration x s
  | .mlKemEncapsulate x => Sys2Proof.Machine.execMlKemEncapsulate x s
  | .mlKemDecapsulate x => Sys2Proof.Machine.execMlKemDecapsulate x s
  | .requestCompletion u check => Sys2Proof.Machine.execRequestCompletion u check s
  | .slotWrite w row => Sys2Proof.Machine.execSlotWrite w row s
  | .slotErase w k => Sys2Proof.Machine.execSlotErase w k s
  | .eraseComplete k => Sys2Proof.Machine.execEraseComplete k s
  | .quoteRequest w row => Sys2Proof.Machine.execQuoteRequest w row s
  | .ownerKeyEnrol w value => Sys2Proof.Machine.execOwnerKeyEnrol w value s
  | .rollbackFloor w sub v => Sys2Proof.Machine.execRollbackFloor w sub v s
  | .rekeyRoot w v => Sys2Proof.Machine.execRekeyRoot w v s
  | .rootInterval c => Sys2Proof.Machine.execRootInterval c s
  | .offer c session body => Sys2Proof.Machine.execOffer c session body s
  | .answer c session body => Sys2Proof.Machine.execAnswer c session body s
  | .confirmI c session body => Sys2Proof.Machine.execConfirmI c session body s
  | .confirmR c session tag => Sys2Proof.Machine.execConfirmR c session tag s
  | .abort c session reason => Sys2Proof.Machine.execAbort c session reason s
  | .offerWait c => Sys2Proof.Machine.execOfferWait c s
  | .agreementTimeout c => Sys2Proof.Machine.execAgreementTimeout c s
  | .agreementRetry c => Sys2Proof.Machine.execAgreementRetry c s
  | .rootInstall c => Sys2Proof.Machine.execRootInstall c s
  | .rootMigrationDeadline c => Sys2Proof.Machine.execRootMigrationDeadline c s
  | .latticeRetry c => Sys2Proof.Machine.execLatticeRetry c s
  | .holdOffEnd idx => Sys2Proof.Machine.execHoldOffEnd idx s
  | .qualificationEnd idx => Sys2Proof.Machine.execQualificationEnd idx s
  | .refTableWrite w m v => Sys2Proof.Machine.execRefTableWrite w m v s
  | .forceRefWrite w m v => Sys2Proof.Machine.execForceRefWrite w m v s
  | .loopBandwidthStep => Sys2Proof.Machine.execLoopBandwidthStep s
  | .ppsEdge x off err => Sys2Proof.Machine.execPpsEdge x off err s
  | .todMessage x m => Sys2Proof.Machine.execTodMessage x m s
  | .advertRead c status row => Sys2Proof.Machine.execAdvertRead c status row s
  | .avenueModeWrite w mode t => Sys2Proof.Machine.execAvenueModeWrite w mode t s
  | .cellArrival c x seq => Sys2Proof.Machine.execCellArrival c x seq s
  | .cellLost x => Sys2Proof.Machine.execCellLost x s
  | .alignedRelease x => Sys2Proof.Machine.execAlignedRelease x s
  | .reorderWindowShort => Sys2Proof.Machine.execReorderWindowShort s
  | .takeover => Sys2Proof.Machine.execTakeover s
  | .switchMuteEnd c => Sys2Proof.Machine.execSwitchMuteEnd c s
  | .viewRecord => Sys2Proof.Machine.execViewRecord s
  | .keeperDecision slot => Sys2Proof.Machine.execKeeperDecision slot s
  | .keeperOrder b => Sys2Proof.Machine.execKeeperOrder b s
  | .keeperUnreachable => Sys2Proof.Machine.execKeeperUnreachable s
  | .avenueClear w sfn => Sys2Proof.Machine.execAvenueClear w sfn s
  | .lockout w sfn => Sys2Proof.Machine.execLockout w sfn s
  | .forcedSwitch w c sfn => Sys2Proof.Machine.execForcedSwitch w c sfn s
  | .manualSwitch w c sfn => Sys2Proof.Machine.execManualSwitch w c sfn s
  | .exercise w sfn => Sys2Proof.Machine.execExercise w sfn s
  | .degradeSwitch => Sys2Proof.Machine.execDegradeSwitch s
  | .revert => Sys2Proof.Machine.execRevert s
  | .footpathPacketTransmit c => Sys2Proof.Machine.execFootpathPacketTransmit c s
  | .hello c => Sys2Proof.Machine.execHello c s
  | .footpathSend w c row => Sys2Proof.Machine.execFootpathSend w c row s
  | .toneHeard c levels => Sys2Proof.Machine.execToneHeard c levels s
  | .syncMatch c window level => Sys2Proof.Machine.execSyncMatch c window level s
  | .falseDetection c => Sys2Proof.Machine.execFalseDetection c s
  | .headerCheck c octets => Sys2Proof.Machine.execHeaderCheck c octets s
  | .watchHit c tone rise window level => Sys2Proof.Machine.execWatchHit c tone rise window level s
  | .footpathPacketEnd c payload check level snr => Sys2Proof.Machine.execFootpathPacketEnd c payload check level snr s
  | .noiseFloorWindow c levels => Sys2Proof.Machine.execNoiseFloorWindow c levels s
  | .neighbourLost c => Sys2Proof.Machine.execNeighbourLost c s
  | .keeperOrderRepeat => Sys2Proof.Machine.execKeeperOrderRepeat s
  | .footpathLedgerRetry c d => Sys2Proof.Machine.execFootpathLedgerRetry c d s
  | .svc2Conversion samples ended => Sys2Proof.Machine.execSvc2Conversion samples ended s
  | .comparatorFire k code => Sys2Proof.Machine.execComparatorFire k code s
  | .comparatorRearm k code => Sys2Proof.Machine.execComparatorRearm k code s
  | .comparatorWrite w k v => Sys2Proof.Machine.execComparatorWrite w k v s
  | .injectNow w v => Sys2Proof.Machine.execInjectNow w v s
  | .injectLengthWrite w v => Sys2Proof.Machine.execInjectLengthWrite w v s
  | .svcAccumClear w v => Sys2Proof.Machine.execSvcAccumClear w v s
  | .tfeRunWrite w j v => Sys2Proof.Machine.execTfeRunWrite w j v s
  | .tfeCoeffWrite w j v => Sys2Proof.Machine.execTfeCoeffWrite w j v s
  | .calReload w c v => Sys2Proof.Machine.execCalReload w c v s
  | .calLearnedClear w v => Sys2Proof.Machine.execCalLearnedClear w v s
  | .calSave w v => Sys2Proof.Machine.execCalSave w v s
  | .calSaveInterval => Sys2Proof.Machine.execCalSaveInterval s
  | .calSaveRetry => Sys2Proof.Machine.execCalSaveRetry s
  | .idleTimerExpire d => Sys2Proof.Machine.execIdleTimerExpire d s
  | .sleepEntryDone d => Sys2Proof.Machine.execSleepEntryDone d s
  | .domainAccess d => Sys2Proof.Machine.execDomainAccess d s
  | .domainWakeComplete d bad => Sys2Proof.Machine.execDomainWakeComplete d bad s
  | .wakeStallProgress idx => Sys2Proof.Machine.execWakeStallProgress idx s
  | .stallLimit idx => Sys2Proof.Machine.execStallLimit idx s
  | .domainHoldWrite w d v => Sys2Proof.Machine.execDomainHoldWrite w d v s
  | .ledgerRequest act item cost => Sys2Proof.Machine.execLedgerRequest act item cost s
  | .shed => Sys2Proof.Machine.execShed s
  | .ceilingWrite w v => Sys2Proof.Machine.execCeilingWrite w v s
  | .shedPositionReset => Sys2Proof.Machine.execShedPositionReset s
  | .shedUnresolved => Sys2Proof.Machine.execShedUnresolved s
  | .keepAliveExit source us bad cool => Sys2Proof.Machine.execKeepAliveExit source us bad cool s
  | .sramError x scrubber => Sys2Proof.Machine.execSramError x scrubber s
  | .scrubPass ms found => Sys2Proof.Machine.execScrubPass ms found s
  | .poisonReload addr => Sys2Proof.Machine.execPoisonReload addr s
  | .lightParityError bank offset x => Sys2Proof.Machine.execLightParityError bank offset x s
  | .recordWrite typ region subject payload => Sys2Proof.Machine.execRecordWrite typ region subject payload s
  | .pageProgramDone ok => Sys2Proof.Machine.execPageProgramDone ok s
  | .commitMarkerProgrammed => Sys2Proof.Machine.execCommitMarkerProgrammed s
  | .pageReadDone block page sectors => Sys2Proof.Machine.execPageReadDone block page sectors s
  | .blockEraseDone ok => Sys2Proof.Machine.execBlockEraseDone ok s
  | .refresh shown => Sys2Proof.Machine.execRefresh shown s
  | .blockRestore w v => Sys2Proof.Machine.execBlockRestore w v s
  | .logWrite => Sys2Proof.Machine.execLogWrite s
  | .aopMessage t source port octets crcOk => Sys2Proof.Machine.execAopMessage t source port octets crcOk s
  | .aopRead w o m offset => Sys2Proof.Machine.execAopRead w o m offset s
  | .aopWrite w o m offset v => Sys2Proof.Machine.execAopWrite w o m offset v s
  | .scheduledWrite w o m t v => Sys2Proof.Machine.execScheduledWrite w o m t v s
  | .subscribe w mode o m period => Sys2Proof.Machine.execSubscribe w mode o m period s
  | .unsubscribe w n => Sys2Proof.Machine.execUnsubscribe w n s
  | .describe w o m => Sys2Proof.Machine.execDescribe w o m s
  | .sessionOpen w role slot nonce => Sys2Proof.Machine.execSessionOpen w role slot nonce s
  | .proof w sig => Sys2Proof.Machine.execProof w sig s
  | .close w => Sys2Proof.Machine.execClose w s
  | .sessionIdle id => Sys2Proof.Machine.execSessionIdle id s
  | .unprovedSessionDiscard id => Sys2Proof.Machine.execUnprovedSessionDiscard id s
  | .sessionClose w v => Sys2Proof.Machine.execSessionClose w v s
  | .aopPortWrite w v => Sys2Proof.Machine.execAopPortWrite w v s
  | .dictSave w v => Sys2Proof.Machine.execDictSave w v s
  | .dictRestore w v => Sys2Proof.Machine.execDictRestore w v s
  | .dictFactory w v => Sys2Proof.Machine.execDictFactory w v s
  | .counterSelectWrite w n v => Sys2Proof.Machine.execCounterSelectWrite w n v s
  | .counterClear w v => Sys2Proof.Machine.execCounterClear w v s
  | .counterRangeWrite w m row => Sys2Proof.Machine.execCounterRangeWrite w m row s
  | .snapshotLatch => Sys2Proof.Machine.execSnapshotLatch s
  | .snapshotCopyRetry b => Sys2Proof.Machine.execSnapshotCopyRetry b s
  | .eventFetch w v => Sys2Proof.Machine.execEventFetch w v s
  | .groupWindow window collision => Sys2Proof.Machine.execGroupWindow window collision s
  | .beacon f => Sys2Proof.Machine.execBeacon f s
  | .memberStatus f => Sys2Proof.Machine.execMemberStatus f s
  | .orders f => Sys2Proof.Machine.execOrders f s
  | .join slot f => Sys2Proof.Machine.execJoin slot f s
  | .leave f => Sys2Proof.Machine.execLeave f s
  | .listenEnd => Sys2Proof.Machine.execListenEnd s
  | .deputyTakeover => Sys2Proof.Machine.execDeputyTakeover s
  | .handover => Sys2Proof.Machine.execHandover s
  | .memberAbsent slot => Sys2Proof.Machine.execMemberAbsent slot s
  | .groupLeave w v => Sys2Proof.Machine.execGroupLeave w v s
  | .duplicateJoinRetry => Sys2Proof.Machine.execDuplicateJoinRetry s
  | .announceTimer => Sys2Proof.Machine.execAnnounceTimer s
  | .announce b => Sys2Proof.Machine.execAnnounce b s
  | .settleEnd registrar => Sys2Proof.Machine.execSettleEnd registrar s
  | .rollBackoffEnd site => Sys2Proof.Machine.execRollBackoffEnd site s
  | .groupRoll b => Sys2Proof.Machine.execGroupRoll b s
  | .siteRoll b => Sys2Proof.Machine.execSiteRoll b s
  | .ack b => Sys2Proof.Machine.execAck b s
  | .ackTimeout site => Sys2Proof.Machine.execAckTimeout site s
  | .registrationRetry site => Sys2Proof.Machine.execRegistrationRetry site s
  | .domainRoll b => Sys2Proof.Machine.execDomainRoll b s
  | .domainRollTimer => Sys2Proof.Machine.execDomainRollTimer s
  | .rollIncomplete => Sys2Proof.Machine.execRollIncomplete s
  | .carrierWithoutTraffic c => Sys2Proof.Machine.execCarrierWithoutTraffic c s
  | .imageWrite w row => Sys2Proof.Machine.execImageWrite w row s
  | .imageCommit w row => Sys2Proof.Machine.execImageCommit w row s
  | .imageActivate w sub t v => Sys2Proof.Machine.execImageActivate w sub t v s
  | .probationPass sub c => Sys2Proof.Machine.execProbationPass sub c s
  | .probationFail sub c => Sys2Proof.Machine.execProbationFail sub c s
  | .vinBack extreme => Sys2Proof.Machine.execVinBack extreme s
  | .aonLost => Sys2Proof.Machine.execAonLost s
  | .checkerGainsSync l => Sys2Proof.Machine.execCheckerGainsSync l s
  | .tfeOutput j x => Sys2Proof.Machine.execTfeOutput j x s
  | .newImageLoaded sub => Sys2Proof.Machine.execNewImageLoaded sub s
  | .neighbourDiscovery port x => Sys2Proof.Machine.execNeighbourDiscovery port x s

end Sys2Proof.Machine
end

