-- ==== Sys2Proof/Safety.lean ====
section
/-! DEFINITION. What a state that a run can be trusted in looks like, and the parts of the state that a claim about
what a command leaves alone names. -/

namespace Sys2Proof.Machine

/-- The SRAM's contents are in canonical form and lie in its 384 MiB (R471). -/
def State.memoryOk (s : State) : Prop := Memory.wf s.mem.sram = true ∧ ∀ p ∈ s.mem.sram, p.1 < sramSize

/-- The ring of the event log holds at most 256 records, the newest first, and no sequence number stands twice or has
yet to be given (R534, R535). -/
def State.eventsOk (s : State) : Prop :=
  s.diag.ring.length ≤ 256 ∧ (∀ r ∈ s.diag.ring, r.seq < s.diag.nextSeq) ∧
    s.diag.ring.Pairwise (fun a b => b.seq < a.seq)

/-- What powers the engine: supply on, AON's own, latched off, keep-alive mode. -/
def State.supply (s : State) : Bool × Bool × Bool × Bool := (s.pow.on, s.pow.aonOn, s.pow.latched, s.pow.keepAlive)

/-- From `s` to `t` an event with this code and this added data was logged: it waits for the log region (R534, R535). -/
def Logged (s t : State) (code : Nat) (data : List Byte) : Prop :=
  ∃ r ∈ t.diag.waiting, r.code = code ∧ r.data = data.take 44 ∧ s.diag.nextSeq ≤ r.seq

/-- A write passes the Gatehouse and meets its owner at once (R15, R450, R510): the session is open or none is named,
every check passes with the value `v'`, and the domain it acts on is awake. `s'` is `s` with that access noted. -/
def Admitted (s s' : State) (w : Requester) (op o m : Nat) (v v' : Val) : Prop :=
  s.badSession w = false ∧ s.checkWrite w op o m v = (0, v') ∧
    match accessedBy o m v' with
    | some d => (s.dom d).st = .awake ∧ s' = s.touch d
    | none => s' = s ∧ ∀ d, settingDomain o = some d → s.domOff d = false

/-- The parts of the state: its fields by name; the octets of the SRAM apart from the rest of the memory, the local SFN
apart from the rest of the clock, and what powers the engine apart from the rest of the power. -/
inductive Zone where
  | live | user | clk | diag | pow | mem | aop | frame | conv | cal | eq | load | pool | lanes | ciph | grot |
  bel | foot | av | svc | img | grp | dmn | sram | sfn | supply
  deriving DecidableEq, Repr

/-- Two states agree on a part. -/
def Zone.same (s t : State) : Zone → Prop
  | .live => t.live = s.live
  | .user => t.user = s.user
  | .clk => t.clk = s.clk
  | .diag => t.diag = s.diag
  | .pow => t.pow = s.pow
  | .mem => t.mem = s.mem
  | .aop => t.aop = s.aop
  | .frame => t.frame = s.frame
  | .conv => t.conv = s.conv
  | .cal => t.cal = s.cal
  | .eq => t.eq = s.eq
  | .load => t.load = s.load
  | .pool => t.pool = s.pool
  | .lanes => t.lanes = s.lanes
  | .ciph => t.ciph = s.ciph
  | .grot => t.grot = s.grot
  | .bel => t.bel = s.bel
  | .foot => t.foot = s.foot
  | .av => t.av = s.av
  | .svc => t.svc = s.svc
  | .img => t.img = s.img
  | .grp => t.grp = s.grp
  | .dmn => t.dmn = s.dmn
  | .sram => t.mem.sram = s.mem.sram
  | .sfn => t.clk.sfn = s.clk.sfn
  | .supply => t.supply = s.supply

/-- The parts of the state that a command may change; whatever it names, every other part stays as it was. -/
def touched : Instr → List Zone
  | .capCeilingExpire .. =>
    [.load]
  | .switchMuteEnd .. =>
    [.av]
  | .keeperDecision .. | .duplicateJoinRetry =>
    [.grp]
  | .falseDetection .. | .comparatorRearm .. | .domainRoll .. =>
    [.live]
  | .idleTimerExpire .. =>
    [.pow]
  | .wakeStallProgress .. | .neighbourDiscovery .. =>
    [.aop]
  | .registrationRetry .. | .domainRollTimer =>
    [.dmn]
  | .probationPass .. =>
    [.img]
  | .checkerGainsSync .. =>
    [.lanes]
  | .overVoltageLatchOff | .aonLost =>
    [.pow, .supply]
  | .codewordArrive .. =>
    [.live, .pool]
  | .grantEffective =>
    [.pow, .pool]
  | .ptpEgress .. | .clientBlockReceived .. =>
    [.live, .frame]
  | .toneHeard .. | .syncMatch .. | .headerCheck .. | .watchHit .. | .noiseFloorWindow .. =>
    [.live, .foot]
  | .subscribe .. | .unsubscribe .. | .describe .. =>
    [.diag, .aop]
  | .announceTimer =>
    [.live, .dmn]
  | .iterationEnd .. =>
    [.live, .diag, .pool]
  | .hostBlockReceived .. | .stallLimit .. | .sessionOpen .. | .close .. | .sessionIdle .. |
  .unprovedSessionDiscard .. =>
    [.live, .diag, .aop]
  | .footpathPacketTransmit .. =>
    [.live, .diag, .foot]
  | .vinAbove60 .. | .vinBelow6 .. | .alertAck .. | .sundialPreWake | .refTableWrite .. | .forceRefWrite .. |
  .comparatorWrite .. | .tfeCoeffWrite .. | .domainAccess .. | .domainHoldWrite .. | .ledgerRequest .. |
  .ceilingWrite .. | .shedPositionReset | .shedUnresolved | .aopRead .. | .proof .. | .sessionClose .. |
  .aopPortWrite .. | .dictSave .. | .dictRestore .. | .counterSelectWrite .. | .counterClear .. |
  .counterRangeWrite .. | .eventFetch .. | .vinBack .. =>
    [.live, .diag, .pow, .aop]
  | .caseAbove95 | .comparatorFire .. | .tfeOutput .. =>
    [.live, .diag, .aop, .svc]
  | .trimRetry .. | .loadingReset .. =>
    [.live, .clk, .diag, .aop]
  | .sliceOverdue .. | .adcClipAlarm .. | .dacClipAlarm .. =>
    [.live, .diag, .aop, .conv]
  | .recordValid .. =>
    [.live, .diag, .aop, .eq]
  | .codewordLeaves .. =>
    [.live, .diag, .frame, .pool]
  | .bankDrained .. | .microcodeReloadDone .. =>
    [.live, .diag, .aop, .pool]
  | .mocResend .. | .ptpEventMessage .. | .clientRateMismatch .. =>
    [.live, .diag, .aop, .frame]
  | .sealReceived .. | .transmitResume .. =>
    [.live, .diag, .aop, .ciph]
  | .laneStateChange .. | .ingressFault .. | .lrefLost .. | .lrefRestored .. | .laneBerAlarm .. |
  .checkerSyncLost .. =>
    [.live, .diag, .aop, .lanes]
  | .eraseComplete .. =>
    [.live, .diag, .aop, .grot]
  | .holdOffEnd .. | .qualificationEnd .. | .loopBandwidthStep | .ppsEdge .. | .todMessage .. =>
    [.live, .diag, .aop, .bel]
  | .cellArrival .. | .cellLost .. | .alignedRelease .. | .reorderWindowShort | .keeperUnreachable =>
    [.live, .diag, .aop, .av]
  | .hello .. | .neighbourLost .. =>
    [.live, .diag, .aop, .foot]
  | .blockEraseDone .. =>
    [.live, .diag, .mem, .aop]
  | .groupWindow .. | .join .. | .leave .. | .listenEnd | .deputyTakeover | .handover | .memberAbsent .. =>
    [.live, .diag, .aop, .grp]
  | .announce .. | .settleEnd .. | .rollBackoffEnd .. | .groupRoll .. | .siteRoll .. | .ack .. | .ackTimeout ..
  | .rollIncomplete | .carrierWithoutTraffic .. =>
    [.live, .diag, .aop, .dmn]
  | .sliceDue .. =>
    [.live, .clk, .diag, .aop, .conv]
  | .acquisitionStepFailed .. | .acquisitionWaitEnd .. | .acquisitionLedgerRetry .. =>
    [.live, .diag, .pow, .aop, .eq]
  | .bankWakeRetry .. | .bankReturned =>
    [.live, .diag, .pow, .aop, .pool]
  | .laneRateWrite .. | .clientLanesWrite .. | .laneTestWrite .. =>
    [.live, .diag, .pow, .aop, .lanes]
  | .xtsEncrypt .. | .xtsDecrypt .. | .gcmEncrypt .. | .gcmDecrypt .. | .kmac256Derive .. | .shake256 .. |
  .falconVerify .. | .falconSign .. | .mlKemKeyGeneration .. | .mlKemEncapsulate .. | .mlKemDecapsulate .. |
  .quoteRequest .. | .rollbackFloor .. =>
    [.live, .diag, .pow, .aop, .grot]
  | .rootInstall .. =>
    [.live, .diag, .aop, .ciph, .grot]
  | .advertRead .. =>
    [.live, .diag, .aop, .frame, .bel]
  | .viewRecord | .keeperOrderRepeat =>
    [.live, .diag, .aop, .foot, .av]
  | .degradeSwitch | .revert =>
    [.live, .clk, .diag, .aop, .frame]
  | .footpathSend .. | .footpathLedgerRetry .. =>
    [.live, .diag, .pow, .aop, .foot]
  | .injectNow .. | .injectLengthWrite .. | .svcAccumClear .. | .tfeRunWrite .. =>
    [.live, .diag, .pow, .aop, .svc]
  | .calLearnedClear .. =>
    [.live, .diag, .pow, .aop, .cal]
  | .recordWrite .. | .pageProgramDone .. | .pageReadDone .. | .refresh .. | .blockRestore .. | .logWrite |
  .dictFactory .. | .snapshotLatch | .snapshotCopyRetry .. | .imageCommit .. =>
    [.live, .diag, .pow, .mem, .aop]
  | .aopMessage .. =>
    [.live, .diag, .pow, .aop, .frame]
  | .beacon .. =>
    [.live, .diag, .aop, .av, .grp]
  | .groupLeave .. =>
    [.live, .diag, .pow, .aop, .grp]
  | .imageActivate .. =>
    [.live, .clk, .diag, .pow, .aop]
  | .probationFail .. =>
    [.live, .clk, .diag, .aop, .img]
  | .trimFitComplete .. | .trimExpired .. | .sliceFailed .. =>
    [.live, .clk, .diag, .pow, .aop, .conv]
  | .acquisitionStepComplete .. | .pilotWindowEnd .. =>
    [.live, .diag, .pow, .aop, .frame, .eq]
  | .grantRequestRetry =>
    [.live, .diag, .pow, .aop, .load, .pool]
  | .rollInterval .. | .rootMigrationDeadline .. =>
    [.live, .clk, .diag, .aop, .frame, .ciph]
  | .slotWrite .. | .slotErase .. | .ownerKeyEnrol .. =>
    [.live, .diag, .pow, .mem, .aop, .grot]
  | .rekeyRoot .. | .rootInterval .. | .answer .. | .abort .. | .offerWait .. | .agreementTimeout .. |
  .agreementRetry .. =>
    [.live, .diag, .pow, .aop, .frame, .grot]
  | .avenueModeWrite .. =>
    [.live, .clk, .diag, .pow, .aop, .frame]
  | .takeover | .keeperOrder .. =>
    [.live, .diag, .aop, .frame, .load, .av]
  | .calReload .. =>
    [.live, .clk, .diag, .pow, .aop, .cal]
  | .calSave .. | .calSaveInterval | .calSaveRetry =>
    [.live, .diag, .pow, .mem, .aop, .cal]
  | .poisonReload .. =>
    [.live, .user, .diag, .mem, .aop, .svc]
  | .imageWrite .. =>
    [.live, .diag, .pow, .mem, .aop, .img]
  | .sliceRetire .. | .sliceRestore .. =>
    [.live, .clk, .diag, .pow, .mem, .aop, .conv]
  | .lossOfInput .. =>
    [.live, .clk, .diag, .pow, .aop, .conv, .eq]
  | .loadingCeilingWrite .. | .loadingRequest .. | .policyCodeRateWrite .. =>
    [.live, .clk, .diag, .pow, .aop, .frame, .load]
  | .relockCandidate .. =>
    [.live, .clk, .diag, .aop, .frame, .load, .foot]
  | .coreInvalid .. =>
    [.live, .clk, .diag, .pow, .aop, .frame, .conv]
  | .clientRateWrite .. =>
    [.live, .clk, .diag, .pow, .aop, .frame, .lanes]
  | .contextRoll .. =>
    [.live, .clk, .diag, .pow, .aop, .frame, .ciph]
  | .offer .. | .confirmI .. | .confirmR .. | .latticeRetry .. =>
    [.live, .diag, .pow, .aop, .frame, .ciph, .grot]
  | .avenueClear .. | .lockout .. | .forcedSwitch .. | .manualSwitch .. | .exercise .. =>
    [.live, .clk, .diag, .pow, .aop, .frame, .av]
  | .lightParityError .. =>
    [.live, .diag, .pow, .mem, .aop, .pool, .svc]
  | .memberStatus .. | .orders .. =>
    [.live, .diag, .aop, .frame, .load, .av, .grp]
  | .newImageLoaded .. =>
    [.live, .diag, .pow, .aop, .grot, .svc, .img]
  | .handoverCheck .. =>
    [.live, .clk, .diag, .pow, .mem, .aop, .conv, .cal]
  | .loFrequencyWrite .. | .lossOfLock .. =>
    [.live, .clk, .diag, .pow, .aop, .frame, .conv, .eq]
  | .contextEnable .. =>
    [.live, .clk, .diag, .pow, .aop, .frame, .ciph, .grot]
  | .requestCompletion .. =>
    [.live, .diag, .pow, .mem, .aop, .ciph, .grot, .sram]
  | .footpathPacketEnd .. =>
    [.live, .clk, .diag, .aop, .frame, .load, .foot, .av]
  | .svc2Conversion .. =>
    [.live, .clk, .diag, .pow, .aop, .conv, .cal, .svc]
  | .commitMarkerProgrammed =>
    [.live, .user, .diag, .pow, .mem, .aop, .cal, .img]
  | .commitPoint | .cancelEntry .. =>
    [.live, .clk, .diag, .pow, .aop, .frame, .conv, .load, .ciph]
  | .shed =>
    [.live, .clk, .diag, .pow, .aop, .conv, .eq, .load, .pool]
  | .resetRelease .. =>
    [.live, .diag, .pow, .mem, .aop, .conv, .cal, .grot, .svc, .img]
  | .privCalComplete .. =>
    [.live, .clk, .diag, .pow, .aop, .conv, .cal, .eq, .load, .pool]
  | .sleepEntryDone .. =>
    [.live, .clk, .diag, .pow, .mem, .aop, .frame, .conv, .eq, .sram]
  | .thermalTrip .. =>
    [.live, .clk, .diag, .pow, .mem, .aop, .frame, .conv, .eq, .bel, .sram, .supply]
  | .keepAliveExit .. =>
    [.live, .clk, .diag, .pow, .mem, .aop, .cal, .grot, .grp, .sram, .sfn, .supply]
  | .coreArrives .. =>
    [.live, .clk, .diag, .pow, .aop, .frame, .conv, .load, .ciph, .grot, .bel, .foot, .av]
  | .sramError .. | .scrubPass .. =>
    [.live, .clk, .diag, .pow, .mem, .aop, .frame, .cal, .eq, .pool, .ciph, .grot, .bel, .svc]
  | .cpRelease .. =>
    [.live, .user, .clk, .diag, .pow, .mem, .aop, .frame, .conv, .cal, .eq, .load, .lanes, .ciph, .grot,
     .av, .svc, .grp]
  | .aopWrite .. | .scheduledWrite .. =>
    [.live, .clk, .diag, .pow, .mem, .aop, .frame, .conv, .cal, .eq, .load, .lanes, .ciph, .grot, .foot,
     .av, .svc, .img, .grp]
  | .receivedBoundary .. | .sundialEntryRun .. =>
    [.live, .clk, .diag, .pow, .mem, .aop, .frame, .conv, .cal, .eq, .load, .pool, .lanes, .ciph, .grot,
     .bel, .av, .svc, .img, .sram, .supply]
  | .domainWakeComplete .. =>
    [.live, .clk, .diag, .pow, .mem, .aop, .frame, .conv, .cal, .eq, .load, .pool, .lanes, .ciph, .grot,
     .foot, .av, .svc, .img, .grp, .sram]
  | .localBoundary .. =>
    [.live, .clk, .diag, .pow, .mem, .aop, .frame, .conv, .cal, .eq, .load, .pool, .lanes, .ciph, .grot,
     .bel, .foot, .av, .svc, .img, .grp, .dmn, .sram, .sfn, .supply]
  | .powerOn | .resetn .. | .brownOut .. | .latchOffRestart =>
    [.live, .user, .clk, .diag, .pow, .mem, .aop, .frame, .conv, .cal, .eq, .load, .pool, .lanes, .ciph,
     .grot, .bel, .foot, .av, .svc, .img, .grp, .dmn, .sram, .sfn, .supply]

end Sys2Proof.Machine

namespace Sys2Proof.Claims

open Sys2Proof.Machine

/-- The machine as a step takes a command from the queue. -/
def front (i : Instr) (rest : List Instr) (s : State) : State := { s with pending := i :: rest }

/-- A command is a write that its owner accepts: the machine `x` that its effect leaves meets `P`, and the operation is
counted and answered with status 0000h on it (R501, R528). -/
def Accepts (i : Instr) (s : State) (w : Requester) (op o m : Nat) (P : State → Prop) : Prop :=
  ∃ x, exec i s = .next (x.accept w op 0 o m 0 [] []) ∧ P x

/-- A message has gone back to its requester (R496). -/
def Answers (w : Requester) (m : List Byte) (t : State) : Prop := .aop w.transport w.source w.port m ∈ t.out

/-- The eleven requests of the Grotto for a descriptor, each with its type (R297). -/
def grottoRequests (x : Descriptor) : List (Instr × Nat) :=
  [(.xtsEncrypt x, 1), (.xtsDecrypt x, 2), (.gcmEncrypt x, 3), (.gcmDecrypt x, 4), (.kmac256Derive x, 5), (.shake256 x, 6),
   (.falconVerify x, 7), (.falconSign x, 8), (.mlKemKeyGeneration x, 9), (.mlKemEncapsulate x, 10),
   (.mlKemDecapsulate x, 11)]

/-- The request that a descriptor stands for (R296). -/
def requestOf (typ : Nat) (x : Descriptor) : GReq :=
  { master := x.master, typ := typ, slot := x.slot.toNat, gen := 0, outSlot := x.outSlot.toNat, tag := x.tag.toNat
    src := (x.src.toNat, x.srcLen.toNat), dst := (x.dst.toNat, x.dstLen.toNat), par := (x.par.toNat, x.parLen.toNat)
    cls := classOf x.master typ, unit := none, use := .plain }

/-- The packets of a message of the key agreement, as they join the MOC (R211, R309). -/
def agreePackets (typ session : Nat) (body : List Byte) : List (List Byte) :=
  ((fragments 8 body).mapIdx (fun i f => be 1 typ ++ be 1 i ++ be 1 (fragments 8 body).length ++ be 1 0 ++
    be 4 session ++ f)).map (fun p => be 2 p.length ++ be 1 2 ++ p)

/-- A message of the domain as this engine sends it (R548). -/
def domainMessage (s : State) (type status : Nat) (body : List Byte) : List Byte :=
  ascii "THDM" ++ be 1 type ++ be 1 status ++ be 2 s.address ++ be 4 s.dmn.txSeq ++ be 4 body.length ++ body

/-- A carrier can start a key agreement now: none is under way, no root waits, the line is up, the engine has its
identity and the lattice unit is granted (R310, R316). -/
def CanAgree (c : Carrier) (s : State) : Prop :=
  (s.rt c).part = .none ∧ (s.rt c).next = none ∧ s.lineUp c = true ∧ s.grot.identity = true ∧
  ((s.setRt c (fun r => { r with initiates := true, retryAt := none, waitFrom := none })).askLattice c).1 = true

/-- An Offer has gone out on a carrier (R310, R311). -/
def OfferSent (c : Carrier) (s t : State) : Prop :=
  (t.rt c).part = .offered ∧ (t.rt c).initiates = true ∧ t.u (on c Obj.agreementState) = 1 ∧
  (t.fr c).mocOut = (s.fr c).mocOut ++ agreePackets 1 (t.rt c).session (t.rt c).offer

end Sys2Proof.Claims
end

