-- ==== Sys2Proof/Certificates/Slice0/Obligations.lean ====
section
/-! DEFINITION. The statements for the provers, one definition each: first what holds of the whole machine, then for
every command where it completes and what it leaves. Each clause stands under a line that says what it claims. -/

section

open Sys2Proof Sys2Proof.Machine Sys2Proof.Claims

/-- A step takes the command at the front of the queue and runs it on the queue's rest. -/
def Obligations.StepRunsTheFront : Prop :=
  -- Step on a queue with a command in front is exec of that command on the state with the queue's rest.
  (∀ (i : Instr) (rest : List Instr) (s : State), step (front i rest s) = exec i { s with pending := rest })

/-- With no command waiting, local time moves on by one tick and stops at the superframe's last. The idle step is the
model's choice (log entry 12). -/
def Obligations.EmptyQueueIdles : Prop :=
  -- An idle step moves the tick on (the model's choice, log entry 12).
  (∀ s : State, s.pending = [] → s.pow.on = true → s.pow.keepAlive = false → s.clk.tick < 1023 →
     step s = .next { s with clk := { s.clk with tick := s.clk.tick + 1 } }) ∧
  -- Without power, in keep-alive mode or at the last tick it changes nothing.
  (∀ s : State, s.pending = [] → (s.pow.on = false ∨ s.pow.keepAlive = true ∨ 1023 ≤ s.clk.tick) → step s = .next s)

/-- After power-on nothing waits, nothing is scheduled, every object stands at its default. -/
def Obligations.ResetLeaves : Prop :=
  -- Nothing waits, is scheduled, stored or logged, no session is open, and the 72 SVC2 registers read 0.
  (State.reset.pending = [] ∧ State.reset.out = [] ∧ State.reset.clk.entries = [] ∧ State.reset.clk.anchored = false ∧
     State.reset.mem.sram = [] ∧ State.reset.diag.waiting = [] ∧ State.reset.aop.sessions = [] ∧
     State.reset.u Obj.bootState = 0 ∧ State.reset.u Obj.timeQuality = 0 ∧
     (∀ c, State.reset.u (on c Obj.lockState) = 0 ∧ State.reset.u (on c Obj.frameLock) = 0 ∧
       State.reset.u (on c Obj.symbolRate) = 330) ∧
     ∀ i, State.reset.svc.regs[i]? = if i < 72 then some 0 else none) ∧
  -- Every object stands at its factory default.
  (∀ o m : Nat, State.reset.i o m = factoryNum (okey o m) ∧ State.reset.o o m = factoryOcts (okey o m))

/-- The SRAM's canonical form and the event log's order hold at reset. -/
def Obligations.InvariantsAtReset : Prop :=
  -- Both invariants hold at reset.
  (State.reset.memoryOk ∧ State.reset.eventsOk)

/-- Every step keeps the SRAM in canonical form and within its 384 MiB. -/
def Obligations.MemoryStaysCanonical : Prop :=
  -- From every state that meets the invariant, a step that completes gives one that meets it.
  (∀ s t : State, s.memoryOk → step s = .next t → t.memoryOk)

/-- Every step keeps at most 256 recent events, the newest first, no sequence number twice or ahead of its time. -/
def Obligations.EventsStayInOrder : Prop :=
  -- So too for the event log, and the next sequence number never falls.
  (∀ s t : State, s.eventsOk → step s = .next t → t.eventsOk ∧ s.diag.nextSeq ≤ t.diag.nextSeq)

/-- Every command leaves every part of the state that its list does not name as it was. -/
def Obligations.FrameOfEveryCommand : Prop :=
  -- A part of the state that touched does not list for the command is the same after it.
  (∀ (i : Instr) (s t : State), exec i s = .next t → ∀ z, z ∉ touched i → z.same s t)

/-- No command touches the queue, takes back an output, or turns back the counters of free values and of event
records. -/
def Obligations.WhatNoCommandUndoes : Prop :=
  -- The queue stays, outputs are only added, free values and sequence numbers only move on.
  (∀ (i : Instr) (s t : State), exec i s = .next t →
     t.pending = s.pending ∧ s.out <:+ t.out ∧ s.free ≤ t.free ∧ s.diag.nextSeq ≤ t.diag.nextSeq)

/-- The local SFN never falls but over a restart or a change of supply mode, and few commands move it. -/
def Obligations.TimeNeverFalls : Prop :=
  -- Only five commands can leave a lower local SFN.
  (∀ (i : Instr) (s t : State), exec i s = .next t → t.clk.sfn < s.clk.sfn →
     i = .powerOn ∨ (∃ ns, i = .resetn ns) ∨ (∃ k, i = .brownOut k) ∨ i = .latchOffRestart ∨ (∃ k u b c, i = .keepAliveExit k u b c)) ∧
  -- Only they and LOCAL_BOUNDARY move it at all.
  (∀ (i : Instr) (s t : State), exec i s = .next t → t.clk.sfn ≠ s.clk.sfn →
     i = .powerOn ∨ (∃ ns, i = .resetn ns) ∨ (∃ k, i = .brownOut k) ∨ i = .latchOffRestart ∨ (∃ k u b c, i = .keepAliveExit k u b c) ∨
     (∃ x, i = .localBoundary x))

/-- Few commands write the SRAM, take waiting event records away, or change what powers the engine. -/
def Obligations.FewCommandsWriteMemory : Prop :=
  -- Only twelve commands change an octet of the SRAM.
  (∀ (i : Instr) (s t : State), exec i s = .next t → t.mem.sram ≠ s.mem.sram →
     i = .powerOn ∨ (∃ ns, i = .resetn ns) ∨ (∃ k, i = .brownOut k) ∨ i = .latchOffRestart ∨ (∃ k u b c, i = .keepAliveExit k u b c) ∨
     (∃ u x, i = .requestCompletion u x) ∨ (∃ d b, i = .domainWakeComplete d b) ∨ (∃ d, i = .sleepEntryDone d) ∨
     (∃ p, i = .thermalTrip p) ∨ (∃ x, i = .localBoundary x) ∨ (∃ c d a x, i = .receivedBoundary c d a x) ∨
     (∃ k n, i = .sundialEntryRun k n)) ∧
  -- Only eight take a waiting event record away.
  (∀ (i : Instr) (s t : State), exec i s = .next t → ¬ s.diag.waiting <+: t.diag.waiting →
     i = .powerOn ∨ (∃ ns, i = .resetn ns) ∨ (∃ k, i = .brownOut k) ∨ i = .latchOffRestart ∨ (∃ k u b c, i = .keepAliveExit k u b c) ∨
     (∃ x, i = .localBoundary x) ∨ (∃ d b, i = .domainWakeComplete d b) ∨ i = .logWrite) ∧
  -- Only eleven change what powers the engine.
  (∀ (i : Instr) (s t : State), exec i s = .next t → t.supply ≠ s.supply →
     i = .powerOn ∨ (∃ ns, i = .resetn ns) ∨ (∃ k, i = .brownOut k) ∨ i = .latchOffRestart ∨ (∃ k u b c, i = .keepAliveExit k u b c) ∨
     i = .overVoltageLatchOff ∨ i = .aonLost ∨ (∃ p, i = .thermalTrip p) ∨ (∃ x, i = .localBoundary x) ∨
     (∃ c d a x, i = .receivedBoundary c d a x) ∨ (∃ k n, i = .sundialEntryRun k n))

/-- Every command answers a next state in every state, for every operand. -/
def Obligations.EveryCommandCompletes : Prop :=
  -- Every command in every state answers a next state; what that state holds, the statements on each command
  -- say.
  (∀ (i : Instr) (s : State), ∃ t, exec i s = .next t)

/-- A role passes every write and read check that a lower role passes, and none below an object's lowest role. -/
def Obligations.RolesHoldWhatLowerOnesHold : Prop :=
  -- What a role may write every higher role may write with the same result.
  (∀ (s : State) (w w' : Requester) (op o m : Nat) (v : Val), s.roleOf w ≤ s.roleOf w' → (s.checkWrite w op o m v).1 = 0 →
     s.checkWrite w' op o m v = s.checkWrite w op o m v) ∧
  -- And what it may read.
  (∀ (s : State) (w w' : Requester) (o m : Nat), s.roleOf w ≤ s.roleOf w' → s.readStatus w o m = 0 → s.readStatus w' o m = 0) ∧
  -- Below the lowest role that the object's row names neither passes.
  (∀ (s : State) (w : Requester) (op o m : Nat) (v : Val) (r : DictRow), dictRow o = some r →
     (s.roleOf w < r.wr → (s.checkWrite w op o m v).1 ≠ 0) ∧ (r.rd ≠ 255 → s.roleOf w < r.rd → s.readStatus w o m ≠ 0))

/-- The entries of one SFN run in the order of tick, rank, carrier, key and number, each once. -/
def Obligations.EntriesRunInOrder : Prop :=
  -- The order is a permutation of the entries, sorted by those five.
  (∀ (s : State) (l : List Entry), (s.runOrder l).Perm l ∧ (s.runOrder l).Pairwise (fun x y =>
     [s.tickOf x, x.kind.code, carrierCode x.carrier, x.key, x.num] ≤
       [s.tickOf y, y.kind.code, carrierCode y.carrier, y.key, y.num]))

/-- A symbol offset becomes its tick, and offsets of one tick are one instant (R35). -/
def Obligations.OffsetsBecomeTicks : Prop :=
  -- Offset k of a carrier with N symbols is tick ⌊k × 1,024 / N⌋.
  (∀ (s : State) (e : Entry) (c : Carrier) (n : Nat), e.symbols = true → e.carrier = some c → s.symbolsPerSf c = n →
     s.tickOf e = e.offset * 1024 / n) ∧
  -- Entries of one count, SFN and tick have one instant.
  (∀ (s : State) (x y : Entry), x.count = y.count → x.sfn = y.sfn → s.tickOf x = s.tickOf y → s.entryInstant x = s.entryInstant y)

/-- Counter n has its select word and its value at two objects of its block (R522). -/
def Obligations.CountersHaveTwoObjects : Prop :=
  -- A read of item 10h of object F700h + (n div 256) × 0100h, member n mod 256, is counter n's value.
  (∀ (n : Fin 2048) (s : State), s.valueOf (0xF700 + n / 256 * 0x0100 + 0x10) (n % 256) = .num (s.ctr n).word) ∧
  -- COUNTER_SELECT_WRITE writes item 11h.
  (∀ (w : Requester) (n : Fin 2048) (v : Int) (s : State), exec (.counterSelectWrite w n v) s =
     .next (s.hostWrite w 2 (0xF700 + n / 256 * 0x0100 + 0x11) (n % 256) (.num v) (fun x s => s.counterSelectEffect n x.nat))) ∧
  -- The first and last 256 counters lie where the rule says.
  (∀ n : Fin 2048, (n.val < 256 → 0xF700 + n.val / 256 * 0x0100 + 0x10 = 0xF710 ∧ 0xF700 + n.val / 256 * 0x0100 + 0x11 = 0xF711) ∧
     (1792 ≤ n.val → 0xF700 + n.val / 256 * 0x0100 + 0x10 = 0xFE10 ∧ 0xF700 + n.val / 256 * 0x0100 + 0x11 = 0xFE11))

/-- The spare to trim is the idle one with the oldest last trim, the lowest number first (R74). -/
def Obligations.SpareToTrim : Prop :=
  -- The chosen spare is idle, none idle was trimmed earlier, and none of the same age has a lower number.
  (∀ (v : Conv) (i : Nat), v.pickSpare = some i → ∃ x, v.slices[i]? = some x ∧ x.st = 1 ∧
     ∀ j y, v.slices[j]? = some y → y.st = 1 → x.trimSfn < y.trimSfn ∨ (x.trimSfn = y.trimSfn ∧ i ≤ j)) ∧
  -- None is chosen only where none is idle.
  (∀ v : Conv, v.pickSpare = none ↔ ∀ x ∈ v.slices, x.st ≠ 1)

/-- A group bus frame of another SITE or GROUP is ignored and counted, and logs A00Fh once per source (R539). -/
def Obligations.MisstrappedFramesAreIgnored : Prop :=
  -- For all five frames the state changes only in that count, the sources seen and the record.
  (∀ (f : GroupFrame) (k : Fin 32) (i : Instr) (s : State), f.crcOk = true → f.source.toNat / 32 ≠ s.address / 32 →
     i ∈ [.beacon f, .memberStatus f, .orders f, .join k f, .leave f] →
     exec i s = .next (if f.source.toNat ∈ s.grp.strays then s.bump Obj.groupMisstrapCount
       else ((s.bump Obj.groupMisstrapCount).setGrp (fun g => { g with strays := f.source.toNat :: g.strays })).log 0xA00F
         (d16 f.source.toNat))) ∧
  -- The count rises by one.
  (∀ s : State, s.u Obj.groupMisstrapCount + 1 < 2 ^ 32 →
     (s.bump Obj.groupMisstrapCount).u Obj.groupMisstrapCount = s.u Obj.groupMisstrapCount + 1)

/-- A describe answers type, access, roles and members in eight octets, to an Observer too (R503). -/
def Obligations.DescribesAnswerEightOctets : Prop :=
  -- Whatever the role, an existing object and member is answered with the eight octets.
  (∀ (w : Requester) (o : BitVec 16) (m : BitVec 8) (r : DictRow) (s : State), s.badSession w = false →
     dictRow o.toNat = some r → (s.recovering = false ∨ servedInRecovery o.toNat = true) → r.memLo ≤ m.toNat → m.toNat ≤ r.memHi →
     exec (.describe w o m) s = .next (s.accept w 6 0 o.toNat m.toNat 8 []
       (be 1 r.ty.code ++ be 1 r.acc.code ++ be 1 r.rd ++ be 1 r.wr ++ be 2 (r.memHi + 1) ++ be 2 0))) ∧
  -- The codes of access classes, types and roles are those of the rule.
  (Access.ro.code = 0 ∧ Access.rw.code = 1 ∧ Access.wo.code = 2 ∧ Access.rws.code = 3 ∧
     [OType.bool, .u8, .u16, .u32, .u64, .i8, .i16, .i32, .i64, .f32, .time96, .sfn64, .str, .octets, .table].map OType.code =
       List.range 15 ∧
     ∀ o r, dictRow o = some r → (r.rd ≤ 4 ∨ r.rd = 255) ∧ (r.wr ≤ 4 ∨ r.wr = 255))

/-- Power-on, RESETN, brown-out and loss of AON: where its commands complete and what they leave. -/
def Obligations.RestartsBegin : Prop :=
  -- POWER_ON with AON off starts the engine with ResetCause 1, no SRAM contents, no session and the Icehouse's
  -- records.
  (∀ s : State, s.pow.on = false → s.pow.latched = false → s.pow.aonOn = false →
     ∃ t, exec .powerOn s = .next t ∧ t.pow.on = true ∧ t.u Obj.resetCause = 1 ∧ t.u Obj.bootState = 0 ∧
       t.mem.sram = [] ∧ t.mem.recs = s.mem.recs ∧ t.aop.sessions = []) ∧
  -- With AON still up it keeps ResetCause.
  (∀ s : State, s.pow.on = false → s.pow.latched = false → s.pow.aonOn = true →
     ∃ t, exec .powerOn s = .next t ∧ t.pow.on = true ∧ t.u Obj.resetCause = s.u Obj.resetCause ∧ t.mem.recs = s.mem.recs) ∧
  -- RESETN of 1 µs or more restarts the engine with ResetCause 2 and keeps BrownOutCount and the records.
  (∀ (ns : Nat) (s : State), 1000 ≤ ns → s.pow.on = true →
     ∃ t, exec (.resetn ns) s = .next t ∧ t.u Obj.resetCause = 2 ∧ t.u Obj.brownOutCount = s.u Obj.brownOutCount ∧
       t.u Obj.bootState = 0 ∧ t.mem.sram = [] ∧ t.mem.recs = s.mem.recs ∧ t.aop.sessions = []) ∧
  -- A shorter RESETN does nothing.
  (∀ (ns : Nat) (s : State), ns < 1000 → exec (.resetn ns) s = .next s) ∧
  -- BROWN_OUT sets ResetCause 3 to 6, counts itself and keeps the records; below the lowest rail the supply is
  -- off.
  (∀ (k : Fin 4) (s : State), s.pow.on = true → (k.val < 2 → s.pow.keepAlive = true) → s.u Obj.brownOutCount < 4294967295 →
     ∃ t, exec (.brownOut k) s = .next t ∧ t.u Obj.resetCause = k.val + 3 ∧
       t.u Obj.brownOutCount = s.u Obj.brownOutCount + 1 ∧ t.mem.recs = s.mem.recs ∧
       (k.val = 3 → t.pow.on = false ∧ t.pow.aonOn = true) ∧ (k.val ≠ 3 → t.pow.on = true ∧ t.mem.sram = [])) ∧
  -- AON_LOST leaves nothing on.
  (∀ s : State, ∃ t, exec .aonLost s = .next t ∧ t.pow.on = false ∧ t.pow.aonOn = false ∧
     ∀ d, d < 25 → (t.dom d).st = .off)

/-- VIN outside its range: where its commands complete and what they leave. -/
def Obligations.SupplyLeavesAndReturns : Prop :=
  -- VIN_ABOVE_60 notes the excursion and logs 1017h while CTL is awake.
  (∀ (mv : Nat) (s : State), s.pow.on = true → s.pow.vinState = 0 →
     ∃ t, exec (.vinAbove60 mv) s = .next t ∧ t.pow.vinState = 2 ∧ t.pow.vinExtreme = mv ∧ t.pow.vinSince = s.clk.sfn ∧
       (s.awake Dn.ctl = true → Logged s t 0x1017 (d32 mv ++ d32 0))) ∧
  -- VIN_BELOW_6 notes the excursion and logs 1018h while CTL is awake.
  (∀ (mv : Nat) (s : State), s.pow.on = true → s.pow.vinState = 0 →
     ∃ t, exec (.vinBelow6 mv) s = .next t ∧ t.pow.vinState = 1 ∧ t.pow.vinExtreme = mv ∧ t.pow.vinSince = s.clk.sfn ∧
       (s.awake Dn.ctl = true → Logged s t 0x1018 (d32 mv ++ d32 0))) ∧
  -- VIN_BACK ends it and logs its extreme and its length.
  (∀ (extreme : Nat) (s : State), s.pow.vinState = 1 ∨ s.pow.vinState = 2 →
     ∃ t, exec (.vinBack extreme) s = .next t ∧ t.pow.vinState = 0 ∧
       (s.awake Dn.ctl = true → Logged s t (if s.pow.vinState = 2 then 0x1017 else 0x1018)
         (d32 extreme ++ d32 ((s.clk.sfn - s.pow.vinSince) / 10)))) ∧
  -- OVER_VOLTAGE_LATCH_OFF turns everything off and latches.
  (∀ s : State, ∃ t, exec .overVoltageLatchOff s = .next t ∧ t.pow.on = false ∧ t.pow.aonOn = false ∧ t.pow.latched = true ∧
     ∀ d, d < 25 → (t.dom d).st = .off) ∧
  -- LATCH_OFF_RESTART starts a latched engine again with ResetCause 1.
  (∀ s : State, s.pow.latched = true →
     ∃ t, exec .latchOffRestart s = .next t ∧ t.pow.on = true ∧ t.pow.latched = false ∧ t.u Obj.resetCause = 1 ∧
       t.mem.sram = [] ∧ t.mem.recs = s.mem.recs)

/-- Boot, CP release and the privileged calibrations: where its commands complete and what they leave. -/
def Obligations.BootAndCalibrate : Prop :=
  -- RESET_RELEASE reads the straps and leads to BootState 4, 3 or 1.
  (∀ (x : BootIn) (s : State), s.pow.on = true → s.pow.pgood = true → s.pow.keepAlive = false → s.u Obj.bootState = 0 →
     ∃ t, exec (.resetRelease x) s = .next t ∧
       (x.kat ≠ none → t.u Obj.bootState = 4 ∧ t.u Obj.deviceAddress = x.straps.toNat) ∧
       (x.kat = none → x.bootsel = true → t.u Obj.bootState = 3) ∧
       (x.kat = none → t.u Obj.bootState = 1 ∨ t.u Obj.bootState = 3)) ∧
  -- CP_RELEASE begins the first privileged calibration and listens on the group bus.
  (∀ (ms : Nat) (s : State), s.pow.on = true → s.u Obj.bootState = 1 →
     ∃ t, exec (.cpRelease ms) s = .next t ∧ t.u Obj.privCalState 0 = 1 ∧ (0, 0) ∈ t.cal.runs ∧
       t.grp.listening = some t.clk.sfn ∧ t.cal.savedAt = t.clk.sfn) ∧
  -- A PRIV_CAL_COMPLETE that passes moves the calibrations on to the next step or part.
  (∀ (step : Fin 3) (part : Fin 7) (lasers : List (Fin 4)) (s : State), (step.val, part.val) ∈ s.cal.runs →
     ∃ t, exec (.privCalComplete step part true lasers) s = .next t ∧
       (step.val = 0 → s.pow.shedCheck = false → t.u Obj.privCalState 1 = 1 ∧ (1, 0) ∈ t.cal.runs) ∧
       (step.val = 1 → t.u Obj.privCalState 2 = 1 ∧ (2, part.val) ∈ t.cal.runs) ∧
       (step.val = 2 → (∃ r ∈ s.cal.runs, r ≠ (step.val, part.val)) → t.u Obj.privCalState 2 = 2 ∧
         (step.val, part.val) ∉ t.cal.runs ∧ (step.val, part.val) ∉ t.cal.failed)) ∧
  -- One that fails is noted and runs again.
  (∀ (step : Fin 3) (part : Fin 7) (lasers : List (Fin 4)) (s : State), (step.val, part.val) ∈ s.cal.runs →
     (step.val, part.val) ∉ s.cal.failed →
     ∃ t, exec (.privCalComplete step part false lasers) s = .next t ∧ (step.val, part.val) ∈ t.cal.failed ∧
       t.cal.runs = s.cal.runs ∧ t.live = s.live) ∧
  -- THERMAL_TRIP enters keep-alive mode with RegulatorMode 1 and keeps the peak.
  (∀ (peak : Int) (s : State), s.pow.on = true → s.pow.keepAlive = false →
     ∃ t, exec (.thermalTrip peak) s = .next t ∧ t.pow.keepAlive = true ∧ t.pow.tripped = true ∧ t.pow.tripPeak = peak ∧
       t.u Obj.regulatorMode = 1 ∧ t.pow.kaSince = t.clk.sfn) ∧
  -- KEEP_ALIVE_EXIT from a wake source starts the calibrations again.
  (∀ (source : Fin 4) (us : BitVec 48) (bad : List (Fin 16)) (cool : Bool) (s : State),
     s.pow.keepAlive = true → s.wakeSource source us.toNat cool = true →
     ∃ t, exec (.keepAliveExit source us bad cool) s = .next t ∧ t.u Obj.privCalState 0 = 1 ∧ (0, 0) ∈ t.cal.runs ∧
       t.grp.listening = some t.clk.sfn)

/-- Local and received boundaries: where its commands complete and what they leave. -/
def Obligations.BoundariesPass : Prop :=
  -- A withheld LOCAL_BOUNDARY changes no object and no SFN.
  (∀ (x : SfIn) (s : State), s.pow.on = true → s.pow.keepAlive = false → s.clk.withhold ≠ 0 →
     ∃ t, exec (.localBoundary x) s = .next t ∧ t.clk.withhold + 1 = s.clk.withhold ∧ t.clk.sfn = s.clk.sfn ∧ t.live = s.live) ∧
  -- Every other LOCAL_BOUNDARY raises the local SFN.
  (∀ (x : SfIn) (s : State), s.pow.on = true → s.pow.keepAlive = false → s.clk.withhold = 0 →
     ∃ t, exec (.localBoundary x) s = .next t ∧ s.clk.sfn + 1 ≤ t.clk.sfn ∧
       (t.clk.sfn = s.clk.sfn + 1 ∨ ∃ d, Logged s t 0xE008 d ∨ Logged s t 0xE009 d)) ∧
  -- RECEIVED_BOUNDARY measures, and with frame lock counts the received SFN and runs what is due on it; it
  -- never moves the local SFN.
  (∀ (c : Carrier) (delay : BitVec 32) (arrive : Int) (x : RxIn) (s : State), s.pow.on = true → s.pow.keepAlive = false →
     s.awake (Dn.rx c) = true →
     ∃ t, exec (.receivedBoundary c delay arrive x) s = .next t ∧ t.clk.sfn = s.clk.sfn ∧
       (s.u (on c Obj.frameLock) ≠ 1 → t = (s.eqReceived c x false).loadingReceived c x) ∧
       (s.u (on c Obj.frameLock) = 1 →
         let u := s.countReceived c delay.toNat
         let n := u.u (on c Obj.rxSfn)
         let due := decide ((s.fr c).ranTo < n)
         let v := ((u.eqReceived c x (due && !(u.entriesAt (.rx c) n).isEmpty)).loadingReceived c x).arrives c n arrive
         t = if due then v.runDue (.rx c) 0 else v)) ∧
  -- SUNDIAL_ENTRY_RUN runs the entry due on its count at its tick.
  (∀ (k : SCount) (tick : Fin 1024) (e : Entry) (s s1 u : State), s.pow.on = true → s.pow.keepAlive = false →
     s1 = (if k = .loc then { s with clk := { s.clk with tick := max s.clk.tick tick } } else s) →
     (s1.entriesAt k (s1.countNow k)).filter (fun x => s1.tickOf x == tick.val && decide (x.st ≠ .pendingLate)) = [e] →
     s.clk.entries.find? (fun x => x.num == e.num) = some e → (e.coord = true → e.st = .agreed) →
     (∀ d ∈ e.needs, s.awake d = true) → (s1.freeEntry e).act e false = some u →
     exec (.sundialEntryRun k tick) s = .next (u.occur 0xE080 e.attr)) ∧
  -- One not agreed is dropped with E003h.
  (∀ (k : SCount) (tick : Fin 1024) (e : Entry) (s s1 : State), s.pow.on = true → s.pow.keepAlive = false →
     s1 = (if k = .loc then { s with clk := { s.clk with tick := max s.clk.tick tick } } else s) →
     (s1.entriesAt k (s1.countNow k)).filter (fun x => s1.tickOf x == tick.val && decide (x.st ≠ .pendingLate)) = [e] →
     s.clk.entries.find? (fun x => x.num == e.num) = some e → e.coord = true → e.st ≠ .agreed →
     ∃ t, exec (.sundialEntryRun k tick) s = .next t ∧ Logged s t 0xE003 e.octets) ∧
  -- An agreed one whose domain sleeps is dropped with E002h (reason 0 is the model's, log entry 81).
  (∀ (k : SCount) (tick : Fin 1024) (e : Entry) (s s1 : State), s.pow.on = true → s.pow.keepAlive = false →
     s1 = (if k = .loc then { s with clk := { s.clk with tick := max s.clk.tick tick } } else s) →
     (s1.entriesAt k (s1.countNow k)).filter (fun x => s1.tickOf x == tick.val && decide (x.st ≠ .pendingLate)) = [e] →
     s.clk.entries.find? (fun x => x.num == e.num) = some e → e.coord = true → e.st = .agreed →
     (∃ d ∈ e.needs, s.awake d = false) →
     ∃ t, exec (.sundialEntryRun k tick) s = .next t ∧ Logged s t 0xE002 (e.octets ++ d8 0) ∧
       t.clk.entries = s.clk.entries.filter (fun x => x.num != e.num)) ∧
  -- A local one waits and is marked late.
  (∀ (k : SCount) (tick : Fin 1024) (e : Entry) (s s1 : State), s.pow.on = true → s.pow.keepAlive = false →
     s1 = (if k = .loc then { s with clk := { s.clk with tick := max s.clk.tick tick } } else s) →
     (s1.entriesAt k (s1.countNow k)).filter (fun x => s1.tickOf x == tick.val && decide (x.st ≠ .pendingLate)) = [e] →
     s.clk.entries.find? (fun x => x.num == e.num) = some e → e.coord = false → e.kind ≠ .sliceSwap → e.kind ≠ .calWindow →
     (∃ d ∈ e.needs, s.awake d = false) →
     ∃ t, exec (.sundialEntryRun k tick) s = .next t ∧ t.live = s.live ∧ t.clk.entries = s.clk.entries.map (fun x =>
       if x.num = e.num then { x with st := .pendingLate, late := true } else x)) ∧
  -- With nothing due it leaves table and objects as they are.
  (∀ (k : SCount) (tick : Fin 1024) (s : State), s.pow.on = true → s.pow.keepAlive = false →
     (∀ e ∈ s.clk.entries, e.count = k → s.countNow k = e.sfn → e.st = .pendingLate) →
     ∃ t, exec (.sundialEntryRun k tick) s = .next t ∧ t.clk.entries = s.clk.entries ∧ t.live = s.live ∧
       (k = .loc → t.clk.tick = max s.clk.tick tick)) ∧
  -- SUNDIAL_PRE_WAKE wakes the domain that an entry needs one latency before it.
  (∀ (e : Entry) (d : Nat) (s : State), s.clk.entries = [e] → e.st ≠ .proposed → e.wakes = [d] → s.domOff d = true →
     s.entryInstant e ≤ s.now + s.wakeLatency d * 100000000 →
     exec .sundialPreWake s = .next (s.accessDom d (e.coord && decide (e.st = .agreed))).2) ∧
  -- One awake already only has its idle timer restarted.
  (∀ (e : Entry) (d : Nat) (s : State), s.clk.entries = [e] → e.st ≠ .proposed → e.wakes = [d] → (s.dom d).st = .awake →
     s.entryInstant e ≤ s.now + s.wakeLatency d * 100000000 → exec .sundialPreWake s = .next (s.touch d)) ∧
  -- Before that instant it does nothing.
  (∀ s : State, (∀ e ∈ s.clk.entries, ∀ d ∈ e.wakes, s.now + s.wakeLatency d * 100000000 < s.entryInstant e) →
     exec .sundialPreWake s = .next s) ∧
  -- COMMIT_POINT at four superframes before an unanswered proposal cancels it with E003h.
  (∀ (e : Entry) (s : State),
     s.clk.entries.filter (fun x => x.coord && decide (x.st = .proposed) && decide (x.sfn ≤ s.clk.sfn + 4)) = [e] →
     exec .commitPoint s = .next (s.commitFail e) ∧ Logged s (s.commitFail e) 0xE003 e.octets) ∧
  -- With every proposal answered by then it does nothing.
  (∀ s : State, (∀ e ∈ s.clk.entries, e.coord = true → e.st = .proposed → s.clk.sfn + 4 < e.sfn) →
     exec .commitPoint s = .next s) ∧
  -- RELOCK_CANDIDATE tries the next loading two superframes after the last.
  (∀ (c : Carrier) (x : Loading) (s : State), s.lock c = 7 → s.u (on c Obj.frameLock) ≠ 1 →
     (if (s.ld c).lastForce.isNone then (s.fr c).unlockedAt else (s.ld c).candFrom) + 2 ≤ s.clk.sfn →
     (s.candidates c ((s.ld c).lastForce.getD (s.loading c .rx)))[(if (s.ld c).lastForce.isNone then 0 else (s.ld c).cand) + 1]? = some x →
     ∃ t, exec (.relockCandidate c) s = .next t ∧
       (t.ld c).cand = (if (s.ld c).lastForce.isNone then 0 else (s.ld c).cand) + 1 ∧ (t.ld c).candFrom = s.clk.sfn ∧
       (t.ld c).lastForce = some ((s.ld c).lastForce.getD (s.loading c .rx))) ∧
  -- LOADING_RESET enters a local loading change at its SFN.
  (∀ (c : Carrier) (n : BitVec 64) (foot : Bool) (s : State) (e : Entry), e = resetEntry c .tx n.toNat (b2n foot) →
     (∀ x ∈ s.clk.entries, x.yieldsTo e = false) → s.tableFull e = false → s.fits e = true →
     ∃ t, exec (.loadingReset c n foot) s = .next t ∧ { e with num := (s.addEntry e).1 } ∈ t.clk.entries ∧
       e.kind = .loadingChange ∧ e.coord = false ∧ e.sfn = n.toNat ∧ e.carrier = some c ∧ e.dir = .tx ∧ e.count = .loc) ∧
  -- With the table full it is dropped and counted.
  (∀ (c : Carrier) (n : BitVec 64) (foot : Bool) (s : State) (e : Entry), e = resetEntry c .tx n.toNat (b2n foot) →
     (∀ x ∈ s.clk.entries, x.yieldsTo e = false) → s.tableFull e = true → s.u Obj.droppedCount < 4294967295 →
     ∃ t, exec (.loadingReset c n foot) s = .next t ∧ t.clk = s.clk ∧ t.u Obj.droppedCount = s.u Obj.droppedCount + 1 ∧
       Logged s t 0xE006 (e.octets ++ d8 2))

/-- Power domains: where its commands complete and what they leave. -/
def Obligations.DomainsSleepAndWake : Prop :=
  -- SLEEP_ENTRY_DONE turns a domain off and frees its ledger cost.
  (∀ (d : Fin 25) (s : State), (s.dom d).st = .entering → (s.dom d).wakeNext = false →
     ∃ t, exec (.sleepEntryDone d) s = .next t ∧ (t.dom d).st = .off ∧
       ∀ x ∈ t.pow.ledger, ¬(x.act = Act.domain ∧ x.item = d.val)) ∧
  -- IDLE_TIMER_EXPIRE begins sleep after the domain's idle time unless something refuses it.
  (∀ (d : Fin 25) (s : State), s.awake d = true → neverIdle d = false → s.u Obj.idleTimer d ≠ 0xFFFFFFFF →
     (s.dom d).access + sfOfMs (s.u Obj.idleTimer d) ≤ s.clk.sfn → s.refuser d = 0 →
     exec (.idleTimerExpire d) s = .next (s.beginSleep d false)) ∧
  -- A refused entry leaves the domain awake with its timer restarted.
  (∀ (d : Fin 25) (s : State), s.awake d = true → neverIdle d = false → s.u Obj.idleTimer d ≠ 0xFFFFFFFF →
     (s.dom d).access + sfOfMs (s.u Obj.idleTimer d) ≤ s.clk.sfn → s.refuser d ≠ 0 →
     ∃ t, exec (.idleTimerExpire d) s = .next t ∧ (t.dom d).st = .awake ∧ (t.dom d).access = s.clk.sfn) ∧
  -- DOMAIN_ACCESS of an awake domain is noted.
  (∀ (d : Fin 25) (s : State), d.val ≠ 0 → (s.dom d).st = .awake →
     ∃ t, exec (.domainAccess d) s = .next t ∧ (t.dom d).st = .awake ∧ t = s.touch d) ∧
  -- DOMAIN_HOLD_WRITE stores the value.
  (∀ (w : Requester) (d : Fin 25) (v n : Int) (s s' : State), Admitted s s' w 2 Obj.domainHold d (.num v) (.num n) →
     Accepts (.domainHoldWrite w d v) s w 2 Obj.domainHold d (fun x => x = s'.put Obj.domainHold d n)) ∧
  -- DOMAIN_WAKE_COMPLETE leaves the domain awake and the SRAM of its banks that sleep erased empty.
  (∀ (d : Fin 25) (bad : List (Fin 16)) (s : State), (s.dom d).st = .waking →
     d.val ∉ [Dn.ctl, Dn.grt, Dn.svc, Dn.hla, Dn.hla + 1, Dn.hla + 2, Dn.hla + 3, Dn.dpa, Dn.dpa + 1, Dn.dpa + 2, Dn.dpa + 3,
       Dn.tx .a, Dn.tx .b, Dn.rx .a, Dn.rx .b] →
     (∀ r ∈ s.retBanksOf d, (s.ret r).state ≠ 1) → (∀ h ∈ s.pow.held, h.dom ≠ d.val) → (∀ x ∈ s.aop.stalls, x.dom ≠ d.val) →
     ∃ t, exec (.domainWakeComplete d bad) s = .next t ∧ (t.dom d).st = .awake ∧
       ∀ p ∈ t.mem.sram, 1408 * bankSize ≤ p.1 ∨ bankDomain (p.1 / bankSize) ≠ d.val) ∧
  -- WAKE_STALL_PROGRESS answers 0401h once a second while an operation waits.
  (∀ (i : Nat) (x : Stall) (s : State), s.aop.stalls[i]? = some x → x.told.getD x.since + progressSf ≤ s.clk.sfn →
     ∃ t, exec (.wakeStallProgress i) s = .next t ∧ t.aop.stalls[i]? = some { x with told := some s.clk.sfn } ∧
       t.out = .aop x.asker.transport x.asker.source x.asker.port (aopMsg 3 1 x.asker.session x.asker.sequence 0
         (opMsg x.op.op 0 x.op.obj x.op.mem 0x0401 0 [] [])) :: s.out ∧
       (x.told = none → t.aop.violCount = s.aop.violCount + 1)) ∧
  -- STALL_LIMIT ends it after 60 s and logs 200Bh.
  (∀ (i : Nat) (x : Stall) (s : State), s.aop.stalls[i]? = some x → x.since + 600000 ≤ s.clk.sfn →
     ∃ t, exec (.stallLimit i) s = .next t ∧ t.aop.stalls = s.aop.stalls.eraseIdx i ∧
       Logged s t 0x200B (d8 x.dom) ∧ t.pow = s.pow)

/-- Ledger: where its commands complete and what they leave. -/
def Obligations.LedgerAndShedding : Prop :=
  -- LEDGER_REQUEST within headroom enters its cost.
  (∀ (act : Fin 12) (item cost : Nat) (s : State), act.val ≠ Act.cal → s.judge act item cost = 0 →
     ∃ t, exec (.ledgerRequest act item cost) s = .next t ∧
       ({ act := act, item := item, cost := s.holds act item + cost } : LedgerItem) ∈ t.pow.ledger) ∧
  -- A privileged calibration is granted whatever the headroom.
  (∀ (act : Fin 12) (item cost : Nat) (s : State), act.val = Act.cal →
     ∃ t, exec (.ledgerRequest act item cost) s = .next t ∧
       ({ act := act, item := item, cost := s.holds act item + cost } : LedgerItem) ∈ t.pow.ledger) ∧
  -- One beyond it is counted and changes nothing of the power.
  (∀ (act : Fin 12) (item cost : Nat) (s : State), act.val ≠ Act.cal → s.judge act item cost ≠ 0 →
     s.u Obj.refuseCount act < 4294967295 →
     ∃ t, exec (.ledgerRequest act item cost) s = .next t ∧ t.pow = s.pow ∧
       t.u Obj.refuseCount act = s.u Obj.refuseCount act + 1) ∧
  -- SHED frees the mean measured power plus margin less the ceiling.
  (∀ s : State, 50 ≤ s.pow.aboveRun → s.pow.shedCheck = true → s.shedExhausted = false →
     exec .shed s = .next (s.shedNow (sumNat s.pow.recentM / (max 1 s.pow.recentM.length) + s.shedMargin - s.ceiling) false)) ∧
  -- After it the run above the ceiling starts again.
  (∀ s : State, 50 ≤ s.pow.aboveRun → s.pow.shedCheck = true → s.shedExhausted = false →
     ∃ t, exec .shed s = .next t ∧ t.pow.aboveRun = 0 ∧ t.supply = s.supply ∧ t.pow.shedAt = some t.clk.sfn ∧
       ∃ groups freed : Nat, Logged s t 0x2002 (d16 groups ++ dW freed ++ dW t.pow.measured ++ dW t.ceiling)) ∧
  -- SHED_UNRESOLVED sets ShedState 3 and logs 2003h.
  (∀ s : State, 50 ≤ s.pow.aboveRun → s.pow.shedCheck = true → s.shedExhausted = true → s.pow.unresolved = false →
     ∃ t, exec .shedUnresolved s = .next t ∧ t.pow.unresolved = true ∧ t.u Obj.shedState = 3 ∧
       Logged s t 0x2003 (d8 1 ++ dW s.pow.measured)) ∧
  -- SHED_POSITION_RESET after 1 s below starts the shed order anew and ends the unresolved state.
  (∀ s : State, 10000 ≤ s.pow.belowRun →
     ∃ t, exec .shedPositionReset s = .next t ∧ t.pow.shedPos = 0 ∧ t.pow.unresolved = false ∧
       (s.pow.unresolved = true → Logged s t 0x2003 (d8 0 ++ dW s.pow.measured))) ∧
  -- CEILING_WRITE takes effect at the next boundary.
  (∀ (w : Requester) (v n : Int) (s s' : State), Admitted s s' w 2 Obj.ceiling 0 (.num v) (.num n) →
     Accepts (.ceilingWrite w v) s w 2 Obj.ceiling 0
       (fun x => x = { s with pow := { s.pow with newCeiling := some n.toNat } }))

/-- SRAM errors: where its commands complete and what they leave. -/
def Obligations.MemoryErrors : Prop :=
  -- An uncorrectable SRAM_ERROR logs B002h.
  (∀ (x : SramHit) (scrubber : Bool) (s : State), bankRegion x.bank ≠ 1 → x.uncorrectable = true →
     ∃ t, exec (.sramError x scrubber) s = .next t ∧
       Logged s t 0xB002 (d32 (hitAddr x) ++ d8 (bankRegion x.bank) ++ d8 (b2n scrubber))) ∧
  -- A correctable one is counted at its bank.
  (∀ (x : SramHit) (scrubber : Bool) (s : State), bankRegion x.bank ≠ 1 → x.uncorrectable = false →
     ∃ t, exec (.sramError x scrubber) s = .next t ∧ t.mem.poison = s.mem.poison ∧ t.mem.sram = s.mem.sram ∧
       (t.bankInfo x.bank).corrected = (s.bankInfo x.bank).corrected + 1) ∧
  -- SCRUB_PASS shows its time and sets the next pass.
  (∀ (ms : Nat) (found : List SramHit) (s : State), s.mem.scrubAt + sfOfMs ms ≤ s.clk.sfn → s.awake Dn.ctl = true →
     ∃ t, exec (.scrubPass ms found) s = .next t ∧ t.u Obj.scrubPassTime = ms ∧ t.clk.sfn = s.clk.sfn ∧ s.clk.sfn ≤ t.mem.scrubAt ∧
       (found = [] → t.mem.scrubAt = max (s.mem.scrubAt + s.u Obj.scrubPeriod * sfPerSecond) s.clk.sfn ∧
         t.mem.poison = s.mem.poison)) ∧
  -- POISON_RELOAD replaces a reloadable word and logs B003h.
  (∀ (addr : Nat) (x : Content) (s : State), s.mem.poison.find? (fun p => p.1 == addr) = some (addr, x) → reloads x = true →
     addr < 1408 * bankSize → s.safeFor x = true →
     ∃ t, exec (.poisonReload addr) s = .next t ∧ Logged s t 0xB003 (d32 addr) ∧ ∀ p ∈ t.mem.poison, p.1 ≠ addr) ∧
  -- LIGHT_PARITY_ERROR is counted at its bank.
  (∀ (bank : Fin 1536) (offset : Fin 262144) (x : LightContent) (s : State), bankRegion bank = 1 →
     ∃ t, exec (.lightParityError bank offset x) s = .next t ∧ (t.bankInfo bank).parity = (s.bankInfo bank).parity + 1 ∧
       t.mem.sram = s.mem.sram)

/-- Icehouse: where its commands complete and what they leave. -/
def Obligations.IcehouseRecords : Prop :=
  -- PAGE_PROGRAM_DONE counts a page of the record being written.
  (∀ (j : IceJob) (l : List IceJob) (s : State), s.mem.queue = j :: l → s.awake Dn.ice = true → j.done < j.recd.pages →
     ∃ t, exec (.pageProgramDone true) s = .next t ∧ t.mem.queue = { j with done := j.done + 1 } :: l ∧ t.mem.recs = s.mem.recs ∧
       t.mem.nand = (s.program j.recd j.done).mem.nand) ∧
  -- COMMIT_MARKER_PROGRAMMED commits it.
  (∀ (j : IceJob) (l : List IceJob) (s : State), s.mem.queue = j :: l → s.awake Dn.ice = true → j.recd.pages ≤ j.done →
     j.copy = true → s.mem.moving = [] → 4 ≤ (s.erasedBlocks (regionBlocks j.recd.region)).length →
     ∃ t, exec .commitMarkerProgrammed s = .next t ∧ t.mem.queue = l ∧ { j.recd with committed := true } ∈ t.mem.recs) ∧
  -- RECORD_WRITE queues a record of its region.
  (∀ (typ : Fin 8) (region : Fin 6) (subject : Nat) (payload : List Byte) (s : State), typ.val ≠ 0 → region.val ≠ 0 →
     ¬(region.val = 1 ∧ 12 ≤ subject) →
     exec (.recordWrite typ region subject payload) s = .next (s.writeRecord typ region subject payload none).2) ∧
  -- PAGE_READ_DONE of erased sectors changes no object and no record.
  (∀ (block : Fin 3968) (page : Fin 256) (sectors : List SectorIn) (s : State), s.awake Dn.ice = true →
     (∀ x ∈ sectors, x = .erased) →
     ∃ t, exec (.pageReadDone block page sectors) s = .next t ∧ t.mem = { s.mem with lastRead := [] } ∧ t.live = s.live) ∧
  -- An uncorrectable sector logs B00Ch.
  (∀ (block : Fin 3968) (page : Fin 256) (l1 l2 : List SectorIn) (s : State), s.awake Dn.ice = true →
     l1.length + l2.length = 7 → (∀ x ∈ l1, x = .erased) → (∀ x ∈ l2, x = .erased) →
     ∃ t, exec (.pageReadDone block page (l1 ++ .uncorrectable :: l2)) s = .next t ∧ t.mem = { s.mem with lastRead := [] } ∧
       Logged s t 0xB00C (d32 (sectorOf (block.val * 256 + page.val) + l1.length))) ∧
  -- BLOCK_ERASE_DONE that failed logs B00Ah and suspends the block.
  (∀ (b : Nat) (l : List Nat) (s : State), s.mem.erasing = b :: l → s.awake Dn.ice = true →
     ∃ t, exec (.blockEraseDone false) s = .next t ∧ Logged s t 0xB00A (d16 b ++ d8 1)) ∧
  -- One of good sectors leaves their octets as they decrypt and its correction count.
  (∀ (block : Fin 3968) (page : Fin 256) (n : Nat) (s : State), s.awake Dn.ice = true → n ≤ regionT (regionOf block) →
     ∃ t, exec (.pageReadDone block page [.corrected n]) s = .next t ∧
       (t.block block).maxCorr = max (s.block block).maxCorr n ∧
       ∀ c, assocGet s.mem.nand (sectorOf (block * 256 + page)) = some c →
         t.mem.lastRead = [(sectorOf (block * 256 + page), s.sectorCipher Config.xtsDec (sectorOf (block * 256 + page)) c)]) ∧
  -- One that passed counts an erase.
  (∀ (b : Nat) (l : List Nat) (s : State), s.mem.erasing = b :: l → s.awake Dn.ice = true →
     4 ≤ (s.erasedBlocks (regionBlocks (regionOf b))).length →
     ∃ t, exec (.blockEraseDone true) s = .next t ∧ t.mem.erasing = l ∧ (t.block b).erased = true ∧
       (t.block b).erases = (s.block b).erases + 1) ∧
  -- With nothing weak it sets the next refresh.
  (∀ (shown : List (Nat × Nat)) (s : State), s.mem.refreshAt ≤ s.clk.sfn → s.awake Dn.ice = true →
     (∀ x ∈ s.mem.recs, weakRec shown x = false) →
     ∃ t, exec (.refresh shown) s = .next t ∧ t.mem.refreshAt = s.clk.sfn + s.u Obj.refreshPeriod * daySf ∧
       t.mem.recs = s.mem.recs ∧ t.mem.queue = s.mem.queue) ∧
  -- REFRESH writes a weak live record anew and logs B00Eh.
  (∀ (shown : List (Nat × Nat)) (s z s1 u : State) (x y : IceRec), s.mem.refreshAt ≤ s.clk.sfn → s.awake Dn.ice = true →
     z = s.touch Dn.ice → s1 = { z with mem := { z.mem with refreshAt := z.clk.sfn + z.u Obj.refreshPeriod * daySf } } →
     s1.mem.recs.filter (fun r => s1.liveRec r && weakRec shown r) = [x] →
     s1.newRecord x.typ x.region x.subject x.payload = some (y, u) →
     exec (.refresh shown) s = .next ((u.queueRecord y none true).log 0xB00E
       (d8 x.region ++ d16 (x.firstPage / 256) ++ d16 (y.firstPage / 256)))) ∧
  -- BLOCK_RESTORE of a suspended block returns it to service and logs B00Bh.
  (∀ (w : Requester) (v n : Int) (s s' : State), Admitted s s' w 2 Obj.blockRestore 0 (.num v) (.num n) →
     (s'.block n.toNat).state = 1 →
     Accepts (.blockRestore w v) s w 2 Obj.blockRestore 0 (fun x => (x.block n.toNat).state = 0 ∧
       Logged s' x 0xB00B (d16 n.toNat ++ d16 (s'.block n.toNat).physical)))

/-- Footpath sending: where its commands complete and what they leave. -/
def Obligations.FootpathSends : Prop :=
  -- FOOTPATH_LEDGER_RETRY still refused asks again 100 superframes on and holds no power.
  (∀ (c : Carrier) (d : Fin 2) (t0 : Nat) (s : State), nth (s.ft c).refused d none = some t0 → t0 + 100 ≤ s.clk.sfn →
     s.footWanted c d = true → s.footOn c d = false → s.judge Act.foot (footItem c d) (footCost d) ≠ 0 → d.val < (s.ft c).refused.length →
     ∃ t, exec (.footpathLedgerRetry c d) s = .next t ∧ nth (t.ft c).refused d none = some s.clk.sfn ∧ t.pow = s.pow) ∧
  -- FOOTPATH_PACKET_TRANSMIT sends the next packet, counts it, takes the next Sequence and keeps the line for
  -- its length.
  (∀ (c : Carrier) (p : FootPkt) (s : State), nextPkt (s.ft c).queue = some p → (s.ft c).txOn = true →
     (s.ft c).freeAt ≤ s.now → s.calRunning = false → s.u (on c Obj.txPacketCount) < 4294967295 →
     let z := s.put (on c Obj.footpathToneInUse) 0 (s.toneWanted c)
     ∃ t, exec (.footpathPacketTransmit c) s = .next t ∧ (t.ft c).queue = (s.ft c).queue.erase p ∧
       (t.ft c).seq = ((s.ft c).seq + 1) % 256 ∧ t.u (on c Obj.footpathToneInUse) = s.toneWanted c ∧
       t.u (on c Obj.txPacketCount) = s.u (on c Obj.txPacketCount) + 1 ∧
       (t.ft c).freeAt = s.now + (176 + 8 * p.data.length + 32) * 80000000 ∧
       t.out = .foot c (toneKhz (z.toneWanted c)) (z.u (on c Obj.footpathDepth))
         (dpskPhases false (octetBits (z.footOctets c p))) :: s.out) ∧
  -- HELLO queues a Hello when its interval has passed.
  (∀ (c : Carrier) (s : State), (s.ft c).txOn = true → (s.ft c).helloAt + s.helloSf c ≤ s.clk.sfn →
     ∃ t, exec (.hello c) s = .next t ∧ (t.ft c).helloAt = s.clk.sfn ∧
       ((s.ft c).queue.length < 16 → { typ := 1, dest := 0xFFFF, data := s.helloPayload c } ∈ (t.ft c).queue)) ∧
  -- FOOTPATH_SEND queues the host's packet while fewer than four wait.
  (∀ (w : Requester) (c : Carrier) (row b : List Byte) (s s' : State),
     Admitted s s' w 2 (on c Obj.footpathSend) 0 (.octs row) (.octs b) →
     ((s'.ft c).queue.filter (fun p => p.typ == 5)).length < 4 →
     Accepts (.footpathSend w c row) s w 2 (on c Obj.footpathSend) 0
       (fun x => x = s'.footQueue c { typ := 5, dest := ofBe (slice b 2 2), data := b.drop 6 }))

/-- Footpath receiving: where its commands complete and what they leave. -/
def Obligations.FootpathReceives : Prop :=
  -- TONE_DETECTED above the noise floor by the margin starts the search for sync.
  (∀ (c : Carrier) (levels : List (List Int)) (k : Nat) (s : State), s.rxState c = 1 → s.toneFound c levels = some k →
     ∃ t, exec (.toneHeard c levels) s = .next t ∧ t.rxState c = 2 ∧ (t.ft c).tone = k ∧
       (t.ft c).level = nth (levels.headD []) k (-32768) ∧ (t.ft c).since = s.now) ∧
  -- SYNC_MATCH within the tolerance starts the header.
  (∀ (c : Carrier) (window : BitVec 32) (level : Int) (s : State), s.syncMatches c window = true → s.rxState c = 2 →
     ∃ t, exec (.syncMatch c window level) s = .next t ∧ t = s.startHeader c (s.ft c).tone level ∧ t.rxState c = 3 ∧
       (t.ft c).level = level ∧ (t.ft c).header = []) ∧
  -- One while a header is read counts a false detection and starts again.
  (∀ (c : Carrier) (window : BitVec 32) (level : Int) (s : State), s.syncMatches c window = true → s.rxState c = 3 →
     exec (.syncMatch c window level) s = .next ((s.bump (on c Obj.falseDetectCount)).startHeader c (s.ft c).tone level)) ∧
  -- FALSE_DETECTION without sync in 96 bits counts and searches on.
  (∀ (c : Carrier) (s : State), s.rxState c = 2 → (s.ft c).since + 96 * 80000000 ≤ s.now →
     s.u (on c Obj.falseDetectCount) < 4294967295 →
     ∃ t, exec (.falseDetection c) s = .next t ∧ t.rxState c = 1 ∧
       t.u (on c Obj.falseDetectCount) = s.u (on c Obj.falseDetectCount) + 1) ∧
  -- HEADER_CHECK of a sound header goes on to the payload.
  (∀ (c : Carrier) (octets : List Byte) (s : State), s.rxState c = 3 → octets.length = 10 →
     headerCheck octets = ofBe (slice octets 9 1) → ofBe (slice octets 2 2) ≤ 256 →
     ∃ t, exec (.headerCheck c octets) s = .next t ∧ t.rxState c = 4 ∧ (t.ft c).header = octets) ∧
  -- A bad one is counted.
  (∀ (c : Carrier) (octets : List Byte) (s : State), s.rxState c = 3 →
     ¬(octets.length = 10 ∧ headerCheck octets = ofBe (slice octets 9 1) ∧ ofBe (slice octets 2 2) ≤ 256) →
     s.u (on c Obj.headerFailCount) < 4294967295 →
     ∃ t, exec (.headerCheck c octets) s = .next t ∧ t.rxState c = 1 ∧
       t.u (on c Obj.headerFailCount) = s.u (on c Obj.headerFailCount) + 1) ∧
  -- WATCH_MATCH of a tone 6 dB stronger leaves the packet for it.
  (∀ (c : Carrier) (tone : Fin 64) (rise : List Int) (window : BitVec 32) (level : Int) (s : State), 2 ≤ s.rxState c →
     s.syncMatches c window = true → (∀ l ∈ rise, (s.ft c).level + 60 ≤ l) →
     ∃ t, exec (.watchHit c tone rise window level) s = .next t ∧
       t = (s.bump (on c Obj.lostToStrongerCount)).startHeader c tone level ∧ t.rxState c = 3 ∧ (t.ft c).tone = tone ∧
       (t.ft c).level = level) ∧
  -- NOISE_FLOOR_WINDOW sets each floor to the mean of its last hundred levels.
  (∀ (c : Carrier) (levels : List Int) (k : Fin 64) (s : State), s.rxState c = 1 → levels.length = 64 →
     ∃ t, exec (.noiseFloorWindow c levels) s = .next t ∧ t.i (on c Obj.noiseFloor) k =
       roundDiv (((nth levels k 0 :: nth (s.ft c).floors k []).take 100).foldl (· + ·) 0)
         ((nth levels k 0 :: nth (s.ft c).floors k []).take 100).length) ∧
  -- NEIGHBOUR_LOST after three Hello intervals clears Neighbour and logs D004h.
  (∀ (c : Carrier) (a : Nat) (s : State), (s.ft c).neighbour = some a → (s.ft c).found + 3 * s.helloSf c ≤ s.clk.sfn →
     ∃ t, exec (.neighbourLost c) s = .next t ∧ t.o (on c Obj.neighbour) = [] ∧
       (t.ft c).neighbour = (if s.u (on c Obj.frameLock) = 1 then some a else none) ∧ Logged s t 0xD004 (d16 a)) ∧
  -- FOOTPATH_PACKET_END with a right CRC searches on.
  (∀ (c : Carrier) (payload : List Byte) (check : BitVec 32) (level snr : Int) (s : State), s.rxState c = 4 →
     payload.length = ofBe (slice (s.ft c).header 2 2) → crc32 ((s.ft c).header ++ payload) = check.toNat →
     let h := (s.ft c).header
     let typ := ofBe (slice h 0 1)
     let source := ofBe (slice h 4 2) % 8192
     let dest := ofBe (slice h 6 2)
     let z := ((((s.bump (on c Obj.rxPacketCount)).occur 0xD080 { carrier := some c, cls := some 3 }).put (on c Obj.lastRxLevel) 0
       level).put (on c Obj.lastRxSnr) 0 snr)
     ∃ t, exec (.footpathPacketEnd c payload check level snr) s = .next t ∧ t.rxState c = 1 ∧
       (footFormat typ payload.length = false → t = (z.bump (on c Obj.formatErrorCount)).footSearch c) ∧
       (footFormat typ payload.length = true → source = s.u Obj.deviceAddress →
         t = (z.bump (on c Obj.echoCount)).footSearch c) ∧
       (footFormat typ payload.length = true → source ≠ s.u Obj.deviceAddress →
         (dest = s.u Obj.deviceAddress ∨ dest = 0xFFFF) → t = (z.footAct c typ source payload).footSearch c) ∧
       (footFormat typ payload.length = true → source ≠ s.u Obj.deviceAddress → dest ≠ s.u Obj.deviceAddress → dest ≠ 0xFFFF →
         t = (z.bump (on c Obj.notForUsCount)).footSearch c)) ∧
  -- With a wrong one it counts it.
  (∀ (c : Carrier) (payload : List Byte) (check : BitVec 32) (level snr : Int) (s : State), s.rxState c = 4 →
     payload.length ≠ ofBe (slice (s.ft c).header 2 2) ∨ crc32 ((s.ft c).header ++ payload) ≠ check.toNat →
     s.u (on c Obj.crcFailCount) < 4294967295 →
     ∃ t, exec (.footpathPacketEnd c payload check level snr) s = .next t ∧ t.rxState c = 1 ∧
       t.u (on c Obj.crcFailCount) = s.u (on c Obj.crcFailCount) + 1)

/-- Received cores: where its commands complete and what they leave. -/
def Obligations.CoresArrive : Prop :=
  -- CORE_INVALID is counted.
  (∀ (c : Carrier) (s : State), s.awake Dn.frm = true → s.u (on c Obj.frameLock) ≠ 0 → (s.fr c).invalidRun < 7 →
     s.u (on c Obj.coreInvalidCount) < 4294967295 →
     ∃ t, exec (.coreInvalid c) s = .next t ∧ t.u (on c Obj.coreInvalidCount) = s.u (on c Obj.coreInvalidCount) + 1 ∧
       (t.fr c).invalidRun = (s.fr c).invalidRun + 1 ∧ (t.fr c).jumpRun = 0 ∧
       t.u (on c Obj.frameLock) = s.u (on c Obj.frameLock)) ∧
  -- The eighth in a row logs the loss of frame lock, 7002h.
  (∀ (c : Carrier) (s : State), s.awake Dn.frm = true → s.u (on c Obj.frameLock) ≠ 0 → 7 ≤ (s.fr c).invalidRun →
     ∃ t, exec (.coreInvalid c) s = .next t ∧ Logged s t 0x7002 (d8 0)) ∧
  -- One that is valid gives the remote defect, without frame lock too.
  (∀ (c : Carrier) (s : State), s.awake Dn.frm = true → Core.valid (s.heldCore c false) = true →
     s.u (on c Obj.frameLock) = 0 → s.lock c ≠ 7 →
     ∃ t, exec (.coreArrives c) s = .next t ∧ (t.fr c).core = s.heldCore c false ∧
       t.u (on c Obj.remoteDefect) = b2n (bit (Core.word (s.heldCore c false) 5) 6)) ∧
  -- CORE_RECEIVED of a valid core of the counted superframe is acted on.
  (∀ (c : Carrier) (s : State), s.awake Dn.frm = true → Core.valid (s.heldCore c false) = true →
     s.u (on c Obj.frameLock) ≠ 0 → Core.sfn (s.heldCore c false) = s.u (on c Obj.rxSfn) →
     let k := s.heldCore c false
     let z := (s.setFr c (fun f => { f with core := k, head := [], rxPtp := [], blockIn := [] })).showDefect c (bit (Core.word k 5) 6)
     exec (.coreArrives c) s = .next (((z.setFr c (fun f => { f with invalidRun := 0 })).setFr c
       (fun f => { f with jumpRun := 0 })).actCore c k)) ∧
  -- One that is not valid is counted.
  (∀ (c : Carrier) (s : State), s.awake Dn.frm = true → Core.valid (s.heldCore c false) = false →
     Core.valid (s.heldCore c true) = false → exec (.coreArrives c) s = .next (s.coreInvalid c))

/-- The decoder pool: where its commands complete and what they leave. -/
def Obligations.PoolWorks : Prop :=
  -- CODEWORD_ARRIVE puts the new codeword into the next active bank's free slot.
  (∀ (c : Carrier) (g : GroupIn) (b i : Nat) (l : List Int) (s : State), g.llrs = [l] →
     0 < groupSize (s.codewords c (s.codesOf c (s.frameLoading c g.frame g.trial))) g.group →
     s.nextSlot = some (b, i) → s.pool.lastOut.get c < s.now + s.u Obj.residencyBudget * (microsecond / 10) →
     ∃ t, exec (.codewordArrive c g) s = .next t ∧ ∃ x ∈ t.pool.words,
       { x with running := false } = { s.newWord c g 0 l with slot := some i }) ∧
  -- It is number 16g + j, due one residency budget on, and erased where more than half of its soft values are.
  (∀ (c : Carrier) (g : GroupIn) (j : Nat) (l : List Int) (s : State), s.lock c ≠ 8 →
     (s.newWord c g j l).carrier = c ∧ (s.newWord c g j l).frame = g.frame ∧
     (s.newWord c g j l).number = 16 * g.group + j ∧ (s.newWord c g j l).arrived = s.now ∧
     (s.newWord c g j l).release = s.now + s.u Obj.residencyBudget * (microsecond / 10) ∧
     (s.newWord c g j l).iters = 0 ∧ (s.newWord c g j l).hard = hardBits l ∧
     ((s.newWord c g j l).erased = true ↔ codeLength < 2 * erasures l) ∧
     ((s.newWord c g j l).finished = true ↔ codeLength < 2 * erasures l)) ∧
  -- With no slot it is counted as an overflow and kept, finished.
  (∀ (c : Carrier) (g : GroupIn) (l : List Int) (s : State), g.llrs = [l] →
     0 < groupSize (s.codewords c (s.codesOf c (s.frameLoading c g.frame g.trial))) g.group →
     s.nextSlot = none → s.pool.lastOut.get c < s.now + s.u Obj.residencyBudget * (microsecond / 10) →
     ∃ t, exec (.codewordArrive c g) s = .next t ∧ t.pool.overflows = s.pool.overflows + 1 ∧
       ∃ x ∈ t.pool.words, { x with running := false } = { s.newWord c g 0 l with finished := true }) ∧
  -- ITERATION_COMPLETE in time counts the iteration, takes its decisions and stops at a zero syndrome or the
  -- cap.
  (∀ (slot : Nat) (x : Codeword) (s : State),
     s.pool.words.find? (fun x => decide (x.slot = some slot) && x.running) = some x → s.now + microsecond / 4 < x.release →
     ∃ t, exec (.iterationEnd slot) s = .next t ∧ t.pool.used = s.pool.used + 1 ∧
       ∃ y ∈ t.pool.words, y.is x = true ∧ y.iters = x.iters + 1 ∧ y.bits = Config.decoded x.load.rate x.llrs (x.iters + 1) ∧
         y.zero = syndromeZero x.load.rate y.bits ∧ (y.zero = true → y.finished = true) ∧
         (x.low = false → s.pool.cap ≤ x.iters + 1 → y.finished = true)) ∧
  -- Too near the release it counts none and finishes the codeword.
  (∀ (slot : Nat) (x : Codeword) (s : State),
     s.pool.words.find? (fun x => decide (x.slot = some slot) && x.running) = some x → x.release ≤ s.now + microsecond / 4 →
     ∃ t, exec (.iterationEnd slot) s = .next t ∧ t.pool.used = s.pool.used ∧
       ∃ y ∈ t.pool.words, { y with running := false } = { x with running := false, finished := true }) ∧
  -- CODEWORD_RELEASE passes the information bits on, adds to the histogram and to the carrier's results and
  -- frees the slot.
  (∀ (c : Carrier) (frame number : Nat) (trial : Bool) (x : Codeword) (s : State),
     s.pool.words.find? (fun x => decide (x.carrier = c) && x.frame == frame && x.number == number &&
         x.trial == trial && decide (x.release < s.now + 9765625)) = some x →
     ∃ t, exec (.codewordLeaves c frame number trial) s = .next t ∧
       t.pool.hist = modNth s.pool.hist (min x.iters 32) (· + 1) ∧
       t.pool.cur = s.pool.cur.upd c (fun k => k.add x.zero (bitsDiffer x.bits x.hard)) ∧
       (∀ y ∈ t.pool.words, y.is x = false) ∧
       .codeword c frame number (x.bits % 2 ^ infoBits x.load.rate) (!x.zero) ∈ t.out) ∧
  -- BANK_DRAINED takes a bank out and logs 6005h.
  (∀ (b : Fin 4) (s : State), s.bankSt b = 3 → s.inBank b = [] → nth s.pool.drains b .none = .out →
     ∃ t, exec (.bankDrained b) s = .next t ∧ t.bankSt b = 4 ∧ Logged s t 0x6005 (d8 b)) ∧
  -- Or loads its microcode.
  (∀ (b : Fin 4) (s : State), s.bankSt b = 3 → s.inBank b = [] →
     nth s.pool.drains b .none ≠ .out → nth s.pool.drains b .none ≠ .none → s.pool.masterBad = false →
     ∃ t, exec (.bankDrained b) s = .next t ∧ t.bankSt b = 5 ∧ t.pool = s.pool) ∧
  -- MICROCODE_RELOAD_DONE puts it in service again and logs 6008h after a poisoned word.
  (∀ (b : Fin 4) (s : State), s.bankSt b = 5 → s.pool.masterBad = false →
     ∃ t, exec (.microcodeReloadDone b) s = .next t ∧ t.bankSt b = (if s.inService b then 1 else 4) ∧
       t.pool.drains = setNth s.pool.drains b .none ∧
       ∀ a, nth s.pool.drains b .none = .poison a → Logged s t 0x6008 (d8 b ++ d32 a)) ∧
  -- BANK_RETURNED puts the lowest bank that is out in service again.
  (∀ (b : Nat) (s : State), 10 ≤ s.pool.failRun →
     allBanks.find? (fun b => !s.inService b && s.bankSt b != 5 && s.bankSt b != 3) = some b → s.domOff (Dn.dpa + b) = false →
     ∃ t, exec .bankReturned s = .next t ∧ t.inService b = true ∧ t.bankSt b = 1 ∧ t.pool.failRun = 0) ∧
  -- BANK_WAKE_RETRY ends once the bank's domain is awake.
  (∀ (b : Fin 4) (t0 : Nat) (s : State), s.pool.wakeRetry.find? (fun x => x.1 == b.val) = some (b.val, t0) →
     t0 ≤ s.clk.sfn → s.domOff (Dn.dpa + b) = false →
     ∃ t, exec (.bankWakeRetry b) s = .next t ∧ t.pool.wakeRetry = s.pool.wakeRetry.filter (fun x => x.1 != b.val)) ∧
  -- GRANT_EFFECTIVE changes the iteration grant.
  (∀ (g t0 : Nat) (s : State), s.pool.pendGrant = some (g, t0) → t0 ≤ s.clk.sfn →
     ∃ t, exec .grantEffective s = .next t ∧ t.pool.grant = g ∧ t.pool.pendGrant = none) ∧
  -- GRANT_REQUEST_RETRY that is refused asks again 100 superframes on.
  (∀ (t0 : Nat) (s : State), s.pool.grantRetry = some t0 → t0 ≤ s.clk.sfn → s.pool.grant < s.pool.request →
     s.judge Act.iter 0 (s.pool.request - s.pool.grant) ≠ 0 →
     ∃ t, exec .grantRequestRetry s = .next t ∧ t.pool.grantRetry = some (s.clk.sfn + 100) ∧ t.pool.grant = s.pool.grant) ∧
  -- It ends when the grant covers the request.
  (∀ (t0 : Nat) (s : State), s.pool.grantRetry = some t0 → t0 ≤ s.clk.sfn → s.pool.request ≤ s.pool.grant →
     ∃ t, exec .grantRequestRetry s = .next t ∧ t.pool.grantRetry = none ∧ t.pool.grant = s.pool.grant)

/-- Loading and calibration writes: where its commands complete and what they leave. -/
def Obligations.LoadingAndCalibrationWrites : Prop :=
  -- LOADING_CEILING_WRITE that binds nothing in force stores the ceiling.
  (∀ (w : Requester) (c : Carrier) (k : Fin 16) (v n : Nat) (s s' : State),
     Admitted s s' w 2 (on c Obj.loadingCeiling) k (.num v) (.num n) → s'.u (on c Obj.loadingFloor) k ≤ n →
     ¬(s'.u (on c Obj.loadingMode) = 0 ∧ k.val < s'.subN c ∧ n < codeOf (s'.u (on c Obj.rxLoadingWord) k)) →
     Accepts (.loadingCeilingWrite w c k v) s w 2 (on c Obj.loadingCeiling) k
       (fun x => x = s'.put (on c Obj.loadingCeiling) k n)) ∧
  -- LOADING_REQUEST that is proposed logs 5010h.
  (∀ (w : Requester) (c : Carrier) (row b : List Byte) (s s' : State),
     Admitted s s' w 2 (on c Obj.loadingRequest) 0 (.octs row) (.octs b) →
     (s.loadingRequestEffect w c b).1.code = 0 → (s'.loadingRequestEffect w c b).1 = { wait := true } →
     ∃ t gen plots, exec (.loadingRequest w c row) s = .next t ∧
       Logged s t 0x5010 (d8 gen ++ d64 (ofBe (slice b 2 8)) ++ d8 2 ++ d8 plots ++
         d8 (dirOctet (if ofBe (slice b 10 1) = 0 then .rx else .tx)))) ∧
  -- POLICY_CODE_RATE_WRITE stores the rate and proposes a change to it where the policy may.
  (∀ (w : Requester) (c : Carrier) (v n : Nat) (s s' : State),
     Admitted s s' w 2 (on c Obj.policyCodeRate) 0 (.num v) (.num n) →
     Accepts (.policyCodeRateWrite w c v) s w 2 (on c Obj.policyCodeRate) 0
       (fun x => ∃ y : State, y = s'.put (on c Obj.policyCodeRate) 0 n ∧
         (n = s'.u (on c Obj.rxCodeRate) → x = y) ∧
         (n ≠ s'.u (on c Obj.rxCodeRate) → y.policyOn c = true → (y.changes c .rx).isEmpty = true →
           x = y.proposeLoading c n 3 (y.rateCodes c)))) ∧
  -- CAP_CEILING_EXPIRE ends the caps of the link.
  (∀ (c : Carrier) (ks : List Nat) (t0 : Nat) (s : State), (s.ld c).caps = some (ks, t0) → t0 ≤ s.clk.sfn →
     ∃ t, exec (.capCeilingExpire c) s = .next t ∧ (t.ld c).caps = none) ∧
  -- CAL_RELOAD loads all sets of a carrier, at its wake where it sleeps.
  (∀ (w : Requester) (c : Carrier) (v : Int) (v' : Val) (s s' : State),
     Admitted s s' w 2 (on c Obj.calReload) 0 (.num v) v' →
     Accepts (.calReload w c v) s w 2 (on c Obj.calReload) 0 (fun x =>
       x = s'.armLoads c (List.range 8) 2 ∧ (s'.domOff (Dn.rx c) = true → s'.domOff (Dn.tx c) = true →
         x.cal.wakeLoads = s'.cal.wakeLoads ++ (List.range 8).map (fun k => (c.toNat * 8 + k, 255, 2))))) ∧
  -- CAL_LEARNED_CLEAR takes effect at the next boundary.
  (∀ (w : Requester) (v : Int) (v' : Val) (s s' : State), Admitted s s' w 2 Obj.calLearnedClear 0 (.num v) v' →
     Accepts (.calLearnedClear w v) s w 2 Obj.calLearnedClear 0
       (fun x => x = { s' with cal := { s'.cal with clearDue := true } })) ∧
  -- CAL_SAVE writes the learned record, and again after 60 s where it cannot.
  (∀ (w : Requester) (v : Int) (v' : Val) (s s' : State), Admitted s s' w 2 Obj.calSave 0 (.num v) v' →
     Accepts (.calSave w v) s w 2 Obj.calSave 0 (fun x => x.cal.retryAt =
       (if (s'.writeRecord 3 3 0 s'.learnedPayload none).1 = 0 then none else some (s'.clk.sfn + 600000)))) ∧
  -- CAL_SAVE_INTERVAL saves when a slice was learned since.
  (∀ (s : State), s.cal.savedAt + s.u Obj.calSaveInterval * sfPerSecond ≤ s.clk.sfn →
     ∃ t, exec .calSaveInterval s = .next t ∧ t.cal.savedAt = s.clk.sfn ∧ (s.cal.changed = [] → t.mem = s.mem)) ∧
  -- CAL_SAVE_RETRY tries again.
  (∀ (t0 : Nat) (s : State), s.cal.retryAt = some t0 → t0 ≤ s.clk.sfn →
     ∃ t, exec .calSaveRetry s = .next t ∧ t.cal.retryAt =
       (if (s.writeRecord 3 3 0 s.learnedPayload none).1 = 0 then none else some (s.clk.sfn + 600000)))

/-- Host lanes: where its commands complete and what they leave. -/
def Obligations.LanesServe : Prop :=
  -- LANE_RATE_WRITE of a free lane within headroom stores the rate.
  (∀ (w : Requester) (l : Fin 32) (v n : Nat) (s s' : State),
     Admitted s s' w 2 (Obj.laneRate + 256 * (l.val / 8)) (l.val % 8) (.num v) (.num n) → s'.clientOn l = none →
     laneCost n ≤ s'.holds Act.lane l ∨ s'.judge Act.lane l (laneCost n - s'.holds Act.lane l) = 0 →
     Accepts (.laneRateWrite w l v) s w 2 (Obj.laneRate + 256 * (l.val / 8)) (l.val % 8)
       (fun x => x.lane Obj.laneRate l = n)) ∧
  -- CLIENT_LANES_WRITE stores the run.
  (∀ (w : Requester) (y : Fin 64) (v n : Nat) (s s' : State),
     Admitted s s' w 2 Obj.clientLanes y (.num v) (.num n) →
     Accepts (.clientLanesWrite w y v) s w 2 Obj.clientLanes y (fun x => x.u Obj.clientLanes y = n)) ∧
  -- LANE_STATE_CHANGE shows the state and logs 7011h.
  (∀ (l : Fin 32) (v : Fin 7) (s : State), s.lane Obj.laneState l ≠ 0 → s.lane Obj.laneState l ≠ 5 →
     s.lane Obj.laneState l ≠ v → v ≠ 0 → v ≠ 5 → (v = 4 → (s.clientOn l).isSome = true) → (v = 6 → s.clientOn l = none) →
     ∃ t, exec (.laneStateChange l v) s = .next t ∧ t.lane Obj.laneState l = v ∧
       Logged s t 0x7011 (d8 l ++ d8 (s.lane Obj.laneState l) ++ d8 v)) ∧
  -- INGRESS_FAULT puts the client in state 2 and logs 7010h.
  (∀ (x : Fin 64) (cause : Fin 5) (l : Fin 32) (s : State), s.clientRate x ≠ 0 → s.consistent x = true →
     l.val ∈ s.runLanes x → s.lane Obj.laneState l ≠ 4 → (∀ f ∈ s.lanes.faults, f.1 ≠ x.val) →
     ∃ t, exec (.ingressFault x cause l) s = .next t ∧ t.u Obj.clientLaneState x = 2 ∧
       t.lanes.faults = (x.val, cause.val, l.val) :: s.lanes.faults ∧ Logged s t 0x7010 (d8 x ++ d8 cause ++ d8 l)) ∧
  -- LREF_LOST of a quad logs 7015h.
  (∀ (q : Fin 4) (s : State), nth s.lanes.lref q false = false → s.u (Obj.quadRefState + 256 * q) = 1 →
     ∃ t, exec (.lrefLost q) s = .next t ∧ t.u (Obj.quadRefState + 256 * q) = 2 ∧ Logged s t 0x7015 (d8 q) ∧
       t.lanes.lref = setNth s.lanes.lref q true) ∧
  -- LREF_RESTORED too.
  (∀ (q : Fin 4) (s : State), nth s.lanes.lref q false = true → s.u (Obj.quadRefState + 256 * q) = 2 →
     ∃ t, exec (.lrefRestored q) s = .next t ∧ t.u (Obj.quadRefState + 256 * q) = 1 ∧ Logged s t 0x7015 (d8 q) ∧
       t.lanes.lref = setNth s.lanes.lref q false) ∧
  -- LANE_BER_ALARM is raised after 10 s above its threshold.
  (∀ (l : Fin 32) (t0 : Nat) (s : State), l.val < s.lanes.lanes.length → (s.laneSt l).alarm = false →
     (s.laneSt l).overAt = some t0 → t0 + 100000 ≤ s.clk.sfn →
     ∃ t, exec (.laneBerAlarm l) s = .next t ∧ (t.laneSt l).alarm = true ∧
       Logged s t 0x7013 (d8 l ++ be 4 (s.lane Obj.lanePreFecBer l))) ∧
  -- And cleared after 10 s below it.
  (∀ (l : Fin 32) (t0 : Nat) (s : State), l.val < s.lanes.lanes.length → (s.laneSt l).alarm = true →
     (s.laneSt l).underAt = some t0 → t0 + 100000 ≤ s.clk.sfn →
     ∃ t, exec (.laneBerAlarm l) s = .next t ∧ (t.laneSt l).alarm = false ∧
       Logged s t 0x7013 (d8 l ++ be 4 (s.lane Obj.lanePreFecBer l))) ∧
  -- HOST_BLOCK_RECEIVED at ingress deletes or inserts idles so that exactly the frame's blocks remain, counts
  -- them and shows the offset within 200 ppm.
  (∀ (x : Fin 64) (b : BlockIn) (s : State), b.egress = false → s.clientRate x ≠ 0 →
     b.blocks ≤ 4 * rateBlocks (s.clientRate x) s.clk.sfn + b.idles →
     s.u Obj.clientDeleteCount x + (b.blocks - 4 * rateBlocks (s.clientRate x) s.clk.sfn) < 2 ^ 64 →
     s.u Obj.clientInsertCount x + (4 * rateBlocks (s.clientRate x) s.clk.sfn - b.blocks) < 2 ^ 64 →
     ∃ t, exec (.hostBlockReceived x b) s = .next t ∧
       t.u Obj.clientDeleteCount x = s.u Obj.clientDeleteCount x + (b.blocks - 4 * rateBlocks (s.clientRate x) s.clk.sfn) ∧
       t.u Obj.clientInsertCount x = s.u Obj.clientInsertCount x + (4 * rateBlocks (s.clientRate x) s.clk.sfn - b.blocks) ∧
       t.i Obj.clientPpm x = max (-20000) (min 20000 b.ppm)) ∧
  -- At egress, with too few idles to delete, a drop is counted.
  (∀ (x : Fin 64) (b : BlockIn) (s : State), b.egress = true → b.wanted + b.idles < b.blocks →
     s.u Obj.rateMatchDrops x < 4294967295 →
     ∃ t, exec (.hostBlockReceived x b) s = .next t ∧ t.u Obj.rateMatchDrops x = s.u Obj.rateMatchDrops x + 1) ∧
  -- LANE_TEST_WRITE stores the test and clears the checker's counts.
  (∀ (w : Requester) (l : Fin 32) (v n : Nat) (s s' : State),
     Admitted s s' w 2 (Obj.laneTest + 256 * (l.val / 8)) (l.val % 8) (.num v) (.num n) →
     Accepts (.laneTestWrite w l v) s w 2 (Obj.laneTest + 256 * (l.val / 8)) (l.val % 8) (fun x =>
       x.lane Obj.laneTest l = n ∧ x.lane Obj.laneCheckBits l = 0 ∧ x.lane Obj.laneCheckErrors l = 0)) ∧
  -- CHECKER_SYNC_LOST above 100 errors logs 7016h.
  (∀ (l : Fin 32) (errors : Nat) (s : State), l.val < s.lanes.lanes.length → s.checking l = true → (s.laneSt l).sync = true → 100 < errors →
     ∃ t, exec (.checkerSyncLost l errors) s = .next t ∧ (t.laneSt l).sync = false ∧ Logged s t 0x7016 (d8 l ++ d16 errors)) ∧
  -- CHECKER_GAINS_SYNC gains sync.
  (∀ (l : Fin 32) (s : State), l.val < s.lanes.lanes.length → s.checking l = true →
     ∃ t, exec (.checkerGainsSync l) s = .next t ∧ (t.laneSt l).sync = true)

/-- Acquisition, signal fail and loss of lock: where its commands complete and what they leave. -/
def Obligations.ReceiverLocks : Prop :=
  -- LOSS_OF_INPUT after ten superframes logs 400Eh.
  (∀ (c : Carrier) (k : Fin 4) (rms : Nat) (s : State), 10 ≤ (s.cv c k).lossRun → (s.cv c k).loss = false →
     ∃ t, exec (.lossOfInput c k rms) s = .next t ∧ Logged s t 0x400E (d8 k ++ d8 (rms / 1000))) ∧
  -- LO_FREQUENCY_WRITE logs 500Ch and, with the receiver off, is in force at once.
  (∀ (w : Requester) (c : Carrier) (f n : Nat) (s s' : State), Admitted s s' w 2 (on c Obj.loFrequency) 0 (.num f) (.num n) →
     Accepts (.loFrequencyWrite w c f) s w 2 (on c Obj.loFrequency) 0 (fun x =>
       Logged s x 0x500C (d8 2 ++ d32 (s'.u (on c Obj.loFrequency)) ++ d32 n) ∧
       (s'.lock c = 0 → x.u (on c Obj.loFrequency) = n ∧ (x.rxs c).loBase = n))) ∧
  -- ACQUISITION_STEP_COMPLETE of state 3 within 10 superframes takes the offset and goes on to 4.
  (∀ (c : Carrier) (r : AcqResult) (s : State), s.lock c = 3 → (s.rxs c).waitUntil = none →
     s.clk.sfn ≤ (s.rxs c).stepStart + 10 → r.offset.natAbs ≤ 3600000 → (s.searchWindow c).1 ≤ (s.searchWindow c).2 →
     ∃ t, exec (.acquisitionStepComplete c r) s = .next t ∧ t.lock c = 4 ∧ (t.rxs c).offset = r.offset ∧
       (t.rxs c).stepStart = s.clk.sfn) ∧
  -- Of state 4 within 140 sets the static filter to the best candidate inside the window and goes on to 5.
  (∀ (c : Carrier) (r : AcqResult) (s : State), s.lock c = 4 → (s.rxs c).waitUntil = none →
     s.clk.sfn ≤ (s.rxs c).stepStart + 140 → (s.searchWindow c).1 < s.searchResult c r →
     s.searchResult c r < (s.searchWindow c).2 →
     ∃ t, exec (.acquisitionStepComplete c r) s = .next t ∧ t.lock c = 5 ∧ t.i (on c Obj.cdStatic) = s.searchResult c r * 10 ∧
       (t.rxs c).stepStart = s.clk.sfn) ∧
  -- Of state 5 within 200 goes on to 6.
  (∀ (c : Carrier) (r : AcqResult) (s : State), s.lock c = 5 → (s.rxs c).waitUntil = none →
     s.clk.sfn ≤ (s.rxs c).stepStart + 200 →
     ∃ t, exec (.acquisitionStepComplete c r) s = .next t ∧ t.lock c = 6 ∧ (t.rxs c).stepStart = s.clk.sfn ∧ (t.rxs c).pilots = 0) ∧
  -- Of state 6 with the second good window reaches tracking and shows time taken and offset.
  (∀ (c : Carrier) (r : AcqResult) (w : PilotWin) (s : State), s.lock c = 6 → (s.rxs c).waitUntil = none →
     s.stepLate c = false → r.windows = [w] → w.pattern = true →
     (s.u (on c Obj.sfThreshold) : Int) * 100 + 1000 ≤ w.snr → s.muteSeen c w = false → 1 ≤ (s.rxs c).pilots →
     ∃ t, exec (.acquisitionStepComplete c r) s = .next t ∧ t.lock c = 7 ∧
       t.u (on c Obj.acqTimeLast) = s.clk.sfn - (s.rxs c).acqStart ∧ t.i (on c Obj.freqOffset) = (s.rxs c).offset ∧
       (t.rxs c).fails = 0) ∧
  -- PILOT_SNR_WINDOW does so too.
  (∀ (c : Carrier) (w : PilotWin) (s : State), s.lock c = 6 → s.stepLate c = false → w.pattern = true →
     (s.u (on c Obj.sfThreshold) : Int) * 100 + 1000 ≤ w.snr → s.muteSeen c w = false → 1 ≤ (s.rxs c).pilots →
     ∃ t, exec (.pilotWindowEnd c w) s = .next t ∧ t.lock c = 7 ∧
       t.u (on c Obj.acqTimeLast) = s.clk.sfn - (s.rxs c).acqStart ∧ t.i (on c Obj.freqOffset) = (s.rxs c).offset ∧
       (t.rxs c).fails = 0) ∧
  -- ACQUISITION_STEP_FAILED of a warm start goes back to step 5.
  (∀ (c : Carrier) (reason : Fin 5) (s : State), s.lock c = 6 → (s.rxs c).waitUntil = none → (s.rxs c).kind = .warmPilots →
     ∃ t, exec (.acquisitionStepFailed c reason) s = .next t ∧ t.lock c = 5 ∧ (t.rxs c).kind = .warmFull) ∧
  -- The fourth failure waits 1 s.
  (∀ (c : Carrier) (reason : Fin 5) (s : State), 3 ≤ s.lock c → s.lock c ≤ 6 → (s.rxs c).waitUntil = none →
     (s.rxs c).kind ≠ .warmPilots → 3 ≤ (s.rxs c).fails →
     ∃ t, exec (.acquisitionStepFailed c reason) s = .next t ∧ t.lock c = 3 ∧
       (t.rxs c).waitUntil = some (s.clk.sfn + sfPerSecond)) ∧
  -- ACQUISITION_WAIT_END starts again where input and ledger allow.
  (∀ (c : Carrier) (t0 : Nat) (s : State), s.lock c = 3 → (s.rxs c).waitUntil = some t0 → t0 ≤ s.clk.sfn →
     ∃ t, exec (.acquisitionWaitEnd c) s = .next t ∧ t.lock c =
       (if s.noInput c = true then 1
        else if s.holds Act.acq c.toNat ≠ 0 ∨ s.judge Act.acq c.toNat acqCost = 0 then 3 else 2)) ∧
  -- ACQUISITION_LEDGER_RETRY starts where the ledger now allows.
  (∀ (c : Carrier) (s : State), s.lock c = 2 → (s.rxs c).retryAt ≤ s.clk.sfn →
     ∃ t, exec (.acquisitionLedgerRetry c) s = .next t ∧ t.lock c =
       (if s.noInput c = true then 1
        else if s.holds Act.acq c.toNat ≠ 0 ∨ s.judge Act.acq c.toNat acqCost = 0 then
          (if s.goneLong c = true ∨ (s.rxs c).kind = .cold then 3 else 6) else 2)) ∧
  -- In tracking one at or above the threshold keeps lock.
  (∀ (c : Carrier) (w : PilotWin) (s : State), s.lock c = 7 → (s.u (on c Obj.sfThreshold) : Int) * 100 ≤ w.snr →
     s.muteSeen c w = false →
     ∃ t, exec (.pilotWindowEnd c w) s = .next t ∧ (t.rxs c).bad = 0 ∧ (t.rxs c).pilotSnr = w.snr ∧ t.lock c = 7) ∧
  -- The second below it raises signal fail.
  (∀ (c : Carrier) (w : PilotWin) (s : State), s.lock c = 7 →
     w.snr < (s.u (on c Obj.sfThreshold) : Int) * 100 ∨ s.muteSeen c w = true → 1 ≤ (s.rxs c).bad →
     ∃ t, exec (.pilotWindowEnd c w) s = .next t ∧ t.lock c = 8 ∧ (t.rxs c).sfRaised = true ∧ (t.rxs c).sfSince = s.now) ∧
  -- LOSS_OF_LOCK after ten superframes of it logs 5004h.
  (∀ (c : Carrier) (s : State), s.lock c = 8 → s.signalFailLong c = true →
     ∃ t, exec (.lossOfLock c) s = .next t ∧ Logged s t 0x5004 (be 4 (f32OfRat (s.rxs c).pilotSnr 1000))) ∧
  -- DISPERSION_RECORD_VALID shows estimate and uncertainty and logs 5007h.
  (∀ (c : Carrier) (s : State), s.lock c = 7 → (s.rxs c).validity ≠ 1 →
     (s.rxs c).trackedFrom + (s.rxs c).needed ≤ s.clk.sfn → s.cdBound c ≤ 200 →
     ∃ t, exec (.recordValid c) s = .next t ∧ (t.rxs c).validity = 1 ∧
       t.i (on c Obj.cdEstimate) = s.cdNow c ∧ t.u (on c Obj.cdUncertainty) = s.cdBound c ∧ Logged s t 0x5007 (d8 1))

/-- Slice rotation: where its commands complete and what they leave. -/
def Obligations.SlicesRotate : Prop :=
  -- SLICE_DUE marks a slice that a trigger of R72 finds.
  (∀ (c : Carrier) (k : Fin 8) (i : Nat) (temp : Int) (s : State), k.val < (s.conv.get c).convs.length →
     i < (s.cv c k).slices.length → ((s.cv c k).slice i).st = 0 →
     (s.setCv c k (fun v => { v with temp := temp })).triggered c temp ((s.cv c k).slice i) = true →
     ∃ t, exec (.sliceDue c k i temp) s = .next t ∧ ((t.cv c k).slice i).due = true) ∧
  -- TRIM_RETRY arms the next calibration window.
  (∀ (c : Carrier) (k : Fin 8) (s : State), (s.cv c k).refusedRun = true → (s.cv c k).retryAt ≤ s.clk.sfn →
     (s.cv c k).cycle = .idle → (s.cv c k).urgent = [] → s.rotationEntry c k .calWindow = none → s.mayRotate c k false = true →
     (s.cv c k).pickSpare.isSome = true → (s.pickDue c k).isSome = true →
     (s.arm { Entry.base .calWindow (max (max (s.firstSfn .loc 0) (s.cv c k).retryAt) (s.cv c k).nextWin) with
       carrier := some c, data := [0, k] }).1.isSome = true →
     ∃ t, exec (.trimRetry c k) s = .next t ∧ ∃ x ∈ t.clk.entries, x.kind = .calWindow ∧ x.carrier = some c ∧ x.data = [0, k.val]) ∧
  -- TRIM_FIT_COMPLETE with a term out of range logs 4003h.
  (∀ (c : Carrier) (k : Fin 8) (fit : TrimFit) (temp : Int) (spare out phase win : Nat) (em : Bool) (s : State),
     (s.cv c k).cycle = .trimming spare out phase win em → termsInRange fit.terms = false →
     ∃ t, exec (.trimFitComplete c k fit temp) s = .next t ∧ Logged s t 0x4003 (d8 k ++ d8 spare ++ d8 0)) ∧
  -- A good fit gives the spare its terms and arms the swap.
  (∀ (c : Carrier) (k : Fin 8) (fit : TrimFit) (temp : Int) (spare out phase win n o p : Nat) (em : Bool) (s y : State),
     k.val < (s.conv.get c).convs.length → spare < (s.cv c k).slices.length →
     (s.cv c k).cycle = .trimming spare out phase win em → termsInRange fit.terms = true → fit.spur ≤ -48000 →
     fit.converged = true →
     y = s.setSlice c k spare (fun x => { x with st := 3, terms := fit.terms, temp := temp, trimSfn := win }) →
     o = (y.cv c k).urgent.head?.getD out → p = (y.cv c k).phaseOf o → (y.armSwap c k o spare p).1 = some n →
     ∃ t, exec (.trimFitComplete c k fit temp) s = .next t ∧
       (t.cv c k).cycle = .armed spare o p win (em || !(y.cv c k).urgent.isEmpty) false ∧
       ((t.cv c k).slice spare).st = 3 ∧ ((t.cv c k).slice spare).terms = fit.terms) ∧
  -- HANDOVER_CHECK within the limit, or of an interrupted handover, logs 4001h with result 0.
  (∀ (c : Carrier) (k : Fin 8) (rms : Nat) (f : Bool) (spare out phase n index : Nat) (cnt : SCount) (back i : Bool) (s : State),
     (s.cv c k).cycle = .handover spare out phase n cnt index back i → i = true ∨ rms ≤ 1000 →
     ∃ t, exec (.handoverCheck c k rms f) s = .next t ∧ Logged s t 0x4001
       (d8 k ++ d8 out ++ d8 spare ++ d8 phase ++ d64 n ++ d8 (scountCode cnt) ++ d32 index ++ d8 0)) ∧
  -- Beyond it with the relieved slice at fault logs result 2 and 4004h.
  (∀ (c : Carrier) (k : Fin 8) (rms : Nat) (spare out phase n index : Nat) (cnt : SCount) (back : Bool) (s : State),
     k.val < (s.conv.get c).convs.length →
     (s.cv c k).cycle = .handover spare out phase n cnt index back false → 1000 < rms → ((s.cv c k).slice out).st ≠ 6 →
     ∃ t, exec (.handoverCheck c k rms false) s = .next t ∧ Logged s t 0x4001
       (d8 k ++ d8 out ++ d8 spare ++ d8 phase ++ d64 n ++ d8 (scountCode cnt) ++ d32 index ++ d8 2) ∧
       Logged s t 0x4004 (d8 k ++ d8 out ++ d8 2)) ∧
  -- With the incoming slice at fault logs result 1 and 4003h.
  (∀ (c : Carrier) (k : Fin 8) (rms : Nat) (spare out phase n index : Nat) (cnt : SCount) (back : Bool) (s : State),
     (s.cv c k).cycle = .handover spare out phase n cnt index back false → 1000 < rms →
     ∃ t, exec (.handoverCheck c k rms true) s = .next t ∧ Logged s t 0x4001
       (d8 k ++ d8 out ++ d8 spare ++ d8 phase ++ d64 n ++ d8 (scountCode cnt) ++ d32 index ++ d8 1) ∧
       Logged s t 0x4003 (d8 k ++ d8 spare ++ d8 3)) ∧
  -- TRIM_EXPIRED of a trim older than 64 superframes at its swap logs 4007h.
  (∀ (c : Carrier) (k : Fin 8) (temp : Int) (spare out phase win : Nat) (em : Bool) (e : Entry) (s : State),
     (s.cv c k).cycle = .armed spare out phase win em false → s.rotationEntry c k .sliceSwap = some e → win + 64 < e.sfn →
     ∃ t, exec (.trimExpired c k temp) s = .next t ∧ Logged s t 0x4007 (d8 k ++ d8 out ++ d8 spare ++ d8 0)) ∧
  -- So does one whose temperature moved by more than 0.25 °C.
  (∀ (c : Carrier) (k : Fin 8) (temp : Int) (spare out phase win : Nat) (em : Bool) (e : Entry) (s : State),
     (s.cv c k).cycle = .armed spare out phase win em false → s.rotationEntry c k .sliceSwap = some e → e.sfn ≤ win + 64 →
     25 < (temp - ((s.cv c k).slice spare).temp).natAbs →
     ∃ t, exec (.trimExpired c k temp) s = .next t ∧ Logged s t 0x4007 (d8 k ++ d8 out ++ d8 spare ++ d8 1)) ∧
  -- SLICE_FAILED after 3 superframes out of limits logs 4004h.
  (∀ (c : Carrier) (k : Fin 8) (i : Nat) (cause : Fin 2) (s : State), ((s.cv c k).slice i).st = 0 ∨ ((s.cv c k).slice i).st = 6 →
     ((s.cv c k).slice i).failed = false → 3 ≤ ((s.cv c k).slice i).badRun → (cause.val = 0 ↔ k.val < 4) →
     ∃ t, exec (.sliceFailed c k i cause) s = .next t ∧ Logged s t 0x4004 (d8 k ++ d8 i ++ d8 cause)) ∧
  -- SLICE_RETIRE of a retiring or retired slice changes nothing.
  (∀ (w : Requester) (c : Carrier) (v n : Nat) (s s' : State), Admitted s s' w 2 (on c Obj.sliceRetire) 0 (.num v) (.num n) →
     6 ≤ ((s.cv c (bits n 11 8)).slice (bits n 7 0)).st → ((s.cv c (bits n 11 8)).slice (bits n 7 0)).st ≤ 7 →
     Accepts (.sliceRetire w c v) s w 2 (on c Obj.sliceRetire) 0 (fun x => x = s')) ∧
  -- Of an active one makes it retiring and relieves it.
  (∀ (w : Requester) (c : Carrier) (v n : Nat) (s s' : State), Admitted s s' w 2 (on c Obj.sliceRetire) 0 (.num v) (.num n) →
     ((s.cv c (bits n 11 8)).slice (bits n 7 0)).st = 0 →
     ((s.cv c (bits n 11 8)).setSlice (bits n 7 0) (fun y => { y with st := 6 })).usable ≠ 0 →
     Accepts (.sliceRetire w c v) s w 2 (on c Obj.sliceRetire) 0 (fun x =>
       x = (s'.setSlice c (bits n 11 8) (bits n 7 0) (fun x => { x with st := 6 })).relieve c (bits n 11 8) (bits n 7 0))) ∧
  -- Of an idle one logs 4005h.
  (∀ (w : Requester) (c : Carrier) (v n : Nat) (s s' : State), Admitted s s' w 2 (on c Obj.sliceRetire) 0 (.num v) (.num n) →
     ((s.cv c (bits n 11 8)).slice (bits n 7 0)).st = 1 → (s.cv c (bits n 11 8)).cycle = .idle →
     Accepts (.sliceRetire w c v) s w 2 (on c Obj.sliceRetire) 0 (fun x =>
       Logged s x 0x4005 (d8 (bits n 11 8) ++ d8 (bits n 7 0)))) ∧
  -- SLICE_RESTORE of a withdrawn or retired slice makes it idle and logs 4006h.
  (∀ (w : Requester) (c : Carrier) (v n : Nat) (s s' : State), Admitted s s' w 2 (on c Obj.sliceRestore) 0 (.num v) (.num n) →
     ((s.cv c (bits n 11 8)).slice (bits n 7 0)).st = 5 ∨ ((s.cv c (bits n 11 8)).slice (bits n 7 0)).st = 7 →
     bits n 11 8 < (s.conv.get c).convs.length → bits n 7 0 < (s.cv c (bits n 11 8)).slices.length →
     Accepts (.sliceRestore w c v) s w 2 (on c Obj.sliceRestore) 0 (fun x =>
       Logged s x 0x4006 (d8 (bits n 11 8) ++ d8 (bits n 7 0)) ∧
       ((x.cv c (bits n 11 8)).slice (bits n 7 0)).st = 1 ∧ ((x.cv c (bits n 11 8)).slice (bits n 7 0)).restored = true)) ∧
  -- SLICE_OVERDUE logs 400Ah once a minute.
  (∀ (c : Carrier) (k : Fin 8) (i : Nat) (s : State), ((s.cv c k).slice i).st = 0 → ((s.cv c k).slice i).due = true →
     ((s.cv c k).slice i).dueSince + 600000 ≤ s.clk.sfn → ((s.cv c k).slice i).overdue + 600000 ≤ s.clk.sfn →
     ∃ t, exec (.sliceOverdue c k i) s = .next t ∧ Logged s t 0x400A (d8 k ++ d8 i ++
       i16 (moved (s.cv c k).temp ((s.cv c k).slice i)) ++ d32 ((s.clk.sfn - ((s.cv c k).slice i).trimSfn) / sfPerSecond))) ∧
  -- ADC_CLIP_ALARM after ten superframes logs 400Bh.
  (∀ (c : Carrier) (k : Fin 4) (s : State), k.val < (s.conv.get c).convs.length → 10 ≤ (s.cv c k).clipRun →
     (s.cv c k).clipAlarm = false →
     ∃ t, exec (.adcClipAlarm c k) s = .next t ∧ (t.cv c k).clipAlarm = true ∧
       Logged s t 0x400B (d8 k ++ d32 (s.u (on c Obj.clipRatio) k))) ∧
  -- DAC_CLIP_ALARM logs 400Ch.
  (∀ (c : Carrier) (k : Fin 4) (s : State), 4 + k.val < (s.conv.get c).convs.length → 10 ≤ (s.cv c (4 + k)).clipRun →
     (s.cv c (4 + k)).clipAlarm = false →
     ∃ t, exec (.dacClipAlarm c k) s = .next t ∧ (t.cv c (4 + k)).clipAlarm = true ∧
       Logged s t 0x400C (d8 (4 + k) ++ d32 (s.u (on c Obj.clipRatio) (4 + k))))

/-- Client plots, messages and PTP in the frame: where its commands complete and what they leave. -/
def Obligations.FramesCarryClients : Prop :=
  -- CLIENT_RATE_WRITE stores the rate, and 0 removes the client.
  (∀ (w : Requester) (y : Fin 64) (v n : Nat) (s s' : State), Admitted s s' w 2 Obj.clientRate y (.num v) (.num n) →
     Accepts (.clientRateWrite w y v) s w 2 Obj.clientRate y (fun x =>
       (n ≠ 0 → x.u Obj.clientRate y = n) ∧ (n = 0 → x = ((s'.put Obj.clientRate y n).judgeLanes).removeClient y))) ∧
  -- CLIENT_RATE_MISMATCH logs 7006h once after 1 s.
  (∀ (c : Carrier) (x : Fin 64) (t0 : Nat) (s : State), assocGet (s.fr c).rateDiff x = some t0 → t0 + 10000 ≤ s.clk.sfn →
     x.val ∉ (s.fr c).rateLogged →
     ∃ t, exec (.clientRateMismatch c x) s = .next t ∧ (t.fr c).rateLogged = x.val :: (s.fr c).rateLogged ∧
       ∃ own far, Logged s t 0x7006 (d8 x ++ d8 own ++ d8 far)) ∧
  -- CLIENT_BLOCK_RECEIVED keeps the header of a sound block.
  (∀ (c : Carrier) (x : Fin 64) (h : List Nat) (s : State), s.blockSound c x (headOf h) = true → (headOf h).typ ≠ 1 →
     ((headOf h).cipher = true → (headOf h).parity = ((s.ctx c .rx x).epoch % 2 == 1)) →
     ∃ t, exec (.clientBlockReceived c x h) s = .next t ∧ (t.fr c).blockIn = assocSet (s.fr c).blockIn x (headOf h)) ∧
  -- Of a maintenance block too, and sends local fault where no other carrier delivers the client.
  (∀ (c : Carrier) (x : Fin 64) (h : List Nat) (s : State), s.blockSound c x (headOf h) = true → (headOf h).typ = 1 →
     ∃ t, exec (.clientBlockReceived c x h) s = .next t ∧ (t.fr c).blockIn = assocSet (s.fr c).blockIn x (headOf h) ∧
       (s.otherDelivers c x = false → .egress x .localFault ∈ t.out)) ∧
  -- An unsound block is dropped and counted.
  (∀ (c : Carrier) (x : Fin 64) (h : List Nat) (s : State), s.blockSound c x (headOf h) = false →
     s.u (on c Obj.clientBlockDrops) x < 4294967295 →
     ∃ t, exec (.clientBlockReceived c x h) s = .next t ∧
       t.u (on c Obj.clientBlockDrops) x = s.u (on c Obj.clientBlockDrops) x + 1 ∧
       (t.fr c).blockIn = assocDel (s.fr c).blockIn x) ∧
  -- One of the other epoch parity too, as a desynchronisation.
  (∀ (c : Carrier) (x : Fin 64) (h : List Nat) (s : State), s.blockSound c x (headOf h) = true → (headOf h).typ ≠ 1 →
     (headOf h).cipher = true → (headOf h).parity ≠ ((s.ctx c .rx x).epoch % 2 == 1) → s.u (on c Obj.desyncCount) x < 4294967295 →
     ∃ t, exec (.clientBlockReceived c x h) s = .next t ∧ t.u (on c Obj.desyncCount) x = s.u (on c Obj.desyncCount) x + 1 ∧
       (t.fr c).blockIn = assocDel (s.fr c).blockIn x) ∧
  -- MOC_RESEND after the timeout sends all unacknowledged units again.
  (∀ (c : Carrier) (u : MocUnit) (l : List MocUnit) (s : State), (s.fr c).mocUnacked = u :: l →
     u.sent + s.mocTimeout c ≤ s.clk.sfn → s.u (on c Obj.mocResendCount) < 4294967295 →
     ∃ t, exec (.mocResend c) s = .next t ∧ (t.fr c).mocAgain = (u :: l).map (·.seq) ∧
       t.u (on c Obj.mocResendCount) = s.u (on c Obj.mocResendCount) + 1) ∧
  -- PTP_EVENT_MESSAGE of a frame that is an event message joins the carrier's list.
  (∀ (x : Fin 64) (p : PtpIn) (typ : Nat) (s : State), ptpType p.frame = some typ → bit (s.fr .a).txMap.carried x = true →
     s.isStandby .a = false → (s.fr .a).ptp.length < 256 →
     ∃ t, exec (.ptpEventMessage x p) s = .next t ∧ (t.fr .a).ptp = (s.fr .a).ptp ++
       [{ client := x, block := p.block, octet := p.octet, msgType := typ, ingress := p.ingress }]) ∧
  -- PTP_CORRECTION of a listed message sends it corrected by its residence time.
  (∀ (c : Carrier) (x : Fin 64) (p : PtpIn) (typ : Nat) (e : PtpEntry) (s : State), ptpType p.frame = some typ →
     (s.fr c).rxPtp.find? (fun e => e.client == x.val) = some e → e.block = p.block → e.octet = p.octet.val →
     ∃ t, exec (.ptpEgress c x p) s = .next t ∧ (t.fr c).rxPtp = (s.fr c).rxPtp.erase e ∧
       t.out = .ptp x (ptpCorrected p.frame (p.ingress - e.ingress)) :: s.out) ∧
  -- An unlisted one leaves as it came and is counted.
  (∀ (c : Carrier) (x : Fin 64) (p : PtpIn) (typ : Nat) (s : State), ptpType p.frame = some typ →
     (s.fr c).rxPtp.find? (fun e => e.client == x.val) = none → s.u (on c Obj.ptpUnmatchedCount) < 4294967295 →
     ∃ t, exec (.ptpEgress c x p) s = .next t ∧
       t.u (on c Obj.ptpUnmatchedCount) = s.u (on c Obj.ptpUnmatchedCount) + 1 ∧
       t.out = .ptp x (ptpCorrected p.frame 0) :: s.out)

/-- Bandstand counters, snapshots and the event log: where its commands complete and what they leave. -/
def Obligations.CountersAndEvents : Prop :=
  -- COUNTER_SELECT_WRITE takes effect at the next boundary.
  (∀ (w : Requester) (n : Fin 2048) (v k : Nat) (s s' : State),
     Admitted s s' w 2 (selectObj n).1 (selectObj n).2 (.num v) (.num k) →
     Accepts (.counterSelectWrite w n v) s w 2 (selectObj n).1 (selectObj n).2 (fun x =>
       x = { s' with diag := { s'.diag with pendSelect := s'.diag.pendSelect ++ [(n.val, some k)] } })) ∧
  -- COUNTER_CLEAR too.
  (∀ (w : Requester) (v : Int) (k : Nat) (s s' : State), Admitted s s' w 2 Obj.counterClear 0 (.num v) (.num k) →
     Accepts (.counterClear w v) s w 2 Obj.counterClear 0 (fun x =>
       x = { s' with diag := { s'.diag with pendSelect := s'.diag.pendSelect ++ [(k, none)] } })) ∧
  -- COUNTER_RANGE_WRITE too.
  (∀ (w : Requester) (m : Fin 65) (row b : List Byte) (s s' : State), Admitted s s' w 2 Obj.counterRange m (.octs row) (.octs b) →
     Accepts (.counterRangeWrite w m row) s w 2 Obj.counterRange m (fun x =>
       x = { s' with diag := { s'.diag with pendRange := s'.diag.pendRange ++
         [(m.val, ofBe (slice b 2 1), ofBe (slice b 3 4), ofBe (slice b 7 4))] } })) ∧
  -- SNAPSHOT_LATCH puts the snapshot in the next buffer, numbers it and logs F001h.
  (∀ (x : Snap) (l : List Snap) (s : State), s.diag.latch = x :: l → bit x.flags 1 = false →
     ∃ t, exec .snapshotLatch s = .next t ∧ t.u Obj.snapshotLatest = s.diag.snapNext ∧ t.diag.latch = l ∧
       t.diag.snapCount = s.diag.snapCount + 1 ∧
       { x with buffer := s.diag.snapNext, number := s.diag.snapCount + 1 } ∈ t.diag.snaps ∧
       Logged s t 0xF001 (d32 (s.diag.snapCount + 1) ++ d8 s.diag.snapNext)) ∧
  -- SNAPSHOT_COPY_RETRY writes its record, or tries again after 60 s.
  (∀ (b : Fin 8) (x : Snap) (t0 : Nat) (s : State), s.diag.snaps.find? (fun x => x.buffer == b.val) = some x →
     x.retryAt = some t0 → t0 ≤ s.clk.sfn →
     ∃ t, exec (.snapshotCopyRetry b) s = .next t ∧ ∀ y ∈ t.diag.snaps, y.buffer = x.buffer → y.retryAt =
       (if (s.writeRecord 7 5 x.buffer (s.snapOctets x) none).1 = 0 then none else some (s.clk.sfn + 600000))) ∧
  -- LOG_WRITE of 256 records, or after 1 s, writes the oldest 256.
  (∀ (r : EventRec) (l : List EventRec) (s : State), s.diag.waiting = r :: l →
     256 ≤ s.diag.waiting.length ∨ r.sfn + sfPerSecond ≤ s.clk.sfn →
     (s.writeRecord 6 5 0 ((s.diag.waiting.take 256).flatMap (·.bytes)) none).1 = 0 →
     ∃ t later, exec .logWrite s = .next t ∧ t.diag.waiting = s.diag.waiting.drop 256 ++ later) ∧
  -- Before that it does nothing.
  (∀ (r : EventRec) (l : List EventRec) (s : State), s.diag.waiting = r :: l → s.diag.waiting.length < 256 →
     s.clk.sfn < r.sfn + sfPerSecond → exec .logWrite s = .next s) ∧
  -- EVENT_FETCH fetches the first 64 records from a sequence number on.
  (∀ (w : Requester) (v : Int) (q : Nat) (s s' : State), Admitted s s' w 2 Obj.eventFetch 0 (.num v) (.num q) →
     Accepts (.eventFetch w v) s w 2 Obj.eventFetch 0 (fun x => x.o Obj.eventFetched =
       ((s'.heldRecords.filter (fun p => decide (q ≤ p.1))).take 64).flatMap (·.2)))

/-- Writes of any object: where its commands complete and what they leave. -/
def Obligations.WritesOfAnyObject : Prop :=
  -- ALERT_ACK of the alerting record, or a later one, releases ALERTN.
  (∀ (w : Requester) (v : Int) (q r : Nat) (s s' : State), Admitted s s' w 2 Obj.alertAck 0 (.num v) (.num q) →
     s'.diag.alerting = some r →
     Accepts (.alertAck w v) s w 2 Obj.alertAck 0 (fun x =>
       (r ≤ q → x = { s' with diag := { s'.diag with alerting := none } }.put Obj.alertState 0 0) ∧ (q < r → x = s'))) ∧
  -- With nothing alerting it changes nothing.
  (∀ (w : Requester) (v : Int) (q : Nat) (s s' : State), Admitted s s' w 2 Obj.alertAck 0 (.num v) (.num q) →
     s'.diag.alerting = none → Accepts (.alertAck w v) s w 2 Obj.alertAck 0 (fun x => x = s')) ∧
  -- AOP_WRITE stores a setting that has no further effect.
  (∀ (w : Requester) (o : BitVec 16) (m : BitVec 8) (v n : Int) (row : DictRow) (s s' : State),
     Admitted s s' w 2 o.toNat m.toNat (.num v) (.num n) → dictRow o.toNat = some row → row.acc = .rw →
     o.toNat ≠ Obj.aopPort →
     (∀ z : State, z = s ∨ z = s' → z.settingEffect o.toNat m.toNat (.num n) = storeEffect o.toNat m.toNat (.num n) z) →
     Accepts (.aopWrite w o m 0 (.num v)) s w 2 o.toNat m.toNat (fun x => x = s'.put o.toNat m.toNat n)) ∧
  -- Every other write does what the object's owner gives.
  (∀ (w : Requester) (o : BitVec 16) (m : BitVec 8) (offset : BitVec 32) (v v' : Val) (s s' y : State),
     Admitted s s' w 2 o.toNat m.toNat v v' → offset = 0 ∨ longType o.toNat = false → o.toNat ≠ Obj.aopPort →
     (s.ownerEffect w o.toNat m.toNat Target.next v').1.code = 0 → s'.ownerEffect w o.toNat m.toNat Target.next v' = ({}, y) →
     Accepts (.aopWrite w o m offset v) s w 2 o.toNat m.toNat (fun x => x = y)) ∧
  -- SCHEDULED_WRITE leaves an entry of its object, member and value in the table.
  (∀ (w : Requester) (o : BitVec 16) (m : BitVec 8) (tg : Target) (v v' : Val) (row : DictRow) (s s' : State),
     Admitted s s' w 3 o.toNat m.toNat v v' → dictRow o.toNat = some row → row.acc = .rws →
     o.toNat ≠ Obj.avenueMode → o.toNat ≠ Obj.contextEnable → o.toNat ≠ Obj.imageActivate →
     (∀ z : State, z = s ∨ z = s' → z.scheduledStatus o.toNat v'.nat = 0 ∧
       (z.hostSchedule w tg (scheduledEntry o.toNat m.toNat v')).1.code = 0) →
     ∃ t, exec (.scheduledWrite w o m tg v) s = .next t ∧
       ∃ e ∈ t.clk.entries, e.obj = o.toNat ∧ e.mem = m.toNat ∧ e.val = v' ∧ e.role = some (s'.roleOf w))

/-- References, loops and time messages: where its commands complete and what they leave. -/
def Obligations.BelvedereRuns : Prop :=
  -- LOOP_BANDWIDTH_STEP takes the next bandwidth of the ladder.
  (∀ (t0 r : Nat) (s : State), s.bel.freqLoop.since = some t0 → loopClass (s.selected 0) ≠ 0 → s.bel.freqLoop.fin = false →
     s.bel.freqLoop.mhz ≠ 0 → t0 + ceilDiv 50000000 s.bel.freqLoop.mhz ≤ s.clk.sfn →
     ladder.find? (fun r => decide (r < s.bel.freqLoop.mhz)) = some r →
     ∃ t, exec .loopBandwidthStep s = .next t ∧
       t.bel.freqLoop = { mhz := r, fin := !s.aboveFinal (loopClass (s.selected 0)) r, since := none }) ∧
  -- HOLD_OFF_END of a sound input makes it available again.
  (∀ (i : Fin 14) (s : State), i.val < s.bel.inputs.length → (s.input i).freq.st = 2 → (s.input i).time.st ≠ 2 →
     (s.input i).freq.since + sfOfMs (s.u Obj.holdOff) ≤ s.clk.sfn → s.roleLost (s.input i).causes 0 = false →
     ∃ t, exec (.holdOffEnd i) s = .next t ∧ (t.input i).freq.st = 4 ∧ (t.input i).freq.since = s.clk.sfn) ∧
  -- Of one still bad logs 3004h.
  (∀ (i : Fin 14) (s : State), (s.input i).freq.st = 2 → (s.input i).freq.since + sfOfMs (s.u Obj.holdOff) ≤ s.clk.sfn →
     s.roleLost (s.input i).causes 0 = true →
     ∃ t, exec (.holdOffEnd i) s = .next t ∧ Logged s t 0x3004 (d8 i ++ d16 (s.input i).causes)) ∧
  -- QUALIFICATION_END makes an input available.
  (∀ (i : Fin 14) (s : State), i.val < s.bel.inputs.length → (s.input i).freq.st = 3 →
     (s.input i).freq.since + (if (s.input i).freq.failed = true then s.u Obj.waitToRestore * 10000 else 100000) ≤ s.clk.sfn →
     ∃ t, exec (.qualificationEnd i) s = .next t ∧ (t.input i).freq.st = 4 ∧ (t.input i).freq.since = s.clk.sfn) ∧
  -- REF_TABLE_WRITE stores the entry.
  (∀ (w : Requester) (m v : Nat) (n : Int) (s s' : State), Admitted s s' w 2 Obj.refTable m (.num v) (.num n) →
     Accepts (.refTableWrite w m v) s w 2 Obj.refTable m (fun x => x = s'.put Obj.refTable m n)) ∧
  -- FORCE_REF_WRITE stores the force and logs 300Eh.
  (∀ (w : Requester) (m v n : Nat) (s s' : State), Admitted s s' w 2 Obj.forceRef m (.num v) (.num n) → m < 2 →
     Accepts (.forceRefWrite w m v) s w 2 Obj.forceRef m (fun x => x.u Obj.forceRef m = n ∧
       Logged s x 0x300E (d8 m ++ d8 n))) ∧
  -- PPS_EDGE numbers the second that was announced and counts jumps beyond 200 ns.
  (∀ (x : Fin 2) (off err : Int) (sec t0 : Nat) (s : State), x.val < s.bel.pps.length → (s.ppsIn x).tod = some (sec, t0) →
     s.selected 0 ≠ 5 + x.val →
     ∃ t, exec (.ppsEdge x off err) s = .next t ∧ (t.ppsIn x).edge = some s.clk.sfn ∧ (t.ppsIn x).tod = none ∧
       (t.ppsIn x).prev = some sec ∧
       (t.ppsIn x).jumps = (if 200000 < err.natAbs then (s.ppsIn x).jumps + 1 else 0)) ∧
  -- TOD_MESSAGE that is sound and in time announces a second.
  (∀ (x : Fin 2) (m : TodIn) (e : Nat) (s : State), x.val < s.bel.pps.length → (s.ppsIn x).edge = some e →
     e + 1000 ≤ s.clk.sfn → s.clk.sfn ≤ e + 9000 → todReason m.octets = 0 →
     ∃ t, exec (.todMessage x m) s = .next t ∧ (t.ppsIn x).tod = some (ofBe (slice m.octets 2 6), s.clk.sfn)) ∧
  -- One that is not changes no reference.
  (∀ (x : Fin 2) (m : TodIn) (s : State), todReason m.octets ≠ 0 →
     ∃ t, exec (.todMessage x m) s = .next t ∧ t.bel = s.bel) ∧
  -- ADVERT_READ shows the far end's advertisement and its quality.
  (∀ (c : Carrier) (row : List Byte) (s : State), row.length = 23 →
     ∃ t, exec (.advertRead c 0 row) s = .next t ∧ t.o (on c Obj.farAdvert) = row ∧ (t.line c).advFails = 0 ∧
       t.u Obj.inputQl (7 + c.toNat) = ofBe (row.take 1)) ∧
  -- A failed one is counted and logs 300Fh.
  (∀ (c : Carrier) (status : Nat) (row : List Byte) (s : State), status ≠ 0 →
     ∃ t, exec (.advertRead c status row) s = .next t ∧ (t.line c).advFails = (s.line c).advFails + 1 ∧
       Logged s t 0x300F (d8 c.inst ++ d16 status))

/-- Grotto completions and the link cipher's contexts: where its commands complete and what they leave. -/
def Obligations.CipherWorks : Prop :=
  -- REQUEST_COMPLETION of a master's own request answers its result.
  (∀ (u : Fin 4) (r : GReq) (s : State), s.grot.queue.find? (fun r => decide (r.unit = some u.val)) = some r → r.use = .plain →
     ∃ t, exec (.requestCompletion u .agree) s = .next t ∧ .completion r.tag (s.result r).1 ∈ t.out) ∧
  -- A difference between the two paths answers status 7 and logs 900Ah.
  (∀ (u : Fin 4) (r : GReq) (s : State), s.grot.queue.find? (fun r => decide (r.unit = some u.val)) = some r →
     ∃ t, exec (.requestCompletion u .differ) s = .next t ∧ .completion r.tag 7 ∈ t.out ∧
       Logged s t 0x900A (d8 u ++ d8 r.typ ++ d8 r.master)) ∧
  -- ROLL_INTERVAL arms a roll of a context that is on.
  (∀ (c : Carrier) (k : Fin 65) (s : State), s.u Obj.rollInterval ≤ (s.ctx c .tx k).carried → (s.ctx c .tx k).on = true →
     exec (.rollInterval c k) s = .next (s.armRoll c .tx k 0)) ∧
  -- CONTEXT_ROLL arms one for the host.
  (∀ (w : Requester) (c : Carrier) (k n : Nat) (s s' : State), Admitted s s' w 2 (on c Obj.contextRoll) 0 (.num k) (.num n) →
     Accepts (.contextRoll w c k) s w 2 (on c Obj.contextRoll) 0 (fun x => x = s'.armRoll c .tx n 2)) ∧
  -- CONTEXT_ENABLE of a client that no carrier carries is in force at once.
  (∀ (w : Requester) (x : Fin 64) (v n : Nat) (tg : Target) (s s' : State),
     Admitted s s' w 3 Obj.contextEnable x (.num v) (.num n) → s.ctxCarriers x = [] →
     Accepts (.contextEnable w x v tg) s w 3 Obj.contextEnable x (fun y => y =
       [Carrier.a, Carrier.b].foldl (fun s c => s.setOn c .tx x (n == 1)) (s'.put Obj.contextEnable x (b2n (n == 1))))) ∧
  -- Else it is proposed and waits.
  (∀ (w : Requester) (x : Fin 64) (v n : Nat) (tg : Target) (s s' : State),
     Admitted s s' w 3 Obj.contextEnable x (.num v) (.num n) →
     (s.contextEnableEffect w x (n == 1) tg).1.code = 0 → (s'.contextEnableEffect w x (n == 1) tg).1 = { wait := true } →
     exec (.contextEnable w x v tg) s = .next (s'.contextEnableEffect w x (n == 1) tg).2) ∧
  -- TRANSMIT_RESUME after 100 clean superframes ends the suspension and logs 8006h.
  (∀ (c : Carrier) (s : State), (s.ciph.get c).suspended = true → 100 ≤ (s.ciph.get c).clean →
     ∃ t, exec (.transmitResume c) s = .next t ∧ (t.ciph.get c).suspended = false ∧ (t.ciph.get c).clean = 0 ∧
       Logged s t 0x8006 (d8 0 ++ d8 0 ++ d8 1)) ∧
  -- SEAL_RECEIVED that verifies counts as good.
  (∀ (c : Carrier) (x : SealIn) (h : BlockHead) (s : State), s.sealHead c x.ctx = some h → h.typ ≠ 1 →
     s.sealPasses c x h = true → x.ctx.val < ((s.ciph.get c).rx).length →
     ∃ t, exec (.sealReceived c x) s = .next t ∧ (t.ctx c .rx x.ctx).oks = (s.ctx c .rx x.ctx).oks + 1 ∧
       (t.ctx c .rx x.ctx).bads = (s.ctx c .rx x.ctx).bads) ∧
  -- One that does not counts as bad.
  (∀ (c : Carrier) (x : SealIn) (h : BlockHead) (s : State), s.sealHead c x.ctx = some h → h.typ ≠ 1 →
     s.sealPasses c x h = false →
     s.rxStandby c = false → x.ctx.val < ((s.ciph.get c).rx).length →
     ∃ t, exec (.sealReceived c x) s = .next t ∧ (t.ctx c .rx x.ctx).bads = (s.ctx c .rx x.ctx).bads + 1 ∧
       (t.ctx c .rx x.ctx).oks = (s.ctx c .rx x.ctx).oks)

/-- Grotto requests and slot erasure: where its commands complete and what they leave. -/
def Obligations.GrottoTakesRequests : Prop :=
  -- Each of the eleven requests is answered at once with the status that admission gives.
  (∀ (x : Descriptor) (p : Instr × Nat) (s : State), p ∈ grottoRequests x → (s.accessDom Dn.grt).1 = 0 →
     (s.accessDom Dn.grt).2.admission (requestOf p.2 x) ≠ 0 →
     ∃ t, exec p.1 s = .next t ∧
       .completion x.tag.toNat ((s.accessDom Dn.grt).2.admission (requestOf p.2 x)) ∈ t.out ∧ t.grot.queue = s.grot.queue) ∧
  -- Else it joins the queue.
  (∀ (x : Descriptor) (p : Instr × Nat) (s : State), p ∈ grottoRequests x → (s.accessDom Dn.grt).1 = 0 →
     (s.accessDom Dn.grt).2.admission (requestOf p.2 x) = 0 →
     ∃ t, exec p.1 s = .next t ∧ ((∃ r ∈ t.grot.queue,
       { r with unit := none } = { requestOf p.2 x with gen := (s.slot x.slot.toNat).gen }) ∨
       .completion x.tag.toNat 9 ∈ t.out)) ∧
  -- ERASE_COMPLETE empties the slot or, where a write waits for it, takes that write, answers what was in
  -- flight with 0Ah and logs 900Dh.
  (∀ (k : Fin 256) (t0 : Nat) (s : State), (s.slot k).erase = some t0 → s.inFlight k = [] ∨ t0 + 200 ≤ s.clk.sfn →
     k.val < s.grot.slots.length →
     ∃ t, exec (.eraseComplete k) s = .next t ∧ (t.slot k).erase = none ∧
       ((s.slot k).later = none → (t.slot k).typ = 0 ∧ (t.slot k).data = []) ∧
       (∀ typ data t1, (s.slot k).later = some (typ, data, t1) → (t.slot k).typ = typ ∧ (t.slot k).data = data) ∧
       (∀ r ∈ s.inFlight k, .completion r.tag 0x0A ∈ t.out) ∧
       Logged s t 0x900D (d8 k ++ d8 0 ++ d16 (s.inFlight k).length))

/-- Service converters, comparators and transform engine: where its commands complete and what they leave. -/
def Obligations.ServiceConverters : Prop :=
  -- CASE_ABOVE_95 after 1 s logs 1015h.
  (∀ (t0 : Nat) (s : State), s.svc.hotFrom = some t0 → t0 + sfPerSecond ≤ s.clk.sfn → s.svc.hot = false →
     ∃ t, exec .caseAbove95 s = .next t ∧ t.svc.hot = true ∧ t.u Obj.thermalState = 2 ∧
       ∃ temp, Logged s t 0x1015 (i16 temp)) ∧
  -- SVC2_CONVERSION writes the entry's result word and goes on to the next entry.
  (∀ (k j : Nat) (samples : List Int) (s : State), s.svc.inj = none → s.svc.entry = some k → k < 64 → k < s.svc.regs.length →
     samples.length = bits (s.entryWord k) 23 16 → s.domOff Dn.svc = false →
     -32768 ≤ meanCode samples → meanCode samples ≤ 32767 → s.nextEntry (k + 1) (48 + s.svc.userLen) = some j →
     ∃ t, exec (.svc2Conversion samples none) s = .next t ∧ t.svc.entry = some j ∧
       nth t.svc.regs k 0 = outWord false (s.svc.recover != 0) false false s.cal.suspect 2 k (meanCode samples)) ∧
  -- COMPARATOR_FIRE counts and logs C005h.
  (∀ (k : Fin 4) (code : Int) (s : State), bit (s.u Obj.comparator k) 31 = true → s.u Obj.comparatorState k = 1 →
     s.awake Dn.svc = true → s.u Obj.comparatorFireCount k < 4294967295 →
     (if bit (s.u Obj.comparator k) 30 = true then decide (ofTwos 16 (bits (s.u Obj.comparator k) 15 0) < code)
       else decide (code < ofTwos 16 (bits (s.u Obj.comparator k) 15 0))) = true →
     ∃ t word, exec (.comparatorFire k code) s = .next t ∧ t.u Obj.comparatorState k = 2 ∧
       t.u Obj.comparatorFireCount k = s.u Obj.comparatorFireCount k + 1 ∧
       Logged s t 0xC005 (d8 k ++ d8 (bits (s.u Obj.comparator k) 29 24) ++ d32 word)) ∧
  -- COMPARATOR_REARM arms it again 328 codes inside.
  (∀ (k : Fin 4) (code : Int) (s : State), bit (s.u Obj.comparator k) 31 = true → s.u Obj.comparatorState k = 2 →
     (if bit (s.u Obj.comparator k) 30 = true then decide (code ≤ ofTwos 16 (bits (s.u Obj.comparator k) 15 0) - 328)
       else decide (ofTwos 16 (bits (s.u Obj.comparator k) 15 0) + 328 ≤ code)) = true →
     exec (.comparatorRearm k code) s = .next (s.put Obj.comparatorState k 1)) ∧
  -- COMPARATOR_WRITE stores the word and arms it where enabled.
  (∀ (w : Requester) (k v n : Nat) (s s' : State), Admitted s s' w 2 Obj.comparator k (.num v) (.num n) →
     Accepts (.comparatorWrite w k v) s w 2 Obj.comparator k (fun x =>
       x = (s'.put Obj.comparator k n).put Obj.comparatorState k (b2n (bit n 31)))) ∧
  -- INJECT_NOW triggers the injected sequence, and logs C003h where it is empty.
  (∀ (w : Requester) (v : Nat) (v' : Val) (s s' : State), Admitted s s' w 2 Obj.injectNow 0 (.num v) v' →
     Accepts (.injectNow w v) s w 2 Obj.injectNow 0 (fun x => x = s'.injTrigger 2 (some (masterOf w)) ∧
       (s'.u Obj.injectLength = 0 → Logged s x 0xC003 (d8 2)))) ∧
  -- INJECT_LENGTH_WRITE stores the length, and 0 stops it.
  (∀ (w : Requester) (v n : Nat) (s s' : State), Admitted s s' w 2 Obj.injectLength 0 (.num v) (.num n) →
     Accepts (.injectLengthWrite w v) s w 2 Obj.injectLength 0 (fun x => x.u Obj.injectLength = n ∧
       (n = 0 → x.svc.pending = none ∧ ∀ k, s'.svc.inj = some k → x.svc.injLen = k - 63))) ∧
  -- SVC_ACCUM_CLEAR takes effect at the next boundary.
  (∀ (w : Requester) (v : Nat) (v' : Val) (s s' : State), Admitted s s' w 2 Obj.svcAccumClear 0 (.num v) v' →
     Accepts (.svcAccumClear w v) s w 2 Obj.svcAccumClear 0 (fun x => x = s'.setSvc (fun x => { x with clearDue := true }))) ∧
  -- TFE_OUTPUT of a channel with its samples delivers the filter's value as its word.
  (∀ (j : Fin 8) (x : TfeIn) (s : State), s.awake Dn.svc = true → x.sample = none → s.tfeOn j = true →
     decimation (s.tfeCode j) ≤ (s.tfe j).fed → j.val < s.svc.tfe.length →
     ∃ t, exec (.tfeOutput j x) s = .next t ∧ (t.tfe j).fed = 0 ∧ (t.tfe j).unsettled = (s.tfe j).unsettled - 1 ∧
       (t.tfe j).word = outWord ((s.tfe j).ovr != 0) ((s.tfe j).recovery != 0) ((s.tfe j).unsettled != 0) false false 3 j
         (s.filterValue j x.value).1) ∧
  -- While SVC sleeps it does nothing.
  (∀ (j : Fin 8) (x : TfeIn) (s : State), s.awake Dn.svc = false → exec (.tfeOutput j x) s = .next s) ∧
  -- TFE_RUN_WRITE of 1 within headroom starts a channel.
  (∀ (w : Requester) (j v : Nat) (s s' : State), Admitted s s' w 2 Obj.tfeRun j (.num v) (.num 1) → s.u Obj.tfeRun j ≠ 1 →
     s.judge Act.tfe j 100000 = 0 →
     Accepts (.tfeRunWrite w j v) s w 2 Obj.tfeRun j (fun x => x.u Obj.tfeRun j = 1)) ∧
  -- Another value stops it and frees its cost.
  (∀ (w : Requester) (j v n : Nat) (s s' : State), Admitted s s' w 2 Obj.tfeRun j (.num v) (.num n) → n ≠ 1 →
     Accepts (.tfeRunWrite w j v) s w 2 Obj.tfeRun j (fun x => x = (s'.put Obj.tfeRun j 0).release Act.tfe j)) ∧
  -- TFE_COEFF_WRITE stores the filter of a stopped channel.
  (∀ (w : Requester) (j : Nat) (v n : Nat) (s s' : State), Admitted s s' w 2 Obj.tfeFilter j (.num v) (.num n) →
     s.u Obj.tfeRun j ≠ 1 →
     Accepts (.tfeCoeffWrite w j (.num v)) s w 2 Obj.tfeFilter j (fun x => x = s'.put Obj.tfeFilter j n)) ∧
  -- And its coefficients.
  (∀ (w : Requester) (j : Nat) (v b : List Byte) (s s' : State), Admitted s s' w 2 Obj.tfeCoeff j (.octs v) (.octs b) →
     s.u Obj.tfeRun j ≠ 1 → coeffShape (s.tfeCode j) b = true → (s.tfeCode j = 5 → biquadOk b = true) →
     Accepts (.tfeCoeffWrite w j (.octs v)) s w 2 Obj.tfeCoeff j (fun x => x = s'.putO Obj.tfeCoeff j b))

/-- Sessions, reads and messages: where its commands complete and what they leave. -/
def Obligations.SessionsServe : Prop :=
  -- AOP_MESSAGE too short, or with a bad CRC on the UART, is dropped; the UART counts it.
  (∀ (t : Fin 5) (source : BitVec 128) (port : BitVec 16) (b : List Byte) (crc : Bool) (s : State),
     s.recovering = false ∨ t = 4 → (t = 4 ∧ crc = false) ∨ b.length < 20 →
     exec (.aopMessage t source port b crc) s = .next (if t = 4 then s.bump Obj.uartFrameErrors else s)) ∧
  -- A sound one joins the queue with its operations.
  (∀ (t : Fin 5) (source : BitVec 128) (port : BitVec 16) (b : List Byte) (ops : List AopOp) (s : State),
     s.recovering = false ∨ t = 4 → 20 ≤ b.length → ofBe (slice b 0 1) = 1 → ofBe (slice b 1 1) = 1 → ofBe (slice b 2 2) = b.length →
     b.length ≤ transportLimit t →
     (ofBe (slice b 4 2) = 0xFFFF ∨ ofBe (slice b 4 2) = s.u Obj.deviceAddress) → ofBe (slice b 6 2) ≤ 64 →
     ofBe (slice b 8 4) = 0 → parseOps (ofBe (slice b 6 2)) (b.drop 20) = some ops → ops ≠ [] →
     s.aop.queue.length < 256 →
     ∃ x, exec (.aopMessage t source port b true) s = .next x ∧ x.aop.queue = s.aop.queue ++ [{
       asker := { transport := t, source := source.toNat, port := port.toNat, session := 0
                  sequence := ofBe (slice b 12 4) }, left := ops, resp := [] }]) ∧
  -- READ answers the value in force.
  (∀ (w : Requester) (o : BitVec 16) (m : BitVec 8) (off : BitVec 32) (s : State), s.badSession w = false →
     s.readStatus w o.toNat m.toNat = 0 → s.aop.queue.find? (fun q => decide (q.asker = w)) = none →
     ∃ t part, exec (.aopRead w o m off) s = .next t ∧ t.user = s.user ∧
       (¬(o.toNat = Obj.slotsPeak ∨ isObj o.toNat Obj.sopRateMax = true) → t.live = s.live) ∧
       (o.toNat = Obj.slotsPeak ∨ isObj o.toNat Obj.sopRateMax = true → t.i o.toNat 0 = 0) ∧
       Answers w (aopMsg 2 1 w.session w.sequence 0
         (opMsg 1 0 o.toNat m.toNat 0 (s.valueOctets o.toNat m.toNat).length [] part)) t ∧
       part = (match dictRow o.toNat with
         | some r => if r.ty = .octets ∨ r.ty = .table then
             ((s.valueOctets o.toNat m.toNat).drop off.toNat).take (s.room w)
           else s.valueOctets o.toNat m.toNat
         | none => s.valueOctets o.toNat m.toNat)) ∧
  -- DESCRIBE answers type, access, roles and members.
  (∀ (w : Requester) (o : BitVec 16) (m : BitVec 8) (r : DictRow) (s : State), s.badSession w = false →
     s.recovering = false → dictRow o.toNat = some r → r.memLo ≤ m.toNat → m.toNat ≤ r.memHi →
     s.aop.queue.find? (fun q => decide (q.asker = w)) = none →
     ∃ t, exec (.describe w o m) s = .next t ∧ t.live = s.live ∧
       Answers w (aopMsg 2 1 w.session w.sequence 0 (opMsg 6 0 o.toNat m.toNat 0 8 []
         (be 1 r.ty.code ++ be 1 r.acc.code ++ be 1 r.rd ++ be 1 r.wr ++ be 2 (r.memHi + 1) ++ be 2 0))) t) ∧
  -- SESSION_OPEN opens a session with the engine's nonce.
  (∀ (w : Requester) (role slot : BitVec 8) (nonce : BitVec 256) (s : State), s.aop.sessions.length < 32 →
     ∃ t x, exec (.sessionOpen w role slot nonce) s = .next t ∧ t.aop.sessions = s.aop.sessions ++ [x] ∧
       x.transport = w.transport ∧ x.source = w.source ∧ x.port = w.port ∧ x.requested = role.toNat ∧
       x.keySlot = slot.toNat ∧ x.hostNonce = be 32 nonce.toNat ∧ x.proved = s.uartOwner w slot.toNat ∧
       x.role = (if s.uartOwner w slot.toNat = true then 3 else 0) ∧
       Answers w (aopMsg 6 0 x.id w.sequence 0 x.engineNonce) t) ∧
  -- A thirty-third is refused with 0801h.
  (∀ (w : Requester) (role slot : BitVec 8) (nonce : BitVec 256) (s : State), 32 ≤ s.aop.sessions.length →
     ∃ t, exec (.sessionOpen w role slot nonce) s = .next t ∧ t.aop.sessions = s.aop.sessions ∧
       Answers w (aopMsg 6 0 0 w.sequence 0x0801 []) t) ∧
  -- PROOF that verifies grants the role and logs 1001h.
  (∀ (w : Requester) (sig : List Byte) (x : Session) (s : State), s.badSession w = false → s.session? w = some x →
     (s.accessDom Dn.grt).1 = 0 → (s.accessDom Dn.grt).2.proofStatus x sig = 0 → w.session ≠ 0 →
     ∃ t, exec (.proof w sig) s = .next t ∧ Answers w (aopMsg 6 0 w.session w.sequence 0 []) t ∧
       Logged s t 0x1001 (d32 x.id ++ d8 x.requested ++ d8 w.transport ++ d8 x.keySlot) ∧
       ∀ y ∈ t.aop.sessions, y.id = x.id → y.proved = true ∧ y.role = y.requested) ∧
  -- CLOSE ends session and subscriptions and logs 1003h.
  (∀ (w : Requester) (s : State), s.badSession w = false → w.session ≠ 0 →
     s.aop.sessions.any (fun x => x.id == w.session) = true →
     ∃ t, exec (.close w) s = .next t ∧ t.aop.sessions = s.aop.sessions.filter (fun x => x.id != w.session) ∧
       (∀ b ∈ t.aop.subs, b.session ≠ w.session) ∧ Answers w (aopMsg 2 0 w.session w.sequence 0 []) t ∧
       Logged s t 0x1003 (d32 w.session ++ d8 0)) ∧
  -- SESSION_IDLE ends it after SessionIdle.
  (∀ (id : BitVec 32) (x : Session) (s : State), s.aop.sessions.find? (fun x => x.id == id.toNat) = some x →
     x.last + s.u Obj.sessionIdle * sfPerSecond ≤ s.clk.sfn →
     ∃ t, exec (.sessionIdle id) s = .next t ∧ t.aop.sessions = s.aop.sessions.filter (fun y => y.id != id.toNat) ∧
       (∀ b ∈ t.aop.subs, b.session ≠ id.toNat) ∧ Logged s t 0x1003 (d32 id.toNat ++ d8 1)) ∧
  -- UNPROVED_SESSION_DISCARD ends it after 10 s and logs 1002h.
  (∀ (id : BitVec 32) (x : Session) (s : State), s.aop.sessions.find? (fun x => x.id == id.toNat) = some x →
     x.proved = false → x.opened + 10 * sfPerSecond ≤ s.clk.sfn →
     ∃ t status, exec (.unprovedSessionDiscard id) s = .next t ∧
       t.aop.sessions = s.aop.sessions.filter (fun y => y.id != id.toNat) ∧
       Logged s t 0x1002 (d8 x.transport ++ d8 x.keySlot ++ d16 status)) ∧
  -- SESSION_CLOSE of another session ends that one.
  (∀ (w : Requester) (v : Int) (n : Nat) (s s' : State), Admitted s s' w 2 Obj.sessionClose 0 (.num v) (.num n) →
     s.aop.sessions.any (fun x => x.id == n) = true →
     Accepts (.sessionClose w v) s w 2 Obj.sessionClose 0 (fun t =>
       t.aop.sessions = s.aop.sessions.filter (fun x => x.id != n) ∧ Logged s t 0x1003 (d32 n ++ d8 5))) ∧
  -- AOP_PORT_WRITE of another port ends every session.
  (∀ (w : Requester) (v : Int) (n : Nat) (s s' : State), Admitted s s' w 2 Obj.aopPort 0 (.num v) (.num n) →
     n ≠ s.u Obj.aopPort →
     ∃ t, exec (.aopPortWrite w v) s = .next t ∧ t.u Obj.aopPort = n ∧ t.aop.sessions = [])

/-- Subscriptions, cancelled entries and the saved image: where its commands complete and what they leave. -/
def Obligations.SubscriptionsAndSavedImage : Prop :=
  -- SUBSCRIBE adds a subscription and answers its number.
  (∀ (w : Requester) (mode : BitVec 8) (o : BitVec 16) (m : BitVec 8) (period : BitVec 32) (s : State),
     s.badSession w = false → s.subscribeStatus w mode.toNat o.toNat m.toNat period.toNat = 0 →
     ∃ t n, exec (.subscribe w mode o m period) s = .next t ∧
       t.aop.subs = s.aop.subs ++ [{ num := n, session := w.session, mode := mode.toNat, obj := o.toNat, mem := m.toNat
                                     period := period.toNat, last := [], sent := s.clk.sfn, seq := 0 }] ∧
       (s.aop.queue.find? (fun q => decide (q.asker = w)) = none →
         Answers w (aopMsg 2 1 w.session w.sequence 0 (opMsg 4 0 o.toNat m.toNat 0 2 [] (be 2 n))) t)) ∧
  -- UNSUBSCRIBE removes it.
  (∀ (w : Requester) (n : BitVec 8) (s : State), s.badSession w = false →
     s.aop.subs.any (fun b => b.num == n.toNat && b.session == w.session) = true →
     ∃ t, exec (.unsubscribe w n) s = .next t ∧ t.aop.subs = s.aop.subs.filter (fun b => b.num != n.toNat) ∧
       (s.aop.queue.find? (fun q => decide (q.asker = w)) = none →
         Answers w (aopMsg 2 1 w.session w.sequence 0 (opMsg 5 0 0 n.toNat 0 0 [] [])) t)) ∧
  -- CANCEL_ENTRY removes every entry of its write.
  (∀ (w : Requester) (v : Int) (n : Nat) (e : Entry) (s s' : State),
     Admitted s s' w 2 Obj.cancelEntry 0 (.num v) (.num n) → s.clk.entries.find? (fun e => e.num == n) = some e →
     (2 ≤ e.src → 2 ≤ s.roleOf w) → (s.writeGroup e).any s.committed = false →
     Accepts (.cancelEntry w v) s w 2 Obj.cancelEntry 0 (fun t =>
       ∀ x ∈ s.writeGroup e, ∀ y ∈ t.clk.entries, y.num ≠ x.num)) ∧
  -- DICT_SAVE is answered once the image is saved.
  (∀ (w : Requester) (v : Int) (v' : Val) (s s' : State), Admitted s s' w 2 Obj.dictSave 0 (.num v) v' →
     s.aop.saving = none → s.aop.factorySave = none →
     exec (.dictSave w v) s = .next (s'.setAop (fun a => { a with saving := some w, saveTaken := false }))) ∧
  -- DICT_RESTORE takes effect at the next boundary.
  (∀ (w : Requester) (v : Int) (v' : Val) (s s' : State), Admitted s s' w 2 Obj.dictRestore 0 (.num v) v' →
     (s.standing 2 0).isSome = true →
     Accepts (.dictRestore w v) s w 2 Obj.dictRestore 0 (fun t =>
       t = s'.setAop (fun a => { a with restore := some (true, w) }))) ∧
  -- DICT_FACTORY writes the empty image.
  (∀ (w : Requester) (v : Int) (v' : Val) (s s' : State), Admitted s s' w 2 Obj.dictFactory 0 (.num v) v' →
     s.aop.saving = none → s.aop.factorySave = none → (s.writeRecord 2 2 0 [] (some w)).1 = 0 →
     (s'.writeRecord 2 2 0 [] (some w)).1 = 0 →
     ∃ t, exec (.dictFactory w v) s = .next t ∧ t.aop.factorySave = some w)

/-- Owner slots, quotes and installed roots: where its commands complete and what they leave. -/
def Obligations.OwnerSlotsAndQuotes : Prop :=
  -- SLOT_WRITE stores key and type and logs 900Ch.
  (∀ (w : Requester) (row b : List Byte) (s s' : State), Admitted s s' w 2 Obj.slotWrite 0 (.octs row) (.octs b) →
     (ofBe (slice b 3 1) = 4 ∨ ofBe (slice b 3 1) = 8) → (b.drop 6).length = slotOctets (ofBe (slice b 3 1)) →
     (s.slot (ofBe (slice b 2 1))).shadow = none → ofBe (slice b 2 1) < s.grot.slots.length →
     Accepts (.slotWrite w row) s w 2 Obj.slotWrite 0 (fun t =>
       (t.slot (ofBe (slice b 2 1))).typ = ofBe (slice b 3 1) ∧ (t.slot (ofBe (slice b 2 1))).data = b.drop 6 ∧
       ∃ gen, Logged s t 0x900C (d8 (ofBe (slice b 2 1)) ++ d8 (ofBe (slice b 3 1)) ++ d16 gen))) ∧
  -- SLOT_ERASE empties an unused slot at once.
  (∀ (w : Requester) (v n : Nat) (s s' : State), Admitted s s' w 2 Obj.slotErase 0 (.num v) (.num n) →
     s.inFlight n = [] → n < s.grot.slots.length →
     Accepts (.slotErase w v) s w 2 Obj.slotErase 0 (fun t => (t.slot n).typ = 0)) ∧
  -- One in use waits.
  (∀ (w : Requester) (v n : Nat) (s s' : State), Admitted s s' w 2 Obj.slotErase 0 (.num v) (.num n) →
     s.inFlight n ≠ [] → (s.slot n).typ ≠ 0 → n < s.grot.slots.length →
     Accepts (.slotErase w v) s w 2 Obj.slotErase 0 (fun t => (t.slot n).erase = some s'.clk.sfn)) ∧
  -- QUOTE_REQUEST enters a signature request.
  (∀ (w : Requester) (row b : List Byte) (s s' : State) (r : GReq),
     Admitted s s' w 2 Obj.quoteRequest 0 (.octs row) (.octs b) → s.grot.identity = true →
     r = { master := 3, typ := 8, slot := 1, gen := 0, outSlot := 0, tag := 0
           src := (0, (s.quoteBody (slice b 2 32) (ofBe (slice b 34 2))).length), dst := (0, 1280), par := (0, 0), cls := 2
           unit := none, use := .quote (slice b 2 32) (ofBe (slice b 34 2)) } →
     s.admission r = 0 →
     Accepts (.quoteRequest w row) s w 2 Obj.quoteRequest 0 (fun t =>
       t = (s'.setGr (fun g => { g with quote := none })).submit r)) ∧
  -- ROOT_INSTALL puts the first root in force.
  (∀ (c : Carrier) (slot id : Nat) (identity : List Byte) (s : State), (s.rt c).next = some (slot, id, identity) →
     (s.rt c).cur = none → (s.rt c).install ≤ s.clk.sfn →
     ∃ t, exec (.rootInstall c) s = .next t ∧ (t.rt c).cur = some (slot, id, identity) ∧ (t.rt c).next = none ∧
       (t.rt c).since = (s.rt c).install) ∧
  -- A later one begins migration.
  (∀ (c : Carrier) (r : Nat × Nat × List Byte) (n : Nat × Nat × List Byte) (s : State), (s.rt c).next = some n →
     (s.rt c).cur = some r → (s.rt c).install ≤ s.clk.sfn → s.u (on c Obj.agreementState) ≠ 4 →
     exec (.rootInstall c) s = .next (((s.bump (on c Obj.agreementCount)).agreeState c 4).migrate c)) ∧
  -- ROOT_MIGRATION_DEADLINE after an hour rolls the contexts still on the old root.
  (∀ (c : Carrier) (k slot id : Nat) (identity : List Byte) (r : Nat × Nat × List Byte) (s : State),
     (s.rt c).next = some (slot, id, identity) → (s.rt c).cur = some r → (s.rt c).install + 36000000 ≤ s.clk.sfn →
     k ∈ allCtx → (s.ctx c .tx k).on = true → (s.ctx c .tx k).root ≠ id →
     (∀ j ∈ allCtx, j ≠ k → (s.ctx c .tx j).on = false ∨ (s.ctx c .tx j).root = id) →
     exec (.rootMigrationDeadline c) s = .next (s.armRoll c .tx k 3))

/-- Link key agreement: where its commands complete and what they leave. -/
def Obligations.AgreementRuns : Prop :=
  -- OFFER_WAIT after 2 s without a root sends an Offer.
  (∀ (c : Carrier) (t0 : Nat) (s : State), (s.rt c).waitFrom = some t0 → t0 + 2 * sfPerSecond ≤ s.clk.sfn →
     (s.rt c).cur = none → CanAgree c s → ∃ t, exec (.offerWait c) s = .next t ∧ OfferSent c s t) ∧
  -- AGREEMENT_RETRY sends one when its back-off has passed.
  (∀ (c : Carrier) (t0 : Nat) (s : State), (s.rt c).retryAt = some t0 → t0 ≤ s.clk.sfn → CanAgree c s →
     ∃ t, exec (.agreementRetry c) s = .next t ∧ OfferSent c s t) ∧
  -- LATTICE_RETRY sends one once the lattice unit is granted.
  (∀ (c : Carrier) (t0 : Nat) (s : State), (s.rt c).askAt = some t0 → t0 ≤ s.clk.sfn → (s.rt c).initiates = true →
     CanAgree c s → ∃ t, exec (.latticeRetry c) s = .next t ∧ OfferSent c s t) ∧
  -- ROOT_INTERVAL sends one from the lower end.
  (∀ (c : Carrier) (s : State), (s.rt c).cur.isSome = true → (s.rt c).since + s.u Obj.rootInterval ≤ s.clk.sfn →
     s.isLower c = true → CanAgree c s → ∃ t, exec (.rootInterval c) s = .next t ∧ OfferSent c s t) ∧
  -- REKEY_ROOT sends one for the host.
  (∀ (w : Requester) (v n : Nat) (s s' : State), Admitted s s' w 2 Obj.rekeyRoot 0 (.num v) (.num n) →
     CanAgree (if n = 0 then .a else .b) s' →
     Accepts (.rekeyRoot w v) s w 2 Obj.rekeyRoot 0 (OfferSent (if n = 0 then .a else .b) s')) ∧
  -- OFFER from a right peer is answered.
  (∀ (c : Carrier) (session : Nat) (body : List Byte) (s z : State), (s.rt c).part = .none → (s.rt c).next = none →
     s.checkPeer c body (body.take 4709) = 0 → s.grot.identity = true →
     z = s.setRt c (fun r => { r with part := .answered, initiates := false, session := session, offer := body
                                      sentAt := s.clk.sfn, waitFrom := none }) →
     (z.askLattice c).1 = true →
     ∃ t, exec (.offer c session body) s = .next t ∧ (t.rt c).part = .answered ∧ (t.rt c).session = session ∧
       (t.rt c).offer = body ∧ t.u (on c Obj.agreementState) = 2 ∧
       (bit (ofBe (body.take 1)) 0 = true → (t.rt c).cur = none) ∧
       (t.fr c).mocOut = (s.fr c).mocOut ++ agreePackets 2 session (t.rt c).answer) ∧
  -- ANSWER from a right peer is confirmed with the initiator's tag.
  (∀ (c : Carrier) (session : Nat) (body : List Byte) (s : State), (s.rt c).part = .offered → (s.rt c).session = session →
     s.checkPeer c body ((s.rt c).offer ++ body.take 4709) = 0 →
     ∃ t tag, exec (.answer c session body) s = .next t ∧ (t.rt c).part = .confirming ∧ (t.rt c).answer = body ∧
       t.u (on c Obj.agreementState) = 3 ∧
       tag = Config.kmac256 32 ((t.rt c).root.take 32) (transcript (s.rt c).offer body) (ascii "TH6400 CONF I") ∧
       (t.fr c).mocOut = (s.fr c).mocOut ++ agreePackets 3 session (be 8 (t.rt c).sfn ++ tag)) ∧
  -- CONFIRM_I with the right tag and lead leaves the root to be installed and confirms it.
  (∀ (c : Carrier) (session : Nat) (body : List Byte) (s : State), (s.rt c).part = .answered → (s.rt c).session = session →
     body.drop 8 = Config.kmac256 32 ((s.rt c).root.take 32) (transcript (s.rt c).offer (s.rt c).answer)
       (ascii "TH6400 CONF I") →
     s.leadSfn c ≤ ofBe (body.take 8) →
     ∃ t, exec (.confirmI c session body) s = .next t ∧ (t.rt c).part = .none ∧ (t.rt c).install = ofBe (body.take 8) ∧
       (t.rt c).next = some (s.freeRoot c, ofBe ((s.rt c).root.drop 48), slice (s.rt c).root 32 16) ∧
       t.u (on c Obj.agreementState) = 3 ∧
       (t.fr c).mocOut = (s.fr c).mocOut ++ agreePackets 4 session (Config.kmac256 32 ((s.rt c).root.take 32)
         (transcript (s.rt c).offer (s.rt c).answer) (ascii "TH6400 CONF R"))) ∧
  -- CONFIRM_R with the right tag leaves it to be installed and logs 9007h.
  (∀ (c : Carrier) (session : Nat) (tag : List Byte) (s : State), (s.rt c).part = .confirming →
     (s.rt c).session = session →
     tag = Config.kmac256 32 ((s.rt c).root.take 32) (transcript (s.rt c).offer (s.rt c).answer) (ascii "TH6400 CONF R") →
     s.clk.sfn + 4 < (s.rt c).sfn →
     ∃ t serial, exec (.confirmR c session tag) s = .next t ∧ (t.rt c).part = .none ∧ (t.rt c).install = (s.rt c).sfn ∧
       (t.rt c).next = some (s.freeRoot c, ofBe ((s.rt c).root.drop 48), slice (s.rt c).root 32 16) ∧
       Logged s t 0x9007 (d8 c.inst ++ d64 (ofBe ((s.rt c).root.drop 48)) ++ fit 16 serial ++ d64 (s.rt c).sfn)) ∧
  -- ABORT ends the agreement and logs 9008h.
  (∀ (c : Carrier) (session reason : Nat) (s : State), (s.rt c).session = session → (s.rt c).part ≠ .none →
     ∃ t, exec (.abort c session reason) s = .next t ∧ (t.rt c).part = .none ∧
       Logged s t 0x9008 (d8 c.inst ++ d8 reason ++ d8 1)) ∧
  -- AGREEMENT_TIMEOUT does so with reason 6, and the initiator tries again after a doubled back-off.
  (∀ (c : Carrier) (s : State), (s.rt c).part ≠ .none → (s.rt c).sentAt + 2000 ≤ s.clk.sfn →
     ∃ t, exec (.agreementTimeout c) s = .next t ∧ (t.rt c).part = .none ∧
       Logged s t 0x9008 (d8 c.inst ++ d8 6 ++ d8 0) ∧
       t.u (on c Obj.agreementState) = (if (s.rt c).initiates then 5 else 0) ∧
       ((s.rt c).initiates = true → (t.rt c).retryAt =
         some (s.clk.sfn + (if (s.rt c).backoff = 0 then 1 else min 64 (2 * (s.rt c).backoff)) * sfPerSecond)))

/-- Images, owner key and rollback floors: where its commands complete and what they leave. -/
def Obligations.ImagesChange : Prop :=
  -- OWNER_KEY_ENROL enrols, replaces or removes the owner's key and logs 9004h.
  (∀ (w : Requester) (value b : List Byte) (op : Nat) (s s' : State), Admitted s s' w 2 Obj.ownerKeyEnrol 0 (.octs value) (.octs b) →
     ofBe (slice b 0 1) = op → op = 1 ∨ op = 2 ∨ op = 3 → b.length = nth [0, 1802, 3082, 1289] op 0 →
     s.clk.sfn ≤ ofBe (slice b 1 8) + 10000 → ofBe (slice b 1 8) ≤ s.clk.sfn + 10000 →
     (op ≠ 1 → s.grot.ownerBad = false) →
     (if op = 1 then (s.slot 3).typ = 0
       else (s.slot 3).typ ≠ 0 ∧ Config.verdict Config.falconVerify [(s.slot 3).data,
         b.take (b.length - 1280) ++ fit 16 (s.o Obj.deviceSerial), b.drop (b.length - 1280)] = true) →
     (op ≠ 3 → ∀ sub ∈ [1, 2, 3, 4, 5, 6], (s.imgSlot (imgIndex sub (s.activeSlot sub))).factory = false ∧
       ownerSigned (slice b 9 1793) (s.imgSlot (imgIndex sub (s.activeSlot sub))).data = true) →
     (s.slot 3).shadow = none → 3 < s.grot.slots.length →
     Accepts (.ownerKeyEnrol w value) s w 2 Obj.ownerKeyEnrol 0 (fun t => t.grot.ownerBad = false ∧
       (op = 3 → (t.slot 3).typ = 0) ∧
       (op ≠ 3 → (t.slot 3).typ = 4 ∧ (t.slot 3).data = slice b 9 1793) ∧
       Logged s t 0x9004 (d8 op ++ if op = 3 then List.replicate 64 0 else Config.shake256 64 (slice b 9 1793)))) ∧
  -- ROLLBACK_FLOOR raises a floor to the active image's version and logs 9005h.
  (∀ (w : Requester) (sub : Fin 7) (v : Int) (n : Nat) (s s' : State),
     Admitted s s' w 2 Obj.rollbackFloor sub (.num v) (.num n) →
     n = s.imgVersion (imgIndex sub (s.activeSlot sub)) → nth s.grot.floors sub.val 0 < n →
     sub.val < s.grot.floors.length →
     Accepts (.rollbackFloor w sub v) s w 2 Obj.rollbackFloor sub (fun t => t.u Obj.rollbackFloor sub = n ∧
       nth t.grot.floors sub.val 0 = n ∧ Logged s t 0x9005 (d8 sub ++ d8 n))) ∧
  -- IMAGE_WRITE begins a slot or adds to it.
  (∀ (w : Requester) (row b : List Byte) (sub slot off : Nat) (s s' : State),
     Admitted s s' w 2 Obj.imageWrite 0 (.octs row) (.octs b) → ofBe (slice b 2 1) = sub → ofBe (slice b 3 1) = slot →
     ofBe (slice b 4 4) = off →
     (off = 0 ∨ (s.imgSlot (imgIndex sub slot)).opened.isSome = true ∧
       off = ((s.imgSlot (imgIndex sub slot)).opened.getD []).length) →
     off + (b.drop 10).length ≤ imageMax → s.slotActive sub slot = false → s.slotPending sub slot = false →
     s.committing (imgIndex sub slot) = false → imgIndex sub slot < s.img.slots.length →
     Accepts (.imageWrite w row) s w 2 Obj.imageWrite 0 (fun t =>
       (t.imgSlot (imgIndex sub slot)).opened = some (if off = 0 then b.drop 10
         else (s.imgSlot (imgIndex sub slot)).opened.getD [] ++ b.drop 10) ∧
       t.u Obj.imageProgress sub = (if off = 0 then (b.drop 10).length
         else ((s.imgSlot (imgIndex sub slot)).opened.getD []).length + (b.drop 10).length))) ∧
  -- IMAGE_COMMIT of a sound image writes its record.
  (∀ (w : Requester) (row b data : List Byte) (sub slot : Nat) (s s' : State),
     Admitted s s' w 2 Obj.imageCommit 0 (.octs row) (.octs b) → ofBe (slice b 2 1) = sub → ofBe (slice b 3 1) = slot →
     (s.imgSlot (imgIndex sub slot)).opened = some data → data.length = ofBe (slice b 4 4) →
     s.judgeImage sub data = 1 → s.slotActive sub slot = false → s.slotPending sub slot = false →
     s.committing (imgIndex sub slot) = false →
     (∀ z ∈ [s, s'], ((z.accessDom Dn.grt).2.writeRecord 1 1 (imgIndex sub slot) data (some w)).1 = 0) →
     exec (.imageCommit w row) s =
       .next ((s'.accessDom Dn.grt).2.writeRecord 1 1 (imgIndex sub slot) data (some w)).2) ∧
  -- IMAGE_ACTIVATE leaves an activation in the table.
  (∀ (w : Requester) (sub : Fin 7) (tg : Target) (v : Int) (n : Nat) (c : Option Carrier) (s s' : State),
     Admitted s s' w 3 Obj.imageActivate sub (.num v) (.num n) →
     (sub.val ≠ 5 ∧ c = none ∧ s.activeSlot sub ≠ n % 2 ∨ sub.val = 5 ∧ n / 2 = 1 ∧ c = some .a ∧ s.img.dsp.a ≠ n % 2 ∨
       sub.val = 5 ∧ n / 2 = 2 ∧ c = some .b ∧ s.img.dsp.b ≠ n % 2) →
     (s.imgSlot (imgIndex sub (n % 2))).opened = none → (s.imgSlot (imgIndex sub (n % 2))).present = true →
     s.imageStatus (imgIndex sub (n % 2)) = 1 →
     (∀ z ∈ [s, s'], ((z.accessDom Dn.grt).2.hostSchedule w tg (activationEntry sub (n % 2) c)).1.code = 0) →
     ∃ t, exec (.imageActivate w sub tg v) s = .next t ∧ ∃ e ∈ t.clk.entries, e.kind = .imageActivation ∧ e.carrier = c ∧
       e.mem = sub ∧ e.data = [n % 2]) ∧
  -- One of the active slot changes nothing.
  (∀ (w : Requester) (sub : Fin 7) (tg : Target) (v : Int) (n : Nat) (s s' : State),
     Admitted s s' w 3 Obj.imageActivate sub (.num v) (.num n) → sub.val ≠ 5 → s.activeSlot sub = n % 2 →
     Accepts (.imageActivate w sub tg v) s w 3 Obj.imageActivate sub (fun t => t = s')) ∧
  -- One for both carriers leaves two.
  (∀ (w : Requester) (tg : Target) (v : Int) (n : Nat) (s s' : State),
     Admitted s s' w 3 Obj.imageActivate 5 (.num v) (.num n) → n / 2 = 0 → s.u Obj.avenueMode ≠ 2 →
     s.img.dsp.a ≠ n % 2 → s.img.dsp.b ≠ n % 2 → (s.imgSlot (imgIndex 5 (n % 2))).opened = none →
     (s.imgSlot (imgIndex 5 (n % 2))).present = true → s.imageStatus (imgIndex 5 (n % 2)) = 1 →
     (∀ z ∈ [s, s'], ∀ r, r = (z.accessDom Dn.grt).2.hostSchedule w tg (activationEntry 5 (n % 2) (some .a)) →
       r.1.code = 0 ∧ (r.2.secondActivation (ofBe r.1.value) (activationEntry 5 (n % 2) (some .b))).isSome = true) →
     ∃ t, exec (.imageActivate w 5 tg v) s = .next t ∧ ∀ c, ∃ e ∈ t.clk.entries, e.kind = .imageActivation ∧
       e.carrier = some c ∧ e.mem = 5 ∧ e.data = [n % 2]) ∧
  -- NEW_IMAGE_LOADED ends the load, and the Grotto's hold.
  (∀ (sub : Fin 7) (s : State), s.img.loading.contains sub.val = true →
     ∃ t, exec (.newImageLoaded sub) s = .next t ∧ t.img.loading = s.img.loading.filter (· != sub.val) ∧
       (sub.val = 2 → t.grot.hold = false)) ∧
  -- PROBATION_PASS makes the slot the one that boots.
  (∀ (sub : Fin 7) (c : Option Carrier) (p : Probation) (s : State), s.onProbation sub c = some p →
     p.until_ ≤ s.clk.sfn → p.sub < s.img.boot.length →
     ∃ t, exec (.probationPass sub c) s = .next t ∧ nth t.img.boot p.sub 0 = p.slot ∧ t.onProbation sub c = none) ∧
  -- PROBATION_FAIL logs 1012h and arms the way back.
  (∀ (sub : Fin 7) (c : Option Carrier) (p : Probation) (s : State), s.onProbation sub c = some p →
     s.clk.sfn < p.until_ →
     ∃ z, exec (.probationFail sub c) s = .next (z.arm { activationEntry p.sub p.prev p.carrier with
         sfn := z.firstSfn .loc 0, orig := z.firstSfn .loc 0 }).2 ∧ z.clk = s.clk ∧ z.onProbation sub c = none ∧
       Logged s z 0x1012 (d8 p.sub ++ d8 p.sub))

/-- Windows and frames of the group bus: where its commands complete and what they leave. -/
def Obligations.GroupBusTalks : Prop :=
  -- GROUP_WINDOW of an engine that has left, or that does not know the windows, sends nothing.
  (∀ (n : Fin 40) (collision : Bool) (s : State), s.grp.silent = true ∨ s.timed = false →
     exec (.groupWindow n collision) s = .next s) ∧
  -- The Keeper sends its beacon in window 32.
  (∀ (s : State), s.grp.silent = false → s.isKeeper = true →
     ∃ t cycle body, exec (.groupWindow 32 false) s = .next t ∧ t.grp.admits = s.grp.admits.drop 4 ∧
       .group 32 (groupFrame 1 s.address cycle body) ∈ t.out) ∧
  -- A member sends its status in its own window.
  (∀ (n : Fin 40) (collision : Bool) (s : State), s.grp.silent = false → n.val = s.slotNo → s.isMember = true →
     s.grp.leaving = 0 → s.timed = true →
     exec (.groupWindow n collision) s = .next (s.emit (.group s.slotNo (groupFrame 2 s.address s.cycle s.statusBody)))) ∧
  -- Or Leave, three times, then it is silent.
  (∀ (n : Fin 40) (collision : Bool) (s : State), s.grp.silent = false → n.val = s.slotNo → s.isMember = true →
     1 ≤ s.grp.leaving → s.timed = true →
     ∃ t, exec (.groupWindow n collision) s = .next t ∧ t.grp.leaving = s.grp.leaving - 1 ∧
       .group s.slotNo (groupFrame 5 s.address s.cycle (fit 16 (s.o Obj.deviceSerial))) ∈ t.out ∧
       (s.grp.leaving = 1 → t.grp.silent = true ∧ t.u Obj.groupBusState = 0)) ∧
  -- The Keeper sends its orders in window 33.
  (∀ (collision : Bool) (s : State), s.grp.silent = false → s.isKeeper = true →
     ∃ t, exec (.groupWindow 33 collision) s = .next t ∧
       .group 33 (groupFrame 3 s.address s.cycle (ordersBody ((sendOrder s.grp.orders).take 11))) ∈ t.out) ∧
  -- An engine without a slot sends Join in its join window.
  (∀ (n : Fin 40) (collision : Bool) (s : State), s.grp.silent = false → 36 ≤ n.val → s.joinWindow n = true →
     s.u Obj.groupBusState = 1 → s.timed = true →
     ∃ t, exec (.groupWindow n collision) s = .next t ∧ .group n (groupFrame 4 s.address s.cycle s.joinBody) ∈ t.out) ∧
  -- BEACON gives Keeper, deputy, masks, timing and handover.
  (∀ (f : GroupFrame) (s : State), f.crcOk = true → s.ownGroup f.source.toNat = true → 94 ≤ f.body.length →
     f.source.toNat ≠ s.address → s.beaconStands f.source.toNat = true → s.grp.silent = false →
     ∃ t, exec (.beacon f) s = .next t ∧ t.grp.keeper = ofBe (slice f.body 10 2) ∧
       t.grp.deputy = ofBe (slice f.body 12 2) ∧ t.u Obj.groupValidMask = ofBe (slice f.body 14 4) ∧
       t.grp.dup = ofBe (slice f.body 18 4) ∧ t.grp.base = some (f.cycle.toNat, s.clk.sfn) ∧ t.grp.listening = none ∧
       t.grp.handover = (if ofBe (slice f.body 22 2) = 0 then none
         else some (ofBe (slice f.body 22 2), ofBe (slice f.body 24 1) % 32))) ∧
  -- MEMBER_STATUS gives serial, boot state, flags and view records.
  (∀ (f : GroupFrame) (s : State), f.crcOk = true → s.ownGroup f.source.toNat = true → 60 ≤ f.body.length →
     f.source.toNat ≠ s.address → f.source.toNat % 32 < s.grp.members.length →
     ∃ t, exec (.memberStatus f) s = .next t ∧ (t.member (f.source.toNat % 32)).serial = slice f.body 0 16 ∧
       (t.member (f.source.toNat % 32)).boot = ofBe (slice f.body 16 1) ∧
       (t.member (f.source.toNat % 32)).flags = ofBe (slice f.body 17 1) ∧
       (t.member (f.source.toNat % 32)).own = slice f.body 20 16 ∧
       (t.member (f.source.toNat % 32)).far = slice f.body 36 16 ∧
       (t.member (f.source.toNat % 32)).heard = some s.clk.sfn) ∧
  -- ORDERS gives the newest order of each link.
  (∀ (f : GroupFrame) (l1 l2 : List (List Byte)) (b : List Byte) (s : State), f.crcOk = true →
     s.ownGroup f.source.toNat = true → 4 ≤ f.body.length → f.source.toNat ≠ s.address →
     ((List.range (min 11 (ofBe (slice f.body 0 1)))).map (fun i => slice f.body (4 + 8 * i) 8)).filter
       (fun b => b.length == 8) = l1 ++ b :: l2 →
     (∀ x ∈ l2, slice x 2 2 ≠ slice b 2 2) →
     ∃ t, exec (.orders f) s = .next t ∧ ∃ o ∈ t.grp.orders, o.octets = b ∧
       (f.source.toNat = s.grp.keeper → o.carried = true))

/-- Keepers, members and decisions of a group: where its commands complete and what they leave. -/
def Obligations.KeepersChange : Prop :=
  -- JOIN that the Keeper hears admits the slot.
  (∀ (k : Fin 32) (f : GroupFrame) (s : State), f.crcOk = true → s.ownGroup f.source.toNat = true → 20 ≤ f.body.length →
     f.source.toNat ≠ s.address → s.isKeeper = true →
     (bit s.validMask k = false ∨ (s.member k).serial = slice f.body 0 16 ∨
       ∀ t0, (s.member k).heard = some t0 → t0 + fiftyCycles ≤ s.clk.sfn) →
     ∃ t, exec (.join k f) s = .next t ∧ (k.val, slice f.body 0 16) ∈ t.grp.admits ∧
       t.grp.dup = setBit s.grp.dup k false ∧ nth t.grp.joinBad k 0 = 0) ∧
  -- One of another serial than a live member's marks it duplicate.
  (∀ (k : Fin 32) (f : GroupFrame) (t0 : Nat) (s : State), f.crcOk = true → s.ownGroup f.source.toNat = true →
     20 ≤ f.body.length → f.source.toNat ≠ s.address → s.isKeeper = true → bit s.validMask k = true →
     (s.member k).serial ≠ slice f.body 0 16 → (s.member k).heard = some t0 → s.clk.sfn < t0 + fiftyCycles →
     ∃ t, exec (.join k f) s = .next t ∧ t.grp.dup = setBit s.grp.dup k true ∧ t.grp.admits = s.grp.admits) ∧
  -- So does the third bad CRC.
  (∀ (k : Fin 32) (f : GroupFrame) (s : State), f.crcOk = false → s.isKeeper = true → 2 ≤ nth s.grp.joinBad k.val 0 →
     k.val < s.grp.joinBad.length →
     ∃ t, exec (.join k f) s = .next t ∧ t.grp.dup = setBit s.grp.dup k true) ∧
  -- LEAVE clears the slot and logs A00Dh.
  (∀ (f : GroupFrame) (s : State), f.crcOk = true → s.ownGroup f.source.toNat = true → 16 ≤ f.body.length →
     f.source.toNat ≠ s.address → s.isKeeper = true → bit s.validMask (f.source.toNat % 32) = true →
     ∃ t, exec (.leave f) s = .next t ∧ t.validMask = setBit s.validMask (f.source.toNat % 32) false ∧
       Logged s t 0xA00D (d8 (f.source.toNat % 32) ++ d8 0)) ∧
  -- MEMBER_ABSENT after 50 cycles clears it too.
  (∀ (k : Fin 32) (s : State), s.isKeeper = true → k.val ≠ s.slotNo → bit s.validMask k = true →
     (∀ t0, (s.member k).heard = some t0 → t0 + fiftyCycles ≤ s.clk.sfn) →
     ∃ t, exec (.memberAbsent k) s = .next t ∧ t.validMask = setBit s.validMask k false ∧
       Logged s t 0xA00D (d8 k ++ d8 1)) ∧
  -- LISTEN_END of an eligible engine makes it Keeper.
  (∀ (t0 : Nat) (s : State), s.grp.listening = some t0 → s.u Obj.bootState = 2 → s.u Obj.keeperEligible = 1 →
     s.listenUntil t0 ≤ s.clk.sfn →
     ∃ t, exec .listenEnd s = .next t ∧ t.grp.keeper = s.address ∧ t.u Obj.keeperRole = 1 ∧ t.u Obj.groupBusState = 2 ∧
       t.grp.listening = none ∧ t.grp.base = none) ∧
  -- DEPUTY_TAKEOVER after 50 empty cycles makes the deputy Keeper.
  (∀ s : State, s.isDeputy = true → s.grp.beaconAt + fiftyCycles ≤ s.clk.sfn →
     ∃ t, exec .deputyTakeover s = .next t ∧ t.grp.keeper = s.address ∧ t.u Obj.keeperRole = 1 ∧ t.grp.base = s.grp.base) ∧
  -- HANDOVER at its cycle makes the named member Keeper.
  (∀ (n k : Nat) (s : State), s.grp.handover = some (n, k) → (s.cycle + 65536 - n) % 65536 < 32768 →
     (k = s.slotNo → s.isMember = true) →
     ∃ t, exec .handover s = .next t ∧ t.grp.handover = none ∧
       t.grp.keeper = (if k = s.slotNo then s.address else s.groupAddress k) ∧
       (k = s.slotNo → t.u Obj.keeperRole = 1)) ∧
  -- GROUP_LEAVE sends three Leave frames, and a Keeper hands over.
  (∀ (w : Requester) (v : BitVec 8) (v' : Val) (s s' : State), Admitted s s' w 2 Obj.groupLeave 0 (.num v.toNat) v' →
     Accepts (.groupLeave w v) s w 2 Obj.groupLeave 0 (fun t => t.grp.leaving = (if s'.grp.silent = true then 0 else 3) ∧
       (s'.isKeeper = true → s'.lowest [s'.address] ≠ 0xFFFF →
         t.grp.handover = some ((s'.cycle + 1) % 65536, s'.lowest [s'.address] % 32)))) ∧
  -- DUPLICATE_JOIN_RETRY sends Join again each second.
  (∀ s : State, s.u Obj.groupBusState = 3 → s.grp.dupAt + sfPerSecond ≤ s.clk.sfn →
     exec .duplicateJoinRetry s = .next (s.setGrp (fun g => { g with joinDue := true, dupAt := s.clk.sfn }))) ∧
  -- KEEPER_DECISION of a disputed link orders an avenue.
  (∀ (k : Fin 32) (s : State), s.isMember = true → bit (s.member k).flags 2 = true →
     s.linkKeeper (s.groupAddress k) (s.member k).peer = s.address → (s.member k).disputed s.clk.sfn = true →
     s.grp.orders.any (fun o => ofBe (slice o.octets 2 2) == s.groupAddress k &&
       ofBe (slice o.octets 7 1) == (chooseAvenue (s.member k).own (s.member k).far).inst) = false →
     ∃ t, exec (.keeperDecision k) s = .next t ∧ ∃ o ∈ t.grp.orders,
       o.octets = be 2 s.address ++ be 2 (s.groupAddress k) ++ be 2 (s.member k).peer ++
         be 1 (((assocGet s.grp.seqs (s.groupAddress k)).getD 0 + 1) % 256) ++
         be 1 (chooseAvenue (s.member k).own (s.member k).far).inst)

/-- Cells at V8, view records and the reorder window: where its commands complete and what they leave. -/
def Obligations.CellsAtV8 : Prop :=
  -- CELL_ARRIVAL of a waiting number is discarded and counted.
  (∀ (c : Carrier) (x : Fin 64) (seq : BitVec 32) (s : State), (s.c8 x).buffer.any (fun k => k.seq == seq.toNat) = true →
     ahead seq.toNat (((s.c8 x).due).getD seq.toNat) < 2 ^ 31 →
     exec (.cellArrival c x seq) s =
       .next ((s.add64 Obj.duplicateDiscards x 1).occur 0xA080 { cls := some (s.clsOf x) })) ∧
  -- So is one released before.
  (∀ (c : Carrier) (x : Fin 64) (seq : BitVec 32) (d : Nat) (s : State), (s.c8 x).due = some d →
     2 ^ 31 ≤ ahead seq.toNat d → (s.c8 x).lost.contains seq.toNat = false →
     exec (.cellArrival c x seq) s =
       .next ((s.add64 Obj.duplicateDiscards x 1).occur 0xA080 { cls := some (s.clsOf x) })) ∧
  -- One declared lost before counts as late.
  (∀ (c : Carrier) (x : Fin 64) (seq : BitVec 32) (d : Nat) (s : State), (s.c8 x).due = some d →
     2 ^ 31 ≤ ahead seq.toNat d → (s.c8 x).lost.contains seq.toNat = true →
     exec (.cellArrival c x seq) s = .next (s.add64 Obj.lateCopyCount x 1)) ∧
  -- One ahead waits.
  (∀ (c : Carrier) (x : Fin 64) (seq : BitVec 32) (s : State), (s.c8 x).buffer.any (fun k => k.seq == seq.toNat) = false →
     ahead seq.toNat (((s.c8 x).due).getD seq.toNat) < 2 ^ 31 → s.u Obj.twinRelease ≠ 0 → x.val < s.av.clients.length →
     ∃ t, exec (.cellArrival c x seq) s = .next t ∧ (t.c8 x).due = some (((s.c8 x).due).getD seq.toNat) ∧
       (t.c8 x).buffer = (s.c8 x).buffer ++ [{ seq := seq.toNat, c := c, at_ := s.now }]) ∧
  -- One due leaves at once.
  (∀ (c : Carrier) (x : Fin 64) (seq : BitVec 32) (s : State), (s.c8 x).buffer.any (fun k => k.seq == seq.toNat) = false →
     ((s.c8 x).due).getD seq.toNat = seq.toNat → s.u Obj.twinRelease = 0 → x.val < s.av.clients.length →
     ∃ t, exec (.cellArrival c x seq) s = .next t ∧ .egress x (.cell seq.toNat) ∈ t.out) ∧
  -- CELL_LOST after the reorder window sends error blocks in its place.
  (∀ (x : Fin 64) (d : Nat) (s : State), (s.c8 x).due = some d → (s.c8 x).buffer.any (fun z => z.seq == d) = false →
     (s.c8 x).buffer.any (fun z => decide (z.at_ + s.u Obj.reorderWindow * 100000000 ≤ s.now)) = true →
     x.val < s.av.clients.length →
     ∃ t, exec (.cellLost x) s = .next t ∧ .egress x .errorBlocks ∈ t.out ∧
       (s.u Obj.twinRelease = 1 → (t.c8 x).due = some ((d + 1) % 2 ^ 32) ∧ (t.c8 x).lostNow = (s.c8 x).lostNow + 1)) ∧
  -- ALIGNED_RELEASE sends the cell that is due.
  (∀ (x : Fin 64) (d : Nat) (k : Cell8) (s : State), s.u Obj.twinRelease = 1 → (s.c8 x).due = some d →
     (s.c8 x).buffer.find? (fun k => k.seq == d) = some k →
     ∃ t, exec (.alignedRelease x) s = .next t ∧ t = s.releaseCell x k ∧ .egress x (.cell d) ∈ t.out) ∧
  -- REORDER_WINDOW_SHORT logs A008h when the path difference outgrows the window.
  (∀ s : State, s.windowShort = true → s.av.short = false →
     ∃ t, exec .reorderWindowShort s = .next t ∧ t.av.short = true ∧
       Logged s t 0xA008 (i32 s.pathDiff ++ d16 (s.u Obj.reorderWindow) ++ d8 1)) ∧
  -- And again 1 s after it fits.
  (∀ (t0 : Nat) (s : State), s.windowShort = false → s.av.short = true → s.av.okFrom = some t0 →
     t0 + sfPerSecond ≤ s.clk.sfn →
     ∃ t, exec .reorderWindowShort s = .next t ∧ t.av.short = false ∧
       Logged s t 0xA008 (i32 s.pathDiff ++ d16 (s.u Obj.reorderWindow) ++ d8 0)) ∧
  -- VIEW_RECORD keeps the views when they change and every ten superframes.
  (∀ s : State, s.mode = 2 → (s.viewRecord.take 12 ≠ s.av.record.take 12 ∨ s.av.recordAt + 10 ≤ s.clk.sfn) →
     ∃ t, exec .viewRecord s = .next t ∧ t.av.record = s.viewRecord ∧ t.av.recordAt = s.clk.sfn ∧
       (s.unlocked = true → s.viewRecord.take 12 ≠ s.av.record.take 12 → t.av.footAt = s.clk.sfn))

/-- Modes, takeovers, orders and planned switches: where its commands complete and what they leave. -/
def Obligations.AvenuesSwitch : Prop :=
  -- TAKEOVER after SpareHoldOff moves traffic to a fit standby and logs A002h.
  (∀ (c : Carrier) (t0 : Nat) (s : State), s.carrying = some c → s.mode = 2 → s.av.cmd = 0 → s.faultSince c = some t0 →
     t0 + s.u Obj.spareHoldOff * 100000000000 ≤ s.now → s.standbyFault c.other = 0 →
     ∃ t, exec .takeover s = .next t ∧ t.u Obj.carryingAvenue = c.other.inst ∧ t.av.tookOver = true ∧
       t.av.takeSfn = s.nextRound.1 ∧ t.av.takeRound = s.nextRound.2 ∧ t.av.mute.get c = some s.clk.sfn ∧
       Logged s t 0xA002 (d8 c.other.inst ++ d8 0 ++ d64 s.nextRound.1 ++ d16 s.nextRound.2)) ∧
  -- With an unfit one it logs A004h.
  (∀ (c : Carrier) (t0 f : Nat) (s : State), s.carrying = some c → s.mode = 2 → s.av.cmd = 0 → s.faultSince c = some t0 →
     t0 + s.u Obj.spareHoldOff * 100000000000 ≤ s.now → s.standbyFault c.other = f → f ≠ 0 → s.av.blocked = false →
     ∃ t, exec .takeover s = .next t ∧ t.av.blocked = true ∧ Logged s t 0xA004 (d8 f)) ∧
  -- SWITCH_MUTE_END ends the mute once the far end has switched or after ten superframes.
  (∀ (c : Carrier) (t0 : Nat) (s : State), s.av.mute.get c = some t0 →
     (bits (s.farWord c.other 26) 31 30 = c.other.inst ∨ t0 + 10 ≤ s.clk.sfn) →
     ∃ t, exec (.switchMuteEnd c) s = .next t ∧ t.av.mute.get c = none) ∧
  -- KEEPER_ORDER for this link is applied once and logs A005h.
  (∀ (b : List Byte) (c : Carrier) (s : State), b.length = 8 → avenueOf (ofBe (slice b 7 1)) = some c → s.mode = 2 →
     (s.u Obj.deviceAddress = ofBe (slice b 2 2) ∨ s.u Obj.deviceAddress = ofBe (slice b 4 2)) →
     ofBe (slice b 6 1) ≠ s.av.lastSeq → s.av.cmd ≠ 1 →
     ∃ t, exec (.keeperOrder b) s = .next t ∧ t.u Obj.carryingAvenue = c.inst ∧ t.av.lastSeq = ofBe (slice b 6 1) ∧
       Logged s t 0xA005 (d8 (ofBe (slice b 6 1)) ++ d8 c.inst ++ d16 (ofBe (slice b 0 2))) ∧
       ∃ o, t.av.order = some o ∧ o.avenue = c ∧ o.keeper = ofBe (slice b 0 2)) ∧
  -- KEEPER_ORDER_REPEAT sends it on the footpath again.
  (∀ (o : Order) (s : State), s.av.order = some o → o.bus = true → s.unlocked = true →
     o.sentAt + (if o.sent = 0 then 0 else if o.sent < 3 then 10 else 100) ≤ s.clk.sfn →
     exec .keeperOrderRepeat s = .next ((s.setAv (fun a => { a with
       order := some { o with sent := o.sent + 1, sentAt := s.clk.sfn } })).footBoth 3 o.octets)) ∧
  -- KEEPER_UNREACHABLE logs A007h.
  (∀ s : State, s.keeperReachable = false → s.inDispute = true → s.av.unreach = false →
     ∃ t, exec .keeperUnreachable s = .next t ∧ t.av.unreach = true ∧
       Logged s t 0xA007 (d8 (s.u (on .a Obj.rxView)) ++ d8 (s.u (on .b Obj.rxView)) ++ d8 (s.u (on .a Obj.farView)) ++
         d8 (s.u (on .b Obj.farView)))) ∧
  -- AVENUE_MODE_WRITE proposes the mode for both carriers and directions.
  (∀ (w : Requester) (v n : Nat) (tg : Target) (s s' : State), Admitted s s' w 3 Obj.avenueMode 0 (.num v) (.num n) →
     (∀ z ∈ [s, s'], (z.avenueModeEffect w n tg).1.code = 0) →
     ∃ t, exec (.avenueModeWrite w v tg) s = .next t ∧ ∀ c d, ∃ e ∈ t.clk.entries, e.kind = .modeChange ∧
       e.carrier = some c ∧ e.dir = d ∧ e.data = [n, if n = 2 then s'.preferred.inst else 0] ∧ e.st = .proposed) ∧
  -- AVENUE_CLEAR ends order and command.
  (∀ (w : Requester) (sfn : BitVec 64) (b : List Byte) (s s' : State),
     Admitted s s' w 2 Obj.avenueCommand 0 (.octs (commandRow 0 sfn.toNat)) (.octs b) → ofBe (slice b 2 1) = 0 → s.mode = 2 →
     Accepts (.avenueClear w sfn) s w 2 Obj.avenueCommand 0 (fun t => t = s'.setAv (fun a => { a with order := none, cmd := 0 }))) ∧
  -- LOCKOUT stands.
  (∀ (w : Requester) (sfn : BitVec 64) (b : List Byte) (s s' : State),
     Admitted s s' w 2 Obj.avenueCommand 0 (.octs (commandRow 1 sfn.toNat)) (.octs b) → ofBe (slice b 2 1) = 1 → s.mode = 2 →
     Accepts (.lockout w sfn) s w 2 Obj.avenueCommand 0 (fun t => t = s'.setAv (fun a => { a with order := none, cmd := 1 }))) ∧
  -- FORCED_SWITCH proposes the switch with cause 1.
  (∀ (w : Requester) (c : Carrier) (sfn : BitVec 64) (b : List Byte) (s s' : State),
     Admitted s s' w 2 Obj.avenueCommand 0 (.octs (commandRow (1 + c.inst) sfn.toNat)) (.octs b) →
     ofBe (slice b 2 1) = 1 + c.inst → s.mode = 2 → (∀ z ∈ [s, s'], (z.avenueCommandEffect w b).1.code = 0) →
     ∃ t, exec (.forcedSwitch w c sfn) s = .next t ∧ t.av.order = none ∧ ∀ d, ∃ e ∈ t.clk.entries, e.kind = .plannedSwitch ∧
       e.carrier = some s.switchCarrier ∧ e.dir = d ∧ e.data = [c.inst, 1] ∧ e.st = .proposed) ∧
  -- MANUAL_SWITCH with cause 0.
  (∀ (w : Requester) (c : Carrier) (sfn : BitVec 64) (b : List Byte) (s s' : State),
     Admitted s s' w 2 Obj.avenueCommand 0 (.octs (commandRow (3 + c.inst) sfn.toNat)) (.octs b) →
     ofBe (slice b 2 1) = 3 + c.inst → s.mode = 2 → (∀ z ∈ [s, s'], (z.avenueCommandEffect w b).1.code = 0) →
     ∃ t, exec (.manualSwitch w c sfn) s = .next t ∧ t.av.order = none ∧ ∀ d, ∃ e ∈ t.clk.entries, e.kind = .plannedSwitch ∧
       e.carrier = some s.switchCarrier ∧ e.dir = d ∧ e.data = [c.inst, 0] ∧ e.st = .proposed) ∧
  -- EXERCISE proposes a switch and the way back, cause 4.
  (∀ (w : Requester) (sfn : BitVec 64) (b : List Byte) (c : Carrier) (s s' : State),
     Admitted s s' w 2 Obj.avenueCommand 0 (.octs (commandRow 6 sfn.toNat)) (.octs b) → ofBe (slice b 2 1) = 6 → s.mode = 2 →
     s.carrying = some c → (∀ z ∈ [s, s'], (z.avenueCommandEffect w b).1.code = 0) →
     ∃ t, exec (.exercise w sfn) s = .next t ∧ ∀ d, (∃ e ∈ t.clk.entries, e.kind = .plannedSwitch ∧ e.dir = d ∧
         e.data = [c.other.inst, 4]) ∧ ∃ e ∈ t.clk.entries, e.kind = .plannedSwitch ∧ e.dir = d ∧ e.data = [c.inst, 4]) ∧
  -- DEGRADE_SWITCH after 100 superframes proposes one with cause 3.
  (∀ (c : Carrier) (t0 : Nat) (s : State), s.carrying = some c → s.av.degraded = some t0 → s.mayArm = true →
     t0 + 100 ≤ s.clk.sfn → s.viewsGood c.other = true →
     (s.proposeEngine s.switchCarrier { Entry.base .plannedSwitch (s.leadSfn s.switchCarrier) with
       data := [c.other.inst, 3], dir := .tx } (fun _ => switchBody c.other.inst 3)).1.isSome = true →
     ∃ t, exec .degradeSwitch s = .next t ∧ ∃ e ∈ t.clk.entries, e.kind = .plannedSwitch ∧ e.dir = .tx ∧
       e.data = [c.other.inst, 3] ∧ e.st = .proposed) ∧
  -- REVERT after SpareWaitToRestore proposes the way back, cause 2.
  (∀ (t0 : Nat) (s : State), s.av.goodFrom = some t0 → s.mayArm = true → s.u Obj.spareRevert = 1 →
     s.u Obj.carryingAvenue ≠ s.preferred.inst → t0 + s.u Obj.spareWaitToRestore * sfPerSecond ≤ s.clk.sfn →
     (s.proposeEngine s.switchCarrier { Entry.base .plannedSwitch (s.leadSfn s.switchCarrier) with
       data := [s.preferred.inst, 2], dir := .tx } (fun _ => switchBody s.preferred.inst 2)).1.isSome = true →
     ∃ t, exec .revert s = .next t ∧ ∃ e ∈ t.clk.entries, e.kind = .plannedSwitch ∧ e.dir = .tx ∧
       e.data = [s.preferred.inst, 2] ∧ e.st = .proposed)

/-- Domain messages, claims and registration of rolls: where its commands complete and what they leave. -/
def Obligations.RollsRegister : Prop :=
  -- ANNOUNCE_TIMER sends an Announce each second.
  (∀ s : State, s.inDomain = true → s.roleBit 0 = true → s.dmn.announceAt + sfPerSecond ≤ s.clk.sfn →
     ∃ t, exec .announceTimer s = .next t ∧ t.dmn.announceAt = s.clk.sfn ∧ t.dmn.txSeq = (s.dmn.txSeq + 1) % 2 ^ 32 ∧
       .domain none (domainMessage s 1 0 (be 1 s.ownRoles ++ be 1 (s.u Obj.timeQuality) ++ be 2 0 ++ be 4 s.validMask)) ∈ t.out) ∧
  -- ANNOUNCE of a lower address gives site lead and registrar.
  (∀ (b body : List Byte) (status a seq : Nat) (s : State), readDomain 1 8 b = some (status, a, seq, body) →
     a ≠ s.address →
     ∃ t, exec (.announce b) s = .next t ∧ { addr := a, roles := ofBe (slice body 0 1), valid := ofBe (slice body 4 4)
                                             heard := s.clk.sfn } ∈ t.dmn.claims ∧
       (siteOf a = siteOf s.address → bit (ofBe (slice body 0 1)) 1 = true → a < s.address →
         t.u Obj.siteLeadAddress = a) ∧
       (bit (ofBe (slice body 0 1)) 2 = true → a < s.address → t.u Obj.registrarAddress = a)) ∧
  -- SETTLE_END of a quiet site makes this Keeper its lead.
  (∀ s : State, s.inDomain = true → s.roleBit 0 = true → s.roleBit 1 = false →
     s.dmn.leadQuiet + sfOfMs (s.u Obj.settleTime) ≤ s.clk.sfn →
     ∃ t, exec (.settleEnd false) s = .next t ∧ t.u Obj.domainRole = setBit (s.u Obj.domainRole) 1 true ∧
       t.u Obj.siteLeadAddress = s.address ∧ t.dmn.settled = some s.clk.sfn ∧
       ∃ r ∈ t.dmn.groupRolls, r.keeper = s.address ∧ r.valid = s.validMask) ∧
  -- And of a quiet domain its registrar.
  (∀ s : State, s.inDomain = true → s.roleBit 0 = true → s.roleBit 1 = true → s.roleBit 2 = false →
     s.dmn.regQuiet + sfOfMs (s.u Obj.settleTime) ≤ s.clk.sfn →
     ∃ t, exec (.settleEnd true) s = .next t ∧ t.u Obj.domainRole = setBit (s.u Obj.domainRole) 2 true ∧
       t.u Obj.registrarAddress = s.address) ∧
  -- ROLL_BACKOFF_END sends the group's roll to the lead.
  (∀ (t0 : Nat) (s : State), s.inDomain = true → s.roleBit 0 = true → s.roleBit 1 = false → s.regDest false ≠ 0xFFFF →
     (s.reg false).dueAt = some t0 → t0 ≤ s.clk.sfn →
     ∃ t, exec (.rollBackoffEnd false) s = .next t ∧ t.dmn.sentRoll = some s.ownRoll ∧
       t.dmn.group = { s.dmn.group with attempt := s.dmn.group.attempt + 1, dueAt := none, seq := s.dmn.txSeq
                                        ackBy := some (s.clk.sfn + sfOfMs (s.u Obj.ackTimeout)) } ∧
       .domain (some (s.regDest false)) (domainMessage s 2 0 (be 2 s.ownRoll.keeper ++ be 2 s.ownRoll.deputy ++
         be 4 s.ownRoll.valid ++ s.ownRoll.serials)) ∈ t.out) ∧
  -- Or the site's to the registrar.
  (∀ (t0 : Nat) (s : State), s.inDomain = true → s.roleBit 0 = true → s.roleBit 1 = true → s.regDest true ≠ 0xFFFF →
     s.regDest true ≠ s.address → (s.reg true).dueAt = some t0 → t0 ≤ s.clk.sfn →
     ∃ t, exec (.rollBackoffEnd true) s = .next t ∧
       t.dmn.site = { s.dmn.site with attempt := s.dmn.site.attempt + 1, dueAt := none, seq := s.dmn.txSeq
                                      ackBy := some (s.clk.sfn + sfOfMs (s.u Obj.ackTimeout)) } ∧
       .domain (some (s.regDest true)) (domainMessage s 3 0 s.siteBody) ∈ t.out) ∧
  -- GROUP_ROLL at an engine that is no lead is answered with status 1.
  (∀ (b body : List Byte) (status a seq : Nat) (s : State), readDomain 2 520 b = some (status, a, seq, body) →
     (s.roleBit 1 = false ∨ siteOf a ≠ siteOf s.address) →
     exec (.groupRoll b) s = .next (s.sendDomain 4 1 (some a) (be 4 seq))) ∧
  -- At the lead it is registered.
  (∀ (b body : List Byte) (status a seq : Nat) (s : State), readDomain 2 520 b = some (status, a, seq, body) →
     s.roleBit 1 = true → siteOf a = siteOf s.address →
     (∀ x ∈ s.dmn.groupRolls, x.group = groupOf a → x.keeper = ofBe (slice body 0 2)) →
     ∃ t, exec (.groupRoll b) s = .next t ∧ .domain (some a) (domainMessage s 4 0 (be 4 seq)) ∈ t.out ∧
       { group := groupOf a, keeper := ofBe (slice body 0 2), deputy := ofBe (slice body 2 2)
         valid := ofBe (slice body 4 4), serials := slice body 8 512 } ∈ t.dmn.groupRolls) ∧
  -- Unless another Keeper holds the group, status 2.
  (∀ (b body : List Byte) (status a seq : Nat) (x : Roll) (s : State),
     readDomain 2 520 b = some (status, a, seq, body) → s.roleBit 1 = true → siteOf a = siteOf s.address →
     s.dmn.groupRolls.find? (fun x => x.group == groupOf a) = some x → x.keeper ≠ ofBe (slice body 0 2) →
     exec (.groupRoll b) s = .next (s.sendDomain 4 2 (some a) (be 4 seq))) ∧
  -- SITE_ROLL at the registrar is registered.
  (∀ (b body : List Byte) (status a seq : Nat) (s : State), readDomain 3 8324 b = some (status, a, seq, body) →
     s.roleBit 2 = true →
     (∀ r ∈ rollsOf (ofBe (slice body 0 1) % 16) (ofBe (slice body 2 2)) body, ∀ x ∈ s.dmn.siteRolls, x.group = r.group →
       x.keeper = r.keeper) →
     ∃ t z, exec (.siteRoll b) s = .next t ∧ z.address = s.address ∧
       .domain (some a) (domainMessage z 4 0 (be 4 seq)) ∈ t.out ∧
       ∀ r ∈ rollsOf (ofBe (slice body 0 1) % 16) (ofBe (slice body 2 2)) body, r ∈ t.dmn.siteRolls) ∧
  -- At any other engine it is answered with status 1.
  (∀ (b body : List Byte) (status a seq : Nat) (s : State), readDomain 3 8324 b = some (status, a, seq, body) →
     s.roleBit 2 = false → exec (.siteRoll b) s = .next (s.sendDomain 4 1 (some a) (be 4 seq))) ∧
  -- ACK with status 0 ends the registration.
  (∀ (b body : List Byte) (a seq t0 : Nat) (site : Bool) (s y : State), readDomain 4 4 b = some (0, a, seq, body) →
     (site = false → s.dmn.site.ackBy = none) → (s.reg site).ackBy = some t0 →
     (s.reg site).seq = ofBe (slice body 0 4) → s.regDest site = a →
     y = s.setReg site (fun g => { g with ackBy := none, attempt := 0, retryAt := none, done := true }) →
     exec (.ack b) s = .next (if site then y else y.setRole 3 false)) ∧
  -- With status 1 the address is forgotten.
  (∀ (b body : List Byte) (a seq t0 : Nat) (site : Bool) (s : State), readDomain 4 4 b = some (1, a, seq, body) →
     (site = false → s.dmn.site.ackBy = none) → (s.reg site).ackBy = some t0 →
     (s.reg site).seq = ofBe (slice body 0 4) → s.regDest site = a →
     ∃ t, exec (.ack b) s = .next t ∧
       t.u (if site = true then Obj.registrarAddress else Obj.siteLeadAddress) = 0xFFFF ∧ (t.reg site).ackBy = none ∧
       (t.reg site).done = (s.reg site).done) ∧
  -- With status 2 the group is a duplicate and logs 1013h.
  (∀ (b body : List Byte) (a seq t0 : Nat) (site : Bool) (s : State), readDomain 4 4 b = some (2, a, seq, body) →
     (site = false → s.dmn.site.ackBy = none) → (s.reg site).ackBy = some t0 →
     (s.reg site).seq = ofBe (slice body 0 4) → s.regDest site = a →
     ∃ t k, exec (.ack b) s = .next t ∧ t.u Obj.domainRole = setBit (s.u Obj.domainRole) 3 true ∧
       (t.reg site).ackBy = none ∧ (t.reg site).retryAt = some (s.clk.sfn + 600000) ∧
       Logged s t 0x1013 (d8 (groupOf s.address) ++ d16 k)) ∧
  -- ACK_TIMEOUT waits a random time within a doubled back-off and sends again.
  (∀ (site : Bool) (t0 : Nat) (s : State), (s.reg site).ackBy = some t0 → t0 ≤ s.clk.sfn →
     (s.reg site).attempt < s.u Obj.rollAttempts →
     ∃ t n, exec (.ackTimeout site) s = .next t ∧ n ≤ s.backoff site * 2 ^ (s.reg site).attempt ∧
       t.reg site = { s.reg site with ackBy := none, dueAt := some (s.clk.sfn + n) }) ∧
  -- After RollAttempts it logs 100Eh and waits a minute.
  (∀ (site : Bool) (t0 : Nat) (s : State), (s.reg site).ackBy = some t0 → t0 ≤ s.clk.sfn →
     s.u Obj.rollAttempts ≤ (s.reg site).attempt →
     ∃ t, exec (.ackTimeout site) s = .next t ∧ (t.reg site).ackBy = none ∧
       (t.reg site).retryAt = some (s.clk.sfn + 600000) ∧
       Logged s t 0x100E (d8 (if site = true then 3 else 2) ++ d16 (s.regDest site))) ∧
  -- REGISTRATION_RETRY then begins again.
  (∀ (site : Bool) (t0 : Nat) (s : State), (s.reg site).retryAt = some t0 → t0 ≤ s.clk.sfn →
     ∃ t n, exec (.registrationRetry site) s = .next t ∧ n ≤ s.backoff site ∧
       t.reg site = { s.reg site with retryAt := none, dueAt := some (s.clk.sfn + n) })

/-- The domain roll, carriers without traffic and neighbour discovery: where its commands complete and what they
leave. -/
def Obligations.DomainWatches : Prop :=
  -- DOMAIN_ROLL shows the masks of all groups.
  (∀ (b body : List Byte) (status a seq : Nat) (g : Fin 256) (s : State),
     readDomain 5 1028 b = some (status, a, seq, body) →
     ∃ t, exec (.domainRoll b) s = .next t ∧ t.u Obj.domainRollMasks g = ofBe (slice body (4 + 4 * g) 4)) ∧
  -- DOMAIN_ROLL_TIMER sends it every ten seconds.
  (∀ s : State, s.roleBit 2 = true → s.dmn.complete = true → s.dmn.rollAt + 100000 ≤ s.clk.sfn →
     ∃ t body, exec .domainRollTimer s = .next t ∧ t.dmn.rollAt = s.clk.sfn ∧
       .domain none (domainMessage s 5 0 body) ∈ t.out) ∧
  -- ROLL_INCOMPLETE after 45 s logs 100Dh.
  (∀ s : State, s.roleBit 2 = true → s.dmn.complete = false → s.dmn.late = false → s.dmn.powerAt + 450000 ≤ s.clk.sfn →
     ∃ t, exec .rollIncomplete s = .next t ∧ t.dmn.late = true ∧
       Logged s t 0x100D ((s.missing.map groupOf).flatMap d8)) ∧
  -- CARRIER_WITHOUT_TRAFFIC after 60 s logs 100Fh.
  (∀ (c : Carrier) (s : State), s.dmn.noTraffic.get c = false → s.dmn.powerAt + 600000 ≤ s.clk.sfn →
     (List.range 64).any (fun x => s.configured c x) = true → (s.fr c).txMap.carried = 0 →
     ∃ t, exec (.carrierWithoutTraffic c) s = .next t ∧ t.dmn.noTraffic.get c = true ∧
       Logged s t 0x100F (d8 c.inst ++ d8 (s.trafficStage c))) ∧
  -- NEIGHBOUR_DISCOVERY answers a solicitation of an own address.
  (∀ (p : Fin 2) (addr src : BitVec 128) (a : MgAddr) (s : State),
     s.aop.mgAddrs.find? (fun a => a.port == p.val && a.addr == addr.toNat) = some a → a.tentative = false →
     a.duplicate = false →
     exec (.neighbourDiscovery p (.solicit addr src)) s = .next (s.emit (.neighbour p true addr.toNat))) ∧
  -- Finds a duplicate of a tentative one.
  (∀ (p : Fin 2) (addr src : BitVec 128) (a : MgAddr) (s : State),
     s.aop.mgAddrs.find? (fun a => a.port == p.val && a.addr == addr.toNat) = some a → a.tentative = true → src = 0 →
     ∃ t, exec (.neighbourDiscovery p (.solicit addr src)) s = .next t ∧
       ∃ x ∈ t.aop.mgAddrs, x.port = p.val ∧ x.addr = addr.toNat ∧ x.duplicate = true) ∧
  -- Learns a neighbour.
  (∀ (p : Fin 2) (addr : BitVec 128) (link : BitVec 48) (s : State),
     s.aop.mgAddrs.find? (fun a => a.port == p.val && a.addr == addr.toNat) = none →
     ∃ t, exec (.neighbourDiscovery p (.advert addr link)) s = .next t ∧
       t.aop.neighbours = assocSet s.aop.neighbours addr.toNat link.toNat) ∧
  -- And assigns an address that none contested.
  (∀ (p : Fin 2) (addr : BitVec 128) (a : MgAddr) (s : State), a ∈ s.aop.mgAddrs → a.port = p.val → a.addr = addr.toNat →
     ∃ t, exec (.neighbourDiscovery p (.timer addr)) s = .next t ∧ { a with tentative := false } ∈ t.aop.mgAddrs)

end
end

