-- ==== Sys2Proof/Laws/Memory.lean ====
section
/-! SUPPORT. The laws of the SRAM's contents: every write keeps the canonical form and the bounds, a read after a
write gives what was written, and every other octet reads as before. -/

namespace Sys2Proof.Machine

/-- A list that is well formed above a bound is well formed above any lower one. -/
theorem sramWfFrom_lower {lo lo' : Option Nat} {m : List (Nat × Byte)} (h : sramWfFrom lo m = true)
    (hl : ∀ b, lo' = some b → ∃ c, lo = some c ∧ b ≤ c) : sramWfFrom lo' m = true := by
  cases m with
  | nil => rfl
  | cons p l =>
    obtain ⟨a, v⟩ := p
    simp only [sramWfFrom, Bool.and_eq_true] at h ⊢
    refine ⟨⟨?_, h.1.2⟩, h.2⟩
    cases lo' with
    | none => rfl
    | some b =>
      obtain ⟨c, rfl, hc⟩ := hl b rfl
      simp only [decide_eq_true_eq] at h ⊢
      omega

/-- Every address of a list that is well formed above a bound lies above it. -/
theorem sramWfFrom_above {b : Nat} {m : List (Nat × Byte)} (h : sramWfFrom (some b) m = true) :
    ∀ p ∈ m, b < p.1 := by
  induction m generalizing b with
  | nil => intro p hp; cases hp
  | cons q l ih =>
    obtain ⟨a, v⟩ := q
    simp only [sramWfFrom, Bool.and_eq_true, decide_eq_true_eq] at h
    intro p hp
    rcases List.mem_cons.mp hp with rfl | hp
    · exact h.1.1
    · exact Nat.lt_trans h.1.1 (ih h.2 p hp)

theorem sramWrite_wfFrom {lo : Option Nat} {m : List (Nat × Byte)} {a : Nat} (v : Byte) (h : sramWfFrom lo m = true)
    (ha : ∀ b, lo = some b → b < a) : sramWfFrom lo (sramWrite m a v) = true := by
  induction m generalizing lo with
  | nil =>
    unfold sramWrite
    split
    · rfl
    · rename_i hv
      simp only [sramWfFrom, Bool.and_eq_true, bne_iff_ne, ne_eq, and_true]
      refine ⟨?_, hv⟩
      cases lo with
      | none => rfl
      | some b => simpa using ha b rfl
  | cons q l ih =>
    obtain ⟨b, w⟩ := q
    have hb := h
    simp only [sramWfFrom, Bool.and_eq_true] at hb
    unfold sramWrite
    split
    · split
      · exact h
      · rename_i hlt hv
        simp only [sramWfFrom, Bool.and_eq_true, bne_iff_ne, ne_eq, decide_eq_true_eq]
        refine ⟨⟨?_, hv⟩, ⟨hlt, by simpa using hb.1.2⟩, hb.2⟩
        cases lo with
        | none => rfl
        | some c => simpa using ha c rfl
    · split
      · rename_i hn he
        subst he
        split
        · exact sramWfFrom_lower hb.2 (fun c hc => ⟨a, rfl, Nat.le_of_lt (ha c hc)⟩)
        · rename_i hv
          simp only [sramWfFrom, Bool.and_eq_true, bne_iff_ne, ne_eq]
          exact ⟨⟨hb.1.1, hv⟩, hb.2⟩
      · rename_i hn hne
        simp only [sramWfFrom, Bool.and_eq_true]
        exact ⟨hb.1, ih hb.2 (fun c hc => by cases hc; omega)⟩

/-- Writing one octet keeps the canonical form. -/
theorem sramWrite_wf {m : List (Nat × Byte)} (a : Nat) (v : Byte) (h : Memory.wf m = true) :
    Memory.wf (sramWrite m a v) = true :=
  sramWrite_wfFrom v h (fun b hb => by cases hb)

/-- Writing one octet lists no other address. -/
theorem sramWrite_mem {m : List (Nat × Byte)} {a : Nat} {v : Byte} {p : Nat × Byte} (h : p ∈ sramWrite m a v) :
    p.1 = a ∨ p ∈ m := by
  induction m with
  | nil =>
    unfold sramWrite at h
    split at h
    · cases h
    · simp at h; exact .inl (by rw [h])
  | cons q l ih =>
    obtain ⟨b, w⟩ := q
    unfold sramWrite at h
    split at h
    · split at h
      · exact .inr h
      · rcases List.mem_cons.mp h with rfl | h
        · exact .inl rfl
        · exact .inr h
    · split at h
      · split at h
        · exact .inr (List.mem_cons_of_mem _ h)
        · rcases List.mem_cons.mp h with rfl | h
          · exact .inl rfl
          · exact .inr (List.mem_cons_of_mem _ h)
      · rcases List.mem_cons.mp h with rfl | h
        · exact .inr (List.mem_cons_self ..)
        · rcases ih h with h | h
          · exact .inl h
          · exact .inr (List.mem_cons_of_mem _ h)

/-- Writing octets keeps the canonical form. -/
theorem sramWriteN_wf {m : List (Nat × Byte)} (a : Nat) (b : List Byte) (h : Memory.wf m = true) :
    Memory.wf (sramWriteN m a b) = true := by
  induction b generalizing m a with
  | nil => exact h
  | cons v l ih => exact ih _ (sramWrite_wf a v h)

/-- Writing octets lists no address outside them. -/
theorem sramWriteN_mem {m : List (Nat × Byte)} {a : Nat} {b : List Byte} {p : Nat × Byte}
    (h : p ∈ sramWriteN m a b) : (a ≤ p.1 ∧ p.1 < a + b.length) ∨ p ∈ m := by
  induction b generalizing m a with
  | nil => exact .inr h
  | cons v l ih =>
    simp only [sramWriteN] at h
    rcases ih h with h | h
    · exact .inl ⟨by omega, by simp only [List.length_cons]; omega⟩
    · rcases sramWrite_mem h with h | h
      · exact .inl ⟨by omega, by simp only [List.length_cons]; omega⟩
      · exact .inr h

theorem sramWfFrom_filter {lo : Option Nat} {m : List (Nat × Byte)} (f : Nat × Byte → Bool)
    (h : sramWfFrom lo m = true) : sramWfFrom lo (m.filter f) = true := by
  induction m generalizing lo with
  | nil => rfl
  | cons q l ih =>
    obtain ⟨a, v⟩ := q
    have hb := h
    simp only [sramWfFrom, Bool.and_eq_true] at hb
    rw [List.filter_cons]
    split
    · simp only [sramWfFrom, Bool.and_eq_true]
      exact ⟨hb.1, ih hb.2⟩
    · refine sramWfFrom_lower (ih hb.2) (fun b hb' => ⟨a, rfl, ?_⟩)
      subst hb'
      have := hb.1.1
      simp only [decide_eq_true_eq] at this
      omega

/-- Losing octets keeps the canonical form. -/
theorem sram_filter_wf {m : List (Nat × Byte)} (f : Nat × Byte → Bool) (h : Memory.wf m = true) :
    Memory.wf (m.filter f) = true :=
  sramWfFrom_filter f h

/-- An empty bank range keeps the canonical form. -/
theorem sramClear_wf {m : List (Nat × Byte)} (lo hi : Nat) (h : Memory.wf m = true) :
    Memory.wf (sramClear m lo hi) = true :=
  sram_filter_wf _ h

/-- An entry of another address does not matter. -/
theorem sramRead_cons_ne {p : Nat × Byte} {l : List (Nat × Byte)} {b : Nat} (h : p.1 ≠ b) :
    sramRead (p :: l) b = sramRead l b := by
  simp [sramRead, assocGet, Ne.symm h]

/-- An address that is not listed reads as zero. -/
theorem sramRead_unlisted {m : List (Nat × Byte)} {b : Nat} (h : ∀ p ∈ m, p.1 ≠ b) : sramRead m b = 0 := by
  induction m with
  | nil => rfl
  | cons p l ih =>
    rw [sramRead_cons_ne (h p (List.mem_cons_self ..))]
    exact ih (fun q hq => h q (List.mem_cons_of_mem _ hq))

/-- An octet reads as it was written. -/
theorem sramRead_sramWrite_same {m : List (Nat × Byte)} (a : Nat) (v : Byte) (h : Memory.wf m = true) :
    sramRead (sramWrite m a v) a = v := by
  have key : ∀ (m : List (Nat × Byte)) (lo : Option Nat), sramWfFrom lo m = true → sramRead (sramWrite m a v) a = v := by
    intro m
    induction m with
    | nil =>
      intro lo _
      unfold sramWrite
      split <;> simp_all [sramRead, assocGet]
    | cons q l ih =>
      intro lo hw
      obtain ⟨b, w⟩ := q
      simp only [sramWfFrom, Bool.and_eq_true] at hw
      unfold sramWrite
      split
      · rename_i hlt
        split
        · rename_i hv
          subst hv
          refine sramRead_unlisted ?_
          intro p hp
          rcases List.mem_cons.mp hp with rfl | hp
          · exact Nat.ne_of_gt hlt
          · exact Nat.ne_of_gt (Nat.lt_trans hlt (sramWfFrom_above hw.2 p hp))
        · simp [sramRead, assocGet]
      · split
        · rename_i hn he
          subst he
          split
          · rename_i hv
            subst hv
            exact sramRead_unlisted (fun p hp => Nat.ne_of_gt (sramWfFrom_above hw.2 p hp))
          · simp [sramRead, assocGet]
        · rename_i hn hne
          rw [sramRead_cons_ne (fun h => hne h.symm)]
          exact ih _ hw.2
  exact key m none h

/-- Every other octet reads as before. -/
theorem sramRead_sramWrite_other {m : List (Nat × Byte)} {a b : Nat} (v : Byte) (h : b ≠ a) :
    sramRead (sramWrite m a v) b = sramRead m b := by
  induction m with
  | nil =>
    unfold sramWrite
    split
    · rfl
    · exact sramRead_cons_ne (fun e => h e.symm)
  | cons q l ih =>
    obtain ⟨c, w⟩ := q
    unfold sramWrite
    split
    · split
      · rfl
      · exact sramRead_cons_ne (fun e => h e.symm)
    · split
      · rename_i he
        subst he
        rw [sramRead_cons_ne (l := l) (fun e => h e.symm)]
        split
        · rfl
        · exact sramRead_cons_ne (fun e => h e.symm)
      · by_cases hc : c = b
        · subst hc
          simp [sramRead, assocGet]
        · rw [sramRead_cons_ne hc, sramRead_cons_ne hc, ih]

/-- Octets outside those written read as before. -/
theorem sramRead_sramWriteN_other {m : List (Nat × Byte)} {a b : Nat} {l : List Byte}
    (h : b < a ∨ a + l.length ≤ b) : sramRead (sramWriteN m a l) b = sramRead m b := by
  induction l generalizing m a with
  | nil => rfl
  | cons v l ih =>
    simp only [List.length_cons] at h
    simp only [sramWriteN]
    rw [ih (by omega), sramRead_sramWrite_other v (by omega)]

end Sys2Proof.Machine
end

