-- ==== Sys2Proof/Laws/Keep.lean ====
section
/-! SUPPORT. What an operation of the model keeps, said once: the queue, the canonical form and bounds of the SRAM's
contents, the free values read so far, what has left the engine, and every part of the state that the operation does
not name. -/

namespace Sys2Proof.Machine

/-- `Keep M s t`: from `s` to `t` the queue is untouched, the SRAM stays well formed, no free value is read twice,
nothing that left the engine is taken back, and every part of the state outside `M` is as it was. `M` is a set of
parts written as a number: bit `k` stands for the `k`-th constructor of `Zone`, bit 26 for the event records that wait
for the log region, which are else only added to, and bit 27 for an SFN that may fall. -/
structure Keep (M : Nat) (s t : State) : Prop where
  pending : t.pending = s.pending
  memory  : s.memoryOk → t.memoryOk
  free    : s.free ≤ t.free
  out     : s.out <:+ t.out
  nextSeq : s.diag.nextSeq ≤ t.diag.nextSeq
  events  : s.eventsOk → t.eventsOk
  sram    : Nat.land M 8388608 = 0 → t.mem.sram = s.mem.sram
  sfn     : Nat.land M 16777216 = 0 → t.clk.sfn = s.clk.sfn
  supply  : Nat.land M 33554432 = 0 → t.supply = s.supply
  waits   : Nat.land M 67108864 = 0 → s.diag.waiting <+: t.diag.waiting
  later   : Nat.land M 134217728 = 0 → s.clk.sfn ≤ t.clk.sfn
  live : Nat.land M 1 = 0 → t.live = s.live
  user : Nat.land M 2 = 0 → t.user = s.user
  clk : Nat.land M 4 = 0 → t.clk = s.clk
  diag : Nat.land M 8 = 0 → t.diag = s.diag
  pow : Nat.land M 16 = 0 → t.pow = s.pow
  mem : Nat.land M 32 = 0 → t.mem = s.mem
  aop : Nat.land M 64 = 0 → t.aop = s.aop
  frame : Nat.land M 128 = 0 → t.frame = s.frame
  conv : Nat.land M 256 = 0 → t.conv = s.conv
  cal : Nat.land M 512 = 0 → t.cal = s.cal
  eq : Nat.land M 1024 = 0 → t.eq = s.eq
  load : Nat.land M 2048 = 0 → t.load = s.load
  pool : Nat.land M 4096 = 0 → t.pool = s.pool
  lanes : Nat.land M 8192 = 0 → t.lanes = s.lanes
  ciph : Nat.land M 16384 = 0 → t.ciph = s.ciph
  grot : Nat.land M 32768 = 0 → t.grot = s.grot
  bel : Nat.land M 65536 = 0 → t.bel = s.bel
  foot : Nat.land M 131072 = 0 → t.foot = s.foot
  av : Nat.land M 262144 = 0 → t.av = s.av
  svc : Nat.land M 524288 = 0 → t.svc = s.svc
  img : Nat.land M 1048576 = 0 → t.img = s.img
  grp : Nat.land M 2097152 = 0 → t.grp = s.grp
  dmn : Nat.land M 4194304 = 0 → t.dmn = s.dmn

/-- The parts of an operation that is called lie among the caller's. -/
theorem Zone.sub {A B M : Nat} (h : Nat.land A B = A) (hM : Nat.land B M = B) : Nat.land A M = A := by
  have e : Nat.land (Nat.land A B) M = Nat.land A (Nat.land B M) := Nat.and_assoc A B M
  rw [h, hM, h] at e
  exact e

theorem Zone.off {M N z : Nat} (h : Nat.land M N = M) (m : Nat.land N z = 0) : Nat.land M z = 0 := by
  have e : Nat.land (Nat.land M N) z = Nat.land M (Nat.land N z) := Nat.and_assoc M N z
  rw [h, m] at e
  exact e.trans (Nat.and_zero M)

theorem Zone.no {M P z : Nat} (hz : z ≠ 0) (h : Nat.land P M = P) (m : Nat.land M z = 0) : ¬Nat.land P z = z := by
  intro e
  rw [Zone.off h m] at e
  exact hz e.symm

theorem Keep.refl (M : Nat) (s : State) : Keep M s s := by
  constructor
  case memory => exact id
  case events => exact id
  case free => exact Nat.le_refl _
  case nextSeq => exact Nat.le_refl _
  case out => exact List.suffix_rfl
  case pending => rfl
  all_goals intro
  case waits => exact List.prefix_rfl
  case later => exact Nat.le_refl _
  all_goals rfl

theorem Keep.trans {M : Nat} {s t u : State} (h : Keep M s t) (k : Keep M t u) : Keep M s u :=
  ⟨k.pending.trans h.pending, fun m => k.memory (h.memory m), Nat.le_trans h.free k.free, h.out.trans k.out,
    Nat.le_trans h.nextSeq k.nextSeq, fun m => k.events (h.events m),
    fun m => (k.sram m).trans (h.sram m), fun m => (k.sfn m).trans (h.sfn m), fun m => (k.supply m).trans
    (h.supply m), fun m => (h.waits m).trans (k.waits m), fun m => Nat.le_trans (h.later m) (k.later m), fun m
    => (k.live m).trans (h.live m), fun m => (k.user m).trans (h.user m), fun m => (k.clk m).trans (h.clk m),
    fun m => (k.diag m).trans (h.diag m), fun m => (k.pow m).trans (h.pow m), fun m => (k.mem m).trans (h.mem
    m), fun m => (k.aop m).trans (h.aop m), fun m => (k.frame m).trans (h.frame m), fun m => (k.conv m).trans
    (h.conv m), fun m => (k.cal m).trans (h.cal m), fun m => (k.eq m).trans (h.eq m), fun m => (k.load
    m).trans (h.load m), fun m => (k.pool m).trans (h.pool m), fun m => (k.lanes m).trans (h.lanes m), fun m
    => (k.ciph m).trans (h.ciph m), fun m => (k.grot m).trans (h.grot m), fun m => (k.bel m).trans (h.bel m),
    fun m => (k.foot m).trans (h.foot m), fun m => (k.av m).trans (h.av m), fun m => (k.svc m).trans (h.svc
    m), fun m => (k.img m).trans (h.img m), fun m => (k.grp m).trans (h.grp m), fun m => (k.dmn m).trans
    (h.dmn m)⟩

/-- A larger set of parts. -/
theorem Keep.mono {M N : Nat} {s t : State} (h : Keep M s t) (hs : Nat.land M N = M) : Keep N s t :=
  ⟨h.pending, h.memory, h.free, h.out, h.nextSeq, h.events,
    fun m => h.sram (Zone.off hs m), fun m => h.sfn (Zone.off hs m), fun m => h.supply (Zone.off hs m), fun m
    => h.waits (Zone.off hs m), fun m => h.later (Zone.off hs m), fun m => h.live (Zone.off hs m), fun m =>
    h.user (Zone.off hs m), fun m => h.clk (Zone.off hs m), fun m => h.diag (Zone.off hs m), fun m => h.pow
    (Zone.off hs m), fun m => h.mem (Zone.off hs m), fun m => h.aop (Zone.off hs m), fun m => h.frame
    (Zone.off hs m), fun m => h.conv (Zone.off hs m), fun m => h.cal (Zone.off hs m), fun m => h.eq (Zone.off
    hs m), fun m => h.load (Zone.off hs m), fun m => h.pool (Zone.off hs m), fun m => h.lanes (Zone.off hs m),
    fun m => h.ciph (Zone.off hs m), fun m => h.grot (Zone.off hs m), fun m => h.bel (Zone.off hs m), fun m =>
    h.foot (Zone.off hs m), fun m => h.av (Zone.off hs m), fun m => h.svc (Zone.off hs m), fun m => h.img
    (Zone.off hs m), fun m => h.grp (Zone.off hs m), fun m => h.dmn (Zone.off hs m)⟩

/-- The bit of a part in a set written as a number. -/
def Zone.bit : Zone → Nat
  | .live => 1
  | .user => 2
  | .clk => 4
  | .diag => 8
  | .pow => 16
  | .mem => 32
  | .aop => 64
  | .frame => 128
  | .conv => 256
  | .cal => 512
  | .eq => 1024
  | .load => 2048
  | .pool => 4096
  | .lanes => 8192
  | .ciph => 16384
  | .grot => 32768
  | .bel => 65536
  | .foot => 131072
  | .av => 262144
  | .svc => 524288
  | .img => 1048576
  | .grp => 2097152
  | .dmn => 4194304
  | .sram => 8388608
  | .sfn => 16777216
  | .supply => 33554432

/-- A part outside the set is as it was. -/
theorem Keep.same {M : Nat} {s t : State} (h : Keep M s t) (z : Zone) (hz : Nat.land M z.bit = 0) : z.same s t := by
  cases z
  · exact h.live hz
  · exact h.user hz
  · exact h.clk hz
  · exact h.diag hz
  · exact h.pow hz
  · exact h.mem hz
  · exact h.aop hz
  · exact h.frame hz
  · exact h.conv hz
  · exact h.cal hz
  · exact h.eq hz
  · exact h.load hz
  · exact h.pool hz
  · exact h.lanes hz
  · exact h.ciph hz
  · exact h.grot hz
  · exact h.bel hz
  · exact h.foot hz
  · exact h.av hz
  · exact h.svc hz
  · exact h.img hz
  · exact h.grp hz
  · exact h.dmn hz
  · exact h.sram hz
  · exact h.sfn hz
  · exact h.supply hz

/-- `Keep` said of a state's fields. -/
structure KeepF (M : Nat) (r : State) (live : Store) (user : Store) (clk : Clock) (diag : Diag) (pow : Power) (mem :
    Mem) (aop : Aop) (frame : Pair FrameSt) (conv : Pair ConvSt) (cal : Cal) (eq : Pair EqSt) (load : Pair LoadSt)
    (pool : Pool) (lanes : Lanes) (ciph : Pair CipherSt) (grot : Grotto) (bel : BelSt) (foot : Pair FootSt) (av :
    AvSt) (svc : Svc) (img : Img) (grp : GroupSt) (dmn : DomainSt) (free : Nat) (out : List Output) (pending : List
    Instr) : Prop where
  keep : Keep M r (State.mk live user clk diag pow mem aop frame conv cal eq load pool lanes ciph grot bel foot av svc
      img grp dmn free out pending)

theorem KeepF.of {M P : Nat} {r x : State} {live : Store} {user : Store} {clk : Clock} {diag : Diag} {pow : Power}
    {mem : Mem} {aop : Aop} {frame : Pair FrameSt} {conv : Pair ConvSt} {cal : Cal} {eq : Pair EqSt} {load : Pair
    LoadSt} {pool : Pool} {lanes : Lanes} {ciph : Pair CipherSt} {grot : Grotto} {bel : BelSt} {foot : Pair FootSt}
    {av : AvSt} {svc : Svc} {img : Img} {grp : GroupSt} {dmn : DomainSt} {free : Nat} {out : List Output} {pending :
    List Instr} (h : Keep M r x)
    (hM : Nat.land P M = P) (hp : pending = x.pending) (hs : mem.sram = x.mem.sram) (hf : free = x.free) (ho : out =
        x.out)
    (hn : diag.nextSeq = x.diag.nextSeq) (hr : diag.ring = x.diag.ring)
    (h_live : live = x.live ∨ Nat.land P 1 = 1 := by
      first | exact Or.inr rfl | with_reducible exact Or.inl rfl)
    (h_user : user = x.user ∨ Nat.land P 2 = 2 := by
      first | exact Or.inr rfl | with_reducible exact Or.inl rfl)
    (h_clk : clk = x.clk ∨ Nat.land P 4 = 4 := by
      first | exact Or.inr rfl | with_reducible exact Or.inl rfl)
    (h_diag : diag = x.diag ∨ Nat.land P 8 = 8 := by
      first | exact Or.inr rfl | with_reducible exact Or.inl rfl)
    (h_pow : pow = x.pow ∨ Nat.land P 16 = 16 := by
      first | exact Or.inr rfl | with_reducible exact Or.inl rfl)
    (h_mem : mem = x.mem ∨ Nat.land P 32 = 32 := by
      first | exact Or.inr rfl | with_reducible exact Or.inl rfl)
    (h_aop : aop = x.aop ∨ Nat.land P 64 = 64 := by
      first | exact Or.inr rfl | with_reducible exact Or.inl rfl)
    (h_frame : frame = x.frame ∨ Nat.land P 128 = 128 := by
      first | exact Or.inr rfl | with_reducible exact Or.inl rfl)
    (h_conv : conv = x.conv ∨ Nat.land P 256 = 256 := by
      first | exact Or.inr rfl | with_reducible exact Or.inl rfl)
    (h_cal : cal = x.cal ∨ Nat.land P 512 = 512 := by
      first | exact Or.inr rfl | with_reducible exact Or.inl rfl)
    (h_eq : eq = x.eq ∨ Nat.land P 1024 = 1024 := by
      first | exact Or.inr rfl | with_reducible exact Or.inl rfl)
    (h_load : load = x.load ∨ Nat.land P 2048 = 2048 := by
      first | exact Or.inr rfl | with_reducible exact Or.inl rfl)
    (h_pool : pool = x.pool ∨ Nat.land P 4096 = 4096 := by
      first | exact Or.inr rfl | with_reducible exact Or.inl rfl)
    (h_lanes : lanes = x.lanes ∨ Nat.land P 8192 = 8192 := by
      first | exact Or.inr rfl | with_reducible exact Or.inl rfl)
    (h_ciph : ciph = x.ciph ∨ Nat.land P 16384 = 16384 := by
      first | exact Or.inr rfl | with_reducible exact Or.inl rfl)
    (h_grot : grot = x.grot ∨ Nat.land P 32768 = 32768 := by
      first | exact Or.inr rfl | with_reducible exact Or.inl rfl)
    (h_bel : bel = x.bel ∨ Nat.land P 65536 = 65536 := by
      first | exact Or.inr rfl | with_reducible exact Or.inl rfl)
    (h_foot : foot = x.foot ∨ Nat.land P 131072 = 131072 := by
      first | exact Or.inr rfl | with_reducible exact Or.inl rfl)
    (h_av : av = x.av ∨ Nat.land P 262144 = 262144 := by
      first | exact Or.inr rfl | with_reducible exact Or.inl rfl)
    (h_svc : svc = x.svc ∨ Nat.land P 524288 = 524288 := by
      first | exact Or.inr rfl | with_reducible exact Or.inl rfl)
    (h_img : img = x.img ∨ Nat.land P 1048576 = 1048576 := by
      first | exact Or.inr rfl | with_reducible exact Or.inl rfl)
    (h_grp : grp = x.grp ∨ Nat.land P 2097152 = 2097152 := by
      first | exact Or.inr rfl | with_reducible exact Or.inl rfl)
    (h_dmn : dmn = x.dmn ∨ Nat.land P 4194304 = 4194304 := by
      first | exact Or.inr rfl | with_reducible exact Or.inl rfl)
    (h_sfn : clk.sfn = x.clk.sfn ∨ Nat.land P 16777216 = 16777216 := by
      first | exact Or.inr rfl | exact Or.inl rfl)
    (h_supply : (pow.on, pow.aonOn, pow.latched, pow.keepAlive) = x.supply ∨ Nat.land P 33554432 = 33554432 := by
      first | exact Or.inr rfl | exact Or.inl rfl)
    (h_waits : x.diag.waiting <+: diag.waiting ∨ Nat.land P 67108864 = 67108864 := by
      first | exact Or.inr rfl | exact Or.inl List.prefix_rfl)
    (h_later : x.clk.sfn ≤ clk.sfn ∨ Nat.land P 134217728 = 134217728 := by
      first | exact Or.inr rfl | exact Or.inl (Nat.le_refl _) | exact Or.inl (Nat.le_add_right _ _)) :
    KeepF M r live user clk diag pow mem aop frame conv cal eq load pool lanes ciph grot bel foot av svc img grp dmn
        free out pending := by
  refine ⟨h.trans ⟨hp, fun m => ?_, Nat.le_of_eq hf.symm, ho ▸ List.suffix_rfl, Nat.le_of_eq hn.symm, fun
      m => ?_, fun _ => hs, fun m => h_sfn.resolve_right (Zone.no (by decide) hM m), fun m => h_supply.resolve_right
      (Zone.no (by decide) hM m), fun m => h_waits.resolve_right (Zone.no (by decide) hM m), fun m =>
      h_later.resolve_right (Zone.no (by decide) hM m), fun m => h_live.resolve_right (Zone.no (by decide) hM m), fun
      m => h_user.resolve_right (Zone.no (by decide) hM m), fun m => h_clk.resolve_right (Zone.no (by decide) hM m),
      fun m => h_diag.resolve_right (Zone.no (by decide) hM m), fun m => h_pow.resolve_right (Zone.no (by decide) hM
      m), fun m => h_mem.resolve_right (Zone.no (by decide) hM m), fun m => h_aop.resolve_right (Zone.no (by decide)
      hM m), fun m => h_frame.resolve_right (Zone.no (by decide) hM m), fun m => h_conv.resolve_right (Zone.no (by
      decide) hM m), fun m => h_cal.resolve_right (Zone.no (by decide) hM m), fun m => h_eq.resolve_right (Zone.no (by
      decide) hM m), fun m => h_load.resolve_right (Zone.no (by decide) hM m), fun m => h_pool.resolve_right (Zone.no
      (by decide) hM m), fun m => h_lanes.resolve_right (Zone.no (by decide) hM m), fun m => h_ciph.resolve_right
      (Zone.no (by decide) hM m), fun m => h_grot.resolve_right (Zone.no (by decide) hM m), fun m =>
      h_bel.resolve_right (Zone.no (by decide) hM m), fun m => h_foot.resolve_right (Zone.no (by decide) hM m), fun m
      => h_av.resolve_right (Zone.no (by decide) hM m), fun m => h_svc.resolve_right (Zone.no (by decide) hM m), fun m
      => h_img.resolve_right (Zone.no (by decide) hM m), fun m => h_grp.resolve_right (Zone.no (by decide) hM m), fun
      m => h_dmn.resolve_right (Zone.no (by decide) hM m)⟩⟩
  · simpa only [State.memoryOk, hs] using m
  · simpa only [State.eventsOk, hn, hr] using m

theorem KeepF.upd_live {M : Nat} {r x : State} {v : Store} (h : Keep M r x) (hM : Nat.land 1 M = 1) :
    KeepF M r v x.user x.clk x.diag x.pow x.mem x.aop x.frame x.conv x.cal x.eq x.load x.pool x.lanes x.ciph x.grot
        x.bel x.foot x.av x.svc x.img x.grp x.dmn x.free x.out x.pending :=
  KeepF.of h hM rfl rfl rfl rfl rfl rfl

theorem KeepF.upd_user {M : Nat} {r x : State} {v : Store} (h : Keep M r x) (hM : Nat.land 2 M = 2) :
    KeepF M r x.live v x.clk x.diag x.pow x.mem x.aop x.frame x.conv x.cal x.eq x.load x.pool x.lanes x.ciph x.grot
        x.bel x.foot x.av x.svc x.img x.grp x.dmn x.free x.out x.pending :=
  KeepF.of h hM rfl rfl rfl rfl rfl rfl

theorem KeepF.upd_clk {M : Nat} {r x : State} {v : Clock} (h : Keep M r x) (hM : Nat.land 4 M = 4) (ht : v.sfn =
    x.clk.sfn) :
    KeepF M r x.live x.user v x.diag x.pow x.mem x.aop x.frame x.conv x.cal x.eq x.load x.pool x.lanes x.ciph x.grot
        x.bel x.foot x.av x.svc x.img x.grp x.dmn x.free x.out x.pending :=
  KeepF.of h hM rfl rfl rfl rfl rfl rfl (h_sfn := Or.inl ht) (h_later := Or.inl (Nat.le_of_eq ht.symm))

theorem KeepF.upd_diag {M : Nat} {r x : State} {v : Diag} (h : Keep M r x) (hM : Nat.land 8 M = 8) (hn : v.nextSeq =
    x.diag.nextSeq)
    (hr : v.ring = x.diag.ring) (hw : v.waiting = x.diag.waiting) :
    KeepF M r x.live x.user x.clk v x.pow x.mem x.aop x.frame x.conv x.cal x.eq x.load x.pool x.lanes x.ciph x.grot
        x.bel x.foot x.av x.svc x.img x.grp x.dmn x.free x.out x.pending :=
  KeepF.of h hM rfl rfl rfl rfl hn hr (h_waits := Or.inl (hw ▸ List.prefix_rfl))

theorem KeepF.upd_pow {M : Nat} {r x : State} {v : Power} (h : Keep M r x) (hM : Nat.land 16 M = 16) (hp : (v.on,
    v.aonOn, v.latched, v.keepAlive) = x.supply) :
    KeepF M r x.live x.user x.clk x.diag v x.mem x.aop x.frame x.conv x.cal x.eq x.load x.pool x.lanes x.ciph x.grot
        x.bel x.foot x.av x.svc x.img x.grp x.dmn x.free x.out x.pending :=
  KeepF.of h hM rfl rfl rfl rfl rfl rfl (h_supply := Or.inl hp)

theorem KeepF.upd_mem {M : Nat} {r x : State} {v : Mem} (h : Keep M r x) (hM : Nat.land 32 M = 32) (hs : v.sram =
    x.mem.sram) :
    KeepF M r x.live x.user x.clk x.diag x.pow v x.aop x.frame x.conv x.cal x.eq x.load x.pool x.lanes x.ciph x.grot
        x.bel x.foot x.av x.svc x.img x.grp x.dmn x.free x.out x.pending :=
  KeepF.of h hM rfl hs rfl rfl rfl rfl

theorem KeepF.upd_aop {M : Nat} {r x : State} {v : Aop} (h : Keep M r x) (hM : Nat.land 64 M = 64) :
    KeepF M r x.live x.user x.clk x.diag x.pow x.mem v x.frame x.conv x.cal x.eq x.load x.pool x.lanes x.ciph x.grot
        x.bel x.foot x.av x.svc x.img x.grp x.dmn x.free x.out x.pending :=
  KeepF.of h hM rfl rfl rfl rfl rfl rfl

theorem KeepF.upd_frame {M : Nat} {r x : State} {v : Pair FrameSt} (h : Keep M r x) (hM : Nat.land 128 M = 128) :
    KeepF M r x.live x.user x.clk x.diag x.pow x.mem x.aop v x.conv x.cal x.eq x.load x.pool x.lanes x.ciph x.grot
        x.bel x.foot x.av x.svc x.img x.grp x.dmn x.free x.out x.pending :=
  KeepF.of h hM rfl rfl rfl rfl rfl rfl

theorem KeepF.upd_conv {M : Nat} {r x : State} {v : Pair ConvSt} (h : Keep M r x) (hM : Nat.land 256 M = 256) :
    KeepF M r x.live x.user x.clk x.diag x.pow x.mem x.aop x.frame v x.cal x.eq x.load x.pool x.lanes x.ciph x.grot
        x.bel x.foot x.av x.svc x.img x.grp x.dmn x.free x.out x.pending :=
  KeepF.of h hM rfl rfl rfl rfl rfl rfl

theorem KeepF.upd_cal {M : Nat} {r x : State} {v : Cal} (h : Keep M r x) (hM : Nat.land 512 M = 512) :
    KeepF M r x.live x.user x.clk x.diag x.pow x.mem x.aop x.frame x.conv v x.eq x.load x.pool x.lanes x.ciph x.grot
        x.bel x.foot x.av x.svc x.img x.grp x.dmn x.free x.out x.pending :=
  KeepF.of h hM rfl rfl rfl rfl rfl rfl

theorem KeepF.upd_eq {M : Nat} {r x : State} {v : Pair EqSt} (h : Keep M r x) (hM : Nat.land 1024 M = 1024) :
    KeepF M r x.live x.user x.clk x.diag x.pow x.mem x.aop x.frame x.conv x.cal v x.load x.pool x.lanes x.ciph x.grot
        x.bel x.foot x.av x.svc x.img x.grp x.dmn x.free x.out x.pending :=
  KeepF.of h hM rfl rfl rfl rfl rfl rfl

theorem KeepF.upd_load {M : Nat} {r x : State} {v : Pair LoadSt} (h : Keep M r x) (hM : Nat.land 2048 M = 2048) :
    KeepF M r x.live x.user x.clk x.diag x.pow x.mem x.aop x.frame x.conv x.cal x.eq v x.pool x.lanes x.ciph x.grot
        x.bel x.foot x.av x.svc x.img x.grp x.dmn x.free x.out x.pending :=
  KeepF.of h hM rfl rfl rfl rfl rfl rfl

theorem KeepF.upd_pool {M : Nat} {r x : State} {v : Pool} (h : Keep M r x) (hM : Nat.land 4096 M = 4096) :
    KeepF M r x.live x.user x.clk x.diag x.pow x.mem x.aop x.frame x.conv x.cal x.eq x.load v x.lanes x.ciph x.grot
        x.bel x.foot x.av x.svc x.img x.grp x.dmn x.free x.out x.pending :=
  KeepF.of h hM rfl rfl rfl rfl rfl rfl

theorem KeepF.upd_lanes {M : Nat} {r x : State} {v : Lanes} (h : Keep M r x) (hM : Nat.land 8192 M = 8192) :
    KeepF M r x.live x.user x.clk x.diag x.pow x.mem x.aop x.frame x.conv x.cal x.eq x.load x.pool v x.ciph x.grot
        x.bel x.foot x.av x.svc x.img x.grp x.dmn x.free x.out x.pending :=
  KeepF.of h hM rfl rfl rfl rfl rfl rfl

theorem KeepF.upd_ciph {M : Nat} {r x : State} {v : Pair CipherSt} (h : Keep M r x) (hM : Nat.land 16384 M = 16384) :
    KeepF M r x.live x.user x.clk x.diag x.pow x.mem x.aop x.frame x.conv x.cal x.eq x.load x.pool x.lanes v x.grot
        x.bel x.foot x.av x.svc x.img x.grp x.dmn x.free x.out x.pending :=
  KeepF.of h hM rfl rfl rfl rfl rfl rfl

theorem KeepF.upd_grot {M : Nat} {r x : State} {v : Grotto} (h : Keep M r x) (hM : Nat.land 32768 M = 32768) :
    KeepF M r x.live x.user x.clk x.diag x.pow x.mem x.aop x.frame x.conv x.cal x.eq x.load x.pool x.lanes x.ciph v
        x.bel x.foot x.av x.svc x.img x.grp x.dmn x.free x.out x.pending :=
  KeepF.of h hM rfl rfl rfl rfl rfl rfl

theorem KeepF.upd_bel {M : Nat} {r x : State} {v : BelSt} (h : Keep M r x) (hM : Nat.land 65536 M = 65536) :
    KeepF M r x.live x.user x.clk x.diag x.pow x.mem x.aop x.frame x.conv x.cal x.eq x.load x.pool x.lanes x.ciph
        x.grot v x.foot x.av x.svc x.img x.grp x.dmn x.free x.out x.pending :=
  KeepF.of h hM rfl rfl rfl rfl rfl rfl

theorem KeepF.upd_foot {M : Nat} {r x : State} {v : Pair FootSt} (h : Keep M r x) (hM : Nat.land 131072 M = 131072) :
    KeepF M r x.live x.user x.clk x.diag x.pow x.mem x.aop x.frame x.conv x.cal x.eq x.load x.pool x.lanes x.ciph
        x.grot x.bel v x.av x.svc x.img x.grp x.dmn x.free x.out x.pending :=
  KeepF.of h hM rfl rfl rfl rfl rfl rfl

theorem KeepF.upd_av {M : Nat} {r x : State} {v : AvSt} (h : Keep M r x) (hM : Nat.land 262144 M = 262144) :
    KeepF M r x.live x.user x.clk x.diag x.pow x.mem x.aop x.frame x.conv x.cal x.eq x.load x.pool x.lanes x.ciph
        x.grot x.bel x.foot v x.svc x.img x.grp x.dmn x.free x.out x.pending :=
  KeepF.of h hM rfl rfl rfl rfl rfl rfl

theorem KeepF.upd_svc {M : Nat} {r x : State} {v : Svc} (h : Keep M r x) (hM : Nat.land 524288 M = 524288) :
    KeepF M r x.live x.user x.clk x.diag x.pow x.mem x.aop x.frame x.conv x.cal x.eq x.load x.pool x.lanes x.ciph
        x.grot x.bel x.foot x.av v x.img x.grp x.dmn x.free x.out x.pending :=
  KeepF.of h hM rfl rfl rfl rfl rfl rfl

theorem KeepF.upd_img {M : Nat} {r x : State} {v : Img} (h : Keep M r x) (hM : Nat.land 1048576 M = 1048576) :
    KeepF M r x.live x.user x.clk x.diag x.pow x.mem x.aop x.frame x.conv x.cal x.eq x.load x.pool x.lanes x.ciph
        x.grot x.bel x.foot x.av x.svc v x.grp x.dmn x.free x.out x.pending :=
  KeepF.of h hM rfl rfl rfl rfl rfl rfl

theorem KeepF.upd_grp {M : Nat} {r x : State} {v : GroupSt} (h : Keep M r x) (hM : Nat.land 2097152 M = 2097152) :
    KeepF M r x.live x.user x.clk x.diag x.pow x.mem x.aop x.frame x.conv x.cal x.eq x.load x.pool x.lanes x.ciph
        x.grot x.bel x.foot x.av x.svc x.img v x.dmn x.free x.out x.pending :=
  KeepF.of h hM rfl rfl rfl rfl rfl rfl

theorem KeepF.upd_dmn {M : Nat} {r x : State} {v : DomainSt} (h : Keep M r x) (hM : Nat.land 4194304 M = 4194304) :
    KeepF M r x.live x.user x.clk x.diag x.pow x.mem x.aop x.frame x.conv x.cal x.eq x.load x.pool x.lanes x.ciph
        x.grot x.bel x.foot x.av x.svc x.img x.grp v x.free x.out x.pending :=
  KeepF.of h hM rfl rfl rfl rfl rfl rfl

theorem Keep.push_seq {x : State} {e : EventRec} (he : e.seq = x.diag.nextSeq) (m : x.eventsOk) {a : EventRec}
    (ha : a ∈ (e :: x.diag.ring).take 256) : a.seq < x.diag.nextSeq + 1 := by
  rcases List.mem_cons.mp (List.mem_of_mem_take ha) with rfl | ha
  · exact Nat.lt_succ_of_le (Nat.le_of_eq he)
  · exact Nat.lt_succ_of_lt (m.2.1 a ha)

/-- A record with the next sequence number enters the event log. -/
theorem Keep.push {M : Nat} {r x : State} (h : Keep M r x) (hM : Nat.land 8 M = 8) (e : EventRec)
    (he : e.seq = x.diag.nextSeq) : Keep M r { x with diag := x.diag.push e } := by
  refine h.trans ?_
  constructor
  case memory => exact id
  case free => exact Nat.le_refl _
  case nextSeq => exact Nat.le_succ _
  case out => exact List.suffix_rfl
  case pending => rfl
  case events => exact fun m => ⟨List.length_take_le .., fun a ha => Keep.push_seq he m ha, (List.pairwise_cons.mpr
    ⟨fun a ha => he ▸ m.2.1 a ha, m.2.2⟩).sublist (List.take_sublist ..)⟩
  all_goals intro n
  case waits => exact List.prefix_append ..
  case later => exact Nat.le_refl _
  case diag => exact absurd rfl (Zone.no (by decide) hM n)
  all_goals rfl

/-- An update of some fields. -/
theorem Keep.mk_iff {M : Nat} {r : State} {live : Store} {user : Store} {clk : Clock} {diag : Diag} {pow : Power} {mem
    : Mem} {aop : Aop} {frame : Pair FrameSt} {conv : Pair ConvSt} {cal : Cal} {eq : Pair EqSt} {load : Pair LoadSt}
    {pool : Pool} {lanes : Lanes} {ciph : Pair CipherSt} {grot : Grotto} {bel : BelSt} {foot : Pair FootSt} {av :
    AvSt} {svc : Svc} {img : Img} {grp : GroupSt} {dmn : DomainSt} {free : Nat} {out : List Output} {pending : List
    Instr} :
    Keep M r (State.mk live user clk diag pow mem aop frame conv cal eq load pool lanes ciph grot bel foot av svc img
        grp dmn free out pending) ↔ KeepF M r live user clk diag pow mem aop frame conv cal eq load pool lanes ciph
        grot bel foot av svc img grp dmn free out pending :=
  ⟨KeepF.mk, KeepF.keep⟩

theorem Keep.ite {M : Nat} {s a b : State} {c : Prop} [Decidable c] (ha : Keep M s a) (hb : Keep M s b) :
    Keep M s (if c then a else b) := by
  split <;> assumption

theorem Keep.ite_snd {M : Nat} {α : Type} {s : State} {a b : α × State} {c : Prop} [Decidable c]
    (ha : Keep M s a.2) (hb : Keep M s b.2) : Keep M s (if c then a else b).2 := by
  split <;> assumption

theorem Keep.foldl {M : Nat} {α : Type} {r s : State} {f : State → α → State} (h : Keep M r s)
    (hf : ∀ t x, Keep M r t → Keep M r (f t x)) (l : List α) : Keep M r (l.foldl f s) := by
  induction l generalizing s with
  | nil => exact h
  | cons x l ih => exact ih (hf s x h)

theorem Keep.foldl_fst {M : Nat} {α β : Type} {r : State} {s : State × β} {f : State × β → α → State × β}
    (h : Keep M r s.1) (hf : ∀ t x, Keep M r t.1 → Keep M r (f t x).1) (l : List α) : Keep M r (l.foldl f s).1 := by
  induction l generalizing s with
  | nil => exact h
  | cons x l ih => exact ih (hf s x h)

theorem Keep.foldl_snd {M : Nat} {α β : Type} {r : State} {s : β × State} {f : β × State → α → β × State}
    (h : Keep M r s.2) (hf : ∀ t x, Keep M r t.2 → Keep M r (f t x).2) (l : List α) : Keep M r (l.foldl f s).2 := by
  induction l generalizing s with
  | nil => exact h
  | cons x l ih => exact ih (hf s x h)

/-- A change of the SRAM's contents that keeps their canonical form and bounds. -/
theorem Keep.mem_sram {M : Nat} {r x : State} (h : Keep M r x) (m : Mem) (hM : Nat.land 8388640 M = 8388640)
    (hm : x.memoryOk → Memory.wf m.sram = true ∧ ∀ p ∈ m.sram, p.1 < sramSize) : Keep M r { x with mem := m } := by
  refine h.trans ?_
  constructor
  case memory => exact hm
  case events => exact id
  case free => exact Nat.le_refl _
  case nextSeq => exact Nat.le_refl _
  case out => exact List.suffix_rfl
  case pending => rfl
  all_goals intro n
  case waits => exact List.prefix_rfl
  case later => exact Nat.le_refl _
  case sram => exact absurd rfl (Zone.no (by decide) hM n)
  case mem => exact absurd rfl (Zone.no (by decide) hM n)
  all_goals rfl

/-- An operation that takes a free value or emits something changes nothing else. -/
theorem Keep.apart {M : Nat} {s : State} {n : Nat} {l : List Output} (hn : s.free ≤ n) (hl : s.out <:+ l) :
    Keep M s { s with free := n, out := l } := by
  have k := Keep.refl M s
  exact { k with free := hn, out := hl }

/-- An operation that may change every part. -/
theorem Keep.whole {M : Nat} {s t : State} (hM : Nat.land 268435455 M = 268435455) (hp : t.pending = s.pending)
    (hm : t.memoryOk) (hf : s.free ≤ t.free) (ho : s.out <:+ t.out) (hn : s.diag.nextSeq ≤ t.diag.nextSeq)
    (he : t.eventsOk) : Keep M s t := by
  have no : ∀ z, z ≠ 0 → Nat.land z 268435455 = z → ¬Nat.land M z = 0 := by
    intro z hz h e
    exact Zone.no hz (Zone.sub h hM) e (by exact Nat.and_self z)
  constructor
  case memory => exact fun _ => hm
  case events => exact fun _ => he
  case free => exact hf
  case nextSeq => exact hn
  case out => exact ho
  case pending => exact hp
  all_goals exact fun m => absurd m (no _ (by decide) (by decide))

theorem Keep.getD {M : Nat} {r d : State} {o : Option State} (h : ∀ t, o = some t → Keep M r t)
    (hd : Keep M r d) : Keep M r (o.getD d) := by
  cases o with
  | none => exact hd
  | some t => exact h t rfl

end Sys2Proof.Machine
end

