-- ==== Sys2Proof/Laws/KeepBase.lean ====
section
/-! SUPPORT. What the operations of the state, the ledger, the Sundial table, the write path, the Icehouse and the Grotto keep. The number of each lemma is the
set of parts of the state it may change (`Keep`). -/

namespace Sys2Proof.Machine

set_option Elab.async false
set_option linter.all false

theorem State.put_keep {M r s} (h : Keep M r s) (hM : Nat.land 1 M = 1) (a1 a2 a3) :
    Keep M r (State.put s a1 a2 a3) := by
  unfold State.put
  repeat' first
    | with_reducible assumption
    | (simp -zeta only [↓Keep.mk_iff]; with_reducible refine KeepF.upd_live ?_ ?_)

theorem State.fresh_keep {M r s} (h : Keep M r s) (_hM : Nat.land 0 M = 0) (a1) : Keep M r (State.fresh s a1).2 :=
  h.trans (Keep.apart (Nat.le_succ _) List.suffix_rfl)

theorem State.addTo_keep {M r s} (h : Keep M r s) (hM : Nat.land 1 M = 1) (a1 a2 a3 a4) :
    Keep M r (State.addTo s a1 a2 a3 a4) := by
  unfold State.addTo
  repeat' first
    | with_reducible assumption
    | exact Zone.sub rfl hM
    | with_reducible first | refine State.put_keep ?_ ?_ _ _ _ | refine State.fresh_keep ?_ ?_ _
    | with_reducible refine Keep.ite ?_ ?_

theorem State.add64_keep {M r s} (h : Keep M r s) (hM : Nat.land 1 M = 1) (a1 a2 a3) :
    Keep M r (State.add64 s a1 a2 a3) := by
  unfold State.add64
  repeat' first
    | with_reducible first | assumption | refine State.addTo_keep ?_ ?_ _ _ _ _

theorem State.alert_keep {M r s} (h : Keep M r s) (hM : Nat.land 9 M = 9) (a1) :
    Keep M r (State.alert s a1) := by
  unfold State.alert
  repeat' first
    | with_reducible assumption
    | exact Zone.sub rfl hM
    | with_reducible first | refine State.put_keep ?_ ?_ _ _ _ | refine Keep.ite ?_ ?_
    | (simp -zeta only [↓Keep.mk_iff]; with_reducible refine KeepF.upd_diag ?_ ?_ rfl rfl rfl)

theorem State.bump_keep {M r s} (h : Keep M r s) (hM : Nat.land 1 M = 1) (a1 a2) :
    Keep M r (State.bump s a1 a2) := by
  unfold State.bump
  repeat' first
    | with_reducible first | assumption | refine State.addTo_keep ?_ ?_ _ _ _ _

theorem State.emit_keep {M r s} (h : Keep M r s) (_hM : Nat.land 0 M = 0) (a1) : Keep M r (State.emit s a1) :=
  h.trans (Keep.apart (Nat.le_refl _) (List.suffix_cons _ _))

theorem State.freshNum_keep {M r s} (h : Keep M r s) (hM : Nat.land 0 M = 0) (a1 a2 a3) :
    Keep M r (State.freshNum s a1 a2 a3).2 := by
  unfold State.freshNum
  repeat' first
    | with_reducible first | assumption | refine State.fresh_keep ?_ ?_ _

theorem State.occurN_keep {M r s} (h : Keep M r s) (hM : Nat.land 8 M = 8) (a1 a2 a3) :
    Keep M r (State.occurN s a1 a2 a3) := by
  unfold State.occurN
  repeat' first
    | with_reducible assumption
    | (simp -zeta only [↓Keep.mk_iff]; with_reducible refine KeepF.upd_diag ?_ ?_ rfl rfl rfl)
    | (extract_lets +onlyGivenNames y; clear_value y)

theorem State.occur_keep {M r s} (h : Keep M r s) (hM : Nat.land 8 M = 8) (a1 a2) :
    Keep M r (State.occur s a1 a2) := by
  unfold State.occur
  repeat' first
    | with_reducible first | assumption | refine State.occurN_keep ?_ ?_ _ _ _

theorem State.notify_keep {M r s} (h : Keep M r s) (hM : Nat.land 73 M = 73) (a1 a2) :
    Keep M r (State.notify s a1 a2) := by
  unfold State.notify
  repeat' first
    | with_reducible assumption
    | exact Zone.sub rfl hM
    | with_reducible first | refine State.bump_keep ?_ ?_ _ _ | refine State.emit_keep ?_ ?_ _
    | with_reducible first | refine State.occur_keep ?_ ?_ _ _ | refine Keep.ite ?_ ?_
    | (simp -zeta only [↓Keep.mk_iff]; with_reducible refine KeepF.upd_aop ?_ ?_)
    | dsimp -zeta only
    | (extract_lets +onlyGivenNames y; have hy : Keep M r y := ?_
       rotate_left; subst y; rotate_left; clear_value y)
    | (extract_lets +onlyGivenNames y; have : _ → _ → State := y; clear this; subst y)
    | (extract_lets +onlyGivenNames y; clear_value y)
    | split

theorem State.logRec_keep {M r s} (h : Keep M r s) (hM : Nat.land 73 M = 73) {e : EventRec}
    (he : e.seq = s.diag.nextSeq) (c) : Keep M r (s.logRec e c) := by
  unfold State.logRec
  extract_lets x y z
  have hx : Keep M r x := h.push (Zone.sub rfl hM) e he
  exact Keep.foldl (State.alert_keep (State.occur_keep hx (Zone.sub rfl hM) _ _) (Zone.sub rfl hM) _)
    (fun t b ht => State.notify_keep ht (Zone.sub rfl hM) _ _) _

theorem State.log_keep {M r s} (h : Keep M r s) (hM : Nat.land 73 M = 73) (a1 a2) :
    Keep M r (State.log s a1 a2) := by
  unfold State.log
  repeat' first
    | with_reducible assumption
    | refine State.logRec_keep ?_ ?_ rfl _

theorem State.logAfter_keep {M r s} (h : Keep M r s) (hM : Nat.land 73 M = 73) (a1 a2) :
    Keep M r (State.logAfter s a1 a2) := by
  unfold State.logAfter
  repeat' first
    | with_reducible assumption
    | refine State.logRec_keep ?_ ?_ rfl _

theorem State.logC_keep {M r s} (h : Keep M r s) (hM : Nat.land 73 M = 73) (a1 a2 a3) :
    Keep M r (State.logC s a1 a2 a3) := by
  unfold State.logC
  repeat' first
    | with_reducible assumption
    | refine State.logRec_keep ?_ ?_ rfl _

theorem State.logLimited_keep {M r s} (h : Keep M r s) (hM : Nat.land 73 M = 73) (a1 a2 a3 a4 a5) :
    Keep M r (State.logLimited s a1 a2 a3 a4 a5) := by
  unfold State.logLimited
  repeat' first
    | with_reducible assumption
    | exact Zone.sub rfl hM
    | refine State.logRec_keep ?_ ?_ rfl _
    | with_reducible refine Keep.ite ?_ ?_
    | (simp -zeta only [↓Keep.mk_iff]; with_reducible refine KeepF.upd_diag ?_ ?_ rfl rfl rfl)

theorem State.logSecond_keep {M r s} (h : Keep M r s) (hM : Nat.land 73 M = 73) (a1 a2 a3 a4) :
    Keep M r (State.logSecond s a1 a2 a3 a4) := by
  unfold State.logSecond
  repeat' first
    | with_reducible first | assumption | refine State.logLimited_keep ?_ ?_ _ _ _ _ _

theorem State.putO_keep {M r s} (h : Keep M r s) (hM : Nat.land 1 M = 1) (a1 a2 a3) :
    Keep M r (State.putO s a1 a2 a3) := by
  unfold State.putO
  repeat' first
    | with_reducible assumption
    | (simp -zeta only [↓Keep.mk_iff]; with_reducible refine KeepF.upd_live ?_ ?_)

theorem State.sendTo_keep {M r s} (h : Keep M r s) (hM : Nat.land 0 M = 0) (a1 a2) :
    Keep M r (State.sendTo s a1 a2) := by
  unfold State.sendTo
  repeat' first
    | with_reducible first | assumption | refine State.emit_keep ?_ ?_ _

theorem State.setDom_keep {M r s} (h : Keep M r s) (hM : Nat.land 16 M = 16) (a1 a2) :
    Keep M r (State.setDom s a1 a2) := by
  unfold State.setDom
  repeat' first
    | with_reducible assumption
    | (simp -zeta only [↓Keep.mk_iff]; with_reducible refine KeepF.upd_pow ?_ ?_ rfl)

theorem State.abortCount_keep {M r s} (h : Keep M r s) (hM : Nat.land 16 M = 16) (a1 a2) :
    Keep M r (State.abortCount s a1 a2) := by
  unfold State.abortCount
  repeat' first
    | with_reducible first | assumption | refine State.setDom_keep ?_ ?_ _ _

theorem State.touch_keep {M r s} (h : Keep M r s) (hM : Nat.land 16 M = 16) (a1) :
    Keep M r (State.touch s a1) := by
  unfold State.touch
  repeat' first
    | with_reducible first | assumption | refine State.setDom_keep ?_ ?_ _ _

theorem State.accessEntering_keep {M r s} (h : Keep M r s) (hM : Nat.land 16 M = 16) (a1) :
    Keep M r (State.accessEntering s a1) := by
  unfold State.accessEntering
  repeat' first
    | with_reducible first | assumption | refine State.setDom_keep ?_ ?_ _ _
    | with_reducible first | refine State.abortCount_keep ?_ ?_ _ _ | refine Keep.ite ?_ ?_

theorem State.beginWake_keep {M r s} (h : Keep M r s) (hM : Nat.land 17 M = 17) (a1) :
    Keep M r (State.beginWake s a1) := by
  unfold State.beginWake
  repeat' first
    | with_reducible assumption
    | exact Zone.sub rfl hM
    | with_reducible first | refine State.bump_keep ?_ ?_ _ _ | refine State.setDom_keep ?_ ?_ _ _

theorem State.enter_keep {M r s} (h : Keep M r s) (hM : Nat.land 16 M = 16) (a1 a2 a3) :
    Keep M r (State.enter s a1 a2 a3) := by
  unfold State.enter
  repeat' first
    | with_reducible assumption
    | (simp -zeta only [↓Keep.mk_iff]; with_reducible refine KeepF.upd_pow ?_ ?_ rfl)
    | (extract_lets +onlyGivenNames y; clear_value y)

theorem State.askPrivileged_keep {M r s} (h : Keep M r s) (hM : Nat.land 24 M = 24) (a1 a2 a3) :
    Keep M r (State.askPrivileged s a1 a2 a3) := by
  unfold State.askPrivileged
  repeat' first
    | with_reducible assumption
    | exact Zone.sub rfl hM
    | with_reducible first | refine State.occur_keep ?_ ?_ _ _ | refine State.enter_keep ?_ ?_ _ _ _

theorem State.refuseCost_keep {M r s} (h : Keep M r s) (hM : Nat.land 73 M = 73) (a1 a2 a3) :
    Keep M r (State.refuseCost s a1 a2 a3) := by
  unfold State.refuseCost
  repeat' first
    | with_reducible assumption
    | exact Zone.sub rfl hM
    | with_reducible first | refine State.bump_keep ?_ ?_ _ _ | refine State.occur_keep ?_ ?_ _ _
    | with_reducible refine State.logSecond_keep ?_ ?_ _ _ _ _

theorem State.ask_keep {M r s} (h : Keep M r s) (hM : Nat.land 89 M = 89) (a1 a2 a3) :
    Keep M r (State.ask s a1 a2 a3).2 := by
  unfold State.ask
  repeat' first
    | with_reducible assumption
    | exact Zone.sub rfl hM
    | with_reducible first | refine State.occur_keep ?_ ?_ _ _ | refine State.enter_keep ?_ ?_ _ _ _
    | with_reducible first | refine State.refuseCost_keep ?_ ?_ _ _ _ | refine Keep.ite_snd ?_ ?_

theorem State.wakeOne_keep {M r s} (h : Keep M r s) (hM : Nat.land 89 M = 89) (a1 a2) :
    Keep M r (State.wakeOne s a1 a2).2 := by
  unfold State.wakeOne
  repeat' first
    | with_reducible assumption
    | exact Zone.sub rfl hM
    | with_reducible first | refine State.accessEntering_keep ?_ ?_ _ | refine State.beginWake_keep ?_ ?_ _
    | with_reducible first | refine State.askPrivileged_keep ?_ ?_ _ _ _ | refine State.ask_keep ?_ ?_ _ _ _
    | with_reducible first | refine State.log_keep ?_ ?_ _ _ | refine Keep.ite_snd ?_ ?_
    | (extract_lets +onlyGivenNames y; have hy : Keep M r y.2 := ?_
       rotate_left; subst y; rotate_left; clear_value y)
    | split

theorem State.accessDom_keep {M r s} (h : Keep M r s) (hM : Nat.land 89 M = 89) (a1 a2) :
    Keep M r (State.accessDom s a1 a2).2 := by
  unfold State.accessDom
  repeat' first
    | with_reducible assumption
    | exact Zone.sub rfl hM
    | with_reducible first | refine State.touch_keep ?_ ?_ _ | refine State.accessEntering_keep ?_ ?_ _
    | with_reducible first | refine State.wakeOne_keep ?_ ?_ _ _ | refine Keep.ite_snd ?_ ?_
    | (extract_lets +onlyGivenNames y; have hy : Keep M r y := ?_
       rotate_left; subst y; rotate_left; clear_value y)
    | (extract_lets +onlyGivenNames y; have hy : Keep M r y.2 := ?_
       rotate_left; subst y; rotate_left; clear_value y)
    | split

theorem State.release_keep {M r s} (h : Keep M r s) (hM : Nat.land 16 M = 16) (a1 a2) :
    Keep M r (State.release s a1 a2) := by
  unfold State.release
  repeat' first
    | with_reducible assumption
    | (simp -zeta only [↓Keep.mk_iff]; with_reducible refine KeepF.upd_pow ?_ ?_ rfl)

theorem State.setEntries_keep {M r s} (h : Keep M r s) (hM : Nat.land 4 M = 4) (a1) :
    Keep M r (State.setEntries s a1) := by
  unfold State.setEntries
  repeat' first
    | with_reducible assumption
    | (simp -zeta only [↓Keep.mk_iff]; with_reducible refine KeepF.upd_clk ?_ ?_ rfl)

theorem State.addEntry_keep {M r s} (h : Keep M r s) (hM : Nat.land 4 M = 4) (a1) :
    Keep M r (State.addEntry s a1).2 := by
  unfold State.addEntry
  repeat' first
    | with_reducible assumption
    | exact Zone.sub rfl hM
    | with_reducible first | refine State.freshNum_keep ?_ ?_ _ _ _ | refine State.setEntries_keep ?_ ?_ _

theorem State.logEntry_keep {M r s} (h : Keep M r s) (hM : Nat.land 73 M = 73) (a1 a2 a3) :
    Keep M r (State.logEntry s a1 a2 a3) := by
  unfold State.logEntry
  repeat' first
    | with_reducible assumption
    | refine State.logRec_keep ?_ ?_ rfl _

theorem State.dropEvent_keep {M r s} (h : Keep M r s) (hM : Nat.land 73 M = 73) (a1 a2) :
    Keep M r (State.dropEvent s a1 a2) := by
  unfold State.dropEvent
  repeat' first
    | with_reducible assumption
    | exact Zone.sub rfl hM
    | with_reducible first | refine State.logEntry_keep ?_ ?_ _ _ _ | refine State.bump_keep ?_ ?_ _ _

theorem State.arm_keep {M r s} (h : Keep M r s) (hM : Nat.land 77 M = 77) (a1) :
    Keep M r (State.arm s a1).2 := by
  unfold State.arm
  repeat' first
    | with_reducible assumption
    | exact Zone.sub rfl hM
    | with_reducible first | refine State.dropEvent_keep ?_ ?_ _ _ | refine State.addEntry_keep ?_ ?_ _
    | with_reducible first | refine State.bump_keep ?_ ?_ _ _ | refine State.occur_keep ?_ ?_ _ _
    | with_reducible first | refine State.logEntry_keep ?_ ?_ _ _ _ | refine Keep.ite_snd ?_ ?_
    | (extract_lets +onlyGivenNames y; have hy : Keep M r y.2 := ?_
       rotate_left; subst y; rotate_left; clear_value y)
    | split

theorem State.freeEntry_keep {M r s} (h : Keep M r s) (hM : Nat.land 4 M = 4) (a1) :
    Keep M r (State.freeEntry s a1) := by
  unfold State.freeEntry
  repeat' first
    | with_reducible first | assumption | refine State.setEntries_keep ?_ ?_ _

theorem State.cancelEntry_keep {M r s} (h : Keep M r s) (hM : Nat.land 77 M = 77) (a1) :
    Keep M r (State.cancelEntry s a1) := by
  unfold State.cancelEntry
  repeat' first
    | with_reducible assumption
    | exact Zone.sub rfl hM
    | with_reducible first | refine State.logEntry_keep ?_ ?_ _ _ _ | refine State.freeEntry_keep ?_ ?_ _

theorem State.setFr_keep {M r s} (h : Keep M r s) (hM : Nat.land 128 M = 128) (a1 a2) :
    Keep M r (State.setFr s a1 a2) := by
  unfold State.setFr
  repeat' first
    | with_reducible assumption
    | (simp -zeta only [↓Keep.mk_iff]; with_reducible refine KeepF.upd_frame ?_ ?_)

theorem State.dropCoord_keep {M r s} (h : Keep M r s) (hM : Nat.land 128 M = 128) (a1 a2 a3) :
    Keep M r (State.dropCoord s a1 a2 a3) := by
  unfold State.dropCoord
  repeat' first
    | with_reducible first | assumption | refine State.setFr_keep ?_ ?_ _ _

theorem State.missEntry_keep {M r s} (h : Keep M r s) (hM : Nat.land 77 M = 77) (a1 a2) :
    Keep M r (State.missEntry s a1 a2) := by
  unfold State.missEntry
  repeat' first
    | with_reducible assumption
    | exact Zone.sub rfl hM
    | with_reducible first | refine State.logEntry_keep ?_ ?_ _ _ _ | refine State.bump_keep ?_ ?_ _ _
    | with_reducible refine State.freeEntry_keep ?_ ?_ _

theorem State.moveLater_keep {M r s} (h : Keep M r s) (hM : Nat.land 77 M = 77) (a1) :
    Keep M r (State.moveLater s a1) := by
  unfold State.moveLater
  repeat' first
    | with_reducible assumption
    | exact Zone.sub rfl hM
    | with_reducible first | refine State.freeEntry_keep ?_ ?_ _ | refine State.dropEvent_keep ?_ ?_ _ _
    | with_reducible first | refine State.occur_keep ?_ ?_ _ _ | refine State.bump_keep ?_ ?_ _ _
    | with_reducible first | refine State.setEntries_keep ?_ ?_ _ | refine State.logEntry_keep ?_ ?_ _ _ _
    | with_reducible refine Keep.ite ?_ ?_
    | (extract_lets +onlyGivenNames y; have hy : Keep M r y := ?_
       rotate_left; subst y; rotate_left; clear_value y)
    | split

theorem State.newWrite_keep {M r s} (h : Keep M r s) (hM : Nat.land 4 M = 4) :
    Keep M r (State.newWrite s).2 := by
  unfold State.newWrite
  repeat' first
    | with_reducible assumption
    | (simp -zeta only [↓Keep.mk_iff]; with_reducible refine KeepF.upd_clk ?_ ?_ rfl)

theorem State.sendCoord_keep {M r s} (h : Keep M r s) (hM : Nat.land 128 M = 128) (a1 a2) :
    Keep M r (State.sendCoord s a1 a2) := by
  unfold State.sendCoord
  repeat' first
    | with_reducible first | assumption | refine State.setFr_keep ?_ ?_ _ _

theorem State.propose_keep {M r s} (h : Keep M r s) (hM : Nat.land 132 M = 132) (a1 a2 a3) :
    Keep M r (State.propose s a1 a2 a3).2 := by
  unfold State.propose
  repeat' first
    | with_reducible assumption
    | exact Zone.sub rfl hM
    | with_reducible first | refine State.addEntry_keep ?_ ?_ _ | refine State.sendCoord_keep ?_ ?_ _ _
    | (simp -zeta only [↓Keep.mk_iff]; with_reducible refine KeepF.upd_clk ?_ ?_ rfl)

theorem State.proposeEngine_keep {M r s} (h : Keep M r s) (hM : Nat.land 205 M = 205) (a1 a2 a3) :
    Keep M r (State.proposeEngine s a1 a2 a3).2 := by
  unfold State.proposeEngine
  repeat' first
    | with_reducible assumption
    | exact Zone.sub rfl hM
    | with_reducible first | refine State.dropEvent_keep ?_ ?_ _ _ | refine State.propose_keep ?_ ?_ _ _ _
    | with_reducible first | refine State.occur_keep ?_ ?_ _ _ | refine State.bump_keep ?_ ?_ _ _
    | with_reducible first | refine State.logEntry_keep ?_ ?_ _ _ _ | refine Keep.ite_snd ?_ ?_
    | dsimp -zeta only
    | split

theorem State.schedule_keep {M r s} (h : Keep M r s) (hM : Nat.land 4 M = 4) (a1) :
    Keep M r (State.schedule s a1).2.2 := by
  unfold State.schedule
  repeat' first
    | with_reducible first | assumption | refine State.addEntry_keep ?_ ?_ _
    | (extract_lets +onlyGivenNames y; have hy : Keep M r y.2 := ?_
       rotate_left; subst y; rotate_left; clear_value y)
    | split

theorem State.sendCancel_keep {M r s} (h : Keep M r s) (hM : Nat.land 128 M = 128) (a1) :
    Keep M r (State.sendCancel s a1) := by
  unfold State.sendCancel
  repeat' first
    | with_reducible first | assumption | refine State.dropCoord_keep ?_ ?_ _ _ _
    | with_reducible first | refine State.sendCoord_keep ?_ ?_ _ _ | refine Keep.ite ?_ ?_
    | split

theorem State.setEntry_keep {M r s} (h : Keep M r s) (hM : Nat.land 4 M = 4) (a1 a2) :
    Keep M r (State.setEntry s a1 a2) := by
  unfold State.setEntry
  repeat' first
    | with_reducible first | assumption | refine State.setEntries_keep ?_ ?_ _

theorem State.yieldSwaps_keep {M r s} (h : Keep M r s) (hM : Nat.land 77 M = 77) (a1) :
    Keep M r (State.yieldSwaps s a1) := by
  unfold State.yieldSwaps
  repeat' first
    | with_reducible assumption
    | (intro)
    | with_reducible first | refine State.moveLater_keep ?_ ?_ _ | refine Keep.foldl ?_ ?_ _

theorem State.sendResponse_keep {M r s} (h : Keep M r s) (hM : Nat.land 64 M = 64) (a1 a2) :
    Keep M r (State.sendResponse s a1 a2) := by
  unfold State.sendResponse
  repeat' first
    | with_reducible assumption
    | exact Zone.sub rfl hM
    | with_reducible refine State.sendTo_keep ?_ ?_ _ _
    | (simp -zeta only [↓Keep.mk_iff]; with_reducible refine KeepF.upd_aop ?_ ?_)
    | (extract_lets +onlyGivenNames y; have hy : Keep M r y := ?_
       rotate_left; subst y; rotate_left; clear_value y)
    | (extract_lets +onlyGivenNames y; clear_value y)

theorem State.respond_keep {M r s} (h : Keep M r s) (hM : Nat.land 64 M = 64) (a1 a2) :
    Keep M r (State.respond s a1 a2) := by
  unfold State.respond
  repeat' first
    | with_reducible first | assumption | refine State.sendResponse_keep ?_ ?_ _ _ | refine Keep.ite ?_ ?_
    | (simp -zeta only [↓Keep.mk_iff]; with_reducible refine KeepF.upd_aop ?_ ?_)
    | (extract_lets +onlyGivenNames y; clear_value y)
    | split

theorem State.accept_keep {M r s} (h : Keep M r s) (hM : Nat.land 72 M = 72) (a1 a2 a3 a4 a5 a6 a7 a8) :
    Keep M r (State.accept s a1 a2 a3 a4 a5 a6 a7 a8) := by
  unfold State.accept
  repeat' first
    | with_reducible assumption
    | exact Zone.sub rfl hM
    | with_reducible first | refine State.respond_keep ?_ ?_ _ _ | refine State.occur_keep ?_ ?_ _ _

theorem State.violate_keep {M r s} (h : Keep M r s) (hM : Nat.land 64 M = 64) (a1 a2 a3 a4 a5) :
    Keep M r (State.violate s a1 a2 a3 a4 a5) := by
  unfold State.violate
  repeat' first
    | with_reducible assumption
    | (simp -zeta only [↓Keep.mk_iff]; with_reducible refine KeepF.upd_aop ?_ ?_)
    | (extract_lets +onlyGivenNames y; clear_value y)

theorem State.refuse_keep {M r s} (h : Keep M r s) (hM : Nat.land 72 M = 72) (a1 a2 a3 a4 a5) :
    Keep M r (State.refuse s a1 a2 a3 a4 a5) := by
  unfold State.refuse
  repeat' first
    | with_reducible assumption
    | exact Zone.sub rfl hM
    | with_reducible first | refine State.respond_keep ?_ ?_ _ _ | refine State.violate_keep ?_ ?_ _ _ _ _ _
    | with_reducible refine State.occur_keep ?_ ?_ _ _

theorem State.stall_keep {M r s} (h : Keep M r s) (hM : Nat.land 64 M = 64) (a1 a2 a3 a4 a5 a6) :
    Keep M r (State.stall s a1 a2 a3 a4 a5 a6) := by
  unfold State.stall
  repeat' first
    | with_reducible assumption
    | (simp -zeta only [↓Keep.mk_iff]; with_reducible refine KeepF.upd_aop ?_ ?_)
    | (extract_lets +onlyGivenNames y; clear_value y)

theorem finishWrite_keep {M r} {p : Res × State} (h : Keep M r p.2) (hM : Nat.land 72 M = 72) (w op form o m : _) :
    Keep M r (finishWrite w op form o m p) := by
  unfold finishWrite
  exact Keep.ite (State.refuse_keep h (Zone.sub rfl hM) _ _ _ _ _) (Keep.ite h (State.accept_keep h (Zone.sub rfl hM) _ _ _ _ _ _ _ _))

theorem State.accessWrite_keep {M r s} (h : Keep M r s) (hM : Nat.land 89 M = 89) (w op o m d v) {eff : Val → State → Res × State}
    (he : ∀ v t, Keep M r t → Keep M r (eff v t).2) : Keep M r (s.accessWrite w op o m d v eff) := by
  have ha := State.accessDom_keep h (Zone.sub rfl hM) d
  have hf := fun {t} (k : Keep M r t) => finishWrite_keep (he v t k) (Zone.sub rfl hM) w op 0 o m
  unfold State.accessWrite
  extract_lets pre x
  refine Keep.ite (hf h) (Keep.ite (State.refuse_keep (ha _) (Zone.sub rfl hM) _ _ _ _ _) (Keep.ite (hf h) (Keep.ite (hf (ha _)) ?_)))
  exact State.stall_keep (ha _) (Zone.sub rfl hM) _ _ _ _ _ _

theorem State.holdWrite_keep {M r s} (h : Keep M r s) (hM : Nat.land 16 M = 16) (a1 a2 a3 a4) :
    Keep M r (State.holdWrite s a1 a2 a3 a4) := by
  unfold State.holdWrite
  repeat' first
    | with_reducible assumption
    | (simp -zeta only [↓Keep.mk_iff]; with_reducible refine KeepF.upd_pow ?_ ?_ rfl)

theorem State.refuseMsg_keep {M r s} (h : Keep M r s) (hM : Nat.land 64 M = 64) (a1 a2) :
    Keep M r (State.refuseMsg s a1 a2) := by
  unfold State.refuseMsg
  repeat' first
    | with_reducible first | assumption | refine State.sendResponse_keep ?_ ?_ _ _
    | with_reducible refine State.violate_keep ?_ ?_ _ _ _ _ _

theorem State.hostWrite_keep {M r s} (h : Keep M r s) (hM : Nat.land 89 M = 89) (w op o m v) {eff : Val → State → Res × State}
    (he : ∀ v t, Keep M r t → Keep M r (eff v t).2) : Keep M r (s.hostWrite w op o m v eff) := by
  unfold State.hostWrite
  split
  · exact State.refuseMsg_keep h (Zone.sub rfl hM) _ _
  · extract_lets c
    split
    · exact State.refuse_keep h (Zone.sub rfl hM) _ _ _ _ _
    · split
      · exact State.accessWrite_keep h (Zone.sub rfl hM) _ _ _ _ _ _ he
      · split
        · split
          · exact State.accept_keep (State.holdWrite_keep h (Zone.sub rfl hM) _ _ _ _) (Zone.sub rfl hM) _ _ _ _ _ _ _ _
          · exact finishWrite_keep (he _ _ h) (Zone.sub rfl hM) _ _ _ _ _
        · exact finishWrite_keep (he _ _ h) (Zone.sub rfl hM) _ _ _ _ _

theorem storeEffect_keep {M r s} (h : Keep M r s) (hM : Nat.land 1 M = 1) (a1 a2 a3) :
    Keep M r (storeEffect a1 a2 a3 s).2 := by
  unfold storeEffect
  repeat' first
    | with_reducible first | assumption | refine State.put_keep ?_ ?_ _ _ _ | refine State.putO_keep ?_ ?_ _ _ _
    | split

theorem State.clearAskers_keep {M r s} (h : Keep M r s) (hM : Nat.land 4 M = 4) (a1) :
    Keep M r (State.clearAskers s a1) := by
  unfold State.clearAskers
  repeat' first
    | with_reducible first | assumption | refine State.setEntries_keep ?_ ?_ _

theorem State.answerAgreed_keep {M r s} (h : Keep M r s) (hM : Nat.land 76 M = 76) (a1) :
    Keep M r (State.answerAgreed s a1) := by
  unfold State.answerAgreed
  repeat' first
    | with_reducible assumption
    | exact Zone.sub rfl hM
    | with_reducible first | refine State.clearAskers_keep ?_ ?_ _ | refine State.accept_keep ?_ ?_ _ _ _ _ _ _ _ _
    | with_reducible refine Keep.ite ?_ ?_
    | (extract_lets +onlyGivenNames y; have hy : Keep M r y := ?_
       rotate_left; subst y; rotate_left; clear_value y)
    | (extract_lets +onlyGivenNames y; clear_value y)
    | split

theorem State.answerFailed_keep {M r s} (h : Keep M r s) (hM : Nat.land 205 M = 205) (a1 a2) :
    Keep M r (State.answerFailed s a1 a2) := by
  unfold State.answerFailed
  repeat' first
    | with_reducible assumption
    | exact Zone.sub rfl hM
    | (intro)
    | with_reducible first | refine State.cancelEntry_keep ?_ ?_ _ | refine State.sendCancel_keep ?_ ?_ _
    | with_reducible first | refine State.refuse_keep ?_ ?_ _ _ _ _ _ | refine Keep.foldl ?_ ?_ _
    | (extract_lets +onlyGivenNames y; have hy : Keep M r y := ?_
       rotate_left; subst y; rotate_left; clear_value y)
    | (extract_lets +onlyGivenNames y; clear_value y)
    | split

theorem State.hostProposeAt_keep {M r s} (h : Keep M r s) (hM : Nat.land 132 M = 132) (a1 a2 a3 a4 a5 a6) :
    Keep M r (State.hostProposeAt s a1 a2 a3 a4 a5 a6).2 := by
  unfold State.hostProposeAt
  repeat' first
    | with_reducible assumption
    | exact Zone.sub rfl hM
    | with_reducible first | refine State.newWrite_keep ?_ ?_ | refine State.propose_keep ?_ ?_ _ _ _
    | with_reducible refine Keep.ite_snd ?_ ?_

theorem State.hostPropose_keep {M r s} (h : Keep M r s) (hM : Nat.land 132 M = 132) (a1 a2 a3 a4 a5 a6) :
    Keep M r (State.hostPropose s a1 a2 a3 a4 a5 a6).2 := by
  unfold State.hostPropose
  repeat' first
    | with_reducible first | assumption | refine State.hostProposeAt_keep ?_ ?_ _ _ _ _ _ _

theorem State.hostSchedule_keep {M r s} (h : Keep M r s) (hM : Nat.land 4 M = 4) (a1 a2 a3) :
    Keep M r (State.hostSchedule s a1 a2 a3).2 := by
  unfold State.hostSchedule
  repeat' first
    | with_reducible first | assumption | refine State.newWrite_keep ?_ ?_ | refine State.schedule_keep ?_ ?_ _
    | with_reducible refine Keep.ite_snd ?_ ?_

theorem State.beginErase_keep {M r s} (h : Keep M r s) (hM : Nat.land 32 M = 32) (a1) :
    Keep M r (State.beginErase s a1) := by
  unfold State.beginErase
  repeat' first
    | with_reducible assumption
    | (simp -zeta only [↓Keep.mk_iff]; with_reducible refine KeepF.upd_mem ?_ ?_ rfl)

theorem State.countSectors_keep {M r s} (h : Keep M r s) (hM : Nat.land 8 M = 8) (a1 a2) :
    Keep M r (State.countSectors s a1 a2) := by
  unfold State.countSectors
  repeat' first
    | with_reducible assumption
    | (intro)
    | with_reducible first | refine State.occur_keep ?_ ?_ _ _ | refine Keep.foldl ?_ ?_ _

theorem State.setBlock_keep {M r s} (h : Keep M r s) (hM : Nat.land 32 M = 32) (a1 a2) :
    Keep M r (State.setBlock s a1 a2) := by
  unfold State.setBlock
  repeat' first
    | with_reducible assumption
    | (simp -zeta only [↓Keep.mk_iff]; with_reducible refine KeepF.upd_mem ?_ ?_ rfl)
    | (extract_lets +onlyGivenNames y; clear_value y)

theorem State.takePages_keep {M r s t} (h : Keep M r s) (hM : Nat.land 32 M = 32) {sp fuel n l} (heq : s.takePages sp fuel n = some (l, t)) :
    Keep M r t := by
  induction fuel generalizing s n l t with
  | zero => simp [State.takePages] at heq
  | succ fuel ih =>
    unfold State.takePages at heq
    split at heq
    · simp only [Option.some.injEq, Prod.mk.injEq] at heq
      exact heq.2 ▸ h
    · extract_lets at_ at heq
      have hp : ∀ p u, at_ = some (p, u) → Keep M r u := by
        intro p u hu
        subst at_
        split at hu
        · cases hu; exact h
        · split at hu
          · cases hu
          · cases hu; exact State.setBlock_keep h (Zone.sub rfl hM) _ _
      clear_value at_
      split at heq
      · cases heq
      · rename_i p u
        extract_lets k nextAt x v at heq
        have hv : Keep M r v := by
          subst v x
          simp -zeta only [↓Keep.mk_iff]
          exact KeepF.of (hp _ _ rfl) hM rfl rfl rfl rfl rfl rfl
        clear_value v
        split at heq
        · cases heq
        · rename_i l' t' ht
          simp only [Option.some.injEq, Prod.mk.injEq] at heq
          exact heq.2 ▸ ih hv ht

theorem State.newRecord_keep {M r s t} (h : Keep M r s) (hM : Nat.land 32 M = 32) {typ region subject payload x}
    (heq : s.newRecord typ region subject payload = some (x, t)) : Keep M r t := by
  unfold State.newRecord at heq
  extract_lets n at heq
  split at heq
  · cases heq
  · rename_i ps u hu
    simp only [Option.some.injEq, Prod.mk.injEq] at heq
    rw [← heq.2]
    simp only [↓Keep.mk_iff]
    exact KeepF.of (State.takePages_keep h (Zone.sub rfl hM) hu) hM rfl rfl rfl rfl rfl rfl

theorem State.program_keep {M r s} (h : Keep M r s) (hM : Nat.land 32 M = 32) (a1 a2) :
    Keep M r (State.program s a1 a2) := by
  unfold State.program
  repeat' first
    | with_reducible assumption
    | (simp -zeta only [↓Keep.mk_iff]; with_reducible refine KeepF.upd_mem ?_ ?_ rfl)
    | (extract_lets +onlyGivenNames y; clear_value y)

theorem State.queueRecord_keep {M r s} (h : Keep M r s) (hM : Nat.land 32 M = 32) (a1 a2 a3) :
    Keep M r (State.queueRecord s a1 a2 a3) := by
  unfold State.queueRecord
  repeat' first
    | with_reducible assumption
    | (simp -zeta only [↓Keep.mk_iff]; with_reducible refine KeepF.upd_mem ?_ ?_ rfl)
    | (extract_lets +onlyGivenNames y; clear_value y)

theorem State.regionFull_keep {M r s} (h : Keep M r s) (hM : Nat.land 105 M = 105) (a1) :
    Keep M r (State.regionFull s a1) := by
  unfold State.regionFull
  repeat' first
    | with_reducible assumption
    | exact Zone.sub rfl hM
    | with_reducible first | refine State.log_keep ?_ ?_ _ _ | refine State.put_keep ?_ ?_ _ _ _
    | (simp -zeta only [↓Keep.mk_iff]; with_reducible refine KeepF.upd_mem ?_ ?_ rfl)

theorem State.relocate_keep {M r s t} (h : Keep M r s) (hM : Nat.land 32 M = 32) {b} (heq : s.relocate b = some t) : Keep M r t := by
  unfold State.relocate at heq
  extract_lets go at heq
  have hp : ∀ l u, go = some (l, u) → Keep M r u := by
    subst go
    have key : ∀ (l : List IceRec) (acc : Option (List Nat × State)), (∀ a u, acc = some (a, u) → Keep M r u) →
        ∀ a u, l.foldl (fun (acc : Option (List Nat × State)) r =>
          match acc with
          | none => none
          | some (l, s) =>
            match s.newRecord r.typ r.region r.subject r.payload with
            | none => none
            | some (x, s) => some (l ++ [x.seq], s.queueRecord x none true)) acc = some (a, u) → Keep M r u := by
      intro l
      induction l with
      | nil => intro acc ha a u hu; exact ha a u hu
      | cons x l ih =>
        intro acc ha a u hu
        refine ih _ ?_ a u hu
        intro a' u' hu'
        cases acc with
        | none => cases hu'
        | some y =>
          obtain ⟨l0, s0⟩ := y
          dsimp only at hu'
          split at hu'
          · cases hu'
          · rename_i x' s' hx
            simp only [Option.some.injEq, Prod.mk.injEq] at hu'
            exact hu'.2 ▸ State.queueRecord_keep (State.newRecord_keep (ha _ _ rfl) (Zone.sub rfl hM) hx) (Zone.sub rfl hM) _ _ _
    exact key _ _ (fun a u hu => by cases hu; exact h)
  clear_value go
  split at heq
  · cases heq
  · cases heq
    exact State.beginErase_keep (hp _ _ rfl) (Zone.sub rfl hM) _
  · cases heq
    simp only [↓Keep.mk_iff]
    exact KeepF.of (hp _ _ rfl) hM rfl rfl rfl rfl rfl rfl

theorem State.setRet_keep {M r s} (h : Keep M r s) (hM : Nat.land 32 M = 32) (a1 a2) :
    Keep M r (State.setRet s a1 a2) := by
  unfold State.setRet
  repeat' first
    | with_reducible assumption
    | (simp -zeta only [↓Keep.mk_iff]; with_reducible refine KeepF.upd_mem ?_ ?_ rfl)

theorem State.tidy_keep {M r s} (h : Keep M r s) (hM : Nat.land 32 M = 32) (a1) :
    Keep M r (State.tidy s a1) := by
  unfold State.tidy
  repeat' first
    | with_reducible assumption
    | (intro)
    | with_reducible first | refine State.beginErase_keep ?_ ?_ _ | refine State.relocate_keep ?_ ?_ (by assumption)
    | (with_reducible refine Keep.getD ?_ ?_)
    | with_reducible refine Keep.ite ?_ ?_
    | (extract_lets +onlyGivenNames y; clear_value y)
    | split

theorem State.writeRecord_keep {M r s} (h : Keep M r s) (hM : Nat.land 121 M = 121) (a1 a2 a3 a4 a5) :
    Keep M r (State.writeRecord s a1 a2 a3 a4 a5).2 := by
  unfold State.writeRecord
  repeat' first
    | with_reducible assumption
    | exact Zone.sub rfl hM
    | with_reducible first | refine State.accessDom_keep ?_ ?_ _ _ | refine State.regionFull_keep ?_ ?_ _
    | with_reducible first | refine State.tidy_keep ?_ ?_ _ | refine State.queueRecord_keep ?_ ?_ _ _ _
    | with_reducible first | refine State.newRecord_keep ?_ ?_ (by assumption) | refine Keep.ite_snd ?_ ?_
    | split

theorem State.setGr_keep {M r s} (h : Keep M r s) (hM : Nat.land 32768 M = 32768) (a1) :
    Keep M r (State.setGr s a1) := by
  unfold State.setGr
  repeat' first
    | with_reducible assumption
    | (simp -zeta only [↓Keep.mk_iff]; with_reducible refine KeepF.upd_grot ?_ ?_)

theorem State.useFailed_keep {M r s} (h : Keep M r s) (hM : Nat.land 73 M = 73) (a1 a2) :
    Keep M r (State.useFailed s a1 a2) := by
  unfold State.useFailed
  repeat' first
    | with_reducible first | assumption | refine State.logC_keep ?_ ?_ _ _ _
    | split

theorem State.complete_keep {M r s} (h : Keep M r s) (hM : Nat.land 9 M = 9) (a1 a2) :
    Keep M r (State.complete s a1 a2) := by
  unfold State.complete
  repeat' first
    | with_reducible assumption
    | exact Zone.sub rfl hM
    | with_reducible first | refine State.occur_keep ?_ ?_ _ _ | refine State.bump_keep ?_ ?_ _ _
    | with_reducible first | refine State.emit_keep ?_ ?_ _ | refine Keep.ite ?_ ?_

theorem State.abortWhere_keep {M r s} (h : Keep M r s) (hM : Nat.land 32841 M = 32841) (a1 a2) :
    Keep M r (State.abortWhere s a1 a2).2 := by
  unfold State.abortWhere
  repeat' first
    | with_reducible assumption
    | exact Zone.sub rfl hM
    | (intro)
    | with_reducible first | refine State.setGr_keep ?_ ?_ _ | refine State.useFailed_keep ?_ ?_ _ _
    | with_reducible first | refine State.complete_keep ?_ ?_ _ _ | refine Keep.foldl ?_ ?_ _

theorem State.abortOn_keep {M r s} (h : Keep M r s) (hM : Nat.land 32841 M = 32841) (a1 a2) :
    Keep M r (State.abortOn s a1 a2).2 := by
  unfold State.abortOn
  repeat' first
    | with_reducible first | assumption | refine State.abortWhere_keep ?_ ?_ _ _

theorem State.modSlot_keep {M r s} (h : Keep M r s) (hM : Nat.land 32768 M = 32768) (a1 a2) :
    Keep M r (State.modSlot s a1 a2) := by
  unfold State.modSlot
  repeat' first
    | with_reducible first | assumption | refine State.setGr_keep ?_ ?_ _

theorem State.emptySlot_keep {M r s} (h : Keep M r s) (hM : Nat.land 32768 M = 32768) (a1) :
    Keep M r (State.emptySlot s a1) := by
  unfold State.emptySlot
  repeat' first
    | with_reducible first | assumption | refine State.modSlot_keep ?_ ?_ _ _

theorem State.dropSlot_keep {M r s} (h : Keep M r s) (hM : Nat.land 32841 M = 32841) (a1 a2) :
    Keep M r (State.dropSlot s a1 a2) := by
  unfold State.dropSlot
  repeat' first
    | with_reducible assumption
    | exact Zone.sub rfl hM
    | with_reducible first | refine State.abortOn_keep ?_ ?_ _ _ | refine State.log_keep ?_ ?_ _ _
    | with_reducible refine State.emptySlot_keep ?_ ?_ _

theorem State.eraseSlot_keep {M r s} (h : Keep M r s) (hM : Nat.land 32841 M = 32841) (a1) :
    Keep M r (State.eraseSlot s a1) := by
  unfold State.eraseSlot
  repeat' first
    | with_reducible assumption
    | exact Zone.sub rfl hM
    | with_reducible first | refine State.modSlot_keep ?_ ?_ _ _ | refine State.dropSlot_keep ?_ ?_ _ _
    | with_reducible refine Keep.ite ?_ ?_

theorem State.writeSlot_keep {M r s} (h : Keep M r s) (hM : Nat.land 32768 M = 32768) (a1 a2 a3) :
    Keep M r (State.writeSlot s a1 a2 a3) := by
  unfold State.writeSlot
  repeat' first
    | with_reducible first | assumption | refine State.modSlot_keep ?_ ?_ _ _

theorem State.takeLater_keep {M r s} (h : Keep M r s) (hM : Nat.land 32768 M = 32768) (a1) :
    Keep M r (State.takeLater s a1) := by
  unfold State.takeLater
  repeat' first
    | with_reducible first | assumption | refine State.writeSlot_keep ?_ ?_ _ _ _
    | with_reducible first | refine State.modSlot_keep ?_ ?_ _ _ | refine Keep.ite ?_ ?_
    | split

theorem State.settleSlot_keep {M r s} (h : Keep M r s) (hM : Nat.land 32841 M = 32841) (a1) :
    Keep M r (State.settleSlot s a1) := by
  unfold State.settleSlot
  repeat' first
    | with_reducible assumption
    | exact Zone.sub rfl hM
    | with_reducible first | refine State.modSlot_keep ?_ ?_ _ _ | refine State.dropSlot_keep ?_ ?_ _ _
    | with_reducible first | refine State.takeLater_keep ?_ ?_ _ | refine Keep.ite ?_ ?_

theorem State.laterDue_keep {M r s} (h : Keep M r s) (hM : Nat.land 32841 M = 32841) (a1) :
    Keep M r (State.laterDue s a1) := by
  unfold State.laterDue
  repeat' first
    | with_reducible first | assumption | refine State.settleSlot_keep ?_ ?_ _
    | with_reducible first | refine State.abortWhere_keep ?_ ?_ _ _ | refine Keep.ite ?_ ?_
    | split

theorem State.putSlot_keep {M r s} (h : Keep M r s) (hM : Nat.land 32768 M = 32768) (a1 a2 a3) :
    Keep M r (State.putSlot s a1 a2 a3) := by
  unfold State.putSlot
  repeat' first
    | with_reducible first | assumption | refine State.modSlot_keep ?_ ?_ _ _
    | with_reducible first | refine State.writeSlot_keep ?_ ?_ _ _ _ | refine Keep.ite ?_ ?_

theorem State.randomWords_keep {M r s} (h : Keep M r s) (hM : Nat.land 0 M = 0) (k) : Keep M r (s.randomWords k).2 := by
  induction k generalizing s with
  | zero => exact h
  | succ k ih => exact ih (State.fresh_keep h (Zone.sub rfl hM) _)

theorem State.random_keep {M r s} (h : Keep M r s) (hM : Nat.land 0 M = 0) (a1) :
    Keep M r (State.random s a1).2 := by
  unfold State.random
  repeat' first
    | with_reducible first | assumption | refine State.randomWords_keep ?_ ?_ _

theorem State.showDepth_keep {M r s} (h : Keep M r s) (hM : Nat.land 1 M = 1) :
    Keep M r (State.showDepth s) := by
  unfold State.showDepth
  repeat' first
    | with_reducible assumption
    | (intro)
    | with_reducible first | refine State.put_keep ?_ ?_ _ _ _ | refine Keep.foldl ?_ ?_ _

theorem State.showUnit_keep {M r s} (h : Keep M r s) (hM : Nat.land 1 M = 1) (a1 a2) :
    Keep M r (State.showUnit s a1 a2) := by
  unfold State.showUnit
  repeat' first
    | with_reducible first | assumption | refine State.put_keep ?_ ?_ _ _ _

theorem State.startUnit_keep {M r s} (h : Keep M r s) (hM : Nat.land 32857 M = 32857) (a1) :
    Keep M r (State.startUnit s a1) := by
  unfold State.startUnit
  repeat' first
    | with_reducible assumption
    | exact Zone.sub rfl hM
    | with_reducible first | refine State.showUnit_keep ?_ ?_ _ _ | refine State.release_keep ?_ ?_ _ _
    | with_reducible first | refine State.ask_keep ?_ ?_ _ _ _ | refine State.setGr_keep ?_ ?_ _
    | with_reducible first | refine State.complete_keep ?_ ?_ _ _ | refine Keep.ite ?_ ?_
    | (extract_lets +onlyGivenNames y; have hy : Keep M r y := (by subst y; with_reducible assumption)
       clear hy; subst y)
    | (extract_lets +onlyGivenNames y; have hy : Keep M r y := ?_
       rotate_left; subst y; rotate_left; clear_value y)
    | (extract_lets +onlyGivenNames y; have hy : Keep M r y.2 := ?_
       rotate_left; subst y; rotate_left; clear_value y)
    | split

theorem State.startUnits_keep {M r s} (h : Keep M r s) (hM : Nat.land 32857 M = 32857) :
    Keep M r (State.startUnits s) := by
  unfold State.startUnits
  repeat' first
    | with_reducible assumption
    | exact Zone.sub rfl hM
    | (intro)
    | with_reducible first | refine State.showDepth_keep ?_ ?_ | refine State.startUnit_keep ?_ ?_ _
    | with_reducible first | refine Keep.ite ?_ ?_ | refine Keep.foldl ?_ ?_ _

theorem State.submit_keep {M r s} (h : Keep M r s) (hM : Nat.land 32857 M = 32857) (a1) :
    Keep M r (State.submit s a1) := by
  unfold State.submit
  repeat' first
    | with_reducible assumption
    | exact Zone.sub rfl hM
    | with_reducible first | refine State.accessDom_keep ?_ ?_ _ _ | refine State.useFailed_keep ?_ ?_ _ _
    | with_reducible first | refine State.complete_keep ?_ ?_ _ _ | refine State.logSecond_keep ?_ ?_ _ _ _ _
    | with_reducible first | refine State.startUnits_keep ?_ ?_ | refine State.setGr_keep ?_ ?_ _
    | with_reducible refine Keep.ite ?_ ?_

theorem State.request_keep (s : State) (a1 a2) :
    ∃ t, State.request s a1 a2 = .next t ∧ Keep 32857 s t := by
  refine ⟨_, rfl, ?_⟩
  have h := Keep.refl 32857 s
  have hM : Nat.land 32857 32857 = 32857 := rfl
  repeat' first
    | with_reducible first | assumption | refine State.submit_keep ?_ ?_ _

theorem State.writeArea_keep {M r s} (h : Keep M r s) (hM : Nat.land 8388640 M = 8388640) (a b) : Keep M r (s.writeArea a b) := by
  refine h.mem_sram _ (Zone.sub rfl hM) (fun m => ⟨sramWriteN_wf _ _ m.1, fun p hp => ?_⟩)
  rcases sramWriteN_mem hp with hp | hp
  · have := List.length_take_le (sramSize - a) b
    omega
  · exact m.2 p hp

theorem State.result_keep {M r s} (h : Keep M r s) (hM : Nat.land 8421408 M = 8421408) (a1) :
    Keep M r (State.result s a1).2 := by
  unfold State.result
  repeat' first
    | with_reducible assumption
    | exact Zone.sub rfl hM
    | with_reducible first | refine State.writeArea_keep ?_ ?_ _ _ | refine State.putSlot_keep ?_ ?_ _ _ _
    | with_reducible first | refine State.random_keep ?_ ?_ _ | refine Keep.ite ?_ ?_ | refine Keep.ite_snd ?_ ?_
    | dsimp -zeta only
    | (extract_lets +onlyGivenNames y; have hy : Keep M r y := ?_
       rotate_left; subst y; rotate_left; clear_value y)
    | (extract_lets +onlyGivenNames y; clear_value y)
    | split

theorem execEraseComplete_keep (s : State) (a1) :
    ∃ t, execEraseComplete a1 s = .next t ∧ Keep 32841 s t := by
  refine ⟨_, rfl, ?_⟩
  have h := Keep.refl 32841 s
  have hM : Nat.land 32841 32841 = 32841 := rfl
  repeat' first
    | with_reducible assumption
    | exact Zone.sub rfl hM
    | with_reducible first | refine State.takeLater_keep ?_ ?_ _ | refine State.dropSlot_keep ?_ ?_ _ _
    | with_reducible first | refine State.laterDue_keep ?_ ?_ _ | refine Keep.ite ?_ ?_
    | split

theorem execFalconSign_keep (s : State) (x) : ∃ t, execFalconSign x s = .next t ∧ Keep 32857 s t :=
  State.request_keep s _ x

theorem execFalconVerify_keep (s : State) (x) : ∃ t, execFalconVerify x s = .next t ∧ Keep 32857 s t :=
  State.request_keep s _ x

theorem execGcmDecrypt_keep (s : State) (x) : ∃ t, execGcmDecrypt x s = .next t ∧ Keep 32857 s t :=
  State.request_keep s _ x

theorem execGcmEncrypt_keep (s : State) (x) : ∃ t, execGcmEncrypt x s = .next t ∧ Keep 32857 s t :=
  State.request_keep s _ x

theorem execKmac256Derive_keep (s : State) (x) : ∃ t, execKmac256Derive x s = .next t ∧ Keep 32857 s t :=
  State.request_keep s _ x

theorem execMlKemDecapsulate_keep (s : State) (x) : ∃ t, execMlKemDecapsulate x s = .next t ∧ Keep 32857 s t :=
  State.request_keep s _ x

theorem execMlKemEncapsulate_keep (s : State) (x) : ∃ t, execMlKemEncapsulate x s = .next t ∧ Keep 32857 s t :=
  State.request_keep s _ x

theorem execMlKemKeyGeneration_keep (s : State) (x) : ∃ t, execMlKemKeyGeneration x s = .next t ∧ Keep 32857 s t :=
  State.request_keep s _ x

theorem execShake256_keep (s : State) (x) : ∃ t, execShake256 x s = .next t ∧ Keep 32857 s t :=
  State.request_keep s _ x

theorem execXtsDecrypt_keep (s : State) (x) : ∃ t, execXtsDecrypt x s = .next t ∧ Keep 32857 s t :=
  State.request_keep s _ x

theorem execXtsEncrypt_keep (s : State) (x) : ∃ t, execXtsEncrypt x s = .next t ∧ Keep 32857 s t :=
  State.request_keep s _ x

end Sys2Proof.Machine
end

