-- ==== Sys2Proof/Laws/KeepLine.lean ====
section
/-! SUPPORT. What the operations of the line: converters, equalisers, loading, decoder pool and host lanes keep. The number of each lemma is the
set of parts of the state it may change (`Keep`). -/

namespace Sys2Proof.Machine

set_option Elab.async false
set_option linter.all false

theorem State.setCv_keep {M r s} (h : Keep M r s) (hM : Nat.land 256 M = 256) (a1 a2 a3) :
    Keep M r (State.setCv s a1 a2 a3) := by
  unfold State.setCv
  repeat' first
    | with_reducible assumption
    | (simp -zeta only [↓Keep.mk_iff]; with_reducible refine KeepF.upd_conv ?_ ?_)

theorem State.applyLoad_keep {M r s} (h : Keep M r s) (hM : Nat.land 345 M = 345) (a1 a2 a3 a4) :
    Keep M r (State.applyLoad s a1 a2 a3 a4) := by
  unfold State.applyLoad
  repeat' first
    | with_reducible assumption
    | exact Zone.sub rfl hM
    | with_reducible first | refine State.release_keep ?_ ?_ _ _ | refine State.setCv_keep ?_ ?_ _ _ _
    | with_reducible first | refine State.occur_keep ?_ ?_ _ _ | refine State.logC_keep ?_ ?_ _ _ _
    | dsimp -zeta only
    | split

theorem State.armLoad_keep {M r s} (h : Keep M r s) (hM : Nat.land 589 M = 589) (a1 a2 a3 a4) :
    Keep M r (State.armLoad s a1 a2 a3 a4) := by
  unfold State.armLoad
  repeat' first
    | with_reducible assumption
    | exact Zone.sub rfl hM
    | with_reducible first | refine State.arm_keep ?_ ?_ _ | refine Keep.ite ?_ ?_
    | (simp -zeta only [↓Keep.mk_iff]; with_reducible refine KeepF.upd_cal ?_ ?_)

theorem State.armLoads_keep {M r s} (h : Keep M r s) (hM : Nat.land 589 M = 589) (a1 a2 a3) :
    Keep M r (State.armLoads s a1 a2 a3) := by
  unfold State.armLoads
  repeat' first
    | with_reducible assumption
    | (intro)
    | with_reducible first | refine State.armLoad_keep ?_ ?_ _ _ _ _ | refine Keep.foldl ?_ ?_ _

theorem State.calSave_keep {M r s} (h : Keep M r s) (hM : Nat.land 633 M = 633) (a1) :
    Keep M r (State.calSave s a1).2 := by
  unfold State.calSave
  repeat' first
    | with_reducible assumption
    | exact Zone.sub rfl hM
    | with_reducible first | refine State.writeRecord_keep ?_ ?_ _ _ _ _ _ | refine Keep.ite_snd ?_ ?_
    | (simp -zeta only [↓Keep.mk_iff]; with_reducible refine KeepF.upd_cal ?_ ?_)
    | dsimp -zeta only
    | (extract_lets +onlyGivenNames y; have hy : Keep M r y := ?_
       rotate_left; subst y; rotate_left; clear_value y)

theorem State.calSaved_keep {M r s} (h : Keep M r s) (hM : Nat.land 585 M = 585) :
    Keep M r (State.calSaved s) := by
  unfold State.calSaved
  repeat' first
    | with_reducible assumption
    | exact Zone.sub rfl hM
    | with_reducible first | refine State.log_keep ?_ ?_ _ _ | refine State.put_keep ?_ ?_ _ _ _
    | (simp -zeta only [↓Keep.mk_iff]; with_reducible refine KeepF.upd_cal ?_ ?_)

theorem State.learn_keep {M r s} (h : Keep M r s) (hM : Nat.land 512 M = 512) (a1 a2 a3) :
    Keep M r (State.learn s a1 a2 a3) := by
  unfold State.learn
  repeat' first
    | with_reducible first | assumption | refine Keep.ite ?_ ?_
    | (simp -zeta only [↓Keep.mk_iff]; with_reducible refine KeepF.upd_cal ?_ ?_)
    | (extract_lets +onlyGivenNames y; clear_value y)
    | split

theorem State.privFallback_keep {M r s} (h : Keep M r s) (hM : Nat.land 585 M = 585) (a1 a2) :
    Keep M r (State.privFallback s a1 a2) := by
  unfold State.privFallback
  repeat' first
    | with_reducible assumption
    | exact Zone.sub rfl hM
    | with_reducible first | refine State.log_keep ?_ ?_ _ _ | refine State.put_keep ?_ ?_ _ _ _
    | with_reducible refine Keep.ite ?_ ?_
    | (simp -zeta only [↓Keep.mk_iff]; with_reducible refine KeepF.upd_cal ?_ ?_)

theorem State.setSlice_keep {M r s} (h : Keep M r s) (hM : Nat.land 256 M = 256) (a1 a2 a3 a4) :
    Keep M r (State.setSlice s a1 a2 a3 a4) := by
  unfold State.setSlice
  repeat' first
    | with_reducible first | assumption | refine State.setCv_keep ?_ ?_ _ _ _

theorem State.startPriv_keep {M r s} (h : Keep M r s) (hM : Nat.land 601 M = 601) (a1 a2) :
    Keep M r (State.startPriv s a1 a2) := by
  unfold State.startPriv
  repeat' first
    | with_reducible assumption
    | exact Zone.sub rfl hM
    | (intro)
    | with_reducible first | refine State.accessDom_keep ?_ ?_ _ _ | refine State.askPrivileged_keep ?_ ?_ _ _ _
    | with_reducible first | refine State.put_keep ?_ ?_ _ _ _ | refine Keep.ite ?_ ?_ | refine Keep.foldl ?_ ?_ _
    | (simp -zeta only [↓Keep.mk_iff]; with_reducible refine KeepF.upd_cal ?_ ?_)
    | (extract_lets +onlyGivenNames y; have hy : Keep M r y := ?_
       rotate_left; subst y; rotate_left; clear_value y)
    | (extract_lets +onlyGivenNames y; clear_value y)

theorem State.setHealth_keep {M r s} (h : Keep M r s) (hM : Nat.land 329 M = 329) (a1 a2) :
    Keep M r (State.setHealth s a1 a2) := by
  unfold State.setHealth
  repeat' first
    | with_reducible assumption
    | exact Zone.sub rfl hM
    | (intro)
    | with_reducible first | refine State.logC_keep ?_ ?_ _ _ _ | refine State.setCv_keep ?_ ?_ _ _ _
    | with_reducible first | refine State.put_keep ?_ ?_ _ _ _ | refine Keep.foldl ?_ ?_ _

theorem State.endCycle_keep {M r s} (h : Keep M r s) (hM : Nat.land 345 M = 345) (a1 a2 a3) :
    Keep M r (State.endCycle s a1 a2 a3) := by
  unfold State.endCycle
  repeat' first
    | with_reducible assumption
    | exact Zone.sub rfl hM
    | with_reducible first | refine State.setCv_keep ?_ ?_ _ _ _ | refine State.setHealth_keep ?_ ?_ _ _
    | with_reducible refine State.release_keep ?_ ?_ _ _

theorem State.abandonWindow_keep {M r s} (h : Keep M r s) (hM : Nat.land 349 M = 349) (a1 a2) :
    Keep M r (State.abandonWindow s a1 a2) := by
  unfold State.abandonWindow
  repeat' first
    | with_reducible assumption
    | exact Zone.sub rfl hM
    | with_reducible first | refine State.cancelEntry_keep ?_ ?_ _ | refine State.endCycle_keep ?_ ?_ _ _ _
    | (extract_lets +onlyGivenNames y; have hy : Keep M r y := ?_
       rotate_left; subst y; rotate_left; clear_value y)
    | split

theorem State.armSwap_keep {M r s} (h : Keep M r s) (hM : Nat.land 77 M = 77) (a1 a2 a3 a4 a5) :
    Keep M r (State.armSwap s a1 a2 a3 a4 a5).2 := by
  unfold State.armSwap
  repeat' first
    | with_reducible first | assumption | refine State.arm_keep ?_ ?_ _

theorem State.cancelSwap_keep {M r s} (h : Keep M r s) (hM : Nat.land 349 M = 349) (a1 a2 a3) :
    Keep M r (State.cancelSwap s a1 a2 a3) := by
  unfold State.cancelSwap
  repeat' first
    | with_reducible assumption
    | exact Zone.sub rfl hM
    | with_reducible first | refine State.cancelEntry_keep ?_ ?_ _ | refine State.setSlice_keep ?_ ?_ _ _ _ _
    | with_reducible first | refine State.endCycle_keep ?_ ?_ _ _ _ | refine State.logC_keep ?_ ?_ _ _ _
    | with_reducible refine State.bump_keep ?_ ?_ _ _
    | (extract_lets +onlyGivenNames y; have hy : Keep M r y := ?_
       rotate_left; subst y; rotate_left; clear_value y)
    | split

theorem State.clipAlarm_keep {M r s} (h : Keep M r s) (hM : Nat.land 329 M = 329) (a1 a2 a3) :
    Keep M r (State.clipAlarm s a1 a2 a3) := by
  unfold State.clipAlarm
  repeat' first
    | with_reducible assumption
    | exact Zone.sub rfl hM
    | with_reducible first | refine State.logC_keep ?_ ?_ _ _ _ | refine State.setCv_keep ?_ ?_ _ _ _
    | with_reducible refine Keep.ite ?_ ?_

theorem State.slicesJudged_keep {M r s} (h : Keep M r s) (hM : Nat.land 256 M = 256) (a1 a2 a3) :
    Keep M r (State.slicesJudged s a1 a2 a3) := by
  unfold State.slicesJudged
  repeat' first
    | with_reducible first | assumption | refine State.setCv_keep ?_ ?_ _ _ _

theorem State.convBoundary_keep {M r s} (h : Keep M r s) (hM : Nat.land 265 M = 265) (a1 a2 a3) :
    Keep M r (State.convBoundary s a1 a2 a3) := by
  unfold State.convBoundary
  repeat' first
    | with_reducible assumption
    | exact Zone.sub rfl hM
    | with_reducible first | refine State.add64_keep ?_ ?_ _ _ _ | refine State.put_keep ?_ ?_ _ _ _
    | with_reducible first | refine State.occurN_keep ?_ ?_ _ _ _ | refine State.setCv_keep ?_ ?_ _ _ _
    | with_reducible first | refine State.slicesJudged_keep ?_ ?_ _ _ _ | refine Keep.ite ?_ ?_

theorem State.recordRetirement_keep {M r s} (h : Keep M r s) (hM : Nat.land 121 M = 121) :
    Keep M r (State.recordRetirement s) := by
  unfold State.recordRetirement
  repeat' first
    | with_reducible assumption
    | exact Zone.sub rfl hM
    | (extract_lets +onlyGivenNames y; have hy : Keep M r y := (by subst y; with_reducible assumption)
       clear hy; subst y)
    | (extract_lets +onlyGivenNames y; have hy : Keep M r y := ?_
       rotate_left; subst y; rotate_left; clear_value y)
    | (extract_lets +onlyGivenNames y; have hy : Keep M r y.2 := ?_
       rotate_left; subst y; rotate_left; clear_value y)
    | (extract_lets +onlyGivenNames y; have : Mem := y; clear this; subst y)
    | with_reducible first | refine State.writeRecord_keep ?_ ?_ _ _ _ _ _ | refine Keep.ite ?_ ?_
    | (simp -zeta only [↓Keep.mk_iff]; with_reducible refine KeepF.upd_mem ?_ ?_ rfl)

theorem State.retireSlice_keep {M r s} (h : Keep M r s) (hM : Nat.land 377 M = 377) (a1 a2 a3) :
    Keep M r (State.retireSlice s a1 a2 a3) := by
  unfold State.retireSlice
  repeat' first
    | with_reducible assumption
    | exact Zone.sub rfl hM
    | with_reducible first | refine State.setSlice_keep ?_ ?_ _ _ _ _ | refine State.setHealth_keep ?_ ?_ _ _
    | with_reducible first | refine State.logC_keep ?_ ?_ _ _ _ | refine State.recordRetirement_keep ?_ ?_

theorem State.withdraw_keep {M r s} (h : Keep M r s) (hM : Nat.land 329 M = 329) (a1 a2 a3 a4) :
    Keep M r (State.withdraw s a1 a2 a3 a4) := by
  unfold State.withdraw
  repeat' first
    | with_reducible assumption
    | exact Zone.sub rfl hM
    | with_reducible first | refine State.setHealth_keep ?_ ?_ _ _ | refine State.logC_keep ?_ ?_ _ _ _
    | with_reducible refine State.setSlice_keep ?_ ?_ _ _ _ _

theorem State.freeRelieved_keep {M r s} (h : Keep M r s) (hM : Nat.land 377 M = 377) (a1 a2 a3) :
    Keep M r (State.freeRelieved s a1 a2 a3) := by
  unfold State.freeRelieved
  repeat' first
    | with_reducible assumption
    | exact Zone.sub rfl hM
    | with_reducible first | refine State.retireSlice_keep ?_ ?_ _ _ _ | refine State.withdraw_keep ?_ ?_ _ _ _ _
    | with_reducible first | refine State.setSlice_keep ?_ ?_ _ _ _ _ | refine Keep.ite ?_ ?_

theorem State.swapDone_keep {M r s} (h : Keep M r s) (hM : Nat.land 73 M = 73) (a1 a2 a3 a4 a5 a6 a7 a8 a9) :
    Keep M r (State.swapDone s a1 a2 a3 a4 a5 a6 a7 a8 a9) := by
  unfold State.swapDone
  repeat' first
    | with_reducible assumption
    | exact Zone.sub rfl hM
    | with_reducible first | refine State.bump_keep ?_ ?_ _ _ | refine State.logC_keep ?_ ?_ _ _ _

theorem State.startCycle_keep {M r s} (h : Keep M r s) (hM : Nat.land 77 M = 77) (a1 a2) :
    Keep M r (State.startCycle s a1 a2) := by
  unfold State.startCycle
  repeat' first
    | with_reducible first | assumption | refine State.cancelEntry_keep ?_ ?_ _ | refine State.arm_keep ?_ ?_ _
    | with_reducible refine Keep.ite ?_ ?_
    | split

theorem State.relieve_keep {M r s} (h : Keep M r s) (hM : Nat.land 349 M = 349) (a1 a2 a3) :
    Keep M r (State.relieve s a1 a2 a3) := by
  unfold State.relieve
  repeat' first
    | with_reducible assumption
    | exact Zone.sub rfl hM
    | with_reducible first | refine State.setCv_keep ?_ ?_ _ _ _ | refine State.cancelEntry_keep ?_ ?_ _
    | with_reducible first | refine State.armSwap_keep ?_ ?_ _ _ _ _ _ | refine State.endCycle_keep ?_ ?_ _ _ _
    | with_reducible first | refine State.startCycle_keep ?_ ?_ _ _ | refine State.setHealth_keep ?_ ?_ _ _
    | (extract_lets +onlyGivenNames y; have hy : Keep M r y := ?_
       rotate_left; subst y; rotate_left; clear_value y)
    | (extract_lets +onlyGivenNames y; have hy : Keep M r y.2 := ?_
       rotate_left; subst y; rotate_left; clear_value y)
    | split

theorem State.sliceFails_keep {M r s} (h : Keep M r s) (hM : Nat.land 349 M = 349) (a1 a2 a3 a4) :
    Keep M r (State.sliceFails s a1 a2 a3 a4) := by
  unfold State.sliceFails
  repeat' first
    | with_reducible assumption
    | exact Zone.sub rfl hM
    | with_reducible first | refine State.setSlice_keep ?_ ?_ _ _ _ _ | refine State.relieve_keep ?_ ?_ _ _ _
    | with_reducible refine State.logC_keep ?_ ?_ _ _ _

theorem State.incomingFaulty_keep {M r s} (h : Keep M r s) (hM : Nat.land 381 M = 381) (a1 a2 a3 a4 a5) :
    Keep M r (State.incomingFaulty s a1 a2 a3 a4 a5) := by
  unfold State.incomingFaulty
  repeat' first
    | with_reducible assumption
    | exact Zone.sub rfl hM
    | with_reducible first | refine State.setSlice_keep ?_ ?_ _ _ _ _ | refine State.logC_keep ?_ ?_ _ _ _
    | with_reducible first | refine State.bump_keep ?_ ?_ _ _ | refine State.sliceFails_keep ?_ ?_ _ _ _ _
    | with_reducible first | refine State.retireSlice_keep ?_ ?_ _ _ _ | refine State.setCv_keep ?_ ?_ _ _ _
    | with_reducible first | refine State.armSwap_keep ?_ ?_ _ _ _ _ _ | refine State.setHealth_keep ?_ ?_ _ _
    | with_reducible refine Keep.ite ?_ ?_
    | (extract_lets +onlyGivenNames y; have hy : Keep M r y := ?_
       rotate_left; subst y; rotate_left; clear_value y)
    | (extract_lets +onlyGivenNames y; have hy : Keep M r y.2 := ?_
       rotate_left; subst y; rotate_left; clear_value y)
    | split

theorem State.handoverCheck_keep {M r s} (h : Keep M r s) (hM : Nat.land 893 M = 893) (a1 a2 a3 a4) :
    Keep M r (State.handoverCheck s a1 a2 a3 a4) := by
  unfold State.handoverCheck
  repeat' first
    | with_reducible assumption
    | exact Zone.sub rfl hM
    | with_reducible first | refine State.release_keep ?_ ?_ _ _ | refine State.setCv_keep ?_ ?_ _ _ _
    | with_reducible refine State.swapDone_keep ?_ ?_ _ _ _ _ _ _ _ _ _
    | with_reducible first | refine State.freeRelieved_keep ?_ ?_ _ _ _ | refine State.learn_keep ?_ ?_ _ _ _
    | with_reducible first | refine State.setSlice_keep ?_ ?_ _ _ _ _ | refine State.startCycle_keep ?_ ?_ _ _
    | with_reducible refine State.setHealth_keep ?_ ?_ _ _
    | with_reducible refine State.incomingFaulty_keep ?_ ?_ _ _ _ _ _
    | with_reducible first | refine State.retireSlice_keep ?_ ?_ _ _ _ | refine State.withdraw_keep ?_ ?_ _ _ _ _
    | with_reducible refine Keep.ite ?_ ?_
    | dsimp -zeta only
    | (extract_lets +onlyGivenNames y; have hy : Keep M r y := ?_
       rotate_left; subst y; rotate_left; clear_value y)
    | (extract_lets +onlyGivenNames y; have : _ → State := y; clear this; subst y)
    | split

theorem State.trimRefused_keep {M r s} (h : Keep M r s) (hM : Nat.land 329 M = 329) (a1 a2 a3) :
    Keep M r (State.trimRefused s a1 a2 a3) := by
  unfold State.trimRefused
  repeat' first
    | with_reducible assumption
    | exact Zone.sub rfl hM
    | with_reducible first | refine State.setCv_keep ?_ ?_ _ _ _ | refine State.bump_keep ?_ ?_ _ _
    | with_reducible first | refine State.logC_keep ?_ ?_ _ _ _ | refine Keep.ite ?_ ?_

theorem State.openWindow_keep {M r s} (h : Keep M r s) (hM : Nat.land 345 M = 345) (a1 a2) :
    Keep M r (State.openWindow s a1 a2) := by
  unfold State.openWindow
  repeat' first
    | with_reducible assumption
    | exact Zone.sub rfl hM
    | with_reducible first | refine State.ask_keep ?_ ?_ _ _ _ | refine State.trimRefused_keep ?_ ?_ _ _ _
    | with_reducible first | refine State.setCv_keep ?_ ?_ _ _ _ | refine State.setHealth_keep ?_ ?_ _ _
    | with_reducible refine Keep.ite ?_ ?_
    | (extract_lets +onlyGivenNames y; have hy : Keep M r y.2 := ?_
       rotate_left; subst y; rotate_left; clear_value y)
    | (extract_lets +onlyGivenNames y; clear_value y)
    | split

theorem State.restoreEffect_keep {M r s} (h : Keep M r s) (hM : Nat.land 381 M = 381) (a1 a2) :
    Keep M r (State.restoreEffect s a1 a2).2 := by
  unfold State.restoreEffect
  repeat' first
    | with_reducible assumption
    | exact Zone.sub rfl hM
    | with_reducible first | refine State.setSlice_keep ?_ ?_ _ _ _ _ | refine State.recordRetirement_keep ?_ ?_
    | with_reducible first | refine State.setHealth_keep ?_ ?_ _ _ | refine State.logC_keep ?_ ?_ _ _ _
    | with_reducible first | refine State.startCycle_keep ?_ ?_ _ _ | refine Keep.ite ?_ ?_
    | with_reducible refine Keep.ite_snd ?_ ?_

theorem State.retireEffect_keep {M r s} (h : Keep M r s) (hM : Nat.land 381 M = 381) (a1 a2) :
    Keep M r (State.retireEffect s a1 a2).2 := by
  unfold State.retireEffect
  repeat' first
    | with_reducible assumption
    | exact Zone.sub rfl hM
    | with_reducible first | refine State.setSlice_keep ?_ ?_ _ _ _ _ | refine State.relieve_keep ?_ ?_ _ _ _
    | with_reducible first | refine State.abandonWindow_keep ?_ ?_ _ _ | refine State.cancelSwap_keep ?_ ?_ _ _ _
    | with_reducible first | refine State.startCycle_keep ?_ ?_ _ _ | refine State.retireSlice_keep ?_ ?_ _ _ _
    | with_reducible first | refine Keep.ite ?_ ?_ | refine Keep.ite_snd ?_ ?_
    | split

theorem State.rotationCount_keep {M r s} (h : Keep M r s) (hM : Nat.land 349 M = 349) (a1 a2) :
    Keep M r (State.rotationCount s a1 a2) := by
  unfold State.rotationCount
  repeat' first
    | with_reducible assumption
    | exact Zone.sub rfl hM
    | (intro)
    | with_reducible first | refine State.cancelSwap_keep ?_ ?_ _ _ _ | refine State.logC_keep ?_ ?_ _ _ _
    | with_reducible first | refine State.startCycle_keep ?_ ?_ _ _ | refine Keep.ite ?_ ?_
    | with_reducible refine Keep.foldl ?_ ?_ _
    | (simp -zeta only [↓Keep.mk_iff]; with_reducible refine KeepF.upd_conv ?_ ?_)

theorem State.stopConv_keep {M r s} (h : Keep M r s) (hM : Nat.land 349 M = 349) (a1 a2) :
    Keep M r (State.stopConv s a1 a2) := by
  unfold State.stopConv
  repeat' first
    | with_reducible first | assumption | refine State.cancelSwap_keep ?_ ?_ _ _ _
    | with_reducible refine State.abandonWindow_keep ?_ ?_ _ _

theorem State.rotationStops_keep {M r s} (h : Keep M r s) (hM : Nat.land 349 M = 349) (a1) :
    Keep M r (State.rotationStops s a1) := by
  unfold State.rotationStops
  repeat' first
    | with_reducible assumption
    | (intro)
    | with_reducible first | refine State.stopConv_keep ?_ ?_ _ _ | refine State.abandonWindow_keep ?_ ?_ _ _
    | with_reducible first | refine Keep.ite ?_ ?_ | refine Keep.foldl ?_ ?_ _

theorem State.rotationState_keep {M r s} (h : Keep M r s) (hM : Nat.land 349 M = 349) (a1) :
    Keep M r (State.rotationState s a1) := by
  unfold State.rotationState
  repeat' first
    | with_reducible assumption
    | exact Zone.sub rfl hM
    | (intro)
    | with_reducible first | refine State.logC_keep ?_ ?_ _ _ _ | refine State.put_keep ?_ ?_ _ _ _
    | with_reducible first | refine State.rotationStops_keep ?_ ?_ _ | refine State.setCv_keep ?_ ?_ _ _ _
    | with_reducible first | refine State.startCycle_keep ?_ ?_ _ _ | refine Keep.ite ?_ ?_
    | with_reducible refine Keep.foldl ?_ ?_ _

theorem State.swapIndex_keep {M r s} (h : Keep M r s) (hM : Nat.land 0 M = 0) (a1 a2) :
    Keep M r (State.swapIndex s a1 a2).2 := by
  unfold State.swapIndex
  repeat' first
    | with_reducible first | assumption | refine State.fresh_keep ?_ ?_ _
    | (extract_lets +onlyGivenNames y; have hy : Keep M r y.2 := ?_
       rotate_left; subst y; rotate_left; clear_value y)
    | (extract_lets +onlyGivenNames y; clear_value y)
    | split

theorem State.runSwap_keep {M r s} (h : Keep M r s) (hM : Nat.land 381 M = 381) (a1 a2) :
    Keep M r (State.runSwap s a1 a2) := by
  unfold State.runSwap
  repeat' first
    | with_reducible assumption
    | exact Zone.sub rfl hM
    | with_reducible first | refine State.swapIndex_keep ?_ ?_ _ _ | refine State.setCv_keep ?_ ?_ _ _ _
    | with_reducible first | refine State.occur_keep ?_ ?_ _ _ | refine State.release_keep ?_ ?_ _ _
    | with_reducible refine State.swapDone_keep ?_ ?_ _ _ _ _ _ _ _ _ _
    | with_reducible first | refine State.retireSlice_keep ?_ ?_ _ _ _ | refine State.setHealth_keep ?_ ?_ _ _
    | with_reducible first | refine State.setSlice_keep ?_ ?_ _ _ _ _ | refine State.startCycle_keep ?_ ?_ _ _
    | with_reducible refine Keep.ite ?_ ?_
    | (extract_lets +onlyGivenNames y; have hy : Keep M r y.2 := ?_
       rotate_left; subst y; rotate_left; clear_value y)
    | (extract_lets +onlyGivenNames y; clear_value y)
    | split

theorem State.trimFailed_keep {M r s} (h : Keep M r s) (hM : Nat.land 329 M = 329) (a1 a2 a3 a4) :
    Keep M r (State.trimFailed s a1 a2 a3 a4) := by
  unfold State.trimFailed
  repeat' first
    | with_reducible assumption
    | exact Zone.sub rfl hM
    | with_reducible first | refine State.setSlice_keep ?_ ?_ _ _ _ _ | refine State.logC_keep ?_ ?_ _ _ _
    | with_reducible first | refine State.bump_keep ?_ ?_ _ _ | refine State.withdraw_keep ?_ ?_ _ _ _ _
    | with_reducible refine Keep.ite ?_ ?_

theorem execAdcClipAlarm_keep (s : State) (a1 a2) :
    ∃ t, execAdcClipAlarm a1 a2 s = .next t ∧ Keep 329 s t := by
  refine ⟨_, rfl, ?_⟩
  have h := Keep.refl 329 s
  have hM : Nat.land 329 329 = 329 := rfl
  repeat' first
    | with_reducible first | assumption | refine State.clipAlarm_keep ?_ ?_ _ _ _

theorem execDacClipAlarm_keep (s : State) (a1 a2) :
    ∃ t, execDacClipAlarm a1 a2 s = .next t ∧ Keep 329 s t := by
  refine ⟨_, rfl, ?_⟩
  have h := Keep.refl 329 s
  have hM : Nat.land 329 329 = 329 := rfl
  repeat' first
    | with_reducible first | assumption | refine State.clipAlarm_keep ?_ ?_ _ _ _

theorem execHandoverCheck_keep (s : State) (a1 a2 a3 a4) :
    ∃ t, execHandoverCheck a1 a2 a3 a4 s = .next t ∧ Keep 893 s t := by
  refine ⟨_, rfl, ?_⟩
  have h := Keep.refl 893 s
  have hM : Nat.land 893 893 = 893 := rfl
  repeat' first
    | with_reducible first | assumption | refine State.handoverCheck_keep ?_ ?_ _ _ _ _

theorem execSliceDue_keep (s : State) (a1 a2 a3 a4) :
    ∃ t, execSliceDue a1 a2 a3 a4 s = .next t ∧ Keep 333 s t := by
  refine ⟨_, rfl, ?_⟩
  have h := Keep.refl 333 s
  have hM : Nat.land 333 333 = 333 := rfl
  repeat' first
    | with_reducible assumption
    | exact Zone.sub rfl hM
    | with_reducible first | refine State.setCv_keep ?_ ?_ _ _ _ | refine State.startCycle_keep ?_ ?_ _ _
    | with_reducible first | refine State.setSlice_keep ?_ ?_ _ _ _ _ | refine Keep.ite ?_ ?_

theorem execSliceFailed_keep (s : State) (a1 a2 a3 a4) :
    ∃ t, execSliceFailed a1 a2 a3 a4 s = .next t ∧ Keep 349 s t := by
  refine ⟨_, rfl, ?_⟩
  have h := Keep.refl 349 s
  have hM : Nat.land 349 349 = 349 := rfl
  repeat' first
    | with_reducible first | assumption | refine State.sliceFails_keep ?_ ?_ _ _ _ _ | refine Keep.ite ?_ ?_

theorem execSliceOverdue_keep (s : State) (a1 a2 a3) :
    ∃ t, execSliceOverdue a1 a2 a3 s = .next t ∧ Keep 329 s t := by
  refine ⟨_, rfl, ?_⟩
  have h := Keep.refl 329 s
  have hM : Nat.land 329 329 = 329 := rfl
  repeat' first
    | with_reducible assumption
    | exact Zone.sub rfl hM
    | with_reducible first | refine State.setSlice_keep ?_ ?_ _ _ _ _ | refine State.logC_keep ?_ ?_ _ _ _
    | with_reducible refine Keep.ite ?_ ?_

theorem execSliceRestore_keep (s : State) (a1 a2 a3) :
    ∃ t, execSliceRestore a1 a2 a3 s = .next t ∧ Keep 381 s t := by
  refine ⟨_, rfl, ?_⟩
  have h := Keep.refl 381 s
  have hM : Nat.land 381 381 = 381 := rfl
  repeat' first
    | with_reducible assumption
    | exact Zone.sub rfl hM
    | with_reducible refine State.restoreEffect_keep ?_ ?_ _ _
    | with_reducible refine State.hostWrite_keep ?_ ?_ _ _ _ _ _ (fun v t h => ?_)

theorem execSliceRetire_keep (s : State) (a1 a2 a3) :
    ∃ t, execSliceRetire a1 a2 a3 s = .next t ∧ Keep 381 s t := by
  refine ⟨_, rfl, ?_⟩
  have h := Keep.refl 381 s
  have hM : Nat.land 381 381 = 381 := rfl
  repeat' first
    | with_reducible assumption
    | exact Zone.sub rfl hM
    | with_reducible refine State.retireEffect_keep ?_ ?_ _ _
    | with_reducible refine State.hostWrite_keep ?_ ?_ _ _ _ _ _ (fun v t h => ?_)

theorem execTrimExpired_keep (s : State) (a1 a2 a3) :
    ∃ t, execTrimExpired a1 a2 a3 s = .next t ∧ Keep 349 s t := by
  unfold execTrimExpired
  have h := Keep.refl 349 s
  have hM : Nat.land 349 349 = 349 := rfl
  repeat' first
    | split
    | (refine ⟨_, rfl, ?_⟩)
  repeat' first
    | with_reducible assumption
    | exact Zone.sub rfl hM
    | with_reducible first | refine State.startCycle_keep ?_ ?_ _ _ | refine State.cancelSwap_keep ?_ ?_ _ _ _

theorem execTrimFitComplete_keep (s : State) (a1 a2 a3 a4) :
    ∃ t, execTrimFitComplete a1 a2 a3 a4 s = .next t ∧ Keep 349 s t := by
  unfold execTrimFitComplete
  have h := Keep.refl 349 s
  have hM : Nat.land 349 349 = 349 := rfl
  repeat' first
    | split
    | (refine ⟨_, rfl, ?_⟩)
  repeat' first
    | with_reducible assumption
    | exact Zone.sub rfl hM
    | with_reducible first | refine State.endCycle_keep ?_ ?_ _ _ _ | refine State.setCv_keep ?_ ?_ _ _ _
    | with_reducible first | refine State.startCycle_keep ?_ ?_ _ _ | refine State.trimFailed_keep ?_ ?_ _ _ _ _
    | with_reducible first | refine State.setSlice_keep ?_ ?_ _ _ _ _ | refine State.armSwap_keep ?_ ?_ _ _ _ _ _
    | with_reducible refine State.setHealth_keep ?_ ?_ _ _
    | (extract_lets +onlyGivenNames y; have hy : Keep 349 s y := ?_
       rotate_left; subst y; rotate_left; clear_value y)
    | (extract_lets +onlyGivenNames y; have hy : Keep 349 s y.2 := ?_
       rotate_left; subst y; rotate_left; clear_value y)
    | (extract_lets +onlyGivenNames y; clear_value y)
    | split

theorem execTrimRetry_keep (s : State) (a1 a2) :
    ∃ t, execTrimRetry a1 a2 s = .next t ∧ Keep 77 s t := by
  refine ⟨_, rfl, ?_⟩
  have h := Keep.refl 77 s
  have hM : Nat.land 77 77 = 77 := rfl
  repeat' first
    | with_reducible first | assumption | refine State.startCycle_keep ?_ ?_ _ _ | refine Keep.ite ?_ ?_

theorem State.setRx_keep {M r s} (h : Keep M r s) (hM : Nat.land 1024 M = 1024) (a1 a2) :
    Keep M r (State.setRx s a1 a2) := by
  unfold State.setRx
  repeat' first
    | with_reducible assumption
    | (simp -zeta only [↓Keep.mk_iff]; with_reducible refine KeepF.upd_eq ?_ ?_)

theorem State.setLock_keep {M r s} (h : Keep M r s) (hM : Nat.land 1 M = 1) (a1 a2) :
    Keep M r (State.setLock s a1 a2) := by
  unfold State.setLock
  repeat' first
    | with_reducible first | assumption | refine State.put_keep ?_ ?_ _ _ _

theorem State.acqRefused_keep {M r s} (h : Keep M r s) (hM : Nat.land 1097 M = 1097) (a1 a2 a3) :
    Keep M r (State.acqRefused s a1 a2 a3) := by
  unfold State.acqRefused
  repeat' first
    | with_reducible assumption
    | exact Zone.sub rfl hM
    | with_reducible first | refine State.setRx_keep ?_ ?_ _ _ | refine State.setLock_keep ?_ ?_ _ _
    | with_reducible first | refine State.logC_keep ?_ ?_ _ _ _ | refine Keep.ite ?_ ?_

theorem State.setValidity_keep {M r s} (h : Keep M r s) (hM : Nat.land 1097 M = 1097) (a1 a2) :
    Keep M r (State.setValidity s a1 a2) := by
  unfold State.setValidity
  repeat' first
    | with_reducible assumption
    | exact Zone.sub rfl hM
    | with_reducible first | refine State.logC_keep ?_ ?_ _ _ _ | refine State.setRx_keep ?_ ?_ _ _
    | with_reducible refine Keep.ite ?_ ?_

theorem State.enterAcq_keep {M r s} (h : Keep M r s) (hM : Nat.land 1097 M = 1097) (a1 a2) :
    Keep M r (State.enterAcq s a1 a2) := by
  unfold State.enterAcq
  repeat' first
    | with_reducible assumption
    | exact Zone.sub rfl hM
    | with_reducible first | refine State.put_keep ?_ ?_ _ _ _ | refine State.setRx_keep ?_ ?_ _ _
    | with_reducible first | refine State.setLock_keep ?_ ?_ _ _ | refine State.setValidity_keep ?_ ?_ _ _
    | with_reducible refine Keep.ite ?_ ?_
    | (extract_lets +onlyGivenNames y; clear_value y)
    | split

theorem State.startAcq_keep {M r s} (h : Keep M r s) (hM : Nat.land 1113 M = 1113) (a1 a2) :
    Keep M r (State.startAcq s a1 a2) := by
  unfold State.startAcq
  repeat' first
    | with_reducible assumption
    | exact Zone.sub rfl hM
    | with_reducible first | refine State.setLock_keep ?_ ?_ _ _ | refine State.setRx_keep ?_ ?_ _ _
    | with_reducible first | refine State.enterAcq_keep ?_ ?_ _ _ | refine State.ask_keep ?_ ?_ _ _ _
    | with_reducible first | refine State.acqRefused_keep ?_ ?_ _ _ _ | refine Keep.ite ?_ ?_

theorem State.attemptFailed_keep {M r s} (h : Keep M r s) (hM : Nat.land 1113 M = 1113) (a1 a2) :
    Keep M r (State.attemptFailed s a1 a2) := by
  unfold State.attemptFailed
  repeat' first
    | with_reducible assumption
    | exact Zone.sub rfl hM
    | with_reducible first | refine State.setRx_keep ?_ ?_ _ _ | refine State.logC_keep ?_ ?_ _ _ _
    | with_reducible first | refine State.setLock_keep ?_ ?_ _ _ | refine State.release_keep ?_ ?_ _ _
    | with_reducible first | refine State.startAcq_keep ?_ ?_ _ _ | refine Keep.ite ?_ ?_

theorem State.cdMeasured_keep {M r s} (h : Keep M r s) (hM : Nat.land 1024 M = 1024) (a1 a2) :
    Keep M r (State.cdMeasured s a1 a2) := by
  unfold State.cdMeasured
  repeat' first
    | with_reducible first | assumption | refine State.setRx_keep ?_ ?_ _ _

theorem State.clearSignalFail_keep {M r s} (h : Keep M r s) (hM : Nat.land 1097 M = 1097) (a1) :
    Keep M r (State.clearSignalFail s a1) := by
  unfold State.clearSignalFail
  repeat' first
    | with_reducible assumption
    | exact Zone.sub rfl hM
    | with_reducible first | refine State.setRx_keep ?_ ?_ _ _ | refine State.bump_keep ?_ ?_ _ _
    | with_reducible first | refine State.logC_keep ?_ ?_ _ _ _ | refine State.setLock_keep ?_ ?_ _ _

theorem State.dispersionRecord_keep {M r s} (h : Keep M r s) (hM : Nat.land 1097 M = 1097) (a1 a2) :
    Keep M r (State.dispersionRecord s a1 a2) := by
  unfold State.dispersionRecord
  repeat' first
    | with_reducible assumption
    | exact Zone.sub rfl hM
    | with_reducible first | refine State.cdMeasured_keep ?_ ?_ _ _ | refine State.put_keep ?_ ?_ _ _ _
    | with_reducible first | refine State.setValidity_keep ?_ ?_ _ _ | refine State.setRx_keep ?_ ?_ _ _
    | with_reducible refine Keep.ite ?_ ?_

theorem State.egressFault_keep {M r s} (h : Keep M r s) (hM : Nat.land 0 M = 0) (a1 a2) :
    Keep M r (State.egressFault s a1 a2) := by
  unfold State.egressFault
  repeat' first
    | with_reducible first | assumption | refine State.emit_keep ?_ ?_ _ | refine Keep.ite ?_ ?_

theorem State.raiseSignalFail_keep {M r s} (h : Keep M r s) (hM : Nat.land 1097 M = 1097) (a1 a2) :
    Keep M r (State.raiseSignalFail s a1 a2) := by
  unfold State.raiseSignalFail
  repeat' first
    | with_reducible assumption
    | exact Zone.sub rfl hM
    | with_reducible first | refine State.setRx_keep ?_ ?_ _ _ | refine State.logC_keep ?_ ?_ _ _ _
    | with_reducible first | refine State.setLock_keep ?_ ?_ _ _ | refine State.setValidity_keep ?_ ?_ _ _
    | with_reducible refine Keep.ite ?_ ?_

theorem State.iqReset_keep {M r s} (h : Keep M r s) (hM : Nat.land 1 M = 1) (a1 a2) :
    Keep M r (State.iqReset s a1 a2) := by
  unfold State.iqReset
  repeat' first
    | with_reducible first | assumption | refine State.put_keep ?_ ?_ _ _ _

theorem State.eqPoison_keep {M r s} (h : Keep M r s) (hM : Nat.land 1097 M = 1097) (a1 a2 a3 a4) :
    Keep M r (State.eqPoison s a1 a2 a3 a4) := by
  unfold State.eqPoison
  repeat' first
    | with_reducible assumption
    | exact Zone.sub rfl hM
    | with_reducible first | refine State.logC_keep ?_ ?_ _ _ _ | refine State.bump_keep ?_ ?_ _ _
    | with_reducible first | refine State.raiseSignalFail_keep ?_ ?_ _ _ | refine State.iqReset_keep ?_ ?_ _ _
    | with_reducible refine Keep.ite ?_ ?_

theorem State.iqStep_keep {M r s} (h : Keep M r s) (hM : Nat.land 1097 M = 1097) (a1 a2 a3) :
    Keep M r (State.iqStep s a1 a2 a3) := by
  unfold State.iqStep
  repeat' first
    | with_reducible assumption
    | exact Zone.sub rfl hM
    | with_reducible first | refine State.put_keep ?_ ?_ _ _ _ | refine State.logC_keep ?_ ?_ _ _ _
    | with_reducible first | refine State.setRx_keep ?_ ?_ _ _ | refine Keep.ite ?_ ?_

theorem State.recentre_keep {M r s} (h : Keep M r s) (hM : Nat.land 1 M = 1) (a1 a2 a3) :
    Keep M r (State.recentre s a1 a2 a3) := by
  unfold State.recentre
  repeat' first
    | with_reducible first | assumption | refine State.put_keep ?_ ?_ _ _ _ | refine Keep.ite ?_ ?_

theorem State.loStep_keep {M r s} (h : Keep M r s) (hM : Nat.land 1097 M = 1097) (a1) :
    Keep M r (State.loStep s a1) := by
  unfold State.loStep
  repeat' first
    | with_reducible assumption
    | exact Zone.sub rfl hM
    | with_reducible first | refine State.setRx_keep ?_ ?_ _ _ | refine State.put_keep ?_ ?_ _ _ _
    | with_reducible first | refine State.logC_keep ?_ ?_ _ _ _ | refine Keep.ite ?_ ?_

theorem State.eqReceived_keep {M r s} (h : Keep M r s) (hM : Nat.land 1097 M = 1097) (a1 a2 a3) :
    Keep M r (State.eqReceived s a1 a2 a3) := by
  unfold State.eqReceived
  repeat' first
    | with_reducible assumption
    | exact Zone.sub rfl hM
    | (intro)
    | with_reducible first | refine State.occur_keep ?_ ?_ _ _ | refine State.iqStep_keep ?_ ?_ _ _ _
    | with_reducible first | refine State.recentre_keep ?_ ?_ _ _ _ | refine State.dispersionRecord_keep ?_ ?_ _ _
    | with_reducible first | refine State.loStep_keep ?_ ?_ _ | refine State.setRx_keep ?_ ?_ _ _
    | with_reducible first | refine State.put_keep ?_ ?_ _ _ _ | refine State.logC_keep ?_ ?_ _ _ _
    | with_reducible first | refine State.bump_keep ?_ ?_ _ _ | refine State.logLimited_keep ?_ ?_ _ _ _ _ _
    | with_reducible first | refine Keep.ite ?_ ?_ | refine Keep.foldl ?_ ?_ _
    | split

theorem State.inputBack_keep {M r s} (h : Keep M r s) (hM : Nat.land 1113 M = 1113) (a1) :
    Keep M r (State.inputBack s a1) := by
  unfold State.inputBack
  repeat' first
    | with_reducible assumption
    | exact Zone.sub rfl hM
    | with_reducible first | refine State.setLock_keep ?_ ?_ _ _ | refine State.startAcq_keep ?_ ?_ _ _
    | with_reducible first | refine State.setRx_keep ?_ ?_ _ _ | refine Keep.ite ?_ ?_
    | split

theorem State.missOverdue_keep {M r s} (h : Keep M r s) (hM : Nat.land 205 M = 205) (a1) :
    Keep M r (State.missOverdue s a1) := by
  unfold State.missOverdue
  repeat' first
    | with_reducible assumption
    | exact Zone.sub rfl hM
    | (intro)
    | with_reducible first | refine State.missEntry_keep ?_ ?_ _ _ | refine State.setFr_keep ?_ ?_ _ _
    | with_reducible first | refine Keep.ite ?_ ?_ | refine Keep.foldl ?_ ?_ _

theorem State.loseFrameLock_keep {M r s} (h : Keep M r s) (hM : Nat.land 477 M = 477) (a1 a2) :
    Keep M r (State.loseFrameLock s a1 a2) := by
  unfold State.loseFrameLock
  repeat' first
    | with_reducible assumption
    | exact Zone.sub rfl hM
    | (intro)
    | with_reducible first | refine State.bump_keep ?_ ?_ _ _ | refine State.put_keep ?_ ?_ _ _ _
    | with_reducible first | refine State.setFr_keep ?_ ?_ _ _ | refine State.logC_keep ?_ ?_ _ _ _
    | with_reducible first | refine State.egressFault_keep ?_ ?_ _ _ | refine State.missOverdue_keep ?_ ?_ _
    | with_reducible first | refine State.rotationCount_keep ?_ ?_ _ _ | refine Keep.ite ?_ ?_
    | with_reducible refine Keep.foldl ?_ ?_ _

theorem State.restartAcq_keep {M r s} (h : Keep M r s) (hM : Nat.land 1501 M = 1501) (a1 a2 a3 a4 a5) :
    Keep M r (State.restartAcq s a1 a2 a3 a4 a5) := by
  unfold State.restartAcq
  repeat' first
    | with_reducible assumption
    | exact Zone.sub rfl hM
    | with_reducible first | refine State.put_keep ?_ ?_ _ _ _ | refine State.logC_keep ?_ ?_ _ _ _
    | with_reducible first | refine State.startAcq_keep ?_ ?_ _ _ | refine State.loseFrameLock_keep ?_ ?_ _ _
    | with_reducible refine Keep.ite ?_ ?_

theorem State.loFrequencyEffect_keep {M r s} (h : Keep M r s) (hM : Nat.land 1501 M = 1501) (a1 a2) :
    Keep M r (State.loFrequencyEffect s a1 a2).2 := by
  unfold State.loFrequencyEffect
  repeat' first
    | with_reducible assumption
    | exact Zone.sub rfl hM
    | with_reducible first | refine State.setRx_keep ?_ ?_ _ _ | refine State.put_keep ?_ ?_ _ _ _
    | with_reducible refine State.restartAcq_keep ?_ ?_ _ _ _ _ _

theorem State.lossOfLock_keep {M r s} (h : Keep M r s) (hM : Nat.land 1501 M = 1501) (a1) :
    Keep M r (State.lossOfLock s a1) := by
  unfold State.lossOfLock
  repeat' first
    | with_reducible assumption
    | exact Zone.sub rfl hM
    | with_reducible first | refine State.logC_keep ?_ ?_ _ _ _ | refine State.bump_keep ?_ ?_ _ _
    | with_reducible first | refine State.setRx_keep ?_ ?_ _ _ | refine State.startAcq_keep ?_ ?_ _ _
    | with_reducible refine State.loseFrameLock_keep ?_ ?_ _ _

theorem State.stepFailed_keep {M r s} (h : Keep M r s) (hM : Nat.land 1113 M = 1113) (a1 a2) :
    Keep M r (State.stepFailed s a1 a2) := by
  unfold State.stepFailed
  repeat' first
    | with_reducible assumption
    | exact Zone.sub rfl hM
    | with_reducible first | refine State.setLock_keep ?_ ?_ _ _ | refine State.setRx_keep ?_ ?_ _ _
    | with_reducible refine State.attemptFailed_keep ?_ ?_ _ _
    | split

theorem State.reachTracking_keep {M r s} (h : Keep M r s) (hM : Nat.land 1241 M = 1241) (a1) :
    Keep M r (State.reachTracking s a1) := by
  unfold State.reachTracking
  repeat' first
    | with_reducible assumption
    | exact Zone.sub rfl hM
    | with_reducible first | refine State.put_keep ?_ ?_ _ _ _ | refine State.setLock_keep ?_ ?_ _ _
    | with_reducible first | refine State.release_keep ?_ ?_ _ _ | refine State.setRx_keep ?_ ?_ _ _
    | with_reducible first | refine State.setFr_keep ?_ ?_ _ _ | refine State.logC_keep ?_ ?_ _ _ _

theorem State.pilotWindow_keep {M r s} (h : Keep M r s) (hM : Nat.land 1241 M = 1241) (a1 a2) :
    Keep M r (State.pilotWindow s a1 a2) := by
  unfold State.pilotWindow
  repeat' first
    | with_reducible assumption
    | exact Zone.sub rfl hM
    | with_reducible first | refine State.setRx_keep ?_ ?_ _ _ | refine State.stepFailed_keep ?_ ?_ _ _
    | with_reducible first | refine State.reachTracking_keep ?_ ?_ _ | refine State.raiseSignalFail_keep ?_ ?_ _ _
    | with_reducible first | refine State.clearSignalFail_keep ?_ ?_ _ | refine Keep.ite ?_ ?_

theorem execAcquisitionLedgerRetry_keep (s : State) (a1) :
    ∃ t, execAcquisitionLedgerRetry a1 s = .next t ∧ Keep 1113 s t := by
  refine ⟨_, rfl, ?_⟩
  have h := Keep.refl 1113 s
  have hM : Nat.land 1113 1113 = 1113 := rfl
  repeat' first
    | with_reducible first | assumption | refine State.startAcq_keep ?_ ?_ _ _ | refine Keep.ite ?_ ?_

theorem execAcquisitionStepComplete_keep (s : State) (a1 a2) :
    ∃ t, execAcquisitionStepComplete a1 a2 s = .next t ∧ Keep 1241 s t := by
  refine ⟨_, rfl, ?_⟩
  have h := Keep.refl 1241 s
  have hM : Nat.land 1241 1241 = 1241 := rfl
  repeat' first
    | with_reducible assumption
    | exact Zone.sub rfl hM
    | (intro)
    | with_reducible first | refine State.setLock_keep ?_ ?_ _ _ | refine State.setRx_keep ?_ ?_ _ _
    | with_reducible first | refine State.stepFailed_keep ?_ ?_ _ _ | refine State.attemptFailed_keep ?_ ?_ _ _
    | with_reducible first | refine State.put_keep ?_ ?_ _ _ _ | refine State.pilotWindow_keep ?_ ?_ _ _
    | with_reducible first | refine Keep.ite ?_ ?_ | refine Keep.foldl ?_ ?_ _

theorem execAcquisitionStepFailed_keep (s : State) (a1 a2) :
    ∃ t, execAcquisitionStepFailed a1 a2 s = .next t ∧ Keep 1113 s t := by
  refine ⟨_, rfl, ?_⟩
  have h := Keep.refl 1113 s
  have hM : Nat.land 1113 1113 = 1113 := rfl
  repeat' first
    | with_reducible first | assumption | refine State.stepFailed_keep ?_ ?_ _ _ | refine Keep.ite ?_ ?_

theorem execAcquisitionWaitEnd_keep (s : State) (a1) :
    ∃ t, execAcquisitionWaitEnd a1 s = .next t ∧ Keep 1113 s t := by
  refine ⟨_, rfl, ?_⟩
  have h := Keep.refl 1113 s
  have hM : Nat.land 1113 1113 = 1113 := rfl
  repeat' first
    | with_reducible assumption
    | exact Zone.sub rfl hM
    | with_reducible first | refine State.startAcq_keep ?_ ?_ _ _ | refine State.setRx_keep ?_ ?_ _ _
    | with_reducible refine Keep.ite ?_ ?_
    | split

theorem execRecordValid_keep (s : State) (a1) :
    ∃ t, execRecordValid a1 s = .next t ∧ Keep 1097 s t := by
  refine ⟨_, rfl, ?_⟩
  have h := Keep.refl 1097 s
  have hM : Nat.land 1097 1097 = 1097 := rfl
  repeat' first
    | with_reducible assumption
    | exact Zone.sub rfl hM
    | with_reducible first | refine State.setRx_keep ?_ ?_ _ _ | refine State.setValidity_keep ?_ ?_ _ _
    | with_reducible first | refine State.put_keep ?_ ?_ _ _ _ | refine Keep.ite ?_ ?_

theorem execLoFrequencyWrite_keep (s : State) (a1 a2 a3) :
    ∃ t, execLoFrequencyWrite a1 a2 a3 s = .next t ∧ Keep 1501 s t := by
  refine ⟨_, rfl, ?_⟩
  have h := Keep.refl 1501 s
  have hM : Nat.land 1501 1501 = 1501 := rfl
  repeat' first
    | with_reducible assumption
    | exact Zone.sub rfl hM
    | with_reducible refine State.loFrequencyEffect_keep ?_ ?_ _ _
    | with_reducible refine State.hostWrite_keep ?_ ?_ _ _ _ _ _ (fun v t h => ?_)

theorem execLossOfInput_keep (s : State) (a1 a2 a3) :
    ∃ t, execLossOfInput a1 a2 a3 s = .next t ∧ Keep 1373 s t := by
  refine ⟨_, rfl, ?_⟩
  have h := Keep.refl 1373 s
  have hM : Nat.land 1373 1373 = 1373 := rfl
  repeat' first
    | with_reducible assumption
    | exact Zone.sub rfl hM
    | with_reducible first | refine State.setCv_keep ?_ ?_ _ _ _ | refine State.logC_keep ?_ ?_ _ _ _
    | with_reducible first | refine State.setRx_keep ?_ ?_ _ _ | refine State.rotationState_keep ?_ ?_ _
    | with_reducible first | refine State.raiseSignalFail_keep ?_ ?_ _ _ | refine State.setLock_keep ?_ ?_ _ _
    | with_reducible first | refine State.release_keep ?_ ?_ _ _ | refine Keep.ite ?_ ?_

theorem execLossOfLock_keep (s : State) (a1) :
    ∃ t, execLossOfLock a1 s = .next t ∧ Keep 1501 s t := by
  refine ⟨_, rfl, ?_⟩
  have h := Keep.refl 1501 s
  have hM : Nat.land 1501 1501 = 1501 := rfl
  repeat' first
    | with_reducible first | assumption | refine State.lossOfLock_keep ?_ ?_ _ | refine Keep.ite ?_ ?_

theorem execPilotWindowEnd_keep (s : State) (a1 a2) :
    ∃ t, execPilotWindowEnd a1 a2 s = .next t ∧ Keep 1241 s t := by
  refine ⟨_, rfl, ?_⟩
  have h := Keep.refl 1241 s
  have hM : Nat.land 1241 1241 = 1241 := rfl
  repeat' first
    | with_reducible first | assumption | refine State.pilotWindow_keep ?_ ?_ _ _

theorem State.setLd_keep {M r s} (h : Keep M r s) (hM : Nat.land 2048 M = 2048) (a1 a2) :
    Keep M r (State.setLd s a1 a2) := by
  unfold State.setLd
  repeat' first
    | with_reducible assumption
    | (simp -zeta only [↓Keep.mk_iff]; with_reducible refine KeepF.upd_load ?_ ?_)

theorem State.setLoading_keep {M r s} (h : Keep M r s) (hM : Nat.land 2049 M = 2049) (a1 a2 a3) :
    Keep M r (State.setLoading s a1 a2 a3) := by
  unfold State.setLoading
  repeat' first
    | with_reducible assumption
    | exact Zone.sub rfl hM
    | (intro)
    | with_reducible first | refine State.put_keep ?_ ?_ _ _ _ | refine State.setLd_keep ?_ ?_ _ _
    | with_reducible refine Keep.foldl ?_ ?_ _
    | dsimp -zeta only
    | (extract_lets +onlyGivenNames y; have hy : Keep M r y := ?_
       rotate_left; subst y; rotate_left; clear_value y)
    | (extract_lets +onlyGivenNames y; clear_value y)
    | split

theorem State.applyLoading_keep {M r s} (h : Keep M r s) (hM : Nat.land 2137 M = 2137) (a1 a2 a3) :
    Keep M r (State.applyLoading s a1 a2 a3) := by
  unfold State.applyLoading
  repeat' first
    | with_reducible assumption
    | exact Zone.sub rfl hM
    | with_reducible first | refine State.setLoading_keep ?_ ?_ _ _ _ | refine State.bump_keep ?_ ?_ _ _
    | with_reducible first | refine State.setLd_keep ?_ ?_ _ _ | refine State.release_keep ?_ ?_ _ _
    | with_reducible first | refine State.logC_keep ?_ ?_ _ _ _ | refine Keep.ite ?_ ?_

theorem State.askRaise_keep {M r s} (h : Keep M r s) (hM : Nat.land 89 M = 89) (a1 a2 a3) :
    Keep M r (State.askRaise s a1 a2 a3).2 := by
  unfold State.askRaise
  repeat' first
    | with_reducible assumption
    | exact Zone.sub rfl hM
    | (intro)
    | with_reducible first | refine State.refuseCost_keep ?_ ?_ _ _ _ | refine State.occur_keep ?_ ?_ _ _
    | with_reducible first | refine State.enter_keep ?_ ?_ _ _ _ | refine State.accessDom_keep ?_ ?_ _ _
    | with_reducible first | refine Keep.ite ?_ ?_ | refine Keep.ite_snd ?_ ?_ | refine Keep.foldl ?_ ?_ _

theorem State.impliedGone_keep {M r s} (h : Keep M r s) (hM : Nat.land 20 M = 20) (a1) :
    Keep M r (State.impliedGone s a1) := by
  unfold State.impliedGone
  repeat' first
    | with_reducible assumption
    | exact Zone.sub rfl hM
    | with_reducible first | refine State.release_keep ?_ ?_ _ _ | refine State.setEntries_keep ?_ ?_ _
    | split

theorem State.cancelOwn_keep {M r s} (h : Keep M r s) (hM : Nat.land 221 M = 221) (a1) :
    Keep M r (State.cancelOwn s a1) := by
  unfold State.cancelOwn
  repeat' first
    | with_reducible assumption
    | exact Zone.sub rfl hM
    | with_reducible first | refine State.impliedGone_keep ?_ ?_ _ | refine State.cancelEntry_keep ?_ ?_ _
    | with_reducible refine State.sendCancel_keep ?_ ?_ _

theorem State.impliedMap_keep {M r s} (h : Keep M r s) (hM : Nat.land 4 M = 4) (a1) :
    Keep M r (State.impliedMap s a1) := by
  unfold State.impliedMap
  repeat' first
    | with_reducible first | assumption | refine State.addEntry_keep ?_ ?_ _ | refine Keep.ite ?_ ?_

theorem State.raiseLater_keep {M r s} (h : Keep M r s) (hM : Nat.land 2048 M = 2048) (a1) :
    Keep M r (State.raiseLater s a1) := by
  unfold State.raiseLater
  repeat' first
    | with_reducible first | assumption | refine State.setLd_keep ?_ ?_ _ _

theorem State.loadingFailed_keep {M r s} (h : Keep M r s) (hM : Nat.land 2048 M = 2048) (a1 a2) :
    Keep M r (State.loadingFailed s a1 a2) := by
  unfold State.loadingFailed
  repeat' first
    | with_reducible first | assumption | refine State.raiseLater_keep ?_ ?_ _ | refine State.setLd_keep ?_ ?_ _ _
    | with_reducible refine Keep.ite ?_ ?_

theorem State.loadingNoReply_keep {M r s} (h : Keep M r s) (hM : Nat.land 2121 M = 2121) (a1 a2) :
    Keep M r (State.loadingNoReply s a1 a2) := by
  unfold State.loadingNoReply
  repeat' first
    | with_reducible assumption
    | exact Zone.sub rfl hM
    | with_reducible first | refine State.logC_keep ?_ ?_ _ _ _ | refine State.bump_keep ?_ ?_ _ _
    | with_reducible refine State.loadingFailed_keep ?_ ?_ _ _

theorem State.marginAlarmStep_keep {M r s} (h : Keep M r s) (hM : Nat.land 2121 M = 2121) (a1) :
    Keep M r (State.marginAlarmStep s a1) := by
  unfold State.marginAlarmStep
  repeat' first
    | with_reducible assumption
    | exact Zone.sub rfl hM
    | with_reducible first | refine State.setLd_keep ?_ ?_ _ _ | refine State.put_keep ?_ ?_ _ _ _
    | with_reducible first | refine State.logC_keep ?_ ?_ _ _ _ | refine Keep.ite ?_ ?_

theorem State.snrMeasured_keep {M r s} (h : Keep M r s) (hM : Nat.land 2049 M = 2049) (a1 a2) :
    Keep M r (State.snrMeasured s a1 a2) := by
  unfold State.snrMeasured
  repeat' first
    | with_reducible assumption
    | exact Zone.sub rfl hM
    | (intro)
    | with_reducible first | refine State.setLd_keep ?_ ?_ _ _ | refine State.put_keep ?_ ?_ _ _ _
    | with_reducible refine Keep.foldl ?_ ?_ _

theorem State.proposeLoading_keep {M r s} (h : Keep M r s) (hM : Nat.land 2269 M = 2269) (a1 a2 a3 a4) :
    Keep M r (State.proposeLoading s a1 a2 a3 a4) := by
  unfold State.proposeLoading
  repeat' first
    | with_reducible assumption
    | exact Zone.sub rfl hM
    | with_reducible first | refine State.logC_keep ?_ ?_ _ _ _ | refine State.raiseLater_keep ?_ ?_ _
    | with_reducible first | refine State.setLd_keep ?_ ?_ _ _ | refine State.askRaise_keep ?_ ?_ _ _ _
    | with_reducible first | refine State.proposeEngine_keep ?_ ?_ _ _ _ | refine State.release_keep ?_ ?_ _ _
    | with_reducible first | refine State.bump_keep ?_ ?_ _ _ | refine State.yieldSwaps_keep ?_ ?_ _
    | with_reducible refine Keep.ite ?_ ?_
    | (extract_lets +onlyGivenNames y; have hy : Keep M r y := (by subst y; with_reducible assumption)
       clear hy; subst y)
    | (extract_lets +onlyGivenNames y; have hy : Keep M r y.2 := ?_
       rotate_left; subst y; rotate_left; clear_value y)
    | (extract_lets +onlyGivenNames y; clear_value y)
    | split

theorem State.raiseStep_keep {M r s} (h : Keep M r s) (hM : Nat.land 2269 M = 2269) (a1) :
    Keep M r (State.raiseStep s a1) := by
  unfold State.raiseStep
  repeat' first
    | with_reducible first | assumption | refine State.proposeLoading_keep ?_ ?_ _ _ _ _ | refine Keep.ite ?_ ?_

theorem State.policyRun_keep {M r s} (h : Keep M r s) (hM : Nat.land 2269 M = 2269) (a1) :
    Keep M r (State.policyRun s a1) := by
  unfold State.policyRun
  repeat' first
    | with_reducible assumption
    | exact Zone.sub rfl hM
    | (intro)
    | with_reducible first | refine State.proposeLoading_keep ?_ ?_ _ _ _ _ | refine State.setLd_keep ?_ ?_ _ _
    | with_reducible first | refine State.raiseLater_keep ?_ ?_ _ | refine State.cancelOwn_keep ?_ ?_ _
    | with_reducible first | refine State.raiseStep_keep ?_ ?_ _ | refine Keep.ite ?_ ?_ | refine Keep.foldl ?_ ?_ _

theorem State.loadingReceived_keep {M r s} (h : Keep M r s) (hM : Nat.land 3293 M = 3293) (a1 a2) :
    Keep M r (State.loadingReceived s a1 a2) := by
  unfold State.loadingReceived
  repeat' first
    | with_reducible assumption
    | exact Zone.sub rfl hM
    | with_reducible first | refine State.marginAlarmStep_keep ?_ ?_ _ | refine State.snrMeasured_keep ?_ ?_ _ _
    | with_reducible first | refine State.setRx_keep ?_ ?_ _ _ | refine State.setLd_keep ?_ ?_ _ _
    | with_reducible first | refine State.policyRun_keep ?_ ?_ _ | refine Keep.ite ?_ ?_

theorem State.loadingRefused_keep {M r s} (h : Keep M r s) (hM : Nat.land 2121 M = 2121) (a1 a2 a3 a4) :
    Keep M r (State.loadingRefused s a1 a2 a3 a4) := by
  unfold State.loadingRefused
  repeat' first
    | with_reducible assumption
    | exact Zone.sub rfl hM
    | with_reducible first | refine State.logC_keep ?_ ?_ _ _ _ | refine State.bump_keep ?_ ?_ _ _
    | with_reducible first | refine State.loadingFailed_keep ?_ ?_ _ _ | refine State.setLd_keep ?_ ?_ _ _

theorem State.setMap_keep {M r s} (h : Keep M r s) (hM : Nat.land 128 M = 128) (a1 a2 a3) :
    Keep M r (State.setMap s a1 a2 a3) := by
  unfold State.setMap
  repeat' first
    | with_reducible first | assumption | refine State.setFr_keep ?_ ?_ _ _

theorem State.ceilingEffect_keep {M r s} (h : Keep M r s) (hM : Nat.land 2269 M = 2269) (a1 a2 a3) :
    Keep M r (State.ceilingEffect s a1 a2 a3).2 := by
  unfold State.ceilingEffect
  repeat' first
    | with_reducible assumption
    | exact Zone.sub rfl hM
    | with_reducible first | refine State.put_keep ?_ ?_ _ _ _ | refine State.setLd_keep ?_ ?_ _ _
    | with_reducible first | refine State.proposeLoading_keep ?_ ?_ _ _ _ _ | refine Keep.ite ?_ ?_
    | with_reducible refine Keep.ite_snd ?_ ?_

theorem State.floorEffect_keep {M r s} (h : Keep M r s) (hM : Nat.land 1 M = 1) (a1 a2 a3) :
    Keep M r (State.floorEffect s a1 a2 a3).2 := by
  unfold State.floorEffect
  repeat' first
    | with_reducible first | assumption | refine State.put_keep ?_ ?_ _ _ _ | refine Keep.ite_snd ?_ ?_

theorem State.loadingRequestEffect_keep {M r s} (h : Keep M r s) (hM : Nat.land 2269 M = 2269) (a1 a2 a3) :
    Keep M r (State.loadingRequestEffect s a1 a2 a3).2 := by
  unfold State.loadingRequestEffect
  repeat' first
    | with_reducible assumption
    | exact Zone.sub rfl hM
    | with_reducible first | refine State.hostPropose_keep ?_ ?_ _ _ _ _ _ _ | refine State.logC_keep ?_ ?_ _ _ _
    | with_reducible first | refine State.askRaise_keep ?_ ?_ _ _ _ | refine State.bump_keep ?_ ?_ _ _
    | with_reducible first | refine State.yieldSwaps_keep ?_ ?_ _ | refine State.setLd_keep ?_ ?_ _ _
    | with_reducible first | refine Keep.ite ?_ ?_ | refine Keep.ite_snd ?_ ?_
    | dsimp -zeta only
    | split

theorem State.policyRateEffect_keep {M r s} (h : Keep M r s) (hM : Nat.land 2269 M = 2269) (a1 a2) :
    Keep M r (State.policyRateEffect s a1 a2).2 := by
  unfold State.policyRateEffect
  repeat' first
    | with_reducible assumption
    | exact Zone.sub rfl hM
    | with_reducible first | refine State.put_keep ?_ ?_ _ _ _ | refine State.proposeLoading_keep ?_ ?_ _ _ _ _
    | with_reducible refine Keep.ite ?_ ?_

theorem execCapCeilingExpire_keep (s : State) (a1) :
    ∃ t, execCapCeilingExpire a1 s = .next t ∧ Keep 2048 s t := by
  refine ⟨_, rfl, ?_⟩
  have h := Keep.refl 2048 s
  have hM : Nat.land 2048 2048 = 2048 := rfl
  repeat' first
    | with_reducible first | assumption | refine State.setLd_keep ?_ ?_ _ _ | refine Keep.ite ?_ ?_
    | split

theorem execLoadingCeilingWrite_keep (s : State) (a1 a2 a3 a4) :
    ∃ t, execLoadingCeilingWrite a1 a2 a3 a4 s = .next t ∧ Keep 2269 s t := by
  refine ⟨_, rfl, ?_⟩
  have h := Keep.refl 2269 s
  have hM : Nat.land 2269 2269 = 2269 := rfl
  repeat' first
    | with_reducible assumption
    | exact Zone.sub rfl hM
    | with_reducible refine State.ceilingEffect_keep ?_ ?_ _ _ _
    | with_reducible refine State.hostWrite_keep ?_ ?_ _ _ _ _ _ (fun v t h => ?_)

theorem execLoadingRequest_keep (s : State) (a1 a2 a3) :
    ∃ t, execLoadingRequest a1 a2 a3 s = .next t ∧ Keep 2269 s t := by
  refine ⟨_, rfl, ?_⟩
  have h := Keep.refl 2269 s
  have hM : Nat.land 2269 2269 = 2269 := rfl
  repeat' first
    | with_reducible assumption
    | exact Zone.sub rfl hM
    | with_reducible refine State.loadingRequestEffect_keep ?_ ?_ _ _ _
    | with_reducible refine State.hostWrite_keep ?_ ?_ _ _ _ _ _ (fun v t h => ?_)

theorem execPolicyCodeRateWrite_keep (s : State) (a1 a2 a3) :
    ∃ t, execPolicyCodeRateWrite a1 a2 a3 s = .next t ∧ Keep 2269 s t := by
  refine ⟨_, rfl, ?_⟩
  have h := Keep.refl 2269 s
  have hM : Nat.land 2269 2269 = 2269 := rfl
  repeat' first
    | with_reducible assumption
    | exact Zone.sub rfl hM
    | with_reducible refine State.policyRateEffect_keep ?_ ?_ _ _
    | with_reducible refine State.hostWrite_keep ?_ ?_ _ _ _ _ _ (fun v t h => ?_)

theorem State.setPool_keep {M r s} (h : Keep M r s) (hM : Nat.land 4096 M = 4096) (a1) :
    Keep M r (State.setPool s a1) := by
  unfold State.setPool
  repeat' first
    | with_reducible assumption
    | (simp -zeta only [↓Keep.mk_iff]; with_reducible refine KeepF.upd_pool ?_ ?_)

theorem State.wakeBank_keep {M r s} (h : Keep M r s) (hM : Nat.land 4185 M = 4185) (a1) :
    Keep M r (State.wakeBank s a1) := by
  unfold State.wakeBank
  repeat' first
    | with_reducible assumption
    | exact Zone.sub rfl hM
    | with_reducible first | refine State.accessDom_keep ?_ ?_ _ _ | refine State.setPool_keep ?_ ?_ _
    | with_reducible first | refine State.log_keep ?_ ?_ _ _ | refine Keep.ite ?_ ?_

theorem State.setBankSt_keep {M r s} (h : Keep M r s) (hM : Nat.land 1 M = 1) (a1 a2) :
    Keep M r (State.setBankSt s a1 a2) := by
  unfold State.setBankSt
  repeat' first
    | with_reducible first | assumption | refine State.put_keep ?_ ?_ _ _ _

theorem State.activeSet_keep {M r s} (h : Keep M r s) (hM : Nat.land 4185 M = 4185) :
    Keep M r (State.activeSet s) := by
  unfold State.activeSet
  repeat' first
    | with_reducible assumption
    | exact Zone.sub rfl hM
    | (intro)
    | with_reducible first | refine State.wakeBank_keep ?_ ?_ _ | refine State.touch_keep ?_ ?_ _
    | with_reducible first | refine State.setBankSt_keep ?_ ?_ _ _ | refine State.log_keep ?_ ?_ _ _
    | with_reducible first | refine State.put_keep ?_ ?_ _ _ _ | refine Keep.ite ?_ ?_ | refine Keep.foldl ?_ ?_ _

theorem State.grantLogged_keep {M r s} (h : Keep M r s) (hM : Nat.land 73 M = 73) (a1 a2 a3) :
    Keep M r (State.grantLogged s a1 a2 a3) := by
  unfold State.grantLogged
  repeat' first
    | with_reducible first | assumption | refine State.log_keep ?_ ?_ _ _

theorem State.setGap_keep {M r s} (h : Keep M r s) (hM : Nat.land 2049 M = 2049) (a1) :
    Keep M r (State.setGap s a1) := by
  unfold State.setGap
  repeat' first
    | with_reducible assumption
    | exact Zone.sub rfl hM
    | with_reducible refine State.put_keep ?_ ?_ _ _ _
    | (simp -zeta only [↓Keep.mk_iff]; with_reducible refine KeepF.upd_load ?_ ?_)

theorem State.publishGap_keep {M r s} (h : Keep M r s) (hM : Nat.land 2049 M = 2049) (a1) :
    Keep M r (State.publishGap s a1) := by
  unfold State.publishGap
  repeat' first
    | with_reducible first | assumption | refine State.setGap_keep ?_ ?_ _

theorem State.askGrant_keep {M r s} (h : Keep M r s) (hM : Nat.land 6233 M = 6233) :
    Keep M r (State.askGrant s) := by
  unfold State.askGrant
  repeat' first
    | with_reducible assumption
    | exact Zone.sub rfl hM
    | with_reducible first | refine State.setPool_keep ?_ ?_ _ | refine State.ask_keep ?_ ?_ _ _ _
    | with_reducible first | refine State.grantLogged_keep ?_ ?_ _ _ _ | refine State.publishGap_keep ?_ ?_ _
    | with_reducible refine Keep.ite ?_ ?_

theorem State.bankEmpty_keep {M r s} (h : Keep M r s) (hM : Nat.land 4169 M = 4169) (a1) :
    Keep M r (State.bankEmpty s a1) := by
  unfold State.bankEmpty
  repeat' first
    | with_reducible assumption
    | exact Zone.sub rfl hM
    | with_reducible first | refine State.log_keep ?_ ?_ _ _ | refine State.setPool_keep ?_ ?_ _
    | with_reducible first | refine State.setBankSt_keep ?_ ?_ _ _ | refine Keep.ite ?_ ?_
    | split

theorem State.drain_keep {M r s} (h : Keep M r s) (hM : Nat.land 4097 M = 4097) (a1 a2) :
    Keep M r (State.drain s a1 a2) := by
  unfold State.drain
  repeat' first
    | with_reducible assumption
    | exact Zone.sub rfl hM
    | with_reducible first | refine State.setPool_keep ?_ ?_ _ | refine State.setBankSt_keep ?_ ?_ _ _

theorem State.bankServiceRun_keep {M r s t} (h : Keep M r s) (hM : Nat.land 4169 M = 4169) {b v} (heq : s.bankServiceRun b v = some t) :
    Keep M r t := by
  unfold State.bankServiceRun at heq
  split at heq
  · split at heq
    · cases heq; exact h
    · split at heq
      · cases heq
      · extract_lets x y at heq
        have hx : Keep M r x := State.put_keep h (Zone.sub rfl hM) _ _ _
        have hy : Keep M r y := State.drain_keep hx (Zone.sub rfl hM) _ _
        clear_value y x
        split at heq
        · cases heq; exact State.log_keep (State.setBankSt_keep hx (Zone.sub rfl hM) _ _) (Zone.sub rfl hM) _ _
        · cases heq; exact Keep.ite (State.bankEmpty_keep hy (Zone.sub rfl hM) _) hy
  · split at heq
    · cases heq; exact h
    · cases heq
      exact State.log_keep (Keep.ite (State.setBankSt_keep (State.put_keep h (Zone.sub rfl hM) _ _ _) (Zone.sub rfl hM) _ _)
        (State.setBankSt_keep (State.put_keep h (Zone.sub rfl hM) _ _ _) (Zone.sub rfl hM) _ _)) (Zone.sub rfl hM) _ _

theorem State.bankSlept_keep {M r s} (h : Keep M r s) (hM : Nat.land 1 M = 1) (a1) :
    Keep M r (State.bankSlept s a1) := by
  unfold State.bankSlept
  repeat' first
    | with_reducible first | assumption | refine State.setBankSt_keep ?_ ?_ _ _ | refine Keep.ite ?_ ?_

theorem State.bankWoken_keep {M r s} (h : Keep M r s) (hM : Nat.land 4097 M = 4097) (a1) :
    Keep M r (State.bankWoken s a1) := by
  unfold State.bankWoken
  repeat' first
    | with_reducible assumption
    | exact Zone.sub rfl hM
    | with_reducible first | refine State.setPool_keep ?_ ?_ _ | refine State.setBankSt_keep ?_ ?_ _ _
    | with_reducible refine Keep.ite ?_ ?_

theorem State.budgetReport_keep {M r s} (h : Keep M r s) (hM : Nat.land 4169 M = 4169) :
    Keep M r (State.budgetReport s) := by
  unfold State.budgetReport
  repeat' first
    | with_reducible assumption
    | exact Zone.sub rfl hM
    | with_reducible first | refine State.setPool_keep ?_ ?_ _ | refine State.log_keep ?_ ?_ _ _
    | split

theorem State.budgetRun_keep {M r s} (h : Keep M r s) (hM : Nat.land 4169 M = 4169) (a1) :
    Keep M r (State.budgetRun s a1) := by
  unfold State.budgetRun
  repeat' first
    | with_reducible assumption
    | exact Zone.sub rfl hM
    | with_reducible first | refine State.setPool_keep ?_ ?_ _ | refine State.put_keep ?_ ?_ _ _ _
    | with_reducible first | refine State.budgetReport_keep ?_ ?_ | refine Keep.ite ?_ ?_

theorem State.setWord_keep {M r s} (h : Keep M r s) (hM : Nat.land 4096 M = 4096) (a1 a2) :
    Keep M r (State.setWord s a1 a2) := by
  unfold State.setWord
  repeat' first
    | with_reducible first | assumption | refine State.setPool_keep ?_ ?_ _

theorem State.engineTake_keep {M r s} (h : Keep M r s) (hM : Nat.land 4096 M = 4096) (a1) :
    Keep M r (State.engineTake s a1) := by
  unfold State.engineTake
  repeat' first
    | with_reducible first | assumption | refine State.setWord_keep ?_ ?_ _ _ | refine Keep.ite ?_ ?_
    | split

theorem State.fillEngines_keep {M r s} (h : Keep M r s) (hM : Nat.land 4096 M = 4096) (a1) :
    Keep M r (State.fillEngines s a1) := by
  unfold State.fillEngines
  repeat' first
    | with_reducible assumption
    | (intro)
    | with_reducible first | refine State.engineTake_keep ?_ ?_ _ | refine Keep.foldl ?_ ?_ _

theorem State.setGrant_keep {M r s} (h : Keep M r s) (hM : Nat.land 4112 M = 4112) (a1) :
    Keep M r (State.setGrant s a1) := by
  unfold State.setGrant
  repeat' first
    | with_reducible assumption
    | exact Zone.sub rfl hM
    | with_reducible first | refine State.release_keep ?_ ?_ _ _ | refine State.enter_keep ?_ ?_ _ _ _
    | with_reducible first | refine State.setPool_keep ?_ ?_ _ | refine Keep.ite ?_ ?_

theorem State.giveBack_keep {M r s} (h : Keep M r s) (hM : Nat.land 4185 M = 4185) :
    Keep M r (State.giveBack s) := by
  unfold State.giveBack
  repeat' first
    | with_reducible assumption
    | exact Zone.sub rfl hM
    | with_reducible first | refine State.setPool_keep ?_ ?_ _ | refine State.setGrant_keep ?_ ?_ _
    | with_reducible first | refine State.grantLogged_keep ?_ ?_ _ _ _ | refine Keep.ite ?_ ?_

theorem State.grantDue_keep {M r s} (h : Keep M r s) (hM : Nat.land 4112 M = 4112) :
    Keep M r (State.grantDue s) := by
  unfold State.grantDue
  repeat' first
    | with_reducible first | assumption | refine State.setGrant_keep ?_ ?_ _ | refine Keep.ite ?_ ?_
    | split

theorem State.wordArrives_keep {M r s} (h : Keep M r s) (hM : Nat.land 4097 M = 4097) (a1 a2 a3 a4) :
    Keep M r (State.wordArrives s a1 a2 a3 a4) := by
  unfold State.wordArrives
  repeat' first
    | with_reducible assumption
    | exact Zone.sub rfl hM
    | with_reducible first | refine State.bump_keep ?_ ?_ _ _ | refine State.setPool_keep ?_ ?_ _
    | with_reducible refine Keep.ite ?_ ?_
    | (extract_lets +onlyGivenNames y; have hy : Keep M r y := ?_
       rotate_left; subst y; rotate_left; clear_value y)
    | split

theorem State.groupArrives_keep {M r s} (h : Keep M r s) (hM : Nat.land 4097 M = 4097) (a1 a2) :
    Keep M r (State.groupArrives s a1 a2) := by
  unfold State.groupArrives
  repeat' first
    | with_reducible assumption
    | exact Zone.sub rfl hM
    | (intro)
    | with_reducible first | refine State.wordArrives_keep ?_ ?_ _ _ _ _ | refine State.put_keep ?_ ?_ _ _ _
    | with_reducible first | refine State.fillEngines_keep ?_ ?_ _ | refine Keep.ite ?_ ?_
    | with_reducible refine Keep.foldl ?_ ?_ _

theorem State.iterationStep_keep {M r s} (h : Keep M r s) (hM : Nat.land 6233 M = 6233) :
    Keep M r (State.iterationStep s) := by
  unfold State.iterationStep
  repeat' first
    | with_reducible assumption
    | exact Zone.sub rfl hM
    | (intro)
    | with_reducible first | refine State.grantDue_keep ?_ ?_ | refine State.release_keep ?_ ?_ _ _
    | with_reducible first | refine State.enter_keep ?_ ?_ _ _ _ | refine State.giveBack_keep ?_ ?_
    | with_reducible first | refine State.setPool_keep ?_ ?_ _ | refine State.askGrant_keep ?_ ?_
    | with_reducible first | refine State.publishGap_keep ?_ ?_ _ | refine State.put_keep ?_ ?_ _ _ _
    | with_reducible first | refine State.log_keep ?_ ?_ _ _ | refine Keep.ite ?_ ?_ | refine Keep.foldl ?_ ?_ _

theorem State.lowerGrant_keep {M r s} (h : Keep M r s) (hM : Nat.land 6217 M = 6217) (a1 a2) :
    Keep M r (State.lowerGrant s a1 a2) := by
  unfold State.lowerGrant
  repeat' first
    | with_reducible assumption
    | exact Zone.sub rfl hM
    | with_reducible first | refine State.publishGap_keep ?_ ?_ _ | refine State.grantLogged_keep ?_ ?_ _ _ _
    | with_reducible refine State.setPool_keep ?_ ?_ _

theorem State.passOn_keep {M r s} (h : Keep M r s) (hM : Nat.land 128 M = 128) (a1) :
    Keep M r (State.passOn s a1) := by
  unfold State.passOn
  repeat' first
    | with_reducible assumption
    | exact Zone.sub rfl hM
    | with_reducible first | refine State.emit_keep ?_ ?_ _ | refine Keep.ite ?_ ?_
    | (simp -zeta only [↓Keep.mk_iff]; with_reducible refine KeepF.upd_frame ?_ ?_)
    | (extract_lets +onlyGivenNames y; clear_value y)

theorem State.poolActivate_keep {M r s} (h : Keep M r s) (hM : Nat.land 4096 M = 4096) (a1) :
    Keep M r (State.poolActivate s a1) := by
  unfold State.poolActivate
  repeat' first
    | with_reducible first | assumption | refine State.setPool_keep ?_ ?_ _

theorem State.poolReport_keep {M r s} (h : Keep M r s) (hM : Nat.land 4169 M = 4169) (a1) :
    Keep M r (State.poolReport s a1) := by
  unfold State.poolReport
  repeat' first
    | with_reducible assumption
    | exact Zone.sub rfl hM
    | with_reducible first | refine State.setPool_keep ?_ ?_ _ | refine State.put_keep ?_ ?_ _ _ _
    | with_reducible first | refine State.logC_keep ?_ ?_ _ _ _ | refine Keep.ite ?_ ?_

theorem State.ucodeStep_keep {M r s} (h : Keep M r s) (hM : Nat.land 4169 M = 4169) :
    Keep M r (State.ucodeStep s) := by
  unfold State.ucodeStep
  repeat' first
    | with_reducible assumption
    | exact Zone.sub rfl hM
    | with_reducible first | refine State.setPool_keep ?_ ?_ _ | refine State.logEntry_keep ?_ ?_ _ _ _
    | with_reducible first | refine State.bump_keep ?_ ?_ _ _ | refine State.log_keep ?_ ?_ _ _
    | with_reducible first | refine State.drain_keep ?_ ?_ _ _ | refine State.bankEmpty_keep ?_ ?_ _
    | with_reducible refine Keep.ite ?_ ?_
    | dsimp -zeta only
    | (extract_lets +onlyGivenNames y; have : _ → State := y; clear this; subst y)
    | split

theorem State.poolBoundary_keep {M r s} (h : Keep M r s) (hM : Nat.land 6233 M = 6233) :
    Keep M r (State.poolBoundary s) := by
  unfold State.poolBoundary
  repeat' first
    | with_reducible assumption
    | exact Zone.sub rfl hM
    | (intro)
    | with_reducible first | refine State.setPool_keep ?_ ?_ _ | refine State.log_keep ?_ ?_ _ _
    | with_reducible first | refine State.poolReport_keep ?_ ?_ _ | refine State.bankEmpty_keep ?_ ?_ _
    | with_reducible first | refine State.iterationStep_keep ?_ ?_ | refine State.activeSet_keep ?_ ?_
    | with_reducible first | refine State.ucodeStep_keep ?_ ?_ | refine State.put_keep ?_ ?_ _ _ _
    | with_reducible first | refine State.fillEngines_keep ?_ ?_ _ | refine Keep.ite ?_ ?_
    | with_reducible refine Keep.foldl ?_ ?_ _

theorem State.poolPoison_keep {M r s} (h : Keep M r s) (hM : Nat.land 4097 M = 4097) (a1 a2) :
    Keep M r (State.poolPoison s a1 a2) := by
  unfold State.poolPoison
  repeat' first
    | with_reducible assumption
    | exact Zone.sub rfl hM
    | with_reducible first | refine State.setPool_keep ?_ ?_ _ | refine State.drain_keep ?_ ?_ _ _
    | with_reducible first | refine State.setBankSt_keep ?_ ?_ _ _ | refine Keep.ite ?_ ?_
    | dsimp -zeta only
    | (extract_lets +onlyGivenNames y; have : _ → State := y; clear this; subst y)
    | split

theorem State.slotParity_keep {M r s} (h : Keep M r s) (hM : Nat.land 4169 M = 4169) (a1) :
    Keep M r (State.slotParity s a1) := by
  unfold State.slotParity
  repeat' first
    | with_reducible assumption
    | exact Zone.sub rfl hM
    | with_reducible first | refine State.setWord_keep ?_ ?_ _ _ | refine State.bump_keep ?_ ?_ _ _
    | with_reducible refine State.logSecond_keep ?_ ?_ _ _ _ _
    | split

theorem execBankDrained_keep (s : State) (a1) :
    ∃ t, execBankDrained a1 s = .next t ∧ Keep 4169 s t := by
  refine ⟨_, rfl, ?_⟩
  have h := Keep.refl 4169 s
  have hM : Nat.land 4169 4169 = 4169 := rfl
  repeat' first
    | with_reducible first | assumption | refine State.bankEmpty_keep ?_ ?_ _ | refine Keep.ite ?_ ?_

theorem execBankReturned_keep (s : State) :
    ∃ t, execBankReturned s = .next t ∧ Keep 4185 s t := by
  refine ⟨_, rfl, ?_⟩
  have h := Keep.refl 4185 s
  have hM : Nat.land 4185 4185 = 4185 := rfl
  repeat' first
    | with_reducible assumption
    | exact Zone.sub rfl hM
    | with_reducible first | refine State.put_keep ?_ ?_ _ _ _ | refine State.wakeBank_keep ?_ ?_ _
    | with_reducible first | refine State.setBankSt_keep ?_ ?_ _ _ | refine State.log_keep ?_ ?_ _ _
    | with_reducible first | refine State.setPool_keep ?_ ?_ _ | refine Keep.ite ?_ ?_
    | (extract_lets +onlyGivenNames y; clear_value y)
    | split

theorem execBankWakeRetry_keep (s : State) (a1) :
    ∃ t, execBankWakeRetry a1 s = .next t ∧ Keep 4185 s t := by
  refine ⟨_, rfl, ?_⟩
  have h := Keep.refl 4185 s
  have hM : Nat.land 4185 4185 = 4185 := rfl
  repeat' first
    | with_reducible assumption
    | exact Zone.sub rfl hM
    | with_reducible first | refine State.setPool_keep ?_ ?_ _ | refine State.wakeBank_keep ?_ ?_ _
    | with_reducible refine Keep.ite ?_ ?_
    | (extract_lets +onlyGivenNames y; have hy : Keep 4185 s y := ?_
       rotate_left; subst y; rotate_left; clear_value y)
    | split

theorem execCodewordArrive_keep (s : State) (a1 a2) :
    ∃ t, execCodewordArrive a1 a2 s = .next t ∧ Keep 4097 s t := by
  refine ⟨_, rfl, ?_⟩
  have h := Keep.refl 4097 s
  have hM : Nat.land 4097 4097 = 4097 := rfl
  repeat' first
    | with_reducible first | assumption | refine State.groupArrives_keep ?_ ?_ _ _

theorem execCodewordLeaves_keep (s : State) (a1 a2 a3 a4) :
    ∃ t, execCodewordLeaves a1 a2 a3 a4 s = .next t ∧ Keep 4233 s t := by
  refine ⟨_, rfl, ?_⟩
  have h := Keep.refl 4233 s
  have hM : Nat.land 4233 4233 = 4233 := rfl
  repeat' first
    | with_reducible assumption
    | exact Zone.sub rfl hM
    | with_reducible first | refine State.setPool_keep ?_ ?_ _ | refine State.passOn_keep ?_ ?_ _
    | with_reducible first | refine State.add64_keep ?_ ?_ _ _ _ | refine State.occur_keep ?_ ?_ _ _
    | with_reducible first | refine State.occurN_keep ?_ ?_ _ _ _ | refine State.fillEngines_keep ?_ ?_ _
    | with_reducible refine Keep.ite ?_ ?_
    | (extract_lets +onlyGivenNames y; have hy : Keep 4233 s y := ?_
       rotate_left; subst y; rotate_left; clear_value y)
    | (extract_lets +onlyGivenNames y; clear_value y)
    | split

theorem execGrantEffective_keep (s : State) :
    ∃ t, execGrantEffective s = .next t ∧ Keep 4112 s t := by
  refine ⟨_, rfl, ?_⟩
  have h := Keep.refl 4112 s
  have hM : Nat.land 4112 4112 = 4112 := rfl
  repeat' first
    | with_reducible first | assumption | refine State.grantDue_keep ?_ ?_

theorem execGrantRequestRetry_keep (s : State) :
    ∃ t, execGrantRequestRetry s = .next t ∧ Keep 6233 s t := by
  refine ⟨_, rfl, ?_⟩
  have h := Keep.refl 6233 s
  have hM : Nat.land 6233 6233 = 6233 := rfl
  repeat' first
    | with_reducible first | assumption | refine State.askGrant_keep ?_ ?_ | refine Keep.ite ?_ ?_
    | split

theorem execIterationEnd_keep (s : State) (a1) :
    ∃ t, execIterationEnd a1 s = .next t ∧ Keep 4105 s t := by
  refine ⟨_, rfl, ?_⟩
  have h := Keep.refl 4105 s
  have hM : Nat.land 4105 4105 = 4105 := rfl
  repeat' first
    | with_reducible assumption
    | exact Zone.sub rfl hM
    | with_reducible first | refine State.setWord_keep ?_ ?_ _ _ | refine State.add64_keep ?_ ?_ _ _ _
    | with_reducible first | refine State.occur_keep ?_ ?_ _ _ | refine State.setPool_keep ?_ ?_ _
    | with_reducible first | refine State.fillEngines_keep ?_ ?_ _ | refine Keep.ite ?_ ?_
    | (extract_lets +onlyGivenNames y; have hy : Keep 4105 s y := ?_
       rotate_left; subst y; rotate_left; clear_value y)
    | (extract_lets +onlyGivenNames y; clear_value y)
    | split

theorem execMicrocodeReloadDone_keep (s : State) (a1) :
    ∃ t, execMicrocodeReloadDone a1 s = .next t ∧ Keep 4169 s t := by
  refine ⟨_, rfl, ?_⟩
  have h := Keep.refl 4169 s
  have hM : Nat.land 4169 4169 = 4169 := rfl
  repeat' first
    | with_reducible assumption
    | exact Zone.sub rfl hM
    | with_reducible first | refine State.setPool_keep ?_ ?_ _ | refine State.setBankSt_keep ?_ ?_ _ _
    | with_reducible first | refine State.log_keep ?_ ?_ _ _ | refine Keep.ite ?_ ?_
    | (extract_lets +onlyGivenNames y; have hy : Keep 4169 s y := ?_
       rotate_left; subst y; rotate_left; clear_value y)
    | (extract_lets +onlyGivenNames y; clear_value y)
    | split

theorem State.leaveFault_keep {M r s} (h : Keep M r s) (hM : Nat.land 8265 M = 8265) (a1) :
    Keep M r (State.leaveFault s a1) := by
  unfold State.leaveFault
  repeat' first
    | with_reducible assumption
    | exact Zone.sub rfl hM
    | with_reducible refine State.log_keep ?_ ?_ _ _
    | (simp -zeta only [↓Keep.mk_iff]; with_reducible refine KeepF.upd_lanes ?_ ?_)
    | (extract_lets +onlyGivenNames y; clear_value y)
    | split

theorem State.judgeLanes_keep {M r s} (h : Keep M r s) (hM : Nat.land 8265 M = 8265) :
    Keep M r (State.judgeLanes s) := by
  unfold State.judgeLanes
  repeat' first
    | with_reducible assumption
    | exact Zone.sub rfl hM
    | (intro)
    | with_reducible first | refine State.put_keep ?_ ?_ _ _ _ | refine State.leaveFault_keep ?_ ?_ _
    | with_reducible first | refine State.log_keep ?_ ?_ _ _ | refine Keep.ite ?_ ?_ | refine Keep.foldl ?_ ?_ _
    | (simp -zeta only [↓Keep.mk_iff]; with_reducible refine KeepF.upd_lanes ?_ ?_)
    | (extract_lets +onlyGivenNames y; have hy : Keep M r y := ?_
       rotate_left; subst y; rotate_left; clear_value y)
    | (extract_lets +onlyGivenNames y; clear_value y)
    | split

theorem State.clientLanesEffect_keep {M r s} (h : Keep M r s) (hM : Nat.land 8265 M = 8265) (a1 a2) :
    Keep M r (State.clientLanesEffect s a1 a2).2 := by
  unfold State.clientLanesEffect
  repeat' first
    | with_reducible assumption
    | exact Zone.sub rfl hM
    | with_reducible first | refine State.judgeLanes_keep ?_ ?_ | refine State.put_keep ?_ ?_ _ _ _

theorem State.enterFault_keep {M r s} (h : Keep M r s) (hM : Nat.land 8265 M = 8265) (a1 a2 a3) :
    Keep M r (State.enterFault s a1 a2 a3) := by
  unfold State.enterFault
  repeat' first
    | with_reducible assumption
    | exact Zone.sub rfl hM
    | with_reducible first | refine State.log_keep ?_ ?_ _ _ | refine State.put_keep ?_ ?_ _ _ _
    | with_reducible refine Keep.ite ?_ ?_
    | (simp -zeta only [↓Keep.mk_iff]; with_reducible refine KeepF.upd_lanes ?_ ?_)

theorem State.setLane_keep {M r s} (h : Keep M r s) (hM : Nat.land 8192 M = 8192) (a1 a2) :
    Keep M r (State.setLane s a1 a2) := by
  unfold State.setLane
  repeat' first
    | with_reducible assumption
    | (simp -zeta only [↓Keep.mk_iff]; with_reducible refine KeepF.upd_lanes ?_ ?_)

theorem State.putLane_keep {M r s} (h : Keep M r s) (hM : Nat.land 1 M = 1) (a1 a2 a3) :
    Keep M r (State.putLane s a1 a2 a3) := by
  unfold State.putLane
  repeat' first
    | with_reducible first | assumption | refine State.put_keep ?_ ?_ _ _ _

theorem State.laneBoundary_keep {M r s} (h : Keep M r s) (hM : Nat.land 8193 M = 8193) (a1) :
    Keep M r (State.laneBoundary s a1) := by
  unfold State.laneBoundary
  repeat' first
    | with_reducible assumption
    | exact Zone.sub rfl hM
    | with_reducible first | refine State.setLane_keep ?_ ?_ _ _ | refine State.add64_keep ?_ ?_ _ _ _
    | with_reducible first | refine State.putLane_keep ?_ ?_ _ _ _ | refine Keep.ite ?_ ?_

theorem State.laneInjectRun_keep {M r s} (h : Keep M r s) (hM : Nat.land 8193 M = 8193) (a1 a2) :
    Keep M r (State.laneInjectRun s a1 a2) := by
  unfold State.laneInjectRun
  repeat' first
    | with_reducible assumption
    | exact Zone.sub rfl hM
    | with_reducible first | refine State.putLane_keep ?_ ?_ _ _ _ | refine State.setLane_keep ?_ ?_ _ _

theorem State.laneState_keep {M r s} (h : Keep M r s) (hM : Nat.land 73 M = 73) (a1 a2) :
    Keep M r (State.laneState s a1 a2) := by
  unfold State.laneState
  repeat' first
    | with_reducible assumption
    | exact Zone.sub rfl hM
    | with_reducible first | refine State.log_keep ?_ ?_ _ _ | refine State.putLane_keep ?_ ?_ _ _ _
    | with_reducible refine Keep.ite ?_ ?_

theorem State.laneRateEffect_keep {M r s} (h : Keep M r s) (hM : Nat.land 8281 M = 8281) (a1 a2) :
    Keep M r (State.laneRateEffect s a1 a2).2 := by
  unfold State.laneRateEffect
  repeat' first
    | with_reducible assumption
    | exact Zone.sub rfl hM
    | with_reducible first | refine State.refuseCost_keep ?_ ?_ _ _ _ | refine State.release_keep ?_ ?_ _ _
    | with_reducible first | refine State.enter_keep ?_ ?_ _ _ _ | refine State.occur_keep ?_ ?_ _ _
    | with_reducible first | refine State.putLane_keep ?_ ?_ _ _ _ | refine State.laneState_keep ?_ ?_ _ _
    | with_reducible first | refine State.judgeLanes_keep ?_ ?_ | refine Keep.ite ?_ ?_ | refine Keep.ite_snd ?_ ?_

theorem State.laneTestEffect_keep {M r s} (h : Keep M r s) (hM : Nat.land 8265 M = 8265) (a1 a2) :
    Keep M r (State.laneTestEffect s a1 a2).2 := by
  unfold State.laneTestEffect
  repeat' first
    | with_reducible assumption
    | exact Zone.sub rfl hM
    | with_reducible first | refine State.putLane_keep ?_ ?_ _ _ _ | refine State.setLane_keep ?_ ?_ _ _
    | with_reducible refine State.laneState_keep ?_ ?_ _ _

theorem State.leaveFaults_keep {M r s} (h : Keep M r s) (hM : Nat.land 8265 M = 8265) :
    Keep M r (State.leaveFaults s) := by
  unfold State.leaveFaults
  repeat' first
    | with_reducible assumption
    | (intro)
    | with_reducible first | refine State.judgeLanes_keep ?_ ?_ | refine State.leaveFault_keep ?_ ?_ _
    | with_reducible first | refine Keep.ite ?_ ?_ | refine Keep.foldl ?_ ?_ _

theorem State.quadSlept_keep {M r s} (h : Keep M r s) (hM : Nat.land 73 M = 73) (a1) :
    Keep M r (State.quadSlept s a1) := by
  unfold State.quadSlept
  repeat' first
    | with_reducible assumption
    | exact Zone.sub rfl hM
    | (intro)
    | with_reducible first | refine State.put_keep ?_ ?_ _ _ _ | refine State.laneState_keep ?_ ?_ _ _
    | with_reducible refine Keep.foldl ?_ ?_ _

theorem State.quadWoken_keep {M r s} (h : Keep M r s) (hM : Nat.land 73 M = 73) (a1) :
    Keep M r (State.quadWoken s a1) := by
  unfold State.quadWoken
  repeat' first
    | with_reducible assumption
    | exact Zone.sub rfl hM
    | (intro)
    | with_reducible first | refine State.put_keep ?_ ?_ _ _ _ | refine State.laneState_keep ?_ ?_ _ _
    | with_reducible refine Keep.foldl ?_ ?_ _

theorem execCheckerGainsSync_keep (s : State) (a1) :
    ∃ t, execCheckerGainsSync a1 s = .next t ∧ Keep 8192 s t := by
  refine ⟨_, rfl, ?_⟩
  have h := Keep.refl 8192 s
  have hM : Nat.land 8192 8192 = 8192 := rfl
  repeat' first
    | with_reducible first | assumption | refine State.setLane_keep ?_ ?_ _ _ | refine Keep.ite ?_ ?_

theorem execCheckerSyncLost_keep (s : State) (a1 a2) :
    ∃ t, execCheckerSyncLost a1 a2 s = .next t ∧ Keep 8265 s t := by
  refine ⟨_, rfl, ?_⟩
  have h := Keep.refl 8265 s
  have hM : Nat.land 8265 8265 = 8265 := rfl
  repeat' first
    | with_reducible assumption
    | exact Zone.sub rfl hM
    | with_reducible first | refine State.log_keep ?_ ?_ _ _ | refine State.setLane_keep ?_ ?_ _ _
    | with_reducible refine Keep.ite ?_ ?_

theorem execClientLanesWrite_keep (s : State) (a1 a2 a3) :
    ∃ t, execClientLanesWrite a1 a2 a3 s = .next t ∧ Keep 8281 s t := by
  refine ⟨_, rfl, ?_⟩
  have h := Keep.refl 8281 s
  have hM : Nat.land 8281 8281 = 8281 := rfl
  repeat' first
    | with_reducible assumption
    | exact Zone.sub rfl hM
    | with_reducible refine State.clientLanesEffect_keep ?_ ?_ _ _
    | with_reducible refine State.hostWrite_keep ?_ ?_ _ _ _ _ _ (fun v t h => ?_)

theorem execHostBlockReceived_keep (s : State) (a1 a2) :
    ∃ t, execHostBlockReceived a1 a2 s = .next t ∧ Keep 73 s t := by
  refine ⟨_, rfl, ?_⟩
  have h := Keep.refl 73 s
  have hM : Nat.land 73 73 = 73 := rfl
  repeat' first
    | with_reducible assumption
    | exact Zone.sub rfl hM
    | with_reducible first | refine State.add64_keep ?_ ?_ _ _ _ | refine State.put_keep ?_ ?_ _ _ _
    | with_reducible first | refine State.occurN_keep ?_ ?_ _ _ _ | refine State.logSecond_keep ?_ ?_ _ _ _ _
    | with_reducible first | refine State.bump_keep ?_ ?_ _ _ | refine Keep.ite ?_ ?_

theorem execIngressFault_keep (s : State) (a1 a2 a3) :
    ∃ t, execIngressFault a1 a2 a3 s = .next t ∧ Keep 8265 s t := by
  refine ⟨_, rfl, ?_⟩
  have h := Keep.refl 8265 s
  have hM : Nat.land 8265 8265 = 8265 := rfl
  repeat' first
    | with_reducible first | assumption | refine State.enterFault_keep ?_ ?_ _ _ _ | refine Keep.ite ?_ ?_

theorem execLaneBerAlarm_keep (s : State) (a1) :
    ∃ t, execLaneBerAlarm a1 s = .next t ∧ Keep 8265 s t := by
  refine ⟨_, rfl, ?_⟩
  have h := Keep.refl 8265 s
  have hM : Nat.land 8265 8265 = 8265 := rfl
  repeat' first
    | with_reducible assumption
    | exact Zone.sub rfl hM
    | with_reducible first | refine State.log_keep ?_ ?_ _ _ | refine State.setLane_keep ?_ ?_ _ _
    | with_reducible refine Keep.ite ?_ ?_

theorem execLaneRateWrite_keep (s : State) (a1 a2 a3) :
    ∃ t, execLaneRateWrite a1 a2 a3 s = .next t ∧ Keep 8281 s t := by
  refine ⟨_, rfl, ?_⟩
  have h := Keep.refl 8281 s
  have hM : Nat.land 8281 8281 = 8281 := rfl
  repeat' first
    | with_reducible assumption
    | exact Zone.sub rfl hM
    | with_reducible refine State.laneRateEffect_keep ?_ ?_ _ _
    | with_reducible refine State.hostWrite_keep ?_ ?_ _ _ _ _ _ (fun v t h => ?_)

theorem execLaneStateChange_keep (s : State) (a1 a2) :
    ∃ t, execLaneStateChange a1 a2 s = .next t ∧ Keep 8265 s t := by
  refine ⟨_, rfl, ?_⟩
  have h := Keep.refl 8265 s
  have hM : Nat.land 8265 8265 = 8265 := rfl
  repeat' first
    | with_reducible assumption
    | exact Zone.sub rfl hM
    | with_reducible first | refine State.leaveFaults_keep ?_ ?_ | refine State.laneState_keep ?_ ?_ _ _
    | with_reducible refine Keep.ite ?_ ?_

theorem execLaneTestWrite_keep (s : State) (a1 a2 a3) :
    ∃ t, execLaneTestWrite a1 a2 a3 s = .next t ∧ Keep 8281 s t := by
  refine ⟨_, rfl, ?_⟩
  have h := Keep.refl 8281 s
  have hM : Nat.land 8281 8281 = 8281 := rfl
  repeat' first
    | with_reducible assumption
    | exact Zone.sub rfl hM
    | with_reducible refine State.laneTestEffect_keep ?_ ?_ _ _
    | with_reducible refine State.hostWrite_keep ?_ ?_ _ _ _ _ _ (fun v t h => ?_)

theorem execLrefLost_keep (s : State) (a1) :
    ∃ t, execLrefLost a1 s = .next t ∧ Keep 8265 s t := by
  refine ⟨_, rfl, ?_⟩
  have h := Keep.refl 8265 s
  have hM : Nat.land 8265 8265 = 8265 := rfl
  repeat' first
    | with_reducible assumption
    | exact Zone.sub rfl hM
    | with_reducible first | refine State.log_keep ?_ ?_ _ _ | refine State.put_keep ?_ ?_ _ _ _
    | with_reducible refine Keep.ite ?_ ?_
    | (simp -zeta only [↓Keep.mk_iff]; with_reducible refine KeepF.upd_lanes ?_ ?_)

theorem execLrefRestored_keep (s : State) (a1) :
    ∃ t, execLrefRestored a1 s = .next t ∧ Keep 8265 s t := by
  refine ⟨_, rfl, ?_⟩
  have h := Keep.refl 8265 s
  have hM : Nat.land 8265 8265 = 8265 := rfl
  repeat' first
    | with_reducible assumption
    | exact Zone.sub rfl hM
    | with_reducible first | refine State.log_keep ?_ ?_ _ _ | refine State.put_keep ?_ ?_ _ _ _
    | with_reducible refine Keep.ite ?_ ?_
    | (simp -zeta only [↓Keep.mk_iff]; with_reducible refine KeepF.upd_lanes ?_ ?_)

end Sys2Proof.Machine
end

