-- ==== Sys2Proof/Laws/KeepCipher.lean ====
section
/-! SUPPORT. What the operations of the link cipher, agreement, memory, the Bandstand and calibration keep. The number of each lemma is the
set of parts of the state it may change (`Keep`). -/

namespace Sys2Proof.Machine

set_option Elab.async false
set_option linter.all false

theorem State.showCtx_keep {M r s} (h : Keep M r s) (hM : Nat.land 1 M = 1) (a1 a2 a3) :
    Keep M r (State.showCtx s a1 a2 a3) := by
  unfold State.showCtx
  repeat' first
    | with_reducible first | assumption | refine State.put_keep ?_ ?_ _ _ _

theorem State.setCi_keep {M r s} (h : Keep M r s) (hM : Nat.land 16384 M = 16384) (a1 a2) :
    Keep M r (State.setCi s a1 a2) := by
  unfold State.setCi
  repeat' first
    | with_reducible assumption
    | (simp -zeta only [↓Keep.mk_iff]; with_reducible refine KeepF.upd_ciph ?_ ?_)

theorem State.setCtx_keep {M r s} (h : Keep M r s) (hM : Nat.land 16385 M = 16385) (a1 a2 a3 a4) :
    Keep M r (State.setCtx s a1 a2 a3 a4) := by
  unfold State.setCtx
  repeat' first
    | with_reducible assumption
    | exact Zone.sub rfl hM
    | with_reducible first | refine State.showCtx_keep ?_ ?_ _ _ _ | refine State.setCi_keep ?_ ?_ _ _

theorem State.logCtx_keep {M r s} (h : Keep M r s) (hM : Nat.land 73 M = 73) (a1 a2 a3 a4 a5) :
    Keep M r (State.logCtx s a1 a2 a3 a4 a5) := by
  unfold State.logCtx
  repeat' first
    | with_reducible first | assumption | refine State.logC_keep ?_ ?_ _ _ _

theorem State.setRt_keep {M r s} (h : Keep M r s) (hM : Nat.land 32768 M = 32768) (a1 a2) :
    Keep M r (State.setRt s a1 a2) := by
  unfold State.setRt
  repeat' first
    | with_reducible first | assumption | refine State.setGr_keep ?_ ?_ _

theorem State.migrate_keep {M r s} (h : Keep M r s) (hM : Nat.land 49225 M = 49225) (a1) :
    Keep M r (State.migrate s a1) := by
  unfold State.migrate
  repeat' first
    | with_reducible assumption
    | exact Zone.sub rfl hM
    | (intro)
    | with_reducible first | refine State.setCtx_keep ?_ ?_ _ _ _ _ | refine State.setRt_keep ?_ ?_ _ _
    | with_reducible first | refine State.eraseSlot_keep ?_ ?_ _ | refine State.putO_keep ?_ ?_ _ _ _
    | with_reducible first | refine State.put_keep ?_ ?_ _ _ _ | refine State.log_keep ?_ ?_ _ _
    | with_reducible first | refine Keep.ite ?_ ?_ | refine Keep.foldl ?_ ?_ _
    | dsimp -zeta only
    | (extract_lets +onlyGivenNames y; have hy : Keep M r y := ?_
       rotate_left; subst y; rotate_left; clear_value y)
    | split

theorem State.applyRoll_keep {M r s} (h : Keep M r s) (hM : Nat.land 49225 M = 49225) (a1 a2 a3 a4 a5 a6) :
    Keep M r (State.applyRoll s a1 a2 a3 a4 a5 a6) := by
  unfold State.applyRoll
  repeat' first
    | with_reducible assumption
    | exact Zone.sub rfl hM
    | with_reducible first | refine State.setCtx_keep ?_ ?_ _ _ _ _ | refine State.logCtx_keep ?_ ?_ _ _ _ _ _
    | with_reducible first | refine State.bump_keep ?_ ?_ _ _ | refine State.migrate_keep ?_ ?_ _
    | with_reducible refine Keep.ite ?_ ?_

theorem State.tryRoll_keep {M r s} (h : Keep M r s) (hM : Nat.land 16589 M = 16589) (a1 a2 a3) :
    Keep M r (State.tryRoll s a1 a2 a3) := by
  unfold State.tryRoll
  repeat' first
    | with_reducible assumption
    | exact Zone.sub rfl hM
    | with_reducible first | refine State.proposeEngine_keep ?_ ?_ _ _ _ | refine State.setCtx_keep ?_ ?_ _ _ _ _
    | with_reducible refine Keep.ite ?_ ?_
    | (extract_lets +onlyGivenNames y; have hy : Keep M r y.2 := ?_
       rotate_left; subst y; rotate_left; clear_value y)
    | (extract_lets +onlyGivenNames y; clear_value y)
    | split

theorem State.armRoll_keep {M r s} (h : Keep M r s) (hM : Nat.land 16589 M = 16589) (a1 a2 a3 a4) :
    Keep M r (State.armRoll s a1 a2 a3 a4) := by
  unfold State.armRoll
  repeat' first
    | with_reducible assumption
    | exact Zone.sub rfl hM
    | with_reducible first | refine State.tryRoll_keep ?_ ?_ _ _ _ | refine State.setCtx_keep ?_ ?_ _ _ _ _
    | with_reducible refine Keep.ite ?_ ?_

theorem State.showCipherCost_keep {M r s} (h : Keep M r s) (hM : Nat.land 1 M = 1) :
    Keep M r (State.showCipherCost s) := by
  unfold State.showCipherCost
  repeat' first
    | with_reducible first | assumption | refine State.put_keep ?_ ?_ _ _ _

theorem State.askCtx_keep {M r s} (h : Keep M r s) (hM : Nat.land 89 M = 89) (a1 a2 a3 a4) :
    Keep M r (State.askCtx s a1 a2 a3 a4).2 := by
  unfold State.askCtx
  repeat' first
    | with_reducible assumption
    | exact Zone.sub rfl hM
    | with_reducible first | refine State.ask_keep ?_ ?_ _ _ _ | refine State.showCipherCost_keep ?_ ?_
    | with_reducible first | refine State.logCtx_keep ?_ ?_ _ _ _ _ _ | refine Keep.ite_snd ?_ ?_

theorem State.askKey_keep {M r s} (h : Keep M r s) (hM : Nat.land 32857 M = 32857) (a1 a2 a3 a4 a5) :
    Keep M r (State.askKey s a1 a2 a3 a4 a5) := by
  unfold State.askKey
  repeat' first
    | with_reducible first | assumption | refine State.submit_keep ?_ ?_ _
    | split

theorem State.checkOn_keep {M r s} (h : Keep M r s) (hM : Nat.land 89 M = 89) (a1 a2 a3 a4) :
    Keep M r (State.checkOn s a1 a2 a3 a4).2 := by
  unfold State.checkOn
  repeat' first
    | with_reducible first | assumption | refine State.askCtx_keep ?_ ?_ _ _ _ _ | refine Keep.ite_snd ?_ ?_

theorem State.stopCheck_keep {M r s} (h : Keep M r s) (hM : Nat.land 16457 M = 16457) (a1 a2 a3 a4) :
    Keep M r (State.stopCheck s a1 a2 a3 a4) := by
  unfold State.stopCheck
  repeat' first
    | with_reducible assumption
    | exact Zone.sub rfl hM
    | (intro)
    | with_reducible first | refine State.setCtx_keep ?_ ?_ _ _ _ _ | refine State.logCtx_keep ?_ ?_ _ _ _ _ _
    | with_reducible first | refine Keep.ite ?_ ?_ | refine Keep.foldl ?_ ?_ _

theorem State.maintenance_keep {M r s} (h : Keep M r s) (hM : Nat.land 1 M = 1) (a1) :
    Keep M r (State.maintenance s a1) := by
  unfold State.maintenance
  repeat' first
    | with_reducible assumption
    | (intro)
    | with_reducible first | refine State.add64_keep ?_ ?_ _ _ _ | refine Keep.ite ?_ ?_ | refine Keep.foldl ?_ ?_ _

theorem State.cipherFrame_keep {M r s} (h : Keep M r s) (hM : Nat.land 49373 M = 49373) (a1) :
    Keep M r (State.cipherFrame s a1) := by
  unfold State.cipherFrame
  repeat' first
    | with_reducible assumption
    | exact Zone.sub rfl hM
    | (intro)
    | with_reducible first | refine State.stopCheck_keep ?_ ?_ _ _ _ _ | refine State.tryRoll_keep ?_ ?_ _ _ _
    | with_reducible first | refine State.askKey_keep ?_ ?_ _ _ _ _ _ | refine State.setCtx_keep ?_ ?_ _ _ _ _
    | with_reducible first | refine State.maintenance_keep ?_ ?_ _ | refine Keep.ite ?_ ?_
    | with_reducible refine Keep.foldl ?_ ?_ _

theorem State.countersPass_keep {M r s} (h : Keep M r s) (hM : Nat.land 16385 M = 16385) (a1 a2 a3 a4 a5) :
    Keep M r (State.countersPass s a1 a2 a3 a4 a5) := by
  unfold State.countersPass
  repeat' first
    | with_reducible assumption
    | (intro)
    | with_reducible first | refine State.setCtx_keep ?_ ?_ _ _ _ _ | refine Keep.ite ?_ ?_
    | with_reducible refine Keep.foldl ?_ ?_ _

theorem State.endingCheck_keep {M r s} (h : Keep M r s) (hM : Nat.land 16589 M = 16589) (a1 a2) :
    Keep M r (State.endingCheck s a1 a2) := by
  unfold State.endingCheck
  repeat' first
    | with_reducible assumption
    | exact Zone.sub rfl hM
    | with_reducible first | refine State.armRoll_keep ?_ ?_ _ _ _ _ | refine State.logCtx_keep ?_ ?_ _ _ _ _ _
    | with_reducible first | refine State.setCtx_keep ?_ ?_ _ _ _ _ | refine Keep.ite ?_ ?_

theorem State.cipherPass_keep {M r s} (h : Keep M r s) (hM : Nat.land 16589 M = 16589) (a1) :
    Keep M r (State.cipherPass s a1) := by
  unfold State.cipherPass
  repeat' first
    | with_reducible assumption
    | exact Zone.sub rfl hM
    | (intro)
    | with_reducible refine State.countersPass_keep ?_ ?_ _ _ _ _ _
    | with_reducible first | refine State.endingCheck_keep ?_ ?_ _ _ | refine Keep.foldl ?_ ?_ _

theorem State.releaseCtx_keep {M r s} (h : Keep M r s) (hM : Nat.land 17 M = 17) (a1 a2 a3) :
    Keep M r (State.releaseCtx s a1 a2 a3) := by
  unfold State.releaseCtx
  repeat' first
    | with_reducible assumption
    | exact Zone.sub rfl hM
    | with_reducible first | refine State.showCipherCost_keep ?_ ?_ | refine State.release_keep ?_ ?_ _ _

theorem State.turnCtx_keep {M r s} (h : Keep M r s) (hM : Nat.land 49241 M = 49241) (a1 a2 a3 a4) :
    Keep M r (State.turnCtx s a1 a2 a3 a4) := by
  unfold State.turnCtx
  repeat' first
    | with_reducible assumption
    | exact Zone.sub rfl hM
    | with_reducible first | refine State.setCtx_keep ?_ ?_ _ _ _ _ | refine State.askKey_keep ?_ ?_ _ _ _ _ _
    | with_reducible first | refine State.releaseCtx_keep ?_ ?_ _ _ _ | refine Keep.ite ?_ ?_

theorem State.setOn_keep {M r s} (h : Keep M r s) (hM : Nat.land 49241 M = 49241) (a1 a2 a3 a4) :
    Keep M r (State.setOn s a1 a2 a3 a4) := by
  unfold State.setOn
  repeat' first
    | with_reducible assumption
    | exact Zone.sub rfl hM
    | with_reducible first | refine State.logCtx_keep ?_ ?_ _ _ _ _ _ | refine State.turnCtx_keep ?_ ?_ _ _ _ _
    | with_reducible refine Keep.ite ?_ ?_

theorem State.contextEnableEffect_keep {M r s} (h : Keep M r s) (hM : Nat.land 49373 M = 49373) (a1 a2 a3 a4) :
    Keep M r (State.contextEnableEffect s a1 a2 a3 a4).2 := by
  unfold State.contextEnableEffect
  repeat' first
    | with_reducible assumption
    | exact Zone.sub rfl hM
    | (intro)
    | with_reducible first | refine State.put_keep ?_ ?_ _ _ _ | refine State.setOn_keep ?_ ?_ _ _ _ _
    | with_reducible first | refine State.newWrite_keep ?_ ?_ | refine State.hostPropose_keep ?_ ?_ _ _ _ _ _ _
    | with_reducible first | refine State.askCtx_keep ?_ ?_ _ _ _ _ | refine Keep.ite_snd ?_ ?_
    | with_reducible refine Keep.foldl ?_ ?_ _
    | dsimp -zeta only
    | (extract_lets +onlyGivenNames y; clear_value y)
    | split
    | with_reducible refine Keep.foldl_snd ?_ ?_ _

theorem State.contextRollEffect_keep {M r s} (h : Keep M r s) (hM : Nat.land 16589 M = 16589) (a1 a2) :
    Keep M r (State.contextRollEffect s a1 a2).2 := by
  unfold State.contextRollEffect
  repeat' first
    | with_reducible first | assumption | refine State.armRoll_keep ?_ ?_ _ _ _ _

theorem State.desyncCheck_keep {M r s} (h : Keep M r s) (hM : Nat.land 16589 M = 16589) (a1) :
    Keep M r (State.desyncCheck s a1) := by
  unfold State.desyncCheck
  repeat' first
    | with_reducible assumption
    | exact Zone.sub rfl hM
    | (intro)
    | with_reducible first | refine State.setCi_keep ?_ ?_ _ _ | refine State.logCtx_keep ?_ ?_ _ _ _ _ _
    | with_reducible first | refine State.bump_keep ?_ ?_ _ _ | refine State.armRoll_keep ?_ ?_ _ _ _ _
    | with_reducible first | refine Keep.ite ?_ ?_ | refine Keep.foldl ?_ ?_ _

theorem State.inverseChecks_keep {M r s} (h : Keep M r s) (hM : Nat.land 16457 M = 16457) (a1 a2 a3) :
    Keep M r (State.inverseChecks s a1 a2 a3) := by
  unfold State.inverseChecks
  repeat' first
    | with_reducible assumption
    | exact Zone.sub rfl hM
    | (intro)
    | with_reducible first | refine State.bump_keep ?_ ?_ _ _ | refine State.logCtx_keep ?_ ?_ _ _ _ _ _
    | with_reducible first | refine State.setCi_keep ?_ ?_ _ _ | refine State.logC_keep ?_ ?_ _ _ _
    | with_reducible first | refine State.showCtx_keep ?_ ?_ _ _ _ | refine Keep.ite ?_ ?_
    | with_reducible refine Keep.foldl ?_ ?_ _

theorem State.keyArrives_keep {M r s} (h : Keep M r s) (hM : Nat.land 16385 M = 16385) (a1 a2 a3 a4 a5 a6) :
    Keep M r (State.keyArrives s a1 a2 a3 a4 a5 a6) := by
  unfold State.keyArrives
  repeat' first
    | with_reducible first | assumption | refine State.setCtx_keep ?_ ?_ _ _ _ _

theorem State.keyPoison_keep {M r s} (h : Keep M r s) (hM : Nat.land 16457 M = 16457) (a1 a2 a3) :
    Keep M r (State.keyPoison s a1 a2 a3) := by
  unfold State.keyPoison
  repeat' first
    | with_reducible assumption
    | exact Zone.sub rfl hM
    | with_reducible first | refine State.logCtx_keep ?_ ?_ _ _ _ _ _ | refine State.setCtx_keep ?_ ?_ _ _ _ _

theorem State.rollAgreed_keep {M r s} (h : Keep M r s) (hM : Nat.land 49241 M = 49241) (a1 a2 a3 a4 a5) :
    Keep M r (State.rollAgreed s a1 a2 a3 a4 a5) := by
  unfold State.rollAgreed
  repeat' first
    | with_reducible assumption
    | exact Zone.sub rfl hM
    | with_reducible first | refine State.askKey_keep ?_ ?_ _ _ _ _ _ | refine State.setCtx_keep ?_ ?_ _ _ _ _

theorem State.rootsGone_keep {M r s} (h : Keep M r s) (hM : Nat.land 49153 M = 49153) (a1) :
    Keep M r (State.rootsGone s a1) := by
  unfold State.rootsGone
  repeat' first
    | with_reducible assumption
    | exact Zone.sub rfl hM
    | (intro)
    | with_reducible first | refine State.setRt_keep ?_ ?_ _ _ | refine State.putO_keep ?_ ?_ _ _ _
    | with_reducible first | refine State.put_keep ?_ ?_ _ _ _ | refine State.setCtx_keep ?_ ?_ _ _ _ _
    | with_reducible refine Keep.foldl ?_ ?_ _

theorem State.sealFails_keep {M r s} (h : Keep M r s) (hM : Nat.land 16457 M = 16457) (a1 a2 a3 a4) :
    Keep M r (State.sealFails s a1 a2 a3 a4) := by
  unfold State.sealFails
  repeat' first
    | with_reducible assumption
    | exact Zone.sub rfl hM
    | with_reducible first | refine State.setCtx_keep ?_ ?_ _ _ _ _ | refine State.add64_keep ?_ ?_ _ _ _
    | with_reducible first | refine State.occur_keep ?_ ?_ _ _ | refine State.logCtx_keep ?_ ?_ _ _ _ _ _
    | with_reducible refine Keep.ite ?_ ?_
    | (simp -zeta only [↓Keep.mk_iff]; with_reducible refine KeepF.upd_diag ?_ ?_ rfl rfl rfl)

theorem execContextEnable_keep (s : State) (a1 a2 a3 a4) :
    ∃ t, execContextEnable a1 a2 a3 a4 s = .next t ∧ Keep 49373 s t := by
  refine ⟨_, rfl, ?_⟩
  have h := Keep.refl 49373 s
  have hM : Nat.land 49373 49373 = 49373 := rfl
  repeat' first
    | with_reducible assumption
    | exact Zone.sub rfl hM
    | with_reducible refine State.contextEnableEffect_keep ?_ ?_ _ _ _ _
    | with_reducible refine State.hostWrite_keep ?_ ?_ _ _ _ _ _ (fun v t h => ?_)

theorem execContextRoll_keep (s : State) (a1 a2 a3) :
    ∃ t, execContextRoll a1 a2 a3 s = .next t ∧ Keep 16605 s t := by
  refine ⟨_, rfl, ?_⟩
  have h := Keep.refl 16605 s
  have hM : Nat.land 16605 16605 = 16605 := rfl
  repeat' first
    | with_reducible assumption
    | exact Zone.sub rfl hM
    | with_reducible refine State.contextRollEffect_keep ?_ ?_ _ _
    | with_reducible refine State.hostWrite_keep ?_ ?_ _ _ _ _ _ (fun v t h => ?_)

theorem execRequestCompletion_keep (s : State) (a1 a2) :
    ∃ t, execRequestCompletion a1 a2 s = .next t ∧ Keep 8437881 s t := by
  refine ⟨_, rfl, ?_⟩
  have h := Keep.refl 8437881 s
  have hM : Nat.land 8437881 8437881 = 8437881 := rfl
  repeat' first
    | with_reducible assumption
    | exact Zone.sub rfl hM
    | with_reducible first | refine State.setGr_keep ?_ ?_ _ | refine State.log_keep ?_ ?_ _ _
    | with_reducible first | refine State.bump_keep ?_ ?_ _ _ | refine State.useFailed_keep ?_ ?_ _ _
    | with_reducible first | refine State.complete_keep ?_ ?_ _ _ | refine State.release_keep ?_ ?_ _ _
    | with_reducible first | refine State.showUnit_keep ?_ ?_ _ _ | refine State.abortWhere_keep ?_ ?_ _ _
    | with_reducible first | refine State.result_keep ?_ ?_ _ | refine State.keyArrives_keep ?_ ?_ _ _ _ _ _ _
    | with_reducible first | refine State.random_keep ?_ ?_ _ | refine State.startUnits_keep ?_ ?_
    | with_reducible first | refine State.settleSlot_keep ?_ ?_ _ | refine Keep.ite ?_ ?_
    | dsimp -zeta only
    | (extract_lets +onlyGivenNames y; have hy : Keep 8437881 s y := ?_
       rotate_left; subst y; rotate_left; clear_value y)
    | (extract_lets +onlyGivenNames y; have hy : Keep 8437881 s y.2 := ?_
       rotate_left; subst y; rotate_left; clear_value y)
    | (extract_lets +onlyGivenNames y; clear_value y)
    | split

theorem execRollInterval_keep (s : State) (a1 a2) :
    ∃ t, execRollInterval a1 a2 s = .next t ∧ Keep 16589 s t := by
  refine ⟨_, rfl, ?_⟩
  have h := Keep.refl 16589 s
  have hM : Nat.land 16589 16589 = 16589 := rfl
  repeat' first
    | with_reducible first | assumption | refine State.armRoll_keep ?_ ?_ _ _ _ _ | refine Keep.ite ?_ ?_

theorem execSealReceived_keep (s : State) (a1 a2) :
    ∃ t, execSealReceived a1 a2 s = .next t ∧ Keep 16457 s t := by
  refine ⟨_, rfl, ?_⟩
  have h := Keep.refl 16457 s
  have hM : Nat.land 16457 16457 = 16457 := rfl
  repeat' first
    | with_reducible assumption
    | exact Zone.sub rfl hM
    | with_reducible first | refine State.setCtx_keep ?_ ?_ _ _ _ _ | refine State.occurN_keep ?_ ?_ _ _ _
    | with_reducible first | refine State.occur_keep ?_ ?_ _ _ | refine State.sealFails_keep ?_ ?_ _ _ _ _
    | with_reducible refine Keep.ite ?_ ?_
    | (extract_lets +onlyGivenNames y; have hy : Keep 16457 s y := ?_
       rotate_left; subst y; rotate_left; clear_value y)
    | split

theorem execTransmitResume_keep (s : State) (a1) :
    ∃ t, execTransmitResume a1 s = .next t ∧ Keep 16457 s t := by
  refine ⟨_, rfl, ?_⟩
  have h := Keep.refl 16457 s
  have hM : Nat.land 16457 16457 = 16457 := rfl
  repeat' first
    | with_reducible assumption
    | exact Zone.sub rfl hM
    | (intro)
    | with_reducible first | refine State.setCi_keep ?_ ?_ _ _ | refine State.logC_keep ?_ ?_ _ _ _
    | with_reducible first | refine State.showCtx_keep ?_ ?_ _ _ _ | refine Keep.ite ?_ ?_
    | with_reducible refine Keep.foldl ?_ ?_ _

theorem State.sendMoc_keep {M r s} (h : Keep M r s) (hM : Nat.land 128 M = 128) (a1 a2 a3) :
    Keep M r (State.sendMoc s a1 a2 a3) := by
  unfold State.sendMoc
  repeat' first
    | with_reducible first | assumption | refine State.setFr_keep ?_ ?_ _ _

theorem State.sendAgree_keep {M r s} (h : Keep M r s) (hM : Nat.land 128 M = 128) (a1 a2 a3 a4) :
    Keep M r (State.sendAgree s a1 a2 a3 a4) := by
  unfold State.sendAgree
  repeat' first
    | with_reducible assumption
    | (intro)
    | with_reducible first | refine State.sendMoc_keep ?_ ?_ _ _ _ | refine Keep.foldl ?_ ?_ _

theorem State.eraseSession_keep {M r s} (h : Keep M r s) (hM : Nat.land 32841 M = 32841) (a1) :
    Keep M r (State.eraseSession s a1) := by
  unfold State.eraseSession
  repeat' first
    | with_reducible first | assumption | refine State.eraseSlot_keep ?_ ?_ _

theorem State.eraseNext_keep {M r s} (h : Keep M r s) (hM : Nat.land 32841 M = 32841) (a1) :
    Keep M r (State.eraseNext s a1) := by
  unfold State.eraseNext
  repeat' first
    | with_reducible assumption
    | exact Zone.sub rfl hM
    | with_reducible first | refine State.eraseSlot_keep ?_ ?_ _ | refine State.setRt_keep ?_ ?_ _ _
    | split

theorem State.agreeState_keep {M r s} (h : Keep M r s) (hM : Nat.land 1 M = 1) (a1 a2) :
    Keep M r (State.agreeState s a1 a2) := by
  unfold State.agreeState
  repeat' first
    | with_reducible first | assumption | refine State.put_keep ?_ ?_ _ _ _

theorem State.agreeFail_keep {M r s} (h : Keep M r s) (hM : Nat.land 32985 M = 32985) (a1 a2 a3) :
    Keep M r (State.agreeFail s a1 a2 a3) := by
  unfold State.agreeFail
  repeat' first
    | with_reducible assumption
    | exact Zone.sub rfl hM
    | with_reducible first | refine State.sendAgree_keep ?_ ?_ _ _ _ _ | refine State.release_keep ?_ ?_ _ _
    | with_reducible first | refine State.eraseSession_keep ?_ ?_ _ | refine State.eraseNext_keep ?_ ?_ _
    | with_reducible first | refine State.log_keep ?_ ?_ _ _ | refine State.bump_keep ?_ ?_ _ _
    | with_reducible first | refine State.agreeState_keep ?_ ?_ _ _ | refine State.setRt_keep ?_ ?_ _ _
    | with_reducible refine Keep.ite ?_ ?_

theorem State.askLattice_keep {M r s} (h : Keep M r s) (hM : Nat.land 32857 M = 32857) (a1) :
    Keep M r (State.askLattice s a1).2 := by
  unfold State.askLattice
  repeat' first
    | with_reducible assumption
    | exact Zone.sub rfl hM
    | with_reducible first | refine State.accessDom_keep ?_ ?_ _ _ | refine State.ask_keep ?_ ?_ _ _ _
    | with_reducible first | refine State.setRt_keep ?_ ?_ _ _ | refine State.log_keep ?_ ?_ _ _
    | with_reducible first | refine Keep.ite ?_ ?_ | refine Keep.ite_snd ?_ ?_

theorem State.sign_keep {M r s} (h : Keep M r s) (hM : Nat.land 0 M = 0) (a1) :
    Keep M r (State.sign s a1).2 := by
  unfold State.sign
  repeat' first
    | with_reducible first | assumption | refine State.random_keep ?_ ?_ _

theorem State.startAgree_keep {M r s} (h : Keep M r s) (hM : Nat.land 32985 M = 32985) (a1) :
    Keep M r (State.startAgree s a1) := by
  unfold State.startAgree
  repeat' first
    | with_reducible assumption
    | exact Zone.sub rfl hM
    | with_reducible first | refine State.setRt_keep ?_ ?_ _ _ | refine State.agreeFail_keep ?_ ?_ _ _ _
    | with_reducible first | refine State.askLattice_keep ?_ ?_ _ | refine State.random_keep ?_ ?_ _
    | with_reducible first | refine State.fresh_keep ?_ ?_ _ | refine State.putSlot_keep ?_ ?_ _ _ _
    | with_reducible first | refine State.sign_keep ?_ ?_ _ | refine State.agreeState_keep ?_ ?_ _ _
    | with_reducible first | refine State.sendAgree_keep ?_ ?_ _ _ _ _ | refine Keep.ite ?_ ?_

theorem State.agreeAtLock_keep {M r s} (h : Keep M r s) (hM : Nat.land 32985 M = 32985) (a1) :
    Keep M r (State.agreeAtLock s a1) := by
  unfold State.agreeAtLock
  repeat' first
    | with_reducible assumption
    | exact Zone.sub rfl hM
    | with_reducible first | refine State.startAgree_keep ?_ ?_ _ | refine State.setRt_keep ?_ ?_ _ _
    | with_reducible refine Keep.ite ?_ ?_

theorem State.deriveRoot_keep {M r s} (h : Keep M r s) (hM : Nat.land 32857 M = 32857) (a1 a2 a3) :
    Keep M r (State.deriveRoot s a1 a2 a3) := by
  unfold State.deriveRoot
  repeat' first
    | with_reducible assumption
    | exact Zone.sub rfl hM
    | with_reducible first | refine State.release_keep ?_ ?_ _ _ | refine State.eraseSession_keep ?_ ?_ _
    | with_reducible refine State.setRt_keep ?_ ?_ _ _

theorem State.showPeer_keep {M r s} (h : Keep M r s) (hM : Nat.land 1 M = 1) (a1 a2) :
    Keep M r (State.showPeer s a1 a2) := by
  unfold State.showPeer
  repeat' first
    | with_reducible first | assumption | refine State.putO_keep ?_ ?_ _ _ _

theorem State.answerOffer_keep {M r s} (h : Keep M r s) (hM : Nat.land 49369 M = 49369) (a1 a2 a3) :
    Keep M r (State.answerOffer s a1 a2 a3) := by
  unfold State.answerOffer
  repeat' first
    | with_reducible assumption
    | exact Zone.sub rfl hM
    | with_reducible first | refine State.setRt_keep ?_ ?_ _ _ | refine State.agreeFail_keep ?_ ?_ _ _ _
    | with_reducible first | refine State.askLattice_keep ?_ ?_ _ | refine State.rootsGone_keep ?_ ?_ _
    | with_reducible first | refine State.eraseSlot_keep ?_ ?_ _ | refine State.random_keep ?_ ?_ _
    | with_reducible first | refine State.putSlot_keep ?_ ?_ _ _ _ | refine State.sign_keep ?_ ?_ _
    | with_reducible first | refine State.deriveRoot_keep ?_ ?_ _ _ _ | refine State.showPeer_keep ?_ ?_ _ _
    | with_reducible first | refine State.agreeState_keep ?_ ?_ _ _ | refine State.sendAgree_keep ?_ ?_ _ _ _ _
    | with_reducible refine Keep.ite ?_ ?_

theorem State.installDir_keep {M r s} (h : Keep M r s) (hM : Nat.land 16385 M = 16385) (a1 a2) :
    Keep M r (State.installDir s a1 a2) := by
  unfold State.installDir
  repeat' first
    | with_reducible assumption
    | (intro)
    | with_reducible first | refine State.setCtx_keep ?_ ?_ _ _ _ _ | refine Keep.foldl ?_ ?_ _

theorem State.quoteEffect_keep {M r s} (h : Keep M r s) (hM : Nat.land 32857 M = 32857) (a1) :
    Keep M r (State.quoteEffect s a1).2 := by
  unfold State.quoteEffect
  repeat' first
    | with_reducible assumption
    | exact Zone.sub rfl hM
    | with_reducible first | refine State.submit_keep ?_ ?_ _ | refine State.setGr_keep ?_ ?_ _
    | with_reducible refine Keep.ite_snd ?_ ?_

theorem State.rekeyEffect_keep {M r s} (h : Keep M r s) (hM : Nat.land 32985 M = 32985) (a1) :
    Keep M r (State.rekeyEffect s a1).2 := by
  unfold State.rekeyEffect
  repeat' first
    | with_reducible first | assumption | refine State.startAgree_keep ?_ ?_ _ | refine Keep.ite_snd ?_ ?_

theorem State.wrapped_keep {M r s} (h : Keep M r s) (hM : Nat.land 0 M = 0) (a1 a2) :
    Keep M r (State.wrapped s a1 a2).2 := by
  unfold State.wrapped
  repeat' first
    | with_reducible first | assumption | refine State.random_keep ?_ ?_ _

theorem State.saveSlot_keep {M r s} (h : Keep M r s) (hM : Nat.land 121 M = 121) (a1) :
    Keep M r (State.saveSlot s a1) := by
  unfold State.saveSlot
  repeat' first
    | with_reducible assumption
    | exact Zone.sub rfl hM
    | with_reducible first | refine State.writeRecord_keep ?_ ?_ _ _ _ _ _ | refine State.wrapped_keep ?_ ?_ _ _
    | with_reducible refine Keep.ite ?_ ?_

theorem State.slotEraseEffect_keep {M r s} (h : Keep M r s) (hM : Nat.land 32889 M = 32889) (a1) :
    Keep M r (State.slotEraseEffect s a1).2 := by
  unfold State.slotEraseEffect
  repeat' first
    | with_reducible assumption
    | exact Zone.sub rfl hM
    | with_reducible first | refine State.writeRecord_keep ?_ ?_ _ _ _ _ _ | refine State.eraseSlot_keep ?_ ?_ _
    | with_reducible refine Keep.ite_snd ?_ ?_

theorem State.slotPoison_keep {M r s} (h : Keep M r s) (hM : Nat.land 49369 M = 49369) (a1) :
    Keep M r (State.slotPoison s a1) := by
  unfold State.slotPoison
  repeat' first
    | with_reducible assumption
    | exact Zone.sub rfl hM
    | with_reducible first | refine State.dropSlot_keep ?_ ?_ _ _ | refine State.startAgree_keep ?_ ?_ _
    | with_reducible first | refine State.rootsGone_keep ?_ ?_ _ | refine State.agreeFail_keep ?_ ?_ _ _ _
    | with_reducible first | refine State.setGr_keep ?_ ?_ _ | refine Keep.ite ?_ ?_

theorem State.slotWriteEffect_keep {M r s} (h : Keep M r s) (hM : Nat.land 32889 M = 32889) (a1) :
    Keep M r (State.slotWriteEffect s a1).2 := by
  unfold State.slotWriteEffect
  repeat' first
    | with_reducible assumption
    | exact Zone.sub rfl hM
    | with_reducible first | refine State.writeSlot_keep ?_ ?_ _ _ _ | refine State.log_keep ?_ ?_ _ _
    | with_reducible first | refine State.saveSlot_keep ?_ ?_ _ | refine Keep.ite_snd ?_ ?_

theorem State.writeRoot_keep {M r s} (h : Keep M r s) (hM : Nat.land 49241 M = 49241) (a1 a2) :
    Keep M r (State.writeRoot s a1 a2) := by
  unfold State.writeRoot
  repeat' first
    | with_reducible assumption
    | exact Zone.sub rfl hM
    | (intro)
    | with_reducible first | refine State.putSlot_keep ?_ ?_ _ _ _ | refine State.setRt_keep ?_ ?_ _ _
    | with_reducible first | refine State.askKey_keep ?_ ?_ _ _ _ _ _ | refine State.setCtx_keep ?_ ?_ _ _ _ _
    | with_reducible first | refine Keep.ite ?_ ?_ | refine Keep.foldl ?_ ?_ _

theorem execAbort_keep (s : State) (a1 a2 a3) :
    ∃ t, execAbort a1 a2 a3 s = .next t ∧ Keep 32985 s t := by
  refine ⟨_, rfl, ?_⟩
  have h := Keep.refl 32985 s
  have hM : Nat.land 32985 32985 = 32985 := rfl
  repeat' first
    | with_reducible first | assumption | refine State.agreeFail_keep ?_ ?_ _ _ _ | refine Keep.ite ?_ ?_

theorem execAgreementRetry_keep (s : State) (a1) :
    ∃ t, execAgreementRetry a1 s = .next t ∧ Keep 32985 s t := by
  refine ⟨_, rfl, ?_⟩
  have h := Keep.refl 32985 s
  have hM : Nat.land 32985 32985 = 32985 := rfl
  repeat' first
    | with_reducible first | assumption | refine State.startAgree_keep ?_ ?_ _ | refine Keep.ite ?_ ?_
    | split

theorem execAgreementTimeout_keep (s : State) (a1) :
    ∃ t, execAgreementTimeout a1 s = .next t ∧ Keep 32985 s t := by
  refine ⟨_, rfl, ?_⟩
  have h := Keep.refl 32985 s
  have hM : Nat.land 32985 32985 = 32985 := rfl
  repeat' first
    | with_reducible first | assumption | refine State.agreeFail_keep ?_ ?_ _ _ _ | refine Keep.ite ?_ ?_

theorem execAnswer_keep (s : State) (a1 a2 a3) :
    ∃ t, execAnswer a1 a2 a3 s = .next t ∧ Keep 32985 s t := by
  refine ⟨_, rfl, ?_⟩
  have h := Keep.refl 32985 s
  have hM : Nat.land 32985 32985 = 32985 := rfl
  repeat' first
    | with_reducible assumption
    | exact Zone.sub rfl hM
    | with_reducible first | refine State.agreeFail_keep ?_ ?_ _ _ _ | refine State.putSlot_keep ?_ ?_ _ _ _
    | with_reducible first | refine State.deriveRoot_keep ?_ ?_ _ _ _ | refine State.showPeer_keep ?_ ?_ _ _
    | with_reducible first | refine State.setRt_keep ?_ ?_ _ _ | refine State.agreeState_keep ?_ ?_ _ _
    | with_reducible first | refine State.sendAgree_keep ?_ ?_ _ _ _ _ | refine Keep.ite ?_ ?_

theorem execConfirmI_keep (s : State) (a1 a2 a3) :
    ∃ t, execConfirmI a1 a2 a3 s = .next t ∧ Keep 49369 s t := by
  refine ⟨_, rfl, ?_⟩
  have h := Keep.refl 49369 s
  have hM : Nat.land 49369 49369 = 49369 := rfl
  repeat' first
    | with_reducible assumption
    | exact Zone.sub rfl hM
    | with_reducible first | refine State.agreeFail_keep ?_ ?_ _ _ _ | refine State.setRt_keep ?_ ?_ _ _
    | with_reducible first | refine State.writeRoot_keep ?_ ?_ _ _ | refine State.agreeState_keep ?_ ?_ _ _
    | with_reducible first | refine State.sendAgree_keep ?_ ?_ _ _ _ _ | refine Keep.ite ?_ ?_

theorem execConfirmR_keep (s : State) (a1 a2 a3) :
    ∃ t, execConfirmR a1 a2 a3 s = .next t ∧ Keep 49369 s t := by
  refine ⟨_, rfl, ?_⟩
  have h := Keep.refl 49369 s
  have hM : Nat.land 49369 49369 = 49369 := rfl
  repeat' first
    | with_reducible assumption
    | exact Zone.sub rfl hM
    | with_reducible first | refine State.agreeFail_keep ?_ ?_ _ _ _ | refine State.setRt_keep ?_ ?_ _ _
    | with_reducible first | refine State.writeRoot_keep ?_ ?_ _ _ | refine State.log_keep ?_ ?_ _ _
    | with_reducible refine Keep.ite ?_ ?_

theorem execLatticeRetry_keep (s : State) (a1) :
    ∃ t, execLatticeRetry a1 s = .next t ∧ Keep 49369 s t := by
  refine ⟨_, rfl, ?_⟩
  have h := Keep.refl 49369 s
  have hM : Nat.land 49369 49369 = 49369 := rfl
  repeat' first
    | with_reducible assumption
    | exact Zone.sub rfl hM
    | with_reducible first | refine State.startAgree_keep ?_ ?_ _ | refine State.answerOffer_keep ?_ ?_ _ _ _
    | with_reducible refine Keep.ite ?_ ?_
    | split

theorem execOffer_keep (s : State) (a1 a2 a3) :
    ∃ t, execOffer a1 a2 a3 s = .next t ∧ Keep 49369 s t := by
  refine ⟨_, rfl, ?_⟩
  have h := Keep.refl 49369 s
  have hM : Nat.land 49369 49369 = 49369 := rfl
  repeat' first
    | with_reducible assumption
    | exact Zone.sub rfl hM
    | with_reducible first | refine State.agreeFail_keep ?_ ?_ _ _ _ | refine State.eraseNext_keep ?_ ?_ _
    | with_reducible first | refine State.sendAgree_keep ?_ ?_ _ _ _ _ | refine State.answerOffer_keep ?_ ?_ _ _ _
    | with_reducible refine Keep.ite ?_ ?_

theorem execOfferWait_keep (s : State) (a1) :
    ∃ t, execOfferWait a1 s = .next t ∧ Keep 32985 s t := by
  refine ⟨_, rfl, ?_⟩
  have h := Keep.refl 32985 s
  have hM : Nat.land 32985 32985 = 32985 := rfl
  repeat' first
    | with_reducible first | assumption | refine State.startAgree_keep ?_ ?_ _ | refine Keep.ite ?_ ?_
    | split

theorem execQuoteRequest_keep (s : State) (a1 a2) :
    ∃ t, execQuoteRequest a1 a2 s = .next t ∧ Keep 32857 s t := by
  refine ⟨_, rfl, ?_⟩
  have h := Keep.refl 32857 s
  have hM : Nat.land 32857 32857 = 32857 := rfl
  repeat' first
    | with_reducible assumption
    | exact Zone.sub rfl hM
    | with_reducible refine State.quoteEffect_keep ?_ ?_ _
    | with_reducible refine State.hostWrite_keep ?_ ?_ _ _ _ _ _ (fun v t h => ?_)

theorem execRekeyRoot_keep (s : State) (a1 a2) :
    ∃ t, execRekeyRoot a1 a2 s = .next t ∧ Keep 32985 s t := by
  refine ⟨_, rfl, ?_⟩
  have h := Keep.refl 32985 s
  have hM : Nat.land 32985 32985 = 32985 := rfl
  repeat' first
    | with_reducible assumption
    | exact Zone.sub rfl hM
    | with_reducible refine State.rekeyEffect_keep ?_ ?_ _
    | with_reducible refine State.hostWrite_keep ?_ ?_ _ _ _ _ _ (fun v t h => ?_)

theorem execRootInstall_keep (s : State) (a1) :
    ∃ t, execRootInstall a1 s = .next t ∧ Keep 49225 s t := by
  refine ⟨_, rfl, ?_⟩
  have h := Keep.refl 49225 s
  have hM : Nat.land 49225 49225 = 49225 := rfl
  repeat' first
    | with_reducible assumption
    | exact Zone.sub rfl hM
    | with_reducible first | refine State.migrate_keep ?_ ?_ _ | refine State.agreeState_keep ?_ ?_ _ _
    | with_reducible first | refine State.bump_keep ?_ ?_ _ _ | refine State.setRt_keep ?_ ?_ _ _
    | with_reducible first | refine State.putO_keep ?_ ?_ _ _ _ | refine State.put_keep ?_ ?_ _ _ _
    | with_reducible first | refine State.installDir_keep ?_ ?_ _ _ | refine Keep.ite ?_ ?_
    | split

theorem execRootInterval_keep (s : State) (a1) :
    ∃ t, execRootInterval a1 s = .next t ∧ Keep 32985 s t := by
  refine ⟨_, rfl, ?_⟩
  have h := Keep.refl 32985 s
  have hM : Nat.land 32985 32985 = 32985 := rfl
  repeat' first
    | with_reducible first | assumption | refine State.startAgree_keep ?_ ?_ _ | refine Keep.ite ?_ ?_

theorem execRootMigrationDeadline_keep (s : State) (a1) :
    ∃ t, execRootMigrationDeadline a1 s = .next t ∧ Keep 16589 s t := by
  refine ⟨_, rfl, ?_⟩
  have h := Keep.refl 16589 s
  have hM : Nat.land 16589 16589 = 16589 := rfl
  repeat' first
    | with_reducible assumption
    | (intro)
    | with_reducible first | refine State.armRoll_keep ?_ ?_ _ _ _ _ | refine Keep.ite ?_ ?_
    | with_reducible refine Keep.foldl ?_ ?_ _
    | split

theorem execSlotErase_keep (s : State) (a1 a2) :
    ∃ t, execSlotErase a1 a2 s = .next t ∧ Keep 32889 s t := by
  refine ⟨_, rfl, ?_⟩
  have h := Keep.refl 32889 s
  have hM : Nat.land 32889 32889 = 32889 := rfl
  repeat' first
    | with_reducible assumption
    | exact Zone.sub rfl hM
    | with_reducible refine State.slotEraseEffect_keep ?_ ?_ _
    | with_reducible refine State.hostWrite_keep ?_ ?_ _ _ _ _ _ (fun v t h => ?_)

theorem execSlotWrite_keep (s : State) (a1 a2) :
    ∃ t, execSlotWrite a1 a2 s = .next t ∧ Keep 32889 s t := by
  refine ⟨_, rfl, ?_⟩
  have h := Keep.refl 32889 s
  have hM : Nat.land 32889 32889 = 32889 := rfl
  repeat' first
    | with_reducible assumption
    | exact Zone.sub rfl hM
    | with_reducible refine State.slotWriteEffect_keep ?_ ?_ _
    | with_reducible refine State.hostWrite_keep ?_ ?_ _ _ _ _ _ (fun v t h => ?_)

theorem State.blockRestoreEffect_keep {M r s} (h : Keep M r s) (hM : Nat.land 105 M = 105) (a1) :
    Keep M r (State.blockRestoreEffect s a1).2 := by
  unfold State.blockRestoreEffect
  repeat' first
    | with_reducible assumption
    | exact Zone.sub rfl hM
    | with_reducible first | refine State.log_keep ?_ ?_ _ _ | refine State.setBlock_keep ?_ ?_ _ _
    | with_reducible refine Keep.ite_snd ?_ ?_

theorem State.blockRetired_keep {M r s} (h : Keep M r s) (hM : Nat.land 121 M = 121) (a1) :
    Keep M r (State.blockRetired s a1) := by
  unfold State.blockRetired
  repeat' first
    | with_reducible assumption
    | exact Zone.sub rfl hM
    | with_reducible first | refine State.setBlock_keep ?_ ?_ _ _ | refine State.log_keep ?_ ?_ _ _
    | with_reducible first | refine State.recordRetirement_keep ?_ ?_ | refine Keep.ite ?_ ?_
    | (simp -zeta only [↓Keep.mk_iff]; with_reducible refine KeepF.upd_mem ?_ ?_ rfl)

theorem State.blockRetireRun_keep {M r s} (h : Keep M r s) (hM : Nat.land 121 M = 121) (a1) :
    Keep M r (State.blockRetireRun s a1) := by
  unfold State.blockRetireRun
  repeat' first
    | with_reducible assumption
    | exact Zone.sub rfl hM
    | with_reducible first | refine State.accessDom_keep ?_ ?_ _ _ | refine State.blockRetired_keep ?_ ?_ _
    | with_reducible first | refine State.regionFull_keep ?_ ?_ _ | refine State.relocate_keep ?_ ?_ (by assumption)
    | with_reducible refine Keep.ite ?_ ?_
    | (simp -zeta only [↓Keep.mk_iff]; with_reducible refine KeepF.upd_mem ?_ ?_ rfl)
    | dsimp -zeta only
    | (extract_lets +onlyGivenNames y; have : Mem := y; clear this; subst y)
    | split

theorem State.clearDomainSram_keep {M r s} (h : Keep M r s) (hM : Nat.land 8388640 M = 8388640) (d) : Keep M r (s.clearDomainSram d) :=
  h.mem_sram _ (Zone.sub rfl hM) (fun m => ⟨sram_filter_wf _ m.1, fun p hp => m.2 p (List.mem_filter.mp hp).1⟩)

theorem State.clearRetBank_keep {M r s} (h : Keep M r s) (hM : Nat.land 8388640 M = 8388640) (b) : Keep M r (s.clearRetBank b) :=
  h.mem_sram _ (Zone.sub rfl hM) (fun m => ⟨sramClear_wf _ _ m.1, fun p hp => m.2 p (List.mem_filter.mp hp).1⟩)

theorem State.failJob_keep {M r s} (h : Keep M r s) (hM : Nat.land 105 M = 105) (a1) :
    Keep M r (State.failJob s a1) := by
  unfold State.failJob
  repeat' first
    | with_reducible assumption
    | exact Zone.sub rfl hM
    | with_reducible first | refine State.regionFull_keep ?_ ?_ _ | refine State.refuse_keep ?_ ?_ _ _ _ _ _
    | (extract_lets +onlyGivenNames y; have hy : Keep M r y := ?_
       rotate_left; subst y; rotate_left; clear_value y)
    | split

theorem State.setBank_keep {M r s} (h : Keep M r s) (hM : Nat.land 32 M = 32) (a1 a2) :
    Keep M r (State.setBank s a1 a2) := by
  unfold State.setBank
  repeat' first
    | with_reducible assumption
    | (simp -zeta only [↓Keep.mk_iff]; with_reducible refine KeepF.upd_mem ?_ ?_ rfl)
    | (extract_lets +onlyGivenNames y; clear_value y)

theorem State.memBoundary_keep {M r s} (h : Keep M r s) (hM : Nat.land 121 M = 121) :
    Keep M r (State.memBoundary s) := by
  unfold State.memBoundary
  repeat' first
    | with_reducible assumption
    | exact Zone.sub rfl hM
    | (intro)
    | with_reducible first | refine State.setBank_keep ?_ ?_ _ _ | refine State.recordRetirement_keep ?_ ?_
    | with_reducible first | refine Keep.ite ?_ ?_ | refine Keep.foldl ?_ ?_ _
    | (extract_lets +onlyGivenNames y; have hy : Keep M r y := ?_
       rotate_left; subst y; rotate_left; clear_value y)
    | (extract_lets +onlyGivenNames y; clear_value y)
    | split

theorem State.retentionRetireRun_keep {M r s} (h : Keep M r s) (hM : Nat.land 121 M = 121) (a1) :
    Keep M r (State.retentionRetireRun s a1) := by
  unfold State.retentionRetireRun
  repeat' first
    | with_reducible assumption
    | exact Zone.sub rfl hM
    | with_reducible first | refine State.setRet_keep ?_ ?_ _ _ | refine State.log_keep ?_ ?_ _ _
    | with_reducible first | refine State.recordRetirement_keep ?_ ?_ | refine Keep.ite ?_ ?_
    | (extract_lets +onlyGivenNames y; clear_value y)
    | split

theorem State.rewrite_keep {M r s} (h : Keep M r s) (hM : Nat.land 105 M = 105) (a1 a2) :
    Keep M r (State.rewrite s a1 a2) := by
  unfold State.rewrite
  repeat' first
    | with_reducible assumption
    | exact Zone.sub rfl hM
    | with_reducible first | refine State.failJob_keep ?_ ?_ _ | refine State.takePages_keep ?_ ?_ (by assumption)
    | (simp -zeta only [↓Keep.mk_iff]; with_reducible refine KeepF.upd_mem ?_ ?_ rfl)
    | (extract_lets +onlyGivenNames y; have : Mem := y; clear this; subst y)
    | (extract_lets +onlyGivenNames y; clear_value y)
    | split

theorem State.sectorPlain_keep {M r s} (h : Keep M r s) (hM : Nat.land 32 M = 32) (a1) :
    Keep M r (State.sectorPlain s a1) := by
  unfold State.sectorPlain
  repeat' first
    | with_reducible assumption
    | (simp -zeta only [↓Keep.mk_iff]; with_reducible refine KeepF.upd_mem ?_ ?_ rfl)
    | (extract_lets +onlyGivenNames y; have : Mem := y; clear this; subst y)
    | split

theorem State.sectorRead_keep {M r s} (h : Keep M r s) (hM : Nat.land 105 M = 105) (a1 a2 a3) :
    Keep M r (State.sectorRead s a1 a2 a3) := by
  unfold State.sectorRead
  repeat' first
    | with_reducible assumption
    | exact Zone.sub rfl hM
    | with_reducible first | refine State.log_keep ?_ ?_ _ _ | refine State.setBlock_keep ?_ ?_ _ _
    | with_reducible first | refine State.sectorPlain_keep ?_ ?_ _ | refine Keep.ite ?_ ?_
    | (extract_lets +onlyGivenNames y; clear_value y)
    | split

theorem State.trendCheck_keep {M r s} (h : Keep M r s) (hM : Nat.land 105 M = 105) (a1 a2) :
    Keep M r (State.trendCheck s a1 a2) := by
  unfold State.trendCheck
  repeat' first
    | with_reducible assumption
    | exact Zone.sub rfl hM
    | with_reducible first | refine State.log_keep ?_ ?_ _ _ | refine State.setBank_keep ?_ ?_ _ _
    | with_reducible refine Keep.ite ?_ ?_

theorem State.sramCorrected_keep {M r s} (h : Keep M r s) (hM : Nat.land 105 M = 105) (a1 a2) :
    Keep M r (State.sramCorrected s a1 a2) := by
  unfold State.sramCorrected
  repeat' first
    | with_reducible assumption
    | exact Zone.sub rfl hM
    | with_reducible first | refine State.setBank_keep ?_ ?_ _ _ | refine State.occur_keep ?_ ?_ _ _
    | with_reducible first | refine State.add64_keep ?_ ?_ _ _ _ | refine State.trendCheck_keep ?_ ?_ _ _

theorem State.sramPoisoned_keep {M r s} (h : Keep M r s) (hM : Nat.land 105 M = 105) (a1 a2 a3) :
    Keep M r (State.sramPoisoned s a1 a2 a3) := by
  unfold State.sramPoisoned
  repeat' first
    | with_reducible assumption
    | exact Zone.sub rfl hM
    | with_reducible first | refine State.setBank_keep ?_ ?_ _ _ | refine State.log_keep ?_ ?_ _ _
    | with_reducible first | refine State.bump_keep ?_ ?_ _ _ | refine State.trendCheck_keep ?_ ?_ _ _

theorem State.sramRetireRun_keep {M r s} (h : Keep M r s) (hM : Nat.land 121 M = 121) (a1) :
    Keep M r (State.sramRetireRun s a1) := by
  unfold State.sramRetireRun
  repeat' first
    | with_reducible assumption
    | exact Zone.sub rfl hM
    | with_reducible first | refine State.setBank_keep ?_ ?_ _ _ | refine State.put_keep ?_ ?_ _ _ _
    | with_reducible first | refine State.log_keep ?_ ?_ _ _ | refine State.recordRetirement_keep ?_ ?_
    | with_reducible refine Keep.ite ?_ ?_
    | (simp -zeta only [↓Keep.mk_iff]; with_reducible refine KeepF.upd_mem ?_ ?_ rfl)

theorem State.suspend_keep {M r s} (h : Keep M r s) (hM : Nat.land 105 M = 105) (a1 a2) :
    Keep M r (State.suspend s a1 a2) := by
  unfold State.suspend
  repeat' first
    | with_reducible assumption
    | exact Zone.sub rfl hM
    | with_reducible first | refine State.setBlock_keep ?_ ?_ _ _ | refine State.log_keep ?_ ?_ _ _
    | (simp -zeta only [↓Keep.mk_iff]; with_reducible refine KeepF.upd_mem ?_ ?_ rfl)

theorem execBlockEraseDone_keep (s : State) (a1) :
    ∃ t, execBlockEraseDone a1 s = .next t ∧ Keep 105 s t := by
  refine ⟨_, rfl, ?_⟩
  have h := Keep.refl 105 s
  have hM : Nat.land 105 105 = 105 := rfl
  repeat' first
    | with_reducible assumption
    | exact Zone.sub rfl hM
    | with_reducible first | refine State.tidy_keep ?_ ?_ _ | refine State.suspend_keep ?_ ?_ _ _
    | with_reducible first | refine State.setBlock_keep ?_ ?_ _ _ | refine State.put_keep ?_ ?_ _ _ _
    | with_reducible first | refine State.log_keep ?_ ?_ _ _ | refine Keep.ite ?_ ?_
    | (simp -zeta only [↓Keep.mk_iff]; with_reducible refine KeepF.upd_mem ?_ ?_ rfl)
    | (extract_lets +onlyGivenNames y; have : Mem := y; clear this; subst y)
    | split

theorem execBlockRestore_keep (s : State) (a1 a2) :
    ∃ t, execBlockRestore a1 a2 s = .next t ∧ Keep 121 s t := by
  refine ⟨_, rfl, ?_⟩
  have h := Keep.refl 121 s
  have hM : Nat.land 121 121 = 121 := rfl
  repeat' first
    | with_reducible assumption
    | exact Zone.sub rfl hM
    | with_reducible refine State.blockRestoreEffect_keep ?_ ?_ _
    | with_reducible refine State.hostWrite_keep ?_ ?_ _ _ _ _ _ (fun v t h => ?_)

theorem execPageProgramDone_keep (s : State) (a1) :
    ∃ t, execPageProgramDone a1 s = .next t ∧ Keep 121 s t := by
  refine ⟨_, rfl, ?_⟩
  have h := Keep.refl 121 s
  have hM : Nat.land 121 121 = 121 := rfl
  repeat' first
    | with_reducible assumption
    | exact Zone.sub rfl hM
    | with_reducible first | refine State.touch_keep ?_ ?_ _ | refine State.countSectors_keep ?_ ?_ _ _
    | with_reducible first | refine State.program_keep ?_ ?_ _ _ | refine State.tidy_keep ?_ ?_ _
    | with_reducible first | refine State.rewrite_keep ?_ ?_ _ _ | refine State.suspend_keep ?_ ?_ _ _
    | with_reducible refine Keep.ite ?_ ?_
    | (simp -zeta only [↓Keep.mk_iff]; with_reducible refine KeepF.upd_mem ?_ ?_ rfl)
    | (extract_lets +onlyGivenNames y; have hy : Keep 121 s y := ?_
       rotate_left; subst y; rotate_left; clear_value y)
    | split

theorem execPageReadDone_keep (s : State) (a1 a2 a3) :
    ∃ t, execPageReadDone a1 a2 a3 s = .next t ∧ Keep 121 s t := by
  refine ⟨_, rfl, ?_⟩
  have h := Keep.refl 121 s
  have hM : Nat.land 121 121 = 121 := rfl
  repeat' first
    | with_reducible assumption
    | exact Zone.sub rfl hM
    | (intro)
    | with_reducible first | refine State.touch_keep ?_ ?_ _ | refine State.countSectors_keep ?_ ?_ _ _
    | with_reducible first | refine State.sectorRead_keep ?_ ?_ _ _ _ | refine Keep.ite ?_ ?_
    | with_reducible refine Keep.foldl ?_ ?_ _
    | (simp -zeta only [↓Keep.mk_iff]; with_reducible refine KeepF.upd_mem ?_ ?_ rfl)

theorem execRecordWrite_keep (s : State) (a1 a2 a3 a4) :
    ∃ t, execRecordWrite a1 a2 a3 a4 s = .next t ∧ Keep 121 s t := by
  refine ⟨_, rfl, ?_⟩
  have h := Keep.refl 121 s
  have hM : Nat.land 121 121 = 121 := rfl
  repeat' first
    | with_reducible first | assumption | refine State.writeRecord_keep ?_ ?_ _ _ _ _ _ | refine Keep.ite ?_ ?_

theorem execRefresh_keep (s : State) (a1) :
    ∃ t, execRefresh a1 s = .next t ∧ Keep 121 s t := by
  refine ⟨_, rfl, ?_⟩
  have h := Keep.refl 121 s
  have hM : Nat.land 121 121 = 121 := rfl
  repeat' first
    | with_reducible assumption
    | exact Zone.sub rfl hM
    | (intro)
    | (extract_lets +onlyGivenNames y; have hy : Keep 121 s y := (by subst y; with_reducible assumption)
       clear hy; subst y)
    | (extract_lets +onlyGivenNames y; have hy : Keep 121 s y := ?_
       rotate_left; subst y; rotate_left; clear_value y)
    | (extract_lets +onlyGivenNames y; have hy : Keep 121 s y.2 := ?_
       rotate_left; subst y; rotate_left; clear_value y)
    | (extract_lets +onlyGivenNames y; have : Mem := y; clear this; subst y)
    | with_reducible first | refine State.accessDom_keep ?_ ?_ _ _ | refine State.regionFull_keep ?_ ?_ _
    | with_reducible first | refine State.log_keep ?_ ?_ _ _ | refine State.queueRecord_keep ?_ ?_ _ _ _
    | with_reducible first | refine State.newRecord_keep ?_ ?_ (by assumption) | refine Keep.ite ?_ ?_
    | with_reducible refine Keep.foldl ?_ ?_ _
    | (simp -zeta only [↓Keep.mk_iff]; with_reducible refine KeepF.upd_mem ?_ ?_ rfl)
    | split

theorem State.setCtr_keep {M r s} (h : Keep M r s) (hM : Nat.land 8 M = 8) (a1) :
    Keep M r (State.setCtr s a1) := by
  unfold State.setCtr
  repeat' first
    | with_reducible assumption
    | (simp -zeta only [↓Keep.mk_iff]; with_reducible refine KeepF.upd_diag ?_ ?_ rfl rfl rfl)
    | (extract_lets +onlyGivenNames y; clear_value y)

theorem State.counterBoundary_keep {M r s} (h : Keep M r s) (hM : Nat.land 9 M = 9) :
    Keep M r (State.counterBoundary s) := by
  unfold State.counterBoundary
  repeat' first
    | with_reducible assumption
    | exact Zone.sub rfl hM
    | (intro)
    | with_reducible first | refine State.put_keep ?_ ?_ _ _ _ | refine State.setCtr_keep ?_ ?_ _
    | with_reducible first | refine State.putO_keep ?_ ?_ _ _ _ | refine Keep.ite ?_ ?_ | refine Keep.foldl ?_ ?_ _
    | (simp -zeta only [↓Keep.mk_iff]; with_reducible refine KeepF.upd_diag ?_ ?_ rfl rfl rfl)
    | (extract_lets +onlyGivenNames y; have hy : Keep M r y := ?_
       rotate_left; subst y; rotate_left; clear_value y)
    | (extract_lets +onlyGivenNames y; clear_value y)
    | split

theorem State.counterClearEffect_keep {M r s} (h : Keep M r s) (hM : Nat.land 8 M = 8) (a1) :
    Keep M r (State.counterClearEffect s a1).2 := by
  unfold State.counterClearEffect
  repeat' first
    | with_reducible assumption
    | (simp -zeta only [↓Keep.mk_iff]; with_reducible refine KeepF.upd_diag ?_ ?_ rfl rfl rfl)

theorem State.counterRangeEffect_keep {M r s} (h : Keep M r s) (hM : Nat.land 8 M = 8) (a1 a2) :
    Keep M r (State.counterRangeEffect s a1 a2).2 := by
  unfold State.counterRangeEffect
  repeat' first
    | with_reducible assumption
    | (simp -zeta only [↓Keep.mk_iff]; with_reducible refine KeepF.upd_diag ?_ ?_ rfl rfl rfl)
    | (extract_lets +onlyGivenNames y; clear_value y)

theorem State.counterSelectEffect_keep {M r s} (h : Keep M r s) (hM : Nat.land 8 M = 8) (a1 a2) :
    Keep M r (State.counterSelectEffect s a1 a2).2 := by
  unfold State.counterSelectEffect
  repeat' first
    | with_reducible assumption
    | (simp -zeta only [↓Keep.mk_iff]; with_reducible refine KeepF.upd_diag ?_ ?_ rfl rfl rfl)

theorem State.countersLost_keep {M r s} (h : Keep M r s) (hM : Nat.land 73 M = 73) (a1 a2) :
    Keep M r (State.countersLost s a1 a2) := by
  unfold State.countersLost
  repeat' first
    | with_reducible assumption
    | exact Zone.sub rfl hM
    | with_reducible refine State.log_keep ?_ ?_ _ _
    | (simp -zeta only [↓Keep.mk_iff]; with_reducible refine KeepF.upd_diag ?_ ?_ rfl rfl rfl)

theorem State.eventFetchEffect_keep {M r s} (h : Keep M r s) (hM : Nat.land 89 M = 89) (a1) :
    Keep M r (State.eventFetchEffect s a1).2 := by
  unfold State.eventFetchEffect
  repeat' first
    | with_reducible assumption
    | exact Zone.sub rfl hM
    | with_reducible first | refine State.accessDom_keep ?_ ?_ _ _ | refine State.putO_keep ?_ ?_ _ _ _
    | with_reducible refine Keep.ite ?_ ?_

theorem State.logOverflow_keep {M r s} (h : Keep M r s) (hM : Nat.land 67108937 M = 67108937) :
    Keep M r (State.logOverflow s) := by
  unfold State.logOverflow
  repeat' first
    | with_reducible assumption
    | exact Zone.sub rfl hM
    | with_reducible first | refine State.log_keep ?_ ?_ _ _ | refine State.addTo_keep ?_ ?_ _ _ _ _
    | with_reducible refine Keep.ite ?_ ?_
    | (simp -zeta only [↓Keep.mk_iff]; refine KeepF.of ?_ hM rfl rfl rfl rfl rfl rfl)

theorem State.setSnap_keep {M r s} (h : Keep M r s) (hM : Nat.land 8 M = 8) (a1 a2) :
    Keep M r (State.setSnap s a1 a2) := by
  unfold State.setSnap
  repeat' first
    | with_reducible assumption
    | (simp -zeta only [↓Keep.mk_iff]; with_reducible refine KeepF.upd_diag ?_ ?_ rfl rfl rfl)

theorem State.snapCommitted_keep {M r s} (h : Keep M r s) (hM : Nat.land 8 M = 8) (a1 a2) :
    Keep M r (State.snapCommitted s a1 a2) := by
  unfold State.snapCommitted
  repeat' first
    | with_reducible first | assumption | refine State.setSnap_keep ?_ ?_ _ _

theorem State.snapCopy_keep {M r s} (h : Keep M r s) (hM : Nat.land 121 M = 121) (a1) :
    Keep M r (State.snapCopy s a1) := by
  unfold State.snapCopy
  repeat' first
    | with_reducible assumption
    | exact Zone.sub rfl hM
    | with_reducible first | refine State.writeRecord_keep ?_ ?_ _ _ _ _ _ | refine State.setSnap_keep ?_ ?_ _ _

theorem State.snapPoison_keep {M r s} (h : Keep M r s) (hM : Nat.land 8 M = 8) (a1 a2) :
    Keep M r (State.snapPoison s a1 a2) := by
  unfold State.snapPoison
  repeat' first
    | with_reducible first | assumption | refine State.setSnap_keep ?_ ?_ _ _

theorem State.snapshotPeriodic_keep {M r s} (h : Keep M r s) (hM : Nat.land 77 M = 77) :
    Keep M r (State.snapshotPeriodic s) := by
  unfold State.snapshotPeriodic
  repeat' first
    | with_reducible assumption
    | exact Zone.sub rfl hM
    | with_reducible first | refine State.setEntries_keep ?_ ?_ _ | refine State.arm_keep ?_ ?_ _
    | with_reducible refine Keep.ite ?_ ?_

theorem State.snapshotRun_keep {M r s} (h : Keep M r s) (hM : Nat.land 8 M = 8) (a1 a2) :
    Keep M r (State.snapshotRun s a1 a2) := by
  unfold State.snapshotRun
  repeat' first
    | with_reducible first | assumption | refine State.occur_keep ?_ ?_ _ _
    | (simp -zeta only [↓Keep.mk_iff]; with_reducible refine KeepF.upd_diag ?_ ?_ rfl rfl rfl)

theorem execCounterClear_keep (s : State) (a1 a2) :
    ∃ t, execCounterClear a1 a2 s = .next t ∧ Keep 89 s t := by
  refine ⟨_, rfl, ?_⟩
  have h := Keep.refl 89 s
  have hM : Nat.land 89 89 = 89 := rfl
  repeat' first
    | with_reducible assumption
    | exact Zone.sub rfl hM
    | with_reducible refine State.counterClearEffect_keep ?_ ?_ _
    | with_reducible refine State.hostWrite_keep ?_ ?_ _ _ _ _ _ (fun v t h => ?_)

theorem execCounterRangeWrite_keep (s : State) (a1 a2 a3) :
    ∃ t, execCounterRangeWrite a1 a2 a3 s = .next t ∧ Keep 89 s t := by
  refine ⟨_, rfl, ?_⟩
  have h := Keep.refl 89 s
  have hM : Nat.land 89 89 = 89 := rfl
  repeat' first
    | with_reducible assumption
    | exact Zone.sub rfl hM
    | with_reducible refine State.counterRangeEffect_keep ?_ ?_ _ _
    | with_reducible refine State.hostWrite_keep ?_ ?_ _ _ _ _ _ (fun v t h => ?_)

theorem execCounterSelectWrite_keep (s : State) (a1 a2 a3) :
    ∃ t, execCounterSelectWrite a1 a2 a3 s = .next t ∧ Keep 89 s t := by
  refine ⟨_, rfl, ?_⟩
  have h := Keep.refl 89 s
  have hM : Nat.land 89 89 = 89 := rfl
  repeat' first
    | with_reducible assumption
    | exact Zone.sub rfl hM
    | with_reducible refine State.counterSelectEffect_keep ?_ ?_ _ _
    | with_reducible refine State.hostWrite_keep ?_ ?_ _ _ _ _ _ (fun v t h => ?_)

theorem execEventFetch_keep (s : State) (a1 a2) :
    ∃ t, execEventFetch a1 a2 s = .next t ∧ Keep 89 s t := by
  refine ⟨_, rfl, ?_⟩
  have h := Keep.refl 89 s
  have hM : Nat.land 89 89 = 89 := rfl
  repeat' first
    | with_reducible first | assumption | refine State.eventFetchEffect_keep ?_ ?_ _
    | with_reducible refine State.hostWrite_keep ?_ ?_ _ _ _ _ _ (fun v t h => ?_)

theorem execLogWrite_keep (s : State) :
    ∃ t, execLogWrite s = .next t ∧ Keep 67108985 s t := by
  refine ⟨_, rfl, ?_⟩
  have h := Keep.refl 67108985 s
  have hM : Nat.land 67108985 67108985 = 67108985 := rfl
  repeat' first
    | with_reducible assumption
    | exact Zone.sub rfl hM
    | with_reducible first | refine State.writeRecord_keep ?_ ?_ _ _ _ _ _ | refine State.logOverflow_keep ?_ ?_
    | with_reducible refine Keep.ite ?_ ?_
    | (simp -zeta only [↓Keep.mk_iff]; refine KeepF.of ?_ hM rfl rfl rfl rfl rfl rfl)
    | (extract_lets +onlyGivenNames y; have hy : Keep 67108985 s y := (by subst y; with_reducible assumption)
       clear hy; subst y)
    | (extract_lets +onlyGivenNames y; have hy : Keep 67108985 s y.2 := ?_
       rotate_left; subst y; rotate_left; clear_value y)
    | (extract_lets +onlyGivenNames y; have : Diag := y; clear this; subst y)
    | (extract_lets +onlyGivenNames y; clear_value y)
    | split

theorem execSnapshotCopyRetry_keep (s : State) (a1) :
    ∃ t, execSnapshotCopyRetry a1 s = .next t ∧ Keep 121 s t := by
  refine ⟨_, rfl, ?_⟩
  have h := Keep.refl 121 s
  have hM : Nat.land 121 121 = 121 := rfl
  repeat' first
    | with_reducible first | assumption | refine State.snapCopy_keep ?_ ?_ _ | refine Keep.ite ?_ ?_
    | split

theorem execSnapshotLatch_keep (s : State) :
    ∃ t, execSnapshotLatch s = .next t ∧ Keep 121 s t := by
  refine ⟨_, rfl, ?_⟩
  have h := Keep.refl 121 s
  have hM : Nat.land 121 121 = 121 := rfl
  repeat' first
    | with_reducible assumption
    | exact Zone.sub rfl hM
    | with_reducible first | refine State.bump_keep ?_ ?_ _ _ | refine State.log_keep ?_ ?_ _ _
    | with_reducible first | refine State.put_keep ?_ ?_ _ _ _ | refine State.snapCopy_keep ?_ ?_ _
    | with_reducible refine Keep.ite ?_ ?_
    | (simp -zeta only [↓Keep.mk_iff]; with_reducible refine KeepF.upd_diag ?_ ?_ rfl rfl rfl)
    | (extract_lets +onlyGivenNames y; have hy : Keep 121 s y := ?_
       rotate_left; subst y; rotate_left; clear_value y)
    | (extract_lets +onlyGivenNames y; have : Diag := y; clear this; subst y)
    | (extract_lets +onlyGivenNames y; clear_value y)
    | split

theorem State.calBoundary_keep {M r s} (h : Keep M r s) (hM : Nat.land 637 M = 637) :
    Keep M r (State.calBoundary s) := by
  unfold State.calBoundary
  repeat' first
    | with_reducible assumption
    | exact Zone.sub rfl hM
    | with_reducible first | refine State.calSave_keep ?_ ?_ _ | refine State.armLoads_keep ?_ ?_ _ _ _
    | with_reducible refine Keep.ite ?_ ?_
    | (simp -zeta only [↓Keep.mk_iff]; with_reducible refine KeepF.upd_cal ?_ ?_)

theorem State.calClearEffect_keep {M r s} (h : Keep M r s) (hM : Nat.land 512 M = 512) :
    Keep M r (State.calClearEffect s).2 := by
  unfold State.calClearEffect
  repeat' first
    | with_reducible assumption
    | (simp -zeta only [↓Keep.mk_iff]; with_reducible refine KeepF.upd_cal ?_ ?_)

theorem State.calReloadEffect_keep {M r s} (h : Keep M r s) (hM : Nat.land 589 M = 589) (a1) :
    Keep M r (State.calReloadEffect s a1).2 := by
  unfold State.calReloadEffect
  repeat' first
    | with_reducible first | assumption | refine State.armLoads_keep ?_ ?_ _ _ _

theorem State.calSaveEffect_keep {M r s} (h : Keep M r s) (hM : Nat.land 633 M = 633) :
    Keep M r (State.calSaveEffect s).2 := by
  unfold State.calSaveEffect
  repeat' first
    | with_reducible first | assumption | refine State.calSave_keep ?_ ?_ _

theorem State.wakeSetLoads_keep {M r s} (h : Keep M r s) (hM : Nat.land 589 M = 589) (a1 a2 a3) :
    Keep M r (State.wakeSetLoads s a1 a2 a3) := by
  unfold State.wakeSetLoads
  repeat' first
    | with_reducible assumption
    | exact Zone.sub rfl hM
    | (intro)
    | with_reducible first | refine State.armLoad_keep ?_ ?_ _ _ _ _ | refine Keep.foldl ?_ ?_ _
    | (simp -zeta only [↓Keep.mk_iff]; with_reducible refine KeepF.upd_cal ?_ ?_)

theorem execCalLearnedClear_keep (s : State) (a1 a2) :
    ∃ t, execCalLearnedClear a1 a2 s = .next t ∧ Keep 601 s t := by
  refine ⟨_, rfl, ?_⟩
  have h := Keep.refl 601 s
  have hM : Nat.land 601 601 = 601 := rfl
  repeat' first
    | with_reducible assumption
    | exact Zone.sub rfl hM
    | with_reducible refine State.calClearEffect_keep ?_ ?_
    | with_reducible refine State.hostWrite_keep ?_ ?_ _ _ _ _ _ (fun v t h => ?_)

theorem execCalReload_keep (s : State) (a1 a2 a3) :
    ∃ t, execCalReload a1 a2 a3 s = .next t ∧ Keep 605 s t := by
  refine ⟨_, rfl, ?_⟩
  have h := Keep.refl 605 s
  have hM : Nat.land 605 605 = 605 := rfl
  repeat' first
    | with_reducible assumption
    | exact Zone.sub rfl hM
    | with_reducible refine State.calReloadEffect_keep ?_ ?_ _
    | with_reducible refine State.hostWrite_keep ?_ ?_ _ _ _ _ _ (fun v t h => ?_)

theorem execCalSave_keep (s : State) (a1 a2) :
    ∃ t, execCalSave a1 a2 s = .next t ∧ Keep 633 s t := by
  refine ⟨_, rfl, ?_⟩
  have h := Keep.refl 633 s
  have hM : Nat.land 633 633 = 633 := rfl
  repeat' first
    | with_reducible assumption
    | exact Zone.sub rfl hM
    | with_reducible refine State.calSaveEffect_keep ?_ ?_
    | with_reducible refine State.hostWrite_keep ?_ ?_ _ _ _ _ _ (fun v t h => ?_)

theorem execCalSaveInterval_keep (s : State) :
    ∃ t, execCalSaveInterval s = .next t ∧ Keep 633 s t := by
  unfold execCalSaveInterval
  have h := Keep.refl 633 s
  have hM : Nat.land 633 633 = 633 := rfl
  repeat' first
    | split
    | (refine ⟨_, rfl, ?_⟩)
  repeat' first
    | with_reducible assumption
    | exact Zone.sub rfl hM
    | with_reducible refine State.calSave_keep ?_ ?_ _
    | (simp -zeta only [↓Keep.mk_iff]; with_reducible refine KeepF.upd_cal ?_ ?_)

theorem execCalSaveRetry_keep (s : State) :
    ∃ t, execCalSaveRetry s = .next t ∧ Keep 633 s t := by
  unfold execCalSaveRetry
  have h := Keep.refl 633 s
  have hM : Nat.land 633 633 = 633 := rfl
  repeat' first
    | split
    | (refine ⟨_, rfl, ?_⟩)
  repeat' first
    | with_reducible first | assumption | refine State.calSave_keep ?_ ?_ _

theorem State.rebaseOuter_keep {M r s} (h : Keep M r s) (hM : Nat.land 8257536 M = 8257536) (a1) :
    Keep M r (State.rebaseOuter s a1) := by
  unfold State.rebaseOuter
  repeat' first
    | with_reducible assumption
    | (simp -zeta only [↓Keep.mk_iff]; refine KeepF.of ?_ hM rfl rfl rfl rfl rfl rfl)

theorem State.rebaseInner_keep {M r s} (h : Keep M r s) (hM : Nat.land 110592 M = 110592) (a1) :
    Keep M r (State.rebaseInner s a1) := by
  unfold State.rebaseInner
  repeat' first
    | with_reducible assumption
    | (simp -zeta only [↓Keep.mk_iff]; refine KeepF.of ?_ hM rfl rfl rfl rfl rfl rfl)

theorem State.rebaseLine_keep {M r s} (h : Keep M r s) (hM : Nat.land 3968 M = 3968) (a1) :
    Keep M r (State.rebaseLine s a1) := by
  unfold State.rebaseLine
  repeat' first
    | with_reducible assumption
    | (simp -zeta only [↓Keep.mk_iff]; refine KeepF.of ?_ hM rfl rfl rfl rfl rfl rfl)

theorem State.rebaseCore_keep {M r s} (h : Keep M r s) (hM : Nat.land 120 M = 120) (a1) :
    Keep M r (State.rebaseCore s a1) := by
  unfold State.rebaseCore
  repeat' first
    | with_reducible assumption
    | (simp -zeta only [↓Keep.mk_iff]; refine KeepF.of ?_ hM rfl rfl rfl rfl rfl rfl)

theorem State.rebase_keep {M r s} (h : Keep M r s) (hM : Nat.land 8372216 M = 8372216) (a1) :
    Keep M r (State.rebase s a1) := by
  unfold State.rebase
  repeat' first
    | with_reducible assumption
    | exact Zone.sub rfl hM
    | with_reducible first | refine State.rebaseOuter_keep ?_ ?_ _ | refine State.rebaseInner_keep ?_ ?_ _
    | with_reducible first | refine State.rebaseLine_keep ?_ ?_ _ | refine State.rebaseCore_keep ?_ ?_ _

end Sys2Proof.Machine
end

