-- ==== Sys2Proof/Laws/KeepTime.lean ====
section
/-! SUPPORT. What the operations of Belvedere, the footpath, framing, the avenues, the group and the domain keep. The number of each lemma is the
set of parts of the state it may change (`Keep`). -/

namespace Sys2Proof.Machine

set_option Elab.async false
set_option linter.all false

theorem State.setBel_keep {M r s} (h : Keep M r s) (hM : Nat.land 65536 M = 65536) (a1) :
    Keep M r (State.setBel s a1) := by
  unfold State.setBel
  repeat' first
    | with_reducible assumption
    | (simp -zeta only [↓Keep.mk_iff]; with_reducible refine KeepF.upd_bel ?_ ?_)

theorem State.setLine_keep {M r s} (h : Keep M r s) (hM : Nat.land 65536 M = 65536) (a1 a2) :
    Keep M r (State.setLine s a1 a2) := by
  unfold State.setLine
  repeat' first
    | with_reducible first | assumption | refine State.setBel_keep ?_ ?_ _

theorem State.arrives_keep {M r s} (h : Keep M r s) (hM : Nat.land 65536 M = 65536) (a1 a2 a3) :
    Keep M r (State.arrives s a1 a2 a3) := by
  unfold State.arrives
  repeat' first
    | with_reducible first | assumption | refine State.setLine_keep ?_ ?_ _ _

theorem State.setAsym_keep {M r s} (h : Keep M r s) (hM : Nat.land 73 M = 73) (a1 a2) :
    Keep M r (State.setAsym s a1 a2) := by
  unfold State.setAsym
  repeat' first
    | with_reducible assumption
    | exact Zone.sub rfl hM
    | with_reducible first | refine State.logC_keep ?_ ?_ _ _ _ | refine State.put_keep ?_ ?_ _ _ _
    | with_reducible refine Keep.ite ?_ ?_

theorem State.asymAtLock_keep {M r s} (h : Keep M r s) (hM : Nat.land 65609 M = 65609) (a1) :
    Keep M r (State.asymAtLock s a1) := by
  unfold State.asymAtLock
  repeat' first
    | with_reducible assumption
    | exact Zone.sub rfl hM
    | with_reducible first | refine State.setAsym_keep ?_ ?_ _ _ | refine State.setLine_keep ?_ ?_ _ _

theorem State.showAsym_keep {M r s} (h : Keep M r s) (hM : Nat.land 1 M = 1) (a1 a2 a3) :
    Keep M r (State.showAsym s a1 a2 a3) := by
  unfold State.showAsym
  repeat' first
    | with_reducible first | assumption | refine State.put_keep ?_ ?_ _ _ _

theorem State.asymRun_keep {M r s} (h : Keep M r s) (hM : Nat.land 65609 M = 65609) (a1) :
    Keep M r (State.asymRun s a1) := by
  unfold State.asymRun
  repeat' first
    | with_reducible assumption
    | exact Zone.sub rfl hM
    | with_reducible first | refine State.showAsym_keep ?_ ?_ _ _ _ | refine State.setAsym_keep ?_ ?_ _ _
    | with_reducible first | refine State.setLine_keep ?_ ?_ _ _ | refine Keep.ite ?_ ?_

theorem State.belActivate_keep {M r s} (h : Keep M r s) (hM : Nat.land 65536 M = 65536) :
    Keep M r (State.belActivate s) := by
  unfold State.belActivate
  repeat' first
    | with_reducible first | assumption | refine State.setBel_keep ?_ ?_ _

theorem State.setInput_keep {M r s} (h : Keep M r s) (hM : Nat.land 65536 M = 65536) (a1 a2) :
    Keep M r (State.setInput s a1 a2) := by
  unfold State.setInput
  repeat' first
    | with_reducible first | assumption | refine State.setBel_keep ?_ ?_ _

theorem State.showInput_keep {M r s} (h : Keep M r s) (hM : Nat.land 1 M = 1) (a1) :
    Keep M r (State.showInput s a1) := by
  unfold State.showInput
  repeat' first
    | with_reducible first | assumption | refine State.put_keep ?_ ?_ _ _ _

theorem State.testInput_keep {M r s} (h : Keep M r s) (hM : Nat.land 65609 M = 65609) (a1 a2) :
    Keep M r (State.testInput s a1 a2) := by
  unfold State.testInput
  repeat' first
    | with_reducible assumption
    | exact Zone.sub rfl hM
    | (intro)
    | with_reducible first | refine State.put_keep ?_ ?_ _ _ _ | refine State.setInput_keep ?_ ?_ _ _
    | with_reducible first | refine State.setBel_keep ?_ ?_ _ | refine State.logC_keep ?_ ?_ _ _ _
    | with_reducible first | refine State.setLine_keep ?_ ?_ _ _ | refine State.showInput_keep ?_ ?_ _
    | with_reducible first | refine Keep.ite ?_ ?_ | refine Keep.foldl ?_ ?_ _
    | split

theorem State.seePhase_keep {M r s} (h : Keep M r s) (hM : Nat.land 65536 M = 65536) (a1) :
    Keep M r (State.seePhase s a1) := by
  unfold State.seePhase
  repeat' first
    | with_reducible first | assumption | refine State.setBel_keep ?_ ?_ _

theorem State.mateAlarm_keep {M r s} (h : Keep M r s) (hM : Nat.land 65609 M = 65609) (a1) :
    Keep M r (State.mateAlarm s a1) := by
  unfold State.mateAlarm
  repeat' first
    | with_reducible assumption
    | exact Zone.sub rfl hM
    | with_reducible first | refine State.setBel_keep ?_ ?_ _ | refine State.log_keep ?_ ?_ _ _
    | with_reducible refine Keep.ite ?_ ?_
    | dsimp -zeta only
    | (extract_lets +onlyGivenNames y; have : _ → _ → State := y; clear this; subst y)
    | (extract_lets +onlyGivenNames y; clear_value y)
    | split

theorem State.setRung_keep {M r s} (h : Keep M r s) (hM : Nat.land 65609 M = 65609) (a1 a2) :
    Keep M r (State.setRung s a1 a2) := by
  unfold State.setRung
  repeat' first
    | with_reducible assumption
    | exact Zone.sub rfl hM
    | with_reducible first | refine State.setBel_keep ?_ ?_ _ | refine State.log_keep ?_ ?_ _ _
    | with_reducible refine Keep.ite ?_ ?_

theorem State.startLoop_keep {M r s} (h : Keep M r s) (hM : Nat.land 65609 M = 65609) :
    Keep M r (State.startLoop s) := by
  unfold State.startLoop
  repeat' first
    | with_reducible assumption
    | exact Zone.sub rfl hM
    | with_reducible first | refine State.setBel_keep ?_ ?_ _ | refine State.setRung_keep ?_ ?_ _ _
    | with_reducible refine Keep.ite ?_ ?_

theorem State.takeFreq_keep {M r s} (h : Keep M r s) (hM : Nat.land 65609 M = 65609) (a1 a2) :
    Keep M r (State.takeFreq s a1 a2) := by
  unfold State.takeFreq
  repeat' first
    | with_reducible assumption
    | exact Zone.sub rfl hM
    | with_reducible first | refine State.put_keep ?_ ?_ _ _ _ | refine State.setBel_keep ?_ ?_ _
    | with_reducible first | refine State.log_keep ?_ ?_ _ _ | refine State.bump_keep ?_ ?_ _ _
    | with_reducible first | refine State.startLoop_keep ?_ ?_ | refine Keep.ite ?_ ?_

theorem State.holdTime_keep {M r s} (h : Keep M r s) (hM : Nat.land 65536 M = 65536) (a1) :
    Keep M r (State.holdTime s a1) := by
  unfold State.holdTime
  repeat' first
    | with_reducible first | assumption | refine State.setBel_keep ?_ ?_ _

theorem State.stepTime_keep {M r s} (h : Keep M r s) (hM : Nat.land 25149437 M = 25149437) (d) : Keep M r (State.stepTime s d) := by
  have foldl_sfn : ∀ (l : List Entry) (t : State), (l.foldl (fun s e => s.missEntry e 3) t).clk.sfn = t.clk.sfn := by
    intro l
    induction l with
    | nil => intro t; rfl
    | cons e l ih => intro t; exact (ih _).trans ((State.missEntry_keep (Keep.refl 77 t) rfl e 3).sfn rfl)
  unfold State.stepTime
  split
  · extract_lets n tick new gone t u
    refine State.rebase_keep ?_ (Zone.sub rfl hM) _
    have ht : Keep M r t := Keep.foldl h (fun t x k => State.missEntry_keep k (Zone.sub rfl hM) _ _) _
    have e : t.clk.sfn = s.clk.sfn := foldl_sfn gone s
    exact (KeepF.of ht hM rfl rfl rfl rfl rfl rfl (clk := { t.clk with sfn := new, tick := tick })
      (h_later := Or.inl (e ▸ Nat.le_add_right _ _))).keep
  · simp -zeta only [↓Keep.mk_iff]
    exact KeepF.of h hM rfl rfl rfl rfl rfl rfl

theorem State.firstAnchor_keep {M r s} (h : Keep M r s) (hM : Nat.land 25149437 M = 25149437) (a1) :
    Keep M r (State.firstAnchor s a1) := by
  unfold State.firstAnchor
  repeat' first
    | with_reducible assumption
    | exact Zone.sub rfl hM
    | with_reducible first | refine State.setEntries_keep ?_ ?_ _ | refine State.stepTime_keep ?_ ?_ _
    | with_reducible refine State.log_keep ?_ ?_ _ _
    | (simp -zeta only [↓Keep.mk_iff]; with_reducible refine KeepF.upd_clk ?_ ?_ rfl)

theorem State.takeTime_keep {M r s} (h : Keep M r s) (hM : Nat.land 25149437 M = 25149437) (a1) :
    Keep M r (State.takeTime s a1) := by
  unfold State.takeTime
  repeat' first
    | with_reducible assumption
    | exact Zone.sub rfl hM
    | with_reducible first | refine State.put_keep ?_ ?_ _ _ _ | refine State.log_keep ?_ ?_ _ _
    | with_reducible first | refine State.holdTime_keep ?_ ?_ _ | refine State.bump_keep ?_ ?_ _ _
    | with_reducible first | refine State.setBel_keep ?_ ?_ _ | refine State.firstAnchor_keep ?_ ?_ _
    | with_reducible first | refine State.stepTime_keep ?_ ?_ _ | refine Keep.ite ?_ ?_

theorem State.selectRefs_keep {M r s} (h : Keep M r s) (hM : Nat.land 25149437 M = 25149437) :
    Keep M r (State.selectRefs s) := by
  unfold State.selectRefs
  repeat' first
    | with_reducible assumption
    | exact Zone.sub rfl hM
    | with_reducible first | refine State.log_keep ?_ ?_ _ _ | refine State.mateAlarm_keep ?_ ?_ _
    | with_reducible first | refine State.takeFreq_keep ?_ ?_ _ _ | refine State.takeTime_keep ?_ ?_ _
    | with_reducible refine Keep.ite ?_ ?_

theorem State.holdoverRun_keep {M r s} (h : Keep M r s) (hM : Nat.land 65537 M = 65537) (a1) :
    Keep M r (State.holdoverRun s a1) := by
  unfold State.holdoverRun
  repeat' first
    | with_reducible assumption
    | exact Zone.sub rfl hM
    | with_reducible first | refine State.setBel_keep ?_ ?_ _ | refine State.put_keep ?_ ?_ _ _ _
    | with_reducible refine Keep.ite ?_ ?_

theorem State.timeLoopRun_keep {M r s} (h : Keep M r s) (hM : Nat.land 65537 M = 65537) :
    Keep M r (State.timeLoopRun s) := by
  unfold State.timeLoopRun
  repeat' first
    | with_reducible assumption
    | exact Zone.sub rfl hM
    | with_reducible first | refine State.setBel_keep ?_ ?_ _ | refine State.put_keep ?_ ?_ _ _ _

theorem State.outputsRun_keep {M r s} (h : Keep M r s) (hM : Nat.land 65536 M = 65536) :
    Keep M r (State.outputsRun s) := by
  unfold State.outputsRun
  repeat' first
    | with_reducible assumption
    | exact Zone.sub rfl hM
    | (intro)
    | with_reducible first | refine State.setBel_keep ?_ ?_ _ | refine State.emit_keep ?_ ?_ _
    | with_reducible first | refine Keep.ite ?_ ?_ | refine Keep.foldl ?_ ?_ _

theorem State.qualityRun_keep {M r s} (h : Keep M r s) (hM : Nat.land 65537 M = 65537) :
    Keep M r (State.qualityRun s) := by
  unfold State.qualityRun
  repeat' first
    | with_reducible assumption
    | exact Zone.sub rfl hM
    | with_reducible first | refine State.put_keep ?_ ?_ _ _ _ | refine State.setBel_keep ?_ ?_ _
    | with_reducible refine Keep.ite ?_ ?_

theorem State.belBoundary_keep {M r s} (h : Keep M r s) (hM : Nat.land 25149437 M = 25149437) (a1) :
    Keep M r (State.belBoundary s a1) := by
  unfold State.belBoundary
  repeat' first
    | with_reducible assumption
    | exact Zone.sub rfl hM
    | (intro)
    | with_reducible first | refine State.setBel_keep ?_ ?_ _ | refine State.asymRun_keep ?_ ?_ _
    | with_reducible first | refine State.testInput_keep ?_ ?_ _ _ | refine State.seePhase_keep ?_ ?_ _
    | with_reducible first | refine State.selectRefs_keep ?_ ?_ | refine State.holdoverRun_keep ?_ ?_ _
    | with_reducible first | refine State.timeLoopRun_keep ?_ ?_ | refine State.put_keep ?_ ?_ _ _ _
    | with_reducible first | refine State.outputsRun_keep ?_ ?_ | refine State.qualityRun_keep ?_ ?_
    | with_reducible first | refine Keep.ite ?_ ?_ | refine Keep.foldl ?_ ?_ _
    | (simp -zeta only [↓Keep.mk_iff]; with_reducible refine KeepF.upd_live ?_ ?_)

theorem State.belPoison_keep {M r s} (h : Keep M r s) (hM : Nat.land 65609 M = 65609) (a1 a2) :
    Keep M r (State.belPoison s a1 a2) := by
  unfold State.belPoison
  repeat' first
    | with_reducible assumption
    | exact Zone.sub rfl hM
    | with_reducible first | refine State.startLoop_keep ?_ ?_ | refine State.put_keep ?_ ?_ _ _ _
    | with_reducible first | refine State.setBel_keep ?_ ?_ _ | refine Keep.ite ?_ ?_

theorem State.departs_keep {M r s} (h : Keep M r s) (hM : Nat.land 65536 M = 65536) (a1 a2) :
    Keep M r (State.departs s a1 a2) := by
  unfold State.departs
  repeat' first
    | with_reducible first | assumption | refine State.setLine_keep ?_ ?_ _ _

theorem State.failRole_keep {M r s} (h : Keep M r s) (hM : Nat.land 73 M = 73) (a1 a2) :
    Keep M r (State.failRole s a1 a2) := by
  unfold State.failRole
  repeat' first
    | with_reducible assumption
    | exact Zone.sub rfl hM
    | with_reducible first | refine State.log_keep ?_ ?_ _ _ | refine State.put_keep ?_ ?_ _ _ _
    | with_reducible refine Keep.ite ?_ ?_

theorem State.forceRefEffect_keep {M r s} (h : Keep M r s) (hM : Nat.land 73 M = 73) (a1 a2) :
    Keep M r (State.forceRefEffect s a1 a2).2 := by
  unfold State.forceRefEffect
  repeat' first
    | with_reducible assumption
    | exact Zone.sub rfl hM
    | with_reducible first | refine State.log_keep ?_ ?_ _ _ | refine State.put_keep ?_ ?_ _ _ _

theorem State.lineStamps_keep {M r s} (h : Keep M r s) (hM : Nat.land 9 M = 9) (a1 a2) :
    Keep M r (State.lineStamps s a1 a2) := by
  unfold State.lineStamps
  repeat' first
    | with_reducible assumption
    | exact Zone.sub rfl hM
    | with_reducible first | refine State.occur_keep ?_ ?_ _ _ | refine State.put_keep ?_ ?_ _ _ _
    | (extract_lets +onlyGivenNames y; clear_value y)
    | split

theorem execAdvertRead_keep (s : State) (a1 a2 a3) :
    ∃ t, execAdvertRead a1 a2 a3 s = .next t ∧ Keep 65737 s t := by
  refine ⟨_, rfl, ?_⟩
  have h := Keep.refl 65737 s
  have hM : Nat.land 65737 65737 = 65737 := rfl
  repeat' first
    | with_reducible assumption
    | exact Zone.sub rfl hM
    | with_reducible first | refine State.fresh_keep ?_ ?_ _ | refine State.sendMoc_keep ?_ ?_ _ _ _
    | with_reducible first | refine State.putO_keep ?_ ?_ _ _ _ | refine State.put_keep ?_ ?_ _ _ _
    | with_reducible first | refine State.setLine_keep ?_ ?_ _ _ | refine State.logC_keep ?_ ?_ _ _ _
    | with_reducible refine Keep.ite ?_ ?_

theorem execForceRefWrite_keep (s : State) (a1 a2 a3) :
    ∃ t, execForceRefWrite a1 a2 a3 s = .next t ∧ Keep 89 s t := by
  refine ⟨_, rfl, ?_⟩
  have h := Keep.refl 89 s
  have hM : Nat.land 89 89 = 89 := rfl
  repeat' first
    | with_reducible assumption
    | exact Zone.sub rfl hM
    | with_reducible refine State.forceRefEffect_keep ?_ ?_ _ _
    | with_reducible refine State.hostWrite_keep ?_ ?_ _ _ _ _ _ (fun v t h => ?_)

theorem execHoldOffEnd_keep (s : State) (a1) :
    ∃ t, execHoldOffEnd a1 s = .next t ∧ Keep 65609 s t := by
  refine ⟨_, rfl, ?_⟩
  have h := Keep.refl 65609 s
  have hM : Nat.land 65609 65609 = 65609 := rfl
  repeat' first
    | with_reducible assumption
    | exact Zone.sub rfl hM
    | (intro)
    | with_reducible first | refine State.setInput_keep ?_ ?_ _ _ | refine State.failRole_keep ?_ ?_ _ _
    | with_reducible first | refine State.log_keep ?_ ?_ _ _ | refine State.showInput_keep ?_ ?_ _
    | with_reducible first | refine Keep.ite ?_ ?_ | refine Keep.foldl ?_ ?_ _

theorem execLoopBandwidthStep_keep (s : State) :
    ∃ t, execLoopBandwidthStep s = .next t ∧ Keep 65609 s t := by
  refine ⟨_, rfl, ?_⟩
  have h := Keep.refl 65609 s
  have hM : Nat.land 65609 65609 = 65609 := rfl
  repeat' first
    | with_reducible first | assumption | refine State.setRung_keep ?_ ?_ _ _ | refine Keep.ite ?_ ?_
    | split

theorem execPpsEdge_keep (s : State) (a1 a2 a3) :
    ∃ t, execPpsEdge a1 a2 a3 s = .next t ∧ Keep 65609 s t := by
  refine ⟨_, rfl, ?_⟩
  have h := Keep.refl 65609 s
  have hM : Nat.land 65609 65609 = 65609 := rfl
  repeat' first
    | with_reducible assumption
    | exact Zone.sub rfl hM
    | with_reducible first | refine State.occur_keep ?_ ?_ _ _ | refine State.setBel_keep ?_ ?_ _
    | with_reducible first | refine State.put_keep ?_ ?_ _ _ _ | refine State.startLoop_keep ?_ ?_
    | with_reducible first | refine State.seePhase_keep ?_ ?_ _ | refine Keep.ite ?_ ?_

theorem execQualificationEnd_keep (s : State) (a1) :
    ∃ t, execQualificationEnd a1 s = .next t ∧ Keep 65609 s t := by
  refine ⟨_, rfl, ?_⟩
  have h := Keep.refl 65609 s
  have hM : Nat.land 65609 65609 = 65609 := rfl
  repeat' first
    | with_reducible assumption
    | exact Zone.sub rfl hM
    | with_reducible first | refine State.showInput_keep ?_ ?_ _ | refine State.setInput_keep ?_ ?_ _ _
    | with_reducible first | refine State.log_keep ?_ ?_ _ _ | refine Keep.ite ?_ ?_

theorem execRefTableWrite_keep (s : State) (a1 a2 a3) :
    ∃ t, execRefTableWrite a1 a2 a3 s = .next t ∧ Keep 89 s t := by
  refine ⟨_, rfl, ?_⟩
  have h := Keep.refl 89 s
  have hM : Nat.land 89 89 = 89 := rfl
  repeat' first
    | with_reducible assumption
    | exact Zone.sub rfl hM
    | with_reducible refine storeEffect_keep ?_ ?_ _ _ _
    | with_reducible refine State.hostWrite_keep ?_ ?_ _ _ _ _ _ (fun v t h => ?_)

theorem execTodMessage_keep (s : State) (a1 a2) :
    ∃ t, execTodMessage a1 a2 s = .next t ∧ Keep 65609 s t := by
  refine ⟨_, rfl, ?_⟩
  have h := Keep.refl 65609 s
  have hM : Nat.land 65609 65609 = 65609 := rfl
  repeat' first
    | with_reducible assumption
    | exact Zone.sub rfl hM
    | with_reducible first | refine State.logLimited_keep ?_ ?_ _ _ _ _ _ | refine State.setBel_keep ?_ ?_ _
    | with_reducible first | refine State.put_keep ?_ ?_ _ _ _ | refine Keep.ite ?_ ?_

theorem State.setFt_keep {M r s} (h : Keep M r s) (hM : Nat.land 131072 M = 131072) (a1 a2) :
    Keep M r (State.setFt s a1 a2) := by
  unfold State.setFt
  repeat' first
    | with_reducible assumption
    | (simp -zeta only [↓Keep.mk_iff]; with_reducible refine KeepF.upd_foot ?_ ?_)

theorem State.setRxState_keep {M r s} (h : Keep M r s) (hM : Nat.land 1 M = 1) (a1 a2) :
    Keep M r (State.setRxState s a1 a2) := by
  unfold State.setRxState
  repeat' first
    | with_reducible first | assumption | refine State.put_keep ?_ ?_ _ _ _

theorem State.footSwitch_keep {M r s} (h : Keep M r s) (hM : Nat.land 131145 M = 131145) (a1 a2 a3 a4) :
    Keep M r (State.footSwitch s a1 a2 a3 a4) := by
  unfold State.footSwitch
  repeat' first
    | with_reducible assumption
    | exact Zone.sub rfl hM
    | with_reducible first | refine State.setFt_keep ?_ ?_ _ _ | refine State.setRxState_keep ?_ ?_ _ _
    | with_reducible first | refine State.logC_keep ?_ ?_ _ _ _ | refine Keep.ite ?_ ?_

theorem State.footAsk_keep {M r s} (h : Keep M r s) (hM : Nat.land 131161 M = 131161) (a1 a2) :
    Keep M r (State.footAsk s a1 a2) := by
  unfold State.footAsk
  repeat' first
    | with_reducible assumption
    | exact Zone.sub rfl hM
    | with_reducible first | refine State.ask_keep ?_ ?_ _ _ _ | refine State.setFt_keep ?_ ?_ _ _
    | with_reducible first | refine State.footSwitch_keep ?_ ?_ _ _ _ _ | refine State.logC_keep ?_ ?_ _ _ _
    | with_reducible refine Keep.ite ?_ ?_

theorem State.neighbourRun_keep {M r s} (h : Keep M r s) (hM : Nat.land 131145 M = 131145) (a1) :
    Keep M r (State.neighbourRun s a1) := by
  unfold State.neighbourRun
  repeat' first
    | with_reducible assumption
    | exact Zone.sub rfl hM
    | with_reducible first | refine State.setFt_keep ?_ ?_ _ _ | refine State.logC_keep ?_ ?_ _ _ _
    | with_reducible first | refine State.putO_keep ?_ ?_ _ _ _ | refine Keep.ite ?_ ?_
    | (extract_lets +onlyGivenNames y; have hy : Keep M r y := ?_
       rotate_left; subst y; rotate_left; clear_value y)
    | (extract_lets +onlyGivenNames y; clear_value y)
    | split

theorem State.footDirection_keep {M r s} (h : Keep M r s) (hM : Nat.land 131161 M = 131161) (a1 a2) :
    Keep M r (State.footDirection s a1 a2) := by
  unfold State.footDirection
  repeat' first
    | with_reducible assumption
    | exact Zone.sub rfl hM
    | with_reducible first | refine State.footAsk_keep ?_ ?_ _ _ | refine State.setFt_keep ?_ ?_ _ _
    | with_reducible first | refine State.footSwitch_keep ?_ ?_ _ _ _ _ | refine State.release_keep ?_ ?_ _ _
    | with_reducible refine Keep.ite ?_ ?_

theorem State.footBoundary_keep {M r s} (h : Keep M r s) (hM : Nat.land 131161 M = 131161) (a1) :
    Keep M r (State.footBoundary s a1) := by
  unfold State.footBoundary
  repeat' first
    | with_reducible assumption
    | exact Zone.sub rfl hM
    | with_reducible first | refine State.neighbourRun_keep ?_ ?_ _ | refine State.footDirection_keep ?_ ?_ _ _

theorem State.footDrop_keep {M r s} (h : Keep M r s) (hM : Nat.land 73 M = 73) (a1 a2) :
    Keep M r (State.footDrop s a1 a2) := by
  unfold State.footDrop
  repeat' first
    | with_reducible assumption
    | exact Zone.sub rfl hM
    | with_reducible first | refine State.logSecond_keep ?_ ?_ _ _ _ _ | refine State.bump_keep ?_ ?_ _ _

theorem State.footQueue_keep {M r s} (h : Keep M r s) (hM : Nat.land 131145 M = 131145) (a1 a2) :
    Keep M r (State.footQueue s a1 a2) := by
  unfold State.footQueue
  repeat' first
    | with_reducible assumption
    | exact Zone.sub rfl hM
    | with_reducible first | refine State.setFt_keep ?_ ?_ _ _ | refine State.footDrop_keep ?_ ?_ _ _
    | with_reducible refine Keep.ite ?_ ?_
    | split

theorem State.footReset_keep {M r s} (h : Keep M r s) (hM : Nat.land 131073 M = 131073) (a1) :
    Keep M r (State.footReset s a1) := by
  unfold State.footReset
  repeat' first
    | with_reducible assumption
    | exact Zone.sub rfl hM
    | with_reducible first | refine State.setFt_keep ?_ ?_ _ _ | refine State.putO_keep ?_ ?_ _ _ _

theorem State.footSearch_keep {M r s} (h : Keep M r s) (hM : Nat.land 1 M = 1) (a1) :
    Keep M r (State.footSearch s a1) := by
  unfold State.footSearch
  repeat' first
    | with_reducible first | assumption | refine State.setRxState_keep ?_ ?_ _ _

theorem State.footSendEffect_keep {M r s} (h : Keep M r s) (hM : Nat.land 131145 M = 131145) (a1 a2) :
    Keep M r (State.footSendEffect s a1 a2).2 := by
  unfold State.footSendEffect
  repeat' first
    | with_reducible first | assumption | refine State.footQueue_keep ?_ ?_ _ _ | refine Keep.ite_snd ?_ ?_

theorem State.helloHeard_keep {M r s} (h : Keep M r s) (hM : Nat.land 131145 M = 131145) (a1 a2 a3) :
    Keep M r (State.helloHeard s a1 a2 a3) := by
  unfold State.helloHeard
  repeat' first
    | with_reducible assumption
    | exact Zone.sub rfl hM
    | with_reducible first | refine State.setFt_keep ?_ ?_ _ _ | refine State.neighbourRun_keep ?_ ?_ _
    | with_reducible first | refine State.logC_keep ?_ ?_ _ _ _ | refine Keep.ite ?_ ?_
    | (extract_lets +onlyGivenNames y; have hy : Keep M r y := ?_
       rotate_left; subst y; rotate_left; clear_value y)
    | (extract_lets +onlyGivenNames y; clear_value y)
    | split

theorem State.startHeader_keep {M r s} (h : Keep M r s) (hM : Nat.land 131073 M = 131073) (a1 a2 a3) :
    Keep M r (State.startHeader s a1 a2 a3) := by
  unfold State.startHeader
  repeat' first
    | with_reducible assumption
    | exact Zone.sub rfl hM
    | with_reducible first | refine State.setFt_keep ?_ ?_ _ _ | refine State.setRxState_keep ?_ ?_ _ _

theorem execFalseDetection_keep (s : State) (a1) :
    ∃ t, execFalseDetection a1 s = .next t ∧ Keep 1 s t := by
  refine ⟨_, rfl, ?_⟩
  have h := Keep.refl 1 s
  have hM : Nat.land 1 1 = 1 := rfl
  repeat' first
    | with_reducible first | assumption | refine State.footSearch_keep ?_ ?_ _ | refine State.bump_keep ?_ ?_ _ _
    | with_reducible refine Keep.ite ?_ ?_

theorem execFootpathLedgerRetry_keep (s : State) (a1 a2) :
    ∃ t, execFootpathLedgerRetry a1 a2 s = .next t ∧ Keep 131161 s t := by
  refine ⟨_, rfl, ?_⟩
  have h := Keep.refl 131161 s
  have hM : Nat.land 131161 131161 = 131161 := rfl
  repeat' first
    | with_reducible first | assumption | refine State.footAsk_keep ?_ ?_ _ _ | refine Keep.ite ?_ ?_
    | split

theorem execFootpathPacketTransmit_keep (s : State) (a1) :
    ∃ t, execFootpathPacketTransmit a1 s = .next t ∧ Keep 131081 s t := by
  refine ⟨_, rfl, ?_⟩
  have h := Keep.refl 131081 s
  have hM : Nat.land 131081 131081 = 131081 := rfl
  repeat' first
    | with_reducible assumption
    | exact Zone.sub rfl hM
    | with_reducible first | refine State.put_keep ?_ ?_ _ _ _ | refine State.emit_keep ?_ ?_ _
    | with_reducible first | refine State.occur_keep ?_ ?_ _ _ | refine State.bump_keep ?_ ?_ _ _
    | with_reducible first | refine State.setFt_keep ?_ ?_ _ _ | refine Keep.ite ?_ ?_
    | (extract_lets +onlyGivenNames y; have hy : Keep 131081 s y := ?_
       rotate_left; subst y; rotate_left; clear_value y)
    | split

theorem execFootpathSend_keep (s : State) (a1 a2 a3) :
    ∃ t, execFootpathSend a1 a2 a3 s = .next t ∧ Keep 131161 s t := by
  refine ⟨_, rfl, ?_⟩
  have h := Keep.refl 131161 s
  have hM : Nat.land 131161 131161 = 131161 := rfl
  repeat' first
    | with_reducible assumption
    | exact Zone.sub rfl hM
    | with_reducible refine State.footSendEffect_keep ?_ ?_ _ _
    | with_reducible refine State.hostWrite_keep ?_ ?_ _ _ _ _ _ (fun v t h => ?_)

theorem execHeaderCheck_keep (s : State) (a1 a2) :
    ∃ t, execHeaderCheck a1 a2 s = .next t ∧ Keep 131073 s t := by
  refine ⟨_, rfl, ?_⟩
  have h := Keep.refl 131073 s
  have hM : Nat.land 131073 131073 = 131073 := rfl
  repeat' first
    | with_reducible assumption
    | exact Zone.sub rfl hM
    | with_reducible first | refine State.setFt_keep ?_ ?_ _ _ | refine State.setRxState_keep ?_ ?_ _ _
    | with_reducible first | refine State.footSearch_keep ?_ ?_ _ | refine State.bump_keep ?_ ?_ _ _
    | with_reducible refine Keep.ite ?_ ?_

theorem execHello_keep (s : State) (a1) :
    ∃ t, execHello a1 s = .next t ∧ Keep 131145 s t := by
  refine ⟨_, rfl, ?_⟩
  have h := Keep.refl 131145 s
  have hM : Nat.land 131145 131145 = 131145 := rfl
  repeat' first
    | with_reducible assumption
    | exact Zone.sub rfl hM
    | with_reducible first | refine State.setFt_keep ?_ ?_ _ _ | refine State.footQueue_keep ?_ ?_ _ _
    | with_reducible refine Keep.ite ?_ ?_

theorem execNeighbourLost_keep (s : State) (a1) :
    ∃ t, execNeighbourLost a1 s = .next t ∧ Keep 131145 s t := by
  refine ⟨_, rfl, ?_⟩
  have h := Keep.refl 131145 s
  have hM : Nat.land 131145 131145 = 131145 := rfl
  repeat' first
    | with_reducible assumption
    | exact Zone.sub rfl hM
    | with_reducible first | refine State.setFt_keep ?_ ?_ _ _ | refine State.logC_keep ?_ ?_ _ _ _
    | with_reducible first | refine State.putO_keep ?_ ?_ _ _ _ | refine Keep.ite ?_ ?_
    | (extract_lets +onlyGivenNames y; clear_value y)
    | split

theorem execNoiseFloorWindow_keep (s : State) (a1 a2) :
    ∃ t, execNoiseFloorWindow a1 a2 s = .next t ∧ Keep 131073 s t := by
  refine ⟨_, rfl, ?_⟩
  have h := Keep.refl 131073 s
  have hM : Nat.land 131073 131073 = 131073 := rfl
  repeat' first
    | with_reducible assumption
    | exact Zone.sub rfl hM
    | (intro)
    | with_reducible first | refine State.setFt_keep ?_ ?_ _ _ | refine State.put_keep ?_ ?_ _ _ _
    | with_reducible first | refine Keep.ite ?_ ?_ | refine Keep.foldl ?_ ?_ _

theorem execSyncMatch_keep (s : State) (a1 a2 a3) :
    ∃ t, execSyncMatch a1 a2 a3 s = .next t ∧ Keep 131073 s t := by
  refine ⟨_, rfl, ?_⟩
  have h := Keep.refl 131073 s
  have hM : Nat.land 131073 131073 = 131073 := rfl
  repeat' first
    | with_reducible assumption
    | exact Zone.sub rfl hM
    | with_reducible first | refine State.startHeader_keep ?_ ?_ _ _ _ | refine State.bump_keep ?_ ?_ _ _
    | with_reducible refine Keep.ite ?_ ?_

theorem execToneHeard_keep (s : State) (a1 a2) :
    ∃ t, execToneHeard a1 a2 s = .next t ∧ Keep 131073 s t := by
  refine ⟨_, rfl, ?_⟩
  have h := Keep.refl 131073 s
  have hM : Nat.land 131073 131073 = 131073 := rfl
  repeat' first
    | with_reducible assumption
    | exact Zone.sub rfl hM
    | with_reducible first | refine State.setFt_keep ?_ ?_ _ _ | refine State.setRxState_keep ?_ ?_ _ _
    | with_reducible refine Keep.ite ?_ ?_
    | split

theorem execWatchHit_keep (s : State) (a1 a2 a3 a4 a5) :
    ∃ t, execWatchHit a1 a2 a3 a4 a5 s = .next t ∧ Keep 131073 s t := by
  refine ⟨_, rfl, ?_⟩
  have h := Keep.refl 131073 s
  have hM : Nat.land 131073 131073 = 131073 := rfl
  repeat' first
    | with_reducible assumption
    | exact Zone.sub rfl hM
    | with_reducible first | refine State.startHeader_keep ?_ ?_ _ _ _ | refine State.bump_keep ?_ ?_ _ _
    | with_reducible refine Keep.ite ?_ ?_

theorem State.applyMap_keep {M r s} (h : Keep M r s) (hM : Nat.land 2265 M = 2265) (a1 a2 a3) :
    Keep M r (State.applyMap s a1 a2 a3) := by
  unfold State.applyMap
  repeat' first
    | with_reducible assumption
    | exact Zone.sub rfl hM
    | (intro)
    | with_reducible first | refine State.put_keep ?_ ?_ _ _ _ | refine State.setMap_keep ?_ ?_ _ _ _
    | with_reducible first | refine State.logC_keep ?_ ?_ _ _ _ | refine State.bump_keep ?_ ?_ _ _
    | with_reducible first | refine State.setLd_keep ?_ ?_ _ _ | refine State.setFr_keep ?_ ?_ _ _
    | with_reducible first | refine State.egressFault_keep ?_ ?_ _ _ | refine State.releaseCtx_keep ?_ ?_ _ _ _
    | with_reducible first | refine Keep.ite ?_ ?_ | refine Keep.foldl ?_ ?_ _

theorem State.askMapCost_keep {M r s} (h : Keep M r s) (hM : Nat.land 89 M = 89) (a1 a2 a3) :
    Keep M r (State.askMapCost s a1 a2 a3).2 := by
  unfold State.askMapCost
  repeat' first
    | with_reducible assumption
    | (intro)
    | with_reducible first | refine State.askCtx_keep ?_ ?_ _ _ _ _ | refine Keep.ite_snd ?_ ?_
    | (extract_lets +onlyGivenNames y; clear_value y)
    | with_reducible refine Keep.foldl_snd ?_ ?_ _

theorem State.proposeMap_keep {M r s} (h : Keep M r s) (hM : Nat.land 221 M = 221) (a1 a2 a3) :
    Keep M r (State.proposeMap s a1 a2 a3) := by
  unfold State.proposeMap
  repeat' first
    | with_reducible assumption
    | exact Zone.sub rfl hM
    | with_reducible first | refine State.askMapCost_keep ?_ ?_ _ _ _ | refine State.proposeEngine_keep ?_ ?_ _ _ _
    | with_reducible refine Keep.ite ?_ ?_

theorem State.removeClient_keep {M r s} (h : Keep M r s) (hM : Nat.land 221 M = 221) (a1) :
    Keep M r (State.removeClient s a1) := by
  unfold State.removeClient
  repeat' first
    | with_reducible assumption
    | (intro)
    | with_reducible first | refine State.proposeMap_keep ?_ ?_ _ _ _ | refine Keep.ite ?_ ?_
    | with_reducible refine Keep.foldl ?_ ?_ _

theorem State.clientRateEffect_keep {M r s} (h : Keep M r s) (hM : Nat.land 8413 M = 8413) (a1 a2) :
    Keep M r (State.clientRateEffect s a1 a2).2 := by
  unfold State.clientRateEffect
  repeat' first
    | with_reducible assumption
    | exact Zone.sub rfl hM
    | with_reducible first | refine State.judgeLanes_keep ?_ ?_ | refine State.put_keep ?_ ?_ _ _ _
    | with_reducible first | refine State.removeClient_keep ?_ ?_ _ | refine Keep.ite ?_ ?_

theorem State.entryGone_keep {M r s} (h : Keep M r s) (hM : Nat.land 16733 M = 16733) (a1) :
    Keep M r (State.entryGone s a1) := by
  unfold State.entryGone
  repeat' first
    | with_reducible assumption
    | exact Zone.sub rfl hM
    | with_reducible first | refine State.impliedGone_keep ?_ ?_ _ | refine State.setCtx_keep ?_ ?_ _ _ _ _
    | with_reducible first | refine State.releaseCtx_keep ?_ ?_ _ _ _ | refine State.cancelSwap_keep ?_ ?_ _ _ _
    | with_reducible refine Keep.ite ?_ ?_
    | split

theorem State.mapProposals_keep {M r s} (h : Keep M r s) (hM : Nat.land 221 M = 221) (a1) :
    Keep M r (State.mapProposals s a1) := by
  unfold State.mapProposals
  repeat' first
    | with_reducible first | assumption | refine State.proposeMap_keep ?_ ?_ _ _ _ | refine Keep.ite ?_ ?_

theorem State.mocReceived_keep {M r s} (h : Keep M r s) (hM : Nat.land 129 M = 129) (a1 a2) :
    Keep M r (State.mocReceived s a1 a2) := by
  unfold State.mocReceived
  repeat' first
    | with_reducible assumption
    | exact Zone.sub rfl hM
    | (intro)
    | with_reducible first | refine State.setFr_keep ?_ ?_ _ _ | refine State.bump_keep ?_ ?_ _ _
    | with_reducible first | refine State.emit_keep ?_ ?_ _ | refine Keep.ite ?_ ?_ | refine Keep.foldl ?_ ?_ _

theorem State.mocRestart_keep {M r s} (h : Keep M r s) (hM : Nat.land 128 M = 128) (a1) :
    Keep M r (State.mocRestart s a1) := by
  unfold State.mocRestart
  repeat' first
    | with_reducible first | assumption | refine State.setFr_keep ?_ ?_ _ _

theorem State.mocUnit_keep {M r s} (h : Keep M r s) (hM : Nat.land 136 M = 136) (a1) :
    Keep M r (State.mocUnit s a1).2 := by
  unfold State.mocUnit
  repeat' first
    | with_reducible assumption
    | exact Zone.sub rfl hM
    | with_reducible first | refine State.setFr_keep ?_ ?_ _ _ | refine State.occurN_keep ?_ ?_ _ _ _
    | with_reducible refine Keep.ite_snd ?_ ?_
    | dsimp -zeta only
    | (extract_lets +onlyGivenNames y; have hy : Keep M r y := ?_
       rotate_left; subst y; rotate_left; clear_value y)
    | (extract_lets +onlyGivenNames y; clear_value y)
    | split

theorem State.ptpIngress_keep {M r s} (h : Keep M r s) (hM : Nat.land 201 M = 201) (a1 a2 a3 a4) :
    Keep M r (State.ptpIngress s a1 a2 a3 a4) := by
  unfold State.ptpIngress
  repeat' first
    | with_reducible assumption
    | exact Zone.sub rfl hM
    | with_reducible first | refine State.bump_keep ?_ ?_ _ _ | refine State.setFr_keep ?_ ?_ _ _
    | with_reducible first | refine State.logSecond_keep ?_ ?_ _ _ _ _ | refine State.occur_keep ?_ ?_ _ _
    | with_reducible refine Keep.ite ?_ ?_

theorem execClientBlockReceived_keep (s : State) (a1 a2 a3) :
    ∃ t, execClientBlockReceived a1 a2 a3 s = .next t ∧ Keep 129 s t := by
  refine ⟨_, rfl, ?_⟩
  have h := Keep.refl 129 s
  have hM : Nat.land 129 129 = 129 := rfl
  repeat' first
    | with_reducible assumption
    | exact Zone.sub rfl hM
    | with_reducible first | refine State.setFr_keep ?_ ?_ _ _ | refine State.egressFault_keep ?_ ?_ _ _
    | with_reducible first | refine State.bump_keep ?_ ?_ _ _ | refine Keep.ite ?_ ?_

theorem execClientRateMismatch_keep (s : State) (a1 a2) :
    ∃ t, execClientRateMismatch a1 a2 s = .next t ∧ Keep 201 s t := by
  refine ⟨_, rfl, ?_⟩
  have h := Keep.refl 201 s
  have hM : Nat.land 201 201 = 201 := rfl
  repeat' first
    | with_reducible assumption
    | exact Zone.sub rfl hM
    | with_reducible first | refine State.setFr_keep ?_ ?_ _ _ | refine State.logC_keep ?_ ?_ _ _ _
    | with_reducible refine Keep.ite ?_ ?_
    | (extract_lets +onlyGivenNames y; have hy : Keep 201 s y := ?_
       rotate_left; subst y; rotate_left; clear_value y)
    | split

theorem execClientRateWrite_keep (s : State) (a1 a2 a3) :
    ∃ t, execClientRateWrite a1 a2 a3 s = .next t ∧ Keep 8413 s t := by
  refine ⟨_, rfl, ?_⟩
  have h := Keep.refl 8413 s
  have hM : Nat.land 8413 8413 = 8413 := rfl
  repeat' first
    | with_reducible assumption
    | exact Zone.sub rfl hM
    | with_reducible refine State.clientRateEffect_keep ?_ ?_ _ _
    | with_reducible refine State.hostWrite_keep ?_ ?_ _ _ _ _ _ (fun v t h => ?_)

theorem execMocResend_keep (s : State) (a1) :
    ∃ t, execMocResend a1 s = .next t ∧ Keep 201 s t := by
  refine ⟨_, rfl, ?_⟩
  have h := Keep.refl 201 s
  have hM : Nat.land 201 201 = 201 := rfl
  repeat' first
    | with_reducible assumption
    | exact Zone.sub rfl hM
    | with_reducible first | refine State.setFr_keep ?_ ?_ _ _ | refine State.logSecond_keep ?_ ?_ _ _ _ _
    | with_reducible first | refine State.bump_keep ?_ ?_ _ _ | refine Keep.ite ?_ ?_
    | split

theorem execPtpEgress_keep (s : State) (a1 a2 a3) :
    ∃ t, execPtpEgress a1 a2 a3 s = .next t ∧ Keep 129 s t := by
  refine ⟨_, rfl, ?_⟩
  have h := Keep.refl 129 s
  have hM : Nat.land 129 129 = 129 := rfl
  repeat' first
    | with_reducible assumption
    | exact Zone.sub rfl hM
    | with_reducible first | refine State.emit_keep ?_ ?_ _ | refine State.bump_keep ?_ ?_ _ _
    | with_reducible first | refine State.setFr_keep ?_ ?_ _ _ | refine State.add64_keep ?_ ?_ _ _ _
    | with_reducible refine Keep.ite ?_ ?_
    | dsimp -zeta only
    | split

theorem execPtpEventMessage_keep (s : State) (a1 a2) :
    ∃ t, execPtpEventMessage a1 a2 s = .next t ∧ Keep 201 s t := by
  refine ⟨_, rfl, ?_⟩
  have h := Keep.refl 201 s
  have hM : Nat.land 201 201 = 201 := rfl
  repeat' first
    | with_reducible first | assumption | refine State.ptpIngress_keep ?_ ?_ _ _ _ _
    | split

theorem State.armSwitch_keep {M r s} (h : Keep M r s) (hM : Nat.land 205 M = 205) (a1 a2) :
    Keep M r (State.armSwitch s a1 a2) := by
  unfold State.armSwitch
  repeat' first
    | with_reducible first | assumption | refine State.proposeEngine_keep ?_ ?_ _ _ _
    | (extract_lets +onlyGivenNames y; have hy : Keep M r y.2 := ?_
       rotate_left; subst y; rotate_left; clear_value y)
    | (extract_lets +onlyGivenNames y; clear_value y)
    | split

theorem State.setAv_keep {M r s} (h : Keep M r s) (hM : Nat.land 262144 M = 262144) (a1) :
    Keep M r (State.setAv s a1) := by
  unfold State.setAv
  repeat' first
    | with_reducible assumption
    | (simp -zeta only [↓Keep.mk_iff]; with_reducible refine KeepF.upd_av ?_ ?_)

theorem State.eligRun_keep {M r s} (h : Keep M r s) (hM : Nat.land 262217 M = 262217) :
    Keep M r (State.eligRun s) := by
  unfold State.eligRun
  repeat' first
    | with_reducible assumption
    | exact Zone.sub rfl hM
    | with_reducible first | refine State.setAv_keep ?_ ?_ _ | refine State.logC_keep ?_ ?_ _ _ _
    | with_reducible refine Keep.ite ?_ ?_

theorem State.setC8_keep {M r s} (h : Keep M r s) (hM : Nat.land 262144 M = 262144) (a1 a2) :
    Keep M r (State.setC8 s a1 a2) := by
  unfold State.setC8
  repeat' first
    | with_reducible first | assumption | refine State.setAv_keep ?_ ?_ _

theorem State.idleClients_keep {M r s} (h : Keep M r s) (hM : Nat.land 262145 M = 262145) :
    Keep M r (State.idleClients s) := by
  unfold State.idleClients
  repeat' first
    | with_reducible assumption
    | exact Zone.sub rfl hM
    | (intro)
    | with_reducible first | refine State.put_keep ?_ ?_ _ _ _ | refine State.setC8_keep ?_ ?_ _ _
    | with_reducible first | refine Keep.ite ?_ ?_ | refine Keep.foldl ?_ ?_ _

theorem State.lostRun_keep {M r s} (h : Keep M r s) (hM : Nat.land 262217 M = 262217) :
    Keep M r (State.lostRun s) := by
  unfold State.lostRun
  repeat' first
    | with_reducible assumption
    | exact Zone.sub rfl hM
    | (intro)
    | with_reducible first | refine State.log_keep ?_ ?_ _ _ | refine State.setC8_keep ?_ ?_ _ _
    | with_reducible first | refine Keep.ite ?_ ?_ | refine Keep.foldl ?_ ?_ _

theorem State.avBoundary_keep {M r s} (h : Keep M r s) (hM : Nat.land 262217 M = 262217) :
    Keep M r (State.avBoundary s) := by
  unfold State.avBoundary
  repeat' first
    | with_reducible assumption
    | exact Zone.sub rfl hM
    | with_reducible first | refine State.put_keep ?_ ?_ _ _ _ | refine State.eligRun_keep ?_ ?_
    | with_reducible first | refine State.setAv_keep ?_ ?_ _ | refine State.idleClients_keep ?_ ?_
    | with_reducible first | refine State.lostRun_keep ?_ ?_ | refine Keep.ite ?_ ?_

theorem State.proposeAll_keep {M r s} (h : Keep M r s) (l) {one : Carrier → Dir → State → Res × State}
    (ho : ∀ c d t, Keep M r t → Keep M r (one c d t).2) : Keep M r (s.proposeAll l one).2 := by
  unfold State.proposeAll
  extract_lets x
  have hx : Keep M r x.2 := Keep.foldl_snd h (fun t x ht => Keep.ite_snd ht (ho _ _ _ ht)) _
  clear_value x
  exact Keep.ite_snd h hx

theorem State.hostSwitch_keep {M r s} (h : Keep M r s) (hM : Nat.land 132 M = 132) (a1 a2 a3 a4 a5 a6) :
    Keep M r (State.hostSwitch s a1 a2 a3 a4 a5 a6).2 := by
  unfold State.hostSwitch
  repeat' first
    | with_reducible first | assumption | refine State.hostProposeAt_keep ?_ ?_ _ _ _ _ _ _
    | with_reducible refine State.proposeAll_keep ?_ _ (fun c d t h => ?_)

theorem State.avenueCommandEffect_keep {M r s} (h : Keep M r s) (hM : Nat.land 262276 M = 262276) (a1 a2) :
    Keep M r (State.avenueCommandEffect s a1 a2).2 := by
  unfold State.avenueCommandEffect
  repeat' first
    | with_reducible assumption
    | exact Zone.sub rfl hM
    | with_reducible first | refine State.setAv_keep ?_ ?_ _ | refine State.newWrite_keep ?_ ?_
    | with_reducible first | refine State.hostSwitch_keep ?_ ?_ _ _ _ _ _ _ | refine Keep.ite_snd ?_ ?_

theorem State.avenueCommand_keep {M r s} (h : Keep M r s) (hM : Nat.land 262365 M = 262365) (a1 a2 a3) :
    Keep M r (State.avenueCommand s a1 a2 a3) := by
  unfold State.avenueCommand
  repeat' first
    | with_reducible assumption
    | exact Zone.sub rfl hM
    | with_reducible refine State.avenueCommandEffect_keep ?_ ?_ _ _
    | with_reducible refine State.hostWrite_keep ?_ ?_ _ _ _ _ _ (fun v t h => ?_)

theorem State.avenueModeEffect_keep {M r s} (h : Keep M r s) (hM : Nat.land 132 M = 132) (a1 a2 a3) :
    Keep M r (State.avenueModeEffect s a1 a2 a3).2 := by
  unfold State.avenueModeEffect
  repeat' first
    | with_reducible assumption
    | exact Zone.sub rfl hM
    | with_reducible first | refine State.newWrite_keep ?_ ?_ | refine State.hostProposeAt_keep ?_ ?_ _ _ _ _ _ _
    | with_reducible first | refine State.proposeAll_keep ?_ _ (fun c d t h => ?_) | refine Keep.ite_snd ?_ ?_

theorem State.catchUp_keep {M r s} (h : Keep M r s) (hM : Nat.land 262217 M = 262217) (a1 a2) :
    Keep M r (State.catchUp s a1 a2) := by
  unfold State.catchUp
  repeat' first
    | with_reducible assumption
    | exact Zone.sub rfl hM
    | with_reducible first | refine State.setC8_keep ?_ ?_ _ _ | refine State.log_keep ?_ ?_ _ _
    | with_reducible refine Keep.ite ?_ ?_

theorem State.switchSheds_keep {M r s} (h : Keep M r s) (hM : Nat.land 2249 M = 2249) (a1 a2) :
    Keep M r (State.switchSheds s a1 a2) := by
  unfold State.switchSheds
  repeat' first
    | with_reducible assumption
    | exact Zone.sub rfl hM
    | (intro)
    | with_reducible first | refine State.logC_keep ?_ ?_ _ _ _ | refine State.bump_keep ?_ ?_ _ _
    | with_reducible first | refine State.setLd_keep ?_ ?_ _ _ | refine State.setFr_keep ?_ ?_ _ _
    | with_reducible first | refine Keep.ite ?_ ?_ | refine Keep.foldl ?_ ?_ _

theorem State.rxCarry_keep {M r s} (h : Keep M r s) (hM : Nat.land 280777 M = 280777) (a1 a2 a3) :
    Keep M r (State.rxCarry s a1 a2 a3) := by
  unfold State.rxCarry
  repeat' first
    | with_reducible assumption
    | exact Zone.sub rfl hM
    | (intro)
    | with_reducible first | refine State.setAv_keep ?_ ?_ _ | refine State.switchSheds_keep ?_ ?_ _ _
    | with_reducible first | refine State.setCtx_keep ?_ ?_ _ _ _ _ | refine Keep.ite ?_ ?_
    | with_reducible refine Keep.foldl ?_ ?_ _

theorem State.farCarrying_keep {M r s} (h : Keep M r s) (hM : Nat.land 280777 M = 280777) (a1 a2 a3) :
    Keep M r (State.farCarrying s a1 a2 a3) := by
  unfold State.farCarrying
  repeat' first
    | with_reducible assumption
    | exact Zone.sub rfl hM
    | (intro)
    | with_reducible first | refine State.setAv_keep ?_ ?_ _ | refine State.rxCarry_keep ?_ ?_ _ _ _
    | with_reducible first | refine Keep.ite ?_ ?_ | refine Keep.foldl ?_ ?_ _

theorem State.farRecordHeard_keep {M r s} (h : Keep M r s) (hM : Nat.land 262145 M = 262145) (a1) :
    Keep M r (State.farRecordHeard s a1) := by
  unfold State.farRecordHeard
  repeat' first
    | with_reducible assumption
    | exact Zone.sub rfl hM
    | with_reducible first | refine State.put_keep ?_ ?_ _ _ _ | refine State.setAv_keep ?_ ?_ _

theorem State.releaseCell_keep {M r s} (h : Keep M r s) (hM : Nat.land 262217 M = 262217) (a1 a2) :
    Keep M r (State.releaseCell s a1 a2) := by
  unfold State.releaseCell
  repeat' first
    | with_reducible assumption
    | exact Zone.sub rfl hM
    | with_reducible first | refine State.emit_keep ?_ ?_ _ | refine State.setC8_keep ?_ ?_ _ _
    | with_reducible first | refine State.put_keep ?_ ?_ _ _ _ | refine State.log_keep ?_ ?_ _ _
    | with_reducible first | refine State.catchUp_keep ?_ ?_ _ _ | refine State.setAv_keep ?_ ?_ _
    | with_reducible refine Keep.ite ?_ ?_
    | (extract_lets +onlyGivenNames y; have hy : Keep M r y := ?_
       rotate_left; subst y; rotate_left; clear_value y)
    | (extract_lets +onlyGivenNames y; clear_value y)
    | split

theorem State.releaseRun_keep {M r s} (h : Keep M r s) (hM : Nat.land 262217 M = 262217) (x n) : Keep M r (s.releaseRun x n) := by
  induction n generalizing s with
  | zero => exact h
  | succ n ih =>
    unfold State.releaseRun
    split
    · exact h
    · split
      · exact h
      · exact ih (State.releaseCell_keep h (Zone.sub rfl hM) _ _)

theorem State.firstArrival_keep {M r s} (h : Keep M r s) (hM : Nat.land 262217 M = 262217) (a1) :
    Keep M r (State.firstArrival s a1) := by
  unfold State.firstArrival
  repeat' first
    | with_reducible first | assumption | refine State.releaseRun_keep ?_ ?_ _ _ | refine Keep.ite ?_ ?_

theorem State.footBoth_keep {M r s} (h : Keep M r s) (hM : Nat.land 131145 M = 131145) (a1 a2) :
    Keep M r (State.footBoth s a1 a2) := by
  unfold State.footBoth
  repeat' first
    | with_reducible assumption
    | (intro)
    | with_reducible first | refine State.footQueue_keep ?_ ?_ _ _ | refine Keep.foldl ?_ ?_ _

theorem State.takeOver_keep {M r s} (h : Keep M r s) (hM : Nat.land 264393 M = 264393) (a1 a2) :
    Keep M r (State.takeOver s a1 a2) := by
  unfold State.takeOver
  repeat' first
    | with_reducible assumption
    | exact Zone.sub rfl hM
    | with_reducible first | refine State.put_keep ?_ ?_ _ _ _ | refine State.bump_keep ?_ ?_ _ _
    | with_reducible first | refine State.setAv_keep ?_ ?_ _ | refine State.switchSheds_keep ?_ ?_ _ _
    | with_reducible refine State.log_keep ?_ ?_ _ _

theorem State.keeperOrder_keep {M r s} (h : Keep M r s) (hM : Nat.land 264393 M = 264393) (a1 a2) :
    Keep M r (State.keeperOrder s a1 a2) := by
  unfold State.keeperOrder
  repeat' first
    | with_reducible assumption
    | exact Zone.sub rfl hM
    | with_reducible first | refine State.setAv_keep ?_ ?_ _ | refine State.log_keep ?_ ?_ _ _
    | with_reducible first | refine State.bump_keep ?_ ?_ _ _ | refine State.takeOver_keep ?_ ?_ _ _
    | with_reducible refine Keep.ite ?_ ?_
    | (extract_lets +onlyGivenNames y; clear_value y)
    | split

theorem State.moveClients_keep {M r s} (h : Keep M r s) (hM : Nat.land 51417 M = 51417) (a1 a2 a3) :
    Keep M r (State.moveClients s a1 a2 a3) := by
  unfold State.moveClients
  repeat' first
    | with_reducible assumption
    | exact Zone.sub rfl hM
    | (intro)
    | with_reducible first | refine State.applyMap_keep ?_ ?_ _ _ _ | refine State.turnCtx_keep ?_ ?_ _ _ _ _
    | with_reducible first | refine Keep.ite ?_ ?_ | refine Keep.foldl ?_ ?_ _

theorem State.pauseOn_keep {M r s} (h : Keep M r s) (hM : Nat.land 1 M = 1) (a1 a2) :
    Keep M r (State.pauseOn s a1 a2) := by
  unfold State.pauseOn
  repeat' first
    | with_reducible assumption
    | exact Zone.sub rfl hM
    | (intro)
    | with_reducible first | refine State.emit_keep ?_ ?_ _ | refine State.put_keep ?_ ?_ _ _ _
    | with_reducible first | refine Keep.ite ?_ ?_ | refine Keep.foldl ?_ ?_ _

theorem State.modeChangeRx_keep {M r s} (h : Keep M r s) (hM : Nat.land 313561 M = 313561) (a1 a2 a3) :
    Keep M r (State.modeChangeRx s a1 a2 a3) := by
  unfold State.modeChangeRx
  repeat' first
    | with_reducible assumption
    | exact Zone.sub rfl hM
    | with_reducible first | refine State.setAv_keep ?_ ?_ _ | refine State.moveClients_keep ?_ ?_ _ _ _
    | with_reducible first | refine State.pauseOn_keep ?_ ?_ _ _ | refine Keep.ite ?_ ?_

theorem State.modeChangeTx_keep {M r s} (h : Keep M r s) (hM : Nat.land 313561 M = 313561) (a1 a2) :
    Keep M r (State.modeChangeTx s a1 a2) := by
  unfold State.modeChangeTx
  repeat' first
    | with_reducible assumption
    | exact Zone.sub rfl hM
    | with_reducible first | refine State.put_keep ?_ ?_ _ _ _ | refine State.setAv_keep ?_ ?_ _
    | with_reducible first | refine State.log_keep ?_ ?_ _ _ | refine State.moveClients_keep ?_ ?_ _ _ _
    | with_reducible refine Keep.ite ?_ ?_

theorem State.orderSeen_keep {M r s} (h : Keep M r s) (hM : Nat.land 264393 M = 264393) (a1 a2) :
    Keep M r (State.orderSeen s a1 a2) := by
  unfold State.orderSeen
  repeat' first
    | with_reducible first | assumption | refine State.keeperOrder_keep ?_ ?_ _ _ | refine Keep.ite ?_ ?_

theorem State.rxCarryDue_keep {M r s} (h : Keep M r s) (hM : Nat.land 280777 M = 280777) (a1) :
    Keep M r (State.rxCarryDue s a1) := by
  unfold State.rxCarryDue
  repeat' first
    | with_reducible first | assumption | refine State.rxCarry_keep ?_ ?_ _ _ _ | refine Keep.ite ?_ ?_
    | split

theorem State.switchRx_keep {M r s} (h : Keep M r s) (hM : Nat.land 280777 M = 280777) (a1) :
    Keep M r (State.switchRx s a1) := by
  unfold State.switchRx
  repeat' first
    | with_reducible assumption
    | exact Zone.sub rfl hM
    | (intro)
    | with_reducible first | refine State.rxCarry_keep ?_ ?_ _ _ _ | refine State.pauseOn_keep ?_ ?_ _ _
    | with_reducible first | refine Keep.ite ?_ ?_ | refine Keep.foldl ?_ ?_ _
    | (extract_lets +onlyGivenNames y; have hy : Keep M r y := ?_
       rotate_left; subst y; rotate_left; clear_value y)
    | (extract_lets +onlyGivenNames y; clear_value y)
    | split

theorem State.switchTx_keep {M r s} (h : Keep M r s) (hM : Nat.land 264393 M = 264393) (a1) :
    Keep M r (State.switchTx s a1) := by
  unfold State.switchTx
  repeat' first
    | with_reducible assumption
    | exact Zone.sub rfl hM
    | with_reducible first | refine State.put_keep ?_ ?_ _ _ _ | refine State.setAv_keep ?_ ?_ _
    | with_reducible first | refine State.log_keep ?_ ?_ _ _ | refine State.switchSheds_keep ?_ ?_ _ _
    | with_reducible refine Keep.ite ?_ ?_
    | (extract_lets +onlyGivenNames y; clear_value y)
    | split

theorem State.twinReleaseEffect_keep {M r s} (h : Keep M r s) (hM : Nat.land 73 M = 73) (a1) :
    Keep M r (State.twinReleaseEffect s a1).2 := by
  unfold State.twinReleaseEffect
  repeat' first
    | with_reducible assumption
    | exact Zone.sub rfl hM
    | (intro)
    | with_reducible first | refine State.put_keep ?_ ?_ _ _ _ | refine State.log_keep ?_ ?_ _ _
    | with_reducible first | refine Keep.ite ?_ ?_ | refine Keep.ite_snd ?_ ?_ | refine Keep.foldl ?_ ?_ _

theorem execAlignedRelease_keep (s : State) (a1) :
    ∃ t, execAlignedRelease a1 s = .next t ∧ Keep 262217 s t := by
  refine ⟨_, rfl, ?_⟩
  have h := Keep.refl 262217 s
  have hM : Nat.land 262217 262217 = 262217 := rfl
  repeat' first
    | with_reducible first | assumption | refine State.releaseRun_keep ?_ ?_ _ _ | refine Keep.ite ?_ ?_

theorem execAvenueClear_keep (s : State) (a1 a2) :
    ∃ t, execAvenueClear a1 a2 s = .next t ∧ Keep 262365 s t := by
  refine ⟨_, rfl, ?_⟩
  have h := Keep.refl 262365 s
  have hM : Nat.land 262365 262365 = 262365 := rfl
  repeat' first
    | with_reducible first | assumption | refine State.avenueCommand_keep ?_ ?_ _ _ _

theorem execAvenueModeWrite_keep (s : State) (a1 a2 a3) :
    ∃ t, execAvenueModeWrite a1 a2 a3 s = .next t ∧ Keep 221 s t := by
  refine ⟨_, rfl, ?_⟩
  have h := Keep.refl 221 s
  have hM : Nat.land 221 221 = 221 := rfl
  repeat' first
    | with_reducible assumption
    | exact Zone.sub rfl hM
    | with_reducible refine State.avenueModeEffect_keep ?_ ?_ _ _ _
    | with_reducible refine State.hostWrite_keep ?_ ?_ _ _ _ _ _ (fun v t h => ?_)

theorem execCellArrival_keep (s : State) (a1 a2 a3) :
    ∃ t, execCellArrival a1 a2 a3 s = .next t ∧ Keep 262217 s t := by
  refine ⟨_, rfl, ?_⟩
  have h := Keep.refl 262217 s
  have hM : Nat.land 262217 262217 = 262217 := rfl
  repeat' first
    | with_reducible assumption
    | exact Zone.sub rfl hM
    | with_reducible first | refine State.occur_keep ?_ ?_ _ _ | refine State.add64_keep ?_ ?_ _ _ _
    | with_reducible first | refine State.setC8_keep ?_ ?_ _ _ | refine State.firstArrival_keep ?_ ?_ _
    | with_reducible refine Keep.ite ?_ ?_

theorem execCellLost_keep (s : State) (a1) :
    ∃ t, execCellLost a1 s = .next t ∧ Keep 262217 s t := by
  refine ⟨_, rfl, ?_⟩
  have h := Keep.refl 262217 s
  have hM : Nat.land 262217 262217 = 262217 := rfl
  repeat' first
    | with_reducible assumption
    | exact Zone.sub rfl hM
    | with_reducible first | refine State.occur_keep ?_ ?_ _ _ | refine State.add64_keep ?_ ?_ _ _ _
    | with_reducible first | refine State.setC8_keep ?_ ?_ _ _ | refine State.firstArrival_keep ?_ ?_ _
    | with_reducible first | refine State.emit_keep ?_ ?_ _ | refine Keep.ite ?_ ?_
    | (extract_lets +onlyGivenNames y; have hy : Keep 262217 s y := ?_
       rotate_left; subst y; rotate_left; clear_value y)
    | split

theorem execDegradeSwitch_keep (s : State) :
    ∃ t, execDegradeSwitch s = .next t ∧ Keep 205 s t := by
  refine ⟨_, rfl, ?_⟩
  have h := Keep.refl 205 s
  have hM : Nat.land 205 205 = 205 := rfl
  repeat' first
    | with_reducible first | assumption | refine State.armSwitch_keep ?_ ?_ _ _ | refine Keep.ite ?_ ?_
    | split

theorem execExercise_keep (s : State) (a1 a2) :
    ∃ t, execExercise a1 a2 s = .next t ∧ Keep 262365 s t := by
  refine ⟨_, rfl, ?_⟩
  have h := Keep.refl 262365 s
  have hM : Nat.land 262365 262365 = 262365 := rfl
  repeat' first
    | with_reducible first | assumption | refine State.avenueCommand_keep ?_ ?_ _ _ _

theorem execForcedSwitch_keep (s : State) (a1 a2 a3) :
    ∃ t, execForcedSwitch a1 a2 a3 s = .next t ∧ Keep 262365 s t := by
  refine ⟨_, rfl, ?_⟩
  have h := Keep.refl 262365 s
  have hM : Nat.land 262365 262365 = 262365 := rfl
  repeat' first
    | with_reducible first | assumption | refine State.avenueCommand_keep ?_ ?_ _ _ _

theorem execKeeperOrder_keep (s : State) (a1) :
    ∃ t, execKeeperOrder a1 s = .next t ∧ Keep 264393 s t := by
  refine ⟨_, rfl, ?_⟩
  have h := Keep.refl 264393 s
  have hM : Nat.land 264393 264393 = 264393 := rfl
  repeat' first
    | with_reducible first | assumption | refine State.keeperOrder_keep ?_ ?_ _ _ | refine Keep.ite ?_ ?_

theorem execKeeperOrderRepeat_keep (s : State) :
    ∃ t, execKeeperOrderRepeat s = .next t ∧ Keep 393289 s t := by
  refine ⟨_, rfl, ?_⟩
  have h := Keep.refl 393289 s
  have hM : Nat.land 393289 393289 = 393289 := rfl
  repeat' first
    | with_reducible assumption
    | exact Zone.sub rfl hM
    | with_reducible first | refine State.footBoth_keep ?_ ?_ _ _ | refine State.setAv_keep ?_ ?_ _
    | with_reducible refine Keep.ite ?_ ?_
    | split

theorem execKeeperUnreachable_keep (s : State) :
    ∃ t, execKeeperUnreachable s = .next t ∧ Keep 262217 s t := by
  refine ⟨_, rfl, ?_⟩
  have h := Keep.refl 262217 s
  have hM : Nat.land 262217 262217 = 262217 := rfl
  repeat' first
    | with_reducible assumption
    | exact Zone.sub rfl hM
    | with_reducible first | refine State.log_keep ?_ ?_ _ _ | refine State.setAv_keep ?_ ?_ _
    | with_reducible refine Keep.ite ?_ ?_

theorem execLockout_keep (s : State) (a1 a2) :
    ∃ t, execLockout a1 a2 s = .next t ∧ Keep 262365 s t := by
  refine ⟨_, rfl, ?_⟩
  have h := Keep.refl 262365 s
  have hM : Nat.land 262365 262365 = 262365 := rfl
  repeat' first
    | with_reducible first | assumption | refine State.avenueCommand_keep ?_ ?_ _ _ _

theorem execManualSwitch_keep (s : State) (a1 a2 a3) :
    ∃ t, execManualSwitch a1 a2 a3 s = .next t ∧ Keep 262365 s t := by
  refine ⟨_, rfl, ?_⟩
  have h := Keep.refl 262365 s
  have hM : Nat.land 262365 262365 = 262365 := rfl
  repeat' first
    | with_reducible first | assumption | refine State.avenueCommand_keep ?_ ?_ _ _ _

theorem execReorderWindowShort_keep (s : State) :
    ∃ t, execReorderWindowShort s = .next t ∧ Keep 262217 s t := by
  refine ⟨_, rfl, ?_⟩
  have h := Keep.refl 262217 s
  have hM : Nat.land 262217 262217 = 262217 := rfl
  repeat' first
    | with_reducible assumption
    | exact Zone.sub rfl hM
    | with_reducible first | refine State.log_keep ?_ ?_ _ _ | refine State.setAv_keep ?_ ?_ _
    | with_reducible refine Keep.ite ?_ ?_

theorem execRevert_keep (s : State) :
    ∃ t, execRevert s = .next t ∧ Keep 205 s t := by
  refine ⟨_, rfl, ?_⟩
  have h := Keep.refl 205 s
  have hM : Nat.land 205 205 = 205 := rfl
  repeat' first
    | with_reducible first | assumption | refine State.armSwitch_keep ?_ ?_ _ _ | refine Keep.ite ?_ ?_
    | split

theorem execSwitchMuteEnd_keep (s : State) (a1) :
    ∃ t, execSwitchMuteEnd a1 s = .next t ∧ Keep 262144 s t := by
  refine ⟨_, rfl, ?_⟩
  have h := Keep.refl 262144 s
  have hM : Nat.land 262144 262144 = 262144 := rfl
  repeat' first
    | with_reducible first | assumption | refine State.setAv_keep ?_ ?_ _ | refine Keep.ite ?_ ?_
    | split

theorem execTakeover_keep (s : State) :
    ∃ t, execTakeover s = .next t ∧ Keep 264393 s t := by
  refine ⟨_, rfl, ?_⟩
  have h := Keep.refl 264393 s
  have hM : Nat.land 264393 264393 = 264393 := rfl
  repeat' first
    | with_reducible assumption
    | exact Zone.sub rfl hM
    | with_reducible first | refine State.takeOver_keep ?_ ?_ _ _ | refine State.log_keep ?_ ?_ _ _
    | with_reducible first | refine State.setAv_keep ?_ ?_ _ | refine Keep.ite ?_ ?_
    | (extract_lets +onlyGivenNames y; clear_value y)
    | split

theorem execViewRecord_keep (s : State) :
    ∃ t, execViewRecord s = .next t ∧ Keep 393289 s t := by
  refine ⟨_, rfl, ?_⟩
  have h := Keep.refl 393289 s
  have hM : Nat.land 393289 393289 = 393289 := rfl
  repeat' first
    | with_reducible assumption
    | exact Zone.sub rfl hM
    | with_reducible first | refine State.setAv_keep ?_ ?_ _ | refine State.footBoth_keep ?_ ?_ _ _
    | with_reducible refine Keep.ite ?_ ?_

theorem State.setValid_keep {M r s} (h : Keep M r s) (hM : Nat.land 1 M = 1) (a1 a2) :
    Keep M r (State.setValid s a1 a2) := by
  unfold State.setValid
  repeat' first
    | with_reducible first | assumption | refine State.put_keep ?_ ?_ _ _ _

theorem State.setBus_keep {M r s} (h : Keep M r s) (hM : Nat.land 1 M = 1) (a1) :
    Keep M r (State.setBus s a1) := by
  unfold State.setBus
  repeat' first
    | with_reducible first | assumption | refine State.put_keep ?_ ?_ _ _ _

theorem State.setGrp_keep {M r s} (h : Keep M r s) (hM : Nat.land 2097152 M = 2097152) (a1) :
    Keep M r (State.setGrp s a1) := by
  unfold State.setGrp
  repeat' first
    | with_reducible assumption
    | (simp -zeta only [↓Keep.mk_iff]; with_reducible refine KeepF.upd_grp ?_ ?_)

theorem State.setMember_keep {M r s} (h : Keep M r s) (hM : Nat.land 2097152 M = 2097152) (a1 a2) :
    Keep M r (State.setMember s a1 a2) := by
  unfold State.setMember
  repeat' first
    | with_reducible first | assumption | refine State.setGrp_keep ?_ ?_ _

theorem State.showKeeper_keep {M r s} (h : Keep M r s) (hM : Nat.land 1 M = 1) :
    Keep M r (State.showKeeper s) := by
  unfold State.showKeeper
  repeat' first
    | with_reducible first | assumption | refine State.put_keep ?_ ?_ _ _ _

theorem State.setKeepers_keep {M r s} (h : Keep M r s) (hM : Nat.land 2097225 M = 2097225) (a1 a2) :
    Keep M r (State.setKeepers s a1 a2) := by
  unfold State.setKeepers
  repeat' first
    | with_reducible assumption
    | exact Zone.sub rfl hM
    | with_reducible first | refine State.setGrp_keep ?_ ?_ _ | refine State.put_keep ?_ ?_ _ _ _
    | with_reducible first | refine State.log_keep ?_ ?_ _ _ | refine State.showKeeper_keep ?_ ?_
    | with_reducible refine Keep.ite ?_ ?_

theorem State.becomeKeeper_keep {M r s} (h : Keep M r s) (hM : Nat.land 2097225 M = 2097225) :
    Keep M r (State.becomeKeeper s) := by
  unfold State.becomeKeeper
  repeat' first
    | with_reducible assumption
    | exact Zone.sub rfl hM
    | with_reducible first | refine State.setValid_keep ?_ ?_ _ _ | refine State.setBus_keep ?_ ?_ _
    | with_reducible first | refine State.setMember_keep ?_ ?_ _ _ | refine State.setGrp_keep ?_ ?_ _
    | with_reducible refine State.setKeepers_keep ?_ ?_ _ _

theorem State.setDeputy_keep {M r s} (h : Keep M r s) (hM : Nat.land 2097225 M = 2097225) :
    Keep M r (State.setDeputy s) := by
  unfold State.setDeputy
  repeat' first
    | with_reducible first | assumption | refine State.setKeepers_keep ?_ ?_ _ _ | refine Keep.ite ?_ ?_

theorem State.clearSlot_keep {M r s} (h : Keep M r s) (hM : Nat.land 2097225 M = 2097225) (a1 a2) :
    Keep M r (State.clearSlot s a1 a2) := by
  unfold State.clearSlot
  repeat' first
    | with_reducible assumption
    | exact Zone.sub rfl hM
    | with_reducible first | refine State.setDeputy_keep ?_ ?_ | refine State.log_keep ?_ ?_ _ _
    | with_reducible refine State.setValid_keep ?_ ?_ _ _

theorem State.groupLeaveEffect_keep {M r s} (h : Keep M r s) (hM : Nat.land 2097152 M = 2097152) :
    Keep M r (State.groupLeaveEffect s).2 := by
  unfold State.groupLeaveEffect
  repeat' first
    | with_reducible first | assumption | refine State.setGrp_keep ?_ ?_ _ | refine Keep.ite ?_ ?_

theorem State.storeOrder_keep {M r s} (h : Keep M r s) (hM : Nat.land 2097152 M = 2097152) (a1 a2) :
    Keep M r (State.storeOrder s a1 a2) := by
  unfold State.storeOrder
  repeat' first
    | with_reducible first | assumption | refine State.setGrp_keep ?_ ?_ _

theorem State.hearOrder_keep {M r s} (h : Keep M r s) (hM : Nat.land 2361545 M = 2361545) (a1 a2) :
    Keep M r (State.hearOrder s a1 a2) := by
  unfold State.hearOrder
  repeat' first
    | with_reducible assumption
    | exact Zone.sub rfl hM
    | with_reducible first | refine State.keeperOrder_keep ?_ ?_ _ _ | refine State.storeOrder_keep ?_ ?_ _ _

theorem State.keeperHeard_keep {M r s} (h : Keep M r s) (hM : Nat.land 262144 M = 262144) (a1) :
    Keep M r (State.keeperHeard s a1) := by
  unfold State.keeperHeard
  repeat' first
    | with_reducible first | assumption | refine State.setAv_keep ?_ ?_ _ | refine Keep.ite ?_ ?_

theorem State.orderRun_keep {M r s} (h : Keep M r s) (hM : Nat.land 2097152 M = 2097152) (a1 a2) :
    Keep M r (State.orderRun s a1 a2) := by
  unfold State.orderRun
  repeat' first
    | with_reducible first | assumption | refine State.setGrp_keep ?_ ?_ _

theorem State.sendGroup_keep {M r s} (h : Keep M r s) (hM : Nat.land 0 M = 0) (a1 a2 a3) :
    Keep M r (State.sendGroup s a1 a2 a3) := by
  unfold State.sendGroup
  repeat' first
    | with_reducible first | assumption | refine State.emit_keep ?_ ?_ _

theorem State.sendBeacon_keep {M r s} (h : Keep M r s) (hM : Nat.land 2097225 M = 2097225) :
    Keep M r (State.sendBeacon s) := by
  unfold State.sendBeacon
  repeat' first
    | with_reducible assumption
    | exact Zone.sub rfl hM
    | (intro)
    | with_reducible first | refine State.setValid_keep ?_ ?_ _ _ | refine State.setMember_keep ?_ ?_ _ _
    | with_reducible first | refine State.log_keep ?_ ?_ _ _ | refine State.setGrp_keep ?_ ?_ _
    | with_reducible first | refine State.setDeputy_keep ?_ ?_ | refine State.sendGroup_keep ?_ ?_ _ _ _
    | with_reducible refine Keep.foldl ?_ ?_ _
    | (extract_lets +onlyGivenNames y; clear_value y)
    | split

theorem State.sendOrders_keep {M r s} (h : Keep M r s) (hM : Nat.land 2097152 M = 2097152) :
    Keep M r (State.sendOrders s) := by
  unfold State.sendOrders
  repeat' first
    | with_reducible assumption
    | exact Zone.sub rfl hM
    | with_reducible first | refine State.setGrp_keep ?_ ?_ _ | refine State.sendGroup_keep ?_ ?_ _ _ _
    | with_reducible refine Keep.ite ?_ ?_

theorem State.sendOwn_keep {M r s} (h : Keep M r s) (hM : Nat.land 2097225 M = 2097225) :
    Keep M r (State.sendOwn s) := by
  unfold State.sendOwn
  repeat' first
    | with_reducible assumption
    | exact Zone.sub rfl hM
    | with_reducible first | refine State.sendGroup_keep ?_ ?_ _ _ _ | refine State.setGrp_keep ?_ ?_ _
    | with_reducible first | refine State.setKeepers_keep ?_ ?_ _ _ | refine State.setBus_keep ?_ ?_ _
    | with_reducible refine Keep.ite ?_ ?_

theorem State.takeFrame_keep {M r s} (h : Keep M r s) (hM : Nat.land 2097225 M = 2097225) (a1 a2) :
    Keep M r (State.takeFrame s a1 a2).2 := by
  unfold State.takeFrame
  repeat' first
    | with_reducible assumption
    | exact Zone.sub rfl hM
    | with_reducible first | refine State.bump_keep ?_ ?_ _ _ | refine State.log_keep ?_ ?_ _ _
    | with_reducible first | refine State.setGrp_keep ?_ ?_ _ | refine Keep.ite_snd ?_ ?_

theorem State.uniform_keep {M r s} (h : Keep M r s) (hM : Nat.land 0 M = 0) (a1) :
    Keep M r (State.uniform s a1).2 := by
  unfold State.uniform
  repeat' first
    | with_reducible first | assumption | refine State.fresh_keep ?_ ?_ _

theorem execBeacon_keep (s : State) (a1) :
    ∃ t, execBeacon a1 s = .next t ∧ Keep 2359369 s t := by
  refine ⟨_, rfl, ?_⟩
  have h := Keep.refl 2359369 s
  have hM : Nat.land 2359369 2359369 = 2359369 := rfl
  repeat' first
    | with_reducible assumption
    | exact Zone.sub rfl hM
    | with_reducible first | refine State.takeFrame_keep ?_ ?_ _ _ | refine State.setGrp_keep ?_ ?_ _
    | with_reducible first | refine State.put_keep ?_ ?_ _ _ _ | refine State.log_keep ?_ ?_ _ _
    | with_reducible first | refine State.setBus_keep ?_ ?_ _ | refine State.keeperHeard_keep ?_ ?_ _
    | with_reducible first | refine State.setKeepers_keep ?_ ?_ _ _ | refine Keep.ite ?_ ?_

theorem execDeputyTakeover_keep (s : State) :
    ∃ t, execDeputyTakeover s = .next t ∧ Keep 2097225 s t := by
  refine ⟨_, rfl, ?_⟩
  have h := Keep.refl 2097225 s
  have hM : Nat.land 2097225 2097225 = 2097225 := rfl
  repeat' first
    | with_reducible first | assumption | refine State.becomeKeeper_keep ?_ ?_ | refine Keep.ite ?_ ?_

theorem execDuplicateJoinRetry_keep (s : State) :
    ∃ t, execDuplicateJoinRetry s = .next t ∧ Keep 2097152 s t := by
  refine ⟨_, rfl, ?_⟩
  have h := Keep.refl 2097152 s
  have hM : Nat.land 2097152 2097152 = 2097152 := rfl
  repeat' first
    | with_reducible first | assumption | refine State.setGrp_keep ?_ ?_ _ | refine Keep.ite ?_ ?_

theorem execGroupLeave_keep (s : State) (a1 a2) :
    ∃ t, execGroupLeave a1 a2 s = .next t ∧ Keep 2097241 s t := by
  refine ⟨_, rfl, ?_⟩
  have h := Keep.refl 2097241 s
  have hM : Nat.land 2097241 2097241 = 2097241 := rfl
  repeat' first
    | with_reducible assumption
    | exact Zone.sub rfl hM
    | with_reducible refine State.groupLeaveEffect_keep ?_ ?_
    | with_reducible refine State.hostWrite_keep ?_ ?_ _ _ _ _ _ (fun v t h => ?_)

theorem execGroupWindow_keep (s : State) (a1 a2) :
    ∃ t, execGroupWindow a1 a2 s = .next t ∧ Keep 2097225 s t := by
  refine ⟨_, rfl, ?_⟩
  have h := Keep.refl 2097225 s
  have hM : Nat.land 2097225 2097225 = 2097225 := rfl
  repeat' first
    | with_reducible assumption
    | exact Zone.sub rfl hM
    | with_reducible first | refine State.sendBeacon_keep ?_ ?_ | refine State.uniform_keep ?_ ?_ _
    | with_reducible first | refine State.setGrp_keep ?_ ?_ _ | refine State.sendOrders_keep ?_ ?_
    | with_reducible first | refine State.sendGroup_keep ?_ ?_ _ _ _ | refine State.sendOwn_keep ?_ ?_
    | with_reducible refine Keep.ite ?_ ?_

theorem execHandover_keep (s : State) :
    ∃ t, execHandover s = .next t ∧ Keep 2097225 s t := by
  refine ⟨_, rfl, ?_⟩
  have h := Keep.refl 2097225 s
  have hM : Nat.land 2097225 2097225 = 2097225 := rfl
  repeat' first
    | with_reducible assumption
    | exact Zone.sub rfl hM
    | with_reducible first | refine State.setGrp_keep ?_ ?_ _ | refine State.becomeKeeper_keep ?_ ?_
    | with_reducible first | refine State.setKeepers_keep ?_ ?_ _ _ | refine Keep.ite ?_ ?_
    | (extract_lets +onlyGivenNames y; have hy : Keep 2097225 s y := ?_
       rotate_left; subst y; rotate_left; clear_value y)
    | split

theorem execJoin_keep (s : State) (a1 a2) :
    ∃ t, execJoin a1 a2 s = .next t ∧ Keep 2097225 s t := by
  refine ⟨_, rfl, ?_⟩
  have h := Keep.refl 2097225 s
  have hM : Nat.land 2097225 2097225 = 2097225 := rfl
  repeat' first
    | with_reducible assumption
    | exact Zone.sub rfl hM
    | with_reducible first | refine State.takeFrame_keep ?_ ?_ _ _ | refine State.setGrp_keep ?_ ?_ _
    | with_reducible first | refine State.setMember_keep ?_ ?_ _ _ | refine Keep.ite ?_ ?_

theorem execKeeperDecision_keep (s : State) (a1) :
    ∃ t, execKeeperDecision a1 s = .next t ∧ Keep 2097152 s t := by
  refine ⟨_, rfl, ?_⟩
  have h := Keep.refl 2097152 s
  have hM : Nat.land 2097152 2097152 = 2097152 := rfl
  repeat' first
    | with_reducible first | assumption | refine State.storeOrder_keep ?_ ?_ _ _ | refine Keep.ite ?_ ?_

theorem execLeave_keep (s : State) (a1) :
    ∃ t, execLeave a1 s = .next t ∧ Keep 2097225 s t := by
  refine ⟨_, rfl, ?_⟩
  have h := Keep.refl 2097225 s
  have hM : Nat.land 2097225 2097225 = 2097225 := rfl
  repeat' first
    | with_reducible first | assumption | refine State.takeFrame_keep ?_ ?_ _ _
    | with_reducible first | refine State.clearSlot_keep ?_ ?_ _ _ | refine Keep.ite ?_ ?_

theorem execListenEnd_keep (s : State) :
    ∃ t, execListenEnd s = .next t ∧ Keep 2097225 s t := by
  refine ⟨_, rfl, ?_⟩
  have h := Keep.refl 2097225 s
  have hM : Nat.land 2097225 2097225 = 2097225 := rfl
  repeat' first
    | with_reducible assumption
    | exact Zone.sub rfl hM
    | with_reducible first | refine State.becomeKeeper_keep ?_ ?_ | refine State.setGrp_keep ?_ ?_ _
    | with_reducible refine Keep.ite ?_ ?_
    | split

theorem execMemberAbsent_keep (s : State) (a1) :
    ∃ t, execMemberAbsent a1 s = .next t ∧ Keep 2097225 s t := by
  refine ⟨_, rfl, ?_⟩
  have h := Keep.refl 2097225 s
  have hM : Nat.land 2097225 2097225 = 2097225 := rfl
  repeat' first
    | with_reducible first | assumption | refine State.clearSlot_keep ?_ ?_ _ _ | refine Keep.ite ?_ ?_

theorem execMemberStatus_keep (s : State) (a1) :
    ∃ t, execMemberStatus a1 s = .next t ∧ Keep 2361545 s t := by
  refine ⟨_, rfl, ?_⟩
  have h := Keep.refl 2361545 s
  have hM : Nat.land 2361545 2361545 = 2361545 := rfl
  repeat' first
    | with_reducible assumption
    | exact Zone.sub rfl hM
    | with_reducible first | refine State.takeFrame_keep ?_ ?_ _ _ | refine State.setMember_keep ?_ ?_ _ _
    | with_reducible first | refine State.orderRun_keep ?_ ?_ _ _ | refine State.hearOrder_keep ?_ ?_ _ _
    | with_reducible first | refine State.keeperHeard_keep ?_ ?_ _ | refine Keep.ite ?_ ?_

theorem execOrders_keep (s : State) (a1) :
    ∃ t, execOrders a1 s = .next t ∧ Keep 2361545 s t := by
  refine ⟨_, rfl, ?_⟩
  have h := Keep.refl 2361545 s
  have hM : Nat.land 2361545 2361545 = 2361545 := rfl
  repeat' first
    | with_reducible assumption
    | exact Zone.sub rfl hM
    | (intro)
    | with_reducible first | refine State.takeFrame_keep ?_ ?_ _ _ | refine State.keeperHeard_keep ?_ ?_ _
    | with_reducible first | refine State.hearOrder_keep ?_ ?_ _ _ | refine Keep.ite ?_ ?_
    | with_reducible refine Keep.foldl ?_ ?_ _

theorem State.assignAddress_keep {M r s} (h : Keep M r s) (hM : Nat.land 64 M = 64) (a1 a2) :
    Keep M r (State.assignAddress s a1 a2) := by
  unfold State.assignAddress
  repeat' first
    | with_reducible assumption
    | (simp -zeta only [↓Keep.mk_iff]; with_reducible refine KeepF.upd_aop ?_ ?_)
    | (extract_lets +onlyGivenNames y; clear_value y)

theorem State.setDmn_keep {M r s} (h : Keep M r s) (hM : Nat.land 4194304 M = 4194304) (a1) :
    Keep M r (State.setDmn s a1) := by
  unfold State.setDmn
  repeat' first
    | with_reducible assumption
    | (simp -zeta only [↓Keep.mk_iff]; with_reducible refine KeepF.upd_dmn ?_ ?_)

theorem State.sendDomain_keep {M r s} (h : Keep M r s) (hM : Nat.land 4194304 M = 4194304) (a1 a2 a3 a4) :
    Keep M r (State.sendDomain s a1 a2 a3 a4) := by
  unfold State.sendDomain
  repeat' first
    | with_reducible assumption
    | exact Zone.sub rfl hM
    | with_reducible first | refine State.setDmn_keep ?_ ?_ _ | refine State.emit_keep ?_ ?_ _

theorem State.sendRoll_keep {M r s} (h : Keep M r s) (hM : Nat.land 4194304 M = 4194304) :
    Keep M r (State.sendRoll s) := by
  unfold State.sendRoll
  repeat' first
    | with_reducible first | assumption | refine State.setDmn_keep ?_ ?_ _
    | with_reducible refine State.sendDomain_keep ?_ ?_ _ _ _ _

theorem State.completeRun_keep {M r s} (h : Keep M r s) (hM : Nat.land 4194377 M = 4194377) :
    Keep M r (State.completeRun s) := by
  unfold State.completeRun
  repeat' first
    | with_reducible assumption
    | exact Zone.sub rfl hM
    | with_reducible first | refine State.sendRoll_keep ?_ ?_ | refine State.put_keep ?_ ?_ _ _ _
    | with_reducible first | refine State.setDmn_keep ?_ ?_ _ | refine State.log_keep ?_ ?_ _ _
    | with_reducible refine Keep.ite ?_ ?_

theorem State.setReg_keep {M r s} (h : Keep M r s) (hM : Nat.land 4194304 M = 4194304) (a1 a2) :
    Keep M r (State.setReg s a1 a2) := by
  unfold State.setReg
  repeat' first
    | with_reducible first | assumption | refine State.setDmn_keep ?_ ?_ _

theorem State.dueIn_keep {M r s} (h : Keep M r s) (hM : Nat.land 4194304 M = 4194304) (a1 a2 a3) :
    Keep M r (State.dueIn s a1 a2 a3) := by
  unfold State.dueIn
  repeat' first
    | with_reducible assumption
    | exact Zone.sub rfl hM
    | with_reducible first | refine State.uniform_keep ?_ ?_ _ | refine State.setReg_keep ?_ ?_ _ _

theorem State.rollChanged_keep {M r s} (h : Keep M r s) (hM : Nat.land 4194304 M = 4194304) (a1) :
    Keep M r (State.rollChanged s a1) := by
  unfold State.rollChanged
  repeat' first
    | with_reducible first | assumption | refine State.setReg_keep ?_ ?_ _ _ | refine Keep.ite ?_ ?_

theorem State.registerGroup_keep {M r s} (h : Keep M r s) (hM : Nat.land 4194377 M = 4194377) (a1) :
    Keep M r (State.registerGroup s a1) := by
  unfold State.registerGroup
  repeat' first
    | with_reducible assumption
    | exact Zone.sub rfl hM
    | with_reducible first | refine State.setDmn_keep ?_ ?_ _ | refine State.rollChanged_keep ?_ ?_ _
    | with_reducible refine State.log_keep ?_ ?_ _ _

theorem State.membershipRun_keep {M r s} (h : Keep M r s) (hM : Nat.land 4194377 M = 4194377) :
    Keep M r (State.membershipRun s) := by
  unfold State.membershipRun
  repeat' first
    | with_reducible assumption
    | exact Zone.sub rfl hM
    | with_reducible first | refine State.registerGroup_keep ?_ ?_ _ | refine State.rollChanged_keep ?_ ?_ _
    | with_reducible refine Keep.ite ?_ ?_

theorem State.registerSite_keep {M r s} (h : Keep M r s) (hM : Nat.land 4194377 M = 4194377) (a1 a2 a3) :
    Keep M r (State.registerSite s a1 a2 a3) := by
  unfold State.registerSite
  repeat' first
    | with_reducible assumption
    | exact Zone.sub rfl hM
    | (intro)
    | with_reducible first | refine State.setDmn_keep ?_ ?_ _ | refine State.putO_keep ?_ ?_ _ _ _
    | with_reducible first | refine State.put_keep ?_ ?_ _ _ _ | refine State.completeRun_keep ?_ ?_
    | with_reducible first | refine State.log_keep ?_ ?_ _ _ | refine Keep.foldl ?_ ?_ _
    | (extract_lets +onlyGivenNames y; clear_value y)
    | split

theorem State.setRole_keep {M r s} (h : Keep M r s) (hM : Nat.land 1 M = 1) (a1 a2) :
    Keep M r (State.setRole s a1 a2) := by
  unfold State.setRole
  repeat' first
    | with_reducible first | assumption | refine State.put_keep ?_ ?_ _ _ _

theorem State.roleRun_keep {M r s} (h : Keep M r s) (hM : Nat.land 4194305 M = 4194305) :
    Keep M r (State.roleRun s) := by
  unfold State.roleRun
  repeat' first
    | with_reducible assumption
    | exact Zone.sub rfl hM
    | with_reducible first | refine State.setDmn_keep ?_ ?_ _ | refine State.setRole_keep ?_ ?_ _ _
    | with_reducible refine Keep.ite ?_ ?_

theorem State.setAddress_keep {M r s} (h : Keep M r s) (hM : Nat.land 64 M = 64) (a1 a2 a3) :
    Keep M r (State.setAddress s a1 a2 a3) := by
  unfold State.setAddress
  repeat' first
    | with_reducible assumption
    | (simp -zeta only [↓Keep.mk_iff]; with_reducible refine KeepF.upd_aop ?_ ?_)
    | (extract_lets +onlyGivenNames y; clear_value y)

theorem State.setLead_keep {M r s} (h : Keep M r s) (hM : Nat.land 73 M = 73) (a1 a2) :
    Keep M r (State.setLead s a1 a2) := by
  unfold State.setLead
  repeat' first
    | with_reducible assumption
    | exact Zone.sub rfl hM
    | with_reducible first | refine State.log_keep ?_ ?_ _ _ | refine State.put_keep ?_ ?_ _ _ _
    | with_reducible refine Keep.ite ?_ ?_

theorem State.startRegs_keep {M r s} (h : Keep M r s) (hM : Nat.land 4194304 M = 4194304) :
    Keep M r (State.startRegs s) := by
  unfold State.startRegs
  repeat' first
    | with_reducible first | assumption | refine State.dueIn_keep ?_ ?_ _ _ _ | refine Keep.ite ?_ ?_
    | (extract_lets +onlyGivenNames y; have hy : Keep M r y := ?_
       rotate_left; subst y; rotate_left; clear_value y)
    | split

theorem State.staticAddress_keep {M r s} (h : Keep M r s) (hM : Nat.land 64 M = 64) (a1) :
    Keep M r (State.staticAddress s a1) := by
  unfold State.staticAddress
  repeat' first
    | with_reducible first | assumption | refine State.assignAddress_keep ?_ ?_ _ _ | refine Keep.ite ?_ ?_
    | (simp -zeta only [↓Keep.mk_iff]; with_reducible refine KeepF.upd_aop ?_ ?_)

theorem execAck_keep (s : State) (a1) :
    ∃ t, execAck a1 s = .next t ∧ Keep 4194377 s t := by
  refine ⟨_, rfl, ?_⟩
  have h := Keep.refl 4194377 s
  have hM : Nat.land 4194377 4194377 = 4194377 := rfl
  repeat' first
    | with_reducible assumption
    | exact Zone.sub rfl hM
    | with_reducible first | refine State.setReg_keep ?_ ?_ _ _ | refine State.setRole_keep ?_ ?_ _ _
    | with_reducible first | refine State.setLead_keep ?_ ?_ _ _ | refine State.fresh_keep ?_ ?_ _
    | with_reducible first | refine State.log_keep ?_ ?_ _ _ | refine Keep.ite ?_ ?_
    | dsimp -zeta only
    | split

theorem execAckTimeout_keep (s : State) (a1) :
    ∃ t, execAckTimeout a1 s = .next t ∧ Keep 4194377 s t := by
  refine ⟨_, rfl, ?_⟩
  have h := Keep.refl 4194377 s
  have hM : Nat.land 4194377 4194377 = 4194377 := rfl
  repeat' first
    | with_reducible assumption
    | exact Zone.sub rfl hM
    | with_reducible first | refine State.setReg_keep ?_ ?_ _ _ | refine State.dueIn_keep ?_ ?_ _ _ _
    | with_reducible first | refine State.log_keep ?_ ?_ _ _ | refine Keep.ite ?_ ?_
    | (extract_lets +onlyGivenNames y; have hy : Keep 4194377 s y := ?_
       rotate_left; subst y; rotate_left; clear_value y)
    | split

theorem execAnnounce_keep (s : State) (a1) :
    ∃ t, execAnnounce a1 s = .next t ∧ Keep 4194377 s t := by
  refine ⟨_, rfl, ?_⟩
  have h := Keep.refl 4194377 s
  have hM : Nat.land 4194377 4194377 = 4194377 := rfl
  repeat' first
    | with_reducible assumption
    | exact Zone.sub rfl hM
    | with_reducible first | refine State.roleRun_keep ?_ ?_ | refine State.setDmn_keep ?_ ?_ _
    | with_reducible first | refine State.setLead_keep ?_ ?_ _ _ | refine State.setRole_keep ?_ ?_ _ _
    | with_reducible first | refine State.startRegs_keep ?_ ?_ | refine Keep.ite ?_ ?_
    | (extract_lets +onlyGivenNames y; clear_value y)
    | split

theorem execAnnounceTimer_keep (s : State) :
    ∃ t, execAnnounceTimer s = .next t ∧ Keep 4194305 s t := by
  refine ⟨_, rfl, ?_⟩
  have h := Keep.refl 4194305 s
  have hM : Nat.land 4194305 4194305 = 4194305 := rfl
  repeat' first
    | with_reducible assumption
    | exact Zone.sub rfl hM
    | with_reducible first | refine State.roleRun_keep ?_ ?_ | refine State.setDmn_keep ?_ ?_ _
    | with_reducible first | refine State.sendDomain_keep ?_ ?_ _ _ _ _ | refine Keep.ite ?_ ?_

theorem execCarrierWithoutTraffic_keep (s : State) (a1) :
    ∃ t, execCarrierWithoutTraffic a1 s = .next t ∧ Keep 4194377 s t := by
  refine ⟨_, rfl, ?_⟩
  have h := Keep.refl 4194377 s
  have hM : Nat.land 4194377 4194377 = 4194377 := rfl
  repeat' first
    | with_reducible assumption
    | exact Zone.sub rfl hM
    | with_reducible first | refine State.setDmn_keep ?_ ?_ _ | refine State.logC_keep ?_ ?_ _ _ _
    | with_reducible refine Keep.ite ?_ ?_

theorem execDomainRoll_keep (s : State) (a1) :
    ∃ t, execDomainRoll a1 s = .next t ∧ Keep 1 s t := by
  refine ⟨_, rfl, ?_⟩
  have h := Keep.refl 1 s
  have hM : Nat.land 1 1 = 1 := rfl
  repeat' first
    | with_reducible assumption
    | (intro)
    | with_reducible first | refine State.put_keep ?_ ?_ _ _ _ | refine Keep.foldl ?_ ?_ _
    | split

theorem execDomainRollTimer_keep (s : State) :
    ∃ t, execDomainRollTimer s = .next t ∧ Keep 4194304 s t := by
  refine ⟨_, rfl, ?_⟩
  have h := Keep.refl 4194304 s
  have hM : Nat.land 4194304 4194304 = 4194304 := rfl
  repeat' first
    | with_reducible first | assumption | refine State.sendRoll_keep ?_ ?_ | refine Keep.ite ?_ ?_

theorem execGroupRoll_keep (s : State) (a1) :
    ∃ t, execGroupRoll a1 s = .next t ∧ Keep 4194377 s t := by
  refine ⟨_, rfl, ?_⟩
  have h := Keep.refl 4194377 s
  have hM : Nat.land 4194377 4194377 = 4194377 := rfl
  repeat' first
    | with_reducible assumption
    | exact Zone.sub rfl hM
    | with_reducible first | refine State.sendDomain_keep ?_ ?_ _ _ _ _ | refine State.registerGroup_keep ?_ ?_ _
    | with_reducible refine Keep.ite ?_ ?_
    | dsimp -zeta only
    | split

theorem execNeighbourDiscovery_keep (s : State) (a1 a2) :
    ∃ t, execNeighbourDiscovery a1 a2 s = .next t ∧ Keep 64 s t := by
  refine ⟨_, rfl, ?_⟩
  have h := Keep.refl 64 s
  have hM : Nat.land 64 64 = 64 := rfl
  repeat' first
    | with_reducible assumption
    | exact Zone.sub rfl hM
    | with_reducible first | refine State.setAddress_keep ?_ ?_ _ _ _ | refine State.emit_keep ?_ ?_ _
    | with_reducible refine Keep.ite ?_ ?_
    | (simp -zeta only [↓Keep.mk_iff]; with_reducible refine KeepF.upd_aop ?_ ?_)
    | dsimp -zeta only
    | (extract_lets +onlyGivenNames y; clear_value y)
    | split

theorem execRegistrationRetry_keep (s : State) (a1) :
    ∃ t, execRegistrationRetry a1 s = .next t ∧ Keep 4194304 s t := by
  refine ⟨_, rfl, ?_⟩
  have h := Keep.refl 4194304 s
  have hM : Nat.land 4194304 4194304 = 4194304 := rfl
  repeat' first
    | with_reducible first | assumption | refine State.dueIn_keep ?_ ?_ _ _ _ | refine State.setReg_keep ?_ ?_ _ _
    | with_reducible refine Keep.ite ?_ ?_
    | split

theorem execRollBackoffEnd_keep (s : State) (a1) :
    ∃ t, execRollBackoffEnd a1 s = .next t ∧ Keep 4194377 s t := by
  refine ⟨_, rfl, ?_⟩
  have h := Keep.refl 4194377 s
  have hM : Nat.land 4194377 4194377 = 4194377 := rfl
  repeat' first
    | with_reducible assumption
    | exact Zone.sub rfl hM
    | with_reducible first | refine State.roleRun_keep ?_ ?_ | refine State.setReg_keep ?_ ?_ _ _
    | with_reducible first | refine State.registerSite_keep ?_ ?_ _ _ _ | refine State.sendDomain_keep ?_ ?_ _ _ _ _
    | with_reducible first | refine State.setDmn_keep ?_ ?_ _ | refine Keep.ite ?_ ?_
    | (extract_lets +onlyGivenNames y; have hy : Keep 4194377 s y := ?_
       rotate_left; subst y; rotate_left; clear_value y)
    | (extract_lets +onlyGivenNames y; clear_value y)
    | split

theorem execRollIncomplete_keep (s : State) :
    ∃ t, execRollIncomplete s = .next t ∧ Keep 4194377 s t := by
  refine ⟨_, rfl, ?_⟩
  have h := Keep.refl 4194377 s
  have hM : Nat.land 4194377 4194377 = 4194377 := rfl
  repeat' first
    | with_reducible assumption
    | exact Zone.sub rfl hM
    | with_reducible first | refine State.log_keep ?_ ?_ _ _ | refine State.setDmn_keep ?_ ?_ _
    | with_reducible refine Keep.ite ?_ ?_

theorem execSettleEnd_keep (s : State) (a1) :
    ∃ t, execSettleEnd a1 s = .next t ∧ Keep 4194377 s t := by
  refine ⟨_, rfl, ?_⟩
  have h := Keep.refl 4194377 s
  have hM : Nat.land 4194377 4194377 = 4194377 := rfl
  repeat' first
    | with_reducible assumption
    | exact Zone.sub rfl hM
    | with_reducible first | refine State.roleRun_keep ?_ ?_ | refine State.startRegs_keep ?_ ?_
    | with_reducible first | refine State.setLead_keep ?_ ?_ _ _ | refine State.setRole_keep ?_ ?_ _ _
    | with_reducible first | refine State.setDmn_keep ?_ ?_ _ | refine State.registerGroup_keep ?_ ?_ _
    | with_reducible refine Keep.ite ?_ ?_

theorem execSiteRoll_keep (s : State) (a1) :
    ∃ t, execSiteRoll a1 s = .next t ∧ Keep 4194377 s t := by
  refine ⟨_, rfl, ?_⟩
  have h := Keep.refl 4194377 s
  have hM : Nat.land 4194377 4194377 = 4194377 := rfl
  repeat' first
    | with_reducible assumption
    | exact Zone.sub rfl hM
    | with_reducible first | refine State.sendDomain_keep ?_ ?_ _ _ _ _ | refine State.registerSite_keep ?_ ?_ _ _ _
    | with_reducible refine Keep.ite ?_ ?_
    | (extract_lets +onlyGivenNames y; clear_value y)
    | split

end Sys2Proof.Machine
end

