-- ==== Sys2Proof/Laws/KeepHouse.lean ====
section
/-! SUPPORT. What the operations of the supervisory path, power, the images and the object dictionary keep. The number of each lemma is the
set of parts of the state it may change (`Keep`). -/

namespace Sys2Proof.Machine

set_option Elab.async false
set_option linter.all false

theorem State.setSvc_keep {M r s} (h : Keep M r s) (hM : Nat.land 524288 M = 524288) (a1) :
    Keep M r (State.setSvc s a1) := by
  unfold State.setSvc
  repeat' first
    | with_reducible assumption
    | (simp -zeta only [↓Keep.mk_iff]; with_reducible refine KeepF.upd_svc ?_ ?_)

theorem State.caseRead_keep {M r s} (h : Keep M r s) (hM : Nat.land 524361 M = 524361) (a1) :
    Keep M r (State.caseRead s a1) := by
  unfold State.caseRead
  repeat' first
    | with_reducible assumption
    | exact Zone.sub rfl hM
    | with_reducible first | refine State.put_keep ?_ ?_ _ _ _ | refine State.setSvc_keep ?_ ?_ _
    | with_reducible first | refine State.log_keep ?_ ?_ _ _ | refine Keep.ite ?_ ?_

theorem State.comparatorEffect_keep {M r s} (h : Keep M r s) (hM : Nat.land 1 M = 1) (a1 a2) :
    Keep M r (State.comparatorEffect s a1 a2).2 := by
  unfold State.comparatorEffect
  repeat' first
    | with_reducible first | assumption | refine State.put_keep ?_ ?_ _ _ _

theorem State.tempRead_keep {M r s} (h : Keep M r s) (hM : Nat.land 845 M = 845) (a1 a2 a3) :
    Keep M r (State.tempRead s a1 a2 a3) := by
  unfold State.tempRead
  repeat' first
    | with_reducible assumption
    | exact Zone.sub rfl hM
    | with_reducible first | refine State.setCv_keep ?_ ?_ _ _ _ | refine State.armLoad_keep ?_ ?_ _ _ _ _
    | with_reducible refine Keep.ite ?_ ?_

theorem State.consume_keep {M r s} (h : Keep M r s) (hM : Nat.land 525149 M = 525149) (a1 a2 a3 a4) :
    Keep M r (State.consume s a1 a2 a3 a4) := by
  unfold State.consume
  repeat' first
    | with_reducible assumption
    | exact Zone.sub rfl hM
    | (intro)
    | with_reducible first | refine State.caseRead_keep ?_ ?_ _ | refine State.tempRead_keep ?_ ?_ _ _ _
    | with_reducible first | refine Keep.ite ?_ ?_ | refine Keep.foldl ?_ ?_ _
    | (simp -zeta only [↓Keep.mk_iff]; with_reducible refine KeepF.upd_pow ?_ ?_ rfl)

theorem State.setTfe_keep {M r s} (h : Keep M r s) (hM : Nat.land 524288 M = 524288) (a1 a2) :
    Keep M r (State.setTfe s a1 a2) := by
  unfold State.setTfe
  repeat' first
    | with_reducible first | assumption | refine State.setSvc_keep ?_ ?_ _

theorem State.detect_keep {M r s} (h : Keep M r s) (hM : Nat.land 524289 M = 524289) (a1 a2) :
    Keep M r (State.detect s a1 a2) := by
  unfold State.detect
  repeat' first
    | with_reducible assumption
    | exact Zone.sub rfl hM
    | with_reducible first | refine State.setTfe_keep ?_ ?_ _ _ | refine State.put_keep ?_ ?_ _ _ _
    | with_reducible refine Keep.ite ?_ ?_
    | (extract_lets +onlyGivenNames y; have hy : Keep M r y := ?_
       rotate_left; subst y; rotate_left; clear_value y)
    | (extract_lets +onlyGivenNames y; clear_value y)
    | split

theorem State.feed_keep {M r s} (h : Keep M r s) (hM : Nat.land 524288 M = 524288) (a1 a2) :
    Keep M r (State.feed s a1 a2) := by
  unfold State.feed
  repeat' first
    | with_reducible first | assumption | refine State.setTfe_keep ?_ ?_ _ _ | refine Keep.ite ?_ ?_

theorem State.unsettle_keep {M r s} (h : Keep M r s) (hM : Nat.land 524288 M = 524288) (a1) :
    Keep M r (State.unsettle s a1) := by
  unfold State.unsettle
  repeat' first
    | with_reducible first | assumption | refine State.setTfe_keep ?_ ?_ _ _

theorem State.unsettleFrom_keep {M r s} (h : Keep M r s) (hM : Nat.land 524288 M = 524288) (a1) :
    Keep M r (State.unsettleFrom s a1) := by
  unfold State.unsettleFrom
  repeat' first
    | with_reducible assumption
    | (intro)
    | with_reducible first | refine State.unsettle_keep ?_ ?_ _ | refine Keep.ite ?_ ?_ | refine Keep.foldl ?_ ?_ _

theorem State.frontGainEffect_keep {M r s} (h : Keep M r s) (hM : Nat.land 524289 M = 524289) (a1 a2) :
    Keep M r (State.frontGainEffect s a1 a2).2 := by
  unfold State.frontGainEffect
  repeat' first
    | with_reducible assumption
    | exact Zone.sub rfl hM
    | with_reducible first | refine State.unsettleFrom_keep ?_ ?_ _ | refine State.put_keep ?_ ?_ _ _ _

theorem State.frontSample_keep {M r s} (h : Keep M r s) (hM : Nat.land 524361 M = 524361) (a1 a2) :
    Keep M r (State.frontSample s a1 a2) := by
  unfold State.frontSample
  repeat' first
    | with_reducible assumption
    | exact Zone.sub rfl hM
    | (intro)
    | with_reducible first | refine State.setSvc_keep ?_ ?_ _ | refine State.logSecond_keep ?_ ?_ _ _ _ _
    | with_reducible first | refine State.add64_keep ?_ ?_ _ _ _ | refine State.feed_keep ?_ ?_ _ _
    | with_reducible first | refine Keep.ite ?_ ?_ | refine Keep.foldl ?_ ?_ _

theorem State.injMiss_keep {M r s} (h : Keep M r s) (hM : Nat.land 73 M = 73) (a1) :
    Keep M r (State.injMiss s a1) := by
  unfold State.injMiss
  repeat' first
    | with_reducible assumption
    | exact Zone.sub rfl hM
    | with_reducible first | refine State.log_keep ?_ ?_ _ _ | refine State.bump_keep ?_ ?_ _ _

theorem State.injStart_keep {M r s} (h : Keep M r s) (hM : Nat.land 524297 M = 524297) (a1 a2 a3) :
    Keep M r (State.injStart s a1 a2 a3) := by
  unfold State.injStart
  repeat' first
    | with_reducible assumption
    | exact Zone.sub rfl hM
    | with_reducible first | refine State.occur_keep ?_ ?_ _ _ | refine State.bump_keep ?_ ?_ _ _
    | with_reducible refine State.setSvc_keep ?_ ?_ _
    | (extract_lets +onlyGivenNames y; have hy : Keep M r y := ?_
       rotate_left; subst y; rotate_left; clear_value y)
    | (extract_lets +onlyGivenNames y; clear_value y)
    | split

theorem State.injTrigger_keep {M r s} (h : Keep M r s) (hM : Nat.land 524361 M = 524361) (a1 a2) :
    Keep M r (State.injTrigger s a1 a2) := by
  unfold State.injTrigger
  repeat' first
    | with_reducible assumption
    | exact Zone.sub rfl hM
    | with_reducible first | refine State.injMiss_keep ?_ ?_ _ | refine State.injStart_keep ?_ ?_ _ _ _
    | with_reducible first | refine State.setSvc_keep ?_ ?_ _ | refine Keep.ite ?_ ?_
    | split

theorem State.injectLengthEffect_keep {M r s} (h : Keep M r s) (hM : Nat.land 524289 M = 524289) (a1) :
    Keep M r (State.injectLengthEffect s a1).2 := by
  unfold State.injectLengthEffect
  repeat' first
    | with_reducible assumption
    | exact Zone.sub rfl hM
    | with_reducible first | refine State.put_keep ?_ ?_ _ _ _ | refine State.setSvc_keep ?_ ?_ _
    | with_reducible refine Keep.ite_snd ?_ ?_

theorem State.injectNowEffect_keep {M r s} (h : Keep M r s) (hM : Nat.land 524361 M = 524361) (a1) :
    Keep M r (State.injectNowEffect s a1).2 := by
  unfold State.injectNowEffect
  repeat' first
    | with_reducible first | assumption | refine State.injTrigger_keep ?_ ?_ _ _

theorem State.injectedNext_keep {M r s} (h : Keep M r s) (hM : Nat.land 524297 M = 524297) (a1) :
    Keep M r (State.injectedNext s a1) := by
  unfold State.injectedNext
  repeat' first
    | with_reducible assumption
    | exact Zone.sub rfl hM
    | with_reducible first | refine State.setSvc_keep ?_ ?_ _ | refine State.injStart_keep ?_ ?_ _ _ _
    | (extract_lets +onlyGivenNames y; have hy : Keep M r y := ?_
       rotate_left; subst y; rotate_left; clear_value y)
    | split

theorem State.passStart_keep {M r s} (h : Keep M r s) (hM : Nat.land 524288 M = 524288) :
    Keep M r (State.passStart s) := by
  unfold State.passStart
  repeat' first
    | with_reducible first | assumption | refine State.setSvc_keep ?_ ?_ _ | refine Keep.ite ?_ ?_

theorem State.passBoundary_keep {M r s} (h : Keep M r s) (hM : Nat.land 524361 M = 524361) :
    Keep M r (State.passBoundary s) := by
  unfold State.passBoundary
  repeat' first
    | with_reducible assumption
    | exact Zone.sub rfl hM
    | with_reducible first | refine State.setSvc_keep ?_ ?_ _ | refine State.logSecond_keep ?_ ?_ _ _ _ _
    | with_reducible first | refine State.bump_keep ?_ ?_ _ _ | refine State.passStart_keep ?_ ?_
    | with_reducible refine Keep.ite ?_ ?_

theorem State.selfCheck_keep {M r s} (h : Keep M r s) (hM : Nat.land 524873 M = 524873) :
    Keep M r (State.selfCheck s) := by
  unfold State.selfCheck
  repeat' first
    | with_reducible assumption
    | exact Zone.sub rfl hM
    | with_reducible first | refine State.setSvc_keep ?_ ?_ _ | refine State.log_keep ?_ ?_ _ _
    | with_reducible refine Keep.ite ?_ ?_
    | (simp -zeta only [↓Keep.mk_iff]; with_reducible refine KeepF.upd_cal ?_ ?_)

theorem State.passEnd_keep {M r s} (h : Keep M r s) (hM : Nat.land 524889 M = 524889) :
    Keep M r (State.passEnd s) := by
  unfold State.passEnd
  repeat' first
    | with_reducible assumption
    | exact Zone.sub rfl hM
    | with_reducible first | refine State.put_keep ?_ ?_ _ _ _ | refine State.selfCheck_keep ?_ ?_
    | with_reducible first | refine State.setSvc_keep ?_ ?_ _ | refine State.passStart_keep ?_ ?_
    | with_reducible refine Keep.ite ?_ ?_
    | (simp -zeta only [↓Keep.mk_iff]; with_reducible refine KeepF.upd_pow ?_ ?_ rfl)

theorem State.regularNext_keep {M r s} (h : Keep M r s) (hM : Nat.land 524889 M = 524889) (a1) :
    Keep M r (State.regularNext s a1) := by
  unfold State.regularNext
  repeat' first
    | with_reducible assumption
    | exact Zone.sub rfl hM
    | with_reducible first | refine State.setSvc_keep ?_ ?_ _ | refine State.passEnd_keep ?_ ?_
    | split

theorem State.restartTfe_keep {M r s} (h : Keep M r s) (hM : Nat.land 524288 M = 524288) (a1) :
    Keep M r (State.restartTfe s a1) := by
  unfold State.restartTfe
  repeat' first
    | with_reducible first | assumption | refine State.unsettle_keep ?_ ?_ _ | refine State.setTfe_keep ?_ ?_ _ _

theorem State.svcBoundary_keep {M r s} (h : Keep M r s) (hM : Nat.land 524361 M = 524361) :
    Keep M r (State.svcBoundary s) := by
  unfold State.svcBoundary
  repeat' first
    | with_reducible assumption
    | exact Zone.sub rfl hM
    | (intro)
    | with_reducible first | refine State.setSvc_keep ?_ ?_ _ | refine State.restartTfe_keep ?_ ?_ _
    | with_reducible first | refine State.passBoundary_keep ?_ ?_ | refine Keep.ite ?_ ?_
    | with_reducible refine Keep.foldl ?_ ?_ _

theorem State.svcEntryReloaded_keep {M r s} (h : Keep M r s) (hM : Nat.land 524288 M = 524288) (a1) :
    Keep M r (State.svcEntryReloaded s a1) := by
  unfold State.svcEntryReloaded
  repeat' first
    | with_reducible first | assumption | refine State.setSvc_keep ?_ ?_ _

theorem State.svcPoison_keep {M r s} (h : Keep M r s) (hM : Nat.land 524377 M = 524377) (a1 a2 a3) :
    Keep M r (State.svcPoison s a1 a2 a3) := by
  unfold State.svcPoison
  repeat' first
    | with_reducible assumption
    | exact Zone.sub rfl hM
    | with_reducible first | refine State.log_keep ?_ ?_ _ _ | refine State.unsettle_keep ?_ ?_ _
    | with_reducible first | refine State.setSvc_keep ?_ ?_ _ | refine State.setTfe_keep ?_ ?_ _ _
    | with_reducible first | refine State.putO_keep ?_ ?_ _ _ _ | refine State.release_keep ?_ ?_ _ _
    | with_reducible first | refine State.put_keep ?_ ?_ _ _ _ | refine Keep.ite ?_ ?_
    | split

theorem State.svcWoken_keep {M r s} (h : Keep M r s) (hM : Nat.land 524377 M = 524377) (a1 a2) :
    Keep M r (State.svcWoken s a1 a2) := by
  unfold State.svcWoken
  repeat' first
    | with_reducible assumption
    | exact Zone.sub rfl hM
    | (intro)
    | with_reducible first | refine State.setSvc_keep ?_ ?_ _ | refine State.release_keep ?_ ?_ _ _
    | with_reducible first | refine State.put_keep ?_ ?_ _ _ _ | refine State.log_keep ?_ ?_ _ _
    | with_reducible first | refine State.restartTfe_keep ?_ ?_ _ | refine Keep.ite ?_ ?_
    | with_reducible refine Keep.foldl ?_ ?_ _
    | (simp -zeta only [↓Keep.mk_iff]; with_reducible refine KeepF.upd_live ?_ ?_)

theorem State.tfeActivate_keep {M r s} (h : Keep M r s) (hM : Nat.land 524361 M = 524361) (a1) :
    Keep M r (State.tfeActivate s a1) := by
  unfold State.tfeActivate
  repeat' first
    | with_reducible assumption
    | exact Zone.sub rfl hM
    | (intro)
    | with_reducible first | refine State.setTfe_keep ?_ ?_ _ _ | refine State.footSearch_keep ?_ ?_ _
    | with_reducible first | refine State.log_keep ?_ ?_ _ _ | refine Keep.ite ?_ ?_ | refine Keep.foldl ?_ ?_ _

theorem State.tfeCoeffEffect_keep {M r s} (h : Keep M r s) (hM : Nat.land 1 M = 1) (a1 a2) :
    Keep M r (State.tfeCoeffEffect s a1 a2).2 := by
  unfold State.tfeCoeffEffect
  repeat' first
    | with_reducible first | assumption | refine State.putO_keep ?_ ?_ _ _ _ | refine Keep.ite_snd ?_ ?_

theorem State.tfeDeliver_keep {M r s} (h : Keep M r s) (hM : Nat.land 524289 M = 524289) (a1 a2) :
    Keep M r (State.tfeDeliver s a1 a2) := by
  unfold State.tfeDeliver
  repeat' first
    | with_reducible assumption
    | exact Zone.sub rfl hM
    | with_reducible first | refine State.setTfe_keep ?_ ?_ _ _ | refine State.add64_keep ?_ ?_ _ _ _
    | with_reducible first | refine State.detect_keep ?_ ?_ _ _ | refine Keep.ite ?_ ?_

theorem State.tfeFilterEffect_keep {M r s} (h : Keep M r s) (hM : Nat.land 1 M = 1) (a1 a2) :
    Keep M r (State.tfeFilterEffect s a1 a2).2 := by
  unfold State.tfeFilterEffect
  repeat' first
    | with_reducible first | assumption | refine State.put_keep ?_ ?_ _ _ _ | refine Keep.ite_snd ?_ ?_

theorem State.tfeInputEffect_keep {M r s} (h : Keep M r s) (hM : Nat.land 524289 M = 524289) (a1 a2) :
    Keep M r (State.tfeInputEffect s a1 a2).2 := by
  unfold State.tfeInputEffect
  repeat' first
    | with_reducible assumption
    | exact Zone.sub rfl hM
    | with_reducible first | refine State.unsettle_keep ?_ ?_ _ | refine State.put_keep ?_ ?_ _ _ _

theorem State.tfeLoaded_keep {M r s} (h : Keep M r s) (hM : Nat.land 524288 M = 524288) :
    Keep M r (State.tfeLoaded s) := by
  unfold State.tfeLoaded
  repeat' first
    | with_reducible assumption
    | (intro)
    | with_reducible first | refine State.restartTfe_keep ?_ ?_ _ | refine Keep.foldl ?_ ?_ _

theorem State.tfeRunEffect_keep {M r s} (h : Keep M r s) (hM : Nat.land 524377 M = 524377) (a1 a2) :
    Keep M r (State.tfeRunEffect s a1 a2).2 := by
  unfold State.tfeRunEffect
  repeat' first
    | with_reducible assumption
    | exact Zone.sub rfl hM
    | with_reducible first | refine State.ask_keep ?_ ?_ _ _ _ | refine State.restartTfe_keep ?_ ?_ _
    | with_reducible first | refine State.put_keep ?_ ?_ _ _ _ | refine State.release_keep ?_ ?_ _ _
    | with_reducible refine Keep.ite_snd ?_ ?_

theorem execCaseAbove95_keep (s : State) :
    ∃ t, execCaseAbove95 s = .next t ∧ Keep 524361 s t := by
  refine ⟨_, rfl, ?_⟩
  have h := Keep.refl 524361 s
  have hM : Nat.land 524361 524361 = 524361 := rfl
  repeat' first
    | with_reducible assumption
    | exact Zone.sub rfl hM
    | with_reducible first | refine State.log_keep ?_ ?_ _ _ | refine State.put_keep ?_ ?_ _ _ _
    | with_reducible first | refine State.setSvc_keep ?_ ?_ _ | refine Keep.ite ?_ ?_
    | split

theorem execComparatorFire_keep (s : State) (a1 a2) :
    ∃ t, execComparatorFire a1 a2 s = .next t ∧ Keep 524361 s t := by
  refine ⟨_, rfl, ?_⟩
  have h := Keep.refl 524361 s
  have hM : Nat.land 524361 524361 = 524361 := rfl
  repeat' first
    | with_reducible assumption
    | exact Zone.sub rfl hM
    | with_reducible first | refine State.bump_keep ?_ ?_ _ _ | refine State.put_keep ?_ ?_ _ _ _
    | with_reducible first | refine State.log_keep ?_ ?_ _ _ | refine State.injTrigger_keep ?_ ?_ _ _
    | with_reducible refine Keep.ite ?_ ?_

theorem execComparatorRearm_keep (s : State) (a1 a2) :
    ∃ t, execComparatorRearm a1 a2 s = .next t ∧ Keep 1 s t := by
  refine ⟨_, rfl, ?_⟩
  have h := Keep.refl 1 s
  have hM : Nat.land 1 1 = 1 := rfl
  repeat' first
    | with_reducible first | assumption | refine State.put_keep ?_ ?_ _ _ _ | refine Keep.ite ?_ ?_

theorem execComparatorWrite_keep (s : State) (a1 a2 a3) :
    ∃ t, execComparatorWrite a1 a2 a3 s = .next t ∧ Keep 89 s t := by
  refine ⟨_, rfl, ?_⟩
  have h := Keep.refl 89 s
  have hM : Nat.land 89 89 = 89 := rfl
  repeat' first
    | with_reducible assumption
    | exact Zone.sub rfl hM
    | with_reducible refine State.comparatorEffect_keep ?_ ?_ _ _
    | with_reducible refine State.hostWrite_keep ?_ ?_ _ _ _ _ _ (fun v t h => ?_)

theorem execInjectLengthWrite_keep (s : State) (a1 a2) :
    ∃ t, execInjectLengthWrite a1 a2 s = .next t ∧ Keep 524377 s t := by
  refine ⟨_, rfl, ?_⟩
  have h := Keep.refl 524377 s
  have hM : Nat.land 524377 524377 = 524377 := rfl
  repeat' first
    | with_reducible assumption
    | exact Zone.sub rfl hM
    | with_reducible refine State.injectLengthEffect_keep ?_ ?_ _
    | with_reducible refine State.hostWrite_keep ?_ ?_ _ _ _ _ _ (fun v t h => ?_)

theorem execInjectNow_keep (s : State) (a1 a2) :
    ∃ t, execInjectNow a1 a2 s = .next t ∧ Keep 524377 s t := by
  refine ⟨_, rfl, ?_⟩
  have h := Keep.refl 524377 s
  have hM : Nat.land 524377 524377 = 524377 := rfl
  repeat' first
    | with_reducible assumption
    | exact Zone.sub rfl hM
    | with_reducible refine State.injectNowEffect_keep ?_ ?_ _
    | with_reducible refine State.hostWrite_keep ?_ ?_ _ _ _ _ _ (fun v t h => ?_)

theorem execSvc2Conversion_keep (s : State) (a1 a2) :
    ∃ t, execSvc2Conversion a1 a2 s = .next t ∧ Keep 525149 s t := by
  refine ⟨_, rfl, ?_⟩
  have h := Keep.refl 525149 s
  have hM : Nat.land 525149 525149 = 525149 := rfl
  repeat' first
    | with_reducible assumption
    | exact Zone.sub rfl hM
    | with_reducible first | refine State.setSvc_keep ?_ ?_ _ | refine State.occur_keep ?_ ?_ _ _
    | with_reducible first | refine State.logSecond_keep ?_ ?_ _ _ _ _ | refine State.consume_keep ?_ ?_ _ _ _ _
    | with_reducible first | refine State.injectedNext_keep ?_ ?_ _ | refine State.regularNext_keep ?_ ?_ _
    | with_reducible refine Keep.ite ?_ ?_
    | (extract_lets +onlyGivenNames y; clear_value y)
    | split

theorem execSvcAccumClear_keep (s : State) (a1 a2) :
    ∃ t, execSvcAccumClear a1 a2 s = .next t ∧ Keep 524377 s t := by
  refine ⟨_, rfl, ?_⟩
  have h := Keep.refl 524377 s
  have hM : Nat.land 524377 524377 = 524377 := rfl
  repeat' first
    | with_reducible assumption
    | exact Zone.sub rfl hM
    | with_reducible refine State.setSvc_keep ?_ ?_ _
    | with_reducible refine State.hostWrite_keep ?_ ?_ _ _ _ _ _ (fun v t h => ?_)

theorem execTfeCoeffWrite_keep (s : State) (a1 a2 a3) :
    ∃ t, execTfeCoeffWrite a1 a2 a3 s = .next t ∧ Keep 89 s t := by
  refine ⟨_, rfl, ?_⟩
  have h := Keep.refl 89 s
  have hM : Nat.land 89 89 = 89 := rfl
  repeat' first
    | with_reducible assumption
    | exact Zone.sub rfl hM
    | with_reducible refine State.tfeFilterEffect_keep ?_ ?_ _ _
    | with_reducible refine State.tfeCoeffEffect_keep ?_ ?_ _ _
    | with_reducible refine State.hostWrite_keep ?_ ?_ _ _ _ _ _ (fun v t h => ?_)
    | split

theorem execTfeOutput_keep (s : State) (a1 a2) :
    ∃ t, execTfeOutput a1 a2 s = .next t ∧ Keep 524361 s t := by
  refine ⟨_, rfl, ?_⟩
  have h := Keep.refl 524361 s
  have hM : Nat.land 524361 524361 = 524361 := rfl
  repeat' first
    | with_reducible assumption
    | exact Zone.sub rfl hM
    | with_reducible first | refine State.frontSample_keep ?_ ?_ _ _ | refine State.tfeDeliver_keep ?_ ?_ _ _
    | with_reducible refine Keep.ite ?_ ?_
    | split

theorem execTfeRunWrite_keep (s : State) (a1 a2 a3) :
    ∃ t, execTfeRunWrite a1 a2 a3 s = .next t ∧ Keep 524377 s t := by
  refine ⟨_, rfl, ?_⟩
  have h := Keep.refl 524377 s
  have hM : Nat.land 524377 524377 = 524377 := rfl
  repeat' first
    | with_reducible assumption
    | exact Zone.sub rfl hM
    | with_reducible refine State.tfeRunEffect_keep ?_ ?_ _ _
    | with_reducible refine State.hostWrite_keep ?_ ?_ _ _ _ _ _ (fun v t h => ?_)

theorem State.beginSleep_keep {M r s} (h : Keep M r s) (hM : Nat.land 16 M = 16) (a1 a2) :
    Keep M r (State.beginSleep s a1 a2) := by
  unfold State.beginSleep
  repeat' first
    | with_reducible assumption
    | exact Zone.sub rfl hM
    | with_reducible first | refine State.fresh_keep ?_ ?_ _ | refine State.setDom_keep ?_ ?_ _ _

theorem State.ceilingWriteEffect_keep {M r s} (h : Keep M r s) (hM : Nat.land 16 M = 16) (a1) :
    Keep M r (State.ceilingWriteEffect s a1).2 := by
  unfold State.ceilingWriteEffect
  repeat' first
    | with_reducible assumption
    | (simp -zeta only [↓Keep.mk_iff]; with_reducible refine KeepF.upd_pow ?_ ?_ rfl)

theorem State.shedIter_keep {M r s} (h : Keep M r s) (hM : Nat.land 6217 M = 6217) (a1 a2) :
    Keep M r (State.shedIter s a1 a2).2 := by
  unfold State.shedIter
  repeat' first
    | with_reducible first | assumption | refine State.lowerGrant_keep ?_ ?_ _ _ | refine Keep.ite_snd ?_ ?_

theorem State.shedTrims_keep {M r s} (h : Keep M r s) (hM : Nat.land 349 M = 349) :
    Keep M r (State.shedTrims s).2 := by
  unfold State.shedTrims
  repeat' first
    | with_reducible assumption
    | exact Zone.sub rfl hM
    | (intro)
    | with_reducible first | refine State.abandonWindow_keep ?_ ?_ _ _ | refine State.setCv_keep ?_ ?_ _ _ _
    | with_reducible refine Keep.foldl ?_ ?_ _

theorem State.shedAcq_keep {M r s} (h : Keep M r s) (hM : Nat.land 1113 M = 1113) :
    Keep M r (State.shedAcq s).2 := by
  unfold State.shedAcq
  repeat' first
    | with_reducible assumption
    | exact Zone.sub rfl hM
    | (intro)
    | with_reducible first | refine State.acqRefused_keep ?_ ?_ _ _ _ | refine State.release_keep ?_ ?_ _ _
    | with_reducible first | refine Keep.ite ?_ ?_ | refine Keep.foldl ?_ ?_ _

theorem State.shedIdle_keep {M r s} (h : Keep M r s) (hM : Nat.land 16 M = 16) (a1) :
    Keep M r (State.shedIdle s a1).2 := by
  unfold State.shedIdle
  repeat' first
    | with_reducible assumption
    | (intro)
    | with_reducible first | refine State.beginSleep_keep ?_ ?_ _ _ | refine Keep.ite_snd ?_ ?_
    | with_reducible refine Keep.foldl_snd ?_ ?_ _

theorem State.shedQuad_keep {M r s} (h : Keep M r s) (hM : Nat.land 16 M = 16) (a1) :
    Keep M r (State.shedQuad s a1).2 := by
  unfold State.shedQuad
  repeat' first
    | with_reducible first | assumption | refine State.beginSleep_keep ?_ ?_ _ _ | refine Keep.ite_snd ?_ ?_

theorem State.shedGroupNow_keep {M r s} (h : Keep M r s) (hM : Nat.land 7517 M = 7517) (a1 a2 a3) :
    Keep M r (State.shedGroupNow s a1 a2 a3).2 := by
  unfold State.shedGroupNow
  repeat' first
    | with_reducible assumption
    | exact Zone.sub rfl hM
    | with_reducible first | refine State.shedIter_keep ?_ ?_ _ _ | refine State.shedTrims_keep ?_ ?_
    | with_reducible first | refine State.shedAcq_keep ?_ ?_ | refine State.shedIdle_keep ?_ ?_ _
    | with_reducible first | refine State.shedQuad_keep ?_ ?_ _ | refine Keep.ite_snd ?_ ?_

theorem State.shedFrom_keep {M r s} (h : Keep M r s) (hM : Nat.land 7517 M = 7517) (need notice n pos x) :
    Keep M r (s.shedFrom need notice n pos x).2.2 := by
  induction n generalizing s pos x with
  | zero => exact h
  | succ n ih =>
    unfold State.shedFrom
    split
    · exact h
    · extract_lets +onlyGivenNames g y
      have hy : Keep M r y.2 := State.shedGroupNow_keep h (Zone.sub rfl hM) _ _ _
      clear_value y
      split
      · exact ih hy _ _
      · refine ih ?_ _ _
        extract_lets p
        subst p
        have hw : Keep M r (y.2.bump Obj.shedCount g) := State.bump_keep hy (Zone.sub rfl hM) _ _
        generalize y.2.bump Obj.shedCount g = v at *
        simp -zeta only [↓Keep.mk_iff]
        exact KeepF.of hw hM rfl rfl rfl rfl rfl rfl

theorem State.shedNow_keep {M r s} (h : Keep M r s) (hM : Nat.land 7517 M = 7517) (a1 a2) :
    Keep M r (State.shedNow s a1 a2) := by
  unfold State.shedNow
  repeat' first
    | with_reducible assumption
    | exact Zone.sub rfl hM
    | (extract_lets +onlyGivenNames y; have hy : Keep M r y := (by subst y; with_reducible assumption)
       clear hy; subst y)
    | (extract_lets +onlyGivenNames y; have hy : Keep M r y := ?_
       rotate_left; subst y; rotate_left; clear_value y)
    | (extract_lets +onlyGivenNames y; have hy : Keep M r y.2.2 := ?_
       rotate_left; subst y; rotate_left; clear_value y)
    | (extract_lets +onlyGivenNames y; have : Power := y; clear this; subst y)
    | with_reducible first | refine State.shedFrom_keep ?_ ?_ _ _ _ _ _ | refine State.log_keep ?_ ?_ _ _
    | (simp -zeta only [↓Keep.mk_iff]; with_reducible refine KeepF.upd_pow ?_ ?_ rfl)

theorem State.plannedShed_keep {M r s} (h : Keep M r s) (hM : Nat.land 7517 M = 7517) :
    Keep M r (State.plannedShed s) := by
  unfold State.plannedShed
  repeat' first
    | with_reducible first | assumption | refine State.shedNow_keep ?_ ?_ _ _ | refine Keep.ite ?_ ?_

theorem State.powerMeasured_keep {M r s} (h : Keep M r s) (hM : Nat.land 89 M = 89) :
    Keep M r (State.powerMeasured s) := by
  unfold State.powerMeasured
  repeat' first
    | with_reducible assumption
    | exact Zone.sub rfl hM
    | with_reducible first | refine State.log_keep ?_ ?_ _ _ | refine State.put_keep ?_ ?_ _ _ _
    | with_reducible refine Keep.ite ?_ ?_
    | (simp -zeta only [↓Keep.mk_iff]; with_reducible refine KeepF.upd_pow ?_ ?_ rfl)
    | (extract_lets +onlyGivenNames y; have hy : Keep M r y := ?_
       rotate_left; subst y; rotate_left; clear_value y)
    | (extract_lets +onlyGivenNames y; have : Power := y; clear this; subst y)
    | (extract_lets +onlyGivenNames y; clear_value y)
    | split

theorem State.powerBoundary_keep {M r s} (h : Keep M r s) (hM : Nat.land 7517 M = 7517) :
    Keep M r (State.powerBoundary s) := by
  unfold State.powerBoundary
  repeat' first
    | with_reducible assumption
    | exact Zone.sub rfl hM
    | with_reducible first | refine State.put_keep ?_ ?_ _ _ _ | refine State.log_keep ?_ ?_ _ _
    | with_reducible first | refine State.plannedShed_keep ?_ ?_ | refine State.powerMeasured_keep ?_ ?_
    | (simp -zeta only [↓Keep.mk_iff]; with_reducible refine KeepF.upd_pow ?_ ?_ rfl)
    | (extract_lets +onlyGivenNames y; have hy : Keep M r y := ?_
       rotate_left; subst y; rotate_left; clear_value y)
    | (extract_lets +onlyGivenNames y; have : Power := y; clear this; subst y)
    | (extract_lets +onlyGivenNames y; clear_value y)
    | split

theorem State.refuseStalls_keep {M r s} (h : Keep M r s) (hM : Nat.land 72 M = 72) (a1) :
    Keep M r (State.refuseStalls s a1) := by
  unfold State.refuseStalls
  repeat' first
    | with_reducible assumption
    | exact Zone.sub rfl hM
    | (intro)
    | with_reducible first | refine State.refuse_keep ?_ ?_ _ _ _ _ _ | refine Keep.foldl ?_ ?_ _
    | (simp -zeta only [↓Keep.mk_iff]; with_reducible refine KeepF.upd_aop ?_ ?_)

theorem State.sleepBoundary_keep {M r s} (h : Keep M r s) (hM : Nat.land 16 M = 16) :
    Keep M r (State.sleepBoundary s) := by
  unfold State.sleepBoundary
  repeat' first
    | with_reducible assumption
    | (intro)
    | with_reducible first | refine State.setDom_keep ?_ ?_ _ _ | refine State.abortCount_keep ?_ ?_ _ _
    | with_reducible first | refine Keep.ite ?_ ?_ | refine Keep.foldl ?_ ?_ _

theorem State.slept_keep {M r s} (h : Keep M r s) (hM : Nat.land 1501 M = 1501) (a1) :
    Keep M r (State.slept s a1) := by
  unfold State.slept
  repeat' first
    | with_reducible assumption
    | exact Zone.sub rfl hM
    | (intro)
    | with_reducible first | refine State.setRx_keep ?_ ?_ _ _ | refine State.setLock_keep ?_ ?_ _ _
    | with_reducible first | refine State.release_keep ?_ ?_ _ _ | refine State.loseFrameLock_keep ?_ ?_ _ _
    | with_reducible first | refine State.setValidity_keep ?_ ?_ _ _ | refine State.bankSlept_keep ?_ ?_ _
    | with_reducible first | refine State.quadSlept_keep ?_ ?_ _ | refine Keep.ite ?_ ?_ | refine Keep.foldl ?_ ?_ _

theorem State.supplyOff_keep {M r s} (h : Keep M r s) (hM : Nat.land 8390141 M = 8390141) (a1) :
    Keep M r (State.supplyOff s a1) := by
  unfold State.supplyOff
  repeat' first
    | with_reducible assumption
    | exact Zone.sub rfl hM
    | (intro)
    | with_reducible first | refine State.fresh_keep ?_ ?_ _ | refine State.setRet_keep ?_ ?_ _ _
    | with_reducible first | refine State.release_keep ?_ ?_ _ _ | refine State.clearDomainSram_keep ?_ ?_ _
    | with_reducible first | refine State.slept_keep ?_ ?_ _ | refine State.setDom_keep ?_ ?_ _ _
    | with_reducible refine Keep.foldl ?_ ?_ _

theorem State.trySleep_keep {M r s} (h : Keep M r s) (hM : Nat.land 16 M = 16) (a1) :
    Keep M r (State.trySleep s a1) := by
  unfold State.trySleep
  repeat' first
    | with_reducible first | assumption | refine State.beginSleep_keep ?_ ?_ _ _ | refine State.touch_keep ?_ ?_ _
    | with_reducible first | refine State.setDom_keep ?_ ?_ _ _ | refine Keep.ite ?_ ?_

theorem execCeilingWrite_keep (s : State) (a1 a2) :
    ∃ t, execCeilingWrite a1 a2 s = .next t ∧ Keep 89 s t := by
  refine ⟨_, rfl, ?_⟩
  have h := Keep.refl 89 s
  have hM : Nat.land 89 89 = 89 := rfl
  repeat' first
    | with_reducible assumption
    | exact Zone.sub rfl hM
    | with_reducible refine State.ceilingWriteEffect_keep ?_ ?_ _
    | with_reducible refine State.hostWrite_keep ?_ ?_ _ _ _ _ _ (fun v t h => ?_)

theorem execDomainAccess_keep (s : State) (a1) :
    ∃ t, execDomainAccess a1 s = .next t ∧ Keep 89 s t := by
  refine ⟨_, rfl, ?_⟩
  have h := Keep.refl 89 s
  have hM : Nat.land 89 89 = 89 := rfl
  repeat' first
    | with_reducible first | assumption | refine State.accessDom_keep ?_ ?_ _ _ | refine Keep.ite ?_ ?_

theorem execDomainHoldWrite_keep (s : State) (a1 a2 a3) :
    ∃ t, execDomainHoldWrite a1 a2 a3 s = .next t ∧ Keep 89 s t := by
  refine ⟨_, rfl, ?_⟩
  have h := Keep.refl 89 s
  have hM : Nat.land 89 89 = 89 := rfl
  repeat' first
    | with_reducible assumption
    | exact Zone.sub rfl hM
    | with_reducible refine storeEffect_keep ?_ ?_ _ _ _
    | with_reducible refine State.hostWrite_keep ?_ ?_ _ _ _ _ _ (fun v t h => ?_)

theorem execIdleTimerExpire_keep (s : State) (a1) :
    ∃ t, execIdleTimerExpire a1 s = .next t ∧ Keep 16 s t := by
  refine ⟨_, rfl, ?_⟩
  have h := Keep.refl 16 s
  have hM : Nat.land 16 16 = 16 := rfl
  repeat' first
    | with_reducible first | assumption | refine State.trySleep_keep ?_ ?_ _ | refine Keep.ite ?_ ?_

theorem execLedgerRequest_keep (s : State) (a1 a2 a3) :
    ∃ t, execLedgerRequest a1 a2 a3 s = .next t ∧ Keep 89 s t := by
  refine ⟨_, rfl, ?_⟩
  have h := Keep.refl 89 s
  have hM : Nat.land 89 89 = 89 := rfl
  repeat' first
    | with_reducible assumption
    | exact Zone.sub rfl hM
    | with_reducible first | refine State.askPrivileged_keep ?_ ?_ _ _ _ | refine State.ask_keep ?_ ?_ _ _ _
    | with_reducible refine Keep.ite ?_ ?_

theorem execShed_keep (s : State) :
    ∃ t, execShed s = .next t ∧ Keep 7517 s t := by
  refine ⟨_, rfl, ?_⟩
  have h := Keep.refl 7517 s
  have hM : Nat.land 7517 7517 = 7517 := rfl
  repeat' first
    | with_reducible first | assumption | refine State.shedNow_keep ?_ ?_ _ _ | refine Keep.ite ?_ ?_

theorem execShedPositionReset_keep (s : State) :
    ∃ t, execShedPositionReset s = .next t ∧ Keep 89 s t := by
  refine ⟨_, rfl, ?_⟩
  have h := Keep.refl 89 s
  have hM : Nat.land 89 89 = 89 := rfl
  repeat' first
    | with_reducible assumption
    | exact Zone.sub rfl hM
    | with_reducible first | refine State.put_keep ?_ ?_ _ _ _ | refine State.log_keep ?_ ?_ _ _
    | with_reducible refine Keep.ite ?_ ?_
    | (simp -zeta only [↓Keep.mk_iff]; with_reducible refine KeepF.upd_pow ?_ ?_ rfl)

theorem execShedUnresolved_keep (s : State) :
    ∃ t, execShedUnresolved s = .next t ∧ Keep 89 s t := by
  refine ⟨_, rfl, ?_⟩
  have h := Keep.refl 89 s
  have hM : Nat.land 89 89 = 89 := rfl
  repeat' first
    | with_reducible assumption
    | exact Zone.sub rfl hM
    | with_reducible first | refine State.log_keep ?_ ?_ _ _ | refine State.put_keep ?_ ?_ _ _ _
    | with_reducible refine Keep.ite ?_ ?_
    | (simp -zeta only [↓Keep.mk_iff]; with_reducible refine KeepF.upd_pow ?_ ?_ rfl)

theorem execSleepEntryDone_keep (s : State) (a1) :
    ∃ t, execSleepEntryDone a1 s = .next t ∧ Keep 8390141 s t := by
  refine ⟨_, rfl, ?_⟩
  have h := Keep.refl 8390141 s
  have hM : Nat.land 8390141 8390141 = 8390141 := rfl
  repeat' first
    | with_reducible assumption
    | exact Zone.sub rfl hM
    | with_reducible first | refine State.supplyOff_keep ?_ ?_ _ | refine State.accessDom_keep ?_ ?_ _ _
    | with_reducible first | refine State.setDom_keep ?_ ?_ _ _ | refine State.refuseStalls_keep ?_ ?_ _
    | with_reducible refine Keep.ite ?_ ?_

theorem State.setImg_keep {M r s} (h : Keep M r s) (hM : Nat.land 1048576 M = 1048576) (a1) :
    Keep M r (State.setImg s a1) := by
  unfold State.setImg
  repeat' first
    | with_reducible assumption
    | (simp -zeta only [↓Keep.mk_iff]; with_reducible refine KeepF.upd_img ?_ ?_)

theorem State.activateSub_keep {M r s} (h : Keep M r s) (hM : Nat.land 1675593 M = 1675593) (a1 a2 a3) :
    Keep M r (State.activateSub s a1 a2 a3) := by
  unfold State.activateSub
  repeat' first
    | with_reducible assumption
    | exact Zone.sub rfl hM
    | with_reducible first | refine State.setImg_keep ?_ ?_ _ | refine State.setGr_keep ?_ ?_ _
    | with_reducible first | refine State.belActivate_keep ?_ ?_ | refine State.poolActivate_keep ?_ ?_ _
    | with_reducible first | refine State.tfeActivate_keep ?_ ?_ _ | refine Keep.ite ?_ ?_
    | (simp -zeta only [↓Keep.mk_iff]; with_reducible refine KeepF.upd_conv ?_ ?_)
    | split

theorem State.clearSlotBlocks_keep {M r s} (h : Keep M r s) (hM : Nat.land 32 M = 32) (a1) :
    Keep M r (State.clearSlotBlocks s a1) := by
  unfold State.clearSlotBlocks
  repeat' first
    | with_reducible assumption
    | (intro)
    | with_reducible first | refine State.beginErase_keep ?_ ?_ _ | refine Keep.ite ?_ ?_
    | with_reducible refine Keep.foldl ?_ ?_ _

theorem State.endProbation_keep {M r s} (h : Keep M r s) (hM : Nat.land 1048576 M = 1048576) (a1) :
    Keep M r (State.endProbation s a1) := by
  unfold State.endProbation
  repeat' first
    | with_reducible first | assumption | refine State.setImg_keep ?_ ?_ _

theorem State.extend_keep {M r s} (h : Keep M r s) (hM : Nat.land 32768 M = 32768) (a1 a2) :
    Keep M r (State.extend s a1 a2) := by
  unfold State.extend
  repeat' first
    | with_reducible first | assumption | refine State.setGr_keep ?_ ?_ _

theorem State.secondActivation_keep {M r s t} (h : Keep M r s) (hM : Nat.land 4 M = 4) {num e} (heq : s.secondActivation num e = some t) :
    Keep M r t := by
  unfold State.secondActivation at heq
  split at heq
  · cases heq
  · extract_lets e' at heq
    split at heq
    · cases heq
    · generalize firstFrom _ _ _ = y at heq
      split at heq
      · cases heq
      · cases heq
        exact State.addEntry_keep h (Zone.sub rfl hM) _

theorem State.imageActivateEffect_keep {M r s} (h : Keep M r s) (hM : Nat.land 93 M = 93) (a1 a2 a3 a4) :
    Keep M r (State.imageActivateEffect s a1 a2 a3 a4).2 := by
  unfold State.imageActivateEffect
  repeat' first
    | with_reducible assumption
    | exact Zone.sub rfl hM
    | with_reducible first | refine State.accessDom_keep ?_ ?_ _ _ | refine State.hostSchedule_keep ?_ ?_ _ _ _
    | with_reducible first | refine State.secondActivation_keep ?_ ?_ (by assumption) | refine Keep.ite_snd ?_ ?_
    | (extract_lets +onlyGivenNames y; have hy : Keep M r y := ?_
       rotate_left; subst y; rotate_left; clear_value y)
    | (extract_lets +onlyGivenNames y; clear_value y)
    | split

theorem State.imageCommitEffect_keep {M r s} (h : Keep M r s) (hM : Nat.land 121 M = 121) (a1 a2) :
    Keep M r (State.imageCommitEffect s a1 a2).2 := by
  unfold State.imageCommitEffect
  repeat' first
    | with_reducible assumption
    | exact Zone.sub rfl hM
    | with_reducible first | refine State.writeRecord_keep ?_ ?_ _ _ _ _ _ | refine State.accessDom_keep ?_ ?_ _ _
    | with_reducible refine Keep.ite_snd ?_ ?_

theorem State.setImgSlot_keep {M r s} (h : Keep M r s) (hM : Nat.land 1048576 M = 1048576) (a1 a2) :
    Keep M r (State.setImgSlot s a1 a2) := by
  unfold State.setImgSlot
  repeat' first
    | with_reducible first | assumption | refine State.setImg_keep ?_ ?_ _

theorem State.imageCommitted_keep {M r s} (h : Keep M r s) (hM : Nat.land 1048649 M = 1048649) (a1 a2 a3) :
    Keep M r (State.imageCommitted s a1 a2 a3) := by
  unfold State.imageCommitted
  repeat' first
    | with_reducible assumption
    | exact Zone.sub rfl hM
    | with_reducible first | refine State.setImgSlot_keep ?_ ?_ _ _ | refine State.log_keep ?_ ?_ _ _
    | with_reducible first | refine State.put_keep ?_ ?_ _ _ _ | refine State.accept_keep ?_ ?_ _ _ _ _ _ _ _ _
    | (extract_lets +onlyGivenNames y; have hy : Keep M r y := ?_
       rotate_left; subst y; rotate_left; clear_value y)
    | split

theorem State.measure_keep {M r s} (h : Keep M r s) (hM : Nat.land 32768 M = 32768) (a1 a2) :
    Keep M r (State.measure s a1 a2) := by
  unfold State.measure
  repeat' first
    | with_reducible first | assumption | refine State.extend_keep ?_ ?_ _ _

theorem State.imageRun_keep {M r s} (h : Keep M r s) (hM : Nat.land 1675593 M = 1675593) (a1) :
    Keep M r (State.imageRun s a1) := by
  unfold State.imageRun
  repeat' first
    | with_reducible assumption
    | exact Zone.sub rfl hM
    | with_reducible first | refine State.setImg_keep ?_ ?_ _ | refine State.measure_keep ?_ ?_ _ _
    | with_reducible first | refine State.put_keep ?_ ?_ _ _ _ | refine State.activateSub_keep ?_ ?_ _ _ _
    | with_reducible refine State.log_keep ?_ ?_ _ _

theorem State.imageWriteEffect_keep {M r s} (h : Keep M r s) (hM : Nat.land 1048609 M = 1048609) (a1) :
    Keep M r (State.imageWriteEffect s a1).2 := by
  unfold State.imageWriteEffect
  repeat' first
    | with_reducible assumption
    | exact Zone.sub rfl hM
    | with_reducible first | refine State.clearSlotBlocks_keep ?_ ?_ _ | refine State.setImgSlot_keep ?_ ?_ _ _
    | with_reducible first | refine State.put_keep ?_ ?_ _ _ _ | refine Keep.ite ?_ ?_ | refine Keep.ite_snd ?_ ?_

theorem State.ownerKeyEffect_keep {M r s} (h : Keep M r s) (hM : Nat.land 32889 M = 32889) (a1) :
    Keep M r (State.ownerKeyEffect s a1).2 := by
  unfold State.ownerKeyEffect
  repeat' first
    | with_reducible assumption
    | exact Zone.sub rfl hM
    | with_reducible first | refine State.emptySlot_keep ?_ ?_ _ | refine State.writeSlot_keep ?_ ?_ _ _ _
    | with_reducible first | refine State.setGr_keep ?_ ?_ _ | refine State.saveSlot_keep ?_ ?_ _
    | with_reducible first | refine State.putO_keep ?_ ?_ _ _ _ | refine State.log_keep ?_ ?_ _ _
    | with_reducible first | refine Keep.ite ?_ ?_ | refine Keep.ite_snd ?_ ?_

theorem State.rollbackEffect_keep {M r s} (h : Keep M r s) (hM : Nat.land 32841 M = 32841) (a1 a2) :
    Keep M r (State.rollbackEffect s a1 a2).2 := by
  unfold State.rollbackEffect
  repeat' first
    | with_reducible assumption
    | exact Zone.sub rfl hM
    | with_reducible first | refine State.setGr_keep ?_ ?_ _ | refine State.log_keep ?_ ?_ _ _
    | with_reducible first | refine State.put_keep ?_ ?_ _ _ _ | refine Keep.ite_snd ?_ ?_

theorem execImageActivate_keep (s : State) (a1 a2 a3 a4) :
    ∃ t, execImageActivate a1 a2 a3 a4 s = .next t ∧ Keep 93 s t := by
  refine ⟨_, rfl, ?_⟩
  have h := Keep.refl 93 s
  have hM : Nat.land 93 93 = 93 := rfl
  repeat' first
    | with_reducible assumption
    | exact Zone.sub rfl hM
    | with_reducible refine State.imageActivateEffect_keep ?_ ?_ _ _ _ _
    | with_reducible refine State.hostWrite_keep ?_ ?_ _ _ _ _ _ (fun v t h => ?_)

theorem execImageCommit_keep (s : State) (a1 a2) :
    ∃ t, execImageCommit a1 a2 s = .next t ∧ Keep 121 s t := by
  refine ⟨_, rfl, ?_⟩
  have h := Keep.refl 121 s
  have hM : Nat.land 121 121 = 121 := rfl
  repeat' first
    | with_reducible assumption
    | exact Zone.sub rfl hM
    | with_reducible refine State.imageCommitEffect_keep ?_ ?_ _ _
    | with_reducible refine State.hostWrite_keep ?_ ?_ _ _ _ _ _ (fun v t h => ?_)

theorem execImageWrite_keep (s : State) (a1 a2) :
    ∃ t, execImageWrite a1 a2 s = .next t ∧ Keep 1048697 s t := by
  refine ⟨_, rfl, ?_⟩
  have h := Keep.refl 1048697 s
  have hM : Nat.land 1048697 1048697 = 1048697 := rfl
  repeat' first
    | with_reducible assumption
    | exact Zone.sub rfl hM
    | with_reducible refine State.imageWriteEffect_keep ?_ ?_ _
    | with_reducible refine State.hostWrite_keep ?_ ?_ _ _ _ _ _ (fun v t h => ?_)

theorem execNewImageLoaded_keep (s : State) (a1) :
    ∃ t, execNewImageLoaded a1 s = .next t ∧ Keep 1605721 s t := by
  refine ⟨_, rfl, ?_⟩
  have h := Keep.refl 1605721 s
  have hM : Nat.land 1605721 1605721 = 1605721 := rfl
  repeat' first
    | with_reducible assumption
    | exact Zone.sub rfl hM
    | with_reducible first | refine State.setImg_keep ?_ ?_ _ | refine State.startUnits_keep ?_ ?_
    | with_reducible first | refine State.setGr_keep ?_ ?_ _ | refine State.tfeLoaded_keep ?_ ?_
    | with_reducible refine Keep.ite ?_ ?_

theorem execOwnerKeyEnrol_keep (s : State) (a1 a2) :
    ∃ t, execOwnerKeyEnrol a1 a2 s = .next t ∧ Keep 32889 s t := by
  refine ⟨_, rfl, ?_⟩
  have h := Keep.refl 32889 s
  have hM : Nat.land 32889 32889 = 32889 := rfl
  repeat' first
    | with_reducible assumption
    | exact Zone.sub rfl hM
    | with_reducible refine State.ownerKeyEffect_keep ?_ ?_ _
    | with_reducible refine State.hostWrite_keep ?_ ?_ _ _ _ _ _ (fun v t h => ?_)

theorem execProbationFail_keep (s : State) (a1 a2) :
    ∃ t, execProbationFail a1 a2 s = .next t ∧ Keep 1048653 s t := by
  refine ⟨_, rfl, ?_⟩
  have h := Keep.refl 1048653 s
  have hM : Nat.land 1048653 1048653 = 1048653 := rfl
  repeat' first
    | with_reducible assumption
    | exact Zone.sub rfl hM
    | with_reducible first | refine State.log_keep ?_ ?_ _ _ | refine State.endProbation_keep ?_ ?_ _
    | with_reducible first | refine State.arm_keep ?_ ?_ _ | refine Keep.ite ?_ ?_
    | split

theorem execProbationPass_keep (s : State) (a1 a2) :
    ∃ t, execProbationPass a1 a2 s = .next t ∧ Keep 1048576 s t := by
  refine ⟨_, rfl, ?_⟩
  have h := Keep.refl 1048576 s
  have hM : Nat.land 1048576 1048576 = 1048576 := rfl
  repeat' first
    | with_reducible first | assumption | refine State.setImg_keep ?_ ?_ _ | refine State.endProbation_keep ?_ ?_ _
    | with_reducible refine Keep.ite ?_ ?_
    | split

theorem execRollbackFloor_keep (s : State) (a1 a2 a3) :
    ∃ t, execRollbackFloor a1 a2 a3 s = .next t ∧ Keep 32857 s t := by
  refine ⟨_, rfl, ?_⟩
  have h := Keep.refl 32857 s
  have hM : Nat.land 32857 32857 = 32857 := rfl
  repeat' first
    | with_reducible assumption
    | exact Zone.sub rfl hM
    | with_reducible refine State.rollbackEffect_keep ?_ ?_ _ _
    | with_reducible refine State.hostWrite_keep ?_ ?_ _ _ _ _ _ (fun v t h => ?_)

theorem State.setAop_keep {M r s} (h : Keep M r s) (hM : Nat.land 64 M = 64) (a1) :
    Keep M r (State.setAop s a1) := by
  unfold State.setAop
  repeat' first
    | with_reducible assumption
    | (simp -zeta only [↓Keep.mk_iff]; with_reducible refine KeepF.upd_aop ?_ ?_)

theorem State.backward_keep {M r s} (h : Keep M r s) (hM : Nat.land 64 M = 64) (a1 a2 a3 a4 a5) :
    Keep M r (State.backward s a1 a2 a3 a4 a5) := by
  unfold State.backward
  repeat' first
    | with_reducible assumption
    | exact Zone.sub rfl hM
    | with_reducible first | refine State.setAop_keep ?_ ?_ _ | refine State.sendTo_keep ?_ ?_ _ _
    | with_reducible refine Keep.ite ?_ ?_
    | split

theorem State.cancelEffect_keep {M r s} (h : Keep M r s) (hM : Nat.land 18909 M = 18909) (a1 a2) :
    Keep M r (State.cancelEffect s a1 a2).2 := by
  unfold State.cancelEffect
  repeat' first
    | with_reducible assumption
    | exact Zone.sub rfl hM
    | (intro)
    | with_reducible first | refine State.sendCancel_keep ?_ ?_ _ | refine State.entryGone_keep ?_ ?_ _
    | with_reducible first | refine State.cancelEntry_keep ?_ ?_ _ | refine State.loadingFailed_keep ?_ ?_ _ _
    | with_reducible first | refine State.refuse_keep ?_ ?_ _ _ _ _ _ | refine Keep.ite ?_ ?_
    | with_reducible first | refine Keep.ite_snd ?_ ?_ | refine Keep.foldl ?_ ?_ _
    | dsimp -zeta only
    | (extract_lets +onlyGivenNames y; have hy : Keep M r y := ?_
       rotate_left; subst y; rotate_left; clear_value y)
    | (extract_lets +onlyGivenNames y; clear_value y)
    | split

theorem State.endSession_keep {M r s} (h : Keep M r s) (hM : Nat.land 64 M = 64) (a1) :
    Keep M r (State.endSession s a1) := by
  unfold State.endSession
  repeat' first
    | with_reducible first | assumption | refine State.setAop_keep ?_ ?_ _

theorem State.closeSession_keep {M r s} (h : Keep M r s) (hM : Nat.land 73 M = 73) (a1 a2) :
    Keep M r (State.closeSession s a1 a2) := by
  unfold State.closeSession
  repeat' first
    | with_reducible assumption
    | exact Zone.sub rfl hM
    | with_reducible first | refine State.log_keep ?_ ?_ _ _ | refine State.endSession_keep ?_ ?_ _
    | with_reducible refine Keep.ite ?_ ?_

theorem State.closeAll_keep {M r s} (h : Keep M r s) (hM : Nat.land 73 M = 73) (a1) :
    Keep M r (State.closeAll s a1) := by
  unfold State.closeAll
  repeat' first
    | with_reducible assumption
    | (intro)
    | with_reducible first | refine State.closeSession_keep ?_ ?_ _ _ | refine Keep.foldl ?_ ?_ _

theorem State.refuseSession_keep {M r s} (h : Keep M r s) (hM : Nat.land 73 M = 73) (a1 a2 a3 a4) :
    Keep M r (State.refuseSession s a1 a2 a3 a4) := by
  unfold State.refuseSession
  repeat' first
    | with_reducible assumption
    | exact Zone.sub rfl hM
    | with_reducible first | refine State.violate_keep ?_ ?_ _ _ _ _ _ | refine State.log_keep ?_ ?_ _ _
    | with_reducible first | refine State.sendResponse_keep ?_ ?_ _ _ | refine Keep.ite ?_ ?_

theorem State.closeBy_keep {M r s} (h : Keep M r s) (hM : Nat.land 73 M = 73) (a1) :
    Keep M r (State.closeBy s a1) := by
  unfold State.closeBy
  repeat' first
    | with_reducible assumption
    | exact Zone.sub rfl hM
    | with_reducible first | refine State.refuseSession_keep ?_ ?_ _ _ _ _ | refine State.sendTo_keep ?_ ?_ _ _
    | with_reducible first | refine State.closeSession_keep ?_ ?_ _ _ | refine Keep.ite ?_ ?_

theorem State.describeOp_keep {M r s} (h : Keep M r s) (hM : Nat.land 72 M = 72) (a1 a2 a3) :
    Keep M r (State.describeOp s a1 a2 a3) := by
  unfold State.describeOp
  repeat' first
    | with_reducible assumption
    | exact Zone.sub rfl hM
    | with_reducible first | refine State.refuseMsg_keep ?_ ?_ _ _ | refine State.refuse_keep ?_ ?_ _ _ _ _ _
    | with_reducible first | refine State.accept_keep ?_ ?_ _ _ _ _ _ _ _ _ | refine Keep.ite ?_ ?_
    | split

theorem State.putUser_keep {M r s} (h : Keep M r s) (hM : Nat.land 2 M = 2) (a1 a2 a3) :
    Keep M r (State.putUser s a1 a2 a3) := by
  unfold State.putUser
  repeat' first
    | with_reducible assumption
    | (simp -zeta only [↓Keep.mk_iff]; with_reducible refine KeepF.upd_user ?_ ?_)
    | (extract_lets +onlyGivenNames y; clear_value y)

theorem State.takeUser_keep {M r s} (h : Keep M r s) (hM : Nat.land 2 M = 2) (a1) :
    Keep M r (State.takeUser s a1) := by
  unfold State.takeUser
  repeat' first
    | with_reducible assumption
    | (intro)
    | with_reducible first | refine State.putUser_keep ?_ ?_ _ _ _ | refine Keep.foldl ?_ ?_ _
    | (simp -zeta only [↓Keep.mk_iff]; with_reducible refine KeepF.upd_user ?_ ?_)
    | split

theorem State.dictCommitted_keep {M r s} (h : Keep M r s) (hM : Nat.land 75 M = 75) (a1 a2 a3) :
    Keep M r (State.dictCommitted s a1 a2 a3) := by
  unfold State.dictCommitted
  repeat' first
    | with_reducible assumption
    | exact Zone.sub rfl hM
    | with_reducible first | refine State.put_keep ?_ ?_ _ _ _ | refine State.takeUser_keep ?_ ?_ _
    | with_reducible first | refine State.accept_keep ?_ ?_ _ _ _ _ _ _ _ _ | refine State.setAop_keep ?_ ?_ _
    | with_reducible first | refine State.log_keep ?_ ?_ _ _ | refine Keep.ite ?_ ?_
    | (extract_lets +onlyGivenNames y; have hy : Keep M r y := ?_
       rotate_left; subst y; rotate_left; clear_value y)
    | split

theorem State.dictFactoryEffect_keep {M r s} (h : Keep M r s) (hM : Nat.land 121 M = 121) (a1) :
    Keep M r (State.dictFactoryEffect s a1).2 := by
  unfold State.dictFactoryEffect
  repeat' first
    | with_reducible assumption
    | exact Zone.sub rfl hM
    | with_reducible first | refine State.writeRecord_keep ?_ ?_ _ _ _ _ _ | refine State.setAop_keep ?_ ?_ _
    | with_reducible refine Keep.ite_snd ?_ ?_

theorem State.dictRestoreEffect_keep {M r s} (h : Keep M r s) (hM : Nat.land 64 M = 64) (a1) :
    Keep M r (State.dictRestoreEffect s a1).2 := by
  unfold State.dictRestoreEffect
  repeat' first
    | with_reducible first | assumption | refine State.setAop_keep ?_ ?_ _ | refine Keep.ite_snd ?_ ?_

theorem State.dictSaveEffect_keep {M r s} (h : Keep M r s) (hM : Nat.land 64 M = 64) (a1) :
    Keep M r (State.dictSaveEffect s a1).2 := by
  unfold State.dictSaveEffect
  repeat' first
    | with_reducible first | assumption | refine State.setAop_keep ?_ ?_ _ | refine Keep.ite_snd ?_ ?_

theorem State.forward_keep {M r s} (h : Keep M r s) (hM : Nat.land 192 M = 192) (a1 a2 a3) :
    Keep M r (State.forward s a1 a2 a3) := by
  unfold State.forward
  repeat' first
    | with_reducible assumption
    | exact Zone.sub rfl hM
    | with_reducible first | refine State.refuseMsg_keep ?_ ?_ _ _ | refine State.setAop_keep ?_ ?_ _
    | with_reducible first | refine State.sendMoc_keep ?_ ?_ _ _ _ | refine Keep.ite ?_ ?_
    | split

theorem State.openSession_keep {M r s} (h : Keep M r s) (hM : Nat.land 73 M = 73) (a1 a2 a3 a4) :
    Keep M r (State.openSession s a1 a2 a3 a4) := by
  unfold State.openSession
  repeat' first
    | with_reducible assumption
    | exact Zone.sub rfl hM
    | with_reducible first | refine State.refuseSession_keep ?_ ?_ _ _ _ _ | refine State.freshNum_keep ?_ ?_ _ _ _
    | with_reducible first | refine State.random_keep ?_ ?_ _ | refine State.setAop_keep ?_ ?_ _
    | with_reducible first | refine State.log_keep ?_ ?_ _ _ | refine State.sendTo_keep ?_ ?_ _ _
    | with_reducible refine Keep.ite ?_ ?_

theorem State.portChange_keep {M r s} (h : Keep M r s) (hM : Nat.land 73 M = 73) (a1) :
    Keep M r (State.portChange s a1) := by
  unfold State.portChange
  repeat' first
    | with_reducible first | assumption | refine State.closeAll_keep ?_ ?_ _ | refine Keep.ite ?_ ?_

theorem State.prove_keep {M r s} (h : Keep M r s) (hM : Nat.land 89 M = 89) (a1 a2) :
    Keep M r (State.prove s a1 a2) := by
  unfold State.prove
  repeat' first
    | with_reducible assumption
    | exact Zone.sub rfl hM
    | with_reducible first | refine State.refuseSession_keep ?_ ?_ _ _ _ _ | refine State.accessDom_keep ?_ ?_ _ _
    | with_reducible first | refine State.setAop_keep ?_ ?_ _ | refine State.log_keep ?_ ?_ _ _
    | with_reducible first | refine State.sendResponse_keep ?_ ?_ _ _ | refine Keep.ite ?_ ?_
    | (extract_lets +onlyGivenNames y; have hy : Keep M r y := (by subst y; with_reducible assumption)
       clear hy; subst y)
    | (extract_lets +onlyGivenNames y; have hy : Keep M r y.2 := ?_
       rotate_left; subst y; rotate_left; clear_value y)
    | split

theorem State.readEffect_keep {M r s} (h : Keep M r s) (hM : Nat.land 17 M = 17) (a1) :
    Keep M r (State.readEffect s a1) := by
  unfold State.readEffect
  repeat' first
    | with_reducible assumption
    | exact Zone.sub rfl hM
    | with_reducible first | refine State.put_keep ?_ ?_ _ _ _ | refine Keep.ite ?_ ?_
    | (simp -zeta only [↓Keep.mk_iff]; with_reducible refine KeepF.upd_pow ?_ ?_ rfl)

theorem State.readOp_keep {M r s} (h : Keep M r s) (hM : Nat.land 89 M = 89) (a1 a2 a3 a4) :
    Keep M r (State.readOp s a1 a2 a3 a4) := by
  unfold State.readOp
  repeat' first
    | with_reducible assumption
    | exact Zone.sub rfl hM
    | with_reducible first | refine State.refuseMsg_keep ?_ ?_ _ _ | refine State.refuse_keep ?_ ?_ _ _ _ _ _
    | with_reducible first | refine State.accept_keep ?_ ?_ _ _ _ _ _ _ _ _ | refine State.readEffect_keep ?_ ?_ _
    | with_reducible refine Keep.ite ?_ ?_

theorem State.saveBoundary_keep {M r s} (h : Keep M r s) (hM : Nat.land 121 M = 121) :
    Keep M r (State.saveBoundary s) := by
  unfold State.saveBoundary
  repeat' first
    | with_reducible assumption
    | exact Zone.sub rfl hM
    | with_reducible first | refine State.writeRecord_keep ?_ ?_ _ _ _ _ _ | refine State.setAop_keep ?_ ?_ _
    | with_reducible first | refine State.refuse_keep ?_ ?_ _ _ _ _ _ | refine Keep.ite ?_ ?_
    | split

theorem State.sessionCloseEffect_keep {M r s} (h : Keep M r s) (hM : Nat.land 73 M = 73) (a1) :
    Keep M r (State.sessionCloseEffect s a1).2 := by
  unfold State.sessionCloseEffect
  repeat' first
    | with_reducible first | assumption | refine State.closeSession_keep ?_ ?_ _ _ | refine Keep.ite_snd ?_ ?_

theorem State.subsBoundary_keep {M r s} (h : Keep M r s) (hM : Nat.land 73 M = 73) :
    Keep M r (State.subsBoundary s) := by
  unfold State.subsBoundary
  repeat' first
    | with_reducible assumption
    | exact Zone.sub rfl hM
    | (intro)
    | with_reducible first | refine State.notify_keep ?_ ?_ _ _ | refine State.logSecond_keep ?_ ?_ _ _ _ _
    | with_reducible first | refine State.setAop_keep ?_ ?_ _ | refine Keep.ite ?_ ?_ | refine Keep.foldl ?_ ?_ _
    | (extract_lets +onlyGivenNames y; have hy : Keep M r y := ?_
       rotate_left; subst y; rotate_left; clear_value y)
    | split

theorem State.subscribeOp_keep {M r s} (h : Keep M r s) (hM : Nat.land 72 M = 72) (a1 a2 a3 a4 a5) :
    Keep M r (State.subscribeOp s a1 a2 a3 a4 a5) := by
  unfold State.subscribeOp
  repeat' first
    | with_reducible assumption
    | exact Zone.sub rfl hM
    | with_reducible first | refine State.refuseMsg_keep ?_ ?_ _ _ | refine State.refuse_keep ?_ ?_ _ _ _ _ _
    | with_reducible first | refine State.freshNum_keep ?_ ?_ _ _ _ | refine State.accept_keep ?_ ?_ _ _ _ _ _ _ _ _
    | with_reducible first | refine State.setAop_keep ?_ ?_ _ | refine Keep.ite ?_ ?_

theorem State.takeRequest_keep {M r s} (h : Keep M r s) (hM : Nat.land 64 M = 64) (a1 a2) :
    Keep M r (State.takeRequest s a1 a2) := by
  unfold State.takeRequest
  repeat' first
    | with_reducible assumption
    | exact Zone.sub rfl hM
    | with_reducible first | refine State.refuseMsg_keep ?_ ?_ _ _ | refine State.setAop_keep ?_ ?_ _
    | with_reducible first | refine State.sendTo_keep ?_ ?_ _ _ | refine State.sendResponse_keep ?_ ?_ _ _
    | with_reducible refine Keep.ite ?_ ?_
    | (extract_lets +onlyGivenNames y; have hy : Keep M r y := ?_
       rotate_left; subst y; rotate_left; clear_value y)
    | (extract_lets +onlyGivenNames y; clear_value y)
    | split

theorem State.takeMessage_keep {M r s} (h : Keep M r s) (hM : Nat.land 217 M = 217) (a1 a2 a3 a4) :
    Keep M r (State.takeMessage s a1 a2 a3 a4) := by
  unfold State.takeMessage
  repeat' first
    | with_reducible assumption
    | exact Zone.sub rfl hM
    | with_reducible first | refine State.occur_keep ?_ ?_ _ _ | refine State.refuseMsg_keep ?_ ?_ _ _
    | with_reducible first | refine State.backward_keep ?_ ?_ _ _ _ _ _ | refine State.forward_keep ?_ ?_ _ _ _
    | with_reducible first | refine State.takeRequest_keep ?_ ?_ _ _ | refine State.openSession_keep ?_ ?_ _ _ _ _
    | with_reducible first | refine State.prove_keep ?_ ?_ _ _ | refine State.closeBy_keep ?_ ?_ _
    | with_reducible refine Keep.ite ?_ ?_
    | split

theorem State.unsubscribeOp_keep {M r s} (h : Keep M r s) (hM : Nat.land 72 M = 72) (a1 a2) :
    Keep M r (State.unsubscribeOp s a1 a2) := by
  unfold State.unsubscribeOp
  repeat' first
    | with_reducible assumption
    | exact Zone.sub rfl hM
    | with_reducible first | refine State.refuseMsg_keep ?_ ?_ _ _ | refine State.accept_keep ?_ ?_ _ _ _ _ _ _ _ _
    | with_reducible first | refine State.setAop_keep ?_ ?_ _ | refine State.refuse_keep ?_ ?_ _ _ _ _ _
    | with_reducible refine Keep.ite ?_ ?_

theorem execAopMessage_keep (s : State) (a1 a2 a3 a4 a5) :
    ∃ t, execAopMessage a1 a2 a3 a4 a5 s = .next t ∧ Keep 217 s t := by
  refine ⟨_, rfl, ?_⟩
  have h := Keep.refl 217 s
  have hM : Nat.land 217 217 = 217 := rfl
  repeat' first
    | with_reducible assumption
    | exact Zone.sub rfl hM
    | with_reducible first | refine State.bump_keep ?_ ?_ _ _ | refine State.takeMessage_keep ?_ ?_ _ _ _ _
    | with_reducible refine Keep.ite ?_ ?_

theorem execAopPortWrite_keep (s : State) (a1 a2) :
    ∃ t, execAopPortWrite a1 a2 s = .next t ∧ Keep 89 s t := by
  refine ⟨_, rfl, ?_⟩
  have h := Keep.refl 89 s
  have hM : Nat.land 89 89 = 89 := rfl
  repeat' first
    | with_reducible assumption
    | exact Zone.sub rfl hM
    | with_reducible first | refine State.portChange_keep ?_ ?_ _ | refine storeEffect_keep ?_ ?_ _ _ _
    | with_reducible refine State.hostWrite_keep ?_ ?_ _ _ _ _ _ (fun v t h => ?_)

theorem execAopRead_keep (s : State) (a1 a2 a3 a4) :
    ∃ t, execAopRead a1 a2 a3 a4 s = .next t ∧ Keep 89 s t := by
  refine ⟨_, rfl, ?_⟩
  have h := Keep.refl 89 s
  have hM : Nat.land 89 89 = 89 := rfl
  repeat' first
    | with_reducible first | assumption | refine State.readOp_keep ?_ ?_ _ _ _ _

theorem execCancelEntry_keep (s : State) (a1 a2) :
    ∃ t, execCancelEntry a1 a2 s = .next t ∧ Keep 18909 s t := by
  refine ⟨_, rfl, ?_⟩
  have h := Keep.refl 18909 s
  have hM : Nat.land 18909 18909 = 18909 := rfl
  repeat' first
    | with_reducible assumption
    | exact Zone.sub rfl hM
    | with_reducible refine State.cancelEffect_keep ?_ ?_ _ _
    | with_reducible refine State.hostWrite_keep ?_ ?_ _ _ _ _ _ (fun v t h => ?_)

theorem execClose_keep (s : State) (a1) :
    ∃ t, execClose a1 s = .next t ∧ Keep 73 s t := by
  refine ⟨_, rfl, ?_⟩
  have h := Keep.refl 73 s
  have hM : Nat.land 73 73 = 73 := rfl
  repeat' first
    | with_reducible first | assumption | refine State.closeBy_keep ?_ ?_ _

theorem execDescribe_keep (s : State) (a1 a2 a3) :
    ∃ t, execDescribe a1 a2 a3 s = .next t ∧ Keep 72 s t := by
  refine ⟨_, rfl, ?_⟩
  have h := Keep.refl 72 s
  have hM : Nat.land 72 72 = 72 := rfl
  repeat' first
    | with_reducible first | assumption | refine State.describeOp_keep ?_ ?_ _ _ _

theorem execDictFactory_keep (s : State) (a1 a2) :
    ∃ t, execDictFactory a1 a2 s = .next t ∧ Keep 121 s t := by
  refine ⟨_, rfl, ?_⟩
  have h := Keep.refl 121 s
  have hM : Nat.land 121 121 = 121 := rfl
  repeat' first
    | with_reducible assumption
    | exact Zone.sub rfl hM
    | with_reducible refine State.dictFactoryEffect_keep ?_ ?_ _
    | with_reducible refine State.hostWrite_keep ?_ ?_ _ _ _ _ _ (fun v t h => ?_)

theorem execDictRestore_keep (s : State) (a1 a2) :
    ∃ t, execDictRestore a1 a2 s = .next t ∧ Keep 89 s t := by
  refine ⟨_, rfl, ?_⟩
  have h := Keep.refl 89 s
  have hM : Nat.land 89 89 = 89 := rfl
  repeat' first
    | with_reducible assumption
    | exact Zone.sub rfl hM
    | with_reducible refine State.dictRestoreEffect_keep ?_ ?_ _
    | with_reducible refine State.hostWrite_keep ?_ ?_ _ _ _ _ _ (fun v t h => ?_)

theorem execDictSave_keep (s : State) (a1 a2) :
    ∃ t, execDictSave a1 a2 s = .next t ∧ Keep 89 s t := by
  refine ⟨_, rfl, ?_⟩
  have h := Keep.refl 89 s
  have hM : Nat.land 89 89 = 89 := rfl
  repeat' first
    | with_reducible assumption
    | exact Zone.sub rfl hM
    | with_reducible refine State.dictSaveEffect_keep ?_ ?_ _
    | with_reducible refine State.hostWrite_keep ?_ ?_ _ _ _ _ _ (fun v t h => ?_)

theorem execProof_keep (s : State) (a1 a2) :
    ∃ t, execProof a1 a2 s = .next t ∧ Keep 89 s t := by
  refine ⟨_, rfl, ?_⟩
  have h := Keep.refl 89 s
  have hM : Nat.land 89 89 = 89 := rfl
  repeat' first
    | with_reducible first | assumption | refine State.prove_keep ?_ ?_ _ _

theorem execSessionClose_keep (s : State) (a1 a2) :
    ∃ t, execSessionClose a1 a2 s = .next t ∧ Keep 89 s t := by
  refine ⟨_, rfl, ?_⟩
  have h := Keep.refl 89 s
  have hM : Nat.land 89 89 = 89 := rfl
  repeat' first
    | with_reducible assumption
    | exact Zone.sub rfl hM
    | with_reducible refine State.sessionCloseEffect_keep ?_ ?_ _
    | with_reducible refine State.hostWrite_keep ?_ ?_ _ _ _ _ _ (fun v t h => ?_)

theorem execSessionIdle_keep (s : State) (a1) :
    ∃ t, execSessionIdle a1 s = .next t ∧ Keep 73 s t := by
  refine ⟨_, rfl, ?_⟩
  have h := Keep.refl 73 s
  have hM : Nat.land 73 73 = 73 := rfl
  repeat' first
    | with_reducible first | assumption | refine State.closeSession_keep ?_ ?_ _ _ | refine Keep.ite ?_ ?_
    | split

theorem execSessionOpen_keep (s : State) (a1 a2 a3 a4) :
    ∃ t, execSessionOpen a1 a2 a3 a4 s = .next t ∧ Keep 73 s t := by
  refine ⟨_, rfl, ?_⟩
  have h := Keep.refl 73 s
  have hM : Nat.land 73 73 = 73 := rfl
  repeat' first
    | with_reducible first | assumption | refine State.openSession_keep ?_ ?_ _ _ _ _

theorem execSubscribe_keep (s : State) (a1 a2 a3 a4 a5) :
    ∃ t, execSubscribe a1 a2 a3 a4 a5 s = .next t ∧ Keep 72 s t := by
  refine ⟨_, rfl, ?_⟩
  have h := Keep.refl 72 s
  have hM : Nat.land 72 72 = 72 := rfl
  repeat' first
    | with_reducible first | assumption | refine State.subscribeOp_keep ?_ ?_ _ _ _ _ _

theorem execUnprovedSessionDiscard_keep (s : State) (a1) :
    ∃ t, execUnprovedSessionDiscard a1 s = .next t ∧ Keep 73 s t := by
  refine ⟨_, rfl, ?_⟩
  have h := Keep.refl 73 s
  have hM : Nat.land 73 73 = 73 := rfl
  repeat' first
    | with_reducible assumption
    | exact Zone.sub rfl hM
    | with_reducible first | refine State.fresh_keep ?_ ?_ _ | refine State.endSession_keep ?_ ?_ _
    | with_reducible first | refine State.log_keep ?_ ?_ _ _ | refine Keep.ite ?_ ?_
    | split

theorem execUnsubscribe_keep (s : State) (a1 a2) :
    ∃ t, execUnsubscribe a1 a2 s = .next t ∧ Keep 72 s t := by
  refine ⟨_, rfl, ?_⟩
  have h := Keep.refl 72 s
  have hM : Nat.land 72 72 = 72 := rfl
  repeat' first
    | with_reducible first | assumption | refine State.unsubscribeOp_keep ?_ ?_ _ _

theorem State.enterReset_keep {M r s} (h : Keep M r s) (hM : Nat.land 77 M = 77) (a1) :
    Keep M r (State.enterReset s a1) := by
  unfold State.enterReset
  repeat' first
    | with_reducible first | assumption | refine State.arm_keep ?_ ?_ _ | refine State.yieldSwaps_keep ?_ ?_ _

theorem State.toBase_keep {M r s} (h : Keep M r s) (hM : Nat.land 2265 M = 2265) (a1 a2) :
    Keep M r (State.toBase s a1 a2) := by
  unfold State.toBase
  repeat' first
    | with_reducible assumption
    | exact Zone.sub rfl hM
    | (intro)
    | with_reducible first | refine State.applyLoading_keep ?_ ?_ _ _ _ | refine State.setLd_keep ?_ ?_ _ _
    | with_reducible first | refine State.setMap_keep ?_ ?_ _ _ _ | refine State.put_keep ?_ ?_ _ _ _
    | with_reducible first | refine State.logC_keep ?_ ?_ _ _ _ | refine State.setFr_keep ?_ ?_ _ _
    | with_reducible first | refine State.egressFault_keep ?_ ?_ _ _ | refine Keep.ite ?_ ?_
    | with_reducible refine Keep.foldl ?_ ?_ _

theorem State.gridRun_keep {M r s} (h : Keep M r s) (hM : Nat.land 3549 M = 3549) (a1 a2 a3) :
    Keep M r (State.gridRun s a1 a2 a3) := by
  unfold State.gridRun
  repeat' first
    | with_reducible assumption
    | exact Zone.sub rfl hM
    | with_reducible first | refine State.put_keep ?_ ?_ _ _ _ | refine State.restartAcq_keep ?_ ?_ _ _ _ _ _
    | with_reducible first | refine State.toBase_keep ?_ ?_ _ _ | refine Keep.ite ?_ ?_

theorem State.requestReset_keep {M r s} (h : Keep M r s) (hM : Nat.land 133325 M = 133325) (a1) :
    Keep M r (State.requestReset s a1) := by
  unfold State.requestReset
  repeat' first
    | with_reducible assumption
    | exact Zone.sub rfl hM
    | with_reducible first | refine State.setLd_keep ?_ ?_ _ _ | refine State.sendMoc_keep ?_ ?_ _ _ _
    | with_reducible first | refine State.footQueue_keep ?_ ?_ _ _ | refine State.enterReset_keep ?_ ?_ _
    | with_reducible refine Keep.ite ?_ ?_

theorem State.resetRun_keep {M r s} (h : Keep M r s) (hM : Nat.land 2265 M = 2265) (a1 a2) :
    Keep M r (State.resetRun s a1 a2) := by
  unfold State.resetRun
  repeat' first
    | with_reducible assumption
    | exact Zone.sub rfl hM
    | with_reducible first | refine State.logC_keep ?_ ?_ _ _ _ | refine State.toBase_keep ?_ ?_ _ _

theorem execLoadingReset_keep (s : State) (a1 a2 a3) :
    ∃ t, execLoadingReset a1 a2 a3 s = .next t ∧ Keep 77 s t := by
  refine ⟨_, rfl, ?_⟩
  have h := Keep.refl 77 s
  have hM : Nat.land 77 77 = 77 := rfl
  repeat' first
    | with_reducible first | assumption | refine State.enterReset_keep ?_ ?_ _

theorem execRelockCandidate_keep (s : State) (a1) :
    ∃ t, execRelockCandidate a1 s = .next t ∧ Keep 133325 s t := by
  refine ⟨_, rfl, ?_⟩
  have h := Keep.refl 133325 s
  have hM : Nat.land 133325 133325 = 133325 := rfl
  repeat' first
    | with_reducible assumption
    | exact Zone.sub rfl hM
    | with_reducible first | refine State.setLd_keep ?_ ?_ _ _ | refine State.setLoading_keep ?_ ?_ _ _ _
    | with_reducible first | refine State.logC_keep ?_ ?_ _ _ _ | refine State.requestReset_keep ?_ ?_ _
    | with_reducible refine Keep.ite ?_ ?_
    | (extract_lets +onlyGivenNames y; have hy : Keep 133325 s y := ?_
       rotate_left; subst y; rotate_left; clear_value y)
    | (extract_lets +onlyGivenNames y; clear_value y)
    | split

theorem State.alertAckEffect_keep {M r s} (h : Keep M r s) (hM : Nat.land 9 M = 9) (a1) :
    Keep M r (State.alertAckEffect s a1).2 := by
  unfold State.alertAckEffect
  repeat' first
    | with_reducible assumption
    | exact Zone.sub rfl hM
    | with_reducible first | refine State.put_keep ?_ ?_ _ _ _ | refine Keep.ite_snd ?_ ?_
    | (simp -zeta only [↓Keep.mk_iff]; with_reducible refine KeepF.upd_diag ?_ ?_ rfl rfl rfl)
    | (extract_lets +onlyGivenNames y; have : Diag := y; clear this; subst y)
    | split

theorem State.logRefused_keep {M r s} (h : Keep M r s) (hM : Nat.land 73 M = 73) (a1 a2 a3) :
    Keep M r (State.logRefused s a1 a2 a3) := by
  unfold State.logRefused
  repeat' first
    | with_reducible first | assumption | refine State.log_keep ?_ ?_ _ _

theorem State.settingEffect_keep {M r s} (h : Keep M r s) (hM : Nat.land 568797 M = 568797) (a1 a2 a3) :
    Keep M r (State.settingEffect s a1 a2 a3).2 := by
  unfold State.settingEffect
  repeat' first
    | with_reducible assumption
    | exact Zone.sub rfl hM
    | with_reducible refine State.ceilingWriteEffect_keep ?_ ?_ _
    | with_reducible refine State.clientRateEffect_keep ?_ ?_ _ _
    | with_reducible refine State.clientLanesEffect_keep ?_ ?_ _ _
    | with_reducible first | refine State.laneRateEffect_keep ?_ ?_ _ _ | refine State.laneTestEffect_keep ?_ ?_ _ _
    | with_reducible first | refine State.ceilingEffect_keep ?_ ?_ _ _ _ | refine State.floorEffect_keep ?_ ?_ _ _ _
    | with_reducible refine State.policyRateEffect_keep ?_ ?_ _ _
    | with_reducible refine State.loFrequencyEffect_keep ?_ ?_ _ _
    | with_reducible refine State.frontGainEffect_keep ?_ ?_ _ _
    | with_reducible refine State.forceRefEffect_keep ?_ ?_ _ _
    | with_reducible refine State.comparatorEffect_keep ?_ ?_ _ _
    | with_reducible first | refine State.injectLengthEffect_keep ?_ ?_ _ | refine State.tfeRunEffect_keep ?_ ?_ _ _
    | with_reducible refine State.twinReleaseEffect_keep ?_ ?_ _
    | with_reducible refine State.tfeFilterEffect_keep ?_ ?_ _ _
    | with_reducible first | refine State.tfeCoeffEffect_keep ?_ ?_ _ _ | refine State.tfeInputEffect_keep ?_ ?_ _ _
    | with_reducible refine State.rollbackEffect_keep ?_ ?_ _ _
    | with_reducible refine State.counterRangeEffect_keep ?_ ?_ _ _
    | with_reducible first | refine State.counterSelectEffect_keep ?_ ?_ _ _ | refine storeEffect_keep ?_ ?_ _ _ _
    | with_reducible first | refine State.staticAddress_keep ?_ ?_ _ | refine Keep.ite_snd ?_ ?_

theorem State.internalWrite_keep {M r s} (h : Keep M r s) (hM : Nat.land 568797 M = 568797) (a1 a2 a3) :
    Keep M r (State.internalWrite s a1 a2 a3).2 := by
  unfold State.internalWrite
  repeat' first
    | with_reducible assumption
    | exact Zone.sub rfl hM
    | with_reducible first | refine State.accessDom_keep ?_ ?_ _ _ | refine State.settingEffect_keep ?_ ?_ _ _ _
    | with_reducible first | refine State.holdWrite_keep ?_ ?_ _ _ _ _ | refine Keep.ite_snd ?_ ?_
    | (extract_lets +onlyGivenNames y; have hy : Keep M r y.2 := ?_
       rotate_left; subst y; rotate_left; clear_value y)
    | split

theorem State.dropLive_keep {M r s} (h : Keep M r s) (hM : Nat.land 1 M = 1) (a1) :
    Keep M r (State.dropLive s a1) := by
  unfold State.dropLive
  repeat' first
    | with_reducible assumption
    | (simp -zeta only [↓Keep.mk_iff]; with_reducible refine KeepF.upd_live ?_ ?_)

theorem State.applyImage_keep {M r s} (h : Keep M r s) (hM : Nat.land 568799 M = 568799) (a1) :
    Keep M r (State.applyImage s a1) := by
  unfold State.applyImage
  repeat' first
    | with_reducible assumption
    | exact Zone.sub rfl hM
    | with_reducible first | refine State.logRefused_keep ?_ ?_ _ _ _ | refine State.put_keep ?_ ?_ _ _ _
    | with_reducible first | refine State.putUser_keep ?_ ?_ _ _ _ | refine State.internalWrite_keep ?_ ?_ _ _ _
    | with_reducible first | refine State.dropLive_keep ?_ ?_ _ | refine Keep.ite ?_ ?_
    | dsimp -zeta only
    | (extract_lets +onlyGivenNames y; have : _ → _ → State := y; clear this; subst y)
    | split

theorem State.commandEffect_keep {M r s} (h : Keep M r s) (hM : Nat.land 4115453 M = 4115453) (a1 a2 a3 a4) :
    Keep M r (State.commandEffect s a1 a2 a3 a4).2 := by
  unfold State.commandEffect
  repeat' first
    | with_reducible assumption
    | exact Zone.sub rfl hM
    | with_reducible first | refine State.cancelEffect_keep ?_ ?_ _ _ | refine State.alertAckEffect_keep ?_ ?_ _
    | with_reducible first | refine State.sessionCloseEffect_keep ?_ ?_ _ | refine State.dictSaveEffect_keep ?_ ?_ _
    | with_reducible refine State.dictRestoreEffect_keep ?_ ?_ _
    | with_reducible refine State.dictFactoryEffect_keep ?_ ?_ _
    | with_reducible refine State.counterClearEffect_keep ?_ ?_ _
    | with_reducible first | refine State.eventFetchEffect_keep ?_ ?_ _ | refine State.imageWriteEffect_keep ?_ ?_ _
    | with_reducible refine State.imageCommitEffect_keep ?_ ?_ _ _
    | with_reducible first | refine State.groupLeaveEffect_keep ?_ ?_ | refine State.ownerKeyEffect_keep ?_ ?_ _
    | with_reducible first | refine State.quoteEffect_keep ?_ ?_ _ | refine State.rekeyEffect_keep ?_ ?_ _
    | with_reducible first | refine State.slotWriteEffect_keep ?_ ?_ _ | refine State.slotEraseEffect_keep ?_ ?_ _
    | with_reducible refine State.blockRestoreEffect_keep ?_ ?_ _
    | with_reducible refine State.avenueCommandEffect_keep ?_ ?_ _ _
    | with_reducible first | refine State.injectNowEffect_keep ?_ ?_ _ | refine State.setSvc_keep ?_ ?_ _
    | with_reducible first | refine State.calSaveEffect_keep ?_ ?_ | refine State.calClearEffect_keep ?_ ?_
    | with_reducible first | refine State.retireEffect_keep ?_ ?_ _ _ | refine State.restoreEffect_keep ?_ ?_ _ _
    | with_reducible refine State.loadingRequestEffect_keep ?_ ?_ _ _ _
    | with_reducible refine State.contextRollEffect_keep ?_ ?_ _ _
    | with_reducible first | refine State.footSendEffect_keep ?_ ?_ _ _ | refine State.calReloadEffect_keep ?_ ?_ _
    | with_reducible first | refine storeEffect_keep ?_ ?_ _ _ _ | refine Keep.ite_snd ?_ ?_

theorem State.dictImageApply_keep {M r s} (h : Keep M r s) (hM : Nat.land 568799 M = 568799) :
    Keep M r (State.dictImageApply s) := by
  unfold State.dictImageApply
  repeat' first
    | with_reducible assumption
    | exact Zone.sub rfl hM
    | (intro)
    | with_reducible first | refine State.put_keep ?_ ?_ _ _ _ | refine State.applyImage_keep ?_ ?_ _
    | with_reducible refine Keep.foldl ?_ ?_ _
    | split

theorem State.scheduleEffect_keep {M r s} (h : Keep M r s) (hM : Nat.land 49373 M = 49373) (a1 a2 a3 a4 a5) :
    Keep M r (State.scheduleEffect s a1 a2 a3 a4 a5).2 := by
  unfold State.scheduleEffect
  repeat' first
    | with_reducible assumption
    | exact Zone.sub rfl hM
    | with_reducible refine State.avenueModeEffect_keep ?_ ?_ _ _ _
    | with_reducible refine State.contextEnableEffect_keep ?_ ?_ _ _ _ _
    | with_reducible refine State.imageActivateEffect_keep ?_ ?_ _ _ _ _
    | with_reducible first | refine State.hostSchedule_keep ?_ ?_ _ _ _ | refine Keep.ite_snd ?_ ?_

theorem State.ownerEffect_keep {M r s} (h : Keep M r s) (hM : Nat.land 4124669 M = 4124669) (a1 a2 a3 a4 a5) :
    Keep M r (State.ownerEffect s a1 a2 a3 a4 a5).2 := by
  unfold State.ownerEffect
  repeat' first
    | with_reducible assumption
    | exact Zone.sub rfl hM
    | with_reducible refine State.commandEffect_keep ?_ ?_ _ _ _ _
    | with_reducible refine State.settingEffect_keep ?_ ?_ _ _ _
    | with_reducible refine State.scheduleEffect_keep ?_ ?_ _ _ _ _ _
    | split

theorem State.restoreKey_keep {M r s} (h : Keep M r s) (hM : Nat.land 585181 M = 585181) (a1 a2) :
    Keep M r (State.restoreKey s a1 a2) := by
  unfold State.restoreKey
  repeat' first
    | with_reducible assumption
    | exact Zone.sub rfl hM
    | with_reducible first | refine State.dropLive_keep ?_ ?_ _ | refine State.scheduleEffect_keep ?_ ?_ _ _ _ _ _
    | with_reducible first | refine State.logRefused_keep ?_ ?_ _ _ _ | refine State.clearAskers_keep ?_ ?_ _
    | with_reducible first | refine State.internalWrite_keep ?_ ?_ _ _ _ | refine State.portChange_keep ?_ ?_ _
    | with_reducible refine Keep.ite ?_ ?_
    | (extract_lets +onlyGivenNames y; clear_value y)
    | split

theorem State.restoreBoundary_keep {M r s} (h : Keep M r s) (hM : Nat.land 585181 M = 585181) :
    Keep M r (State.restoreBoundary s) := by
  unfold State.restoreBoundary
  repeat' first
    | with_reducible assumption
    | exact Zone.sub rfl hM
    | (intro)
    | with_reducible first | refine State.setAop_keep ?_ ?_ _ | refine State.restoreKey_keep ?_ ?_ _ _
    | with_reducible first | refine State.log_keep ?_ ?_ _ _ | refine Keep.foldl ?_ ?_ _
    | (extract_lets +onlyGivenNames y; have hy : Keep M r y := ?_
       rotate_left; subst y; rotate_left; clear_value y)
    | (extract_lets +onlyGivenNames y; clear_value y)
    | split

theorem execAlertAck_keep (s : State) (a1 a2) :
    ∃ t, execAlertAck a1 a2 s = .next t ∧ Keep 89 s t := by
  refine ⟨_, rfl, ?_⟩
  have h := Keep.refl 89 s
  have hM : Nat.land 89 89 = 89 := rfl
  repeat' first
    | with_reducible assumption
    | exact Zone.sub rfl hM
    | with_reducible refine State.alertAckEffect_keep ?_ ?_ _
    | with_reducible refine State.hostWrite_keep ?_ ?_ _ _ _ _ _ (fun v t h => ?_)

theorem execAopWrite_keep (s : State) (a1 a2 a3 a4 a5) :
    ∃ t, execAopWrite a1 a2 a3 a4 a5 s = .next t ∧ Keep 4124669 s t := by
  refine ⟨_, rfl, ?_⟩
  have h := Keep.refl 4124669 s
  have hM : Nat.land 4124669 4124669 = 4124669 := rfl
  repeat' first
    | with_reducible assumption
    | exact Zone.sub rfl hM
    | with_reducible first | refine State.refuse_keep ?_ ?_ _ _ _ _ _ | refine State.portChange_keep ?_ ?_ _
    | with_reducible first | refine storeEffect_keep ?_ ?_ _ _ _ | refine State.ownerEffect_keep ?_ ?_ _ _ _ _ _
    | with_reducible first | refine State.hostWrite_keep ?_ ?_ _ _ _ _ _ (fun v t h => ?_) | refine Keep.ite ?_ ?_

theorem execScheduledWrite_keep (s : State) (a1 a2 a3 a4 a5) :
    ∃ t, execScheduledWrite a1 a2 a3 a4 a5 s = .next t ∧ Keep 4124669 s t := by
  refine ⟨_, rfl, ?_⟩
  have h := Keep.refl 4124669 s
  have hM : Nat.land 4124669 4124669 = 4124669 := rfl
  repeat' first
    | with_reducible assumption
    | exact Zone.sub rfl hM
    | with_reducible refine State.ownerEffect_keep ?_ ?_ _ _ _ _ _
    | with_reducible refine State.hostWrite_keep ?_ ?_ _ _ _ _ _ (fun v t h => ?_)

end Sys2Proof.Machine
end

