-- ==== Sys2Proof/Laws/KeepRun.lean ====
section
/-! SUPPORT. What the operations of restarts, received cores and the superframe boundary keep. The number of each lemma is the
set of parts of the state it may change (`Keep`). -/

namespace Sys2Proof.Machine

set_option Elab.async false
set_option linter.all false

theorem State.applyRetired_keep {M r s} (h : Keep M r s) (hM : Nat.land 288 M = 288) (a1 a2) :
    Keep M r (State.applyRetired s a1 a2) := by
  unfold State.applyRetired
  repeat' first
    | with_reducible assumption
    | exact Zone.sub rfl hM
    | with_reducible first | refine State.setSlice_keep ?_ ?_ _ _ _ _ | refine State.setBank_keep ?_ ?_ _ _
    | with_reducible first | refine State.setBlock_keep ?_ ?_ _ _ | refine State.setRet_keep ?_ ?_ _ _
    | with_reducible refine Keep.ite ?_ ?_
    | (simp -zeta only [↓Keep.mk_iff]; with_reducible refine KeepF.upd_mem ?_ ?_ rfl)
    | (extract_lets +onlyGivenNames y; have hy : Keep M r y := ?_
       rotate_left; subst y; rotate_left; clear_value y)

theorem State.applyRetirement_keep {M r s} (h : Keep M r s) (hM : Nat.land 361 M = 361) :
    Keep M r (State.applyRetirement s) := by
  unfold State.applyRetirement
  repeat' first
    | with_reducible assumption
    | exact Zone.sub rfl hM
    | (intro)
    | with_reducible first | refine State.applyRetired_keep ?_ ?_ _ _ | refine State.put_keep ?_ ?_ _ _ _
    | with_reducible first | refine State.setHealth_keep ?_ ?_ _ _ | refine Keep.foldl ?_ ?_ _
    | split

theorem State.bootImage_keep {M r s} (h : Keep M r s) (hM : Nat.land 1081417 M = 1081417) (a1) :
    Keep M r (State.bootImage s a1).2 := by
  unfold State.bootImage
  repeat' first
    | with_reducible assumption
    | exact Zone.sub rfl hM
    | (intro)
    | with_reducible first | refine State.log_keep ?_ ?_ _ _ | refine State.setImg_keep ?_ ?_ _
    | with_reducible first | refine State.measure_keep ?_ ?_ _ _ | refine State.put_keep ?_ ?_ _ _ _
    | with_reducible first | refine Keep.ite ?_ ?_ | refine Keep.foldl ?_ ?_ _
    | (extract_lets +onlyGivenNames y; have hy : Keep M r y := ?_
       rotate_left; subst y; rotate_left; clear_value y)
    | (extract_lets +onlyGivenNames y; clear_value y)
    | split

theorem State.cutWrites_keep {M r s} (h : Keep M r s) (hM : Nat.land 32 M = 32) :
    Keep M r (State.cutWrites s) := by
  unfold State.cutWrites
  repeat' first
    | with_reducible assumption
    | (simp -zeta only [↓Keep.mk_iff]; with_reducible refine KeepF.upd_mem ?_ ?_ rfl)
    | (extract_lets +onlyGivenNames y; clear_value y)

theorem State.deriveSlot_keep {M r s} (h : Keep M r s) (hM : Nat.land 32768 M = 32768) (a1) :
    Keep M r (State.deriveSlot s a1) := by
  unfold State.deriveSlot
  repeat' first
    | with_reducible first | assumption | refine State.putSlot_keep ?_ ?_ _ _ _ | refine Keep.ite ?_ ?_

theorem State.ignoreRec_keep {M r s} (h : Keep M r s) (hM : Nat.land 73 M = 73) (a1 a2 a3 a4) :
    Keep M r (State.ignoreRec s a1 a2 a3 a4) := by
  unfold State.ignoreRec
  repeat' first
    | with_reducible assumption
    | exact Zone.sub rfl hM
    | with_reducible first | refine State.log_keep ?_ ?_ _ _ | refine State.bump_keep ?_ ?_ _ _
    | with_reducible refine Keep.ite ?_ ?_

theorem State.reloadSlot_keep {M r s} (h : Keep M r s) (hM : Nat.land 32841 M = 32841) (a1 a2) :
    Keep M r (State.reloadSlot s a1 a2) := by
  unfold State.reloadSlot
  repeat' first
    | with_reducible assumption
    | exact Zone.sub rfl hM
    | with_reducible first | refine State.setGr_keep ?_ ?_ _ | refine State.putSlot_keep ?_ ?_ _ _ _
    | with_reducible first | refine State.log_keep ?_ ?_ _ _ | refine State.emptySlot_keep ?_ ?_ _
    | with_reducible refine Keep.ite ?_ ?_
    | (extract_lets +onlyGivenNames y; have hy : Keep M r y := ?_
       rotate_left; subst y; rotate_left; clear_value y)
    | split

theorem State.loadSlots_keep {M r s} (h : Keep M r s) (hM : Nat.land 32841 M = 32841) (a1) :
    Keep M r (State.loadSlots s a1) := by
  unfold State.loadSlots
  repeat' first
    | with_reducible assumption
    | exact Zone.sub rfl hM
    | (intro)
    | with_reducible first | refine State.deriveSlot_keep ?_ ?_ _ | refine State.reloadSlot_keep ?_ ?_ _ _
    | with_reducible refine Keep.foldl ?_ ?_ _

theorem State.markBad_keep {M r s} (h : Keep M r s) (hM : Nat.land 32 M = 32) (a1) :
    Keep M r (State.markBad s a1) := by
  unfold State.markBad
  repeat' first
    | with_reducible assumption
    | (simp -zeta only [↓Keep.mk_iff]; with_reducible refine KeepF.upd_mem ?_ ?_ rfl)

theorem State.mount_keep {M r s} (h : Keep M r s) (hM : Nat.land 32873 M = 32873) (a1 a2) :
    Keep M r (State.mount s a1 a2) := by
  unfold State.mount
  repeat' first
    | with_reducible assumption
    | exact Zone.sub rfl hM
    | (intro)
    | with_reducible first | refine State.put_keep ?_ ?_ _ _ _ | refine State.markBad_keep ?_ ?_ _
    | with_reducible first | refine State.ignoreRec_keep ?_ ?_ _ _ _ _ | refine State.extend_keep ?_ ?_ _ _
    | with_reducible first | refine State.log_keep ?_ ?_ _ _ | refine Keep.foldl ?_ ?_ _

theorem State.slotsBoundary_keep {M r s} (h : Keep M r s) (hM : Nat.land 32873 M = 32873) :
    Keep M r (State.slotsBoundary s) := by
  unfold State.slotsBoundary
  repeat' first
    | with_reducible assumption
    | exact Zone.sub rfl hM
    | (intro)
    | with_reducible first | refine State.setGr_keep ?_ ?_ _ | refine State.deriveSlot_keep ?_ ?_ _
    | with_reducible first | refine State.reloadSlot_keep ?_ ?_ _ _ | refine State.log_keep ?_ ?_ _ _
    | with_reducible first | refine Keep.ite ?_ ?_ | refine Keep.foldl ?_ ?_ _
    | (simp -zeta only [↓Keep.mk_iff]; with_reducible refine KeepF.upd_mem ?_ ?_ rfl)
    | (extract_lets +onlyGivenNames y; have hy : Keep M r y := ?_
       rotate_left; subst y; rotate_left; clear_value y)
    | (extract_lets +onlyGivenNames y; clear_value y)

theorem State.takeLearned_keep {M r s} (h : Keep M r s) (hM : Nat.land 585 M = 585) (a1) :
    Keep M r (State.takeLearned s a1) := by
  unfold State.takeLearned
  repeat' first
    | with_reducible assumption
    | exact Zone.sub rfl hM
    | with_reducible first | refine State.log_keep ?_ ?_ _ _ | refine Keep.ite ?_ ?_
    | (simp -zeta only [↓Keep.mk_iff]; with_reducible refine KeepF.upd_cal ?_ ?_)

theorem State.applyHeld_keep {M r s} (h : Keep M r s) (hM : Nat.land 568797 M = 568797) (a1) :
    Keep M r (State.applyHeld s a1) := by
  unfold State.applyHeld
  repeat' first
    | with_reducible assumption
    | exact Zone.sub rfl hM
    | (intro)
    | with_reducible first | refine State.settingEffect_keep ?_ ?_ _ _ _ | refine Keep.foldl ?_ ?_ _
    | (simp -zeta only [↓Keep.mk_iff]; with_reducible refine KeepF.upd_pow ?_ ?_ rfl)

theorem State.beginAcq_keep {M r s} (h : Keep M r s) (hM : Nat.land 1113 M = 1113) (a1 a2) :
    Keep M r (State.beginAcq s a1 a2) := by
  unfold State.beginAcq
  repeat' first
    | with_reducible assumption
    | exact Zone.sub rfl hM
    | with_reducible first | refine State.setRx_keep ?_ ?_ _ _ | refine State.startAcq_keep ?_ ?_ _ _
    | with_reducible refine Keep.ite ?_ ?_

theorem State.checkBank_keep {M r s} (h : Keep M r s) (hM : Nat.land 8388713 M = 8388713) (a1 a2 a3) :
    Keep M r (State.checkBank s a1 a2 a3) := by
  unfold State.checkBank
  repeat' first
    | with_reducible assumption
    | exact Zone.sub rfl hM
    | with_reducible first | refine State.setRet_keep ?_ ?_ _ _ | refine State.log_keep ?_ ?_ _ _
    | with_reducible first | refine State.clearRetBank_keep ?_ ?_ _ | refine Keep.ite ?_ ?_

theorem State.cpLost_keep {M r s} (h : Keep M r s) (hM : Nat.land 67108937 M = 67108937) :
    Keep M r (State.cpLost s) := by
  unfold State.cpLost
  repeat' first
    | with_reducible assumption
    | exact Zone.sub rfl hM
    | with_reducible first | refine State.addTo_keep ?_ ?_ _ _ _ _ | refine State.countersLost_keep ?_ ?_ _ _
    | (simp -zeta only [↓Keep.mk_iff]; refine KeepF.of ?_ hM rfl rfl rfl rfl rfl rfl)

theorem State.tableLost_keep {M r s} (h : Keep M r s) (hM : Nat.land 77 M = 77) :
    Keep M r (State.tableLost s) := by
  unfold State.tableLost
  repeat' first
    | with_reducible assumption
    | exact Zone.sub rfl hM
    | (intro)
    | with_reducible first | refine State.log_keep ?_ ?_ _ _ | refine State.setEntries_keep ?_ ?_ _
    | with_reducible first | refine State.missEntry_keep ?_ ?_ _ _ | refine State.dropEvent_keep ?_ ?_ _ _
    | with_reducible first | refine Keep.ite ?_ ?_ | refine Keep.foldl ?_ ?_ _

theorem State.liveLost_keep {M r s} (h : Keep M r s) (hM : Nat.land 1 M = 1) :
    Keep M r (State.liveLost s) := by
  unfold State.liveLost
  repeat' first
    | with_reducible assumption
    | (simp -zeta only [↓Keep.mk_iff]; with_reducible refine KeepF.upd_live ?_ ?_)
    | (extract_lets +onlyGivenNames y; clear_value y)

theorem State.ctlWoken_keep {M r s} (h : Keep M r s) (hM : Nat.land 67141741 M = 67141741) (a1) :
    Keep M r (State.ctlWoken s a1) := by
  unfold State.ctlWoken
  repeat' first
    | with_reducible assumption
    | exact Zone.sub rfl hM
    | with_reducible first | refine State.tableLost_keep ?_ ?_ | refine State.fresh_keep ?_ ?_ _
    | with_reducible first | refine State.mount_keep ?_ ?_ _ _ | refine State.liveLost_keep ?_ ?_
    | with_reducible first | refine State.cpLost_keep ?_ ?_ | refine Keep.ite ?_ ?_

theorem State.slowWake_keep {M r s} (h : Keep M r s) (hM : Nat.land 73 M = 73) (a1) :
    Keep M r (State.slowWake s a1) := by
  unfold State.slowWake
  repeat' first
    | with_reducible first | assumption | refine State.log_keep ?_ ?_ _ _ | refine Keep.ite ?_ ?_

theorem State.retentionCheck_keep {M r s} (h : Keep M r s) (hM : Nat.land 8388713 M = 8388713) (a1 a2) :
    Keep M r (State.retentionCheck s a1 a2).2.2 := by
  unfold State.retentionCheck
  repeat' first
    | with_reducible assumption
    | (intro)
    | with_reducible first | refine State.checkBank_keep ?_ ?_ _ _ _ | refine Keep.foldl ?_ ?_ _

theorem State.runStall_keep {M r s} (h : Keep M r s) (hM : Nat.land 4124669 M = 4124669) (x) : Keep M r (s.runStall x) :=
  finishWrite_keep (State.ownerEffect_keep h (Zone.sub rfl hM) _ _ _ _ _) (Zone.sub rfl hM) _ _ _ _ _

theorem State.runStalls_keep {M r s} (h : Keep M r s) (hM : Nat.land 4124669 M = 4124669) (a1) :
    Keep M r (State.runStalls s a1) := by
  unfold State.runStalls
  repeat' first
    | with_reducible assumption
    | exact Zone.sub rfl hM
    | (intro)
    | with_reducible first | refine State.setAop_keep ?_ ?_ _ | refine State.runStall_keep ?_ ?_ _
    | with_reducible refine Keep.foldl ?_ ?_ _

theorem State.grottoLost_keep {M r s} (h : Keep M r s) (hM : Nat.land 49369 M = 49369) :
    Keep M r (State.grottoLost s) := by
  unfold State.grottoLost
  repeat' first
    | with_reducible assumption
    | exact Zone.sub rfl hM
    | (intro)
    | with_reducible first | refine State.emptySlot_keep ?_ ?_ _ | refine State.setGr_keep ?_ ?_ _
    | with_reducible first | refine State.loadSlots_keep ?_ ?_ _ | refine State.rootsGone_keep ?_ ?_ _
    | with_reducible first | refine State.log_keep ?_ ?_ _ _ | refine State.startAgree_keep ?_ ?_ _
    | with_reducible refine Keep.foldl ?_ ?_ _

theorem State.quadAwake_keep {M r s} (h : Keep M r s) (hM : Nat.land 89 M = 89) (a1) :
    Keep M r (State.quadAwake s a1) := by
  unfold State.quadAwake
  repeat' first
    | with_reducible assumption
    | exact Zone.sub rfl hM
    | (intro)
    | with_reducible first | refine State.quadWoken_keep ?_ ?_ _ | refine State.ask_keep ?_ ?_ _ _ _
    | with_reducible first | refine State.laneState_keep ?_ ?_ _ _ | refine Keep.ite ?_ ?_
    | with_reducible refine Keep.foldl ?_ ?_ _

theorem State.txWoken_keep {M r s} (h : Keep M r s) (hM : Nat.land 2637 M = 2637) (a1 a2) :
    Keep M r (State.txWoken s a1 a2) := by
  unfold State.txWoken
  repeat' first
    | with_reducible assumption
    | exact Zone.sub rfl hM
    | with_reducible first | refine State.setLoading_keep ?_ ?_ _ _ _ | refine State.armLoads_keep ?_ ?_ _ _ _
    | with_reducible first | refine State.wakeSetLoads_keep ?_ ?_ _ _ _ | refine Keep.ite ?_ ?_

theorem State.rxWoken_keep {M r s} (h : Keep M r s) (hM : Nat.land 3677 M = 3677) (a1 a2 a3) :
    Keep M r (State.rxWoken s a1 a2 a3) := by
  unfold State.rxWoken
  repeat' first
    | with_reducible assumption
    | exact Zone.sub rfl hM
    | (intro)
    | with_reducible first | refine State.armLoads_keep ?_ ?_ _ _ _ | refine State.wakeSetLoads_keep ?_ ?_ _ _ _
    | with_reducible first | refine State.setLoading_keep ?_ ?_ _ _ _ | refine State.iqReset_keep ?_ ?_ _ _
    | with_reducible first | refine State.put_keep ?_ ?_ _ _ _ | refine State.setValidity_keep ?_ ?_ _ _
    | with_reducible first | refine State.setLd_keep ?_ ?_ _ _ | refine State.beginAcq_keep ?_ ?_ _ _
    | with_reducible first | refine Keep.ite ?_ ?_ | refine Keep.foldl ?_ ?_ _

theorem State.woken_keep {M r s} (h : Keep M r s) (hM : Nat.land 67690237 M = 67690237) (a1 a2 a3) :
    Keep M r (State.woken s a1 a2 a3) := by
  unfold State.woken
  repeat' first
    | with_reducible assumption
    | exact Zone.sub rfl hM
    | with_reducible first | refine State.ctlWoken_keep ?_ ?_ _ | refine State.grottoLost_keep ?_ ?_
    | with_reducible first | refine State.startUnits_keep ?_ ?_ | refine State.svcWoken_keep ?_ ?_ _ _
    | with_reducible first | refine State.quadAwake_keep ?_ ?_ _ | refine State.bankWoken_keep ?_ ?_ _
    | with_reducible first | refine State.txWoken_keep ?_ ?_ _ _ | refine State.rxWoken_keep ?_ ?_ _ _ _
    | with_reducible refine Keep.ite ?_ ?_

theorem State.finishWake_keep {M r s} (h : Keep M r s) (hM : Nat.land 79626237 M = 79626237) (a1 a2) :
    Keep M r (State.finishWake s a1 a2) := by
  unfold State.finishWake
  repeat' first
    | with_reducible assumption
    | exact Zone.sub rfl hM
    | with_reducible first | refine State.clearDomainSram_keep ?_ ?_ _ | refine State.slowWake_keep ?_ ?_ _
    | with_reducible first | refine State.retentionCheck_keep ?_ ?_ _ _ | refine State.touch_keep ?_ ?_ _
    | with_reducible first | refine State.setDom_keep ?_ ?_ _ _ | refine State.runStalls_keep ?_ ?_ _
    | with_reducible first | refine State.applyHeld_keep ?_ ?_ _ | refine State.woken_keep ?_ ?_ _ _ _

theorem State.partsBoundary_keep {M r s} (h : Keep M r s) (hM : Nat.land 601 M = 601) :
    Keep M r (State.partsBoundary s) := by
  unfold State.partsBoundary
  repeat' first
    | with_reducible assumption
    | exact Zone.sub rfl hM
    | (intro)
    | with_reducible first | refine State.startPriv_keep ?_ ?_ _ _ | refine Keep.foldl ?_ ?_ _
    | (simp -zeta only [↓Keep.mk_iff]; with_reducible refine KeepF.upd_cal ?_ ?_)

theorem execDomainWakeComplete_keep (s : State) (a1 a2) :
    ∃ t, execDomainWakeComplete a1 a2 s = .next t ∧ Keep 79626237 s t := by
  refine ⟨_, rfl, ?_⟩
  have h := Keep.refl 79626237 s
  have hM : Nat.land 79626237 79626237 = 79626237 := rfl
  repeat' first
    | with_reducible first | assumption | refine State.finishWake_keep ?_ ?_ _ _ | refine Keep.ite ?_ ?_

theorem execStallLimit_keep (s : State) (a1) :
    ∃ t, execStallLimit a1 s = .next t ∧ Keep 73 s t := by
  refine ⟨_, rfl, ?_⟩
  have h := Keep.refl 73 s
  have hM : Nat.land 73 73 = 73 := rfl
  repeat' first
    | with_reducible assumption
    | exact Zone.sub rfl hM
    | with_reducible first | refine State.setAop_keep ?_ ?_ _ | refine State.refuse_keep ?_ ?_ _ _ _ _ _
    | with_reducible first | refine State.log_keep ?_ ?_ _ _ | refine Keep.ite ?_ ?_
    | (extract_lets +onlyGivenNames y; have hy : Keep 73 s y := ?_
       rotate_left; subst y; rotate_left; clear_value y)
    | split

theorem execWakeStallProgress_keep (s : State) (a1) :
    ∃ t, execWakeStallProgress a1 s = .next t ∧ Keep 64 s t := by
  refine ⟨_, rfl, ?_⟩
  have h := Keep.refl 64 s
  have hM : Nat.land 64 64 = 64 := rfl
  repeat' first
    | with_reducible assumption
    | exact Zone.sub rfl hM
    | with_reducible first | refine State.setAop_keep ?_ ?_ _ | refine State.violate_keep ?_ ?_ _ _ _ _ _
    | with_reducible first | refine State.sendTo_keep ?_ ?_ _ _ | refine Keep.ite ?_ ?_
    | split

theorem State.carryTime_keep {M r s} (h : Keep M r s) (hM : Nat.land 150994949 M = 150994949) (a1) :
    Keep M r (State.carryTime s a1) := by
  unfold State.carryTime
  repeat' first
    | with_reducible assumption
    | exact Zone.sub rfl hM
    | with_reducible refine State.put_keep ?_ ?_ _ _ _
    | (simp -zeta only [↓Keep.mk_iff]; refine KeepF.of ?_ hM rfl rfl rfl rfl rfl rfl)

theorem State.sleepNow_keep {M r s} (h : Keep M r s) (hM : Nat.land 8390141 M = 8390141) (a1) :
    Keep M r (State.sleepNow s a1) := by
  unfold State.sleepNow
  repeat' first
    | with_reducible first | assumption | refine State.supplyOff_keep ?_ ?_ _ | refine Keep.ite ?_ ?_

theorem State.keepAliveEnter_keep {M r s} (h : Keep M r s) (hM : Nat.land 42010109 M = 42010109) :
    Keep M r (State.keepAliveEnter s) := by
  unfold State.keepAliveEnter
  repeat' first
    | with_reducible assumption
    | exact Zone.sub rfl hM
    | (intro)
    | with_reducible first | refine State.log_keep ?_ ?_ _ _ | refine State.closeAll_keep ?_ ?_ _
    | with_reducible first | refine State.sleepNow_keep ?_ ?_ _ | refine State.put_keep ?_ ?_ _ _ _
    | with_reducible refine Keep.foldl ?_ ?_ _
    | (simp -zeta only [↓Keep.mk_iff]; refine KeepF.of ?_ hM rfl rfl rfl rfl rfl rfl)

theorem State.keepAliveRun_keep {M r s} (h : Keep M r s) (hM : Nat.land 42010109 M = 42010109) :
    Keep M r (State.keepAliveRun s) := by
  unfold State.keepAliveRun
  repeat' first
    | with_reducible assumption
    | exact Zone.sub rfl hM
    | with_reducible first | refine State.log_keep ?_ ?_ _ _ | refine State.keepAliveEnter_keep ?_ ?_
    | split

theorem State.keepAliveWoken_keep {M r s} (h : Keep M r s) (hM : Nat.land 25 M = 25) (a1) :
    Keep M r (State.keepAliveWoken s a1) := by
  unfold State.keepAliveWoken
  repeat' first
    | with_reducible assumption
    | exact Zone.sub rfl hM
    | with_reducible first | refine State.touch_keep ?_ ?_ _ | refine State.setDom_keep ?_ ?_ _ _
    | with_reducible first | refine State.beginWake_keep ?_ ?_ _ | refine State.askPrivileged_keep ?_ ?_ _ _ _
    | with_reducible refine Keep.ite ?_ ?_

theorem State.logVin_keep {M r s} (h : Keep M r s) (hM : Nat.land 73 M = 73) (a1 a2 a3) :
    Keep M r (State.logVin s a1 a2 a3) := by
  unfold State.logVin
  repeat' first
    | with_reducible first | assumption | refine State.log_keep ?_ ?_ _ _ | refine Keep.ite ?_ ?_

theorem State.measureConfig_keep {M r s} (h : Keep M r s) (hM : Nat.land 32768 M = 32768) :
    Keep M r (State.measureConfig s) := by
  unfold State.measureConfig
  repeat' first
    | with_reducible first | assumption | refine State.extend_keep ?_ ?_ _ _

theorem State.missAgreed_keep {M r s} (h : Keep M r s) (hM : Nat.land 77 M = 77) (a1) :
    Keep M r (State.missAgreed s a1) := by
  unfold State.missAgreed
  repeat' first
    | with_reducible assumption
    | (intro)
    | with_reducible first | refine State.missEntry_keep ?_ ?_ _ _ | refine State.cancelEntry_keep ?_ ?_ _
    | with_reducible first | refine Keep.ite ?_ ?_ | refine Keep.foldl ?_ ?_ _

theorem State.passedEntries_keep {M r s} (h : Keep M r s) (hM : Nat.land 77 M = 77) :
    Keep M r (State.passedEntries s) := by
  unfold State.passedEntries
  repeat' first
    | with_reducible assumption
    | exact Zone.sub rfl hM
    | with_reducible first | refine State.missAgreed_keep ?_ ?_ _ | refine State.setEntries_keep ?_ ?_ _

theorem State.powerDown_keep {M r s} (h : Keep M r s) (hM : Nat.land 33554448 M = 33554448) (a1) :
    Keep M r (State.powerDown s a1) := by
  unfold State.powerDown
  repeat' first
    | with_reducible assumption
    | (simp -zeta only [↓Keep.mk_iff]; refine KeepF.of ?_ hM rfl rfl rfl rfl rfl rfl)
    | (extract_lets +onlyGivenNames y; clear_value y)

theorem State.privDone_keep {M r s} (h : Keep M r s) (hM : Nat.land 8029 M = 8029) :
    Keep M r (State.privDone s) := by
  unfold State.privDone
  repeat' first
    | with_reducible assumption
    | exact Zone.sub rfl hM
    | (intro)
    | (extract_lets +onlyGivenNames y; have hy : Keep M r y := ?_
       rotate_left; subst y; rotate_left; clear_value y)
    | (extract_lets +onlyGivenNames y; have : Power := y; clear this; subst y)
    | with_reducible first | refine State.put_keep ?_ ?_ _ _ _ | refine State.release_keep ?_ ?_ _ _
    | with_reducible first | refine State.log_keep ?_ ?_ _ _ | refine State.armLoads_keep ?_ ?_ _ _ _
    | with_reducible first | refine State.plannedShed_keep ?_ ?_ | refine State.beginAcq_keep ?_ ?_ _ _
    | with_reducible first | refine Keep.ite ?_ ?_ | refine Keep.foldl ?_ ?_ _
    | (simp -zeta only [↓Keep.mk_iff]; with_reducible refine KeepF.upd_pow ?_ ?_ rfl)

theorem State.restarted_keep {M r s} (h : Keep M r s) (hM : Nat.land 268435455 M = 268435455) : Keep M r s.restarted := by
  unfold State.restarted
  extract_lets c x y
  refine Keep.foldl ?_ (fun t i ht => State.put_keep ht (Zone.sub rfl hM) _ _ _) _
  exact h.trans (Keep.whole hM rfl ⟨rfl, fun p hp => absurd hp List.not_mem_nil⟩ (Nat.le_refl _) List.suffix_rfl
    (Nat.le_refl _) ⟨Nat.zero_le _, fun p hp => absurd hp List.not_mem_nil, List.Pairwise.nil⟩)

theorem State.restart_keep {M r s} (h : Keep M r s) (hM : Nat.land 268435455 M = 268435455) (a1) :
    Keep M r (State.restart s a1) := by
  unfold State.restart
  repeat' first
    | with_reducible assumption
    | exact Zone.sub rfl hM
    | (intro)
    | with_reducible first | refine State.put_keep ?_ ?_ _ _ _ | refine State.restarted_keep ?_ ?_
    | with_reducible first | refine State.logAfter_keep ?_ ?_ _ _ | refine Keep.ite ?_ ?_
    | with_reducible refine Keep.foldl ?_ ?_ _
    | (simp -zeta only [↓Keep.mk_iff]; with_reducible refine KeepF.upd_diag ?_ ?_ rfl rfl rfl)
    | (simp -zeta only [↓Keep.mk_iff]; with_reducible refine KeepF.upd_pow ?_ ?_ rfl)
    | (extract_lets +onlyGivenNames y; have hy : Keep M r y := ?_
       rotate_left; subst y; rotate_left; clear_value y)
    | (extract_lets +onlyGivenNames y; have : Power := y; clear this; subst y)

theorem State.runDomain_keep {M r s} (h : Keep M r s) (hM : Nat.land 16 M = 16) (a1) :
    Keep M r (State.runDomain s a1) := by
  unfold State.runDomain
  repeat' first
    | with_reducible first | assumption | refine State.setDom_keep ?_ ?_ _ _

theorem State.startAllotment_keep {M r s} (h : Keep M r s) (hM : Nat.land 16 M = 16) :
    Keep M r (State.startAllotment s) := by
  unfold State.startAllotment
  repeat' first
    | with_reducible assumption
    | (intro)
    | with_reducible first | refine State.enter_keep ?_ ?_ _ _ _ | refine Keep.ite ?_ ?_ | refine Keep.foldl ?_ ?_ _

theorem State.startCarrier_keep {M r s} (h : Keep M r s) (hM : Nat.land 3073 M = 3073) (a1) :
    Keep M r (State.startCarrier s a1) := by
  unfold State.startCarrier
  repeat' first
    | with_reducible assumption
    | exact Zone.sub rfl hM
    | with_reducible first | refine State.setLoading_keep ?_ ?_ _ _ _ | refine State.setRx_keep ?_ ?_ _ _

theorem State.startLink_keep {M r s} (h : Keep M r s) (hM : Nat.land 311385 M = 311385) :
    Keep M r (State.startLink s) := by
  unfold State.startLink
  repeat' first
    | with_reducible assumption
    | exact Zone.sub rfl hM
    | (intro)
    | with_reducible first | refine State.turnCtx_keep ?_ ?_ _ _ _ _ | refine State.put_keep ?_ ?_ _ _ _
    | with_reducible first | refine State.setAv_keep ?_ ?_ _ | refine Keep.ite ?_ ?_ | refine Keep.foldl ?_ ?_ _

theorem State.startPorts_keep {M r s} (h : Keep M r s) (hM : Nat.land 64 M = 64) :
    Keep M r (State.startPorts s) := by
  unfold State.startPorts
  repeat' first
    | with_reducible assumption
    | (intro)
    | with_reducible first | refine State.staticAddress_keep ?_ ?_ _ | refine State.assignAddress_keep ?_ ?_ _ _
    | with_reducible refine Keep.foldl ?_ ?_ _

theorem State.vinOut_keep {M r s} (h : Keep M r s) (hM : Nat.land 89 M = 89) (a1 a2) :
    Keep M r (State.vinOut s a1 a2) := by
  unfold State.vinOut
  repeat' first
    | with_reducible assumption
    | exact Zone.sub rfl hM
    | with_reducible first | refine State.logVin_keep ?_ ?_ _ _ _ | refine Keep.ite ?_ ?_
    | (simp -zeta only [↓Keep.mk_iff]; with_reducible refine KeepF.upd_pow ?_ ?_ rfl)

theorem execAonLost_keep (s : State) :
    ∃ t, execAonLost s = .next t ∧ Keep 33554448 s t := by
  refine ⟨_, rfl, ?_⟩
  have h := Keep.refl 33554448 s
  have hM : Nat.land 33554448 33554448 = 33554448 := rfl
  repeat' first
    | with_reducible first | assumption | refine State.powerDown_keep ?_ ?_ _

theorem execBrownOut_keep (s : State) (a1) :
    ∃ t, execBrownOut a1 s = .next t ∧ Keep 268435455 s t := by
  refine ⟨_, rfl, ?_⟩
  have h := Keep.refl 268435455 s
  have hM : Nat.land 268435455 268435455 = 268435455 := rfl
  repeat' first
    | with_reducible assumption
    | exact Zone.sub rfl hM
    | with_reducible first | refine State.put_keep ?_ ?_ _ _ _ | refine State.bump_keep ?_ ?_ _ _
    | with_reducible first | refine State.powerDown_keep ?_ ?_ _ | refine State.restart_keep ?_ ?_ _
    | with_reducible refine Keep.ite ?_ ?_

theorem execCpRelease_keep (s : State) (a1) :
    ∃ t, execCpRelease a1 s = .next t ∧ Keep 2945023 s t := by
  refine ⟨_, rfl, ?_⟩
  have h := Keep.refl 2945023 s
  have hM : Nat.land 2945023 2945023 = 2945023 := rfl
  repeat' first
    | with_reducible assumption
    | exact Zone.sub rfl hM
    | (intro)
    | (extract_lets +onlyGivenNames y; have hy : Keep 2945023 s y := ?_
       rotate_left; subst y; rotate_left; clear_value y)
    | (extract_lets +onlyGivenNames y; have : Mem := y; clear this; subst y)
    | (extract_lets +onlyGivenNames y; clear_value y)
    | with_reducible first | refine State.startAllotment_keep ?_ ?_ | refine State.put_keep ?_ ?_ _ _ _
    | with_reducible first | refine State.log_keep ?_ ?_ _ _ | refine State.startCarrier_keep ?_ ?_ _
    | with_reducible first | refine State.dictImageApply_keep ?_ ?_ | refine State.bankSlept_keep ?_ ?_ _
    | with_reducible first | refine State.startPorts_keep ?_ ?_ | refine State.startLink_keep ?_ ?_
    | with_reducible first | refine State.setBus_keep ?_ ?_ _ | refine State.setGrp_keep ?_ ?_ _
    | with_reducible first | refine State.startPriv_keep ?_ ?_ _ _ | refine Keep.ite ?_ ?_
    | with_reducible refine Keep.foldl ?_ ?_ _
    | (simp -zeta only [↓Keep.mk_iff]; refine KeepF.of ?_ hM rfl rfl rfl rfl rfl rfl)

theorem execKeepAliveExit_keep (s : State) (a1 a2 a3 a4) :
    ∃ t, execKeepAliveExit a1 a2 a3 a4 s = .next t ∧ Keep 262177405 s t := by
  refine ⟨_, rfl, ?_⟩
  have h := Keep.refl 262177405 s
  have hM : Nat.land 262177405 262177405 = 262177405 := rfl
  repeat' first
    | with_reducible assumption
    | exact Zone.sub rfl hM
    | with_reducible first | refine State.put_keep ?_ ?_ _ _ _ | refine State.carryTime_keep ?_ ?_ _
    | with_reducible first | refine State.clearDomainSram_keep ?_ ?_ _ | refine State.keepAliveWoken_keep ?_ ?_ _
    | with_reducible first | refine State.retentionCheck_keep ?_ ?_ _ _ | refine State.passedEntries_keep ?_ ?_
    | with_reducible first | refine State.ctlWoken_keep ?_ ?_ _ | refine State.setBus_keep ?_ ?_ _
    | with_reducible first | refine State.setGrp_keep ?_ ?_ _ | refine State.log_keep ?_ ?_ _ _
    | with_reducible first | refine State.bump_keep ?_ ?_ _ _ | refine State.startPriv_keep ?_ ?_ _ _
    | with_reducible refine Keep.ite ?_ ?_
    | (simp -zeta only [↓Keep.mk_iff]; with_reducible refine KeepF.upd_cal ?_ ?_)
    | (simp -zeta only [↓Keep.mk_iff]; refine KeepF.of ?_ hM rfl rfl rfl rfl rfl rfl)
    | dsimp -zeta only
    | (extract_lets +onlyGivenNames y; have hy : Keep 262177405 s y := ?_
       rotate_left; subst y; rotate_left; clear_value y)
    | (extract_lets +onlyGivenNames y; have : Power := y; clear this; subst y)
    | (extract_lets +onlyGivenNames y; clear_value y)

theorem execLatchOffRestart_keep (s : State) :
    ∃ t, execLatchOffRestart s = .next t ∧ Keep 268435455 s t := by
  refine ⟨_, rfl, ?_⟩
  have h := Keep.refl 268435455 s
  have hM : Nat.land 268435455 268435455 = 268435455 := rfl
  repeat' first
    | with_reducible first | assumption | refine State.restart_keep ?_ ?_ _ | refine Keep.ite ?_ ?_

theorem execOverVoltageLatchOff_keep (s : State) :
    ∃ t, execOverVoltageLatchOff s = .next t ∧ Keep 33554448 s t := by
  refine ⟨_, rfl, ?_⟩
  have h := Keep.refl 33554448 s
  have hM : Nat.land 33554448 33554448 = 33554448 := rfl
  repeat' first
    | with_reducible first | assumption | refine State.powerDown_keep ?_ ?_ _
    | (simp -zeta only [↓Keep.mk_iff]; refine KeepF.of ?_ hM rfl rfl rfl rfl rfl rfl)

theorem execPowerOn_keep (s : State) :
    ∃ t, execPowerOn s = .next t ∧ Keep 268435455 s t := by
  refine ⟨_, rfl, ?_⟩
  have h := Keep.refl 268435455 s
  have hM : Nat.land 268435455 268435455 = 268435455 := rfl
  repeat' first
    | with_reducible first | assumption | refine State.restart_keep ?_ ?_ _ | refine Keep.ite ?_ ?_

theorem execPrivCalComplete_keep (s : State) (a1 a2 a3 a4) :
    ∃ t, execPrivCalComplete a1 a2 a3 a4 s = .next t ∧ Keep 8029 s t := by
  refine ⟨_, rfl, ?_⟩
  have h := Keep.refl 8029 s
  have hM : Nat.land 8029 8029 = 8029 := rfl
  repeat' first
    | with_reducible assumption
    | exact Zone.sub rfl hM
    | with_reducible first | refine State.put_keep ?_ ?_ _ _ _ | refine State.privFallback_keep ?_ ?_ _ _
    | with_reducible first | refine State.startPriv_keep ?_ ?_ _ _ | refine State.privDone_keep ?_ ?_
    | with_reducible refine Keep.ite ?_ ?_
    | (simp -zeta only [↓Keep.mk_iff]; with_reducible refine KeepF.upd_cal ?_ ?_)

theorem execResetRelease_keep (s : State) (a1) :
    ∃ t, execResetRelease a1 s = .next t ∧ Keep 1606521 s t := by
  refine ⟨_, rfl, ?_⟩
  have h := Keep.refl 1606521 s
  have hM : Nat.land 1606521 1606521 = 1606521 := rfl
  repeat' first
    | with_reducible assumption
    | exact Zone.sub rfl hM
    | (intro)
    | with_reducible first | refine State.put_keep ?_ ?_ _ _ _ | refine State.runDomain_keep ?_ ?_ _
    | with_reducible first | refine State.beginWake_keep ?_ ?_ _ | refine State.deriveSlot_keep ?_ ?_ _
    | with_reducible first | refine State.takeLearned_keep ?_ ?_ _ | refine State.applyRetirement_keep ?_ ?_
    | with_reducible first | refine State.mount_keep ?_ ?_ _ _ | refine State.cutWrites_keep ?_ ?_
    | with_reducible first | refine State.bootImage_keep ?_ ?_ _ | refine State.reloadSlot_keep ?_ ?_ _ _
    | with_reducible first | refine State.putO_keep ?_ ?_ _ _ _ | refine State.svcWoken_keep ?_ ?_ _ _
    | with_reducible first | refine State.measureConfig_keep ?_ ?_ | refine Keep.ite ?_ ?_
    | with_reducible refine Keep.foldl ?_ ?_ _
    | (extract_lets +onlyGivenNames y; have hy : Keep 1606521 s y := ?_
       rotate_left; subst y; rotate_left; clear_value y)
    | (extract_lets +onlyGivenNames y; have hy : Keep 1606521 s y.2 := ?_
       rotate_left; subst y; rotate_left; clear_value y)
    | split

theorem execResetn_keep (s : State) (a1) :
    ∃ t, execResetn a1 s = .next t ∧ Keep 268435455 s t := by
  refine ⟨_, rfl, ?_⟩
  have h := Keep.refl 268435455 s
  have hM : Nat.land 268435455 268435455 = 268435455 := rfl
  repeat' first
    | with_reducible first | assumption | refine State.restart_keep ?_ ?_ _ | refine Keep.ite ?_ ?_

theorem execThermalTrip_keep (s : State) (a1) :
    ∃ t, execThermalTrip a1 s = .next t ∧ Keep 42010109 s t := by
  refine ⟨_, rfl, ?_⟩
  have h := Keep.refl 42010109 s
  have hM : Nat.land 42010109 42010109 = 42010109 := rfl
  repeat' first
    | with_reducible assumption
    | exact Zone.sub rfl hM
    | (intro)
    | with_reducible first | refine State.cutWrites_keep ?_ ?_ | refine State.missAgreed_keep ?_ ?_ _
    | with_reducible first | refine State.sleepNow_keep ?_ ?_ _ | refine State.keepAliveEnter_keep ?_ ?_
    | with_reducible first | refine Keep.ite ?_ ?_ | refine Keep.foldl ?_ ?_ _
    | (simp -zeta only [↓Keep.mk_iff]; with_reducible refine KeepF.upd_pow ?_ ?_ rfl)
    | (extract_lets +onlyGivenNames y; have hy : Keep 42010109 s y := ?_
       rotate_left; subst y; rotate_left; clear_value y)

theorem execVinAbove60_keep (s : State) (a1) :
    ∃ t, execVinAbove60 a1 s = .next t ∧ Keep 89 s t := by
  refine ⟨_, rfl, ?_⟩
  have h := Keep.refl 89 s
  have hM : Nat.land 89 89 = 89 := rfl
  repeat' first
    | with_reducible first | assumption | refine State.vinOut_keep ?_ ?_ _ _

theorem execVinBack_keep (s : State) (a1) :
    ∃ t, execVinBack a1 s = .next t ∧ Keep 89 s t := by
  refine ⟨_, rfl, ?_⟩
  have h := Keep.refl 89 s
  have hM : Nat.land 89 89 = 89 := rfl
  repeat' first
    | with_reducible assumption
    | exact Zone.sub rfl hM
    | with_reducible first | refine State.logVin_keep ?_ ?_ _ _ _ | refine Keep.ite ?_ ?_
    | (simp -zeta only [↓Keep.mk_iff]; with_reducible refine KeepF.upd_pow ?_ ?_ rfl)

theorem execVinBelow6_keep (s : State) (a1) :
    ∃ t, execVinBelow6 a1 s = .next t ∧ Keep 89 s t := by
  refine ⟨_, rfl, ?_⟩
  have h := Keep.refl 89 s
  have hM : Nat.land 89 89 = 89 := rfl
  repeat' first
    | with_reducible first | assumption | refine State.vinOut_keep ?_ ?_ _ _

theorem State.footAct_keep {M r s} (h : Keep M r s) (hM : Nat.land 395469 M = 395469) (a1 a2 a3 a4) :
    Keep M r (State.footAct s a1 a2 a3 a4) := by
  unfold State.footAct
  repeat' first
    | with_reducible assumption
    | exact Zone.sub rfl hM
    | with_reducible first | refine State.helloHeard_keep ?_ ?_ _ _ _ | refine State.bump_keep ?_ ?_ _ _
    | with_reducible first | refine State.farRecordHeard_keep ?_ ?_ _ | refine State.keeperOrder_keep ?_ ?_ _ _
    | with_reducible first | refine State.enterReset_keep ?_ ?_ _ | refine State.putO_keep ?_ ?_ _ _ _
    | with_reducible refine Keep.ite ?_ ?_

theorem execFootpathPacketEnd_keep (s : State) (a1 a2 a3 a4 a5) :
    ∃ t, execFootpathPacketEnd a1 a2 a3 a4 a5 s = .next t ∧ Keep 395469 s t := by
  refine ⟨_, rfl, ?_⟩
  have h := Keep.refl 395469 s
  have hM : Nat.land 395469 395469 = 395469 := rfl
  repeat' first
    | with_reducible assumption
    | exact Zone.sub rfl hM
    | with_reducible first | refine State.footSearch_keep ?_ ?_ _ | refine State.bump_keep ?_ ?_ _ _
    | with_reducible first | refine State.occur_keep ?_ ?_ _ _ | refine State.put_keep ?_ ?_ _ _ _
    | with_reducible first | refine State.footAct_keep ?_ ?_ _ _ _ _ | refine Keep.ite ?_ ?_

theorem State.dictPoison_keep {M r s} (h : Keep M r s) (hM : Nat.land 73 M = 73) (a1 a2 a3) :
    Keep M r (State.dictPoison s a1 a2 a3) := by
  unfold State.dictPoison
  repeat' first
    | with_reducible assumption
    | exact Zone.sub rfl hM
    | with_reducible first | refine State.log_keep ?_ ?_ _ _ | refine State.dropLive_keep ?_ ?_ _

theorem State.entryPoison_keep {M r s} (h : Keep M r s) (hM : Nat.land 77 M = 77) (a1) :
    Keep M r (State.entryPoison s a1) := by
  unfold State.entryPoison
  repeat' first
    | with_reducible assumption
    | exact Zone.sub rfl hM
    | with_reducible first | refine State.missEntry_keep ?_ ?_ _ _ | refine State.dropEvent_keep ?_ ?_ _ _
    | with_reducible first | refine State.freeEntry_keep ?_ ?_ _ | refine State.cancelEntry_keep ?_ ?_ _
    | with_reducible refine Keep.ite ?_ ?_
    | split

theorem State.movedOn_keep {M r s} (h : Keep M r s) (hM : Nat.land 121 M = 121) (a1 a2) :
    Keep M r (State.movedOn s a1 a2) := by
  unfold State.movedOn
  repeat' first
    | with_reducible assumption
    | exact Zone.sub rfl hM
    | (intro)
    | with_reducible first | refine State.blockRetired_keep ?_ ?_ _ | refine State.beginErase_keep ?_ ?_ _
    | with_reducible first | refine Keep.ite ?_ ?_ | refine Keep.foldl ?_ ?_ _
    | (simp -zeta only [↓Keep.mk_iff]; with_reducible refine KeepF.upd_mem ?_ ?_ rfl)

theorem State.ownerPoison_keep {M r s} (h : Keep M r s) (hM : Nat.land 644829 M = 644829) (a1 a2) :
    Keep M r (State.ownerPoison s a1 a2) := by
  unfold State.ownerPoison
  repeat' first
    | with_reducible assumption
    | exact Zone.sub rfl hM
    | with_reducible first | refine State.armLoad_keep ?_ ?_ _ _ _ _ | refine State.poolPoison_keep ?_ ?_ _ _
    | with_reducible first | refine State.setPool_keep ?_ ?_ _ | refine State.svcPoison_keep ?_ ?_ _ _ _
    | with_reducible first | refine State.dictPoison_keep ?_ ?_ _ _ _ | refine State.slotPoison_keep ?_ ?_ _
    | with_reducible first | refine State.keyPoison_keep ?_ ?_ _ _ _ | refine State.logC_keep ?_ ?_ _ _ _
    | with_reducible first | refine State.eqPoison_keep ?_ ?_ _ _ _ _ | refine State.belPoison_keep ?_ ?_ _ _
    | with_reducible first | refine State.entryPoison_keep ?_ ?_ _ | refine State.countersLost_keep ?_ ?_ _ _
    | with_reducible refine State.snapPoison_keep ?_ ?_ _ _
    | split

theorem State.recordCommitted_keep {M r s} (h : Keep M r s) (hM : Nat.land 1049163 M = 1049163) (a1) :
    Keep M r (State.recordCommitted s a1) := by
  unfold State.recordCommitted
  repeat' first
    | with_reducible assumption
    | exact Zone.sub rfl hM
    | with_reducible refine State.imageCommitted_keep ?_ ?_ _ _ _
    | with_reducible first | refine State.dictCommitted_keep ?_ ?_ _ _ _ | refine State.calSaved_keep ?_ ?_
    | with_reducible first | refine State.snapCommitted_keep ?_ ?_ _ _ | refine Keep.ite ?_ ?_

theorem State.reloadWord_keep {M r s} (h : Keep M r s) (hM : Nat.land 524363 M = 524363) (a1 a2) :
    Keep M r (State.reloadWord s a1 a2) := by
  unfold State.reloadWord
  repeat' first
    | with_reducible assumption
    | exact Zone.sub rfl hM
    | with_reducible first | refine State.log_keep ?_ ?_ _ _ | refine State.svcEntryReloaded_keep ?_ ?_ _
    | with_reducible refine State.takeUser_keep ?_ ?_ _
    | split

theorem State.sramHit_keep {M r s} (h : Keep M r s) (hM : Nat.land 644861 M = 644861) (a1 a2) :
    Keep M r (State.sramHit s a1 a2) := by
  unfold State.sramHit
  repeat' first
    | with_reducible assumption
    | exact Zone.sub rfl hM
    | with_reducible first | refine State.sramPoisoned_keep ?_ ?_ _ _ _ | refine State.ownerPoison_keep ?_ ?_ _ _
    | with_reducible first | refine State.sramCorrected_keep ?_ ?_ _ _ | refine Keep.ite ?_ ?_
    | (simp -zeta only [↓Keep.mk_iff]; with_reducible refine KeepF.upd_mem ?_ ?_ rfl)

theorem execCommitMarkerProgrammed_keep (s : State) :
    ∃ t, execCommitMarkerProgrammed s = .next t ∧ Keep 1049211 s t := by
  refine ⟨_, rfl, ?_⟩
  have h := Keep.refl 1049211 s
  have hM : Nat.land 1049211 1049211 = 1049211 := rfl
  repeat' first
    | with_reducible assumption
    | exact Zone.sub rfl hM
    | with_reducible first | refine State.touch_keep ?_ ?_ _ | refine State.countSectors_keep ?_ ?_ _ _
    | with_reducible first | refine State.program_keep ?_ ?_ _ _ | refine State.tidy_keep ?_ ?_ _
    | with_reducible first | refine State.movedOn_keep ?_ ?_ _ _ | refine State.recordCommitted_keep ?_ ?_ _
    | with_reducible refine Keep.ite ?_ ?_
    | (simp -zeta only [↓Keep.mk_iff]; with_reducible refine KeepF.upd_mem ?_ ?_ rfl)
    | split

theorem execLightParityError_keep (s : State) (a1 a2 a3) :
    ∃ t, execLightParityError a1 a2 a3 s = .next t ∧ Keep 528505 s t := by
  refine ⟨_, rfl, ?_⟩
  have h := Keep.refl 528505 s
  have hM : Nat.land 528505 528505 = 528505 := rfl
  repeat' first
    | with_reducible assumption
    | exact Zone.sub rfl hM
    | with_reducible first | refine State.setBank_keep ?_ ?_ _ _ | refine State.slotParity_keep ?_ ?_ _
    | with_reducible first | refine State.svcPoison_keep ?_ ?_ _ _ _ | refine Keep.ite ?_ ?_
    | split

theorem execPoisonReload_keep (s : State) (a1) :
    ∃ t, execPoisonReload a1 s = .next t ∧ Keep 524395 s t := by
  refine ⟨_, rfl, ?_⟩
  have h := Keep.refl 524395 s
  have hM : Nat.land 524395 524395 = 524395 := rfl
  repeat' first
    | with_reducible assumption
    | exact Zone.sub rfl hM
    | with_reducible first | refine State.reloadWord_keep ?_ ?_ _ _ | refine Keep.ite ?_ ?_
    | (simp -zeta only [↓Keep.mk_iff]; with_reducible refine KeepF.upd_mem ?_ ?_ rfl)
    | (extract_lets +onlyGivenNames y; have hy : Keep 524395 s y := ?_
       rotate_left; subst y; rotate_left; clear_value y)
    | (extract_lets +onlyGivenNames y; have : Mem := y; clear this; subst y)
    | split

theorem execScrubPass_keep (s : State) (a1 a2) :
    ∃ t, execScrubPass a1 a2 s = .next t ∧ Keep 644861 s t := by
  refine ⟨_, rfl, ?_⟩
  have h := Keep.refl 644861 s
  have hM : Nat.land 644861 644861 = 644861 := rfl
  repeat' first
    | with_reducible assumption
    | exact Zone.sub rfl hM
    | (intro)
    | with_reducible first | refine State.sramHit_keep ?_ ?_ _ _ | refine State.put_keep ?_ ?_ _ _ _
    | with_reducible first | refine Keep.ite ?_ ?_ | refine Keep.foldl ?_ ?_ _
    | (simp -zeta only [↓Keep.mk_iff]; with_reducible refine KeepF.upd_mem ?_ ?_ rfl)

theorem execSramError_keep (s : State) (a1 a2) :
    ∃ t, execSramError a1 a2 s = .next t ∧ Keep 644861 s t := by
  refine ⟨_, rfl, ?_⟩
  have h := Keep.refl 644861 s
  have hM : Nat.land 644861 644861 = 644861 := rfl
  repeat' first
    | with_reducible first | assumption | refine State.sramHit_keep ?_ ?_ _ _

theorem State.acceptProposal_keep {M r s} (h : Keep M r s) (hM : Nat.land 51293 M = 51293) (a1 a2) :
    Keep M r (State.acceptProposal s a1 a2) := by
  unfold State.acceptProposal
  repeat' first
    | with_reducible assumption
    | exact Zone.sub rfl hM
    | with_reducible first | refine State.yieldSwaps_keep ?_ ?_ _ | refine State.addEntry_keep ?_ ?_ _
    | with_reducible first | refine State.impliedMap_keep ?_ ?_ _ | refine State.setLd_keep ?_ ?_ _ _
    | with_reducible first | refine State.rollAgreed_keep ?_ ?_ _ _ _ _ _ | refine Keep.ite ?_ ?_
    | (extract_lets +onlyGivenNames y; have hy : Keep M r y := ?_
       rotate_left; subst y; rotate_left; clear_value y)
    | split

theorem State.trialDecode_keep {M r s} (h : Keep M r s) (hM : Nat.land 2265 M = 2265) (a1 a2) :
    Keep M r (State.trialDecode s a1 a2) := by
  unfold State.trialDecode
  repeat' first
    | with_reducible assumption
    | exact Zone.sub rfl hM
    | with_reducible first | refine State.applyLoading_keep ?_ ?_ _ _ _ | refine State.logC_keep ?_ ?_ _ _ _
    | with_reducible first | refine State.applyMap_keep ?_ ?_ _ _ _ | refine Keep.ite ?_ ?_
    | split

theorem State.reply_keep {M r s} (h : Keep M r s) (hM : Nat.land 128 M = 128) (a1 a2) :
    Keep M r (State.reply s a1 a2) := by
  unfold State.reply
  repeat' first
    | with_reducible first | assumption | refine State.sendCoord_keep ?_ ?_ _ _ | refine State.setFr_keep ?_ ?_ _ _

theorem State.proposalCost_keep {M r s} (h : Keep M r s) (hM : Nat.land 89 M = 89) (a1 a2) :
    Keep M r (State.proposalCost s a1 a2).2 := by
  unfold State.proposalCost
  repeat' first
    | with_reducible first | assumption | refine State.askRaise_keep ?_ ?_ _ _ _
    | with_reducible first | refine State.askMapCost_keep ?_ ?_ _ _ _ | refine State.checkOn_keep ?_ ?_ _ _ _ _
    | with_reducible refine Keep.ite_snd ?_ ?_
    | (extract_lets +onlyGivenNames y; have hy : Keep M r y.2 := ?_
       rotate_left; subst y; rotate_left; clear_value y)
    | split

theorem State.proposalHeard_keep {M r s} (h : Keep M r s) (hM : Nat.land 51677 M = 51677) (a1 a2) :
    Keep M r (State.proposalHeard s a1 a2) := by
  unfold State.proposalHeard
  repeat' first
    | with_reducible assumption
    | exact Zone.sub rfl hM
    | with_reducible first | refine State.reply_keep ?_ ?_ _ _ | refine State.setEntries_keep ?_ ?_ _
    | with_reducible first | refine State.logEntry_keep ?_ ?_ _ _ _ | refine State.proposalCost_keep ?_ ?_ _ _
    | with_reducible first | refine State.entryGone_keep ?_ ?_ _ | refine State.acceptProposal_keep ?_ ?_ _ _
    | with_reducible refine Keep.ite ?_ ?_
    | dsimp -zeta only
    | (extract_lets +onlyGivenNames y; have hy : Keep M r y := ?_
       rotate_left; subst y; rotate_left; clear_value y)
    | (extract_lets +onlyGivenNames y; have hy : Keep M r y.2 := ?_
       rotate_left; subst y; rotate_left; clear_value y)
    | (extract_lets +onlyGivenNames y; clear_value y)
    | split

theorem State.agreeHeard_keep {M r s} (h : Keep M r s) (hM : Nat.land 49373 M = 49373) (a1 a2) :
    Keep M r (State.agreeHeard s a1 a2) := by
  unfold State.agreeHeard
  repeat' first
    | with_reducible assumption
    | exact Zone.sub rfl hM
    | with_reducible first | refine State.dropCoord_keep ?_ ?_ _ _ _ | refine State.setEntry_keep ?_ ?_ _ _
    | with_reducible first | refine State.impliedMap_keep ?_ ?_ _ | refine State.rollAgreed_keep ?_ ?_ _ _ _ _ _
    | with_reducible first | refine State.answerAgreed_keep ?_ ?_ _ | refine Keep.ite ?_ ?_
    | dsimp -zeta only
    | split

theorem State.refuseHeard_keep {M r s} (h : Keep M r s) (hM : Nat.land 18909 M = 18909) (a1 a2) :
    Keep M r (State.refuseHeard s a1 a2) := by
  unfold State.refuseHeard
  repeat' first
    | with_reducible assumption
    | exact Zone.sub rfl hM
    | with_reducible first | refine State.dropCoord_keep ?_ ?_ _ _ _ | refine State.entryGone_keep ?_ ?_ _
    | with_reducible first | refine State.freeEntry_keep ?_ ?_ _ | refine State.logEntry_keep ?_ ?_ _ _ _
    | with_reducible refine State.loadingRefused_keep ?_ ?_ _ _ _ _
    | with_reducible first | refine State.answerFailed_keep ?_ ?_ _ _ | refine Keep.ite ?_ ?_
    | split

theorem State.cancelHeard_keep {M r s} (h : Keep M r s) (hM : Nat.land 18909 M = 18909) (a1 a2) :
    Keep M r (State.cancelHeard s a1 a2) := by
  unfold State.cancelHeard
  repeat' first
    | with_reducible assumption
    | exact Zone.sub rfl hM
    | with_reducible first | refine State.loadingFailed_keep ?_ ?_ _ _ | refine State.entryGone_keep ?_ ?_ _
    | with_reducible first | refine State.cancelEntry_keep ?_ ?_ _ | refine State.dropCoord_keep ?_ ?_ _ _ _
    | with_reducible refine State.answerFailed_keep ?_ ?_ _ _
    | (extract_lets +onlyGivenNames y; clear_value y)
    | split

theorem State.messageHeard_keep {M r s} (h : Keep M r s) (hM : Nat.land 51677 M = 51677) (a1 a2) :
    Keep M r (State.messageHeard s a1 a2) := by
  unfold State.messageHeard
  repeat' first
    | with_reducible assumption
    | exact Zone.sub rfl hM
    | with_reducible first | refine State.proposalHeard_keep ?_ ?_ _ _ | refine State.agreeHeard_keep ?_ ?_ _ _
    | with_reducible first | refine State.refuseHeard_keep ?_ ?_ _ _ | refine State.cancelHeard_keep ?_ ?_ _ _
    | with_reducible refine Keep.ite ?_ ?_

theorem State.reinstate_keep {M r s} (h : Keep M r s) (hM : Nat.land 77 M = 77) (a1 a2 a3) :
    Keep M r (State.reinstate s a1 a2 a3) := by
  unfold State.reinstate
  repeat' first
    | with_reducible assumption
    | exact Zone.sub rfl hM
    | with_reducible first | refine State.yieldSwaps_keep ?_ ?_ _ | refine State.logC_keep ?_ ?_ _ _ _
    | with_reducible first | refine State.dropEvent_keep ?_ ?_ _ _ | refine State.impliedMap_keep ?_ ?_ _
    | with_reducible first | refine State.addEntry_keep ?_ ?_ _ | refine State.logEntry_keep ?_ ?_ _ _ _
    | with_reducible first | refine State.bump_keep ?_ ?_ _ _ | refine Keep.ite ?_ ?_

theorem State.loadingMismatch_keep {M r s} (h : Keep M r s) (hM : Nat.land 133325 M = 133325) (a1) :
    Keep M r (State.loadingMismatch s a1) := by
  unfold State.loadingMismatch
  repeat' first
    | with_reducible assumption
    | exact Zone.sub rfl hM
    | with_reducible first | refine State.requestReset_keep ?_ ?_ _ | refine State.logC_keep ?_ ?_ _ _ _
    | with_reducible first | refine State.bump_keep ?_ ?_ _ _ | refine Keep.ite ?_ ?_

theorem State.announced05_keep {M r s} (h : Keep M r s) (hM : Nat.land 133325 M = 133325) (a1 a2 a3) :
    Keep M r (State.announced05 s a1 a2 a3) := by
  unfold State.announced05
  repeat' first
    | with_reducible assumption
    | exact Zone.sub rfl hM
    | with_reducible first | refine State.reinstate_keep ?_ ?_ _ _ _ | refine State.loadingMismatch_keep ?_ ?_ _
    | with_reducible refine Keep.ite ?_ ?_
    | split

theorem State.announcements_keep {M r s} (h : Keep M r s) (hM : Nat.land 133325 M = 133325) (a1 a2) :
    Keep M r (State.announcements s a1 a2) := by
  unfold State.announcements
  repeat' first
    | with_reducible assumption
    | (intro)
    | with_reducible first | refine State.announced05_keep ?_ ?_ _ _ _ | refine Keep.ite ?_ ?_
    | with_reducible refine Keep.foldl ?_ ?_ _

theorem State.followMap_keep {M r s} (h : Keep M r s) (hM : Nat.land 201 M = 201) (a1 a2) :
    Keep M r (State.followMap s a1 a2) := by
  unfold State.followMap
  repeat' first
    | with_reducible assumption
    | exact Zone.sub rfl hM
    | (intro)
    | with_reducible first | refine State.put_keep ?_ ?_ _ _ _ | refine State.setMap_keep ?_ ?_ _ _ _
    | with_reducible first | refine State.logC_keep ?_ ?_ _ _ _ | refine State.bump_keep ?_ ?_ _ _
    | with_reducible first | refine State.egressFault_keep ?_ ?_ _ _ | refine Keep.ite ?_ ?_
    | with_reducible refine Keep.foldl ?_ ?_ _

theorem State.followContexts_keep {M r s} (h : Keep M r s) (hM : Nat.land 49241 M = 49241) (a1 a2) :
    Keep M r (State.followContexts s a1 a2) := by
  unfold State.followContexts
  repeat' first
    | with_reducible assumption
    | (intro)
    | with_reducible first | refine State.turnCtx_keep ?_ ?_ _ _ _ _ | refine Keep.foldl ?_ ?_ _

theorem State.rateCompare_keep {M r s} (h : Keep M r s) (hM : Nat.land 128 M = 128) (a1) :
    Keep M r (State.rateCompare s a1) := by
  unfold State.rateCompare
  repeat' first
    | with_reducible first | assumption | refine State.setFr_keep ?_ ?_ _ _

theorem State.showClients_keep {M r s} (h : Keep M r s) (hM : Nat.land 1 M = 1) (a1 a2) :
    Keep M r (State.showClients s a1 a2) := by
  unfold State.showClients
  repeat' first
    | with_reducible assumption
    | (intro)
    | with_reducible first | refine State.put_keep ?_ ?_ _ _ _ | refine Keep.ite ?_ ?_ | refine Keep.foldl ?_ ?_ _

theorem State.startModeRun_keep {M r s} (h : Keep M r s) (hM : Nat.land 262349 M = 262349) (a1) :
    Keep M r (State.startModeRun s a1) := by
  unfold State.startModeRun
  repeat' first
    | with_reducible assumption
    | exact Zone.sub rfl hM
    | (intro)
    | with_reducible first | refine State.setAv_keep ?_ ?_ _ | refine State.proposeEngine_keep ?_ ?_ _ _ _
    | with_reducible first | refine Keep.ite ?_ ?_ | refine Keep.foldl ?_ ?_ _

theorem State.avenueFields_keep {M r s} (h : Keep M r s) (hM : Nat.land 280777 M = 280777) (a1 a2) :
    Keep M r (State.avenueFields s a1 a2) := by
  unfold State.avenueFields
  repeat' first
    | with_reducible assumption
    | exact Zone.sub rfl hM
    | with_reducible first | refine State.put_keep ?_ ?_ _ _ _ | refine State.setAv_keep ?_ ?_ _
    | with_reducible first | refine State.farCarrying_keep ?_ ?_ _ _ _ | refine State.orderSeen_keep ?_ ?_ _ _
    | with_reducible refine Keep.ite ?_ ?_

theorem State.actCore_keep {M r s} (h : Keep M r s) (hM : Nat.land 444893 M = 444893) (a1 a2) :
    Keep M r (State.actCore s a1 a2) := by
  unfold State.actCore
  repeat' first
    | with_reducible assumption
    | exact Zone.sub rfl hM
    | (intro)
    | with_reducible first | refine State.trialDecode_keep ?_ ?_ _ _ | refine State.messageHeard_keep ?_ ?_ _ _
    | with_reducible first | refine State.announcements_keep ?_ ?_ _ _ | refine State.followMap_keep ?_ ?_ _ _
    | with_reducible first | refine State.setFr_keep ?_ ?_ _ _ | refine State.followContexts_keep ?_ ?_ _ _
    | with_reducible first | refine State.rateCompare_keep ?_ ?_ _ | refine State.showClients_keep ?_ ?_ _ _
    | with_reducible first | refine State.put_keep ?_ ?_ _ _ _ | refine State.startModeRun_keep ?_ ?_ _
    | with_reducible first | refine State.avenueFields_keep ?_ ?_ _ _ | refine State.mocReceived_keep ?_ ?_ _ _
    | with_reducible first | refine State.mapProposals_keep ?_ ?_ _ | refine State.lineStamps_keep ?_ ?_ _ _
    | with_reducible refine Keep.foldl ?_ ?_ _
    | split

theorem State.applyMissed_keep {M r s} (h : Keep M r s) (hM : Nat.land 313561 M = 313561) (a1 a2) :
    Keep M r (State.applyMissed s a1 a2) := by
  unfold State.applyMissed
  repeat' first
    | with_reducible assumption
    | exact Zone.sub rfl hM
    | with_reducible first | refine State.applyMap_keep ?_ ?_ _ _ _ | refine State.setOn_keep ?_ ?_ _ _ _ _
    | with_reducible refine State.applyRoll_keep ?_ ?_ _ _ _ _ _ _
    | with_reducible first | refine State.modeChangeRx_keep ?_ ?_ _ _ _ | refine State.switchRx_keep ?_ ?_ _
    | split

theorem State.coreInvalid_keep {M r s} (h : Keep M r s) (hM : Nat.land 477 M = 477) (a1) :
    Keep M r (State.coreInvalid s a1) := by
  unfold State.coreInvalid
  repeat' first
    | with_reducible assumption
    | exact Zone.sub rfl hM
    | with_reducible first | refine State.setFr_keep ?_ ?_ _ _ | refine State.bump_keep ?_ ?_ _ _
    | with_reducible first | refine State.loseFrameLock_keep ?_ ?_ _ _ | refine Keep.ite ?_ ?_

theorem State.settleResets_keep {M r s} (h : Keep M r s) (hM : Nat.land 2269 M = 2269) (a1) :
    Keep M r (State.settleResets s a1) := by
  unfold State.settleResets
  repeat' first
    | with_reducible assumption
    | exact Zone.sub rfl hM
    | (intro)
    | with_reducible first | refine State.resetRun_keep ?_ ?_ _ _ | refine State.freeEntry_keep ?_ ?_ _
    | with_reducible first | refine State.cancelEntry_keep ?_ ?_ _ | refine Keep.ite ?_ ?_
    | with_reducible refine Keep.foldl ?_ ?_ _

theorem State.passFrames_keep {M r s} (h : Keep M r s) (hM : Nat.land 16457 M = 16457) (a1 a2 a3) :
    Keep M r (State.passFrames s a1 a2 a3) := by
  unfold State.passFrames
  repeat' first
    | with_reducible assumption
    | exact Zone.sub rfl hM
    | with_reducible refine State.stopCheck_keep ?_ ?_ _ _ _ _
    | with_reducible refine State.countersPass_keep ?_ ?_ _ _ _ _ _

theorem State.passTo_keep {M r s} (h : Keep M r s) (hM : Nat.land 313561 M = 313561) (a1 a2) :
    Keep M r (State.passTo s a1 a2) := by
  unfold State.passTo
  repeat' first
    | with_reducible assumption
    | exact Zone.sub rfl hM
    | (intro)
    | with_reducible first | refine State.put_keep ?_ ?_ _ _ _ | refine State.passFrames_keep ?_ ?_ _ _ _
    | with_reducible first | refine State.applyMissed_keep ?_ ?_ _ _ | refine State.setRt_keep ?_ ?_ _ _
    | with_reducible first | refine State.installDir_keep ?_ ?_ _ _ | refine State.setFr_keep ?_ ?_ _ _
    | with_reducible refine Keep.ite ?_ ?_
    | dsimp -zeta only
    | (extract_lets +onlyGivenNames y; have hy : Keep M r y := (by subst y; with_reducible assumption)
       clear hy; subst y)
    | (extract_lets +onlyGivenNames y; have hy : Keep M r y := ?_
       rotate_left; subst y; rotate_left; clear_value y)
    | split
    | with_reducible refine Keep.foldl_fst ?_ ?_ _

theorem State.skipTo_keep {M r s} (h : Keep M r s) (hM : Nat.land 477 M = 477) (a1 a2) :
    Keep M r (State.skipTo s a1 a2) := by
  unfold State.skipTo
  repeat' first
    | with_reducible assumption
    | exact Zone.sub rfl hM
    | (intro)
    | with_reducible first | refine State.missEntry_keep ?_ ?_ _ _ | refine State.setFr_keep ?_ ?_ _ _
    | with_reducible first | refine State.moveLater_keep ?_ ?_ _ | refine State.cancelSwap_keep ?_ ?_ _ _ _
    | with_reducible first | refine Keep.ite ?_ ?_ | refine Keep.foldl ?_ ?_ _

theorem State.gainLock_keep {M r s} (h : Keep M r s) (hM : Nat.land 379357 M = 379357) (a1 a2) :
    Keep M r (State.gainLock s a1 a2) := by
  unfold State.gainLock
  repeat' first
    | with_reducible assumption
    | exact Zone.sub rfl hM
    | with_reducible first | refine State.put_keep ?_ ?_ _ _ _ | refine State.setFr_keep ?_ ?_ _ _
    | with_reducible first | refine State.logC_keep ?_ ?_ _ _ _ | refine State.settleResets_keep ?_ ?_ _
    | with_reducible first | refine State.passTo_keep ?_ ?_ _ _ | refine State.skipTo_keep ?_ ?_ _ _
    | with_reducible first | refine State.setLd_keep ?_ ?_ _ _ | refine State.setAv_keep ?_ ?_ _
    | with_reducible first | refine State.agreeAtLock_keep ?_ ?_ _ | refine State.mocRestart_keep ?_ ?_ _
    | with_reducible first | refine State.rotationCount_keep ?_ ?_ _ _ | refine State.rotationState_keep ?_ ?_ _
    | with_reducible first | refine State.asymAtLock_keep ?_ ?_ _ | refine Keep.ite ?_ ?_

theorem State.judgeCore_keep {M r s} (h : Keep M r s) (hM : Nat.land 379357 M = 379357) (a1 a2) :
    Keep M r (State.judgeCore s a1 a2).2 := by
  unfold State.judgeCore
  repeat' first
    | with_reducible assumption
    | exact Zone.sub rfl hM
    | (extract_lets +onlyGivenNames y; have hy : Keep M r y := ?_
       rotate_left; subst y; rotate_left; clear_value y)
    | (extract_lets +onlyGivenNames y; clear_value y)
    | with_reducible first | refine State.setFr_keep ?_ ?_ _ _ | refine State.gainLock_keep ?_ ?_ _ _
    | with_reducible first | refine State.logC_keep ?_ ?_ _ _ _ | refine State.settleResets_keep ?_ ?_ _
    | with_reducible first | refine State.passTo_keep ?_ ?_ _ _ | refine State.skipTo_keep ?_ ?_ _ _
    | with_reducible refine Keep.ite_snd ?_ ?_

theorem State.showDefect_keep {M r s} (h : Keep M r s) (hM : Nat.land 73 M = 73) (a1 a2) :
    Keep M r (State.showDefect s a1 a2) := by
  unfold State.showDefect
  repeat' first
    | with_reducible assumption
    | exact Zone.sub rfl hM
    | with_reducible first | refine State.logC_keep ?_ ?_ _ _ _ | refine State.put_keep ?_ ?_ _ _ _
    | with_reducible refine Keep.ite ?_ ?_

theorem execCoreInvalid_keep (s : State) (a1) :
    ∃ t, execCoreInvalid a1 s = .next t ∧ Keep 477 s t := by
  refine ⟨_, rfl, ?_⟩
  have h := Keep.refl 477 s
  have hM : Nat.land 477 477 = 477 := rfl
  repeat' first
    | with_reducible first | assumption | refine State.coreInvalid_keep ?_ ?_ _ | refine Keep.ite ?_ ?_

theorem execCoreArrives_keep (s : State) (a1) :
    ∃ t, execCoreArrives a1 s = .next t ∧ Keep 510429 s t := by
  refine ⟨_, rfl, ?_⟩
  have h := Keep.refl 510429 s
  have hM : Nat.land 510429 510429 = 510429 := rfl
  repeat' first
    | with_reducible assumption
    | exact Zone.sub rfl hM
    | with_reducible first | refine State.coreInvalid_keep ?_ ?_ _ | refine State.setFr_keep ?_ ?_ _ _
    | with_reducible first | refine State.showDefect_keep ?_ ?_ _ _ | refine State.judgeCore_keep ?_ ?_ _ _
    | with_reducible first | refine State.actCore_keep ?_ ?_ _ _ | refine Keep.ite ?_ ?_

theorem State.scheduledRun_keep {M r s t} (h : Keep M r s) (hM : Nat.land 42024445 M = 42024445) {e} (heq : s.scheduledRun e = some t) : Keep M r t := by
  unfold State.scheduledRun at heq
  extract_lets o v c code at heq
  split at heq
  · exact State.bankServiceRun_keep h (Zone.sub rfl hM) heq
  · split at heq
    · cases heq; exact State.log_keep h (Zone.sub rfl hM) _ _
    · cases heq
      exact Keep.ite (State.budgetRun_keep h (Zone.sub rfl hM) _) (Keep.ite (State.keepAliveRun_keep h (Zone.sub rfl hM)) (Keep.ite (State.gridRun_keep h (Zone.sub rfl hM) _ _ _)
        (Keep.ite (State.gridRun_keep h (Zone.sub rfl hM) _ _ _) (Keep.ite (State.laneInjectRun_keep h (Zone.sub rfl hM) _ _) (Keep.ite (State.blockRetireRun_keep h (Zone.sub rfl hM) _)
        (Keep.ite (State.sramRetireRun_keep h (Zone.sub rfl hM) _) (Keep.ite (State.retentionRetireRun_keep h (Zone.sub rfl hM) _) (storeEffect_keep h (Zone.sub rfl hM) _ _ _))))))))

theorem State.contextSwitchRun_keep {M r s} (h : Keep M r s) (hM : Nat.land 49241 M = 49241) (a1 a2) :
    Keep M r (State.contextSwitchRun s a1 a2) := by
  unfold State.contextSwitchRun
  repeat' first
    | with_reducible assumption
    | exact Zone.sub rfl hM
    | with_reducible first | refine State.put_keep ?_ ?_ _ _ _ | refine State.setOn_keep ?_ ?_ _ _ _ _
    | with_reducible refine Keep.ite ?_ ?_

theorem State.swapRun_keep {M r s} (h : Keep M r s) (hM : Nat.land 381 M = 381) (a1 a2) :
    Keep M r (State.swapRun s a1 a2) := by
  unfold State.swapRun
  repeat' first
    | with_reducible assumption
    | exact Zone.sub rfl hM
    | with_reducible first | refine State.applyLoad_keep ?_ ?_ _ _ _ _ | refine State.runSwap_keep ?_ ?_ _ _
    | with_reducible refine Keep.ite ?_ ?_

theorem State.actLine_keep {M r s} (h : Keep M r s) (hM : Nat.land 313853 M = 313853) (a1 a2) :
    Keep M r (State.actLine s a1 a2) := by
  unfold State.actLine
  repeat' first
    | with_reducible assumption
    | exact Zone.sub rfl hM
    | with_reducible first | refine State.modeChangeTx_keep ?_ ?_ _ _ | refine State.modeChangeRx_keep ?_ ?_ _ _ _
    | with_reducible first | refine State.switchTx_keep ?_ ?_ _ | refine State.switchRx_keep ?_ ?_ _
    | with_reducible first | refine State.resetRun_keep ?_ ?_ _ _ | refine State.applyLoading_keep ?_ ?_ _ _ _
    | with_reducible first | refine State.applyMap_keep ?_ ?_ _ _ _ | refine State.contextSwitchRun_keep ?_ ?_ _ _
    | with_reducible first | refine State.applyRoll_keep ?_ ?_ _ _ _ _ _ _ | refine State.swapRun_keep ?_ ?_ _ _
    | with_reducible first | refine State.openWindow_keep ?_ ?_ _ _ | refine Keep.ite ?_ ?_
    | split

theorem State.act_keep {M r s t} (h : Keep M r s) (hM : Nat.land 43908605 M = 43908605) {e late} (heq : s.act e late = some t) : Keep M r t := by
  unfold State.act at heq
  split at heq
  · cases heq; exact State.snapshotRun_keep h (Zone.sub rfl hM) _ _
  · cases heq; exact State.imageRun_keep h (Zone.sub rfl hM) _
  · exact State.scheduledRun_keep h (Zone.sub rfl hM) heq
  · cases heq; exact State.injTrigger_keep h (Zone.sub rfl hM) _ _
  · cases heq; exact State.accessDom_keep h (Zone.sub rfl hM) _ _
  · cases heq
    split
    · exact State.actLine_keep h (Zone.sub rfl hM) _ _
    · exact h

theorem State.commitFail_keep {M r s} (h : Keep M r s) (hM : Nat.land 18909 M = 18909) (a1) :
    Keep M r (State.commitFail s a1) := by
  unfold State.commitFail
  repeat' first
    | with_reducible assumption
    | exact Zone.sub rfl hM
    | with_reducible first | refine State.entryGone_keep ?_ ?_ _ | refine State.cancelEntry_keep ?_ ?_ _
    | with_reducible first | refine State.dropCoord_keep ?_ ?_ _ _ _ | refine State.loadingNoReply_keep ?_ ?_ _ _
    | with_reducible first | refine State.answerFailed_keep ?_ ?_ _ _ | refine Keep.ite ?_ ?_
    | split

theorem State.idle_keep {M r s} (h : Keep M r s) (hM : Nat.land 4 M = 4) :
    Keep M r (State.idle s) := by
  unfold State.idle
  repeat' first
    | with_reducible first | assumption | refine Keep.ite ?_ ?_
    | (simp -zeta only [↓Keep.mk_iff]; with_reducible refine KeepF.upd_clk ?_ ?_ rfl)

theorem State.rotationAsleep_keep {M r s} (h : Keep M r s) (hM : Nat.land 861 M = 861) (a1) :
    Keep M r (State.rotationAsleep s a1) := by
  unfold State.rotationAsleep
  repeat' first
    | with_reducible assumption
    | exact Zone.sub rfl hM
    | with_reducible first | refine State.cancelEntry_keep ?_ ?_ _ | refine State.freeEntry_keep ?_ ?_ _
    | with_reducible first | refine State.cancelSwap_keep ?_ ?_ _ _ _ | refine Keep.ite ?_ ?_
    | (simp -zeta only [↓Keep.mk_iff]; with_reducible refine KeepF.upd_cal ?_ ?_)
    | (extract_lets +onlyGivenNames y; have hy : Keep M r y := ?_
       rotate_left; subst y; rotate_left; clear_value y)
    | (extract_lets +onlyGivenNames y; clear_value y)
    | split

theorem State.runEntry_keep {M r s} (h : Keep M r s) (hM : Nat.land 43909117 M = 43909117) (a1 a2) :
    Keep M r (State.runEntry s a1 a2) := by
  unfold State.runEntry
  repeat' first
    | with_reducible assumption
    | exact Zone.sub rfl hM
    | with_reducible first | refine State.setEntry_keep ?_ ?_ _ _ | refine State.commitFail_keep ?_ ?_ _
    | with_reducible first | refine State.missEntry_keep ?_ ?_ _ _ | refine State.rotationAsleep_keep ?_ ?_ _
    | with_reducible first | refine State.freeEntry_keep ?_ ?_ _ | refine State.occur_keep ?_ ?_ _ _
    | with_reducible first | refine State.logEntry_keep ?_ ?_ _ _ _ | refine State.bump_keep ?_ ?_ _ _
    | with_reducible first | refine State.act_keep ?_ ?_ (by assumption) | refine Keep.ite ?_ ?_
    | dsimp -zeta only
    | split

theorem State.runEntries_keep {M r s} (h : Keep M r s) (hM : Nat.land 43909117 M = 43909117) (a1 a2) :
    Keep M r (State.runEntries s a1 a2) := by
  unfold State.runEntries
  repeat' first
    | with_reducible assumption
    | (intro)
    | with_reducible first | refine State.runEntry_keep ?_ ?_ _ _ | refine Keep.ite ?_ ?_
    | with_reducible refine Keep.foldl ?_ ?_ _
    | split

theorem State.runDue_keep {M r s} (h : Keep M r s) (hM : Nat.land 43909117 M = 43909117) (a1 a2) :
    Keep M r (State.runDue s a1 a2) := by
  unfold State.runDue
  repeat' first
    | with_reducible first | assumption | refine State.runEntries_keep ?_ ?_ _ _

theorem State.runLate_keep {M r s} (h : Keep M r s) (hM : Nat.land 43909117 M = 43909117) :
    Keep M r (State.runLate s) := by
  unfold State.runLate
  repeat' first
    | with_reducible first | assumption | refine State.runEntries_keep ?_ ?_ _ _

theorem State.runSnapshots_keep {M r s} (h : Keep M r s) (hM : Nat.land 43909117 M = 43909117) :
    Keep M r (State.runSnapshots s) := by
  unfold State.runSnapshots
  repeat' first
    | with_reducible first | assumption | refine State.runEntries_keep ?_ ?_ _ _

theorem execCommitPoint_keep (s : State) :
    ∃ t, execCommitPoint s = .next t ∧ Keep 18909 s t := by
  refine ⟨_, rfl, ?_⟩
  have h := Keep.refl 18909 s
  have hM : Nat.land 18909 18909 = 18909 := rfl
  repeat' first
    | with_reducible assumption
    | (intro)
    | with_reducible first | refine State.commitFail_keep ?_ ?_ _ | refine Keep.ite ?_ ?_
    | with_reducible refine Keep.foldl ?_ ?_ _

theorem execSundialEntryRun_keep (s : State) (a1 a2) :
    ∃ t, execSundialEntryRun a1 a2 s = .next t ∧ Keep 43909117 s t := by
  refine ⟨_, rfl, ?_⟩
  have h := Keep.refl 43909117 s
  have hM : Nat.land 43909117 43909117 = 43909117 := rfl
  repeat' first
    | with_reducible assumption
    | exact Zone.sub rfl hM
    | with_reducible first | refine State.runDue_keep ?_ ?_ _ _ | refine Keep.ite ?_ ?_
    | (simp -zeta only [↓Keep.mk_iff]; with_reducible refine KeepF.upd_clk ?_ ?_ rfl)

theorem execSundialPreWake_keep (s : State) :
    ∃ t, execSundialPreWake s = .next t ∧ Keep 89 s t := by
  refine ⟨_, rfl, ?_⟩
  have h := Keep.refl 89 s
  have hM : Nat.land 89 89 = 89 := rfl
  repeat' first
    | with_reducible assumption
    | exact Zone.sub rfl hM
    | (intro)
    | with_reducible first | refine State.touch_keep ?_ ?_ _ | refine State.setDom_keep ?_ ?_ _ _
    | with_reducible first | refine State.abortCount_keep ?_ ?_ _ _ | refine State.accessDom_keep ?_ ?_ _ _
    | with_reducible first | refine Keep.ite ?_ ?_ | refine Keep.foldl ?_ ?_ _

theorem State.convsBoundary_keep {M r s} (h : Keep M r s) (hM : Nat.land 265 M = 265) (a1 a2) :
    Keep M r (State.convsBoundary s a1 a2) := by
  unfold State.convsBoundary
  repeat' first
    | with_reducible assumption
    | (intro)
    | with_reducible first | refine State.convBoundary_keep ?_ ?_ _ _ _ | refine Keep.ite ?_ ?_
    | with_reducible refine Keep.foldl_fst ?_ ?_ _

theorem State.latencyRun_keep {M r s} (h : Keep M r s) (hM : Nat.land 1 M = 1) (a1) :
    Keep M r (State.latencyRun s a1) := by
  unfold State.latencyRun
  repeat' first
    | with_reducible first | assumption | refine State.put_keep ?_ ?_ _ _ _ | refine Keep.ite ?_ ?_

theorem State.lineBoundary_keep {M r s} (h : Keep M r s) (hM : Nat.land 458205 M = 458205) (a1) :
    Keep M r (State.lineBoundary s a1) := by
  unfold State.lineBoundary
  repeat' first
    | with_reducible assumption
    | exact Zone.sub rfl hM
    | (intro)
    | with_reducible first | refine State.missOverdue_keep ?_ ?_ _ | refine State.inputBack_keep ?_ ?_ _
    | with_reducible first | refine State.rotationState_keep ?_ ?_ _ | refine State.convsBoundary_keep ?_ ?_ _ _
    | with_reducible first | refine State.inverseChecks_keep ?_ ?_ _ _ _ | refine State.latencyRun_keep ?_ ?_ _
    | with_reducible first | refine State.cipherFrame_keep ?_ ?_ _ | refine State.footBoundary_keep ?_ ?_ _
    | with_reducible first | refine State.poolBoundary_keep ?_ ?_ | refine State.avBoundary_keep ?_ ?_
    | with_reducible first | refine State.laneBoundary_keep ?_ ?_ _ | refine Keep.ite ?_ ?_
    | with_reducible refine Keep.foldl ?_ ?_ _

theorem State.unitsBoundary_keep {M r s} (h : Keep M r s) (hM : Nat.land 67673981 M = 67673981) :
    Keep M r (State.unitsBoundary s) := by
  unfold State.unitsBoundary
  repeat' first
    | with_reducible assumption
    | exact Zone.sub rfl hM
    | with_reducible first | refine State.sleepBoundary_keep ?_ ?_ | refine State.partsBoundary_keep ?_ ?_
    | with_reducible first | refine State.slotsBoundary_keep ?_ ?_ | refine State.memBoundary_keep ?_ ?_
    | with_reducible first | refine State.calBoundary_keep ?_ ?_ | refine State.logOverflow_keep ?_ ?_
    | with_reducible first | refine State.snapshotPeriodic_keep ?_ ?_ | refine State.powerBoundary_keep ?_ ?_
    | with_reducible refine State.svcBoundary_keep ?_ ?_

theorem State.lineWakes_keep {M r s} (h : Keep M r s) (hM : Nat.land 89 M = 89) :
    Keep M r (State.lineWakes s) := by
  unfold State.lineWakes
  repeat' first
    | with_reducible assumption
    | exact Zone.sub rfl hM
    | with_reducible first | refine State.touch_keep ?_ ?_ _ | refine State.accessDom_keep ?_ ?_ _ _
    | with_reducible refine Keep.ite ?_ ?_

theorem State.transmit_keep {M r s} (h : Keep M r s) (hM : Nat.land 65672 M = 65672) (a1 a2) :
    Keep M r (State.transmit s a1 a2) := by
  unfold State.transmit
  repeat' first
    | with_reducible assumption
    | exact Zone.sub rfl hM
    | (intro)
    | with_reducible first | refine State.mocUnit_keep ?_ ?_ _ | refine State.departs_keep ?_ ?_ _ _
    | with_reducible first | refine State.setFr_keep ?_ ?_ _ _ | refine State.occurN_keep ?_ ?_ _ _ _
    | with_reducible first | refine State.emit_keep ?_ ?_ _ | refine Keep.ite ?_ ?_ | refine Keep.foldl ?_ ?_ _

theorem State.boundary_keep {M r s} (h : Keep M r s) (hM : Nat.land 134217725 M = 134217725) (a1) :
    Keep M r (State.boundary s a1) := by
  unfold State.boundary
  repeat' first
    | with_reducible assumption
    | exact Zone.sub rfl hM
    | (intro)
    | (extract_lets +onlyGivenNames y; have hy : Keep M r y := ?_
       rotate_left; subst y; rotate_left; clear_value y)
    | (extract_lets +onlyGivenNames y; have : Clock := y; clear this; subst y)
    | (extract_lets +onlyGivenNames y; clear_value y)
    | with_reducible first | refine State.cipherPass_keep ?_ ?_ _ | refine State.runDue_keep ?_ ?_ _ _
    | with_reducible first | refine State.counterBoundary_keep ?_ ?_ | refine State.runSnapshots_keep ?_ ?_
    | with_reducible first | refine State.runLate_keep ?_ ?_ | refine State.budgetReport_keep ?_ ?_
    | with_reducible first | refine State.lineBoundary_keep ?_ ?_ _ | refine State.unitsBoundary_keep ?_ ?_
    | with_reducible first | refine State.restoreBoundary_keep ?_ ?_ | refine State.saveBoundary_keep ?_ ?_
    | with_reducible first | refine State.showKeeper_keep ?_ ?_ | refine State.roleRun_keep ?_ ?_
    | with_reducible first | refine State.membershipRun_keep ?_ ?_ | refine State.subsBoundary_keep ?_ ?_
    | with_reducible first | refine State.lineWakes_keep ?_ ?_ | refine State.transmit_keep ?_ ?_ _ _
    | with_reducible first | refine State.belBoundary_keep ?_ ?_ _ | refine State.countersPass_keep ?_ ?_ _ _ _ _ _
    | with_reducible first | refine Keep.ite ?_ ?_ | refine Keep.foldl ?_ ?_ _
    | (simp -zeta only [↓Keep.mk_iff]; with_reducible refine KeepF.upd_aop ?_ ?_)
    | (simp -zeta only [↓Keep.mk_iff]; refine KeepF.of ?_ hM rfl rfl rfl rfl rfl rfl)

theorem State.countReceived_keep {M r s} (h : Keep M r s) (hM : Nat.land 313565 M = 313565) (a1 a2) :
    Keep M r (State.countReceived s a1 a2) := by
  unfold State.countReceived
  repeat' first
    | with_reducible assumption
    | exact Zone.sub rfl hM
    | with_reducible first | refine State.desyncCheck_keep ?_ ?_ _ | refine State.put_keep ?_ ?_ _ _ _
    | with_reducible first | refine State.rxCarryDue_keep ?_ ?_ _ | refine State.passTo_keep ?_ ?_ _ _

theorem execLocalBoundary_keep (s : State) (a1) :
    ∃ t, execLocalBoundary a1 s = .next t ∧ Keep 134217725 s t := by
  refine ⟨_, rfl, ?_⟩
  have h := Keep.refl 134217725 s
  have hM : Nat.land 134217725 134217725 = 134217725 := rfl
  repeat' first
    | with_reducible assumption
    | exact Zone.sub rfl hM
    | with_reducible first | refine State.boundary_keep ?_ ?_ _ | refine Keep.ite ?_ ?_
    | (simp -zeta only [↓Keep.mk_iff]; with_reducible refine KeepF.upd_clk ?_ ?_ rfl)

theorem execReceivedBoundary_keep (s : State) (a1 a2 a3 a4) :
    ∃ t, execReceivedBoundary a1 a2 a3 a4 s = .next t ∧ Keep 43909117 s t := by
  refine ⟨_, rfl, ?_⟩
  have h := Keep.refl 43909117 s
  have hM : Nat.land 43909117 43909117 = 43909117 := rfl
  repeat' first
    | with_reducible assumption
    | exact Zone.sub rfl hM
    | with_reducible first | refine State.countReceived_keep ?_ ?_ _ _ | refine State.loadingReceived_keep ?_ ?_ _ _
    | with_reducible first | refine State.eqReceived_keep ?_ ?_ _ _ _ | refine State.arrives_keep ?_ ?_ _ _ _
    | with_reducible first | refine State.runDue_keep ?_ ?_ _ _ | refine Keep.ite ?_ ?_

end Sys2Proof.Machine
end

