-- ==== Sys2Proof/Laws/Exec.lean ====
section
/-! SUPPORT. What each command keeps, command by command, joined: the parts that a command may change, as a number. -/

namespace Sys2Proof.Machine

set_option Elab.async false

/-- The parts that a command may change, as the number that `Keep` takes. -/
def keepMask : Instr → Nat
  | .powerOn | .resetn .. | .brownOut .. | .latchOffRestart => 268435455
  | .resetRelease .. => 1606521
  | .cpRelease .. => 2945023
  | .privCalComplete .. => 8029
  | .vinAbove60 .. | .vinBelow6 .. | .alertAck .. | .sundialPreWake | .refTableWrite .. | .forceRefWrite .. |
  .comparatorWrite .. | .tfeCoeffWrite .. | .domainAccess .. | .domainHoldWrite .. | .ledgerRequest .. |
  .ceilingWrite .. | .shedPositionReset | .shedUnresolved | .aopRead .. | .proof .. | .sessionClose .. |
  .aopPortWrite .. | .dictSave .. | .dictRestore .. | .counterSelectWrite .. | .counterClear .. |
  .counterRangeWrite .. | .eventFetch .. | .vinBack .. => 89
  | .overVoltageLatchOff | .aonLost => 33554448
  | .caseAbove95 | .comparatorFire .. | .tfeOutput .. => 524361
  | .thermalTrip .. => 42010109
  | .localBoundary .. => 134217725
  | .receivedBoundary .. | .sundialEntryRun .. => 43909117
  | .commitPoint | .cancelEntry .. => 18909
  | .sliceDue .. => 333
  | .trimRetry .. | .loadingReset .. => 77
  | .trimFitComplete .. | .trimExpired .. | .sliceFailed .. => 349
  | .handoverCheck .. => 893
  | .sliceRetire .. | .sliceRestore .. => 381
  | .sliceOverdue .. | .adcClipAlarm .. | .dacClipAlarm .. => 329
  | .lossOfInput .. => 1373
  | .loFrequencyWrite .. | .lossOfLock .. => 1501
  | .acquisitionStepComplete .. | .pilotWindowEnd .. => 1241
  | .acquisitionStepFailed .. | .acquisitionWaitEnd .. | .acquisitionLedgerRetry .. => 1113
  | .recordValid .. => 1097
  | .loadingCeilingWrite .. | .loadingRequest .. | .policyCodeRateWrite .. => 2269
  | .relockCandidate .. => 133325
  | .capCeilingExpire .. => 2048
  | .codewordArrive .. => 4097
  | .iterationEnd .. => 4105
  | .codewordLeaves .. => 4233
  | .bankWakeRetry .. | .bankReturned => 4185
  | .grantEffective => 4112
  | .grantRequestRetry => 6233
  | .bankDrained .. | .microcodeReloadDone .. => 4169
  | .coreArrives .. => 510429
  | .coreInvalid .. => 477
  | .mocResend .. | .ptpEventMessage .. | .clientRateMismatch .. => 201
  | .ptpEgress .. | .clientBlockReceived .. => 129
  | .sealReceived .. | .transmitResume .. => 16457
  | .clientRateWrite .. => 8413
  | .laneRateWrite .. | .clientLanesWrite .. | .laneTestWrite .. => 8281
  | .laneStateChange .. | .ingressFault .. | .lrefLost .. | .lrefRestored .. | .laneBerAlarm .. |
  .checkerSyncLost .. => 8265
  | .hostBlockReceived .. | .stallLimit .. | .sessionOpen .. | .close .. | .sessionIdle .. |
  .unprovedSessionDiscard .. => 73
  | .contextEnable .. => 49373
  | .contextRoll .. => 16605
  | .rollInterval .. | .rootMigrationDeadline .. => 16589
  | .xtsEncrypt .. | .xtsDecrypt .. | .gcmEncrypt .. | .gcmDecrypt .. | .kmac256Derive .. | .shake256 .. |
  .falconVerify .. | .falconSign .. | .mlKemKeyGeneration .. | .mlKemEncapsulate .. | .mlKemDecapsulate .. |
  .quoteRequest .. | .rollbackFloor .. => 32857
  | .requestCompletion .. => 8437881
  | .slotWrite .. | .slotErase .. | .ownerKeyEnrol .. => 32889
  | .eraseComplete .. => 32841
  | .rekeyRoot .. | .rootInterval .. | .answer .. | .abort .. | .offerWait .. | .agreementTimeout .. |
  .agreementRetry .. => 32985
  | .offer .. | .confirmI .. | .confirmR .. | .latticeRetry .. => 49369
  | .rootInstall .. => 49225
  | .holdOffEnd .. | .qualificationEnd .. | .loopBandwidthStep | .ppsEdge .. | .todMessage .. => 65609
  | .advertRead .. => 65737
  | .avenueModeWrite .. => 221
  | .cellArrival .. | .cellLost .. | .alignedRelease .. | .reorderWindowShort | .keeperUnreachable => 262217
  | .takeover | .keeperOrder .. => 264393
  | .switchMuteEnd .. => 262144
  | .viewRecord | .keeperOrderRepeat => 393289
  | .keeperDecision .. | .duplicateJoinRetry => 2097152
  | .avenueClear .. | .lockout .. | .forcedSwitch .. | .manualSwitch .. | .exercise .. => 262365
  | .degradeSwitch | .revert => 205
  | .footpathPacketTransmit .. => 131081
  | .hello .. | .neighbourLost .. => 131145
  | .footpathSend .. | .footpathLedgerRetry .. => 131161
  | .toneHeard .. | .syncMatch .. | .headerCheck .. | .watchHit .. | .noiseFloorWindow .. => 131073
  | .falseDetection .. | .comparatorRearm .. | .domainRoll .. => 1
  | .footpathPacketEnd .. => 395469
  | .svc2Conversion .. => 525149
  | .injectNow .. | .injectLengthWrite .. | .svcAccumClear .. | .tfeRunWrite .. => 524377
  | .calReload .. => 605
  | .calLearnedClear .. => 601
  | .calSave .. | .calSaveInterval | .calSaveRetry => 633
  | .idleTimerExpire .. => 16
  | .sleepEntryDone .. => 8390141
  | .domainWakeComplete .. => 79626237
  | .wakeStallProgress .. | .neighbourDiscovery .. => 64
  | .shed => 7517
  | .keepAliveExit .. => 262177405
  | .sramError .. | .scrubPass .. => 644861
  | .poisonReload .. => 524395
  | .lightParityError .. => 528505
  | .recordWrite .. | .pageProgramDone .. | .pageReadDone .. | .refresh .. | .blockRestore .. | .dictFactory ..
  | .snapshotLatch | .snapshotCopyRetry .. | .imageCommit .. => 121
  | .commitMarkerProgrammed => 1049211
  | .blockEraseDone .. => 105
  | .logWrite => 67108985
  | .aopMessage .. => 217
  | .aopWrite .. | .scheduledWrite .. => 4124669
  | .subscribe .. | .unsubscribe .. | .describe .. => 72
  | .groupWindow .. | .join .. | .leave .. | .listenEnd | .deputyTakeover | .handover | .memberAbsent .. => 2097225
  | .beacon .. => 2359369
  | .memberStatus .. | .orders .. => 2361545
  | .groupLeave .. => 2097241
  | .announceTimer => 4194305
  | .announce .. | .settleEnd .. | .rollBackoffEnd .. | .groupRoll .. | .siteRoll .. | .ack .. | .ackTimeout ..
  | .rollIncomplete | .carrierWithoutTraffic .. => 4194377
  | .registrationRetry .. | .domainRollTimer => 4194304
  | .imageWrite .. => 1048697
  | .imageActivate .. => 93
  | .probationPass .. => 1048576
  | .probationFail .. => 1048653
  | .checkerGainsSync .. => 8192
  | .newImageLoaded .. => 1605721

/-- Every command in every state ends in a next state, and keeps what its number leaves out. -/
theorem exec_next (i : Instr) (s : State) : ∃ t, exec i s = .next t ∧ Keep (keepMask i) s t := by
  cases i with
  | powerOn => exact execPowerOn_keep s
  | resetn ns => exact execResetn_keep s ns
  | resetRelease x => exact execResetRelease_keep s x
  | cpRelease ms => exact execCpRelease_keep s ms
  | privCalComplete step part passed lasers => exact execPrivCalComplete_keep s step part passed lasers
  | brownOut k => exact execBrownOut_keep s k
  | vinAbove60 mv => exact execVinAbove60_keep s mv
  | overVoltageLatchOff => exact execOverVoltageLatchOff_keep s
  | latchOffRestart => exact execLatchOffRestart_keep s
  | vinBelow6 mv => exact execVinBelow6_keep s mv
  | caseAbove95 => exact execCaseAbove95_keep s
  | thermalTrip peak => exact execThermalTrip_keep s peak
  | alertAck w v => exact execAlertAck_keep s w v
  | localBoundary x => exact execLocalBoundary_keep s x
  | receivedBoundary c delay arrive x => exact execReceivedBoundary_keep s c delay arrive x
  | sundialEntryRun k tick => exact execSundialEntryRun_keep s k tick
  | sundialPreWake => exact execSundialPreWake_keep s
  | commitPoint => exact execCommitPoint_keep s
  | cancelEntry w n => exact execCancelEntry_keep s w n
  | sliceDue c k idx temp => exact execSliceDue_keep s c k idx temp
  | trimRetry c k => exact execTrimRetry_keep s c k
  | trimFitComplete c k fit temp => exact execTrimFitComplete_keep s c k fit temp
  | handoverCheck c k rms faultIncoming => exact execHandoverCheck_keep s c k rms faultIncoming
  | trimExpired c k temp => exact execTrimExpired_keep s c k temp
  | sliceFailed c k idx cause => exact execSliceFailed_keep s c k idx cause
  | sliceRetire w c v => exact execSliceRetire_keep s w c v
  | sliceRestore w c v => exact execSliceRestore_keep s w c v
  | sliceOverdue c k idx => exact execSliceOverdue_keep s c k idx
  | adcClipAlarm c k => exact execAdcClipAlarm_keep s c k
  | dacClipAlarm c k => exact execDacClipAlarm_keep s c k
  | lossOfInput c k rms => exact execLossOfInput_keep s c k rms
  | loFrequencyWrite w c f => exact execLoFrequencyWrite_keep s w c f
  | acquisitionStepComplete c r => exact execAcquisitionStepComplete_keep s c r
  | acquisitionStepFailed c reason => exact execAcquisitionStepFailed_keep s c reason
  | acquisitionWaitEnd c => exact execAcquisitionWaitEnd_keep s c
  | acquisitionLedgerRetry c => exact execAcquisitionLedgerRetry_keep s c
  | pilotWindowEnd c x => exact execPilotWindowEnd_keep s c x
  | lossOfLock c => exact execLossOfLock_keep s c
  | recordValid c => exact execRecordValid_keep s c
  | loadingCeilingWrite w c k v => exact execLoadingCeilingWrite_keep s w c k v
  | loadingRequest w c row => exact execLoadingRequest_keep s w c row
  | policyCodeRateWrite w c v => exact execPolicyCodeRateWrite_keep s w c v
  | relockCandidate c => exact execRelockCandidate_keep s c
  | loadingReset c n foot => exact execLoadingReset_keep s c n foot
  | capCeilingExpire c => exact execCapCeilingExpire_keep s c
  | codewordArrive c g => exact execCodewordArrive_keep s c g
  | iterationEnd slot => exact execIterationEnd_keep s slot
  | codewordLeaves c frame number trial => exact execCodewordLeaves_keep s c frame number trial
  | bankWakeRetry b => exact execBankWakeRetry_keep s b
  | grantEffective => exact execGrantEffective_keep s
  | grantRequestRetry => exact execGrantRequestRetry_keep s
  | bankDrained b => exact execBankDrained_keep s b
  | microcodeReloadDone b => exact execMicrocodeReloadDone_keep s b
  | bankReturned => exact execBankReturned_keep s
  | coreArrives c => exact execCoreArrives_keep s c
  | coreInvalid c => exact execCoreInvalid_keep s c
  | mocResend c => exact execMocResend_keep s c
  | ptpEventMessage x p => exact execPtpEventMessage_keep s x p
  | ptpEgress c x p => exact execPtpEgress_keep s c x p
  | clientBlockReceived c x head => exact execClientBlockReceived_keep s c x head
  | sealReceived c x => exact execSealReceived_keep s c x
  | clientRateWrite w x v => exact execClientRateWrite_keep s w x v
  | clientRateMismatch c x => exact execClientRateMismatch_keep s c x
  | laneRateWrite w l v => exact execLaneRateWrite_keep s w l v
  | clientLanesWrite w x v => exact execClientLanesWrite_keep s w x v
  | laneStateChange l v => exact execLaneStateChange_keep s l v
  | ingressFault x cause l => exact execIngressFault_keep s x cause l
  | lrefLost q => exact execLrefLost_keep s q
  | lrefRestored q => exact execLrefRestored_keep s q
  | laneBerAlarm l => exact execLaneBerAlarm_keep s l
  | hostBlockReceived x b => exact execHostBlockReceived_keep s x b
  | laneTestWrite w l v => exact execLaneTestWrite_keep s w l v
  | checkerSyncLost l errors => exact execCheckerSyncLost_keep s l errors
  | contextEnable w x v t => exact execContextEnable_keep s w x v t
  | contextRoll w c k => exact execContextRoll_keep s w c k
  | rollInterval c k => exact execRollInterval_keep s c k
  | transmitResume c => exact execTransmitResume_keep s c
  | xtsEncrypt x => exact execXtsEncrypt_keep s x
  | xtsDecrypt x => exact execXtsDecrypt_keep s x
  | gcmEncrypt x => exact execGcmEncrypt_keep s x
  | gcmDecrypt x => exact execGcmDecrypt_keep s x
  | kmac256Derive x => exact execKmac256Derive_keep s x
  | shake256 x => exact execShake256_keep s x
  | falconVerify x => exact execFalconVerify_keep s x
  | falconSign x => exact execFalconSign_keep s x
  | mlKemKeyGeneration x => exact execMlKemKeyGeneration_keep s x
  | mlKemEncapsulate x => exact execMlKemEncapsulate_keep s x
  | mlKemDecapsulate x => exact execMlKemDecapsulate_keep s x
  | requestCompletion u check => exact execRequestCompletion_keep s u check
  | slotWrite w row => exact execSlotWrite_keep s w row
  | slotErase w k => exact execSlotErase_keep s w k
  | eraseComplete k => exact execEraseComplete_keep s k
  | quoteRequest w row => exact execQuoteRequest_keep s w row
  | ownerKeyEnrol w value => exact execOwnerKeyEnrol_keep s w value
  | rollbackFloor w sub v => exact execRollbackFloor_keep s w sub v
  | rekeyRoot w v => exact execRekeyRoot_keep s w v
  | rootInterval c => exact execRootInterval_keep s c
  | offer c session body => exact execOffer_keep s c session body
  | answer c session body => exact execAnswer_keep s c session body
  | confirmI c session body => exact execConfirmI_keep s c session body
  | confirmR c session tag => exact execConfirmR_keep s c session tag
  | abort c session reason => exact execAbort_keep s c session reason
  | offerWait c => exact execOfferWait_keep s c
  | agreementTimeout c => exact execAgreementTimeout_keep s c
  | agreementRetry c => exact execAgreementRetry_keep s c
  | rootInstall c => exact execRootInstall_keep s c
  | rootMigrationDeadline c => exact execRootMigrationDeadline_keep s c
  | latticeRetry c => exact execLatticeRetry_keep s c
  | holdOffEnd idx => exact execHoldOffEnd_keep s idx
  | qualificationEnd idx => exact execQualificationEnd_keep s idx
  | refTableWrite w m v => exact execRefTableWrite_keep s w m v
  | forceRefWrite w m v => exact execForceRefWrite_keep s w m v
  | loopBandwidthStep => exact execLoopBandwidthStep_keep s
  | ppsEdge x off err => exact execPpsEdge_keep s x off err
  | todMessage x m => exact execTodMessage_keep s x m
  | advertRead c status row => exact execAdvertRead_keep s c status row
  | avenueModeWrite w mode t => exact execAvenueModeWrite_keep s w mode t
  | cellArrival c x seq => exact execCellArrival_keep s c x seq
  | cellLost x => exact execCellLost_keep s x
  | alignedRelease x => exact execAlignedRelease_keep s x
  | reorderWindowShort => exact execReorderWindowShort_keep s
  | takeover => exact execTakeover_keep s
  | switchMuteEnd c => exact execSwitchMuteEnd_keep s c
  | viewRecord => exact execViewRecord_keep s
  | keeperDecision slot => exact execKeeperDecision_keep s slot
  | keeperOrder b => exact execKeeperOrder_keep s b
  | keeperUnreachable => exact execKeeperUnreachable_keep s
  | avenueClear w sfn => exact execAvenueClear_keep s w sfn
  | lockout w sfn => exact execLockout_keep s w sfn
  | forcedSwitch w c sfn => exact execForcedSwitch_keep s w c sfn
  | manualSwitch w c sfn => exact execManualSwitch_keep s w c sfn
  | exercise w sfn => exact execExercise_keep s w sfn
  | degradeSwitch => exact execDegradeSwitch_keep s
  | revert => exact execRevert_keep s
  | footpathPacketTransmit c => exact execFootpathPacketTransmit_keep s c
  | hello c => exact execHello_keep s c
  | footpathSend w c row => exact execFootpathSend_keep s w c row
  | toneHeard c levels => exact execToneHeard_keep s c levels
  | syncMatch c window level => exact execSyncMatch_keep s c window level
  | falseDetection c => exact execFalseDetection_keep s c
  | headerCheck c octets => exact execHeaderCheck_keep s c octets
  | watchHit c tone rise window level => exact execWatchHit_keep s c tone rise window level
  | footpathPacketEnd c payload check level snr => exact execFootpathPacketEnd_keep s c payload check level snr
  | noiseFloorWindow c levels => exact execNoiseFloorWindow_keep s c levels
  | neighbourLost c => exact execNeighbourLost_keep s c
  | keeperOrderRepeat => exact execKeeperOrderRepeat_keep s
  | footpathLedgerRetry c d => exact execFootpathLedgerRetry_keep s c d
  | svc2Conversion samples ended => exact execSvc2Conversion_keep s samples ended
  | comparatorFire k code => exact execComparatorFire_keep s k code
  | comparatorRearm k code => exact execComparatorRearm_keep s k code
  | comparatorWrite w k v => exact execComparatorWrite_keep s w k v
  | injectNow w v => exact execInjectNow_keep s w v
  | injectLengthWrite w v => exact execInjectLengthWrite_keep s w v
  | svcAccumClear w v => exact execSvcAccumClear_keep s w v
  | tfeRunWrite w j v => exact execTfeRunWrite_keep s w j v
  | tfeCoeffWrite w j v => exact execTfeCoeffWrite_keep s w j v
  | calReload w c v => exact execCalReload_keep s w c v
  | calLearnedClear w v => exact execCalLearnedClear_keep s w v
  | calSave w v => exact execCalSave_keep s w v
  | calSaveInterval => exact execCalSaveInterval_keep s
  | calSaveRetry => exact execCalSaveRetry_keep s
  | idleTimerExpire d => exact execIdleTimerExpire_keep s d
  | sleepEntryDone d => exact execSleepEntryDone_keep s d
  | domainAccess d => exact execDomainAccess_keep s d
  | domainWakeComplete d bad => exact execDomainWakeComplete_keep s d bad
  | wakeStallProgress idx => exact execWakeStallProgress_keep s idx
  | stallLimit idx => exact execStallLimit_keep s idx
  | domainHoldWrite w d v => exact execDomainHoldWrite_keep s w d v
  | ledgerRequest act item cost => exact execLedgerRequest_keep s act item cost
  | shed => exact execShed_keep s
  | ceilingWrite w v => exact execCeilingWrite_keep s w v
  | shedPositionReset => exact execShedPositionReset_keep s
  | shedUnresolved => exact execShedUnresolved_keep s
  | keepAliveExit source us bad cool => exact execKeepAliveExit_keep s source us bad cool
  | sramError x scrubber => exact execSramError_keep s x scrubber
  | scrubPass ms found => exact execScrubPass_keep s ms found
  | poisonReload addr => exact execPoisonReload_keep s addr
  | lightParityError bank offset x => exact execLightParityError_keep s bank offset x
  | recordWrite typ region subject payload => exact execRecordWrite_keep s typ region subject payload
  | pageProgramDone ok => exact execPageProgramDone_keep s ok
  | commitMarkerProgrammed => exact execCommitMarkerProgrammed_keep s
  | pageReadDone block page sectors => exact execPageReadDone_keep s block page sectors
  | blockEraseDone ok => exact execBlockEraseDone_keep s ok
  | refresh shown => exact execRefresh_keep s shown
  | blockRestore w v => exact execBlockRestore_keep s w v
  | logWrite => exact execLogWrite_keep s
  | aopMessage t source port octets crcOk => exact execAopMessage_keep s t source port octets crcOk
  | aopRead w o m offset => exact execAopRead_keep s w o m offset
  | aopWrite w o m offset v => exact execAopWrite_keep s w o m offset v
  | scheduledWrite w o m t v => exact execScheduledWrite_keep s w o m t v
  | subscribe w mode o m period => exact execSubscribe_keep s w mode o m period
  | unsubscribe w n => exact execUnsubscribe_keep s w n
  | describe w o m => exact execDescribe_keep s w o m
  | sessionOpen w role slot nonce => exact execSessionOpen_keep s w role slot nonce
  | proof w sig => exact execProof_keep s w sig
  | close w => exact execClose_keep s w
  | sessionIdle id => exact execSessionIdle_keep s id
  | unprovedSessionDiscard id => exact execUnprovedSessionDiscard_keep s id
  | sessionClose w v => exact execSessionClose_keep s w v
  | aopPortWrite w v => exact execAopPortWrite_keep s w v
  | dictSave w v => exact execDictSave_keep s w v
  | dictRestore w v => exact execDictRestore_keep s w v
  | dictFactory w v => exact execDictFactory_keep s w v
  | counterSelectWrite w n v => exact execCounterSelectWrite_keep s w n v
  | counterClear w v => exact execCounterClear_keep s w v
  | counterRangeWrite w m row => exact execCounterRangeWrite_keep s w m row
  | snapshotLatch => exact execSnapshotLatch_keep s
  | snapshotCopyRetry b => exact execSnapshotCopyRetry_keep s b
  | eventFetch w v => exact execEventFetch_keep s w v
  | groupWindow window collision => exact execGroupWindow_keep s window collision
  | beacon f => exact execBeacon_keep s f
  | memberStatus f => exact execMemberStatus_keep s f
  | orders f => exact execOrders_keep s f
  | join slot f => exact execJoin_keep s slot f
  | leave f => exact execLeave_keep s f
  | listenEnd => exact execListenEnd_keep s
  | deputyTakeover => exact execDeputyTakeover_keep s
  | handover => exact execHandover_keep s
  | memberAbsent slot => exact execMemberAbsent_keep s slot
  | groupLeave w v => exact execGroupLeave_keep s w v
  | duplicateJoinRetry => exact execDuplicateJoinRetry_keep s
  | announceTimer => exact execAnnounceTimer_keep s
  | announce b => exact execAnnounce_keep s b
  | settleEnd registrar => exact execSettleEnd_keep s registrar
  | rollBackoffEnd site => exact execRollBackoffEnd_keep s site
  | groupRoll b => exact execGroupRoll_keep s b
  | siteRoll b => exact execSiteRoll_keep s b
  | ack b => exact execAck_keep s b
  | ackTimeout site => exact execAckTimeout_keep s site
  | registrationRetry site => exact execRegistrationRetry_keep s site
  | domainRoll b => exact execDomainRoll_keep s b
  | domainRollTimer => exact execDomainRollTimer_keep s
  | rollIncomplete => exact execRollIncomplete_keep s
  | carrierWithoutTraffic c => exact execCarrierWithoutTraffic_keep s c
  | imageWrite w row => exact execImageWrite_keep s w row
  | imageCommit w row => exact execImageCommit_keep s w row
  | imageActivate w sub t v => exact execImageActivate_keep s w sub t v
  | probationPass sub c => exact execProbationPass_keep s sub c
  | probationFail sub c => exact execProbationFail_keep s sub c
  | vinBack extreme => exact execVinBack_keep s extreme
  | aonLost => exact execAonLost_keep s
  | checkerGainsSync l => exact execCheckerGainsSync_keep s l
  | tfeOutput j x => exact execTfeOutput_keep s j x
  | newImageLoaded sub => exact execNewImageLoaded_keep s sub
  | neighbourDiscovery port x => exact execNeighbourDiscovery_keep s port x

/-- What a command that ends in a next state keeps. -/
theorem exec_keep (i : Instr) (s t : State) (eq : exec i s = .next t) : Keep (keepMask i) s t := by
  obtain ⟨u, hu, k⟩ := exec_next i s
  rw [hu] at eq
  cases eq
  exact k

end Sys2Proof.Machine
end

