-- ==== Sys2Proof/Laws/State.lean ====
section
/-! SUPPORT. How each named update of the state leaves its fields and the values of objects. -/

namespace Sys2Proof.Machine

set_option Elab.async false

/-! ## The object store -/

theorem assocGet_assocSet_same {α : Type} (l : List (Nat × α)) (k : Nat) (v : α) :
    assocGet (assocSet l k v) k = some v := by
  induction l with
  | nil => simp [assocSet, assocGet]
  | cons p l ih =>
    obtain ⟨j, w⟩ := p
    simp only [assocSet]
    split
    · simp [assocGet]
    · split
      · simp [assocGet]
      · rename_i h
        simp [assocGet, h, ih]

theorem assocGet_assocSet_other {α : Type} (l : List (Nat × α)) {k j : Nat} (v : α) (h : j ≠ k) :
    assocGet (assocSet l k v) j = assocGet l j := by
  induction l with
  | nil => simp [assocSet, assocGet, h]
  | cons p l ih =>
    obtain ⟨i, w⟩ := p
    simp only [assocSet]
    split
    · simp [assocGet, h]
    · split
      · rename_i e
        subst e
        simp [assocGet, h]
      · simp only [assocGet, ih]

theorem State.i_congr {s t : State} (h : t.live = s.live) (g : t.user = s.user) (o m : Nat) : t.i o m = s.i o m := by
  simp only [State.i, State.numAt, h, g]

theorem State.o_congr {s t : State} (h : t.live = s.live) (g : t.user = s.user) (o m : Nat) : t.o o m = s.o o m := by
  simp only [State.o, State.octsAt, h, g]

/-- A value that was put reads back. -/
@[simp] theorem State.i_put_same (s : State) (o m : Nat) (v : Int) : (s.put o m v).i o m = v := by
  simp [State.i, State.numAt, State.put, assocGet_assocSet_same]

@[simp] theorem State.u_put_same (s : State) (o m : Nat) (v : Int) : (s.put o m v).u o m = v.toNat := by
  simp [State.u]

/-- Every other object's value is as it was. -/
theorem State.i_put_other (s : State) {o m o' m' : Nat} (v : Int) (h : okey o' m' ≠ okey o m) :
    (s.put o m v).i o' m' = s.i o' m' := by
  simp [State.i, State.numAt, State.put, assocGet_assocSet_other _ _ h]

theorem State.u_put_other (s : State) {o m o' m' : Nat} (v : Int) (h : okey o' m' ≠ okey o m) :
    (s.put o m v).u o' m' = s.u o' m' :=
  congrArg Int.toNat (s.i_put_other v h)

@[simp] theorem State.o_put (s : State) (o m : Nat) (v : Int) (o' m' : Nat) : (s.put o m v).o o' m' = s.o o' m' := rfl

@[simp] theorem State.i_putO (s : State) (o m : Nat) (v : List Byte) (o' m' : Nat) :
    (s.putO o m v).i o' m' = s.i o' m' := rfl

@[simp] theorem State.u_putO (s : State) (o m : Nat) (v : List Byte) (o' m' : Nat) :
    (s.putO o m v).u o' m' = s.u o' m' := rfl

/-- Octets that were put read back. -/
@[simp] theorem State.o_putO_same (s : State) (o m : Nat) (v : List Byte) : (s.putO o m v).o o m = v := by
  simp [State.o, State.octsAt, State.putO, assocGet_assocSet_same]

theorem State.o_putO_other (s : State) {o m o' m' : Nat} (v : List Byte) (h : okey o' m' ≠ okey o m) :
    (s.putO o m v).o o' m' = s.o o' m' := by
  simp [State.o, State.octsAt, State.putO, assocGet_assocSet_other _ _ h]

/-- Objects of different numbers are different, for members of one octet. -/
theorem okey_ne {o o' m m' : Nat} (hm : m < 256) (hm' : m' < 256) (h : o ≠ o' ∨ m ≠ m') : okey o m ≠ okey o' m' := by
  unfold okey
  omega

@[simp] theorem State.put_user (s : State) (a1 a2 a3) : (State.put s a1 a2 a3).user = s.user :=
  (State.put_keep (Keep.refl 1 s) rfl _ _ _).user rfl

@[simp] theorem State.put_clk (s : State) (a1 a2 a3) : (State.put s a1 a2 a3).clk = s.clk :=
  (State.put_keep (Keep.refl 1 s) rfl _ _ _).clk rfl

@[simp] theorem State.put_diag (s : State) (a1 a2 a3) : (State.put s a1 a2 a3).diag = s.diag :=
  (State.put_keep (Keep.refl 1 s) rfl _ _ _).diag rfl

@[simp] theorem State.put_pow (s : State) (a1 a2 a3) : (State.put s a1 a2 a3).pow = s.pow :=
  (State.put_keep (Keep.refl 1 s) rfl _ _ _).pow rfl

@[simp] theorem State.put_mem (s : State) (a1 a2 a3) : (State.put s a1 a2 a3).mem = s.mem :=
  (State.put_keep (Keep.refl 1 s) rfl _ _ _).mem rfl

@[simp] theorem State.put_aop (s : State) (a1 a2 a3) : (State.put s a1 a2 a3).aop = s.aop :=
  (State.put_keep (Keep.refl 1 s) rfl _ _ _).aop rfl

@[simp] theorem State.put_frame (s : State) (a1 a2 a3) : (State.put s a1 a2 a3).frame = s.frame :=
  (State.put_keep (Keep.refl 1 s) rfl _ _ _).frame rfl

@[simp] theorem State.put_conv (s : State) (a1 a2 a3) : (State.put s a1 a2 a3).conv = s.conv :=
  (State.put_keep (Keep.refl 1 s) rfl _ _ _).conv rfl

@[simp] theorem State.put_cal (s : State) (a1 a2 a3) : (State.put s a1 a2 a3).cal = s.cal :=
  (State.put_keep (Keep.refl 1 s) rfl _ _ _).cal rfl

@[simp] theorem State.put_eq (s : State) (a1 a2 a3) : (State.put s a1 a2 a3).eq = s.eq :=
  (State.put_keep (Keep.refl 1 s) rfl _ _ _).eq rfl

@[simp] theorem State.put_load (s : State) (a1 a2 a3) : (State.put s a1 a2 a3).load = s.load :=
  (State.put_keep (Keep.refl 1 s) rfl _ _ _).load rfl

@[simp] theorem State.put_pool (s : State) (a1 a2 a3) : (State.put s a1 a2 a3).pool = s.pool :=
  (State.put_keep (Keep.refl 1 s) rfl _ _ _).pool rfl

@[simp] theorem State.put_lanes (s : State) (a1 a2 a3) : (State.put s a1 a2 a3).lanes = s.lanes :=
  (State.put_keep (Keep.refl 1 s) rfl _ _ _).lanes rfl

@[simp] theorem State.put_ciph (s : State) (a1 a2 a3) : (State.put s a1 a2 a3).ciph = s.ciph :=
  (State.put_keep (Keep.refl 1 s) rfl _ _ _).ciph rfl

@[simp] theorem State.put_grot (s : State) (a1 a2 a3) : (State.put s a1 a2 a3).grot = s.grot :=
  (State.put_keep (Keep.refl 1 s) rfl _ _ _).grot rfl

@[simp] theorem State.put_bel (s : State) (a1 a2 a3) : (State.put s a1 a2 a3).bel = s.bel :=
  (State.put_keep (Keep.refl 1 s) rfl _ _ _).bel rfl

@[simp] theorem State.put_foot (s : State) (a1 a2 a3) : (State.put s a1 a2 a3).foot = s.foot :=
  (State.put_keep (Keep.refl 1 s) rfl _ _ _).foot rfl

@[simp] theorem State.put_av (s : State) (a1 a2 a3) : (State.put s a1 a2 a3).av = s.av :=
  (State.put_keep (Keep.refl 1 s) rfl _ _ _).av rfl

@[simp] theorem State.put_svc (s : State) (a1 a2 a3) : (State.put s a1 a2 a3).svc = s.svc :=
  (State.put_keep (Keep.refl 1 s) rfl _ _ _).svc rfl

@[simp] theorem State.put_img (s : State) (a1 a2 a3) : (State.put s a1 a2 a3).img = s.img :=
  (State.put_keep (Keep.refl 1 s) rfl _ _ _).img rfl

@[simp] theorem State.put_grp (s : State) (a1 a2 a3) : (State.put s a1 a2 a3).grp = s.grp :=
  (State.put_keep (Keep.refl 1 s) rfl _ _ _).grp rfl

@[simp] theorem State.put_dmn (s : State) (a1 a2 a3) : (State.put s a1 a2 a3).dmn = s.dmn :=
  (State.put_keep (Keep.refl 1 s) rfl _ _ _).dmn rfl

@[simp] theorem State.putO_user (s : State) (a1 a2 a3) : (State.putO s a1 a2 a3).user = s.user :=
  (State.putO_keep (Keep.refl 1 s) rfl _ _ _).user rfl

@[simp] theorem State.putO_clk (s : State) (a1 a2 a3) : (State.putO s a1 a2 a3).clk = s.clk :=
  (State.putO_keep (Keep.refl 1 s) rfl _ _ _).clk rfl

@[simp] theorem State.putO_diag (s : State) (a1 a2 a3) : (State.putO s a1 a2 a3).diag = s.diag :=
  (State.putO_keep (Keep.refl 1 s) rfl _ _ _).diag rfl

@[simp] theorem State.putO_pow (s : State) (a1 a2 a3) : (State.putO s a1 a2 a3).pow = s.pow :=
  (State.putO_keep (Keep.refl 1 s) rfl _ _ _).pow rfl

@[simp] theorem State.putO_mem (s : State) (a1 a2 a3) : (State.putO s a1 a2 a3).mem = s.mem :=
  (State.putO_keep (Keep.refl 1 s) rfl _ _ _).mem rfl

@[simp] theorem State.putO_aop (s : State) (a1 a2 a3) : (State.putO s a1 a2 a3).aop = s.aop :=
  (State.putO_keep (Keep.refl 1 s) rfl _ _ _).aop rfl

@[simp] theorem State.putO_frame (s : State) (a1 a2 a3) : (State.putO s a1 a2 a3).frame = s.frame :=
  (State.putO_keep (Keep.refl 1 s) rfl _ _ _).frame rfl

@[simp] theorem State.putO_conv (s : State) (a1 a2 a3) : (State.putO s a1 a2 a3).conv = s.conv :=
  (State.putO_keep (Keep.refl 1 s) rfl _ _ _).conv rfl

@[simp] theorem State.putO_cal (s : State) (a1 a2 a3) : (State.putO s a1 a2 a3).cal = s.cal :=
  (State.putO_keep (Keep.refl 1 s) rfl _ _ _).cal rfl

@[simp] theorem State.putO_eq (s : State) (a1 a2 a3) : (State.putO s a1 a2 a3).eq = s.eq :=
  (State.putO_keep (Keep.refl 1 s) rfl _ _ _).eq rfl

@[simp] theorem State.putO_load (s : State) (a1 a2 a3) : (State.putO s a1 a2 a3).load = s.load :=
  (State.putO_keep (Keep.refl 1 s) rfl _ _ _).load rfl

@[simp] theorem State.putO_pool (s : State) (a1 a2 a3) : (State.putO s a1 a2 a3).pool = s.pool :=
  (State.putO_keep (Keep.refl 1 s) rfl _ _ _).pool rfl

@[simp] theorem State.putO_lanes (s : State) (a1 a2 a3) : (State.putO s a1 a2 a3).lanes = s.lanes :=
  (State.putO_keep (Keep.refl 1 s) rfl _ _ _).lanes rfl

@[simp] theorem State.putO_ciph (s : State) (a1 a2 a3) : (State.putO s a1 a2 a3).ciph = s.ciph :=
  (State.putO_keep (Keep.refl 1 s) rfl _ _ _).ciph rfl

@[simp] theorem State.putO_grot (s : State) (a1 a2 a3) : (State.putO s a1 a2 a3).grot = s.grot :=
  (State.putO_keep (Keep.refl 1 s) rfl _ _ _).grot rfl

@[simp] theorem State.putO_bel (s : State) (a1 a2 a3) : (State.putO s a1 a2 a3).bel = s.bel :=
  (State.putO_keep (Keep.refl 1 s) rfl _ _ _).bel rfl

@[simp] theorem State.putO_foot (s : State) (a1 a2 a3) : (State.putO s a1 a2 a3).foot = s.foot :=
  (State.putO_keep (Keep.refl 1 s) rfl _ _ _).foot rfl

@[simp] theorem State.putO_av (s : State) (a1 a2 a3) : (State.putO s a1 a2 a3).av = s.av :=
  (State.putO_keep (Keep.refl 1 s) rfl _ _ _).av rfl

@[simp] theorem State.putO_svc (s : State) (a1 a2 a3) : (State.putO s a1 a2 a3).svc = s.svc :=
  (State.putO_keep (Keep.refl 1 s) rfl _ _ _).svc rfl

@[simp] theorem State.putO_img (s : State) (a1 a2 a3) : (State.putO s a1 a2 a3).img = s.img :=
  (State.putO_keep (Keep.refl 1 s) rfl _ _ _).img rfl

@[simp] theorem State.putO_grp (s : State) (a1 a2 a3) : (State.putO s a1 a2 a3).grp = s.grp :=
  (State.putO_keep (Keep.refl 1 s) rfl _ _ _).grp rfl

@[simp] theorem State.putO_dmn (s : State) (a1 a2 a3) : (State.putO s a1 a2 a3).dmn = s.dmn :=
  (State.putO_keep (Keep.refl 1 s) rfl _ _ _).dmn rfl

@[simp] theorem State.fresh_live (s : State) (a1) : (State.fresh s a1).2.live = s.live :=
  (State.fresh_keep (Keep.refl 0 s) rfl _).live rfl

@[simp] theorem State.fresh_user (s : State) (a1) : (State.fresh s a1).2.user = s.user :=
  (State.fresh_keep (Keep.refl 0 s) rfl _).user rfl

@[simp] theorem State.fresh_clk (s : State) (a1) : (State.fresh s a1).2.clk = s.clk :=
  (State.fresh_keep (Keep.refl 0 s) rfl _).clk rfl

@[simp] theorem State.fresh_diag (s : State) (a1) : (State.fresh s a1).2.diag = s.diag :=
  (State.fresh_keep (Keep.refl 0 s) rfl _).diag rfl

@[simp] theorem State.fresh_pow (s : State) (a1) : (State.fresh s a1).2.pow = s.pow :=
  (State.fresh_keep (Keep.refl 0 s) rfl _).pow rfl

@[simp] theorem State.fresh_mem (s : State) (a1) : (State.fresh s a1).2.mem = s.mem :=
  (State.fresh_keep (Keep.refl 0 s) rfl _).mem rfl

@[simp] theorem State.fresh_aop (s : State) (a1) : (State.fresh s a1).2.aop = s.aop :=
  (State.fresh_keep (Keep.refl 0 s) rfl _).aop rfl

@[simp] theorem State.fresh_frame (s : State) (a1) : (State.fresh s a1).2.frame = s.frame :=
  (State.fresh_keep (Keep.refl 0 s) rfl _).frame rfl

@[simp] theorem State.fresh_conv (s : State) (a1) : (State.fresh s a1).2.conv = s.conv :=
  (State.fresh_keep (Keep.refl 0 s) rfl _).conv rfl

@[simp] theorem State.fresh_cal (s : State) (a1) : (State.fresh s a1).2.cal = s.cal :=
  (State.fresh_keep (Keep.refl 0 s) rfl _).cal rfl

@[simp] theorem State.fresh_eq (s : State) (a1) : (State.fresh s a1).2.eq = s.eq :=
  (State.fresh_keep (Keep.refl 0 s) rfl _).eq rfl

@[simp] theorem State.fresh_load (s : State) (a1) : (State.fresh s a1).2.load = s.load :=
  (State.fresh_keep (Keep.refl 0 s) rfl _).load rfl

@[simp] theorem State.fresh_pool (s : State) (a1) : (State.fresh s a1).2.pool = s.pool :=
  (State.fresh_keep (Keep.refl 0 s) rfl _).pool rfl

@[simp] theorem State.fresh_lanes (s : State) (a1) : (State.fresh s a1).2.lanes = s.lanes :=
  (State.fresh_keep (Keep.refl 0 s) rfl _).lanes rfl

@[simp] theorem State.fresh_ciph (s : State) (a1) : (State.fresh s a1).2.ciph = s.ciph :=
  (State.fresh_keep (Keep.refl 0 s) rfl _).ciph rfl

@[simp] theorem State.fresh_grot (s : State) (a1) : (State.fresh s a1).2.grot = s.grot :=
  (State.fresh_keep (Keep.refl 0 s) rfl _).grot rfl

@[simp] theorem State.fresh_bel (s : State) (a1) : (State.fresh s a1).2.bel = s.bel :=
  (State.fresh_keep (Keep.refl 0 s) rfl _).bel rfl

@[simp] theorem State.fresh_foot (s : State) (a1) : (State.fresh s a1).2.foot = s.foot :=
  (State.fresh_keep (Keep.refl 0 s) rfl _).foot rfl

@[simp] theorem State.fresh_av (s : State) (a1) : (State.fresh s a1).2.av = s.av :=
  (State.fresh_keep (Keep.refl 0 s) rfl _).av rfl

@[simp] theorem State.fresh_svc (s : State) (a1) : (State.fresh s a1).2.svc = s.svc :=
  (State.fresh_keep (Keep.refl 0 s) rfl _).svc rfl

@[simp] theorem State.fresh_img (s : State) (a1) : (State.fresh s a1).2.img = s.img :=
  (State.fresh_keep (Keep.refl 0 s) rfl _).img rfl

@[simp] theorem State.fresh_grp (s : State) (a1) : (State.fresh s a1).2.grp = s.grp :=
  (State.fresh_keep (Keep.refl 0 s) rfl _).grp rfl

@[simp] theorem State.fresh_dmn (s : State) (a1) : (State.fresh s a1).2.dmn = s.dmn :=
  (State.fresh_keep (Keep.refl 0 s) rfl _).dmn rfl

@[simp] theorem State.fresh_i (s : State) (a1) (o m) : (State.fresh s a1).2.i o m = s.i o m :=
  State.i_congr (by simp) (by simp) o m

@[simp] theorem State.fresh_u (s : State) (a1) (o m) : (State.fresh s a1).2.u o m = s.u o m :=
  congrArg Int.toNat (State.fresh_i ..)

@[simp] theorem State.fresh_o (s : State) (a1) (o m) : (State.fresh s a1).2.o o m = s.o o m :=
  State.o_congr (by simp) (by simp) o m

@[simp] theorem State.emit_live (s : State) (a1) : (State.emit s a1).live = s.live :=
  (State.emit_keep (Keep.refl 0 s) rfl _).live rfl

@[simp] theorem State.emit_user (s : State) (a1) : (State.emit s a1).user = s.user :=
  (State.emit_keep (Keep.refl 0 s) rfl _).user rfl

@[simp] theorem State.emit_clk (s : State) (a1) : (State.emit s a1).clk = s.clk :=
  (State.emit_keep (Keep.refl 0 s) rfl _).clk rfl

@[simp] theorem State.emit_diag (s : State) (a1) : (State.emit s a1).diag = s.diag :=
  (State.emit_keep (Keep.refl 0 s) rfl _).diag rfl

@[simp] theorem State.emit_pow (s : State) (a1) : (State.emit s a1).pow = s.pow :=
  (State.emit_keep (Keep.refl 0 s) rfl _).pow rfl

@[simp] theorem State.emit_mem (s : State) (a1) : (State.emit s a1).mem = s.mem :=
  (State.emit_keep (Keep.refl 0 s) rfl _).mem rfl

@[simp] theorem State.emit_aop (s : State) (a1) : (State.emit s a1).aop = s.aop :=
  (State.emit_keep (Keep.refl 0 s) rfl _).aop rfl

@[simp] theorem State.emit_frame (s : State) (a1) : (State.emit s a1).frame = s.frame :=
  (State.emit_keep (Keep.refl 0 s) rfl _).frame rfl

@[simp] theorem State.emit_conv (s : State) (a1) : (State.emit s a1).conv = s.conv :=
  (State.emit_keep (Keep.refl 0 s) rfl _).conv rfl

@[simp] theorem State.emit_cal (s : State) (a1) : (State.emit s a1).cal = s.cal :=
  (State.emit_keep (Keep.refl 0 s) rfl _).cal rfl

@[simp] theorem State.emit_eq (s : State) (a1) : (State.emit s a1).eq = s.eq :=
  (State.emit_keep (Keep.refl 0 s) rfl _).eq rfl

@[simp] theorem State.emit_load (s : State) (a1) : (State.emit s a1).load = s.load :=
  (State.emit_keep (Keep.refl 0 s) rfl _).load rfl

@[simp] theorem State.emit_pool (s : State) (a1) : (State.emit s a1).pool = s.pool :=
  (State.emit_keep (Keep.refl 0 s) rfl _).pool rfl

@[simp] theorem State.emit_lanes (s : State) (a1) : (State.emit s a1).lanes = s.lanes :=
  (State.emit_keep (Keep.refl 0 s) rfl _).lanes rfl

@[simp] theorem State.emit_ciph (s : State) (a1) : (State.emit s a1).ciph = s.ciph :=
  (State.emit_keep (Keep.refl 0 s) rfl _).ciph rfl

@[simp] theorem State.emit_grot (s : State) (a1) : (State.emit s a1).grot = s.grot :=
  (State.emit_keep (Keep.refl 0 s) rfl _).grot rfl

@[simp] theorem State.emit_bel (s : State) (a1) : (State.emit s a1).bel = s.bel :=
  (State.emit_keep (Keep.refl 0 s) rfl _).bel rfl

@[simp] theorem State.emit_foot (s : State) (a1) : (State.emit s a1).foot = s.foot :=
  (State.emit_keep (Keep.refl 0 s) rfl _).foot rfl

@[simp] theorem State.emit_av (s : State) (a1) : (State.emit s a1).av = s.av :=
  (State.emit_keep (Keep.refl 0 s) rfl _).av rfl

@[simp] theorem State.emit_svc (s : State) (a1) : (State.emit s a1).svc = s.svc :=
  (State.emit_keep (Keep.refl 0 s) rfl _).svc rfl

@[simp] theorem State.emit_img (s : State) (a1) : (State.emit s a1).img = s.img :=
  (State.emit_keep (Keep.refl 0 s) rfl _).img rfl

@[simp] theorem State.emit_grp (s : State) (a1) : (State.emit s a1).grp = s.grp :=
  (State.emit_keep (Keep.refl 0 s) rfl _).grp rfl

@[simp] theorem State.emit_dmn (s : State) (a1) : (State.emit s a1).dmn = s.dmn :=
  (State.emit_keep (Keep.refl 0 s) rfl _).dmn rfl

@[simp] theorem State.emit_i (s : State) (a1) (o m) : (State.emit s a1).i o m = s.i o m :=
  State.i_congr (by simp) (by simp) o m

@[simp] theorem State.emit_u (s : State) (a1) (o m) : (State.emit s a1).u o m = s.u o m :=
  congrArg Int.toNat (State.emit_i ..)

@[simp] theorem State.emit_o (s : State) (a1) (o m) : (State.emit s a1).o o m = s.o o m :=
  State.o_congr (by simp) (by simp) o m

@[simp] theorem State.addTo_user (s : State) (a1 a2 a3 a4) : (State.addTo s a1 a2 a3 a4).user = s.user :=
  (State.addTo_keep (Keep.refl 1 s) rfl _ _ _ _).user rfl

@[simp] theorem State.addTo_clk (s : State) (a1 a2 a3 a4) : (State.addTo s a1 a2 a3 a4).clk = s.clk :=
  (State.addTo_keep (Keep.refl 1 s) rfl _ _ _ _).clk rfl

@[simp] theorem State.addTo_diag (s : State) (a1 a2 a3 a4) : (State.addTo s a1 a2 a3 a4).diag = s.diag :=
  (State.addTo_keep (Keep.refl 1 s) rfl _ _ _ _).diag rfl

@[simp] theorem State.addTo_pow (s : State) (a1 a2 a3 a4) : (State.addTo s a1 a2 a3 a4).pow = s.pow :=
  (State.addTo_keep (Keep.refl 1 s) rfl _ _ _ _).pow rfl

@[simp] theorem State.addTo_mem (s : State) (a1 a2 a3 a4) : (State.addTo s a1 a2 a3 a4).mem = s.mem :=
  (State.addTo_keep (Keep.refl 1 s) rfl _ _ _ _).mem rfl

@[simp] theorem State.addTo_aop (s : State) (a1 a2 a3 a4) : (State.addTo s a1 a2 a3 a4).aop = s.aop :=
  (State.addTo_keep (Keep.refl 1 s) rfl _ _ _ _).aop rfl

@[simp] theorem State.addTo_frame (s : State) (a1 a2 a3 a4) : (State.addTo s a1 a2 a3 a4).frame = s.frame :=
  (State.addTo_keep (Keep.refl 1 s) rfl _ _ _ _).frame rfl

@[simp] theorem State.addTo_conv (s : State) (a1 a2 a3 a4) : (State.addTo s a1 a2 a3 a4).conv = s.conv :=
  (State.addTo_keep (Keep.refl 1 s) rfl _ _ _ _).conv rfl

@[simp] theorem State.addTo_cal (s : State) (a1 a2 a3 a4) : (State.addTo s a1 a2 a3 a4).cal = s.cal :=
  (State.addTo_keep (Keep.refl 1 s) rfl _ _ _ _).cal rfl

@[simp] theorem State.addTo_eq (s : State) (a1 a2 a3 a4) : (State.addTo s a1 a2 a3 a4).eq = s.eq :=
  (State.addTo_keep (Keep.refl 1 s) rfl _ _ _ _).eq rfl

@[simp] theorem State.addTo_load (s : State) (a1 a2 a3 a4) : (State.addTo s a1 a2 a3 a4).load = s.load :=
  (State.addTo_keep (Keep.refl 1 s) rfl _ _ _ _).load rfl

@[simp] theorem State.addTo_pool (s : State) (a1 a2 a3 a4) : (State.addTo s a1 a2 a3 a4).pool = s.pool :=
  (State.addTo_keep (Keep.refl 1 s) rfl _ _ _ _).pool rfl

@[simp] theorem State.addTo_lanes (s : State) (a1 a2 a3 a4) : (State.addTo s a1 a2 a3 a4).lanes = s.lanes :=
  (State.addTo_keep (Keep.refl 1 s) rfl _ _ _ _).lanes rfl

@[simp] theorem State.addTo_ciph (s : State) (a1 a2 a3 a4) : (State.addTo s a1 a2 a3 a4).ciph = s.ciph :=
  (State.addTo_keep (Keep.refl 1 s) rfl _ _ _ _).ciph rfl

@[simp] theorem State.addTo_grot (s : State) (a1 a2 a3 a4) : (State.addTo s a1 a2 a3 a4).grot = s.grot :=
  (State.addTo_keep (Keep.refl 1 s) rfl _ _ _ _).grot rfl

@[simp] theorem State.addTo_bel (s : State) (a1 a2 a3 a4) : (State.addTo s a1 a2 a3 a4).bel = s.bel :=
  (State.addTo_keep (Keep.refl 1 s) rfl _ _ _ _).bel rfl

@[simp] theorem State.addTo_foot (s : State) (a1 a2 a3 a4) : (State.addTo s a1 a2 a3 a4).foot = s.foot :=
  (State.addTo_keep (Keep.refl 1 s) rfl _ _ _ _).foot rfl

@[simp] theorem State.addTo_av (s : State) (a1 a2 a3 a4) : (State.addTo s a1 a2 a3 a4).av = s.av :=
  (State.addTo_keep (Keep.refl 1 s) rfl _ _ _ _).av rfl

@[simp] theorem State.addTo_svc (s : State) (a1 a2 a3 a4) : (State.addTo s a1 a2 a3 a4).svc = s.svc :=
  (State.addTo_keep (Keep.refl 1 s) rfl _ _ _ _).svc rfl

@[simp] theorem State.addTo_img (s : State) (a1 a2 a3 a4) : (State.addTo s a1 a2 a3 a4).img = s.img :=
  (State.addTo_keep (Keep.refl 1 s) rfl _ _ _ _).img rfl

@[simp] theorem State.addTo_grp (s : State) (a1 a2 a3 a4) : (State.addTo s a1 a2 a3 a4).grp = s.grp :=
  (State.addTo_keep (Keep.refl 1 s) rfl _ _ _ _).grp rfl

@[simp] theorem State.addTo_dmn (s : State) (a1 a2 a3 a4) : (State.addTo s a1 a2 a3 a4).dmn = s.dmn :=
  (State.addTo_keep (Keep.refl 1 s) rfl _ _ _ _).dmn rfl

@[simp] theorem State.bump_user (s : State) (a1 a2) : (State.bump s a1 a2).user = s.user :=
  (State.bump_keep (Keep.refl 1 s) rfl _ _).user rfl

@[simp] theorem State.bump_clk (s : State) (a1 a2) : (State.bump s a1 a2).clk = s.clk :=
  (State.bump_keep (Keep.refl 1 s) rfl _ _).clk rfl

@[simp] theorem State.bump_diag (s : State) (a1 a2) : (State.bump s a1 a2).diag = s.diag :=
  (State.bump_keep (Keep.refl 1 s) rfl _ _).diag rfl

@[simp] theorem State.bump_pow (s : State) (a1 a2) : (State.bump s a1 a2).pow = s.pow :=
  (State.bump_keep (Keep.refl 1 s) rfl _ _).pow rfl

@[simp] theorem State.bump_mem (s : State) (a1 a2) : (State.bump s a1 a2).mem = s.mem :=
  (State.bump_keep (Keep.refl 1 s) rfl _ _).mem rfl

@[simp] theorem State.bump_aop (s : State) (a1 a2) : (State.bump s a1 a2).aop = s.aop :=
  (State.bump_keep (Keep.refl 1 s) rfl _ _).aop rfl

@[simp] theorem State.bump_frame (s : State) (a1 a2) : (State.bump s a1 a2).frame = s.frame :=
  (State.bump_keep (Keep.refl 1 s) rfl _ _).frame rfl

@[simp] theorem State.bump_conv (s : State) (a1 a2) : (State.bump s a1 a2).conv = s.conv :=
  (State.bump_keep (Keep.refl 1 s) rfl _ _).conv rfl

@[simp] theorem State.bump_cal (s : State) (a1 a2) : (State.bump s a1 a2).cal = s.cal :=
  (State.bump_keep (Keep.refl 1 s) rfl _ _).cal rfl

@[simp] theorem State.bump_eq (s : State) (a1 a2) : (State.bump s a1 a2).eq = s.eq :=
  (State.bump_keep (Keep.refl 1 s) rfl _ _).eq rfl

@[simp] theorem State.bump_load (s : State) (a1 a2) : (State.bump s a1 a2).load = s.load :=
  (State.bump_keep (Keep.refl 1 s) rfl _ _).load rfl

@[simp] theorem State.bump_pool (s : State) (a1 a2) : (State.bump s a1 a2).pool = s.pool :=
  (State.bump_keep (Keep.refl 1 s) rfl _ _).pool rfl

@[simp] theorem State.bump_lanes (s : State) (a1 a2) : (State.bump s a1 a2).lanes = s.lanes :=
  (State.bump_keep (Keep.refl 1 s) rfl _ _).lanes rfl

@[simp] theorem State.bump_ciph (s : State) (a1 a2) : (State.bump s a1 a2).ciph = s.ciph :=
  (State.bump_keep (Keep.refl 1 s) rfl _ _).ciph rfl

@[simp] theorem State.bump_grot (s : State) (a1 a2) : (State.bump s a1 a2).grot = s.grot :=
  (State.bump_keep (Keep.refl 1 s) rfl _ _).grot rfl

@[simp] theorem State.bump_bel (s : State) (a1 a2) : (State.bump s a1 a2).bel = s.bel :=
  (State.bump_keep (Keep.refl 1 s) rfl _ _).bel rfl

@[simp] theorem State.bump_foot (s : State) (a1 a2) : (State.bump s a1 a2).foot = s.foot :=
  (State.bump_keep (Keep.refl 1 s) rfl _ _).foot rfl

@[simp] theorem State.bump_av (s : State) (a1 a2) : (State.bump s a1 a2).av = s.av :=
  (State.bump_keep (Keep.refl 1 s) rfl _ _).av rfl

@[simp] theorem State.bump_svc (s : State) (a1 a2) : (State.bump s a1 a2).svc = s.svc :=
  (State.bump_keep (Keep.refl 1 s) rfl _ _).svc rfl

@[simp] theorem State.bump_img (s : State) (a1 a2) : (State.bump s a1 a2).img = s.img :=
  (State.bump_keep (Keep.refl 1 s) rfl _ _).img rfl

@[simp] theorem State.bump_grp (s : State) (a1 a2) : (State.bump s a1 a2).grp = s.grp :=
  (State.bump_keep (Keep.refl 1 s) rfl _ _).grp rfl

@[simp] theorem State.bump_dmn (s : State) (a1 a2) : (State.bump s a1 a2).dmn = s.dmn :=
  (State.bump_keep (Keep.refl 1 s) rfl _ _).dmn rfl

@[simp] theorem State.add64_user (s : State) (a1 a2 a3) : (State.add64 s a1 a2 a3).user = s.user :=
  (State.add64_keep (Keep.refl 1 s) rfl _ _ _).user rfl

@[simp] theorem State.add64_clk (s : State) (a1 a2 a3) : (State.add64 s a1 a2 a3).clk = s.clk :=
  (State.add64_keep (Keep.refl 1 s) rfl _ _ _).clk rfl

@[simp] theorem State.add64_diag (s : State) (a1 a2 a3) : (State.add64 s a1 a2 a3).diag = s.diag :=
  (State.add64_keep (Keep.refl 1 s) rfl _ _ _).diag rfl

@[simp] theorem State.add64_pow (s : State) (a1 a2 a3) : (State.add64 s a1 a2 a3).pow = s.pow :=
  (State.add64_keep (Keep.refl 1 s) rfl _ _ _).pow rfl

@[simp] theorem State.add64_mem (s : State) (a1 a2 a3) : (State.add64 s a1 a2 a3).mem = s.mem :=
  (State.add64_keep (Keep.refl 1 s) rfl _ _ _).mem rfl

@[simp] theorem State.add64_aop (s : State) (a1 a2 a3) : (State.add64 s a1 a2 a3).aop = s.aop :=
  (State.add64_keep (Keep.refl 1 s) rfl _ _ _).aop rfl

@[simp] theorem State.add64_frame (s : State) (a1 a2 a3) : (State.add64 s a1 a2 a3).frame = s.frame :=
  (State.add64_keep (Keep.refl 1 s) rfl _ _ _).frame rfl

@[simp] theorem State.add64_conv (s : State) (a1 a2 a3) : (State.add64 s a1 a2 a3).conv = s.conv :=
  (State.add64_keep (Keep.refl 1 s) rfl _ _ _).conv rfl

@[simp] theorem State.add64_cal (s : State) (a1 a2 a3) : (State.add64 s a1 a2 a3).cal = s.cal :=
  (State.add64_keep (Keep.refl 1 s) rfl _ _ _).cal rfl

@[simp] theorem State.add64_eq (s : State) (a1 a2 a3) : (State.add64 s a1 a2 a3).eq = s.eq :=
  (State.add64_keep (Keep.refl 1 s) rfl _ _ _).eq rfl

@[simp] theorem State.add64_load (s : State) (a1 a2 a3) : (State.add64 s a1 a2 a3).load = s.load :=
  (State.add64_keep (Keep.refl 1 s) rfl _ _ _).load rfl

@[simp] theorem State.add64_pool (s : State) (a1 a2 a3) : (State.add64 s a1 a2 a3).pool = s.pool :=
  (State.add64_keep (Keep.refl 1 s) rfl _ _ _).pool rfl

@[simp] theorem State.add64_lanes (s : State) (a1 a2 a3) : (State.add64 s a1 a2 a3).lanes = s.lanes :=
  (State.add64_keep (Keep.refl 1 s) rfl _ _ _).lanes rfl

@[simp] theorem State.add64_ciph (s : State) (a1 a2 a3) : (State.add64 s a1 a2 a3).ciph = s.ciph :=
  (State.add64_keep (Keep.refl 1 s) rfl _ _ _).ciph rfl

@[simp] theorem State.add64_grot (s : State) (a1 a2 a3) : (State.add64 s a1 a2 a3).grot = s.grot :=
  (State.add64_keep (Keep.refl 1 s) rfl _ _ _).grot rfl

@[simp] theorem State.add64_bel (s : State) (a1 a2 a3) : (State.add64 s a1 a2 a3).bel = s.bel :=
  (State.add64_keep (Keep.refl 1 s) rfl _ _ _).bel rfl

@[simp] theorem State.add64_foot (s : State) (a1 a2 a3) : (State.add64 s a1 a2 a3).foot = s.foot :=
  (State.add64_keep (Keep.refl 1 s) rfl _ _ _).foot rfl

@[simp] theorem State.add64_av (s : State) (a1 a2 a3) : (State.add64 s a1 a2 a3).av = s.av :=
  (State.add64_keep (Keep.refl 1 s) rfl _ _ _).av rfl

@[simp] theorem State.add64_svc (s : State) (a1 a2 a3) : (State.add64 s a1 a2 a3).svc = s.svc :=
  (State.add64_keep (Keep.refl 1 s) rfl _ _ _).svc rfl

@[simp] theorem State.add64_img (s : State) (a1 a2 a3) : (State.add64 s a1 a2 a3).img = s.img :=
  (State.add64_keep (Keep.refl 1 s) rfl _ _ _).img rfl

@[simp] theorem State.add64_grp (s : State) (a1 a2 a3) : (State.add64 s a1 a2 a3).grp = s.grp :=
  (State.add64_keep (Keep.refl 1 s) rfl _ _ _).grp rfl

@[simp] theorem State.add64_dmn (s : State) (a1 a2 a3) : (State.add64 s a1 a2 a3).dmn = s.dmn :=
  (State.add64_keep (Keep.refl 1 s) rfl _ _ _).dmn rfl

@[simp] theorem State.occurN_live (s : State) (a1 a2 a3) : (State.occurN s a1 a2 a3).live = s.live :=
  (State.occurN_keep (Keep.refl 8 s) rfl _ _ _).live rfl

@[simp] theorem State.occurN_user (s : State) (a1 a2 a3) : (State.occurN s a1 a2 a3).user = s.user :=
  (State.occurN_keep (Keep.refl 8 s) rfl _ _ _).user rfl

@[simp] theorem State.occurN_clk (s : State) (a1 a2 a3) : (State.occurN s a1 a2 a3).clk = s.clk :=
  (State.occurN_keep (Keep.refl 8 s) rfl _ _ _).clk rfl

@[simp] theorem State.occurN_pow (s : State) (a1 a2 a3) : (State.occurN s a1 a2 a3).pow = s.pow :=
  (State.occurN_keep (Keep.refl 8 s) rfl _ _ _).pow rfl

@[simp] theorem State.occurN_mem (s : State) (a1 a2 a3) : (State.occurN s a1 a2 a3).mem = s.mem :=
  (State.occurN_keep (Keep.refl 8 s) rfl _ _ _).mem rfl

@[simp] theorem State.occurN_aop (s : State) (a1 a2 a3) : (State.occurN s a1 a2 a3).aop = s.aop :=
  (State.occurN_keep (Keep.refl 8 s) rfl _ _ _).aop rfl

@[simp] theorem State.occurN_frame (s : State) (a1 a2 a3) : (State.occurN s a1 a2 a3).frame = s.frame :=
  (State.occurN_keep (Keep.refl 8 s) rfl _ _ _).frame rfl

@[simp] theorem State.occurN_conv (s : State) (a1 a2 a3) : (State.occurN s a1 a2 a3).conv = s.conv :=
  (State.occurN_keep (Keep.refl 8 s) rfl _ _ _).conv rfl

@[simp] theorem State.occurN_cal (s : State) (a1 a2 a3) : (State.occurN s a1 a2 a3).cal = s.cal :=
  (State.occurN_keep (Keep.refl 8 s) rfl _ _ _).cal rfl

@[simp] theorem State.occurN_eq (s : State) (a1 a2 a3) : (State.occurN s a1 a2 a3).eq = s.eq :=
  (State.occurN_keep (Keep.refl 8 s) rfl _ _ _).eq rfl

@[simp] theorem State.occurN_load (s : State) (a1 a2 a3) : (State.occurN s a1 a2 a3).load = s.load :=
  (State.occurN_keep (Keep.refl 8 s) rfl _ _ _).load rfl

@[simp] theorem State.occurN_pool (s : State) (a1 a2 a3) : (State.occurN s a1 a2 a3).pool = s.pool :=
  (State.occurN_keep (Keep.refl 8 s) rfl _ _ _).pool rfl

@[simp] theorem State.occurN_lanes (s : State) (a1 a2 a3) : (State.occurN s a1 a2 a3).lanes = s.lanes :=
  (State.occurN_keep (Keep.refl 8 s) rfl _ _ _).lanes rfl

@[simp] theorem State.occurN_ciph (s : State) (a1 a2 a3) : (State.occurN s a1 a2 a3).ciph = s.ciph :=
  (State.occurN_keep (Keep.refl 8 s) rfl _ _ _).ciph rfl

@[simp] theorem State.occurN_grot (s : State) (a1 a2 a3) : (State.occurN s a1 a2 a3).grot = s.grot :=
  (State.occurN_keep (Keep.refl 8 s) rfl _ _ _).grot rfl

@[simp] theorem State.occurN_bel (s : State) (a1 a2 a3) : (State.occurN s a1 a2 a3).bel = s.bel :=
  (State.occurN_keep (Keep.refl 8 s) rfl _ _ _).bel rfl

@[simp] theorem State.occurN_foot (s : State) (a1 a2 a3) : (State.occurN s a1 a2 a3).foot = s.foot :=
  (State.occurN_keep (Keep.refl 8 s) rfl _ _ _).foot rfl

@[simp] theorem State.occurN_av (s : State) (a1 a2 a3) : (State.occurN s a1 a2 a3).av = s.av :=
  (State.occurN_keep (Keep.refl 8 s) rfl _ _ _).av rfl

@[simp] theorem State.occurN_svc (s : State) (a1 a2 a3) : (State.occurN s a1 a2 a3).svc = s.svc :=
  (State.occurN_keep (Keep.refl 8 s) rfl _ _ _).svc rfl

@[simp] theorem State.occurN_img (s : State) (a1 a2 a3) : (State.occurN s a1 a2 a3).img = s.img :=
  (State.occurN_keep (Keep.refl 8 s) rfl _ _ _).img rfl

@[simp] theorem State.occurN_grp (s : State) (a1 a2 a3) : (State.occurN s a1 a2 a3).grp = s.grp :=
  (State.occurN_keep (Keep.refl 8 s) rfl _ _ _).grp rfl

@[simp] theorem State.occurN_dmn (s : State) (a1 a2 a3) : (State.occurN s a1 a2 a3).dmn = s.dmn :=
  (State.occurN_keep (Keep.refl 8 s) rfl _ _ _).dmn rfl

theorem State.occurN_waits (s : State) (a1 a2 a3) : s.diag.waiting <+: (State.occurN s a1 a2 a3).diag.waiting :=
  (State.occurN_keep (Keep.refl 8 s) rfl _ _ _).waits rfl

@[simp] theorem State.occurN_i (s : State) (a1 a2 a3) (o m) : (State.occurN s a1 a2 a3).i o m = s.i o m :=
  State.i_congr (by simp) (by simp) o m

@[simp] theorem State.occurN_u (s : State) (a1 a2 a3) (o m) : (State.occurN s a1 a2 a3).u o m = s.u o m :=
  congrArg Int.toNat (State.occurN_i ..)

@[simp] theorem State.occurN_o (s : State) (a1 a2 a3) (o m) : (State.occurN s a1 a2 a3).o o m = s.o o m :=
  State.o_congr (by simp) (by simp) o m

@[simp] theorem State.occur_live (s : State) (a1 a2) : (State.occur s a1 a2).live = s.live :=
  (State.occur_keep (Keep.refl 8 s) rfl _ _).live rfl

@[simp] theorem State.occur_user (s : State) (a1 a2) : (State.occur s a1 a2).user = s.user :=
  (State.occur_keep (Keep.refl 8 s) rfl _ _).user rfl

@[simp] theorem State.occur_clk (s : State) (a1 a2) : (State.occur s a1 a2).clk = s.clk :=
  (State.occur_keep (Keep.refl 8 s) rfl _ _).clk rfl

@[simp] theorem State.occur_pow (s : State) (a1 a2) : (State.occur s a1 a2).pow = s.pow :=
  (State.occur_keep (Keep.refl 8 s) rfl _ _).pow rfl

@[simp] theorem State.occur_mem (s : State) (a1 a2) : (State.occur s a1 a2).mem = s.mem :=
  (State.occur_keep (Keep.refl 8 s) rfl _ _).mem rfl

@[simp] theorem State.occur_aop (s : State) (a1 a2) : (State.occur s a1 a2).aop = s.aop :=
  (State.occur_keep (Keep.refl 8 s) rfl _ _).aop rfl

@[simp] theorem State.occur_frame (s : State) (a1 a2) : (State.occur s a1 a2).frame = s.frame :=
  (State.occur_keep (Keep.refl 8 s) rfl _ _).frame rfl

@[simp] theorem State.occur_conv (s : State) (a1 a2) : (State.occur s a1 a2).conv = s.conv :=
  (State.occur_keep (Keep.refl 8 s) rfl _ _).conv rfl

@[simp] theorem State.occur_cal (s : State) (a1 a2) : (State.occur s a1 a2).cal = s.cal :=
  (State.occur_keep (Keep.refl 8 s) rfl _ _).cal rfl

@[simp] theorem State.occur_eq (s : State) (a1 a2) : (State.occur s a1 a2).eq = s.eq :=
  (State.occur_keep (Keep.refl 8 s) rfl _ _).eq rfl

@[simp] theorem State.occur_load (s : State) (a1 a2) : (State.occur s a1 a2).load = s.load :=
  (State.occur_keep (Keep.refl 8 s) rfl _ _).load rfl

@[simp] theorem State.occur_pool (s : State) (a1 a2) : (State.occur s a1 a2).pool = s.pool :=
  (State.occur_keep (Keep.refl 8 s) rfl _ _).pool rfl

@[simp] theorem State.occur_lanes (s : State) (a1 a2) : (State.occur s a1 a2).lanes = s.lanes :=
  (State.occur_keep (Keep.refl 8 s) rfl _ _).lanes rfl

@[simp] theorem State.occur_ciph (s : State) (a1 a2) : (State.occur s a1 a2).ciph = s.ciph :=
  (State.occur_keep (Keep.refl 8 s) rfl _ _).ciph rfl

@[simp] theorem State.occur_grot (s : State) (a1 a2) : (State.occur s a1 a2).grot = s.grot :=
  (State.occur_keep (Keep.refl 8 s) rfl _ _).grot rfl

@[simp] theorem State.occur_bel (s : State) (a1 a2) : (State.occur s a1 a2).bel = s.bel :=
  (State.occur_keep (Keep.refl 8 s) rfl _ _).bel rfl

@[simp] theorem State.occur_foot (s : State) (a1 a2) : (State.occur s a1 a2).foot = s.foot :=
  (State.occur_keep (Keep.refl 8 s) rfl _ _).foot rfl

@[simp] theorem State.occur_av (s : State) (a1 a2) : (State.occur s a1 a2).av = s.av :=
  (State.occur_keep (Keep.refl 8 s) rfl _ _).av rfl

@[simp] theorem State.occur_svc (s : State) (a1 a2) : (State.occur s a1 a2).svc = s.svc :=
  (State.occur_keep (Keep.refl 8 s) rfl _ _).svc rfl

@[simp] theorem State.occur_img (s : State) (a1 a2) : (State.occur s a1 a2).img = s.img :=
  (State.occur_keep (Keep.refl 8 s) rfl _ _).img rfl

@[simp] theorem State.occur_grp (s : State) (a1 a2) : (State.occur s a1 a2).grp = s.grp :=
  (State.occur_keep (Keep.refl 8 s) rfl _ _).grp rfl

@[simp] theorem State.occur_dmn (s : State) (a1 a2) : (State.occur s a1 a2).dmn = s.dmn :=
  (State.occur_keep (Keep.refl 8 s) rfl _ _).dmn rfl

theorem State.occur_waits (s : State) (a1 a2) : s.diag.waiting <+: (State.occur s a1 a2).diag.waiting :=
  (State.occur_keep (Keep.refl 8 s) rfl _ _).waits rfl

@[simp] theorem State.occur_i (s : State) (a1 a2) (o m) : (State.occur s a1 a2).i o m = s.i o m :=
  State.i_congr (by simp) (by simp) o m

@[simp] theorem State.occur_u (s : State) (a1 a2) (o m) : (State.occur s a1 a2).u o m = s.u o m :=
  congrArg Int.toNat (State.occur_i ..)

@[simp] theorem State.occur_o (s : State) (a1 a2) (o m) : (State.occur s a1 a2).o o m = s.o o m :=
  State.o_congr (by simp) (by simp) o m

@[simp] theorem State.alert_user (s : State) (a1) : (State.alert s a1).user = s.user :=
  (State.alert_keep (Keep.refl 9 s) rfl _).user rfl

@[simp] theorem State.alert_clk (s : State) (a1) : (State.alert s a1).clk = s.clk :=
  (State.alert_keep (Keep.refl 9 s) rfl _).clk rfl

@[simp] theorem State.alert_pow (s : State) (a1) : (State.alert s a1).pow = s.pow :=
  (State.alert_keep (Keep.refl 9 s) rfl _).pow rfl

@[simp] theorem State.alert_mem (s : State) (a1) : (State.alert s a1).mem = s.mem :=
  (State.alert_keep (Keep.refl 9 s) rfl _).mem rfl

@[simp] theorem State.alert_aop (s : State) (a1) : (State.alert s a1).aop = s.aop :=
  (State.alert_keep (Keep.refl 9 s) rfl _).aop rfl

@[simp] theorem State.alert_frame (s : State) (a1) : (State.alert s a1).frame = s.frame :=
  (State.alert_keep (Keep.refl 9 s) rfl _).frame rfl

@[simp] theorem State.alert_conv (s : State) (a1) : (State.alert s a1).conv = s.conv :=
  (State.alert_keep (Keep.refl 9 s) rfl _).conv rfl

@[simp] theorem State.alert_cal (s : State) (a1) : (State.alert s a1).cal = s.cal :=
  (State.alert_keep (Keep.refl 9 s) rfl _).cal rfl

@[simp] theorem State.alert_eq (s : State) (a1) : (State.alert s a1).eq = s.eq :=
  (State.alert_keep (Keep.refl 9 s) rfl _).eq rfl

@[simp] theorem State.alert_load (s : State) (a1) : (State.alert s a1).load = s.load :=
  (State.alert_keep (Keep.refl 9 s) rfl _).load rfl

@[simp] theorem State.alert_pool (s : State) (a1) : (State.alert s a1).pool = s.pool :=
  (State.alert_keep (Keep.refl 9 s) rfl _).pool rfl

@[simp] theorem State.alert_lanes (s : State) (a1) : (State.alert s a1).lanes = s.lanes :=
  (State.alert_keep (Keep.refl 9 s) rfl _).lanes rfl

@[simp] theorem State.alert_ciph (s : State) (a1) : (State.alert s a1).ciph = s.ciph :=
  (State.alert_keep (Keep.refl 9 s) rfl _).ciph rfl

@[simp] theorem State.alert_grot (s : State) (a1) : (State.alert s a1).grot = s.grot :=
  (State.alert_keep (Keep.refl 9 s) rfl _).grot rfl

@[simp] theorem State.alert_bel (s : State) (a1) : (State.alert s a1).bel = s.bel :=
  (State.alert_keep (Keep.refl 9 s) rfl _).bel rfl

@[simp] theorem State.alert_foot (s : State) (a1) : (State.alert s a1).foot = s.foot :=
  (State.alert_keep (Keep.refl 9 s) rfl _).foot rfl

@[simp] theorem State.alert_av (s : State) (a1) : (State.alert s a1).av = s.av :=
  (State.alert_keep (Keep.refl 9 s) rfl _).av rfl

@[simp] theorem State.alert_svc (s : State) (a1) : (State.alert s a1).svc = s.svc :=
  (State.alert_keep (Keep.refl 9 s) rfl _).svc rfl

@[simp] theorem State.alert_img (s : State) (a1) : (State.alert s a1).img = s.img :=
  (State.alert_keep (Keep.refl 9 s) rfl _).img rfl

@[simp] theorem State.alert_grp (s : State) (a1) : (State.alert s a1).grp = s.grp :=
  (State.alert_keep (Keep.refl 9 s) rfl _).grp rfl

@[simp] theorem State.alert_dmn (s : State) (a1) : (State.alert s a1).dmn = s.dmn :=
  (State.alert_keep (Keep.refl 9 s) rfl _).dmn rfl

theorem State.alert_waits (s : State) (a1) : s.diag.waiting <+: (State.alert s a1).diag.waiting :=
  (State.alert_keep (Keep.refl 9 s) rfl _).waits rfl

@[simp] theorem State.notify_user (s : State) (a1 a2) : (State.notify s a1 a2).user = s.user :=
  (State.notify_keep (Keep.refl 73 s) rfl _ _).user rfl

@[simp] theorem State.notify_clk (s : State) (a1 a2) : (State.notify s a1 a2).clk = s.clk :=
  (State.notify_keep (Keep.refl 73 s) rfl _ _).clk rfl

@[simp] theorem State.notify_pow (s : State) (a1 a2) : (State.notify s a1 a2).pow = s.pow :=
  (State.notify_keep (Keep.refl 73 s) rfl _ _).pow rfl

@[simp] theorem State.notify_mem (s : State) (a1 a2) : (State.notify s a1 a2).mem = s.mem :=
  (State.notify_keep (Keep.refl 73 s) rfl _ _).mem rfl

@[simp] theorem State.notify_frame (s : State) (a1 a2) : (State.notify s a1 a2).frame = s.frame :=
  (State.notify_keep (Keep.refl 73 s) rfl _ _).frame rfl

@[simp] theorem State.notify_conv (s : State) (a1 a2) : (State.notify s a1 a2).conv = s.conv :=
  (State.notify_keep (Keep.refl 73 s) rfl _ _).conv rfl

@[simp] theorem State.notify_cal (s : State) (a1 a2) : (State.notify s a1 a2).cal = s.cal :=
  (State.notify_keep (Keep.refl 73 s) rfl _ _).cal rfl

@[simp] theorem State.notify_eq (s : State) (a1 a2) : (State.notify s a1 a2).eq = s.eq :=
  (State.notify_keep (Keep.refl 73 s) rfl _ _).eq rfl

@[simp] theorem State.notify_load (s : State) (a1 a2) : (State.notify s a1 a2).load = s.load :=
  (State.notify_keep (Keep.refl 73 s) rfl _ _).load rfl

@[simp] theorem State.notify_pool (s : State) (a1 a2) : (State.notify s a1 a2).pool = s.pool :=
  (State.notify_keep (Keep.refl 73 s) rfl _ _).pool rfl

@[simp] theorem State.notify_lanes (s : State) (a1 a2) : (State.notify s a1 a2).lanes = s.lanes :=
  (State.notify_keep (Keep.refl 73 s) rfl _ _).lanes rfl

@[simp] theorem State.notify_ciph (s : State) (a1 a2) : (State.notify s a1 a2).ciph = s.ciph :=
  (State.notify_keep (Keep.refl 73 s) rfl _ _).ciph rfl

@[simp] theorem State.notify_grot (s : State) (a1 a2) : (State.notify s a1 a2).grot = s.grot :=
  (State.notify_keep (Keep.refl 73 s) rfl _ _).grot rfl

@[simp] theorem State.notify_bel (s : State) (a1 a2) : (State.notify s a1 a2).bel = s.bel :=
  (State.notify_keep (Keep.refl 73 s) rfl _ _).bel rfl

@[simp] theorem State.notify_foot (s : State) (a1 a2) : (State.notify s a1 a2).foot = s.foot :=
  (State.notify_keep (Keep.refl 73 s) rfl _ _).foot rfl

@[simp] theorem State.notify_av (s : State) (a1 a2) : (State.notify s a1 a2).av = s.av :=
  (State.notify_keep (Keep.refl 73 s) rfl _ _).av rfl

@[simp] theorem State.notify_svc (s : State) (a1 a2) : (State.notify s a1 a2).svc = s.svc :=
  (State.notify_keep (Keep.refl 73 s) rfl _ _).svc rfl

@[simp] theorem State.notify_img (s : State) (a1 a2) : (State.notify s a1 a2).img = s.img :=
  (State.notify_keep (Keep.refl 73 s) rfl _ _).img rfl

@[simp] theorem State.notify_grp (s : State) (a1 a2) : (State.notify s a1 a2).grp = s.grp :=
  (State.notify_keep (Keep.refl 73 s) rfl _ _).grp rfl

@[simp] theorem State.notify_dmn (s : State) (a1 a2) : (State.notify s a1 a2).dmn = s.dmn :=
  (State.notify_keep (Keep.refl 73 s) rfl _ _).dmn rfl

theorem State.notify_waits (s : State) (a1 a2) : s.diag.waiting <+: (State.notify s a1 a2).diag.waiting :=
  (State.notify_keep (Keep.refl 73 s) rfl _ _).waits rfl

@[simp] theorem State.log_user (s : State) (a1 a2) : (State.log s a1 a2).user = s.user :=
  (State.log_keep (Keep.refl 73 s) rfl _ _).user rfl

@[simp] theorem State.log_clk (s : State) (a1 a2) : (State.log s a1 a2).clk = s.clk :=
  (State.log_keep (Keep.refl 73 s) rfl _ _).clk rfl

@[simp] theorem State.log_pow (s : State) (a1 a2) : (State.log s a1 a2).pow = s.pow :=
  (State.log_keep (Keep.refl 73 s) rfl _ _).pow rfl

@[simp] theorem State.log_mem (s : State) (a1 a2) : (State.log s a1 a2).mem = s.mem :=
  (State.log_keep (Keep.refl 73 s) rfl _ _).mem rfl

@[simp] theorem State.log_frame (s : State) (a1 a2) : (State.log s a1 a2).frame = s.frame :=
  (State.log_keep (Keep.refl 73 s) rfl _ _).frame rfl

@[simp] theorem State.log_conv (s : State) (a1 a2) : (State.log s a1 a2).conv = s.conv :=
  (State.log_keep (Keep.refl 73 s) rfl _ _).conv rfl

@[simp] theorem State.log_cal (s : State) (a1 a2) : (State.log s a1 a2).cal = s.cal :=
  (State.log_keep (Keep.refl 73 s) rfl _ _).cal rfl

@[simp] theorem State.log_eq (s : State) (a1 a2) : (State.log s a1 a2).eq = s.eq :=
  (State.log_keep (Keep.refl 73 s) rfl _ _).eq rfl

@[simp] theorem State.log_load (s : State) (a1 a2) : (State.log s a1 a2).load = s.load :=
  (State.log_keep (Keep.refl 73 s) rfl _ _).load rfl

@[simp] theorem State.log_pool (s : State) (a1 a2) : (State.log s a1 a2).pool = s.pool :=
  (State.log_keep (Keep.refl 73 s) rfl _ _).pool rfl

@[simp] theorem State.log_lanes (s : State) (a1 a2) : (State.log s a1 a2).lanes = s.lanes :=
  (State.log_keep (Keep.refl 73 s) rfl _ _).lanes rfl

@[simp] theorem State.log_ciph (s : State) (a1 a2) : (State.log s a1 a2).ciph = s.ciph :=
  (State.log_keep (Keep.refl 73 s) rfl _ _).ciph rfl

@[simp] theorem State.log_grot (s : State) (a1 a2) : (State.log s a1 a2).grot = s.grot :=
  (State.log_keep (Keep.refl 73 s) rfl _ _).grot rfl

@[simp] theorem State.log_bel (s : State) (a1 a2) : (State.log s a1 a2).bel = s.bel :=
  (State.log_keep (Keep.refl 73 s) rfl _ _).bel rfl

@[simp] theorem State.log_foot (s : State) (a1 a2) : (State.log s a1 a2).foot = s.foot :=
  (State.log_keep (Keep.refl 73 s) rfl _ _).foot rfl

@[simp] theorem State.log_av (s : State) (a1 a2) : (State.log s a1 a2).av = s.av :=
  (State.log_keep (Keep.refl 73 s) rfl _ _).av rfl

@[simp] theorem State.log_svc (s : State) (a1 a2) : (State.log s a1 a2).svc = s.svc :=
  (State.log_keep (Keep.refl 73 s) rfl _ _).svc rfl

@[simp] theorem State.log_img (s : State) (a1 a2) : (State.log s a1 a2).img = s.img :=
  (State.log_keep (Keep.refl 73 s) rfl _ _).img rfl

@[simp] theorem State.log_grp (s : State) (a1 a2) : (State.log s a1 a2).grp = s.grp :=
  (State.log_keep (Keep.refl 73 s) rfl _ _).grp rfl

@[simp] theorem State.log_dmn (s : State) (a1 a2) : (State.log s a1 a2).dmn = s.dmn :=
  (State.log_keep (Keep.refl 73 s) rfl _ _).dmn rfl

theorem State.log_waits (s : State) (a1 a2) : s.diag.waiting <+: (State.log s a1 a2).diag.waiting :=
  (State.log_keep (Keep.refl 73 s) rfl _ _).waits rfl

@[simp] theorem State.logC_user (s : State) (a1 a2 a3) : (State.logC s a1 a2 a3).user = s.user :=
  (State.logC_keep (Keep.refl 73 s) rfl _ _ _).user rfl

@[simp] theorem State.logC_clk (s : State) (a1 a2 a3) : (State.logC s a1 a2 a3).clk = s.clk :=
  (State.logC_keep (Keep.refl 73 s) rfl _ _ _).clk rfl

@[simp] theorem State.logC_pow (s : State) (a1 a2 a3) : (State.logC s a1 a2 a3).pow = s.pow :=
  (State.logC_keep (Keep.refl 73 s) rfl _ _ _).pow rfl

@[simp] theorem State.logC_mem (s : State) (a1 a2 a3) : (State.logC s a1 a2 a3).mem = s.mem :=
  (State.logC_keep (Keep.refl 73 s) rfl _ _ _).mem rfl

@[simp] theorem State.logC_frame (s : State) (a1 a2 a3) : (State.logC s a1 a2 a3).frame = s.frame :=
  (State.logC_keep (Keep.refl 73 s) rfl _ _ _).frame rfl

@[simp] theorem State.logC_conv (s : State) (a1 a2 a3) : (State.logC s a1 a2 a3).conv = s.conv :=
  (State.logC_keep (Keep.refl 73 s) rfl _ _ _).conv rfl

@[simp] theorem State.logC_cal (s : State) (a1 a2 a3) : (State.logC s a1 a2 a3).cal = s.cal :=
  (State.logC_keep (Keep.refl 73 s) rfl _ _ _).cal rfl

@[simp] theorem State.logC_eq (s : State) (a1 a2 a3) : (State.logC s a1 a2 a3).eq = s.eq :=
  (State.logC_keep (Keep.refl 73 s) rfl _ _ _).eq rfl

@[simp] theorem State.logC_load (s : State) (a1 a2 a3) : (State.logC s a1 a2 a3).load = s.load :=
  (State.logC_keep (Keep.refl 73 s) rfl _ _ _).load rfl

@[simp] theorem State.logC_pool (s : State) (a1 a2 a3) : (State.logC s a1 a2 a3).pool = s.pool :=
  (State.logC_keep (Keep.refl 73 s) rfl _ _ _).pool rfl

@[simp] theorem State.logC_lanes (s : State) (a1 a2 a3) : (State.logC s a1 a2 a3).lanes = s.lanes :=
  (State.logC_keep (Keep.refl 73 s) rfl _ _ _).lanes rfl

@[simp] theorem State.logC_ciph (s : State) (a1 a2 a3) : (State.logC s a1 a2 a3).ciph = s.ciph :=
  (State.logC_keep (Keep.refl 73 s) rfl _ _ _).ciph rfl

@[simp] theorem State.logC_grot (s : State) (a1 a2 a3) : (State.logC s a1 a2 a3).grot = s.grot :=
  (State.logC_keep (Keep.refl 73 s) rfl _ _ _).grot rfl

@[simp] theorem State.logC_bel (s : State) (a1 a2 a3) : (State.logC s a1 a2 a3).bel = s.bel :=
  (State.logC_keep (Keep.refl 73 s) rfl _ _ _).bel rfl

@[simp] theorem State.logC_foot (s : State) (a1 a2 a3) : (State.logC s a1 a2 a3).foot = s.foot :=
  (State.logC_keep (Keep.refl 73 s) rfl _ _ _).foot rfl

@[simp] theorem State.logC_av (s : State) (a1 a2 a3) : (State.logC s a1 a2 a3).av = s.av :=
  (State.logC_keep (Keep.refl 73 s) rfl _ _ _).av rfl

@[simp] theorem State.logC_svc (s : State) (a1 a2 a3) : (State.logC s a1 a2 a3).svc = s.svc :=
  (State.logC_keep (Keep.refl 73 s) rfl _ _ _).svc rfl

@[simp] theorem State.logC_img (s : State) (a1 a2 a3) : (State.logC s a1 a2 a3).img = s.img :=
  (State.logC_keep (Keep.refl 73 s) rfl _ _ _).img rfl

@[simp] theorem State.logC_grp (s : State) (a1 a2 a3) : (State.logC s a1 a2 a3).grp = s.grp :=
  (State.logC_keep (Keep.refl 73 s) rfl _ _ _).grp rfl

@[simp] theorem State.logC_dmn (s : State) (a1 a2 a3) : (State.logC s a1 a2 a3).dmn = s.dmn :=
  (State.logC_keep (Keep.refl 73 s) rfl _ _ _).dmn rfl

theorem State.logC_waits (s : State) (a1 a2 a3) : s.diag.waiting <+: (State.logC s a1 a2 a3).diag.waiting :=
  (State.logC_keep (Keep.refl 73 s) rfl _ _ _).waits rfl

@[simp] theorem State.logAfter_user (s : State) (a1 a2) : (State.logAfter s a1 a2).user = s.user :=
  (State.logAfter_keep (Keep.refl 73 s) rfl _ _).user rfl

@[simp] theorem State.logAfter_clk (s : State) (a1 a2) : (State.logAfter s a1 a2).clk = s.clk :=
  (State.logAfter_keep (Keep.refl 73 s) rfl _ _).clk rfl

@[simp] theorem State.logAfter_pow (s : State) (a1 a2) : (State.logAfter s a1 a2).pow = s.pow :=
  (State.logAfter_keep (Keep.refl 73 s) rfl _ _).pow rfl

@[simp] theorem State.logAfter_mem (s : State) (a1 a2) : (State.logAfter s a1 a2).mem = s.mem :=
  (State.logAfter_keep (Keep.refl 73 s) rfl _ _).mem rfl

@[simp] theorem State.logAfter_frame (s : State) (a1 a2) : (State.logAfter s a1 a2).frame = s.frame :=
  (State.logAfter_keep (Keep.refl 73 s) rfl _ _).frame rfl

@[simp] theorem State.logAfter_conv (s : State) (a1 a2) : (State.logAfter s a1 a2).conv = s.conv :=
  (State.logAfter_keep (Keep.refl 73 s) rfl _ _).conv rfl

@[simp] theorem State.logAfter_cal (s : State) (a1 a2) : (State.logAfter s a1 a2).cal = s.cal :=
  (State.logAfter_keep (Keep.refl 73 s) rfl _ _).cal rfl

@[simp] theorem State.logAfter_eq (s : State) (a1 a2) : (State.logAfter s a1 a2).eq = s.eq :=
  (State.logAfter_keep (Keep.refl 73 s) rfl _ _).eq rfl

@[simp] theorem State.logAfter_load (s : State) (a1 a2) : (State.logAfter s a1 a2).load = s.load :=
  (State.logAfter_keep (Keep.refl 73 s) rfl _ _).load rfl

@[simp] theorem State.logAfter_pool (s : State) (a1 a2) : (State.logAfter s a1 a2).pool = s.pool :=
  (State.logAfter_keep (Keep.refl 73 s) rfl _ _).pool rfl

@[simp] theorem State.logAfter_lanes (s : State) (a1 a2) : (State.logAfter s a1 a2).lanes = s.lanes :=
  (State.logAfter_keep (Keep.refl 73 s) rfl _ _).lanes rfl

@[simp] theorem State.logAfter_ciph (s : State) (a1 a2) : (State.logAfter s a1 a2).ciph = s.ciph :=
  (State.logAfter_keep (Keep.refl 73 s) rfl _ _).ciph rfl

@[simp] theorem State.logAfter_grot (s : State) (a1 a2) : (State.logAfter s a1 a2).grot = s.grot :=
  (State.logAfter_keep (Keep.refl 73 s) rfl _ _).grot rfl

@[simp] theorem State.logAfter_bel (s : State) (a1 a2) : (State.logAfter s a1 a2).bel = s.bel :=
  (State.logAfter_keep (Keep.refl 73 s) rfl _ _).bel rfl

@[simp] theorem State.logAfter_foot (s : State) (a1 a2) : (State.logAfter s a1 a2).foot = s.foot :=
  (State.logAfter_keep (Keep.refl 73 s) rfl _ _).foot rfl

@[simp] theorem State.logAfter_av (s : State) (a1 a2) : (State.logAfter s a1 a2).av = s.av :=
  (State.logAfter_keep (Keep.refl 73 s) rfl _ _).av rfl

@[simp] theorem State.logAfter_svc (s : State) (a1 a2) : (State.logAfter s a1 a2).svc = s.svc :=
  (State.logAfter_keep (Keep.refl 73 s) rfl _ _).svc rfl

@[simp] theorem State.logAfter_img (s : State) (a1 a2) : (State.logAfter s a1 a2).img = s.img :=
  (State.logAfter_keep (Keep.refl 73 s) rfl _ _).img rfl

@[simp] theorem State.logAfter_grp (s : State) (a1 a2) : (State.logAfter s a1 a2).grp = s.grp :=
  (State.logAfter_keep (Keep.refl 73 s) rfl _ _).grp rfl

@[simp] theorem State.logAfter_dmn (s : State) (a1 a2) : (State.logAfter s a1 a2).dmn = s.dmn :=
  (State.logAfter_keep (Keep.refl 73 s) rfl _ _).dmn rfl

theorem State.logAfter_waits (s : State) (a1 a2) : s.diag.waiting <+: (State.logAfter s a1 a2).diag.waiting :=
  (State.logAfter_keep (Keep.refl 73 s) rfl _ _).waits rfl

@[simp] theorem State.logLimited_user (s : State) (a1 a2 a3 a4 a5) : (State.logLimited s a1 a2 a3 a4 a5).user = s.user :=
  (State.logLimited_keep (Keep.refl 73 s) rfl _ _ _ _ _).user rfl

@[simp] theorem State.logLimited_clk (s : State) (a1 a2 a3 a4 a5) : (State.logLimited s a1 a2 a3 a4 a5).clk = s.clk :=
  (State.logLimited_keep (Keep.refl 73 s) rfl _ _ _ _ _).clk rfl

@[simp] theorem State.logLimited_pow (s : State) (a1 a2 a3 a4 a5) : (State.logLimited s a1 a2 a3 a4 a5).pow = s.pow :=
  (State.logLimited_keep (Keep.refl 73 s) rfl _ _ _ _ _).pow rfl

@[simp] theorem State.logLimited_mem (s : State) (a1 a2 a3 a4 a5) : (State.logLimited s a1 a2 a3 a4 a5).mem = s.mem :=
  (State.logLimited_keep (Keep.refl 73 s) rfl _ _ _ _ _).mem rfl

@[simp] theorem State.logLimited_frame (s : State) (a1 a2 a3 a4 a5) : (State.logLimited s a1 a2 a3 a4 a5).frame = s.frame :=
  (State.logLimited_keep (Keep.refl 73 s) rfl _ _ _ _ _).frame rfl

@[simp] theorem State.logLimited_conv (s : State) (a1 a2 a3 a4 a5) : (State.logLimited s a1 a2 a3 a4 a5).conv = s.conv :=
  (State.logLimited_keep (Keep.refl 73 s) rfl _ _ _ _ _).conv rfl

@[simp] theorem State.logLimited_cal (s : State) (a1 a2 a3 a4 a5) : (State.logLimited s a1 a2 a3 a4 a5).cal = s.cal :=
  (State.logLimited_keep (Keep.refl 73 s) rfl _ _ _ _ _).cal rfl

@[simp] theorem State.logLimited_eq (s : State) (a1 a2 a3 a4 a5) : (State.logLimited s a1 a2 a3 a4 a5).eq = s.eq :=
  (State.logLimited_keep (Keep.refl 73 s) rfl _ _ _ _ _).eq rfl

@[simp] theorem State.logLimited_load (s : State) (a1 a2 a3 a4 a5) : (State.logLimited s a1 a2 a3 a4 a5).load = s.load :=
  (State.logLimited_keep (Keep.refl 73 s) rfl _ _ _ _ _).load rfl

@[simp] theorem State.logLimited_pool (s : State) (a1 a2 a3 a4 a5) : (State.logLimited s a1 a2 a3 a4 a5).pool = s.pool :=
  (State.logLimited_keep (Keep.refl 73 s) rfl _ _ _ _ _).pool rfl

@[simp] theorem State.logLimited_lanes (s : State) (a1 a2 a3 a4 a5) : (State.logLimited s a1 a2 a3 a4 a5).lanes = s.lanes :=
  (State.logLimited_keep (Keep.refl 73 s) rfl _ _ _ _ _).lanes rfl

@[simp] theorem State.logLimited_ciph (s : State) (a1 a2 a3 a4 a5) : (State.logLimited s a1 a2 a3 a4 a5).ciph = s.ciph :=
  (State.logLimited_keep (Keep.refl 73 s) rfl _ _ _ _ _).ciph rfl

@[simp] theorem State.logLimited_grot (s : State) (a1 a2 a3 a4 a5) : (State.logLimited s a1 a2 a3 a4 a5).grot = s.grot :=
  (State.logLimited_keep (Keep.refl 73 s) rfl _ _ _ _ _).grot rfl

@[simp] theorem State.logLimited_bel (s : State) (a1 a2 a3 a4 a5) : (State.logLimited s a1 a2 a3 a4 a5).bel = s.bel :=
  (State.logLimited_keep (Keep.refl 73 s) rfl _ _ _ _ _).bel rfl

@[simp] theorem State.logLimited_foot (s : State) (a1 a2 a3 a4 a5) : (State.logLimited s a1 a2 a3 a4 a5).foot = s.foot :=
  (State.logLimited_keep (Keep.refl 73 s) rfl _ _ _ _ _).foot rfl

@[simp] theorem State.logLimited_av (s : State) (a1 a2 a3 a4 a5) : (State.logLimited s a1 a2 a3 a4 a5).av = s.av :=
  (State.logLimited_keep (Keep.refl 73 s) rfl _ _ _ _ _).av rfl

@[simp] theorem State.logLimited_svc (s : State) (a1 a2 a3 a4 a5) : (State.logLimited s a1 a2 a3 a4 a5).svc = s.svc :=
  (State.logLimited_keep (Keep.refl 73 s) rfl _ _ _ _ _).svc rfl

@[simp] theorem State.logLimited_img (s : State) (a1 a2 a3 a4 a5) : (State.logLimited s a1 a2 a3 a4 a5).img = s.img :=
  (State.logLimited_keep (Keep.refl 73 s) rfl _ _ _ _ _).img rfl

@[simp] theorem State.logLimited_grp (s : State) (a1 a2 a3 a4 a5) : (State.logLimited s a1 a2 a3 a4 a5).grp = s.grp :=
  (State.logLimited_keep (Keep.refl 73 s) rfl _ _ _ _ _).grp rfl

@[simp] theorem State.logLimited_dmn (s : State) (a1 a2 a3 a4 a5) : (State.logLimited s a1 a2 a3 a4 a5).dmn = s.dmn :=
  (State.logLimited_keep (Keep.refl 73 s) rfl _ _ _ _ _).dmn rfl

theorem State.logLimited_waits (s : State) (a1 a2 a3 a4 a5) : s.diag.waiting <+: (State.logLimited s a1 a2 a3 a4 a5).diag.waiting :=
  (State.logLimited_keep (Keep.refl 73 s) rfl _ _ _ _ _).waits rfl

@[simp] theorem State.logSecond_user (s : State) (a1 a2 a3 a4) : (State.logSecond s a1 a2 a3 a4).user = s.user :=
  (State.logSecond_keep (Keep.refl 73 s) rfl _ _ _ _).user rfl

@[simp] theorem State.logSecond_clk (s : State) (a1 a2 a3 a4) : (State.logSecond s a1 a2 a3 a4).clk = s.clk :=
  (State.logSecond_keep (Keep.refl 73 s) rfl _ _ _ _).clk rfl

@[simp] theorem State.logSecond_pow (s : State) (a1 a2 a3 a4) : (State.logSecond s a1 a2 a3 a4).pow = s.pow :=
  (State.logSecond_keep (Keep.refl 73 s) rfl _ _ _ _).pow rfl

@[simp] theorem State.logSecond_mem (s : State) (a1 a2 a3 a4) : (State.logSecond s a1 a2 a3 a4).mem = s.mem :=
  (State.logSecond_keep (Keep.refl 73 s) rfl _ _ _ _).mem rfl

@[simp] theorem State.logSecond_frame (s : State) (a1 a2 a3 a4) : (State.logSecond s a1 a2 a3 a4).frame = s.frame :=
  (State.logSecond_keep (Keep.refl 73 s) rfl _ _ _ _).frame rfl

@[simp] theorem State.logSecond_conv (s : State) (a1 a2 a3 a4) : (State.logSecond s a1 a2 a3 a4).conv = s.conv :=
  (State.logSecond_keep (Keep.refl 73 s) rfl _ _ _ _).conv rfl

@[simp] theorem State.logSecond_cal (s : State) (a1 a2 a3 a4) : (State.logSecond s a1 a2 a3 a4).cal = s.cal :=
  (State.logSecond_keep (Keep.refl 73 s) rfl _ _ _ _).cal rfl

@[simp] theorem State.logSecond_eq (s : State) (a1 a2 a3 a4) : (State.logSecond s a1 a2 a3 a4).eq = s.eq :=
  (State.logSecond_keep (Keep.refl 73 s) rfl _ _ _ _).eq rfl

@[simp] theorem State.logSecond_load (s : State) (a1 a2 a3 a4) : (State.logSecond s a1 a2 a3 a4).load = s.load :=
  (State.logSecond_keep (Keep.refl 73 s) rfl _ _ _ _).load rfl

@[simp] theorem State.logSecond_pool (s : State) (a1 a2 a3 a4) : (State.logSecond s a1 a2 a3 a4).pool = s.pool :=
  (State.logSecond_keep (Keep.refl 73 s) rfl _ _ _ _).pool rfl

@[simp] theorem State.logSecond_lanes (s : State) (a1 a2 a3 a4) : (State.logSecond s a1 a2 a3 a4).lanes = s.lanes :=
  (State.logSecond_keep (Keep.refl 73 s) rfl _ _ _ _).lanes rfl

@[simp] theorem State.logSecond_ciph (s : State) (a1 a2 a3 a4) : (State.logSecond s a1 a2 a3 a4).ciph = s.ciph :=
  (State.logSecond_keep (Keep.refl 73 s) rfl _ _ _ _).ciph rfl

@[simp] theorem State.logSecond_grot (s : State) (a1 a2 a3 a4) : (State.logSecond s a1 a2 a3 a4).grot = s.grot :=
  (State.logSecond_keep (Keep.refl 73 s) rfl _ _ _ _).grot rfl

@[simp] theorem State.logSecond_bel (s : State) (a1 a2 a3 a4) : (State.logSecond s a1 a2 a3 a4).bel = s.bel :=
  (State.logSecond_keep (Keep.refl 73 s) rfl _ _ _ _).bel rfl

@[simp] theorem State.logSecond_foot (s : State) (a1 a2 a3 a4) : (State.logSecond s a1 a2 a3 a4).foot = s.foot :=
  (State.logSecond_keep (Keep.refl 73 s) rfl _ _ _ _).foot rfl

@[simp] theorem State.logSecond_av (s : State) (a1 a2 a3 a4) : (State.logSecond s a1 a2 a3 a4).av = s.av :=
  (State.logSecond_keep (Keep.refl 73 s) rfl _ _ _ _).av rfl

@[simp] theorem State.logSecond_svc (s : State) (a1 a2 a3 a4) : (State.logSecond s a1 a2 a3 a4).svc = s.svc :=
  (State.logSecond_keep (Keep.refl 73 s) rfl _ _ _ _).svc rfl

@[simp] theorem State.logSecond_img (s : State) (a1 a2 a3 a4) : (State.logSecond s a1 a2 a3 a4).img = s.img :=
  (State.logSecond_keep (Keep.refl 73 s) rfl _ _ _ _).img rfl

@[simp] theorem State.logSecond_grp (s : State) (a1 a2 a3 a4) : (State.logSecond s a1 a2 a3 a4).grp = s.grp :=
  (State.logSecond_keep (Keep.refl 73 s) rfl _ _ _ _).grp rfl

@[simp] theorem State.logSecond_dmn (s : State) (a1 a2 a3 a4) : (State.logSecond s a1 a2 a3 a4).dmn = s.dmn :=
  (State.logSecond_keep (Keep.refl 73 s) rfl _ _ _ _).dmn rfl

theorem State.logSecond_waits (s : State) (a1 a2 a3 a4) : s.diag.waiting <+: (State.logSecond s a1 a2 a3 a4).diag.waiting :=
  (State.logSecond_keep (Keep.refl 73 s) rfl _ _ _ _).waits rfl

@[simp] theorem State.setAop_live (s : State) (a1) : (State.setAop s a1).live = s.live :=
  (State.setAop_keep (Keep.refl 64 s) rfl _).live rfl

@[simp] theorem State.setAop_user (s : State) (a1) : (State.setAop s a1).user = s.user :=
  (State.setAop_keep (Keep.refl 64 s) rfl _).user rfl

@[simp] theorem State.setAop_clk (s : State) (a1) : (State.setAop s a1).clk = s.clk :=
  (State.setAop_keep (Keep.refl 64 s) rfl _).clk rfl

@[simp] theorem State.setAop_diag (s : State) (a1) : (State.setAop s a1).diag = s.diag :=
  (State.setAop_keep (Keep.refl 64 s) rfl _).diag rfl

@[simp] theorem State.setAop_pow (s : State) (a1) : (State.setAop s a1).pow = s.pow :=
  (State.setAop_keep (Keep.refl 64 s) rfl _).pow rfl

@[simp] theorem State.setAop_mem (s : State) (a1) : (State.setAop s a1).mem = s.mem :=
  (State.setAop_keep (Keep.refl 64 s) rfl _).mem rfl

@[simp] theorem State.setAop_frame (s : State) (a1) : (State.setAop s a1).frame = s.frame :=
  (State.setAop_keep (Keep.refl 64 s) rfl _).frame rfl

@[simp] theorem State.setAop_conv (s : State) (a1) : (State.setAop s a1).conv = s.conv :=
  (State.setAop_keep (Keep.refl 64 s) rfl _).conv rfl

@[simp] theorem State.setAop_cal (s : State) (a1) : (State.setAop s a1).cal = s.cal :=
  (State.setAop_keep (Keep.refl 64 s) rfl _).cal rfl

@[simp] theorem State.setAop_eq (s : State) (a1) : (State.setAop s a1).eq = s.eq :=
  (State.setAop_keep (Keep.refl 64 s) rfl _).eq rfl

@[simp] theorem State.setAop_load (s : State) (a1) : (State.setAop s a1).load = s.load :=
  (State.setAop_keep (Keep.refl 64 s) rfl _).load rfl

@[simp] theorem State.setAop_pool (s : State) (a1) : (State.setAop s a1).pool = s.pool :=
  (State.setAop_keep (Keep.refl 64 s) rfl _).pool rfl

@[simp] theorem State.setAop_lanes (s : State) (a1) : (State.setAop s a1).lanes = s.lanes :=
  (State.setAop_keep (Keep.refl 64 s) rfl _).lanes rfl

@[simp] theorem State.setAop_ciph (s : State) (a1) : (State.setAop s a1).ciph = s.ciph :=
  (State.setAop_keep (Keep.refl 64 s) rfl _).ciph rfl

@[simp] theorem State.setAop_grot (s : State) (a1) : (State.setAop s a1).grot = s.grot :=
  (State.setAop_keep (Keep.refl 64 s) rfl _).grot rfl

@[simp] theorem State.setAop_bel (s : State) (a1) : (State.setAop s a1).bel = s.bel :=
  (State.setAop_keep (Keep.refl 64 s) rfl _).bel rfl

@[simp] theorem State.setAop_foot (s : State) (a1) : (State.setAop s a1).foot = s.foot :=
  (State.setAop_keep (Keep.refl 64 s) rfl _).foot rfl

@[simp] theorem State.setAop_av (s : State) (a1) : (State.setAop s a1).av = s.av :=
  (State.setAop_keep (Keep.refl 64 s) rfl _).av rfl

@[simp] theorem State.setAop_svc (s : State) (a1) : (State.setAop s a1).svc = s.svc :=
  (State.setAop_keep (Keep.refl 64 s) rfl _).svc rfl

@[simp] theorem State.setAop_img (s : State) (a1) : (State.setAop s a1).img = s.img :=
  (State.setAop_keep (Keep.refl 64 s) rfl _).img rfl

@[simp] theorem State.setAop_grp (s : State) (a1) : (State.setAop s a1).grp = s.grp :=
  (State.setAop_keep (Keep.refl 64 s) rfl _).grp rfl

@[simp] theorem State.setAop_dmn (s : State) (a1) : (State.setAop s a1).dmn = s.dmn :=
  (State.setAop_keep (Keep.refl 64 s) rfl _).dmn rfl

@[simp] theorem State.setAop_i (s : State) (a1) (o m) : (State.setAop s a1).i o m = s.i o m :=
  State.i_congr (by simp) (by simp) o m

@[simp] theorem State.setAop_u (s : State) (a1) (o m) : (State.setAop s a1).u o m = s.u o m :=
  congrArg Int.toNat (State.setAop_i ..)

@[simp] theorem State.setAop_o (s : State) (a1) (o m) : (State.setAop s a1).o o m = s.o o m :=
  State.o_congr (by simp) (by simp) o m

@[simp] theorem State.setAv_live (s : State) (a1) : (State.setAv s a1).live = s.live :=
  (State.setAv_keep (Keep.refl 262144 s) rfl _).live rfl

@[simp] theorem State.setAv_user (s : State) (a1) : (State.setAv s a1).user = s.user :=
  (State.setAv_keep (Keep.refl 262144 s) rfl _).user rfl

@[simp] theorem State.setAv_clk (s : State) (a1) : (State.setAv s a1).clk = s.clk :=
  (State.setAv_keep (Keep.refl 262144 s) rfl _).clk rfl

@[simp] theorem State.setAv_diag (s : State) (a1) : (State.setAv s a1).diag = s.diag :=
  (State.setAv_keep (Keep.refl 262144 s) rfl _).diag rfl

@[simp] theorem State.setAv_pow (s : State) (a1) : (State.setAv s a1).pow = s.pow :=
  (State.setAv_keep (Keep.refl 262144 s) rfl _).pow rfl

@[simp] theorem State.setAv_mem (s : State) (a1) : (State.setAv s a1).mem = s.mem :=
  (State.setAv_keep (Keep.refl 262144 s) rfl _).mem rfl

@[simp] theorem State.setAv_aop (s : State) (a1) : (State.setAv s a1).aop = s.aop :=
  (State.setAv_keep (Keep.refl 262144 s) rfl _).aop rfl

@[simp] theorem State.setAv_frame (s : State) (a1) : (State.setAv s a1).frame = s.frame :=
  (State.setAv_keep (Keep.refl 262144 s) rfl _).frame rfl

@[simp] theorem State.setAv_conv (s : State) (a1) : (State.setAv s a1).conv = s.conv :=
  (State.setAv_keep (Keep.refl 262144 s) rfl _).conv rfl

@[simp] theorem State.setAv_cal (s : State) (a1) : (State.setAv s a1).cal = s.cal :=
  (State.setAv_keep (Keep.refl 262144 s) rfl _).cal rfl

@[simp] theorem State.setAv_eq (s : State) (a1) : (State.setAv s a1).eq = s.eq :=
  (State.setAv_keep (Keep.refl 262144 s) rfl _).eq rfl

@[simp] theorem State.setAv_load (s : State) (a1) : (State.setAv s a1).load = s.load :=
  (State.setAv_keep (Keep.refl 262144 s) rfl _).load rfl

@[simp] theorem State.setAv_pool (s : State) (a1) : (State.setAv s a1).pool = s.pool :=
  (State.setAv_keep (Keep.refl 262144 s) rfl _).pool rfl

@[simp] theorem State.setAv_lanes (s : State) (a1) : (State.setAv s a1).lanes = s.lanes :=
  (State.setAv_keep (Keep.refl 262144 s) rfl _).lanes rfl

@[simp] theorem State.setAv_ciph (s : State) (a1) : (State.setAv s a1).ciph = s.ciph :=
  (State.setAv_keep (Keep.refl 262144 s) rfl _).ciph rfl

@[simp] theorem State.setAv_grot (s : State) (a1) : (State.setAv s a1).grot = s.grot :=
  (State.setAv_keep (Keep.refl 262144 s) rfl _).grot rfl

@[simp] theorem State.setAv_bel (s : State) (a1) : (State.setAv s a1).bel = s.bel :=
  (State.setAv_keep (Keep.refl 262144 s) rfl _).bel rfl

@[simp] theorem State.setAv_foot (s : State) (a1) : (State.setAv s a1).foot = s.foot :=
  (State.setAv_keep (Keep.refl 262144 s) rfl _).foot rfl

@[simp] theorem State.setAv_svc (s : State) (a1) : (State.setAv s a1).svc = s.svc :=
  (State.setAv_keep (Keep.refl 262144 s) rfl _).svc rfl

@[simp] theorem State.setAv_img (s : State) (a1) : (State.setAv s a1).img = s.img :=
  (State.setAv_keep (Keep.refl 262144 s) rfl _).img rfl

@[simp] theorem State.setAv_grp (s : State) (a1) : (State.setAv s a1).grp = s.grp :=
  (State.setAv_keep (Keep.refl 262144 s) rfl _).grp rfl

@[simp] theorem State.setAv_dmn (s : State) (a1) : (State.setAv s a1).dmn = s.dmn :=
  (State.setAv_keep (Keep.refl 262144 s) rfl _).dmn rfl

@[simp] theorem State.setAv_i (s : State) (a1) (o m) : (State.setAv s a1).i o m = s.i o m :=
  State.i_congr (by simp) (by simp) o m

@[simp] theorem State.setAv_u (s : State) (a1) (o m) : (State.setAv s a1).u o m = s.u o m :=
  congrArg Int.toNat (State.setAv_i ..)

@[simp] theorem State.setAv_o (s : State) (a1) (o m) : (State.setAv s a1).o o m = s.o o m :=
  State.o_congr (by simp) (by simp) o m

@[simp] theorem State.setBel_live (s : State) (a1) : (State.setBel s a1).live = s.live :=
  (State.setBel_keep (Keep.refl 65536 s) rfl _).live rfl

@[simp] theorem State.setBel_user (s : State) (a1) : (State.setBel s a1).user = s.user :=
  (State.setBel_keep (Keep.refl 65536 s) rfl _).user rfl

@[simp] theorem State.setBel_clk (s : State) (a1) : (State.setBel s a1).clk = s.clk :=
  (State.setBel_keep (Keep.refl 65536 s) rfl _).clk rfl

@[simp] theorem State.setBel_diag (s : State) (a1) : (State.setBel s a1).diag = s.diag :=
  (State.setBel_keep (Keep.refl 65536 s) rfl _).diag rfl

@[simp] theorem State.setBel_pow (s : State) (a1) : (State.setBel s a1).pow = s.pow :=
  (State.setBel_keep (Keep.refl 65536 s) rfl _).pow rfl

@[simp] theorem State.setBel_mem (s : State) (a1) : (State.setBel s a1).mem = s.mem :=
  (State.setBel_keep (Keep.refl 65536 s) rfl _).mem rfl

@[simp] theorem State.setBel_aop (s : State) (a1) : (State.setBel s a1).aop = s.aop :=
  (State.setBel_keep (Keep.refl 65536 s) rfl _).aop rfl

@[simp] theorem State.setBel_frame (s : State) (a1) : (State.setBel s a1).frame = s.frame :=
  (State.setBel_keep (Keep.refl 65536 s) rfl _).frame rfl

@[simp] theorem State.setBel_conv (s : State) (a1) : (State.setBel s a1).conv = s.conv :=
  (State.setBel_keep (Keep.refl 65536 s) rfl _).conv rfl

@[simp] theorem State.setBel_cal (s : State) (a1) : (State.setBel s a1).cal = s.cal :=
  (State.setBel_keep (Keep.refl 65536 s) rfl _).cal rfl

@[simp] theorem State.setBel_eq (s : State) (a1) : (State.setBel s a1).eq = s.eq :=
  (State.setBel_keep (Keep.refl 65536 s) rfl _).eq rfl

@[simp] theorem State.setBel_load (s : State) (a1) : (State.setBel s a1).load = s.load :=
  (State.setBel_keep (Keep.refl 65536 s) rfl _).load rfl

@[simp] theorem State.setBel_pool (s : State) (a1) : (State.setBel s a1).pool = s.pool :=
  (State.setBel_keep (Keep.refl 65536 s) rfl _).pool rfl

@[simp] theorem State.setBel_lanes (s : State) (a1) : (State.setBel s a1).lanes = s.lanes :=
  (State.setBel_keep (Keep.refl 65536 s) rfl _).lanes rfl

@[simp] theorem State.setBel_ciph (s : State) (a1) : (State.setBel s a1).ciph = s.ciph :=
  (State.setBel_keep (Keep.refl 65536 s) rfl _).ciph rfl

@[simp] theorem State.setBel_grot (s : State) (a1) : (State.setBel s a1).grot = s.grot :=
  (State.setBel_keep (Keep.refl 65536 s) rfl _).grot rfl

@[simp] theorem State.setBel_foot (s : State) (a1) : (State.setBel s a1).foot = s.foot :=
  (State.setBel_keep (Keep.refl 65536 s) rfl _).foot rfl

@[simp] theorem State.setBel_av (s : State) (a1) : (State.setBel s a1).av = s.av :=
  (State.setBel_keep (Keep.refl 65536 s) rfl _).av rfl

@[simp] theorem State.setBel_svc (s : State) (a1) : (State.setBel s a1).svc = s.svc :=
  (State.setBel_keep (Keep.refl 65536 s) rfl _).svc rfl

@[simp] theorem State.setBel_img (s : State) (a1) : (State.setBel s a1).img = s.img :=
  (State.setBel_keep (Keep.refl 65536 s) rfl _).img rfl

@[simp] theorem State.setBel_grp (s : State) (a1) : (State.setBel s a1).grp = s.grp :=
  (State.setBel_keep (Keep.refl 65536 s) rfl _).grp rfl

@[simp] theorem State.setBel_dmn (s : State) (a1) : (State.setBel s a1).dmn = s.dmn :=
  (State.setBel_keep (Keep.refl 65536 s) rfl _).dmn rfl

@[simp] theorem State.setBel_i (s : State) (a1) (o m) : (State.setBel s a1).i o m = s.i o m :=
  State.i_congr (by simp) (by simp) o m

@[simp] theorem State.setBel_u (s : State) (a1) (o m) : (State.setBel s a1).u o m = s.u o m :=
  congrArg Int.toNat (State.setBel_i ..)

@[simp] theorem State.setBel_o (s : State) (a1) (o m) : (State.setBel s a1).o o m = s.o o m :=
  State.o_congr (by simp) (by simp) o m

@[simp] theorem State.setInput_live (s : State) (a1 a2) : (State.setInput s a1 a2).live = s.live :=
  (State.setInput_keep (Keep.refl 65536 s) rfl _ _).live rfl

@[simp] theorem State.setInput_user (s : State) (a1 a2) : (State.setInput s a1 a2).user = s.user :=
  (State.setInput_keep (Keep.refl 65536 s) rfl _ _).user rfl

@[simp] theorem State.setInput_clk (s : State) (a1 a2) : (State.setInput s a1 a2).clk = s.clk :=
  (State.setInput_keep (Keep.refl 65536 s) rfl _ _).clk rfl

@[simp] theorem State.setInput_diag (s : State) (a1 a2) : (State.setInput s a1 a2).diag = s.diag :=
  (State.setInput_keep (Keep.refl 65536 s) rfl _ _).diag rfl

@[simp] theorem State.setInput_pow (s : State) (a1 a2) : (State.setInput s a1 a2).pow = s.pow :=
  (State.setInput_keep (Keep.refl 65536 s) rfl _ _).pow rfl

@[simp] theorem State.setInput_mem (s : State) (a1 a2) : (State.setInput s a1 a2).mem = s.mem :=
  (State.setInput_keep (Keep.refl 65536 s) rfl _ _).mem rfl

@[simp] theorem State.setInput_aop (s : State) (a1 a2) : (State.setInput s a1 a2).aop = s.aop :=
  (State.setInput_keep (Keep.refl 65536 s) rfl _ _).aop rfl

@[simp] theorem State.setInput_frame (s : State) (a1 a2) : (State.setInput s a1 a2).frame = s.frame :=
  (State.setInput_keep (Keep.refl 65536 s) rfl _ _).frame rfl

@[simp] theorem State.setInput_conv (s : State) (a1 a2) : (State.setInput s a1 a2).conv = s.conv :=
  (State.setInput_keep (Keep.refl 65536 s) rfl _ _).conv rfl

@[simp] theorem State.setInput_cal (s : State) (a1 a2) : (State.setInput s a1 a2).cal = s.cal :=
  (State.setInput_keep (Keep.refl 65536 s) rfl _ _).cal rfl

@[simp] theorem State.setInput_eq (s : State) (a1 a2) : (State.setInput s a1 a2).eq = s.eq :=
  (State.setInput_keep (Keep.refl 65536 s) rfl _ _).eq rfl

@[simp] theorem State.setInput_load (s : State) (a1 a2) : (State.setInput s a1 a2).load = s.load :=
  (State.setInput_keep (Keep.refl 65536 s) rfl _ _).load rfl

@[simp] theorem State.setInput_pool (s : State) (a1 a2) : (State.setInput s a1 a2).pool = s.pool :=
  (State.setInput_keep (Keep.refl 65536 s) rfl _ _).pool rfl

@[simp] theorem State.setInput_lanes (s : State) (a1 a2) : (State.setInput s a1 a2).lanes = s.lanes :=
  (State.setInput_keep (Keep.refl 65536 s) rfl _ _).lanes rfl

@[simp] theorem State.setInput_ciph (s : State) (a1 a2) : (State.setInput s a1 a2).ciph = s.ciph :=
  (State.setInput_keep (Keep.refl 65536 s) rfl _ _).ciph rfl

@[simp] theorem State.setInput_grot (s : State) (a1 a2) : (State.setInput s a1 a2).grot = s.grot :=
  (State.setInput_keep (Keep.refl 65536 s) rfl _ _).grot rfl

@[simp] theorem State.setInput_foot (s : State) (a1 a2) : (State.setInput s a1 a2).foot = s.foot :=
  (State.setInput_keep (Keep.refl 65536 s) rfl _ _).foot rfl

@[simp] theorem State.setInput_av (s : State) (a1 a2) : (State.setInput s a1 a2).av = s.av :=
  (State.setInput_keep (Keep.refl 65536 s) rfl _ _).av rfl

@[simp] theorem State.setInput_svc (s : State) (a1 a2) : (State.setInput s a1 a2).svc = s.svc :=
  (State.setInput_keep (Keep.refl 65536 s) rfl _ _).svc rfl

@[simp] theorem State.setInput_img (s : State) (a1 a2) : (State.setInput s a1 a2).img = s.img :=
  (State.setInput_keep (Keep.refl 65536 s) rfl _ _).img rfl

@[simp] theorem State.setInput_grp (s : State) (a1 a2) : (State.setInput s a1 a2).grp = s.grp :=
  (State.setInput_keep (Keep.refl 65536 s) rfl _ _).grp rfl

@[simp] theorem State.setInput_dmn (s : State) (a1 a2) : (State.setInput s a1 a2).dmn = s.dmn :=
  (State.setInput_keep (Keep.refl 65536 s) rfl _ _).dmn rfl

@[simp] theorem State.setInput_i (s : State) (a1 a2) (o m) : (State.setInput s a1 a2).i o m = s.i o m :=
  State.i_congr (by simp) (by simp) o m

@[simp] theorem State.setInput_u (s : State) (a1 a2) (o m) : (State.setInput s a1 a2).u o m = s.u o m :=
  congrArg Int.toNat (State.setInput_i ..)

@[simp] theorem State.setInput_o (s : State) (a1 a2) (o m) : (State.setInput s a1 a2).o o m = s.o o m :=
  State.o_congr (by simp) (by simp) o m

@[simp] theorem State.setLine_live (s : State) (a1 a2) : (State.setLine s a1 a2).live = s.live :=
  (State.setLine_keep (Keep.refl 65536 s) rfl _ _).live rfl

@[simp] theorem State.setLine_user (s : State) (a1 a2) : (State.setLine s a1 a2).user = s.user :=
  (State.setLine_keep (Keep.refl 65536 s) rfl _ _).user rfl

@[simp] theorem State.setLine_clk (s : State) (a1 a2) : (State.setLine s a1 a2).clk = s.clk :=
  (State.setLine_keep (Keep.refl 65536 s) rfl _ _).clk rfl

@[simp] theorem State.setLine_diag (s : State) (a1 a2) : (State.setLine s a1 a2).diag = s.diag :=
  (State.setLine_keep (Keep.refl 65536 s) rfl _ _).diag rfl

@[simp] theorem State.setLine_pow (s : State) (a1 a2) : (State.setLine s a1 a2).pow = s.pow :=
  (State.setLine_keep (Keep.refl 65536 s) rfl _ _).pow rfl

@[simp] theorem State.setLine_mem (s : State) (a1 a2) : (State.setLine s a1 a2).mem = s.mem :=
  (State.setLine_keep (Keep.refl 65536 s) rfl _ _).mem rfl

@[simp] theorem State.setLine_aop (s : State) (a1 a2) : (State.setLine s a1 a2).aop = s.aop :=
  (State.setLine_keep (Keep.refl 65536 s) rfl _ _).aop rfl

@[simp] theorem State.setLine_frame (s : State) (a1 a2) : (State.setLine s a1 a2).frame = s.frame :=
  (State.setLine_keep (Keep.refl 65536 s) rfl _ _).frame rfl

@[simp] theorem State.setLine_conv (s : State) (a1 a2) : (State.setLine s a1 a2).conv = s.conv :=
  (State.setLine_keep (Keep.refl 65536 s) rfl _ _).conv rfl

@[simp] theorem State.setLine_cal (s : State) (a1 a2) : (State.setLine s a1 a2).cal = s.cal :=
  (State.setLine_keep (Keep.refl 65536 s) rfl _ _).cal rfl

@[simp] theorem State.setLine_eq (s : State) (a1 a2) : (State.setLine s a1 a2).eq = s.eq :=
  (State.setLine_keep (Keep.refl 65536 s) rfl _ _).eq rfl

@[simp] theorem State.setLine_load (s : State) (a1 a2) : (State.setLine s a1 a2).load = s.load :=
  (State.setLine_keep (Keep.refl 65536 s) rfl _ _).load rfl

@[simp] theorem State.setLine_pool (s : State) (a1 a2) : (State.setLine s a1 a2).pool = s.pool :=
  (State.setLine_keep (Keep.refl 65536 s) rfl _ _).pool rfl

@[simp] theorem State.setLine_lanes (s : State) (a1 a2) : (State.setLine s a1 a2).lanes = s.lanes :=
  (State.setLine_keep (Keep.refl 65536 s) rfl _ _).lanes rfl

@[simp] theorem State.setLine_ciph (s : State) (a1 a2) : (State.setLine s a1 a2).ciph = s.ciph :=
  (State.setLine_keep (Keep.refl 65536 s) rfl _ _).ciph rfl

@[simp] theorem State.setLine_grot (s : State) (a1 a2) : (State.setLine s a1 a2).grot = s.grot :=
  (State.setLine_keep (Keep.refl 65536 s) rfl _ _).grot rfl

@[simp] theorem State.setLine_foot (s : State) (a1 a2) : (State.setLine s a1 a2).foot = s.foot :=
  (State.setLine_keep (Keep.refl 65536 s) rfl _ _).foot rfl

@[simp] theorem State.setLine_av (s : State) (a1 a2) : (State.setLine s a1 a2).av = s.av :=
  (State.setLine_keep (Keep.refl 65536 s) rfl _ _).av rfl

@[simp] theorem State.setLine_svc (s : State) (a1 a2) : (State.setLine s a1 a2).svc = s.svc :=
  (State.setLine_keep (Keep.refl 65536 s) rfl _ _).svc rfl

@[simp] theorem State.setLine_img (s : State) (a1 a2) : (State.setLine s a1 a2).img = s.img :=
  (State.setLine_keep (Keep.refl 65536 s) rfl _ _).img rfl

@[simp] theorem State.setLine_grp (s : State) (a1 a2) : (State.setLine s a1 a2).grp = s.grp :=
  (State.setLine_keep (Keep.refl 65536 s) rfl _ _).grp rfl

@[simp] theorem State.setLine_dmn (s : State) (a1 a2) : (State.setLine s a1 a2).dmn = s.dmn :=
  (State.setLine_keep (Keep.refl 65536 s) rfl _ _).dmn rfl

@[simp] theorem State.setLine_i (s : State) (a1 a2) (o m) : (State.setLine s a1 a2).i o m = s.i o m :=
  State.i_congr (by simp) (by simp) o m

@[simp] theorem State.setLine_u (s : State) (a1 a2) (o m) : (State.setLine s a1 a2).u o m = s.u o m :=
  congrArg Int.toNat (State.setLine_i ..)

@[simp] theorem State.setLine_o (s : State) (a1 a2) (o m) : (State.setLine s a1 a2).o o m = s.o o m :=
  State.o_congr (by simp) (by simp) o m

@[simp] theorem State.setCv_live (s : State) (a1 a2 a3) : (State.setCv s a1 a2 a3).live = s.live :=
  (State.setCv_keep (Keep.refl 256 s) rfl _ _ _).live rfl

@[simp] theorem State.setCv_user (s : State) (a1 a2 a3) : (State.setCv s a1 a2 a3).user = s.user :=
  (State.setCv_keep (Keep.refl 256 s) rfl _ _ _).user rfl

@[simp] theorem State.setCv_clk (s : State) (a1 a2 a3) : (State.setCv s a1 a2 a3).clk = s.clk :=
  (State.setCv_keep (Keep.refl 256 s) rfl _ _ _).clk rfl

@[simp] theorem State.setCv_diag (s : State) (a1 a2 a3) : (State.setCv s a1 a2 a3).diag = s.diag :=
  (State.setCv_keep (Keep.refl 256 s) rfl _ _ _).diag rfl

@[simp] theorem State.setCv_pow (s : State) (a1 a2 a3) : (State.setCv s a1 a2 a3).pow = s.pow :=
  (State.setCv_keep (Keep.refl 256 s) rfl _ _ _).pow rfl

@[simp] theorem State.setCv_mem (s : State) (a1 a2 a3) : (State.setCv s a1 a2 a3).mem = s.mem :=
  (State.setCv_keep (Keep.refl 256 s) rfl _ _ _).mem rfl

@[simp] theorem State.setCv_aop (s : State) (a1 a2 a3) : (State.setCv s a1 a2 a3).aop = s.aop :=
  (State.setCv_keep (Keep.refl 256 s) rfl _ _ _).aop rfl

@[simp] theorem State.setCv_frame (s : State) (a1 a2 a3) : (State.setCv s a1 a2 a3).frame = s.frame :=
  (State.setCv_keep (Keep.refl 256 s) rfl _ _ _).frame rfl

@[simp] theorem State.setCv_cal (s : State) (a1 a2 a3) : (State.setCv s a1 a2 a3).cal = s.cal :=
  (State.setCv_keep (Keep.refl 256 s) rfl _ _ _).cal rfl

@[simp] theorem State.setCv_eq (s : State) (a1 a2 a3) : (State.setCv s a1 a2 a3).eq = s.eq :=
  (State.setCv_keep (Keep.refl 256 s) rfl _ _ _).eq rfl

@[simp] theorem State.setCv_load (s : State) (a1 a2 a3) : (State.setCv s a1 a2 a3).load = s.load :=
  (State.setCv_keep (Keep.refl 256 s) rfl _ _ _).load rfl

@[simp] theorem State.setCv_pool (s : State) (a1 a2 a3) : (State.setCv s a1 a2 a3).pool = s.pool :=
  (State.setCv_keep (Keep.refl 256 s) rfl _ _ _).pool rfl

@[simp] theorem State.setCv_lanes (s : State) (a1 a2 a3) : (State.setCv s a1 a2 a3).lanes = s.lanes :=
  (State.setCv_keep (Keep.refl 256 s) rfl _ _ _).lanes rfl

@[simp] theorem State.setCv_ciph (s : State) (a1 a2 a3) : (State.setCv s a1 a2 a3).ciph = s.ciph :=
  (State.setCv_keep (Keep.refl 256 s) rfl _ _ _).ciph rfl

@[simp] theorem State.setCv_grot (s : State) (a1 a2 a3) : (State.setCv s a1 a2 a3).grot = s.grot :=
  (State.setCv_keep (Keep.refl 256 s) rfl _ _ _).grot rfl

@[simp] theorem State.setCv_bel (s : State) (a1 a2 a3) : (State.setCv s a1 a2 a3).bel = s.bel :=
  (State.setCv_keep (Keep.refl 256 s) rfl _ _ _).bel rfl

@[simp] theorem State.setCv_foot (s : State) (a1 a2 a3) : (State.setCv s a1 a2 a3).foot = s.foot :=
  (State.setCv_keep (Keep.refl 256 s) rfl _ _ _).foot rfl

@[simp] theorem State.setCv_av (s : State) (a1 a2 a3) : (State.setCv s a1 a2 a3).av = s.av :=
  (State.setCv_keep (Keep.refl 256 s) rfl _ _ _).av rfl

@[simp] theorem State.setCv_svc (s : State) (a1 a2 a3) : (State.setCv s a1 a2 a3).svc = s.svc :=
  (State.setCv_keep (Keep.refl 256 s) rfl _ _ _).svc rfl

@[simp] theorem State.setCv_img (s : State) (a1 a2 a3) : (State.setCv s a1 a2 a3).img = s.img :=
  (State.setCv_keep (Keep.refl 256 s) rfl _ _ _).img rfl

@[simp] theorem State.setCv_grp (s : State) (a1 a2 a3) : (State.setCv s a1 a2 a3).grp = s.grp :=
  (State.setCv_keep (Keep.refl 256 s) rfl _ _ _).grp rfl

@[simp] theorem State.setCv_dmn (s : State) (a1 a2 a3) : (State.setCv s a1 a2 a3).dmn = s.dmn :=
  (State.setCv_keep (Keep.refl 256 s) rfl _ _ _).dmn rfl

@[simp] theorem State.setCv_i (s : State) (a1 a2 a3) (o m) : (State.setCv s a1 a2 a3).i o m = s.i o m :=
  State.i_congr (by simp) (by simp) o m

@[simp] theorem State.setCv_u (s : State) (a1 a2 a3) (o m) : (State.setCv s a1 a2 a3).u o m = s.u o m :=
  congrArg Int.toNat (State.setCv_i ..)

@[simp] theorem State.setCv_o (s : State) (a1 a2 a3) (o m) : (State.setCv s a1 a2 a3).o o m = s.o o m :=
  State.o_congr (by simp) (by simp) o m

@[simp] theorem State.setSlice_live (s : State) (a1 a2 a3 a4) : (State.setSlice s a1 a2 a3 a4).live = s.live :=
  (State.setSlice_keep (Keep.refl 256 s) rfl _ _ _ _).live rfl

@[simp] theorem State.setSlice_user (s : State) (a1 a2 a3 a4) : (State.setSlice s a1 a2 a3 a4).user = s.user :=
  (State.setSlice_keep (Keep.refl 256 s) rfl _ _ _ _).user rfl

@[simp] theorem State.setSlice_clk (s : State) (a1 a2 a3 a4) : (State.setSlice s a1 a2 a3 a4).clk = s.clk :=
  (State.setSlice_keep (Keep.refl 256 s) rfl _ _ _ _).clk rfl

@[simp] theorem State.setSlice_diag (s : State) (a1 a2 a3 a4) : (State.setSlice s a1 a2 a3 a4).diag = s.diag :=
  (State.setSlice_keep (Keep.refl 256 s) rfl _ _ _ _).diag rfl

@[simp] theorem State.setSlice_pow (s : State) (a1 a2 a3 a4) : (State.setSlice s a1 a2 a3 a4).pow = s.pow :=
  (State.setSlice_keep (Keep.refl 256 s) rfl _ _ _ _).pow rfl

@[simp] theorem State.setSlice_mem (s : State) (a1 a2 a3 a4) : (State.setSlice s a1 a2 a3 a4).mem = s.mem :=
  (State.setSlice_keep (Keep.refl 256 s) rfl _ _ _ _).mem rfl

@[simp] theorem State.setSlice_aop (s : State) (a1 a2 a3 a4) : (State.setSlice s a1 a2 a3 a4).aop = s.aop :=
  (State.setSlice_keep (Keep.refl 256 s) rfl _ _ _ _).aop rfl

@[simp] theorem State.setSlice_frame (s : State) (a1 a2 a3 a4) : (State.setSlice s a1 a2 a3 a4).frame = s.frame :=
  (State.setSlice_keep (Keep.refl 256 s) rfl _ _ _ _).frame rfl

@[simp] theorem State.setSlice_cal (s : State) (a1 a2 a3 a4) : (State.setSlice s a1 a2 a3 a4).cal = s.cal :=
  (State.setSlice_keep (Keep.refl 256 s) rfl _ _ _ _).cal rfl

@[simp] theorem State.setSlice_eq (s : State) (a1 a2 a3 a4) : (State.setSlice s a1 a2 a3 a4).eq = s.eq :=
  (State.setSlice_keep (Keep.refl 256 s) rfl _ _ _ _).eq rfl

@[simp] theorem State.setSlice_load (s : State) (a1 a2 a3 a4) : (State.setSlice s a1 a2 a3 a4).load = s.load :=
  (State.setSlice_keep (Keep.refl 256 s) rfl _ _ _ _).load rfl

@[simp] theorem State.setSlice_pool (s : State) (a1 a2 a3 a4) : (State.setSlice s a1 a2 a3 a4).pool = s.pool :=
  (State.setSlice_keep (Keep.refl 256 s) rfl _ _ _ _).pool rfl

@[simp] theorem State.setSlice_lanes (s : State) (a1 a2 a3 a4) : (State.setSlice s a1 a2 a3 a4).lanes = s.lanes :=
  (State.setSlice_keep (Keep.refl 256 s) rfl _ _ _ _).lanes rfl

@[simp] theorem State.setSlice_ciph (s : State) (a1 a2 a3 a4) : (State.setSlice s a1 a2 a3 a4).ciph = s.ciph :=
  (State.setSlice_keep (Keep.refl 256 s) rfl _ _ _ _).ciph rfl

@[simp] theorem State.setSlice_grot (s : State) (a1 a2 a3 a4) : (State.setSlice s a1 a2 a3 a4).grot = s.grot :=
  (State.setSlice_keep (Keep.refl 256 s) rfl _ _ _ _).grot rfl

@[simp] theorem State.setSlice_bel (s : State) (a1 a2 a3 a4) : (State.setSlice s a1 a2 a3 a4).bel = s.bel :=
  (State.setSlice_keep (Keep.refl 256 s) rfl _ _ _ _).bel rfl

@[simp] theorem State.setSlice_foot (s : State) (a1 a2 a3 a4) : (State.setSlice s a1 a2 a3 a4).foot = s.foot :=
  (State.setSlice_keep (Keep.refl 256 s) rfl _ _ _ _).foot rfl

@[simp] theorem State.setSlice_av (s : State) (a1 a2 a3 a4) : (State.setSlice s a1 a2 a3 a4).av = s.av :=
  (State.setSlice_keep (Keep.refl 256 s) rfl _ _ _ _).av rfl

@[simp] theorem State.setSlice_svc (s : State) (a1 a2 a3 a4) : (State.setSlice s a1 a2 a3 a4).svc = s.svc :=
  (State.setSlice_keep (Keep.refl 256 s) rfl _ _ _ _).svc rfl

@[simp] theorem State.setSlice_img (s : State) (a1 a2 a3 a4) : (State.setSlice s a1 a2 a3 a4).img = s.img :=
  (State.setSlice_keep (Keep.refl 256 s) rfl _ _ _ _).img rfl

@[simp] theorem State.setSlice_grp (s : State) (a1 a2 a3 a4) : (State.setSlice s a1 a2 a3 a4).grp = s.grp :=
  (State.setSlice_keep (Keep.refl 256 s) rfl _ _ _ _).grp rfl

@[simp] theorem State.setSlice_dmn (s : State) (a1 a2 a3 a4) : (State.setSlice s a1 a2 a3 a4).dmn = s.dmn :=
  (State.setSlice_keep (Keep.refl 256 s) rfl _ _ _ _).dmn rfl

@[simp] theorem State.setSlice_i (s : State) (a1 a2 a3 a4) (o m) : (State.setSlice s a1 a2 a3 a4).i o m = s.i o m :=
  State.i_congr (by simp) (by simp) o m

@[simp] theorem State.setSlice_u (s : State) (a1 a2 a3 a4) (o m) : (State.setSlice s a1 a2 a3 a4).u o m = s.u o m :=
  congrArg Int.toNat (State.setSlice_i ..)

@[simp] theorem State.setSlice_o (s : State) (a1 a2 a3 a4) (o m) : (State.setSlice s a1 a2 a3 a4).o o m = s.o o m :=
  State.o_congr (by simp) (by simp) o m

@[simp] theorem State.setCi_live (s : State) (a1 a2) : (State.setCi s a1 a2).live = s.live :=
  (State.setCi_keep (Keep.refl 16384 s) rfl _ _).live rfl

@[simp] theorem State.setCi_user (s : State) (a1 a2) : (State.setCi s a1 a2).user = s.user :=
  (State.setCi_keep (Keep.refl 16384 s) rfl _ _).user rfl

@[simp] theorem State.setCi_clk (s : State) (a1 a2) : (State.setCi s a1 a2).clk = s.clk :=
  (State.setCi_keep (Keep.refl 16384 s) rfl _ _).clk rfl

@[simp] theorem State.setCi_diag (s : State) (a1 a2) : (State.setCi s a1 a2).diag = s.diag :=
  (State.setCi_keep (Keep.refl 16384 s) rfl _ _).diag rfl

@[simp] theorem State.setCi_pow (s : State) (a1 a2) : (State.setCi s a1 a2).pow = s.pow :=
  (State.setCi_keep (Keep.refl 16384 s) rfl _ _).pow rfl

@[simp] theorem State.setCi_mem (s : State) (a1 a2) : (State.setCi s a1 a2).mem = s.mem :=
  (State.setCi_keep (Keep.refl 16384 s) rfl _ _).mem rfl

@[simp] theorem State.setCi_aop (s : State) (a1 a2) : (State.setCi s a1 a2).aop = s.aop :=
  (State.setCi_keep (Keep.refl 16384 s) rfl _ _).aop rfl

@[simp] theorem State.setCi_frame (s : State) (a1 a2) : (State.setCi s a1 a2).frame = s.frame :=
  (State.setCi_keep (Keep.refl 16384 s) rfl _ _).frame rfl

@[simp] theorem State.setCi_conv (s : State) (a1 a2) : (State.setCi s a1 a2).conv = s.conv :=
  (State.setCi_keep (Keep.refl 16384 s) rfl _ _).conv rfl

@[simp] theorem State.setCi_cal (s : State) (a1 a2) : (State.setCi s a1 a2).cal = s.cal :=
  (State.setCi_keep (Keep.refl 16384 s) rfl _ _).cal rfl

@[simp] theorem State.setCi_eq (s : State) (a1 a2) : (State.setCi s a1 a2).eq = s.eq :=
  (State.setCi_keep (Keep.refl 16384 s) rfl _ _).eq rfl

@[simp] theorem State.setCi_load (s : State) (a1 a2) : (State.setCi s a1 a2).load = s.load :=
  (State.setCi_keep (Keep.refl 16384 s) rfl _ _).load rfl

@[simp] theorem State.setCi_pool (s : State) (a1 a2) : (State.setCi s a1 a2).pool = s.pool :=
  (State.setCi_keep (Keep.refl 16384 s) rfl _ _).pool rfl

@[simp] theorem State.setCi_lanes (s : State) (a1 a2) : (State.setCi s a1 a2).lanes = s.lanes :=
  (State.setCi_keep (Keep.refl 16384 s) rfl _ _).lanes rfl

@[simp] theorem State.setCi_grot (s : State) (a1 a2) : (State.setCi s a1 a2).grot = s.grot :=
  (State.setCi_keep (Keep.refl 16384 s) rfl _ _).grot rfl

@[simp] theorem State.setCi_bel (s : State) (a1 a2) : (State.setCi s a1 a2).bel = s.bel :=
  (State.setCi_keep (Keep.refl 16384 s) rfl _ _).bel rfl

@[simp] theorem State.setCi_foot (s : State) (a1 a2) : (State.setCi s a1 a2).foot = s.foot :=
  (State.setCi_keep (Keep.refl 16384 s) rfl _ _).foot rfl

@[simp] theorem State.setCi_av (s : State) (a1 a2) : (State.setCi s a1 a2).av = s.av :=
  (State.setCi_keep (Keep.refl 16384 s) rfl _ _).av rfl

@[simp] theorem State.setCi_svc (s : State) (a1 a2) : (State.setCi s a1 a2).svc = s.svc :=
  (State.setCi_keep (Keep.refl 16384 s) rfl _ _).svc rfl

@[simp] theorem State.setCi_img (s : State) (a1 a2) : (State.setCi s a1 a2).img = s.img :=
  (State.setCi_keep (Keep.refl 16384 s) rfl _ _).img rfl

@[simp] theorem State.setCi_grp (s : State) (a1 a2) : (State.setCi s a1 a2).grp = s.grp :=
  (State.setCi_keep (Keep.refl 16384 s) rfl _ _).grp rfl

@[simp] theorem State.setCi_dmn (s : State) (a1 a2) : (State.setCi s a1 a2).dmn = s.dmn :=
  (State.setCi_keep (Keep.refl 16384 s) rfl _ _).dmn rfl

@[simp] theorem State.setCi_i (s : State) (a1 a2) (o m) : (State.setCi s a1 a2).i o m = s.i o m :=
  State.i_congr (by simp) (by simp) o m

@[simp] theorem State.setCi_u (s : State) (a1 a2) (o m) : (State.setCi s a1 a2).u o m = s.u o m :=
  congrArg Int.toNat (State.setCi_i ..)

@[simp] theorem State.setCi_o (s : State) (a1 a2) (o m) : (State.setCi s a1 a2).o o m = s.o o m :=
  State.o_congr (by simp) (by simp) o m

@[simp] theorem State.setCtx_user (s : State) (a1 a2 a3 a4) : (State.setCtx s a1 a2 a3 a4).user = s.user :=
  (State.setCtx_keep (Keep.refl 16385 s) rfl _ _ _ _).user rfl

@[simp] theorem State.setCtx_clk (s : State) (a1 a2 a3 a4) : (State.setCtx s a1 a2 a3 a4).clk = s.clk :=
  (State.setCtx_keep (Keep.refl 16385 s) rfl _ _ _ _).clk rfl

@[simp] theorem State.setCtx_diag (s : State) (a1 a2 a3 a4) : (State.setCtx s a1 a2 a3 a4).diag = s.diag :=
  (State.setCtx_keep (Keep.refl 16385 s) rfl _ _ _ _).diag rfl

@[simp] theorem State.setCtx_pow (s : State) (a1 a2 a3 a4) : (State.setCtx s a1 a2 a3 a4).pow = s.pow :=
  (State.setCtx_keep (Keep.refl 16385 s) rfl _ _ _ _).pow rfl

@[simp] theorem State.setCtx_mem (s : State) (a1 a2 a3 a4) : (State.setCtx s a1 a2 a3 a4).mem = s.mem :=
  (State.setCtx_keep (Keep.refl 16385 s) rfl _ _ _ _).mem rfl

@[simp] theorem State.setCtx_aop (s : State) (a1 a2 a3 a4) : (State.setCtx s a1 a2 a3 a4).aop = s.aop :=
  (State.setCtx_keep (Keep.refl 16385 s) rfl _ _ _ _).aop rfl

@[simp] theorem State.setCtx_frame (s : State) (a1 a2 a3 a4) : (State.setCtx s a1 a2 a3 a4).frame = s.frame :=
  (State.setCtx_keep (Keep.refl 16385 s) rfl _ _ _ _).frame rfl

@[simp] theorem State.setCtx_conv (s : State) (a1 a2 a3 a4) : (State.setCtx s a1 a2 a3 a4).conv = s.conv :=
  (State.setCtx_keep (Keep.refl 16385 s) rfl _ _ _ _).conv rfl

@[simp] theorem State.setCtx_cal (s : State) (a1 a2 a3 a4) : (State.setCtx s a1 a2 a3 a4).cal = s.cal :=
  (State.setCtx_keep (Keep.refl 16385 s) rfl _ _ _ _).cal rfl

@[simp] theorem State.setCtx_eq (s : State) (a1 a2 a3 a4) : (State.setCtx s a1 a2 a3 a4).eq = s.eq :=
  (State.setCtx_keep (Keep.refl 16385 s) rfl _ _ _ _).eq rfl

@[simp] theorem State.setCtx_load (s : State) (a1 a2 a3 a4) : (State.setCtx s a1 a2 a3 a4).load = s.load :=
  (State.setCtx_keep (Keep.refl 16385 s) rfl _ _ _ _).load rfl

@[simp] theorem State.setCtx_pool (s : State) (a1 a2 a3 a4) : (State.setCtx s a1 a2 a3 a4).pool = s.pool :=
  (State.setCtx_keep (Keep.refl 16385 s) rfl _ _ _ _).pool rfl

@[simp] theorem State.setCtx_lanes (s : State) (a1 a2 a3 a4) : (State.setCtx s a1 a2 a3 a4).lanes = s.lanes :=
  (State.setCtx_keep (Keep.refl 16385 s) rfl _ _ _ _).lanes rfl

@[simp] theorem State.setCtx_grot (s : State) (a1 a2 a3 a4) : (State.setCtx s a1 a2 a3 a4).grot = s.grot :=
  (State.setCtx_keep (Keep.refl 16385 s) rfl _ _ _ _).grot rfl

@[simp] theorem State.setCtx_bel (s : State) (a1 a2 a3 a4) : (State.setCtx s a1 a2 a3 a4).bel = s.bel :=
  (State.setCtx_keep (Keep.refl 16385 s) rfl _ _ _ _).bel rfl

@[simp] theorem State.setCtx_foot (s : State) (a1 a2 a3 a4) : (State.setCtx s a1 a2 a3 a4).foot = s.foot :=
  (State.setCtx_keep (Keep.refl 16385 s) rfl _ _ _ _).foot rfl

@[simp] theorem State.setCtx_av (s : State) (a1 a2 a3 a4) : (State.setCtx s a1 a2 a3 a4).av = s.av :=
  (State.setCtx_keep (Keep.refl 16385 s) rfl _ _ _ _).av rfl

@[simp] theorem State.setCtx_svc (s : State) (a1 a2 a3 a4) : (State.setCtx s a1 a2 a3 a4).svc = s.svc :=
  (State.setCtx_keep (Keep.refl 16385 s) rfl _ _ _ _).svc rfl

@[simp] theorem State.setCtx_img (s : State) (a1 a2 a3 a4) : (State.setCtx s a1 a2 a3 a4).img = s.img :=
  (State.setCtx_keep (Keep.refl 16385 s) rfl _ _ _ _).img rfl

@[simp] theorem State.setCtx_grp (s : State) (a1 a2 a3 a4) : (State.setCtx s a1 a2 a3 a4).grp = s.grp :=
  (State.setCtx_keep (Keep.refl 16385 s) rfl _ _ _ _).grp rfl

@[simp] theorem State.setCtx_dmn (s : State) (a1 a2 a3 a4) : (State.setCtx s a1 a2 a3 a4).dmn = s.dmn :=
  (State.setCtx_keep (Keep.refl 16385 s) rfl _ _ _ _).dmn rfl

@[simp] theorem State.setRt_live (s : State) (a1 a2) : (State.setRt s a1 a2).live = s.live :=
  (State.setRt_keep (Keep.refl 32768 s) rfl _ _).live rfl

@[simp] theorem State.setRt_user (s : State) (a1 a2) : (State.setRt s a1 a2).user = s.user :=
  (State.setRt_keep (Keep.refl 32768 s) rfl _ _).user rfl

@[simp] theorem State.setRt_clk (s : State) (a1 a2) : (State.setRt s a1 a2).clk = s.clk :=
  (State.setRt_keep (Keep.refl 32768 s) rfl _ _).clk rfl

@[simp] theorem State.setRt_diag (s : State) (a1 a2) : (State.setRt s a1 a2).diag = s.diag :=
  (State.setRt_keep (Keep.refl 32768 s) rfl _ _).diag rfl

@[simp] theorem State.setRt_pow (s : State) (a1 a2) : (State.setRt s a1 a2).pow = s.pow :=
  (State.setRt_keep (Keep.refl 32768 s) rfl _ _).pow rfl

@[simp] theorem State.setRt_mem (s : State) (a1 a2) : (State.setRt s a1 a2).mem = s.mem :=
  (State.setRt_keep (Keep.refl 32768 s) rfl _ _).mem rfl

@[simp] theorem State.setRt_aop (s : State) (a1 a2) : (State.setRt s a1 a2).aop = s.aop :=
  (State.setRt_keep (Keep.refl 32768 s) rfl _ _).aop rfl

@[simp] theorem State.setRt_frame (s : State) (a1 a2) : (State.setRt s a1 a2).frame = s.frame :=
  (State.setRt_keep (Keep.refl 32768 s) rfl _ _).frame rfl

@[simp] theorem State.setRt_conv (s : State) (a1 a2) : (State.setRt s a1 a2).conv = s.conv :=
  (State.setRt_keep (Keep.refl 32768 s) rfl _ _).conv rfl

@[simp] theorem State.setRt_cal (s : State) (a1 a2) : (State.setRt s a1 a2).cal = s.cal :=
  (State.setRt_keep (Keep.refl 32768 s) rfl _ _).cal rfl

@[simp] theorem State.setRt_eq (s : State) (a1 a2) : (State.setRt s a1 a2).eq = s.eq :=
  (State.setRt_keep (Keep.refl 32768 s) rfl _ _).eq rfl

@[simp] theorem State.setRt_load (s : State) (a1 a2) : (State.setRt s a1 a2).load = s.load :=
  (State.setRt_keep (Keep.refl 32768 s) rfl _ _).load rfl

@[simp] theorem State.setRt_pool (s : State) (a1 a2) : (State.setRt s a1 a2).pool = s.pool :=
  (State.setRt_keep (Keep.refl 32768 s) rfl _ _).pool rfl

@[simp] theorem State.setRt_lanes (s : State) (a1 a2) : (State.setRt s a1 a2).lanes = s.lanes :=
  (State.setRt_keep (Keep.refl 32768 s) rfl _ _).lanes rfl

@[simp] theorem State.setRt_ciph (s : State) (a1 a2) : (State.setRt s a1 a2).ciph = s.ciph :=
  (State.setRt_keep (Keep.refl 32768 s) rfl _ _).ciph rfl

@[simp] theorem State.setRt_bel (s : State) (a1 a2) : (State.setRt s a1 a2).bel = s.bel :=
  (State.setRt_keep (Keep.refl 32768 s) rfl _ _).bel rfl

@[simp] theorem State.setRt_foot (s : State) (a1 a2) : (State.setRt s a1 a2).foot = s.foot :=
  (State.setRt_keep (Keep.refl 32768 s) rfl _ _).foot rfl

@[simp] theorem State.setRt_av (s : State) (a1 a2) : (State.setRt s a1 a2).av = s.av :=
  (State.setRt_keep (Keep.refl 32768 s) rfl _ _).av rfl

@[simp] theorem State.setRt_svc (s : State) (a1 a2) : (State.setRt s a1 a2).svc = s.svc :=
  (State.setRt_keep (Keep.refl 32768 s) rfl _ _).svc rfl

@[simp] theorem State.setRt_img (s : State) (a1 a2) : (State.setRt s a1 a2).img = s.img :=
  (State.setRt_keep (Keep.refl 32768 s) rfl _ _).img rfl

@[simp] theorem State.setRt_grp (s : State) (a1 a2) : (State.setRt s a1 a2).grp = s.grp :=
  (State.setRt_keep (Keep.refl 32768 s) rfl _ _).grp rfl

@[simp] theorem State.setRt_dmn (s : State) (a1 a2) : (State.setRt s a1 a2).dmn = s.dmn :=
  (State.setRt_keep (Keep.refl 32768 s) rfl _ _).dmn rfl

@[simp] theorem State.setRt_i (s : State) (a1 a2) (o m) : (State.setRt s a1 a2).i o m = s.i o m :=
  State.i_congr (by simp) (by simp) o m

@[simp] theorem State.setRt_u (s : State) (a1 a2) (o m) : (State.setRt s a1 a2).u o m = s.u o m :=
  congrArg Int.toNat (State.setRt_i ..)

@[simp] theorem State.setRt_o (s : State) (a1 a2) (o m) : (State.setRt s a1 a2).o o m = s.o o m :=
  State.o_congr (by simp) (by simp) o m

@[simp] theorem State.setOn_user (s : State) (a1 a2 a3 a4) : (State.setOn s a1 a2 a3 a4).user = s.user :=
  (State.setOn_keep (Keep.refl 49241 s) rfl _ _ _ _).user rfl

@[simp] theorem State.setOn_clk (s : State) (a1 a2 a3 a4) : (State.setOn s a1 a2 a3 a4).clk = s.clk :=
  (State.setOn_keep (Keep.refl 49241 s) rfl _ _ _ _).clk rfl

@[simp] theorem State.setOn_mem (s : State) (a1 a2 a3 a4) : (State.setOn s a1 a2 a3 a4).mem = s.mem :=
  (State.setOn_keep (Keep.refl 49241 s) rfl _ _ _ _).mem rfl

@[simp] theorem State.setOn_frame (s : State) (a1 a2 a3 a4) : (State.setOn s a1 a2 a3 a4).frame = s.frame :=
  (State.setOn_keep (Keep.refl 49241 s) rfl _ _ _ _).frame rfl

@[simp] theorem State.setOn_conv (s : State) (a1 a2 a3 a4) : (State.setOn s a1 a2 a3 a4).conv = s.conv :=
  (State.setOn_keep (Keep.refl 49241 s) rfl _ _ _ _).conv rfl

@[simp] theorem State.setOn_cal (s : State) (a1 a2 a3 a4) : (State.setOn s a1 a2 a3 a4).cal = s.cal :=
  (State.setOn_keep (Keep.refl 49241 s) rfl _ _ _ _).cal rfl

@[simp] theorem State.setOn_eq (s : State) (a1 a2 a3 a4) : (State.setOn s a1 a2 a3 a4).eq = s.eq :=
  (State.setOn_keep (Keep.refl 49241 s) rfl _ _ _ _).eq rfl

@[simp] theorem State.setOn_load (s : State) (a1 a2 a3 a4) : (State.setOn s a1 a2 a3 a4).load = s.load :=
  (State.setOn_keep (Keep.refl 49241 s) rfl _ _ _ _).load rfl

@[simp] theorem State.setOn_pool (s : State) (a1 a2 a3 a4) : (State.setOn s a1 a2 a3 a4).pool = s.pool :=
  (State.setOn_keep (Keep.refl 49241 s) rfl _ _ _ _).pool rfl

@[simp] theorem State.setOn_lanes (s : State) (a1 a2 a3 a4) : (State.setOn s a1 a2 a3 a4).lanes = s.lanes :=
  (State.setOn_keep (Keep.refl 49241 s) rfl _ _ _ _).lanes rfl

@[simp] theorem State.setOn_bel (s : State) (a1 a2 a3 a4) : (State.setOn s a1 a2 a3 a4).bel = s.bel :=
  (State.setOn_keep (Keep.refl 49241 s) rfl _ _ _ _).bel rfl

@[simp] theorem State.setOn_foot (s : State) (a1 a2 a3 a4) : (State.setOn s a1 a2 a3 a4).foot = s.foot :=
  (State.setOn_keep (Keep.refl 49241 s) rfl _ _ _ _).foot rfl

@[simp] theorem State.setOn_av (s : State) (a1 a2 a3 a4) : (State.setOn s a1 a2 a3 a4).av = s.av :=
  (State.setOn_keep (Keep.refl 49241 s) rfl _ _ _ _).av rfl

@[simp] theorem State.setOn_svc (s : State) (a1 a2 a3 a4) : (State.setOn s a1 a2 a3 a4).svc = s.svc :=
  (State.setOn_keep (Keep.refl 49241 s) rfl _ _ _ _).svc rfl

@[simp] theorem State.setOn_img (s : State) (a1 a2 a3 a4) : (State.setOn s a1 a2 a3 a4).img = s.img :=
  (State.setOn_keep (Keep.refl 49241 s) rfl _ _ _ _).img rfl

@[simp] theorem State.setOn_grp (s : State) (a1 a2 a3 a4) : (State.setOn s a1 a2 a3 a4).grp = s.grp :=
  (State.setOn_keep (Keep.refl 49241 s) rfl _ _ _ _).grp rfl

@[simp] theorem State.setOn_dmn (s : State) (a1 a2 a3 a4) : (State.setOn s a1 a2 a3 a4).dmn = s.dmn :=
  (State.setOn_keep (Keep.refl 49241 s) rfl _ _ _ _).dmn rfl

theorem State.setOn_waits (s : State) (a1 a2 a3 a4) : s.diag.waiting <+: (State.setOn s a1 a2 a3 a4).diag.waiting :=
  (State.setOn_keep (Keep.refl 49241 s) rfl _ _ _ _).waits rfl

@[simp] theorem State.setDmn_live (s : State) (a1) : (State.setDmn s a1).live = s.live :=
  (State.setDmn_keep (Keep.refl 4194304 s) rfl _).live rfl

@[simp] theorem State.setDmn_user (s : State) (a1) : (State.setDmn s a1).user = s.user :=
  (State.setDmn_keep (Keep.refl 4194304 s) rfl _).user rfl

@[simp] theorem State.setDmn_clk (s : State) (a1) : (State.setDmn s a1).clk = s.clk :=
  (State.setDmn_keep (Keep.refl 4194304 s) rfl _).clk rfl

@[simp] theorem State.setDmn_diag (s : State) (a1) : (State.setDmn s a1).diag = s.diag :=
  (State.setDmn_keep (Keep.refl 4194304 s) rfl _).diag rfl

@[simp] theorem State.setDmn_pow (s : State) (a1) : (State.setDmn s a1).pow = s.pow :=
  (State.setDmn_keep (Keep.refl 4194304 s) rfl _).pow rfl

@[simp] theorem State.setDmn_mem (s : State) (a1) : (State.setDmn s a1).mem = s.mem :=
  (State.setDmn_keep (Keep.refl 4194304 s) rfl _).mem rfl

@[simp] theorem State.setDmn_aop (s : State) (a1) : (State.setDmn s a1).aop = s.aop :=
  (State.setDmn_keep (Keep.refl 4194304 s) rfl _).aop rfl

@[simp] theorem State.setDmn_frame (s : State) (a1) : (State.setDmn s a1).frame = s.frame :=
  (State.setDmn_keep (Keep.refl 4194304 s) rfl _).frame rfl

@[simp] theorem State.setDmn_conv (s : State) (a1) : (State.setDmn s a1).conv = s.conv :=
  (State.setDmn_keep (Keep.refl 4194304 s) rfl _).conv rfl

@[simp] theorem State.setDmn_cal (s : State) (a1) : (State.setDmn s a1).cal = s.cal :=
  (State.setDmn_keep (Keep.refl 4194304 s) rfl _).cal rfl

@[simp] theorem State.setDmn_eq (s : State) (a1) : (State.setDmn s a1).eq = s.eq :=
  (State.setDmn_keep (Keep.refl 4194304 s) rfl _).eq rfl

@[simp] theorem State.setDmn_load (s : State) (a1) : (State.setDmn s a1).load = s.load :=
  (State.setDmn_keep (Keep.refl 4194304 s) rfl _).load rfl

@[simp] theorem State.setDmn_pool (s : State) (a1) : (State.setDmn s a1).pool = s.pool :=
  (State.setDmn_keep (Keep.refl 4194304 s) rfl _).pool rfl

@[simp] theorem State.setDmn_lanes (s : State) (a1) : (State.setDmn s a1).lanes = s.lanes :=
  (State.setDmn_keep (Keep.refl 4194304 s) rfl _).lanes rfl

@[simp] theorem State.setDmn_ciph (s : State) (a1) : (State.setDmn s a1).ciph = s.ciph :=
  (State.setDmn_keep (Keep.refl 4194304 s) rfl _).ciph rfl

@[simp] theorem State.setDmn_grot (s : State) (a1) : (State.setDmn s a1).grot = s.grot :=
  (State.setDmn_keep (Keep.refl 4194304 s) rfl _).grot rfl

@[simp] theorem State.setDmn_bel (s : State) (a1) : (State.setDmn s a1).bel = s.bel :=
  (State.setDmn_keep (Keep.refl 4194304 s) rfl _).bel rfl

@[simp] theorem State.setDmn_foot (s : State) (a1) : (State.setDmn s a1).foot = s.foot :=
  (State.setDmn_keep (Keep.refl 4194304 s) rfl _).foot rfl

@[simp] theorem State.setDmn_av (s : State) (a1) : (State.setDmn s a1).av = s.av :=
  (State.setDmn_keep (Keep.refl 4194304 s) rfl _).av rfl

@[simp] theorem State.setDmn_svc (s : State) (a1) : (State.setDmn s a1).svc = s.svc :=
  (State.setDmn_keep (Keep.refl 4194304 s) rfl _).svc rfl

@[simp] theorem State.setDmn_img (s : State) (a1) : (State.setDmn s a1).img = s.img :=
  (State.setDmn_keep (Keep.refl 4194304 s) rfl _).img rfl

@[simp] theorem State.setDmn_grp (s : State) (a1) : (State.setDmn s a1).grp = s.grp :=
  (State.setDmn_keep (Keep.refl 4194304 s) rfl _).grp rfl

@[simp] theorem State.setDmn_i (s : State) (a1) (o m) : (State.setDmn s a1).i o m = s.i o m :=
  State.i_congr (by simp) (by simp) o m

@[simp] theorem State.setDmn_u (s : State) (a1) (o m) : (State.setDmn s a1).u o m = s.u o m :=
  congrArg Int.toNat (State.setDmn_i ..)

@[simp] theorem State.setDmn_o (s : State) (a1) (o m) : (State.setDmn s a1).o o m = s.o o m :=
  State.o_congr (by simp) (by simp) o m

@[simp] theorem State.setRx_live (s : State) (a1 a2) : (State.setRx s a1 a2).live = s.live :=
  (State.setRx_keep (Keep.refl 1024 s) rfl _ _).live rfl

@[simp] theorem State.setRx_user (s : State) (a1 a2) : (State.setRx s a1 a2).user = s.user :=
  (State.setRx_keep (Keep.refl 1024 s) rfl _ _).user rfl

@[simp] theorem State.setRx_clk (s : State) (a1 a2) : (State.setRx s a1 a2).clk = s.clk :=
  (State.setRx_keep (Keep.refl 1024 s) rfl _ _).clk rfl

@[simp] theorem State.setRx_diag (s : State) (a1 a2) : (State.setRx s a1 a2).diag = s.diag :=
  (State.setRx_keep (Keep.refl 1024 s) rfl _ _).diag rfl

@[simp] theorem State.setRx_pow (s : State) (a1 a2) : (State.setRx s a1 a2).pow = s.pow :=
  (State.setRx_keep (Keep.refl 1024 s) rfl _ _).pow rfl

@[simp] theorem State.setRx_mem (s : State) (a1 a2) : (State.setRx s a1 a2).mem = s.mem :=
  (State.setRx_keep (Keep.refl 1024 s) rfl _ _).mem rfl

@[simp] theorem State.setRx_aop (s : State) (a1 a2) : (State.setRx s a1 a2).aop = s.aop :=
  (State.setRx_keep (Keep.refl 1024 s) rfl _ _).aop rfl

@[simp] theorem State.setRx_frame (s : State) (a1 a2) : (State.setRx s a1 a2).frame = s.frame :=
  (State.setRx_keep (Keep.refl 1024 s) rfl _ _).frame rfl

@[simp] theorem State.setRx_conv (s : State) (a1 a2) : (State.setRx s a1 a2).conv = s.conv :=
  (State.setRx_keep (Keep.refl 1024 s) rfl _ _).conv rfl

@[simp] theorem State.setRx_cal (s : State) (a1 a2) : (State.setRx s a1 a2).cal = s.cal :=
  (State.setRx_keep (Keep.refl 1024 s) rfl _ _).cal rfl

@[simp] theorem State.setRx_load (s : State) (a1 a2) : (State.setRx s a1 a2).load = s.load :=
  (State.setRx_keep (Keep.refl 1024 s) rfl _ _).load rfl

@[simp] theorem State.setRx_pool (s : State) (a1 a2) : (State.setRx s a1 a2).pool = s.pool :=
  (State.setRx_keep (Keep.refl 1024 s) rfl _ _).pool rfl

@[simp] theorem State.setRx_lanes (s : State) (a1 a2) : (State.setRx s a1 a2).lanes = s.lanes :=
  (State.setRx_keep (Keep.refl 1024 s) rfl _ _).lanes rfl

@[simp] theorem State.setRx_ciph (s : State) (a1 a2) : (State.setRx s a1 a2).ciph = s.ciph :=
  (State.setRx_keep (Keep.refl 1024 s) rfl _ _).ciph rfl

@[simp] theorem State.setRx_grot (s : State) (a1 a2) : (State.setRx s a1 a2).grot = s.grot :=
  (State.setRx_keep (Keep.refl 1024 s) rfl _ _).grot rfl

@[simp] theorem State.setRx_bel (s : State) (a1 a2) : (State.setRx s a1 a2).bel = s.bel :=
  (State.setRx_keep (Keep.refl 1024 s) rfl _ _).bel rfl

@[simp] theorem State.setRx_foot (s : State) (a1 a2) : (State.setRx s a1 a2).foot = s.foot :=
  (State.setRx_keep (Keep.refl 1024 s) rfl _ _).foot rfl

@[simp] theorem State.setRx_av (s : State) (a1 a2) : (State.setRx s a1 a2).av = s.av :=
  (State.setRx_keep (Keep.refl 1024 s) rfl _ _).av rfl

@[simp] theorem State.setRx_svc (s : State) (a1 a2) : (State.setRx s a1 a2).svc = s.svc :=
  (State.setRx_keep (Keep.refl 1024 s) rfl _ _).svc rfl

@[simp] theorem State.setRx_img (s : State) (a1 a2) : (State.setRx s a1 a2).img = s.img :=
  (State.setRx_keep (Keep.refl 1024 s) rfl _ _).img rfl

@[simp] theorem State.setRx_grp (s : State) (a1 a2) : (State.setRx s a1 a2).grp = s.grp :=
  (State.setRx_keep (Keep.refl 1024 s) rfl _ _).grp rfl

@[simp] theorem State.setRx_dmn (s : State) (a1 a2) : (State.setRx s a1 a2).dmn = s.dmn :=
  (State.setRx_keep (Keep.refl 1024 s) rfl _ _).dmn rfl

@[simp] theorem State.setRx_i (s : State) (a1 a2) (o m) : (State.setRx s a1 a2).i o m = s.i o m :=
  State.i_congr (by simp) (by simp) o m

@[simp] theorem State.setRx_u (s : State) (a1 a2) (o m) : (State.setRx s a1 a2).u o m = s.u o m :=
  congrArg Int.toNat (State.setRx_i ..)

@[simp] theorem State.setRx_o (s : State) (a1 a2) (o m) : (State.setRx s a1 a2).o o m = s.o o m :=
  State.o_congr (by simp) (by simp) o m

@[simp] theorem State.setLock_user (s : State) (a1 a2) : (State.setLock s a1 a2).user = s.user :=
  (State.setLock_keep (Keep.refl 1 s) rfl _ _).user rfl

@[simp] theorem State.setLock_clk (s : State) (a1 a2) : (State.setLock s a1 a2).clk = s.clk :=
  (State.setLock_keep (Keep.refl 1 s) rfl _ _).clk rfl

@[simp] theorem State.setLock_diag (s : State) (a1 a2) : (State.setLock s a1 a2).diag = s.diag :=
  (State.setLock_keep (Keep.refl 1 s) rfl _ _).diag rfl

@[simp] theorem State.setLock_pow (s : State) (a1 a2) : (State.setLock s a1 a2).pow = s.pow :=
  (State.setLock_keep (Keep.refl 1 s) rfl _ _).pow rfl

@[simp] theorem State.setLock_mem (s : State) (a1 a2) : (State.setLock s a1 a2).mem = s.mem :=
  (State.setLock_keep (Keep.refl 1 s) rfl _ _).mem rfl

@[simp] theorem State.setLock_aop (s : State) (a1 a2) : (State.setLock s a1 a2).aop = s.aop :=
  (State.setLock_keep (Keep.refl 1 s) rfl _ _).aop rfl

@[simp] theorem State.setLock_frame (s : State) (a1 a2) : (State.setLock s a1 a2).frame = s.frame :=
  (State.setLock_keep (Keep.refl 1 s) rfl _ _).frame rfl

@[simp] theorem State.setLock_conv (s : State) (a1 a2) : (State.setLock s a1 a2).conv = s.conv :=
  (State.setLock_keep (Keep.refl 1 s) rfl _ _).conv rfl

@[simp] theorem State.setLock_cal (s : State) (a1 a2) : (State.setLock s a1 a2).cal = s.cal :=
  (State.setLock_keep (Keep.refl 1 s) rfl _ _).cal rfl

@[simp] theorem State.setLock_eq (s : State) (a1 a2) : (State.setLock s a1 a2).eq = s.eq :=
  (State.setLock_keep (Keep.refl 1 s) rfl _ _).eq rfl

@[simp] theorem State.setLock_load (s : State) (a1 a2) : (State.setLock s a1 a2).load = s.load :=
  (State.setLock_keep (Keep.refl 1 s) rfl _ _).load rfl

@[simp] theorem State.setLock_pool (s : State) (a1 a2) : (State.setLock s a1 a2).pool = s.pool :=
  (State.setLock_keep (Keep.refl 1 s) rfl _ _).pool rfl

@[simp] theorem State.setLock_lanes (s : State) (a1 a2) : (State.setLock s a1 a2).lanes = s.lanes :=
  (State.setLock_keep (Keep.refl 1 s) rfl _ _).lanes rfl

@[simp] theorem State.setLock_ciph (s : State) (a1 a2) : (State.setLock s a1 a2).ciph = s.ciph :=
  (State.setLock_keep (Keep.refl 1 s) rfl _ _).ciph rfl

@[simp] theorem State.setLock_grot (s : State) (a1 a2) : (State.setLock s a1 a2).grot = s.grot :=
  (State.setLock_keep (Keep.refl 1 s) rfl _ _).grot rfl

@[simp] theorem State.setLock_bel (s : State) (a1 a2) : (State.setLock s a1 a2).bel = s.bel :=
  (State.setLock_keep (Keep.refl 1 s) rfl _ _).bel rfl

@[simp] theorem State.setLock_foot (s : State) (a1 a2) : (State.setLock s a1 a2).foot = s.foot :=
  (State.setLock_keep (Keep.refl 1 s) rfl _ _).foot rfl

@[simp] theorem State.setLock_av (s : State) (a1 a2) : (State.setLock s a1 a2).av = s.av :=
  (State.setLock_keep (Keep.refl 1 s) rfl _ _).av rfl

@[simp] theorem State.setLock_svc (s : State) (a1 a2) : (State.setLock s a1 a2).svc = s.svc :=
  (State.setLock_keep (Keep.refl 1 s) rfl _ _).svc rfl

@[simp] theorem State.setLock_img (s : State) (a1 a2) : (State.setLock s a1 a2).img = s.img :=
  (State.setLock_keep (Keep.refl 1 s) rfl _ _).img rfl

@[simp] theorem State.setLock_grp (s : State) (a1 a2) : (State.setLock s a1 a2).grp = s.grp :=
  (State.setLock_keep (Keep.refl 1 s) rfl _ _).grp rfl

@[simp] theorem State.setLock_dmn (s : State) (a1 a2) : (State.setLock s a1 a2).dmn = s.dmn :=
  (State.setLock_keep (Keep.refl 1 s) rfl _ _).dmn rfl

@[simp] theorem State.setFt_live (s : State) (a1 a2) : (State.setFt s a1 a2).live = s.live :=
  (State.setFt_keep (Keep.refl 131072 s) rfl _ _).live rfl

@[simp] theorem State.setFt_user (s : State) (a1 a2) : (State.setFt s a1 a2).user = s.user :=
  (State.setFt_keep (Keep.refl 131072 s) rfl _ _).user rfl

@[simp] theorem State.setFt_clk (s : State) (a1 a2) : (State.setFt s a1 a2).clk = s.clk :=
  (State.setFt_keep (Keep.refl 131072 s) rfl _ _).clk rfl

@[simp] theorem State.setFt_diag (s : State) (a1 a2) : (State.setFt s a1 a2).diag = s.diag :=
  (State.setFt_keep (Keep.refl 131072 s) rfl _ _).diag rfl

@[simp] theorem State.setFt_pow (s : State) (a1 a2) : (State.setFt s a1 a2).pow = s.pow :=
  (State.setFt_keep (Keep.refl 131072 s) rfl _ _).pow rfl

@[simp] theorem State.setFt_mem (s : State) (a1 a2) : (State.setFt s a1 a2).mem = s.mem :=
  (State.setFt_keep (Keep.refl 131072 s) rfl _ _).mem rfl

@[simp] theorem State.setFt_aop (s : State) (a1 a2) : (State.setFt s a1 a2).aop = s.aop :=
  (State.setFt_keep (Keep.refl 131072 s) rfl _ _).aop rfl

@[simp] theorem State.setFt_frame (s : State) (a1 a2) : (State.setFt s a1 a2).frame = s.frame :=
  (State.setFt_keep (Keep.refl 131072 s) rfl _ _).frame rfl

@[simp] theorem State.setFt_conv (s : State) (a1 a2) : (State.setFt s a1 a2).conv = s.conv :=
  (State.setFt_keep (Keep.refl 131072 s) rfl _ _).conv rfl

@[simp] theorem State.setFt_cal (s : State) (a1 a2) : (State.setFt s a1 a2).cal = s.cal :=
  (State.setFt_keep (Keep.refl 131072 s) rfl _ _).cal rfl

@[simp] theorem State.setFt_eq (s : State) (a1 a2) : (State.setFt s a1 a2).eq = s.eq :=
  (State.setFt_keep (Keep.refl 131072 s) rfl _ _).eq rfl

@[simp] theorem State.setFt_load (s : State) (a1 a2) : (State.setFt s a1 a2).load = s.load :=
  (State.setFt_keep (Keep.refl 131072 s) rfl _ _).load rfl

@[simp] theorem State.setFt_pool (s : State) (a1 a2) : (State.setFt s a1 a2).pool = s.pool :=
  (State.setFt_keep (Keep.refl 131072 s) rfl _ _).pool rfl

@[simp] theorem State.setFt_lanes (s : State) (a1 a2) : (State.setFt s a1 a2).lanes = s.lanes :=
  (State.setFt_keep (Keep.refl 131072 s) rfl _ _).lanes rfl

@[simp] theorem State.setFt_ciph (s : State) (a1 a2) : (State.setFt s a1 a2).ciph = s.ciph :=
  (State.setFt_keep (Keep.refl 131072 s) rfl _ _).ciph rfl

@[simp] theorem State.setFt_grot (s : State) (a1 a2) : (State.setFt s a1 a2).grot = s.grot :=
  (State.setFt_keep (Keep.refl 131072 s) rfl _ _).grot rfl

@[simp] theorem State.setFt_bel (s : State) (a1 a2) : (State.setFt s a1 a2).bel = s.bel :=
  (State.setFt_keep (Keep.refl 131072 s) rfl _ _).bel rfl

@[simp] theorem State.setFt_av (s : State) (a1 a2) : (State.setFt s a1 a2).av = s.av :=
  (State.setFt_keep (Keep.refl 131072 s) rfl _ _).av rfl

@[simp] theorem State.setFt_svc (s : State) (a1 a2) : (State.setFt s a1 a2).svc = s.svc :=
  (State.setFt_keep (Keep.refl 131072 s) rfl _ _).svc rfl

@[simp] theorem State.setFt_img (s : State) (a1 a2) : (State.setFt s a1 a2).img = s.img :=
  (State.setFt_keep (Keep.refl 131072 s) rfl _ _).img rfl

@[simp] theorem State.setFt_grp (s : State) (a1 a2) : (State.setFt s a1 a2).grp = s.grp :=
  (State.setFt_keep (Keep.refl 131072 s) rfl _ _).grp rfl

@[simp] theorem State.setFt_dmn (s : State) (a1 a2) : (State.setFt s a1 a2).dmn = s.dmn :=
  (State.setFt_keep (Keep.refl 131072 s) rfl _ _).dmn rfl

@[simp] theorem State.setFt_i (s : State) (a1 a2) (o m) : (State.setFt s a1 a2).i o m = s.i o m :=
  State.i_congr (by simp) (by simp) o m

@[simp] theorem State.setFt_u (s : State) (a1 a2) (o m) : (State.setFt s a1 a2).u o m = s.u o m :=
  congrArg Int.toNat (State.setFt_i ..)

@[simp] theorem State.setFt_o (s : State) (a1 a2) (o m) : (State.setFt s a1 a2).o o m = s.o o m :=
  State.o_congr (by simp) (by simp) o m

@[simp] theorem State.setRxState_user (s : State) (a1 a2) : (State.setRxState s a1 a2).user = s.user :=
  (State.setRxState_keep (Keep.refl 1 s) rfl _ _).user rfl

@[simp] theorem State.setRxState_clk (s : State) (a1 a2) : (State.setRxState s a1 a2).clk = s.clk :=
  (State.setRxState_keep (Keep.refl 1 s) rfl _ _).clk rfl

@[simp] theorem State.setRxState_diag (s : State) (a1 a2) : (State.setRxState s a1 a2).diag = s.diag :=
  (State.setRxState_keep (Keep.refl 1 s) rfl _ _).diag rfl

@[simp] theorem State.setRxState_pow (s : State) (a1 a2) : (State.setRxState s a1 a2).pow = s.pow :=
  (State.setRxState_keep (Keep.refl 1 s) rfl _ _).pow rfl

@[simp] theorem State.setRxState_mem (s : State) (a1 a2) : (State.setRxState s a1 a2).mem = s.mem :=
  (State.setRxState_keep (Keep.refl 1 s) rfl _ _).mem rfl

@[simp] theorem State.setRxState_aop (s : State) (a1 a2) : (State.setRxState s a1 a2).aop = s.aop :=
  (State.setRxState_keep (Keep.refl 1 s) rfl _ _).aop rfl

@[simp] theorem State.setRxState_frame (s : State) (a1 a2) : (State.setRxState s a1 a2).frame = s.frame :=
  (State.setRxState_keep (Keep.refl 1 s) rfl _ _).frame rfl

@[simp] theorem State.setRxState_conv (s : State) (a1 a2) : (State.setRxState s a1 a2).conv = s.conv :=
  (State.setRxState_keep (Keep.refl 1 s) rfl _ _).conv rfl

@[simp] theorem State.setRxState_cal (s : State) (a1 a2) : (State.setRxState s a1 a2).cal = s.cal :=
  (State.setRxState_keep (Keep.refl 1 s) rfl _ _).cal rfl

@[simp] theorem State.setRxState_eq (s : State) (a1 a2) : (State.setRxState s a1 a2).eq = s.eq :=
  (State.setRxState_keep (Keep.refl 1 s) rfl _ _).eq rfl

@[simp] theorem State.setRxState_load (s : State) (a1 a2) : (State.setRxState s a1 a2).load = s.load :=
  (State.setRxState_keep (Keep.refl 1 s) rfl _ _).load rfl

@[simp] theorem State.setRxState_pool (s : State) (a1 a2) : (State.setRxState s a1 a2).pool = s.pool :=
  (State.setRxState_keep (Keep.refl 1 s) rfl _ _).pool rfl

@[simp] theorem State.setRxState_lanes (s : State) (a1 a2) : (State.setRxState s a1 a2).lanes = s.lanes :=
  (State.setRxState_keep (Keep.refl 1 s) rfl _ _).lanes rfl

@[simp] theorem State.setRxState_ciph (s : State) (a1 a2) : (State.setRxState s a1 a2).ciph = s.ciph :=
  (State.setRxState_keep (Keep.refl 1 s) rfl _ _).ciph rfl

@[simp] theorem State.setRxState_grot (s : State) (a1 a2) : (State.setRxState s a1 a2).grot = s.grot :=
  (State.setRxState_keep (Keep.refl 1 s) rfl _ _).grot rfl

@[simp] theorem State.setRxState_bel (s : State) (a1 a2) : (State.setRxState s a1 a2).bel = s.bel :=
  (State.setRxState_keep (Keep.refl 1 s) rfl _ _).bel rfl

@[simp] theorem State.setRxState_foot (s : State) (a1 a2) : (State.setRxState s a1 a2).foot = s.foot :=
  (State.setRxState_keep (Keep.refl 1 s) rfl _ _).foot rfl

@[simp] theorem State.setRxState_av (s : State) (a1 a2) : (State.setRxState s a1 a2).av = s.av :=
  (State.setRxState_keep (Keep.refl 1 s) rfl _ _).av rfl

@[simp] theorem State.setRxState_svc (s : State) (a1 a2) : (State.setRxState s a1 a2).svc = s.svc :=
  (State.setRxState_keep (Keep.refl 1 s) rfl _ _).svc rfl

@[simp] theorem State.setRxState_img (s : State) (a1 a2) : (State.setRxState s a1 a2).img = s.img :=
  (State.setRxState_keep (Keep.refl 1 s) rfl _ _).img rfl

@[simp] theorem State.setRxState_grp (s : State) (a1 a2) : (State.setRxState s a1 a2).grp = s.grp :=
  (State.setRxState_keep (Keep.refl 1 s) rfl _ _).grp rfl

@[simp] theorem State.setRxState_dmn (s : State) (a1 a2) : (State.setRxState s a1 a2).dmn = s.dmn :=
  (State.setRxState_keep (Keep.refl 1 s) rfl _ _).dmn rfl

@[simp] theorem State.setGr_live (s : State) (a1) : (State.setGr s a1).live = s.live :=
  (State.setGr_keep (Keep.refl 32768 s) rfl _).live rfl

@[simp] theorem State.setGr_user (s : State) (a1) : (State.setGr s a1).user = s.user :=
  (State.setGr_keep (Keep.refl 32768 s) rfl _).user rfl

@[simp] theorem State.setGr_clk (s : State) (a1) : (State.setGr s a1).clk = s.clk :=
  (State.setGr_keep (Keep.refl 32768 s) rfl _).clk rfl

@[simp] theorem State.setGr_diag (s : State) (a1) : (State.setGr s a1).diag = s.diag :=
  (State.setGr_keep (Keep.refl 32768 s) rfl _).diag rfl

@[simp] theorem State.setGr_pow (s : State) (a1) : (State.setGr s a1).pow = s.pow :=
  (State.setGr_keep (Keep.refl 32768 s) rfl _).pow rfl

@[simp] theorem State.setGr_mem (s : State) (a1) : (State.setGr s a1).mem = s.mem :=
  (State.setGr_keep (Keep.refl 32768 s) rfl _).mem rfl

@[simp] theorem State.setGr_aop (s : State) (a1) : (State.setGr s a1).aop = s.aop :=
  (State.setGr_keep (Keep.refl 32768 s) rfl _).aop rfl

@[simp] theorem State.setGr_frame (s : State) (a1) : (State.setGr s a1).frame = s.frame :=
  (State.setGr_keep (Keep.refl 32768 s) rfl _).frame rfl

@[simp] theorem State.setGr_conv (s : State) (a1) : (State.setGr s a1).conv = s.conv :=
  (State.setGr_keep (Keep.refl 32768 s) rfl _).conv rfl

@[simp] theorem State.setGr_cal (s : State) (a1) : (State.setGr s a1).cal = s.cal :=
  (State.setGr_keep (Keep.refl 32768 s) rfl _).cal rfl

@[simp] theorem State.setGr_eq (s : State) (a1) : (State.setGr s a1).eq = s.eq :=
  (State.setGr_keep (Keep.refl 32768 s) rfl _).eq rfl

@[simp] theorem State.setGr_load (s : State) (a1) : (State.setGr s a1).load = s.load :=
  (State.setGr_keep (Keep.refl 32768 s) rfl _).load rfl

@[simp] theorem State.setGr_pool (s : State) (a1) : (State.setGr s a1).pool = s.pool :=
  (State.setGr_keep (Keep.refl 32768 s) rfl _).pool rfl

@[simp] theorem State.setGr_lanes (s : State) (a1) : (State.setGr s a1).lanes = s.lanes :=
  (State.setGr_keep (Keep.refl 32768 s) rfl _).lanes rfl

@[simp] theorem State.setGr_ciph (s : State) (a1) : (State.setGr s a1).ciph = s.ciph :=
  (State.setGr_keep (Keep.refl 32768 s) rfl _).ciph rfl

@[simp] theorem State.setGr_bel (s : State) (a1) : (State.setGr s a1).bel = s.bel :=
  (State.setGr_keep (Keep.refl 32768 s) rfl _).bel rfl

@[simp] theorem State.setGr_foot (s : State) (a1) : (State.setGr s a1).foot = s.foot :=
  (State.setGr_keep (Keep.refl 32768 s) rfl _).foot rfl

@[simp] theorem State.setGr_av (s : State) (a1) : (State.setGr s a1).av = s.av :=
  (State.setGr_keep (Keep.refl 32768 s) rfl _).av rfl

@[simp] theorem State.setGr_svc (s : State) (a1) : (State.setGr s a1).svc = s.svc :=
  (State.setGr_keep (Keep.refl 32768 s) rfl _).svc rfl

@[simp] theorem State.setGr_img (s : State) (a1) : (State.setGr s a1).img = s.img :=
  (State.setGr_keep (Keep.refl 32768 s) rfl _).img rfl

@[simp] theorem State.setGr_grp (s : State) (a1) : (State.setGr s a1).grp = s.grp :=
  (State.setGr_keep (Keep.refl 32768 s) rfl _).grp rfl

@[simp] theorem State.setGr_dmn (s : State) (a1) : (State.setGr s a1).dmn = s.dmn :=
  (State.setGr_keep (Keep.refl 32768 s) rfl _).dmn rfl

@[simp] theorem State.setGr_i (s : State) (a1) (o m) : (State.setGr s a1).i o m = s.i o m :=
  State.i_congr (by simp) (by simp) o m

@[simp] theorem State.setGr_u (s : State) (a1) (o m) : (State.setGr s a1).u o m = s.u o m :=
  congrArg Int.toNat (State.setGr_i ..)

@[simp] theorem State.setGr_o (s : State) (a1) (o m) : (State.setGr s a1).o o m = s.o o m :=
  State.o_congr (by simp) (by simp) o m

@[simp] theorem State.setGrp_live (s : State) (a1) : (State.setGrp s a1).live = s.live :=
  (State.setGrp_keep (Keep.refl 2097152 s) rfl _).live rfl

@[simp] theorem State.setGrp_user (s : State) (a1) : (State.setGrp s a1).user = s.user :=
  (State.setGrp_keep (Keep.refl 2097152 s) rfl _).user rfl

@[simp] theorem State.setGrp_clk (s : State) (a1) : (State.setGrp s a1).clk = s.clk :=
  (State.setGrp_keep (Keep.refl 2097152 s) rfl _).clk rfl

@[simp] theorem State.setGrp_diag (s : State) (a1) : (State.setGrp s a1).diag = s.diag :=
  (State.setGrp_keep (Keep.refl 2097152 s) rfl _).diag rfl

@[simp] theorem State.setGrp_pow (s : State) (a1) : (State.setGrp s a1).pow = s.pow :=
  (State.setGrp_keep (Keep.refl 2097152 s) rfl _).pow rfl

@[simp] theorem State.setGrp_mem (s : State) (a1) : (State.setGrp s a1).mem = s.mem :=
  (State.setGrp_keep (Keep.refl 2097152 s) rfl _).mem rfl

@[simp] theorem State.setGrp_aop (s : State) (a1) : (State.setGrp s a1).aop = s.aop :=
  (State.setGrp_keep (Keep.refl 2097152 s) rfl _).aop rfl

@[simp] theorem State.setGrp_frame (s : State) (a1) : (State.setGrp s a1).frame = s.frame :=
  (State.setGrp_keep (Keep.refl 2097152 s) rfl _).frame rfl

@[simp] theorem State.setGrp_conv (s : State) (a1) : (State.setGrp s a1).conv = s.conv :=
  (State.setGrp_keep (Keep.refl 2097152 s) rfl _).conv rfl

@[simp] theorem State.setGrp_cal (s : State) (a1) : (State.setGrp s a1).cal = s.cal :=
  (State.setGrp_keep (Keep.refl 2097152 s) rfl _).cal rfl

@[simp] theorem State.setGrp_eq (s : State) (a1) : (State.setGrp s a1).eq = s.eq :=
  (State.setGrp_keep (Keep.refl 2097152 s) rfl _).eq rfl

@[simp] theorem State.setGrp_load (s : State) (a1) : (State.setGrp s a1).load = s.load :=
  (State.setGrp_keep (Keep.refl 2097152 s) rfl _).load rfl

@[simp] theorem State.setGrp_pool (s : State) (a1) : (State.setGrp s a1).pool = s.pool :=
  (State.setGrp_keep (Keep.refl 2097152 s) rfl _).pool rfl

@[simp] theorem State.setGrp_lanes (s : State) (a1) : (State.setGrp s a1).lanes = s.lanes :=
  (State.setGrp_keep (Keep.refl 2097152 s) rfl _).lanes rfl

@[simp] theorem State.setGrp_ciph (s : State) (a1) : (State.setGrp s a1).ciph = s.ciph :=
  (State.setGrp_keep (Keep.refl 2097152 s) rfl _).ciph rfl

@[simp] theorem State.setGrp_grot (s : State) (a1) : (State.setGrp s a1).grot = s.grot :=
  (State.setGrp_keep (Keep.refl 2097152 s) rfl _).grot rfl

@[simp] theorem State.setGrp_bel (s : State) (a1) : (State.setGrp s a1).bel = s.bel :=
  (State.setGrp_keep (Keep.refl 2097152 s) rfl _).bel rfl

@[simp] theorem State.setGrp_foot (s : State) (a1) : (State.setGrp s a1).foot = s.foot :=
  (State.setGrp_keep (Keep.refl 2097152 s) rfl _).foot rfl

@[simp] theorem State.setGrp_av (s : State) (a1) : (State.setGrp s a1).av = s.av :=
  (State.setGrp_keep (Keep.refl 2097152 s) rfl _).av rfl

@[simp] theorem State.setGrp_svc (s : State) (a1) : (State.setGrp s a1).svc = s.svc :=
  (State.setGrp_keep (Keep.refl 2097152 s) rfl _).svc rfl

@[simp] theorem State.setGrp_img (s : State) (a1) : (State.setGrp s a1).img = s.img :=
  (State.setGrp_keep (Keep.refl 2097152 s) rfl _).img rfl

@[simp] theorem State.setGrp_dmn (s : State) (a1) : (State.setGrp s a1).dmn = s.dmn :=
  (State.setGrp_keep (Keep.refl 2097152 s) rfl _).dmn rfl

@[simp] theorem State.setGrp_i (s : State) (a1) (o m) : (State.setGrp s a1).i o m = s.i o m :=
  State.i_congr (by simp) (by simp) o m

@[simp] theorem State.setGrp_u (s : State) (a1) (o m) : (State.setGrp s a1).u o m = s.u o m :=
  congrArg Int.toNat (State.setGrp_i ..)

@[simp] theorem State.setGrp_o (s : State) (a1) (o m) : (State.setGrp s a1).o o m = s.o o m :=
  State.o_congr (by simp) (by simp) o m

@[simp] theorem State.setMember_live (s : State) (a1 a2) : (State.setMember s a1 a2).live = s.live :=
  (State.setMember_keep (Keep.refl 2097152 s) rfl _ _).live rfl

@[simp] theorem State.setMember_user (s : State) (a1 a2) : (State.setMember s a1 a2).user = s.user :=
  (State.setMember_keep (Keep.refl 2097152 s) rfl _ _).user rfl

@[simp] theorem State.setMember_clk (s : State) (a1 a2) : (State.setMember s a1 a2).clk = s.clk :=
  (State.setMember_keep (Keep.refl 2097152 s) rfl _ _).clk rfl

@[simp] theorem State.setMember_diag (s : State) (a1 a2) : (State.setMember s a1 a2).diag = s.diag :=
  (State.setMember_keep (Keep.refl 2097152 s) rfl _ _).diag rfl

@[simp] theorem State.setMember_pow (s : State) (a1 a2) : (State.setMember s a1 a2).pow = s.pow :=
  (State.setMember_keep (Keep.refl 2097152 s) rfl _ _).pow rfl

@[simp] theorem State.setMember_mem (s : State) (a1 a2) : (State.setMember s a1 a2).mem = s.mem :=
  (State.setMember_keep (Keep.refl 2097152 s) rfl _ _).mem rfl

@[simp] theorem State.setMember_aop (s : State) (a1 a2) : (State.setMember s a1 a2).aop = s.aop :=
  (State.setMember_keep (Keep.refl 2097152 s) rfl _ _).aop rfl

@[simp] theorem State.setMember_frame (s : State) (a1 a2) : (State.setMember s a1 a2).frame = s.frame :=
  (State.setMember_keep (Keep.refl 2097152 s) rfl _ _).frame rfl

@[simp] theorem State.setMember_conv (s : State) (a1 a2) : (State.setMember s a1 a2).conv = s.conv :=
  (State.setMember_keep (Keep.refl 2097152 s) rfl _ _).conv rfl

@[simp] theorem State.setMember_cal (s : State) (a1 a2) : (State.setMember s a1 a2).cal = s.cal :=
  (State.setMember_keep (Keep.refl 2097152 s) rfl _ _).cal rfl

@[simp] theorem State.setMember_eq (s : State) (a1 a2) : (State.setMember s a1 a2).eq = s.eq :=
  (State.setMember_keep (Keep.refl 2097152 s) rfl _ _).eq rfl

@[simp] theorem State.setMember_load (s : State) (a1 a2) : (State.setMember s a1 a2).load = s.load :=
  (State.setMember_keep (Keep.refl 2097152 s) rfl _ _).load rfl

@[simp] theorem State.setMember_pool (s : State) (a1 a2) : (State.setMember s a1 a2).pool = s.pool :=
  (State.setMember_keep (Keep.refl 2097152 s) rfl _ _).pool rfl

@[simp] theorem State.setMember_lanes (s : State) (a1 a2) : (State.setMember s a1 a2).lanes = s.lanes :=
  (State.setMember_keep (Keep.refl 2097152 s) rfl _ _).lanes rfl

@[simp] theorem State.setMember_ciph (s : State) (a1 a2) : (State.setMember s a1 a2).ciph = s.ciph :=
  (State.setMember_keep (Keep.refl 2097152 s) rfl _ _).ciph rfl

@[simp] theorem State.setMember_grot (s : State) (a1 a2) : (State.setMember s a1 a2).grot = s.grot :=
  (State.setMember_keep (Keep.refl 2097152 s) rfl _ _).grot rfl

@[simp] theorem State.setMember_bel (s : State) (a1 a2) : (State.setMember s a1 a2).bel = s.bel :=
  (State.setMember_keep (Keep.refl 2097152 s) rfl _ _).bel rfl

@[simp] theorem State.setMember_foot (s : State) (a1 a2) : (State.setMember s a1 a2).foot = s.foot :=
  (State.setMember_keep (Keep.refl 2097152 s) rfl _ _).foot rfl

@[simp] theorem State.setMember_av (s : State) (a1 a2) : (State.setMember s a1 a2).av = s.av :=
  (State.setMember_keep (Keep.refl 2097152 s) rfl _ _).av rfl

@[simp] theorem State.setMember_svc (s : State) (a1 a2) : (State.setMember s a1 a2).svc = s.svc :=
  (State.setMember_keep (Keep.refl 2097152 s) rfl _ _).svc rfl

@[simp] theorem State.setMember_img (s : State) (a1 a2) : (State.setMember s a1 a2).img = s.img :=
  (State.setMember_keep (Keep.refl 2097152 s) rfl _ _).img rfl

@[simp] theorem State.setMember_dmn (s : State) (a1 a2) : (State.setMember s a1 a2).dmn = s.dmn :=
  (State.setMember_keep (Keep.refl 2097152 s) rfl _ _).dmn rfl

@[simp] theorem State.setMember_i (s : State) (a1 a2) (o m) : (State.setMember s a1 a2).i o m = s.i o m :=
  State.i_congr (by simp) (by simp) o m

@[simp] theorem State.setMember_u (s : State) (a1 a2) (o m) : (State.setMember s a1 a2).u o m = s.u o m :=
  congrArg Int.toNat (State.setMember_i ..)

@[simp] theorem State.setMember_o (s : State) (a1 a2) (o m) : (State.setMember s a1 a2).o o m = s.o o m :=
  State.o_congr (by simp) (by simp) o m

@[simp] theorem State.setBus_user (s : State) (a1) : (State.setBus s a1).user = s.user :=
  (State.setBus_keep (Keep.refl 1 s) rfl _).user rfl

@[simp] theorem State.setBus_clk (s : State) (a1) : (State.setBus s a1).clk = s.clk :=
  (State.setBus_keep (Keep.refl 1 s) rfl _).clk rfl

@[simp] theorem State.setBus_diag (s : State) (a1) : (State.setBus s a1).diag = s.diag :=
  (State.setBus_keep (Keep.refl 1 s) rfl _).diag rfl

@[simp] theorem State.setBus_pow (s : State) (a1) : (State.setBus s a1).pow = s.pow :=
  (State.setBus_keep (Keep.refl 1 s) rfl _).pow rfl

@[simp] theorem State.setBus_mem (s : State) (a1) : (State.setBus s a1).mem = s.mem :=
  (State.setBus_keep (Keep.refl 1 s) rfl _).mem rfl

@[simp] theorem State.setBus_aop (s : State) (a1) : (State.setBus s a1).aop = s.aop :=
  (State.setBus_keep (Keep.refl 1 s) rfl _).aop rfl

@[simp] theorem State.setBus_frame (s : State) (a1) : (State.setBus s a1).frame = s.frame :=
  (State.setBus_keep (Keep.refl 1 s) rfl _).frame rfl

@[simp] theorem State.setBus_conv (s : State) (a1) : (State.setBus s a1).conv = s.conv :=
  (State.setBus_keep (Keep.refl 1 s) rfl _).conv rfl

@[simp] theorem State.setBus_cal (s : State) (a1) : (State.setBus s a1).cal = s.cal :=
  (State.setBus_keep (Keep.refl 1 s) rfl _).cal rfl

@[simp] theorem State.setBus_eq (s : State) (a1) : (State.setBus s a1).eq = s.eq :=
  (State.setBus_keep (Keep.refl 1 s) rfl _).eq rfl

@[simp] theorem State.setBus_load (s : State) (a1) : (State.setBus s a1).load = s.load :=
  (State.setBus_keep (Keep.refl 1 s) rfl _).load rfl

@[simp] theorem State.setBus_pool (s : State) (a1) : (State.setBus s a1).pool = s.pool :=
  (State.setBus_keep (Keep.refl 1 s) rfl _).pool rfl

@[simp] theorem State.setBus_lanes (s : State) (a1) : (State.setBus s a1).lanes = s.lanes :=
  (State.setBus_keep (Keep.refl 1 s) rfl _).lanes rfl

@[simp] theorem State.setBus_ciph (s : State) (a1) : (State.setBus s a1).ciph = s.ciph :=
  (State.setBus_keep (Keep.refl 1 s) rfl _).ciph rfl

@[simp] theorem State.setBus_grot (s : State) (a1) : (State.setBus s a1).grot = s.grot :=
  (State.setBus_keep (Keep.refl 1 s) rfl _).grot rfl

@[simp] theorem State.setBus_bel (s : State) (a1) : (State.setBus s a1).bel = s.bel :=
  (State.setBus_keep (Keep.refl 1 s) rfl _).bel rfl

@[simp] theorem State.setBus_foot (s : State) (a1) : (State.setBus s a1).foot = s.foot :=
  (State.setBus_keep (Keep.refl 1 s) rfl _).foot rfl

@[simp] theorem State.setBus_av (s : State) (a1) : (State.setBus s a1).av = s.av :=
  (State.setBus_keep (Keep.refl 1 s) rfl _).av rfl

@[simp] theorem State.setBus_svc (s : State) (a1) : (State.setBus s a1).svc = s.svc :=
  (State.setBus_keep (Keep.refl 1 s) rfl _).svc rfl

@[simp] theorem State.setBus_img (s : State) (a1) : (State.setBus s a1).img = s.img :=
  (State.setBus_keep (Keep.refl 1 s) rfl _).img rfl

@[simp] theorem State.setBus_grp (s : State) (a1) : (State.setBus s a1).grp = s.grp :=
  (State.setBus_keep (Keep.refl 1 s) rfl _).grp rfl

@[simp] theorem State.setBus_dmn (s : State) (a1) : (State.setBus s a1).dmn = s.dmn :=
  (State.setBus_keep (Keep.refl 1 s) rfl _).dmn rfl

@[simp] theorem State.setRet_live (s : State) (a1 a2) : (State.setRet s a1 a2).live = s.live :=
  (State.setRet_keep (Keep.refl 32 s) rfl _ _).live rfl

@[simp] theorem State.setRet_user (s : State) (a1 a2) : (State.setRet s a1 a2).user = s.user :=
  (State.setRet_keep (Keep.refl 32 s) rfl _ _).user rfl

@[simp] theorem State.setRet_clk (s : State) (a1 a2) : (State.setRet s a1 a2).clk = s.clk :=
  (State.setRet_keep (Keep.refl 32 s) rfl _ _).clk rfl

@[simp] theorem State.setRet_diag (s : State) (a1 a2) : (State.setRet s a1 a2).diag = s.diag :=
  (State.setRet_keep (Keep.refl 32 s) rfl _ _).diag rfl

@[simp] theorem State.setRet_pow (s : State) (a1 a2) : (State.setRet s a1 a2).pow = s.pow :=
  (State.setRet_keep (Keep.refl 32 s) rfl _ _).pow rfl

@[simp] theorem State.setRet_aop (s : State) (a1 a2) : (State.setRet s a1 a2).aop = s.aop :=
  (State.setRet_keep (Keep.refl 32 s) rfl _ _).aop rfl

@[simp] theorem State.setRet_frame (s : State) (a1 a2) : (State.setRet s a1 a2).frame = s.frame :=
  (State.setRet_keep (Keep.refl 32 s) rfl _ _).frame rfl

@[simp] theorem State.setRet_conv (s : State) (a1 a2) : (State.setRet s a1 a2).conv = s.conv :=
  (State.setRet_keep (Keep.refl 32 s) rfl _ _).conv rfl

@[simp] theorem State.setRet_cal (s : State) (a1 a2) : (State.setRet s a1 a2).cal = s.cal :=
  (State.setRet_keep (Keep.refl 32 s) rfl _ _).cal rfl

@[simp] theorem State.setRet_eq (s : State) (a1 a2) : (State.setRet s a1 a2).eq = s.eq :=
  (State.setRet_keep (Keep.refl 32 s) rfl _ _).eq rfl

@[simp] theorem State.setRet_load (s : State) (a1 a2) : (State.setRet s a1 a2).load = s.load :=
  (State.setRet_keep (Keep.refl 32 s) rfl _ _).load rfl

@[simp] theorem State.setRet_pool (s : State) (a1 a2) : (State.setRet s a1 a2).pool = s.pool :=
  (State.setRet_keep (Keep.refl 32 s) rfl _ _).pool rfl

@[simp] theorem State.setRet_lanes (s : State) (a1 a2) : (State.setRet s a1 a2).lanes = s.lanes :=
  (State.setRet_keep (Keep.refl 32 s) rfl _ _).lanes rfl

@[simp] theorem State.setRet_ciph (s : State) (a1 a2) : (State.setRet s a1 a2).ciph = s.ciph :=
  (State.setRet_keep (Keep.refl 32 s) rfl _ _).ciph rfl

@[simp] theorem State.setRet_grot (s : State) (a1 a2) : (State.setRet s a1 a2).grot = s.grot :=
  (State.setRet_keep (Keep.refl 32 s) rfl _ _).grot rfl

@[simp] theorem State.setRet_bel (s : State) (a1 a2) : (State.setRet s a1 a2).bel = s.bel :=
  (State.setRet_keep (Keep.refl 32 s) rfl _ _).bel rfl

@[simp] theorem State.setRet_foot (s : State) (a1 a2) : (State.setRet s a1 a2).foot = s.foot :=
  (State.setRet_keep (Keep.refl 32 s) rfl _ _).foot rfl

@[simp] theorem State.setRet_av (s : State) (a1 a2) : (State.setRet s a1 a2).av = s.av :=
  (State.setRet_keep (Keep.refl 32 s) rfl _ _).av rfl

@[simp] theorem State.setRet_svc (s : State) (a1 a2) : (State.setRet s a1 a2).svc = s.svc :=
  (State.setRet_keep (Keep.refl 32 s) rfl _ _).svc rfl

@[simp] theorem State.setRet_img (s : State) (a1 a2) : (State.setRet s a1 a2).img = s.img :=
  (State.setRet_keep (Keep.refl 32 s) rfl _ _).img rfl

@[simp] theorem State.setRet_grp (s : State) (a1 a2) : (State.setRet s a1 a2).grp = s.grp :=
  (State.setRet_keep (Keep.refl 32 s) rfl _ _).grp rfl

@[simp] theorem State.setRet_dmn (s : State) (a1 a2) : (State.setRet s a1 a2).dmn = s.dmn :=
  (State.setRet_keep (Keep.refl 32 s) rfl _ _).dmn rfl

@[simp] theorem State.setRet_i (s : State) (a1 a2) (o m) : (State.setRet s a1 a2).i o m = s.i o m :=
  State.i_congr (by simp) (by simp) o m

@[simp] theorem State.setRet_u (s : State) (a1 a2) (o m) : (State.setRet s a1 a2).u o m = s.u o m :=
  congrArg Int.toNat (State.setRet_i ..)

@[simp] theorem State.setRet_o (s : State) (a1 a2) (o m) : (State.setRet s a1 a2).o o m = s.o o m :=
  State.o_congr (by simp) (by simp) o m

@[simp] theorem State.setBlock_live (s : State) (a1 a2) : (State.setBlock s a1 a2).live = s.live :=
  (State.setBlock_keep (Keep.refl 32 s) rfl _ _).live rfl

@[simp] theorem State.setBlock_user (s : State) (a1 a2) : (State.setBlock s a1 a2).user = s.user :=
  (State.setBlock_keep (Keep.refl 32 s) rfl _ _).user rfl

@[simp] theorem State.setBlock_clk (s : State) (a1 a2) : (State.setBlock s a1 a2).clk = s.clk :=
  (State.setBlock_keep (Keep.refl 32 s) rfl _ _).clk rfl

@[simp] theorem State.setBlock_diag (s : State) (a1 a2) : (State.setBlock s a1 a2).diag = s.diag :=
  (State.setBlock_keep (Keep.refl 32 s) rfl _ _).diag rfl

@[simp] theorem State.setBlock_pow (s : State) (a1 a2) : (State.setBlock s a1 a2).pow = s.pow :=
  (State.setBlock_keep (Keep.refl 32 s) rfl _ _).pow rfl

@[simp] theorem State.setBlock_aop (s : State) (a1 a2) : (State.setBlock s a1 a2).aop = s.aop :=
  (State.setBlock_keep (Keep.refl 32 s) rfl _ _).aop rfl

@[simp] theorem State.setBlock_frame (s : State) (a1 a2) : (State.setBlock s a1 a2).frame = s.frame :=
  (State.setBlock_keep (Keep.refl 32 s) rfl _ _).frame rfl

@[simp] theorem State.setBlock_conv (s : State) (a1 a2) : (State.setBlock s a1 a2).conv = s.conv :=
  (State.setBlock_keep (Keep.refl 32 s) rfl _ _).conv rfl

@[simp] theorem State.setBlock_cal (s : State) (a1 a2) : (State.setBlock s a1 a2).cal = s.cal :=
  (State.setBlock_keep (Keep.refl 32 s) rfl _ _).cal rfl

@[simp] theorem State.setBlock_eq (s : State) (a1 a2) : (State.setBlock s a1 a2).eq = s.eq :=
  (State.setBlock_keep (Keep.refl 32 s) rfl _ _).eq rfl

@[simp] theorem State.setBlock_load (s : State) (a1 a2) : (State.setBlock s a1 a2).load = s.load :=
  (State.setBlock_keep (Keep.refl 32 s) rfl _ _).load rfl

@[simp] theorem State.setBlock_pool (s : State) (a1 a2) : (State.setBlock s a1 a2).pool = s.pool :=
  (State.setBlock_keep (Keep.refl 32 s) rfl _ _).pool rfl

@[simp] theorem State.setBlock_lanes (s : State) (a1 a2) : (State.setBlock s a1 a2).lanes = s.lanes :=
  (State.setBlock_keep (Keep.refl 32 s) rfl _ _).lanes rfl

@[simp] theorem State.setBlock_ciph (s : State) (a1 a2) : (State.setBlock s a1 a2).ciph = s.ciph :=
  (State.setBlock_keep (Keep.refl 32 s) rfl _ _).ciph rfl

@[simp] theorem State.setBlock_grot (s : State) (a1 a2) : (State.setBlock s a1 a2).grot = s.grot :=
  (State.setBlock_keep (Keep.refl 32 s) rfl _ _).grot rfl

@[simp] theorem State.setBlock_bel (s : State) (a1 a2) : (State.setBlock s a1 a2).bel = s.bel :=
  (State.setBlock_keep (Keep.refl 32 s) rfl _ _).bel rfl

@[simp] theorem State.setBlock_foot (s : State) (a1 a2) : (State.setBlock s a1 a2).foot = s.foot :=
  (State.setBlock_keep (Keep.refl 32 s) rfl _ _).foot rfl

@[simp] theorem State.setBlock_av (s : State) (a1 a2) : (State.setBlock s a1 a2).av = s.av :=
  (State.setBlock_keep (Keep.refl 32 s) rfl _ _).av rfl

@[simp] theorem State.setBlock_svc (s : State) (a1 a2) : (State.setBlock s a1 a2).svc = s.svc :=
  (State.setBlock_keep (Keep.refl 32 s) rfl _ _).svc rfl

@[simp] theorem State.setBlock_img (s : State) (a1 a2) : (State.setBlock s a1 a2).img = s.img :=
  (State.setBlock_keep (Keep.refl 32 s) rfl _ _).img rfl

@[simp] theorem State.setBlock_grp (s : State) (a1 a2) : (State.setBlock s a1 a2).grp = s.grp :=
  (State.setBlock_keep (Keep.refl 32 s) rfl _ _).grp rfl

@[simp] theorem State.setBlock_dmn (s : State) (a1 a2) : (State.setBlock s a1 a2).dmn = s.dmn :=
  (State.setBlock_keep (Keep.refl 32 s) rfl _ _).dmn rfl

@[simp] theorem State.setBlock_i (s : State) (a1 a2) (o m) : (State.setBlock s a1 a2).i o m = s.i o m :=
  State.i_congr (by simp) (by simp) o m

@[simp] theorem State.setBlock_u (s : State) (a1 a2) (o m) : (State.setBlock s a1 a2).u o m = s.u o m :=
  congrArg Int.toNat (State.setBlock_i ..)

@[simp] theorem State.setBlock_o (s : State) (a1 a2) (o m) : (State.setBlock s a1 a2).o o m = s.o o m :=
  State.o_congr (by simp) (by simp) o m

@[simp] theorem State.setImg_live (s : State) (a1) : (State.setImg s a1).live = s.live :=
  (State.setImg_keep (Keep.refl 1048576 s) rfl _).live rfl

@[simp] theorem State.setImg_user (s : State) (a1) : (State.setImg s a1).user = s.user :=
  (State.setImg_keep (Keep.refl 1048576 s) rfl _).user rfl

@[simp] theorem State.setImg_clk (s : State) (a1) : (State.setImg s a1).clk = s.clk :=
  (State.setImg_keep (Keep.refl 1048576 s) rfl _).clk rfl

@[simp] theorem State.setImg_diag (s : State) (a1) : (State.setImg s a1).diag = s.diag :=
  (State.setImg_keep (Keep.refl 1048576 s) rfl _).diag rfl

@[simp] theorem State.setImg_pow (s : State) (a1) : (State.setImg s a1).pow = s.pow :=
  (State.setImg_keep (Keep.refl 1048576 s) rfl _).pow rfl

@[simp] theorem State.setImg_mem (s : State) (a1) : (State.setImg s a1).mem = s.mem :=
  (State.setImg_keep (Keep.refl 1048576 s) rfl _).mem rfl

@[simp] theorem State.setImg_aop (s : State) (a1) : (State.setImg s a1).aop = s.aop :=
  (State.setImg_keep (Keep.refl 1048576 s) rfl _).aop rfl

@[simp] theorem State.setImg_frame (s : State) (a1) : (State.setImg s a1).frame = s.frame :=
  (State.setImg_keep (Keep.refl 1048576 s) rfl _).frame rfl

@[simp] theorem State.setImg_conv (s : State) (a1) : (State.setImg s a1).conv = s.conv :=
  (State.setImg_keep (Keep.refl 1048576 s) rfl _).conv rfl

@[simp] theorem State.setImg_cal (s : State) (a1) : (State.setImg s a1).cal = s.cal :=
  (State.setImg_keep (Keep.refl 1048576 s) rfl _).cal rfl

@[simp] theorem State.setImg_eq (s : State) (a1) : (State.setImg s a1).eq = s.eq :=
  (State.setImg_keep (Keep.refl 1048576 s) rfl _).eq rfl

@[simp] theorem State.setImg_load (s : State) (a1) : (State.setImg s a1).load = s.load :=
  (State.setImg_keep (Keep.refl 1048576 s) rfl _).load rfl

@[simp] theorem State.setImg_pool (s : State) (a1) : (State.setImg s a1).pool = s.pool :=
  (State.setImg_keep (Keep.refl 1048576 s) rfl _).pool rfl

@[simp] theorem State.setImg_lanes (s : State) (a1) : (State.setImg s a1).lanes = s.lanes :=
  (State.setImg_keep (Keep.refl 1048576 s) rfl _).lanes rfl

@[simp] theorem State.setImg_ciph (s : State) (a1) : (State.setImg s a1).ciph = s.ciph :=
  (State.setImg_keep (Keep.refl 1048576 s) rfl _).ciph rfl

@[simp] theorem State.setImg_grot (s : State) (a1) : (State.setImg s a1).grot = s.grot :=
  (State.setImg_keep (Keep.refl 1048576 s) rfl _).grot rfl

@[simp] theorem State.setImg_bel (s : State) (a1) : (State.setImg s a1).bel = s.bel :=
  (State.setImg_keep (Keep.refl 1048576 s) rfl _).bel rfl

@[simp] theorem State.setImg_foot (s : State) (a1) : (State.setImg s a1).foot = s.foot :=
  (State.setImg_keep (Keep.refl 1048576 s) rfl _).foot rfl

@[simp] theorem State.setImg_av (s : State) (a1) : (State.setImg s a1).av = s.av :=
  (State.setImg_keep (Keep.refl 1048576 s) rfl _).av rfl

@[simp] theorem State.setImg_svc (s : State) (a1) : (State.setImg s a1).svc = s.svc :=
  (State.setImg_keep (Keep.refl 1048576 s) rfl _).svc rfl

@[simp] theorem State.setImg_grp (s : State) (a1) : (State.setImg s a1).grp = s.grp :=
  (State.setImg_keep (Keep.refl 1048576 s) rfl _).grp rfl

@[simp] theorem State.setImg_dmn (s : State) (a1) : (State.setImg s a1).dmn = s.dmn :=
  (State.setImg_keep (Keep.refl 1048576 s) rfl _).dmn rfl

@[simp] theorem State.setImg_i (s : State) (a1) (o m) : (State.setImg s a1).i o m = s.i o m :=
  State.i_congr (by simp) (by simp) o m

@[simp] theorem State.setImg_u (s : State) (a1) (o m) : (State.setImg s a1).u o m = s.u o m :=
  congrArg Int.toNat (State.setImg_i ..)

@[simp] theorem State.setImg_o (s : State) (a1) (o m) : (State.setImg s a1).o o m = s.o o m :=
  State.o_congr (by simp) (by simp) o m

@[simp] theorem State.setImgSlot_live (s : State) (a1 a2) : (State.setImgSlot s a1 a2).live = s.live :=
  (State.setImgSlot_keep (Keep.refl 1048576 s) rfl _ _).live rfl

@[simp] theorem State.setImgSlot_user (s : State) (a1 a2) : (State.setImgSlot s a1 a2).user = s.user :=
  (State.setImgSlot_keep (Keep.refl 1048576 s) rfl _ _).user rfl

@[simp] theorem State.setImgSlot_clk (s : State) (a1 a2) : (State.setImgSlot s a1 a2).clk = s.clk :=
  (State.setImgSlot_keep (Keep.refl 1048576 s) rfl _ _).clk rfl

@[simp] theorem State.setImgSlot_diag (s : State) (a1 a2) : (State.setImgSlot s a1 a2).diag = s.diag :=
  (State.setImgSlot_keep (Keep.refl 1048576 s) rfl _ _).diag rfl

@[simp] theorem State.setImgSlot_pow (s : State) (a1 a2) : (State.setImgSlot s a1 a2).pow = s.pow :=
  (State.setImgSlot_keep (Keep.refl 1048576 s) rfl _ _).pow rfl

@[simp] theorem State.setImgSlot_mem (s : State) (a1 a2) : (State.setImgSlot s a1 a2).mem = s.mem :=
  (State.setImgSlot_keep (Keep.refl 1048576 s) rfl _ _).mem rfl

@[simp] theorem State.setImgSlot_aop (s : State) (a1 a2) : (State.setImgSlot s a1 a2).aop = s.aop :=
  (State.setImgSlot_keep (Keep.refl 1048576 s) rfl _ _).aop rfl

@[simp] theorem State.setImgSlot_frame (s : State) (a1 a2) : (State.setImgSlot s a1 a2).frame = s.frame :=
  (State.setImgSlot_keep (Keep.refl 1048576 s) rfl _ _).frame rfl

@[simp] theorem State.setImgSlot_conv (s : State) (a1 a2) : (State.setImgSlot s a1 a2).conv = s.conv :=
  (State.setImgSlot_keep (Keep.refl 1048576 s) rfl _ _).conv rfl

@[simp] theorem State.setImgSlot_cal (s : State) (a1 a2) : (State.setImgSlot s a1 a2).cal = s.cal :=
  (State.setImgSlot_keep (Keep.refl 1048576 s) rfl _ _).cal rfl

@[simp] theorem State.setImgSlot_eq (s : State) (a1 a2) : (State.setImgSlot s a1 a2).eq = s.eq :=
  (State.setImgSlot_keep (Keep.refl 1048576 s) rfl _ _).eq rfl

@[simp] theorem State.setImgSlot_load (s : State) (a1 a2) : (State.setImgSlot s a1 a2).load = s.load :=
  (State.setImgSlot_keep (Keep.refl 1048576 s) rfl _ _).load rfl

@[simp] theorem State.setImgSlot_pool (s : State) (a1 a2) : (State.setImgSlot s a1 a2).pool = s.pool :=
  (State.setImgSlot_keep (Keep.refl 1048576 s) rfl _ _).pool rfl

@[simp] theorem State.setImgSlot_lanes (s : State) (a1 a2) : (State.setImgSlot s a1 a2).lanes = s.lanes :=
  (State.setImgSlot_keep (Keep.refl 1048576 s) rfl _ _).lanes rfl

@[simp] theorem State.setImgSlot_ciph (s : State) (a1 a2) : (State.setImgSlot s a1 a2).ciph = s.ciph :=
  (State.setImgSlot_keep (Keep.refl 1048576 s) rfl _ _).ciph rfl

@[simp] theorem State.setImgSlot_grot (s : State) (a1 a2) : (State.setImgSlot s a1 a2).grot = s.grot :=
  (State.setImgSlot_keep (Keep.refl 1048576 s) rfl _ _).grot rfl

@[simp] theorem State.setImgSlot_bel (s : State) (a1 a2) : (State.setImgSlot s a1 a2).bel = s.bel :=
  (State.setImgSlot_keep (Keep.refl 1048576 s) rfl _ _).bel rfl

@[simp] theorem State.setImgSlot_foot (s : State) (a1 a2) : (State.setImgSlot s a1 a2).foot = s.foot :=
  (State.setImgSlot_keep (Keep.refl 1048576 s) rfl _ _).foot rfl

@[simp] theorem State.setImgSlot_av (s : State) (a1 a2) : (State.setImgSlot s a1 a2).av = s.av :=
  (State.setImgSlot_keep (Keep.refl 1048576 s) rfl _ _).av rfl

@[simp] theorem State.setImgSlot_svc (s : State) (a1 a2) : (State.setImgSlot s a1 a2).svc = s.svc :=
  (State.setImgSlot_keep (Keep.refl 1048576 s) rfl _ _).svc rfl

@[simp] theorem State.setImgSlot_grp (s : State) (a1 a2) : (State.setImgSlot s a1 a2).grp = s.grp :=
  (State.setImgSlot_keep (Keep.refl 1048576 s) rfl _ _).grp rfl

@[simp] theorem State.setImgSlot_dmn (s : State) (a1 a2) : (State.setImgSlot s a1 a2).dmn = s.dmn :=
  (State.setImgSlot_keep (Keep.refl 1048576 s) rfl _ _).dmn rfl

@[simp] theorem State.setImgSlot_i (s : State) (a1 a2) (o m) : (State.setImgSlot s a1 a2).i o m = s.i o m :=
  State.i_congr (by simp) (by simp) o m

@[simp] theorem State.setImgSlot_u (s : State) (a1 a2) (o m) : (State.setImgSlot s a1 a2).u o m = s.u o m :=
  congrArg Int.toNat (State.setImgSlot_i ..)

@[simp] theorem State.setImgSlot_o (s : State) (a1 a2) (o m) : (State.setImgSlot s a1 a2).o o m = s.o o m :=
  State.o_congr (by simp) (by simp) o m

@[simp] theorem State.putLane_user (s : State) (a1 a2 a3) : (State.putLane s a1 a2 a3).user = s.user :=
  (State.putLane_keep (Keep.refl 1 s) rfl _ _ _).user rfl

@[simp] theorem State.putLane_clk (s : State) (a1 a2 a3) : (State.putLane s a1 a2 a3).clk = s.clk :=
  (State.putLane_keep (Keep.refl 1 s) rfl _ _ _).clk rfl

@[simp] theorem State.putLane_diag (s : State) (a1 a2 a3) : (State.putLane s a1 a2 a3).diag = s.diag :=
  (State.putLane_keep (Keep.refl 1 s) rfl _ _ _).diag rfl

@[simp] theorem State.putLane_pow (s : State) (a1 a2 a3) : (State.putLane s a1 a2 a3).pow = s.pow :=
  (State.putLane_keep (Keep.refl 1 s) rfl _ _ _).pow rfl

@[simp] theorem State.putLane_mem (s : State) (a1 a2 a3) : (State.putLane s a1 a2 a3).mem = s.mem :=
  (State.putLane_keep (Keep.refl 1 s) rfl _ _ _).mem rfl

@[simp] theorem State.putLane_aop (s : State) (a1 a2 a3) : (State.putLane s a1 a2 a3).aop = s.aop :=
  (State.putLane_keep (Keep.refl 1 s) rfl _ _ _).aop rfl

@[simp] theorem State.putLane_frame (s : State) (a1 a2 a3) : (State.putLane s a1 a2 a3).frame = s.frame :=
  (State.putLane_keep (Keep.refl 1 s) rfl _ _ _).frame rfl

@[simp] theorem State.putLane_conv (s : State) (a1 a2 a3) : (State.putLane s a1 a2 a3).conv = s.conv :=
  (State.putLane_keep (Keep.refl 1 s) rfl _ _ _).conv rfl

@[simp] theorem State.putLane_cal (s : State) (a1 a2 a3) : (State.putLane s a1 a2 a3).cal = s.cal :=
  (State.putLane_keep (Keep.refl 1 s) rfl _ _ _).cal rfl

@[simp] theorem State.putLane_eq (s : State) (a1 a2 a3) : (State.putLane s a1 a2 a3).eq = s.eq :=
  (State.putLane_keep (Keep.refl 1 s) rfl _ _ _).eq rfl

@[simp] theorem State.putLane_load (s : State) (a1 a2 a3) : (State.putLane s a1 a2 a3).load = s.load :=
  (State.putLane_keep (Keep.refl 1 s) rfl _ _ _).load rfl

@[simp] theorem State.putLane_pool (s : State) (a1 a2 a3) : (State.putLane s a1 a2 a3).pool = s.pool :=
  (State.putLane_keep (Keep.refl 1 s) rfl _ _ _).pool rfl

@[simp] theorem State.putLane_lanes (s : State) (a1 a2 a3) : (State.putLane s a1 a2 a3).lanes = s.lanes :=
  (State.putLane_keep (Keep.refl 1 s) rfl _ _ _).lanes rfl

@[simp] theorem State.putLane_ciph (s : State) (a1 a2 a3) : (State.putLane s a1 a2 a3).ciph = s.ciph :=
  (State.putLane_keep (Keep.refl 1 s) rfl _ _ _).ciph rfl

@[simp] theorem State.putLane_grot (s : State) (a1 a2 a3) : (State.putLane s a1 a2 a3).grot = s.grot :=
  (State.putLane_keep (Keep.refl 1 s) rfl _ _ _).grot rfl

@[simp] theorem State.putLane_bel (s : State) (a1 a2 a3) : (State.putLane s a1 a2 a3).bel = s.bel :=
  (State.putLane_keep (Keep.refl 1 s) rfl _ _ _).bel rfl

@[simp] theorem State.putLane_foot (s : State) (a1 a2 a3) : (State.putLane s a1 a2 a3).foot = s.foot :=
  (State.putLane_keep (Keep.refl 1 s) rfl _ _ _).foot rfl

@[simp] theorem State.putLane_av (s : State) (a1 a2 a3) : (State.putLane s a1 a2 a3).av = s.av :=
  (State.putLane_keep (Keep.refl 1 s) rfl _ _ _).av rfl

@[simp] theorem State.putLane_svc (s : State) (a1 a2 a3) : (State.putLane s a1 a2 a3).svc = s.svc :=
  (State.putLane_keep (Keep.refl 1 s) rfl _ _ _).svc rfl

@[simp] theorem State.putLane_img (s : State) (a1 a2 a3) : (State.putLane s a1 a2 a3).img = s.img :=
  (State.putLane_keep (Keep.refl 1 s) rfl _ _ _).img rfl

@[simp] theorem State.putLane_grp (s : State) (a1 a2 a3) : (State.putLane s a1 a2 a3).grp = s.grp :=
  (State.putLane_keep (Keep.refl 1 s) rfl _ _ _).grp rfl

@[simp] theorem State.putLane_dmn (s : State) (a1 a2 a3) : (State.putLane s a1 a2 a3).dmn = s.dmn :=
  (State.putLane_keep (Keep.refl 1 s) rfl _ _ _).dmn rfl

@[simp] theorem State.setLane_live (s : State) (a1 a2) : (State.setLane s a1 a2).live = s.live :=
  (State.setLane_keep (Keep.refl 8192 s) rfl _ _).live rfl

@[simp] theorem State.setLane_user (s : State) (a1 a2) : (State.setLane s a1 a2).user = s.user :=
  (State.setLane_keep (Keep.refl 8192 s) rfl _ _).user rfl

@[simp] theorem State.setLane_clk (s : State) (a1 a2) : (State.setLane s a1 a2).clk = s.clk :=
  (State.setLane_keep (Keep.refl 8192 s) rfl _ _).clk rfl

@[simp] theorem State.setLane_diag (s : State) (a1 a2) : (State.setLane s a1 a2).diag = s.diag :=
  (State.setLane_keep (Keep.refl 8192 s) rfl _ _).diag rfl

@[simp] theorem State.setLane_pow (s : State) (a1 a2) : (State.setLane s a1 a2).pow = s.pow :=
  (State.setLane_keep (Keep.refl 8192 s) rfl _ _).pow rfl

@[simp] theorem State.setLane_mem (s : State) (a1 a2) : (State.setLane s a1 a2).mem = s.mem :=
  (State.setLane_keep (Keep.refl 8192 s) rfl _ _).mem rfl

@[simp] theorem State.setLane_aop (s : State) (a1 a2) : (State.setLane s a1 a2).aop = s.aop :=
  (State.setLane_keep (Keep.refl 8192 s) rfl _ _).aop rfl

@[simp] theorem State.setLane_frame (s : State) (a1 a2) : (State.setLane s a1 a2).frame = s.frame :=
  (State.setLane_keep (Keep.refl 8192 s) rfl _ _).frame rfl

@[simp] theorem State.setLane_conv (s : State) (a1 a2) : (State.setLane s a1 a2).conv = s.conv :=
  (State.setLane_keep (Keep.refl 8192 s) rfl _ _).conv rfl

@[simp] theorem State.setLane_cal (s : State) (a1 a2) : (State.setLane s a1 a2).cal = s.cal :=
  (State.setLane_keep (Keep.refl 8192 s) rfl _ _).cal rfl

@[simp] theorem State.setLane_eq (s : State) (a1 a2) : (State.setLane s a1 a2).eq = s.eq :=
  (State.setLane_keep (Keep.refl 8192 s) rfl _ _).eq rfl

@[simp] theorem State.setLane_load (s : State) (a1 a2) : (State.setLane s a1 a2).load = s.load :=
  (State.setLane_keep (Keep.refl 8192 s) rfl _ _).load rfl

@[simp] theorem State.setLane_pool (s : State) (a1 a2) : (State.setLane s a1 a2).pool = s.pool :=
  (State.setLane_keep (Keep.refl 8192 s) rfl _ _).pool rfl

@[simp] theorem State.setLane_ciph (s : State) (a1 a2) : (State.setLane s a1 a2).ciph = s.ciph :=
  (State.setLane_keep (Keep.refl 8192 s) rfl _ _).ciph rfl

@[simp] theorem State.setLane_grot (s : State) (a1 a2) : (State.setLane s a1 a2).grot = s.grot :=
  (State.setLane_keep (Keep.refl 8192 s) rfl _ _).grot rfl

@[simp] theorem State.setLane_bel (s : State) (a1 a2) : (State.setLane s a1 a2).bel = s.bel :=
  (State.setLane_keep (Keep.refl 8192 s) rfl _ _).bel rfl

@[simp] theorem State.setLane_foot (s : State) (a1 a2) : (State.setLane s a1 a2).foot = s.foot :=
  (State.setLane_keep (Keep.refl 8192 s) rfl _ _).foot rfl

@[simp] theorem State.setLane_av (s : State) (a1 a2) : (State.setLane s a1 a2).av = s.av :=
  (State.setLane_keep (Keep.refl 8192 s) rfl _ _).av rfl

@[simp] theorem State.setLane_svc (s : State) (a1 a2) : (State.setLane s a1 a2).svc = s.svc :=
  (State.setLane_keep (Keep.refl 8192 s) rfl _ _).svc rfl

@[simp] theorem State.setLane_img (s : State) (a1 a2) : (State.setLane s a1 a2).img = s.img :=
  (State.setLane_keep (Keep.refl 8192 s) rfl _ _).img rfl

@[simp] theorem State.setLane_grp (s : State) (a1 a2) : (State.setLane s a1 a2).grp = s.grp :=
  (State.setLane_keep (Keep.refl 8192 s) rfl _ _).grp rfl

@[simp] theorem State.setLane_dmn (s : State) (a1 a2) : (State.setLane s a1 a2).dmn = s.dmn :=
  (State.setLane_keep (Keep.refl 8192 s) rfl _ _).dmn rfl

@[simp] theorem State.setLane_i (s : State) (a1 a2) (o m) : (State.setLane s a1 a2).i o m = s.i o m :=
  State.i_congr (by simp) (by simp) o m

@[simp] theorem State.setLane_u (s : State) (a1 a2) (o m) : (State.setLane s a1 a2).u o m = s.u o m :=
  congrArg Int.toNat (State.setLane_i ..)

@[simp] theorem State.setLane_o (s : State) (a1 a2) (o m) : (State.setLane s a1 a2).o o m = s.o o m :=
  State.o_congr (by simp) (by simp) o m

@[simp] theorem State.setDom_live (s : State) (a1 a2) : (State.setDom s a1 a2).live = s.live :=
  (State.setDom_keep (Keep.refl 16 s) rfl _ _).live rfl

@[simp] theorem State.setDom_user (s : State) (a1 a2) : (State.setDom s a1 a2).user = s.user :=
  (State.setDom_keep (Keep.refl 16 s) rfl _ _).user rfl

@[simp] theorem State.setDom_clk (s : State) (a1 a2) : (State.setDom s a1 a2).clk = s.clk :=
  (State.setDom_keep (Keep.refl 16 s) rfl _ _).clk rfl

@[simp] theorem State.setDom_diag (s : State) (a1 a2) : (State.setDom s a1 a2).diag = s.diag :=
  (State.setDom_keep (Keep.refl 16 s) rfl _ _).diag rfl

@[simp] theorem State.setDom_mem (s : State) (a1 a2) : (State.setDom s a1 a2).mem = s.mem :=
  (State.setDom_keep (Keep.refl 16 s) rfl _ _).mem rfl

@[simp] theorem State.setDom_aop (s : State) (a1 a2) : (State.setDom s a1 a2).aop = s.aop :=
  (State.setDom_keep (Keep.refl 16 s) rfl _ _).aop rfl

@[simp] theorem State.setDom_frame (s : State) (a1 a2) : (State.setDom s a1 a2).frame = s.frame :=
  (State.setDom_keep (Keep.refl 16 s) rfl _ _).frame rfl

@[simp] theorem State.setDom_conv (s : State) (a1 a2) : (State.setDom s a1 a2).conv = s.conv :=
  (State.setDom_keep (Keep.refl 16 s) rfl _ _).conv rfl

@[simp] theorem State.setDom_cal (s : State) (a1 a2) : (State.setDom s a1 a2).cal = s.cal :=
  (State.setDom_keep (Keep.refl 16 s) rfl _ _).cal rfl

@[simp] theorem State.setDom_eq (s : State) (a1 a2) : (State.setDom s a1 a2).eq = s.eq :=
  (State.setDom_keep (Keep.refl 16 s) rfl _ _).eq rfl

@[simp] theorem State.setDom_load (s : State) (a1 a2) : (State.setDom s a1 a2).load = s.load :=
  (State.setDom_keep (Keep.refl 16 s) rfl _ _).load rfl

@[simp] theorem State.setDom_pool (s : State) (a1 a2) : (State.setDom s a1 a2).pool = s.pool :=
  (State.setDom_keep (Keep.refl 16 s) rfl _ _).pool rfl

@[simp] theorem State.setDom_lanes (s : State) (a1 a2) : (State.setDom s a1 a2).lanes = s.lanes :=
  (State.setDom_keep (Keep.refl 16 s) rfl _ _).lanes rfl

@[simp] theorem State.setDom_ciph (s : State) (a1 a2) : (State.setDom s a1 a2).ciph = s.ciph :=
  (State.setDom_keep (Keep.refl 16 s) rfl _ _).ciph rfl

@[simp] theorem State.setDom_grot (s : State) (a1 a2) : (State.setDom s a1 a2).grot = s.grot :=
  (State.setDom_keep (Keep.refl 16 s) rfl _ _).grot rfl

@[simp] theorem State.setDom_bel (s : State) (a1 a2) : (State.setDom s a1 a2).bel = s.bel :=
  (State.setDom_keep (Keep.refl 16 s) rfl _ _).bel rfl

@[simp] theorem State.setDom_foot (s : State) (a1 a2) : (State.setDom s a1 a2).foot = s.foot :=
  (State.setDom_keep (Keep.refl 16 s) rfl _ _).foot rfl

@[simp] theorem State.setDom_av (s : State) (a1 a2) : (State.setDom s a1 a2).av = s.av :=
  (State.setDom_keep (Keep.refl 16 s) rfl _ _).av rfl

@[simp] theorem State.setDom_svc (s : State) (a1 a2) : (State.setDom s a1 a2).svc = s.svc :=
  (State.setDom_keep (Keep.refl 16 s) rfl _ _).svc rfl

@[simp] theorem State.setDom_img (s : State) (a1 a2) : (State.setDom s a1 a2).img = s.img :=
  (State.setDom_keep (Keep.refl 16 s) rfl _ _).img rfl

@[simp] theorem State.setDom_grp (s : State) (a1 a2) : (State.setDom s a1 a2).grp = s.grp :=
  (State.setDom_keep (Keep.refl 16 s) rfl _ _).grp rfl

@[simp] theorem State.setDom_dmn (s : State) (a1 a2) : (State.setDom s a1 a2).dmn = s.dmn :=
  (State.setDom_keep (Keep.refl 16 s) rfl _ _).dmn rfl

@[simp] theorem State.setDom_i (s : State) (a1 a2) (o m) : (State.setDom s a1 a2).i o m = s.i o m :=
  State.i_congr (by simp) (by simp) o m

@[simp] theorem State.setDom_u (s : State) (a1 a2) (o m) : (State.setDom s a1 a2).u o m = s.u o m :=
  congrArg Int.toNat (State.setDom_i ..)

@[simp] theorem State.setDom_o (s : State) (a1 a2) (o m) : (State.setDom s a1 a2).o o m = s.o o m :=
  State.o_congr (by simp) (by simp) o m

@[simp] theorem State.setLd_live (s : State) (a1 a2) : (State.setLd s a1 a2).live = s.live :=
  (State.setLd_keep (Keep.refl 2048 s) rfl _ _).live rfl

@[simp] theorem State.setLd_user (s : State) (a1 a2) : (State.setLd s a1 a2).user = s.user :=
  (State.setLd_keep (Keep.refl 2048 s) rfl _ _).user rfl

@[simp] theorem State.setLd_clk (s : State) (a1 a2) : (State.setLd s a1 a2).clk = s.clk :=
  (State.setLd_keep (Keep.refl 2048 s) rfl _ _).clk rfl

@[simp] theorem State.setLd_diag (s : State) (a1 a2) : (State.setLd s a1 a2).diag = s.diag :=
  (State.setLd_keep (Keep.refl 2048 s) rfl _ _).diag rfl

@[simp] theorem State.setLd_pow (s : State) (a1 a2) : (State.setLd s a1 a2).pow = s.pow :=
  (State.setLd_keep (Keep.refl 2048 s) rfl _ _).pow rfl

@[simp] theorem State.setLd_mem (s : State) (a1 a2) : (State.setLd s a1 a2).mem = s.mem :=
  (State.setLd_keep (Keep.refl 2048 s) rfl _ _).mem rfl

@[simp] theorem State.setLd_aop (s : State) (a1 a2) : (State.setLd s a1 a2).aop = s.aop :=
  (State.setLd_keep (Keep.refl 2048 s) rfl _ _).aop rfl

@[simp] theorem State.setLd_frame (s : State) (a1 a2) : (State.setLd s a1 a2).frame = s.frame :=
  (State.setLd_keep (Keep.refl 2048 s) rfl _ _).frame rfl

@[simp] theorem State.setLd_conv (s : State) (a1 a2) : (State.setLd s a1 a2).conv = s.conv :=
  (State.setLd_keep (Keep.refl 2048 s) rfl _ _).conv rfl

@[simp] theorem State.setLd_cal (s : State) (a1 a2) : (State.setLd s a1 a2).cal = s.cal :=
  (State.setLd_keep (Keep.refl 2048 s) rfl _ _).cal rfl

@[simp] theorem State.setLd_eq (s : State) (a1 a2) : (State.setLd s a1 a2).eq = s.eq :=
  (State.setLd_keep (Keep.refl 2048 s) rfl _ _).eq rfl

@[simp] theorem State.setLd_pool (s : State) (a1 a2) : (State.setLd s a1 a2).pool = s.pool :=
  (State.setLd_keep (Keep.refl 2048 s) rfl _ _).pool rfl

@[simp] theorem State.setLd_lanes (s : State) (a1 a2) : (State.setLd s a1 a2).lanes = s.lanes :=
  (State.setLd_keep (Keep.refl 2048 s) rfl _ _).lanes rfl

@[simp] theorem State.setLd_ciph (s : State) (a1 a2) : (State.setLd s a1 a2).ciph = s.ciph :=
  (State.setLd_keep (Keep.refl 2048 s) rfl _ _).ciph rfl

@[simp] theorem State.setLd_grot (s : State) (a1 a2) : (State.setLd s a1 a2).grot = s.grot :=
  (State.setLd_keep (Keep.refl 2048 s) rfl _ _).grot rfl

@[simp] theorem State.setLd_bel (s : State) (a1 a2) : (State.setLd s a1 a2).bel = s.bel :=
  (State.setLd_keep (Keep.refl 2048 s) rfl _ _).bel rfl

@[simp] theorem State.setLd_foot (s : State) (a1 a2) : (State.setLd s a1 a2).foot = s.foot :=
  (State.setLd_keep (Keep.refl 2048 s) rfl _ _).foot rfl

@[simp] theorem State.setLd_av (s : State) (a1 a2) : (State.setLd s a1 a2).av = s.av :=
  (State.setLd_keep (Keep.refl 2048 s) rfl _ _).av rfl

@[simp] theorem State.setLd_svc (s : State) (a1 a2) : (State.setLd s a1 a2).svc = s.svc :=
  (State.setLd_keep (Keep.refl 2048 s) rfl _ _).svc rfl

@[simp] theorem State.setLd_img (s : State) (a1 a2) : (State.setLd s a1 a2).img = s.img :=
  (State.setLd_keep (Keep.refl 2048 s) rfl _ _).img rfl

@[simp] theorem State.setLd_grp (s : State) (a1 a2) : (State.setLd s a1 a2).grp = s.grp :=
  (State.setLd_keep (Keep.refl 2048 s) rfl _ _).grp rfl

@[simp] theorem State.setLd_dmn (s : State) (a1 a2) : (State.setLd s a1 a2).dmn = s.dmn :=
  (State.setLd_keep (Keep.refl 2048 s) rfl _ _).dmn rfl

@[simp] theorem State.setLd_i (s : State) (a1 a2) (o m) : (State.setLd s a1 a2).i o m = s.i o m :=
  State.i_congr (by simp) (by simp) o m

@[simp] theorem State.setLd_u (s : State) (a1 a2) (o m) : (State.setLd s a1 a2).u o m = s.u o m :=
  congrArg Int.toNat (State.setLd_i ..)

@[simp] theorem State.setLd_o (s : State) (a1 a2) (o m) : (State.setLd s a1 a2).o o m = s.o o m :=
  State.o_congr (by simp) (by simp) o m

@[simp] theorem State.setLoading_user (s : State) (a1 a2 a3) : (State.setLoading s a1 a2 a3).user = s.user :=
  (State.setLoading_keep (Keep.refl 2049 s) rfl _ _ _).user rfl

@[simp] theorem State.setLoading_clk (s : State) (a1 a2 a3) : (State.setLoading s a1 a2 a3).clk = s.clk :=
  (State.setLoading_keep (Keep.refl 2049 s) rfl _ _ _).clk rfl

@[simp] theorem State.setLoading_diag (s : State) (a1 a2 a3) : (State.setLoading s a1 a2 a3).diag = s.diag :=
  (State.setLoading_keep (Keep.refl 2049 s) rfl _ _ _).diag rfl

@[simp] theorem State.setLoading_pow (s : State) (a1 a2 a3) : (State.setLoading s a1 a2 a3).pow = s.pow :=
  (State.setLoading_keep (Keep.refl 2049 s) rfl _ _ _).pow rfl

@[simp] theorem State.setLoading_mem (s : State) (a1 a2 a3) : (State.setLoading s a1 a2 a3).mem = s.mem :=
  (State.setLoading_keep (Keep.refl 2049 s) rfl _ _ _).mem rfl

@[simp] theorem State.setLoading_aop (s : State) (a1 a2 a3) : (State.setLoading s a1 a2 a3).aop = s.aop :=
  (State.setLoading_keep (Keep.refl 2049 s) rfl _ _ _).aop rfl

@[simp] theorem State.setLoading_frame (s : State) (a1 a2 a3) : (State.setLoading s a1 a2 a3).frame = s.frame :=
  (State.setLoading_keep (Keep.refl 2049 s) rfl _ _ _).frame rfl

@[simp] theorem State.setLoading_conv (s : State) (a1 a2 a3) : (State.setLoading s a1 a2 a3).conv = s.conv :=
  (State.setLoading_keep (Keep.refl 2049 s) rfl _ _ _).conv rfl

@[simp] theorem State.setLoading_cal (s : State) (a1 a2 a3) : (State.setLoading s a1 a2 a3).cal = s.cal :=
  (State.setLoading_keep (Keep.refl 2049 s) rfl _ _ _).cal rfl

@[simp] theorem State.setLoading_eq (s : State) (a1 a2 a3) : (State.setLoading s a1 a2 a3).eq = s.eq :=
  (State.setLoading_keep (Keep.refl 2049 s) rfl _ _ _).eq rfl

@[simp] theorem State.setLoading_pool (s : State) (a1 a2 a3) : (State.setLoading s a1 a2 a3).pool = s.pool :=
  (State.setLoading_keep (Keep.refl 2049 s) rfl _ _ _).pool rfl

@[simp] theorem State.setLoading_lanes (s : State) (a1 a2 a3) : (State.setLoading s a1 a2 a3).lanes = s.lanes :=
  (State.setLoading_keep (Keep.refl 2049 s) rfl _ _ _).lanes rfl

@[simp] theorem State.setLoading_ciph (s : State) (a1 a2 a3) : (State.setLoading s a1 a2 a3).ciph = s.ciph :=
  (State.setLoading_keep (Keep.refl 2049 s) rfl _ _ _).ciph rfl

@[simp] theorem State.setLoading_grot (s : State) (a1 a2 a3) : (State.setLoading s a1 a2 a3).grot = s.grot :=
  (State.setLoading_keep (Keep.refl 2049 s) rfl _ _ _).grot rfl

@[simp] theorem State.setLoading_bel (s : State) (a1 a2 a3) : (State.setLoading s a1 a2 a3).bel = s.bel :=
  (State.setLoading_keep (Keep.refl 2049 s) rfl _ _ _).bel rfl

@[simp] theorem State.setLoading_foot (s : State) (a1 a2 a3) : (State.setLoading s a1 a2 a3).foot = s.foot :=
  (State.setLoading_keep (Keep.refl 2049 s) rfl _ _ _).foot rfl

@[simp] theorem State.setLoading_av (s : State) (a1 a2 a3) : (State.setLoading s a1 a2 a3).av = s.av :=
  (State.setLoading_keep (Keep.refl 2049 s) rfl _ _ _).av rfl

@[simp] theorem State.setLoading_svc (s : State) (a1 a2 a3) : (State.setLoading s a1 a2 a3).svc = s.svc :=
  (State.setLoading_keep (Keep.refl 2049 s) rfl _ _ _).svc rfl

@[simp] theorem State.setLoading_img (s : State) (a1 a2 a3) : (State.setLoading s a1 a2 a3).img = s.img :=
  (State.setLoading_keep (Keep.refl 2049 s) rfl _ _ _).img rfl

@[simp] theorem State.setLoading_grp (s : State) (a1 a2 a3) : (State.setLoading s a1 a2 a3).grp = s.grp :=
  (State.setLoading_keep (Keep.refl 2049 s) rfl _ _ _).grp rfl

@[simp] theorem State.setLoading_dmn (s : State) (a1 a2 a3) : (State.setLoading s a1 a2 a3).dmn = s.dmn :=
  (State.setLoading_keep (Keep.refl 2049 s) rfl _ _ _).dmn rfl

@[simp] theorem State.setPool_live (s : State) (a1) : (State.setPool s a1).live = s.live :=
  (State.setPool_keep (Keep.refl 4096 s) rfl _).live rfl

@[simp] theorem State.setPool_user (s : State) (a1) : (State.setPool s a1).user = s.user :=
  (State.setPool_keep (Keep.refl 4096 s) rfl _).user rfl

@[simp] theorem State.setPool_clk (s : State) (a1) : (State.setPool s a1).clk = s.clk :=
  (State.setPool_keep (Keep.refl 4096 s) rfl _).clk rfl

@[simp] theorem State.setPool_diag (s : State) (a1) : (State.setPool s a1).diag = s.diag :=
  (State.setPool_keep (Keep.refl 4096 s) rfl _).diag rfl

@[simp] theorem State.setPool_pow (s : State) (a1) : (State.setPool s a1).pow = s.pow :=
  (State.setPool_keep (Keep.refl 4096 s) rfl _).pow rfl

@[simp] theorem State.setPool_mem (s : State) (a1) : (State.setPool s a1).mem = s.mem :=
  (State.setPool_keep (Keep.refl 4096 s) rfl _).mem rfl

@[simp] theorem State.setPool_aop (s : State) (a1) : (State.setPool s a1).aop = s.aop :=
  (State.setPool_keep (Keep.refl 4096 s) rfl _).aop rfl

@[simp] theorem State.setPool_frame (s : State) (a1) : (State.setPool s a1).frame = s.frame :=
  (State.setPool_keep (Keep.refl 4096 s) rfl _).frame rfl

@[simp] theorem State.setPool_conv (s : State) (a1) : (State.setPool s a1).conv = s.conv :=
  (State.setPool_keep (Keep.refl 4096 s) rfl _).conv rfl

@[simp] theorem State.setPool_cal (s : State) (a1) : (State.setPool s a1).cal = s.cal :=
  (State.setPool_keep (Keep.refl 4096 s) rfl _).cal rfl

@[simp] theorem State.setPool_eq (s : State) (a1) : (State.setPool s a1).eq = s.eq :=
  (State.setPool_keep (Keep.refl 4096 s) rfl _).eq rfl

@[simp] theorem State.setPool_load (s : State) (a1) : (State.setPool s a1).load = s.load :=
  (State.setPool_keep (Keep.refl 4096 s) rfl _).load rfl

@[simp] theorem State.setPool_lanes (s : State) (a1) : (State.setPool s a1).lanes = s.lanes :=
  (State.setPool_keep (Keep.refl 4096 s) rfl _).lanes rfl

@[simp] theorem State.setPool_ciph (s : State) (a1) : (State.setPool s a1).ciph = s.ciph :=
  (State.setPool_keep (Keep.refl 4096 s) rfl _).ciph rfl

@[simp] theorem State.setPool_grot (s : State) (a1) : (State.setPool s a1).grot = s.grot :=
  (State.setPool_keep (Keep.refl 4096 s) rfl _).grot rfl

@[simp] theorem State.setPool_bel (s : State) (a1) : (State.setPool s a1).bel = s.bel :=
  (State.setPool_keep (Keep.refl 4096 s) rfl _).bel rfl

@[simp] theorem State.setPool_foot (s : State) (a1) : (State.setPool s a1).foot = s.foot :=
  (State.setPool_keep (Keep.refl 4096 s) rfl _).foot rfl

@[simp] theorem State.setPool_av (s : State) (a1) : (State.setPool s a1).av = s.av :=
  (State.setPool_keep (Keep.refl 4096 s) rfl _).av rfl

@[simp] theorem State.setPool_svc (s : State) (a1) : (State.setPool s a1).svc = s.svc :=
  (State.setPool_keep (Keep.refl 4096 s) rfl _).svc rfl

@[simp] theorem State.setPool_img (s : State) (a1) : (State.setPool s a1).img = s.img :=
  (State.setPool_keep (Keep.refl 4096 s) rfl _).img rfl

@[simp] theorem State.setPool_grp (s : State) (a1) : (State.setPool s a1).grp = s.grp :=
  (State.setPool_keep (Keep.refl 4096 s) rfl _).grp rfl

@[simp] theorem State.setPool_dmn (s : State) (a1) : (State.setPool s a1).dmn = s.dmn :=
  (State.setPool_keep (Keep.refl 4096 s) rfl _).dmn rfl

@[simp] theorem State.setPool_i (s : State) (a1) (o m) : (State.setPool s a1).i o m = s.i o m :=
  State.i_congr (by simp) (by simp) o m

@[simp] theorem State.setPool_u (s : State) (a1) (o m) : (State.setPool s a1).u o m = s.u o m :=
  congrArg Int.toNat (State.setPool_i ..)

@[simp] theorem State.setPool_o (s : State) (a1) (o m) : (State.setPool s a1).o o m = s.o o m :=
  State.o_congr (by simp) (by simp) o m

@[simp] theorem State.setBankSt_user (s : State) (a1 a2) : (State.setBankSt s a1 a2).user = s.user :=
  (State.setBankSt_keep (Keep.refl 1 s) rfl _ _).user rfl

@[simp] theorem State.setBankSt_clk (s : State) (a1 a2) : (State.setBankSt s a1 a2).clk = s.clk :=
  (State.setBankSt_keep (Keep.refl 1 s) rfl _ _).clk rfl

@[simp] theorem State.setBankSt_diag (s : State) (a1 a2) : (State.setBankSt s a1 a2).diag = s.diag :=
  (State.setBankSt_keep (Keep.refl 1 s) rfl _ _).diag rfl

@[simp] theorem State.setBankSt_pow (s : State) (a1 a2) : (State.setBankSt s a1 a2).pow = s.pow :=
  (State.setBankSt_keep (Keep.refl 1 s) rfl _ _).pow rfl

@[simp] theorem State.setBankSt_mem (s : State) (a1 a2) : (State.setBankSt s a1 a2).mem = s.mem :=
  (State.setBankSt_keep (Keep.refl 1 s) rfl _ _).mem rfl

@[simp] theorem State.setBankSt_aop (s : State) (a1 a2) : (State.setBankSt s a1 a2).aop = s.aop :=
  (State.setBankSt_keep (Keep.refl 1 s) rfl _ _).aop rfl

@[simp] theorem State.setBankSt_frame (s : State) (a1 a2) : (State.setBankSt s a1 a2).frame = s.frame :=
  (State.setBankSt_keep (Keep.refl 1 s) rfl _ _).frame rfl

@[simp] theorem State.setBankSt_conv (s : State) (a1 a2) : (State.setBankSt s a1 a2).conv = s.conv :=
  (State.setBankSt_keep (Keep.refl 1 s) rfl _ _).conv rfl

@[simp] theorem State.setBankSt_cal (s : State) (a1 a2) : (State.setBankSt s a1 a2).cal = s.cal :=
  (State.setBankSt_keep (Keep.refl 1 s) rfl _ _).cal rfl

@[simp] theorem State.setBankSt_eq (s : State) (a1 a2) : (State.setBankSt s a1 a2).eq = s.eq :=
  (State.setBankSt_keep (Keep.refl 1 s) rfl _ _).eq rfl

@[simp] theorem State.setBankSt_load (s : State) (a1 a2) : (State.setBankSt s a1 a2).load = s.load :=
  (State.setBankSt_keep (Keep.refl 1 s) rfl _ _).load rfl

@[simp] theorem State.setBankSt_pool (s : State) (a1 a2) : (State.setBankSt s a1 a2).pool = s.pool :=
  (State.setBankSt_keep (Keep.refl 1 s) rfl _ _).pool rfl

@[simp] theorem State.setBankSt_lanes (s : State) (a1 a2) : (State.setBankSt s a1 a2).lanes = s.lanes :=
  (State.setBankSt_keep (Keep.refl 1 s) rfl _ _).lanes rfl

@[simp] theorem State.setBankSt_ciph (s : State) (a1 a2) : (State.setBankSt s a1 a2).ciph = s.ciph :=
  (State.setBankSt_keep (Keep.refl 1 s) rfl _ _).ciph rfl

@[simp] theorem State.setBankSt_grot (s : State) (a1 a2) : (State.setBankSt s a1 a2).grot = s.grot :=
  (State.setBankSt_keep (Keep.refl 1 s) rfl _ _).grot rfl

@[simp] theorem State.setBankSt_bel (s : State) (a1 a2) : (State.setBankSt s a1 a2).bel = s.bel :=
  (State.setBankSt_keep (Keep.refl 1 s) rfl _ _).bel rfl

@[simp] theorem State.setBankSt_foot (s : State) (a1 a2) : (State.setBankSt s a1 a2).foot = s.foot :=
  (State.setBankSt_keep (Keep.refl 1 s) rfl _ _).foot rfl

@[simp] theorem State.setBankSt_av (s : State) (a1 a2) : (State.setBankSt s a1 a2).av = s.av :=
  (State.setBankSt_keep (Keep.refl 1 s) rfl _ _).av rfl

@[simp] theorem State.setBankSt_svc (s : State) (a1 a2) : (State.setBankSt s a1 a2).svc = s.svc :=
  (State.setBankSt_keep (Keep.refl 1 s) rfl _ _).svc rfl

@[simp] theorem State.setBankSt_img (s : State) (a1 a2) : (State.setBankSt s a1 a2).img = s.img :=
  (State.setBankSt_keep (Keep.refl 1 s) rfl _ _).img rfl

@[simp] theorem State.setBankSt_grp (s : State) (a1 a2) : (State.setBankSt s a1 a2).grp = s.grp :=
  (State.setBankSt_keep (Keep.refl 1 s) rfl _ _).grp rfl

@[simp] theorem State.setBankSt_dmn (s : State) (a1 a2) : (State.setBankSt s a1 a2).dmn = s.dmn :=
  (State.setBankSt_keep (Keep.refl 1 s) rfl _ _).dmn rfl

@[simp] theorem State.setWord_live (s : State) (a1 a2) : (State.setWord s a1 a2).live = s.live :=
  (State.setWord_keep (Keep.refl 4096 s) rfl _ _).live rfl

@[simp] theorem State.setWord_user (s : State) (a1 a2) : (State.setWord s a1 a2).user = s.user :=
  (State.setWord_keep (Keep.refl 4096 s) rfl _ _).user rfl

@[simp] theorem State.setWord_clk (s : State) (a1 a2) : (State.setWord s a1 a2).clk = s.clk :=
  (State.setWord_keep (Keep.refl 4096 s) rfl _ _).clk rfl

@[simp] theorem State.setWord_diag (s : State) (a1 a2) : (State.setWord s a1 a2).diag = s.diag :=
  (State.setWord_keep (Keep.refl 4096 s) rfl _ _).diag rfl

@[simp] theorem State.setWord_pow (s : State) (a1 a2) : (State.setWord s a1 a2).pow = s.pow :=
  (State.setWord_keep (Keep.refl 4096 s) rfl _ _).pow rfl

@[simp] theorem State.setWord_mem (s : State) (a1 a2) : (State.setWord s a1 a2).mem = s.mem :=
  (State.setWord_keep (Keep.refl 4096 s) rfl _ _).mem rfl

@[simp] theorem State.setWord_aop (s : State) (a1 a2) : (State.setWord s a1 a2).aop = s.aop :=
  (State.setWord_keep (Keep.refl 4096 s) rfl _ _).aop rfl

@[simp] theorem State.setWord_frame (s : State) (a1 a2) : (State.setWord s a1 a2).frame = s.frame :=
  (State.setWord_keep (Keep.refl 4096 s) rfl _ _).frame rfl

@[simp] theorem State.setWord_conv (s : State) (a1 a2) : (State.setWord s a1 a2).conv = s.conv :=
  (State.setWord_keep (Keep.refl 4096 s) rfl _ _).conv rfl

@[simp] theorem State.setWord_cal (s : State) (a1 a2) : (State.setWord s a1 a2).cal = s.cal :=
  (State.setWord_keep (Keep.refl 4096 s) rfl _ _).cal rfl

@[simp] theorem State.setWord_eq (s : State) (a1 a2) : (State.setWord s a1 a2).eq = s.eq :=
  (State.setWord_keep (Keep.refl 4096 s) rfl _ _).eq rfl

@[simp] theorem State.setWord_load (s : State) (a1 a2) : (State.setWord s a1 a2).load = s.load :=
  (State.setWord_keep (Keep.refl 4096 s) rfl _ _).load rfl

@[simp] theorem State.setWord_lanes (s : State) (a1 a2) : (State.setWord s a1 a2).lanes = s.lanes :=
  (State.setWord_keep (Keep.refl 4096 s) rfl _ _).lanes rfl

@[simp] theorem State.setWord_ciph (s : State) (a1 a2) : (State.setWord s a1 a2).ciph = s.ciph :=
  (State.setWord_keep (Keep.refl 4096 s) rfl _ _).ciph rfl

@[simp] theorem State.setWord_grot (s : State) (a1 a2) : (State.setWord s a1 a2).grot = s.grot :=
  (State.setWord_keep (Keep.refl 4096 s) rfl _ _).grot rfl

@[simp] theorem State.setWord_bel (s : State) (a1 a2) : (State.setWord s a1 a2).bel = s.bel :=
  (State.setWord_keep (Keep.refl 4096 s) rfl _ _).bel rfl

@[simp] theorem State.setWord_foot (s : State) (a1 a2) : (State.setWord s a1 a2).foot = s.foot :=
  (State.setWord_keep (Keep.refl 4096 s) rfl _ _).foot rfl

@[simp] theorem State.setWord_av (s : State) (a1 a2) : (State.setWord s a1 a2).av = s.av :=
  (State.setWord_keep (Keep.refl 4096 s) rfl _ _).av rfl

@[simp] theorem State.setWord_svc (s : State) (a1 a2) : (State.setWord s a1 a2).svc = s.svc :=
  (State.setWord_keep (Keep.refl 4096 s) rfl _ _).svc rfl

@[simp] theorem State.setWord_img (s : State) (a1 a2) : (State.setWord s a1 a2).img = s.img :=
  (State.setWord_keep (Keep.refl 4096 s) rfl _ _).img rfl

@[simp] theorem State.setWord_grp (s : State) (a1 a2) : (State.setWord s a1 a2).grp = s.grp :=
  (State.setWord_keep (Keep.refl 4096 s) rfl _ _).grp rfl

@[simp] theorem State.setWord_dmn (s : State) (a1 a2) : (State.setWord s a1 a2).dmn = s.dmn :=
  (State.setWord_keep (Keep.refl 4096 s) rfl _ _).dmn rfl

@[simp] theorem State.setWord_i (s : State) (a1 a2) (o m) : (State.setWord s a1 a2).i o m = s.i o m :=
  State.i_congr (by simp) (by simp) o m

@[simp] theorem State.setWord_u (s : State) (a1 a2) (o m) : (State.setWord s a1 a2).u o m = s.u o m :=
  congrArg Int.toNat (State.setWord_i ..)

@[simp] theorem State.setWord_o (s : State) (a1 a2) (o m) : (State.setWord s a1 a2).o o m = s.o o m :=
  State.o_congr (by simp) (by simp) o m

@[simp] theorem State.setEntries_live (s : State) (a1) : (State.setEntries s a1).live = s.live :=
  (State.setEntries_keep (Keep.refl 4 s) rfl _).live rfl

@[simp] theorem State.setEntries_user (s : State) (a1) : (State.setEntries s a1).user = s.user :=
  (State.setEntries_keep (Keep.refl 4 s) rfl _).user rfl

@[simp] theorem State.setEntries_diag (s : State) (a1) : (State.setEntries s a1).diag = s.diag :=
  (State.setEntries_keep (Keep.refl 4 s) rfl _).diag rfl

@[simp] theorem State.setEntries_pow (s : State) (a1) : (State.setEntries s a1).pow = s.pow :=
  (State.setEntries_keep (Keep.refl 4 s) rfl _).pow rfl

@[simp] theorem State.setEntries_mem (s : State) (a1) : (State.setEntries s a1).mem = s.mem :=
  (State.setEntries_keep (Keep.refl 4 s) rfl _).mem rfl

@[simp] theorem State.setEntries_aop (s : State) (a1) : (State.setEntries s a1).aop = s.aop :=
  (State.setEntries_keep (Keep.refl 4 s) rfl _).aop rfl

@[simp] theorem State.setEntries_frame (s : State) (a1) : (State.setEntries s a1).frame = s.frame :=
  (State.setEntries_keep (Keep.refl 4 s) rfl _).frame rfl

@[simp] theorem State.setEntries_conv (s : State) (a1) : (State.setEntries s a1).conv = s.conv :=
  (State.setEntries_keep (Keep.refl 4 s) rfl _).conv rfl

@[simp] theorem State.setEntries_cal (s : State) (a1) : (State.setEntries s a1).cal = s.cal :=
  (State.setEntries_keep (Keep.refl 4 s) rfl _).cal rfl

@[simp] theorem State.setEntries_eq (s : State) (a1) : (State.setEntries s a1).eq = s.eq :=
  (State.setEntries_keep (Keep.refl 4 s) rfl _).eq rfl

@[simp] theorem State.setEntries_load (s : State) (a1) : (State.setEntries s a1).load = s.load :=
  (State.setEntries_keep (Keep.refl 4 s) rfl _).load rfl

@[simp] theorem State.setEntries_pool (s : State) (a1) : (State.setEntries s a1).pool = s.pool :=
  (State.setEntries_keep (Keep.refl 4 s) rfl _).pool rfl

@[simp] theorem State.setEntries_lanes (s : State) (a1) : (State.setEntries s a1).lanes = s.lanes :=
  (State.setEntries_keep (Keep.refl 4 s) rfl _).lanes rfl

@[simp] theorem State.setEntries_ciph (s : State) (a1) : (State.setEntries s a1).ciph = s.ciph :=
  (State.setEntries_keep (Keep.refl 4 s) rfl _).ciph rfl

@[simp] theorem State.setEntries_grot (s : State) (a1) : (State.setEntries s a1).grot = s.grot :=
  (State.setEntries_keep (Keep.refl 4 s) rfl _).grot rfl

@[simp] theorem State.setEntries_bel (s : State) (a1) : (State.setEntries s a1).bel = s.bel :=
  (State.setEntries_keep (Keep.refl 4 s) rfl _).bel rfl

@[simp] theorem State.setEntries_foot (s : State) (a1) : (State.setEntries s a1).foot = s.foot :=
  (State.setEntries_keep (Keep.refl 4 s) rfl _).foot rfl

@[simp] theorem State.setEntries_av (s : State) (a1) : (State.setEntries s a1).av = s.av :=
  (State.setEntries_keep (Keep.refl 4 s) rfl _).av rfl

@[simp] theorem State.setEntries_svc (s : State) (a1) : (State.setEntries s a1).svc = s.svc :=
  (State.setEntries_keep (Keep.refl 4 s) rfl _).svc rfl

@[simp] theorem State.setEntries_img (s : State) (a1) : (State.setEntries s a1).img = s.img :=
  (State.setEntries_keep (Keep.refl 4 s) rfl _).img rfl

@[simp] theorem State.setEntries_grp (s : State) (a1) : (State.setEntries s a1).grp = s.grp :=
  (State.setEntries_keep (Keep.refl 4 s) rfl _).grp rfl

@[simp] theorem State.setEntries_dmn (s : State) (a1) : (State.setEntries s a1).dmn = s.dmn :=
  (State.setEntries_keep (Keep.refl 4 s) rfl _).dmn rfl

@[simp] theorem State.setEntries_sfn (s : State) (a1) : (State.setEntries s a1).clk.sfn = s.clk.sfn :=
  (State.setEntries_keep (Keep.refl 4 s) rfl _).sfn rfl

@[simp] theorem State.setEntries_i (s : State) (a1) (o m) : (State.setEntries s a1).i o m = s.i o m :=
  State.i_congr (by simp) (by simp) o m

@[simp] theorem State.setEntries_u (s : State) (a1) (o m) : (State.setEntries s a1).u o m = s.u o m :=
  congrArg Int.toNat (State.setEntries_i ..)

@[simp] theorem State.setEntries_o (s : State) (a1) (o m) : (State.setEntries s a1).o o m = s.o o m :=
  State.o_congr (by simp) (by simp) o m

@[simp] theorem State.setEntry_live (s : State) (a1 a2) : (State.setEntry s a1 a2).live = s.live :=
  (State.setEntry_keep (Keep.refl 4 s) rfl _ _).live rfl

@[simp] theorem State.setEntry_user (s : State) (a1 a2) : (State.setEntry s a1 a2).user = s.user :=
  (State.setEntry_keep (Keep.refl 4 s) rfl _ _).user rfl

@[simp] theorem State.setEntry_diag (s : State) (a1 a2) : (State.setEntry s a1 a2).diag = s.diag :=
  (State.setEntry_keep (Keep.refl 4 s) rfl _ _).diag rfl

@[simp] theorem State.setEntry_pow (s : State) (a1 a2) : (State.setEntry s a1 a2).pow = s.pow :=
  (State.setEntry_keep (Keep.refl 4 s) rfl _ _).pow rfl

@[simp] theorem State.setEntry_mem (s : State) (a1 a2) : (State.setEntry s a1 a2).mem = s.mem :=
  (State.setEntry_keep (Keep.refl 4 s) rfl _ _).mem rfl

@[simp] theorem State.setEntry_aop (s : State) (a1 a2) : (State.setEntry s a1 a2).aop = s.aop :=
  (State.setEntry_keep (Keep.refl 4 s) rfl _ _).aop rfl

@[simp] theorem State.setEntry_frame (s : State) (a1 a2) : (State.setEntry s a1 a2).frame = s.frame :=
  (State.setEntry_keep (Keep.refl 4 s) rfl _ _).frame rfl

@[simp] theorem State.setEntry_conv (s : State) (a1 a2) : (State.setEntry s a1 a2).conv = s.conv :=
  (State.setEntry_keep (Keep.refl 4 s) rfl _ _).conv rfl

@[simp] theorem State.setEntry_cal (s : State) (a1 a2) : (State.setEntry s a1 a2).cal = s.cal :=
  (State.setEntry_keep (Keep.refl 4 s) rfl _ _).cal rfl

@[simp] theorem State.setEntry_eq (s : State) (a1 a2) : (State.setEntry s a1 a2).eq = s.eq :=
  (State.setEntry_keep (Keep.refl 4 s) rfl _ _).eq rfl

@[simp] theorem State.setEntry_load (s : State) (a1 a2) : (State.setEntry s a1 a2).load = s.load :=
  (State.setEntry_keep (Keep.refl 4 s) rfl _ _).load rfl

@[simp] theorem State.setEntry_pool (s : State) (a1 a2) : (State.setEntry s a1 a2).pool = s.pool :=
  (State.setEntry_keep (Keep.refl 4 s) rfl _ _).pool rfl

@[simp] theorem State.setEntry_lanes (s : State) (a1 a2) : (State.setEntry s a1 a2).lanes = s.lanes :=
  (State.setEntry_keep (Keep.refl 4 s) rfl _ _).lanes rfl

@[simp] theorem State.setEntry_ciph (s : State) (a1 a2) : (State.setEntry s a1 a2).ciph = s.ciph :=
  (State.setEntry_keep (Keep.refl 4 s) rfl _ _).ciph rfl

@[simp] theorem State.setEntry_grot (s : State) (a1 a2) : (State.setEntry s a1 a2).grot = s.grot :=
  (State.setEntry_keep (Keep.refl 4 s) rfl _ _).grot rfl

@[simp] theorem State.setEntry_bel (s : State) (a1 a2) : (State.setEntry s a1 a2).bel = s.bel :=
  (State.setEntry_keep (Keep.refl 4 s) rfl _ _).bel rfl

@[simp] theorem State.setEntry_foot (s : State) (a1 a2) : (State.setEntry s a1 a2).foot = s.foot :=
  (State.setEntry_keep (Keep.refl 4 s) rfl _ _).foot rfl

@[simp] theorem State.setEntry_av (s : State) (a1 a2) : (State.setEntry s a1 a2).av = s.av :=
  (State.setEntry_keep (Keep.refl 4 s) rfl _ _).av rfl

@[simp] theorem State.setEntry_svc (s : State) (a1 a2) : (State.setEntry s a1 a2).svc = s.svc :=
  (State.setEntry_keep (Keep.refl 4 s) rfl _ _).svc rfl

@[simp] theorem State.setEntry_img (s : State) (a1 a2) : (State.setEntry s a1 a2).img = s.img :=
  (State.setEntry_keep (Keep.refl 4 s) rfl _ _).img rfl

@[simp] theorem State.setEntry_grp (s : State) (a1 a2) : (State.setEntry s a1 a2).grp = s.grp :=
  (State.setEntry_keep (Keep.refl 4 s) rfl _ _).grp rfl

@[simp] theorem State.setEntry_dmn (s : State) (a1 a2) : (State.setEntry s a1 a2).dmn = s.dmn :=
  (State.setEntry_keep (Keep.refl 4 s) rfl _ _).dmn rfl

@[simp] theorem State.setEntry_sfn (s : State) (a1 a2) : (State.setEntry s a1 a2).clk.sfn = s.clk.sfn :=
  (State.setEntry_keep (Keep.refl 4 s) rfl _ _).sfn rfl

@[simp] theorem State.setEntry_i (s : State) (a1 a2) (o m) : (State.setEntry s a1 a2).i o m = s.i o m :=
  State.i_congr (by simp) (by simp) o m

@[simp] theorem State.setEntry_u (s : State) (a1 a2) (o m) : (State.setEntry s a1 a2).u o m = s.u o m :=
  congrArg Int.toNat (State.setEntry_i ..)

@[simp] theorem State.setEntry_o (s : State) (a1 a2) (o m) : (State.setEntry s a1 a2).o o m = s.o o m :=
  State.o_congr (by simp) (by simp) o m

@[simp] theorem State.freeEntry_live (s : State) (a1) : (State.freeEntry s a1).live = s.live :=
  (State.freeEntry_keep (Keep.refl 4 s) rfl _).live rfl

@[simp] theorem State.freeEntry_user (s : State) (a1) : (State.freeEntry s a1).user = s.user :=
  (State.freeEntry_keep (Keep.refl 4 s) rfl _).user rfl

@[simp] theorem State.freeEntry_diag (s : State) (a1) : (State.freeEntry s a1).diag = s.diag :=
  (State.freeEntry_keep (Keep.refl 4 s) rfl _).diag rfl

@[simp] theorem State.freeEntry_pow (s : State) (a1) : (State.freeEntry s a1).pow = s.pow :=
  (State.freeEntry_keep (Keep.refl 4 s) rfl _).pow rfl

@[simp] theorem State.freeEntry_mem (s : State) (a1) : (State.freeEntry s a1).mem = s.mem :=
  (State.freeEntry_keep (Keep.refl 4 s) rfl _).mem rfl

@[simp] theorem State.freeEntry_aop (s : State) (a1) : (State.freeEntry s a1).aop = s.aop :=
  (State.freeEntry_keep (Keep.refl 4 s) rfl _).aop rfl

@[simp] theorem State.freeEntry_frame (s : State) (a1) : (State.freeEntry s a1).frame = s.frame :=
  (State.freeEntry_keep (Keep.refl 4 s) rfl _).frame rfl

@[simp] theorem State.freeEntry_conv (s : State) (a1) : (State.freeEntry s a1).conv = s.conv :=
  (State.freeEntry_keep (Keep.refl 4 s) rfl _).conv rfl

@[simp] theorem State.freeEntry_cal (s : State) (a1) : (State.freeEntry s a1).cal = s.cal :=
  (State.freeEntry_keep (Keep.refl 4 s) rfl _).cal rfl

@[simp] theorem State.freeEntry_eq (s : State) (a1) : (State.freeEntry s a1).eq = s.eq :=
  (State.freeEntry_keep (Keep.refl 4 s) rfl _).eq rfl

@[simp] theorem State.freeEntry_load (s : State) (a1) : (State.freeEntry s a1).load = s.load :=
  (State.freeEntry_keep (Keep.refl 4 s) rfl _).load rfl

@[simp] theorem State.freeEntry_pool (s : State) (a1) : (State.freeEntry s a1).pool = s.pool :=
  (State.freeEntry_keep (Keep.refl 4 s) rfl _).pool rfl

@[simp] theorem State.freeEntry_lanes (s : State) (a1) : (State.freeEntry s a1).lanes = s.lanes :=
  (State.freeEntry_keep (Keep.refl 4 s) rfl _).lanes rfl

@[simp] theorem State.freeEntry_ciph (s : State) (a1) : (State.freeEntry s a1).ciph = s.ciph :=
  (State.freeEntry_keep (Keep.refl 4 s) rfl _).ciph rfl

@[simp] theorem State.freeEntry_grot (s : State) (a1) : (State.freeEntry s a1).grot = s.grot :=
  (State.freeEntry_keep (Keep.refl 4 s) rfl _).grot rfl

@[simp] theorem State.freeEntry_bel (s : State) (a1) : (State.freeEntry s a1).bel = s.bel :=
  (State.freeEntry_keep (Keep.refl 4 s) rfl _).bel rfl

@[simp] theorem State.freeEntry_foot (s : State) (a1) : (State.freeEntry s a1).foot = s.foot :=
  (State.freeEntry_keep (Keep.refl 4 s) rfl _).foot rfl

@[simp] theorem State.freeEntry_av (s : State) (a1) : (State.freeEntry s a1).av = s.av :=
  (State.freeEntry_keep (Keep.refl 4 s) rfl _).av rfl

@[simp] theorem State.freeEntry_svc (s : State) (a1) : (State.freeEntry s a1).svc = s.svc :=
  (State.freeEntry_keep (Keep.refl 4 s) rfl _).svc rfl

@[simp] theorem State.freeEntry_img (s : State) (a1) : (State.freeEntry s a1).img = s.img :=
  (State.freeEntry_keep (Keep.refl 4 s) rfl _).img rfl

@[simp] theorem State.freeEntry_grp (s : State) (a1) : (State.freeEntry s a1).grp = s.grp :=
  (State.freeEntry_keep (Keep.refl 4 s) rfl _).grp rfl

@[simp] theorem State.freeEntry_dmn (s : State) (a1) : (State.freeEntry s a1).dmn = s.dmn :=
  (State.freeEntry_keep (Keep.refl 4 s) rfl _).dmn rfl

@[simp] theorem State.freeEntry_sfn (s : State) (a1) : (State.freeEntry s a1).clk.sfn = s.clk.sfn :=
  (State.freeEntry_keep (Keep.refl 4 s) rfl _).sfn rfl

@[simp] theorem State.freeEntry_i (s : State) (a1) (o m) : (State.freeEntry s a1).i o m = s.i o m :=
  State.i_congr (by simp) (by simp) o m

@[simp] theorem State.freeEntry_u (s : State) (a1) (o m) : (State.freeEntry s a1).u o m = s.u o m :=
  congrArg Int.toNat (State.freeEntry_i ..)

@[simp] theorem State.freeEntry_o (s : State) (a1) (o m) : (State.freeEntry s a1).o o m = s.o o m :=
  State.o_congr (by simp) (by simp) o m

@[simp] theorem State.setFr_live (s : State) (a1 a2) : (State.setFr s a1 a2).live = s.live :=
  (State.setFr_keep (Keep.refl 128 s) rfl _ _).live rfl

@[simp] theorem State.setFr_user (s : State) (a1 a2) : (State.setFr s a1 a2).user = s.user :=
  (State.setFr_keep (Keep.refl 128 s) rfl _ _).user rfl

@[simp] theorem State.setFr_clk (s : State) (a1 a2) : (State.setFr s a1 a2).clk = s.clk :=
  (State.setFr_keep (Keep.refl 128 s) rfl _ _).clk rfl

@[simp] theorem State.setFr_diag (s : State) (a1 a2) : (State.setFr s a1 a2).diag = s.diag :=
  (State.setFr_keep (Keep.refl 128 s) rfl _ _).diag rfl

@[simp] theorem State.setFr_pow (s : State) (a1 a2) : (State.setFr s a1 a2).pow = s.pow :=
  (State.setFr_keep (Keep.refl 128 s) rfl _ _).pow rfl

@[simp] theorem State.setFr_mem (s : State) (a1 a2) : (State.setFr s a1 a2).mem = s.mem :=
  (State.setFr_keep (Keep.refl 128 s) rfl _ _).mem rfl

@[simp] theorem State.setFr_aop (s : State) (a1 a2) : (State.setFr s a1 a2).aop = s.aop :=
  (State.setFr_keep (Keep.refl 128 s) rfl _ _).aop rfl

@[simp] theorem State.setFr_conv (s : State) (a1 a2) : (State.setFr s a1 a2).conv = s.conv :=
  (State.setFr_keep (Keep.refl 128 s) rfl _ _).conv rfl

@[simp] theorem State.setFr_cal (s : State) (a1 a2) : (State.setFr s a1 a2).cal = s.cal :=
  (State.setFr_keep (Keep.refl 128 s) rfl _ _).cal rfl

@[simp] theorem State.setFr_eq (s : State) (a1 a2) : (State.setFr s a1 a2).eq = s.eq :=
  (State.setFr_keep (Keep.refl 128 s) rfl _ _).eq rfl

@[simp] theorem State.setFr_load (s : State) (a1 a2) : (State.setFr s a1 a2).load = s.load :=
  (State.setFr_keep (Keep.refl 128 s) rfl _ _).load rfl

@[simp] theorem State.setFr_pool (s : State) (a1 a2) : (State.setFr s a1 a2).pool = s.pool :=
  (State.setFr_keep (Keep.refl 128 s) rfl _ _).pool rfl

@[simp] theorem State.setFr_lanes (s : State) (a1 a2) : (State.setFr s a1 a2).lanes = s.lanes :=
  (State.setFr_keep (Keep.refl 128 s) rfl _ _).lanes rfl

@[simp] theorem State.setFr_ciph (s : State) (a1 a2) : (State.setFr s a1 a2).ciph = s.ciph :=
  (State.setFr_keep (Keep.refl 128 s) rfl _ _).ciph rfl

@[simp] theorem State.setFr_grot (s : State) (a1 a2) : (State.setFr s a1 a2).grot = s.grot :=
  (State.setFr_keep (Keep.refl 128 s) rfl _ _).grot rfl

@[simp] theorem State.setFr_bel (s : State) (a1 a2) : (State.setFr s a1 a2).bel = s.bel :=
  (State.setFr_keep (Keep.refl 128 s) rfl _ _).bel rfl

@[simp] theorem State.setFr_foot (s : State) (a1 a2) : (State.setFr s a1 a2).foot = s.foot :=
  (State.setFr_keep (Keep.refl 128 s) rfl _ _).foot rfl

@[simp] theorem State.setFr_av (s : State) (a1 a2) : (State.setFr s a1 a2).av = s.av :=
  (State.setFr_keep (Keep.refl 128 s) rfl _ _).av rfl

@[simp] theorem State.setFr_svc (s : State) (a1 a2) : (State.setFr s a1 a2).svc = s.svc :=
  (State.setFr_keep (Keep.refl 128 s) rfl _ _).svc rfl

@[simp] theorem State.setFr_img (s : State) (a1 a2) : (State.setFr s a1 a2).img = s.img :=
  (State.setFr_keep (Keep.refl 128 s) rfl _ _).img rfl

@[simp] theorem State.setFr_grp (s : State) (a1 a2) : (State.setFr s a1 a2).grp = s.grp :=
  (State.setFr_keep (Keep.refl 128 s) rfl _ _).grp rfl

@[simp] theorem State.setFr_dmn (s : State) (a1 a2) : (State.setFr s a1 a2).dmn = s.dmn :=
  (State.setFr_keep (Keep.refl 128 s) rfl _ _).dmn rfl

@[simp] theorem State.setFr_i (s : State) (a1 a2) (o m) : (State.setFr s a1 a2).i o m = s.i o m :=
  State.i_congr (by simp) (by simp) o m

@[simp] theorem State.setFr_u (s : State) (a1 a2) (o m) : (State.setFr s a1 a2).u o m = s.u o m :=
  congrArg Int.toNat (State.setFr_i ..)

@[simp] theorem State.setFr_o (s : State) (a1 a2) (o m) : (State.setFr s a1 a2).o o m = s.o o m :=
  State.o_congr (by simp) (by simp) o m

@[simp] theorem State.setSvc_live (s : State) (a1) : (State.setSvc s a1).live = s.live :=
  (State.setSvc_keep (Keep.refl 524288 s) rfl _).live rfl

@[simp] theorem State.setSvc_user (s : State) (a1) : (State.setSvc s a1).user = s.user :=
  (State.setSvc_keep (Keep.refl 524288 s) rfl _).user rfl

@[simp] theorem State.setSvc_clk (s : State) (a1) : (State.setSvc s a1).clk = s.clk :=
  (State.setSvc_keep (Keep.refl 524288 s) rfl _).clk rfl

@[simp] theorem State.setSvc_diag (s : State) (a1) : (State.setSvc s a1).diag = s.diag :=
  (State.setSvc_keep (Keep.refl 524288 s) rfl _).diag rfl

@[simp] theorem State.setSvc_pow (s : State) (a1) : (State.setSvc s a1).pow = s.pow :=
  (State.setSvc_keep (Keep.refl 524288 s) rfl _).pow rfl

@[simp] theorem State.setSvc_mem (s : State) (a1) : (State.setSvc s a1).mem = s.mem :=
  (State.setSvc_keep (Keep.refl 524288 s) rfl _).mem rfl

@[simp] theorem State.setSvc_aop (s : State) (a1) : (State.setSvc s a1).aop = s.aop :=
  (State.setSvc_keep (Keep.refl 524288 s) rfl _).aop rfl

@[simp] theorem State.setSvc_frame (s : State) (a1) : (State.setSvc s a1).frame = s.frame :=
  (State.setSvc_keep (Keep.refl 524288 s) rfl _).frame rfl

@[simp] theorem State.setSvc_conv (s : State) (a1) : (State.setSvc s a1).conv = s.conv :=
  (State.setSvc_keep (Keep.refl 524288 s) rfl _).conv rfl

@[simp] theorem State.setSvc_cal (s : State) (a1) : (State.setSvc s a1).cal = s.cal :=
  (State.setSvc_keep (Keep.refl 524288 s) rfl _).cal rfl

@[simp] theorem State.setSvc_eq (s : State) (a1) : (State.setSvc s a1).eq = s.eq :=
  (State.setSvc_keep (Keep.refl 524288 s) rfl _).eq rfl

@[simp] theorem State.setSvc_load (s : State) (a1) : (State.setSvc s a1).load = s.load :=
  (State.setSvc_keep (Keep.refl 524288 s) rfl _).load rfl

@[simp] theorem State.setSvc_pool (s : State) (a1) : (State.setSvc s a1).pool = s.pool :=
  (State.setSvc_keep (Keep.refl 524288 s) rfl _).pool rfl

@[simp] theorem State.setSvc_lanes (s : State) (a1) : (State.setSvc s a1).lanes = s.lanes :=
  (State.setSvc_keep (Keep.refl 524288 s) rfl _).lanes rfl

@[simp] theorem State.setSvc_ciph (s : State) (a1) : (State.setSvc s a1).ciph = s.ciph :=
  (State.setSvc_keep (Keep.refl 524288 s) rfl _).ciph rfl

@[simp] theorem State.setSvc_grot (s : State) (a1) : (State.setSvc s a1).grot = s.grot :=
  (State.setSvc_keep (Keep.refl 524288 s) rfl _).grot rfl

@[simp] theorem State.setSvc_bel (s : State) (a1) : (State.setSvc s a1).bel = s.bel :=
  (State.setSvc_keep (Keep.refl 524288 s) rfl _).bel rfl

@[simp] theorem State.setSvc_foot (s : State) (a1) : (State.setSvc s a1).foot = s.foot :=
  (State.setSvc_keep (Keep.refl 524288 s) rfl _).foot rfl

@[simp] theorem State.setSvc_av (s : State) (a1) : (State.setSvc s a1).av = s.av :=
  (State.setSvc_keep (Keep.refl 524288 s) rfl _).av rfl

@[simp] theorem State.setSvc_img (s : State) (a1) : (State.setSvc s a1).img = s.img :=
  (State.setSvc_keep (Keep.refl 524288 s) rfl _).img rfl

@[simp] theorem State.setSvc_grp (s : State) (a1) : (State.setSvc s a1).grp = s.grp :=
  (State.setSvc_keep (Keep.refl 524288 s) rfl _).grp rfl

@[simp] theorem State.setSvc_dmn (s : State) (a1) : (State.setSvc s a1).dmn = s.dmn :=
  (State.setSvc_keep (Keep.refl 524288 s) rfl _).dmn rfl

@[simp] theorem State.setSvc_i (s : State) (a1) (o m) : (State.setSvc s a1).i o m = s.i o m :=
  State.i_congr (by simp) (by simp) o m

@[simp] theorem State.setSvc_u (s : State) (a1) (o m) : (State.setSvc s a1).u o m = s.u o m :=
  congrArg Int.toNat (State.setSvc_i ..)

@[simp] theorem State.setSvc_o (s : State) (a1) (o m) : (State.setSvc s a1).o o m = s.o o m :=
  State.o_congr (by simp) (by simp) o m

@[simp] theorem State.setTfe_live (s : State) (a1 a2) : (State.setTfe s a1 a2).live = s.live :=
  (State.setTfe_keep (Keep.refl 524288 s) rfl _ _).live rfl

@[simp] theorem State.setTfe_user (s : State) (a1 a2) : (State.setTfe s a1 a2).user = s.user :=
  (State.setTfe_keep (Keep.refl 524288 s) rfl _ _).user rfl

@[simp] theorem State.setTfe_clk (s : State) (a1 a2) : (State.setTfe s a1 a2).clk = s.clk :=
  (State.setTfe_keep (Keep.refl 524288 s) rfl _ _).clk rfl

@[simp] theorem State.setTfe_diag (s : State) (a1 a2) : (State.setTfe s a1 a2).diag = s.diag :=
  (State.setTfe_keep (Keep.refl 524288 s) rfl _ _).diag rfl

@[simp] theorem State.setTfe_pow (s : State) (a1 a2) : (State.setTfe s a1 a2).pow = s.pow :=
  (State.setTfe_keep (Keep.refl 524288 s) rfl _ _).pow rfl

@[simp] theorem State.setTfe_mem (s : State) (a1 a2) : (State.setTfe s a1 a2).mem = s.mem :=
  (State.setTfe_keep (Keep.refl 524288 s) rfl _ _).mem rfl

@[simp] theorem State.setTfe_aop (s : State) (a1 a2) : (State.setTfe s a1 a2).aop = s.aop :=
  (State.setTfe_keep (Keep.refl 524288 s) rfl _ _).aop rfl

@[simp] theorem State.setTfe_frame (s : State) (a1 a2) : (State.setTfe s a1 a2).frame = s.frame :=
  (State.setTfe_keep (Keep.refl 524288 s) rfl _ _).frame rfl

@[simp] theorem State.setTfe_conv (s : State) (a1 a2) : (State.setTfe s a1 a2).conv = s.conv :=
  (State.setTfe_keep (Keep.refl 524288 s) rfl _ _).conv rfl

@[simp] theorem State.setTfe_cal (s : State) (a1 a2) : (State.setTfe s a1 a2).cal = s.cal :=
  (State.setTfe_keep (Keep.refl 524288 s) rfl _ _).cal rfl

@[simp] theorem State.setTfe_eq (s : State) (a1 a2) : (State.setTfe s a1 a2).eq = s.eq :=
  (State.setTfe_keep (Keep.refl 524288 s) rfl _ _).eq rfl

@[simp] theorem State.setTfe_load (s : State) (a1 a2) : (State.setTfe s a1 a2).load = s.load :=
  (State.setTfe_keep (Keep.refl 524288 s) rfl _ _).load rfl

@[simp] theorem State.setTfe_pool (s : State) (a1 a2) : (State.setTfe s a1 a2).pool = s.pool :=
  (State.setTfe_keep (Keep.refl 524288 s) rfl _ _).pool rfl

@[simp] theorem State.setTfe_lanes (s : State) (a1 a2) : (State.setTfe s a1 a2).lanes = s.lanes :=
  (State.setTfe_keep (Keep.refl 524288 s) rfl _ _).lanes rfl

@[simp] theorem State.setTfe_ciph (s : State) (a1 a2) : (State.setTfe s a1 a2).ciph = s.ciph :=
  (State.setTfe_keep (Keep.refl 524288 s) rfl _ _).ciph rfl

@[simp] theorem State.setTfe_grot (s : State) (a1 a2) : (State.setTfe s a1 a2).grot = s.grot :=
  (State.setTfe_keep (Keep.refl 524288 s) rfl _ _).grot rfl

@[simp] theorem State.setTfe_bel (s : State) (a1 a2) : (State.setTfe s a1 a2).bel = s.bel :=
  (State.setTfe_keep (Keep.refl 524288 s) rfl _ _).bel rfl

@[simp] theorem State.setTfe_foot (s : State) (a1 a2) : (State.setTfe s a1 a2).foot = s.foot :=
  (State.setTfe_keep (Keep.refl 524288 s) rfl _ _).foot rfl

@[simp] theorem State.setTfe_av (s : State) (a1 a2) : (State.setTfe s a1 a2).av = s.av :=
  (State.setTfe_keep (Keep.refl 524288 s) rfl _ _).av rfl

@[simp] theorem State.setTfe_img (s : State) (a1 a2) : (State.setTfe s a1 a2).img = s.img :=
  (State.setTfe_keep (Keep.refl 524288 s) rfl _ _).img rfl

@[simp] theorem State.setTfe_grp (s : State) (a1 a2) : (State.setTfe s a1 a2).grp = s.grp :=
  (State.setTfe_keep (Keep.refl 524288 s) rfl _ _).grp rfl

@[simp] theorem State.setTfe_dmn (s : State) (a1 a2) : (State.setTfe s a1 a2).dmn = s.dmn :=
  (State.setTfe_keep (Keep.refl 524288 s) rfl _ _).dmn rfl

@[simp] theorem State.setTfe_i (s : State) (a1 a2) (o m) : (State.setTfe s a1 a2).i o m = s.i o m :=
  State.i_congr (by simp) (by simp) o m

@[simp] theorem State.setTfe_u (s : State) (a1 a2) (o m) : (State.setTfe s a1 a2).u o m = s.u o m :=
  congrArg Int.toNat (State.setTfe_i ..)

@[simp] theorem State.setTfe_o (s : State) (a1 a2) (o m) : (State.setTfe s a1 a2).o o m = s.o o m :=
  State.o_congr (by simp) (by simp) o m

@[simp] theorem State.sendTo_live (s : State) (a1 a2) : (State.sendTo s a1 a2).live = s.live :=
  (State.sendTo_keep (Keep.refl 0 s) rfl _ _).live rfl

@[simp] theorem State.sendTo_user (s : State) (a1 a2) : (State.sendTo s a1 a2).user = s.user :=
  (State.sendTo_keep (Keep.refl 0 s) rfl _ _).user rfl

@[simp] theorem State.sendTo_clk (s : State) (a1 a2) : (State.sendTo s a1 a2).clk = s.clk :=
  (State.sendTo_keep (Keep.refl 0 s) rfl _ _).clk rfl

@[simp] theorem State.sendTo_diag (s : State) (a1 a2) : (State.sendTo s a1 a2).diag = s.diag :=
  (State.sendTo_keep (Keep.refl 0 s) rfl _ _).diag rfl

@[simp] theorem State.sendTo_pow (s : State) (a1 a2) : (State.sendTo s a1 a2).pow = s.pow :=
  (State.sendTo_keep (Keep.refl 0 s) rfl _ _).pow rfl

@[simp] theorem State.sendTo_mem (s : State) (a1 a2) : (State.sendTo s a1 a2).mem = s.mem :=
  (State.sendTo_keep (Keep.refl 0 s) rfl _ _).mem rfl

@[simp] theorem State.sendTo_aop (s : State) (a1 a2) : (State.sendTo s a1 a2).aop = s.aop :=
  (State.sendTo_keep (Keep.refl 0 s) rfl _ _).aop rfl

@[simp] theorem State.sendTo_frame (s : State) (a1 a2) : (State.sendTo s a1 a2).frame = s.frame :=
  (State.sendTo_keep (Keep.refl 0 s) rfl _ _).frame rfl

@[simp] theorem State.sendTo_conv (s : State) (a1 a2) : (State.sendTo s a1 a2).conv = s.conv :=
  (State.sendTo_keep (Keep.refl 0 s) rfl _ _).conv rfl

@[simp] theorem State.sendTo_cal (s : State) (a1 a2) : (State.sendTo s a1 a2).cal = s.cal :=
  (State.sendTo_keep (Keep.refl 0 s) rfl _ _).cal rfl

@[simp] theorem State.sendTo_eq (s : State) (a1 a2) : (State.sendTo s a1 a2).eq = s.eq :=
  (State.sendTo_keep (Keep.refl 0 s) rfl _ _).eq rfl

@[simp] theorem State.sendTo_load (s : State) (a1 a2) : (State.sendTo s a1 a2).load = s.load :=
  (State.sendTo_keep (Keep.refl 0 s) rfl _ _).load rfl

@[simp] theorem State.sendTo_pool (s : State) (a1 a2) : (State.sendTo s a1 a2).pool = s.pool :=
  (State.sendTo_keep (Keep.refl 0 s) rfl _ _).pool rfl

@[simp] theorem State.sendTo_lanes (s : State) (a1 a2) : (State.sendTo s a1 a2).lanes = s.lanes :=
  (State.sendTo_keep (Keep.refl 0 s) rfl _ _).lanes rfl

@[simp] theorem State.sendTo_ciph (s : State) (a1 a2) : (State.sendTo s a1 a2).ciph = s.ciph :=
  (State.sendTo_keep (Keep.refl 0 s) rfl _ _).ciph rfl

@[simp] theorem State.sendTo_grot (s : State) (a1 a2) : (State.sendTo s a1 a2).grot = s.grot :=
  (State.sendTo_keep (Keep.refl 0 s) rfl _ _).grot rfl

@[simp] theorem State.sendTo_bel (s : State) (a1 a2) : (State.sendTo s a1 a2).bel = s.bel :=
  (State.sendTo_keep (Keep.refl 0 s) rfl _ _).bel rfl

@[simp] theorem State.sendTo_foot (s : State) (a1 a2) : (State.sendTo s a1 a2).foot = s.foot :=
  (State.sendTo_keep (Keep.refl 0 s) rfl _ _).foot rfl

@[simp] theorem State.sendTo_av (s : State) (a1 a2) : (State.sendTo s a1 a2).av = s.av :=
  (State.sendTo_keep (Keep.refl 0 s) rfl _ _).av rfl

@[simp] theorem State.sendTo_svc (s : State) (a1 a2) : (State.sendTo s a1 a2).svc = s.svc :=
  (State.sendTo_keep (Keep.refl 0 s) rfl _ _).svc rfl

@[simp] theorem State.sendTo_img (s : State) (a1 a2) : (State.sendTo s a1 a2).img = s.img :=
  (State.sendTo_keep (Keep.refl 0 s) rfl _ _).img rfl

@[simp] theorem State.sendTo_grp (s : State) (a1 a2) : (State.sendTo s a1 a2).grp = s.grp :=
  (State.sendTo_keep (Keep.refl 0 s) rfl _ _).grp rfl

@[simp] theorem State.sendTo_dmn (s : State) (a1 a2) : (State.sendTo s a1 a2).dmn = s.dmn :=
  (State.sendTo_keep (Keep.refl 0 s) rfl _ _).dmn rfl

@[simp] theorem State.sendTo_i (s : State) (a1 a2) (o m) : (State.sendTo s a1 a2).i o m = s.i o m :=
  State.i_congr (by simp) (by simp) o m

@[simp] theorem State.sendTo_u (s : State) (a1 a2) (o m) : (State.sendTo s a1 a2).u o m = s.u o m :=
  congrArg Int.toNat (State.sendTo_i ..)

@[simp] theorem State.sendTo_o (s : State) (a1 a2) (o m) : (State.sendTo s a1 a2).o o m = s.o o m :=
  State.o_congr (by simp) (by simp) o m

@[simp] theorem State.sendCoord_live (s : State) (a1 a2) : (State.sendCoord s a1 a2).live = s.live :=
  (State.sendCoord_keep (Keep.refl 128 s) rfl _ _).live rfl

@[simp] theorem State.sendCoord_user (s : State) (a1 a2) : (State.sendCoord s a1 a2).user = s.user :=
  (State.sendCoord_keep (Keep.refl 128 s) rfl _ _).user rfl

@[simp] theorem State.sendCoord_clk (s : State) (a1 a2) : (State.sendCoord s a1 a2).clk = s.clk :=
  (State.sendCoord_keep (Keep.refl 128 s) rfl _ _).clk rfl

@[simp] theorem State.sendCoord_diag (s : State) (a1 a2) : (State.sendCoord s a1 a2).diag = s.diag :=
  (State.sendCoord_keep (Keep.refl 128 s) rfl _ _).diag rfl

@[simp] theorem State.sendCoord_pow (s : State) (a1 a2) : (State.sendCoord s a1 a2).pow = s.pow :=
  (State.sendCoord_keep (Keep.refl 128 s) rfl _ _).pow rfl

@[simp] theorem State.sendCoord_mem (s : State) (a1 a2) : (State.sendCoord s a1 a2).mem = s.mem :=
  (State.sendCoord_keep (Keep.refl 128 s) rfl _ _).mem rfl

@[simp] theorem State.sendCoord_aop (s : State) (a1 a2) : (State.sendCoord s a1 a2).aop = s.aop :=
  (State.sendCoord_keep (Keep.refl 128 s) rfl _ _).aop rfl

@[simp] theorem State.sendCoord_conv (s : State) (a1 a2) : (State.sendCoord s a1 a2).conv = s.conv :=
  (State.sendCoord_keep (Keep.refl 128 s) rfl _ _).conv rfl

@[simp] theorem State.sendCoord_cal (s : State) (a1 a2) : (State.sendCoord s a1 a2).cal = s.cal :=
  (State.sendCoord_keep (Keep.refl 128 s) rfl _ _).cal rfl

@[simp] theorem State.sendCoord_eq (s : State) (a1 a2) : (State.sendCoord s a1 a2).eq = s.eq :=
  (State.sendCoord_keep (Keep.refl 128 s) rfl _ _).eq rfl

@[simp] theorem State.sendCoord_load (s : State) (a1 a2) : (State.sendCoord s a1 a2).load = s.load :=
  (State.sendCoord_keep (Keep.refl 128 s) rfl _ _).load rfl

@[simp] theorem State.sendCoord_pool (s : State) (a1 a2) : (State.sendCoord s a1 a2).pool = s.pool :=
  (State.sendCoord_keep (Keep.refl 128 s) rfl _ _).pool rfl

@[simp] theorem State.sendCoord_lanes (s : State) (a1 a2) : (State.sendCoord s a1 a2).lanes = s.lanes :=
  (State.sendCoord_keep (Keep.refl 128 s) rfl _ _).lanes rfl

@[simp] theorem State.sendCoord_ciph (s : State) (a1 a2) : (State.sendCoord s a1 a2).ciph = s.ciph :=
  (State.sendCoord_keep (Keep.refl 128 s) rfl _ _).ciph rfl

@[simp] theorem State.sendCoord_grot (s : State) (a1 a2) : (State.sendCoord s a1 a2).grot = s.grot :=
  (State.sendCoord_keep (Keep.refl 128 s) rfl _ _).grot rfl

@[simp] theorem State.sendCoord_bel (s : State) (a1 a2) : (State.sendCoord s a1 a2).bel = s.bel :=
  (State.sendCoord_keep (Keep.refl 128 s) rfl _ _).bel rfl

@[simp] theorem State.sendCoord_foot (s : State) (a1 a2) : (State.sendCoord s a1 a2).foot = s.foot :=
  (State.sendCoord_keep (Keep.refl 128 s) rfl _ _).foot rfl

@[simp] theorem State.sendCoord_av (s : State) (a1 a2) : (State.sendCoord s a1 a2).av = s.av :=
  (State.sendCoord_keep (Keep.refl 128 s) rfl _ _).av rfl

@[simp] theorem State.sendCoord_svc (s : State) (a1 a2) : (State.sendCoord s a1 a2).svc = s.svc :=
  (State.sendCoord_keep (Keep.refl 128 s) rfl _ _).svc rfl

@[simp] theorem State.sendCoord_img (s : State) (a1 a2) : (State.sendCoord s a1 a2).img = s.img :=
  (State.sendCoord_keep (Keep.refl 128 s) rfl _ _).img rfl

@[simp] theorem State.sendCoord_grp (s : State) (a1 a2) : (State.sendCoord s a1 a2).grp = s.grp :=
  (State.sendCoord_keep (Keep.refl 128 s) rfl _ _).grp rfl

@[simp] theorem State.sendCoord_dmn (s : State) (a1 a2) : (State.sendCoord s a1 a2).dmn = s.dmn :=
  (State.sendCoord_keep (Keep.refl 128 s) rfl _ _).dmn rfl

@[simp] theorem State.sendCoord_i (s : State) (a1 a2) (o m) : (State.sendCoord s a1 a2).i o m = s.i o m :=
  State.i_congr (by simp) (by simp) o m

@[simp] theorem State.sendCoord_u (s : State) (a1 a2) (o m) : (State.sendCoord s a1 a2).u o m = s.u o m :=
  congrArg Int.toNat (State.sendCoord_i ..)

@[simp] theorem State.sendCoord_o (s : State) (a1 a2) (o m) : (State.sendCoord s a1 a2).o o m = s.o o m :=
  State.o_congr (by simp) (by simp) o m

@[simp] theorem State.dropCoord_live (s : State) (a1 a2 a3) : (State.dropCoord s a1 a2 a3).live = s.live :=
  (State.dropCoord_keep (Keep.refl 128 s) rfl _ _ _).live rfl

@[simp] theorem State.dropCoord_user (s : State) (a1 a2 a3) : (State.dropCoord s a1 a2 a3).user = s.user :=
  (State.dropCoord_keep (Keep.refl 128 s) rfl _ _ _).user rfl

@[simp] theorem State.dropCoord_clk (s : State) (a1 a2 a3) : (State.dropCoord s a1 a2 a3).clk = s.clk :=
  (State.dropCoord_keep (Keep.refl 128 s) rfl _ _ _).clk rfl

@[simp] theorem State.dropCoord_diag (s : State) (a1 a2 a3) : (State.dropCoord s a1 a2 a3).diag = s.diag :=
  (State.dropCoord_keep (Keep.refl 128 s) rfl _ _ _).diag rfl

@[simp] theorem State.dropCoord_pow (s : State) (a1 a2 a3) : (State.dropCoord s a1 a2 a3).pow = s.pow :=
  (State.dropCoord_keep (Keep.refl 128 s) rfl _ _ _).pow rfl

@[simp] theorem State.dropCoord_mem (s : State) (a1 a2 a3) : (State.dropCoord s a1 a2 a3).mem = s.mem :=
  (State.dropCoord_keep (Keep.refl 128 s) rfl _ _ _).mem rfl

@[simp] theorem State.dropCoord_aop (s : State) (a1 a2 a3) : (State.dropCoord s a1 a2 a3).aop = s.aop :=
  (State.dropCoord_keep (Keep.refl 128 s) rfl _ _ _).aop rfl

@[simp] theorem State.dropCoord_conv (s : State) (a1 a2 a3) : (State.dropCoord s a1 a2 a3).conv = s.conv :=
  (State.dropCoord_keep (Keep.refl 128 s) rfl _ _ _).conv rfl

@[simp] theorem State.dropCoord_cal (s : State) (a1 a2 a3) : (State.dropCoord s a1 a2 a3).cal = s.cal :=
  (State.dropCoord_keep (Keep.refl 128 s) rfl _ _ _).cal rfl

@[simp] theorem State.dropCoord_eq (s : State) (a1 a2 a3) : (State.dropCoord s a1 a2 a3).eq = s.eq :=
  (State.dropCoord_keep (Keep.refl 128 s) rfl _ _ _).eq rfl

@[simp] theorem State.dropCoord_load (s : State) (a1 a2 a3) : (State.dropCoord s a1 a2 a3).load = s.load :=
  (State.dropCoord_keep (Keep.refl 128 s) rfl _ _ _).load rfl

@[simp] theorem State.dropCoord_pool (s : State) (a1 a2 a3) : (State.dropCoord s a1 a2 a3).pool = s.pool :=
  (State.dropCoord_keep (Keep.refl 128 s) rfl _ _ _).pool rfl

@[simp] theorem State.dropCoord_lanes (s : State) (a1 a2 a3) : (State.dropCoord s a1 a2 a3).lanes = s.lanes :=
  (State.dropCoord_keep (Keep.refl 128 s) rfl _ _ _).lanes rfl

@[simp] theorem State.dropCoord_ciph (s : State) (a1 a2 a3) : (State.dropCoord s a1 a2 a3).ciph = s.ciph :=
  (State.dropCoord_keep (Keep.refl 128 s) rfl _ _ _).ciph rfl

@[simp] theorem State.dropCoord_grot (s : State) (a1 a2 a3) : (State.dropCoord s a1 a2 a3).grot = s.grot :=
  (State.dropCoord_keep (Keep.refl 128 s) rfl _ _ _).grot rfl

@[simp] theorem State.dropCoord_bel (s : State) (a1 a2 a3) : (State.dropCoord s a1 a2 a3).bel = s.bel :=
  (State.dropCoord_keep (Keep.refl 128 s) rfl _ _ _).bel rfl

@[simp] theorem State.dropCoord_foot (s : State) (a1 a2 a3) : (State.dropCoord s a1 a2 a3).foot = s.foot :=
  (State.dropCoord_keep (Keep.refl 128 s) rfl _ _ _).foot rfl

@[simp] theorem State.dropCoord_av (s : State) (a1 a2 a3) : (State.dropCoord s a1 a2 a3).av = s.av :=
  (State.dropCoord_keep (Keep.refl 128 s) rfl _ _ _).av rfl

@[simp] theorem State.dropCoord_svc (s : State) (a1 a2 a3) : (State.dropCoord s a1 a2 a3).svc = s.svc :=
  (State.dropCoord_keep (Keep.refl 128 s) rfl _ _ _).svc rfl

@[simp] theorem State.dropCoord_img (s : State) (a1 a2 a3) : (State.dropCoord s a1 a2 a3).img = s.img :=
  (State.dropCoord_keep (Keep.refl 128 s) rfl _ _ _).img rfl

@[simp] theorem State.dropCoord_grp (s : State) (a1 a2 a3) : (State.dropCoord s a1 a2 a3).grp = s.grp :=
  (State.dropCoord_keep (Keep.refl 128 s) rfl _ _ _).grp rfl

@[simp] theorem State.dropCoord_dmn (s : State) (a1 a2 a3) : (State.dropCoord s a1 a2 a3).dmn = s.dmn :=
  (State.dropCoord_keep (Keep.refl 128 s) rfl _ _ _).dmn rfl

@[simp] theorem State.dropCoord_i (s : State) (a1 a2 a3) (o m) : (State.dropCoord s a1 a2 a3).i o m = s.i o m :=
  State.i_congr (by simp) (by simp) o m

@[simp] theorem State.dropCoord_u (s : State) (a1 a2 a3) (o m) : (State.dropCoord s a1 a2 a3).u o m = s.u o m :=
  congrArg Int.toNat (State.dropCoord_i ..)

@[simp] theorem State.dropCoord_o (s : State) (a1 a2 a3) (o m) : (State.dropCoord s a1 a2 a3).o o m = s.o o m :=
  State.o_congr (by simp) (by simp) o m

@[simp] theorem State.addEntry_live (s : State) (a1) : (State.addEntry s a1).2.live = s.live :=
  (State.addEntry_keep (Keep.refl 4 s) rfl _).live rfl

@[simp] theorem State.addEntry_user (s : State) (a1) : (State.addEntry s a1).2.user = s.user :=
  (State.addEntry_keep (Keep.refl 4 s) rfl _).user rfl

@[simp] theorem State.addEntry_diag (s : State) (a1) : (State.addEntry s a1).2.diag = s.diag :=
  (State.addEntry_keep (Keep.refl 4 s) rfl _).diag rfl

@[simp] theorem State.addEntry_pow (s : State) (a1) : (State.addEntry s a1).2.pow = s.pow :=
  (State.addEntry_keep (Keep.refl 4 s) rfl _).pow rfl

@[simp] theorem State.addEntry_mem (s : State) (a1) : (State.addEntry s a1).2.mem = s.mem :=
  (State.addEntry_keep (Keep.refl 4 s) rfl _).mem rfl

@[simp] theorem State.addEntry_aop (s : State) (a1) : (State.addEntry s a1).2.aop = s.aop :=
  (State.addEntry_keep (Keep.refl 4 s) rfl _).aop rfl

@[simp] theorem State.addEntry_frame (s : State) (a1) : (State.addEntry s a1).2.frame = s.frame :=
  (State.addEntry_keep (Keep.refl 4 s) rfl _).frame rfl

@[simp] theorem State.addEntry_conv (s : State) (a1) : (State.addEntry s a1).2.conv = s.conv :=
  (State.addEntry_keep (Keep.refl 4 s) rfl _).conv rfl

@[simp] theorem State.addEntry_cal (s : State) (a1) : (State.addEntry s a1).2.cal = s.cal :=
  (State.addEntry_keep (Keep.refl 4 s) rfl _).cal rfl

@[simp] theorem State.addEntry_eq (s : State) (a1) : (State.addEntry s a1).2.eq = s.eq :=
  (State.addEntry_keep (Keep.refl 4 s) rfl _).eq rfl

@[simp] theorem State.addEntry_load (s : State) (a1) : (State.addEntry s a1).2.load = s.load :=
  (State.addEntry_keep (Keep.refl 4 s) rfl _).load rfl

@[simp] theorem State.addEntry_pool (s : State) (a1) : (State.addEntry s a1).2.pool = s.pool :=
  (State.addEntry_keep (Keep.refl 4 s) rfl _).pool rfl

@[simp] theorem State.addEntry_lanes (s : State) (a1) : (State.addEntry s a1).2.lanes = s.lanes :=
  (State.addEntry_keep (Keep.refl 4 s) rfl _).lanes rfl

@[simp] theorem State.addEntry_ciph (s : State) (a1) : (State.addEntry s a1).2.ciph = s.ciph :=
  (State.addEntry_keep (Keep.refl 4 s) rfl _).ciph rfl

@[simp] theorem State.addEntry_grot (s : State) (a1) : (State.addEntry s a1).2.grot = s.grot :=
  (State.addEntry_keep (Keep.refl 4 s) rfl _).grot rfl

@[simp] theorem State.addEntry_bel (s : State) (a1) : (State.addEntry s a1).2.bel = s.bel :=
  (State.addEntry_keep (Keep.refl 4 s) rfl _).bel rfl

@[simp] theorem State.addEntry_foot (s : State) (a1) : (State.addEntry s a1).2.foot = s.foot :=
  (State.addEntry_keep (Keep.refl 4 s) rfl _).foot rfl

@[simp] theorem State.addEntry_av (s : State) (a1) : (State.addEntry s a1).2.av = s.av :=
  (State.addEntry_keep (Keep.refl 4 s) rfl _).av rfl

@[simp] theorem State.addEntry_svc (s : State) (a1) : (State.addEntry s a1).2.svc = s.svc :=
  (State.addEntry_keep (Keep.refl 4 s) rfl _).svc rfl

@[simp] theorem State.addEntry_img (s : State) (a1) : (State.addEntry s a1).2.img = s.img :=
  (State.addEntry_keep (Keep.refl 4 s) rfl _).img rfl

@[simp] theorem State.addEntry_grp (s : State) (a1) : (State.addEntry s a1).2.grp = s.grp :=
  (State.addEntry_keep (Keep.refl 4 s) rfl _).grp rfl

@[simp] theorem State.addEntry_dmn (s : State) (a1) : (State.addEntry s a1).2.dmn = s.dmn :=
  (State.addEntry_keep (Keep.refl 4 s) rfl _).dmn rfl

@[simp] theorem State.addEntry_sfn (s : State) (a1) : (State.addEntry s a1).2.clk.sfn = s.clk.sfn :=
  (State.addEntry_keep (Keep.refl 4 s) rfl _).sfn rfl

@[simp] theorem State.addEntry_i (s : State) (a1) (o m) : (State.addEntry s a1).2.i o m = s.i o m :=
  State.i_congr (by simp) (by simp) o m

@[simp] theorem State.addEntry_u (s : State) (a1) (o m) : (State.addEntry s a1).2.u o m = s.u o m :=
  congrArg Int.toNat (State.addEntry_i ..)

@[simp] theorem State.addEntry_o (s : State) (a1) (o m) : (State.addEntry s a1).2.o o m = s.o o m :=
  State.o_congr (by simp) (by simp) o m

@[simp] theorem State.logEntry_user (s : State) (a1 a2 a3) : (State.logEntry s a1 a2 a3).user = s.user :=
  (State.logEntry_keep (Keep.refl 73 s) rfl _ _ _).user rfl

@[simp] theorem State.logEntry_clk (s : State) (a1 a2 a3) : (State.logEntry s a1 a2 a3).clk = s.clk :=
  (State.logEntry_keep (Keep.refl 73 s) rfl _ _ _).clk rfl

@[simp] theorem State.logEntry_pow (s : State) (a1 a2 a3) : (State.logEntry s a1 a2 a3).pow = s.pow :=
  (State.logEntry_keep (Keep.refl 73 s) rfl _ _ _).pow rfl

@[simp] theorem State.logEntry_mem (s : State) (a1 a2 a3) : (State.logEntry s a1 a2 a3).mem = s.mem :=
  (State.logEntry_keep (Keep.refl 73 s) rfl _ _ _).mem rfl

@[simp] theorem State.logEntry_frame (s : State) (a1 a2 a3) : (State.logEntry s a1 a2 a3).frame = s.frame :=
  (State.logEntry_keep (Keep.refl 73 s) rfl _ _ _).frame rfl

@[simp] theorem State.logEntry_conv (s : State) (a1 a2 a3) : (State.logEntry s a1 a2 a3).conv = s.conv :=
  (State.logEntry_keep (Keep.refl 73 s) rfl _ _ _).conv rfl

@[simp] theorem State.logEntry_cal (s : State) (a1 a2 a3) : (State.logEntry s a1 a2 a3).cal = s.cal :=
  (State.logEntry_keep (Keep.refl 73 s) rfl _ _ _).cal rfl

@[simp] theorem State.logEntry_eq (s : State) (a1 a2 a3) : (State.logEntry s a1 a2 a3).eq = s.eq :=
  (State.logEntry_keep (Keep.refl 73 s) rfl _ _ _).eq rfl

@[simp] theorem State.logEntry_load (s : State) (a1 a2 a3) : (State.logEntry s a1 a2 a3).load = s.load :=
  (State.logEntry_keep (Keep.refl 73 s) rfl _ _ _).load rfl

@[simp] theorem State.logEntry_pool (s : State) (a1 a2 a3) : (State.logEntry s a1 a2 a3).pool = s.pool :=
  (State.logEntry_keep (Keep.refl 73 s) rfl _ _ _).pool rfl

@[simp] theorem State.logEntry_lanes (s : State) (a1 a2 a3) : (State.logEntry s a1 a2 a3).lanes = s.lanes :=
  (State.logEntry_keep (Keep.refl 73 s) rfl _ _ _).lanes rfl

@[simp] theorem State.logEntry_ciph (s : State) (a1 a2 a3) : (State.logEntry s a1 a2 a3).ciph = s.ciph :=
  (State.logEntry_keep (Keep.refl 73 s) rfl _ _ _).ciph rfl

@[simp] theorem State.logEntry_grot (s : State) (a1 a2 a3) : (State.logEntry s a1 a2 a3).grot = s.grot :=
  (State.logEntry_keep (Keep.refl 73 s) rfl _ _ _).grot rfl

@[simp] theorem State.logEntry_bel (s : State) (a1 a2 a3) : (State.logEntry s a1 a2 a3).bel = s.bel :=
  (State.logEntry_keep (Keep.refl 73 s) rfl _ _ _).bel rfl

@[simp] theorem State.logEntry_foot (s : State) (a1 a2 a3) : (State.logEntry s a1 a2 a3).foot = s.foot :=
  (State.logEntry_keep (Keep.refl 73 s) rfl _ _ _).foot rfl

@[simp] theorem State.logEntry_av (s : State) (a1 a2 a3) : (State.logEntry s a1 a2 a3).av = s.av :=
  (State.logEntry_keep (Keep.refl 73 s) rfl _ _ _).av rfl

@[simp] theorem State.logEntry_svc (s : State) (a1 a2 a3) : (State.logEntry s a1 a2 a3).svc = s.svc :=
  (State.logEntry_keep (Keep.refl 73 s) rfl _ _ _).svc rfl

@[simp] theorem State.logEntry_img (s : State) (a1 a2 a3) : (State.logEntry s a1 a2 a3).img = s.img :=
  (State.logEntry_keep (Keep.refl 73 s) rfl _ _ _).img rfl

@[simp] theorem State.logEntry_grp (s : State) (a1 a2 a3) : (State.logEntry s a1 a2 a3).grp = s.grp :=
  (State.logEntry_keep (Keep.refl 73 s) rfl _ _ _).grp rfl

@[simp] theorem State.logEntry_dmn (s : State) (a1 a2 a3) : (State.logEntry s a1 a2 a3).dmn = s.dmn :=
  (State.logEntry_keep (Keep.refl 73 s) rfl _ _ _).dmn rfl

theorem State.logEntry_waits (s : State) (a1 a2 a3) : s.diag.waiting <+: (State.logEntry s a1 a2 a3).diag.waiting :=
  (State.logEntry_keep (Keep.refl 73 s) rfl _ _ _).waits rfl

@[simp] theorem State.accept_live (s : State) (a1 a2 a3 a4 a5 a6 a7 a8) : (State.accept s a1 a2 a3 a4 a5 a6 a7 a8).live = s.live :=
  (State.accept_keep (Keep.refl 72 s) rfl _ _ _ _ _ _ _ _).live rfl

@[simp] theorem State.accept_user (s : State) (a1 a2 a3 a4 a5 a6 a7 a8) : (State.accept s a1 a2 a3 a4 a5 a6 a7 a8).user = s.user :=
  (State.accept_keep (Keep.refl 72 s) rfl _ _ _ _ _ _ _ _).user rfl

@[simp] theorem State.accept_clk (s : State) (a1 a2 a3 a4 a5 a6 a7 a8) : (State.accept s a1 a2 a3 a4 a5 a6 a7 a8).clk = s.clk :=
  (State.accept_keep (Keep.refl 72 s) rfl _ _ _ _ _ _ _ _).clk rfl

@[simp] theorem State.accept_pow (s : State) (a1 a2 a3 a4 a5 a6 a7 a8) : (State.accept s a1 a2 a3 a4 a5 a6 a7 a8).pow = s.pow :=
  (State.accept_keep (Keep.refl 72 s) rfl _ _ _ _ _ _ _ _).pow rfl

@[simp] theorem State.accept_mem (s : State) (a1 a2 a3 a4 a5 a6 a7 a8) : (State.accept s a1 a2 a3 a4 a5 a6 a7 a8).mem = s.mem :=
  (State.accept_keep (Keep.refl 72 s) rfl _ _ _ _ _ _ _ _).mem rfl

@[simp] theorem State.accept_frame (s : State) (a1 a2 a3 a4 a5 a6 a7 a8) : (State.accept s a1 a2 a3 a4 a5 a6 a7 a8).frame = s.frame :=
  (State.accept_keep (Keep.refl 72 s) rfl _ _ _ _ _ _ _ _).frame rfl

@[simp] theorem State.accept_conv (s : State) (a1 a2 a3 a4 a5 a6 a7 a8) : (State.accept s a1 a2 a3 a4 a5 a6 a7 a8).conv = s.conv :=
  (State.accept_keep (Keep.refl 72 s) rfl _ _ _ _ _ _ _ _).conv rfl

@[simp] theorem State.accept_cal (s : State) (a1 a2 a3 a4 a5 a6 a7 a8) : (State.accept s a1 a2 a3 a4 a5 a6 a7 a8).cal = s.cal :=
  (State.accept_keep (Keep.refl 72 s) rfl _ _ _ _ _ _ _ _).cal rfl

@[simp] theorem State.accept_eq (s : State) (a1 a2 a3 a4 a5 a6 a7 a8) : (State.accept s a1 a2 a3 a4 a5 a6 a7 a8).eq = s.eq :=
  (State.accept_keep (Keep.refl 72 s) rfl _ _ _ _ _ _ _ _).eq rfl

@[simp] theorem State.accept_load (s : State) (a1 a2 a3 a4 a5 a6 a7 a8) : (State.accept s a1 a2 a3 a4 a5 a6 a7 a8).load = s.load :=
  (State.accept_keep (Keep.refl 72 s) rfl _ _ _ _ _ _ _ _).load rfl

@[simp] theorem State.accept_pool (s : State) (a1 a2 a3 a4 a5 a6 a7 a8) : (State.accept s a1 a2 a3 a4 a5 a6 a7 a8).pool = s.pool :=
  (State.accept_keep (Keep.refl 72 s) rfl _ _ _ _ _ _ _ _).pool rfl

@[simp] theorem State.accept_lanes (s : State) (a1 a2 a3 a4 a5 a6 a7 a8) : (State.accept s a1 a2 a3 a4 a5 a6 a7 a8).lanes = s.lanes :=
  (State.accept_keep (Keep.refl 72 s) rfl _ _ _ _ _ _ _ _).lanes rfl

@[simp] theorem State.accept_ciph (s : State) (a1 a2 a3 a4 a5 a6 a7 a8) : (State.accept s a1 a2 a3 a4 a5 a6 a7 a8).ciph = s.ciph :=
  (State.accept_keep (Keep.refl 72 s) rfl _ _ _ _ _ _ _ _).ciph rfl

@[simp] theorem State.accept_grot (s : State) (a1 a2 a3 a4 a5 a6 a7 a8) : (State.accept s a1 a2 a3 a4 a5 a6 a7 a8).grot = s.grot :=
  (State.accept_keep (Keep.refl 72 s) rfl _ _ _ _ _ _ _ _).grot rfl

@[simp] theorem State.accept_bel (s : State) (a1 a2 a3 a4 a5 a6 a7 a8) : (State.accept s a1 a2 a3 a4 a5 a6 a7 a8).bel = s.bel :=
  (State.accept_keep (Keep.refl 72 s) rfl _ _ _ _ _ _ _ _).bel rfl

@[simp] theorem State.accept_foot (s : State) (a1 a2 a3 a4 a5 a6 a7 a8) : (State.accept s a1 a2 a3 a4 a5 a6 a7 a8).foot = s.foot :=
  (State.accept_keep (Keep.refl 72 s) rfl _ _ _ _ _ _ _ _).foot rfl

@[simp] theorem State.accept_av (s : State) (a1 a2 a3 a4 a5 a6 a7 a8) : (State.accept s a1 a2 a3 a4 a5 a6 a7 a8).av = s.av :=
  (State.accept_keep (Keep.refl 72 s) rfl _ _ _ _ _ _ _ _).av rfl

@[simp] theorem State.accept_svc (s : State) (a1 a2 a3 a4 a5 a6 a7 a8) : (State.accept s a1 a2 a3 a4 a5 a6 a7 a8).svc = s.svc :=
  (State.accept_keep (Keep.refl 72 s) rfl _ _ _ _ _ _ _ _).svc rfl

@[simp] theorem State.accept_img (s : State) (a1 a2 a3 a4 a5 a6 a7 a8) : (State.accept s a1 a2 a3 a4 a5 a6 a7 a8).img = s.img :=
  (State.accept_keep (Keep.refl 72 s) rfl _ _ _ _ _ _ _ _).img rfl

@[simp] theorem State.accept_grp (s : State) (a1 a2 a3 a4 a5 a6 a7 a8) : (State.accept s a1 a2 a3 a4 a5 a6 a7 a8).grp = s.grp :=
  (State.accept_keep (Keep.refl 72 s) rfl _ _ _ _ _ _ _ _).grp rfl

@[simp] theorem State.accept_dmn (s : State) (a1 a2 a3 a4 a5 a6 a7 a8) : (State.accept s a1 a2 a3 a4 a5 a6 a7 a8).dmn = s.dmn :=
  (State.accept_keep (Keep.refl 72 s) rfl _ _ _ _ _ _ _ _).dmn rfl

theorem State.accept_waits (s : State) (a1 a2 a3 a4 a5 a6 a7 a8) : s.diag.waiting <+: (State.accept s a1 a2 a3 a4 a5 a6 a7 a8).diag.waiting :=
  (State.accept_keep (Keep.refl 72 s) rfl _ _ _ _ _ _ _ _).waits rfl

@[simp] theorem State.accept_i (s : State) (a1 a2 a3 a4 a5 a6 a7 a8) (o m) : (State.accept s a1 a2 a3 a4 a5 a6 a7 a8).i o m = s.i o m :=
  State.i_congr (by simp) (by simp) o m

@[simp] theorem State.accept_u (s : State) (a1 a2 a3 a4 a5 a6 a7 a8) (o m) : (State.accept s a1 a2 a3 a4 a5 a6 a7 a8).u o m = s.u o m :=
  congrArg Int.toNat (State.accept_i ..)

@[simp] theorem State.accept_o (s : State) (a1 a2 a3 a4 a5 a6 a7 a8) (o m) : (State.accept s a1 a2 a3 a4 a5 a6 a7 a8).o o m = s.o o m :=
  State.o_congr (by simp) (by simp) o m

@[simp] theorem State.refuse_live (s : State) (a1 a2 a3 a4 a5) : (State.refuse s a1 a2 a3 a4 a5).live = s.live :=
  (State.refuse_keep (Keep.refl 72 s) rfl _ _ _ _ _).live rfl

@[simp] theorem State.refuse_user (s : State) (a1 a2 a3 a4 a5) : (State.refuse s a1 a2 a3 a4 a5).user = s.user :=
  (State.refuse_keep (Keep.refl 72 s) rfl _ _ _ _ _).user rfl

@[simp] theorem State.refuse_clk (s : State) (a1 a2 a3 a4 a5) : (State.refuse s a1 a2 a3 a4 a5).clk = s.clk :=
  (State.refuse_keep (Keep.refl 72 s) rfl _ _ _ _ _).clk rfl

@[simp] theorem State.refuse_pow (s : State) (a1 a2 a3 a4 a5) : (State.refuse s a1 a2 a3 a4 a5).pow = s.pow :=
  (State.refuse_keep (Keep.refl 72 s) rfl _ _ _ _ _).pow rfl

@[simp] theorem State.refuse_mem (s : State) (a1 a2 a3 a4 a5) : (State.refuse s a1 a2 a3 a4 a5).mem = s.mem :=
  (State.refuse_keep (Keep.refl 72 s) rfl _ _ _ _ _).mem rfl

@[simp] theorem State.refuse_frame (s : State) (a1 a2 a3 a4 a5) : (State.refuse s a1 a2 a3 a4 a5).frame = s.frame :=
  (State.refuse_keep (Keep.refl 72 s) rfl _ _ _ _ _).frame rfl

@[simp] theorem State.refuse_conv (s : State) (a1 a2 a3 a4 a5) : (State.refuse s a1 a2 a3 a4 a5).conv = s.conv :=
  (State.refuse_keep (Keep.refl 72 s) rfl _ _ _ _ _).conv rfl

@[simp] theorem State.refuse_cal (s : State) (a1 a2 a3 a4 a5) : (State.refuse s a1 a2 a3 a4 a5).cal = s.cal :=
  (State.refuse_keep (Keep.refl 72 s) rfl _ _ _ _ _).cal rfl

@[simp] theorem State.refuse_eq (s : State) (a1 a2 a3 a4 a5) : (State.refuse s a1 a2 a3 a4 a5).eq = s.eq :=
  (State.refuse_keep (Keep.refl 72 s) rfl _ _ _ _ _).eq rfl

@[simp] theorem State.refuse_load (s : State) (a1 a2 a3 a4 a5) : (State.refuse s a1 a2 a3 a4 a5).load = s.load :=
  (State.refuse_keep (Keep.refl 72 s) rfl _ _ _ _ _).load rfl

@[simp] theorem State.refuse_pool (s : State) (a1 a2 a3 a4 a5) : (State.refuse s a1 a2 a3 a4 a5).pool = s.pool :=
  (State.refuse_keep (Keep.refl 72 s) rfl _ _ _ _ _).pool rfl

@[simp] theorem State.refuse_lanes (s : State) (a1 a2 a3 a4 a5) : (State.refuse s a1 a2 a3 a4 a5).lanes = s.lanes :=
  (State.refuse_keep (Keep.refl 72 s) rfl _ _ _ _ _).lanes rfl

@[simp] theorem State.refuse_ciph (s : State) (a1 a2 a3 a4 a5) : (State.refuse s a1 a2 a3 a4 a5).ciph = s.ciph :=
  (State.refuse_keep (Keep.refl 72 s) rfl _ _ _ _ _).ciph rfl

@[simp] theorem State.refuse_grot (s : State) (a1 a2 a3 a4 a5) : (State.refuse s a1 a2 a3 a4 a5).grot = s.grot :=
  (State.refuse_keep (Keep.refl 72 s) rfl _ _ _ _ _).grot rfl

@[simp] theorem State.refuse_bel (s : State) (a1 a2 a3 a4 a5) : (State.refuse s a1 a2 a3 a4 a5).bel = s.bel :=
  (State.refuse_keep (Keep.refl 72 s) rfl _ _ _ _ _).bel rfl

@[simp] theorem State.refuse_foot (s : State) (a1 a2 a3 a4 a5) : (State.refuse s a1 a2 a3 a4 a5).foot = s.foot :=
  (State.refuse_keep (Keep.refl 72 s) rfl _ _ _ _ _).foot rfl

@[simp] theorem State.refuse_av (s : State) (a1 a2 a3 a4 a5) : (State.refuse s a1 a2 a3 a4 a5).av = s.av :=
  (State.refuse_keep (Keep.refl 72 s) rfl _ _ _ _ _).av rfl

@[simp] theorem State.refuse_svc (s : State) (a1 a2 a3 a4 a5) : (State.refuse s a1 a2 a3 a4 a5).svc = s.svc :=
  (State.refuse_keep (Keep.refl 72 s) rfl _ _ _ _ _).svc rfl

@[simp] theorem State.refuse_img (s : State) (a1 a2 a3 a4 a5) : (State.refuse s a1 a2 a3 a4 a5).img = s.img :=
  (State.refuse_keep (Keep.refl 72 s) rfl _ _ _ _ _).img rfl

@[simp] theorem State.refuse_grp (s : State) (a1 a2 a3 a4 a5) : (State.refuse s a1 a2 a3 a4 a5).grp = s.grp :=
  (State.refuse_keep (Keep.refl 72 s) rfl _ _ _ _ _).grp rfl

@[simp] theorem State.refuse_dmn (s : State) (a1 a2 a3 a4 a5) : (State.refuse s a1 a2 a3 a4 a5).dmn = s.dmn :=
  (State.refuse_keep (Keep.refl 72 s) rfl _ _ _ _ _).dmn rfl

theorem State.refuse_waits (s : State) (a1 a2 a3 a4 a5) : s.diag.waiting <+: (State.refuse s a1 a2 a3 a4 a5).diag.waiting :=
  (State.refuse_keep (Keep.refl 72 s) rfl _ _ _ _ _).waits rfl

@[simp] theorem State.refuse_i (s : State) (a1 a2 a3 a4 a5) (o m) : (State.refuse s a1 a2 a3 a4 a5).i o m = s.i o m :=
  State.i_congr (by simp) (by simp) o m

@[simp] theorem State.refuse_u (s : State) (a1 a2 a3 a4 a5) (o m) : (State.refuse s a1 a2 a3 a4 a5).u o m = s.u o m :=
  congrArg Int.toNat (State.refuse_i ..)

@[simp] theorem State.refuse_o (s : State) (a1 a2 a3 a4 a5) (o m) : (State.refuse s a1 a2 a3 a4 a5).o o m = s.o o m :=
  State.o_congr (by simp) (by simp) o m

@[simp] theorem State.refuseMsg_live (s : State) (a1 a2) : (State.refuseMsg s a1 a2).live = s.live :=
  (State.refuseMsg_keep (Keep.refl 64 s) rfl _ _).live rfl

@[simp] theorem State.refuseMsg_user (s : State) (a1 a2) : (State.refuseMsg s a1 a2).user = s.user :=
  (State.refuseMsg_keep (Keep.refl 64 s) rfl _ _).user rfl

@[simp] theorem State.refuseMsg_clk (s : State) (a1 a2) : (State.refuseMsg s a1 a2).clk = s.clk :=
  (State.refuseMsg_keep (Keep.refl 64 s) rfl _ _).clk rfl

@[simp] theorem State.refuseMsg_diag (s : State) (a1 a2) : (State.refuseMsg s a1 a2).diag = s.diag :=
  (State.refuseMsg_keep (Keep.refl 64 s) rfl _ _).diag rfl

@[simp] theorem State.refuseMsg_pow (s : State) (a1 a2) : (State.refuseMsg s a1 a2).pow = s.pow :=
  (State.refuseMsg_keep (Keep.refl 64 s) rfl _ _).pow rfl

@[simp] theorem State.refuseMsg_mem (s : State) (a1 a2) : (State.refuseMsg s a1 a2).mem = s.mem :=
  (State.refuseMsg_keep (Keep.refl 64 s) rfl _ _).mem rfl

@[simp] theorem State.refuseMsg_frame (s : State) (a1 a2) : (State.refuseMsg s a1 a2).frame = s.frame :=
  (State.refuseMsg_keep (Keep.refl 64 s) rfl _ _).frame rfl

@[simp] theorem State.refuseMsg_conv (s : State) (a1 a2) : (State.refuseMsg s a1 a2).conv = s.conv :=
  (State.refuseMsg_keep (Keep.refl 64 s) rfl _ _).conv rfl

@[simp] theorem State.refuseMsg_cal (s : State) (a1 a2) : (State.refuseMsg s a1 a2).cal = s.cal :=
  (State.refuseMsg_keep (Keep.refl 64 s) rfl _ _).cal rfl

@[simp] theorem State.refuseMsg_eq (s : State) (a1 a2) : (State.refuseMsg s a1 a2).eq = s.eq :=
  (State.refuseMsg_keep (Keep.refl 64 s) rfl _ _).eq rfl

@[simp] theorem State.refuseMsg_load (s : State) (a1 a2) : (State.refuseMsg s a1 a2).load = s.load :=
  (State.refuseMsg_keep (Keep.refl 64 s) rfl _ _).load rfl

@[simp] theorem State.refuseMsg_pool (s : State) (a1 a2) : (State.refuseMsg s a1 a2).pool = s.pool :=
  (State.refuseMsg_keep (Keep.refl 64 s) rfl _ _).pool rfl

@[simp] theorem State.refuseMsg_lanes (s : State) (a1 a2) : (State.refuseMsg s a1 a2).lanes = s.lanes :=
  (State.refuseMsg_keep (Keep.refl 64 s) rfl _ _).lanes rfl

@[simp] theorem State.refuseMsg_ciph (s : State) (a1 a2) : (State.refuseMsg s a1 a2).ciph = s.ciph :=
  (State.refuseMsg_keep (Keep.refl 64 s) rfl _ _).ciph rfl

@[simp] theorem State.refuseMsg_grot (s : State) (a1 a2) : (State.refuseMsg s a1 a2).grot = s.grot :=
  (State.refuseMsg_keep (Keep.refl 64 s) rfl _ _).grot rfl

@[simp] theorem State.refuseMsg_bel (s : State) (a1 a2) : (State.refuseMsg s a1 a2).bel = s.bel :=
  (State.refuseMsg_keep (Keep.refl 64 s) rfl _ _).bel rfl

@[simp] theorem State.refuseMsg_foot (s : State) (a1 a2) : (State.refuseMsg s a1 a2).foot = s.foot :=
  (State.refuseMsg_keep (Keep.refl 64 s) rfl _ _).foot rfl

@[simp] theorem State.refuseMsg_av (s : State) (a1 a2) : (State.refuseMsg s a1 a2).av = s.av :=
  (State.refuseMsg_keep (Keep.refl 64 s) rfl _ _).av rfl

@[simp] theorem State.refuseMsg_svc (s : State) (a1 a2) : (State.refuseMsg s a1 a2).svc = s.svc :=
  (State.refuseMsg_keep (Keep.refl 64 s) rfl _ _).svc rfl

@[simp] theorem State.refuseMsg_img (s : State) (a1 a2) : (State.refuseMsg s a1 a2).img = s.img :=
  (State.refuseMsg_keep (Keep.refl 64 s) rfl _ _).img rfl

@[simp] theorem State.refuseMsg_grp (s : State) (a1 a2) : (State.refuseMsg s a1 a2).grp = s.grp :=
  (State.refuseMsg_keep (Keep.refl 64 s) rfl _ _).grp rfl

@[simp] theorem State.refuseMsg_dmn (s : State) (a1 a2) : (State.refuseMsg s a1 a2).dmn = s.dmn :=
  (State.refuseMsg_keep (Keep.refl 64 s) rfl _ _).dmn rfl

@[simp] theorem State.refuseMsg_i (s : State) (a1 a2) (o m) : (State.refuseMsg s a1 a2).i o m = s.i o m :=
  State.i_congr (by simp) (by simp) o m

@[simp] theorem State.refuseMsg_u (s : State) (a1 a2) (o m) : (State.refuseMsg s a1 a2).u o m = s.u o m :=
  congrArg Int.toNat (State.refuseMsg_i ..)

@[simp] theorem State.refuseMsg_o (s : State) (a1 a2) (o m) : (State.refuseMsg s a1 a2).o o m = s.o o m :=
  State.o_congr (by simp) (by simp) o m

@[simp] theorem State.touch_live (s : State) (a1) : (State.touch s a1).live = s.live :=
  (State.touch_keep (Keep.refl 16 s) rfl _).live rfl

@[simp] theorem State.touch_user (s : State) (a1) : (State.touch s a1).user = s.user :=
  (State.touch_keep (Keep.refl 16 s) rfl _).user rfl

@[simp] theorem State.touch_clk (s : State) (a1) : (State.touch s a1).clk = s.clk :=
  (State.touch_keep (Keep.refl 16 s) rfl _).clk rfl

@[simp] theorem State.touch_diag (s : State) (a1) : (State.touch s a1).diag = s.diag :=
  (State.touch_keep (Keep.refl 16 s) rfl _).diag rfl

@[simp] theorem State.touch_mem (s : State) (a1) : (State.touch s a1).mem = s.mem :=
  (State.touch_keep (Keep.refl 16 s) rfl _).mem rfl

@[simp] theorem State.touch_aop (s : State) (a1) : (State.touch s a1).aop = s.aop :=
  (State.touch_keep (Keep.refl 16 s) rfl _).aop rfl

@[simp] theorem State.touch_frame (s : State) (a1) : (State.touch s a1).frame = s.frame :=
  (State.touch_keep (Keep.refl 16 s) rfl _).frame rfl

@[simp] theorem State.touch_conv (s : State) (a1) : (State.touch s a1).conv = s.conv :=
  (State.touch_keep (Keep.refl 16 s) rfl _).conv rfl

@[simp] theorem State.touch_cal (s : State) (a1) : (State.touch s a1).cal = s.cal :=
  (State.touch_keep (Keep.refl 16 s) rfl _).cal rfl

@[simp] theorem State.touch_eq (s : State) (a1) : (State.touch s a1).eq = s.eq :=
  (State.touch_keep (Keep.refl 16 s) rfl _).eq rfl

@[simp] theorem State.touch_load (s : State) (a1) : (State.touch s a1).load = s.load :=
  (State.touch_keep (Keep.refl 16 s) rfl _).load rfl

@[simp] theorem State.touch_pool (s : State) (a1) : (State.touch s a1).pool = s.pool :=
  (State.touch_keep (Keep.refl 16 s) rfl _).pool rfl

@[simp] theorem State.touch_lanes (s : State) (a1) : (State.touch s a1).lanes = s.lanes :=
  (State.touch_keep (Keep.refl 16 s) rfl _).lanes rfl

@[simp] theorem State.touch_ciph (s : State) (a1) : (State.touch s a1).ciph = s.ciph :=
  (State.touch_keep (Keep.refl 16 s) rfl _).ciph rfl

@[simp] theorem State.touch_grot (s : State) (a1) : (State.touch s a1).grot = s.grot :=
  (State.touch_keep (Keep.refl 16 s) rfl _).grot rfl

@[simp] theorem State.touch_bel (s : State) (a1) : (State.touch s a1).bel = s.bel :=
  (State.touch_keep (Keep.refl 16 s) rfl _).bel rfl

@[simp] theorem State.touch_foot (s : State) (a1) : (State.touch s a1).foot = s.foot :=
  (State.touch_keep (Keep.refl 16 s) rfl _).foot rfl

@[simp] theorem State.touch_av (s : State) (a1) : (State.touch s a1).av = s.av :=
  (State.touch_keep (Keep.refl 16 s) rfl _).av rfl

@[simp] theorem State.touch_svc (s : State) (a1) : (State.touch s a1).svc = s.svc :=
  (State.touch_keep (Keep.refl 16 s) rfl _).svc rfl

@[simp] theorem State.touch_img (s : State) (a1) : (State.touch s a1).img = s.img :=
  (State.touch_keep (Keep.refl 16 s) rfl _).img rfl

@[simp] theorem State.touch_grp (s : State) (a1) : (State.touch s a1).grp = s.grp :=
  (State.touch_keep (Keep.refl 16 s) rfl _).grp rfl

@[simp] theorem State.touch_dmn (s : State) (a1) : (State.touch s a1).dmn = s.dmn :=
  (State.touch_keep (Keep.refl 16 s) rfl _).dmn rfl

@[simp] theorem State.touch_i (s : State) (a1) (o m) : (State.touch s a1).i o m = s.i o m :=
  State.i_congr (by simp) (by simp) o m

@[simp] theorem State.touch_u (s : State) (a1) (o m) : (State.touch s a1).u o m = s.u o m :=
  congrArg Int.toNat (State.touch_i ..)

@[simp] theorem State.touch_o (s : State) (a1) (o m) : (State.touch s a1).o o m = s.o o m :=
  State.o_congr (by simp) (by simp) o m

@[simp] theorem State.respond_live (s : State) (a1 a2) : (State.respond s a1 a2).live = s.live :=
  (State.respond_keep (Keep.refl 64 s) rfl _ _).live rfl

@[simp] theorem State.respond_user (s : State) (a1 a2) : (State.respond s a1 a2).user = s.user :=
  (State.respond_keep (Keep.refl 64 s) rfl _ _).user rfl

@[simp] theorem State.respond_clk (s : State) (a1 a2) : (State.respond s a1 a2).clk = s.clk :=
  (State.respond_keep (Keep.refl 64 s) rfl _ _).clk rfl

@[simp] theorem State.respond_diag (s : State) (a1 a2) : (State.respond s a1 a2).diag = s.diag :=
  (State.respond_keep (Keep.refl 64 s) rfl _ _).diag rfl

@[simp] theorem State.respond_pow (s : State) (a1 a2) : (State.respond s a1 a2).pow = s.pow :=
  (State.respond_keep (Keep.refl 64 s) rfl _ _).pow rfl

@[simp] theorem State.respond_mem (s : State) (a1 a2) : (State.respond s a1 a2).mem = s.mem :=
  (State.respond_keep (Keep.refl 64 s) rfl _ _).mem rfl

@[simp] theorem State.respond_frame (s : State) (a1 a2) : (State.respond s a1 a2).frame = s.frame :=
  (State.respond_keep (Keep.refl 64 s) rfl _ _).frame rfl

@[simp] theorem State.respond_conv (s : State) (a1 a2) : (State.respond s a1 a2).conv = s.conv :=
  (State.respond_keep (Keep.refl 64 s) rfl _ _).conv rfl

@[simp] theorem State.respond_cal (s : State) (a1 a2) : (State.respond s a1 a2).cal = s.cal :=
  (State.respond_keep (Keep.refl 64 s) rfl _ _).cal rfl

@[simp] theorem State.respond_eq (s : State) (a1 a2) : (State.respond s a1 a2).eq = s.eq :=
  (State.respond_keep (Keep.refl 64 s) rfl _ _).eq rfl

@[simp] theorem State.respond_load (s : State) (a1 a2) : (State.respond s a1 a2).load = s.load :=
  (State.respond_keep (Keep.refl 64 s) rfl _ _).load rfl

@[simp] theorem State.respond_pool (s : State) (a1 a2) : (State.respond s a1 a2).pool = s.pool :=
  (State.respond_keep (Keep.refl 64 s) rfl _ _).pool rfl

@[simp] theorem State.respond_lanes (s : State) (a1 a2) : (State.respond s a1 a2).lanes = s.lanes :=
  (State.respond_keep (Keep.refl 64 s) rfl _ _).lanes rfl

@[simp] theorem State.respond_ciph (s : State) (a1 a2) : (State.respond s a1 a2).ciph = s.ciph :=
  (State.respond_keep (Keep.refl 64 s) rfl _ _).ciph rfl

@[simp] theorem State.respond_grot (s : State) (a1 a2) : (State.respond s a1 a2).grot = s.grot :=
  (State.respond_keep (Keep.refl 64 s) rfl _ _).grot rfl

@[simp] theorem State.respond_bel (s : State) (a1 a2) : (State.respond s a1 a2).bel = s.bel :=
  (State.respond_keep (Keep.refl 64 s) rfl _ _).bel rfl

@[simp] theorem State.respond_foot (s : State) (a1 a2) : (State.respond s a1 a2).foot = s.foot :=
  (State.respond_keep (Keep.refl 64 s) rfl _ _).foot rfl

@[simp] theorem State.respond_av (s : State) (a1 a2) : (State.respond s a1 a2).av = s.av :=
  (State.respond_keep (Keep.refl 64 s) rfl _ _).av rfl

@[simp] theorem State.respond_svc (s : State) (a1 a2) : (State.respond s a1 a2).svc = s.svc :=
  (State.respond_keep (Keep.refl 64 s) rfl _ _).svc rfl

@[simp] theorem State.respond_img (s : State) (a1 a2) : (State.respond s a1 a2).img = s.img :=
  (State.respond_keep (Keep.refl 64 s) rfl _ _).img rfl

@[simp] theorem State.respond_grp (s : State) (a1 a2) : (State.respond s a1 a2).grp = s.grp :=
  (State.respond_keep (Keep.refl 64 s) rfl _ _).grp rfl

@[simp] theorem State.respond_dmn (s : State) (a1 a2) : (State.respond s a1 a2).dmn = s.dmn :=
  (State.respond_keep (Keep.refl 64 s) rfl _ _).dmn rfl

@[simp] theorem State.respond_i (s : State) (a1 a2) (o m) : (State.respond s a1 a2).i o m = s.i o m :=
  State.i_congr (by simp) (by simp) o m

@[simp] theorem State.respond_u (s : State) (a1 a2) (o m) : (State.respond s a1 a2).u o m = s.u o m :=
  congrArg Int.toNat (State.respond_i ..)

@[simp] theorem State.respond_o (s : State) (a1 a2) (o m) : (State.respond s a1 a2).o o m = s.o o m :=
  State.o_congr (by simp) (by simp) o m
/-! ## Lists by position -/

theorem getElem?_modNth {α : Type} (l : List α) (i j : Nat) (f : α → α) :
    (modNth l i f)[j]? = if i = j then l[j]?.map f else l[j]? := by
  induction l generalizing i j with
  | nil => simp [modNth]
  | cons y l ih =>
    cases i <;> cases j <;> simp [modNth, ih]

theorem nth_modNth_other {α : Type} (l : List α) {i j : Nat} (f : α → α) (d : α) (h : i ≠ j) :
    nth (modNth l i f) j d = nth l j d := by
  simp [nth, getElem?_modNth, h]

theorem nth_modNth_same {α : Type} (l : List α) {i : Nat} (f : α → α) (d : α) (h : i < l.length) :
    nth (modNth l i f) i d = f (nth l i d) := by
  simp [nth, getElem?_modNth, h]

/-- What a function leaves alone in each entry stands in every position after it. -/
theorem nth_modNth_keep {α β : Type} (p : α → β) (l : List α) (i j : Nat) (f : α → α) (d : α)
    (h : ∀ x, p (f x) = p x) : p (nth (modNth l i f) j d) = p (nth l j d) := by
  simp only [nth, getElem?_modNth]
  split
  · cases l[j]? <;> simp [h]
  · rfl

theorem getElem?_setNth {α : Type} (l : List α) (i j : Nat) (x : α) :
    (setNth l i x)[j]? = if i = j ∧ j < l.length then some x else l[j]? := by
  induction l generalizing i j with
  | nil => simp [setNth]
  | cons y l ih =>
    cases i <;> cases j <;> simp [setNth, ih]

@[simp] theorem Pair.get_upd_same {α : Type} (p : Pair α) (c : Carrier) (f : α → α) :
    (p.upd c f).get c = f (p.get c) := by
  cases c <;> rfl

theorem Pair.get_upd_other {α : Type} (p : Pair α) {c d : Carrier} (f : α → α) (h : d ≠ c) :
    (p.upd c f).get d = p.get d := by
  cases c <;> cases d <;> first | exact absurd rfl h | rfl

/-! ## A carrier's parts -/

@[simp] theorem State.rxs_setRx_same (s : State) (c : Carrier) (f : EqSt → EqSt) : (s.setRx c f).rxs c = f (s.rxs c) :=
  Pair.get_upd_same _ _ _

@[simp] theorem State.fr_setFr_same (s : State) (c : Carrier) (f : FrameSt → FrameSt) : (s.setFr c f).fr c = f (s.fr c) :=
  Pair.get_upd_same _ _ _

@[simp] theorem State.ft_setFt_same (s : State) (c : Carrier) (f : FootSt → FootSt) : (s.setFt c f).ft c = f (s.ft c) :=
  Pair.get_upd_same _ _ _

@[simp] theorem State.ld_setLd_same (s : State) (c : Carrier) (f : LoadSt → LoadSt) : (s.setLd c f).ld c = f (s.ld c) :=
  Pair.get_upd_same _ _ _

theorem State.rxs_congr {s t : State} (h : t.eq = s.eq) (c : Carrier) : t.rxs c = s.rxs c := by
  unfold State.rxs; rw [h]

theorem State.fr_congr {s t : State} (h : t.frame = s.frame) (c : Carrier) : t.fr c = s.fr c := by
  unfold State.fr; rw [h]

theorem State.ft_congr {s t : State} (h : t.foot = s.foot) (c : Carrier) : t.ft c = s.ft c := by
  unfold State.ft; rw [h]

theorem State.ld_congr {s t : State} (h : t.load = s.load) (c : Carrier) : t.ld c = s.ld c := by
  unfold State.ld; rw [h]

/-! ## Inputs -/

theorem State.input_congr {s t : State} (h : t.bel = s.bel) (i : Nat) : t.input i = s.input i := by
  unfold State.input; rw [h]

theorem State.input_setInput_same (s : State) {i : Nat} (f : RefSt → RefSt) (h : i < s.bel.inputs.length) :
    (s.setInput i f).input i = f (s.input i) :=
  nth_modNth_same _ _ _ h

/-! ## Contexts -/

theorem State.ctx_congr {s t : State} (h : t.ciph = s.ciph) (c : Carrier) (d : Dir) (k : Nat) :
    t.ctx c d k = s.ctx c d k := by
  unfold State.ctx; rw [h]

theorem State.ctx_setCtx_same (s : State) (c : Carrier) (d : Dir) {k : Nat} (f : Ctx → Ctx)
    (h : k < ((s.ciph.get c).dir d).length) : (s.setCtx c d k f).ctx c d k = f (s.ctx c d k) := by
  unfold State.setCtx
  rw [State.ctx_congr ((State.showCtx_keep (Keep.refl 1 _) rfl c d k).ciph rfl)]
  unfold State.ctx State.setCi
  rw [Pair.get_upd_same]
  cases d
  · exact nth_modNth_same _ _ _ h
  · exact nth_modNth_same _ _ _ h

/-! ## Converters -/

theorem State.cv_congr {s t : State} (h : t.conv = s.conv) (c : Carrier) (k : Nat) : t.cv c k = s.cv c k := by
  unfold State.cv; rw [h]

theorem State.cv_setCv_same (s : State) (c : Carrier) {k : Nat} (f : Conv → Conv) (h : k < (s.conv.get c).convs.length) :
    (s.setCv c k f).cv c k = f (s.cv c k) := by
  unfold State.cv State.setCv
  rw [Pair.get_upd_same]
  exact nth_modNth_same _ _ _ h

theorem State.convs_setCv (s : State) (c : Carrier) (k : Nat) (f : Conv → Conv) :
    ((s.setCv c k f).conv.get c).convs.length = (s.conv.get c).convs.length := by
  unfold State.setCv
  rw [Pair.get_upd_same]
  have : ∀ (l : List Conv) (k : Nat), (modNth l k f).length = l.length := by
    intro l
    induction l with
    | nil => intro k; rfl
    | cons x l ih => intro k; cases k <;> simp [modNth, ih]
  exact this _ _

theorem Conv.slice_setSlice_same (v : Conv) {i : Nat} (f : Slice → Slice) (h : i < v.slices.length) :
    (v.setSlice i f).slice i = f (v.slice i) :=
  nth_modNth_same _ _ _ h

/-- A window or swap that is armed stands in the table as it was asked for, but for its number and SFN (R39, R54). -/
theorem State.arm_some (s : State) (e : Entry) (h : (s.arm e).1.isSome = true) :
    ∃ x ∈ (s.arm e).2.clk.entries, x.kind = e.kind ∧ x.carrier = e.carrier ∧ x.data = e.data ∧ x.key = e.key ∧
      x.count = e.count := by
  unfold State.arm at h ⊢
  split at h
  · cases h
  · rename_i h1
    rw [if_neg h1]
    dsimp only at h ⊢
    split at h
    · cases h
    · rename_i n hn
      split at h
      · rename_i h2
        rw [if_pos h2]
        refine ⟨{ e with num := (s.addEntry e).1 }, ?_, rfl, rfl, rfl, rfl, rfl⟩
        simp [State.addEntry, State.setEntries]
      · rename_i h2
        rw [if_neg h2]
        split at h
        · cases h
        · rename_i h3
          rw [if_neg h3]
          split at h
          · cases h
          · rename_i h4
            rw [if_neg h4]
            dsimp only
            simp only [State.logEntry_clk, State.occur_clk, State.bump_clk]
            refine ⟨{ e with
              num := (s.addEntry { e with sfn := n, orig := n, moves := e.moves + 1 }).1
              sfn := n, orig := n, moves := e.moves + 1 }, ?_, rfl, rfl, rfl, rfl, rfl⟩
            simp [State.addEntry, State.setEntries]

/-- An entry that enters the table stands in it with its number. -/
theorem State.addEntry_stands (s : State) (e : Entry) : { e with num := (s.addEntry e).1 } ∈ (s.addEntry e).2.clk.entries := by
  simp [State.addEntry, State.setEntries]

theorem State.schedule_done (s : State) (e : Entry) (h : (s.schedule e).1 = 0) :
    { e with num := (s.schedule e).2.1 } ∈ (s.schedule e).2.2.clk.entries := by
  unfold State.schedule at h ⊢
  split at h
  · cases h
  · split at h
    · cases h
    · rename_i h1 h2
      rw [if_neg h1, if_neg h2]
      dsimp only
      exact s.addEntry_stands e

/-- A request for a local kind that is accepted leaves its entry in the table (R41, R513). -/
theorem State.hostSchedule_done (s : State) (w : Requester) (t : Target) (e : Entry)
    (h : (s.hostSchedule w t e).1.code = 0) :
    (s.hostSchedule w t e).1.wait = false ∧ ∃ x ∈ (s.hostSchedule w t e).2.clk.entries,
      x.kind = e.kind ∧ x.carrier = e.carrier ∧ x.obj = e.obj ∧ x.mem = e.mem ∧ x.val = e.val ∧ x.data = e.data ∧
        x.role = some (s.roleOf w) ∧ x.sfn = (s.resolve t e.kind e.count e.carrier).2 := by
  unfold State.hostSchedule at h ⊢
  dsimp only at h ⊢
  split at h
  · rename_i h1
    exact absurd h h1.1
  · rename_i h1
    rw [if_neg h1]
    generalize (if e.write = 0 then s.newWrite else (e.write, s)) = p at h ⊢
    obtain ⟨n, s1⟩ := p
    dsimp only at h ⊢
    split at h
    · rename_i h2
      dsimp only at h
      split at h
      · exact absurd h h2
      · cases h
    · rename_i h2
      rw [if_neg h2]
      split at h
      · rename_i h3
        exact absurd h h3
      · rename_i h3
        rw [if_neg h3]
        exact ⟨rfl, _, State.schedule_done _ _ (Decidable.not_not.mp h3), rfl, rfl, rfl, rfl, rfl, rfl, rfl, rfl⟩

/-! ## Domains -/

/-- An access leaves every domain in its state. -/
@[simp] theorem State.dom_touch_st (s : State) (d e : Nat) : ((s.touch d).dom e).st = (s.dom e).st :=
  nth_modNth_keep Dom.st s.pow.doms d e (fun x => { x with access := s.clk.sfn }) Dom.init (fun _ => rfl)

/-! ## Logging -/

/-- Counting changes one object at most. -/
theorem State.i_addTo_other (s : State) {w o m n o' m' : Nat} (h : okey o' m' ≠ okey o m) :
    (s.addTo w o m n).i o' m' = s.i o' m' := by
  unfold State.addTo
  split
  · exact s.i_put_other _ h
  · rw [State.i_put_other _ _ h, State.fresh_i]

/-- A counter that does not overflow rises by one. -/
theorem State.u_bump_same (s : State) (o m : Nat) (h : s.u o m + 1 < 2 ^ 32) : (s.bump o m).u o m = s.u o m + 1 := by
  unfold State.bump State.addTo
  rw [if_pos h, State.u_put_same]
  exact Int.toNat_natCast _

theorem State.u_addTo_same (s : State) (w o m n : Nat) (h : s.u o m + n < 2 ^ w) :
    (s.addTo w o m n).u o m = s.u o m + n := by
  unfold State.addTo
  rw [if_pos h, State.u_put_same]
  exact Int.toNat_natCast _

theorem State.u_addTo_other (s : State) {w o m n o' m' : Nat} (h : okey o' m' ≠ okey o m) :
    (s.addTo w o m n).u o' m' = s.u o' m' :=
  congrArg Int.toNat (s.i_addTo_other h)

theorem State.i_bump_other (s : State) {o m o' m' : Nat} (h : okey o' m' ≠ okey o m) :
    (s.bump o m).i o' m' = s.i o' m' :=
  s.i_addTo_other h

theorem State.u_bump_other (s : State) {o m o' m' : Nat} (h : okey o' m' ≠ okey o m) :
    (s.bump o m).u o' m' = s.u o' m' :=
  congrArg Int.toNat (s.i_bump_other h)

/-- An object that a log record may change: the alert line's state and the count of dropped notifications. -/
def logKey (k : Nat) : Bool := k == okey Obj.alertState 0 || k == okey Obj.notifyDropCount 0

theorem State.i_notify (s : State) (b : Sub) (v : List Byte) {o m : Nat} (h : logKey (okey o m) = false) :
    (s.notify b v).i o m = s.i o m := by
  simp only [logKey, Bool.or_eq_false_iff, beq_eq_false_iff_ne] at h
  unfold State.notify
  split
  · rfl
  · dsimp only
    split
    · exact (State.i_congr rfl rfl o m).trans (s.i_bump_other h.2)
    · exact State.i_congr (by simp) (by simp) o m

theorem State.i_logRec (s : State) (r : EventRec) (c : Option Carrier) {o m : Nat} (h : logKey (okey o m) = false) :
    (s.logRec r c).i o m = s.i o m := by
  unfold State.logRec
  dsimp only
  generalize State.streams _ _ = l
  have key : ∀ (l : List Sub) (t : State), (l.foldl (fun s b => s.notify b r.bytes) t).i o m = t.i o m := by
    intro l
    induction l with
    | nil => intro t; rfl
    | cons b l ih => intro t; exact (ih _).trans (t.i_notify b _ h)
  rw [key]
  unfold State.alert
  split
  · simp only [logKey, Bool.or_eq_false_iff, beq_eq_false_iff_ne] at h
    rw [State.i_put_other _ _ h.1]
    exact State.i_congr (by simp) (by simp) o m
  · exact State.i_congr (by simp) (by simp) o m

theorem State.i_log (s : State) (c : Nat) (d : List Byte) {o m : Nat} (h : logKey (okey o m) = false) :
    (s.log c d).i o m = s.i o m :=
  s.i_logRec _ _ h

theorem State.i_logC (s : State) (c : Carrier) (k : Nat) (d : List Byte) {o m : Nat} (h : logKey (okey o m) = false) :
    (s.logC c k d).i o m = s.i o m :=
  s.i_logRec _ _ h

theorem State.u_log (s : State) (c : Nat) (d : List Byte) {o m : Nat} (h : logKey (okey o m) = false) :
    (s.log c d).u o m = s.u o m :=
  congrArg Int.toNat (s.i_log c d h)

theorem State.u_logC (s : State) (c : Carrier) (k : Nat) (d : List Byte) {o m : Nat} (h : logKey (okey o m) = false) :
    (s.logC c k d).u o m = s.u o m :=
  congrArg Int.toNat (s.i_logC c k d h)

theorem State.notify_diag (s : State) (b : Sub) (v : List Byte) :
    (s.notify b v).diag.ring = s.diag.ring ∧ (s.notify b v).diag.waiting = s.diag.waiting ∧
      (s.notify b v).diag.nextSeq = s.diag.nextSeq := by
  unfold State.notify
  split
  · exact ⟨rfl, rfl, rfl⟩
  · dsimp only
    split
    · simp only [State.bump_diag, and_self]
    · exact ⟨rfl, rfl, rfl⟩

/-- A record enters the ring of the event log in front and waits for the log region last; the next one takes the
following sequence number (R534, R535). -/
theorem State.logRec_diag (s : State) (r : EventRec) (c : Option Carrier) :
    (s.logRec r c).diag.ring = (r :: s.diag.ring).take 256 ∧ (s.logRec r c).diag.waiting = s.diag.waiting ++ [r] ∧
      (s.logRec r c).diag.nextSeq = s.diag.nextSeq + 1 := by
  unfold State.logRec
  dsimp only
  generalize State.streams _ _ = l
  have key : ∀ (l : List Sub) (t : State),
      (l.foldl (fun s b => s.notify b r.bytes) t).diag.ring = t.diag.ring ∧
      (l.foldl (fun s b => s.notify b r.bytes) t).diag.waiting = t.diag.waiting ∧
      (l.foldl (fun s b => s.notify b r.bytes) t).diag.nextSeq = t.diag.nextSeq := by
    intro l
    induction l with
    | nil => intro t; exact ⟨rfl, rfl, rfl⟩
    | cons b l ih =>
      intro t
      obtain ⟨h1, h2, h3⟩ := ih (t.notify b r.bytes)
      obtain ⟨g1, g2, g3⟩ := t.notify_diag b r.bytes
      exact ⟨h1.trans g1, h2.trans g2, h3.trans g3⟩
  obtain ⟨h1, h2, h3⟩ := key l _
  rw [h1, h2, h3]
  unfold State.alert
  split <;> exact ⟨rfl, rfl, rfl⟩

theorem State.i_logSecond (s : State) (a b c : Nat) (d : List Byte) {o m : Nat} (h : logKey (okey o m) = false) :
    (s.logSecond a b c d).i o m = s.i o m := by
  unfold State.logSecond State.logLimited
  dsimp only
  split <;> split <;> first | rfl | exact (State.i_logRec _ _ _ h).trans rfl

theorem State.u_logSecond (s : State) (a b c : Nat) (d : List Byte) {o m : Nat} (h : logKey (okey o m) = false) :
    (s.logSecond a b c d).u o m = s.u o m :=
  congrArg Int.toNat (s.i_logSecond a b c d h)

/-- What no step of a fold changes, the fold does not change. -/
theorem foldl_same {α β : Type} (p : State → β) (f : State → α → State) (h : ∀ s a, p (f s a) = p s) (l : List α)
    (s : State) : p (l.foldl f s) = p s := by
  induction l generalizing s with
  | nil => rfl
  | cons a l ih => exact (ih _).trans (h s a)

theorem State.i_logAfter (s : State) (c : Nat) (d : List Byte) {o m : Nat} (h : logKey (okey o m) = false) :
    (s.logAfter c d).i o m = s.i o m :=
  s.i_logRec _ _ h

theorem State.u_logAfter (s : State) (c : Nat) (d : List Byte) {o m : Nat} (h : logKey (okey o m) = false) :
    (s.logAfter c d).u o m = s.u o m :=
  congrArg Int.toNat (s.i_logAfter c d h)

/-- A notification changes the subscriptions' marks alone of what the object dictionary keeps. -/
theorem State.notify_aop {α : Type} (p : Aop → α) (hp : ∀ a l d, p { a with subs := l, dropped := d } = p a) (s : State)
    (b : Sub) (v : List Byte) : p (s.notify b v).aop = p s.aop := by
  unfold State.notify
  split
  · rfl
  · dsimp only
    split
    · have e := hp s.aop (s.aop.subs.map (fun y => if y.num = b.num then
        { y with seq := y.seq + 1, sent := s.clk.sfn, last := b.last } else y)) (some b.num)
      refine Eq.trans ?_ e
      have k : (s.bump Obj.notifyDropCount).aop = s.aop := by simp
      have c : (s.bump Obj.notifyDropCount).clk = s.clk := by simp
      simp only [k, c]
    · exact hp s.aop (s.aop.subs.map (fun y => if y.num = b.num then
        { y with seq := y.seq + 1, sent := s.clk.sfn, last := v } else y)) s.aop.dropped

/-- A logged event leaves sessions, queue and stalled operations alone. -/
theorem State.logRec_aop {α : Type} (p : Aop → α) (hp : ∀ a l d, p { a with subs := l, dropped := d } = p a) (s : State)
    (r : EventRec) (c : Option Carrier) : p (s.logRec r c).aop = p s.aop := by
  unfold State.logRec
  dsimp only
  rw [foldl_same (fun s => p s.aop) _ (fun s b => s.notify_aop p hp b _)]
  unfold State.alert
  split <;> rfl

/-- A logged event changes the ring, the records that wait, the counters and the alert mark alone of what the event log
and the Bandstand keep. -/
theorem State.logRec_diagp {α : Type} (p : Diag → α)
    (hp : ∀ d a b c e f g, p { d with ring := a, ringNext := b, nextSeq := c, waiting := e, ctrs := f, alerting := g } = p d)
    (s : State) (r : EventRec) (c : Option Carrier) : p (s.logRec r c).diag = p s.diag := by
  have hc : ∀ (d : Diag) (x : List Ctr), p { d with ctrs := x } = p d := fun d x =>
    hp d d.ring d.ringNext d.nextSeq d.waiting x d.alerting
  have hn : ∀ (s : State) (b : Sub) (v : List Byte), p (s.notify b v).diag = p s.diag := by
    intro s b v
    unfold State.notify
    split
    · rfl
    · dsimp only
      split
      · simp only [State.bump_diag]
      · exact hc _ _
  unfold State.logRec
  dsimp only
  rw [foldl_same (fun s => p s.diag) _ (fun s b => hn s b _)]
  unfold State.alert
  split
  · exact hp s.diag _ _ _ _ _ _
  · exact hp s.diag _ _ _ _ _ s.diag.alerting

@[simp] theorem State.log_sessions (s : State) (k d) : (s.log k d).aop.sessions = s.aop.sessions :=
  s.logRec_aop (fun a => a.sessions) (fun _ _ _ => rfl) _ _

@[simp] theorem State.log_stalls (s : State) (k d) : (s.log k d).aop.stalls = s.aop.stalls :=
  s.logRec_aop (fun a => a.stalls) (fun _ _ _ => rfl) _ _

@[simp] theorem State.log_queue (s : State) (k d) : (s.log k d).aop.queue = s.aop.queue :=
  s.logRec_aop (fun a => a.queue) (fun _ _ _ => rfl) _ _

@[simp] theorem State.log_forwards (s : State) (k d) : (s.log k d).aop.forwards = s.aop.forwards :=
  s.logRec_aop (fun a => a.forwards) (fun _ _ _ => rfl) _ _

@[simp] theorem State.logC_sessions (s : State) (c k d) : (s.logC c k d).aop.sessions = s.aop.sessions :=
  s.logRec_aop (fun a => a.sessions) (fun _ _ _ => rfl) _ _

@[simp] theorem State.logC_stalls (s : State) (c k d) : (s.logC c k d).aop.stalls = s.aop.stalls :=
  s.logRec_aop (fun a => a.stalls) (fun _ _ _ => rfl) _ _

@[simp] theorem State.logC_queue (s : State) (c k d) : (s.logC c k d).aop.queue = s.aop.queue :=
  s.logRec_aop (fun a => a.queue) (fun _ _ _ => rfl) _ _

@[simp] theorem State.logC_forwards (s : State) (c k d) : (s.logC c k d).aop.forwards = s.aop.forwards :=
  s.logRec_aop (fun a => a.forwards) (fun _ _ _ => rfl) _ _

@[simp] theorem State.logAfter_sessions (s : State) (k d) : (s.logAfter k d).aop.sessions = s.aop.sessions :=
  s.logRec_aop (fun a => a.sessions) (fun _ _ _ => rfl) _ _

@[simp] theorem State.logAfter_stalls (s : State) (k d) : (s.logAfter k d).aop.stalls = s.aop.stalls :=
  s.logRec_aop (fun a => a.stalls) (fun _ _ _ => rfl) _ _

@[simp] theorem State.logAfter_queue (s : State) (k d) : (s.logAfter k d).aop.queue = s.aop.queue :=
  s.logRec_aop (fun a => a.queue) (fun _ _ _ => rfl) _ _

@[simp] theorem State.logAfter_forwards (s : State) (k d) : (s.logAfter k d).aop.forwards = s.aop.forwards :=
  s.logRec_aop (fun a => a.forwards) (fun _ _ _ => rfl) _ _

/-! ## Output -/

@[simp] theorem State.addTo_out (s : State) (w o m n : Nat) : (s.addTo w o m n).out = s.out := by
  unfold State.addTo
  split <;> rfl

@[simp] theorem State.bump_out (s : State) (o m : Nat) : (s.bump o m).out = s.out := s.addTo_out 32 o m 1

@[simp] theorem State.add64_out (s : State) (o m n : Nat) : (s.add64 o m n).out = s.out := s.addTo_out 64 o m n

@[simp] theorem State.emit_out (s : State) (x : Output) : (s.emit x).out = x :: s.out := rfl

/-! ## Octets under logging -/

@[simp] theorem State.o_addTo (s : State) (w o m n o' m' : Nat) : (s.addTo w o m n).o o' m' = s.o o' m' := by
  unfold State.addTo
  split
  · rfl
  · rw [State.o_put, State.fresh_o]

@[simp] theorem State.o_bump (s : State) (o m o' m' : Nat) : (s.bump o m).o o' m' = s.o o' m' :=
  s.o_addTo 32 o m 1 o' m'

@[simp] theorem State.o_notify (s : State) (b : Sub) (v : List Byte) (o m : Nat) : (s.notify b v).o o m = s.o o m := by
  unfold State.notify
  split
  · rfl
  · dsimp only
    split
    · exact (State.o_congr rfl rfl o m).trans (s.o_bump _ _ _ _)
    · exact State.o_congr (by simp) (by simp) o m

theorem State.o_logRec (s : State) (r : EventRec) (c : Option Carrier) (o m : Nat) : (s.logRec r c).o o m = s.o o m := by
  unfold State.logRec
  dsimp only
  rw [foldl_same (fun s => s.o o m) _ (fun s b => s.o_notify b _ o m)]
  unfold State.alert
  split
  · rw [State.o_put]
    exact State.o_congr (by simp) (by simp) o m
  · exact State.o_congr (by simp) (by simp) o m

@[simp] theorem State.o_log (s : State) (c : Nat) (d : List Byte) (o m : Nat) : (s.log c d).o o m = s.o o m :=
  s.o_logRec _ _ o m

@[simp] theorem State.o_logC (s : State) (c : Carrier) (k : Nat) (d : List Byte) (o m : Nat) :
    (s.logC c k d).o o m = s.o o m :=
  s.o_logRec _ _ o m

/-! ## A logged event stays -/

theorem Logged.mono {s x t : State} {code : Nat} {data : List Byte} (h : Logged s x code data)
    (k : x.diag.waiting <+: t.diag.waiting) : Logged s t code data := by
  obtain ⟨r, hr, hh⟩ := h
  exact ⟨r, k.subset hr, hh⟩

theorem Logged.keep {M : Nat} {s x t : State} {code : Nat} {data : List Byte} (h : Logged s x code data)
    (k : Keep M x t) (hM : Nat.land M 67108864 = 0) : Logged s t code data :=
  h.mono (k.waits hM)

theorem Logged.since {s s' t : State} {code : Nat} {data : List Byte} (h : Logged s' t code data)
    (k : s.diag.nextSeq ≤ s'.diag.nextSeq) : Logged s t code data := by
  obtain ⟨r, hr, h1, h2, h3⟩ := h
  exact ⟨r, hr, h1, h2, Nat.le_trans k h3⟩

theorem Logged.log (s : State) (code : Nat) (data : List Byte) : Logged s (s.log code data) code data := by
  refine ⟨s.record code 0 data false, ?_, rfl, rfl, Nat.le_refl _⟩
  rw [show (s.log code data).diag.waiting = _ from (s.logRec_diag _ _).2.1]
  simp

theorem Logged.logC (s : State) (c : Carrier) (code : Nat) (data : List Byte) :
    Logged s (s.logC c code data) code data := by
  refine ⟨s.record code c.inst data false, ?_, rfl, rfl, Nat.le_refl _⟩
  rw [show (s.logC c code data).diag.waiting = _ from (s.logRec_diag _ _).2.1]
  simp

theorem Logged.logEntry (s : State) (code : Nat) (e : Entry) (data : List Byte) :
    Logged s (s.logEntry code e data) code (e.octets ++ data) := by
  refine ⟨s.record code (carrierCode e.carrier) (e.octets ++ data) false, ?_, rfl, rfl, Nat.le_refl _⟩
  rw [show (s.logEntry code e data).diag.waiting = _ from (s.logRec_diag _ _).2.1]
  simp

/-! ## Admitted writes -/

/-- Passing the Gatehouse changes nothing but the noted access of a domain. -/
theorem Admitted.keep {s s' : State} {w : Requester} {op o m : Nat} {v v' : Val} (h : Admitted s s' w op o m v v') :
    Keep 67108863 s s' := by
  have := h.2.2
  cases ha : accessedBy o m v' with
  | some d => rw [ha] at this; rw [this.2]; exact State.touch_keep (Keep.refl _ _) rfl _
  | none => rw [ha] at this; rw [this.1]; exact Keep.refl _ _

/-- An admitted write has changed the power's part alone. -/
theorem Admitted.only {s s' : State} {w : Requester} {op o m : Nat} {v v' : Val} (h : Admitted s s' w op o m v v') :
    Keep 16 s s' := by
  have := h.2.2
  cases ha : accessedBy o m v' with
  | some d => rw [ha] at this; rw [this.2]; exact State.touch_keep (Keep.refl _ _) rfl _
  | none => rw [ha] at this; rw [this.1]; exact Keep.refl _ _

/-- An admitted write has at most noted its access. -/
theorem Admitted.noted {s s' : State} {w : Requester} {op o m : Nat} {v v' : Val} (h : Admitted s s' w op o m v v') :
    s' = s ∨ ∃ d, s' = s.touch d := by
  have := h.2.2
  cases ha : accessedBy o m v' with
  | some d => rw [ha] at this; exact .inr ⟨d, this.2⟩
  | none => rw [ha] at this; exact .inl this.1

theorem State.domOff_congr {s t : State} (h : t.pow = s.pow) (d : Nat) : t.domOff d = s.domOff d := by
  unfold State.domOff State.dom; rw [h]

theorem State.awake_congr {s t : State} (h : t.pow = s.pow) (d : Nat) : t.awake d = s.awake d := by
  unfold State.awake State.dom; rw [h]

/-- An awake domain is accessed at once. -/
theorem State.accessDom_awake (s : State) (d : Nat) (h : (s.dom d).st = .awake) : s.accessDom d = (0, s.touch d) := by
  unfold State.accessDom
  simp only [State.dom_touch_st, h]

/-- An admitted write that its owner would take without the access too comes to its owner's effect, and the answer
follows from that. -/
theorem State.hostWrite_admitted {s s' : State} {w : Requester} {op o m : Nat} {v v' : Val}
    (h : Admitted s s' w op o m v v') (eff : Val → State → Res × State) (h0 : (eff v' s).1.code = 0) :
    s.hostWrite w op o m v eff = finishWrite w op 0 o m (eff v' s') := by
  obtain ⟨h1, h2, h3⟩ := h
  unfold State.hostWrite
  simp only [h1, h2]
  cases hd : accessedBy o m v' with
  | some d =>
    simp only [hd] at h3
    obtain ⟨hs, rfl⟩ := h3
    have hw : (s.touch d).awake d = true := by
      simp [State.awake, hs]
    simp [State.accessWrite, s.accessDom_awake d hs, hw, h0]
  | none =>
    simp only [hd] at h3
    obtain ⟨rfl, h3⟩ := h3
    simp only [Bool.false_eq_true, ↓reduceIte, ne_eq, not_true_eq_false]
    split
    · rename_i d row h4 h5
      simp [h3 d h4]
    · rfl

/-- An admitted write whose owner takes it at once is accepted. -/
theorem State.hostWrite_accept {s s' : State} {w : Requester} {op o m : Nat} {v v' : Val}
    (h : Admitted s s' w op o m v v') (eff : Val → State → Res × State) (hc : (eff v' s').1.code = 0)
    (hw : (eff v' s').1.wait = false) (h0 : (eff v' s).1.code = 0 := by first | rfl | assumption) :
    s.hostWrite w op o m v eff =
      (eff v' s').2.accept w op 0 o m 0 (eff v' s').1.target (eff v' s').1.value := by
  rw [State.hostWrite_admitted h eff h0]
  simp [finishWrite, hc, hw]

/-- An admitted write whose owner takes it at once with nothing more to answer. -/
theorem State.hostWrite_done {s s' y : State} {w : Requester} {op o m : Nat} {v v' : Val}
    (h : Admitted s s' w op o m v v') (eff : Val → State → Res × State) (e : eff v' s' = ({}, y))
    (h0 : (eff v' s).1.code = 0 := by first | rfl | assumption) :
    s.hostWrite w op o m v eff = y.accept w op 0 o m 0 [] [] := by
  rw [State.hostWrite_accept h eff (by rw [e]) (by rw [e]) h0, e]

/-- An admitted write that its owner refuses: the access is taken back. -/
theorem State.hostWrite_refused {s s' y : State} {w : Requester} {op o m k : Nat} {v v' : Val}
    (h : Admitted s s' w op o m v v') (eff : Val → State → Res × State) (hk : k ≠ 0)
    (e : eff v' s = ({ code := k }, y)) : s.hostWrite w op o m v eff = y.refuse w op o m k := by
  obtain ⟨h1, h2, h3⟩ := h
  unfold State.hostWrite
  simp only [h1, h2]
  have hf : finishWrite w op 0 o m (eff v' s) = y.refuse w op o m k := by simp [finishWrite, e, hk]
  cases hd : accessedBy o m v' with
  | some d =>
    simp only [hd] at h3
    simp [State.accessWrite, s.accessDom_awake d h3.1, e, hk, finishWrite]
  | none =>
    simp only [hd] at h3
    obtain ⟨rfl, h3⟩ := h3
    simp only [Bool.false_eq_true, ↓reduceIte, ne_eq, not_true_eq_false]
    split
    · rename_i d row h4 h5
      simp [h3 d h4, hf]
    · exact hf

/-- An admitted write whose answer waits. -/
theorem State.hostWrite_waits {s s' y : State} {w : Requester} {op o m : Nat} {v v' : Val}
    (h : Admitted s s' w op o m v v') (eff : Val → State → Res × State) (e : eff v' s' = ({ wait := true }, y))
    (h0 : (eff v' s).1.code = 0 := by first | rfl | assumption) :
    s.hostWrite w op o m v eff = y := by
  rw [State.hostWrite_admitted h eff h0, e]
  simp [finishWrite]

end Sys2Proof.Machine
end

