-- ==== Sys2Proof/Laws/OfAgreement.lean ====
section
/-! SUPPORT. Lemmas about the operations that the statements on OwnerSlotsAndQuotes, AgreementRuns reach: what one operation
does to the fields that they name. -/

namespace Sys2Proof.Laws.OfAgreement

set_option Elab.async false
set_option linter.all false

open Sys2Proof Sys2Proof.Machine Sys2Proof.Claims

theorem rt_setRt (s : State) (c : Carrier) (f : RootSt → RootSt) : (s.setRt c f).rt c = f (s.rt c) := by cases c <;> rfl
theorem rt_of_grot {s t : State} (c : Carrier) (h : t.grot = s.grot) : t.rt c = s.rt c := by unfold State.rt; rw [h]
theorem done_keep (l : List GReq) (k : Nat) : ∀ z : State, Keep 73 z (l.foldl (fun s r => (s.complete r k).useFailed r k) z) := by
  induction l with
  | nil => intro z; exact Keep.refl _ _
  | cons a l ih => intro z; exact (State.useFailed_keep (State.complete_keep (Keep.refl _ _) rfl _ _) rfl _ _ : Keep 73 z _).trans (ih _)
theorem dropSlot_rt (s : State) (k cause : Nat) (c : Carrier) : (s.dropSlot k cause).rt c = s.rt c := by
  unfold State.dropSlot State.abortOn State.abortWhere
  dsimp only
  rw [rt_of_grot c (State.log_grot _ _ _)]
  have ka := done_keep (s.grot.queue.filter (fun r => r.slot == k && usesSlot r.typ)) 10 (s.setGr (fun g => { g with queue := g.queue.filter (fun r => !(r.slot == k && usesSlot r.typ)) }))
  generalize List.foldl _ _ _ = z at ka
  have : (z.emptySlot k).rt c = z.rt c := rfl
  rw [this, rt_of_grot c (ka.grot rfl)]; rfl
theorem eraseSlot_rt (s : State) (k : Nat) (c : Carrier) : (s.eraseSlot k).rt c = s.rt c := by
  unfold State.eraseSlot
  dsimp only
  split
  · rfl
  · split
    · rw [dropSlot_rt]; rfl
    · rfl
theorem eraseSession_rt (s : State) (c c' : Carrier) : (s.eraseSession c).rt c' = s.rt c' := by
  unfold State.eraseSession; rw [eraseSlot_rt, eraseSlot_rt]
theorem dropSlot_empty (s : State) (k cause : Nat) (h : k < s.grot.slots.length) : ((s.dropSlot k cause).slot k).typ = 0 := by
  unfold State.dropSlot State.abortOn State.abortWhere
  dsimp only
  have ka := done_keep (s.grot.queue.filter (fun r => r.slot == k && usesSlot r.typ)) 10 (s.setGr (fun g => { g with queue := g.queue.filter (fun r => !(r.slot == k && usesSlot r.typ)) }))
  generalize List.foldl _ _ _ = z at ka
  unfold State.slot
  rw [State.log_grot]
  have zs : z.grot.slots = s.grot.slots := by rw [ka.grot rfl]; rfl
  have := nth_modNth_same z.grot.slots (fun x : GSlot => { typ := 0, gen := nextSlotGen x.gen, data := [], shadow := none, erase := none, later := x.later }) GSlot.init (i := k) (by rw [zs]; exact h)
  exact congrArg GSlot.typ this
theorem sendMoc_fr (s : State) (c : Carrier) (n : Nat) (b : List Byte) : ((s.sendMoc c n b).fr c).mocOut = (s.fr c).mocOut ++ [be 2 b.length ++ be 1 n ++ b] := by
  cases c <;> rfl
theorem sendAgree_moc (s : State) (c : Carrier) (typ session : Nat) (body : List Byte) :
    ((s.sendAgree c typ session body).fr c).mocOut = (s.fr c).mocOut ++ agreePackets typ session body := by
  unfold State.sendAgree agreePackets
  dsimp only
  generalize (fragments 8 body).mapIdx _ = l
  induction l generalizing s with
  | nil => simp
  | cons a l ih => rw [List.foldl_cons, ih, sendMoc_fr]; simp
theorem fr_of {s t : State} (c : Carrier) (h : t.frame = s.frame) : t.fr c = s.fr c := by unfold State.fr; rw [h]
theorem eraseSlot_idle (s : State) (k : Nat) (h : s.inFlight k = []) (h1 : (s.slot k).typ ≠ 0) (h2 : k < s.grot.slots.length) :
    s.eraseSlot k = (s.modSlot k (fun x => { x with later := none })).dropSlot k 0 := by
  have ht : ((s.modSlot k (fun x => { x with later := none })).slot k).typ = (s.slot k).typ := by
    have := congrArg GSlot.typ (nth_modNth_same s.grot.slots (fun x : GSlot => { x with later := none }) GSlot.init h2)
    exact this
  unfold State.eraseSlot
  dsimp only
  rw [ht, if_neg h1]
  have : (s.modSlot k (fun x => { x with later := none })).inFlight k = s.inFlight k := rfl
  rw [this, h]; rfl
theorem eraseSlot_busy (s : State) (k : Nat) (h : s.inFlight k ≠ []) (h1 : (s.slot k).typ ≠ 0) (h2 : k < s.grot.slots.length) :
    s.eraseSlot k = (s.modSlot k (fun x => { x with later := none })).modSlot k (fun x => { x with erase := some s.clk.sfn }) := by
  have ht : ((s.modSlot k (fun x => { x with later := none })).slot k).typ = (s.slot k).typ := by
    have := congrArg GSlot.typ (nth_modNth_same s.grot.slots (fun x : GSlot => { x with later := none }) GSlot.init h2)
    exact this
  unfold State.eraseSlot
  dsimp only
  rw [ht, if_neg h1]
  have : (s.modSlot k (fun x => { x with later := none })).inFlight k = s.inFlight k := rfl
  rw [this, if_neg (by simpa using h)]; rfl
theorem modNth_length {α : Type} (f : α → α) : ∀ (l : List α) (k : Nat), (modNth l k f).length = l.length := by
  intro l; induction l with
  | nil => intro k; cases k <;> rfl
  | cons a l ih => intro k; cases k with
    | zero => rfl
    | succ k => exact congrArg Nat.succ (ih k)
theorem putSlot_rt (s : State) (k typ : Nat) (d : List Byte) (c : Carrier) : (s.putSlot k typ d).rt c = s.rt c := by
  unfold State.putSlot; split <;> rfl
theorem putSlot_frame (s : State) (k typ : Nat) (d : List Byte) : (s.putSlot k typ d).frame = s.frame := by
  unfold State.putSlot; split <;> rfl
theorem slotErase_code (s : State) (n : Nat) : (s.slotEraseEffect n).1.code = 0 := by unfold State.slotEraseEffect; split <;> rfl

theorem failed (s : State) (c : Carrier) (reason : Nat) (sent : Bool) :
    ((s.agreeFail c reason sent).rt c).part = .none ∧
    Logged s (s.agreeFail c reason sent) 0x9008 (d8 c.inst ++ d8 reason ++ d8 (b2n (!sent))) ∧
    (s.agreeFail c reason sent).u (on c Obj.agreementState) = (if (s.rt c).initiates then 5 else 0) ∧
    ((s.rt c).initiates = true → ((s.agreeFail c reason sent).rt c).retryAt =
      some (s.clk.sfn + (if (s.rt c).backoff = 0 then 1 else min 64 (2 * (s.rt c).backoff)) * sfPerSecond)) := by
  unfold State.agreeFail
  extract_lets r s1 s2 s3 s4 wait
  have k1 : Keep 33017 s s1 := by
    dsimp only [s1]; split
    · exact State.sendAgree_keep (Keep.refl _ _) rfl ..
    · exact Keep.refl _ _
  have k2 : Keep 33017 s s2 := State.release_keep (State.eraseSession_keep k1 rfl _) rfl _ _
  have k3 : Keep 33017 s s3 := by
    dsimp only [s3]; split
    · exact State.eraseNext_keep k2 rfl _
    · exact k2
  have k3' : Keep 33017 s (s3.bump (on c Obj.agreementFailCount)) := State.bump_keep k3 rfl _ _
  have k4 : Keep 33017 s s4 := State.log_keep k3' rfl _ _
  have lg : Logged s s4 0x9008 (d8 c.inst ++ d8 reason ++ d8 (b2n (!sent))) := (Logged.log _ _ _).since k3'.nextSeq
  have ec : s4.clk = s.clk := k4.clk rfl
  clear_value s4
  split
  · rename_i hi
    refine ⟨?_, Logged.keep (M := 67108863) lg (State.agreeState_keep (State.setRt_keep (Keep.refl _ _) rfl _ _) rfl _ _) rfl, (State.u_put_same _ _ _ _), ?_⟩
    · show (State.rt (State.setRt _ _ _) c).part = _
      rw [rt_setRt]
    · intro _
      show (State.rt (State.setRt _ _ _) c).retryAt = _
      rw [rt_setRt, ← ec]
  · rename_i hi
    refine ⟨?_, Logged.keep (M := 67108863) lg (State.agreeState_keep (State.setRt_keep (Keep.refl _ _) rfl _ _) rfl _ _) rfl, (State.u_put_same _ _ _ _), ?_⟩
    · show (State.rt (State.setRt _ _ _) c).part = _
      rw [rt_setRt]
    · intro h; exact absurd h hi
theorem lattice (s : State) (c : Carrier) (h : (s.askLattice c).1 = true) :
    (s.askLattice c).2.rt c = { s.rt c with askAt := none, asked := false } ∧ (s.askLattice c).2.frame = s.frame := by
  refine ⟨?_, (State.askLattice_keep (Keep.refl 32857 s) rfl c).frame rfl⟩
  unfold State.askLattice at h ⊢
  dsimp only at h ⊢
  have ka : Keep 89 s (if (s.accessDom Dn.grt).1 ≠ 0 then s.accessDom Dn.grt else if (s.accessDom Dn.grt).2.holds Act.grotto 3 ≠ 0 then (0, (s.accessDom Dn.grt).2) else (s.accessDom Dn.grt).2.ask Act.grotto 3 900000).2 := by
    split
    · exact State.accessDom_keep (Keep.refl _ _) rfl _ _
    · split
      · exact State.accessDom_keep (Keep.refl _ _) rfl _ _
      · exact State.ask_keep (State.accessDom_keep (Keep.refl _ _) rfl _ _) rfl _ _ _
  generalize (if (s.accessDom Dn.grt).1 ≠ 0 then s.accessDom Dn.grt else if (s.accessDom Dn.grt).2.holds Act.grotto 3 ≠ 0 then (0, (s.accessDom Dn.grt).2) else (s.accessDom Dn.grt).2.ask Act.grotto 3 900000) = b at h ka ⊢
  by_cases hb : b.1 = 0
  · rw [if_pos hb]
    show (State.setRt _ _ _).rt c = _
    rw [rt_setRt, rt_of_grot c (ka.grot rfl)]
  · rw [if_neg hb] at h; cases h
theorem starts (s : State) (c : Carrier) (h : CanAgree c s) : OfferSent c s (s.startAgree c) := by
  obtain ⟨h1, h2, h3, h4, h5⟩ := h
  unfold State.startAgree
  dsimp only
  rw [if_neg (by simp [h1, h2, h3])]
  rw [if_neg (by show ¬ (!s.grot.identity) = true; simp [h4])]
  have lat := lattice (s.setRt c (fun r => { r with initiates := true, retryAt := none, waitFrom := none })) c h5
  generalize (s.setRt c (fun r => { r with initiates := true, retryAt := none, waitFrom := none })).askLattice c = q at h5 lat ⊢
  obtain ⟨ok, y⟩ := q
  dsimp only at h5 lat ⊢
  rw [if_neg (by simp [h5])]
  have r1 := State.random_keep (Keep.refl 0 y) rfl 64
  generalize y.random 64 = q1 at r1 ⊢
  obtain ⟨rnd, y1⟩ := q1
  dsimp only at r1 ⊢
  have r2 := State.random_keep r1 rfl 32
  generalize y1.random 32 = q2 at r2 ⊢
  obtain ⟨nonce, y2⟩ := q2
  dsimp only at r2 ⊢
  have r3 := State.fresh_keep r2 rfl 32
  generalize y2.fresh 32 = q3 at r3 ⊢
  obtain ⟨session, y3⟩ := q3
  dsimp only at r3 ⊢
  generalize hw : y3.putSlot _ _ _ = y4
  have w1 : y4.rt c = y3.rt c := by rw [← hw, putSlot_rt]
  have w2 : y4.frame = y3.frame := by rw [← hw, putSlot_frame]
  generalize (y4.agreeHead c _ ++ _ ++ _) = body
  unfold State.sign
  dsimp only
  have r4 := State.random_keep (Keep.refl 0 y4) rfl 40
  generalize y4.random 40 = q4 at r4 ⊢
  obtain ⟨rnd2, y5⟩ := q4
  dsimp only at r4 ⊢
  generalize (body ++ fit _ _) = offer
  have rr : (y5.rt c).initiates = true := by
    rw [rt_of_grot c (r4.grot rfl), w1, rt_of_grot c (r3.grot rfl), lat.1, rt_setRt]
  have ff : y5.frame = s.frame := by rw [r4.frame rfl, w2, r3.frame rfl, lat.2]; rfl
  have e1 : ∀ z : State, ((z.sendAgree c 1 session offer).agreeState c 1).rt c = z.rt c := fun z =>
    rt_of_grot c ((State.agreeState_keep (State.sendAgree_keep (Keep.refl 129 z) rfl _ _ _ _) rfl _ _).grot rfl)
  refine ⟨?_, ?_, State.u_put_same _ _ _ _, ?_⟩
  · rw [e1, rt_setRt]
  · rw [e1, rt_setRt]; exact rr
  · rw [e1, rt_setRt]
    show ((State.sendAgree _ c 1 session offer).fr c).mocOut = _
    rw [sendAgree_moc]
    show (y5.fr c).mocOut ++ _ = _
    rw [fr_of c ff]

theorem startUnit_rt (s : State) (u : Nat) (c : Carrier) : (s.startUnit u).rt c = s.rt c := by
  unfold State.startUnit
  split
  · rfl
  · split
    · exact rt_of_grot c ((State.showUnit_keep (State.release_keep (Keep.refl 121 _) rfl _ _) rfl _ _).grot rfl)
    · rename_i q hq
      dsimp only
      have k1 : Keep 121 s (if unitCost u = 0 ∨ s.holds Act.grotto u ≠ 0 then (0, s) else s.ask Act.grotto u (unitCost u)).2 := by
        split
        · exact Keep.refl _ _
        · exact State.ask_keep (Keep.refl _ _) rfl _ _ _
      generalize (if unitCost u = 0 ∨ s.holds Act.grotto u ≠ 0 then (0, s) else s.ask Act.grotto u (unitCost u)) = a at k1 ⊢
      obtain ⟨a, y'⟩ := a
      dsimp only at k1 ⊢
      have e : y'.rt c = s.rt c := rt_of_grot c (k1.grot rfl)
      split
      · have e1 : (y'.showUnit u 1).rt c = s.rt c := e
        split
        · rw [rt_of_grot c ((State.complete_keep (Keep.refl 121 _) rfl _ _).grot rfl)]; exact e1
        · exact e1
      · exact e
theorem submit_rt (s : State) (r : GReq) (c : Carrier) : (s.submit r).rt c = s.rt c := by
  unfold State.submit
  dsimp only
  have ka := State.accessDom_keep (Keep.refl 121 s) rfl Dn.grt false
  split
  · exact rt_of_grot c ((State.useFailed_keep (State.complete_keep ka rfl _ _) rfl _ _).grot rfl)
  · generalize (s.accessDom Dn.grt).2 = z at ka ⊢
    split
    · exact rt_of_grot c ((State.useFailed_keep (State.complete_keep (State.logSecond_keep ka rfl _ _ _ _) rfl _ _) rfl _ _).grot rfl)
    · split
      · exact rt_of_grot c ((State.useFailed_keep (State.complete_keep ka rfl _ _) rfl _ _).grot rfl)
      · unfold State.startUnits
        have e : z.rt c = s.rt c := rt_of_grot c (ka.grot rfl)
        split
        · rw [rt_of_grot c ((State.showDepth_keep (Keep.refl 121 _) rfl).grot rfl)]; exact e
        · rw [rt_of_grot c ((State.showDepth_keep (Keep.refl 121 _) rfl).grot rfl)]
          rw [foldl_same (fun s => s.rt c) _ (fun s u => startUnit_rt s u c)]; exact e
theorem askKey_rt (s : State) (c' : Carrier) (d : Dir) (k e r : Nat) (c : Carrier) : (s.askKey c' d k e r).rt c = s.rt c := by
  unfold State.askKey
  split
  · rfl
  · exact submit_rt _ _ _
theorem setCtx_rt (s : State) (c' : Carrier) (d : Dir) (k : Nat) (f : Ctx → Ctx) (c : Carrier) : (s.setCtx c' d k f).rt c = s.rt c :=
  rt_of_grot c ((State.setCtx_keep (Keep.refl 16385 s) rfl _ _ _ _).grot rfl)
theorem wrote (s : State) (c : Carrier) (n : Nat) : (s.writeRoot c n).rt c = { s.rt c with
    next := some (s.freeRoot c, ofBe ((s.rt c).root.drop 48), slice (s.rt c).root 32 16), install := n, backoff := 0 } := by
  unfold State.writeRoot
  extract_lets k slot id s1 s2
  have e : s2.rt c = { s.rt c with next := some (slot, id, slice k 32 16), install := n, backoff := 0 } := by
    dsimp only [s2]; rw [rt_setRt]; dsimp only [s1]; rw [putSlot_rt]
  split
  · exact e
  · have g : ∀ (l : List Nat) (d : Dir) (z : State), (l.foldl (fun s j =>
      if (s.ctx c d j).on ∨ j = fillCtx then
        (s.setCtx c d j (fun x => { x with next := some (0, id, none) })).askKey c d j 0 id
      else s) z).rt c = z.rt c := by
      intro l d z
      refine foldl_same (fun s => s.rt c) _ ?_ l z
      intro s j
      split
      · rw [askKey_rt, setCtx_rt]
      · rfl
    rw [foldl_same (fun s => s.rt c) _ (fun s d => g allCtx d s)]
    exact e
theorem derived (s : State) (c : Carrier) (o a : List Byte) : ∃ k, ((s.deriveRoot c o a).rt c) = { s.rt c with root := k, offer := o, answer := a } := by
  unfold State.deriveRoot
  dsimp only
  refine ⟨rootOutput (s.slotData (secretSlot c)) (transcript o a), ?_⟩
  rw [rt_of_grot c ((State.release_keep (Keep.refl 121 _) rfl _ _).grot rfl), eraseSession_rt, rt_setRt]
theorem deriveFrame (s : State) (c : Carrier) (o a : List Byte) : (s.deriveRoot c o a).frame = s.frame :=
  (State.deriveRoot_keep (Keep.refl 32857 s) rfl c o a).frame rfl
theorem sent_rt (z : State) (c : Carrier) (typ session v : Nat) (body : List Byte) : ((z.sendAgree c typ session body).agreeState c v).rt c = z.rt c :=
  rt_of_grot c ((State.agreeState_keep (State.sendAgree_keep (Keep.refl 129 z) rfl _ _ _ _) rfl _ _).grot rfl)
theorem sent_moc (z : State) (c : Carrier) (typ session v : Nat) (body : List Byte) : (((z.sendAgree c typ session body).agreeState c v).fr c).mocOut = (z.fr c).mocOut ++ agreePackets typ session body :=
  sendAgree_moc z c typ session body
theorem rootsGone_rt (s : State) (c : Carrier) : (s.rootsGone c).rt c = { s.rt c with cur := none, next := none, rxAt := none } := by
  unfold State.rootsGone
  dsimp only
  refine (foldl_same (fun s => s.rt c) _ (fun s d => foldl_same (fun s => s.rt c) _ (fun s k => setCtx_rt ..) allCtx s) _ _).trans ?_
  exact rt_setRt ..

end Sys2Proof.Laws.OfAgreement
end

