-- ==== Sys2Proof/Laws/OfAvenues.lean ====
section
/-! SUPPORT. Lemmas about the operations that the statements on CellsAtV8, AvenuesSwitch reach: what one operation
does to the fields that they name. -/

namespace Sys2Proof.Laws.OfAvenues

set_option Elab.async false
set_option linter.all false

open Sys2Proof Sys2Proof.Machine Sys2Proof.Claims

theorem c8_setC8 (s : State) (x : Nat) (f : Client8 → Client8) (h : x < s.av.clients.length) : (s.setC8 x f).c8 x = f (s.c8 x) :=
  nth_modNth_same s.av.clients f Client8.init h
theorem c8_of {s t : State} (x : Nat) (h : t.av = s.av) : t.c8 x = s.c8 x := by unfold State.c8; rw [h]
theorem relCell_out (s : State) (x : Nat) (k : Cell8) : .egress x (.cell k.seq) ∈ (s.releaseCell x k).out := by
  have key : Keep 67108863 (s.emit (.egress x (.cell k.seq))) (s.releaseCell x k) := by
    unfold State.releaseCell
    extract_lets s1 s2 old first st sp s3 s4 s5
    have k2 : Keep 67108863 (s.emit (.egress x (.cell k.seq))) s2 := State.setC8_keep (Keep.refl _ _) rfl _ _
    have k3 : Keep 67108863 (s.emit (.egress x (.cell k.seq))) s3 := by
      dsimp only [s3]; split
      · exact k2
      · split
        · exact State.log_keep (State.put_keep k2 rfl _ _ _) rfl _ _
        · exact State.put_keep k2 rfl _ _ _
    have k4 : Keep 67108863 (s.emit (.egress x (.cell k.seq))) s4 := by
      dsimp only [s4]; split
      · exact State.catchUp_keep k3 rfl _ _
      · exact k3
    have k5 : Keep 67108863 (s.emit (.egress x (.cell k.seq))) s5 := by
      dsimp only [s5]; split
      · exact State.setAv_keep (State.put_keep k4 rfl _ _ _) rfl _
      · exact k4
    exact State.setAv_keep k5 rfl _
  exact key.out.subset (List.mem_cons_self ..)

theorem switchSheds_tx (s : State) (c : Carrier) : Keep 67108863 s (s.switchSheds c .tx) ∧ (s.switchSheds c .tx).av = s.av ∧
    (s.switchSheds c .tx).u Obj.carryingAvenue = s.u Obj.carryingAvenue := by
  refine ⟨State.switchSheds_keep (Keep.refl _ _) rfl _ _, (State.switchSheds_keep (Keep.refl 2249 s) rfl _ _).av rfl, ?_⟩
  unfold State.switchSheds
  dsimp only
  rw [if_neg (by decide)]
  refine (State.setLd_u _ _ _ _ _).trans ?_
  refine foldl_same (fun s => s.u Obj.carryingAvenue) _ (fun s x => ?_) _ s
  rw [if_neg (by decide)]
  exact State.u_logC _ _ _ _ (by decide)
theorem tookOver (s : State) (c : Carrier) (cause : Nat) : (s.takeOver c cause).u Obj.carryingAvenue = c.inst ∧
    (s.takeOver c cause).av.tookOver = true ∧ (s.takeOver c cause).av.takeSfn = s.nextRound.1 ∧ (s.takeOver c cause).av.takeRound = s.nextRound.2 ∧
    (s.takeOver c cause).av.mute.get c.other = some s.clk.sfn ∧
    Logged s (s.takeOver c cause) 0xA002 (d8 c.inst ++ d8 cause ++ d64 s.nextRound.1 ++ d16 s.nextRound.2) ∧
    (s.takeOver c cause).av.order = s.av.order ∧ (s.takeOver c cause).av.lastSeq = s.av.lastSeq := by
  unfold State.takeOver
  extract_lets old t s1 s2 s3
  obtain ⟨ka, kv, ku⟩ := switchSheds_tx (s3.log 0xA002 (d8 c.inst ++ d8 cause ++ d64 t.1 ++ d16 t.2)) c
  rw [State.log_av] at kv
  have e2 : s2.av = s.av := (State.bump_av _ _ _).trans rfl
  refine ⟨?_, ?_, ?_, ?_, ?_, ?_, ?_, ?_⟩
  · rw [ku]
    refine (State.u_log _ _ _ (by decide)).trans ?_
    refine (State.u_bump_other _ (by decide)).trans ?_
    exact (State.u_put_same _ _ _ _).trans (Int.toNat_natCast _)
  · rw [kv]; rfl
  · rw [kv]; rfl
  · rw [kv]; rfl
  · rw [kv]
    show (s2.av.mute.set c.other (some s2.clk.sfn)).get c.other = _
    have : s2.clk = s.clk := State.bump_clk ..
    rw [this]
    cases c <;> rfl
  · refine Logged.keep (M := 67108863) ?_ ka rfl
    refine (Logged.log _ _ _).since ?_
    exact (State.bump_keep (State.put_keep (Keep.refl 67108863 s) rfl _ _ _) rfl _ _).nextSeq
  · rw [kv, ← e2]; rfl
  · rw [kv, ← e2]; rfl

theorem newWrite_e (s : State) : s.newWrite.2.clk.entries = s.clk.entries := rfl
theorem propose_e (s : State) (c : Carrier) (e : Entry) (b : List Byte) :
    ∃ x, (s.propose c e b).2.clk.entries = s.clk.entries ++ [x] ∧ x.kind = e.kind ∧ x.carrier = some c ∧ x.dir = e.dir ∧ x.data = e.data ∧ x.st = .proposed ∧ x.sfn = e.sfn :=
  ⟨_, rfl, rfl, rfl, rfl, rfl, rfl, rfl⟩
theorem hostProp (s : State) (w : Requester) (c : Carrier) (r : Nat × Nat) (e : Entry) (body : Nat → List Byte) (extra : List Nat)
    (h : (s.hostProposeAt w c r e body extra).1.code = 0) :
    (s.hostProposeAt w c r e body extra).1 = { wait := true } ∧
    (∀ x ∈ s.clk.entries, x ∈ (s.hostProposeAt w c r e body extra).2.clk.entries) ∧
    ∃ x ∈ (s.hostProposeAt w c r e body extra).2.clk.entries, x.kind = e.kind ∧ x.carrier = some c ∧ x.dir = e.dir ∧ x.data = e.data ∧ x.st = .proposed := by
  unfold State.hostProposeAt at h ⊢
  extract_lets e1 codes code at h ⊢
  split at h
  · rename_i hc; exact absurd h hc
  · rename_i hc
    rw [if_neg hc]
    clear h
    have hw : ∀ p : Nat × State, p = (if e1.write = 0 then s.newWrite else (e1.write, s)) → p.2.clk.entries = s.clk.entries := by
      intro p hp; rw [hp]; split <;> rfl
    generalize hp : (if e1.write = 0 then s.newWrite else (e1.write, s)) = p
    have hq := hw p hp.symm
    obtain ⟨n, z⟩ := p
    dsimp only at hq ⊢
    obtain ⟨x, g1, g2, g3, g4, g5, g6, g7⟩ := propose_e z c { e1 with write := n } (body r.2)
    refine ⟨rfl, ?_, x, ?_, g2, g3, g4, g5, g6⟩
    · intro y hy; show y ∈ (z.propose c { e1 with write := n } (body r.2)).2.clk.entries; rw [g1, hq]; exact List.mem_append_left _ hy
    · show x ∈ (z.propose c { e1 with write := n } (body r.2)).2.clk.entries; rw [g1]; exact List.mem_append_right _ (List.mem_singleton.mpr rfl)
def Has (k : Kind) (dat : List Nat) (s : State) (c : Carrier) (d : Dir) : Prop :=
  ∃ x ∈ s.clk.entries, x.kind = k ∧ x.carrier = some c ∧ x.dir = d ∧ x.data = dat ∧ x.st = .proposed
theorem allProp (k : Kind) (dat : List Nat) (one : Carrier → Dir → State → Res × State)
    (h1 : ∀ c d s, (one c d s).1.code = 0 → (one c d s).1 = { wait := true } ∧ (∀ x ∈ s.clk.entries, x ∈ (one c d s).2.clk.entries) ∧ Has k dat (one c d s).2 c d)
    (l : List (Carrier × Dir)) (s : State) (hl : l ≠ []) (h : (s.proposeAll l one).1.code = 0) :
    (s.proposeAll l one).1 = { wait := true } ∧ (∀ x ∈ s.clk.entries, x ∈ (s.proposeAll l one).2.clk.entries) ∧
    ∀ p ∈ l, Has k dat (s.proposeAll l one).2 p.1 p.2 := by
  have stick : ∀ (l : List (Carrier × Dir)) (a : Res × State), a.1.code ≠ 0 → (l.foldl (fun (a : Res × State) x => if a.1.code ≠ 0 then a else one x.1 x.2 a.2) a).1.code ≠ 0 := by
    intro l
    induction l with
    | nil => intro a h; exact h
    | cons b l ih => intro a h; rw [List.foldl_cons, if_pos h]; exact ih a h
  have fold : ∀ (l : List (Carrier × Dir)) (a : Res × State), (l.foldl (fun (a : Res × State) x => if a.1.code ≠ 0 then a else one x.1 x.2 a.2) a).1.code = 0 →
      (∀ x ∈ a.2.clk.entries, x ∈ (l.foldl (fun (a : Res × State) x => if a.1.code ≠ 0 then a else one x.1 x.2 a.2) a).2.clk.entries) ∧
      (∀ p ∈ l, Has k dat (l.foldl (fun (a : Res × State) x => if a.1.code ≠ 0 then a else one x.1 x.2 a.2) a).2 p.1 p.2) ∧
      (l ≠ [] ∨ a.1 = { wait := true } → (l.foldl (fun (a : Res × State) x => if a.1.code ≠ 0 then a else one x.1 x.2 a.2) a).1 = { wait := true }) := by
    intro l
    induction l with
    | nil => intro a h; exact ⟨fun x hx => hx, fun p hp => absurd hp List.not_mem_nil, fun q => q.resolve_left (fun n => n rfl)⟩
    | cons b l ih =>
      intro a h
      rw [List.foldl_cons] at h ⊢
      by_cases ha : a.1.code = 0
      · rw [if_neg (by simp [ha])] at h ⊢
        have hb : (one b.1 b.2 a.2).1.code = 0 := by
          by_cases q : (one b.1 b.2 a.2).1.code = 0
          · exact q
          · exact absurd h (stick l _ q)
        obtain ⟨g0, g1, g2⟩ := h1 b.1 b.2 a.2 hb
        obtain ⟨i1, i2, i3⟩ := ih (one b.1 b.2 a.2) h
        refine ⟨fun x hx => i1 x (g1 x hx), ?_, fun _ => i3 (Or.inr g0)⟩
        intro p hp
        rcases List.mem_cons.mp hp with rfl | hp
        · obtain ⟨x, hx, q⟩ := g2
          exact ⟨x, i1 x hx, q⟩
        · exact i2 p hp
      · rw [if_pos ha] at h
        exact absurd h (stick l a ha)
  unfold State.proposeAll at h ⊢
  dsimp only at h ⊢
  split at h
  · rename_i q; exact absurd h q
  · rename_i q
    rw [if_neg q]
    obtain ⟨i1, i2, i3⟩ := fold l ({}, s) h
    exact ⟨i3 (Or.inl hl), i1, i2⟩
theorem switched (s : State) (w : Requester) (n : Nat) (av : Carrier) (cause sfn : Nat) (extra : List Nat)
    (h : (s.hostSwitch w n av cause sfn extra).1.code = 0) :
    (s.hostSwitch w n av cause sfn extra).1 = { wait := true } ∧ (∀ x ∈ s.clk.entries, x ∈ (s.hostSwitch w n av cause sfn extra).2.clk.entries) ∧
    ∀ d, Has .plannedSwitch [av.inst, cause] (s.hostSwitch w n av cause sfn extra).2 s.switchCarrier d := by
  unfold State.hostSwitch at h ⊢
  obtain ⟨a, b, c⟩ := allProp .plannedSwitch [av.inst, cause] _ (fun c d s hc => hostProp _ _ _ _ _ _ _ hc) _ _ (by simp) h
  refine ⟨a, b, ?_⟩
  intro d
  cases d
  · exact c (s.switchCarrier, .tx) (by simp)
  · exact c (s.switchCarrier, .rx) (by simp)

theorem cmdWrite {s s' : State} {w : Requester} {k sfn : Nat} {b : List Byte} (h : Admitted s s' w 2 Obj.avenueCommand 0 (.octs (commandRow k sfn)) (.octs b))
    (h0 : (s.avenueCommandEffect w b).1.code = 0) :
    s.avenueCommand w k sfn = finishWrite w 2 0 Obj.avenueCommand 0 (s'.avenueCommandEffect w b) :=
  State.hostWrite_admitted h (fun x s => s.avenueCommandEffect w x.bytes) h0

theorem engine_mono (s : State) (c : Carrier) (e : Entry) (b : Nat → List Byte) : ∀ x ∈ s.clk.entries, x ∈ (s.proposeEngine c e b).2.clk.entries := by
  have hd : ∀ (z : State) (e : Entry) (k : Nat), (z.dropEvent e k).clk = z.clk := fun z e k => (State.dropEvent_keep (Keep.refl 73 z) rfl e k).clk rfl
  intro x hx
  unfold State.proposeEngine
  extract_lets e1
  split
  · exact hx
  · split
    · rw [hd]; exact hx
    · split
      · rw [hd]; exact hx
      · rename_i n _
        split
        · rw [hd]; exact hx
        · extract_lets e2 r s1
          have hr : x ∈ r.2.clk.entries := by
            obtain ⟨y, g, _⟩ := propose_e s c e2 (b n)
            show x ∈ (s.propose c e2 (b n)).2.clk.entries
            rw [g]; exact List.mem_append_left _ hx
          split
          · exact hr
          · show x ∈ (State.logEntry _ _ _ _).clk.entries
            rw [(State.logEntry_keep (Keep.refl 73 _) rfl _ _ _).clk rfl, State.occur_clk, State.bump_clk]; exact hr
theorem engine_has (s : State) (c : Carrier) (e : Entry) (b : Nat → List Byte) (h : (s.proposeEngine c e b).1.isSome = true) :
    ∃ x ∈ (s.proposeEngine c e b).2.clk.entries, x.kind = e.kind ∧ x.carrier = some c ∧ x.dir = e.dir ∧ x.data = e.data ∧ x.st = .proposed := by
  unfold State.proposeEngine at h ⊢
  extract_lets e1 at h ⊢
  split at h
  · cases h
  · rename_i h0; rw [if_neg h0]
    split at h
    · cases h
    · rename_i h1; rw [if_neg h1]
      split at h
      · cases h
      · rename_i n _
        split at h
        · cases h
        · rename_i h2; rw [if_neg h2]
          extract_lets e2 r s1
          obtain ⟨y, g, g1, g2, g3, g4, g5, _⟩ := propose_e s c e2 (b n)
          have hr : y ∈ r.2.clk.entries := by
            show y ∈ (s.propose c e2 (b n)).2.clk.entries
            rw [g]; exact List.mem_append_right _ (List.mem_singleton.mpr rfl)
          split
          · exact ⟨y, hr, g1, g2, g3, g4, g5⟩
          · refine ⟨y, ?_, g1, g2, g3, g4, g5⟩
            show y ∈ (State.logEntry _ _ _ _).clk.entries
            rw [(State.logEntry_keep (Keep.refl 73 _) rfl _ _ _).clk rfl, State.occur_clk, State.bump_clk]; exact hr
theorem armed (s : State) (av : Carrier) (cause : Nat)
    (h : (s.proposeEngine s.switchCarrier { Entry.base .plannedSwitch (s.leadSfn s.switchCarrier) with data := [av.inst, cause], dir := .tx } (fun _ => switchBody av.inst cause)).1.isSome = true) :
    ∃ x ∈ (s.armSwitch av cause).clk.entries, x.kind = .plannedSwitch ∧ x.dir = .tx ∧ x.data = [av.inst, cause] ∧ x.st = .proposed := by
  obtain ⟨x, hx, g1, g2, g3, g4, g5⟩ := engine_has _ _ _ _ h
  unfold State.armSwitch
  dsimp only
  split
  · exact ⟨x, hx, g1, g3, g4, g5⟩
  · exact ⟨x, engine_mono _ _ _ _ x hx, g1, g3, g4, g5⟩

end Sys2Proof.Laws.OfAvenues
end

