-- ==== Sys2Proof/Laws/OfBoundary.lean ====
section
/-! SUPPORT. Lemmas about the operations that the statements on BoundariesPass reach: what one operation
does to the fields that they name. -/

namespace Sys2Proof.Laws.OfBoundary

set_option Elab.async false
set_option linter.all false

open Sys2Proof Sys2Proof.Machine Sys2Proof.Claims

/-- A step of the time base is logged (R61, R62). -/
def Stepped (s t : State) : Prop := ∃ d, Logged s t 0xE008 d ∨ Logged s t 0xE009 d

theorem Stepped.keep {M : Nat} {s u t : State} (h : Stepped s u) (k : Keep M u t) (hM : Nat.land M 67108864 = 0) :
    Stepped s t := by
  obtain ⟨d, h | h⟩ := h
  · exact ⟨d, .inl (h.keep k hM)⟩
  · exact ⟨d, .inr (h.keep k hM)⟩

theorem Stepped.since {s u t : State} (h : Stepped u t) (k : s.diag.nextSeq ≤ u.diag.nextSeq) : Stepped s t := by
  obtain ⟨d, h | h⟩ := h
  · exact ⟨d, .inl (h.since k)⟩
  · exact ⟨d, .inr (h.since k)⟩

theorem Stepped.log (s : State) (d : List Byte) : Stepped s (s.log 0xE008 d) := ⟨d, .inl (Logged.log ..)⟩

theorem takeTime_steps (s : State) (new : Nat) :
    (s.takeTime new).clk.sfn = s.clk.sfn ∨ Stepped s (s.takeTime new) := by
  unfold State.takeTime
  extract_lets old u x off q s1 s2 s3 s4 v
  split
  · exact .inl rfl
  split
  · exact .inl (((State.log_keep (M := 65609) (State.setBel_keep (State.put_keep (State.put_keep (Keep.refl _ s) rfl _ _ _)
      rfl _ _ _) rfl _) rfl _ _)).sfn rfl)
  have k : Keep 65609 s s4 := by
    refine State.put_keep ?_ rfl _ _ _
    have k2 : Keep 65609 s s2 := State.log_keep (State.bump_keep (State.put_keep (Keep.refl _ s) rfl _ _ _) rfl _ _) rfl _ _
    exact Keep.ite (State.log_keep k2 rfl _ _) k2
  have kb : ∀ x : State, Keep 25149437 x (x.setBel fun b => { b with slew := 0 }) := fun x =>
    State.setBel_keep (Keep.refl _ _) rfl _
  split
  · right
    refine Stepped.keep (M := 25149437) ?_ (kb _) rfl
    refine ⟨_, .inr ((Logged.log _ _ _).since ?_)⟩
    refine Nat.le_trans k.nextSeq (Keep.nextSeq (M := 25149437) ?_)
    exact Keep.trans (State.stepTime_keep (State.setEntries_keep (Keep.refl _ _) rfl _) rfl _)
      (Keep.mk_iff.mpr (KeepF.upd_clk (Keep.refl _ _) rfl rfl))
  split
  · right
    refine (Stepped.log _ _).since (Nat.le_trans k.nextSeq (Keep.nextSeq (M := 25149437) ?_))
    exact (State.stepTime_keep (Keep.refl _ _) rfl _).trans (kb _)
  split
  · exact .inl ((State.setBel_keep (k.mono (N := 65609) rfl) rfl _).sfn rfl)
  · right
    refine (Stepped.log _ _).since (Nat.le_trans k.nextSeq (Keep.nextSeq (M := 25149437) ?_))
    exact ((State.stepTime_keep (Keep.refl _ _) rfl _).trans (kb _)).trans (State.log_keep (Keep.refl _ _) rfl _ _)

theorem steps_between {s u v t : State} (h1 : Keep 117440511 s u) (h2 : v.clk.sfn = u.clk.sfn ∨ Stepped u v)
    (h3 : Keep 50331647 v t) :
    t.clk.sfn = s.clk.sfn ∨ Stepped s t := by
  rcases h2 with h | h
  · exact .inl ((h3.sfn rfl).trans (h.trans (h1.sfn rfl)))
  · exact .inr ((h.keep h3 rfl).since h1.nextSeq)

theorem selectRefs_steps (s5 : State) : s5.selectRefs.clk.sfn = s5.clk.sfn ∨ Stepped s5 s5.selectRefs := by
  unfold State.selectRefs
  extract_lets f u1 u2 t u3
  have ku : Keep 117440511 s5 u3 := by
    have : Keep 117440511 s5 u1 := Keep.ite (State.log_keep (Keep.refl _ _) rfl _ _) (Keep.refl _ _)
    have : Keep 117440511 s5 u2 := State.mateAlarm_keep (State.takeFreq_keep this rfl _ _) rfl _
    exact Keep.ite (State.log_keep this rfl _ _) this
  have km : Keep 65609 (u3.takeTime t.1) ((u3.takeTime t.1).mateAlarm 1) := State.mateAlarm_keep (Keep.refl _ _) rfl _
  clear_value u3 t
  exact steps_between ku (takeTime_steps u3 t.1) (km.mono rfl)

theorem belBoundary_steps (s : State) (x : BelIn) :
    (s.belBoundary x).clk.sfn = s.clk.sfn ∨ Stepped s (s.belBoundary x) := by
  unfold State.belBoundary
  extract_lets s1 s2 s3 s4 cls s5 s6 s7 s8
  split
  · exact .inl rfl
  have k5 : Keep 117440511 s s5 := by
    have k1 : Keep 117440511 s s1 := Keep.foldl (Keep.refl _ s) (fun t m k => Keep.mk_iff.mpr (KeepF.upd_live k rfl)) _
    have k2 : Keep 117440511 s s2 := State.setBel_keep k1 rfl _
    have k3 : Keep 117440511 s s3 := State.asymRun_keep (State.asymRun_keep k2 rfl _) rfl _
    have k4 : Keep 117440511 s s4 := Keep.foldl k3 (fun t m k => State.testInput_keep k rfl _ _) _
    exact Keep.ite k4 (State.seePhase_keep k4 rfl _)
  have k8 : Keep 65609 s6 ((s8.qualityRun).outputsRun) := by
    have k7 : Keep 65609 s6 s7 := State.holdoverRun_keep (State.timeLoopRun_keep (Keep.refl _ _) rfl) rfl _
    exact State.outputsRun_keep (State.qualityRun_keep (State.put_keep k7 rfl _ _ _) rfl) rfl
  have e6 : s6 = s5.selectRefs := rfl
  clear_value s8 s7 s6 s5
  exact steps_between k5 (e6 ▸ selectRefs_steps s5) (k8.mono rfl)

/-- A coordinated entry that fails at its commit point is logged as cancelled (R47). -/
theorem commitFail_logs (s : State) (e : Entry) : Logged s (s.commitFail e) 0xE003 e.octets := by
  unfold State.commitFail
  dsimp only
  refine Logged.keep (M := 8388607) ?_ (State.answerFailed_keep (Keep.refl _ _) rfl _ _) rfl
  have h0 : Logged s (s.cancelEntry e) 0xE003 e.octets := by
    have := Logged.logEntry (s.freeEntry e) 0xE003 e []
    rw [List.append_nil] at this
    exact this.since (Nat.le_refl _)
  have k1 : Keep 8388607 (s.cancelEntry e) ((s.cancelEntry e).entryGone e) := State.entryGone_keep (Keep.refl _ _) rfl _
  refine h0.keep (M := 8388607) ?_ rfl
  split
  · exact Keep.ite (State.loadingNoReply_keep (State.dropCoord_keep k1 rfl _ _ _) rfl _ _) (State.dropCoord_keep k1 rfl _ _ _)
  · exact k1

/-- One entry due at an instant runs alone. -/
theorem runDue_one (s : State) (k : SCount) (tick : Nat) (e : Entry)
    (h : (s.entriesAt k (s.countNow k)).filter (fun x => s.tickOf x == tick && decide (x.st ≠ .pendingLate)) = [e])
    (hf : s.clk.entries.find? (fun x => x.num == e.num) = some e) : s.runDue k tick = s.runEntry e false := by
  unfold State.runDue State.runOrder State.runEntries
  rw [h, List.mergeSort_singleton]
  simp [hf]

theorem awake_needs {s : State} {l : List Nat} (h : ∀ d ∈ l, s.awake d = true) : l.any (fun d => !s.awake d) = false := by
  rw [List.any_eq_false]
  intro d hd
  simp [h d hd]

theorem firstFrom_here {n k : Nat} {p : Nat → Bool} (h : p n = true) (hk : 0 < k) : firstFrom n k p = some n := by
  cases k with
  | zero => omega
  | succ k => unfold firstFrom; simp [h]

theorem noYield {s : State} {e : Entry} (h : ∀ x ∈ s.clk.entries, x.yieldsTo e = false) : s.yieldSwaps e = s := by
  unfold State.yieldSwaps
  rw [List.filter_eq_nil_iff.mpr (fun x hx => by simp [h x hx])]
  rfl

end Sys2Proof.Laws.OfBoundary
end

