-- ==== Sys2Proof/Laws/OfClock.lean ====
section
/-! SUPPORT. Lemmas about the operations that the statements on BelvedereRuns, CipherWorks reach: what one operation
does to the fields that they name. -/

namespace Sys2Proof.Laws.OfClock

set_option Elab.async false
set_option linter.all false

open Sys2Proof Sys2Proof.Machine Sys2Proof.Claims

theorem length_modNth {α : Type} (f : α → α) : ∀ (l : List α) (i : Nat), (modNth l i f).length = l.length
  | [], _ => rfl
  | _ :: _, 0 => rfl
  | _ :: l, i + 1 => congrArg (· + 1) (length_modNth f l i)
theorem sealFail (s : State) (c : Carrier) (x : Nat) (b : Bool) (cls : Option Nat) (h : x < ((s.ciph.get c).rx).length) :
    ((s.sealFails c x b cls).ctx c .rx x).bads = (s.ctx c .rx x).bads + 1 ∧
    ((s.sealFails c x b cls).ctx c .rx x).oks = (s.ctx c .rx x).oks := by
  unfold State.sealFails
  extract_lets s1 s2 s3 key due n s4 s5 s6
  have e1 : s1.ctx c .rx x = { s.ctx c .rx x with bads := (s.ctx c .rx x).bads + 1, failed := (s.ctx c .rx x).failed + 1 } :=
    State.ctx_setCtx_same s c .rx _ h
  have l1 : x < ((s1.ciph.get c).rx).length := by
    show x < (((State.setCtx _ _ _ _ _).ciph.get c).rx).length
    unfold State.setCtx
    rw [(State.showCtx_keep (Keep.refl 1 _) rfl _ _ _).ciph rfl]
    unfold State.setCi
    cases c <;> simpa [length_modNth] using h
  have c2 : s2.ciph = s1.ciph := by
    show State.ciph (ite _ _ _) = _
    split
    · rfl
    · exact State.add64_ciph _ _ _ _
  have c3 : s3.ciph = s1.ciph := (State.occur_ciph _ _ _).trans ((State.add64_ciph _ _ _ _).trans c2)
  have c5 : s6.ciph = s1.ciph := ((State.logCtx_keep (Keep.refl 73 s5) rfl _ _ _ _ _).ciph rfl).trans c3
  clear_value s1 s2 s3 s6
  split
  · split
    · have e : (s6.setCtx c .rx x (fun k => { k with failed := 0 })).ctx c .rx x = { s6.ctx c .rx x with failed := 0 } :=
        State.ctx_setCtx_same s6 c .rx _ (by rw [c5]; exact l1)
      rw [e, State.ctx_congr c5, e1]; exact ⟨rfl, rfl⟩
    · rw [State.ctx_congr c3, e1]; exact ⟨rfl, rfl⟩
  · rw [State.ctx_congr c2, e1]; exact ⟨rfl, rfl⟩

end Sys2Proof.Laws.OfClock
end

