-- ==== Sys2Proof/Laws/OfCounters.lean ====
section
/-! SUPPORT. Lemmas about the operations that the statements on CountersAndEvents, WritesOfAnyObject reach: what one operation
does to the fields that they name. -/

namespace Sys2Proof.Laws.OfCounters

set_option Elab.async false
set_option linter.all false

open Sys2Proof Sys2Proof.Machine Sys2Proof.Claims

theorem log_snaps (s : State) (c d) : (s.log c d).diag.snaps = s.diag.snaps :=
  State.logRec_diagp (fun d => d.snaps) (fun _ _ _ _ _ _ _ => rfl) s _ _
theorem log_latch (s : State) (c d) : (s.log c d).diag.latch = s.diag.latch :=
  State.logRec_diagp (fun d => d.latch) (fun _ _ _ _ _ _ _ => rfl) s _ _
theorem log_snapCount (s : State) (c d) : (s.log c d).diag.snapCount = s.diag.snapCount :=
  State.logRec_diagp (fun d => d.snapCount) (fun _ _ _ _ _ _ _ => rfl) s _ _
theorem log_snapNext (s : State) (c d) : (s.log c d).diag.snapNext = s.diag.snapNext :=
  State.logRec_diagp (fun d => d.snapNext) (fun _ _ _ _ _ _ _ => rfl) s _ _

theorem alertAck_ok (s : State) (q : Nat) : (s.alertAckEffect q).1.code = 0 := by
  unfold State.alertAckEffect
  repeat' first | rfl | split

end Sys2Proof.Laws.OfCounters
end

