-- ==== Sys2Proof/Laws/OfDomain.lean ====
section
/-! SUPPORT. Lemmas about the operations that the statements on RollsRegister, DomainWatches reach: what one operation
does to the fields that they name. -/

namespace Sys2Proof.Laws.OfDomain

set_option Elab.async false
set_option linter.all false

open Sys2Proof Sys2Proof.Machine Sys2Proof.Claims

theorem runs (s : State) (h1 : s.inDomain = true) (h2 : s.roleBit 0 = true) : s.roleRun = s := by
  unfold State.roleRun; rw [if_pos h1, if_pos h2]
theorem sentDomain (s : State) (typ st : Nat) (d : Option Nat) (b : List Byte) : .domain d (domainMessage s typ st b) ∈ (s.sendDomain typ st d b).out :=
  List.mem_cons_self ..
theorem uLive {s t : State} (h : t.live = s.live) (h2 : t.user = s.user) (o m : Nat) : t.u o m = s.u o m := by
  unfold State.u State.i State.numAt; rw [h, h2]
theorem startsU (s : State) (o m : Nat) : s.startRegs.u o m = s.u o m :=
  uLive ((State.startRegs_keep (Keep.refl 4194304 s) rfl).live rfl) ((State.startRegs_keep (Keep.refl 4194304 s) rfl).user rfl) o m
theorem setReg_p {α : Type} (p : DomainSt → α) (hp : ∀ d x y, p { d with site := x, group := y } = p d) (s : State) (site : Bool) (f : RegSt → RegSt) : p (s.setReg site f).dmn = p s.dmn := by
  unfold State.setReg State.setDmn
  cases site
  · exact hp s.dmn s.dmn.site _
  · exact hp s.dmn _ s.dmn.group
theorem dueIn_p {α : Type} (p : DomainSt → α) (hp : ∀ d x y, p { d with site := x, group := y } = p d) (s : State) (site : Bool) (a b : Nat) : p (s.dueIn site a b).dmn = p s.dmn := by
  unfold State.dueIn
  exact setReg_p p hp _ _ _
theorem starts_p {α : Type} (p : DomainSt → α) (hp : ∀ d x y, p { d with site := x, group := y } = p d) (s : State) : p s.startRegs.dmn = p s.dmn := by
  unfold State.startRegs
  extract_lets s1
  have e : p s1.dmn = p s.dmn := by
    dsimp only [s1]; split
    · exact dueIn_p p hp _ _ _ _
    · rfl
  split
  · split
    · exact (dueIn_p p hp _ _ _ _).trans e
    · exact e
  · exact e
theorem changed_p {α : Type} (p : DomainSt → α) (hp : ∀ d x y, p { d with site := x, group := y } = p d) (s : State) (site : Bool) : p (s.rollChanged site).dmn = p s.dmn := by
  unfold State.rollChanged
  split
  · exact setReg_p p hp _ _ _
  · rfl
theorem regGroup (s : State) (r : Roll) : r ∈ (s.registerGroup r).dmn.groupRolls ∧ (s.registerGroup r).dmn.settled = s.dmn.settled ∧ (s.registerGroup r).dmn.txSeq = s.dmn.txSeq ∧
    (∀ o m, logKey (okey o m) = false → (s.registerGroup r).u o m = s.u o m) := by
  unfold State.registerGroup
  extract_lets s1
  have e := fun {α : Type} (p : DomainSt → α) (hp : ∀ d x y, p { d with site := x, group := y } = p d) => (changed_p p hp (s1.log 0x100A (d8 r.group ++ d32 r.valid)) true).trans (congrArg p (State.log_dmn s1 0x100A (d8 r.group ++ d32 r.valid)))
  refine ⟨?_, ?_, ?_, ?_⟩
  · rw [e (fun d => d.groupRolls) (fun _ _ _ => rfl)]
    exact List.mem_append_right _ (List.mem_singleton.mpr rfl)
  · exact e (fun d => d.settled) (fun _ _ _ => rfl)
  · exact e (fun d => d.txSeq) (fun _ _ _ => rfl)
  · intro o m h
    have k := State.rollChanged_keep (Keep.refl 4194304 (s1.log 0x100A (d8 r.group ++ d32 r.valid))) rfl true
    rw [uLive (k.live rfl) (k.user rfl), State.u_log _ _ _ h]; rfl
theorem setLead_other (s : State) (role a : Nat) {o m : Nat} (h1 : okey o m ≠ okey Obj.siteLeadAddress 0) (h2 : okey o m ≠ okey Obj.registrarAddress 0) (h3 : logKey (okey o m) = false) :
    (s.setLead role a).u o m = s.u o m := by
  unfold State.setLead
  dsimp only
  by_cases hr : role = 1
  · simp only [if_pos hr]
    split
    · rfl
    · rw [State.u_log _ _ _ h3, State.u_put_other _ _ h1]
  · simp only [if_neg hr]
    split
    · rfl
    · rw [State.u_log _ _ _ h3, State.u_put_other _ _ h2]
theorem setLead_one (s : State) (a : Nat) : (s.setLead 1 a).u Obj.siteLeadAddress = a ∧ (s.setLead 1 a).u Obj.registrarAddress = s.u Obj.registrarAddress := by
  unfold State.setLead
  simp only [if_true]
  split
  · rename_i q; exact ⟨q, rfl⟩
  · rw [State.u_log _ _ _ (by decide), State.u_log _ _ _ (by decide), State.u_put_same, State.u_put_other _ _ (by decide)]
    exact ⟨Int.toNat_natCast _, rfl⟩
theorem setLead_two (s : State) (a : Nat) : (s.setLead 2 a).u Obj.registrarAddress = a ∧ (s.setLead 2 a).u Obj.siteLeadAddress = s.u Obj.siteLeadAddress := by
  unfold State.setLead
  simp only [if_neg (show ¬ (2 = 1) by decide)]
  split
  · rename_i q; exact ⟨q, rfl⟩
  · rw [State.u_log _ _ _ (by decide), State.u_log _ _ _ (by decide), State.u_put_same, State.u_put_other _ _ (by decide)]
    exact ⟨Int.toNat_natCast _, rfl⟩
theorem setLead_dmn (s : State) (role a : Nat) : (s.setLead role a).dmn = s.dmn := by
  unfold State.setLead
  dsimp only
  generalize (if role = 1 then Obj.siteLeadAddress else Obj.registrarAddress) = o
  split
  · rfl
  · rw [State.log_dmn]; rfl
theorem setRole_u (s : State) (i : Nat) (v : Bool) : (s.setRole i v).u Obj.domainRole = setBit (s.u Obj.domainRole) i v := by
  unfold State.setRole
  rw [State.u_put_same]; exact Int.toNat_natCast _
theorem setRole_other (s : State) (i : Nat) (v : Bool) {o m : Nat} (h : okey o m ≠ okey Obj.domainRole 0) : (s.setRole i v).u o m = s.u o m :=
  State.u_put_other _ _ h

theorem sendDomain_rolls (s : State) (a b : Nat) (c : Option Nat) (d : List Byte) : (s.sendDomain a b c d).dmn.siteRolls = s.dmn.siteRolls := rfl
theorem sendRoll_done (s : State) : (s.sendRoll).address = s.address ∧ (s.sendRoll).dmn.siteRolls = s.dmn.siteRolls := by
  have k := State.sendRoll_keep (Keep.refl 4194304 s) rfl
  refine ⟨uLive (k.live rfl) (k.user rfl) _ _, ?_⟩
  unfold State.sendRoll
  extract_lets sites body
  exact sendDomain_rolls _ _ _ _ _
theorem complete_done (s : State) : (s.completeRun).address = s.address ∧ (s.completeRun).dmn.siteRolls = s.dmn.siteRolls := by
  unfold State.completeRun
  split
  · exact sendRoll_done s
  · split
    · extract_lets n y
      obtain ⟨a, b⟩ := sendRoll_done (y.log 0x100C (d32 n))
      rw [a, b]
      refine ⟨?_, ?_⟩
      · show State.u (State.log _ _ _) _ = _
        rw [State.u_log _ _ _ (by decide), State.u_put_other _ _ (by decide)]; rfl
      · rw [State.log_dmn]; rfl
    · exact ⟨rfl, rfl⟩
theorem regSite (s : State) (site mask : Nat) (l : List Roll) : (s.registerSite site mask l).address = s.address ∧
    (s.registerSite site mask l).dmn.siteRolls = s.dmn.siteRolls.filter (fun x => x.group / 16 != site) ++ l := by
  unfold State.registerSite
  extract_lets s1 row
  have fold : ∀ (m : List Nat) (z : State), (∀ x ∈ m, x < 16) → (m.foldl row z).address = z.address ∧ (m.foldl row z).dmn = z.dmn := by
    intro m
    induction m with
    | nil => intro z _; exact ⟨rfl, rfl⟩
    | cons a m ih =>
      intro z h
      rw [List.foldl_cons]
      obtain ⟨i1, i2⟩ := ih (row z a) (fun x hx => h x (List.mem_cons_of_mem _ hx))
      rw [i1, i2]
      have ne : okey Obj.deviceAddress 0 ≠ okey Obj.domainRollMasks (site * 16 + a) := by
        have : okey Obj.domainRollMasks 0 > okey Obj.deviceAddress 0 := by decide
        unfold okey at this ⊢; omega
      have hu : ∀ v : Int, (z.put Obj.domainRollMasks (site * 16 + a) v).address = z.address := fun v => State.u_put_other _ _ ne
      have hr : row z a = (match l.find? (fun r => r.group == site * 16 + a) with
        | some r => (z.put Obj.domainRollMasks (site * 16 + a) (r.valid : Nat)).putO Obj.domainSerials (site * 16 + a) r.serials
        | none => (z.put Obj.domainRollMasks (site * 16 + a) 0).putO Obj.domainSerials (site * 16 + a) (List.replicate 512 0)) := rfl
      rw [hr]
      cases l.find? (fun r => r.group == site * 16 + a) with
      | none => exact ⟨hu _, rfl⟩
      | some r => exact ⟨hu _, rfl⟩
  have f := fold (List.range 16) s1 (fun x hx => List.mem_range.mp hx)
  obtain ⟨c1, c2⟩ := complete_done (((List.range 16).foldl row s1).log 0x100B (d8 site ++ d16 mask))
  rw [c1, c2]
  refine ⟨?_, ?_⟩
  · show State.u _ _ = _
    rw [State.u_log _ _ _ (by decide)]; exact f.1
  · rw [State.log_dmn, f.2]; rfl

theorem ackOf (b body : List Byte) (st a seq : Nat) (t0 : Nat) (site : Bool) (s : State) (h1 : readDomain 4 4 b = some (st, a, seq, body))
    (h2 : site = false → s.dmn.site.ackBy = none) (h3 : (s.reg site).ackBy = some t0) (h4 : (s.reg site).seq = ofBe (slice body 0 4)) (h5 : s.regDest site = a) :
    ∃ z, z = (let y := s.setReg site (fun g => { g with ackBy := none, attempt := 0, retryAt := (if st = 2 then some (s.clk.sfn + 600000) else none), done := g.done || st == 0 })
        if st = 0 ∧ !site then y.setRole 3 false else y) ∧
    execAck b s = .next (if st = 1 then z.setLead (if site then 2 else 1) 0xFFFF else if st = 2 then
          (((match z.dmn.claims.find? (fun c : Claim => groupOf c.addr == groupOf z.address) with | some c => (c.addr, z) | none => z.fresh 13).2.setRole 3 true).log 0x1013 (d8 (groupOf z.address) ++ d16 (match z.dmn.claims.find? (fun c : Claim => groupOf c.addr == groupOf z.address) with | some c => (c.addr, z) | none => z.fresh 13).1)) else z) := by
  refine ⟨_, rfl, ?_⟩
  have w1 : ((s.reg true).ackBy.isSome && (s.reg true).seq == ofBe (slice body 0 4) && s.regDest true == a) = site := by
    cases site
    · show (s.dmn.site.ackBy.isSome && _ && _) = false
      rw [h2 rfl]; rfl
    · rw [h3, h4, h5]; simp
  have w2 : (!((s.reg true).ackBy.isSome && (s.reg true).seq == ofBe (slice body 0 4) && s.regDest true == a) && !((s.reg false).ackBy.isSome && (s.reg false).seq == ofBe (slice body 0 4) && s.regDest false == a)) = false := by
    rw [w1]
    cases site
    · rw [h3, h4, h5]; simp
    · rfl
  unfold execAck
  rw [h1]
  show Host.Outcome.next (ite _ _ _) = _
  rw [if_neg (by rw [← Bool.and_eq_true, Bool.not_eq_true]; exact w2)]
  all_goals refine congrArg Host.Outcome.next ?_
  all_goals simp only [w1]
  all_goals generalize (if st = 0 ∧ (!site) = true then _ else _ : State) = z
  all_goals
    split
    · rfl
    · split
      · cases z.dmn.claims.find? (fun c : Claim => groupOf c.addr == groupOf z.address) <;> rfl
      · rfl

end Sys2Proof.Laws.OfDomain
end

