-- ==== Sys2Proof/Laws/OfFootpath.lean ====
section
/-! SUPPORT. Lemmas about the operations that the statements on FootpathSends, FootpathReceives, CoresArrive reach: what one operation
does to the fields that they name. -/

namespace Sys2Proof.Laws.OfFootpath

set_option Elab.async false
set_option linter.all false

open Sys2Proof Sys2Proof.Machine Sys2Proof.Claims

theorem get_put (c : Carrier) (s : State) (o m : Nat) (v : Int) : (s.put o m v).ft c = s.ft c := rfl

theorem startHeader_f (s : State) (c : Carrier) (tone : Nat) (level : Int) : (s.startHeader c tone level).rxState c = 3 ∧
    ((s.startHeader c tone level).ft c).level = level ∧ ((s.startHeader c tone level).ft c).header = [] ∧
    ((s.startHeader c tone level).ft c).tone = tone := by
  unfold State.startHeader
  rw [State.ft_setFt_same]
  refine ⟨?_, rfl, rfl, rfl⟩
  show State.u (State.setFt _ _ _) _ _ = _
  rw [State.setFt_u, State.setRxState, State.u_put_same]; rfl

theorem nth_setNth_other {α : Type} (l : List α) {i j : Nat} (x d : α) (h : i ≠ j) : nth (setNth l i x) j d = nth l j d := by
  unfold nth
  rw [getElem?_setNth]
  by_cases hh : i = j ∧ j < l.length
  · exact absurd hh.1 h
  · rw [if_neg hh]

/-- What a noise floor window leaves of the floors after its first tones. -/
theorem floors_upTo (c : Carrier) (levels : List Int) (s : State) (n : Nat) (hn : n ≤ 64) :
    let t := (List.range n).foldl (fun s k =>
      let l := (nth levels k 0 :: nth (s.ft c).floors k []).take 100
      let s := s.setFt c (fun f => { f with floors := setNth f.floors k l })
      s.put (on c Obj.noiseFloor) k (roundDiv (l.foldl (· + ·) 0) l.length)) s
    (∀ j, n ≤ j → nth (t.ft c).floors j [] = nth (s.ft c).floors j []) ∧
    ∀ k, k < n → t.i (on c Obj.noiseFloor) k =
      roundDiv (((nth levels k 0 :: nth (s.ft c).floors k []).take 100).foldl (· + ·) 0)
        ((nth levels k 0 :: nth (s.ft c).floors k []).take 100).length := by
  induction n with
  | zero => exact ⟨fun _ _ => rfl, fun k h => absurd h (Nat.not_lt_zero k)⟩
  | succ n ih =>
    obtain ⟨h1, h2⟩ := ih (by omega)
    dsimp only at h1 h2 ⊢
    rw [List.range_succ, List.foldl_append, List.foldl_cons, List.foldl_nil]
    generalize (List.range n).foldl _ s = t at h1 h2 ⊢
    have hf : nth (t.ft c).floors n [] = nth (s.ft c).floors n [] := h1 n (Nat.le_refl _)
    rw [hf]
    generalize hl : (nth levels n 0 :: nth (s.ft c).floors n []).take 100 = l
    refine ⟨fun j hj => ?_, fun k hk => ?_⟩
    · have e : ∀ z : State, ∀ o m v, (State.put z o m v).ft c = z.ft c := fun _ _ _ _ => rfl
      rw [e, State.ft_setFt_same]
      show nth (setNth (t.ft c).floors n l) j [] = _
      rw [nth_setNth_other _ _ _ (by omega)]
      exact h1 j (by omega)
    · by_cases hkn : k = n
      · subst hkn
        rw [State.i_put_same, hl]
      · rw [State.i_put_other _ _ (by unfold okey; omega)]
        exact h2 k (by omega)

/-- An invalid core while the frame is locked. -/
def invalidOne (s : State) (c : Carrier) : State :=
  ((s.setFr c (fun f => { f with rxPtp := [], head := [] })).bump (on c Obj.coreInvalidCount)).setFr c
    (fun f => { f with invalidRun := f.invalidRun + 1, jumpRun := 0 })

theorem coreInvalid_eq (s : State) (c : Carrier) (h : s.u (on c Obj.frameLock) ≠ 0) :
    s.coreInvalid c = if 8 ≤ ((invalidOne s c).fr c).invalidRun then (invalidOne s c).loseFrameLock c 0 else invalidOne s c := by
  unfold State.coreInvalid
  dsimp only
  rw [if_neg (by rw [State.setFr_u]; exact h)]
  rfl

theorem invalidOne_f (s : State) (c : Carrier) : ((invalidOne s c).fr c).invalidRun = (s.fr c).invalidRun + 1 ∧
    ((invalidOne s c).fr c).jumpRun = 0 ∧ s.diag.nextSeq ≤ (invalidOne s c).diag.nextSeq ∧
    (invalidOne s c).u (on c Obj.frameLock) = s.u (on c Obj.frameLock) := by
  have k : Keep 137 s (invalidOne s c) := State.setFr_keep (State.bump_keep (State.setFr_keep (Keep.refl _ _) rfl _ _) rfl _ _) rfl _ _
  refine ⟨?_, ?_, k.nextSeq, ?_⟩
  · unfold invalidOne
    rw [State.fr_setFr_same, State.fr_congr (State.bump_frame _ _ _), State.fr_setFr_same]
  · unfold invalidOne
    rw [State.fr_setFr_same]
  · unfold invalidOne
    rw [State.setFr_u, State.u_bump_other _ (by cases c <;> decide), State.setFr_u]

/-- A valid core kept as the carrier's last, its defect shown. -/
def coreKept (s : State) (c : Carrier) (k : List (Nat × Nat)) : State :=
  (s.setFr c (fun f => { f with core := k, head := [], rxPtp := [], blockIn := [] })).showDefect c (bit (Core.word k 5) 6)

theorem coreKept_f (s : State) (c : Carrier) (k : List (Nat × Nat)) : ((coreKept s c k).fr c).core = k ∧
    (coreKept s c k).u (on c Obj.remoteDefect) = b2n (bit (Core.word k 5) 6) ∧
    (coreKept s c k).u (on c Obj.frameLock) = s.u (on c Obj.frameLock) ∧ (coreKept s c k).lock c = s.lock c ∧
    (coreKept s c k).u (on c Obj.rxSfn) = s.u (on c Obj.rxSfn) := by
  have hd : ∀ (t : State) v, (t.showDefect c v).frame = t.frame ∧ (t.showDefect c v).u (on c Obj.remoteDefect) = b2n v ∧
      (t.showDefect c v).u (on c Obj.frameLock) = t.u (on c Obj.frameLock) ∧ (t.showDefect c v).lock c = t.lock c ∧
      (t.showDefect c v).u (on c Obj.rxSfn) = t.u (on c Obj.rxSfn) := by
    intro t v
    unfold State.showDefect State.lock
    split
    · rename_i h; exact ⟨rfl, h, rfl, rfl, rfl⟩
    · refine ⟨by simp, ?_, ?_, ?_, ?_⟩
      · rw [State.u_logC _ _ _ _ (by cases c <;> decide), State.u_put_same]; rfl
      · rw [State.u_logC _ _ _ _ (by cases c <;> decide), State.u_put_other _ _ (by cases c <;> decide)]
      · rw [State.u_logC _ _ _ _ (by cases c <;> decide), State.u_put_other _ _ (by cases c <;> decide)]
      · rw [State.u_logC _ _ _ _ (by cases c <;> decide), State.u_put_other _ _ (by cases c <;> decide)]
  obtain ⟨a1, a2, a3, a4, a5⟩ := hd (s.setFr c (fun f => { f with core := k, head := [], rxPtp := [], blockIn := [] })) (bit (Core.word k 5) 6)
  refine ⟨?_, a2, a3.trans (State.setFr_u ..), a4.trans (by unfold State.lock; rw [State.setFr_u]), a5.trans (State.setFr_u ..)⟩
  refine Eq.trans (congrArg (fun (p : Pair _) => (p.get c).core) a1) ?_
  unfold State.setFr
  show ((s.frame.upd c _).get c).core = k
  rw [Pair.get_upd_same]

theorem coreArrives_eq (s : State) (c : Carrier) (h1 : s.awake Dn.frm = true) (h2 : Core.valid (s.heldCore c false) = true) :
    exec (.coreArrives c) s = .next (if ((coreKept s c (s.heldCore c false)).judgeCore c (s.heldCore c false)).1 then
      ((coreKept s c (s.heldCore c false)).judgeCore c (s.heldCore c false)).2.actCore c (s.heldCore c false)
      else ((coreKept s c (s.heldCore c false)).judgeCore c (s.heldCore c false)).2) := by
  simp only [exec]
  unfold execCoreArrives
  dsimp only
  rw [if_pos h2, if_neg (by simp [h1]), if_neg (by simp [h2])]
  rfl

end Sys2Proof.Laws.OfFootpath
end

