-- ==== Sys2Proof/Laws/OfGrotto.lean ====
section
/-! SUPPORT. Lemmas about the operations that the statements on GrottoTakesRequests, ServiceConverters reach: what one operation
does to the fields that they name. -/

namespace Sys2Proof.Laws.OfGrotto

set_option Elab.async false
set_option linter.all false

open Sys2Proof Sys2Proof.Machine Sys2Proof.Claims

theorem rq (x : Descriptor) (p : Instr × Nat) (h : p ∈ grottoRequests x) (s : State) : exec p.1 s = s.request p.2 x := by
  simp only [grottoRequests, List.mem_cons, List.not_mem_nil, or_false] at h
  rcases h with rfl | rfl | rfl | rfl | rfl | rfl | rfl | rfl | rfl | rfl | rfl <;> rfl
theorem rqIn (x : Descriptor) (p : Instr × Nat) (h : p ∈ grottoRequests x) (s : State) :
    exec p.1 s = .next (s.submit (requestOf p.2 x)) := by
  rw [rq x p h]; rfl

theorem modFirst_del {r x : GReq} : ∀ {l : List GReq}, x ∈ l → x ≠ r → x ∈ modFirst r (fun _ => []) l := by
  intro l
  induction l with
  | nil => intro h; exact absurd h (List.not_mem_nil)
  | cons y l ih =>
    intro h hn
    unfold modFirst
    split
    · rename_i e
      rcases List.mem_cons.mp h with rfl | h
      · exact absurd e hn
      · exact h
    · rcases List.mem_cons.mp h with rfl | h
      · exact List.mem_cons_self ..
      · exact List.mem_cons_of_mem _ (ih h hn)
theorem modFirst_set {r x : GReq} {u : Nat} : ∀ {l : List GReq}, x ∈ l →
    x ∈ modFirst r (fun x => [{ x with unit := some u }]) l ∨ { x with unit := some u } ∈ modFirst r (fun x => [{ x with unit := some u }]) l := by
  intro l
  induction l with
  | nil => intro h; exact absurd h (List.not_mem_nil)
  | cons y l ih =>
    intro h
    unfold modFirst
    split
    · rename_i e
      rcases List.mem_cons.mp h with rfl | h
      · exact .inr (List.mem_cons_self ..)
      · exact .inl (List.mem_append_right _ h)
    · rcases List.mem_cons.mp h with rfl | h
      · exact .inl (List.mem_cons_self ..)
      · rcases ih h with q | q
        · exact .inl (List.mem_cons_of_mem _ q)
        · exact .inr (List.mem_cons_of_mem _ q)
def Stands (r : GReq) (z : State) : Prop :=
  (∃ x ∈ z.grot.queue, { x with unit := none } = r) ∨ .completion r.tag 9 ∈ z.out
theorem Stands.keep {r : GReq} {y z : State} (h : Stands r y) (k : Keep 121 y z) : Stands r z := by
  rcases h with ⟨x, hx, e⟩ | h
  · exact .inl ⟨x, by rw [k.grot rfl]; exact hx, e⟩
  · exact .inr (k.out.subset h)
theorem Stands.unit {r : GReq} {y : State} (u : Nat) (h : Stands r y) : Stands r (y.startUnit u) := by
  unfold State.startUnit
  split
  · exact h
  · split
    · exact h.keep (State.showUnit_keep (State.release_keep (Keep.refl _ _) rfl _ _) rfl _ _)
    · rename_i q hq
      dsimp only
      have k1 : Keep 121 y (if unitCost u = 0 ∨ y.holds Act.grotto u ≠ 0 then (0, y) else y.ask Act.grotto u (unitCost u)).2 := by
        split
        · exact Keep.refl _ _
        · exact State.ask_keep (Keep.refl _ _) rfl _ _ _
      generalize (if unitCost u = 0 ∨ y.holds Act.grotto u ≠ 0 then (0, y) else y.ask Act.grotto u (unitCost u)) = a at k1 ⊢
      obtain ⟨a, y'⟩ := a
      have h' := h.keep k1
      dsimp only at h' ⊢
      split
      · have h2 : Stands r (y'.showUnit u 1) := h'.keep (State.showUnit_keep (Keep.refl _ _) rfl _ _)
        split
        · generalize y'.showUnit u 1 = w at h2 ⊢
          unfold State.complete
          rw [if_neg (by decide)]
          rcases h2 with ⟨x, hx, e⟩ | h2
          · by_cases hxq : x = q
            · refine .inr ?_
              have : r.tag = q.tag := by rw [← e, hxq]
              rw [this]
              exact List.mem_cons_self ..
            · refine .inl ⟨x, ?_, e⟩
              rw [State.emit_grot, State.occur_grot, State.bump_grot]
              exact modFirst_del hx hxq
          · refine .inr ?_
            refine List.mem_cons_of_mem _ ?_
            have k := (State.occur_keep (State.bump_keep (State.setGr_keep (Keep.refl 67108863 w) rfl (fun g => { g with queue := modFirst q (fun _ => []) g.queue })) rfl Obj.requestFailCount 9) rfl 0x9081 { master := some q.master }).out
            exact k.subset h2
        · exact h2
      · have h2 : Stands r (y'.showUnit u 0) := h'.keep (State.showUnit_keep (Keep.refl _ _) rfl _ _)
        generalize y'.showUnit u 0 = w at h2 ⊢
        rcases h2 with ⟨x, hx, e⟩ | h2
        · rcases modFirst_set (r := q) (u := u) hx with g | g
          · exact .inl ⟨x, g, e⟩
          · exact .inl ⟨_, g, by rw [← e]⟩
        · exact .inr h2

theorem len_modNth {α : Type} (f : α → α) : ∀ (l : List α) (i : Nat), (modNth l i f).length = l.length
  | [], _ => rfl
  | _ :: _, 0 => rfl
  | _ :: l, i + 1 => congrArg (· + 1) (len_modNth f l i)
theorem taken (y : State) (k : Nat) (h1 : (y.slot k).shadow = none) (h2 : (y.slot k).erase = none) (h3 : k < y.grot.slots.length) :
    ((y.takeLater k).slot k).erase = none ∧
    ((y.slot k).later = none → ((y.takeLater k).slot k).typ = (y.slot k).typ ∧ ((y.takeLater k).slot k).data = (y.slot k).data) ∧
    (∀ typ data t1, (y.slot k).later = some (typ, data, t1) → ((y.takeLater k).slot k).typ = typ ∧ ((y.takeLater k).slot k).data = data) := by
  unfold State.takeLater
  split
  · rename_i typ data t1 hl
    rw [if_neg (by rw [h1, h2]; simp)]
    have e1 : (y.modSlot k (fun x => { x with later := none })).slot k = { y.slot k with later := none } :=
      nth_modNth_same y.grot.slots (fun x : GSlot => { x with later := none }) GSlot.init h3
    have l1 : k < (y.modSlot k (fun x => { x with later := none })).grot.slots.length := by
      show k < (modNth y.grot.slots k _).length
      rw [len_modNth]; exact h3
    generalize y.modSlot k (fun x => { x with later := none }) = z at e1 l1
    have e2 : ((z.writeSlot k typ data).slot k).erase = (z.slot k).erase ∧ ((z.writeSlot k typ data).slot k).typ = typ ∧ ((z.writeSlot k typ data).slot k).data = data := by
      unfold State.writeSlot
      extract_lets keep
      have := nth_modNth_same z.grot.slots (fun x : GSlot => { x with typ := typ, data := data, gen := nextSlotGen x.gen, shadow := if keep then some x.data else x.shadow }) GSlot.init l1
      have e : (z.modSlot k (fun x => { x with typ := typ, data := data, gen := nextSlotGen x.gen, shadow := if keep then some x.data else x.shadow })).slot k = _ := this
      rw [e]
      exact ⟨rfl, rfl, rfl⟩
    refine ⟨e2.1.trans (by rw [e1]; exact h2), fun q => by rw [hl] at q; (cases q), ?_⟩
    intro a b c q
    rw [hl] at q
    cases q
    exact e2.2
  · rename_i hl
    refine ⟨h2, fun _ => ⟨rfl, rfl⟩, fun a b c q => by rw [hl] at q; (cases q)⟩

theorem consume_svc (z : State) (i g : Nat) (v : Int) (f : Bool) :
    (z.consume i g v f).svc.regs = z.svc.regs ∧ (z.consume i g v f).svc.userLen = z.svc.userLen ∧ (z.consume i g v f).svc.skip = z.svc.skip := by
  have ht : ∀ (l : List Nat) (c : Carrier) (y : State), (l.foldl (fun s k => s.tempRead c k v) y).svc = y.svc := by
    intro l c
    induction l with
    | nil => intro y; rfl
    | cons a l ih => intro y; exact (ih _).trans ((State.tempRead_keep (Keep.refl 845 y) rfl c a v).svc rfl)
  have hc : ∀ y : State, (y.caseRead v).svc.regs = y.svc.regs ∧ (y.caseRead v).svc.userLen = y.svc.userLen ∧ (y.caseRead v).svc.skip = y.svc.skip := by
    intro y
    unfold State.caseRead
    extract_lets s1 warn n low clear hotFrom hotLow cool raise s2 s3 s4
    have e3 : s3.svc = s2.svc := by
      show State.svc (ite _ _ _) = _
      split
      · exact State.log_svc _ _ _
      · rfl
    have e4 : s4.svc = s2.svc := by
      show State.svc (ite _ _ _) = _
      split
      · exact (State.log_svc _ _ _).trans e3
      · exact e3
    show s4.svc.regs = _ ∧ s4.svc.userLen = _ ∧ s4.svc.skip = _
    rw [e4]
    exact ⟨rfl, rfl, rfl⟩
  unfold State.consume
  repeat' split
  all_goals first
    | exact ⟨rfl, rfl, rfl⟩
    | exact hc z
    | (dsimp only; rw [ht]; exact ⟨rfl, rfl, rfl⟩)

theorem injKeeps (z : State) (src : Nat) (m : Option Nat) {o k : Nat} (h1 : okey o k ≠ okey Obj.injectRunCount 0)
    (h2 : okey o k ≠ okey Obj.injectMissCount 0) (h3 : logKey (okey o k) = false) :
    (z.injTrigger src m).u o k = z.u o k := by
  have hm : ∀ y : State, (y.injMiss src).u o k = y.u o k := by
    intro y
    unfold State.injMiss
    rw [State.u_log _ _ _ h3, State.u_bump_other _ h2]
  unfold State.injTrigger
  split
  · exact hm _
  · split
    · unfold State.injStart
      dsimp only
      have hb : ∀ x : State, ((x.bump Obj.injectRunCount).occur 0xC081 { master := m }).u o k = x.u o k := by
        intro x; rw [State.occur_u, State.u_bump_other _ h1]
      generalize hy : State.occur _ _ _ = y
      have : y.u o k = z.u o k := by rw [← hy]; exact hb z
      split
      · rw [State.setSvc_u, State.setSvc_u, this]
      · rw [State.setSvc_u, State.setSvc_u, this]
    · split
      · exact State.setSvc_u ..
      · split
        · exact State.setSvc_u ..
        · split
          · exact State.setSvc_u ..
          · exact hm _

theorem injLen_ok (s : State) (n : Nat) : (s.injectLengthEffect n).1.code = 0 := by
  unfold State.injectLengthEffect; dsimp only; split <;> rfl

theorem tfeStart_ok (s : State) (j : Nat) (h1 : s.u Obj.tfeRun j ≠ 1) (h2 : s.judge Act.tfe j 100000 = 0) :
    s.tfeRunEffect j 1 = ({}, (((((s.enter Act.tfe j (s.holds Act.tfe j + 100000)).occur 0x2080 { master := some 2 })).put Obj.tfeRun j 1).restartTfe j)) := by
  have e : s.ask Act.tfe j 100000 = (0, (s.enter Act.tfe j (s.holds Act.tfe j + 100000)).occur 0x2080 { master := some 2 }) := by
    simp only [State.ask]; rw [if_pos h2]
  unfold State.tfeRunEffect; rw [if_pos rfl, if_neg h1]; rw [e]; rfl

end Sys2Proof.Laws.OfGrotto
end

