-- ==== Sys2Proof/Laws/OfGroup.lean ====
section
/-! SUPPORT. Lemmas about the operations that the statements on GroupBusTalks, KeepersChange reach: what one operation
does to the fields that they name. -/

namespace Sys2Proof.Laws.OfGroup

set_option Elab.async false
set_option linter.all false

open Sys2Proof Sys2Proof.Machine Sys2Proof.Claims

theorem takeOk (s : State) (f : GroupFrame) (n : Nat) (h1 : f.crcOk = true) (h2 : s.ownGroup f.source.toNat = true) (h3 : n ≤ f.body.length) (h4 : f.source.toNat ≠ s.address) :
    s.takeFrame f n = (true, s) := by
  unfold State.takeFrame
  dsimp only
  rw [if_neg (by simp [h1]), if_neg (by simp [h2])]
  simp [h3, h4]
theorem setKeepers_grp (s : State) (k d : Nat) : (s.setKeepers k d).grp = { s.grp with keeper := k, deputy := d } := by
  unfold State.setKeepers
  extract_lets k0 d0 s1 role s2 s3 s4
  have e2 : s2.grp = { s.grp with keeper := k, deputy := d } := rfl
  have e3 : s3.grp = s2.grp := by
    dsimp only [s3]; split
    · rfl
    · exact State.log_grp ..
  have e4 : s4.grp = s3.grp := by
    dsimp only [s4]; split
    · rfl
    · exact State.log_grp ..
  rw [(State.showKeeper_keep (Keep.refl 1 s4) rfl).grp rfl, e4, e3, e2]
theorem setKeepers_u (s : State) (k d : Nat) {o m : Nat} (h1 : okey o m ≠ okey Obj.keeperRole 0) (h2 : okey o m ≠ okey Obj.keeperAddress 0) (h3 : logKey (okey o m) = false) :
    (s.setKeepers k d).u o m = s.u o m := by
  unfold State.setKeepers
  extract_lets k0 d0 s1 role s2 s3 s4
  have e2 : s2.u o m = s.u o m := State.u_put_other _ _ h1
  have e3 : s3.u o m = s2.u o m := by
    dsimp only [s3]; split
    · rfl
    · exact State.u_log _ _ _ h3
  have e4 : s4.u o m = s3.u o m := by
    dsimp only [s4]; split
    · rfl
    · exact State.u_log _ _ _ h3
  unfold State.showKeeper
  dsimp only
  rw [State.u_put_other _ _ h2, e4, e3, e2]
theorem setKeepers_role (s : State) (k d : Nat) : (s.setKeepers k d).u Obj.keeperRole =
    if !s.isMember then 0 else if k = s.address then 1 else if d = s.address then 2 else 0 := by
  unfold State.setKeepers
  extract_lets k0 d0 s1 role s2 s3 s4
  have e2 : s2.u Obj.keeperRole = role := by
    show (State.put _ _ _ _).u _ _ = _
    rw [State.u_put_same]; rfl
  have e3 : s3.u Obj.keeperRole = s2.u Obj.keeperRole := by
    dsimp only [s3]; split
    · rfl
    · exact State.u_log _ _ _ (by decide)
  have e4 : s4.u Obj.keeperRole = s3.u Obj.keeperRole := by
    dsimp only [s4]; split
    · rfl
    · exact State.u_log _ _ _ (by decide)
  unfold State.showKeeper
  dsimp only
  rw [State.u_put_other _ _ (by decide), e4, e3, e2]
  rfl
theorem setDeputy_u (s : State) {o m : Nat} (h1 : okey o m ≠ okey Obj.keeperRole 0) (h2 : okey o m ≠ okey Obj.keeperAddress 0) (h3 : logKey (okey o m) = false) :
    s.setDeputy.u o m = s.u o m := by
  unfold State.setDeputy
  split
  · exact setKeepers_u _ _ _ h1 h2 h3
  · rfl
theorem keeper_timed (s : State) (h : s.isKeeper = true) : s.timed = true := by
  unfold State.timed; split
  · exact h
  · rw [h]; rfl

theorem heard_grp (s : State) (a : Nat) : (s.keeperHeard a).grp = s.grp := (State.keeperHeard_keep (Keep.refl 262144 s) rfl a).grp rfl
theorem heard_u (s : State) (a o m : Nat) : (s.keeperHeard a).u o m = s.u o m := by
  unfold State.keeperHeard; split
  · exact State.setAv_u ..
  · rfl

theorem hear_members (s : State) (b : List Byte) (c : Bool) : (s.hearOrder b c).grp = (s.storeOrder b c).grp :=
  (State.keeperOrder_keep (Keep.refl 264393 _) rfl b true).grp rfl

theorem clearSlot_done (s : State) (k cause : Nat) : (s.clearSlot k cause).u Obj.groupValidMask = setBit s.validMask k false ∧
    Logged s (s.clearSlot k cause) 0xA00D (d8 k ++ d8 cause) := by
  unfold State.clearSlot
  refine ⟨?_, ?_⟩
  · rw [setDeputy_u _ (by decide) (by decide) (by decide), State.u_log _ _ _ (by decide)]
    exact (State.u_put_same _ _ _ _).trans (Int.toNat_natCast _)
  · refine Logged.keep (M := 67108863) ?_ (State.setDeputy_keep (Keep.refl _ _) rfl) rfl
    exact (Logged.log _ _ _).since (Nat.le_refl _)

theorem becomes (s : State) : (s.becomeKeeper).grp.keeper = s.address ∧ (s.becomeKeeper).u Obj.keeperRole = 1 ∧
    (s.becomeKeeper).u Obj.groupBusState = 2 ∧ (s.becomeKeeper).grp.listening = none ∧ (s.becomeKeeper).grp.handover = none ∧ (s.becomeKeeper).grp.base = s.grp.base := by
  unfold State.becomeKeeper
  extract_lets s1 s2 s3
  have ha : s3.u Obj.deviceAddress = s.u Obj.deviceAddress := by
    show (State.put (State.put (State.put s Obj.groupBusState 0 2) Obj.duplicateAddress 0 _) Obj.groupValidMask 0 _).u _ _ = _
    rw [State.u_put_other _ _ (by decide), State.u_put_other _ _ (by decide), State.u_put_other _ _ (by decide)]
  have hb : s3.u Obj.groupBusState = 2 := by
    show (State.put (State.put (State.put s Obj.groupBusState 0 2) Obj.duplicateAddress 0 _) Obj.groupValidMask 0 _).u _ _ = _
    rw [State.u_put_other _ _ (by decide), State.u_put_other _ _ (by decide), State.u_put_same]; rfl
  have hc : s3.grp.listening = none ∧ s3.grp.handover = none ∧ s3.grp.base = s.grp.base := ⟨rfl, rfl, rfl⟩
  clear_value s3
  refine ⟨?_, ?_, ?_, ?_, ?_, ?_⟩
  · rw [setKeepers_grp]; unfold State.address; exact ha
  · rw [setKeepers_role]; rw [if_neg (by unfold State.isMember; rw [hb]; decide), if_pos rfl]
  · rw [setKeepers_u _ _ _ (by decide) (by decide) (by decide)]; exact hb
  · rw [setKeepers_grp]; exact hc.1
  · rw [setKeepers_grp]; exact hc.2.1
  · rw [setKeepers_grp]; exact hc.2.2

end Sys2Proof.Laws.OfGroup
end

