-- ==== Sys2Proof/Laws/OfImages.lean ====
section
/-! SUPPORT. Lemmas about the operations that the statements on ImagesChange reach: what one operation
does to the fields that they name. -/

namespace Sys2Proof.Laws.OfImages

set_option Elab.async false
set_option linter.all false

open Sys2Proof Sys2Proof.Machine Sys2Proof.Claims

theorem img_log (s : State) (k : Nat) (d : List Byte) : (s.log k d).img = s.img := State.log_img ..
theorem ownerKey_eff (s : State) (b : List Byte) (op : Nat) (h0 : ofBe (slice b 0 1) = op) (h1 : op = 1 ∨ op = 2 ∨ op = 3)
    (h2 : b.length = nth [0, 1802, 3082, 1289] op 0) (h3 : s.clk.sfn ≤ ofBe (slice b 1 8) + 10000)
    (h4 : ofBe (slice b 1 8) ≤ s.clk.sfn + 10000) (h5 : op ≠ 1 → s.grot.ownerBad = false)
    (h6 : if op = 1 then (s.slot 3).typ = 0
      else (s.slot 3).typ ≠ 0 ∧ Config.verdict Config.falconVerify [(s.slot 3).data,
        b.take (b.length - 1280) ++ fit 16 (s.o Obj.deviceSerial), b.drop (b.length - 1280)] = true)
    (h7 : op ≠ 3 → ∀ sub ∈ [1, 2, 3, 4, 5, 6], (s.imgSlot (imgIndex sub (s.activeSlot sub))).factory = false ∧
      ownerSigned (slice b 9 1793) (s.imgSlot (imgIndex sub (s.activeSlot sub))).data = true)
    (h8 : (s.slot 3).shadow = none) (key digest : List Byte) (hkey : (if op = 3 then [] else slice b 9 1793) = key)
    (hd : (if op = 3 then List.replicate 64 0 else Config.shake256 64 key) = digest) :
    s.ownerKeyEffect b = ({}, ((((if op = 3 then s.emptySlot 3 else s.writeSlot 3 4 key).setGr
      (fun g => { g with ownerBad := false })).putO Obj.ownerKeyDigest 0 digest).saveSlot 3).log 0x9004 (d8 op ++ digest)) := by
  unfold State.ownerKeyEffect
  extract_lets o sfn k' sig len lenBad sfnBad held sigBad imgBad code
  have ho : o = op := h0
  have hk : k' = key := by show (if o = 3 then _ else _) = _; rw [ho]; exact hkey
  have hl : lenBad = false := by show decide (b.length ≠ nth [0, 1802, 3082, 1289] o 0) = false; rw [ho]; simp [h2]
  have hs : sfnBad = false := by
    show (decide (s.clk.sfn + 10000 < ofBe (slice b 1 8)) || decide (ofBe (slice b 1 8) + 10000 < s.clk.sfn)) = false
    simp; omega
  have hsig : sigBad = false := by
    show (o != 1 && (!((s.slot 3).typ != 0) || s.grot.ownerBad || !Config.verdict Config.falconVerify [(s.slot 3).data, b.take (b.length - 1280) ++ fit 16 (s.o Obj.deviceSerial), b.drop (b.length - 1280)])) = false
    rw [ho]
    by_cases h : op = 1
    · rw [h]; rfl
    · rw [if_neg h] at h6
      rw [h6.2, h5 h]; simp [h6.1]
  have himg : imgBad = false := by
    show (o != 3 && _) = false
    rw [ho]
    by_cases h : op = 3
    · rw [h]; rfl
    · have := h7 h
      rw [List.any_eq_false.mpr]
      · simp
      · intro sub hsub
        obtain ⟨g1, g2⟩ := this sub hsub
        show ¬ ((s.imgSlot (imgIndex sub (s.activeSlot sub))).factory || !ownerSigned k' (s.imgSlot (imgIndex sub (s.activeSlot sub))).data) = true
        rw [g1, hk, ← hkey, if_neg h, g2]; simp
  have hheld : ¬ (o = 1 ∧ held = true ∨ (s.slot 3).shadow.isSome = true) := by
    rintro (⟨a, c⟩ | a)
    · rw [ho] at a
      rw [if_pos a] at h6
      have : held = ((s.slot 3).typ != 0) := rfl
      rw [this, h6] at c; cases c
    · rw [h8] at a; cases a
  have hc : code = 0 := by
    show firstFault _ = 0
    rw [hl, hs, hsig, himg, if_neg hheld]; rfl
  rw [if_neg (by rw [hc]; decide)]
  clear_value code imgBad sigBad held sfnBad lenBad o k'
  subst ho hk hd
  rfl

theorem startUnit_p {α : Type} (p : Grotto → α) (hp : ∀ g q t, p { g with queue := q, turn := t } = p g) (s : State) (u : Nat) : p (s.startUnit u).grot = p s.grot := by
  unfold State.startUnit
  split
  · rfl
  · split
    · rw [(State.showUnit_keep (State.release_keep (Keep.refl 121 _) rfl _ _) rfl _ _).grot rfl]
    · rename_i q hq
      dsimp only
      have k1 : Keep 121 s (if unitCost u = 0 ∨ s.holds Act.grotto u ≠ 0 then (0, s) else s.ask Act.grotto u (unitCost u)).2 := by
        split
        · exact Keep.refl _ _
        · exact State.ask_keep (Keep.refl _ _) rfl _ _ _
      generalize (if unitCost u = 0 ∨ s.holds Act.grotto u ≠ 0 then (0, s) else s.ask Act.grotto u (unitCost u)) = a at k1 ⊢
      obtain ⟨a, y'⟩ := a
      dsimp only at k1 ⊢
      have e : p y'.grot = p s.grot := by rw [k1.grot rfl]
      split
      · split
        · rw [(State.complete_keep (Keep.refl 121 _) rfl _ _).grot rfl]
          exact (hp y'.grot _ y'.grot.turn).trans e
        · exact e
      · exact (hp y'.grot _ _).trans e

end Sys2Proof.Laws.OfImages
end

