-- ==== Sys2Proof/Laws/OfLanes.lean ====
section
/-! SUPPORT. Lemmas about the operations that the statements on LanesServe, ReceiverLocks reach: what one operation
does to the fields that they name. -/

namespace Sys2Proof.Laws.OfLanes

set_option Elab.async false
set_option linter.all false

open Sys2Proof Sys2Proof.Machine Sys2Proof.Claims

theorem lk_lr : ∀ l : Fin 32, logKey (okey (Obj.laneRate + 256 * (l.val / 8)) (l.val % 8)) = false := by decide
theorem lk_ls : ∀ l : Fin 32, logKey (okey (Obj.laneState + 256 * (l.val / 8)) (l.val % 8)) = false := by decide
theorem lk_cs : ∀ l : Fin 64, logKey (okey Obj.clientLaneState l.val) = false := by decide
theorem lk_cl : ∀ l : Fin 64, logKey (okey Obj.clientLanes l.val) = false := by decide
theorem leaveF_u {o m : Nat} (h : logKey (okey o m) = false) (s : State) (x : Nat) : (s.leaveFault x).u o m = s.u o m := by
  unfold State.leaveFault
  split
  · rfl
  · exact State.u_log _ _ _ h
theorem judge_u {o m : Nat} (h : logKey (okey o m) = false) (g : ∀ x < 64, okey o m ≠ okey Obj.clientLaneState x) (s : State) :
    s.judgeLanes.u o m = s.u o m := by
  unfold State.judgeLanes
  have hx : ∀ x ∈ List.range 64, x < 64 := fun x hx => List.mem_range.mp hx
  generalize List.range 64 = l at hx ⊢
  induction l generalizing s with
  | nil => rfl
  | cons x l ih =>
    rw [List.foldl_cons, ih _ (fun y hy => hx y (List.mem_cons_of_mem _ hy))]
    have gx := g x (hx x (List.mem_cons_self ..))
    split
    · exact (State.u_put_other _ _ gx).trans (leaveF_u h _ _)
    · split
      · dsimp only
        split
        · exact (State.u_put_other _ _ gx)
        · exact (State.u_log _ _ _ h).trans (State.u_put_other _ _ gx)
      · exact (State.u_put_other _ _ gx)
theorem leave_u {o m : Nat} (h : logKey (okey o m) = false) (g : ∀ x < 64, okey o m ≠ okey Obj.clientLaneState x) (s : State) :
    s.leaveFaults.u o m = s.u o m := by
  unfold State.leaveFaults
  generalize s.lanes.faults = l
  induction l generalizing s with
  | nil => rfl
  | cons x l ih =>
    rw [List.foldl_cons, ih]
    split
    · exact (judge_u h g _).trans (leaveF_u h _ _)
    · rfl
theorem ls_u {o m : Nat} (l v : Nat) (h : logKey (okey o m) = false) (g : okey o m ≠ okey (Obj.laneState + 256 * (l / 8)) (l % 8)) (s : State) :
    (s.laneState l v).u o m = s.u o m := by
  unfold State.laneState
  dsimp only
  split
  · rfl
  · exact (State.u_log _ _ _ h).trans (State.u_put_other _ _ g)
theorem ne_ls (l : Fin 32) : ∀ x < 64, okey (Obj.laneState + 256 * (l.val / 8)) (l.val % 8) ≠ okey Obj.clientLaneState x := by
  intro x hx; refine okey_ne (by omega) (by omega) (Or.inl ?_); revert l; decide
theorem ne_lr (l : Fin 32) : ∀ x < 64, okey (Obj.laneRate + 256 * (l.val / 8)) (l.val % 8) ≠ okey Obj.clientLaneState x := by
  intro x hx; refine okey_ne (by omega) (by omega) (Or.inl ?_); revert l; decide
theorem ne_cl (y : Fin 64) : ∀ x < 64, okey Obj.clientLanes y.val ≠ okey Obj.clientLaneState x := by
  intro x hx; exact okey_ne (by omega) (by omega) (Or.inl (by decide))
theorem ne_lrls : ∀ l : Fin 32, okey (Obj.laneRate + 256 * (l.val / 8)) (l.val % 8) ≠ okey (Obj.laneState + 256 * (l.val / 8)) (l.val % 8) := by decide

theorem lk_lock (c : Carrier) : logKey (okey (on c Obj.lockState) 0) = false := by cases c <;> decide
theorem enterAcq_lock (s : State) (c : Carrier) (k : AcqKind) : (s.enterAcq c k).lock c = if k = .cold then 3 else 6 := by
  unfold State.enterAcq
  extract_lets f s1 s2 s3
  have e3 : s3.u (on c Obj.lockState) = if k = .cold then 3 else 6 := by
    refine (State.u_put_same _ _ _ _).trans ?_
    split <;> rfl
  split
  · unfold State.setValidity State.lock
    split
    · exact e3.trans (if_pos ‹_›)
    · rw [State.u_logC _ _ _ _ (lk_lock c), State.setRx_u]
      exact e3.trans (if_pos ‹_›)
  · exact e3.trans (if_neg ‹_›)
theorem startAcq_lock (s : State) (c : Carrier) (k : AcqKind) : (s.startAcq c k).lock c =
    if s.noInput c = true then 1
    else if s.holds Act.acq c.toNat ≠ 0 ∨ s.judge Act.acq c.toNat acqCost = 0 then
      (if s.goneLong c = true ∨ k = .cold then 3 else 6) else 2 := by
  unfold State.startAcq
  extract_lets k' r0
  have hr : r0 = s.ask Act.acq c.toNat acqCost := rfl
  clear_value r0
  have hk : (if k' = .cold then 3 else 6) = if s.goneLong c = true ∨ k = .cold then 3 else 6 := by
    show (if (if s.goneLong c = true then AcqKind.cold else k) = .cold then 3 else 6) = _
    by_cases hg : s.goneLong c = true
    · rw [if_pos hg, if_pos rfl, if_pos (Or.inl hg)]
    · rw [if_neg hg]; simp [hg]
  rw [← hk]
  clear_value k'
  split
  · exact State.u_put_same _ _ _ _
  · split
    · rename_i h; rw [enterAcq_lock, if_pos (Or.inl h)]
    · rename_i h
      by_cases hj : s.judge Act.acq c.toNat acqCost = 0
      · have e : s.ask Act.acq c.toNat acqCost = (0, (s.enter Act.acq c.toNat (s.holds Act.acq c.toNat + acqCost)).occur 0x2080 { master := some 2 }) := by
          simp only [State.ask]; rw [if_pos hj]
        rw [hr, e]
        dsimp only
        rw [if_pos rfl, enterAcq_lock, if_pos (Or.inr hj)]
      · have e : s.ask Act.acq c.toNat acqCost = (s.judge Act.acq c.toNat acqCost, s.refuseCost Act.acq (s.judge Act.acq c.toNat acqCost) acqCost) := by
          simp only [State.ask]; rw [if_neg hj]
        rw [hr, e]
        dsimp only
        rw [if_neg hj, if_neg (by rintro (q | q); exact h q; exact hj q)]
        unfold State.acqRefused
        extract_lets first s1 s2
        have e2 : s2.u (on c Obj.lockState) = 2 := State.u_put_same _ _ _ _
        split
        · exact (State.u_logC _ _ _ _ (lk_lock c)).trans e2
        · exact e2
theorem late_not (s : State) (c : Carrier) (h : s.clk.sfn ≤ (s.rxs c).stepStart + s.stepBound c) : s.stepLate c = false := by
  unfold State.stepLate; exact decide_eq_false (by omega)
theorem bound3 (s : State) (c : Carrier) (h : s.lock c = 3) : s.stepBound c = 10 := by
  unfold State.stepBound; rw [h]; cases (s.rxs c).kind <;> rfl
theorem bound4 (s : State) (c : Carrier) (h : s.lock c = 4) : s.stepBound c = 140 := by
  unfold State.stepBound; rw [h]; cases (s.rxs c).kind <;> rfl
theorem bound5 (s : State) (c : Carrier) (h : s.lock c = 5) : s.stepBound c = 200 := by
  unfold State.stepBound; rw [h]; cases (s.rxs c).kind <;> rfl

theorem reach (c : Carrier) (z : State) : (z.reachTracking c).lock c = 7 ∧
    (z.reachTracking c).u (on c Obj.acqTimeLast) = z.clk.sfn - (z.rxs c).acqStart ∧
    (z.reachTracking c).i (on c Obj.freqOffset) = (z.rxs c).offset ∧ ((z.reachTracking c).rxs c).fails = 0 := by
  unfold State.reachTracking
  extract_lets x cold s1 s2 s3 s4 s5
  refine ⟨?_, ?_, ?_, ?_⟩
  · exact (State.u_logC _ _ _ _ (lk_lock c)).trans ((State.setFr_u _ _ _ _ _).trans ((State.setRx_u _ _ _ _ _).trans
      ((State.u_put_other _ _ (by cases c <;> decide)).trans (State.u_put_same _ _ _ _))))
  · exact (State.u_logC _ _ _ _ (by cases c <;> decide)).trans ((State.setFr_u _ _ _ _ _).trans ((State.setRx_u _ _ _ _ _).trans
      ((State.u_put_other _ _ (by cases c <;> decide)).trans ((State.u_put_other _ _ (by cases c <;> decide)).trans
      ((State.u_put_same _ _ _ _).trans (Int.toNat_natCast _))))))
  · refine (State.i_logC _ _ _ _ (by cases c <;> decide)).trans ((State.setFr_i _ _ _ _ _).trans ((State.setRx_i _ _ _ _ _).trans
      (State.i_put_same _ _ _ _)))
  · rw [State.rxs_congr (State.logC_eq _ _ _ _)]
    show (State.rxs (State.setRx _ _ _) _).fails = _
    rw [State.rxs_setRx_same]
theorem windowSix (c : Carrier) (w : PilotWin) (s : State) (h1 : s.lock c = 6) (h0 : s.stepLate c = false)
    (h2 : w.pattern = true) (h3 : (s.u (on c Obj.sfThreshold) : Int) * 100 + 1000 ≤ w.snr) (h4 : s.muteSeen c w = false)
    (h5 : 1 ≤ (s.rxs c).pilots) : (s.pilotWindow c w).lock c = 7 ∧
    (s.pilotWindow c w).u (on c Obj.acqTimeLast) = s.clk.sfn - (s.rxs c).acqStart ∧
    (s.pilotWindow c w).i (on c Obj.freqOffset) = (s.rxs c).offset ∧ ((s.pilotWindow c w).rxs c).fails = 0 := by
  unfold State.pilotWindow
  extract_lets thr mute s1 x ok s2 bad s3 ok4 s4
  have x1 : x = { s.rxs c with pilotSnr := w.snr } := State.rxs_setRx_same _ _ _
  have l1 : s1.lock c = 6 := h1
  have e0 : s1.stepLate c = false := by
    unfold State.stepLate at h0 ⊢
    have : s1.stepBound c = s.stepBound c := by
      unfold State.stepBound
      have k : (s1.rxs c).kind = (s.rxs c).kind := by
        show x.kind = _
        rw [x1]
      rw [l1, h1, k]
    rw [this]
    show decide (x.stepStart + _ < s.clk.sfn) = false
    rw [x1]
    exact h0
  have hok : ok = true := by
    show (w.pattern && decide (thr + 1000 ≤ w.snr) && !mute) = true
    have hm : mute = false := h4
    rw [hm, h2]
    simpa [thr] using h3
  have x2 : s2.rxs c = { x with pilots := x.pilots + 1 } := by
    show State.rxs (State.setRx _ _ _) _ = _
    rw [State.rxs_setRx_same]
    show { x with pilots := if ok = true then x.pilots + 1 else 0 } = _
    rw [hok]; rfl
  rw [if_pos l1, e0, if_neg Bool.false_ne_true, if_pos (by rw [hok, x1]; simpa using h5)]
  obtain ⟨q1, q2, q3, q4⟩ := reach c s2
  have c2 : s2.clk = s.clk := rfl
  exact ⟨q1, by rw [q2, c2, x2, x1], by rw [q3, x2, x1], q4⟩

end Sys2Proof.Laws.OfLanes
end

