-- ==== Sys2Proof/Laws/OfMachine.lean ====
section
/-! SUPPORT. Lemmas about the operations that the statements on StepRunsTheFront, EmptyQueueIdles, ResetLeaves, InvariantsAtReset, MemoryStaysCanonical, EventsStayInOrder, FrameOfEveryCommand, WhatNoCommandUndoes, TimeNeverFalls, FewCommandsWriteMemory, EveryCommandCompletes, RolesHoldWhatLowerOnesHold, EntriesRunInOrder, OffsetsBecomeTicks, CountersHaveTwoObjects, SpareToTrim, MisstrappedFramesAreIgnored, DescribesAnswerEightOctets reach: what one operation
does to the fields that they name. -/

namespace Sys2Proof.Laws.OfMachine

set_option Elab.async false
set_option linter.all false

open Sys2Proof Sys2Proof.Machine Sys2Proof.Claims

def zones : List Zone :=
  [.live, .user, .clk, .diag, .pow, .mem, .aop, .frame, .conv, .cal, .eq, .load, .pool, .lanes, .ciph, .grot, .bel,
   .foot, .av, .svc, .img, .grp, .dmn, .sram, .sfn, .supply]

theorem touched_mask (i : Instr) :
    (zones.all fun z => (touched i).contains z || Nat.land (keepMask i) z.bit == 0) = true := by
  cases i <;> (simp only [touched, keepMask]; decide +kernel)

/-- What the fold of `pickBest` holds after each slice. -/
theorem pickFold {f : Option (Nat × Slice) → Nat × Slice → Option (Nat × Slice)}
    (hf : ∀ b x, f (some b) x = if decide (x.2.trimSfn < b.2.trimSfn) = true then some x else some b)
    (l : List (Nat × Slice)) (b : Nat × Slice)
    (hl : l.Pairwise (fun x y => x.1 < y.1)) (hb : ∀ x ∈ l, b.1 < x.1) :
    ∃ r, l.foldl f (some b) = some r ∧
      (r = b ∨ r ∈ l) ∧
      ∀ x ∈ b :: l, r.2.trimSfn < x.2.trimSfn ∨ (r.2.trimSfn = x.2.trimSfn ∧ r.1 ≤ x.1) := by
  induction l generalizing b with
  | nil =>
    refine ⟨b, rfl, .inl rfl, fun x hx => ?_⟩
    rcases List.mem_cons.mp hx with rfl | h
    · exact .inr ⟨rfl, Nat.le_refl _⟩
    · cases h
  | cons y l ih =>
    rw [List.pairwise_cons] at hl
    rw [List.foldl_cons]
    by_cases hy : y.2.trimSfn < b.2.trimSfn
    · obtain ⟨r, e, hr, hm⟩ := ih y hl.2 hl.1
      refine ⟨r, ?_, ?_, fun x hx => ?_⟩
      · rw [← e]
        rw [hf, if_pos (decide_eq_true hy)]
      · rcases hr with rfl | hr
        · exact .inr (List.mem_cons_self ..)
        · exact .inr (List.mem_cons_of_mem _ hr)
      · rcases List.mem_cons.mp hx with rfl | hx
        · have := hm y (List.mem_cons_self ..)
          exact .inl (by omega)
        · exact hm x hx
    · obtain ⟨r, e, hr, hm⟩ := ih b hl.2 (fun x hx => hb x (List.mem_cons_of_mem _ hx))
      refine ⟨r, ?_, ?_, fun x hx => ?_⟩
      · rw [← e]
        rw [hf, if_neg (by rw [decide_eq_true_eq]; exact hy)]
      · rcases hr with rfl | hr
        · exact .inl rfl
        · exact .inr (List.mem_cons_of_mem _ hr)
      · rcases List.mem_cons.mp hx with rfl | hx
        · exact hm _ (List.mem_cons_self ..)
        · rcases List.mem_cons.mp hx with rfl | hx
          · have h0 := hm b (List.mem_cons_self ..)
            have h1 := hb _ (List.mem_cons_self ..)
            omega
          · exact hm x (List.mem_cons_of_mem _ hx)

theorem mem_numbered {v : Conv} {i : Nat} {x : Slice} : (i, x) ∈ v.numbered ↔ v.slices[i]? = some x := by
  unfold Conv.numbered
  rw [List.mem_mapIdx]
  constructor
  · rintro ⟨k, hk, h⟩
    cases h
    exact List.getElem?_eq_getElem hk
  · intro h
    obtain ⟨hk, h⟩ := List.getElem?_eq_some_iff.mp h
    exact ⟨i, hk, by rw [h]⟩

theorem numbered_sorted (v : Conv) : v.numbered.Pairwise (fun x y => x.1 < y.1) := by
  unfold Conv.numbered
  rw [List.pairwise_iff_getElem]
  intro i j hi hj h
  rw [List.getElem_mapIdx, List.getElem_mapIdx]
  exact h

end Sys2Proof.Laws.OfMachine
end

