-- ==== Sys2Proof/Laws/OfPool.lean ====
section
/-! SUPPORT. Lemmas about the operations that the statements on PoolWorks, LoadingAndCalibrationWrites reach: what one operation
does to the fields that they name. -/

namespace Sys2Proof.Laws.OfPool

set_option Elab.async false
set_option linter.all false

open Sys2Proof Sys2Proof.Machine Sys2Proof.Claims

theorem engineTake_pool (s : State) (b : Nat) :
    (s.engineTake b).pool.used = s.pool.used ∧ (s.engineTake b).pool.hist = s.pool.hist ∧
    (s.engineTake b).pool.cur = s.pool.cur ∧ (s.engineTake b).pool.overflows = s.pool.overflows ∧
    ((s.engineTake b).pool.words.map (fun x => { x with running := false })) = s.pool.words.map (fun x => { x with running := false }) := by
  unfold State.engineTake
  split
  · exact ⟨rfl, rfl, rfl, rfl, rfl⟩
  · split
    · exact ⟨rfl, rfl, rfl, rfl, rfl⟩
    · refine ⟨rfl, rfl, rfl, rfl, ?_⟩
      show List.map _ (List.map _ _) = _
      rw [List.map_map]
      apply List.map_congr_left
      intro y hy
      dsimp only [Function.comp]
      split <;> rfl
theorem fill_pool (s : State) (b : Nat) :
    (s.fillEngines b).pool.used = s.pool.used ∧ (s.fillEngines b).pool.hist = s.pool.hist ∧
    (s.fillEngines b).pool.cur = s.pool.cur ∧ (s.fillEngines b).pool.overflows = s.pool.overflows ∧
    ((s.fillEngines b).pool.words.map (fun x => { x with running := false })) = s.pool.words.map (fun x => { x with running := false }) := by
  unfold State.fillEngines
  generalize List.range 12 = l
  induction l generalizing s with
  | nil => exact ⟨rfl, rfl, rfl, rfl, rfl⟩
  | cons a l ih =>
    obtain ⟨h1, h2, h3, h4, h5⟩ := ih (s.engineTake b)
    obtain ⟨g1, g2, g3, g4, g5⟩ := engineTake_pool s b
    exact ⟨h1.trans g1, h2.trans g2, h3.trans g3, h4.trans g4, h5.trans g5⟩
theorem fillAll_pool (s : State) (l : List Nat) :
    (l.foldl (fun s b => s.fillEngines b) s).pool.used = s.pool.used ∧ (l.foldl (fun s b => s.fillEngines b) s).pool.hist = s.pool.hist ∧
    (l.foldl (fun s b => s.fillEngines b) s).pool.cur = s.pool.cur ∧ (l.foldl (fun s b => s.fillEngines b) s).pool.overflows = s.pool.overflows ∧
    ((l.foldl (fun s b => s.fillEngines b) s).pool.words.map (fun x => { x with running := false })) = s.pool.words.map (fun x => { x with running := false }) := by
  induction l generalizing s with
  | nil => exact ⟨rfl, rfl, rfl, rfl, rfl⟩
  | cons a l ih =>
    obtain ⟨h1, h2, h3, h4, h5⟩ := ih (s.fillEngines a)
    obtain ⟨g1, g2, g3, g4, g5⟩ := fill_pool s a
    rw [List.foldl_cons]
    exact ⟨h1.trans g1, h2.trans g2, h3.trans g3, h4.trans g4, h5.trans g5⟩
theorem groupArrives_one (s : State) (c : Carrier) (g : GroupIn) (l : List Int) (h : g.llrs = [l])
    (hg : 0 < groupSize (s.codewords c (s.codesOf c (s.frameLoading c g.frame g.trial))) g.group) :
    s.groupArrives c g = allBanks.foldl (fun s b => s.fillEngines b)
      (if (s.wordArrives c g 0 l).u Obj.slotsPeak < (s.wordArrives c g 0 l).slotsUsed then
        (s.wordArrives c g 0 l).put Obj.slotsPeak 0 (s.wordArrives c g 0 l).slotsUsed else s.wordArrives c g 0 l) := by
  obtain ⟨k, hk⟩ := Nat.exists_eq_add_of_lt hg
  unfold State.groupArrives
  dsimp only
  rw [h, hk, Nat.zero_add, List.take_succ_cons, List.take_nil]
  have : ([l].mapIdx (fun j l => (j, l))) = [(0, l)] := rfl
  rw [this]
  simp only [List.foldl_cons (l := []), List.foldl_nil (b := s.wordArrives c g 0 l)]
theorem bk (b : Fin 4) : logKey (okey (Obj.bankState + 256 * b) 0) = false := by revert b; decide
theorem slotFin (s : State) (c : Carrier) (g : GroupIn) (l : List Int) (h : g.llrs = [l])
    (hg : 0 < groupSize (s.codewords c (s.codesOf c (s.frameLoading c g.frame g.trial))) g.group)
    (z : State) (hz : s.wordArrives c g 0 l = z)
    (x : Codeword) (hr : x.running = false) (hw : z.pool.words = s.pool.words ++ [x]) :
    ∃ y ∈ (s.groupArrives c g).pool.words, { y with running := false } = x := by
  rw [groupArrives_one s c g l h hg, hz]
  have : ∃ y : State, (if z.u Obj.slotsPeak < z.slotsUsed then z.put Obj.slotsPeak 0 z.slotsUsed else z) = y ∧ y.pool = z.pool := by
    split
    · exact ⟨_, rfl, rfl⟩
    · exact ⟨_, rfl, rfl⟩
  obtain ⟨y, h4, h5⟩ := this
  rw [h4]
  have h6 := (fillAll_pool y allBanks).2.2.2.2
  rw [h5, hw, List.map_append, List.map_cons, List.map_nil] at h6
  have h7 : { x with running := false } ∈ ((List.foldl (fun s b => s.fillEngines b) y allBanks).pool.words.map (fun x => { x with running := false })) :=
    h6 ▸ List.mem_append_right _ (List.mem_singleton.mpr rfl)
  obtain ⟨x', hx', h8⟩ := List.mem_map.mp h7
  exact ⟨x', hx', h8.trans (by rw [← hr])⟩
theorem wordSlot (c : Carrier) (g : GroupIn) (b i : Nat) (l : List Int) (s : State) (h2 : s.nextSlot = some (b, i))
    (h3 : s.pool.lastOut.get c < (s.newWord c g 0 l).release) :
    (s.wordArrives c g 0 l).pool.words = s.pool.words ++ [{ s.newWord c g 0 l with slot := some i }] := by
  unfold State.wordArrives
  extract_lets x s1
  rw [if_neg (Nat.not_le.mpr h3), h2]
  rfl

theorem wordOver (c : Carrier) (g : GroupIn) (l : List Int) (s : State) (h2 : s.nextSlot = none)
    (h3 : s.pool.lastOut.get c < (s.newWord c g 0 l).release) :
    (s.wordArrives c g 0 l).pool.words = s.pool.words ++ [{ s.newWord c g 0 l with finished := true }] ∧
    (s.wordArrives c g 0 l).pool.overflows = s.pool.overflows + 1 := by
  unfold State.wordArrives
  extract_lets x
  rw [if_neg (Nat.not_le.mpr h3), h2]
  constructor
  · show (s.bump Obj.overflowCount).pool.words ++ _ = _
    rw [State.bump_pool]
  · show (s.bump Obj.overflowCount).pool.overflows + 1 = _
    rw [State.bump_pool]
theorem overFin (s : State) (c : Carrier) (g : GroupIn) (l : List Int) (h : g.llrs = [l])
    (hg : 0 < groupSize (s.codewords c (s.codesOf c (s.frameLoading c g.frame g.trial))) g.group)
    (z : State) (hz : s.wordArrives c g 0 l = z) :
    (s.groupArrives c g).pool.overflows = z.pool.overflows := by
  rw [groupArrives_one s c g l h hg, hz, (fillAll_pool _ _).2.2.2.1]
  split <;> rfl

theorem setFill (s : State) (x : Codeword) (f : Codeword → Codeword) (b : Nat) (hx : x ∈ s.pool.words)
    (hf : ∀ y, y.running = false → (f y).running = false) (hr : (f x).running = false) :
    ((s.setWord x f).fillEngines b).pool.used = s.pool.used ∧
    ∃ y ∈ ((s.setWord x f).fillEngines b).pool.words, { y with running := false } = f x := by
  obtain ⟨h1, -, -, -, h5⟩ := fill_pool (s.setWord x f) b
  refine ⟨h1, ?_⟩
  have hm : f x ∈ (s.setWord x f).pool.words :=
    List.mem_map.mpr ⟨x, hx, if_pos (by simp [Codeword.is])⟩
  have h7 : { f x with running := false } ∈ ((s.setWord x f).fillEngines b).pool.words.map (fun x => { x with running := false }) :=
    by rw [h5]; exact List.mem_map_of_mem hm
  obtain ⟨y, hy, h8⟩ := List.mem_map.mp h7
  refine ⟨y, hy, h8.trans ?_⟩
  rw [← hr]

theorem relFin (z : State) (b : Nat) (x : Codeword) (H : List Nat) (C : Pair SfCount)
    (g : z.pool.hist = H ∧ z.pool.cur = C ∧ ∀ y ∈ z.pool.words, y.is x = false) :
    (z.fillEngines b).pool.hist = H ∧ (z.fillEngines b).pool.cur = C ∧ ∀ y ∈ (z.fillEngines b).pool.words, y.is x = false := by
  obtain ⟨g1, g2, g3⟩ := g
  obtain ⟨h1, h2, h3, h4, h5⟩ := fill_pool z b
  refine ⟨h2.trans g1, h3.trans g2, ?_⟩
  intro y hy
  have hm := List.mem_map_of_mem (f := fun x : Codeword => { x with running := false }) hy
  rw [h5] at hm
  obtain ⟨w, hw, hh⟩ := List.mem_map.mp hm
  have q := g3 w hw
  unfold Codeword.is at q ⊢
  rw [← q]
  have k1 := congrArg Codeword.carrier hh
  have k2 := congrArg Codeword.frame hh
  have k3 := congrArg Codeword.number hh
  have k4 := congrArg Codeword.trial hh
  dsimp only at k1 k2 k3 k4
  rw [k1, k2, k3, k4]
theorem passOn_out (s : State) (x : Codeword) :
    .codeword x.carrier x.frame x.number (x.bits % 2 ^ infoBits x.load.rate) (!x.zero) ∈ (s.passOn x).out := by
  unfold State.passOn
  extract_lets info z p
  split <;> exact List.mem_cons_self

theorem k1 (c : Carrier) (k : Fin 16) : okey (on c Obj.loadingMode) 0 ≠ okey (on c Obj.loadingCeiling) k := by cases c <;> revert k <;> decide
theorem k2 (c : Carrier) (k : Fin 16) : okey (on c Obj.rxLoadingWord) k ≠ okey (on c Obj.loadingCeiling) k := by cases c <;> revert k <;> decide
theorem k3 (c : Carrier) (k : Fin 16) : okey (on c Obj.subcarrierCount) 0 ≠ okey (on c Obj.loadingCeiling) k := by cases c <;> revert k <;> decide

theorem armOne (c : Carrier) (z : State) (k : Nat) (a : z.domOff (Dn.rx c) = true) (b : z.domOff (Dn.tx c) = true) :
    (z.armLoad c k 255 2).pow = z.pow ∧ (z.armLoad c k 255 2).cal.wakeLoads = z.cal.wakeLoads ++ [(c.toNat * 8 + k, 255, 2)] := by
  unfold State.armLoad; rw [if_pos (by split <;> assumption)]; exact ⟨rfl, rfl⟩
theorem armAll (c : Carrier) (l : List Nat) : ∀ (z : State), z.domOff (Dn.rx c) = true → z.domOff (Dn.tx c) = true →
        (l.foldl (fun s k => s.armLoad c k 255 2) z).cal.wakeLoads = z.cal.wakeLoads ++ l.map (fun k => (c.toNat * 8 + k, 255, 2)) := by
  induction l with
  | nil => intro z a b; simp
  | cons k l ih =>
    intro z a b
    obtain ⟨e1, e2⟩ := armOne c z k a b
    rw [List.foldl_cons, ih _ ((State.domOff_congr e1 _).trans a) ((State.domOff_congr e1 _).trans b), e2]
    simp

end Sys2Proof.Laws.OfPool
end

