-- ==== Sys2Proof/Laws/OfPower.lean ====
section
/-! SUPPORT. Lemmas about the operations that the statements on DomainsSleepAndWake, LedgerAndShedding reach: what one operation
does to the fields that they name. -/

namespace Sys2Proof.Laws.OfPower

set_option Elab.async false
set_option linter.all false

open Sys2Proof Sys2Proof.Machine Sys2Proof.Claims

theorem dom_setDom_st (s : State) (d : Nat) (f : Dom → Dom) (x : DomSt) (hf : ∀ y, (f y).st = x) (hx : x = Dom.init.st ∨ d < s.pow.doms.length) :
    ((s.setDom d f).dom d).st = x := by
  unfold State.dom State.setDom
  dsimp only
  by_cases h : d < s.pow.doms.length
  · rw [nth_modNth_same _ _ _ h, hf]
  · rcases hx with hx | hx
    · rw [hx]; simp [nth, getElem?_modNth, Nat.le_of_not_lt h]
    · exact absurd hx h

theorem held_setDom (z : State) (d f) : (z.setDom d f).pow.held = z.pow.held := rfl
theorem clear_f (z : State) (d : Nat) : (z.clearDomainSram d).aop.stalls = z.aop.stalls ∧ (z.clearDomainSram d).pow = z.pow ∧ (z.clearDomainSram d).mem.ret = z.mem.ret ∧
   ∀ p ∈ (z.clearDomainSram d).mem.sram, 1408 * bankSize ≤ p.1 ∨ bankDomain (p.1 / bankSize) ≠ d := by
  refine ⟨rfl, rfl, rfl, ?_⟩
  intro p hp
  have := (List.mem_filter.mp hp).2
  simpa only [Bool.or_eq_true, decide_eq_true_eq, bne_iff_ne, ne_eq] using this

theorem applyHeld_none (y : State) (d : Nat) (h : ∀ x ∈ y.pow.held, x.dom ≠ d) : (y.applyHeld d).aop = y.aop ∧ (y.applyHeld d).pow.doms = y.pow.doms ∧ (y.applyHeld d).mem = y.mem := by
  have e : y.pow.held.filter (fun h => h.dom == d) = [] := List.filter_eq_nil_iff.mpr (by simpa using h)
  have : y.applyHeld d = { y with pow := { y.pow with held := y.pow.held.filter (fun h => h.dom != d) } } := by
    unfold State.applyHeld
    dsimp only
    rw [e]; rfl
  rw [this]; exact ⟨rfl, rfl, rfl⟩
theorem runStalls_none (x : State) (d : Nat) (h : ∀ y ∈ x.aop.stalls, y.dom ≠ d) : x.runStalls d = x.setAop (fun a => { a with stalls := a.stalls.filter (fun x => x.dom != d) }) := by
  have e : x.aop.stalls.filter (fun h => h.dom == d) = [] := List.filter_eq_nil_iff.mpr (by simpa using h)
  unfold State.runStalls
  dsimp only
  rw [e]; rfl

end Sys2Proof.Laws.OfPower
end

