-- ==== Sys2Proof/Laws/OfRestart.lean ====
section
/-! SUPPORT. Lemmas about the operations that the statements on RestartsBegin, SupplyLeavesAndReturns, BootAndCalibrate reach: what one operation
does to the fields that they name. -/

namespace Sys2Proof.Laws.OfRestart

set_option Elab.async false
set_option linter.all false

open Sys2Proof Sys2Proof.Machine Sys2Proof.Claims

theorem restarted_i (s : State) (o : Nat) (h : ∀ k ∈ [1,2,3,4,5,6], okey o 0 ≠ okey Obj.rollbackFloor k) : (s.restarted).i o = State.reset.i o := by
  simp only [State.restarted, List.foldl, List.mem_cons, List.not_mem_nil, or_false, forall_eq_or_imp, forall_eq] at *
  obtain ⟨h1,h2,h3,h4,h5,h6⟩ := h
  simp only [State.i_put_other _ _ h1, State.i_put_other _ _ h2, State.i_put_other _ _ h3, State.i_put_other _ _ h4, State.i_put_other _ _ h5, State.i_put_other _ _ h6]
  rfl
theorem restarted_f (s : State) : s.restarted.pow = State.reset.pow ∧ s.restarted.mem.sram = [] ∧ s.restarted.mem.recs = s.mem.recs ∧ s.restarted.aop.sessions = [] ∧ s.restarted.mem.queue = s.mem.queue := by
  refine ⟨rfl, rfl, rfl, rfl, rfl⟩
theorem restart_f (s : State) (k : Nat) : (s.restart k).pow.on = true ∧ (s.restart k).mem = s.restarted.mem ∧ (s.restart k).aop.sessions = [] := by
  unfold State.restart
  dsimp only
  have e := fun (p : Aop → Prop) => 0
  split
  · exact ⟨rfl, rfl, rfl⟩
  · split
    · simp only [State.logAfter_sessions, State.logAfter_pow, State.logAfter_mem, foldl_same (fun s => s.pow) _ (fun s (a : Session) => State.logAfter_pow s 4099 (d32 a.id ++ d8 3)), foldl_same (fun s => s.mem) _ (fun s (a : Session) => State.logAfter_mem s 4099 (d32 a.id ++ d8 3)), foldl_same (fun s => s.aop.sessions) _ (fun s (a : Session) => State.logAfter_sessions s 4099 (d32 a.id ++ d8 3))]
      exact ⟨rfl, rfl, rfl⟩
    · simp only [State.logAfter_sessions, State.logAfter_pow, State.logAfter_mem, foldl_same (fun s => s.pow) _ (fun s (a : Session) => State.logAfter_pow s 4099 (d32 a.id ++ d8 3)), foldl_same (fun s => s.mem) _ (fun s (a : Session) => State.logAfter_mem s 4099 (d32 a.id ++ d8 3)), foldl_same (fun s => s.aop.sessions) _ (fun s (a : Session) => State.logAfter_sessions s 4099 (d32 a.id ++ d8 3))]
      exact ⟨rfl, rfl, rfl⟩
theorem restart_u (s : State) (k : Nat) : (s.restart k).u Obj.bootState = 0 ∧ (s.restart k).u Obj.resetCause = k ∧ (k ≠ 1 → (s.restart k).u Obj.brownOutCount = s.u Obj.brownOutCount) := by
  have hb := congrArg Int.toNat (restarted_i s Obj.bootState (by decide))
  have key : ∀ o, logKey (okey o 0) = false → ∀ t : State, (s.aop.sessions.foldl (fun (t : State) x => t.logAfter 0x1003 (d32 x.id ++ d8 3)) t).u o = t.u o :=
    fun o h t => foldl_same (fun s => s.u o) _ (fun s (a : Session) => State.u_logAfter s 4099 (d32 a.id ++ d8 3) h) _ _
  have p : ∀ (t : State) (q : Power) (o : Nat), ({t with pow := q} : State).u o = t.u o := fun _ _ _ => rfl
  have p' : ∀ (t : State) (q : Diag) (o : Nat), ({t with diag := q} : State).u o = t.u o := fun _ _ _ => rfl
  have r : (State.reset.i Obj.bootState).toNat = 0 := by rfl
  have l1 : logKey (okey Obj.bootState 0) = false := by decide
  have l2 : logKey (okey Obj.resetCause 0) = false := by decide
  have l3 : logKey (okey Obj.brownOutCount 0) = false := by decide
  have d1 : okey Obj.bootState 0 ≠ okey Obj.resetCause 0 := by decide
  have d2 : okey Obj.bootState 0 ≠ okey Obj.brownOutCount 0 := by decide
  have d3 : okey Obj.bootState 0 ≠ okey Obj.tripCount 0 := by decide
  have d4 : okey Obj.bootState 0 ≠ okey Obj.alertState 0 := by decide
  have d5 : okey Obj.resetCause 0 ≠ okey Obj.brownOutCount 0 := by decide
  have d6 : okey Obj.resetCause 0 ≠ okey Obj.tripCount 0 := by decide
  have d7 : okey Obj.resetCause 0 ≠ okey Obj.alertState 0 := by decide
  have d8 : okey Obj.brownOutCount 0 ≠ okey Obj.tripCount 0 := by decide
  have d9 : okey Obj.brownOutCount 0 ≠ okey Obj.alertState 0 := by decide
  unfold State.restart
  dsimp only
  split
  · refine ⟨?_, ?_, by simp_all⟩
    · rw [p, State.u_put_other _ _ d1]; exact hb.trans r
    · rw [p, State.u_put_same]; simp
  · split
    · simp only [State.u_logAfter _ _ _ l1, State.u_logAfter _ _ _ l2, State.u_logAfter _ _ _ l3, key _ l1, key _ l2, key _ l3, p, State.u_put_same, State.u_put_other _ _ d1, State.u_put_other _ _ d2, State.u_put_other _ _ d5]
      exact ⟨hb.trans r, by simp, fun _ => by simp⟩
    · simp only [State.u_logAfter _ _ _ l1, State.u_logAfter _ _ _ l2, State.u_logAfter _ _ _ l3, key _ l1, key _ l2, key _ l3, p, p', State.u_put_same, State.u_put_other _ _ d1, State.u_put_other _ _ d2, State.u_put_other _ _ d5, State.u_put_other _ _ d3, State.u_put_other _ _ d4, State.u_put_other _ _ d6, State.u_put_other _ _ d7, State.u_put_other _ _ d8, State.u_put_other _ _ d9]
      exact ⟨hb.trans r, by simp, fun _ => by simp⟩

theorem vinOut_f (s : State) (side mv : Nat) (h : s.pow.on = true) (h0 : s.pow.vinState = 0) (hs : side = 1 ∨ side = 2) :
    (s.vinOut side mv).pow.vinState = side ∧ (s.vinOut side mv).pow.vinExtreme = mv ∧ (s.vinOut side mv).pow.vinSince = s.clk.sfn ∧
    (s.awake Dn.ctl = true → Logged s (s.vinOut side mv) (if side = 2 then 0x1017 else 0x1018) (d32 mv ++ d32 0)) := by
  have e : s.vinOut side mv = ({ s with pow := { s.pow with vinState := side, vinExtreme := mv, vinSince := s.clk.sfn } }).logVin side mv 0 := by
    simp [State.vinOut, h, h0]; intro; omega
  rw [e]; unfold State.logVin
  split
  · refine ⟨by simp, by simp, by simp, fun _ => ?_⟩
    exact (Logged.log _ _ _).since (Nat.le_refl _)
  · rename_i k
    refine ⟨rfl, rfl, rfl, fun hk => absurd hk k⟩

theorem startPriv_f (s : State) (a b : Nat) : (s.startPriv a b).u Obj.privCalState a = 1 ∧ (a, b) ∈ (s.startPriv a b).cal.runs := by
  refine ⟨?_, by simp [State.startPriv]⟩
  show State.u (State.put _ _ _ _) _ _ = _
  simp
theorem accFold (l : List Nat) (s : State) : (l.foldl (fun s d => (s.accessDom d true).2) s).cal = s.cal :=
  foldl_same (fun s => s.cal) _ (fun s d => (State.accessDom_keep (Keep.refl 89 s) rfl d true).cal rfl) l s
theorem startPriv_g (s : State) (a b : Nat) : (s.startPriv a b).grp = s.grp ∧ (s.startPriv a b).clk = s.clk ∧ (s.startPriv a b).mem = s.mem
   ∧ (s.startPriv a b).cal.savedAt = s.cal.savedAt ∧ (s.startPriv a b).cal.runs = s.cal.runs ++ [(a,b)] ∧ (s.startPriv a b).cal.failed = s.cal.failed := by
  refine ⟨(State.startPriv_keep (Keep.refl 601 s) rfl a b).grp rfl, (State.startPriv_keep (Keep.refl 601 s) rfl a b).clk rfl, (State.startPriv_keep (Keep.refl 601 s) rfl a b).mem rfl, ?_, ?_, ?_⟩ <;>
  · unfold State.startPriv
    dsimp only
    split <;> simp [accFold]

theorem kaEnter_f (s : State) : s.keepAliveEnter.pow.keepAlive = true ∧ s.keepAliveEnter.u Obj.regulatorMode = 1 ∧ s.keepAliveEnter.pow.kaSince = s.keepAliveEnter.clk.sfn := by
  unfold State.keepAliveEnter
  dsimp only
  generalize (List.foldl _ _ _ : State) = X
  exact ⟨rfl, by rw [State.u_put_same]; rfl, rfl⟩

end Sys2Proof.Laws.OfRestart
end

