-- ==== Sys2Proof/Laws/OfSessions.lean ====
section
/-! SUPPORT. Lemmas about the operations that the statements on SessionsServe, SubscriptionsAndSavedImage reach: what one operation
does to the fields that they name. -/

namespace Sys2Proof.Laws.OfSessions

set_option Elab.async false
set_option linter.all false

open Sys2Proof Sys2Proof.Machine Sys2Proof.Claims

theorem resp_out (s : State) (w : Requester) (m : List Byte) : Output.aop w.transport w.source w.port m ∈ (s.sendResponse w m).out :=
  List.mem_cons_self ..
theorem acc_answers (s : State) (w : Requester) (op form o m off : Nat) (tg v : List Byte)
    (h : s.aop.queue.find? (fun q => decide (q.asker = w)) = none) :
    Answers w (aopMsg 2 1 w.session w.sequence 0 (opMsg op form o m 0 off tg v)) (s.accept w op form o m off tg v) := by
  unfold State.accept State.respond
  rw [State.occur_aop, h]
  exact resp_out _ _ _

theorem notifySubs (z : State) (x : Sub) (v : List Byte) (p : Sub → Prop) (hp : ∀ b q e l, p b → p { b with seq := q, sent := e, last := l })
    (h : ∀ b ∈ z.aop.subs, p b) : ∀ b ∈ (z.notify x v).aop.subs, p b := by
  unfold State.notify
  split
  · exact h
  · dsimp only
    split
    · intro b hb
      have hb : b ∈ List.map _ (State.bump _ _ _).aop.subs := hb
      rw [State.bump_aop] at hb
      obtain ⟨a, ha, e⟩ := List.mem_map.mp hb
      rw [← e]
      split
      · exact hp _ _ _ _ (h a ha)
      · exact h a ha
    · intro b hb
      have hb : b ∈ List.map _ (State.occur _ _ _).aop.subs := hb
      rw [State.occur_aop] at hb
      obtain ⟨a, ha, e⟩ := List.mem_map.mp hb
      rw [← e]
      split
      · exact hp _ _ _ _ (h a ha)
      · exact h a ha
theorem logSubsP (z : State) (k : Nat) (d : List Byte) (p : Sub → Prop) (hp : ∀ b q e l, p b → p { b with seq := q, sent := e, last := l })
    (h : ∀ b ∈ z.aop.subs, p b) : ∀ b ∈ (z.log k d).aop.subs, p b := by
  unfold State.log State.logRec
  dsimp only
  have key : ∀ (r : EventRec) (l : List Sub) (y : State), (∀ b ∈ y.aop.subs, p b) → ∀ b ∈ (l.foldl (fun s b => s.notify b r.bytes) y).aop.subs, p b := by
    intro r l
    induction l with
    | nil => intro y h; exact h
    | cons a l ih => intro y h; exact ih _ (notifySubs _ _ _ p hp h)
  refine key _ _ _ ?_
  unfold State.alert
  split <;> exact h
theorem logSubs (z : State) (k : Nat) (d : List Byte) {id : Nat} (h : ∀ b ∈ z.aop.subs, b.session ≠ id) : ∀ b ∈ (z.log k d).aop.subs, b.session ≠ id :=
  logSubsP z k d (fun b => b.session ≠ id) (fun _ _ _ _ h => h) h
theorem closed (s : State) (id cause : Nat) (h : s.aop.sessions.any (fun x => x.id == id) = true) :
    (s.closeSession id cause).aop.sessions = s.aop.sessions.filter (fun x => x.id != id) ∧
    (∀ b ∈ (s.closeSession id cause).aop.subs, b.session ≠ id) ∧ Logged s (s.closeSession id cause) 0x1003 (d32 id ++ d8 cause) := by
  unfold State.closeSession
  rw [if_pos h]
  refine ⟨?_, ?_, (Logged.log _ _ _).since (Nat.le_refl _)⟩
  · rw [State.log_sessions]; rfl
  · refine logSubs _ _ _ ?_
    intro b hb
    have hb : b ∈ s.aop.subs.filter (fun b => b.session != id) := hb
    simpa using (List.mem_filter.mp hb).2

theorem acc_subs (s : State) (w : Requester) (op form o m off : Nat) (tg v : List Byte) :
    (s.accept w op form o m off tg v).aop.subs = s.aop.subs := by
  unfold State.accept State.respond
  rw [State.occur_aop]
  split
  · show (State.occur s 0x1080 (s.opAttr w o m)).aop.subs = _; rw [State.occur_aop]
  · dsimp only
    split
    · show (State.occur s 0x1080 (s.opAttr w o m)).aop.subs = _; rw [State.occur_aop]
    · show (State.occur s 0x1080 (s.opAttr w o m)).aop.subs = _; rw [State.occur_aop]

theorem fewerCancel (q : State) (e : Entry) : ∀ y ∈ (q.cancelEntry e).clk.entries, y ∈ q.clk.entries ∧ y.num ≠ e.num := by
  intro y hy
  unfold State.cancelEntry at hy
  rw [(State.logEntry_keep (Keep.refl 73 _) rfl _ _ _).clk rfl] at hy
  have := List.mem_filter.mp (show y ∈ q.clk.entries.filter (fun y => y.num != e.num) from hy)
  exact ⟨this.1, by simpa using this.2⟩
theorem fewerSwap (q : State) (c : Carrier) (k r : Nat) : ∀ y ∈ (q.cancelSwap c k r).clk.entries, y ∈ q.clk.entries := by
  intro y hy
  unfold State.cancelSwap at hy
  split at hy
  · rw [(State.logC_keep (State.bump_keep (State.setSlice_keep (State.endCycle_keep (Keep.refl 345 _) rfl _ _ _) rfl _ _ _ _) rfl _ _) rfl _ _ _).clk rfl] at hy
    split at hy
    · exact (fewerCancel _ _ y hy).1
    · exact hy
  · exact hy
theorem fewerGone (q : State) (e : Entry) : ∀ y ∈ (q.entryGone e).clk.entries, y ∈ q.clk.entries := by
  intro y hy
  unfold State.entryGone at hy
  split at hy
  · unfold State.impliedGone at hy
    have h := (List.mem_filter.mp hy).1
    split at h
    · rw [(State.release_keep (Keep.refl 16 q) rfl _ _).clk rfl] at h; exact h
    · exact h
  · exact hy
  · split at hy
    · exact hy
    · rw [(State.releaseCtx_keep (Keep.refl 27 q) rfl _ _ _).clk rfl] at hy; exact hy
  · split at hy
    · exact hy
    · exact fewerSwap _ _ _ _ y hy
  · exact hy
theorem cancelStep (x : Entry) (z : State) : ∀ y ∈ (
      let s := if x.coord then z.sendCancel x else z
      let s := (s.cancelEntry x).entryGone x
      match x.carrier with
      | some c => s.loadingFailed c x
      | none => s).clk.entries, y ∈ z.clk.entries ∧ y.num ≠ x.num := by
  intro y hy
  dsimp only at hy
  have h1 : y ∈ (((if x.coord = true then z.sendCancel x else z).cancelEntry x).entryGone x).clk.entries := by
    split at hy
    · unfold State.loadingFailed at hy
      split at hy
      · exact hy
      · exact hy
    · exact hy
  obtain ⟨h2, h3⟩ := fewerCancel _ _ y (fewerGone _ _ y h1)
  refine ⟨?_, h3⟩
  split at h2
  · rw [(State.sendCancel_keep (Keep.refl 128 z) rfl _).clk rfl] at h2; exact h2
  · exact h2
theorem cancelFold : ∀ (l : List Entry) (z : State), ∀ y ∈ (l.foldl (fun (s : State) x =>
      let s := if x.coord then s.sendCancel x else s
      let s := (s.cancelEntry x).entryGone x
      match x.carrier with
      | some c => s.loadingFailed c x
      | none => s) z).clk.entries, y ∈ z.clk.entries ∧ ∀ x ∈ l, y.num ≠ x.num := by
  intro l
  induction l with
  | nil => intro z y hy; exact ⟨hy, fun x hx => absurd hx List.not_mem_nil⟩
  | cons a l ih =>
    intro z y hy
    obtain ⟨g1, g2⟩ := ih _ y hy
    obtain ⟨g3, g4⟩ := cancelStep a z y g1
    refine ⟨g3, ?_⟩
    intro b hb
    rcases List.mem_cons.mp hb with rfl | hb
    · exact g4
    · exact g2 b hb
theorem cancelAll (z : State) (w : Requester) (n : Nat) (e : Entry) (h1 : z.clk.entries.find? (fun e => e.num == n) = some e)
    (h2 : 2 ≤ e.src → 2 ≤ z.roleOf w) (h3 : (z.writeGroup e).any z.committed = false) :
    z.cancelEffect w n = ({}, (z.cancelEffect w n).2) ∧
    ∀ x ∈ z.writeGroup e, ∀ y ∈ (z.cancelEffect w n).2.clk.entries, y.num ≠ x.num := by
  have h4 : firstFault [if 2 ≤ e.src ∧ z.roleOf w < 2 then 0x0201 else 0, if (z.writeGroup e).any z.committed then 0x0502 else 0] = 0 := by
    rw [if_neg (by rintro ⟨a, b⟩; have := h2 a; omega), h3]; rfl
  unfold State.cancelEffect
  rw [h1]
  dsimp only
  rw [if_neg (by simp only [h4]; decide)]
  refine ⟨rfl, ?_⟩
  intro x hx y hy
  refine (cancelFold _ z y ?_).2 x hx
  revert hy
  generalize (List.foldl _ z _) = z'
  intro hy
  split at hy
  · rw [(State.refuse_keep (Keep.refl 72 z') rfl _ _ _ _ _).clk rfl] at hy; exact hy
  · exact hy

end Sys2Proof.Laws.OfSessions
end

