-- ==== Sys2Proof/Laws/OfSlices.lean ====
section
/-! SUPPORT. Lemmas about the operations that the statements on SlicesRotate, FramesCarryClients reach: what one operation
does to the fields that they name. -/

namespace Sys2Proof.Laws.OfSlices

set_option Elab.async false
set_option linter.all false

open Sys2Proof Sys2Proof.Machine Sys2Proof.Claims

theorem leaveF_u {o m : Nat} (h : logKey (okey o m) = false) (s : State) (x : Nat) : (s.leaveFault x).u o m = s.u o m := by
  unfold State.leaveFault
  split
  · rfl
  · exact State.u_log _ _ _ h
theorem judge_u {o m : Nat} (h : logKey (okey o m) = false) (g : ∀ x < 64, okey o m ≠ okey Obj.clientLaneState x) (s : State) :
    s.judgeLanes.u o m = s.u o m := by
  unfold State.judgeLanes
  have hx : ∀ x ∈ List.range 64, x < 64 := fun x hx => List.mem_range.mp hx
  generalize List.range 64 = l at hx ⊢
  induction l generalizing s with
  | nil => rfl
  | cons x l ih =>
    rw [List.foldl_cons, ih _ (fun y hy => hx y (List.mem_cons_of_mem _ hy))]
    have gx := g x (hx x (List.mem_cons_self ..))
    split
    · exact (State.u_put_other _ _ gx).trans (leaveF_u h _ _)
    · split
      · dsimp only
        split
        · exact (State.u_put_other _ _ gx)
        · exact (State.u_log _ _ _ h).trans (State.u_put_other _ _ gx)
      · exact (State.u_put_other _ _ gx)
theorem sc_conv (s : State) (c : Carrier) (k : Nat) : (s.startCycle c k).conv = s.conv :=
  (State.startCycle_keep (Keep.refl 77 s) rfl c k).conv rfl
theorem setSlice_slice (s : State) (c : Carrier) (k i : Nat) (f : Slice → Slice) (h1 : k < (s.conv.get c).convs.length)
    (h2 : i < (s.cv c k).slices.length) : ((s.setSlice c k i f).cv c k).slice i = f ((s.cv c k).slice i) := by
  unfold State.setSlice
  rw [State.cv_setCv_same _ _ _ h1, Conv.slice_setSlice_same _ _ h2]
theorem health_cv (s : State) (c : Carrier) (k : Nat) (h : k < (s.conv.get c).convs.length) :
    ((s.setHealth c k).cv c k).cycle = (s.cv c k).cycle ∧
    ∀ i, (((s.setHealth c k).cv c k).slice i).st = ((s.cv c k).slice i).st ∧
      (((s.setHealth c k).cv c k).slice i).terms = ((s.cv c k).slice i).terms ∧
      (((s.setHealth c k).cv c k).slice i).restored = ((s.cv c k).slice i).restored := by
  unfold State.setHealth
  extract_lets v n0 s1 s2
  have c1 : s1.conv = s.conv := by
    have k : Keep 73 s s1 := Keep.foldl (Keep.refl 73 s) (fun z p hz => State.logC_keep hz rfl _ _ _) _
    exact k.conv rfl
  have e2 : s2.cv c k = { s.cv c k with slices := (s.cv c k).slices.map (fun x => { x with stuck := x.failing && n0 }) } := by
    show (State.setCv _ _ _ _).cv c k = _
    rw [State.cv_setCv_same _ _ _ (by rw [c1]; exact h), State.cv_congr c1]
  have e3 : (s2.put (on c Obj.converterHealth) k (v.health : Nat)).cv c k = s2.cv c k := rfl
  rw [e3, e2]
  refine ⟨rfl, fun i => ?_⟩
  show (nth (List.map _ _) i (Slice.init false)).st = (nth _ i (Slice.init false)).st ∧ (nth (List.map _ _) i (Slice.init false)).terms = (nth _ i (Slice.init false)).terms ∧ (nth (List.map _ _) i (Slice.init false)).restored = (nth _ i (Slice.init false)).restored
  generalize (s.cv c k).slices = l
  induction l generalizing i with
  | nil => exact ⟨rfl, rfl, rfl⟩
  | cons a l ih => cases i with
    | zero => exact ⟨rfl, rfl, rfl⟩
    | succ i => exact ih i

theorem endedKeep (s z : State) (c : Carrier) (k out : Nat) (h : Keep 67108863 s z) (b : Bool) :
    Keep 67108863 s (z.setCv c k (fun v => { v with cycle := .idle, nextWin := z.nextLocal })) :=
  State.setCv_keep h rfl _ _ _

theorem swapLogged (s z : State) (c : Carrier) (k out sp ph n ix res : Nat) (cnt : SCount) (h : Keep 67108863 s z) :
    Logged s (z.swapDone c k out sp ph n cnt ix res) 0x4001
      (d8 k ++ d8 out ++ d8 sp ++ d8 ph ++ d64 n ++ d8 (scountCode cnt) ++ d32 ix ++ d8 res) := by
  unfold State.swapDone
  exact (Logged.logC _ _ _ _).since (State.bump_keep h rfl _ _).nextSeq
theorem withdrawLogged (s z : State) (c : Carrier) (k i reason : Nat) (h : Keep 67108863 s z) :
    Logged s (z.withdraw c k i reason) 0x4004 (d8 k ++ d8 i ++ d8 reason) := by
  unfold State.withdraw
  refine Logged.keep (M := 67108863) ?_ (State.setHealth_keep (Keep.refl _ _) rfl _ _) rfl
  exact (Logged.logC _ _ _ _).since (State.setSlice_keep h rfl _ _ _ _).nextSeq
theorem failedLogged (s z : State) (c : Carrier) (k out sp ph n ix : Nat) (cnt : SCount) (h : Keep 67108863 s z)
    (ho : ((z.cv c k).slice out).st ≠ 6) :
    Logged s (((if (((z.swapDone c k out sp ph n cnt ix 2).cv c k).slice out).st = 6 then
        (z.swapDone c k out sp ph n cnt ix 2).retireSlice c k out
      else (z.swapDone c k out sp ph n cnt ix 2).withdraw c k out 2)).startCycle c k) 0x4001
      (d8 k ++ d8 out ++ d8 sp ++ d8 ph ++ d64 n ++ d8 (scountCode cnt) ++ d32 ix ++ d8 2) ∧
    Logged s (((if (((z.swapDone c k out sp ph n cnt ix 2).cv c k).slice out).st = 6 then
        (z.swapDone c k out sp ph n cnt ix 2).retireSlice c k out
      else (z.swapDone c k out sp ph n cnt ix 2).withdraw c k out 2)).startCycle c k) 0x4004 (d8 k ++ d8 out ++ d8 2) := by
  have hc : (z.swapDone c k out sp ph n cnt ix 2).conv = z.conv := (State.swapDone_keep (Keep.refl 73 z) rfl c k out sp ph n cnt ix 2).conv rfl
  rw [State.cv_congr hc, if_neg ho]
  have k1 := State.swapDone_keep h rfl c k out sp ph n cnt ix 2
  refine ⟨?_, ?_⟩
  · exact (swapLogged s z c k out sp ph n ix 2 cnt h).keep (M := 67108863) (State.startCycle_keep (State.withdraw_keep (Keep.refl _ _) rfl _ _ _ _) rfl _ _) rfl
  · exact (withdrawLogged s _ c k out 2 k1).keep (M := 67108863) (State.startCycle_keep (Keep.refl _ _) rfl _ _) rfl
theorem endedFacts (s : State) (c : Carrier) (k out : Nat) (h0 : k < (s.conv.get c).convs.length) :
    Keep 67108863 s ((s.release Act.trim (trimItem c k)).setCv c k (fun v => { v with cycle := .idle, nextWin := (s.release Act.trim (trimItem c k)).nextLocal })) ∧
    (((s.release Act.trim (trimItem c k)).setCv c k (fun v => { v with cycle := .idle, nextWin := (s.release Act.trim (trimItem c k)).nextLocal })).cv c k).slice out =
      (s.cv c k).slice out := by
  have k1 : Keep 67108863 s (s.release Act.trim (trimItem c k)) := State.release_keep (Keep.refl _ _) rfl _ _
  have c1 : (s.release Act.trim (trimItem c k)).conv = s.conv := (State.release_keep (Keep.refl 16 s) rfl _ _).conv rfl
  generalize s.release Act.trim (trimItem c k) = z1 at k1 c1
  refine ⟨State.setCv_keep k1 rfl c k _, ?_⟩
  rw [State.cv_setCv_same _ _ _ (by rw [c1]; exact h0), State.cv_congr c1]
  rfl

theorem faultyLogged (s z : State) (c : Carrier) (k sp out ph : Nat) (h : Keep 67108863 s z) :
    Logged s (z.incomingFaulty c k sp out ph) 0x4003 (d8 k ++ d8 sp ++ d8 3) := by
  unfold State.incomingFaulty
  extract_lets s1 s2 r s3 s4
  have l2 : Logged s s2 0x4003 (d8 k ++ d8 sp ++ d8 3) :=
    (Logged.logC _ _ _ _).since (State.bump_keep (State.setSlice_keep h rfl _ _ _ _) rfl _ _).nextSeq
  have lr : Logged s r.2 0x4003 (d8 k ++ d8 sp ++ d8 3) := l2.keep (M := 67108863) (State.armSwap_keep (Keep.refl _ _) rfl _ _ _ _ _) rfl
  clear_value s2
  split
  · exact l2.keep (M := 67108863) (State.sliceFails_keep (State.retireSlice_keep (State.setCv_keep (Keep.refl _ _) rfl _ _ _) rfl _ _ _) rfl _ _ _ _) rfl
  · clear_value r
    split
    · exact lr.keep (M := 67108863) (State.setHealth_keep (State.setCv_keep (Keep.refl _ _) rfl _ _ _) rfl _ _) rfl
    · exact lr.keep (M := 67108863) (State.sliceFails_keep (State.setCv_keep (Keep.refl _ _) rfl _ _ _) rfl _ _ _ _) rfl

theorem fr_egressFault (s : State) (c : Carrier) (x : Nat) : (s.egressFault c x).frame = s.frame := by
  unfold State.egressFault
  split <;> rfl
theorem u_egressFault (s : State) (c : Carrier) (x o m : Nat) : (s.egressFault c x).u o m = s.u o m := by
  unfold State.egressFault
  split <;> rfl

end Sys2Proof.Laws.OfSlices
end

