-- ==== Sys2Proof/Laws/OfStores.lean ====
section
/-! SUPPORT. Lemmas about the operations that the statements on MemoryErrors, IcehouseRecords reach: what one operation
does to the fields that they name. -/

namespace Sys2Proof.Laws.OfStores

set_option Elab.async false
set_option linter.all false

open Sys2Proof Sys2Proof.Machine Sys2Proof.Claims

theorem bankInfo_setBank (s : State) (b : Nat) (f : BankInfo → BankInfo) (hf : (f (s.bankInfo b)).bank = b) : (s.setBank b f).bankInfo b = f (s.bankInfo b) := by
  unfold State.setBank
  simp only [State.bankInfo] at *
  rw [List.find?_cons_of_pos (by simp [hf])]
  rfl
theorem bankInfo_bank (s : State) (b : Nat) : (s.bankInfo b).bank = b := by
  unfold State.bankInfo
  cases h : s.mem.banks.find? (fun x => x.bank == b) with
  | none => rfl
  | some x => simpa using List.find?_some h
theorem bankInfo_congr {s t : State} (h : t.mem.banks = s.mem.banks) (b : Nat) : t.bankInfo b = s.bankInfo b := by
  unfold State.bankInfo; rw [h]
theorem trendCheck_f (s : State) (b : Nat) (u : Bool) : (s.trendCheck b u).mem.poison = s.mem.poison ∧ (s.trendCheck b u).mem.sram = s.mem.sram ∧ ((s.trendCheck b u).bankInfo b).corrected = (s.bankInfo b).corrected := by
  unfold State.trendCheck
  extract_lets x due
  split
  · refine ⟨by simp [State.setBank], by simp [State.setBank], ?_⟩
    rw [bankInfo_congr (s := (s.setBank b (fun y => { y with alarmAt := some s.clk.sfn }))) (by simp), bankInfo_setBank _ _ _ (bankInfo_bank s b)]
  · exact ⟨rfl, rfl, rfl⟩

theorem svcEntryReloaded_mem (s : State) (k) : (s.svcEntryReloaded k).mem = s.mem := (State.svcEntryReloaded_keep (Keep.refl 67108831 s) rfl k).mem rfl

theorem countSectors_mem (s : State) (e p) : (s.countSectors e p).mem = s.mem := (State.countSectors_keep (Keep.refl 8 s) rfl e p).mem rfl

theorem block_block (s : State) (b : Nat) : (s.block b).block = b := by
  unfold State.block
  cases h : s.mem.blocks.find? (fun x => x.block == b) with
  | none => rfl
  | some x => simpa using List.find?_some h
theorem block_setBlock (s : State) (b : Nat) (f : BlockSt → BlockSt) (hf : (f (s.block b)).block = b) : (s.setBlock b f).block b = f (s.block b) := by
  unfold State.setBlock
  simp only [State.block] at *
  rw [List.find?_cons_of_pos (by simp [hf])]
  rfl
theorem block_congr {s t : State} (h : t.mem.blocks = s.mem.blocks) (b : Nat) : t.block b = s.block b := by
  unfold State.block; rw [h]

theorem block_setBlock_other (s : State) (b x : Nat) (f : BlockSt → BlockSt) (hf : (f (s.block b)).block = b) (h : x ≠ b) :
    (s.setBlock b f).block x = s.block x := by
  have e : List.find? (fun y => y.block == x) (f (s.block b) :: s.mem.blocks.filter (fun y => y.block != b)) =
      List.find? (fun y => y.block == x) s.mem.blocks := by
    rw [List.find?_cons_of_neg (by simp [hf]; omega)]
    induction s.mem.blocks with
    | nil => rfl
    | cons y l ih =>
      by_cases hy : y.block = b
      · rw [List.filter_cons_of_neg (by simp [hy]), List.find?_cons_of_neg (by simp [hy]; omega), ih]
      · rw [List.filter_cons_of_pos (by simp [hy])]
        by_cases hx : y.block = x
        · rw [List.find?_cons_of_pos (by simp [hx]), List.find?_cons_of_pos (by simp [hx])]
        · rw [List.find?_cons_of_neg (by simp [hx]), List.find?_cons_of_neg (by simp [hx]), ih]
  unfold State.block
  have : (s.setBlock b f).mem.blocks = f (s.block b) :: s.mem.blocks.filter (fun y => y.block != b) := rfl
  rw [this, e]
theorem erasedBlocks_grow {s t : State} (r : Nat × Nat) (he : ∀ x, s.mem.erasing.contains x = false → t.mem.erasing.contains x = false)
    (hb : ∀ x, s.mem.erasing.contains x = false → (t.block x).erased = (s.block x).erased ∧ (t.block x).state = (s.block x).state) :
    (s.erasedBlocks r).length ≤ (t.erasedBlocks r).length := by
  unfold State.erasedBlocks
  rw [← List.countP_eq_length_filter, ← List.countP_eq_length_filter]
  apply List.countP_mono_left
  intro x _ hx
  simp only [Bool.and_eq_true, Bool.not_eq_true'] at hx ⊢
  have := hb x hx.2
  rw [this.1, this.2]
  exact ⟨hx.1, he x hx.2⟩

theorem accessDom_awake (s : State) (d : Nat) (a : Bool) (h : s.awake d = true) : s.accessDom d a = (0, s.touch d) := by
  have h : (s.dom d).st = .awake := by simpa [State.awake] using h
  have he : ((s.touch d).dom d).st = .awake := (s.dom_touch_st d d).trans h
  unfold State.accessDom
  simp only [he]

end Sys2Proof.Laws.OfStores
end

