-- ==== Sys2Proof/WellFormed.lean ====
section
/-! DEFINITION. Which commands the TH6400 can meet: operands in the ranges of the fields, messages and units that the
spec gives them. A command outside them has a meaning too (its exec is total); nothing that stands outside the block
can send it. Values that a host writes are not judged here: R15 refuses those out of range, with a status. -/

namespace Sys2Proof

/-- A requester's fields fit the AOP header and the transport (R494, R499). -/
def Requester.wf (w : Requester) : Bool :=
  decide (w.source < 2 ^ 128) && decide (w.port < 2 ^ 16) && decide (w.session < 2 ^ 32) && decide (w.sequence < 2 ^ 32)

/-- A target fits its block: SFN64 and a 25-bit offset (R500). -/
def Target.wf (t : Target) : Bool := decide (t.sfn < 2 ^ 64) && decide (t.offset < 2 ^ 25)

/-- The causes of a bad record are those of R486, and its page lies in the NAND (R482). -/
def BootIn.wf (x : BootIn) : Bool := x.bad.all (fun p => decide (p.1 < 3968 * 256) && decide (2 ≤ p.2) && decide (p.2 ≤ 4))

/-- Six I/Q terms (R105). -/
def RxIn.wf (x : RxIn) : Bool := x.iq.length == 6

/-- An ADC's samples have 8-bit codes (R66). -/
def ConvIn.codes (x : ConvIn) : Bool := x.hist.all (fun p => decide (-128 ≤ p.1) && decide (p.1 ≤ 127))

/-- Eight converters per carrier (R66), and no lane twice. -/
def SfIn.wf (x : SfIn) : Bool :=
  x.conv.a.length == 8 && x.conv.b.length == 8 && (x.conv.a.take 4).all ConvIn.codes && (x.conv.b.take 4).all ConvIn.codes &&
    decide ((x.lanes.map (fun l => l.lane)).Nodup)

/-- Physical slices of a converter: 68 in an ADC, 34 in a DAC (R66); converters 0 to 3 are the ADCs. -/
def slicesOf (k : Fin 8) : Nat := if k.val < 4 then 68 else 34

/-- A group holds 16 codewords at most (R171), each of 20,480 LLRs of 6 bits (R174). -/
def GroupIn.wf (g : GroupIn) : Bool :=
  decide (g.frame < 2 ^ 64) && decide (1 ≤ g.llrs.length) && decide (g.llrs.length ≤ 16) &&
    g.llrs.all (fun l => l.length == 20480 && l.all (fun x => decide (-31 ≤ x) && decide (x ≤ 31)))

/-- A block header is the four words K0 to K3 (R222). -/
def headWf (k : List Nat) : Bool := k.length == 4 && k.all (fun w => decide (w < 2 ^ 32))

/-- A seal has a tag of 16 octets and up to 8 cells of 2,048 (R220, R280). -/
def SealIn.wf (x : SealIn) : Bool := x.tag.length == 16 && decide (x.cells.length ≤ 16384)

/-- A group frame's body has 96 octets at most and the Source's bits 15 to 13 are 0 (R542). -/
def GroupFrame.wf (f : GroupFrame) : Bool := decide (f.body.length ≤ 96) && decide (f.source.toNat < 8192)

/-- Which commands can come. -/
def Instr.wellFormed : Instr → Bool
  | .powerOn => true
  | .resetn _ => true
  | .resetRelease x => x.wf
  | .cpRelease _ => true
  | .privCalComplete _ _ _ _ => true
  | .brownOut _ => true
  | .vinAbove60 _ => true
  | .overVoltageLatchOff => true
  | .latchOffRestart => true
  | .vinBelow6 _ => true
  | .caseAbove95 => true
  | .thermalTrip _ => true
  | .alertAck w _ => w.wf
  | .localBoundary x => x.wf
  | .receivedBoundary _ _ _ x => x.wf
  | .sundialEntryRun _ _ => true
  | .sundialPreWake => true
  | .commitPoint => true
  | .cancelEntry w _ => w.wf
  | .sliceDue _ k i _ => decide (i < slicesOf k)
  | .trimRetry _ _ => true
  | .trimFitComplete _ _ fit _ => fit.terms.length == 6
  | .handoverCheck _ _ _ _ => true
  | .trimExpired _ _ _ => true
  | .sliceFailed _ k i _ => decide (i < slicesOf k)
  | .sliceRetire w _ _ => w.wf
  | .sliceRestore w _ _ => w.wf
  | .sliceOverdue _ k i => decide (i < slicesOf k)
  | .adcClipAlarm _ _ => true
  | .dacClipAlarm _ _ => true
  | .lossOfInput _ _ _ => true
  | .loFrequencyWrite w _ _ => w.wf
  | .acquisitionStepComplete _ _ => true
  | .acquisitionStepFailed _ _ => true
  | .acquisitionWaitEnd _ => true
  | .acquisitionLedgerRetry _ => true
  | .pilotWindowEnd _ _ => true
  | .lossOfLock _ => true
  | .recordValid _ => true
  | .loadingCeilingWrite w _ _ _ => w.wf
  | .loadingRequest w _ _ => w.wf
  | .policyCodeRateWrite w _ _ => w.wf
  | .relockCandidate _ => true
  | .loadingReset _ _ _ => true
  | .capCeilingExpire _ => true
  | .codewordArrive _ g => g.wf
  | .iterationEnd slot => decide (slot < 16384)
  | .codewordLeaves _ frame _ _ => decide (frame < 2 ^ 64)
  | .bankWakeRetry _ => true
  | .grantEffective => true
  | .grantRequestRetry => true
  | .bankDrained _ => true
  | .microcodeReloadDone _ => true
  | .bankReturned => true
  | .coreArrives _ => true
  | .coreInvalid _ => true
  | .mocResend _ => true
  | .ptpEventMessage _ p => decide (p.block < 2 ^ 20)
  | .ptpEgress _ _ p => decide (p.block < 2 ^ 20)
  | .clientBlockReceived _ _ head => headWf head
  | .sealReceived _ x => x.wf
  | .clientRateWrite w _ _ => w.wf
  | .clientRateMismatch _ _ => true
  | .laneRateWrite w _ _ => w.wf
  | .clientLanesWrite w _ _ => w.wf
  | .laneStateChange _ _ => true
  | .ingressFault _ _ _ => true
  | .lrefLost _ => true
  | .lrefRestored _ => true
  | .laneBerAlarm _ => true
  | .hostBlockReceived _ _ => true
  | .laneTestWrite w _ _ => w.wf
  | .checkerSyncLost _ _ => true
  | .contextEnable w _ _ t => w.wf && t.wf
  | .contextRoll w _ _ => w.wf
  | .rollInterval _ _ => true
  | .transmitResume _ => true
  | .xtsEncrypt _ => true
  | .xtsDecrypt _ => true
  | .gcmEncrypt _ => true
  | .gcmDecrypt _ => true
  | .kmac256Derive _ => true
  | .shake256 _ => true
  | .falconVerify _ => true
  | .falconSign _ => true
  | .mlKemKeyGeneration _ => true
  | .mlKemEncapsulate _ => true
  | .mlKemDecapsulate _ => true
  | .requestCompletion _ _ => true
  | .slotWrite w _ => w.wf
  | .slotErase w _ => w.wf
  | .eraseComplete _ => true
  | .quoteRequest w _ => w.wf
  | .ownerKeyEnrol w _ => w.wf
  | .rollbackFloor w _ _ => w.wf
  | .rekeyRoot w _ => w.wf
  | .rootInterval _ => true
  | .offer _ session _ => decide (session < 2 ^ 32)
  | .answer _ session _ => decide (session < 2 ^ 32)
  | .confirmI _ session _ => decide (session < 2 ^ 32)
  | .confirmR _ session _ => decide (session < 2 ^ 32)
  | .abort _ session reason => decide (session < 2 ^ 32) && decide (reason < 256)
  | .offerWait _ => true
  | .agreementTimeout _ => true
  | .agreementRetry _ => true
  | .rootInstall _ => true
  | .rootMigrationDeadline _ => true
  | .latticeRetry _ => true
  | .holdOffEnd _ => true
  | .qualificationEnd _ => true
  | .refTableWrite w _ _ => w.wf
  | .forceRefWrite w _ _ => w.wf
  | .loopBandwidthStep => true
  | .ppsEdge _ _ _ => true
  | .todMessage _ m => m.octets.length == 16
  | .advertRead _ status _ => decide (status < 2 ^ 16)
  | .avenueModeWrite w _ t => w.wf && t.wf
  | .cellArrival _ _ _ => true
  | .cellLost _ => true
  | .alignedRelease _ => true
  | .reorderWindowShort => true
  | .takeover => true
  | .switchMuteEnd _ => true
  | .viewRecord => true
  | .keeperDecision _ => true
  | .keeperOrder _ => true
  | .keeperUnreachable => true
  | .avenueClear w _ => w.wf
  | .lockout w _ => w.wf
  | .forcedSwitch w _ _ => w.wf
  | .manualSwitch w _ _ => w.wf
  | .exercise w _ => w.wf
  | .degradeSwitch => true
  | .revert => true
  | .footpathPacketTransmit _ => true
  | .hello _ => true
  | .footpathSend w _ _ => w.wf
  | .toneHeard _ levels => levels.length == 8 && levels.all (fun l => l.length == 64)
  | .syncMatch _ _ _ => true
  | .falseDetection _ => true
  | .headerCheck _ octets => octets.length == 10
  | .watchHit _ _ rise _ _ => rise.length == 8
  | .footpathPacketEnd _ payload _ _ _ => decide (payload.length ≤ 256)
  | .noiseFloorWindow _ levels => levels.length == 64
  | .neighbourLost _ => true
  | .keeperOrderRepeat => true
  | .footpathLedgerRetry _ _ => true
  | .svc2Conversion _ _ => true
  | .comparatorFire _ _ => true
  | .comparatorRearm _ _ => true
  | .comparatorWrite w _ _ => w.wf
  | .injectNow w _ => w.wf
  | .injectLengthWrite w _ => w.wf
  | .svcAccumClear w _ => w.wf
  | .tfeRunWrite w _ _ => w.wf
  | .tfeCoeffWrite w _ _ => w.wf
  | .calReload w _ _ => w.wf
  | .calLearnedClear w _ => w.wf
  | .calSave w _ => w.wf
  | .calSaveInterval => true
  | .calSaveRetry => true
  | .idleTimerExpire _ => true
  | .sleepEntryDone _ => true
  | .domainAccess _ => true
  | .domainWakeComplete _ _ => true
  | .wakeStallProgress _ => true
  | .stallLimit _ => true
  | .domainHoldWrite w _ _ => w.wf
  | .ledgerRequest _ _ _ => true
  | .shed => true
  | .ceilingWrite w _ => w.wf
  | .shedPositionReset => true
  | .shedUnresolved => true
  | .keepAliveExit _ _ _ _ => true
  | .sramError _ _ => true
  | .scrubPass _ _ => true
  | .poisonReload addr => decide (addr < 384 * 1024 * 1024)
  | .lightParityError _ _ _ => true
  | .recordWrite _ _ _ _ => true
  | .pageProgramDone _ => true
  | .commitMarkerProgrammed => true
  | .pageReadDone _ _ sectors => sectors.length == 8
  | .blockEraseDone _ => true
  | .refresh shown => shown.all (fun p => decide (p.1 < 3968))
  | .blockRestore w _ => w.wf
  | .logWrite => true
  | .aopMessage _ _ _ _ _ => true
  | .aopRead w _ _ _ => w.wf
  | .aopWrite w _ _ _ _ => w.wf
  | .scheduledWrite w _ _ t _ => w.wf && t.wf
  | .subscribe w _ _ _ _ => w.wf
  | .unsubscribe w _ => w.wf
  | .describe w _ _ => w.wf
  | .sessionOpen w _ _ _ => w.wf
  | .proof w _ => w.wf
  | .close w => w.wf
  | .sessionIdle _ => true
  | .unprovedSessionDiscard _ => true
  | .sessionClose w _ => w.wf
  | .aopPortWrite w _ => w.wf
  | .dictSave w _ => w.wf
  | .dictRestore w _ => w.wf
  | .dictFactory w _ => w.wf
  | .counterSelectWrite w _ _ => w.wf
  | .counterClear w _ => w.wf
  | .counterRangeWrite w _ _ => w.wf
  | .snapshotLatch => true
  | .snapshotCopyRetry _ => true
  | .eventFetch w _ => w.wf
  | .groupWindow _ _ => true
  | .beacon f => f.wf
  | .memberStatus f => f.wf
  | .orders f => f.wf
  | .join _ f => f.wf
  | .leave f => f.wf
  | .listenEnd => true
  | .deputyTakeover => true
  | .handover => true
  | .memberAbsent _ => true
  | .groupLeave w _ => w.wf
  | .duplicateJoinRetry => true
  | .announceTimer => true
  | .announce _ => true
  | .settleEnd _ => true
  | .rollBackoffEnd _ => true
  | .groupRoll _ => true
  | .siteRoll _ => true
  | .ack _ => true
  | .ackTimeout _ => true
  | .registrationRetry _ => true
  | .domainRoll _ => true
  | .domainRollTimer => true
  | .rollIncomplete => true
  | .carrierWithoutTraffic _ => true
  | .imageWrite w _ => w.wf
  | .imageCommit w _ => w.wf
  | .imageActivate w _ t _ => w.wf && t.wf
  | .probationPass _ _ => true
  | .probationFail _ _ => true
  | .vinBack _ => true
  | .aonLost => true
  | .checkerGainsSync _ => true
  | .tfeOutput _ _ => true
  | .newImageLoaded _ => true
  | .neighbourDiscovery _ _ => true

end Sys2Proof
end

