-- ==== Sys2Proof/Tests/Slice0.lean ====
section
/-! SUPPORT. Small states to test on; ill-formed commands; results that the manual gives; and for every statement with
premises a state and operands that meet them. -/

namespace Sys2Proof.Tests

set_option Elab.async false
set_option linter.all false

open Sys2Proof.Machine Sys2Proof.Claims

/-- An open session of the highest role. -/
def session : Session :=
  { id := 7, transport := 0, source := 1, port := 2, requested := 4, keySlot := 32, hostNonce := [], engineNonce := []
    proved := true, role := 4, opened := 0, last := 0, highSeq := 0, kept := [] }

/-- A requester of that session. -/
def host : Requester := { transport := 0, source := 1, port := 2, session := 7, sequence := 1 }

/-- An engine in service long after its start: every domain awake, that session open. -/
def ready : State :=
  { State.reset.put Obj.bootState 0 2 with
    clk := { Clock.start with sfn := 10000000000, anchored := true }
    pow := { Power.start with doms := List.replicate 25 { Dom.init with st := .awake } }
    aop := { Aop.start with sessions := [session] } }

/-- A state with the access of a write noted. -/
def noted (s : State) (o m : Nat) (v : Val) : State :=
  match accessedBy o m v with
  | some d => s.touch d
  | none => s

/-- The checks that `Admitted` asks for, as a test that runs. -/
def admits (s : State) (w : Requester) (op o m : Nat) (v v' : Val) : Bool :=
  !s.badSession w && decide (s.checkWrite w op o m v = (0, v')) &&
    match accessedBy o m v' with
    | some d => decide ((s.dom d).st = .awake)
    | none => match settingDomain o with
      | some d => !s.domOff d
      | none => true

theorem admitted {s : State} {w : Requester} {op o m : Nat} {v v' : Val} (h : admits s w op o m v v' = true) :
    Admitted s (noted s o m v') w op o m v v' := by
  unfold admits at h
  simp only [Bool.and_eq_true, Bool.not_eq_true', decide_eq_true_eq] at h
  obtain ⟨⟨h1, h2⟩, h3⟩ := h
  refine ⟨h1, h2, ?_⟩
  unfold noted
  cases hd : accessedBy o m v' with
  | some d =>
    rw [hd] at h3
    exact ⟨by simpa using h3, rfl⟩
  | none =>
    rw [hd] at h3
    refine ⟨rfl, fun d hs => ?_⟩
    rw [hs] at h3
    simpa using h3

/-- A received superframe that shows nothing. -/
def quietRx : RxIn :=
  { residual := 0, dgd := 0, pdl := 0, sop := 0, offset := 0, linewidth := 0, subs := [], clock := 0, iq := [], slips := [] }

/-- A local superframe that shows nothing. -/
def quietSf : SfIn :=
  { conv := Pair.both [], lanes := [], inverse := Pair.both [], vectors := Pair.both true
    bel := { signal := [], offsets := [], steer := 0, phase := 0 }, depart := Pair.both 0, full := [] }

/-- A domain put in a state. -/
def domSt (s : State) (d : Nat) (x : DomSt) : State := s.setDom d (fun y => { y with st := x })

/-- Entries put in the table. -/
def withEntries (s : State) (l : List Entry) : State := { s with clk := { s.clk with entries := l } }

/-- An entry due at once, by the received count of carrier A. -/
def dueEntry : Entry := { Entry.base .domainWake 0 with count := .rx .a, carrier := some .a }

/-- An operation that waits for a domain. -/
def stalled : Stall :=
  { asker := host, op := { op := 2, form := 0, obj := Obj.domainHold, mem := 7, offset := 0, sfn := 0, offW := 0, value := [] }
    dom := 7, since := 0, told := none }

/-- A write of a record of two pages that waits for the Icehouse. -/
def job : IceJob :=
  { recd := { typ := 7, region := 5, subject := 0, seq := 1, sfn := 0, payload := [], firstPage := 0, pages := 2, blocks := []
              committed := false, ignored := 0 }
    done := 0, asker := none, copy := true }

/-- A record of one page with weak sectors. -/
def weakOne : IceRec := { job.recd with pages := 1, committed := true }

/-- That engine with it, its refresh due. -/
def weakly : State := { ready with mem := { ready.mem with recs := [weakOne], refreshAt := 0 } }

/-- That engine as its refresh moves the record. -/
def moving : State :=
  { weakly.touch Dn.ice with mem := { (weakly.touch Dn.ice).mem with
      refreshAt := (weakly.touch Dn.ice).clk.sfn + (weakly.touch Dn.ice).u Obj.refreshPeriod * daySf } }

/-- That engine with its line up on both carriers and its time anchored. -/
def linked : State :=
  (((((ready.put (on .a Obj.frameLock) 0 1).put (on .b Obj.frameLock) 0 1).put Obj.timeQuality 0 1).put
    (on .a Obj.coordLeadMin) 0 8).put (on .b Obj.coordLeadMin) 0 8)

/-- That engine with the receiver of carrier A in a lock state. -/
def receiver (lock : Nat) (f : EqSt → EqSt) : State :=
  { ready.put (on .a Obj.lockState) 0 lock with eq := ready.eq.upd .a f }

/-- An untagged PTP Sync message: EtherType 88F7h, messageType 0. -/
def syncFrame : List Byte := List.replicate 12 0 ++ [0x88, 0xF7, 0, 2] ++ List.replicate 46 0

/-- The alignment word alone. -/
def bareCore : List (Nat × Nat) := [(0, 0xA7C35E19), (1, 0xD04B862F)]

/-- A core of `n` in its CRC words and nothing between them and the alignment word, as bits. -/
def coreOf (n : Nat) : Nat := 0xA7C35E19D04B862F * 2 ^ 98240 + n

/-- The bits of a valid core that says nothing. -/
def goodCore : Nat := coreOf (Core.check bareCore)

theorem assoc_words (f : Nat → Nat) (l : List Nat) (w : Nat) :
    (assocGet ((l.map (fun w => (w, f w))).filter (fun p => p.2 != 0)) w).getD 0 = if w ∈ l then f w else 0 := by
  induction l with
  | nil => rfl
  | cons a l ih =>
    rw [List.map_cons, List.filter_cons]
    by_cases ha : f a = 0
    · rw [if_neg (by simp [ha]), ih]
      by_cases h : w = a
      · subst h
        simp [ha]
      · simp [h]
    · rw [if_pos (by simp [ha]), assocGet]
      by_cases h : w = a
      · subst h
        simp
      · rw [if_neg h, ih]
        simp [h]

theorem core_word (x w : Nat) (h : w < 3072) : Core.word (coreWordsOf x) w = x / 2 ^ (32 * (3071 - w)) % 2 ^ 32 := by
  unfold Core.word coreWordsOf
  rw [assoc_words, if_pos (List.mem_range.mpr h)]

theorem pow_split (c a b : Nat) (h : c = a + b) : 2 ^ c = 2 ^ a * 2 ^ b := h ▸ Nat.pow_add 2 a b

theorem coreOf_div (n k : Nat) (hk : k ≤ 98240) (hn : n < 2 ^ k) :
    coreOf n / 2 ^ k = 0xA7C35E19D04B862F * 2 ^ (98240 - k) := by
  have e : 2 ^ 98240 = 2 ^ (98240 - k) * 2 ^ k := by rw [← Nat.pow_add, Nat.sub_add_cancel hk]
  unfold coreOf
  rw [e, ← Nat.mul_assoc, Nat.add_comm, Nat.add_mul_div_right _ _ (Nat.two_pow_pos k), Nat.div_eq_of_lt hn, Nat.zero_add]

theorem coreOf_word (n i : Nat) (hn : n < 2 ^ 64) (h1 : 1 ≤ i) (hi : i < 3070) :
    Core.word (coreWordsOf (coreOf n)) i = Core.word bareCore i := by
  have hk : n < 2 ^ (32 * (3071 - i)) := Nat.lt_of_lt_of_le hn (Nat.pow_le_pow_right (by decide) (by omega))
  rw [core_word _ _ (by omega), coreOf_div _ _ (by omega) hk]
  by_cases h : i = 1
  · subst h
    decide +kernel
  · have hb : Core.word bareCore i = 0 := by
      have : i ≠ 0 := by omega
      simp only [Core.word, bareCore, assocGet, if_neg h, if_neg this]
      rfl
    rw [hb]
    refine Nat.mod_eq_zero_of_dvd (Nat.dvd_trans (Nat.pow_dvd_pow 2 ?_) (Nat.dvd_mul_left _ _))
    omega

theorem coreOf_first (n : Nat) (hn : n < 2 ^ 64) : Core.word (coreWordsOf (coreOf n)) 0 = 0xA7C35E19 := by
  have hk : n < 2 ^ 98240 := Nat.lt_of_lt_of_le hn (Nat.pow_le_pow_right (by decide) (by decide))
  rw [core_word _ _ (by decide), pow_split (32 * (3071 - 0)) 98240 32 rfl, ← Nat.div_div_eq_div_mul]
  exact (congrArg (fun x => x / 2 ^ 32 % 2 ^ 32) (coreOf_div n 98240 (Nat.le_refl _) hk)).trans (by decide)

theorem coreOf_check (n : Nat) (hn : n < 2 ^ 64) : Core.check (coreWordsOf (coreOf n)) = Core.check bareCore := by
  have e : (List.range 3070).map (fun i => be 4 (Core.word (coreWordsOf (coreOf n)) i)) =
      (List.range 3070).map (fun i => be 4 (Core.word bareCore i)) := by
    refine List.map_congr_left (fun i hi => congrArg (be 4) ?_)
    by_cases h : i = 0
    · subst h
      exact coreOf_first n hn
    · exact coreOf_word n i hn (by omega) (List.mem_range.mp hi)
  unfold Core.check
  rw [e]

theorem crc_lt (l : List Byte) : ∀ r < 2 ^ 64, l.foldl (fun r b =>
    (List.range 8).foldl (fun r i =>
      let top := bit r (64 - 1) != bit b.toNat (7 - i)
      let r' := r * 2 % 2 ^ 64
      if top then r' ^^^ 0x42F0E1EBA9EA3693 else r') r) r < 2 ^ 64 := by
  have step : ∀ (b : Byte) (k : List Nat), ∀ r < 2 ^ 64, k.foldl (fun r i =>
      let top := bit r (64 - 1) != bit b.toNat (7 - i)
      let r' := r * 2 % 2 ^ 64
      if top then r' ^^^ 0x42F0E1EBA9EA3693 else r') r < 2 ^ 64 := by
    intro b k
    induction k with
    | nil => exact fun r h => h
    | cons i k ih =>
      intro r h
      refine ih _ ?_
      have h2 : r * 2 % 2 ^ 64 < 2 ^ 64 := Nat.mod_lt _ (by decide)
      dsimp only
      split
      · exact Nat.xor_lt_two_pow h2 (by decide)
      · exact h2
  induction l with
  | nil => exact fun r h => h
  | cons b l ih => exact fun r h => ih _ (step b _ r h)

theorem check_lt (k : Core) : Core.check k < 2 ^ 64 := Nat.xor_lt_two_pow (crc_lt _ _ (by decide)) (by decide)

theorem coreOf_valid (n : Nat) (hn : n < 2 ^ 64) (h : Core.check bareCore = n) : Core.valid (coreWordsOf (coreOf n)) = true := by
  unfold Core.valid
  have h1 : Core.word (coreWordsOf (coreOf n)) 3070 = n / 2 ^ 32 := by
    rw [core_word _ _ (by decide)]
    unfold coreOf
    rw [pow_split 98240 98208 32 rfl, ← Nat.mul_assoc, Nat.add_comm, Nat.add_mul_div_right _ _ (Nat.two_pow_pos 32),
      pow_split 98208 98176 32 rfl, ← Nat.mul_assoc, Nat.add_mul_mod_self_right]
    omega
  have h2 : Core.word (coreWordsOf (coreOf n)) 3071 = n % 2 ^ 32 := by
    rw [core_word _ _ (by decide), Nat.sub_self, Nat.mul_zero, Nat.pow_zero, Nat.div_one]
    unfold coreOf
    rw [pow_split 98240 98208 32 rfl, ← Nat.mul_assoc, Nat.add_comm,
      Nat.add_mul_mod_self_right]
  rw [coreOf_first n hn, coreOf_word n 1 hn (by decide) (by decide), h1, h2, coreOf_check n hn, h, Nat.div_add_mod',
    show Core.word bareCore 1 = 0xD04B862F from rfl, beq_self_eq_true, beq_self_eq_true, beq_self_eq_true]
  rfl

theorem bitsNat_lt (l : List Bool) : ∀ a n, a < 2 ^ n → l.foldl (fun a b => 2 * a + b2n b) a < 2 ^ (n + l.length) := by
  induction l with
  | nil => exact fun a n h => h
  | cons b l ih =>
    intro a n h
    have hb : b2n b < 2 := by cases b <;> decide
    have := ih (2 * a + b2n b) (n + 1) (by rw [Nat.pow_succ]; omega)
    rw [List.foldl_cons, List.length_cons, Nat.add_comm l.length 1, ← Nat.add_assoc]
    exact this

theorem prbs_length (n m : Nat) : ∀ len r, (prbs n m len r).length = len := by
  intro len
  induction len with
  | zero => exact fun r => rfl
  | succ k ih => exact fun r => congrArg Nat.succ (ih _)

theorem prbs_lt (n m len r : Nat) : bitsNat (prbs n m len r) < 2 ^ len := by
  have := bitsNat_lt (prbs n m len r) 0 0 Nat.one_pos
  rw [prbs_length, Nat.zero_add] at this
  exact this

/-- An engine locked to a carrier that holds the core of one received frame. -/
def holding (x lock : Nat) : State :=
  { linked.put (on .a Obj.frameLock) 0 lock with
    frame := linked.frame.upd .a (fun f => { f with
      head := [{ frame := 0, trial := false, start := 0, len := 98304, bits := scrambled x }] }) }

theorem holding_core (x lock : Nat) : (holding x lock).heldCore .a false = coreWordsOf x := by
  have e : (holding x lock).heldCore .a false =
      coreWordsOf (scrambled (sumNat [HeadPart.place ⟨0, false, 0, 98304, scrambled x⟩])) := rfl
  have p : sumNat [HeadPart.place ⟨0, false, 0, 98304, scrambled x⟩] = scrambled x := by
    have : HeadPart.place ⟨0, false, 0, 98304, scrambled x⟩ = scrambled x := by
      unfold HeadPart.place
      rw [Nat.zero_add]
      exact Nat.mul_div_cancel _ (Nat.two_pow_pos _)
    rw [this]
    simp [sumNat]
  rw [e, p]
  unfold scrambled
  rw [Nat.xor_assoc, Nat.xor_self, Nat.xor_zero]

theorem holding_valid (lock : Nat) : Core.valid ((holding goodCore lock).heldCore .a false) = true := by
  rw [holding_core]
  exact coreOf_valid _ (check_lt _) rfl

theorem coreOf_sfn (n : Nat) (hn : n < 2 ^ 64) : Core.sfn (coreWordsOf (coreOf n)) = 0 := by
  unfold Core.sfn
  rw [coreOf_word n 2 hn (by decide) (by decide), coreOf_word n 3 hn (by decide) (by decide)]
  rfl

theorem holding_sfn (lock : Nat) : Core.sfn ((holding goodCore lock).heldCore .a false) = 0 := by
  rw [holding_core]
  exact coreOf_sfn _ (check_lt _)

theorem empty_core (s : State) (c : Carrier) (trial : Bool) (h : (s.frame.get c).head = []) :
    Core.valid (s.heldCore c trial) = false := by
  have e : s.heldCore c trial = coreWordsOf (scrambled 0) := by
    have z : sumNat (List.map HeadPart.place (List.filter (fun p => p.trial == trial) [])) = 0 := rfl
    unfold State.heldCore
    rw [h, z]
  have hb : scrambled 0 < 2 ^ (coreBits - 64) := by
    rw [(scrambled.eq_1 0).trans (Nat.zero_xor _)]
    exact prbs_lt 31 28 _ (2 ^ 31 - 1)
  have h0 : Core.word (coreWordsOf (scrambled 0)) 0 = 0 := by
    have hs : scrambled 0 < 2 ^ (32 * (3071 - 0)) :=
      Nat.lt_of_lt_of_le hb (Nat.pow_le_pow_right (show 0 < 2 by decide) (show coreBits - 64 ≤ 32 * (3071 - 0) by decide))
    rw [core_word _ _ (by decide)]
    exact (congrArg (· % 2 ^ 32) (Nat.div_eq_of_lt hs)).trans (Nat.zero_mod _)
  unfold Core.valid
  rw [e, h0, show (0 == 0xA7C35E19) = false from rfl, Bool.false_and, Bool.false_and]

/-- A codeword whose run on slot 0 is under way. -/
def codeword : Codeword :=
  { slot := some 0, carrier := .a, frame := 5, number := 9, arrived := 0, release := 200000000000000000000, iters := 0
    running := true, finished := false, zero := false, erased := false, low := false, trial := false
    load := State.reset.baseLoading .a, codes := [], start := 0, len := 0, llrs := [], hard := 0, bits := 0 }

/-- A loading request for QPSK on every subcarrier of the receive direction. -/
def loadRow : List Byte :=
  be 2 1 ++ be 8 10000000020 ++ be 1 0 ++ be 1 0 ++ (List.replicate 16 (be 2 0x4040)).flatten

/-- That engine with client 0 on a consistent run of lanes that show no signal. -/
def served : State :=
  ((ready.put Obj.clientRate 0 1).put Obj.laneRate 0 3).put Obj.clientLanes 0 1

/-- That engine with a converter of carrier A in a rotation cycle. -/
def cycling (k : Nat) (x : Cycle) : State := ready.setCv .a k (fun v => { v with cycle := x })

/-- That engine with a slice of a converter of carrier A in a state. -/
def sliceIn (k i st : Nat) : State := ready.setSlice .a k i (fun x => { x with st := st })

/-- A swap of slice 0 of DAC 7 for slice 32 in the table. -/
def swapEntry (sfn : Nat) : Entry :=
  { Entry.base .sliceSwap sfn with carrier := some .a, key := 32 * 256 + 7, data := [0, 7] }

theorem some_getD (o : Option Nat) (h : o.isSome = true) : o = some (o.getD 0) := by
  cases o with
  | none => cases h
  | some n => rfl

/-- The trim that DAC 7 takes for slice 32. -/
def goodFit : TrimFit := { terms := defaultTerms, spur := -48000, converged := true }

/-- A map that carries client 0 at rate 1. -/
def oneClient : CMap := { carried := 1, sizes := 1 :: List.replicate 63 0, plots := 2, gen := 1 }

/-- A block header of client 0 at received SFN 0. -/
def blockHead (cipher : Bool) : BlockHead :=
  { typ := 0, cipher := cipher, parity := cipher, count := rateBlocks 1 0, seq := 0, cells := rateCells 1, client := 0
    context := 0 }

/-- A snapshot that waits. -/
def snap : Snap :=
  { buffer := 3, number := 1, sfn := 5, tick := 0, quality := 1, flags := 0, entry := 0, actual := 5, values := []
    bad := [], retryAt := some 0 }

/-- A ToD message of second 5 that is sound. -/
def todGood : List Byte :=
  let b := be 2 0x5444 ++ be 6 5 ++ be 1 1 ++ be 5 0
  b ++ be 2 (crc 16 0x1021 0xFFFF b)

/-- That engine with an input of the Belvedere changed. -/
def withInput (i : Nat) (f : RefSt → RefSt) : State :=
  { ready with bel := { ready.bel with inputs := modNth ready.bel.inputs i f } }

/-- A request of the Grotto. -/
def plainReq : GReq :=
  { master := 0, typ := 6, slot := 32, gen := 0, outSlot := 0, tag := 5, src := (0, 1), dst := (0, 1), par := (0, 0), cls := 0
    unit := some 3, use := .plain }

/-- A descriptor that asks for a digest of some octets. -/
def digest (srcLen dst : Nat) : Descriptor :=
  { master := 0, tag := 7, slot := 0, outSlot := 0, src := 0, srcLen := BitVec.ofNat 32 srcLen, dst := BitVec.ofNat 32 dst
    dstLen := 64, par := 0, parLen := 0 }

/-- A seal of a context that is off, under its check value or not. -/
def openSeal (tag : List Byte) : SealIn := { ctx := 64, index := 0, cells := [1], tag := tag }

/-- That engine, its identity at hand and its lattice unit granted, with the roots of carrier A changed. -/
def rooted (f : RootSt → RootSt) : State :=
  { linked with grot := { linked.grot with identity := true, roots := linked.grot.roots.upd .a f } }

/-- A root key of carrier A. -/
def rootA : Nat × Nat × List Byte := (8, 5, [])

/-- A message of one read operation. -/
def readMessage : List Byte :=
  be 1 1 ++ be 1 1 ++ be 2 36 ++ be 2 0xFFFF ++ be 2 1 ++ be 4 0 ++ be 4 9 ++ be 4 0 ++
    (be 1 1 ++ be 1 0 ++ be 2 Obj.sessionIdle ++ be 1 0 ++ be 3 0 ++ be 2 0 ++ be 2 0 ++ be 4 0)

/-- An Offer of the right length from address 0. -/
def offerBody : List Byte := List.replicate 5989 0

/-- An image of subsystem 1 with a digest of its payload and no owner signature. -/
def imageOctets : List Byte :=
  List.replicate 16 0 ++ List.replicate 64 7 ++ List.replicate 1328 0 ++ [9]

theorem imageOctets_payload : imageOctets.drop (imgHeader imageOctets) = [9] := by decide +kernel

/-- That engine with its identity key in slot 1. -/
def quoting : State :=
  { ready with grot := { ready.grot with identity := true, slots := List.replicate 256 { GSlot.init with typ := 5 } } }

/-- That engine with a session that has yet to prove its role by the key of slot 32. -/
def proving : State :=
  { ready.put Obj.roleGrant 0 0x2002 with
    grot := { ready.grot with slots := List.replicate 256 { GSlot.init with typ := 4 } }
    aop := { ready.aop with sessions := [{ session with requested := 2, proved := false, role := 0 }] } }

/-- An enrolment of a first owner key. -/
def enrolment : List Byte := be 1 1 ++ be 8 10000000000 ++ List.replicate 1793 7

/-- That engine with the second slot of subsystem 5 in force on both carriers. -/
def otherSlot : State := { ready with img := { ready.img with dsp := Pair.both 1 } }

theorem ofBe_be (n : Nat) (h : n < 65536) : ofBe (be 2 n) = n := by
  simp [be, ofBe, byteOf]
  omega

theorem freshNum_lt (s : State) (used : Nat → Bool) : (s.freshNum 0 1024 used).1.getD 0 < 65536 := by
  unfold State.freshNum
  dsimp only
  cases (List.range (min 1024 1025)).find? _ with
  | none => exact Nat.zero_lt_succ _
  | some i =>
    show 0 + _ % 1024 < 65536
    omega

theorem addEntry_lt (s : State) (e : Entry) : (s.addEntry e).1 < 65536 := by
  have h : (s.addEntry e).1 = (s.freshNum 0 1024 (fun n => s.clk.entries.any (fun x => x.num == n))).1.getD 0 := by
    unfold State.addEntry
    generalize s.freshNum 0 1024 (fun n => s.clk.entries.any (fun x => x.num == n)) = q
    rfl
  rw [h]
  generalize hq : (fun n => s.clk.entries.any (fun x => x.num == n)) = f
  apply freshNum_lt

theorem schedule_ok (s : State) (e : Entry) (h1 : s.fits e = true) (h2 : s.hostFull e = false) :
    s.schedule e = (0, s.addEntry e) := by
  unfold State.schedule
  simp [h1, h2]

theorem hostSchedule_ok (s : State) (w : Requester) (t : Target) (e x : Entry) (n : Nat)
    (h1 : s.resolve t e.kind e.count e.carrier = (0, n)) (h2 : e.write = 0)
    (hx : x = { e with sfn := n, orig := n, symbols := t.symbols, offset := t.offset, src := masterOf w
                       role := some (s.roleOf w), write := s.newWrite.1 })
    (h3 : s.newWrite.2.fits x = true)
    (h4 : s.newWrite.2.hostFull x = false) :
    s.hostSchedule w t e = (scheduledRes x (s.newWrite.2.addEntry x).1, (s.newWrite.2.addEntry x).2) := by
  subst hx
  unfold State.hostSchedule
  rw [h1]
  dsimp only
  rw [if_neg (by decide), if_neg (by decide), if_pos h2, schedule_ok _ _ h3 h4, if_neg (fun h => h rfl)]

theorem secondActivation_ok (s : State) (num : Nat) (e x : Entry) (h1 : s.clk.entries.find? (fun x => x.num == num) = some x)
    (h2 : s.hostFull { e with src := x.src, role := x.role, write := x.write } = false)
    (h3 : (firstFrom (x.sfn + 16) searchSpan (fun n =>
      s.fits { e with src := x.src, role := x.role, write := x.write, sfn := n, orig := n })).isSome = true) :
    (s.secondActivation num e).isSome = true := by
  unfold State.secondActivation
  rw [h1]
  dsimp only
  rw [if_neg (by rw [h2]; decide)]
  split
  · rename_i h
    rw [h] at h3
    cases h3
  · rfl

/-- The first of two activations, as it enters the table. -/
def firstHalf : Entry :=
  { activationEntry 5 0 (some .a) with
    sfn := 10000000001, orig := 10000000001, write := 1, src := masterOf host, role := some 4 }

/-- Where the first half of a write for both carriers stands in an empty table, the second finds its place too. -/
theorem halves_done (s : State) (x : Entry) (hx : x = { firstHalf with num := (s.newWrite.2.addEntry firstHalf).1 })
    (h1 : s.resolve Target.next (activationEntry 5 0 (some .a)).kind (activationEntry 5 0 (some .a)).count
      (activationEntry 5 0 (some .a)).carrier = (0, 10000000001))
    (h2 : s.newWrite.1 = 1 ∧ s.roleOf host = 4) (h3 : s.newWrite.2.fits firstHalf = true)
    (h4 : s.newWrite.2.hostFull firstHalf = false) (h5 : s.newWrite.2.clk.entries = [])
    (h6 : (s.newWrite.2.addEntry firstHalf).2.hostFull
      { activationEntry 5 0 (some .b) with src := x.src, role := x.role, write := x.write } = false)
    (h7 : (firstFrom (x.sfn + 16) searchSpan (fun n => (s.newWrite.2.addEntry firstHalf).2.fits
      { activationEntry 5 0 (some .b) with src := x.src, role := x.role, write := x.write, sfn := n, orig := n })).isSome = true)
    (r : Res × State) (hr : r = s.hostSchedule host Target.next (activationEntry 5 0 (some .a))) :
    r.1.code = 0 ∧ (r.2.secondActivation (ofBe r.1.value) (activationEntry 5 0 (some .b))).isSome = true := by
  subst hr
  rw [hostSchedule_ok s host _ (activationEntry 5 0 (some .a)) firstHalf 10000000001 h1 rfl
    (by rw [h2.1, h2.2]; rfl) h3 h4]
  refine ⟨rfl, secondActivation_ok _ _ _ x ?_ h6 h7⟩
  subst hx
  have e : (s.newWrite.2.addEntry firstHalf).2.clk.entries =
      [{ firstHalf with num := (s.newWrite.2.addEntry firstHalf).1 }] := by
    simp [State.addEntry, State.setEntries, h5]
  have e2 : ofBe (scheduledRes firstHalf (s.newWrite.2.addEntry firstHalf).1).value =
      (s.newWrite.2.addEntry firstHalf).1 := by
    unfold scheduledRes
    dsimp only
    exact ofBe_be _ (addEntry_lt _ _)
  rw [e, e2]
  simp

theorem some_of_isSome {o : Option State} (h : o.isSome = true) (d : State) : o = some (o.getD d) := by
  cases o with
  | none => cases h
  | some n => rfl

/-- That engine at SLOT 2 of GROUP 1 with a role in its group, in a state of the bus. -/
def member (role bus : Nat) : State :=
  { ((ready.put Obj.deviceAddress 0 34).put Obj.keeperRole 0 role).put Obj.groupBusState 0 bus with
    grp := { GroupSt.start with keeper := if role = 1 then 34 else 33, base := some (7, 10000000000) } }

/-- A frame of SLOT 1 of that group. -/
def heardFrame (body : List Byte) : GroupFrame := { source := 33, cycle := 7, crcOk := true, body := body }

/-- That engine in spare mode with avenue A carrying and B fit to take over. -/
def spare : State :=
  { (((linked.put Obj.avenueMode 0 2).put Obj.carryingAvenue 0 1).put (on .b Obj.lockState) 0 7) with
    av := { AvSt.start with elig := ⟨false, true⟩ }
    frame := linked.frame.upd .b (fun f => { f with core := [(2, 2), (3, 1410065408), (26, 2 ^ 29)] }) }

/-- That engine with avenue A out of frame lock. -/
def lostA : State := spare.put (on .a Obj.frameLock) 0 0

/-- An engine whose client 0 has something at V8. -/
def atV8 (x : Client8) : State :=
  { ready with av := { AvSt.start with clients := x :: List.replicate 63 Client8.init } }

/-- An order of avenue B for address 34. -/
def order : List Byte := be 8 0x0021002200430102

/-- That engine as its group's Keeper in the domain, with some roles. -/
def inRoles (roles : Nat) : State :=
  { (((member 1 2).put Obj.domainRole 0 roles).put Obj.groupValidMask 0 4) with
    pow := { Power.start with shedCheck := true, doms := List.replicate 25 { Dom.init with st := .awake } } }

/-- A message of the domain: type, Status, Source, Sequence 9 and body. -/
def heard (type status source : Nat) (body : List Byte) : List Byte :=
  ascii "THDM" ++ be 1 type ++ be 1 status ++ be 2 source ++ be 4 9 ++ be 4 body.length ++ body

/-- The body of a group roll of GROUP 1 with Keeper 34. -/
def rollBody : List Byte := be 2 34 ++ be 2 35 ++ be 4 12 ++ List.replicate 512 0

/-- The roll that it registers. -/
def rollOf1 (keeper : Nat) : Roll :=
  { group := 1, keeper := keeper, deputy := 35, valid := 12, serials := List.replicate 512 0 }

/-- A registration that awaits the Ack of message 9 from address 65. -/
def awaiting (site : Bool) (attempt : Nat) : State :=
  (((inRoles 1).put Obj.siteLeadAddress 0 65).put Obj.registrarAddress 0 65).setReg site
    (fun g => { g with attempt := attempt, seq := 9, ackBy := some 10000000000 })

/-- An address of port 0 in duplicate detection, or past it. -/
def mgAddr (tentative : Bool) : MgAddr := { port := 0, addr := 5, tentative := tentative, duplicate := false }

/-- That engine with it. -/
def withAddr (tentative : Bool) : State := { ready with aop := { ready.aop with mgAddrs := [mgAddr tentative] } }

theorem readDomain_heard (body : List Byte) (h : body.length = 8324) :
    readDomain 3 8324 (heard 3 0 34 body) = some (0, 34, 9, body) := by
  have e : heard 3 0 34 body = ascii "THDM" ++ (be 1 3 ++ be 1 0 ++ be 2 34 ++ be 4 9 ++ be 4 8324) ++ body := by
    unfold heard
    rw [h]
    simp only [List.append_assoc]
  have l : (heard 3 0 34 body).length = 16 + 8324 := by
    rw [e, List.length_append, h]
    rfl
  unfold readDomain
  rw [l, e]
  generalize body = x
  rfl

/-! ### Ill-formed commands -/

/-- A requester whose session number has 33 bits. -/
def wide : Requester := { host with session := 2 ^ 32 }

/-- What a reset release shows on a part whose records are sound. -/
def bootIn : BootIn :=
  { straps := 34, bootsel := false, kat := none, identity := true, bad := [], factoryBad := 0, mountMs := 100 }

theorem test_requester_refused :
    Instr.wellFormed (.close wide) = false ∧ Instr.wellFormed (.close host) = true := by decide +kernel

theorem test_target_refused :
    Instr.wellFormed (.scheduledWrite host 0 0 { relative := false, sfn := 0, symbols := false, offset := 2 ^ 25 } (.num 0)) = false ∧
    Instr.wellFormed (.scheduledWrite host 0 0 { relative := false, sfn := 2 ^ 64, symbols := false, offset := 0 } (.num 0)) = false := by
  decide +kernel

theorem test_boot_refused :
    Instr.wellFormed (.resetRelease { bootIn with bad := [(3968 * 256, 2)] }) = false ∧
    Instr.wellFormed (.resetRelease { bootIn with bad := [(0, 5)] }) = false ∧
    Instr.wellFormed (.resetRelease bootIn) = true := by decide +kernel

theorem test_boundary_refused :
    Instr.wellFormed (.receivedBoundary .a 0 0 quietRx) = false ∧ Instr.wellFormed (.localBoundary quietSf) = false := by
  decide +kernel

theorem test_slice_refused :
    Instr.wellFormed (.sliceDue .a 0 67 0) = true ∧ Instr.wellFormed (.sliceDue .a 0 68 0) = false ∧
    Instr.wellFormed (.sliceDue .a 7 33 0) = true ∧ Instr.wellFormed (.sliceDue .a 7 34 0) = false := by decide +kernel

theorem test_fit_refused :
    Instr.wellFormed (.trimFitComplete .a 0 { goodFit with terms := [0] } 0) = false := by decide +kernel

theorem test_group_refused :
    Instr.wellFormed (.codewordArrive .a { frame := 0, group := 0, llrs := [], trial := false }) = false ∧
    Instr.wellFormed (.codewordArrive .a { frame := 0, group := 0, llrs := List.replicate 17 [], trial := false }) = false ∧
    Instr.wellFormed (.codewordArrive .a { frame := 0, group := 0, llrs := [[32]], trial := false }) = false ∧
    Instr.wellFormed (.codewordArrive .a { frame := 2 ^ 64, group := 0, llrs := [[]], trial := false }) = false ∧
    Instr.wellFormed (.iterationEnd 16384) = false ∧ Instr.wellFormed (.codewordLeaves .a (2 ^ 64) 0 false) = false := by
  decide +kernel

theorem test_samples_refused :
    ConvIn.codes { hist := [(128, 1)], spur := 0, slices := [] } = false ∧ ConvIn.codes { hist := [(-128, 1)], spur := 0, slices := [] } = true := by
  decide +kernel

theorem test_header_refused :
    Instr.wellFormed (.clientBlockReceived .a 0 [0, 0, 0]) = false ∧
    Instr.wellFormed (.clientBlockReceived .a 0 [0, 2 ^ 32, 0, 0]) = false ∧
    Instr.wellFormed (.clientBlockReceived .a 0 (headWords (blockHead false))) = true ∧
    Instr.wellFormed (.ptpEventMessage 0 { block := 2 ^ 20, octet := 0, frame := syncFrame, ingress := 0 }) = false ∧
    Instr.wellFormed (.headerCheck .a [0]) = false := by decide +kernel

theorem test_seal_refused : Instr.wellFormed (.sealReceived .a (openSeal [])) = false := by decide +kernel

theorem test_frame_refused :
    Instr.wellFormed (.beacon (heardFrame (List.replicate 97 0))) = false ∧
    Instr.wellFormed (.beacon { heardFrame [] with source := 8192 }) = false := by decide +kernel

theorem test_lengths_refused :
    Instr.wellFormed (.noiseFloorWindow .a [0]) = false ∧ Instr.wellFormed (.pageReadDone 0 0 []) = false ∧
    Instr.wellFormed (.footpathPacketEnd .a (List.replicate 257 0) 0 0 0) = false ∧
    Instr.wellFormed (.poisonReload (384 * 1024 * 1024)) = false ∧ Instr.wellFormed (.abort .a 0 256) = false := by
  decide +kernel

/-! ### Results that the manual gives -/

/-- No word spells a command: the table of operations and events gives no bits. -/
theorem test_no_word : decodeTableWord 32 0 = none ∧ ready.withFetchWord 32 0 = ready := ⟨rfl, rfl⟩

/-- R10's worked example: `CarrierEntropy` of carrier A is object 5143h. -/
theorem test_carrier_entropy : on .a Obj.carrierEntropy = 0x5143 := by decide +kernel

/-- R34: a superframe has 33,000,000 symbols at 330 GBd. -/
theorem test_symbols : ready.symbolsPerSf .a = 33000000 := by decide +kernel

/-- R522: counters 0 and 2,047 have their select words at F711h.00 and FE11h.255. -/
theorem test_select_objects : selectObj 0 = (0xF711, 0) ∧ selectObj 2047 = (0xFE11, 255) := by decide +kernel

/-- R15: an object that does not exist is refused with 0101h, a member that does not exist with 0102h, a write of a
read-only object with 0202h, and a write below its role with 0201h. -/
theorem test_write_refusals :
    (ready.checkWrite host 2 0x1FFF 0 (.num 0)).1 = 0x0101 ∧
    (ready.checkWrite host 2 Obj.twinRelease 1 (.num 0)).1 = 0x0102 ∧
    (ready.checkWrite host 2 Obj.sfnNow 0 (.num 0)).1 = 0x0202 ∧
    (ready.checkWrite { host with session := 0 } 2 Obj.twinRelease 0 (.num 0)).1 = 0x0201 ∧
    (ready.checkWrite host 2 Obj.twinRelease 0 (.num 2)).1 = 0x0301 := by decide +kernel

theorem witness_EmptyQueueIdles_idleOn :
    ∃ s : State, s.pending = [] ∧ s.pow.on = true ∧ s.pow.keepAlive = false ∧ s.clk.tick < 1023 :=
  ⟨State.reset, rfl, rfl, rfl, by decide +kernel⟩

theorem witness_EmptyQueueIdles_idleLast :
    ∃ s : State, s.pending = [] ∧ (s.pow.on = false ∨ s.pow.keepAlive = true ∨ 1023 ≤ s.clk.tick) :=
  ⟨{ ready with clk := { ready.clk with tick := 1023 } }, rfl, .inr (.inr (Nat.le_refl _))⟩

/-- That engine with an octet in SRAM and an event record that waits, without power. -/
def stopped : State :=
  { (ready.log 0x1001 []) with
    mem := { ready.mem with sram := [(5, 1)] }, pow := { ready.pow with on := false } }

/-- It starts again. -/
def started : State :=
  match exec .powerOn stopped with
  | .next t => t
  | _ => stopped

theorem stopped_starts : exec .powerOn stopped = .next started := rfl

theorem witness_MemoryStaysCanonical_memoryKept : ∃ s t : State, s.memoryOk ∧ step s = .next t :=
  ⟨front .powerOn [] stopped, _, ⟨by decide +kernel, by decide +kernel⟩, rfl⟩

theorem witness_EventsStayInOrder_eventsKept : ∃ s t : State, s.eventsOk ∧ step s = .next t :=
  ⟨State.reset, _, ⟨by decide +kernel, by decide +kernel, by decide +kernel⟩, rfl⟩

theorem witness_FrameOfEveryCommand_frame :
    ∃ (i : Instr) (s t : State), exec i s = .next t ∧ Zone.user ∉ touched i :=
  ⟨.probationPass 6 none, ready, _, rfl, by decide +kernel⟩

theorem witness_WhatNoCommandUndoes_notUndone : ∃ (i : Instr) (s t : State), exec i s = .next t :=
  ⟨.powerOn, stopped, _, stopped_starts⟩

theorem witness_TimeNeverFalls_later : ∃ (i : Instr) (s t : State), exec i s = .next t ∧ t.clk.sfn < s.clk.sfn :=
  ⟨.powerOn, stopped, _, stopped_starts, by decide +kernel⟩

theorem witness_TimeNeverFalls_moves : ∃ (i : Instr) (s t : State), exec i s = .next t ∧ t.clk.sfn ≠ s.clk.sfn :=
  ⟨.powerOn, stopped, _, stopped_starts, by decide +kernel⟩

theorem witness_FewCommandsWriteMemory_sram :
    ∃ (i : Instr) (s t : State), exec i s = .next t ∧ t.mem.sram ≠ s.mem.sram :=
  ⟨.powerOn, stopped, _, stopped_starts, by decide +kernel⟩

theorem witness_FewCommandsWriteMemory_waiting :
    ∃ (i : Instr) (s t : State), exec i s = .next t ∧ ¬ s.diag.waiting <+: t.diag.waiting :=
  ⟨.powerOn, stopped, _, stopped_starts, by
    have h1 : stopped.diag.waiting.length = 1 := by decide +kernel
    have h2 : started.diag.waiting.length = 0 := by decide +kernel
    intro h
    have := h.length_le
    omega⟩

theorem witness_FewCommandsWriteMemory_supply :
    ∃ (i : Instr) (s t : State), exec i s = .next t ∧ t.supply ≠ s.supply :=
  ⟨.powerOn, stopped, _, stopped_starts, by decide +kernel⟩

theorem witness_RolesHoldWhatLowerOnesHold_writes :
    ∃ (s : State) (w w' : Requester) (op o m : Nat) (v : Val), s.roleOf w ≤ s.roleOf w' ∧ (s.checkWrite w op o m v).1 = 0 :=
  ⟨ready, host, host, 2, Obj.twinRelease, 0, .num 1, by decide +kernel, by decide +kernel⟩

theorem witness_RolesHoldWhatLowerOnesHold_reads :
    ∃ (s : State) (w w' : Requester) (o m : Nat), s.roleOf w < s.roleOf w' ∧ s.readStatus w o m = 0 :=
  ⟨ready, { host with session := 0 }, host, Obj.sfnNow, 0, by decide +kernel, by decide +kernel⟩

theorem witness_RolesHoldWhatLowerOnesHold_lowest :
    ∃ (s : State) (w : Requester) (o : Nat) (r : DictRow), dictRow o = some r ∧ s.roleOf w < r.wr ∧ r.acc = .rw :=
  ⟨ready, { host with session := 0 }, Obj.ceiling, (dictRow Obj.ceiling).getD (dict2a.headD ⟨0, 0, 0, 0, 0, .u8, .ro, 0, 0, [], 0, 0, false⟩),
    by decide +kernel, by decide +kernel, by decide +kernel⟩

/-- An entry for symbol 16,499,999 of carrier A, of SFN 7. -/
def symbolEntry : Entry :=
  { Entry.base .scheduledWrite 7 with symbols := true, offset := 16499999, carrier := some .a }

theorem witness_OffsetsBecomeTicks_ticks :
    ∃ (s : State) (e : Entry) (c : Carrier) (n : Nat), e.symbols = true ∧ e.carrier = some c ∧ s.symbolsPerSf c = n :=
  ⟨ready, symbolEntry, .a, 33000000, rfl, rfl, by decide +kernel⟩

theorem witness_OffsetsBecomeTicks_instants :
    ∃ (s : State) (x y : Entry), x.offset ≠ y.offset ∧ x.count = y.count ∧ x.sfn = y.sfn ∧ s.tickOf x = s.tickOf y :=
  ⟨ready, symbolEntry, { symbolEntry with offset := 16499998 }, by decide +kernel, rfl, rfl, by decide +kernel⟩

theorem witness_CountersHaveTwoObjects_ends :
    (∃ n : Fin 2048, n.val = 255) ∧ ∃ n : Fin 2048, n.val = 1792 :=
  ⟨⟨255, rfl⟩, ⟨1792, rfl⟩⟩

theorem witness_SpareToTrim_some_ :
    ∃ (v : Conv) (i : Nat), v.pickSpare = some i :=
  ⟨ready.cv .a 0, 64, by decide +kernel⟩

theorem witness_SpareToTrim_none_ : ∃ v : Conv, v.pickSpare = none :=
  ⟨{ ready.cv .a 0 with slices := [] }, rfl⟩

theorem witness_MisstrappedFramesAreIgnored_ignored :
    ∃ (f : GroupFrame) (i : Instr) (s : State), f.crcOk = true ∧ f.source.toNat / 32 ≠ s.address / 32 ∧
      i ∈ [.beacon f, .memberStatus f, .orders f, .join 5 f, .leave f] :=
  ⟨heardFrame [], .leave (heardFrame []), ready, rfl, by decide +kernel, by decide +kernel⟩

theorem witness_MisstrappedFramesAreIgnored_counted : ∃ s : State, s.u Obj.groupMisstrapCount + 1 < 2 ^ 32 :=
  ⟨ready, by decide +kernel⟩

theorem witness_DescribesAnswerEightOctets_answered :
    ∃ (w : Requester) (o : BitVec 16) (m : BitVec 8) (r : DictRow) (s : State), s.badSession w = false ∧
      dictRow o.toNat = some r ∧ (s.recovering = false ∨ servedInRecovery o.toNat = true) ∧ r.memLo ≤ m.toNat ∧
      m.toNat ≤ r.memHi :=
  ⟨{ host with session := 0 }, 0xF710, 255, (dictRow 0xF710).getD ⟨0, 0, 0, 0, 0, .u8, .ro, 0, 0, [], 0, 0, false⟩, ready,
    by decide +kernel, by decide +kernel, .inl (by decide +kernel), by decide +kernel, by decide +kernel⟩

theorem witness_RestartsBegin_powerOn :
    ∃ (s : State), s.pow.on = false ∧ s.pow.latched = false ∧ s.pow.aonOn = false :=
  ⟨{ State.reset with pow := { Power.start with on := false, aonOn := false } },
    by refine ⟨?_, ?_, ?_⟩ <;> decide +kernel⟩

theorem witness_RestartsBegin_powerOnAon :
    ∃ (s : State), s.pow.on = false ∧ s.pow.latched = false ∧ s.pow.aonOn = true :=
  ⟨{ State.reset with pow := { Power.start with on := false } }, by refine ⟨?_, ?_, ?_⟩ <;> decide +kernel⟩

theorem witness_RestartsBegin_resetn :
    ∃ (ns : Nat) (s : State), 1000 ≤ ns ∧ s.pow.on = true :=
  ⟨1000, ready, by refine ⟨?_, ?_⟩ <;> decide +kernel⟩

theorem witness_RestartsBegin_resetnShort :
    ∃ (ns : Nat) (s : State), ns < 1000 :=
  ⟨999, ready, by decide +kernel⟩

theorem witness_RestartsBegin_brownOut :
    ∃ (k : Fin 4) (s : State), s.pow.on = true ∧ (k.val < 2 → s.pow.keepAlive = true) ∧ s.u Obj.brownOutCount <
      4294967295 :=
  ⟨1, { ready with pow := { ready.pow with keepAlive := true } }, by refine ⟨?_, ?_, ?_⟩ <;> decide +kernel⟩

theorem witness_SupplyLeavesAndReturns_vinAbove60 :
    ∃ (mv : Nat) (s : State), s.pow.on = true ∧ s.pow.vinState = 0 :=
  ⟨60001, ready, by refine ⟨?_, ?_⟩ <;> decide +kernel⟩

theorem witness_SupplyLeavesAndReturns_vinBelow6 :
    ∃ (mv : Nat) (s : State), s.pow.on = true ∧ s.pow.vinState = 0 :=
  ⟨5999, ready, by refine ⟨?_, ?_⟩ <;> decide +kernel⟩

theorem witness_SupplyLeavesAndReturns_vinBack :
    ∃ (extreme : Nat) (s : State), (s.pow.vinState = 1 ∨ s.pow.vinState = 2) :=
  ⟨5900, { ready with pow := { ready.pow with vinState := 1 } }, by decide +kernel⟩

theorem witness_SupplyLeavesAndReturns_latchOffRestart :
    ∃ (s : State), s.pow.latched = true :=
  ⟨{ ready with pow := { ready.pow with latched := true } }, by decide +kernel⟩

theorem witness_BootAndCalibrate_resetRelease :
    ∃ (x : BootIn) (s : State), s.pow.on = true ∧ s.pow.pgood = true ∧ s.pow.keepAlive = false ∧ s.u Obj.bootState =
      0 :=
  ⟨{ straps := 0, bootsel := false, kat := none, identity := true, bad := [], factoryBad := 0, mountMs := 1 },
    State.reset, by refine ⟨?_, ?_, ?_, ?_⟩ <;> decide +kernel⟩

theorem witness_BootAndCalibrate_cpRelease :
    ∃ (ms : Nat) (s : State), s.pow.on = true ∧ s.u Obj.bootState = 1 :=
  ⟨5, State.reset.put Obj.bootState 0 1, by refine ⟨?_, ?_⟩ <;> decide +kernel⟩

theorem witness_BootAndCalibrate_privCalPassed :
    ∃ (step : Fin 3) (part : Fin 7) (lasers : List (Fin 4)) (s : State), (step.val, part.val) ∈ s.cal.runs :=
  ⟨2, 0, [], { ready with cal := { Cal.start with runs := [(2, 0), (2, 1)] } }, by decide +kernel⟩

theorem witness_BootAndCalibrate_privCalFailed :
    ∃ (step : Fin 3) (part : Fin 7) (lasers : List (Fin 4)) (s : State), (step.val, part.val) ∈ s.cal.runs ∧
      (step.val, part.val) ∉ s.cal.failed :=
  ⟨0, 0, [], { ready with cal := { Cal.start with runs := [(0, 0)] } }, by refine ⟨?_, ?_⟩ <;> decide +kernel⟩

theorem witness_BootAndCalibrate_thermalTrip :
    ∃ (peak : Int) (s : State), s.pow.on = true ∧ s.pow.keepAlive = false :=
  ⟨11000, ready, by refine ⟨?_, ?_⟩ <;> decide +kernel⟩

theorem witness_BootAndCalibrate_keepAliveExit :
    ∃ (source : Fin 4) (us : BitVec 48) (bad : List (Fin 16)) (cool : Bool) (s : State), s.pow.keepAlive = true ∧
      s.wakeSource source us.toNat cool = true :=
  ⟨0, 5, [], true, { ready with pow := { ready.pow with keepAlive := true } },
    by refine ⟨?_, ?_⟩ <;> decide +kernel⟩

theorem witness_BoundariesPass_withheld :
    ∃ (x : SfIn) (s : State), s.pow.on = true ∧ s.pow.keepAlive = false ∧ s.clk.withhold ≠ 0 :=
  ⟨quietSf, { ready with clk := { ready.clk with withhold := 1 } }, by refine ⟨?_, ?_, ?_⟩ <;> decide +kernel⟩

theorem witness_BoundariesPass_localBoundary :
    ∃ (x : SfIn) (s : State), s.pow.on = true ∧ s.pow.keepAlive = false ∧ s.clk.withhold = 0 :=
  ⟨quietSf, ready, by refine ⟨?_, ?_, ?_⟩ <;> decide +kernel⟩

theorem witness_BoundariesPass_received :
    ∃ (c : Carrier) (delay : BitVec 32) (arrive : Int) (x : RxIn) (s : State), s.pow.on = true ∧ s.pow.keepAlive =
      false ∧ s.awake (Dn.rx c) = true :=
  ⟨.a, 0, 0, quietRx, ready, by refine ⟨?_, ?_, ?_⟩ <;> decide +kernel⟩

theorem witness_BoundariesPass_entryRuns :
    ∃ (k : SCount) (tick : Fin 1024) (e : Entry) (s : State) (s1 : State) (u : State), s.pow.on = true ∧
      s.pow.keepAlive = false ∧ s1 = (if k = .loc then { s with clk := { s.clk with tick := max s.clk.tick tick } }
      else s) ∧ (s1.entriesAt k (s1.countNow k)).filter (fun x => s1.tickOf x == tick.val && decide (x.st ≠
      .pendingLate)) = [e] ∧ s.clk.entries.find? (fun x => x.num == e.num) = some e ∧ (e.coord = true → e.st =
      .agreed) ∧ (∀ d ∈ e.needs, s.awake d = true) ∧ (s1.freeEntry e).act e false = some u :=
  ⟨.rx .a, 0, { dueEntry with key := 7 }, withEntries ready [{ dueEntry with key := 7 }], withEntries ready
    [{ dueEntry with key := 7 }], ((withEntries ready []).act { dueEntry with key := 7 } false).getD ready, by
    refine ⟨rfl, rfl, rfl, by decide +kernel, by decide +kernel, by decide +kernel, by decide +kernel, ?_⟩
    exact some_of_isSome (by decide +kernel) _⟩

theorem witness_BoundariesPass_entryUnagreed :
    ∃ (k : SCount) (tick : Fin 1024) (e : Entry) (s : State) (s1 : State), s.pow.on = true ∧ s.pow.keepAlive = false
      ∧ s1 = (if k = .loc then { s with clk := { s.clk with tick := max s.clk.tick tick } } else s) ∧ (s1.entriesAt
      k (s1.countNow k)).filter (fun x => s1.tickOf x == tick.val && decide (x.st ≠ .pendingLate)) = [e] ∧
      s.clk.entries.find? (fun x => x.num == e.num) = some e ∧ e.coord = true ∧ e.st ≠ .agreed :=
  ⟨.rx .a, 0, { dueEntry with coord := true, st := .proposed }, withEntries ready
    [{ dueEntry with coord := true, st := .proposed }], withEntries ready
    [{ dueEntry with coord := true, st := .proposed }], by
    and_intros <;> first | rfl | decide +kernel⟩

theorem witness_BoundariesPass_entryMissed :
    ∃ (k : SCount) (tick : Fin 1024) (e : Entry) (s : State) (s1 : State), s.pow.on = true ∧ s.pow.keepAlive = false
      ∧ s1 = (if k = .loc then { s with clk := { s.clk with tick := max s.clk.tick tick } } else s) ∧ (s1.entriesAt
      k (s1.countNow k)).filter (fun x => s1.tickOf x == tick.val && decide (x.st ≠ .pendingLate)) = [e] ∧
      s.clk.entries.find? (fun x => x.num == e.num) = some e ∧ e.coord = true ∧ e.st = .agreed ∧ (∃ d ∈ e.needs,
      s.awake d = false) :=
  ⟨.rx .a, 0, { dueEntry with coord := true, st := .agreed, kind := .loadingChange }, withEntries (domSt (domSt
    ready (Dn.rx .a) .off) (Dn.tx .a) .off)
    [{ dueEntry with coord := true, st := .agreed, kind := .loadingChange }], withEntries (domSt (domSt ready (Dn.rx
    .a) .off) (Dn.tx .a) .off) [{ dueEntry with coord := true, st := .agreed, kind := .loadingChange }], by
    and_intros <;> first | rfl | decide +kernel⟩

theorem witness_BoundariesPass_entryWaits :
    ∃ (k : SCount) (tick : Fin 1024) (e : Entry) (s : State) (s1 : State), s.pow.on = true ∧ s.pow.keepAlive = false
      ∧ s1 = (if k = .loc then { s with clk := { s.clk with tick := max s.clk.tick tick } } else s) ∧ (s1.entriesAt
      k (s1.countNow k)).filter (fun x => s1.tickOf x == tick.val && decide (x.st ≠ .pendingLate)) = [e] ∧
      s.clk.entries.find? (fun x => x.num == e.num) = some e ∧ e.coord = false ∧ e.kind ≠ .sliceSwap ∧ e.kind ≠
      .calWindow ∧ (∃ d ∈ e.needs, s.awake d = false) :=
  ⟨.rx .a, 0, { dueEntry with kind := .loadingChange }, withEntries (domSt (domSt ready (Dn.rx .a) .off) (Dn.tx .a)
    .off) [{ dueEntry with kind := .loadingChange }], withEntries (domSt (domSt ready (Dn.rx .a) .off) (Dn.tx .a)
    .off) [{ dueEntry with kind := .loadingChange }], by
    and_intros <;> first | rfl | decide +kernel⟩

theorem witness_BoundariesPass_entryRunNone :
    ∃ (k : SCount) (tick : Fin 1024) (s : State), s.pow.on = true ∧ s.pow.keepAlive = false ∧ (∀ e ∈ s.clk.entries,
      e.count = k → s.countNow k = e.sfn → e.st = .pendingLate) :=
  ⟨.loc, 0, ready, by refine ⟨?_, ?_, ?_⟩ <;> decide +kernel⟩

theorem witness_BoundariesPass_preWake :
    ∃ (e : Entry) (d : Nat) (s : State), s.clk.entries = [e] ∧ e.st ≠ .proposed ∧ e.wakes = [d] ∧ s.domOff d = true
      ∧ s.entryInstant e ≤ s.now + s.wakeLatency d * 100000000 :=
  ⟨{ Entry.base .domainWake 10000000001 with key := 7 }, 7, withEntries (domSt (ready.put Obj.wakeLatency 7 1000) 7
    .off) [{ Entry.base .domainWake 10000000001 with key := 7 }], by refine ⟨?_, ?_, ?_, ?_, ?_⟩ <;> decide +kernel⟩

theorem witness_BoundariesPass_preWakeAwake :
    ∃ (e : Entry) (d : Nat) (s : State), s.clk.entries = [e] ∧ e.st ≠ .proposed ∧ e.wakes = [d] ∧ (s.dom d).st =
      .awake ∧ s.entryInstant e ≤ s.now + s.wakeLatency d * 100000000 :=
  ⟨{ Entry.base .domainWake 10000000000 with key := 7 }, 7, withEntries ready
    [{ Entry.base .domainWake 10000000000 with key := 7 }], by refine ⟨?_, ?_, ?_, ?_, ?_⟩ <;> decide +kernel⟩

theorem witness_BoundariesPass_preWakeNone :
    ∃ (s : State), (∀ e ∈ s.clk.entries, ∀ d ∈ e.wakes, s.now + s.wakeLatency d * 100000000 < s.entryInstant e) :=
  ⟨withEntries ready [{ Entry.base .domainWake 10000000001 with key := 7 }], by decide +kernel⟩

theorem witness_BoundariesPass_commitPoint :
    ∃ (e : Entry) (s : State), s.clk.entries.filter (fun x => x.coord && decide (x.st = .proposed) && decide (x.sfn
      ≤ s.clk.sfn + 4)) = [e] :=
  ⟨{ Entry.base .loadingChange 10000000004 with st := .proposed, carrier := some .a }, withEntries ready
    [{ Entry.base .loadingChange 10000000004 with st := .proposed, carrier := some .a }], by decide +kernel⟩

theorem witness_BoundariesPass_commitAgreed :
    ∃ (s : State), (∀ e ∈ s.clk.entries, e.coord = true → e.st = .proposed → s.clk.sfn + 4 < e.sfn) :=
  ⟨withEntries ready
    [{ Entry.base .loadingChange 10000000004 with st := .agreed, coord := true, carrier := some .a }],
    by decide +kernel⟩

theorem witness_BoundariesPass_relockNext :
    ∃ (c : Carrier) (x : Loading) (s : State), s.lock c = 7 ∧ s.u (on c Obj.frameLock) ≠ 1 ∧ (if (s.ld
      c).lastForce.isNone then (s.fr c).unlockedAt else (s.ld c).candFrom) + 2 ≤ s.clk.sfn ∧ (s.candidates c ((s.ld
      c).lastForce.getD (s.loading c .rx)))[(if (s.ld c).lastForce.isNone then 0 else (s.ld c).cand) + 1]? = some x :=
  ⟨.a, (ready.put (on .a Obj.lockState) 0 7).baseLoading .a, ready.put (on .a Obj.lockState) 0 7,
    by refine ⟨?_, ?_, ?_, ?_⟩ <;> decide +kernel⟩

theorem witness_BoundariesPass_loadingReset :
    ∃ (c : Carrier) (n : BitVec 64) (foot : Bool) (s : State) (e : Entry), e = resetEntry c .tx n.toNat (b2n foot) ∧
      (∀ x ∈ s.clk.entries, x.yieldsTo e = false) ∧ s.tableFull e = false ∧ s.fits e = true :=
  ⟨.a, 5, false, ready, resetEntry .a .tx 5 0, by refine ⟨?_, ?_, ?_, ?_⟩ <;> decide +kernel⟩

theorem witness_BoundariesPass_loadingResetFull :
    ∃ (c : Carrier) (n : BitVec 64) (foot : Bool) (s : State) (e : Entry), e = resetEntry c .tx n.toNat (b2n foot) ∧
      (∀ x ∈ s.clk.entries, x.yieldsTo e = false) ∧ s.tableFull e = true ∧ s.u Obj.droppedCount < 4294967295 :=
  ⟨.a, 5, false, withEntries ready (List.replicate 1024 (Entry.base .snapshot 5)), resetEntry .a .tx 5 0,
    by refine ⟨?_, ?_, ?_, ?_⟩ <;> decide +kernel⟩

theorem witness_DomainsSleepAndWake_sleepEntryDone :
    ∃ (d : Fin 25) (s : State), (s.dom d).st = .entering ∧ (s.dom d).wakeNext = false :=
  ⟨24, domSt ready 24 .entering, by refine ⟨?_, ?_⟩ <;> decide +kernel⟩

theorem witness_DomainsSleepAndWake_idleTimerExpire :
    ∃ (d : Fin 25) (s : State), s.awake d = true ∧ neverIdle d = false ∧ s.u Obj.idleTimer d ≠ 0xFFFFFFFF ∧ (s.dom
      d).access + sfOfMs (s.u Obj.idleTimer d) ≤ s.clk.sfn ∧ s.refuser d = 0 :=
  ⟨5, ready, by refine ⟨?_, ?_, ?_, ?_, ?_⟩ <;> decide +kernel⟩

theorem witness_DomainsSleepAndWake_idleRefused :
    ∃ (d : Fin 25) (s : State), s.awake d = true ∧ neverIdle d = false ∧ s.u Obj.idleTimer d ≠ 0xFFFFFFFF ∧ (s.dom
      d).access + sfOfMs (s.u Obj.idleTimer d) ≤ s.clk.sfn ∧ s.refuser d ≠ 0 :=
  ⟨5, ready.put Obj.domainHold 5 1, by refine ⟨?_, ?_, ?_, ?_, ?_⟩ <;> decide +kernel⟩

theorem witness_DomainsSleepAndWake_domainAccess :
    ∃ (d : Fin 25) (s : State), d.val ≠ 0 ∧ (s.dom d).st = .awake :=
  ⟨24, ready, by refine ⟨?_, ?_⟩ <;> decide +kernel⟩

theorem witness_DomainsSleepAndWake_domainHoldWrite :
    ∃ (w : Requester) (d : Fin 25) (v : Int) (n : Int) (s : State) (s' : State), Admitted s s' w 2 Obj.domainHold d
      (.num v) (.num n) :=
  ⟨host, 7, 1, 1, ready, noted ((ready)) (Obj.domainHold) (((7 : Fin 25))) (.num (1)), admitted (by decide +kernel)⟩

theorem witness_DomainsSleepAndWake_wakeComplete :
    ∃ (d : Fin 25) (bad : List (Fin 16)) (s : State), (s.dom d).st = .waking ∧ d.val ∉ [Dn.ctl, Dn.grt, Dn.svc,
      Dn.hla, Dn.hla + 1, Dn.hla + 2, Dn.hla + 3, Dn.dpa, Dn.dpa + 1, Dn.dpa + 2, Dn.dpa + 3, Dn.tx .a, Dn.tx .b,
      Dn.rx .a, Dn.rx .b] ∧ (∀ r ∈ s.retBanksOf d, (s.ret r).state ≠ 1) ∧ (∀ h ∈ s.pow.held, h.dom ≠ d.val) ∧ (∀ x ∈
      s.aop.stalls, x.dom ≠ d.val) :=
  ⟨5, [], domSt ready 5 .waking, by refine ⟨?_, ?_, ?_, ?_, ?_⟩ <;> decide +kernel⟩

theorem witness_DomainsSleepAndWake_wakeStallProgress :
    ∃ (i : Nat) (x : Stall) (s : State), s.aop.stalls[i]? = some x ∧ x.told.getD x.since + progressSf ≤ s.clk.sfn :=
  ⟨0, stalled, { ready with aop := { ready.aop with stalls := [stalled] } }, by refine ⟨?_, ?_⟩ <;> decide +kernel⟩

theorem witness_DomainsSleepAndWake_stallLimit :
    ∃ (i : Nat) (x : Stall) (s : State), s.aop.stalls[i]? = some x ∧ x.since + 600000 ≤ s.clk.sfn :=
  ⟨0, stalled, { ready with aop := { ready.aop with stalls := [stalled] } }, by refine ⟨?_, ?_⟩ <;> decide +kernel⟩

theorem witness_LedgerAndShedding_ledgerGrant :
    ∃ (act : Fin 12) (item : Nat) (cost : Nat) (s : State), act.val ≠ Act.cal ∧ s.judge act item cost = 0 :=
  ⟨0, 0, 1000, ready, by refine ⟨?_, ?_⟩ <;> decide +kernel⟩

theorem witness_LedgerAndShedding_ledgerPrivileged :
    ∃ (act : Fin 12) (item : Nat) (cost : Nat) (s : State), act.val = Act.cal :=
  ⟨11, 0, 5, ready, by decide +kernel⟩

theorem witness_LedgerAndShedding_ledgerRefusal :
    ∃ (act : Fin 12) (item : Nat) (cost : Nat) (s : State), act.val ≠ Act.cal ∧ s.judge act item cost ≠ 0 ∧ s.u
      Obj.refuseCount act < 4294967295 :=
  ⟨0, 0, 1000000000000, ready, by refine ⟨?_, ?_, ?_⟩ <;> decide +kernel⟩

theorem witness_LedgerAndShedding_shed :
    ∃ (s : State), 50 ≤ s.pow.aboveRun ∧ s.pow.shedCheck = true ∧ s.shedExhausted = false :=
  ⟨{ ready with pow := { ready.pow with aboveRun := 50, shedCheck := true } },
    by refine ⟨?_, ?_, ?_⟩ <;> decide +kernel⟩

theorem witness_LedgerAndShedding_shedAfter :
    ∃ (s : State), 50 ≤ s.pow.aboveRun ∧ s.pow.shedCheck = true ∧ s.shedExhausted = false :=
  ⟨{ ready with pow := { ready.pow with aboveRun := 50, shedCheck := true } },
    by refine ⟨?_, ?_, ?_⟩ <;> decide +kernel⟩

theorem witness_LedgerAndShedding_shedUnresolved :
    ∃ (s : State), 50 ≤ s.pow.aboveRun ∧ s.pow.shedCheck = true ∧ s.shedExhausted = true ∧ s.pow.unresolved = false :=
  ⟨{ ready with pow := { ready.pow with aboveRun := 50, shedCheck := true, shedPos := 8 } },
    by refine ⟨?_, ?_, ?_, ?_⟩ <;> decide +kernel⟩

theorem witness_LedgerAndShedding_shedPositionReset :
    ∃ (s : State), 10000 ≤ s.pow.belowRun :=
  ⟨{ ready with pow := { ready.pow with belowRun := 10000 } }, by decide +kernel⟩

theorem witness_LedgerAndShedding_ceilingWrite :
    ∃ (w : Requester) (v : Int) (n : Int) (s : State) (s' : State), Admitted s s' w 2 Obj.ceiling 0 (.num v) (.num
      n) :=
  ⟨host, 600, 600, ready, noted ((ready)) (Obj.ceiling) (0) (.num (600)), admitted (by decide +kernel)⟩

theorem witness_MemoryErrors_sramPoison :
    ∃ (x : SramHit) (scrubber : Bool) (s : State), bankRegion x.bank ≠ 1 ∧ x.uncorrectable = true :=
  ⟨{ bank := 1535, word := 65535, uncorrectable := true, content := .other }, true, ready,
    by refine ⟨?_, ?_⟩ <;> decide +kernel⟩

theorem witness_MemoryErrors_sramCorrect :
    ∃ (x : SramHit) (scrubber : Bool) (s : State), bankRegion x.bank ≠ 1 ∧ x.uncorrectable = false :=
  ⟨{ bank := 1408, word := 0, uncorrectable := false, content := .other }, false, ready,
    by refine ⟨?_, ?_⟩ <;> decide +kernel⟩

theorem witness_MemoryErrors_scrubPass :
    ∃ (ms : Nat) (found : List SramHit) (s : State), s.mem.scrubAt + sfOfMs ms ≤ s.clk.sfn ∧ s.awake Dn.ctl = true :=
  ⟨5, [], ready, by refine ⟨?_, ?_⟩ <;> decide +kernel⟩

theorem witness_MemoryErrors_poisonReload :
    ∃ (addr : Nat) (x : Content) (s : State), s.mem.poison.find? (fun p => p.1 == addr) = some (addr, x) ∧ reloads x
      = true ∧ addr < 1408 * bankSize ∧ s.safeFor x = true :=
  ⟨251658240, .setData, { ready with mem := { ready.mem with poison := [(251658240, .setData)] } },
    by refine ⟨?_, ?_, ?_, ?_⟩ <;> decide +kernel⟩

theorem witness_MemoryErrors_lightParity :
    ∃ (bank : Fin 1536) (offset : Fin 262144) (x : LightContent) (s : State), bankRegion bank = 1 :=
  ⟨0, 262143, .buffer, ready, by decide +kernel⟩

theorem witness_IcehouseRecords_pageProgrammed :
    ∃ (j : IceJob) (l : List IceJob) (s : State), s.mem.queue = j :: l ∧ s.awake Dn.ice = true ∧ j.done <
      j.recd.pages :=
  ⟨job, [], { ready with mem := { ready.mem with queue := [job] } }, by refine ⟨?_, ?_, ?_⟩ <;> decide +kernel⟩

theorem witness_IcehouseRecords_markerProgrammed :
    ∃ (j : IceJob) (l : List IceJob) (s : State), s.mem.queue = j :: l ∧ s.awake Dn.ice = true ∧ j.recd.pages ≤
      j.done ∧ j.copy = true ∧ s.mem.moving = [] ∧ 4 ≤ (s.erasedBlocks (regionBlocks j.recd.region)).length :=
  ⟨{ job with done := 2 }, [], { ready with mem := { ready.mem with queue := [{ job with done := 2 }] } },
    by refine ⟨?_, ?_, ?_, ?_, ?_, ?_⟩ <;> decide +kernel⟩

theorem witness_IcehouseRecords_recordWrite :
    ∃ (typ : Fin 8) (region : Fin 6) (subject : Nat) (payload : List Byte) (s : State), typ.val ≠ 0 ∧ region.val ≠ 0
      ∧ ¬(region.val = 1 ∧ 12 ≤ subject) :=
  ⟨7, 5, 0, [], ready, by refine ⟨?_, ?_, ?_⟩ <;> decide +kernel⟩

theorem witness_IcehouseRecords_pageRead :
    ∃ (block : Fin 3968) (page : Fin 256) (sectors : List SectorIn) (s : State), s.awake Dn.ice = true ∧ (∀ x ∈
      sectors, x = .erased) :=
  ⟨3967, 255, [.erased], ready, by refine ⟨?_, ?_⟩ <;> decide +kernel⟩

theorem witness_IcehouseRecords_pageReadBad :
    ∃ (block : Fin 3968) (page : Fin 256) (l1 : List SectorIn) (l2 : List SectorIn) (s : State), s.awake Dn.ice =
      true ∧ l1.length + l2.length = 7 ∧ (∀ x ∈ l1, x = .erased) ∧ (∀ x ∈ l2, x = .erased) :=
  ⟨0, 0, List.replicate 7 .erased, [], ready, by refine ⟨?_, ?_, ?_, ?_⟩ <;> decide +kernel⟩

theorem witness_IcehouseRecords_eraseFailed :
    ∃ (b : Nat) (l : List Nat) (s : State), s.mem.erasing = b :: l ∧ s.awake Dn.ice = true :=
  ⟨9, [], { ready with mem := { ready.mem with erasing := [9] } }, by refine ⟨?_, ?_⟩ <;> decide +kernel⟩

theorem witness_IcehouseRecords_pageReadGood :
    ∃ (block : Fin 3968) (page : Fin 256) (n : Nat) (s : State), s.awake Dn.ice = true ∧ n ≤ regionT (regionOf
      block) :=
  ⟨5, 0, 1, ready, by refine ⟨?_, ?_⟩ <;> decide +kernel⟩

theorem witness_IcehouseRecords_erased :
    ∃ (b : Nat) (l : List Nat) (s : State), s.mem.erasing = b :: l ∧ s.awake Dn.ice = true ∧ 4 ≤ (s.erasedBlocks
      (regionBlocks (regionOf b))).length :=
  ⟨3967, [], { ready with mem := { ready.mem with erasing := [3967] } }, by refine ⟨?_, ?_, ?_⟩ <;> decide +kernel⟩

theorem witness_IcehouseRecords_refresh :
    ∃ (shown : List (Nat × Nat)) (s : State), s.mem.refreshAt ≤ s.clk.sfn ∧ s.awake Dn.ice = true ∧ (∀ x ∈
      s.mem.recs, weakRec shown x = false) :=
  ⟨[], ready, by refine ⟨?_, ?_, ?_⟩ <;> decide +kernel⟩

theorem witness_IcehouseRecords_refreshMoves :
    ∃ (shown : List (Nat × Nat)) (s : State) (z : State) (s1 : State) (u : State) (x : IceRec) (y : IceRec),
      s.mem.refreshAt ≤ s.clk.sfn ∧ s.awake Dn.ice = true ∧ z = s.touch Dn.ice ∧ s1 =
      { z with mem := { z.mem with refreshAt := z.clk.sfn + z.u Obj.refreshPeriod * daySf } } ∧ s1.mem.recs.filter
      (fun r => s1.liveRec r && weakRec shown r) = [x] ∧ s1.newRecord x.typ x.region x.subject x.payload = some (y,
      u) :=
  ⟨[(0, 100)], weakly, weakly.touch Dn.ice, moving, (moving.newRecord 7 5 0 []).elim moving (·.2), weakOne,
    (moving.newRecord 7 5 0 []).elim weakOne (·.1), by
    refine ⟨by decide +kernel, by decide +kernel, rfl, rfl, by decide +kernel, ?_⟩
    generalize h : moving.newRecord 7 5 0 [] = o
    have h1 : o.isSome = true := by rw [← h]; decide +kernel
    cases o with
    | none => cases h1
    | some p => exact h⟩

theorem witness_IcehouseRecords_blockRestore :
    ∃ (w : Requester) (v : Int) (n : Int) (s : State) (s' : State), Admitted s s' w 2 Obj.blockRestore 0 (.num v)
      (.num n) ∧ (s'.block n.toNat).state = 1 :=
  ⟨host, 3967, 3967, { ready with mem := { ready.mem with blocks := [{ ready.block 3967 with state := 1 }] } },
    noted (({ ready with mem := { ready.mem with blocks := [{ ready.block 3967 with state := 1 }] } }))
    (Obj.blockRestore) (0) (.num (3967)), admitted (by decide +kernel), by decide +kernel⟩

theorem witness_FootpathSends_ledgerRetry :
    ∃ (c : Carrier) (d : Fin 2) (t0 : Nat) (s : State), nth (s.ft c).refused d none = some t0 ∧ t0 + 100 ≤ s.clk.sfn
      ∧ s.footWanted c d = true ∧ s.footOn c d = false ∧ s.judge Act.foot (footItem c d) (footCost d) ≠ 0 ∧ d.val <
      (s.ft c).refused.length :=
  ⟨.a, 1, 0,
    { ready with pow := { ready.pow with vinState := 1 }, foot := ready.foot.upd .a (fun f => { f with refused := [none, some 0] }) },
    by refine ⟨?_, ?_, ?_, ?_, ?_, ?_⟩ <;> decide +kernel⟩

theorem witness_FootpathSends_transmit :
    ∃ (c : Carrier) (p : FootPkt) (s : State), nextPkt (s.ft c).queue = some p ∧ (s.ft c).txOn = true ∧ (s.ft
      c).freeAt ≤ s.now ∧ s.calRunning = false ∧ s.u (on c Obj.txPacketCount) < 4294967295 :=
  ⟨.a, { typ := 1, dest := 5, data := [] },
    { ready with foot := ready.foot.upd .a (fun f => { f with txOn := true, queue := [{ typ := 1, dest := 5, data := [] }] }) },
    by refine ⟨?_, ?_, ?_, ?_, ?_⟩ <;> decide +kernel⟩

theorem witness_FootpathSends_hello :
    ∃ (c : Carrier) (s : State), (s.ft c).txOn = true ∧ (s.ft c).helloAt + s.helloSf c ≤ s.clk.sfn :=
  ⟨.a, { ready with foot := ready.foot.upd .a (fun f => { f with txOn := true }) },
    by refine ⟨?_, ?_⟩ <;> decide +kernel⟩

theorem witness_FootpathSends_send :
    ∃ (w : Requester) (c : Carrier) (row : List Byte) (b : List Byte) (s : State) (s' : State), Admitted s s' w 2
      (on c Obj.footpathSend) 0 (.octs row) (.octs b) ∧ ((s'.ft c).queue.filter (fun p => p.typ == 5)).length < 4 :=
  ⟨host, .a, [0, 1, 255, 255, 0, 1, 9], [0, 1, 255, 255, 0, 1, 9], ready, noted ((ready)) (on (.a) Obj.footpathSend)
    (0) (.octs ([0, 1, 255, 255, 0, 1, 9])), admitted (by decide +kernel), by decide +kernel⟩

theorem witness_FootpathReceives_toneHeard :
    ∃ (c : Carrier) (levels : List (List Int)) (k : Nat) (s : State), s.rxState c = 1 ∧ s.toneFound c levels = some
      k :=
  ⟨.a, [List.replicate 64 1000], 0, ready.put (on .a Obj.footpathRxState) 0 1,
    by refine ⟨?_, ?_⟩ <;> decide +kernel⟩

theorem witness_FootpathReceives_syncMatch :
    ∃ (c : Carrier) (window : BitVec 32) (level : Int) (s : State), s.syncMatches c window = true ∧ s.rxState c = 2 :=
  ⟨.a, BitVec.ofNat 32 footSync, 5, ready.put (on .a Obj.footpathRxState) 0 2,
    by refine ⟨?_, ?_⟩ <;> decide +kernel⟩

theorem witness_FootpathReceives_syncFalse :
    ∃ (c : Carrier) (window : BitVec 32) (level : Int) (s : State), s.syncMatches c window = true ∧ s.rxState c = 3 :=
  ⟨.a, BitVec.ofNat 32 footSync, 5, ready.put (on .a Obj.footpathRxState) 0 3,
    by refine ⟨?_, ?_⟩ <;> decide +kernel⟩

theorem witness_FootpathReceives_falseDetection :
    ∃ (c : Carrier) (s : State), s.rxState c = 2 ∧ (s.ft c).since + 96 * 80000000 ≤ s.now ∧ s.u (on c
      Obj.falseDetectCount) < 4294967295 :=
  ⟨.a, ready.put (on .a Obj.footpathRxState) 0 2, by refine ⟨?_, ?_, ?_⟩ <;> decide +kernel⟩

theorem witness_FootpathReceives_headerGood :
    ∃ (c : Carrier) (octets : List Byte) (s : State), s.rxState c = 3 ∧ octets.length = 10 ∧ headerCheck octets =
      ofBe (slice octets 9 1) ∧ ofBe (slice octets 2 2) ≤ 256 :=
  ⟨.a, [0, 0, 1, 0, 0, 0, 0, 0, 0, BitVec.ofNat 8 (headerCheck [0, 0, 1, 0, 0, 0, 0, 0, 0, 0])], ready.put (on .a
    Obj.footpathRxState) 0 3, by refine ⟨?_, ?_, ?_, ?_⟩ <;> decide +kernel⟩

theorem witness_FootpathReceives_headerBad :
    ∃ (c : Carrier) (octets : List Byte) (s : State), s.rxState c = 3 ∧ ¬(octets.length = 10 ∧ headerCheck octets =
      ofBe (slice octets 9 1) ∧ ofBe (slice octets 2 2) ≤ 256) ∧ s.u (on c Obj.headerFailCount) < 4294967295 :=
  ⟨.a, [0], ready.put (on .a Obj.footpathRxState) 0 3, by refine ⟨?_, ?_, ?_⟩ <;> decide +kernel⟩

theorem witness_FootpathReceives_watchHit :
    ∃ (c : Carrier) (tone : Fin 64) (rise : List Int) (window : BitVec 32) (level : Int) (s : State), 2 ≤ s.rxState
      c ∧ s.syncMatches c window = true ∧ (∀ l ∈ rise, (s.ft c).level + 60 ≤ l) :=
  ⟨.a, 0, [60], BitVec.ofNat 32 footSync, 60, ready.put (on .a Obj.footpathRxState) 0 4,
    by refine ⟨?_, ?_, ?_⟩ <;> decide +kernel⟩

theorem witness_FootpathReceives_floorWindow :
    ∃ (c : Carrier) (levels : List Int) (k : Fin 64) (s : State), s.rxState c = 1 ∧ levels.length = 64 :=
  ⟨.a, List.replicate 64 (-500), 63, ready.put (on .a Obj.footpathRxState) 0 1,
    by refine ⟨?_, ?_⟩ <;> decide +kernel⟩

theorem witness_FootpathReceives_neighbourLost :
    ∃ (c : Carrier) (a : Nat) (s : State), (s.ft c).neighbour = some a ∧ (s.ft c).found + 3 * s.helloSf c ≤
      s.clk.sfn :=
  ⟨.a, 77, { ready with foot := ready.foot.upd .a (fun f => { f with neighbour := some 77 }) },
    by refine ⟨?_, ?_⟩ <;> decide +kernel⟩

theorem witness_FootpathReceives_packetEnd :
    ∃ (c : Carrier) (payload : List Byte) (check : BitVec 32) (level : Int) (snr : Int) (s : State), s.rxState c = 4
      ∧ payload.length = ofBe (slice (s.ft c).header 2 2) ∧ crc32 ((s.ft c).header ++ payload) = check.toNat :=
  ⟨.a, [9], BitVec.ofNat 32 (crc32 [0, 0, 0, 1, 9]), 5, 5,
    { ready.put (on .a Obj.footpathRxState) 0 4 with foot := ready.foot.upd .a (fun f => { f with header := [0, 0, 0, 1] }) },
    by refine ⟨?_, ?_, ?_⟩ <;> decide +kernel⟩

theorem witness_FootpathReceives_packetBad :
    ∃ (c : Carrier) (payload : List Byte) (check : BitVec 32) (level : Int) (snr : Int) (s : State), s.rxState c = 4
      ∧ (payload.length ≠ ofBe (slice (s.ft c).header 2 2) ∨ crc32 ((s.ft c).header ++ payload) ≠ check.toNat) ∧ s.u
      (on c Obj.crcFailCount) < 4294967295 :=
  ⟨.a, [9, 9], 0, 5, 5,
    { ready.put (on .a Obj.footpathRxState) 0 4 with foot := ready.foot.upd .a (fun f => { f with header := [0, 0, 0, 1] }) },
    by refine ⟨?_, ?_, ?_⟩ <;> decide +kernel⟩

theorem witness_CoresArrive_invalid :
    ∃ (c : Carrier) (s : State), s.awake Dn.frm = true ∧ s.u (on c Obj.frameLock) ≠ 0 ∧ (s.fr c).invalidRun < 7 ∧
      s.u (on c Obj.coreInvalidCount) < 4294967295 :=
  ⟨.a, linked, by refine ⟨?_, ?_, ?_, ?_⟩ <;> decide +kernel⟩

theorem witness_CoresArrive_invalidEighth :
    ∃ (c : Carrier) (s : State), s.awake Dn.frm = true ∧ s.u (on c Obj.frameLock) ≠ 0 ∧ 7 ≤ (s.fr c).invalidRun :=
  ⟨.a, { linked with frame := linked.frame.upd .a (fun f => { f with invalidRun := 7 }) },
    by refine ⟨?_, ?_, ?_⟩ <;> decide +kernel⟩

theorem witness_CoresArrive_received :
    ∃ (c : Carrier) (s : State), s.awake Dn.frm = true ∧ Core.valid (s.heldCore c false) = true ∧ s.u (on c
      Obj.frameLock) = 0 ∧ s.lock c ≠ 7 :=
  ⟨.a, holding goodCore 0, by
    exact ⟨by decide +kernel, holding_valid 0, by decide +kernel, by decide +kernel⟩⟩

theorem witness_CoresArrive_receivedNext :
    ∃ (c : Carrier) (s : State), s.awake Dn.frm = true ∧ Core.valid (s.heldCore c false) = true ∧ s.u (on c
      Obj.frameLock) ≠ 0 ∧ Core.sfn (s.heldCore c false) = s.u (on c Obj.rxSfn) :=
  ⟨.a, holding goodCore 1, by
    exact ⟨by decide +kernel, holding_valid 1, by decide +kernel, (holding_sfn 1).trans (by decide +kernel)⟩⟩

theorem witness_CoresArrive_receivedInvalid :
    ∃ (c : Carrier) (s : State), s.awake Dn.frm = true ∧ Core.valid (s.heldCore c false) = false ∧ Core.valid
      (s.heldCore c true) = false :=
  ⟨.a, linked, by
    exact ⟨by decide +kernel, empty_core _ _ _ rfl, empty_core _ _ _ rfl⟩⟩

theorem witness_PoolWorks_codewordSlot :
    ∃ (c : Carrier) (g : GroupIn) (b : Nat) (i : Nat) (l : List Int) (s : State), g.llrs = [l] ∧ 0 < groupSize
      (s.codewords c (s.codesOf c (s.frameLoading c g.frame g.trial))) g.group ∧ s.nextSlot = some (b, i) ∧
      s.pool.lastOut.get c < s.now + s.u Obj.residencyBudget * (microsecond / 10) :=
  ⟨.a, { frame := 5, group := 2, llrs := [[1]], trial := false }, 1, 4096, [1], ready,
    by refine ⟨?_, ?_, ?_, ?_⟩ <;> decide +kernel⟩

theorem witness_PoolWorks_newWord :
    ∃ (c : Carrier) (g : GroupIn) (j : Nat) (l : List Int) (s : State), s.lock c ≠ 8 :=
  ⟨.a, { frame := 5, group := 2, llrs := [[1]], trial := false }, 0, [1], ready, by decide +kernel⟩

theorem witness_PoolWorks_codewordOverflow :
    ∃ (c : Carrier) (g : GroupIn) (l : List Int) (s : State), g.llrs = [l] ∧ 0 < groupSize (s.codewords c (s.codesOf
      c (s.frameLoading c g.frame g.trial))) g.group ∧ s.nextSlot = none ∧ s.pool.lastOut.get c < s.now + s.u
      Obj.residencyBudget * (microsecond / 10) :=
  ⟨.a, { frame := 5, group := 0, llrs := [[0]], trial := false }, [0], ((((ready.put Obj.bankState 0 4).put
    (Obj.bankState + 256) 0 4).put (Obj.bankState + 512) 0 4).put (Obj.bankState + 768) 0 4),
    by refine ⟨?_, ?_, ?_, ?_⟩ <;> decide +kernel⟩

theorem witness_PoolWorks_iterationRuns :
    ∃ (slot : Nat) (x : Codeword) (s : State), s.pool.words.find? (fun x => decide (x.slot = some slot) &&
      x.running) = some x ∧ s.now + microsecond / 4 < x.release :=
  ⟨0, codeword, { ready with pool := { ready.pool with words := [codeword] } },
    by refine ⟨?_, ?_⟩ <;> decide +kernel⟩

theorem witness_PoolWorks_iterationLate :
    ∃ (slot : Nat) (x : Codeword) (s : State), s.pool.words.find? (fun x => decide (x.slot = some slot) &&
      x.running) = some x ∧ x.release ≤ s.now + microsecond / 4 :=
  ⟨0, { codeword with release := 0 },
    { ready with pool := { ready.pool with words := [{ codeword with release := 0 }] } },
    by refine ⟨?_, ?_⟩ <;> decide +kernel⟩

theorem witness_PoolWorks_codewordLeaves :
    ∃ (c : Carrier) (frame : Nat) (number : Nat) (trial : Bool) (x : Codeword) (s : State), s.pool.words.find? (fun
      x => decide (x.carrier = c) && x.frame == frame && x.number == number && x.trial == trial && decide (x.release
      < s.now + 9765625)) = some x :=
  ⟨.a, 5, 9, false, { codeword with release := 0 },
    { ready with pool := { ready.pool with words := [{ codeword with release := 0 }] } }, by decide +kernel⟩

theorem witness_PoolWorks_bankDrainedOut :
    ∃ (b : Fin 4) (s : State), s.bankSt b = 3 ∧ s.inBank b = [] ∧ nth s.pool.drains b .none = .out :=
  ⟨3,
    { ready.put (Obj.bankState + 768) 0 3 with pool := { ready.pool with drains := [.none, .none, .none, .out] } },
    by refine ⟨?_, ?_, ?_⟩ <;> decide +kernel⟩

theorem witness_PoolWorks_bankDrainedReload :
    ∃ (b : Fin 4) (s : State), s.bankSt b = 3 ∧ s.inBank b = [] ∧ nth s.pool.drains b .none ≠ .out ∧ nth
      s.pool.drains b .none ≠ .none ∧ s.pool.masterBad = false :=
  ⟨0, { ready.put Obj.bankState 0 3 with pool := { ready.pool with drains := [.poison 5, .none, .none, .out] } },
    by refine ⟨?_, ?_, ?_, ?_, ?_⟩ <;> decide +kernel⟩

theorem witness_PoolWorks_microcodeLoaded :
    ∃ (b : Fin 4) (s : State), s.bankSt b = 5 ∧ s.pool.masterBad = false :=
  ⟨0, ready.put Obj.bankState 0 5, by refine ⟨?_, ?_⟩ <;> decide +kernel⟩

theorem witness_PoolWorks_bankReturned :
    ∃ (b : Nat) (s : State), 10 ≤ s.pool.failRun ∧ allBanks.find? (fun b => !s.inService b && s.bankSt b != 5 &&
      s.bankSt b != 3) = some b ∧ s.domOff (Dn.dpa + b) = false :=
  ⟨2, { ready.put (Obj.bankService + 512) 0 0 with pool := { ready.pool with failRun := 10 } },
    by refine ⟨?_, ?_, ?_⟩ <;> decide +kernel⟩

theorem witness_PoolWorks_bankWakeRetry :
    ∃ (b : Fin 4) (t0 : Nat) (s : State), s.pool.wakeRetry.find? (fun x => x.1 == b.val) = some (b.val, t0) ∧ t0 ≤
      s.clk.sfn ∧ s.domOff (Dn.dpa + b) = false :=
  ⟨2, 0, { ready with pool := { ready.pool with wakeRetry := [(2, 0)] } },
    by refine ⟨?_, ?_, ?_⟩ <;> decide +kernel⟩

theorem witness_PoolWorks_grantEffective :
    ∃ (g : Nat) (t0 : Nat) (s : State), s.pool.pendGrant = some (g, t0) ∧ t0 ≤ s.clk.sfn :=
  ⟨5, 10000000000, { ready with pool := { ready.pool with pendGrant := some (5, 10000000000) } },
    by refine ⟨?_, ?_⟩ <;> decide +kernel⟩

theorem witness_PoolWorks_grantRefusedAgain :
    ∃ (t0 : Nat) (s : State), s.pool.grantRetry = some t0 ∧ t0 ≤ s.clk.sfn ∧ s.pool.grant < s.pool.request ∧ s.judge
      Act.iter 0 (s.pool.request - s.pool.grant) ≠ 0 :=
  ⟨0,
    { ready with pool := { ready.pool with grantRetry := some 0, request := 5 }, pow := { ready.pow with vinState := 1 } },
    by refine ⟨?_, ?_, ?_, ?_⟩ <;> decide +kernel⟩

theorem witness_PoolWorks_grantNothingLacks :
    ∃ (t0 : Nat) (s : State), s.pool.grantRetry = some t0 ∧ t0 ≤ s.clk.sfn ∧ s.pool.request ≤ s.pool.grant :=
  ⟨0, { ready with pool := { ready.pool with grantRetry := some 0 } }, by refine ⟨?_, ?_, ?_⟩ <;> decide +kernel⟩

theorem witness_LoadingAndCalibrationWrites_ceilingKept :
    ∃ (w : Requester) (c : Carrier) (k : Fin 16) (v : Nat) (n : Nat) (s : State) (s' : State), Admitted s s' w 2 (on
      c Obj.loadingCeiling) k (.num v) (.num n) ∧ s'.u (on c Obj.loadingFloor) k ≤ n ∧ ¬(s'.u (on c Obj.loadingMode)
      = 0 ∧ k.val < s'.subN c ∧ n < codeOf (s'.u (on c Obj.rxLoadingWord) k)) :=
  ⟨host, .a, 15, 192, 192, ready, noted ((ready)) (on (.a) Obj.loadingCeiling) (((15 : Fin 16))) (.num (192)),
    admitted (by decide +kernel), by refine ⟨?_, ?_⟩ <;> decide +kernel⟩

theorem witness_LoadingAndCalibrationWrites_loadingRequested :
    ∃ (w : Requester) (c : Carrier) (row : List Byte) (b : List Byte) (s : State) (s' : State), Admitted s s' w 2
      (on c Obj.loadingRequest) 0 (.octs row) (.octs b) ∧ (s.loadingRequestEffect w c b).1.code = 0 ∧
      (s'.loadingRequestEffect w c b).1 = { wait := true } :=
  ⟨host, .a, loadRow, loadRow, linked, noted ((linked)) (on (.a) Obj.loadingRequest) (0) (.octs (loadRow)), admitted
    (by decide +kernel), by refine ⟨?_, ?_⟩ <;> decide +kernel⟩

theorem witness_LoadingAndCalibrationWrites_policyRate :
    ∃ (w : Requester) (c : Carrier) (v : Nat) (n : Nat) (s : State) (s' : State), Admitted s s' w 2 (on c
      Obj.policyCodeRate) 0 (.num v) (.num n) :=
  ⟨host, .a, 2, 2, ready, noted ((ready)) (on (.a) Obj.policyCodeRate) (0) (.num (2)), admitted (by decide +kernel)⟩

theorem witness_LoadingAndCalibrationWrites_capEnds :
    ∃ (c : Carrier) (ks : List Nat) (t0 : Nat) (s : State), (s.ld c).caps = some (ks, t0) ∧ t0 ≤ s.clk.sfn :=
  ⟨.a, [3], 0, { ready with load := ready.load.upd .a (fun l => { l with caps := some ([3], 0) }) },
    by refine ⟨?_, ?_⟩ <;> decide +kernel⟩

theorem witness_LoadingAndCalibrationWrites_calReload :
    ∃ (w : Requester) (c : Carrier) (v : Int) (v' : Val) (s : State) (s' : State), Admitted s s' w 2 (on c
      Obj.calReload) 0 (.num v) v' :=
  ⟨host, .a, 1, .num 1, ready, noted ((ready)) (on (.a) Obj.calReload) (0) ((.num 1)), admitted (by decide +kernel)⟩

theorem witness_LoadingAndCalibrationWrites_learnedClear :
    ∃ (w : Requester) (v : Int) (v' : Val) (s : State) (s' : State), Admitted s s' w 2 Obj.calLearnedClear 0 (.num
      v) v' :=
  ⟨host, 1, .num 1, ready, noted ((ready)) (Obj.calLearnedClear) (0) ((.num 1)), admitted (by decide +kernel)⟩

theorem witness_LoadingAndCalibrationWrites_calSave :
    ∃ (w : Requester) (v : Int) (v' : Val) (s : State) (s' : State), Admitted s s' w 2 Obj.calSave 0 (.num v) v' :=
  ⟨host, 1, .num 1, ready, noted ((ready)) (Obj.calSave) (0) ((.num 1)), admitted (by decide +kernel)⟩

theorem witness_LoadingAndCalibrationWrites_calSaveInterval :
    ∃ (s : State), s.cal.savedAt + s.u Obj.calSaveInterval * sfPerSecond ≤ s.clk.sfn :=
  ⟨ready, by decide +kernel⟩

theorem witness_LoadingAndCalibrationWrites_calSaveRetry :
    ∃ (t0 : Nat) (s : State), s.cal.retryAt = some t0 ∧ t0 ≤ s.clk.sfn :=
  ⟨0, { ready with cal := { Cal.start with retryAt := some 0 } }, by refine ⟨?_, ?_⟩ <;> decide +kernel⟩

theorem witness_LanesServe_laneRate :
    ∃ (w : Requester) (l : Fin 32) (v : Nat) (n : Nat) (s : State) (s' : State), Admitted s s' w 2 (Obj.laneRate +
      256 * (l.val / 8)) (l.val % 8) (.num v) (.num n) ∧ s'.clientOn l = none ∧ (laneCost n ≤ s'.holds Act.lane l ∨
      s'.judge Act.lane l (laneCost n - s'.holds Act.lane l) = 0) :=
  ⟨host, 31, 1, 1, ready, noted ((ready)) (Obj.laneRate + 256 * (((31 : Fin 32)).val / 8)) (((31 : Fin 32)).val % 8)
    (.num (1)), admitted (by decide +kernel), by refine ⟨?_, ?_⟩ <;> decide +kernel⟩

theorem witness_LanesServe_clientLanes :
    ∃ (w : Requester) (y : Fin 64) (v : Nat) (n : Nat) (s : State) (s' : State), Admitted s s' w 2 Obj.clientLanes y
      (.num v) (.num n) :=
  ⟨host, 63, 0, 0, ready, noted ((ready)) (Obj.clientLanes) (((63 : Fin 64))) (.num (0)), admitted
    (by decide +kernel)⟩

theorem witness_LanesServe_laneState :
    ∃ (l : Fin 32) (v : Fin 7) (s : State), s.lane Obj.laneState l ≠ 0 ∧ s.lane Obj.laneState l ≠ 5 ∧ s.lane
      Obj.laneState l ≠ v ∧ v ≠ 0 ∧ v ≠ 5 ∧ (v = 4 → (s.clientOn l).isSome = true) ∧ (v = 6 → s.clientOn l = none) :=
  ⟨9, 2, ready.put (Obj.laneState + 256) 1 1, by refine ⟨?_, ?_, ?_, ?_, ?_, ?_, ?_⟩ <;> decide +kernel⟩

theorem witness_LanesServe_ingressFault :
    ∃ (x : Fin 64) (cause : Fin 5) (l : Fin 32) (s : State), s.clientRate x ≠ 0 ∧ s.consistent x = true ∧ l.val ∈
      s.runLanes x ∧ s.lane Obj.laneState l ≠ 4 ∧ (∀ f ∈ s.lanes.faults, f.1 ≠ x.val) :=
  ⟨0, 4, 0, served, by refine ⟨?_, ?_, ?_, ?_, ?_⟩ <;> decide +kernel⟩

theorem witness_LanesServe_lrefLost :
    ∃ (q : Fin 4) (s : State), nth s.lanes.lref q false = false ∧ s.u (Obj.quadRefState + 256 * q) = 1 :=
  ⟨3, ready.put (Obj.quadRefState + 768) 0 1, by refine ⟨?_, ?_⟩ <;> decide +kernel⟩

theorem witness_LanesServe_lrefRestored :
    ∃ (q : Fin 4) (s : State), nth s.lanes.lref q false = true ∧ s.u (Obj.quadRefState + 256 * q) = 2 :=
  ⟨3,
    { ready.put (Obj.quadRefState + 768) 0 2 with lanes := { Lanes.start with lref := [false, false, false, true] } },
    by refine ⟨?_, ?_⟩ <;> decide +kernel⟩

theorem witness_LanesServe_berRaised :
    ∃ (l : Fin 32) (t0 : Nat) (s : State), l.val < s.lanes.lanes.length ∧ (s.laneSt l).alarm = false ∧ (s.laneSt
      l).overAt = some t0 ∧ t0 + 100000 ≤ s.clk.sfn :=
  ⟨0, 9999900000,
    { ready with lanes := { Lanes.start with lanes := { LaneSt.init with overAt := some 9999900000 } :: List.replicate 31 LaneSt.init } },
    by refine ⟨?_, ?_, ?_, ?_⟩ <;> decide +kernel⟩

theorem witness_LanesServe_berCleared :
    ∃ (l : Fin 32) (t0 : Nat) (s : State), l.val < s.lanes.lanes.length ∧ (s.laneSt l).alarm = true ∧ (s.laneSt
      l).underAt = some t0 ∧ t0 + 100000 ≤ s.clk.sfn :=
  ⟨0, 9999900000,
    { ready with lanes := { Lanes.start with lanes := { LaneSt.init with underAt := some 9999900000, alarm := true } :: List.replicate 31 LaneSt.init } },
    by refine ⟨?_, ?_, ?_, ?_⟩ <;> decide +kernel⟩

theorem witness_LanesServe_hostBlock :
    ∃ (x : Fin 64) (b : BlockIn) (s : State), b.egress = false ∧ s.clientRate x ≠ 0 ∧ b.blocks ≤ 4 * rateBlocks
      (s.clientRate x) s.clk.sfn + b.idles ∧ s.u Obj.clientDeleteCount x + (b.blocks - 4 * rateBlocks (s.clientRate
      x) s.clk.sfn) < 2 ^ 64 ∧ s.u Obj.clientInsertCount x + (4 * rateBlocks (s.clientRate x) s.clk.sfn - b.blocks)
      < 2 ^ 64 :=
  ⟨0, { egress := false, blocks := 5, wanted := 0, idles := 5, ppm := 30000, badRs := 0 }, served,
    by refine ⟨?_, ?_, ?_, ?_, ?_⟩ <;> decide +kernel⟩

theorem witness_LanesServe_hostBlockDropped :
    ∃ (x : Fin 64) (b : BlockIn) (s : State), b.egress = true ∧ b.wanted + b.idles < b.blocks ∧ s.u
      Obj.rateMatchDrops x < 4294967295 :=
  ⟨0, { egress := true, blocks := 6, wanted := 2, idles := 3, ppm := 0, badRs := 0 }, ready,
    by refine ⟨?_, ?_, ?_⟩ <;> decide +kernel⟩

theorem witness_LanesServe_laneTest :
    ∃ (w : Requester) (l : Fin 32) (v : Nat) (n : Nat) (s : State) (s' : State), Admitted s s' w 2 (Obj.laneTest +
      256 * (l.val / 8)) (l.val % 8) (.num v) (.num n) :=
  ⟨host, 8, 1, 1, ready, noted ((ready)) (Obj.laneTest + 256 * (((8 : Fin 32)).val / 8)) (((8 : Fin 32)).val % 8)
    (.num (1)), admitted (by decide +kernel)⟩

theorem witness_LanesServe_checkerLost :
    ∃ (l : Fin 32) (errors : Nat) (s : State), l.val < s.lanes.lanes.length ∧ s.checking l = true ∧ (s.laneSt
      l).sync = true ∧ 100 < errors :=
  ⟨0, 101,
    { (ready.put Obj.laneTest 0 2).put Obj.laneState 0 5 with lanes := { Lanes.start with lanes := { LaneSt.init with sync := true } :: List.replicate 31 LaneSt.init } },
    by refine ⟨?_, ?_, ?_, ?_⟩ <;> decide +kernel⟩

theorem witness_LanesServe_checkerGains :
    ∃ (l : Fin 32) (s : State), l.val < s.lanes.lanes.length ∧ s.checking l = true :=
  ⟨0, (ready.put Obj.laneTest 0 2).put Obj.laneState 0 5, by refine ⟨?_, ?_⟩ <;> decide +kernel⟩

theorem witness_ReceiverLocks_lossOfInput :
    ∃ (c : Carrier) (k : Fin 4) (rms : Nat) (s : State), 10 ≤ (s.cv c k).lossRun ∧ (s.cv c k).loss = false :=
  ⟨.a, 3, 1000,
    { ready with conv := ready.conv.upd .a (fun v => { v with convs := v.convs.map (fun x => { x with lossRun := 10 }) }) },
    by refine ⟨?_, ?_⟩ <;> decide +kernel⟩

theorem witness_ReceiverLocks_loFrequency :
    ∃ (w : Requester) (c : Carrier) (f : Nat) (n : Nat) (s : State) (s' : State), Admitted s s' w 2 (on c
      Obj.loFrequency) 0 (.num f) (.num n) :=
  ⟨host, .a, 193100000, 193100000, ready, noted ((ready)) (on (.a) Obj.loFrequency) (0) (.num (193100000)), admitted
    (by decide +kernel)⟩

theorem witness_ReceiverLocks_stepThree :
    ∃ (c : Carrier) (r : AcqResult) (s : State), s.lock c = 3 ∧ (s.rxs c).waitUntil = none ∧ s.clk.sfn ≤ (s.rxs
      c).stepStart + 10 ∧ r.offset.natAbs ≤ 3600000 ∧ (s.searchWindow c).1 ≤ (s.searchWindow c).2 :=
  ⟨.a, { offset := 3600000, coarse := [], fine := [], windows := [] }, receiver 3 (fun x =>
    { x with stepStart := 10000000000 }), by refine ⟨?_, ?_, ?_, ?_, ?_⟩ <;> decide +kernel⟩

theorem witness_ReceiverLocks_stepFour :
    ∃ (c : Carrier) (r : AcqResult) (s : State), s.lock c = 4 ∧ (s.rxs c).waitUntil = none ∧ s.clk.sfn ≤ (s.rxs
      c).stepStart + 140 ∧ (s.searchWindow c).1 < s.searchResult c r ∧ s.searchResult c r < (s.searchWindow c).2 :=
  ⟨.a, { offset := 0, coarse := [0, 1], fine := [0, 1], windows := [] }, receiver 4 (fun x =>
    { x with stepStart := 10000000000, window := (-1000, 1000) }),
    by refine ⟨?_, ?_, ?_, ?_, ?_⟩ <;> decide +kernel⟩

theorem witness_ReceiverLocks_stepFive :
    ∃ (c : Carrier) (r : AcqResult) (s : State), s.lock c = 5 ∧ (s.rxs c).waitUntil = none ∧ s.clk.sfn ≤ (s.rxs
      c).stepStart + 200 :=
  ⟨.a, { offset := 0, coarse := [], fine := [], windows := [] }, receiver 5 (fun x =>
    { x with stepStart := 10000000000 }), by refine ⟨?_, ?_, ?_⟩ <;> decide +kernel⟩

theorem witness_ReceiverLocks_stepSix :
    ∃ (c : Carrier) (r : AcqResult) (w : PilotWin) (s : State), s.lock c = 6 ∧ (s.rxs c).waitUntil = none ∧
      s.stepLate c = false ∧ r.windows = [w] ∧ w.pattern = true ∧ (s.u (on c Obj.sfThreshold) : Int) * 100 + 1000 ≤
      w.snr ∧ s.muteSeen c w = false ∧ 1 ≤ (s.rxs c).pilots :=
  ⟨.a,
    { offset := 0, coarse := [], fine := [], windows := [{ snr := 100000, data := 5, pilots := 5, pattern := true }] },
    { snr := 100000, data := 5, pilots := 5, pattern := true }, receiver 6 (fun x =>
    { x with stepStart := 10000000000, pilots := 1 }),
    by refine ⟨?_, ?_, ?_, ?_, ?_, ?_, ?_, ?_⟩ <;> decide +kernel⟩

theorem witness_ReceiverLocks_pilotsFound :
    ∃ (c : Carrier) (w : PilotWin) (s : State), s.lock c = 6 ∧ s.stepLate c = false ∧ w.pattern = true ∧ (s.u (on c
      Obj.sfThreshold) : Int) * 100 + 1000 ≤ w.snr ∧ s.muteSeen c w = false ∧ 1 ≤ (s.rxs c).pilots :=
  ⟨.a, { snr := 100000, data := 5, pilots := 5, pattern := true }, receiver 6 (fun x =>
    { x with stepStart := 10000000000, pilots := 1 }), by refine ⟨?_, ?_, ?_, ?_, ?_, ?_⟩ <;> decide +kernel⟩

theorem witness_ReceiverLocks_stepFailedWarm :
    ∃ (c : Carrier) (reason : Fin 5) (s : State), s.lock c = 6 ∧ (s.rxs c).waitUntil = none ∧ (s.rxs c).kind =
      .warmPilots :=
  ⟨.a, 2,
    { ready.put (on .a Obj.lockState) 0 6 with eq := ready.eq.upd .a (fun x => { x with kind := .warmPilots }) },
    by refine ⟨?_, ?_, ?_⟩ <;> decide +kernel⟩

theorem witness_ReceiverLocks_stepFailedFourth :
    ∃ (c : Carrier) (reason : Fin 5) (s : State), 3 ≤ s.lock c ∧ s.lock c ≤ 6 ∧ (s.rxs c).waitUntil = none ∧ (s.rxs
      c).kind ≠ .warmPilots ∧ 3 ≤ (s.rxs c).fails :=
  ⟨.a, 0, { ready.put (on .a Obj.lockState) 0 6 with eq := ready.eq.upd .a (fun x => { x with fails := 3 }) },
    by refine ⟨?_, ?_, ?_, ?_, ?_⟩ <;> decide +kernel⟩

theorem witness_ReceiverLocks_waitEnd :
    ∃ (c : Carrier) (t0 : Nat) (s : State), s.lock c = 3 ∧ (s.rxs c).waitUntil = some t0 ∧ t0 ≤ s.clk.sfn :=
  ⟨.a, 10000000000,
    { ready.put (on .a Obj.lockState) 0 3 with eq := ready.eq.upd .a (fun x => { x with waitUntil := some 10000000000 }) },
    by refine ⟨?_, ?_, ?_⟩ <;> decide +kernel⟩

theorem witness_ReceiverLocks_ledgerRetryAcq :
    ∃ (c : Carrier) (s : State), s.lock c = 2 ∧ (s.rxs c).retryAt ≤ s.clk.sfn :=
  ⟨.a, ready.put (on .a Obj.lockState) 0 2, by refine ⟨?_, ?_⟩ <;> decide +kernel⟩

theorem witness_ReceiverLocks_pilotGood :
    ∃ (c : Carrier) (w : PilotWin) (s : State), s.lock c = 7 ∧ (s.u (on c Obj.sfThreshold) : Int) * 100 ≤ w.snr ∧
      s.muteSeen c w = false :=
  ⟨.a, { snr := 100000, data := 5, pilots := 5, pattern := true }, receiver 7 (fun x => x),
    by refine ⟨?_, ?_, ?_⟩ <;> decide +kernel⟩

theorem witness_ReceiverLocks_pilotBadTwice :
    ∃ (c : Carrier) (w : PilotWin) (s : State), s.lock c = 7 ∧ (w.snr < (s.u (on c Obj.sfThreshold) : Int) * 100 ∨
      s.muteSeen c w = true) ∧ 1 ≤ (s.rxs c).bad :=
  ⟨.a, { snr := 0, data := 0, pilots := 0, pattern := false }, receiver 7 (fun x => { x with bad := 1 }),
    by refine ⟨?_, ?_, ?_⟩ <;> decide +kernel⟩

theorem witness_ReceiverLocks_lossOfLock :
    ∃ (c : Carrier) (s : State), s.lock c = 8 ∧ s.signalFailLong c = true :=
  ⟨.a, receiver 8 (fun x => { x with sfRaised := true }), by refine ⟨?_, ?_⟩ <;> decide +kernel⟩

theorem witness_ReceiverLocks_dispersionRecord :
    ∃ (c : Carrier) (s : State), s.lock c = 7 ∧ (s.rxs c).validity ≠ 1 ∧ (s.rxs c).trackedFrom + (s.rxs c).needed ≤
      s.clk.sfn ∧ s.cdBound c ≤ 200 :=
  ⟨.a, receiver 7 (fun x => { x with cds := [(5, 5), (5, 5)] }), by refine ⟨?_, ?_, ?_, ?_⟩ <;> decide +kernel⟩

theorem witness_SlicesRotate_sliceDue :
    ∃ (c : Carrier) (k : Fin 8) (i : Nat) (temp : Int) (s : State), k.val < (s.conv.get c).convs.length ∧ i < (s.cv
      c k).slices.length ∧ ((s.cv c k).slice i).st = 0 ∧ (s.setCv c k (fun v => { v with temp := temp })).triggered
      c temp ((s.cv c k).slice i) = true :=
  ⟨.a, 7, 33, 2500, sliceIn 7 33 0, by refine ⟨?_, ?_, ?_, ?_⟩ <;> decide +kernel⟩

theorem witness_SlicesRotate_trimRetry :
    ∃ (c : Carrier) (k : Fin 8) (s : State), (s.cv c k).refusedRun = true ∧ (s.cv c k).retryAt ≤ s.clk.sfn ∧ (s.cv c
      k).cycle = .idle ∧ (s.cv c k).urgent = [] ∧ s.rotationEntry c k .calWindow = none ∧ s.mayRotate c k false =
      true ∧ (s.cv c k).pickSpare.isSome = true ∧ (s.pickDue c k).isSome = true ∧ (s.arm
      { Entry.base .calWindow (max (max (s.firstSfn .loc 0) (s.cv c k).retryAt) (s.cv c k).nextWin) with carrier := some c, data := [0, k] }).1.isSome
      = true :=
  ⟨.a, 7, ready.setCv .a 7 (fun v => { v with refusedRun := true }),
    by refine ⟨?_, ?_, ?_, ?_, ?_, ?_, ?_, ?_, ?_⟩ <;> decide +kernel⟩

theorem witness_SlicesRotate_trimBad :
    ∃ (c : Carrier) (k : Fin 8) (fit : TrimFit) (temp : Int) (spare : Nat) (out : Nat) (phase : Nat) (win : Nat) (em
      : Bool) (s : State), (s.cv c k).cycle = .trimming spare out phase win em ∧ termsInRange fit.terms = false :=
  ⟨.a, 7, { goodFit with terms := [] }, 2500, 32, 0, 0, 9999999999, false, cycling 7 (.trimming 32 0 0 9999999999
    false), by refine ⟨?_, ?_⟩ <;> decide +kernel⟩

theorem witness_SlicesRotate_trimGood :
    ∃ (c : Carrier) (k : Fin 8) (fit : TrimFit) (temp : Int) (spare : Nat) (out : Nat) (phase : Nat) (win : Nat) (n
      : Nat) (o : Nat) (p : Nat) (em : Bool) (s : State) (y : State), k.val < (s.conv.get c).convs.length ∧ spare <
      (s.cv c k).slices.length ∧ (s.cv c k).cycle = .trimming spare out phase win em ∧ termsInRange fit.terms = true
      ∧ fit.spur ≤ -48000 ∧ fit.converged = true ∧ y = s.setSlice c k spare (fun x =>
      { x with st := 3, terms := fit.terms, temp := temp, trimSfn := win }) ∧ o = (y.cv c k).urgent.head?.getD out ∧
      p = (y.cv c k).phaseOf o ∧ (y.armSwap c k o spare p).1 = some n :=
  ⟨.a, 7, goodFit, 2500, 32, 0, 0, 9999999999, ((((cycling 7 (.trimming 32 0 0 9999999999 false)).setSlice .a 7 32
    (fun x => { x with st := 3, terms := goodFit.terms, temp := 2500, trimSfn := 9999999999 })).armSwap .a 7 0 32
    0).1).getD 0, 0, 0, false, cycling 7 (.trimming 32 0 0 9999999999 false), ((cycling 7 (.trimming 32 0 0
    9999999999 false)).setSlice .a 7 32 (fun x =>
    { x with st := 3, terms := goodFit.terms, temp := 2500, trimSfn := 9999999999 })), by
    exact ⟨by decide +kernel, by decide +kernel, by decide +kernel, by decide +kernel, by decide +kernel,
      by decide +kernel, rfl, by decide +kernel, by decide +kernel, some_getD _ (by decide +kernel)⟩⟩

theorem witness_SlicesRotate_handoverPassed :
    ∃ (c : Carrier) (k : Fin 8) (rms : Nat) (f : Bool) (spare : Nat) (out : Nat) (phase : Nat) (n : Nat) (index :
      Nat) (cnt : SCount) (back : Bool) (i : Bool) (s : State), (s.cv c k).cycle = .handover spare out phase n cnt
      index back i ∧ (i = true ∨ rms ≤ 1000) :=
  ⟨.a, 7, 1000, false, 32, 0, 0, 9999999990, 1, .loc, false, false, cycling 7 (.handover 32 0 0 9999999990 .loc 1
    false false), by refine ⟨?_, ?_⟩ <;> decide +kernel⟩

theorem witness_SlicesRotate_handoverFailed :
    ∃ (c : Carrier) (k : Fin 8) (rms : Nat) (spare : Nat) (out : Nat) (phase : Nat) (n : Nat) (index : Nat) (cnt :
      SCount) (back : Bool) (s : State), k.val < (s.conv.get c).convs.length ∧ (s.cv c k).cycle = .handover spare
      out phase n cnt index back false ∧ 1000 < rms ∧ ((s.cv c k).slice out).st ≠ 6 :=
  ⟨.a, 7, 1001, 32, 0, 0, 9999999990, 1, .loc, false, cycling 7 (.handover 32 0 0 9999999990 .loc 1 false false),
    by refine ⟨?_, ?_, ?_, ?_⟩ <;> decide +kernel⟩

theorem witness_SlicesRotate_handoverIncoming :
    ∃ (c : Carrier) (k : Fin 8) (rms : Nat) (spare : Nat) (out : Nat) (phase : Nat) (n : Nat) (index : Nat) (cnt :
      SCount) (back : Bool) (s : State), (s.cv c k).cycle = .handover spare out phase n cnt index back false ∧ 1000
      < rms :=
  ⟨.a, 7, 1001, 32, 0, 0, 9999999990, 1, .loc, false, cycling 7 (.handover 32 0 0 9999999990 .loc 1 false false),
    by refine ⟨?_, ?_⟩ <;> decide +kernel⟩

theorem witness_SlicesRotate_trimExpired :
    ∃ (c : Carrier) (k : Fin 8) (temp : Int) (spare : Nat) (out : Nat) (phase : Nat) (win : Nat) (em : Bool) (e :
      Entry) (s : State), (s.cv c k).cycle = .armed spare out phase win em false ∧ s.rotationEntry c k .sliceSwap =
      some e ∧ win + 64 < e.sfn :=
  ⟨.a, 7, 2500, 32, 0, 0, 9999999990, false, swapEntry 10000000055, withEntries (cycling 7 (.armed 32 0 0 9999999990
    false false)) [swapEntry 10000000055], by refine ⟨?_, ?_, ?_⟩ <;> decide +kernel⟩

theorem witness_SlicesRotate_trimWarmed :
    ∃ (c : Carrier) (k : Fin 8) (temp : Int) (spare : Nat) (out : Nat) (phase : Nat) (win : Nat) (em : Bool) (e :
      Entry) (s : State), (s.cv c k).cycle = .armed spare out phase win em false ∧ s.rotationEntry c k .sliceSwap =
      some e ∧ e.sfn ≤ win + 64 ∧ 25 < (temp - ((s.cv c k).slice spare).temp).natAbs :=
  ⟨.a, 7, 26, 32, 0, 0, 9999999990, false, swapEntry 10000000054, withEntries (cycling 7 (.armed 32 0 0 9999999990
    false false)) [swapEntry 10000000054], by refine ⟨?_, ?_, ?_, ?_⟩ <;> decide +kernel⟩

theorem witness_SlicesRotate_sliceFailed :
    ∃ (c : Carrier) (k : Fin 8) (i : Nat) (cause : Fin 2) (s : State), (((s.cv c k).slice i).st = 0 ∨ ((s.cv c
      k).slice i).st = 6) ∧ ((s.cv c k).slice i).failed = false ∧ 3 ≤ ((s.cv c k).slice i).badRun ∧ (cause.val = 0 ↔
      k.val < 4) :=
  ⟨.a, 0, 63, 0, ready.setSlice .a 0 63 (fun x => { x with badRun := 3 }),
    by refine ⟨?_, ?_, ?_, ?_⟩ <;> decide +kernel⟩

theorem witness_SlicesRotate_retireNothing :
    ∃ (w : Requester) (c : Carrier) (v : Nat) (n : Nat) (s : State) (s' : State), Admitted s s' w 2 (on c
      Obj.sliceRetire) 0 (.num v) (.num n) ∧ 6 ≤ ((s.cv c (bits n 11 8)).slice (bits n 7 0)).st ∧ ((s.cv c (bits n
      11 8)).slice (bits n 7 0)).st ≤ 7 :=
  ⟨host, .a, 2, 2, sliceIn 0 2 7, noted ((sliceIn 0 2 7)) (on (.a) Obj.sliceRetire) (0) (.num (2)), admitted
    (by decide +kernel), by refine ⟨?_, ?_⟩ <;> decide +kernel⟩

theorem witness_SlicesRotate_retireActive :
    ∃ (w : Requester) (c : Carrier) (v : Nat) (n : Nat) (s : State) (s' : State), Admitted s s' w 2 (on c
      Obj.sliceRetire) 0 (.num v) (.num n) ∧ ((s.cv c (bits n 11 8)).slice (bits n 7 0)).st = 0 ∧ ((s.cv c (bits n
      11 8)).setSlice (bits n 7 0) (fun y => { y with st := 6 })).usable ≠ 0 :=
  ⟨host, .a, 2, 2, ready, noted ((ready)) (on (.a) Obj.sliceRetire) (0) (.num (2)), admitted (by decide +kernel),
    by refine ⟨?_, ?_⟩ <;> decide +kernel⟩

theorem witness_SlicesRotate_retireSpare :
    ∃ (w : Requester) (c : Carrier) (v : Nat) (n : Nat) (s : State) (s' : State), Admitted s s' w 2 (on c
      Obj.sliceRetire) 0 (.num v) (.num n) ∧ ((s.cv c (bits n 11 8)).slice (bits n 7 0)).st = 1 ∧ (s.cv c (bits n 11
      8)).cycle = .idle :=
  ⟨host, .a, 67, 67, ready, noted ((ready)) (on (.a) Obj.sliceRetire) (0) (.num (67)), admitted (by decide +kernel),
    by refine ⟨?_, ?_⟩ <;> decide +kernel⟩

theorem witness_SlicesRotate_restore :
    ∃ (w : Requester) (c : Carrier) (v : Nat) (n : Nat) (s : State) (s' : State), Admitted s s' w 2 (on c
      Obj.sliceRestore) 0 (.num v) (.num n) ∧ (((s.cv c (bits n 11 8)).slice (bits n 7 0)).st = 5 ∨ ((s.cv c (bits n
      11 8)).slice (bits n 7 0)).st = 7) ∧ bits n 11 8 < (s.conv.get c).convs.length ∧ bits n 7 0 < (s.cv c (bits n
      11 8)).slices.length :=
  ⟨host, .a, 67, 67, sliceIn 0 67 7, noted ((sliceIn 0 67 7)) (on (.a) Obj.sliceRestore) (0) (.num (67)), admitted
    (by decide +kernel), by refine ⟨?_, ?_, ?_⟩ <;> decide +kernel⟩

theorem witness_SlicesRotate_sliceOverdue :
    ∃ (c : Carrier) (k : Fin 8) (i : Nat) (s : State), ((s.cv c k).slice i).st = 0 ∧ ((s.cv c k).slice i).due = true
      ∧ ((s.cv c k).slice i).dueSince + 600000 ≤ s.clk.sfn ∧ ((s.cv c k).slice i).overdue + 600000 ≤ s.clk.sfn :=
  ⟨.a, 0, 0, ready, by refine ⟨?_, ?_, ?_, ?_⟩ <;> decide +kernel⟩

theorem witness_SlicesRotate_adcClip :
    ∃ (c : Carrier) (k : Fin 4) (s : State), k.val < (s.conv.get c).convs.length ∧ 10 ≤ (s.cv c k).clipRun ∧ (s.cv c
      k).clipAlarm = false :=
  ⟨.a, 3, ready.setCv .a 3 (fun v => { v with clipRun := 10 }), by refine ⟨?_, ?_, ?_⟩ <;> decide +kernel⟩

theorem witness_SlicesRotate_dacClip :
    ∃ (c : Carrier) (k : Fin 4) (s : State), 4 + k.val < (s.conv.get c).convs.length ∧ 10 ≤ (s.cv c (4 + k)).clipRun
      ∧ (s.cv c (4 + k)).clipAlarm = false :=
  ⟨.a, 3, ready.setCv .a 7 (fun v => { v with clipRun := 10 }), by refine ⟨?_, ?_, ?_⟩ <;> decide +kernel⟩

theorem witness_FramesCarryClients_clientRate :
    ∃ (w : Requester) (y : Fin 64) (v : Nat) (n : Nat) (s : State) (s' : State), Admitted s s' w 2 Obj.clientRate y
      (.num v) (.num n) :=
  ⟨host, 63, 1, 1, ready, noted ((ready)) (Obj.clientRate) (((63 : Fin 64))) (.num (1)), admitted
    (by decide +kernel)⟩

theorem witness_FramesCarryClients_rateMismatch :
    ∃ (c : Carrier) (x : Fin 64) (t0 : Nat) (s : State), assocGet (s.fr c).rateDiff x = some t0 ∧ t0 + 10000 ≤
      s.clk.sfn ∧ x.val ∉ (s.fr c).rateLogged :=
  ⟨.a, 63, 0, { ready with frame := ready.frame.upd .a (fun f => { f with rateDiff := [(63, 0)] }) },
    by refine ⟨?_, ?_, ?_⟩ <;> decide +kernel⟩

theorem witness_FramesCarryClients_blockSound :
    ∃ (c : Carrier) (x : Fin 64) (h : List Nat) (s : State), s.blockSound c x (headOf h) = true ∧ (headOf h).typ ≠ 1
      ∧ ((headOf h).cipher = true → (headOf h).parity = ((s.ctx c .rx x).epoch % 2 == 1)) :=
  ⟨.a, 0, headWords (blockHead false),
    { ready with frame := ready.frame.upd .a (fun f => { f with rxMap := oneClient }) },
    by refine ⟨?_, ?_, ?_⟩ <;> decide +kernel⟩

theorem witness_FramesCarryClients_blockMaintenance :
    ∃ (c : Carrier) (x : Fin 64) (h : List Nat) (s : State), s.blockSound c x (headOf h) = true ∧ (headOf h).typ = 1 :=
  ⟨.a, 0, headWords { blockHead false with typ := 1, count := 0 },
    { ready with frame := ready.frame.upd .a (fun f => { f with rxMap := oneClient }) },
    by refine ⟨?_, ?_⟩ <;> decide +kernel⟩

theorem witness_FramesCarryClients_blockUnsound :
    ∃ (c : Carrier) (x : Fin 64) (h : List Nat) (s : State), s.blockSound c x (headOf h) = false ∧ s.u (on c
      Obj.clientBlockDrops) x < 4294967295 :=
  ⟨.a, 63, headWords (blockHead false), ready, by refine ⟨?_, ?_⟩ <;> decide +kernel⟩

theorem witness_FramesCarryClients_blockDesync :
    ∃ (c : Carrier) (x : Fin 64) (h : List Nat) (s : State), s.blockSound c x (headOf h) = true ∧ (headOf h).typ ≠ 1
      ∧ (headOf h).cipher = true ∧ (headOf h).parity ≠ ((s.ctx c .rx x).epoch % 2 == 1) ∧ s.u (on c Obj.desyncCount)
      x < 4294967295 :=
  ⟨.a, 0, headWords (blockHead true),
    { ready with frame := ready.frame.upd .a (fun f => { f with rxMap := oneClient }), ciph := ready.ciph.upd .a (fun f => { f with rx := List.replicate 65 { Ctx.init with on := true } }) },
    by refine ⟨?_, ?_, ?_, ?_, ?_⟩ <;> decide +kernel⟩

theorem witness_FramesCarryClients_mocResend :
    ∃ (c : Carrier) (u : MocUnit) (l : List MocUnit) (s : State), (s.fr c).mocUnacked = u :: l ∧ u.sent +
      s.mocTimeout c ≤ s.clk.sfn ∧ s.u (on c Obj.mocResendCount) < 4294967295 :=
  ⟨.a, { seq := 0, start := true, data := [], sent := 0 }, [],
    { ready with frame := ready.frame.upd .a (fun f => { f with mocUnacked := [{ seq := 0, start := true, data := [], sent := 0 }] }) },
    by refine ⟨?_, ?_, ?_⟩ <;> decide +kernel⟩

theorem witness_FramesCarryClients_ptpEvent :
    ∃ (x : Fin 64) (p : PtpIn) (typ : Nat) (s : State), ptpType p.frame = some typ ∧ bit (s.fr .a).txMap.carried x =
      true ∧ s.isStandby .a = false ∧ (s.fr .a).ptp.length < 256 :=
  ⟨0, { block := 0, octet := 31, frame := syncFrame, ingress := 5 }, 0,
    { ready with frame := ready.frame.upd .a (fun f => { f with txMap := oneClient }) },
    by refine ⟨?_, ?_, ?_, ?_⟩ <;> decide +kernel⟩

theorem witness_FramesCarryClients_ptpMatched :
    ∃ (c : Carrier) (x : Fin 64) (p : PtpIn) (typ : Nat) (e : PtpEntry) (s : State), ptpType p.frame = some typ ∧
      (s.fr c).rxPtp.find? (fun e => e.client == x.val) = some e ∧ e.block = p.block ∧ e.octet = p.octet.val :=
  ⟨.a, 0, { block := 5, octet := 31, frame := syncFrame, ingress := 9 }, 0,
    { client := 0, block := 5, octet := 31, msgType := 0, ingress := 4 },
    { ready with frame := ready.frame.upd .a (fun f => { f with rxPtp := [{ client := 0, block := 5, octet := 31, msgType := 0, ingress := 4 }] }) },
    by refine ⟨?_, ?_, ?_, ?_⟩ <;> decide +kernel⟩

theorem witness_FramesCarryClients_ptpUnmatched :
    ∃ (c : Carrier) (x : Fin 64) (p : PtpIn) (typ : Nat) (s : State), ptpType p.frame = some typ ∧ (s.fr
      c).rxPtp.find? (fun e => e.client == x.val) = none ∧ s.u (on c Obj.ptpUnmatchedCount) < 4294967295 :=
  ⟨.a, 0, { block := 5, octet := 31, frame := syncFrame, ingress := 9 }, 0, ready,
    by refine ⟨?_, ?_, ?_⟩ <;> decide +kernel⟩

theorem witness_CountersAndEvents_selectWaits :
    ∃ (w : Requester) (n : Fin 2048) (v : Nat) (k : Nat) (s : State) (s' : State), Admitted s s' w 2 (selectObj n).1
      (selectObj n).2 (.num v) (.num k) :=
  ⟨host, 2047, 0xFFFF80000000, 0xFFFF80000000, ready, noted ((ready)) (selectObj ((2047 : Fin 2048))).1 (selectObj
    ((2047 : Fin 2048))).2 (.num (0xFFFF80000000)), admitted (by decide +kernel)⟩

theorem witness_CountersAndEvents_clearWaits :
    ∃ (w : Requester) (v : Int) (k : Nat) (s : State) (s' : State), Admitted s s' w 2 Obj.counterClear 0 (.num v)
      (.num k) :=
  ⟨host, 0xFFFF, 0xFFFF, ready, noted ((ready)) (Obj.counterClear) (0) (.num (0xFFFF)), admitted
    (by decide +kernel)⟩

theorem witness_CountersAndEvents_rangeWaits :
    ∃ (w : Requester) (m : Fin 65) (row : List Byte) (b : List Byte) (s : State) (s' : State), Admitted s s' w 2
      Obj.counterRange m (.octs row) (.octs b) :=
  ⟨host, 64, be 2 1 ++ be 1 3 ++ be 4 5 ++ be 4 5, be 2 1 ++ be 1 3 ++ be 4 5 ++ be 4 5, ready, noted ((ready))
    (Obj.counterRange) (((64 : Fin 65))) (.octs (be 2 1 ++ be 1 3 ++ be 4 5 ++ be 4 5)), admitted
    (by decide +kernel)⟩

theorem witness_CountersAndEvents_snapshotLatch :
    ∃ (x : Snap) (l : List Snap) (s : State), s.diag.latch = x :: l ∧ bit x.flags 1 = false :=
  ⟨snap, [], { ready with diag := { ready.diag with latch := [snap] } }, by refine ⟨?_, ?_⟩ <;> decide +kernel⟩

theorem witness_CountersAndEvents_snapshotCopyRetry :
    ∃ (b : Fin 8) (x : Snap) (t0 : Nat) (s : State), s.diag.snaps.find? (fun x => x.buffer == b.val) = some x ∧
      x.retryAt = some t0 ∧ t0 ≤ s.clk.sfn :=
  ⟨3, snap, 0, { ready with diag := { ready.diag with snaps := [snap] } },
    by refine ⟨?_, ?_, ?_⟩ <;> decide +kernel⟩

theorem witness_CountersAndEvents_logWritten :
    ∃ (r : EventRec) (l : List EventRec) (s : State), s.diag.waiting = r :: l ∧ (256 ≤ s.diag.waiting.length ∨ r.sfn
      + sfPerSecond ≤ s.clk.sfn) ∧ (s.writeRecord 6 5 0 ((s.diag.waiting.take 256).flatMap (·.bytes)) none).1 = 0 :=
  ⟨{ code := 0x1001, carrier := 0, flags := 0, seq := 0, sfn := 9999990000, tick := 0, data := [] }, [],
    { ready with diag := { ready.diag with waiting := [{ code := 0x1001, carrier := 0, flags := 0, seq := 0, sfn := 9999990000, tick := 0, data := [] }] } },
    by refine ⟨?_, ?_, ?_⟩ <;> decide +kernel⟩

theorem witness_CountersAndEvents_logHeld :
    ∃ (r : EventRec) (l : List EventRec) (s : State), s.diag.waiting = r :: l ∧ s.diag.waiting.length < 256 ∧
      s.clk.sfn < r.sfn + sfPerSecond :=
  ⟨{ code := 0x1001, carrier := 0, flags := 0, seq := 0, sfn := 9999990001, tick := 0, data := [] }, [],
    { ready with diag := { ready.diag with waiting := [{ code := 0x1001, carrier := 0, flags := 0, seq := 0, sfn := 9999990001, tick := 0, data := [] }] } },
    by refine ⟨?_, ?_, ?_⟩ <;> decide +kernel⟩

theorem witness_CountersAndEvents_eventFetch :
    ∃ (w : Requester) (v : Int) (q : Nat) (s : State) (s' : State), Admitted s s' w 2 Obj.eventFetch 0 (.num v)
      (.num q) :=
  ⟨host, 5, 5, ready, noted ((ready)) (Obj.eventFetch) (0) (.num (5)), admitted (by decide +kernel)⟩

theorem witness_WritesOfAnyObject_alertAck :
    ∃ (w : Requester) (v : Int) (q : Nat) (r : Nat) (s : State) (s' : State), Admitted s s' w 2 Obj.alertAck 0 (.num
      v) (.num q) ∧ s'.diag.alerting = some r :=
  ⟨host, 5, 5, 5, { ready with diag := { ready.diag with alerting := some 5 } }, noted
    (({ ready with diag := { ready.diag with alerting := some 5 } })) (Obj.alertAck) (0) (.num (5)), admitted
    (by decide +kernel), by decide +kernel⟩

theorem witness_WritesOfAnyObject_alertNone :
    ∃ (w : Requester) (v : Int) (q : Nat) (s : State) (s' : State), Admitted s s' w 2 Obj.alertAck 0 (.num v) (.num
      q) ∧ s'.diag.alerting = none :=
  ⟨host, 5, 5, ready, noted ((ready)) (Obj.alertAck) (0) (.num (5)), admitted (by decide +kernel),
    by decide +kernel⟩

theorem witness_WritesOfAnyObject_aopWriteStores :
    ∃ (w : Requester) (o : BitVec 16) (m : BitVec 8) (v : Int) (n : Int) (row : DictRow) (s : State) (s' : State),
      Admitted s s' w 2 o.toNat m.toNat (.num v) (.num n) ∧ dictRow o.toNat = some row ∧ row.acc = .rw ∧ o.toNat ≠
      Obj.aopPort ∧ (∀ z : State, z = s ∨ z = s' → z.settingEffect o.toNat m.toNat (.num n) = storeEffect o.toNat
      m.toNat (.num n) z) :=
  ⟨host, BitVec.ofNat 16 Obj.spareRevert, 0, 1, 1, (dictRow Obj.spareRevert).get (by decide +kernel), ready, noted
    ((ready)) (((BitVec.ofNat 16 Obj.spareRevert : BitVec 16)).toNat) (((0 : BitVec 8)).toNat) (.num (1)), by
    exact ⟨admitted (by decide +kernel), by decide +kernel, by decide +kernel, by decide +kernel, by
      rintro z (rfl | rfl) <;> rfl⟩⟩

theorem witness_WritesOfAnyObject_aopWriteOwner :
    ∃ (w : Requester) (o : BitVec 16) (m : BitVec 8) (offset : BitVec 32) (v : Val) (v' : Val) (s : State) (s' :
      State) (y : State), Admitted s s' w 2 o.toNat m.toNat v v' ∧ (offset = 0 ∨ longType o.toNat = false) ∧ o.toNat
      ≠ Obj.aopPort ∧ (s.ownerEffect w o.toNat m.toNat Target.next v').1.code = 0 ∧ s'.ownerEffect w o.toNat m.toNat
      Target.next v' = ({}, y) :=
  ⟨host, BitVec.ofNat 16 Obj.alertAck, 0, 0, .num 5, .num 5, ready, noted ((ready)) (((BitVec.ofNat 16 Obj.alertAck
    : BitVec 16)).toNat) (((0 : BitVec 8)).toNat) ((.num 5)), ready, by
    exact ⟨admitted (by decide +kernel), by decide +kernel, by decide +kernel, by decide +kernel, rfl⟩⟩

theorem witness_WritesOfAnyObject_scheduledEntryStands :
    ∃ (w : Requester) (o : BitVec 16) (m : BitVec 8) (tg : Target) (v : Val) (v' : Val) (row : DictRow) (s : State)
      (s' : State), Admitted s s' w 3 o.toNat m.toNat v v' ∧ dictRow o.toNat = some row ∧ row.acc = .rws ∧ o.toNat ≠
      Obj.avenueMode ∧ o.toNat ≠ Obj.contextEnable ∧ o.toNat ≠ Obj.imageActivate ∧ (∀ z : State, z = s ∨ z = s' →
      z.scheduledStatus o.toNat v'.nat = 0 ∧ (z.hostSchedule w tg (scheduledEntry o.toNat m.toNat v')).1.code = 0) :=
  ⟨host, BitVec.ofNat 16 Obj.residencyBudget, 0, Target.next, .num 200, .num 200, (dictRow Obj.residencyBudget).get
    (by decide +kernel), ready, noted ((ready)) (((BitVec.ofNat 16 Obj.residencyBudget : BitVec 16)).toNat) (((0 :
    BitVec 8)).toNat) ((.num 200)), by
    exact ⟨admitted (by decide +kernel), by decide +kernel, by decide +kernel, by decide +kernel, by decide +kernel,
      by decide +kernel, by rintro z (rfl | rfl) <;> decide +kernel⟩⟩

theorem witness_BelvedereRuns_loopStep :
    ∃ (t0 : Nat) (r : Nat) (s : State), s.bel.freqLoop.since = some t0 ∧ loopClass (s.selected 0) ≠ 0 ∧
      s.bel.freqLoop.fin = false ∧ s.bel.freqLoop.mhz ≠ 0 ∧ t0 + ceilDiv 50000000 s.bel.freqLoop.mhz ≤ s.clk.sfn ∧
      ladder.find? (fun r => decide (r < s.bel.freqLoop.mhz)) = some r :=
  ⟨0, 30000,
    { ready.put Obj.freqRefSelected 0 1 with bel := { ready.bel with freqLoop := { mhz := 100000, fin := false, since := some 0 } } },
    by refine ⟨?_, ?_, ?_, ?_, ?_, ?_⟩ <;> decide +kernel⟩

theorem witness_BelvedereRuns_holdOffEnds :
    ∃ (i : Fin 14) (s : State), i.val < s.bel.inputs.length ∧ (s.input i).freq.st = 2 ∧ (s.input i).time.st ≠ 2 ∧
      (s.input i).freq.since + sfOfMs (s.u Obj.holdOff) ≤ s.clk.sfn ∧ s.roleLost (s.input i).causes 0 = false :=
  ⟨13, withInput 13 (fun x => { x with freq := { x.freq with st := 2 } }),
    by refine ⟨?_, ?_, ?_, ?_, ?_⟩ <;> decide +kernel⟩

theorem witness_BelvedereRuns_holdOffFails :
    ∃ (i : Fin 14) (s : State), (s.input i).freq.st = 2 ∧ (s.input i).freq.since + sfOfMs (s.u Obj.holdOff) ≤
      s.clk.sfn ∧ s.roleLost (s.input i).causes 0 = true :=
  ⟨1, withInput 1 (fun x => { x with causes := 2, freq := { x.freq with st := 2 } }),
    by refine ⟨?_, ?_, ?_⟩ <;> decide +kernel⟩

theorem witness_BelvedereRuns_qualified :
    ∃ (i : Fin 14) (s : State), i.val < s.bel.inputs.length ∧ (s.input i).freq.st = 3 ∧ (s.input i).freq.since + (if
      (s.input i).freq.failed = true then s.u Obj.waitToRestore * 10000 else 100000) ≤ s.clk.sfn :=
  ⟨1, withInput 1 (fun x => { x with freq := { x.freq with st := 3 } }), by refine ⟨?_, ?_, ?_⟩ <;> decide +kernel⟩

theorem witness_BelvedereRuns_refTable :
    ∃ (w : Requester) (m : Nat) (v : Nat) (n : Int) (s : State) (s' : State), Admitted s s' w 2 Obj.refTable m (.num
      v) (.num n) :=
  ⟨host, 15, 0x15002, 0x15002, ready, noted ((ready)) (Obj.refTable) ((15)) (.num (0x15002)), admitted
    (by decide +kernel)⟩

theorem witness_BelvedereRuns_forceRef :
    ∃ (w : Requester) (m : Nat) (v : Nat) (n : Nat) (s : State) (s' : State), Admitted s s' w 2 Obj.forceRef m (.num
      v) (.num n) ∧ m < 2 :=
  ⟨host, 1, 13, 13, ready, noted ((ready)) (Obj.forceRef) ((1)) (.num (13)), admitted (by decide +kernel),
    by decide +kernel⟩

theorem witness_BelvedereRuns_ppsEdge :
    ∃ (x : Fin 2) (off : Int) (err : Int) (sec : Nat) (t0 : Nat) (s : State), x.val < s.bel.pps.length ∧ (s.ppsIn
      x).tod = some (sec, t0) ∧ s.selected 0 ≠ 5 + x.val :=
  ⟨1, 5, 200001, 5, 9,
    { ready with bel := { ready.bel with pps := [PpsSt.init, { PpsSt.init with tod := some (5, 9) }] } },
    by refine ⟨?_, ?_, ?_⟩ <;> decide +kernel⟩

theorem witness_BelvedereRuns_todGood :
    ∃ (x : Fin 2) (m : TodIn) (e : Nat) (s : State), x.val < s.bel.pps.length ∧ (s.ppsIn x).edge = some e ∧ e + 1000
      ≤ s.clk.sfn ∧ s.clk.sfn ≤ e + 9000 ∧ todReason m.octets = 0 :=
  ⟨1, { octets := todGood }, 9999999000,
    { ready with bel := { ready.bel with pps := [PpsSt.init, { PpsSt.init with edge := some 9999999000 }] } },
    by refine ⟨?_, ?_, ?_, ?_, ?_⟩ <;> decide +kernel⟩

theorem witness_BelvedereRuns_todBad :
    ∃ (x : Fin 2) (m : TodIn) (s : State), todReason m.octets ≠ 0 :=
  ⟨0, { octets := [] }, ready, by decide +kernel⟩

theorem witness_BelvedereRuns_advertGood :
    ∃ (c : Carrier) (row : List Byte) (s : State), row.length = 23 :=
  ⟨.a, List.replicate 23 0, ready, by decide +kernel⟩

theorem witness_BelvedereRuns_advertBad :
    ∃ (c : Carrier) (status : Nat) (row : List Byte) (s : State), status ≠ 0 :=
  ⟨.a, 0x0801, [], ready, by decide +kernel⟩

theorem witness_CipherWorks_requestPlain :
    ∃ (u : Fin 4) (r : GReq) (s : State), s.grot.queue.find? (fun r => decide (r.unit = some u.val)) = some r ∧
      r.use = .plain :=
  ⟨3, plainReq, { ready with grot := { ready.grot with queue := [plainReq] } },
    by refine ⟨?_, ?_⟩ <;> decide +kernel⟩

theorem witness_CipherWorks_requestDiffers :
    ∃ (u : Fin 4) (r : GReq) (s : State), s.grot.queue.find? (fun r => decide (r.unit = some u.val)) = some r :=
  ⟨3, plainReq, { ready with grot := { ready.grot with queue := [plainReq] } }, by decide +kernel⟩

theorem witness_CipherWorks_rollInterval :
    ∃ (c : Carrier) (k : Fin 65) (s : State), s.u Obj.rollInterval ≤ (s.ctx c .tx k).carried ∧ (s.ctx c .tx k).on =
      true :=
  ⟨.a, 64,
    { ready with ciph := ready.ciph.upd .a (fun f => { f with tx := List.replicate 65 { Ctx.init with on := true, carried := 10 ^ 18 } }) },
    by refine ⟨?_, ?_⟩ <;> decide +kernel⟩

theorem witness_CipherWorks_contextRoll :
    ∃ (w : Requester) (c : Carrier) (k : Nat) (n : Nat) (s : State) (s' : State), Admitted s s' w 2 (on c
      Obj.contextRoll) 0 (.num k) (.num n) :=
  ⟨host, .a, 64, 64, ready, noted ((ready)) (on (.a) Obj.contextRoll) (0) (.num (64)), admitted (by decide +kernel)⟩

theorem witness_CipherWorks_contextEnableUncarried :
    ∃ (w : Requester) (x : Fin 64) (v : Nat) (n : Nat) (tg : Target) (s : State) (s' : State), Admitted s s' w 3
      Obj.contextEnable x (.num v) (.num n) ∧ s.ctxCarriers x = [] :=
  ⟨host, 63, 1, 1, Target.next, ready, noted ((ready)) (Obj.contextEnable) (((63 : Fin 64))) (.num (1)), admitted
    (by decide +kernel), by decide +kernel⟩

theorem witness_CipherWorks_contextEnableProposed :
    ∃ (w : Requester) (x : Fin 64) (v : Nat) (n : Nat) (tg : Target) (s : State) (s' : State), Admitted s s' w 3
      Obj.contextEnable x (.num v) (.num n) ∧ (s.contextEnableEffect w x (n == 1) tg).1.code = 0 ∧
      (s'.contextEnableEffect w x (n == 1) tg).1 = { wait := true } :=
  ⟨host, 0, 0, 0, { relative := true, sfn := 20, symbols := false, offset := 0 },
    { linked with frame := linked.frame.upd .a (fun f => { f with txMap := oneClient }) }, noted
    (({ linked with frame := linked.frame.upd .a (fun f => { f with txMap := oneClient }) })) (Obj.contextEnable)
    (((0 : Fin 64))) (.num (0)), admitted (by decide +kernel), by refine ⟨?_, ?_⟩ <;> decide +kernel⟩

theorem witness_CipherWorks_transmitResume :
    ∃ (c : Carrier) (s : State), (s.ciph.get c).suspended = true ∧ 100 ≤ (s.ciph.get c).clean :=
  ⟨.a, { ready with ciph := ready.ciph.upd .a (fun f => { f with suspended := true, clean := 100 }) },
    by refine ⟨?_, ?_⟩ <;> decide +kernel⟩

theorem witness_CipherWorks_sealPasses :
    ∃ (c : Carrier) (x : SealIn) (h : BlockHead) (s : State), s.sealHead c x.ctx = some h ∧ h.typ ≠ 1 ∧ s.sealPasses
      c x h = true ∧ x.ctx.val < ((s.ciph.get c).rx).length :=
  ⟨.a, openSeal (clearTag (headOctets ((ready.sealHead .a 64).getD (blockHead false))) [1]), (ready.sealHead .a
    64).getD (blockHead false), ready, by refine ⟨?_, ?_, ?_, ?_⟩ <;> decide +kernel⟩

theorem witness_CipherWorks_sealFails :
    ∃ (c : Carrier) (x : SealIn) (h : BlockHead) (s : State), s.sealHead c x.ctx = some h ∧ h.typ ≠ 1 ∧ s.sealPasses
      c x h = false ∧ s.rxStandby c = false ∧ x.ctx.val < ((s.ciph.get c).rx).length :=
  ⟨.a, openSeal [], (ready.sealHead .a 64).getD (blockHead false), ready,
    by refine ⟨?_, ?_, ?_, ?_, ?_⟩ <;> decide +kernel⟩

theorem witness_GrottoTakesRequests_turnedDown :
    ∃ (x : Descriptor) (p : Instr × Nat) (s : State), p ∈ grottoRequests x ∧ (s.accessDom Dn.grt).1 = 0 ∧
      (s.accessDom Dn.grt).2.admission (requestOf p.2 x) ≠ 0 :=
  ⟨digest 1 402653120, (.xtsEncrypt (digest 1 402653120), 1), ready, by refine ⟨?_, ?_, ?_⟩ <;> decide +kernel⟩

theorem witness_GrottoTakesRequests_enters :
    ∃ (x : Descriptor) (p : Instr × Nat) (s : State), p ∈ grottoRequests x ∧ (s.accessDom Dn.grt).1 = 0 ∧
      (s.accessDom Dn.grt).2.admission (requestOf p.2 x) = 0 :=
  ⟨digest 1 402653120, (.shake256 (digest 1 402653120), 6), ready, by refine ⟨?_, ?_, ?_⟩ <;> decide +kernel⟩

theorem witness_GrottoTakesRequests_erased :
    ∃ (k : Fin 256) (t0 : Nat) (s : State), (s.slot k).erase = some t0 ∧ (s.inFlight k = [] ∨ t0 + 200 ≤ s.clk.sfn)
      ∧ k.val < s.grot.slots.length :=
  ⟨255, 0,
    { ready with grot := { ready.grot with slots := List.replicate 256 { GSlot.init with typ := 4, erase := some 0 } } },
    by refine ⟨?_, ?_, ?_⟩ <;> decide +kernel⟩

theorem witness_ServiceConverters_caseAbove95 :
    ∃ (t0 : Nat) (s : State), s.svc.hotFrom = some t0 ∧ t0 + sfPerSecond ≤ s.clk.sfn ∧ s.svc.hot = false :=
  ⟨9999990000, { ready with svc := { ready.svc with hotFrom := some 9999990000 } },
    by refine ⟨?_, ?_, ?_⟩ <;> decide +kernel⟩

theorem witness_ServiceConverters_conversion :
    ∃ (k : Nat) (j : Nat) (samples : List Int) (s : State), s.svc.inj = none ∧ s.svc.entry = some k ∧ k < 64 ∧ k <
      s.svc.regs.length ∧ samples.length = bits (s.entryWord k) 23 16 ∧ s.domOff Dn.svc = false ∧ -32768 ≤ meanCode
      samples ∧ meanCode samples ≤ 32767 ∧ s.nextEntry (k + 1) (48 + s.svc.userLen) = some j :=
  ⟨0, 1, List.replicate 16 (-32768), { ready with svc := { ready.svc with entry := some 0 } },
    by refine ⟨?_, ?_, ?_, ?_, ?_, ?_, ?_, ?_, ?_⟩ <;> decide +kernel⟩

theorem witness_ServiceConverters_comparatorFires :
    ∃ (k : Fin 4) (code : Int) (s : State), bit (s.u Obj.comparator k) 31 = true ∧ s.u Obj.comparatorState k = 1 ∧
      s.awake Dn.svc = true ∧ s.u Obj.comparatorFireCount k < 4294967295 ∧ (if bit (s.u Obj.comparator k) 30 = true
      then decide (ofTwos 16 (bits (s.u Obj.comparator k) 15 0) < code) else decide (code < ofTwos 16 (bits (s.u
      Obj.comparator k) 15 0))) = true :=
  ⟨3, 101, (ready.put Obj.comparator 3 (0xC8000000 + 100)).put Obj.comparatorState 3 1,
    by refine ⟨?_, ?_, ?_, ?_, ?_⟩ <;> decide +kernel⟩

theorem witness_ServiceConverters_comparatorRearms :
    ∃ (k : Fin 4) (code : Int) (s : State), bit (s.u Obj.comparator k) 31 = true ∧ s.u Obj.comparatorState k = 2 ∧
      (if bit (s.u Obj.comparator k) 30 = true then decide (code ≤ ofTwos 16 (bits (s.u Obj.comparator k) 15 0) -
      328) else decide (ofTwos 16 (bits (s.u Obj.comparator k) 15 0) + 328 ≤ code)) = true :=
  ⟨3, -228, (ready.put Obj.comparator 3 (0xC8000000 + 100)).put Obj.comparatorState 3 2,
    by refine ⟨?_, ?_, ?_⟩ <;> decide +kernel⟩

theorem witness_ServiceConverters_comparatorSet :
    ∃ (w : Requester) (k : Nat) (v : Nat) (n : Nat) (s : State) (s' : State), Admitted s s' w 2 Obj.comparator k
      (.num v) (.num n) :=
  ⟨host, 3, 0xC8000064, 0xC8000064, ready, noted ((ready)) (Obj.comparator) ((3)) (.num (0xC8000064)), admitted
    (by decide +kernel)⟩

theorem witness_ServiceConverters_injectNow :
    ∃ (w : Requester) (v : Nat) (v' : Val) (s : State) (s' : State), Admitted s s' w 2 Obj.injectNow 0 (.num v) v' :=
  ⟨host, 1, .num 1, ready, noted ((ready)) (Obj.injectNow) (0) ((.num 1)), admitted (by decide +kernel)⟩

theorem witness_ServiceConverters_injectLength :
    ∃ (w : Requester) (v : Nat) (n : Nat) (s : State) (s' : State), Admitted s s' w 2 Obj.injectLength 0 (.num v)
      (.num n) :=
  ⟨host, 0, 0, ready, noted ((ready)) (Obj.injectLength) (0) (.num (0)), admitted (by decide +kernel)⟩

theorem witness_ServiceConverters_accumClear :
    ∃ (w : Requester) (v : Nat) (v' : Val) (s : State) (s' : State), Admitted s s' w 2 Obj.svcAccumClear 0 (.num v)
      v' :=
  ⟨host, 1, .num 1, ready, noted ((ready)) (Obj.svcAccumClear) (0) ((.num 1)), admitted (by decide +kernel)⟩

theorem witness_ServiceConverters_tfeOutput :
    ∃ (j : Fin 8) (x : TfeIn) (s : State), s.awake Dn.svc = true ∧ x.sample = none ∧ s.tfeOn j = true ∧ decimation
      (s.tfeCode j) ≤ (s.tfe j).fed ∧ j.val < s.svc.tfe.length :=
  ⟨0, { sample := none, value := 5 },
    { ready with svc := { ready.svc with tfe := modNth ready.svc.tfe 0 (fun t => { t with fed := decimation (ready.tfeCode 0) }) } },
    by refine ⟨?_, ?_, ?_, ?_, ?_⟩ <;> decide +kernel⟩

theorem witness_ServiceConverters_tfeAsleep :
    ∃ (j : Fin 8) (x : TfeIn) (s : State), s.awake Dn.svc = false :=
  ⟨7, { sample := none, value := 5 }, domSt ready Dn.svc .off, by decide +kernel⟩

theorem witness_ServiceConverters_tfeStarts :
    ∃ (w : Requester) (j : Nat) (v : Nat) (s : State) (s' : State), Admitted s s' w 2 Obj.tfeRun j (.num v) (.num 1)
      ∧ s.u Obj.tfeRun j ≠ 1 ∧ s.judge Act.tfe j 100000 = 0 :=
  ⟨host, 7, 1, ready, noted ((ready)) (Obj.tfeRun) ((7)) (.num 1), admitted (by decide +kernel),
    by refine ⟨?_, ?_⟩ <;> decide +kernel⟩

theorem witness_ServiceConverters_tfeStops :
    ∃ (w : Requester) (j : Nat) (v : Nat) (n : Nat) (s : State) (s' : State), Admitted s s' w 2 Obj.tfeRun j (.num
      v) (.num n) ∧ n ≠ 1 :=
  ⟨host, 7, 0, 0, ready, noted ((ready)) (Obj.tfeRun) ((7)) (.num (0)), admitted (by decide +kernel),
    by decide +kernel⟩

theorem witness_ServiceConverters_tfeFilter :
    ∃ (w : Requester) (j : Nat) (v : Nat) (n : Nat) (s : State) (s' : State), Admitted s s' w 2 Obj.tfeFilter j
      (.num v) (.num n) ∧ s.u Obj.tfeRun j ≠ 1 :=
  ⟨host, 7, 5, 5, ready, noted ((ready)) (Obj.tfeFilter) ((7)) (.num (5)), admitted (by decide +kernel),
    by decide +kernel⟩

theorem witness_ServiceConverters_tfeCoefficients :
    ∃ (w : Requester) (j : Nat) (v : List Byte) (b : List Byte) (s : State) (s' : State), Admitted s s' w 2
      Obj.tfeCoeff j (.octs v) (.octs b) ∧ s.u Obj.tfeRun j ≠ 1 ∧ coeffShape (s.tfeCode j) b = true ∧ (s.tfeCode j =
      5 → biquadOk b = true) :=
  ⟨host, 7, 0 :: 63 :: List.replicate 126 0, 0 :: 63 :: List.replicate 126 0, ready.put Obj.tfeFilter 7 1, noted
    ((ready.put Obj.tfeFilter 7 1)) (Obj.tfeCoeff) ((7)) (.octs (0 :: 63 :: List.replicate 126 0)), admitted
    (by decide +kernel), by refine ⟨?_, ?_, ?_⟩ <;> decide +kernel⟩

theorem witness_SessionsServe_messageTooShort :
    ∃ (t : Fin 5) (source : BitVec 128) (port : BitVec 16) (b : List Byte) (crc : Bool) (s : State), (s.recovering =
      false ∨ t = 4) ∧ ((t = 4 ∧ crc = false) ∨ b.length < 20) :=
  ⟨4, 0, 0, List.replicate 19 0, true, ready, by refine ⟨?_, ?_⟩ <;> decide +kernel⟩

theorem witness_SessionsServe_messageQueued :
    ∃ (t : Fin 5) (source : BitVec 128) (port : BitVec 16) (b : List Byte) (ops : List AopOp) (s : State),
      (s.recovering = false ∨ t = 4) ∧ 20 ≤ b.length ∧ ofBe (slice b 0 1) = 1 ∧ ofBe (slice b 1 1) = 1 ∧ ofBe (slice
      b 2 2) = b.length ∧ b.length ≤ transportLimit t ∧ (ofBe (slice b 4 2) = 0xFFFF ∨ ofBe (slice b 4 2) = s.u
      Obj.deviceAddress) ∧ ofBe (slice b 6 2) ≤ 64 ∧ ofBe (slice b 8 4) = 0 ∧ parseOps (ofBe (slice b 6 2)) (b.drop
      20) = some ops ∧ ops ≠ [] ∧ s.aop.queue.length < 256 :=
  ⟨0, 5, 9, readMessage, (parseOps 1 (readMessage.drop 20)).get (by decide +kernel), ready,
    by refine ⟨?_, ?_, ?_, ?_, ?_, ?_, ?_, ?_, ?_, ?_, ?_, ?_⟩ <;> decide +kernel⟩

theorem witness_SessionsServe_readAnswers :
    ∃ (w : Requester) (o : BitVec 16) (m : BitVec 8) (off : BitVec 32) (s : State), s.badSession w = false ∧
      s.readStatus w o.toNat m.toNat = 0 ∧ s.aop.queue.find? (fun q => decide (q.asker = w)) = none :=
  ⟨host, BitVec.ofNat 16 Obj.sessionIdle, 0, 0, ready, by refine ⟨?_, ?_, ?_⟩ <;> decide +kernel⟩

theorem witness_SessionsServe_describeAnswers :
    ∃ (w : Requester) (o : BitVec 16) (m : BitVec 8) (r : DictRow) (s : State), s.badSession w = false ∧
      s.recovering = false ∧ dictRow o.toNat = some r ∧ r.memLo ≤ m.toNat ∧ m.toNat ≤ r.memHi ∧ s.aop.queue.find?
      (fun q => decide (q.asker = w)) = none :=
  ⟨host, BitVec.ofNat 16 Obj.tfeCoeff, 7, (dictRow Obj.tfeCoeff).get (by decide +kernel), ready,
    by refine ⟨?_, ?_, ?_, ?_, ?_, ?_⟩ <;> decide +kernel⟩

theorem witness_SessionsServe_sessionOpens :
    ∃ (w : Requester) (role : BitVec 8) (slot : BitVec 8) (nonce : BitVec 256) (s : State), s.aop.sessions.length <
      32 :=
  ⟨host, 3, 0, 5, ready, by decide +kernel⟩

theorem witness_SessionsServe_thirtyThirdSession :
    ∃ (w : Requester) (role : BitVec 8) (slot : BitVec 8) (nonce : BitVec 256) (s : State), 32 ≤
      s.aop.sessions.length :=
  ⟨host, 3, 0, 5, { ready with aop := { ready.aop with sessions := List.replicate 32 session } }, by decide +kernel⟩

theorem witness_SessionsServe_proofGrants :
    (∀ l, Config.verdict Config.falconVerify l = true) → ∃ (w : Requester) (sig : List Byte) (x : Session) (s :
      State), s.badSession w = false ∧ s.session? w = some x ∧ (s.accessDom Dn.grt).1 = 0 ∧ (s.accessDom
      Dn.grt).2.proofStatus x sig = 0 ∧ w.session ≠ 0 :=
  fun hv => ⟨host, [], { session with requested := 2, proved := false, role := 0 }, proving, by
    exact ⟨by decide +kernel, by decide +kernel, by decide +kernel, by simp only [State.proofStatus, hv]; decide +kernel,
      by decide +kernel⟩⟩

theorem witness_SessionsServe_closeEnds :
    ∃ (w : Requester) (s : State), s.badSession w = false ∧ w.session ≠ 0 ∧ s.aop.sessions.any (fun x => x.id ==
      w.session) = true :=
  ⟨host, ready, by refine ⟨?_, ?_, ?_⟩ <;> decide +kernel⟩

theorem witness_SessionsServe_idleEnds :
    ∃ (id : BitVec 32) (x : Session) (s : State), s.aop.sessions.find? (fun x => x.id == id.toNat) = some x ∧ x.last
      + s.u Obj.sessionIdle * sfPerSecond ≤ s.clk.sfn :=
  ⟨7, session, ready, by refine ⟨?_, ?_⟩ <;> decide +kernel⟩

theorem witness_SessionsServe_unprovedDiscarded :
    ∃ (id : BitVec 32) (x : Session) (s : State), s.aop.sessions.find? (fun x => x.id == id.toNat) = some x ∧
      x.proved = false ∧ x.opened + 10 * sfPerSecond ≤ s.clk.sfn :=
  ⟨7, { session with proved := false },
    { ready with aop := { ready.aop with sessions := [{ session with proved := false }] } },
    by refine ⟨?_, ?_, ?_⟩ <;> decide +kernel⟩

theorem witness_SessionsServe_hostCloses :
    ∃ (w : Requester) (v : Int) (n : Nat) (s : State) (s' : State), Admitted s s' w 2 Obj.sessionClose 0 (.num v)
      (.num n) ∧ s.aop.sessions.any (fun x => x.id == n) = true :=
  ⟨host, 7, 7, ready, noted ((ready)) (Obj.sessionClose) (0) (.num (7)), admitted (by decide +kernel),
    by decide +kernel⟩

theorem witness_SessionsServe_portCloses :
    ∃ (w : Requester) (v : Int) (n : Nat) (s : State) (s' : State), Admitted s s' w 2 Obj.aopPort 0 (.num v) (.num
      n) ∧ n ≠ s.u Obj.aopPort :=
  ⟨host, 1024, 1024, ready, noted ((ready)) (Obj.aopPort) (0) (.num (1024)), admitted (by decide +kernel),
    by decide +kernel⟩

theorem witness_SubscriptionsAndSavedImage_subscribes :
    ∃ (w : Requester) (mode : BitVec 8) (o : BitVec 16) (m : BitVec 8) (period : BitVec 32) (s : State),
      s.badSession w = false ∧ s.subscribeStatus w mode.toNat o.toNat m.toNat period.toNat = 0 :=
  ⟨host, 1, BitVec.ofNat 16 Obj.sessionIdle, 0, 10, ready, by refine ⟨?_, ?_⟩ <;> decide +kernel⟩

theorem witness_SubscriptionsAndSavedImage_unsubscribes :
    ∃ (w : Requester) (n : BitVec 8) (s : State), s.badSession w = false ∧ s.aop.subs.any (fun b => b.num == n.toNat
      && b.session == w.session) = true :=
  ⟨host, 5,
    { ready with aop := { ready.aop with subs := [{ num := 5, session := 7, mode := 1, obj := Obj.sessionIdle, mem := 0, period := 10, last := [], sent := 0, seq := 0 }] } },
    by refine ⟨?_, ?_⟩ <;> decide +kernel⟩

theorem witness_SubscriptionsAndSavedImage_cancels :
    ∃ (w : Requester) (v : Int) (n : Nat) (e : Entry) (s : State) (s' : State), Admitted s s' w 2 Obj.cancelEntry 0
      (.num v) (.num n) ∧ s.clk.entries.find? (fun e => e.num == n) = some e ∧ (2 ≤ e.src → 2 ≤ s.roleOf w) ∧
      (s.writeGroup e).any s.committed = false :=
  ⟨host, 1023, 1023, { Entry.base .snapshot 10000000009 with num := 1023 }, withEntries ready
    [{ Entry.base .snapshot 10000000009 with num := 1023 }], noted ((withEntries ready
    [{ Entry.base .snapshot 10000000009 with num := 1023 }])) (Obj.cancelEntry) (0) (.num (1023)), admitted
    (by decide +kernel), by refine ⟨?_, ?_, ?_⟩ <;> decide +kernel⟩

theorem witness_SubscriptionsAndSavedImage_dictSaveWaits :
    ∃ (w : Requester) (v : Int) (v' : Val) (s : State) (s' : State), Admitted s s' w 2 Obj.dictSave 0 (.num v) v' ∧
      s.aop.saving = none ∧ s.aop.factorySave = none :=
  ⟨host, 1, .num 1, ready, noted ((ready)) (Obj.dictSave) (0) ((.num 1)), admitted (by decide +kernel),
    by refine ⟨?_, ?_⟩ <;> decide +kernel⟩

theorem witness_SubscriptionsAndSavedImage_dictRestores :
    ∃ (w : Requester) (v : Int) (v' : Val) (s : State) (s' : State), Admitted s s' w 2 Obj.dictRestore 0 (.num v) v'
      ∧ (s.standing 2 0).isSome = true :=
  ⟨host, 1, .num 1,
    { ready with mem := { ready.mem with recs := [{ job.recd with typ := 2, region := 2, committed := true }] } },
    noted
    (({ ready with mem := { ready.mem with recs := [{ job.recd with typ := 2, region := 2, committed := true }] } }))
    (Obj.dictRestore) (0) ((.num 1)), admitted (by decide +kernel), by decide +kernel⟩

theorem witness_SubscriptionsAndSavedImage_dictFactoryWaits :
    ∃ (w : Requester) (v : Int) (v' : Val) (s : State) (s' : State), Admitted s s' w 2 Obj.dictFactory 0 (.num v) v'
      ∧ s.aop.saving = none ∧ s.aop.factorySave = none ∧ (s.writeRecord 2 2 0 [] (some w)).1 = 0 ∧ (s'.writeRecord 2
      2 0 [] (some w)).1 = 0 :=
  ⟨host, 1, .num 1, ready, noted ((ready)) (Obj.dictFactory) (0) ((.num 1)), admitted (by decide +kernel),
    by refine ⟨?_, ?_, ?_, ?_⟩ <;> decide +kernel⟩

theorem witness_OwnerSlotsAndQuotes_slotWritten :
    ∃ (w : Requester) (row : List Byte) (b : List Byte) (s : State) (s' : State), Admitted s s' w 2 Obj.slotWrite 0
      (.octs row) (.octs b) ∧ (ofBe (slice b 3 1) = 4 ∨ ofBe (slice b 3 1) = 8) ∧ (b.drop 6).length = slotOctets
      (ofBe (slice b 3 1)) ∧ (s.slot (ofBe (slice b 2 1))).shadow = none ∧ ofBe (slice b 2 1) < s.grot.slots.length :=
  ⟨host, be 2 1 ++ be 1 255 ++ be 1 8 ++ be 2 64 ++ List.replicate 64 7, be 2 1 ++ be 1 255 ++ be 1 8 ++ be 2 64 ++
    List.replicate 64 7, ready, noted ((ready)) (Obj.slotWrite) (0) (.octs (be 2 1 ++ be 1 255 ++ be 1 8 ++ be 2 64
    ++ List.replicate 64 7)), admitted (by decide +kernel), by refine ⟨?_, ?_, ?_, ?_⟩ <;> decide +kernel⟩

theorem witness_OwnerSlotsAndQuotes_slotErased :
    ∃ (w : Requester) (v : Nat) (n : Nat) (s : State) (s' : State), Admitted s s' w 2 Obj.slotErase 0 (.num v) (.num
      n) ∧ s.inFlight n = [] ∧ n < s.grot.slots.length :=
  ⟨host, 255, 255, ready, noted ((ready)) (Obj.slotErase) (0) (.num (255)), admitted (by decide +kernel),
    by refine ⟨?_, ?_⟩ <;> decide +kernel⟩

theorem witness_OwnerSlotsAndQuotes_slotEraseWaits :
    ∃ (w : Requester) (v : Nat) (n : Nat) (s : State) (s' : State), Admitted s s' w 2 Obj.slotErase 0 (.num v) (.num
      n) ∧ s.inFlight n ≠ [] ∧ (s.slot n).typ ≠ 0 ∧ n < s.grot.slots.length :=
  ⟨host, 32, 32,
    { ready with grot := { ready.grot with queue := [{ plainReq with typ := 5 }], slots := List.replicate 256 { GSlot.init with typ := 1 } } },
    noted
    (({ ready with grot := { ready.grot with queue := [{ plainReq with typ := 5 }], slots := List.replicate 256 { GSlot.init with typ := 1 } } }))
    (Obj.slotErase) (0) (.num (32)), admitted (by decide +kernel), by refine ⟨?_, ?_, ?_⟩ <;> decide +kernel⟩

theorem witness_OwnerSlotsAndQuotes_quoteAsked :
    (Config.slotAdmits 1 3 = true) → ∃ (w : Requester) (row : List Byte) (b : List Byte) (s : State) (s' : State) (r
      : GReq), Admitted s s' w 2 Obj.quoteRequest 0 (.octs row) (.octs b) ∧ s.grot.identity = true ∧ r =
      { master := 3, typ := 8, slot := 1, gen := 0, outSlot := 0, tag := 0, src := (0, (s.quoteBody (slice b 2 32) (ofBe (slice b 34 2))).length), dst := (0, 1280), par := (0, 0), cls := 2, unit := none, use := .quote (slice b 2 32) (ofBe (slice b 34 2)) }
      ∧ s.admission r = 0 :=
  fun hv => ⟨host, be 2 1 ++ List.replicate 32 0 ++ be 2 1, be 2 1 ++ List.replicate 32 0 ++ be 2 1, quoting, noted
    ((quoting)) (Obj.quoteRequest) (0) (.octs (be 2 1 ++ List.replicate 32 0 ++ be 2 1)),
    { master := 3, typ := 8, slot := 1, gen := 0, outSlot := 0, tag := 0, src := (0, (quoting.quoteBody (slice (be 2 1 ++ List.replicate 32 0 ++ be 2 1) 2 32) (ofBe (slice (be 2 1 ++ List.replicate 32 0 ++ be 2 1) 34 2))).length), dst := (0, 1280), par := (0, 0), cls := 2, unit := none, use := .quote (slice (be 2 1 ++ List.replicate 32 0 ++ be 2 1) 2 32) (ofBe (slice (be 2 1 ++ List.replicate 32 0 ++ be 2 1) 34 2)) },
    by
    exact ⟨admitted (by decide +kernel), by decide +kernel, rfl,
      by simp only [State.admission, hv]; decide +kernel⟩⟩

theorem witness_OwnerSlotsAndQuotes_firstRoot :
    ∃ (c : Carrier) (slot : Nat) (id : Nat) (identity : List Byte) (s : State), (s.rt c).next = some (slot, id,
      identity) ∧ (s.rt c).cur = none ∧ (s.rt c).install ≤ s.clk.sfn :=
  ⟨.a, 8, 5, [], rooted (fun r => { r with next := some rootA }), by refine ⟨?_, ?_, ?_⟩ <;> decide +kernel⟩

theorem witness_OwnerSlotsAndQuotes_migrationBegins :
    ∃ (c : Carrier) (r : Nat × Nat × List Byte) (n : Nat × Nat × List Byte) (s : State), (s.rt c).next = some n ∧
      (s.rt c).cur = some r ∧ (s.rt c).install ≤ s.clk.sfn ∧ s.u (on c Obj.agreementState) ≠ 4 :=
  ⟨.a, rootA, (9, 6, []), rooted (fun r => { r with cur := some rootA, next := some (9, 6, []) }),
    by refine ⟨?_, ?_, ?_, ?_⟩ <;> decide +kernel⟩

theorem witness_OwnerSlotsAndQuotes_migrationDeadline :
    ∃ (c : Carrier) (k : Nat) (slot : Nat) (id : Nat) (identity : List Byte) (r : Nat × Nat × List Byte) (s :
      State), (s.rt c).next = some (slot, id, identity) ∧ (s.rt c).cur = some r ∧ (s.rt c).install + 36000000 ≤
      s.clk.sfn ∧ k ∈ allCtx ∧ (s.ctx c .tx k).on = true ∧ (s.ctx c .tx k).root ≠ id ∧ (∀ j ∈ allCtx, j ≠ k → (s.ctx
      c .tx j).on = false ∨ (s.ctx c .tx j).root = id) :=
  ⟨.a, 64, 9, 6, [], rootA,
    { rooted (fun r => { r with cur := some rootA, next := some (9, 6, []) }) with ciph := ready.ciph.upd .a (fun f => { f with tx := List.replicate 64 Ctx.init ++ [{ Ctx.init with on := true, root := 5 }] }) },
    by refine ⟨?_, ?_, ?_, ?_, ?_, ?_, ?_⟩ <;> decide +kernel⟩

theorem witness_AgreementRuns_offerWait :
    ∃ (c : Carrier) (t0 : Nat) (s : State), (s.rt c).waitFrom = some t0 ∧ t0 + 2 * sfPerSecond ≤ s.clk.sfn ∧ (s.rt
      c).cur = none ∧ CanAgree c s :=
  ⟨.a, 0, rooted (fun r => { r with waitFrom := some 0 }),
    by refine ⟨?_, ?_, ?_, ?_⟩ <;> first | (unfold CanAgree; decide +kernel) | decide +kernel⟩

theorem witness_AgreementRuns_retry :
    ∃ (c : Carrier) (t0 : Nat) (s : State), (s.rt c).retryAt = some t0 ∧ t0 ≤ s.clk.sfn ∧ CanAgree c s :=
  ⟨.a, 0, rooted (fun r => { r with retryAt := some 0 }),
    by refine ⟨?_, ?_, ?_⟩ <;> first | (unfold CanAgree; decide +kernel) | decide +kernel⟩

theorem witness_AgreementRuns_latticeRetry :
    ∃ (c : Carrier) (t0 : Nat) (s : State), (s.rt c).askAt = some t0 ∧ t0 ≤ s.clk.sfn ∧ (s.rt c).initiates = true ∧
      CanAgree c s :=
  ⟨.a, 0, rooted (fun r => { r with askAt := some 0, initiates := true }),
    by refine ⟨?_, ?_, ?_, ?_⟩ <;> first | (unfold CanAgree; decide +kernel) | decide +kernel⟩

theorem witness_AgreementRuns_rootInterval :
    ∃ (c : Carrier) (s : State), (s.rt c).cur.isSome = true ∧ (s.rt c).since + s.u Obj.rootInterval ≤ s.clk.sfn ∧
      s.isLower c = true ∧ CanAgree c s :=
  ⟨.a,
    { rooted (fun r => { r with cur := some rootA }) with frame := linked.frame.upd .a (fun f => { f with core := [(4, 8191 * 2 ^ 19)] }) },
    by refine ⟨?_, ?_, ?_, ?_⟩ <;> first | (unfold CanAgree; decide +kernel) | decide +kernel⟩

theorem witness_AgreementRuns_rekey :
    ∃ (w : Requester) (v : Nat) (n : Nat) (s : State) (s' : State), Admitted s s' w 2 Obj.rekeyRoot 0 (.num v) (.num
      n) ∧ CanAgree (if n = 0 then .a else .b) s' :=
  ⟨host, 0, 0, rooted id, noted ((rooted id)) (Obj.rekeyRoot) (0) (.num (0)), admitted (by decide +kernel),
    by unfold CanAgree; decide +kernel⟩

theorem witness_AgreementRuns_offerAnswered :
    (∀ l, Config.verdict Config.falconVerify l = true) → ∃ (c : Carrier) (session : Nat) (body : List Byte) (s :
      State) (z : State), (s.rt c).part = .none ∧ (s.rt c).next = none ∧ s.checkPeer c body (body.take 4709) = 0 ∧
      s.grot.identity = true ∧ z = s.setRt c (fun r =>
      { r with part := .answered, initiates := false, session := session, offer := body, sentAt := s.clk.sfn, waitFrom := none })
      ∧ (z.askLattice c).1 = true :=
  fun hv => ⟨.a, 5, offerBody, rooted id, (rooted id).setRt .a (fun r =>
    { r with part := .answered, initiates := false, session := 5, offer := offerBody, sentAt := (rooted id).clk.sfn, waitFrom := none }),
    by
    exact ⟨by decide +kernel, by decide +kernel, by simp only [State.checkPeer, hv]; decide +kernel,
      by decide +kernel, rfl, by decide +kernel⟩⟩

theorem witness_AgreementRuns_answerConfirmed :
    (∀ l, Config.verdict Config.falconVerify l = true) → ∃ (c : Carrier) (session : Nat) (body : List Byte) (s :
      State), (s.rt c).part = .offered ∧ (s.rt c).session = session ∧ s.checkPeer c body ((s.rt c).offer ++
      body.take 4709) = 0 :=
  fun hv => ⟨.a, 5, offerBody, rooted (fun r => { r with part := .offered, session := 5 }), by
    exact ⟨by decide +kernel, by decide +kernel, by simp only [State.checkPeer, hv]; decide +kernel⟩⟩

theorem witness_AgreementRuns_confirmIAccepted :
    ∃ (c : Carrier) (session : Nat) (body : List Byte) (s : State), (s.rt c).part = .answered ∧ (s.rt c).session =
      session ∧ body.drop 8 = Config.kmac256 32 ((s.rt c).root.take 32) (transcript (s.rt c).offer (s.rt c).answer)
      (ascii "TH6400 CONF I") ∧ s.leadSfn c ≤ ofBe (body.take 8) :=
  ⟨.a, 5, be 8 10000000008 ++ Config.kmac256 32 [] (transcript [] []) (ascii "TH6400 CONF I"), rooted (fun r =>
    { r with part := .answered, session := 5 }), by
    exact ⟨by decide +kernel, by decide +kernel, rfl, by decide +kernel⟩⟩

theorem witness_AgreementRuns_confirmRAccepted :
    ∃ (c : Carrier) (session : Nat) (tag : List Byte) (s : State), (s.rt c).part = .confirming ∧ (s.rt c).session =
      session ∧ tag = Config.kmac256 32 ((s.rt c).root.take 32) (transcript (s.rt c).offer (s.rt c).answer) (ascii
      "TH6400 CONF R") ∧ s.clk.sfn + 4 < (s.rt c).sfn :=
  ⟨.a, 5, Config.kmac256 32 [] (transcript [] []) (ascii "TH6400 CONF R"), rooted (fun r =>
    { r with part := .confirming, session := 5, sfn := 10000000005 }), by
    exact ⟨by decide +kernel, by decide +kernel, rfl, by decide +kernel⟩⟩

theorem witness_AgreementRuns_abortReceived :
    ∃ (c : Carrier) (session : Nat) (reason : Nat) (s : State), (s.rt c).session = session ∧ (s.rt c).part ≠ .none :=
  ⟨.a, 5, 8, rooted (fun r => { r with part := .offered, session := 5 }), by refine ⟨?_, ?_⟩ <;> decide +kernel⟩

theorem witness_AgreementRuns_timedOut :
    ∃ (c : Carrier) (s : State), (s.rt c).part ≠ .none ∧ (s.rt c).sentAt + 2000 ≤ s.clk.sfn :=
  ⟨.a, rooted (fun r => { r with part := .offered, sentAt := 9999998000 }), by refine ⟨?_, ?_⟩ <;> decide +kernel⟩

theorem witness_ImagesChange_ownerKey :
    (∀ l, Config.verdict Config.falconVerify l = true) → ∃ (w : Requester) (value : List Byte) (b : List Byte) (op :
      Nat) (s : State) (s' : State), Admitted s s' w 2 Obj.ownerKeyEnrol 0 (.octs value) (.octs b) ∧ ofBe (slice b 0
      1) = op ∧ (op = 1 ∨ op = 2 ∨ op = 3) ∧ b.length = nth [0, 1802, 3082, 1289] op 0 ∧ s.clk.sfn ≤ ofBe (slice b 1
      8) + 10000 ∧ ofBe (slice b 1 8) ≤ s.clk.sfn + 10000 ∧ (op ≠ 1 → s.grot.ownerBad = false) ∧ (if op = 1 then
      (s.slot 3).typ = 0 else (s.slot 3).typ ≠ 0 ∧ Config.verdict Config.falconVerify [(s.slot 3).data, b.take
      (b.length - 1280) ++ fit 16 (s.o Obj.deviceSerial), b.drop (b.length - 1280)] = true) ∧ (op ≠ 3 → ∀ sub ∈ [1,
      2, 3, 4, 5, 6], (s.imgSlot (imgIndex sub (s.activeSlot sub))).factory = false ∧ ownerSigned (slice b 9 1793)
      (s.imgSlot (imgIndex sub (s.activeSlot sub))).data = true) ∧ (s.slot 3).shadow = none ∧ 3 <
      s.grot.slots.length :=
  fun hv => ⟨host, enrolment, enrolment, 1,
    { ready with img := { ready.img with slots := List.replicate 12 { ImgSlot.init with data := [0, 0, 0, 0, 0, 1] } } },
    noted
    (({ ready with img := { ready.img with slots := List.replicate 12 { ImgSlot.init with data := [0, 0, 0, 0, 0, 1] } } }))
    (Obj.ownerKeyEnrol) (0) (.octs (enrolment)), by
    exact ⟨admitted (by decide +kernel), by decide +kernel, by decide +kernel, by decide +kernel, by decide +kernel,
      by decide +kernel, by decide +kernel, by decide +kernel, by simp only [ownerSigned, hv]; decide +kernel,
      by decide +kernel⟩⟩

theorem witness_ImagesChange_rollbackFloor :
    ∃ (w : Requester) (sub : Fin 7) (v : Int) (n : Nat) (s : State) (s' : State), Admitted s s' w 2
      Obj.rollbackFloor sub (.num v) (.num n) ∧ n = s.imgVersion (imgIndex sub (s.activeSlot sub)) ∧ nth
      s.grot.floors sub.val 0 < n ∧ sub.val < s.grot.floors.length :=
  ⟨host, 6, 63, 63,
    { ready with img := { ready.img with slots := List.replicate 12 { ImgSlot.init with data := [0, 0, 0, 0, 0, 0, 63] } } },
    noted
    (({ ready with img := { ready.img with slots := List.replicate 12 { ImgSlot.init with data := [0, 0, 0, 0, 0, 0, 63] } } }))
    (Obj.rollbackFloor) (((6 : Fin 7))) (.num (63)), admitted (by decide +kernel),
    by refine ⟨?_, ?_, ?_⟩ <;> decide +kernel⟩

theorem witness_ImagesChange_imageWritten :
    ∃ (w : Requester) (row : List Byte) (b : List Byte) (sub : Nat) (slot : Nat) (off : Nat) (s : State) (s' :
      State), Admitted s s' w 2 Obj.imageWrite 0 (.octs row) (.octs b) ∧ ofBe (slice b 2 1) = sub ∧ ofBe (slice b 3
      1) = slot ∧ ofBe (slice b 4 4) = off ∧ (off = 0 ∨ (s.imgSlot (imgIndex sub slot)).opened.isSome = true ∧ off =
      ((s.imgSlot (imgIndex sub slot)).opened.getD []).length) ∧ off + (b.drop 10).length ≤ imageMax ∧ s.slotActive
      sub slot = false ∧ s.slotPending sub slot = false ∧ s.committing (imgIndex sub slot) = false ∧ imgIndex sub
      slot < s.img.slots.length :=
  ⟨host, be 2 1 ++ be 1 6 ++ be 1 1 ++ be 4 0 ++ be 2 3 ++ [1, 2, 3], be 2 1 ++ be 1 6 ++ be 1 1 ++ be 4 0 ++ be 2 3
    ++ [1, 2, 3], 6, 1, 0, ready, noted ((ready)) (Obj.imageWrite) (0) (.octs (be 2 1 ++ be 1 6 ++ be 1 1 ++ be 4 0
    ++ be 2 3 ++ [1, 2, 3])), admitted (by decide +kernel),
    by refine ⟨?_, ?_, ?_, ?_, ?_, ?_, ?_, ?_, ?_⟩ <;> decide +kernel⟩

theorem witness_ImagesChange_imageCommitted :
    ((∀ l, Config.verdict Config.falconVerify l = true) ∧ Config.shake256 64 [9] = List.replicate 64 7) → ∃ (w :
      Requester) (row : List Byte) (b : List Byte) (data : List Byte) (sub : Nat) (slot : Nat) (s : State) (s' :
      State), Admitted s s' w 2 Obj.imageCommit 0 (.octs row) (.octs b) ∧ ofBe (slice b 2 1) = sub ∧ ofBe (slice b 3
      1) = slot ∧ (s.imgSlot (imgIndex sub slot)).opened = some data ∧ data.length = ofBe (slice b 4 4) ∧
      s.judgeImage sub data = 1 ∧ s.slotActive sub slot = false ∧ s.slotPending sub slot = false ∧ s.committing
      (imgIndex sub slot) = false ∧ (∀ z ∈ [s, s'], ((z.accessDom Dn.grt).2.writeRecord 1 1 (imgIndex sub slot) data
      (some w)).1 = 0) :=
  fun hv => ⟨host, be 2 1 ++ be 1 1 ++ be 1 1 ++ be 4 1409, be 2 1 ++ be 1 1 ++ be 1 1 ++ be 4 1409, imageOctets, 1,
    1,
    { ready with img := { ready.img with slots := List.replicate 12 { ImgSlot.init with opened := some imageOctets } } },
    noted
    (({ ready with img := { ready.img with slots := List.replicate 12 { ImgSlot.init with opened := some imageOctets } } }))
    (Obj.imageCommit) (0) (.octs (be 2 1 ++ be 1 1 ++ be 1 1 ++ be 4 1409)), by
    exact ⟨admitted (by decide +kernel), by decide +kernel, by decide +kernel, by decide +kernel, by decide +kernel,
      by simp only [State.judgeImage, hv.1, imageOctets_payload, hv.2]; decide +kernel, by decide +kernel,
      by decide +kernel, by decide +kernel, by decide +kernel⟩⟩

theorem witness_ImagesChange_activationScheduled :
    ∃ (w : Requester) (sub : Fin 7) (tg : Target) (v : Int) (n : Nat) (c : Option Carrier) (s : State) (s' : State),
      Admitted s s' w 3 Obj.imageActivate sub (.num v) (.num n) ∧ (sub.val ≠ 5 ∧ c = none ∧ s.activeSlot sub ≠ n % 2
      ∨ sub.val = 5 ∧ n / 2 = 1 ∧ c = some .a ∧ s.img.dsp.a ≠ n % 2 ∨ sub.val = 5 ∧ n / 2 = 2 ∧ c = some .b ∧
      s.img.dsp.b ≠ n % 2) ∧ (s.imgSlot (imgIndex sub (n % 2))).opened = none ∧ (s.imgSlot (imgIndex sub (n %
      2))).present = true ∧ s.imageStatus (imgIndex sub (n % 2)) = 1 ∧ (∀ z ∈ [s, s'], ((z.accessDom
      Dn.grt).2.hostSchedule w tg (activationEntry sub (n % 2) c)).1.code = 0) :=
  ⟨host, 6, Target.next, 0, 0, none, { ready with img := { ready.img with active := [0, 0, 0, 0, 0, 0, 1] } }, noted
    (({ ready with img := { ready.img with active := [0, 0, 0, 0, 0, 0, 1] } })) (Obj.imageActivate) (((6 : Fin 7)))
    (.num (0)), admitted (by decide +kernel), by refine ⟨?_, ?_, ?_, ?_, ?_⟩ <;> decide +kernel⟩

theorem witness_ImagesChange_activeAlready :
    ∃ (w : Requester) (sub : Fin 7) (tg : Target) (v : Int) (n : Nat) (s : State) (s' : State), Admitted s s' w 3
      Obj.imageActivate sub (.num v) (.num n) ∧ sub.val ≠ 5 ∧ s.activeSlot sub = n % 2 :=
  ⟨host, 1, Target.next, 0, 0, ready, noted ((ready)) (Obj.imageActivate) (((1 : Fin 7))) (.num (0)), admitted
    (by decide +kernel), by refine ⟨?_, ?_⟩ <;> decide +kernel⟩

theorem witness_ImagesChange_bothCarriers :
    ∃ (w : Requester) (tg : Target) (v : Int) (n : Nat) (s : State) (s' : State), Admitted s s' w 3
      Obj.imageActivate 5 (.num v) (.num n) ∧ n / 2 = 0 ∧ s.u Obj.avenueMode ≠ 2 ∧ s.img.dsp.a ≠ n % 2 ∧ s.img.dsp.b
      ≠ n % 2 ∧ (s.imgSlot (imgIndex 5 (n % 2))).opened = none ∧ (s.imgSlot (imgIndex 5 (n % 2))).present = true ∧
      s.imageStatus (imgIndex 5 (n % 2)) = 1 ∧ (∀ z ∈ [s, s'], ∀ r, r = (z.accessDom Dn.grt).2.hostSchedule w tg
      (activationEntry 5 (n % 2) (some .a)) → r.1.code = 0 ∧ (r.2.secondActivation (ofBe r.1.value) (activationEntry
      5 (n % 2) (some .b))).isSome = true) :=
  ⟨host, Target.next, 0, 0, otherSlot, noted ((otherSlot)) (Obj.imageActivate) (5) (.num (0)), by
    exact ⟨admitted (by decide +kernel), by decide +kernel, by decide +kernel, by decide +kernel, by decide +kernel,
      by decide +kernel, by decide +kernel, by decide +kernel, by
        rintro z hz r hr
        have hz : z = otherSlot ∨ z = noted otherSlot Obj.imageActivate 5 (.num 0) := by simpa using hz
        rcases hz with rfl | rfl
        · exact halves_done (otherSlot.accessDom Dn.grt).2 _ rfl (by decide +kernel) (by decide +kernel)
            (by decide +kernel) (by decide +kernel) (by decide +kernel) (by decide +kernel) (by decide +kernel) r hr
        · exact halves_done ((noted otherSlot Obj.imageActivate 5 (.num 0)).accessDom Dn.grt).2 _ rfl (by decide +kernel)
            (by decide +kernel) (by decide +kernel) (by decide +kernel) (by decide +kernel) (by decide +kernel)
            (by decide +kernel) r hr⟩⟩

theorem witness_ImagesChange_newImageLoaded :
    ∃ (sub : Fin 7) (s : State), s.img.loading.contains sub.val = true :=
  ⟨2, { ready with img := { ready.img with loading := [2] } }, by decide +kernel⟩

theorem witness_ImagesChange_probationPasses :
    ∃ (sub : Fin 7) (c : Option Carrier) (p : Probation) (s : State), s.onProbation sub c = some p ∧ p.until_ ≤
      s.clk.sfn ∧ p.sub < s.img.boot.length :=
  ⟨6, none, { sub := 6, slot := 1, prev := 0, carrier := none, until_ := 10000000000 },
    { ready with img := { ready.img with probation := [{ sub := 6, slot := 1, prev := 0, carrier := none, until_ := 10000000000 }] } },
    by refine ⟨?_, ?_, ?_⟩ <;> decide +kernel⟩

theorem witness_ImagesChange_probationFails :
    ∃ (sub : Fin 7) (c : Option Carrier) (p : Probation) (s : State), s.onProbation sub c = some p ∧ s.clk.sfn <
      p.until_ :=
  ⟨5, some .b, { sub := 5, slot := 1, prev := 0, carrier := some .b, until_ := 10000000001 },
    { ready with img := { ready.img with probation := [{ sub := 5, slot := 1, prev := 0, carrier := some .b, until_ := 10000000001 }] } },
    by refine ⟨?_, ?_⟩ <;> decide +kernel⟩

theorem witness_GroupBusTalks_windowSilent :
    ∃ (n : Fin 40) (collision : Bool) (s : State), (s.grp.silent = true ∨ s.timed = false) :=
  ⟨5, false, (member 0 0).setGrp (fun g => { g with silent := true }), by decide +kernel⟩

theorem witness_GroupBusTalks_beaconSent :
    ∃ (s : State), s.grp.silent = false ∧ s.isKeeper = true :=
  ⟨member 1 2, by refine ⟨?_, ?_⟩ <;> decide +kernel⟩

theorem witness_GroupBusTalks_statusSent :
    ∃ (n : Fin 40) (collision : Bool) (s : State), s.grp.silent = false ∧ n.val = s.slotNo ∧ s.isMember = true ∧
      s.grp.leaving = 0 ∧ s.timed = true :=
  ⟨2, false, member 0 2, by refine ⟨?_, ?_, ?_, ?_, ?_⟩ <;> decide +kernel⟩

theorem witness_GroupBusTalks_leaveSent :
    ∃ (n : Fin 40) (collision : Bool) (s : State), s.grp.silent = false ∧ n.val = s.slotNo ∧ s.isMember = true ∧ 1 ≤
      s.grp.leaving ∧ s.timed = true :=
  ⟨2, false, (member 0 2).setGrp (fun g => { g with leaving := 1 }),
    by refine ⟨?_, ?_, ?_, ?_, ?_⟩ <;> decide +kernel⟩

theorem witness_GroupBusTalks_ordersSent :
    ∃ (collision : Bool) (s : State), s.grp.silent = false ∧ s.isKeeper = true :=
  ⟨false, member 1 2, by refine ⟨?_, ?_⟩ <;> decide +kernel⟩

theorem witness_GroupBusTalks_joinSent :
    ∃ (n : Fin 40) (collision : Bool) (s : State), s.grp.silent = false ∧ 36 ≤ n.val ∧ s.joinWindow n = true ∧ s.u
      Obj.groupBusState = 1 ∧ s.timed = true :=
  ⟨38, false, (member 0 1).setGrp (fun g => { g with base := some (8, 10000000000) }),
    by refine ⟨?_, ?_, ?_, ?_, ?_⟩ <;> decide +kernel⟩

theorem witness_GroupBusTalks_beaconHeard :
    ∃ (f : GroupFrame) (s : State), f.crcOk = true ∧ s.ownGroup f.source.toNat = true ∧ 94 ≤ f.body.length ∧
      f.source.toNat ≠ s.address ∧ s.beaconStands f.source.toNat = true ∧ s.grp.silent = false :=
  ⟨heardFrame (List.replicate 94 0), member 0 1, by refine ⟨?_, ?_, ?_, ?_, ?_, ?_⟩ <;> decide +kernel⟩

theorem witness_GroupBusTalks_statusHeard :
    ∃ (f : GroupFrame) (s : State), f.crcOk = true ∧ s.ownGroup f.source.toNat = true ∧ 60 ≤ f.body.length ∧
      f.source.toNat ≠ s.address ∧ f.source.toNat % 32 < s.grp.members.length :=
  ⟨heardFrame (List.replicate 60 0), member 0 2, by refine ⟨?_, ?_, ?_, ?_, ?_⟩ <;> decide +kernel⟩

theorem witness_GroupBusTalks_ordersHeard :
    ∃ (f : GroupFrame) (l1 : List (List Byte)) (l2 : List (List Byte)) (b : List Byte) (s : State), f.crcOk = true ∧
      s.ownGroup f.source.toNat = true ∧ 4 ≤ f.body.length ∧ f.source.toNat ≠ s.address ∧ ((List.range (min 11 (ofBe
      (slice f.body 0 1)))).map (fun i => slice f.body (4 + 8 * i) 8)).filter (fun b => b.length == 8) = l1 ++ b ::
      l2 ∧ (∀ x ∈ l2, slice x 2 2 ≠ slice b 2 2) :=
  ⟨heardFrame (be 4 0x1000000 ++ be 8 0x0021002200430102), [], [], be 8 0x0021002200430102, member 0 2,
    by refine ⟨?_, ?_, ?_, ?_, ?_, ?_⟩ <;> decide +kernel⟩

theorem witness_KeepersChange_joinAdmitted :
    ∃ (k : Fin 32) (f : GroupFrame) (s : State), f.crcOk = true ∧ s.ownGroup f.source.toNat = true ∧ 20 ≤
      f.body.length ∧ f.source.toNat ≠ s.address ∧ s.isKeeper = true ∧ (bit s.validMask k = false ∨ (s.member
      k).serial = slice f.body 0 16 ∨ ∀ t0, (s.member k).heard = some t0 → t0 + fiftyCycles ≤ s.clk.sfn) :=
  ⟨5, heardFrame (List.replicate 20 7), member 1 2, by
    exact ⟨by decide +kernel, by decide +kernel, by decide +kernel, by decide +kernel, by decide +kernel, .inl (by decide +kernel)⟩⟩

theorem witness_KeepersChange_joinDuplicate :
    ∃ (k : Fin 32) (f : GroupFrame) (t0 : Nat) (s : State), f.crcOk = true ∧ s.ownGroup f.source.toNat = true ∧ 20 ≤
      f.body.length ∧ f.source.toNat ≠ s.address ∧ s.isKeeper = true ∧ bit s.validMask k = true ∧ (s.member
      k).serial ≠ slice f.body 0 16 ∧ (s.member k).heard = some t0 ∧ s.clk.sfn < t0 + fiftyCycles :=
  ⟨5, heardFrame (List.replicate 20 7), 9999999900, ((member 1 2).setMember 5 (fun m =>
    { m with heard := some 9999999900 })).setValid 5 true,
    by refine ⟨?_, ?_, ?_, ?_, ?_, ?_, ?_, ?_, ?_⟩ <;> decide +kernel⟩

theorem witness_KeepersChange_thirdBadJoin :
    ∃ (k : Fin 32) (f : GroupFrame) (s : State), f.crcOk = false ∧ s.isKeeper = true ∧ 2 ≤ nth s.grp.joinBad k.val 0
      ∧ k.val < s.grp.joinBad.length :=
  ⟨31, { heardFrame [] with crcOk := false }, (member 1 2).setGrp (fun g =>
    { g with joinBad := List.replicate 32 2 }), by refine ⟨?_, ?_, ?_, ?_⟩ <;> decide +kernel⟩

theorem witness_KeepersChange_leaveHeard :
    ∃ (f : GroupFrame) (s : State), f.crcOk = true ∧ s.ownGroup f.source.toNat = true ∧ 16 ≤ f.body.length ∧
      f.source.toNat ≠ s.address ∧ s.isKeeper = true ∧ bit s.validMask (f.source.toNat % 32) = true :=
  ⟨heardFrame (List.replicate 16 7), (member 1 2).setValid 1 true,
    by refine ⟨?_, ?_, ?_, ?_, ?_, ?_⟩ <;> decide +kernel⟩

theorem witness_KeepersChange_absent :
    ∃ (k : Fin 32) (s : State), s.isKeeper = true ∧ k.val ≠ s.slotNo ∧ bit s.validMask k = true ∧ (∀ t0, (s.member
      k).heard = some t0 → t0 + fiftyCycles ≤ s.clk.sfn) :=
  ⟨5, (member 1 2).setValid 5 true, by
    exact ⟨by decide +kernel, by decide +kernel, by decide +kernel, fun t0 h => by
      have e : (((member 1 2).setValid 5 true).member 5).heard = none := by decide +kernel
      exact absurd (e.symm.trans h) (by simp)⟩⟩

theorem witness_KeepersChange_listened :
    ∃ (t0 : Nat) (s : State), s.grp.listening = some t0 ∧ s.u Obj.bootState = 2 ∧ s.u Obj.keeperEligible = 1 ∧
      s.listenUntil t0 ≤ s.clk.sfn :=
  ⟨0, ((member 0 0).put Obj.keeperEligible 0 1).setGrp (fun g => { g with listening := some 0 }),
    by refine ⟨?_, ?_, ?_, ?_⟩ <;> decide +kernel⟩

theorem witness_KeepersChange_deputyTakes :
    ∃ (s : State), s.isDeputy = true ∧ s.grp.beaconAt + fiftyCycles ≤ s.clk.sfn :=
  ⟨member 2 2, by refine ⟨?_, ?_⟩ <;> decide +kernel⟩

theorem witness_KeepersChange_handedOver :
    ∃ (n : Nat) (k : Nat) (s : State), s.grp.handover = some (n, k) ∧ (s.cycle + 65536 - n) % 65536 < 32768 ∧ (k =
      s.slotNo → s.isMember = true) :=
  ⟨7, 2, (member 0 2).setGrp (fun g => { g with handover := some (7, 2), base := some (7, 10000000000) }),
    by refine ⟨?_, ?_, ?_⟩ <;> decide +kernel⟩

theorem witness_KeepersChange_leaves :
    ∃ (w : Requester) (v : BitVec 8) (v' : Val) (s : State) (s' : State), Admitted s s' w 2 Obj.groupLeave 0 (.num
      v.toNat) v' :=
  ⟨host, 1, .num 1, ready, noted ((ready)) (Obj.groupLeave) (0) ((.num 1)), admitted (by decide +kernel)⟩

theorem witness_KeepersChange_joinRetry :
    ∃ (s : State), s.u Obj.groupBusState = 3 ∧ s.grp.dupAt + sfPerSecond ≤ s.clk.sfn :=
  ⟨member 0 3, by refine ⟨?_, ?_⟩ <;> decide +kernel⟩

theorem witness_KeepersChange_decides :
    ∃ (k : Fin 32) (s : State), s.isMember = true ∧ bit (s.member k).flags 2 = true ∧ s.linkKeeper (s.groupAddress
      k) (s.member k).peer = s.address ∧ (s.member k).disputed s.clk.sfn = true ∧ s.grp.orders.any (fun o => ofBe
      (slice o.octets 2 2) == s.groupAddress k && ofBe (slice o.octets 7 1) == (chooseAvenue (s.member k).own
      (s.member k).far).inst) = false :=
  ⟨1, ((member 1 2).setMember 1 (fun m =>
    { m with flags := 6, own := be 8 0 ++ be 2 0 ++ be 2 0x0200 ++ be 4 0, peer := 67 })),
    by refine ⟨?_, ?_, ?_, ?_, ?_⟩ <;> decide +kernel⟩

theorem witness_CellsAtV8_duplicateCell :
    ∃ (c : Carrier) (x : Fin 64) (seq : BitVec 32) (s : State), (s.c8 x).buffer.any (fun k => k.seq == seq.toNat) =
      true ∧ ahead seq.toNat (((s.c8 x).due).getD seq.toNat) < 2 ^ 31 :=
  ⟨.a, 0, 9, atV8 { Client8.init with due := some 7, buffer := [{ seq := 9, c := .a, at_ := 0 }] },
    by refine ⟨?_, ?_⟩ <;> decide +kernel⟩

theorem witness_CellsAtV8_duplicateOfReleased :
    ∃ (c : Carrier) (x : Fin 64) (seq : BitVec 32) (d : Nat) (s : State), (s.c8 x).due = some d ∧ 2 ^ 31 ≤ ahead
      seq.toNat d ∧ (s.c8 x).lost.contains seq.toNat = false :=
  ⟨.a, 0, 6, 7, atV8 { Client8.init with due := some 7 }, by refine ⟨?_, ?_, ?_⟩ <;> decide +kernel⟩

theorem witness_CellsAtV8_lateCopy :
    ∃ (c : Carrier) (x : Fin 64) (seq : BitVec 32) (d : Nat) (s : State), (s.c8 x).due = some d ∧ 2 ^ 31 ≤ ahead
      seq.toNat d ∧ (s.c8 x).lost.contains seq.toNat = true :=
  ⟨.a, 0, 6, 7, atV8 { Client8.init with due := some 7, lost := [6] }, by refine ⟨?_, ?_, ?_⟩ <;> decide +kernel⟩

theorem witness_CellsAtV8_cellWaits :
    ∃ (c : Carrier) (x : Fin 64) (seq : BitVec 32) (s : State), (s.c8 x).buffer.any (fun k => k.seq == seq.toNat) =
      false ∧ ahead seq.toNat (((s.c8 x).due).getD seq.toNat) < 2 ^ 31 ∧ s.u Obj.twinRelease ≠ 0 ∧ x.val <
      s.av.clients.length :=
  ⟨.a, 63, 4294967295, ready.put Obj.twinRelease 0 1, by refine ⟨?_, ?_, ?_, ?_⟩ <;> decide +kernel⟩

theorem witness_CellsAtV8_cellReleased :
    ∃ (c : Carrier) (x : Fin 64) (seq : BitVec 32) (s : State), (s.c8 x).buffer.any (fun k => k.seq == seq.toNat) =
      false ∧ ((s.c8 x).due).getD seq.toNat = seq.toNat ∧ s.u Obj.twinRelease = 0 ∧ x.val < s.av.clients.length :=
  ⟨.a, 63, 4294967295, ready, by refine ⟨?_, ?_, ?_, ?_⟩ <;> decide +kernel⟩

theorem witness_CellsAtV8_cellLost :
    ∃ (x : Fin 64) (d : Nat) (s : State), (s.c8 x).due = some d ∧ (s.c8 x).buffer.any (fun z => z.seq == d) = false
      ∧ (s.c8 x).buffer.any (fun z => decide (z.at_ + s.u Obj.reorderWindow * 100000000 ≤ s.now)) = true ∧ x.val <
      s.av.clients.length :=
  ⟨0, 7, atV8 { Client8.init with due := some 7, buffer := [{ seq := 9, c := .a, at_ := 0 }] },
    by refine ⟨?_, ?_, ?_, ?_⟩ <;> decide +kernel⟩

theorem witness_CellsAtV8_alignedRelease :
    ∃ (x : Fin 64) (d : Nat) (k : Cell8) (s : State), s.u Obj.twinRelease = 1 ∧ (s.c8 x).due = some d ∧ (s.c8
      x).buffer.find? (fun k => k.seq == d) = some k :=
  ⟨0, 7, { seq := 7, c := .b, at_ := 0 }, (atV8
    { Client8.init with due := some 7, buffer := [{ seq := 7, c := .b, at_ := 0 }] }).put Obj.twinRelease 0 1,
    by refine ⟨?_, ?_, ?_⟩ <;> decide +kernel⟩

theorem witness_CellsAtV8_windowTooShort :
    ∃ (s : State), s.windowShort = true ∧ s.av.short = false :=
  ⟨ready.put Obj.reorderWindow 0 0, by refine ⟨?_, ?_⟩ <;> decide +kernel⟩

theorem witness_CellsAtV8_windowLongEnough :
    ∃ (t0 : Nat) (s : State), s.windowShort = false ∧ s.av.short = true ∧ s.av.okFrom = some t0 ∧ t0 + sfPerSecond ≤
      s.clk.sfn :=
  ⟨0, { ready with av := { AvSt.start with short := true, okFrom := some 0 } },
    by refine ⟨?_, ?_, ?_, ?_⟩ <;> decide +kernel⟩

theorem witness_CellsAtV8_viewRecorded :
    ∃ (s : State), s.mode = 2 ∧ (s.viewRecord.take 12 ≠ s.av.record.take 12 ∨ s.av.recordAt + 10 ≤ s.clk.sfn) :=
  ⟨spare, by
    exact ⟨by decide +kernel, .inr (by decide +kernel)⟩⟩

theorem witness_AvenuesSwitch_takesOver :
    ∃ (c : Carrier) (t0 : Nat) (s : State), s.carrying = some c ∧ s.mode = 2 ∧ s.av.cmd = 0 ∧ s.faultSince c = some
      t0 ∧ t0 + s.u Obj.spareHoldOff * 100000000000 ≤ s.now ∧ s.standbyFault c.other = 0 :=
  ⟨.a, 0, lostA, by refine ⟨?_, ?_, ?_, ?_, ?_, ?_⟩ <;> decide +kernel⟩

theorem witness_AvenuesSwitch_takeoverBlocked :
    ∃ (c : Carrier) (t0 : Nat) (f : Nat) (s : State), s.carrying = some c ∧ s.mode = 2 ∧ s.av.cmd = 0 ∧ s.faultSince
      c = some t0 ∧ t0 + s.u Obj.spareHoldOff * 100000000000 ≤ s.now ∧ s.standbyFault c.other = f ∧ f ≠ 0 ∧
      s.av.blocked = false :=
  ⟨.a, 0, 3, lostA.put (on .b Obj.frameLock) 0 0, by refine ⟨?_, ?_, ?_, ?_, ?_, ?_, ?_, ?_⟩ <;> decide +kernel⟩

theorem witness_AvenuesSwitch_muteEnds :
    ∃ (c : Carrier) (t0 : Nat) (s : State), s.av.mute.get c = some t0 ∧ (bits (s.farWord c.other 26) 31 30 =
      c.other.inst ∨ t0 + 10 ≤ s.clk.sfn) :=
  ⟨.b, 9999999990, spare.setAv (fun a => { a with mute := ⟨none, some 9999999990⟩ }), by
    exact ⟨by decide +kernel, .inr (by decide +kernel)⟩⟩

theorem witness_AvenuesSwitch_orderApplied :
    ∃ (b : List Byte) (c : Carrier) (s : State), b.length = 8 ∧ avenueOf (ofBe (slice b 7 1)) = some c ∧ s.mode = 2
      ∧ (s.u Obj.deviceAddress = ofBe (slice b 2 2) ∨ s.u Obj.deviceAddress = ofBe (slice b 4 2)) ∧ ofBe (slice b 6
      1) ≠ s.av.lastSeq ∧ s.av.cmd ≠ 1 :=
  ⟨order, .b, spare.put Obj.deviceAddress 0 34, by
    exact ⟨by decide +kernel, by decide +kernel, by decide +kernel, .inl (by decide +kernel), by decide +kernel, by decide +kernel⟩⟩

theorem witness_AvenuesSwitch_orderRepeated :
    ∃ (o : Order) (s : State), s.av.order = some o ∧ o.bus = true ∧ s.unlocked = true ∧ o.sentAt + (if o.sent = 0
      then 0 else if o.sent < 3 then 10 else 100) ≤ s.clk.sfn :=
  ⟨{ keeper := 33, seq := 1, avenue := .b, octets := order, bus := true, sent := 1, sentAt := 9999999990 },
    lostA.setAv (fun a =>
    { a with order := some { keeper := 33, seq := 1, avenue := .b, octets := order, bus := true, sent := 1, sentAt := 9999999990 } }),
    by refine ⟨?_, ?_, ?_, ?_⟩ <;> decide +kernel⟩

theorem witness_AvenuesSwitch_keeperUnreachable :
    ∃ (s : State), s.keeperReachable = false ∧ s.inDispute = true ∧ s.av.unreach = false :=
  ⟨spare.setAv (fun a => { a with blocked := true }), by refine ⟨?_, ?_, ?_⟩ <;> decide +kernel⟩

theorem witness_AvenuesSwitch_modeProposed :
    ∃ (w : Requester) (v : Nat) (n : Nat) (tg : Target) (s : State) (s' : State), Admitted s s' w 3 Obj.avenueMode 0
      (.num v) (.num n) ∧ (∀ z ∈ [s, s'], (z.avenueModeEffect w n tg).1.code = 0) :=
  ⟨host, 2, 2, { relative := true, sfn := 20, symbols := false, offset := 0 }, linked, noted ((linked))
    (Obj.avenueMode) (0) (.num (2)), admitted (by decide +kernel), by decide +kernel⟩

theorem witness_AvenuesSwitch_cleared :
    ∃ (w : Requester) (sfn : BitVec 64) (b : List Byte) (s : State) (s' : State), Admitted s s' w 2
      Obj.avenueCommand 0 (.octs (commandRow 0 sfn.toNat)) (.octs b) ∧ ofBe (slice b 2 1) = 0 ∧ s.mode = 2 :=
  ⟨host, 0, commandRow 0 0, spare, noted ((spare)) (Obj.avenueCommand) (0) (.octs (commandRow 0 0)), admitted
    (by decide +kernel), by refine ⟨?_, ?_⟩ <;> decide +kernel⟩

theorem witness_AvenuesSwitch_lockedOut :
    ∃ (w : Requester) (sfn : BitVec 64) (b : List Byte) (s : State) (s' : State), Admitted s s' w 2
      Obj.avenueCommand 0 (.octs (commandRow 1 sfn.toNat)) (.octs b) ∧ ofBe (slice b 2 1) = 1 ∧ s.mode = 2 :=
  ⟨host, 0, commandRow 1 0, spare, noted ((spare)) (Obj.avenueCommand) (0) (.octs (commandRow 1 0)), admitted
    (by decide +kernel), by refine ⟨?_, ?_⟩ <;> decide +kernel⟩

theorem witness_AvenuesSwitch_forced :
    ∃ (w : Requester) (c : Carrier) (sfn : BitVec 64) (b : List Byte) (s : State) (s' : State), Admitted s s' w 2
      Obj.avenueCommand 0 (.octs (commandRow (1 + c.inst) sfn.toNat)) (.octs b) ∧ ofBe (slice b 2 1) = 1 + c.inst ∧
      s.mode = 2 ∧ (∀ z ∈ [s, s'], (z.avenueCommandEffect w b).1.code = 0) :=
  ⟨host, .b, 10000000020, commandRow 3 10000000020, spare, noted ((spare)) (Obj.avenueCommand) (0) (.octs
    (commandRow 3 10000000020)), admitted (by decide +kernel), by refine ⟨?_, ?_, ?_⟩ <;> decide +kernel⟩

theorem witness_AvenuesSwitch_manual :
    ∃ (w : Requester) (c : Carrier) (sfn : BitVec 64) (b : List Byte) (s : State) (s' : State), Admitted s s' w 2
      Obj.avenueCommand 0 (.octs (commandRow (3 + c.inst) sfn.toNat)) (.octs b) ∧ ofBe (slice b 2 1) = 3 + c.inst ∧
      s.mode = 2 ∧ (∀ z ∈ [s, s'], (z.avenueCommandEffect w b).1.code = 0) :=
  ⟨host, .a, 10000000020, commandRow 4 10000000020, (spare.put (on .a Obj.rxView) 0 0).put (on .a Obj.farView) 0 0,
    noted (((spare.put (on .a Obj.rxView) 0 0).put (on .a Obj.farView) 0 0)) (Obj.avenueCommand) (0) (.octs
    (commandRow 4 10000000020)), admitted (by decide +kernel), by refine ⟨?_, ?_, ?_⟩ <;> decide +kernel⟩

theorem witness_AvenuesSwitch_exercised :
    ∃ (w : Requester) (sfn : BitVec 64) (b : List Byte) (c : Carrier) (s : State) (s' : State), Admitted s s' w 2
      Obj.avenueCommand 0 (.octs (commandRow 6 sfn.toNat)) (.octs b) ∧ ofBe (slice b 2 1) = 6 ∧ s.mode = 2 ∧
      s.carrying = some c ∧ (∀ z ∈ [s, s'], (z.avenueCommandEffect w b).1.code = 0) :=
  ⟨host, 10000000020, commandRow 6 10000000020, .a, spare, noted ((spare)) (Obj.avenueCommand) (0) (.octs
    (commandRow 6 10000000020)), admitted (by decide +kernel), by refine ⟨?_, ?_, ?_, ?_⟩ <;> decide +kernel⟩

theorem witness_AvenuesSwitch_degradeArmed :
    ∃ (c : Carrier) (t0 : Nat) (s : State), s.carrying = some c ∧ s.av.degraded = some t0 ∧ s.mayArm = true ∧ t0 +
      100 ≤ s.clk.sfn ∧ s.viewsGood c.other = true ∧ (s.proposeEngine s.switchCarrier
      { Entry.base .plannedSwitch (s.leadSfn s.switchCarrier) with data := [c.other.inst, 3], dir := .tx } (fun _ =>
      switchBody c.other.inst 3)).1.isSome = true :=
  ⟨.a, 9999999900, ((spare.put (on .b Obj.rxView) 0 0).put (on .b Obj.farView) 0 0).setAv (fun a =>
    { a with degraded := some 9999999900 }), by refine ⟨?_, ?_, ?_, ?_, ?_, ?_⟩ <;> decide +kernel⟩

theorem witness_AvenuesSwitch_reverts :
    ∃ (t0 : Nat) (s : State), s.av.goodFrom = some t0 ∧ s.mayArm = true ∧ s.u Obj.spareRevert = 1 ∧ s.u
      Obj.carryingAvenue ≠ s.preferred.inst ∧ t0 + s.u Obj.spareWaitToRestore * sfPerSecond ≤ s.clk.sfn ∧
      (s.proposeEngine s.switchCarrier
      { Entry.base .plannedSwitch (s.leadSfn s.switchCarrier) with data := [s.preferred.inst, 2], dir := .tx } (fun
      _ => switchBody s.preferred.inst 2)).1.isSome = true :=
  ⟨0, ((spare.put Obj.spareRevert 0 1).put Obj.carryingAvenue 0 2).setAv (fun a => { a with goodFrom := some 0 }),
    by refine ⟨?_, ?_, ?_, ?_, ?_, ?_⟩ <;> decide +kernel⟩

theorem witness_RollsRegister_announces :
    ∃ (s : State), s.inDomain = true ∧ s.roleBit 0 = true ∧ s.dmn.announceAt + sfPerSecond ≤ s.clk.sfn :=
  ⟨inRoles 1, by refine ⟨?_, ?_, ?_⟩ <;> decide +kernel⟩

theorem witness_RollsRegister_announceHeard :
    ∃ (b : List Byte) (body : List Byte) (status : Nat) (a : Nat) (seq : Nat) (s : State), readDomain 1 8 b = some
      (status, a, seq, body) ∧ a ≠ s.address :=
  ⟨heard 1 0 33 (be 1 7 ++ be 1 1 ++ be 2 0 ++ be 4 12), be 1 7 ++ be 1 1 ++ be 2 0 ++ be 4 12, 0, 33, 9, inRoles 1,
    by refine ⟨?_, ?_⟩ <;> decide +kernel⟩

theorem witness_RollsRegister_leadTaken :
    ∃ (s : State), s.inDomain = true ∧ s.roleBit 0 = true ∧ s.roleBit 1 = false ∧ s.dmn.leadQuiet + sfOfMs (s.u
      Obj.settleTime) ≤ s.clk.sfn :=
  ⟨inRoles 1, by refine ⟨?_, ?_, ?_, ?_⟩ <;> decide +kernel⟩

theorem witness_RollsRegister_registrarTaken :
    ∃ (s : State), s.inDomain = true ∧ s.roleBit 0 = true ∧ s.roleBit 1 = true ∧ s.roleBit 2 = false ∧
      s.dmn.regQuiet + sfOfMs (s.u Obj.settleTime) ≤ s.clk.sfn :=
  ⟨inRoles 3, by refine ⟨?_, ?_, ?_, ?_, ?_⟩ <;> decide +kernel⟩

theorem witness_RollsRegister_groupRollSent :
    ∃ (t0 : Nat) (s : State), s.inDomain = true ∧ s.roleBit 0 = true ∧ s.roleBit 1 = false ∧ s.regDest false ≠
      0xFFFF ∧ (s.reg false).dueAt = some t0 ∧ t0 ≤ s.clk.sfn :=
  ⟨10000000000, ((inRoles 1).put Obj.siteLeadAddress 0 65).setReg false (fun g =>
    { g with dueAt := some 10000000000 }), by refine ⟨?_, ?_, ?_, ?_, ?_, ?_⟩ <;> decide +kernel⟩

theorem witness_RollsRegister_siteRollSent :
    ∃ (t0 : Nat) (s : State), s.inDomain = true ∧ s.roleBit 0 = true ∧ s.roleBit 1 = true ∧ s.regDest true ≠ 0xFFFF
      ∧ s.regDest true ≠ s.address ∧ (s.reg true).dueAt = some t0 ∧ t0 ≤ s.clk.sfn :=
  ⟨10000000000, ((inRoles 3).put Obj.registrarAddress 0 65).setReg true (fun g =>
    { g with dueAt := some 10000000000 }), by refine ⟨?_, ?_, ?_, ?_, ?_, ?_, ?_⟩ <;> decide +kernel⟩

theorem witness_RollsRegister_notTheLead :
    ∃ (b : List Byte) (body : List Byte) (status : Nat) (a : Nat) (seq : Nat) (s : State), readDomain 2 520 b = some
      (status, a, seq, body) ∧ (s.roleBit 1 = false ∨ siteOf a ≠ siteOf s.address) :=
  ⟨heard 2 0 65 rollBody, rollBody, 0, 65, 9, inRoles 1, by
    exact ⟨by decide +kernel, .inl (by decide +kernel)⟩⟩

theorem witness_RollsRegister_groupRegistered :
    ∃ (b : List Byte) (body : List Byte) (status : Nat) (a : Nat) (seq : Nat) (s : State), readDomain 2 520 b = some
      (status, a, seq, body) ∧ s.roleBit 1 = true ∧ siteOf a = siteOf s.address ∧ (∀ x ∈ s.dmn.groupRolls, x.group =
      groupOf a → x.keeper = ofBe (slice body 0 2)) :=
  ⟨heard 2 0 34 rollBody, rollBody, 0, 34, 9, (inRoles 3).setDmn (fun d => { d with groupRolls := [rollOf1 34] }),
    by refine ⟨?_, ?_, ?_, ?_⟩ <;> decide +kernel⟩

theorem witness_RollsRegister_groupRefused :
    ∃ (b : List Byte) (body : List Byte) (status : Nat) (a : Nat) (seq : Nat) (x : Roll) (s : State), readDomain 2
      520 b = some (status, a, seq, body) ∧ s.roleBit 1 = true ∧ siteOf a = siteOf s.address ∧
      s.dmn.groupRolls.find? (fun x => x.group == groupOf a) = some x ∧ x.keeper ≠ ofBe (slice body 0 2) :=
  ⟨heard 2 0 34 rollBody, rollBody, 0, 34, 9, rollOf1 35, (inRoles 3).setDmn (fun d =>
    { d with groupRolls := [rollOf1 35] }), by refine ⟨?_, ?_, ?_, ?_, ?_⟩ <;> decide +kernel⟩

theorem witness_RollsRegister_siteRegistered :
    ∃ (b : List Byte) (body : List Byte) (status : Nat) (a : Nat) (seq : Nat) (s : State), readDomain 3 8324 b =
      some (status, a, seq, body) ∧ s.roleBit 2 = true ∧ (∀ r ∈ rollsOf (ofBe (slice body 0 1) % 16) (ofBe (slice
      body 2 2)) body, ∀ x ∈ s.dmn.siteRolls, x.group = r.group → x.keeper = r.keeper) :=
  ⟨heard 3 0 34 (be 4 2 ++ List.replicate 8320 7), be 4 2 ++ List.replicate 8320 7, 0, 34, 9, inRoles 7, by
    exact ⟨readDomain_heard _ (by rw [List.length_append, List.length_replicate]; rfl), by decide +kernel, fun _ _ x h => absurd h (by
      have e : (inRoles 7).dmn.siteRolls = [] := by decide +kernel
      simp [e])⟩⟩

theorem witness_RollsRegister_notTheRegistrar :
    ∃ (b : List Byte) (body : List Byte) (status : Nat) (a : Nat) (seq : Nat) (s : State), readDomain 3 8324 b =
      some (status, a, seq, body) ∧ s.roleBit 2 = false :=
  ⟨heard 3 0 34 (List.replicate 8324 7), List.replicate 8324 7, 0, 34, 9, inRoles 1, by
    exact ⟨readDomain_heard _ (by rw [List.length_replicate]), by decide +kernel⟩⟩

theorem witness_RollsRegister_acknowledged :
    ∃ (b : List Byte) (body : List Byte) (a : Nat) (seq : Nat) (t0 : Nat) (site : Bool) (s : State) (y : State),
      readDomain 4 4 b = some (0, a, seq, body) ∧ (site = false → s.dmn.site.ackBy = none) ∧ (s.reg site).ackBy =
      some t0 ∧ (s.reg site).seq = ofBe (slice body 0 4) ∧ s.regDest site = a ∧ y = s.setReg site (fun g =>
      { g with ackBy := none, attempt := 0, retryAt := none, done := true }) :=
  ⟨heard 4 0 65 (be 4 9), be 4 9, 65, 9, 10000000000, false, awaiting false 1, (awaiting false 1).setReg false (fun
    g => { g with ackBy := none, attempt := 0, retryAt := none, done := true }), by
    exact ⟨by decide +kernel, by decide +kernel, by decide +kernel, by decide +kernel, by decide +kernel, rfl⟩⟩

theorem witness_RollsRegister_leadUnknown :
    ∃ (b : List Byte) (body : List Byte) (a : Nat) (seq : Nat) (t0 : Nat) (site : Bool) (s : State), readDomain 4 4
      b = some (1, a, seq, body) ∧ (site = false → s.dmn.site.ackBy = none) ∧ (s.reg site).ackBy = some t0 ∧ (s.reg
      site).seq = ofBe (slice body 0 4) ∧ s.regDest site = a :=
  ⟨heard 4 1 65 (be 4 9), be 4 9, 65, 9, 10000000000, true, awaiting true 1,
    by refine ⟨?_, ?_, ?_, ?_, ?_⟩ <;> decide +kernel⟩

theorem witness_RollsRegister_groupDuplicate :
    ∃ (b : List Byte) (body : List Byte) (a : Nat) (seq : Nat) (t0 : Nat) (site : Bool) (s : State), readDomain 4 4
      b = some (2, a, seq, body) ∧ (site = false → s.dmn.site.ackBy = none) ∧ (s.reg site).ackBy = some t0 ∧ (s.reg
      site).seq = ofBe (slice body 0 4) ∧ s.regDest site = a :=
  ⟨heard 4 2 65 (be 4 9), be 4 9, 65, 9, 10000000000, false, awaiting false 1,
    by refine ⟨?_, ?_, ?_, ?_, ?_⟩ <;> decide +kernel⟩

theorem witness_RollsRegister_triesAgain :
    ∃ (site : Bool) (t0 : Nat) (s : State), (s.reg site).ackBy = some t0 ∧ t0 ≤ s.clk.sfn ∧ (s.reg site).attempt <
      s.u Obj.rollAttempts :=
  ⟨false, 10000000000, awaiting false 1, by refine ⟨?_, ?_, ?_⟩ <;> decide +kernel⟩

theorem witness_RollsRegister_attemptsExhausted :
    ∃ (site : Bool) (t0 : Nat) (s : State), (s.reg site).ackBy = some t0 ∧ t0 ≤ s.clk.sfn ∧ s.u Obj.rollAttempts ≤
      (s.reg site).attempt :=
  ⟨true, 10000000000, awaiting true 255, by refine ⟨?_, ?_, ?_⟩ <;> decide +kernel⟩

theorem witness_RollsRegister_registersAgain :
    ∃ (site : Bool) (t0 : Nat) (s : State), (s.reg site).retryAt = some t0 ∧ t0 ≤ s.clk.sfn :=
  ⟨false, 10000000000, (inRoles 1).setReg false (fun g => { g with retryAt := some 10000000000 }),
    by refine ⟨?_, ?_⟩ <;> decide +kernel⟩

theorem witness_DomainWatches_domainRollTaken :
    ∃ (b : List Byte) (body : List Byte) (status : Nat) (a : Nat) (seq : Nat) (g : Fin 256) (s : State), readDomain
      5 1028 b = some (status, a, seq, body) :=
  ⟨heard 5 0 33 (List.replicate 1028 7), List.replicate 1028 7, 0, 33, 9, 255, ready, by decide +kernel⟩

theorem witness_DomainWatches_domainRollSent :
    ∃ (s : State), s.roleBit 2 = true ∧ s.dmn.complete = true ∧ s.dmn.rollAt + 100000 ≤ s.clk.sfn :=
  ⟨(inRoles 7).setDmn (fun d => { d with complete := true }), by refine ⟨?_, ?_, ?_⟩ <;> decide +kernel⟩

theorem witness_DomainWatches_rollLate :
    ∃ (s : State), s.roleBit 2 = true ∧ s.dmn.complete = false ∧ s.dmn.late = false ∧ s.dmn.powerAt + 450000 ≤
      s.clk.sfn :=
  ⟨inRoles 7, by refine ⟨?_, ?_, ?_, ?_⟩ <;> decide +kernel⟩

theorem witness_DomainWatches_noTraffic :
    ∃ (c : Carrier) (s : State), s.dmn.noTraffic.get c = false ∧ s.dmn.powerAt + 600000 ≤ s.clk.sfn ∧ (List.range
      64).any (fun x => s.configured c x) = true ∧ (s.fr c).txMap.carried = 0 :=
  ⟨.a, (served.put Obj.clientCarrier 0 0), by refine ⟨?_, ?_, ?_, ?_⟩ <;> decide +kernel⟩

theorem witness_DomainWatches_solicitAnswered :
    ∃ (p : Fin 2) (addr : BitVec 128) (src : BitVec 128) (a : MgAddr) (s : State), s.aop.mgAddrs.find? (fun a =>
      a.port == p.val && a.addr == addr.toNat) = some a ∧ a.tentative = false ∧ a.duplicate = false :=
  ⟨0, 5, 6, mgAddr false, withAddr false, by refine ⟨?_, ?_, ?_⟩ <;> decide +kernel⟩

theorem witness_DomainWatches_duplicateFound :
    ∃ (p : Fin 2) (addr : BitVec 128) (src : BitVec 128) (a : MgAddr) (s : State), s.aop.mgAddrs.find? (fun a =>
      a.port == p.val && a.addr == addr.toNat) = some a ∧ a.tentative = true ∧ src = 0 :=
  ⟨0, 5, 0, mgAddr true, withAddr true, by refine ⟨?_, ?_, ?_⟩ <;> decide +kernel⟩

theorem witness_DomainWatches_neighbourLearned :
    ∃ (p : Fin 2) (addr : BitVec 128) (link : BitVec 48) (s : State), s.aop.mgAddrs.find? (fun a => a.port == p.val
      && a.addr == addr.toNat) = none :=
  ⟨1, 5, 7, ready, by decide +kernel⟩

theorem witness_DomainWatches_addressAssigned :
    ∃ (p : Fin 2) (addr : BitVec 128) (a : MgAddr) (s : State), a ∈ s.aop.mgAddrs ∧ a.port = p.val ∧ a.addr =
      addr.toNat :=
  ⟨0, 5, mgAddr true, withAddr true, by refine ⟨?_, ?_, ?_⟩ <;> decide +kernel⟩

end Sys2Proof.Tests
end

section
/-! The statements on the scope (00_scope.md): every command completes (R17), and the roles of a write and of a read
(R13, R15). A role enters either check only in one comparison with the lowest role of the object's row. -/

namespace Sys2Proof.Proofs.Scope

open Sys2Proof.Machine

/-- Settles O11: the law of what each command keeps finds the next state first. -/
theorem everyCommandCompletes : Obligations.EveryCommandCompletes := by
  intro i s
  obtain ⟨t, ht, -⟩ := exec_next i s
  exact ⟨t, ht⟩

/-! ## The check of a write -/

/-- A write that passes has a row whose lowest role its requester holds. -/
theorem wr_le_roleOf_of_checkWrite {s : State} {w : Requester} {op o m : Nat} {v : Val}
    (h : (s.checkWrite w op o m v).1 = 0) : ∃ r, dictRow o = some r ∧ r.wr ≤ s.roleOf w := by
  unfold State.checkWrite at h
  cases hr : dictRow o with
  | none => simp only [hr] at h; exact absurd h (Nat.succ_ne_zero _)
  | some r =>
    refine ⟨r, rfl, Nat.le_of_not_lt fun hlt => ?_⟩
    simp only [hr, if_pos hlt] at h
    repeat' split at h
    all_goals exact Nat.succ_ne_zero _ h

/-- Two requesters who both hold the lowest role of the row are judged alike. -/
theorem checkWrite_eq_of_wr_le_roleOf {s : State} {w w' : Requester} {o : Nat} {r : DictRow} (op m : Nat) (v : Val)
    (hr : dictRow o = some r) (hw : r.wr ≤ s.roleOf w) (hw' : r.wr ≤ s.roleOf w') :
    s.checkWrite w' op o m v = s.checkWrite w op o m v := by
  simp only [State.checkWrite, hr, if_neg (Nat.not_lt.mpr hw), if_neg (Nat.not_lt.mpr hw')]

/-! ## The check of a read -/

/-- A read that passes has a row that names no lowest role (255) or one that its requester holds. -/
theorem rd_le_roleOf_of_readStatus {s : State} {w : Requester} {o m : Nat} (h : s.readStatus w o m = 0) :
    ∃ r, dictRow o = some r ∧ (r.rd ≠ 255 → r.rd ≤ s.roleOf w) := by
  unfold State.readStatus at h
  cases hr : dictRow o with
  | none => simp only [hr] at h; exact absurd h (Nat.succ_ne_zero _)
  | some r =>
    refine ⟨r, rfl, fun hrd => Nat.le_of_not_lt fun hlt => ?_⟩
    simp only [hr, if_pos (And.intro hrd hlt)] at h
    repeat' split at h
    all_goals exact Nat.succ_ne_zero _ h

/-- Two requesters who both hold the lowest role of the row, where it names one, read with one status. -/
theorem readStatus_eq_of_rd_le_roleOf {s : State} {w w' : Requester} {o : Nat} {r : DictRow} (m : Nat)
    (hr : dictRow o = some r) (hw : r.rd ≠ 255 → r.rd ≤ s.roleOf w) (hw' : r.rd ≠ 255 → r.rd ≤ s.roleOf w') :
    s.readStatus w' o m = s.readStatus w o m := by
  have pass : ∀ {u : Requester}, (r.rd ≠ 255 → r.rd ≤ s.roleOf u) → ¬(r.rd ≠ 255 ∧ s.roleOf u < r.rd) :=
    fun hu hn => Nat.not_lt.mpr (hu hn.1) hn.2
  simp only [State.readStatus, hr, if_neg (pass hw), if_neg (pass hw')]

/-! ## Higher and lower roles -/

/-- Settles O12: what passes shows that the row's lowest role is held, and every holder of it is judged alike. -/
theorem rolesHoldWhatLowerOnesHold : Obligations.RolesHoldWhatLowerOnesHold := by
  refine ⟨fun s w w' op o m v hle h => ?_, fun s w w' o m hle h => ?_, fun s w op o m v r hr => ⟨?_, ?_⟩⟩
  · obtain ⟨r, hr, hw⟩ := wr_le_roleOf_of_checkWrite h
    exact checkWrite_eq_of_wr_le_roleOf op m v hr hw (Nat.le_trans hw hle)
  · obtain ⟨r, hr, hw⟩ := rd_le_roleOf_of_readStatus h
    exact (readStatus_eq_of_rd_le_roleOf m hr hw fun hrd => Nat.le_trans (hw hrd) hle).trans h
  · intro hlt h
    obtain ⟨r', hr', hw⟩ := wr_le_roleOf_of_checkWrite h
    cases hr.symm.trans hr'
    exact absurd hlt (Nat.not_lt.mpr hw)
  · intro hrd hlt h
    obtain ⟨r', hr', hw⟩ := rd_le_roleOf_of_readStatus h
    cases hr.symm.trans hr'
    exact absurd hlt (Nat.not_lt.mpr (hw hrd))

end Sys2Proof.Proofs.Scope
end

section
/-! The statements on the signal path (01_signal_path.md): the decoder pool, in which a codeword stays one residency
budget long (R24). First what each pool operation does, said once; then what each command of the pool leaves. -/

namespace Sys2Proof.Proofs.SignalPath

open Sys2Proof.Machine Sys2Proof.Laws.OfPool

/-! ## Codewords (R175, R178, R188) -/

/-- What a codeword is when its receiver is not in signal fail. -/
theorem newWord_fields (c : Carrier) (g : GroupIn) (j : Nat) (l : List Int) (s : State) (h : s.lock c ≠ 8) :
    (s.newWord c g j l).carrier = c ∧ (s.newWord c g j l).frame = g.frame ∧
    (s.newWord c g j l).number = 16 * g.group + j ∧ (s.newWord c g j l).arrived = s.now ∧
    (s.newWord c g j l).release = s.now + s.u Obj.residencyBudget * (microsecond / 10) ∧
    (s.newWord c g j l).iters = 0 ∧ (s.newWord c g j l).hard = hardBits l ∧
    ((s.newWord c g j l).erased = true ↔ codeLength < 2 * erasures l) ∧
    ((s.newWord c g j l).finished = true ↔ codeLength < 2 * erasures l) := by
  simp only [State.newWord, if_neg h, decide_eq_true_eq, and_self, iff_self]

/-- A codeword known but for whether an engine runs it. -/
theorem exists_running_of_stopped_eq {y w : Codeword} (h : { y with running := false } = w) :
    ∃ r, y = { w with running := r } :=
  ⟨y.running, by subst h; rfl⟩

/-! ## Iterations (R176, R177) -/

/-- An iteration leaves a codeword's name as it was. -/
theorem iterated_is (s : State) (x : Codeword) (r : Bool) : { s.iterated x with running := r }.is x = true := by
  simp only [Codeword.is, State.iterated, decide_true, beq_self_eq_true, Bool.and_self]

/-- An iteration that ends in time is counted, and its codeword takes its decisions. -/
theorem execIterationEnd_of_lt {slot : Nat} {x : Codeword} {s : State}
    (hx : s.pool.words.find? (fun x => decide (x.slot = some slot) && x.running) = some x)
    (ht : s.now + microsecond / 4 < x.release) :
    ∃ z : State, z.pool = { s.pool with used := s.pool.used + 1 } ∧
      execIterationEnd slot s = .next ((z.setWord x z.iterated).fillEngines (bankOf slot)) := by
  refine ⟨(((s.add64 (Obj.bankIterations + 256 * bankOf slot) 0 1).occur 0x6081 { carrier := some x.carrier }).setPool
    (fun p => { p with used := p.used + 1 })), ?_, ?_⟩
  · simp only [State.setPool, State.occur_pool, State.add64_pool]
  · simp only [execIterationEnd, hx, decide_eq_true_eq, if_neg (Nat.not_le.mpr ht)]

/-- One that ends within 0.25 µs of the release finishes its codeword. -/
theorem execIterationEnd_of_le {slot : Nat} {x : Codeword} {s : State}
    (hx : s.pool.words.find? (fun x => decide (x.slot = some slot) && x.running) = some x)
    (ht : x.release ≤ s.now + microsecond / 4) :
    execIterationEnd slot s = .next ((s.setWord x (fun y => { y with running := false, finished := true })).fillEngines
      (bankOf slot)) := by
  simp only [execIterationEnd, hx, decide_eq_true_eq, if_pos ht]

/-- ITERATION_COMPLETE in time. -/
theorem iterationEnd_counts (slot : Nat) (x : Codeword) (s : State)
    (hx : s.pool.words.find? (fun x => decide (x.slot = some slot) && x.running) = some x)
    (ht : s.now + microsecond / 4 < x.release) :
    ∃ t, exec (.iterationEnd slot) s = .next t ∧ t.pool.used = s.pool.used + 1 ∧
      ∃ y ∈ t.pool.words, y.is x = true ∧ y.iters = x.iters + 1 ∧ y.bits = Config.decoded x.load.rate x.llrs (x.iters + 1) ∧
        y.zero = syndromeZero x.load.rate y.bits ∧ (y.zero = true → y.finished = true) ∧
        (x.low = false → s.pool.cap ≤ x.iters + 1 → y.finished = true) := by
  obtain ⟨z, hz, he⟩ := execIterationEnd_of_lt hx ht
  have hmem : x ∈ z.pool.words := by rw [hz]; exact List.mem_of_find?_eq_some hx
  obtain ⟨hused, y, hy, hyx⟩ := setFill z x z.iterated (bankOf slot) hmem (fun _ _ => rfl) rfl
  obtain ⟨r, rfl⟩ := exists_running_of_stopped_eq hyx
  refine ⟨_, he, hused.trans (by rw [hz]), _, hy, iterated_is z x r, rfl, rfl, rfl, ?_, ?_⟩
  · exact fun h => Bool.or_eq_true_iff.mpr (.inl h)
  · intro hlow hcap
    have hcapOf : z.capOf x = s.pool.cap := by
      simp only [State.capOf, hlow, hz, Bool.false_eq_true, if_false]
    exact Bool.or_eq_true_iff.mpr (.inr (decide_eq_true (Nat.le_trans (Nat.le_of_eq hcapOf) hcap)))

/-! ## Release (R24, R177, R178, R195) -/

/-- The pool after a codeword's release. -/
def poolWithout (p : Pool) (c : Carrier) (x : Codeword) : Pool :=
  { p with
    words := p.words.filter (fun y => !y.is x)
    hist := modNth p.hist (min x.iters 32) (· + 1)
    cur := p.cur.upd c (fun k => k.add x.zero (bitsDiffer x.bits x.hard)) }

/-- The counters and occurrences of a codeword's release (R195). -/
def countRelease (z : State) (c : Carrier) (x : Codeword) : State :=
  let corrected := bitsDiffer x.bits x.hard
  let z := (z.add64 (on c Obj.decodedCount) 0 1).add64 Obj.iterHistogram (min x.iters 32) 1
  let z := z.occur 0x6080 { carrier := some c }
  let z := if x.zero then (z.add64 (on c Obj.correctedBits) 0 corrected).occurN 0x6083 corrected { carrier := some c }
    else (z.add64 (on c Obj.uncorrectedCount) 0 1).occur 0x6082 { carrier := some c }
  if x.erased then z.add64 (on c Obj.erasedCount) 0 1 else z

/-- Counting a release changes objects and counters alone. -/
theorem countRelease_keep (z : State) (c : Carrier) (x : Codeword) : Keep 9 z (countRelease z c x) := by
  have hall : Keep 9 z (((z.add64 (on c Obj.decodedCount) 0 1).add64 Obj.iterHistogram (min x.iters 32) 1).occur 0x6080
      { carrier := some c }) :=
    State.occur_keep (State.add64_keep (State.add64_keep (Keep.refl 9 z) rfl _ _ _) rfl _ _ _) rfl _ _
  have hzero := Keep.ite (c := x.zero = true)
    (State.occurN_keep (State.add64_keep hall rfl (on c Obj.correctedBits) 0 (bitsDiffer x.bits x.hard)) rfl 0x6083
      (bitsDiffer x.bits x.hard) { carrier := some c })
    (State.occur_keep (State.add64_keep hall rfl (on c Obj.uncorrectedCount) 0 1) rfl 0x6082 { carrier := some c })
  exact Keep.ite (State.add64_keep hzero rfl _ _ _) hzero

/-- A released codeword is passed on, leaves the pool and is counted; then a free engine of its bank may take another. -/
theorem execCodewordLeaves_of_find {c : Carrier} {frame number : Nat} {trial : Bool} {x : Codeword} {s : State}
    (hx : s.pool.words.find? (fun x => decide (x.carrier = c) && x.frame == frame && x.number == number &&
        x.trial == trial && decide (x.release < s.now + 9765625)) = some x) :
    ∃ z : State, z.pool = poolWithout s.pool c x ∧ (s.passOn x).out <:+ z.out ∧
      (execCodewordLeaves c frame number trial s = .next z ∨
        ∃ b, execCodewordLeaves c frame number trial s = .next (z.fillEngines b)) := by
  have hkeep := countRelease_keep ((s.passOn x).setPool (poolWithout · c x)) c x
  refine ⟨_, (hkeep.pool rfl).trans ?_, hkeep.out, ?_⟩
  · rw [State.setPool, (State.passOn_keep (Keep.refl 128 s) rfl x).pool rfl]
  · unfold execCodewordLeaves
    rw [hx]
    cases hslot : x.slot with
    | none => exact .inl (by simp only [hslot] <;> rfl)
    | some i => exact .inr ⟨bankOf i, by simp only [hslot] <;> rfl⟩

/-- CODEWORD_RELEASE. -/
theorem codewordLeaves_passesOn (c : Carrier) (frame number : Nat) (trial : Bool) (x : Codeword) (s : State)
    (hx : s.pool.words.find? (fun x => decide (x.carrier = c) && x.frame == frame && x.number == number &&
        x.trial == trial && decide (x.release < s.now + 9765625)) = some x) :
    ∃ t, exec (.codewordLeaves c frame number trial) s = .next t ∧
      t.pool.hist = modNth s.pool.hist (min x.iters 32) (· + 1) ∧
      t.pool.cur = s.pool.cur.upd c (fun k => k.add x.zero (bitsDiffer x.bits x.hard)) ∧
      (∀ y ∈ t.pool.words, y.is x = false) ∧
      .codeword c frame number (x.bits % 2 ^ infoBits x.load.rate) (!x.zero) ∈ t.out := by
  obtain ⟨z, hpool, hout, he⟩ := execCodewordLeaves_of_find hx
  have hgone : z.pool.hist = modNth s.pool.hist (min x.iters 32) (· + 1) ∧
      z.pool.cur = s.pool.cur.upd c (fun k => k.add x.zero (bitsDiffer x.bits x.hard)) ∧
      ∀ y ∈ z.pool.words, y.is x = false := by
    rw [hpool]
    exact ⟨rfl, rfl, fun y hy => by simpa only [Bool.not_eq_true'] using (List.mem_filter.mp hy).2⟩
  have hpassed : .codeword c frame number (x.bits % 2 ^ infoBits x.load.rate) (!x.zero) ∈ z.out := by
    have hid := List.find?_some hx
    simp only [Bool.and_eq_true, decide_eq_true_eq, beq_iff_eq] at hid
    obtain ⟨⟨⟨⟨hc, hf⟩, hn⟩, -⟩, -⟩ := hid
    have := hout.subset (passOn_out s x)
    rwa [hc, hf, hn] at this
  rcases he with he | ⟨b, he⟩
  · obtain ⟨hhist, hcur, hwords⟩ := hgone
    exact ⟨z, he, hhist, hcur, hwords, hpassed⟩
  · obtain ⟨hhist, hcur, hwords⟩ := relFin z b x _ _ hgone
    exact ⟨_, he, hhist, hcur, hwords, (State.fillEngines_keep (Keep.refl 4096 z) rfl b).out.subset hpassed⟩

/-! ## Banks (R181, R190 to R193) -/

/-- No log record changes `BankService`. -/
theorem logKey_bankService (b : Fin 4) : logKey (okey (Obj.bankService + 256 * b) 0) = false := by revert b; decide

@[simp] theorem bankSt_setBankSt (s : State) (b v : Nat) : (s.setBankSt b v).bankSt b = v :=
  (s.u_put_same _ _ _).trans (Int.toNat_natCast v)

@[simp] theorem bankSt_setPool (s : State) (f : Pool → Pool) (b : Nat) : (s.setPool f).bankSt b = s.bankSt b :=
  s.setPool_u f _ _

@[simp] theorem bankSt_log (s : State) (k : Nat) (d : List Byte) (b : Fin 4) : (s.log k d).bankSt b = s.bankSt b :=
  s.u_log k d (bk b)

/-- `BankState` and `BankService` of a bank are different objects. -/
@[simp] theorem inService_setBankSt (s : State) (b v : Nat) : (s.setBankSt b v).inService b = s.inService b :=
  congrArg (· == 1) (s.u_put_other _ (okey_ne (by decide) (by decide) (.inl (mt Nat.add_right_cancel (by decide)))))

@[simp] theorem inService_setPool (s : State) (f : Pool → Pool) (b : Nat) : (s.setPool f).inService b = s.inService b :=
  congrArg (· == 1) (s.setPool_u f _ _)

@[simp] theorem inService_log (s : State) (k : Nat) (d : List Byte) (b : Fin 4) : (s.log k d).inService b = s.inService b :=
  congrArg (· == 1) (s.u_log k d (logKey_bankService b))

@[simp] theorem inService_put_one (s : State) (b : Nat) : (s.put (Obj.bankService + 256 * b) 0 1).inService b = true :=
  beq_iff_eq.mpr (s.u_put_same _ _ _)

/-- BANK_DRAINED of an empty bank. -/
theorem exec_bankDrained_of_empty {b : Fin 4} {s : State} (hst : s.bankSt b = 3) (hempty : s.inBank b = []) :
    exec (.bankDrained b) s = .next (s.bankEmpty b) :=
  congrArg Host.Outcome.next (if_pos ⟨hst, by rw [hempty]; rfl⟩)

/-- An empty bank that drains to leave goes out of service. -/
theorem bankEmpty_out {b : Nat} {s : State} (h : nth s.pool.drains b .none = .out) :
    s.bankEmpty b = ((s.setBankSt b 4).setPool (fun p => { p with drains := setNth p.drains b .none })).log 0x6005 (d8 b) := by
  unfold State.bankEmpty
  rw [h]

/-- One that drains for another reason loads its microcode. -/
theorem bankEmpty_load {b : Nat} {s : State} (hout : nth s.pool.drains b .none ≠ .out)
    (hnone : nth s.pool.drains b .none ≠ .none) (hmaster : s.pool.masterBad = false) :
    s.bankEmpty b = s.setBankSt b 5 := by
  unfold State.bankEmpty
  split
  · contradiction
  · contradiction
  · rw [hmaster]; rfl

/-- BANK_DRAINED of a bank that leaves. -/
theorem bankDrained_leaves (b : Fin 4) (s : State) (hst : s.bankSt b = 3) (hempty : s.inBank b = [])
    (hout : nth s.pool.drains b .none = .out) :
    ∃ t, exec (.bankDrained b) s = .next t ∧ t.bankSt b = 4 ∧ Logged s t 0x6005 (d8 b) := by
  refine ⟨_, (exec_bankDrained_of_empty hst hempty).trans (congrArg _ (bankEmpty_out hout)), ?_, ?_⟩
  · rw [bankSt_log, bankSt_setPool, bankSt_setBankSt]
  · refine (Logged.log _ _ _).since (Nat.le_of_eq ?_)
    rw [State.setPool_diag, State.setBankSt_diag]

/-- The bank that a finished load leaves, before its records. -/
def loaded (s : State) (b : Nat) : State :=
  (s.setBankSt b (if s.inService b then 1 else 4)).setPool (fun p => { p with drains := setNth p.drains b .none })

/-- The records of a finished load (R190): the poisoned word, and a bank that was on its way out. -/
def logLoad (z : State) (b : Nat) : Drain → State
  | .poison a => z.log 0x6008 (d8 b ++ d32 a)
  | .poisonOut a =>
    let z := z.log 0x6008 (d8 b ++ d32 a)
    if z.inService b then z else z.log 0x6005 (d8 b)
  | _ => z

theorem logLoad_pool (z : State) (b : Nat) (why : Drain) : (logLoad z b why).pool = z.pool := by
  cases why with
  | poison a => exact State.log_pool ..
  | poisonOut a =>
    unfold logLoad
    dsimp only
    split <;> simp only [State.log_pool]
  | _ => rfl

theorem bankSt_logLoad (z : State) (b : Fin 4) (why : Drain) : (logLoad z b why).bankSt b = z.bankSt b := by
  cases why with
  | poison a => exact bankSt_log ..
  | poisonOut a =>
    unfold logLoad
    dsimp only
    split <;> simp only [bankSt_log]
  | _ => rfl

/-- MICROCODE_RELOAD_DONE leaves the loaded bank and its records. -/
theorem exec_microcodeReloadDone {b : Fin 4} {s : State} (hst : s.bankSt b = 5) (hmaster : s.pool.masterBad = false) :
    exec (.microcodeReloadDone b) s = .next (logLoad (loaded s b) b (nth s.pool.drains b .none)) := by
  refine (congrArg Host.Outcome.next (if_pos ⟨hst, by rw [hmaster]; rfl⟩)).trans ?_
  cases nth s.pool.drains b .none <;> rfl

/-- MICROCODE_RELOAD_DONE. -/
theorem microcodeReloadDone_serves (b : Fin 4) (s : State) (hst : s.bankSt b = 5) (hmaster : s.pool.masterBad = false) :
    ∃ t, exec (.microcodeReloadDone b) s = .next t ∧ t.bankSt b = (if s.inService b then 1 else 4) ∧
      t.pool.drains = setNth s.pool.drains b .none ∧
      ∀ a, nth s.pool.drains b .none = .poison a → Logged s t 0x6008 (d8 b ++ d32 a) := by
  refine ⟨_, exec_microcodeReloadDone hst hmaster, ?_, ?_, fun a ha => ?_⟩
  · rw [bankSt_logLoad, loaded, bankSt_setPool, bankSt_setBankSt]
  · rw [logLoad_pool]
    rfl
  · rw [ha]
    refine (Logged.log _ _ _).since (Nat.le_of_eq ?_)
    rw [loaded, State.setPool_diag, State.setBankSt_diag]

/-- BANK_RETURNED where the lowest bank that is out has its domain awake. -/
theorem exec_bankReturned_of_awake {b : Nat} {s : State} (hrun : 10 ≤ s.pool.failRun)
    (hb : allBanks.find? (fun b => !s.inService b && s.bankSt b != 5 && s.bankSt b != 3) = some b)
    (hdom : s.domOff (Dn.dpa + b) = false) :
    exec .bankReturned s = .next ((((s.put (Obj.bankService + 256 * b) 0 1).setBankSt b 1).setPool (fun p =>
      { p with failRun := 0 })).log 0x6007 (d8 b ++ d8 (s.serviceTest s.serviceBanks - 1))) := by
  have hput : (s.put (Obj.bankService + 256 * b) 0 1).domOff (Dn.dpa + b) = false :=
    (State.domOff_congr (State.put_pow ..) _).trans hdom
  show execBankReturned s = _
  simp only [execBankReturned, if_pos hrun, hb, hput, Bool.false_eq_true, if_false]

/-- BANK_RETURNED. -/
theorem bankReturned_serves (b : Nat) (s : State) (hrun : 10 ≤ s.pool.failRun)
    (hb : allBanks.find? (fun b => !s.inService b && s.bankSt b != 5 && s.bankSt b != 3) = some b)
    (hdom : s.domOff (Dn.dpa + b) = false) :
    ∃ t, exec .bankReturned s = .next t ∧ t.inService b = true ∧ t.bankSt b = 1 ∧ t.pool.failRun = 0 := by
  refine ⟨_, exec_bankReturned_of_awake hrun hb hdom, ?_⟩
  have hbanks : ∀ b ∈ allBanks, b < 4 := by decide
  have hlt := hbanks b (List.mem_of_find?_eq_some hb)
  obtain ⟨b, rfl⟩ : ∃ b' : Fin 4, b'.val = b := ⟨⟨b, hlt⟩, rfl⟩
  refine ⟨?_, ?_, ?_⟩
  · rw [inService_log, inService_setPool, inService_setBankSt, inService_put_one]
  · rw [bankSt_log, bankSt_setPool, bankSt_setBankSt]
  · rw [State.log_pool, State.setPool]

/-- BANK_WAKE_RETRY of a bank whose domain is awake. -/
theorem bankWakeRetry_ends (b : Fin 4) (t0 : Nat) (s : State)
    (hretry : s.pool.wakeRetry.find? (fun x => x.1 == b.val) = some (b.val, t0)) (ht : t0 ≤ s.clk.sfn)
    (hdom : s.domOff (Dn.dpa + b) = false) :
    ∃ t, exec (.bankWakeRetry b) s = .next t ∧ t.pool.wakeRetry = s.pool.wakeRetry.filter (fun x => x.1 != b.val) := by
  have hawake : ∀ f, (s.setPool f).wakeBank b = s.setPool f := fun f => by
    unfold State.wakeBank
    rw [State.domOff_congr (State.setPool_pow ..), hdom]
    rfl
  refine ⟨s.setPool (fun p => { p with wakeRetry := p.wakeRetry.filter (fun x => x.1 != b.val) }), ?_, rfl⟩
  show execBankWakeRetry b s = _
  simp only [execBankWakeRetry, hretry, if_pos ht, hawake, ite_self]

/-! ## The iteration grant (R184) -/

/-- A grant set is the pool's grant, and no lower one is on its way. -/
theorem setGrant_pool (s : State) (g : Nat) : (s.setGrant g).pool = { s.pool with grant := g, pendGrant := none } := by
  unfold State.setGrant
  dsimp only
  split <;> rfl

/-- A refused request changes nothing of the pool but the next asking. -/
theorem askGrant_refused_pool {s : State} (hlack : s.pool.grant < s.pool.request)
    (hjudge : s.judge Act.iter 0 (s.pool.request - s.pool.grant) ≠ 0) :
    s.askGrant.pool = { s.pool with grantRetry := some (s.clk.sfn + 100) } := by
  have hask : (s.ask Act.iter 0 (s.pool.request - s.pool.grant)).1 ≠ 0 := by
    unfold State.ask
    rwa [if_neg hjudge]
  unfold State.askGrant
  dsimp only
  rw [if_neg (Nat.sub_ne_zero_of_lt hlack), if_neg hask, State.setPool,
    (State.ask_keep (Keep.refl 89 s) rfl _ _ _).pool rfl]

/-- A request that is covered is not asked again. -/
theorem askGrant_covered {s : State} (h : s.pool.request ≤ s.pool.grant) :
    s.askGrant = s.setPool (fun p => { p with grantRetry := none }) := by
  unfold State.askGrant
  exact if_pos (Nat.sub_eq_zero_of_le h)

/-- GRANT_REQUEST_RETRY asks where its time has come. -/
theorem exec_grantRequestRetry_of_le {s : State} {t0 : Nat} (hretry : s.pool.grantRetry = some t0) (ht : t0 ≤ s.clk.sfn) :
    exec .grantRequestRetry s = .next s.askGrant := by
  show execGrantRequestRetry s = _
  simp only [execGrantRequestRetry, hretry, if_pos ht]

/-- GRANT_EFFECTIVE whose time has come. -/
theorem exec_grantEffective_of_le {s : State} {g t0 : Nat} (hpend : s.pool.pendGrant = some (g, t0)) (ht : t0 ≤ s.clk.sfn) :
    exec .grantEffective s = .next (s.setGrant g) := by
  show execGrantEffective s = _
  simp only [execGrantEffective, State.grantDue, hpend, if_pos ht]

/-! ## The pool -/

/-- Settles O30: each command completes in the state that its rule above names. Where free engines then take codewords,
they change only which codewords run, so the part is stated of a codeword with that mark put aside. -/
theorem poolWorks : Obligations.PoolWorks := by
  refine ⟨?slot, newWord_fields, ?overflow, iterationEnd_counts, ?late,
    codewordLeaves_passesOn, bankDrained_leaves, ?load, microcodeReloadDone_serves, bankReturned_serves,
    bankWakeRetry_ends, ?effective, ?refused, ?covered⟩
  case slot =>
    intro c g b i l s hl hg hslot hlast
    exact ⟨_, rfl, slotFin s c g l hl hg _ rfl _ rfl (wordSlot c g b i l s hslot hlast)⟩
  case overflow =>
    intro c g l s hl hg hslot hlast
    obtain ⟨hwords, hcount⟩ := wordOver c g l s hslot hlast
    exact ⟨_, rfl, (overFin s c g l hl hg _ rfl).trans hcount, slotFin s c g l hl hg _ rfl _ rfl hwords⟩
  case late =>
    intro slot x s hx ht
    obtain ⟨hused, hword⟩ := setFill s x (fun y => { y with running := false, finished := true }) (bankOf slot)
      (List.mem_of_find?_eq_some hx) (fun _ _ => rfl) rfl
    exact ⟨_, execIterationEnd_of_le hx ht, hused, hword⟩
  case load =>
    intro b s hst hempty hout hnone hmaster
    exact ⟨_, (exec_bankDrained_of_empty hst hempty).trans (congrArg _ (bankEmpty_load hout hnone hmaster)),
      bankSt_setBankSt .., State.setBankSt_pool ..⟩
  case effective =>
    intro g t0 s hpend ht
    exact ⟨_, exec_grantEffective_of_le hpend ht, by rw [setGrant_pool], by rw [setGrant_pool]⟩
  case refused =>
    intro t0 s hretry ht hlack hjudge
    have hpool := askGrant_refused_pool hlack hjudge
    exact ⟨_, exec_grantRequestRetry_of_le hretry ht, by rw [hpool], by rw [hpool]⟩
  case covered =>
    intro t0 s hretry ht hcover
    exact ⟨_, exec_grantRequestRetry_of_le hretry ht, by rw [askGrant_covered hcover]; rfl,
      by rw [askGrant_covered hcover]; rfl⟩

end Sys2Proof.Proofs.SignalPath
end

section
/-! The statements on the superframe and the Sundial (02_superframe_and_sundial.md): the idle step (R33, R34), instants
and their order (R35, R50), what moves the local SFN (R33, R60, R62), the boundaries and the entries that run at them
(R33, R36, R43, R47, R55, R56, R159), and the Grotto's owner slots, quotes and roots, whose installation falls due on an
SFN (R293, R294, R307, R314). -/

namespace Sys2Proof.Proofs.Superframe

open Sys2Proof.Machine Sys2Proof.Claims

/-! ## The idle step (R33, R34) -/

/-- With no command waiting a step is an idle step. -/
theorem step_of_pending_nil {s : State} (h : s.pending = []) : step s = .next s.idle := by
  unfold step
  rw [h]

/-- The tick moves on within the superframe. -/
theorem idle_of_lt {s : State} (hon : s.pow.on = true) (hka : s.pow.keepAlive = false) (htick : s.clk.tick < 1023) :
    s.idle = { s with clk := { s.clk with tick := s.clk.tick + 1 } } := by
  simp only [State.idle, hon, hka, if_pos htick, Bool.true_eq_false, Bool.false_eq_true, or_self, if_false]

/-- Without power, in keep-alive mode and at the last tick nothing moves. -/
theorem idle_eq_self {s : State} (h : s.pow.on = false ∨ s.pow.keepAlive = true ∨ 1023 ≤ s.clk.tick) : s.idle = s := by
  unfold State.idle
  split
  · rfl
  next hrun =>
    have hlast : ¬ s.clk.tick < 1023 := fun hlt => (or_assoc.mpr h).elim hrun (Nat.not_le.mpr hlt)
    rw [if_neg hlast]

/-- Settles O2: the idle step moves the tick unless one of its three reasons to stand still holds. -/
theorem emptyQueueIdles : Obligations.EmptyQueueIdles :=
  ⟨fun _ hq hon hka htick => by rw [step_of_pending_nil hq, idle_of_lt hon hka htick],
   fun _ hq hstill => by rw [step_of_pending_nil hq, idle_eq_self hstill]⟩

/-! ## Instants and their order (R35, R50) -/

/-- Settles O14: an entry's instant is formed from its count, its SFN and its tick alone. -/
theorem offsetsBecomeTicks : Obligations.OffsetsBecomeTicks := by
  refine ⟨fun s e c n hsym hc hn => ?_, fun s x y hcount hsfn htick => ?_⟩
  · simp only [State.tickOf, hsym, hc, hn, if_true]
  · simp only [State.entryInstant, hcount, hsfn, htick]

/-- Settles O13: the order is a merge sort by a relation that compares the five keys as a list, which is transitive and
total. -/
theorem entriesRunInOrder : Obligations.EntriesRunInOrder := by
  refine fun s l => ⟨List.mergeSort_perm l _, ?_⟩
  have hsorted := List.pairwise_mergeSort (le := s.runsBefore)
    (fun x y z hxy hyz => decide_eq_true (Std.le_trans (of_decide_eq_true hxy) (of_decide_eq_true hyz)))
    (fun x y => by simpa only [Bool.or_eq_true, State.runsBefore, decide_eq_true_eq] using Std.le_total) l
  exact hsorted.imp fun hxy => of_decide_eq_true hxy

/-! ## What moves the local SFN (R33, R60, R62) -/

/-- The restarts and the change of supply mode that set local time anew. -/
def IsRestart (i : Instr) : Prop :=
  i = .powerOn ∨ (∃ ns, i = .resetn ns) ∨ (∃ k, i = .brownOut k) ∨ i = .latchOffRestart ∨
    ∃ k u b c, i = .keepAliveExit k u b c

/-- Of every other command but LOCAL_BOUNDARY, the local SFN is not among the parts that it may change. -/
theorem isRestart_or_localBoundary_or_keepMask (i : Instr) :
    IsRestart i ∨ (∃ x, i = .localBoundary x) ∨ Nat.land (keepMask i) 16777216 = 0 := by
  cases i with
  | powerOn => exact .inl (.inl rfl)
  | resetn ns => exact .inl (.inr (.inl ⟨ns, rfl⟩))
  | brownOut k => exact .inl (.inr (.inr (.inl ⟨k, rfl⟩)))
  | latchOffRestart => exact .inl (.inr (.inr (.inr (.inl rfl))))
  | keepAliveExit k u b c => exact .inl (.inr (.inr (.inr (.inr ⟨k, u, b, c, rfl⟩))))
  | localBoundary x => exact .inr (.inl ⟨x, rfl⟩)
  | _ => exact .inr (.inr (by simp only [keepMask]; rfl))

theorem isRestart_or_localBoundary_of_sfn_ne {i : Instr} {s t : State} (h : exec i s = .next t)
    (hne : t.clk.sfn ≠ s.clk.sfn) : IsRestart i ∨ ∃ x, i = .localBoundary x := by
  rcases isRestart_or_localBoundary_or_keepMask i with hi | hi | hmask
  · exact .inl hi
  · exact .inr hi
  · exact absurd ((exec_keep i s t h).sfn hmask) hne

/-- A local boundary never turns local time back. -/
theorem sfn_le_of_localBoundary {x : SfIn} {s t : State} (h : exec (.localBoundary x) s = .next t) :
    s.clk.sfn ≤ t.clk.sfn :=
  (exec_keep _ s t h).later (by simp only [keepMask]; rfl)

/-- Settles O9: what moves the local SFN is a restart or a local boundary, and the latter never lowers it. -/
theorem timeNeverFalls : Obligations.TimeNeverFalls := by
  refine ⟨fun i s t h hlt => ?_, fun i s t h hne => ?_⟩
  · rcases isRestart_or_localBoundary_of_sfn_ne h (Nat.ne_of_lt hlt) with hi | ⟨x, rfl⟩
    · exact hi
    · exact absurd (sfn_le_of_localBoundary h) (Nat.not_le.mpr hlt)
  · simpa only [IsRestart, or_assoc] using isRestart_or_localBoundary_of_sfn_ne h hne

/-! ## Folds of which little acts -/

/-- A fold whose every step leaves its start as it is. -/
theorem foldl_eq_self {α β : Type} {f : β → α → β} {b : β} {l : List α} (h : ∀ a ∈ l, f b a = b) : l.foldl f b = b := by
  induction l with
  | nil => rfl
  | cons a l ih =>
    rw [List.foldl_cons, h a List.mem_cons_self]
    exact ih fun x hx => h x (List.mem_cons_of_mem a hx)

/-- A fold of which one element acts, and the others neither before nor after it. -/
theorem foldl_eq_of_one_acts {α β : Type} {f : β → α → β} {b : β} {k : α} {l : List α} (hl : l.Nodup) (hk : k ∈ l)
    (hbefore : ∀ j ∈ l, j ≠ k → f b j = b) (hafter : ∀ j ∈ l, j ≠ k → f (f b k) j = f b k) : l.foldl f b = f b k := by
  induction l with
  | nil => cases hk
  | cons a l ih =>
    obtain ⟨ha, hl⟩ := List.nodup_cons.mp hl
    rw [List.foldl_cons]
    by_cases hak : a = k
    · subst hak
      exact foldl_eq_self fun j hj => hafter j (List.mem_cons_of_mem _ hj) fun e => ha (e ▸ hj)
    · rw [hbefore a List.mem_cons_self hak]
      exact ih hl ((List.mem_cons.mp hk).resolve_left (Ne.symm hak)) (fun j hj => hbefore j (List.mem_cons_of_mem _ hj))
        (fun j hj => hafter j (List.mem_cons_of_mem _ hj))

section Boundaries

open Sys2Proof.Laws.OfBoundary

/-! ## Local boundaries (R33, R61) -/

/-- LOCAL_BOUNDARY while a step back withholds it. -/
theorem localBoundary_withheld (x : SfIn) (s : State) (hon : s.pow.on = true) (hka : s.pow.keepAlive = false)
    (hw : s.clk.withhold ≠ 0) :
    ∃ t, exec (.localBoundary x) s = .next t ∧ t.clk.withhold + 1 = s.clk.withhold ∧ t.clk.sfn = s.clk.sfn ∧
      t.live = s.live := by
  refine ⟨{ s with clk := { s.clk with withhold := s.clk.withhold - 1 } }, ?_, Nat.sub_one_add_one hw, rfl, rfl⟩
  show execLocalBoundary x s = _
  simp only [execLocalBoundary, hon, hka, if_pos hw, Bool.true_eq_false, Bool.false_eq_true, or_self, if_false]

/-- LOCAL_BOUNDARY that nothing withholds. -/
theorem exec_localBoundary (x : SfIn) {s : State} (hon : s.pow.on = true) (hka : s.pow.keepAlive = false)
    (hw : s.clk.withhold = 0) : exec (.localBoundary x) s = .next (s.boundary x) := by
  show execLocalBoundary x s = _
  simp only [execLocalBoundary, hon, hka, hw, ne_eq, not_true_eq_false, Bool.true_eq_false, Bool.false_eq_true, or_self,
    if_false]

/-- Local time at the start of the next superframe. -/
def nextFrame (s : State) : State := { s with clk := { s.clk with sfn := s.clk.sfn + 1, tick := 0 } }

@[simp] theorem nextFrame_sfn (s : State) : (nextFrame s).clk.sfn = s.clk.sfn + 1 := rfl

@[simp] theorem nextFrame_diag (s : State) : (nextFrame s).diag = s.diag := rfl

/-- The Belvedere's work at a boundary, done or not, moves local time forwards alone, and only with a record. -/
theorem belBoundary_ite_steps (b : Bool) (s : State) (x : BelIn) :
    s.clk.sfn ≤ (if b then s.belBoundary x else s).clk.sfn ∧
      ((if b then s.belBoundary x else s).clk.sfn = s.clk.sfn ∨ Stepped s (if b then s.belBoundary x else s)) := by
  cases b with
  | false => exact ⟨Nat.le_refl _, .inl rfl⟩
  | true => exact ⟨(State.belBoundary_keep (Keep.refl 25149437 s) rfl x).later rfl, belBoundary_steps s x⟩

/-- The cipher counters that pass over skipped frames. -/
theorem countersPass_ite_keep (n : Nat) (s : State) :
    Keep 16385 s (if n = 0 then s else [Carrier.a, Carrier.b].foldl (fun y c =>
      y.countersPass c .tx (y.fr c).txMap (y.u (on c Obj.txPlotCapacity)) n) s) :=
  Keep.ite (Keep.refl _ s) (Keep.foldl (Keep.refl _ s) (fun y c hy =>
    State.countersPass_keep hy rfl c .tx (y.fr c).txMap (y.u (on c Obj.txPlotCapacity)) n) _)

/-- A boundary raises the local SFN by one ahead of its frame's work, and of that work only the Belvedere's may move it
further. The number 117440511 stands for every part but the local SFN: up to the Belvedere anything else may change. -/
theorem boundary_raises (s : State) (x : SfIn) :
    s.clk.sfn + 1 ≤ (s.boundary x).clk.sfn ∧
      ((s.boundary x).clk.sfn = s.clk.sfn + 1 ∨ Stepped s (s.boundary x)) := by
  unfold State.boundary
  extract_lets aop full cells clk risen ran worked woken sent belOk t skipped
  have hfull : Keep 117440511 s full :=
    State.setAop_keep (Keep.refl 117440511 s) rfl fun a => { a with full := x.full.map fun (t : Fin 5) => t.val }
  have hcells : Keep 117440511 s cells := State.cipherPass_keep (State.cipherPass_keep hfull rfl .a) rfl .b
  have hnext : risen = nextFrame cells := rfl
  have hrisen : risen.clk.sfn = s.clk.sfn + 1 := by rw [hnext, nextFrame_sfn, hcells.sfn rfl]
  have hseq : s.diag.nextSeq ≤ risen.diag.nextSeq := by
    rw [hnext, nextFrame_diag]
    exact hcells.nextSeq
  have hran : Keep 117440511 risen ran :=
    State.runDue_keep (State.counterBoundary_keep (State.runSnapshots_keep (State.runLate_keep
      (State.budgetReport_keep (Keep.refl 117440511 risen) rfl) rfl) rfl) rfl) rfl .loc 0
  have hworked : Keep 117440511 risen worked :=
    State.lineBoundary_keep (State.unitsBoundary_keep (State.restoreBoundary_keep (State.saveBoundary_keep hran rfl) rfl)
      rfl) rfl x
  have hwoken : Keep 117440511 risen woken :=
    State.showKeeper_keep (State.roleRun_keep (State.membershipRun_keep (State.subsBoundary_keep
      (State.lineWakes_keep hworked rfl) rfl) rfl) rfl) rfl
  have hsent : Keep 117440511 risen sent := State.transmit_keep (State.transmit_keep hwoken rfl .a _) rfl .b _
  have hclock := belBoundary_ite_steps belOk sent x.bel
  rw [show (if belOk = true then sent.belBoundary x.bel else sent) = t from rfl] at hclock
  obtain ⟨hlater, hstep⟩ := hclock
  have hpassed := countersPass_ite_keep skipped t
  clear_value t sent risen
  refine ⟨?_, ?_⟩
  · rw [hpassed.sfn rfl, ← hrisen, ← hsent.sfn rfl]
    exact hlater
  · rw [← hrisen]
    exact (steps_between hsent hstep (hpassed.mono rfl)).imp_right (·.since hseq)

/-! ## Received boundaries (R36) -/

/-- RECEIVED_BOUNDARY without frame lock. -/
theorem exec_receivedBoundary_unlocked (c : Carrier) (delay : BitVec 32) (arrive : Int) (x : RxIn) {s : State}
    (hon : s.pow.on = true) (hka : s.pow.keepAlive = false) (hrx : s.awake (Dn.rx c) = true)
    (hlock : s.u (on c Obj.frameLock) ≠ 1) :
    exec (.receivedBoundary c delay arrive x) s = .next ((s.eqReceived c x false).loadingReceived c x) := by
  have hfree : (s.u (on c Obj.frameLock) == 1) = false := beq_false_of_ne hlock
  show execReceivedBoundary c delay arrive x s = _
  simp only [execReceivedBoundary, hon, hka, hrx, hfree, Bool.false_and, Bool.not_true, Bool.true_eq_false,
    Bool.false_eq_true, or_self, if_false]

/-- RECEIVED_BOUNDARY with frame lock. -/
theorem exec_receivedBoundary_locked (c : Carrier) (delay : BitVec 32) (arrive : Int) (x : RxIn) {s : State}
    (hon : s.pow.on = true) (hka : s.pow.keepAlive = false) (hrx : s.awake (Dn.rx c) = true)
    (hlock : s.u (on c Obj.frameLock) = 1) :
    exec (.receivedBoundary c delay arrive x) s = .next (
      let u := s.countReceived c delay.toNat
      let n := u.u (on c Obj.rxSfn)
      let due := decide ((s.fr c).ranTo < n)
      let v := ((u.eqReceived c x (due && !(u.entriesAt (.rx c) n).isEmpty)).loadingReceived c x).arrives c n arrive
      if due then v.runDue (.rx c) 0 else v) := by
  show execReceivedBoundary c delay arrive x s = _
  simp only [execReceivedBoundary, hon, hka, hrx, hlock, beq_self_eq_true, Bool.true_and, Bool.not_true,
    Bool.true_eq_false, Bool.false_eq_true, or_self, if_false, if_true]

/-- RECEIVED_BOUNDARY, with frame lock and without; the local SFN is not among the parts that it may change. -/
theorem receivedBoundary_counts (c : Carrier) (delay : BitVec 32) (arrive : Int) (x : RxIn) (s : State)
    (hon : s.pow.on = true) (hka : s.pow.keepAlive = false) (hrx : s.awake (Dn.rx c) = true) :
    ∃ t, exec (.receivedBoundary c delay arrive x) s = .next t ∧ t.clk.sfn = s.clk.sfn ∧
      (s.u (on c Obj.frameLock) ≠ 1 → t = (s.eqReceived c x false).loadingReceived c x) ∧
      (s.u (on c Obj.frameLock) = 1 →
        let u := s.countReceived c delay.toNat
        let n := u.u (on c Obj.rxSfn)
        let due := decide ((s.fr c).ranTo < n)
        let v := ((u.eqReceived c x (due && !(u.entriesAt (.rx c) n).isEmpty)).loadingReceived c x).arrives c n arrive
        t = if due then v.runDue (.rx c) 0 else v) := by
  obtain ⟨t, ht, hkeep⟩ := exec_next (.receivedBoundary c delay arrive x) s
  refine ⟨t, ht, hkeep.sfn (by simp only [keepMask]; rfl), fun hlock => ?_, fun hlock => ?_⟩
  · exact Host.Outcome.next.inj (ht.symm.trans (exec_receivedBoundary_unlocked c delay arrive x hon hka hrx hlock))
  · exact Host.Outcome.next.inj (ht.symm.trans (exec_receivedBoundary_locked c delay arrive x hon hka hrx hlock))

/-! ## One entry at its instant (R39, R47, R55, R56) -/

variable {k : SCount} {tick : Fin 1024} {e : Entry} {s : State}

/-- A domain of a list sleeps, as `State.runEntry` tests it. -/
theorem any_asleep {l : List Nat} (h : ∃ d ∈ l, s.awake d = false) : l.any (fun d => !s.awake d) = true := by
  obtain ⟨d, hd, ha⟩ := h
  exact List.any_eq_true.mpr ⟨d, hd, by rw [ha]; rfl⟩

/-- A local or agreed entry whose domains are awake acts. -/
theorem runEntry_of_awake {u : State} (hst : e.coord = true → e.st = .agreed) (haw : ∀ d ∈ e.needs, s.awake d = true)
    (hact : (s.freeEntry e).act e false = some u) : s.runEntry e false = u.occur 0xE080 e.attr := by
  have hagreed : ¬(e.coord = true ∧ e.st ≠ .agreed) := fun h => h.2 (hst h.1)
  simp only [State.runEntry, if_neg hagreed, awake_needs haw, hact, Bool.false_eq_true, and_false, false_and, if_false]

/-- A coordinated entry that is not agreed is cancelled. -/
theorem runEntry_of_not_agreed (late : Bool) (hc : e.coord = true) (hst : e.st ≠ .agreed) :
    s.runEntry e late = s.commitFail e := by
  unfold State.runEntry
  exact if_pos ⟨hc, hst⟩

/-- An agreed entry that cannot run is missed. -/
theorem runEntry_of_coord_asleep (late : Bool) (hc : e.coord = true) (hst : e.st = .agreed)
    (has : ∃ d ∈ e.needs, s.awake d = false) : s.runEntry e late = s.missEntry e 0 := by
  simp only [State.runEntry, hc, hst, any_asleep has, ne_eq, not_true_eq_false, and_false, and_self, if_false, if_true]

/-- A local entry that cannot run waits, but for those of a rotation. -/
theorem runEntry_of_local_asleep (late : Bool) (hc : e.coord = false) (hswap : e.kind ≠ .sliceSwap)
    (hcal : e.kind ≠ .calWindow) (has : ∃ d ∈ e.needs, s.awake d = false) :
    s.runEntry e late = s.setEntry e.num (fun x => { x with st := .pendingLate, late := true }) := by
  have hrot : ¬(e.kind = .sliceSwap ∨ e.kind = .calWindow) := fun h => h.elim hswap hcal
  simp only [State.runEntry, hc, any_asleep has, if_neg hrot, Bool.false_eq_true, false_and, true_and, if_false, if_true]

theorem missEntry_entries (s : State) (e : Entry) (reason : Nat) :
    (s.missEntry e reason).clk.entries = s.clk.entries.filter (fun x => x.num != e.num) := by
  have hclk : (s.missEntry e reason).clk = (s.freeEntry e).clk := by
    simp only [State.missEntry, State.logEntry_clk, State.bump_clk]
  rw [hclk]
  rfl

theorem missEntry_logs (s : State) (e : Entry) (reason : Nat) :
    Logged s (s.missEntry e reason) 0xE002 (e.octets ++ d8 reason) := by
  have hdiag : ((s.freeEntry e).bump Obj.missedCount).diag = s.diag := State.bump_diag (s.freeEntry e) _ _
  exact (Logged.logEntry _ 0xE002 e (d8 reason)).since (Nat.le_of_eq (congrArg Diag.nextSeq hdiag.symm))

/-! ## An instant of a count (R50) -/

/-- The machine as an instant of a count comes: on the local count its tick is reached. -/
def atTick (k : SCount) (tick : Fin 1024) (s : State) : State :=
  if k = .loc then { s with clk := { s.clk with tick := max s.clk.tick tick } } else s

/-- It differs in the tick alone. -/
theorem atTick_eq (k : SCount) (tick : Fin 1024) (s : State) :
    ∃ n, (k = .loc → n = max s.clk.tick tick) ∧ atTick k tick s = { s with clk := { s.clk with tick := n } } := by
  unfold atTick
  split
  next => exact ⟨_, fun _ => rfl, rfl⟩
  next hk => exact ⟨s.clk.tick, fun h => absurd h hk, rfl⟩

@[simp] theorem atTick_entries (k : SCount) (tick : Fin 1024) (s : State) :
    (atTick k tick s).clk.entries = s.clk.entries := by
  obtain ⟨n, -, h⟩ := atTick_eq k tick s
  rw [h]

@[simp] theorem atTick_awake (k : SCount) (tick : Fin 1024) (s : State) (d : Nat) :
    (atTick k tick s).awake d = s.awake d := by
  obtain ⟨n, -, h⟩ := atTick_eq k tick s
  exact State.awake_congr (by rw [h]) d

@[simp] theorem atTick_live (k : SCount) (tick : Fin 1024) (s : State) : (atTick k tick s).live = s.live := by
  obtain ⟨n, -, h⟩ := atTick_eq k tick s
  rw [h]

@[simp] theorem atTick_diag (k : SCount) (tick : Fin 1024) (s : State) : (atTick k tick s).diag = s.diag := by
  obtain ⟨n, -, h⟩ := atTick_eq k tick s
  rw [h]

@[simp] theorem atTick_countNow (k j : SCount) (tick : Fin 1024) (s : State) :
    (atTick k tick s).countNow j = s.countNow j := by
  obtain ⟨n, -, h⟩ := atTick_eq k tick s
  rw [h]
  cases j <;> rfl

/-- SUNDIAL_ENTRY_RUN runs what is due at the instant. -/
theorem exec_sundialEntryRun (k : SCount) (tick : Fin 1024) (hon : s.pow.on = true) (hka : s.pow.keepAlive = false) :
    exec (.sundialEntryRun k tick) s = .next ((atTick k tick s).runDue k tick) := by
  show execSundialEntryRun k tick s = _
  simp only [execSundialEntryRun, hon, hka, Bool.true_eq_false, Bool.false_eq_true, or_self, if_false, atTick]

/-- One entry is due as an instant of a count comes. -/
def OnlyDue (k : SCount) (tick : Fin 1024) (e : Entry) (s : State) : Prop :=
  ((atTick k tick s).entriesAt k ((atTick k tick s).countNow k)).filter
    (fun x => (atTick k tick s).tickOf x == tick.val && decide (x.st ≠ .pendingLate)) = [e] ∧
  s.clk.entries.find? (fun x => x.num == e.num) = some e

/-- The one entry due runs. -/
theorem exec_sundialEntryRun_one (hon : s.pow.on = true) (hka : s.pow.keepAlive = false) (h : OnlyDue k tick e s) :
    exec (.sundialEntryRun k tick) s = .next ((atTick k tick s).runEntry e false) := by
  obtain ⟨hdue, hfind⟩ := h
  rw [exec_sundialEntryRun k tick hon hka, runDue_one _ k tick e hdue (by rwa [atTick_entries])]

/-- Where nothing is due nothing runs. -/
theorem runDue_eq_self {n : Nat} (h : ∀ x ∈ s.clk.entries, x.count = k → s.countNow k = x.sfn → x.st = .pendingLate) :
    s.runDue k n = s := by
  have hnone : (s.entriesAt k (s.countNow k)).filter (fun x => s.tickOf x == n && decide (x.st ≠ .pendingLate)) = [] := by
    refine List.filter_eq_nil_iff.mpr fun x hx => ?_
    simp only [State.entriesAt, List.mem_filter, Bool.and_eq_true, decide_eq_true_eq, beq_iff_eq] at hx
    obtain ⟨hmem, hcount, hsfn⟩ := hx
    simp [h x hmem hcount hsfn.symm]
  unfold State.runDue State.runOrder
  rw [hnone, List.mergeSort_nil]
  rfl

/-- SUNDIAL_ENTRY_RUN of an entry whose domains are awake. -/
theorem sundialEntryRun_runs {u : State} (hon : s.pow.on = true) (hka : s.pow.keepAlive = false)
    (h : OnlyDue k tick e s) (hst : e.coord = true → e.st = .agreed) (haw : ∀ d ∈ e.needs, s.awake d = true)
    (hact : ((atTick k tick s).freeEntry e).act e false = some u) :
    exec (.sundialEntryRun k tick) s = .next (u.occur 0xE080 e.attr) := by
  rw [exec_sundialEntryRun_one hon hka h, runEntry_of_awake hst (by simpa only [atTick_awake] using haw) hact]

/-- SUNDIAL_ENTRY_RUN of an entry not agreed. -/
theorem sundialEntryRun_cancels (hon : s.pow.on = true) (hka : s.pow.keepAlive = false) (h : OnlyDue k tick e s)
    (hc : e.coord = true) (hst : e.st ≠ .agreed) :
    ∃ t, exec (.sundialEntryRun k tick) s = .next t ∧ Logged s t 0xE003 e.octets := by
  refine ⟨_, exec_sundialEntryRun_one hon hka h, ?_⟩
  rw [runEntry_of_not_agreed false hc hst]
  exact (commitFail_logs _ e).since (Nat.le_of_eq (congrArg Diag.nextSeq (atTick_diag k tick s).symm))

/-- SUNDIAL_ENTRY_RUN of an agreed entry whose domain sleeps. -/
theorem sundialEntryRun_misses (hon : s.pow.on = true) (hka : s.pow.keepAlive = false) (h : OnlyDue k tick e s)
    (hc : e.coord = true) (hst : e.st = .agreed) (has : ∃ d ∈ e.needs, s.awake d = false) :
    ∃ t, exec (.sundialEntryRun k tick) s = .next t ∧ Logged s t 0xE002 (e.octets ++ d8 0) ∧
      t.clk.entries = s.clk.entries.filter (fun x => x.num != e.num) := by
  refine ⟨_, exec_sundialEntryRun_one hon hka h, ?_⟩
  rw [runEntry_of_coord_asleep false hc hst (by simpa only [atTick_awake] using has)]
  refine ⟨(missEntry_logs _ e 0).since (Nat.le_of_eq (congrArg Diag.nextSeq (atTick_diag k tick s).symm)), ?_⟩
  rw [missEntry_entries, atTick_entries]

/-- SUNDIAL_ENTRY_RUN of a local entry whose domain sleeps. -/
theorem sundialEntryRun_waits (hon : s.pow.on = true) (hka : s.pow.keepAlive = false) (h : OnlyDue k tick e s)
    (hc : e.coord = false) (hswap : e.kind ≠ .sliceSwap) (hcal : e.kind ≠ .calWindow)
    (has : ∃ d ∈ e.needs, s.awake d = false) :
    ∃ t, exec (.sundialEntryRun k tick) s = .next t ∧ t.live = s.live ∧ t.clk.entries = s.clk.entries.map (fun x =>
      if x.num = e.num then { x with st := .pendingLate, late := true } else x) := by
  refine ⟨_, exec_sundialEntryRun_one hon hka h, ?_⟩
  rw [runEntry_of_local_asleep false hc hswap hcal (by simpa only [atTick_awake] using has), ← atTick_entries k tick s,
    ← atTick_live k tick s]
  exact ⟨rfl, rfl⟩

/-- SUNDIAL_ENTRY_RUN with nothing due. -/
theorem sundialEntryRun_idle (k : SCount) (tick : Fin 1024) (s : State) (hon : s.pow.on = true)
    (hka : s.pow.keepAlive = false)
    (h : ∀ e ∈ s.clk.entries, e.count = k → s.countNow k = e.sfn → e.st = .pendingLate) :
    ∃ t, exec (.sundialEntryRun k tick) s = .next t ∧ t.clk.entries = s.clk.entries ∧ t.live = s.live ∧
      (k = .loc → t.clk.tick = max s.clk.tick tick) := by
  refine ⟨atTick k tick s, ?_, atTick_entries k tick s, atTick_live k tick s, fun hk => ?_⟩
  · rw [exec_sundialEntryRun k tick hon hka, runDue_eq_self (by simpa only [atTick_entries, atTick_countNow] using h)]
  · obtain ⟨n, hn, ht⟩ := atTick_eq k tick s
    rw [ht, ← hn hk]

/-! ## Pre-wakes (R43, R450, R454) -/

/-- SUNDIAL_PRE_WAKE with one answered entry, which needs one domain. -/
theorem exec_sundialPreWake_one {d : Nat} (he : s.clk.entries = [e]) (hst : e.st ≠ .proposed) (hd : e.wakes = [d])
    (hdom : (s.dom d).st ≠ .entering) (hnow : s.entryInstant e ≤ s.now + s.wakeLatency d * 100000000) :
    exec .sundialPreWake s = .next (s.accessDom d (e.coord && decide (e.st = .agreed))).2 := by
  show execSundialPreWake s = _
  simp only [execSundialPreWake, he, List.filter_cons, List.filter_nil, decide_eq_true hst, if_true,
    List.mergeSort_singleton, List.foldl_cons, List.foldl_nil, hd, if_neg (Nat.not_lt.mpr hnow), hdom, false_and, if_false]

/-- SUNDIAL_PRE_WAKE of a domain that sleeps. -/
theorem sundialPreWake_wakes (e : Entry) (d : Nat) (s : State) (he : s.clk.entries = [e]) (hst : e.st ≠ .proposed)
    (hd : e.wakes = [d]) (hoff : s.domOff d = true)
    (hnow : s.entryInstant e ≤ s.now + s.wakeLatency d * 100000000) :
    exec .sundialPreWake s = .next (s.accessDom d (e.coord && decide (e.st = .agreed))).2 := by
  have hdom : (s.dom d).st = .off := of_decide_eq_true hoff
  exact exec_sundialPreWake_one he hst hd (by rw [hdom]; decide) hnow

/-- SUNDIAL_PRE_WAKE of a domain that is awake. -/
theorem sundialPreWake_touches (e : Entry) (d : Nat) (s : State) (he : s.clk.entries = [e]) (hst : e.st ≠ .proposed)
    (hd : e.wakes = [d]) (hdom : (s.dom d).st = .awake)
    (hnow : s.entryInstant e ≤ s.now + s.wakeLatency d * 100000000) : exec .sundialPreWake s = .next (s.touch d) := by
  rw [exec_sundialPreWake_one he hst hd (by rw [hdom]; decide) hnow,
    Sys2Proof.Laws.OfStores.accessDom_awake s d _ (decide_eq_true hdom)]

/-- SUNDIAL_PRE_WAKE before every entry's pre-wake. -/
theorem exec_sundialPreWake_early (s : State)
    (h : ∀ e ∈ s.clk.entries, ∀ d ∈ e.wakes, s.now + s.wakeLatency d * 100000000 < s.entryInstant e) :
    exec .sundialPreWake s = .next s := by
  refine congrArg Host.Outcome.next (foldl_eq_self fun e he => foldl_eq_self fun d hd => if_pos ?_)
  exact h e (List.mem_filter.mp (List.mem_mergeSort.mp he)).1 d hd

/-! ## The commit point (R47) -/

/-- COMMIT_POINT with one proposal due. -/
theorem exec_commitPoint_one
    (h : s.clk.entries.filter (fun x => x.coord && decide (x.st = .proposed) && decide (x.sfn ≤ s.clk.sfn + 4)) = [e]) :
    exec .commitPoint s = .next (s.commitFail e) := by
  have hmem : e ∈ s.clk.entries := (List.mem_filter.mp (h ▸ List.mem_singleton_self e)).1
  have hstands : s.clk.entries.any (fun x => x.num == e.num) = true :=
    List.any_eq_true.mpr ⟨e, hmem, beq_self_eq_true _⟩
  show execCommitPoint s = _
  simp only [execCommitPoint, h, List.foldl_cons, List.foldl_nil, hstands, if_true]

/-- COMMIT_POINT with no proposal due. -/
theorem exec_commitPoint_none (s : State)
    (h : ∀ e ∈ s.clk.entries, e.coord = true → e.st = .proposed → s.clk.sfn + 4 < e.sfn) :
    exec .commitPoint s = .next s := by
  have hnone : s.clk.entries.filter (fun x => x.coord && decide (x.st = .proposed) &&
      decide (x.sfn ≤ s.clk.sfn + 4)) = [] := by
    refine List.filter_eq_nil_iff.mpr fun x hx hdue => ?_
    simp only [Bool.and_eq_true, decide_eq_true_eq] at hdue
    obtain ⟨⟨hc, hst⟩, hle⟩ := hdue
    exact Nat.not_le.mpr (h x hx hc hst) hle
  show execCommitPoint s = _
  simp only [execCommitPoint, hnone, List.foldl_nil]

/-! ## Candidate loadings and loading resets (R57, R159) -/

/-- A loading put in force on the receive direction leaves the policy's state. -/
theorem setLoading_rx_load (s : State) (c : Carrier) (x : Loading) : (s.setLoading c .rx x).load = s.load := by
  have hput : ∀ (l : List Nat) (o : Nat) (v : Nat → Int) (z : State),
      (l.foldl (fun y k => y.put o k (v k)) z).load = z.load := fun l o v z =>
    foldl_same (fun y => y.load) (fun y k => y.put o k (v k)) (fun y k => y.put_load o k (v k)) l z
  unfold State.setLoading
  simp only [State.put_load, hput]

/-- RELOCK_CANDIDATE with a candidate left. -/
theorem relockCandidate_tries (c : Carrier) (x : Loading) (s : State) (hlock : s.lock c = 7)
    (hframe : s.u (on c Obj.frameLock) ≠ 1)
    (htime : (if (s.ld c).lastForce.isNone then (s.fr c).unlockedAt else (s.ld c).candFrom) + 2 ≤ s.clk.sfn)
    (hx : (s.candidates c ((s.ld c).lastForce.getD (s.loading c .rx)))[(if (s.ld c).lastForce.isNone then 0
      else (s.ld c).cand) + 1]? = some x) :
    ∃ t, exec (.relockCandidate c) s = .next t ∧
      (t.ld c).cand = (if (s.ld c).lastForce.isNone then 0 else (s.ld c).cand) + 1 ∧ (t.ld c).candFrom = s.clk.sfn ∧
      (t.ld c).lastForce = some ((s.ld c).lastForce.getD (s.loading c .rx)) := by
  have hexec : exec (.relockCandidate c) s = .next ((s.setLd c fun l => { l with
      lastForce := some ((s.ld c).lastForce.getD (s.loading c .rx))
      cand := (if (s.ld c).lastForce.isNone then 0 else (s.ld c).cand) + 1
      candFrom := s.clk.sfn }).setLoading c .rx x) := by
    show execRelockCandidate c s = _
    simp only [execRelockCandidate, hlock, hframe, Nat.not_lt.mpr htime, hx, ne_eq, not_true_eq_false, or_self, if_false]
  refine ⟨_, hexec, ?_⟩
  rw [State.ld_congr (setLoading_rx_load ..), State.ld_setLd_same]
  exact ⟨rfl, rfl, rfl⟩

/-- A reset that fits its SFN, where no swap gives way, enters the table there. -/
theorem enterReset_of_fits (hyield : ∀ x ∈ s.clk.entries, x.yieldsTo e = false) (hfull : s.tableFull e = false)
    (hfits : s.fits e = true) (horig : e.orig = e.sfn) : s.enterReset e = (s.addEntry e).2 := by
  have hsame : ({ e with sfn := e.sfn, orig := e.sfn } : Entry) = e := by
    cases e
    cases horig
    rfl
  have hhere : firstFrom e.sfn searchSpan (fun n => s.fits { e with sfn := n, orig := n }) = some e.sfn :=
    firstFrom_here (by rw [hsame]; exact hfits) (by decide)
  simp only [State.enterReset, noYield hyield, State.arm, hfull, hhere, Bool.false_eq_true, if_false, if_true]

/-- A full table drops it. -/
theorem enterReset_of_full (hyield : ∀ x ∈ s.clk.entries, x.yieldsTo e = false) (hfull : s.tableFull e = true) :
    s.enterReset e = s.dropEvent e 2 := by
  simp only [State.enterReset, noYield hyield, State.arm, hfull, if_true]

theorem dropEvent_clk (s : State) (e : Entry) (reason : Nat) : (s.dropEvent e reason).clk = s.clk := by
  simp only [State.dropEvent, State.logEntry_clk, State.bump_clk]

theorem dropEvent_logs (s : State) (e : Entry) (reason : Nat) :
    Logged s (s.dropEvent e reason) 0xE006 (e.octets ++ d8 reason) := by
  exact (Logged.logEntry _ 0xE006 e (d8 reason)).since (Nat.le_of_eq (congrArg Diag.nextSeq (State.bump_diag ..).symm))

theorem dropEvent_counts (s : State) (e : Entry) (reason : Nat) (h : s.u Obj.droppedCount < 4294967295) :
    (s.dropEvent e reason).u Obj.droppedCount = s.u Obj.droppedCount + 1 := by
  refine (congrArg Int.toNat (State.i_logRec _ _ _ (by decide))).trans ?_
  exact s.u_bump_same Obj.droppedCount 0 (by omega)

/-- LOADING_RESET with room in the table. -/
theorem loadingReset_enters (c : Carrier) (n : BitVec 64) (foot : Bool) (s : State) (e : Entry)
    (he : e = resetEntry c .tx n.toNat (b2n foot)) (hyield : ∀ x ∈ s.clk.entries, x.yieldsTo e = false)
    (hfull : s.tableFull e = false) (hfits : s.fits e = true) :
    ∃ t, exec (.loadingReset c n foot) s = .next t ∧ { e with num := (s.addEntry e).1 } ∈ t.clk.entries ∧
      e.kind = .loadingChange ∧ e.coord = false ∧ e.sfn = n.toNat ∧ e.carrier = some c ∧ e.dir = .tx ∧ e.count = .loc := by
  subst he
  refine ⟨_, rfl, ?_, rfl, rfl, rfl, rfl, rfl, rfl⟩
  rw [enterReset_of_fits hyield hfull hfits rfl]
  exact s.addEntry_stands _

/-- LOADING_RESET with the table full. -/
theorem loadingReset_drops (c : Carrier) (n : BitVec 64) (foot : Bool) (s : State) (e : Entry)
    (he : e = resetEntry c .tx n.toNat (b2n foot)) (hyield : ∀ x ∈ s.clk.entries, x.yieldsTo e = false)
    (hfull : s.tableFull e = true) (hcount : s.u Obj.droppedCount < 4294967295) :
    ∃ t, exec (.loadingReset c n foot) s = .next t ∧ t.clk = s.clk ∧ t.u Obj.droppedCount = s.u Obj.droppedCount + 1 ∧
      Logged s t 0xE006 (e.octets ++ d8 2) := by
  subst he
  refine ⟨_, rfl, ?_⟩
  rw [enterReset_of_full hyield hfull]
  exact ⟨dropEvent_clk s _ 2, dropEvent_counts s _ 2 hcount, dropEvent_logs s _ 2⟩

end Boundaries

/-! ## The boundaries -/

/-- Settles O22: each command completes in the state that its rule above names. -/
theorem boundariesPass : Obligations.BoundariesPass := by
  refine ⟨localBoundary_withheld, ?raised, receivedBoundary_counts, ?runs, ?cancels, ?misses, ?waits,
    sundialEntryRun_idle, sundialPreWake_wakes, sundialPreWake_touches, exec_sundialPreWake_early, ?fails,
    exec_commitPoint_none, relockCandidate_tries, loadingReset_enters, loadingReset_drops⟩
  case raised =>
    intro x s hon hka hw
    exact ⟨_, exec_localBoundary x hon hka hw, boundary_raises s x⟩
  case runs =>
    rintro k tick e s s1 u hon hka rfl hdue hfind hst haw hact
    exact sundialEntryRun_runs hon hka ⟨hdue, hfind⟩ hst haw hact
  case cancels =>
    rintro k tick e s s1 hon hka rfl hdue hfind hc hst
    exact sundialEntryRun_cancels hon hka ⟨hdue, hfind⟩ hc hst
  case misses =>
    rintro k tick e s s1 hon hka rfl hdue hfind hc hst has
    exact sundialEntryRun_misses hon hka ⟨hdue, hfind⟩ hc hst has
  case waits =>
    rintro k tick e s s1 hon hka rfl hdue hfind hc hswap hcal has
    exact sundialEntryRun_waits hon hka ⟨hdue, hfind⟩ hc hswap hcal has
  case fails =>
    intro e s h
    exact ⟨exec_commitPoint_one h, Sys2Proof.Laws.OfBoundary.commitFail_logs s e⟩

section OwnerSlots

open Sys2Proof.Laws.OfAgreement

/-! ## Writes that their owner accepts -/

/-- A write that its owner takes at once with nothing more to answer. -/
theorem accepts_of_effect {i : Instr} {s s' y : State} {w : Requester} {op o m : Nat} {v v' : Val}
    {eff : Val → State → Res × State} {P : State → Prop} (hexec : exec i s = .next (s.hostWrite w op o m v eff))
    (h : Admitted s s' w op o m v v') (heff : eff v' s' = ({}, y)) (hcode : (eff v' s).1.code = 0) (hP : P y) :
    Accepts i s w op o m P :=
  ⟨y, hexec.trans (congrArg _ (State.hostWrite_done h eff heff hcode)), hP⟩

/-! ## Owner slots (R290, R293, R294) -/

theorem slot_congr {s t : State} (h : t.grot = s.grot) (k : Nat) : t.slot k = s.slot k := by
  unfold State.slot
  rw [h]

theorem inFlight_congr {s t : State} (h : t.grot = s.grot) (k : Nat) : t.inFlight k = s.inFlight k := by
  unfold State.inFlight
  rw [h]

theorem modSlot_slots_length (s : State) (k : Nat) (f : GSlot → GSlot) :
    (s.modSlot k f).grot.slots.length = s.grot.slots.length :=
  modNth_length f s.grot.slots k

theorem slot_modSlot_same (s : State) {k : Nat} (f : GSlot → GSlot) (hk : k < s.grot.slots.length) :
    (s.modSlot k f).slot k = f (s.slot k) :=
  nth_modNth_same s.grot.slots f GSlot.init hk

/-- A written slot holds its type and contents, with requests in flight or not. -/
theorem slot_writeSlot_same (s : State) {k : Nat} (typ : Nat) (data : List Byte) (hk : k < s.grot.slots.length) :
    ((s.writeSlot k typ data).slot k).typ = typ ∧ ((s.writeSlot k typ data).slot k).data = data := by
  unfold State.writeSlot
  rw [slot_modSlot_same s _ hk]
  exact ⟨rfl, rfl⟩

/-- A write of `SlotWrite` of the right type and length, to a slot without a shadow: written, logged, saved. -/
theorem slotWriteEffect_ok {s : State} {b : List Byte} (htyp : ofBe (slice b 3 1) = 4 ∨ ofBe (slice b 3 1) = 8)
    (hlen : (b.drop 6).length = slotOctets (ofBe (slice b 3 1))) (hshadow : (s.slot (ofBe (slice b 2 1))).shadow = none) :
    ∃ gen, s.slotWriteEffect b = ({}, ((s.writeSlot (ofBe (slice b 2 1)) (ofBe (slice b 3 1)) (b.drop 6)).log 0x900C
      (d8 (ofBe (slice b 2 1)) ++ d8 (ofBe (slice b 3 1)) ++ d16 gen)).saveSlot (ofBe (slice b 2 1))) := by
  have hkind : ¬(ofBe (slice b 3 1) ≠ 4 ∧ ofBe (slice b 3 1) ≠ 8) := fun h => htyp.elim h.1 h.2
  refine ⟨((s.writeSlot (ofBe (slice b 2 1)) (ofBe (slice b 3 1)) (b.drop 6)).slot (ofBe (slice b 2 1))).gen, ?_⟩
  simp only [State.slotWriteEffect, if_neg hkind, hlen, hshadow, ne_eq, not_true_eq_false, Option.isSome_none,
    Bool.false_eq_true, if_false]

/-- SLOT_WRITE. -/
theorem slotWrite_stores (w : Requester) (row b : List Byte) (s s' : State)
    (h : Admitted s s' w 2 Obj.slotWrite 0 (.octs row) (.octs b))
    (htyp : ofBe (slice b 3 1) = 4 ∨ ofBe (slice b 3 1) = 8)
    (hlen : (b.drop 6).length = slotOctets (ofBe (slice b 3 1)))
    (hshadow : (s.slot (ofBe (slice b 2 1))).shadow = none) (hk : ofBe (slice b 2 1) < s.grot.slots.length) :
    Accepts (.slotWrite w row) s w 2 Obj.slotWrite 0 (fun t =>
      (t.slot (ofBe (slice b 2 1))).typ = ofBe (slice b 3 1) ∧ (t.slot (ofBe (slice b 2 1))).data = b.drop 6 ∧
      ∃ gen, Logged s t 0x900C (d8 (ofBe (slice b 2 1)) ++ d8 (ofBe (slice b 3 1)) ++ d16 gen)) := by
  have hgrot : s'.grot = s.grot := h.only.grot rfl
  obtain ⟨gen, heff⟩ := slotWriteEffect_ok (s := s') htyp hlen (by rwa [slot_congr hgrot])
  obtain ⟨_, heff₀⟩ := slotWriteEffect_ok htyp hlen hshadow
  refine accepts_of_effect rfl h heff (congrArg (·.1.code) heff₀) ?_
  obtain ⟨htyp', hdata'⟩ := slot_writeSlot_same s' (ofBe (slice b 3 1)) (b.drop 6) (by rwa [hgrot])
  have hseq := (State.writeSlot_keep (h.only.mono (N := 32784) rfl) rfl (ofBe (slice b 2 1)) (ofBe (slice b 3 1))
    (b.drop 6)).nextSeq
  generalize s'.writeSlot (ofBe (slice b 2 1)) (ofBe (slice b 3 1)) (b.drop 6) = u at htyp' hdata' hseq ⊢
  have hsaved := State.saveSlot_keep (Keep.refl 121 (u.log 0x900C
    (d8 (ofBe (slice b 2 1)) ++ d8 (ofBe (slice b 3 1)) ++ d16 gen))) rfl (ofBe (slice b 2 1))
  rw [slot_congr ((hsaved.grot rfl).trans (State.log_grot ..))]
  exact ⟨htyp', hdata', gen, ((Logged.log _ _ _).keep hsaved rfl).since hseq⟩

/-- An erase is never refused. -/
theorem slotEraseEffect_res (s : State) (n : Nat) : (s.slotEraseEffect n).1 = {} := by
  unfold State.slotEraseEffect
  split <;> rfl

/-- The record that empties the saved copy leaves the slot as its erase left it. -/
theorem slot_slotEraseEffect {s : State} {n : Nat} (hfull : (s.slot n).typ ≠ 0) :
    ((s.slotEraseEffect n).2).slot n = (s.eraseSlot n).slot n := by
  unfold State.slotEraseEffect
  rw [if_neg hfull]
  exact slot_congr ((State.writeRecord_keep (Keep.refl 121 (s.eraseSlot n)) rfl 5 4 n [] none).grot rfl) n

/-- SLOT_ERASE leaves what the owner's effect on the slot leaves. -/
theorem slotErase_accepts {w : Requester} {v n : Nat} {s s' : State} {P : State → Prop}
    (h : Admitted s s' w 2 Obj.slotErase 0 (.num v) (.num n)) (hP : P (s'.slotEraseEffect n).2) :
    Accepts (.slotErase w v) s w 2 Obj.slotErase 0 P :=
  accepts_of_effect rfl h (Prod.ext (slotEraseEffect_res s' n) rfl) (congrArg Res.code (slotEraseEffect_res s n)) hP

/-- SLOT_ERASE of a slot with no request in flight. -/
theorem slotErase_empties (w : Requester) (v n : Nat) (s s' : State)
    (h : Admitted s s' w 2 Obj.slotErase 0 (.num v) (.num n)) (hidle : s.inFlight n = [])
    (hn : n < s.grot.slots.length) :
    Accepts (.slotErase w v) s w 2 Obj.slotErase 0 (fun t => (t.slot n).typ = 0) := by
  have hgrot : s'.grot = s.grot := h.only.grot rfl
  refine slotErase_accepts h ?_
  by_cases hempty : (s'.slot n).typ = 0
  · unfold State.slotEraseEffect
    rwa [if_pos hempty]
  · rw [slot_slotEraseEffect hempty,
      eraseSlot_idle s' n (by rwa [inFlight_congr hgrot]) hempty (by rwa [hgrot])]
    exact dropSlot_empty _ n 0 (by rwa [modSlot_slots_length, hgrot])

/-- SLOT_ERASE of a slot in use. -/
theorem slotErase_waits (w : Requester) (v n : Nat) (s s' : State)
    (h : Admitted s s' w 2 Obj.slotErase 0 (.num v) (.num n)) (hbusy : s.inFlight n ≠ [])
    (hfull : (s.slot n).typ ≠ 0) (hn : n < s.grot.slots.length) :
    Accepts (.slotErase w v) s w 2 Obj.slotErase 0 (fun t => (t.slot n).erase = some s'.clk.sfn) := by
  have hgrot : s'.grot = s.grot := h.only.grot rfl
  have hfull' : (s'.slot n).typ ≠ 0 := by rwa [slot_congr hgrot]
  refine slotErase_accepts h ?_
  rw [slot_slotEraseEffect hfull', eraseSlot_busy s' n (by rwa [inFlight_congr hgrot]) hfull' (by rwa [hgrot]),
    slot_modSlot_same _ _ (by rwa [modSlot_slots_length, hgrot])]

/-! ## Quotes (R307) -/

/-- The signature request of a quote with this body. -/
def quoteRequest (body b : List Byte) : GReq :=
  { master := 3, typ := 8, slot := 1, gen := 0, outSlot := 0, tag := 0, src := (0, body.length), dst := (0, 1280)
    par := (0, 0), cls := 2, unit := none, use := .quote (slice b 2 32) (ofBe (slice b 34 2)) }

/-- A write of `QuoteRequest` that the Grotto admits. -/
theorem quoteEffect_ok {s : State} {b : List Byte} {r : GReq} (hid : s.grot.identity = true)
    (hr : r = quoteRequest (s.quoteBody (slice b 2 32) (ofBe (slice b 34 2))) b) (hadm : s.admission r = 0) :
    s.quoteEffect b = ({}, (s.setGr (fun g => { g with quote := none })).submit r) := by
  subst hr
  unfold quoteRequest at hadm ⊢
  simp only [State.quoteEffect, hid, hadm, ne_eq, not_true_eq_false, Bool.not_true, Bool.false_eq_true, if_false]

/-- The access that an admitted write notes changes neither a quote's body nor the admission of a request. -/
theorem quoteBody_admission_of_noted {s s' : State} (h : s' = s ∨ ∃ d, s' = s.touch d) (nonce : List Byte) (mask : Nat)
    (r : GReq) : s'.quoteBody nonce mask = s.quoteBody nonce mask ∧ s'.admission r = s.admission r := by
  rcases h with rfl | ⟨d, rfl⟩
  · exact ⟨rfl, rfl⟩
  · exact ⟨rfl, rfl⟩

/-- QUOTE_REQUEST. -/
theorem quoteRequest_submits (w : Requester) (row b : List Byte) (s s' : State) (r : GReq)
    (h : Admitted s s' w 2 Obj.quoteRequest 0 (.octs row) (.octs b)) (hid : s.grot.identity = true)
    (hr : r = quoteRequest (s.quoteBody (slice b 2 32) (ofBe (slice b 34 2))) b) (hadm : s.admission r = 0) :
    Accepts (.quoteRequest w row) s w 2 Obj.quoteRequest 0 (fun t =>
      t = (s'.setGr (fun g => { g with quote := none })).submit r) := by
  obtain ⟨hbody, hsame⟩ := quoteBody_admission_of_noted h.noted (slice b 2 32) (ofBe (slice b 34 2)) r
  have heff : s'.quoteEffect b = ({}, (s'.setGr (fun g => { g with quote := none })).submit r) :=
    quoteEffect_ok (by rwa [h.only.grot rfl]) (by rwa [hbody]) (by rwa [hsame])
  exact accepts_of_effect rfl h heff (congrArg (·.1.code) (quoteEffect_ok hid hr hadm)) rfl

/-! ## Installed roots (R37, R314) -/

/-- The contexts of a direction that take a root leave the roots. -/
theorem installDir_rt (s : State) (c : Carrier) (d : Dir) : (s.installDir c d).rt c = s.rt c :=
  foldl_same (fun z => z.rt c) _ (fun z k => setCtx_rt z c d k _ c) _ _

/-- The machine with a first root in force, before its receive contexts take it. -/
def firstRoot (s : State) (c : Carrier) (slot id : Nat) (identity : List Byte) : State :=
  let s := s.setRt c (fun r => { r with cur := some (slot, id, identity), next := none, since := r.install })
  let s := ((s.put (on c Obj.rootId) 0 id).putO (on c Obj.linkIdentity) 0 identity).agreeState c 0
  (s.bump (on c Obj.agreementCount)).installDir c .tx

theorem firstRoot_rt (s : State) (c : Carrier) (slot id : Nat) (identity : List Byte) :
    (firstRoot s c slot id identity).rt c =
      { s.rt c with cur := some (slot, id, identity), next := none, since := (s.rt c).install } := by
  have hshown : ∀ z : State, ((((z.put (on c Obj.rootId) 0 id).putO (on c Obj.linkIdentity) 0 identity).agreeState c
      0).bump (on c Obj.agreementCount)).rt c = z.rt c := fun z =>
    rt_of_grot c ((State.bump_keep (State.agreeState_keep (State.putO_keep (State.put_keep (Keep.refl 1 z) rfl _ _ _) rfl
      _ _ _) rfl _ _) rfl _ _).grot rfl)
  simp only [firstRoot, installDir_rt, hshown, rt_setRt]

/-- ROOT_INSTALL with no root in force: the receive contexts take the new one now, or later on the received count. -/
theorem exec_rootInstall_first {c : Carrier} {slot id : Nat} {identity : List Byte} {s : State}
    (hnext : (s.rt c).next = some (slot, id, identity)) (hcur : (s.rt c).cur = none)
    (htime : (s.rt c).install ≤ s.clk.sfn) :
    exec (.rootInstall c) s = .next (
      if (s.rt c).install ≤ (firstRoot s c slot id identity).u (on c Obj.rxSfn) then
        (firstRoot s c slot id identity).installDir c .rx
      else (firstRoot s c slot id identity).setRt c (fun x => { x with rxAt := some (s.rt c).install })) := by
  show execRootInstall c s = _
  simp only [execRootInstall, hnext, hcur, if_neg (Nat.not_lt.mpr htime), Option.isSome_none, Bool.false_eq_true,
    if_false] <;> rfl

/-- ROOT_INSTALL of a carrier's first root. -/
theorem rootInstall_first (c : Carrier) (slot id : Nat) (identity : List Byte) (s : State)
    (hnext : (s.rt c).next = some (slot, id, identity)) (hcur : (s.rt c).cur = none)
    (htime : (s.rt c).install ≤ s.clk.sfn) :
    ∃ t, exec (.rootInstall c) s = .next t ∧ (t.rt c).cur = some (slot, id, identity) ∧ (t.rt c).next = none ∧
      (t.rt c).since = (s.rt c).install := by
  refine ⟨_, exec_rootInstall_first hnext hcur htime, ?_⟩
  have hroot := firstRoot_rt s c slot id identity
  split
  · rw [installDir_rt, hroot]
    exact ⟨rfl, rfl, rfl⟩
  · rw [rt_setRt, hroot]
    exact ⟨rfl, rfl, rfl⟩

/-- ROOT_INSTALL with a root in force. -/
theorem exec_rootInstall_later (c : Carrier) (r n : Nat × Nat × List Byte) (s : State)
    (hnext : (s.rt c).next = some n) (hcur : (s.rt c).cur = some r) (htime : (s.rt c).install ≤ s.clk.sfn)
    (hstate : s.u (on c Obj.agreementState) ≠ 4) :
    exec (.rootInstall c) s = .next (((s.bump (on c Obj.agreementCount)).agreeState c 4).migrate c) := by
  obtain ⟨slot, id, identity⟩ := n
  show execRootInstall c s = _
  simp only [execRootInstall, hnext, hcur, if_neg (Nat.not_lt.mpr htime), hstate, Option.isSome_some, if_true, if_false]

/-! ## The end of a migration (R314) -/

theorem ctx_setCtx_other (s : State) (c : Carrier) (d : Dir) {j k : Nat} (f : Ctx → Ctx) (h : j ≠ k) :
    (s.setCtx c d k f).ctx c d j = s.ctx c d j := by
  unfold State.setCtx
  rw [State.ctx_congr ((State.showCtx_keep (Keep.refl 1 _) rfl c d k).ciph rfl)]
  unfold State.ctx State.setCi
  rw [Pair.get_upd_same]
  cases d
  · exact nth_modNth_other _ _ _ h.symm
  · exact nth_modNth_other _ _ _ h.symm

/-- A roll tried, proposed or not, changes its own context alone. -/
theorem ctx_tryRoll_other (s : State) (c : Carrier) (d : Dir) {j k : Nat} (h : j ≠ k) :
    (s.tryRoll c d k).ctx c d j = s.ctx c d j := by
  have hprop : ∀ e body, (s.proposeEngine c e body).2.ctx c d j = s.ctx c d j := fun e body =>
    State.ctx_congr ((State.proposeEngine_keep (Keep.refl 205 s) rfl c e body).ciph rfl) c d j
  unfold State.tryRoll
  dsimp only
  split
  next =>
    split
    · rfl
    · split
      · rw [ctx_setCtx_other _ _ _ _ h, hprop]
      · split
        · rw [ctx_setCtx_other _ _ _ _ h, hprop]
        · exact hprop _ _
  next => rfl

theorem ctx_armRoll_other (s : State) (c : Carrier) (d : Dir) {j k : Nat} (reason : Nat) (h : j ≠ k) :
    (s.armRoll c d k reason).ctx c d j = s.ctx c d j := by
  unfold State.armRoll
  split
  · rfl
  · rw [ctx_tryRoll_other _ c d h, ctx_setCtx_other _ c d _ h]

/-- ROOT_MIGRATION_DEADLINE with one context on the old root: the others have moved before its roll is armed, and the
arming leaves them so. -/
theorem rootMigrationDeadline_rolls (c : Carrier) (k slot id : Nat) (identity : List Byte) (r : Nat × Nat × List Byte)
    (s : State) (hnext : (s.rt c).next = some (slot, id, identity)) (hcur : (s.rt c).cur = some r)
    (htime : (s.rt c).install + 36000000 ≤ s.clk.sfn) (hk : k ∈ allCtx) (hon : (s.ctx c .tx k).on = true)
    (hroot : (s.ctx c .tx k).root ≠ id)
    (hothers : ∀ j ∈ allCtx, j ≠ k → (s.ctx c .tx j).on = false ∨ (s.ctx c .tx j).root = id) :
    exec (.rootMigrationDeadline c) s = .next (s.armRoll c .tx k 3) := by
  have hmoved : ∀ j ∈ allCtx, j ≠ k → ¬((s.ctx c .tx j).on = true ∧ (s.ctx c .tx j).root ≠ id) := fun j hj hne h =>
    (hothers j hj hne).elim (fun hoff => Bool.false_ne_true (hoff ▸ h.1)) h.2
  have hrolls : allCtx.foldl (fun s k =>
      if (s.ctx c .tx k).on ∧ (s.ctx c .tx k).root ≠ id then s.armRoll c .tx k 3 else s) s = s.armRoll c .tx k 3 := by
    refine (foldl_eq_of_one_acts List.nodup_range hk (fun j hj hne => if_neg (hmoved j hj hne)) fun j hj hne =>
      if_neg ?_).trans (if_pos ⟨hon, hroot⟩)
    rw [if_pos ⟨hon, hroot⟩, ctx_armRoll_other s c .tx 3 hne]
    exact hmoved j hj hne
  show execRootMigrationDeadline c s = _
  simp only [execRootMigrationDeadline, hnext, hcur, if_pos htime, hrolls]

end OwnerSlots

/-- Settles O44: each command completes in the state that its rule above names. -/
theorem ownerSlotsAndQuotes : Obligations.OwnerSlotsAndQuotes :=
  ⟨slotWrite_stores, slotErase_empties, slotErase_waits, quoteRequest_submits, rootInstall_first, exec_rootInstall_later,
    rootMigrationDeadline_rolls⟩

end Sys2Proof.Proofs.Superframe
end

section
/-! The statements on the line converters (03_line_converters.md): which spare is trimmed next (R74), the rotation cycle of
the slices with their failure, retirement and restore (R73, R75, R78, R80, R87 to R90, R93 to R95, R97, R430), and the
receiver, which loses its input there (R96) and locks by the rules of 04_equaliser_and_carrier_recovery.md (R114 to R120,
R124, R129, R583, R584). The number of a `Keep` is the set of parts of the state that may have changed, as Laws/Keep.lean
writes it; 67108863 stands for every part. -/

namespace Sys2Proof.Proofs.LineConverters

open Sys2Proof.Machine Sys2Proof.Claims Sys2Proof.Proofs.Superframe

section Spares

open Sys2Proof.Laws.OfMachine

/-! ## The spare to trim (R74) -/

/-- The idle spares of a converter, with their numbers. -/
def idleSpares (v : Conv) : List (Nat × Slice) := v.numbered.filter (fun p => p.2.st == 1)

theorem mem_idleSpares {v : Conv} {i : Nat} {x : Slice} :
    (i, x) ∈ idleSpares v ↔ v.slices[i]? = some x ∧ x.st = 1 := by
  rw [idleSpares, List.mem_filter, mem_numbered, beq_iff_eq]

theorem idleSpares_eq_nil_iff {v : Conv} : idleSpares v = [] ↔ ∀ x ∈ v.slices, x.st ≠ 1 := by
  refine ⟨fun h x hx hst => ?_, fun h => List.eq_nil_iff_forall_not_mem.mpr fun p hp => ?_⟩
  · obtain ⟨i, hi⟩ := List.mem_iff_getElem?.mp hx
    exact List.not_mem_nil (h ▸ mem_idleSpares.mpr ⟨hi, hst⟩)
  · obtain ⟨hi, hst⟩ := mem_idleSpares.mp hp
    exact h p.2 (List.mem_of_getElem? hi) hst

/-- Nothing is chosen of no idle spares; of some, one that no other goes before by age and number. -/
theorem pickSpare_cases (v : Conv) :
    (idleSpares v = [] ∧ v.pickSpare = none) ∨ ∃ r ∈ idleSpares v, v.pickSpare = some r.1 ∧
      ∀ p ∈ idleSpares v, r.2.trimSfn < p.2.trimSfn ∨ (r.2.trimSfn = p.2.trimSfn ∧ r.1 ≤ p.1) := by
  have hpick : v.pickSpare = pickBest (idleSpares v) (fun x y => decide (x.trimSfn < y.trimSfn)) := rfl
  have hsorted : (idleSpares v).Pairwise (fun x y => x.1 < y.1) := (numbered_sorted v).filter _
  rw [hpick]
  cases hl : idleSpares v with
  | nil => exact .inl ⟨rfl, rfl⟩
  | cons b l =>
    rw [hl] at hsorted
    obtain ⟨hb, hsorted⟩ := List.pairwise_cons.mp hsorted
    refine .inr ((pickFold ?step l b hsorted hb).imp fun r ⟨hfold, hr, hbest⟩ =>
      ⟨List.mem_cons.mpr hr, congrArg (Option.map Prod.fst) hfold, hbest⟩)
    exact fun _ _ => rfl

end Spares

/-- Settles O16: the choice is the first of the idle spares by age and number, and fails only where there are none. -/
theorem spareToTrim : Obligations.SpareToTrim := by
  refine ⟨fun v i hi => ?_, fun v => ?_⟩
  · obtain ⟨-, hnone⟩ | ⟨r, hr, hsome, hbest⟩ := pickSpare_cases v
    · cases hnone.symm.trans hi
    · cases hsome.symm.trans hi
      obtain ⟨hget, hst⟩ := mem_idleSpares.mp hr
      exact ⟨r.2, hget, hst, fun j y hy hidle => hbest (j, y) (mem_idleSpares.mpr ⟨hy, hidle⟩)⟩
  · rw [← idleSpares_eq_nil_iff]
    obtain ⟨hnil, hnone⟩ | ⟨r, hr, hsome, -⟩ := pickSpare_cases v
    · exact iff_of_true hnone hnil
    · exact iff_of_false (fun h => Option.some_ne_none _ (hsome.symm.trans h)) (List.ne_nil_of_mem hr)

section Rotation

open Sys2Proof.Laws.OfSlices

variable {c : Carrier} {s : State}

/-! ## What the operations of the rotation log (R78, R80, R88, R93, R94) -/

/-- A cycle that starts anew leaves the converters. -/
theorem cv_startCycle (s : State) (c : Carrier) (k : Nat) : (s.startCycle c k).cv c k = s.cv c k :=
  State.cv_congr (sc_conv s c k) c k

/-- What is logged before a cycle starts anew stays logged. -/
theorem logged_startCycle {t : State} {code : Nat} {data : List Byte} (h : Logged s t code data) (c : Carrier) (k : Nat) :
    Logged s (t.startCycle c k) code data :=
  h.keep (State.startCycle_keep (Keep.refl 77 t) rfl c k) rfl

theorem trimFailed_logs (s : State) (c : Carrier) (k i reason : Nat) :
    Logged s (s.trimFailed c k i reason) 0x4003 (d8 k ++ d8 i ++ d8 reason) := by
  unfold State.trimFailed
  extract_lets x counted logged
  have hlog : Logged s logged 0x4003 (d8 k ++ d8 i ++ d8 reason) := (Logged.logC _ _ _ _).since
    (State.bump_keep (State.setSlice_keep (Keep.refl 257 s) rfl c k i _) rfl _ _).nextSeq
  split
  · exact hlog.keep (State.withdraw_keep (Keep.refl 329 logged) rfl c k i 3) rfl
  · exact hlog

theorem sliceFails_logs (s : State) (c : Carrier) (k i reason : Nat) :
    Logged s (s.sliceFails c k i reason) 0x4004 (d8 k ++ d8 i ++ d8 reason) := by
  have hlog := (Logged.logC (s.setSlice c k i (fun x => { x with failed := true })) c 0x4004
    (d8 k ++ d8 i ++ d8 reason)).since (State.setSlice_keep (Keep.refl 256 s) rfl c k i _).nextSeq
  exact hlog.keep (State.relieve_keep (Keep.refl 349 _) rfl c k i) rfl

theorem retireSlice_logs (s : State) (c : Carrier) (k i : Nat) :
    Logged s (s.retireSlice c k i) 0x4005 (d8 k ++ d8 i) := by
  unfold State.retireSlice
  extract_lets out
  have hlog := (Logged.logC out.recordRetirement c 0x4005 (d8 k ++ d8 i)).since
    (State.recordRetirement_keep (State.setSlice_keep (Keep.refl 377 s) rfl c k i _) rfl).nextSeq
  exact hlog.keep (State.setHealth_keep (Keep.refl 329 _) rfl c k) rfl

/-- An armed swap that is cancelled. -/
theorem cancelSwap_logs {k spare out phase win : Nat} {em back : Bool}
    (hcycle : (s.cv c k).cycle = .armed spare out phase win em back) (reason : Nat) :
    Logged s (s.cancelSwap c k reason) 0x4007 (d8 k ++ d8 out ++ d8 spare ++ d8 reason) := by
  unfold State.cancelSwap
  rw [hcycle]
  extract_lets unarmed
  have hunarmed : Keep 349 s unarmed := by
    unfold unarmed
    split
    · exact State.cancelEntry_keep (Keep.refl 349 s) rfl _
    · exact Keep.refl 349 s
  exact (Logged.logC _ _ _ _).since (State.bump_keep (State.setSlice_keep (State.endCycle_keep hunarmed rfl c k spare) rfl
    c k out _) rfl _ _).nextSeq

/-! ## Due slices and calibration windows (R73, R75, R87, R430) -/

/-- SLICE_DUE. -/
theorem sliceDue_marks (c : Carrier) (k : Fin 8) (i : Nat) (temp : Int) (s : State)
    (hk : k.val < (s.conv.get c).convs.length) (hi : i < (s.cv c k).slices.length)
    (hst : ((s.cv c k).slice i).st = 0)
    (htrig : (s.setCv c k (fun v => { v with temp := temp })).triggered c temp ((s.cv c k).slice i) = true) :
    ∃ t, exec (.sliceDue c k i temp) s = .next t ∧ ((t.cv c k).slice i).due = true := by
  have hcv := State.cv_setCv_same s c (fun v => { v with temp := temp }) hk
  have hslice : ((s.setCv c k (fun v => { v with temp := temp })).cv c k).slice i = (s.cv c k).slice i := by rw [hcv]; rfl
  refine ⟨_, congrArg Host.Outcome.next (if_pos ?_), ?_⟩
  · rw [hslice]
    exact ⟨hst, htrig⟩
  · rw [cv_startCycle, setSlice_slice _ c k i _ (by rwa [State.convs_setCv]) (by rwa [hcv])]

/-- A converter with a spare and a due slice, and no window ahead, asks for its next window. -/
theorem startCycle_of_due {k : Nat} (hcycle : (s.cv c k).cycle = .idle) (hurgent : (s.cv c k).urgent = [])
    (hentry : s.rotationEntry c k .calWindow = none) (hmay : s.mayRotate c k false = true)
    (hspare : (s.cv c k).pickSpare.isSome = true) (hdue : (s.pickDue c k).isSome = true) :
    s.startCycle c k = (s.arm { Entry.base .calWindow (max (max (s.firstSfn .loc 0) (s.cv c k).retryAt) (s.cv c k).nextWin)
      with carrier := some c, data := [0, k] }).2 := by
  simp only [State.startCycle, hcycle, hurgent, hentry, hmay, hspare, hdue, List.isEmpty_nil, Bool.not_true, Bool.and_self,
    Bool.or_true, Bool.false_eq_true, if_true, if_false]

/-- TRIM_RETRY. -/
theorem trimRetry_arms (c : Carrier) (k : Fin 8) (s : State) (hrefused : (s.cv c k).refusedRun = true)
    (hretry : (s.cv c k).retryAt ≤ s.clk.sfn) (hcycle : (s.cv c k).cycle = .idle) (hurgent : (s.cv c k).urgent = [])
    (hentry : s.rotationEntry c k .calWindow = none) (hmay : s.mayRotate c k false = true)
    (hspare : (s.cv c k).pickSpare.isSome = true) (hdue : (s.pickDue c k).isSome = true)
    (harm : (s.arm { Entry.base .calWindow (max (max (s.firstSfn .loc 0) (s.cv c k).retryAt) (s.cv c k).nextWin) with
      carrier := some c, data := [0, k] }).1.isSome = true) :
    ∃ t, exec (.trimRetry c k) s = .next t ∧
      ∃ x ∈ t.clk.entries, x.kind = .calWindow ∧ x.carrier = some c ∧ x.data = [0, k.val] := by
  refine ⟨_, congrArg Host.Outcome.next (if_pos ⟨hrefused, hretry⟩), ?_⟩
  rw [startCycle_of_due hcycle hurgent hentry hmay hspare hdue]
  obtain ⟨x, hx, hkind, hcarrier, hdata, -, -⟩ := State.arm_some s _ harm
  exact ⟨x, hx, hkind, hcarrier, hdata⟩

/-! ## The fit of a trim (R75, R88) -/

/-- TRIM_FIT_COMPLETE with a term out of range. -/
theorem trimFitComplete_bad (c : Carrier) (k : Fin 8) (fit : TrimFit) (temp : Int) (spare out phase win : Nat) (em : Bool)
    (s : State) (hcycle : (s.cv c k).cycle = .trimming spare out phase win em) (hterms : termsInRange fit.terms = false) :
    ∃ t, exec (.trimFitComplete c k fit temp) s = .next t ∧ Logged s t 0x4003 (d8 k ++ d8 spare ++ d8 0) := by
  have hexec : exec (.trimFitComplete c k fit temp) s = .next ((((s.endCycle c k spare).setCv c k
      (fun v => { v with nextWin := (s.endCycle c k spare).clk.sfn + 1 })).trimFailed c k spare 0).startCycle c k) := by
    show execTrimFitComplete c k fit temp s = _
    simp only [execTrimFitComplete, hcycle, hterms, Bool.not_false, if_true]
  refine ⟨_, hexec, logged_startCycle ((trimFailed_logs _ c k spare 0).since ?_) c k⟩
  exact (State.setCv_keep (State.endCycle_keep (Keep.refl 345 s) rfl c k spare) rfl c k _).nextSeq

/-- A converter waits for the swap that it has armed with the spare whose fit ended, in emergency or not (R75, R90). -/
def fitArmed (y : State) (c : Carrier) (k spare o p win : Nat) (em : Bool) (temp : Int) : State :=
  (y.armSwap c k o spare p).2.setCv c k (fun v =>
    { v with cycle := .armed spare o p win (em || !(y.cv c k).urgent.isEmpty) false, temp := temp })

theorem fitArmed_convs (y : State) (c : Carrier) (k spare o p win : Nat) (em : Bool) (temp : Int) :
    ((fitArmed y c k spare o p win em temp).conv.get c).convs.length = (y.conv.get c).convs.length := by
  rw [fitArmed, State.convs_setCv, (State.armSwap_keep (Keep.refl 77 y) rfl c k o spare p).conv rfl]

theorem cv_fitArmed {y : State} {k : Nat} (hk : k < (y.conv.get c).convs.length) (spare o p win : Nat) (em : Bool)
    (temp : Int) : (fitArmed y c k spare o p win em temp).cv c k =
      { y.cv c k with cycle := .armed spare o p win (em || !(y.cv c k).urgent.isEmpty) false, temp := temp } := by
  have hsame := (State.armSwap_keep (Keep.refl 77 y) rfl c k o spare p).conv rfl
  rw [fitArmed, State.cv_setCv_same _ c _ (by rwa [hsame]), State.cv_congr hsame]

/-- TRIM_FIT_COMPLETE without fault, its swap once armed. -/
theorem exec_trimFitComplete_good {k : Fin 8} {fit : TrimFit} {temp : Int} {spare out phase win n o p : Nat} {em : Bool}
    {y : State} (hcycle : (s.cv c k).cycle = .trimming spare out phase win em) (hterms : termsInRange fit.terms = true)
    (hspur : fit.spur ≤ -48000) (hconv : fit.converged = true)
    (hy : y = s.setSlice c k spare (fun x => { x with st := 3, terms := fit.terms, temp := temp, trimSfn := win }))
    (ho : o = (y.cv c k).urgent.head?.getD out) (hp : p = (y.cv c k).phaseOf o)
    (harm : (y.armSwap c k o spare p).1 = some n) :
    exec (.trimFitComplete c k fit temp) s = .next ((fitArmed y c k spare o p win em temp).setHealth c k) := by
  subst hp ho hy
  show execTrimFitComplete c k fit temp s = _
  simp only [execTrimFitComplete, hcycle, hterms, if_neg (Int.not_lt.mpr hspur), hconv, harm, Bool.not_true,
    Bool.false_eq_true, if_false, fitArmed]

/-- TRIM_FIT_COMPLETE of a good fit. -/
theorem trimFitComplete_good (c : Carrier) (k : Fin 8) (fit : TrimFit) (temp : Int) (spare out phase win n o p : Nat)
    (em : Bool) (s y : State) (hk : k.val < (s.conv.get c).convs.length) (hspare : spare < (s.cv c k).slices.length)
    (hcycle : (s.cv c k).cycle = .trimming spare out phase win em) (hterms : termsInRange fit.terms = true)
    (hspur : fit.spur ≤ -48000) (hconv : fit.converged = true)
    (hy : y = s.setSlice c k spare (fun x => { x with st := 3, terms := fit.terms, temp := temp, trimSfn := win }))
    (ho : o = (y.cv c k).urgent.head?.getD out) (hp : p = (y.cv c k).phaseOf o)
    (harm : (y.armSwap c k o spare p).1 = some n) :
    ∃ t, exec (.trimFitComplete c k fit temp) s = .next t ∧
      (t.cv c k).cycle = .armed spare o p win (em || !(y.cv c k).urgent.isEmpty) false ∧
      ((t.cv c k).slice spare).st = 3 ∧ ((t.cv c k).slice spare).terms = fit.terms := by
  refine ⟨_, exec_trimFitComplete_good hcycle hterms hspur hconv hy ho hp harm, ?_⟩
  have hfitted : (y.cv c k).slice spare = { (s.cv c k).slice spare with
      st := 3, terms := fit.terms, temp := temp, trimSfn := win } := by
    rw [hy]
    exact setSlice_slice s c k spare _ hk hspare
  have hky : k.val < (y.conv.get c).convs.length := by
    rw [hy]
    exact (State.convs_setCv s c k _).symm ▸ hk
  obtain ⟨hcyc, hslices⟩ := health_cv (fitArmed y c k spare o p win em temp) c k (by rwa [fitArmed_convs])
  obtain ⟨hst, hfit, -⟩ := hslices spare
  rw [cv_fitArmed hky] at hcyc hst hfit
  exact ⟨hcyc, hst.trans (congrArg Slice.st hfitted), hfit.trans (congrArg Slice.terms hfitted)⟩

/-! ## The handover check (R78, R87) -/

/-- HANDOVER_CHECK within the limit, or of an interrupted handover. -/
theorem handoverCheck_passes (c : Carrier) (k : Fin 8) (rms : Nat) (f : Bool) (spare out phase n index : Nat) (cnt : SCount)
    (back i : Bool) (s : State) (hcycle : (s.cv c k).cycle = .handover spare out phase n cnt index back i)
    (hpass : i = true ∨ rms ≤ 1000) :
    ∃ t, exec (.handoverCheck c k rms f) s = .next t ∧ Logged s t 0x4001
      (d8 k ++ d8 out ++ d8 spare ++ d8 phase ++ d64 n ++ d8 (scountCode cnt) ++ d32 index ++ d8 0) := by
  refine ⟨_, rfl, ?_⟩
  simp only [State.handoverCheck, hcycle, if_pos hpass]
  have hended := endedKeep s _ c k out (State.release_keep (Keep.refl _ s) rfl Act.trim (trimItem c k)) back
  refine logged_startCycle ((swapLogged s _ c k out spare phase n index 0 cnt
    (State.freeRelieved_keep hended rfl c k out)).keep (M := 841) (State.setHealth_keep ?_ rfl c k) rfl) c k
  exact Keep.ite (Keep.refl _ _) (State.learn_keep (State.setSlice_keep (Keep.refl _ _) rfl c k spare _) rfl c k spare)

/-- HANDOVER_CHECK beyond the limit with the relieved slice at fault. -/
theorem handoverCheck_relievedFaulty (c : Carrier) (k : Fin 8) (rms : Nat) (spare out phase n index : Nat) (cnt : SCount)
    (back : Bool) (s : State) (hk : k.val < (s.conv.get c).convs.length)
    (hcycle : (s.cv c k).cycle = .handover spare out phase n cnt index back false) (hrms : 1000 < rms)
    (hst : ((s.cv c k).slice out).st ≠ 6) :
    ∃ t, exec (.handoverCheck c k rms false) s = .next t ∧ Logged s t 0x4001
      (d8 k ++ d8 out ++ d8 spare ++ d8 phase ++ d64 n ++ d8 (scountCode cnt) ++ d32 index ++ d8 2) ∧
      Logged s t 0x4004 (d8 k ++ d8 out ++ d8 2) := by
  refine ⟨_, rfl, ?_⟩
  obtain ⟨hended, hslice⟩ := endedFacts s c k out hk
  have hlogs := failedLogged s _ c k out spare phase n index cnt hended (by rwa [hslice])
  unfold State.handoverCheck
  rw [hcycle]
  simpa only [Bool.false_eq_true, Nat.not_le.mpr hrms, or_self, if_false] using hlogs

/-- HANDOVER_CHECK beyond the limit with the incoming slice at fault. -/
theorem handoverCheck_incomingFaulty (c : Carrier) (k : Fin 8) (rms : Nat) (spare out phase n index : Nat) (cnt : SCount)
    (back : Bool) (s : State) (hcycle : (s.cv c k).cycle = .handover spare out phase n cnt index back false)
    (hrms : 1000 < rms) :
    ∃ t, exec (.handoverCheck c k rms true) s = .next t ∧ Logged s t 0x4001
      (d8 k ++ d8 out ++ d8 spare ++ d8 phase ++ d64 n ++ d8 (scountCode cnt) ++ d32 index ++ d8 1) ∧
      Logged s t 0x4003 (d8 k ++ d8 spare ++ d8 3) := by
  have hexec : exec (.handoverCheck c k rms true) s = .next (((s.release Act.trim (trimItem c k)).swapDone c k out spare
      phase n cnt index 1).incomingFaulty c k spare out phase) := by
    show execHandoverCheck c k rms true s = _
    simp only [execHandoverCheck, State.handoverCheck, hcycle, Bool.false_eq_true, Nat.not_le.mpr hrms, or_self, if_false,
      if_true]
  have hreleased : Keep 67108863 s (s.release Act.trim (trimItem c k)) := State.release_keep (Keep.refl _ s) rfl _ _
  refine ⟨_, hexec, ?_, faultyLogged s _ c k spare out phase (State.swapDone_keep hreleased rfl ..)⟩
  exact (swapLogged s _ c k out spare phase n index 1 cnt hreleased).keep
    (State.incomingFaulty_keep (Keep.refl 381 _) rfl c k spare out phase) rfl

/-! ## Trims that expire (R80) -/

/-- TRIM_EXPIRED of a trim older than 64 SF at its swap. -/
theorem trimExpired_late (c : Carrier) (k : Fin 8) (temp : Int) (spare out phase win : Nat) (em : Bool) (e : Entry)
    (s : State) (hcycle : (s.cv c k).cycle = .armed spare out phase win em false)
    (hentry : s.rotationEntry c k .sliceSwap = some e) (hlate : win + 64 < e.sfn) :
    ∃ t, exec (.trimExpired c k temp) s = .next t ∧ Logged s t 0x4007 (d8 k ++ d8 out ++ d8 spare ++ d8 0) := by
  have hexec : exec (.trimExpired c k temp) s = .next ((s.cancelSwap c k 0).startCycle c k) := by
    show execTrimExpired c k temp s = _
    simp only [execTrimExpired, hcycle, hentry, hlate, decide_true, if_true]
  exact ⟨_, hexec, logged_startCycle (cancelSwap_logs hcycle 0) c k⟩

/-- TRIM_EXPIRED of a trim in time whose temperature has moved. -/
theorem trimExpired_hot (c : Carrier) (k : Fin 8) (temp : Int) (spare out phase win : Nat) (em : Bool) (e : Entry)
    (s : State) (hcycle : (s.cv c k).cycle = .armed spare out phase win em false)
    (hentry : s.rotationEntry c k .sliceSwap = some e) (htime : e.sfn ≤ win + 64)
    (hhot : 25 < (temp - ((s.cv c k).slice spare).temp).natAbs) :
    ∃ t, exec (.trimExpired c k temp) s = .next t ∧ Logged s t 0x4007 (d8 k ++ d8 out ++ d8 spare ++ d8 1) := by
  have hexec : exec (.trimExpired c k temp) s = .next ((s.cancelSwap c k 1).startCycle c k) := by
    show execTrimExpired c k temp s = _
    simp only [execTrimExpired, hcycle, hentry, Nat.not_lt.mpr htime, hhot, decide_true, decide_false, Bool.false_eq_true,
      if_true, if_false]
  exact ⟨_, hexec, logged_startCycle (cancelSwap_logs hcycle 1) c k⟩

/-! ## Failed, retired and restored slices (R87, R89, R90, R93, R94) -/

/-- SLICE_FAILED. -/
theorem sliceFailed_logs (c : Carrier) (k : Fin 8) (i : Nat) (cause : Fin 2) (s : State)
    (hst : ((s.cv c k).slice i).st = 0 ∨ ((s.cv c k).slice i).st = 6) (hnew : ((s.cv c k).slice i).failed = false)
    (hrun : 3 ≤ ((s.cv c k).slice i).badRun) (hcause : cause.val = 0 ↔ k.val < 4) :
    ∃ t, exec (.sliceFailed c k i cause) s = .next t ∧ Logged s t 0x4004 (d8 k ++ d8 i ++ d8 cause) :=
  ⟨_, congrArg Host.Outcome.next (if_pos ⟨hst, hnew, hrun, hcause⟩), sliceFails_logs s c k i cause⟩

/-- An owner's effect on a slice that is being retired or has been. -/
theorem retireEffect_of_retired {n : Nat} (hlo : 6 ≤ ((s.cv c (bits n 11 8)).slice (bits n 7 0)).st)
    (hhi : ((s.cv c (bits n 11 8)).slice (bits n 7 0)).st ≤ 7) : s.retireEffect c n = ({}, s) := by
  have hst : ((s.cv c (bits n 11 8)).slice (bits n 7 0)).st = 6 ∨ ((s.cv c (bits n 11 8)).slice (bits n 7 0)).st = 7 := by
    omega
  simp only [State.retireEffect, if_pos hst]

/-- On an active slice that leaves some spare. -/
theorem retireEffect_of_active {n : Nat} (hst : ((s.cv c (bits n 11 8)).slice (bits n 7 0)).st = 0)
    (huse : ((s.cv c (bits n 11 8)).setSlice (bits n 7 0) (fun y => { y with st := 6 })).usable ≠ 0) :
    s.retireEffect c n = ({}, (s.setSlice c (bits n 11 8) (bits n 7 0) (fun x => { x with st := 6 })).relieve c
      (bits n 11 8) (bits n 7 0)) := by
  simp only [State.retireEffect, hst, if_neg huse, Nat.reduceEqDiff, or_self, or_false, if_false, if_true]

/-- On an idle spare with no cycle under way. -/
theorem retireEffect_of_idle {n : Nat} (hst : ((s.cv c (bits n 11 8)).slice (bits n 7 0)).st = 1)
    (hcycle : (s.cv c (bits n 11 8)).cycle = .idle) :
    s.retireEffect c n = ({}, (s.retireSlice c (bits n 11 8) (bits n 7 0)).startCycle c (bits n 11 8)) := by
  simp only [State.retireEffect, hst, hcycle, Nat.reduceEqDiff, or_self, if_false]

/-- SLICE_RETIRE leaves what the owner's effect on the slice leaves, where that refuses nothing. -/
theorem sliceRetire_accepts {w : Requester} {v n : Nat} {s' y y₀ : State} {P : State → Prop}
    (h : Admitted s s' w 2 (on c Obj.sliceRetire) 0 (.num v) (.num n)) (heff : s'.retireEffect c n = ({}, y))
    (heff₀ : s.retireEffect c n = ({}, y₀)) (hP : P y) :
    Accepts (.sliceRetire w c v) s w 2 (on c Obj.sliceRetire) 0 P :=
  accepts_of_effect rfl h heff (congrArg (·.1.code) heff₀) hP

/-- SLICE_RETIRE of a retiring or retired slice. -/
theorem sliceRetire_again (w : Requester) (c : Carrier) (v n : Nat) (s s' : State)
    (h : Admitted s s' w 2 (on c Obj.sliceRetire) 0 (.num v) (.num n))
    (hlo : 6 ≤ ((s.cv c (bits n 11 8)).slice (bits n 7 0)).st)
    (hhi : ((s.cv c (bits n 11 8)).slice (bits n 7 0)).st ≤ 7) :
    Accepts (.sliceRetire w c v) s w 2 (on c Obj.sliceRetire) 0 (fun x => x = s') := by
  have hcv := State.cv_congr (h.only.conv rfl) c (bits n 11 8)
  exact sliceRetire_accepts h (retireEffect_of_retired (by rwa [hcv]) (by rwa [hcv])) (retireEffect_of_retired hlo hhi) rfl

/-- SLICE_RETIRE of an active slice. -/
theorem sliceRetire_active (w : Requester) (c : Carrier) (v n : Nat) (s s' : State)
    (h : Admitted s s' w 2 (on c Obj.sliceRetire) 0 (.num v) (.num n))
    (hst : ((s.cv c (bits n 11 8)).slice (bits n 7 0)).st = 0)
    (huse : ((s.cv c (bits n 11 8)).setSlice (bits n 7 0) (fun y => { y with st := 6 })).usable ≠ 0) :
    Accepts (.sliceRetire w c v) s w 2 (on c Obj.sliceRetire) 0 (fun x =>
      x = (s'.setSlice c (bits n 11 8) (bits n 7 0) (fun x => { x with st := 6 })).relieve c (bits n 11 8)
        (bits n 7 0)) := by
  have hcv := State.cv_congr (h.only.conv rfl) c (bits n 11 8)
  exact sliceRetire_accepts h (retireEffect_of_active (by rwa [hcv]) (by rwa [hcv])) (retireEffect_of_active hst huse) rfl

/-- SLICE_RETIRE of an idle slice. -/
theorem sliceRetire_idle (w : Requester) (c : Carrier) (v n : Nat) (s s' : State)
    (h : Admitted s s' w 2 (on c Obj.sliceRetire) 0 (.num v) (.num n))
    (hst : ((s.cv c (bits n 11 8)).slice (bits n 7 0)).st = 1) (hcycle : (s.cv c (bits n 11 8)).cycle = .idle) :
    Accepts (.sliceRetire w c v) s w 2 (on c Obj.sliceRetire) 0 (fun x =>
      Logged s x 0x4005 (d8 (bits n 11 8) ++ d8 (bits n 7 0))) := by
  have hcv := State.cv_congr (h.only.conv rfl) c (bits n 11 8)
  exact sliceRetire_accepts h (retireEffect_of_idle (by rwa [hcv]) (by rwa [hcv])) (retireEffect_of_idle hst hcycle)
    (logged_startCycle ((retireSlice_logs s' c _ _).since h.only.nextSeq) c _)

/-- A withdrawn or retired slice becomes an idle spare again (R94). -/
def idleAgain (s : State) (c : Carrier) (k i : Nat) : State :=
  s.setSlice c k i (fun x => { x with st := 1, restored := true, failed := false })

/-- The owner's effect on a withdrawn or retired slice: idle again, recorded where it was retired, and logged. -/
theorem restoreEffect_of_out {n : Nat} (hst : ((s.cv c (bits n 11 8)).slice (bits n 7 0)).st = 5 ∨
      ((s.cv c (bits n 11 8)).slice (bits n 7 0)).st = 7) :
    ∃ u : State, Keep 377 s u ∧ u.conv = (idleAgain s c (bits n 11 8) (bits n 7 0)).conv ∧ s.restoreEffect c n =
      ({}, ((u.logC c 0x4006 (d8 (bits n 11 8) ++ d8 (bits n 7 0))).setHealth c (bits n 11 8)).startCycle c
        (bits n 11 8)) := by
  unfold State.restoreEffect
  extract_lets k i x idle recorded
  have hidle : Keep 377 s idle := State.setSlice_keep (Keep.refl _ s) rfl c k i _
  have hrecorded : Keep 121 idle recorded := Keep.ite (State.recordRetirement_keep (Keep.refl _ _) rfl) (Keep.refl _ _)
  exact ⟨recorded, hidle.trans (hrecorded.mono rfl), hrecorded.conv rfl, if_pos hst⟩

/-- SLICE_RESTORE. -/
theorem sliceRestore_idles (w : Requester) (c : Carrier) (v n : Nat) (s s' : State)
    (h : Admitted s s' w 2 (on c Obj.sliceRestore) 0 (.num v) (.num n))
    (hst : ((s.cv c (bits n 11 8)).slice (bits n 7 0)).st = 5 ∨ ((s.cv c (bits n 11 8)).slice (bits n 7 0)).st = 7)
    (hk : bits n 11 8 < (s.conv.get c).convs.length) (hi : bits n 7 0 < (s.cv c (bits n 11 8)).slices.length) :
    Accepts (.sliceRestore w c v) s w 2 (on c Obj.sliceRestore) 0 (fun x =>
      Logged s x 0x4006 (d8 (bits n 11 8) ++ d8 (bits n 7 0)) ∧
      ((x.cv c (bits n 11 8)).slice (bits n 7 0)).st = 1 ∧
      ((x.cv c (bits n 11 8)).slice (bits n 7 0)).restored = true) := by
  have hconv : s'.conv = s.conv := h.only.conv rfl
  have hcv := State.cv_congr hconv c (bits n 11 8)
  obtain ⟨_, -, -, heff₀⟩ := restoreEffect_of_out hst
  obtain ⟨u, hu, huconv, heff⟩ := restoreEffect_of_out (s := s') (n := n) (by rwa [hcv])
  have hlog := (Logged.logC u c 0x4006 (d8 (bits n 11 8) ++ d8 (bits n 7 0))).since
    (Nat.le_trans h.only.nextSeq hu.nextSeq)
  have hlogged := (State.logC_conv u c 0x4006 (d8 (bits n 11 8) ++ d8 (bits n 7 0))).trans huconv
  generalize u.logC c 0x4006 (d8 (bits n 11 8) ++ d8 (bits n 7 0)) = x at heff hlog hlogged
  refine accepts_of_effect rfl h heff (congrArg (·.1.code) heff₀)
    ⟨logged_startCycle (hlog.keep (State.setHealth_keep (Keep.refl 329 x) rfl c _) rfl) c _, ?_⟩
  have hslice : ((idleAgain s' c (bits n 11 8) (bits n 7 0)).cv c (bits n 11 8)).slice (bits n 7 0) = _ :=
    setSlice_slice s' c _ _ _ (by rwa [hconv]) (by rwa [hcv])
  have hconvs : bits n 11 8 < (x.conv.get c).convs.length := by
    rw [hlogged, idleAgain, State.setSlice, State.convs_setCv, hconv]
    exact hk
  obtain ⟨hidle, -, hrestored⟩ := (health_cv x c _ hconvs).2 (bits n 7 0)
  rw [State.cv_congr hlogged, hslice] at hidle hrestored
  rw [cv_startCycle]
  exact ⟨hidle, hrestored⟩

/-- SLICE_OVERDUE. -/
theorem sliceOverdue_logs (c : Carrier) (k : Fin 8) (i : Nat) (s : State) (hst : ((s.cv c k).slice i).st = 0)
    (hdue : ((s.cv c k).slice i).due = true) (hsince : ((s.cv c k).slice i).dueSince + 600000 ≤ s.clk.sfn)
    (hlast : ((s.cv c k).slice i).overdue + 600000 ≤ s.clk.sfn) :
    ∃ t, exec (.sliceOverdue c k i) s = .next t ∧ Logged s t 0x400A (d8 k ++ d8 i ++
      i16 (moved (s.cv c k).temp ((s.cv c k).slice i)) ++ d32 ((s.clk.sfn - ((s.cv c k).slice i).trimSfn) / sfPerSecond)) :=
  ⟨_, congrArg Host.Outcome.next (if_pos ⟨hst, hdue, hsince, hlast⟩),
    (Logged.logC _ _ _ _).since (State.setSlice_keep (Keep.refl 256 s) rfl c k i _).nextSeq⟩

/-! ## Clip alarms (R95, R97) -/

/-- The alarm of a converter that clipped for ten superframes is raised and logged. -/
theorem clipAlarm_raises {k : Nat} (code : Nat) (hk : k < (s.conv.get c).convs.length) (hrun : 10 ≤ (s.cv c k).clipRun)
    (hnew : (s.cv c k).clipAlarm = false) :
    ((s.clipAlarm c k code).cv c k).clipAlarm = true ∧
      Logged s (s.clipAlarm c k code) code (d8 k ++ d32 (s.u (on c Obj.clipRatio) k)) := by
  simp only [State.clipAlarm, if_pos (And.intro hrun hnew)]
  refine ⟨?_, (Logged.logC _ _ _ _).since (State.setCv_keep (Keep.refl 256 s) rfl c k _).nextSeq⟩
  rw [State.cv_congr (State.logC_conv ..), State.cv_setCv_same s c _ hk]

end Rotation

/-- Settles O34: each command completes in the state that its rule above names. -/
theorem slicesRotate : Obligations.SlicesRotate :=
  ⟨sliceDue_marks, trimRetry_arms, trimFitComplete_bad, trimFitComplete_good, handoverCheck_passes,
    handoverCheck_relievedFaulty, handoverCheck_incomingFaulty, trimExpired_late, trimExpired_hot, sliceFailed_logs,
    sliceRetire_again, sliceRetire_active, sliceRetire_idle, sliceRestore_idles, sliceOverdue_logs,
    fun _ _ _ hk hrun hnew => ⟨_, rfl, clipAlarm_raises 0x400B hk hrun hnew⟩,
    fun _ _ _ hk hrun hnew => ⟨_, rfl, clipAlarm_raises 0x400C hk hrun hnew⟩⟩

section Receiver

open Sys2Proof.Laws.OfLanes

variable {c : Carrier} {s : State}

/-! ## The lock state and the dispersion record under the receiver's operations (R113, R124) -/

@[simp] theorem lock_setLock (s : State) (c : Carrier) (n : Nat) : (s.setLock c n).lock c = n :=
  (State.u_put_same s (on c Obj.lockState) 0 n).trans (Int.toNat_natCast n)

@[simp] theorem rxs_setLock (s : State) (c : Carrier) (n : Nat) : (s.setLock c n).rxs c = s.rxs c :=
  State.rxs_congr (State.setLock_eq s c n) c

@[simp] theorem lock_setRx (s : State) (c : Carrier) (f : EqSt → EqSt) : (s.setRx c f).lock c = s.lock c :=
  State.setRx_u s c f _ 0

@[simp] theorem lock_logC (s : State) (c : Carrier) (code : Nat) (data : List Byte) :
    (s.logC c code data).lock c = s.lock c :=
  State.u_logC s c code data (lk_lock c)

@[simp] theorem rxs_logC (s : State) (c : Carrier) (code : Nat) (data : List Byte) :
    (s.logC c code data).rxs c = s.rxs c :=
  State.rxs_congr (State.logC_eq s c code data) c

@[simp] theorem lock_setValidity (s : State) (c : Carrier) (v : Nat) : (s.setValidity c v).lock c = s.lock c := by
  unfold State.setValidity
  split
  · rfl
  · rw [lock_logC, lock_setRx]

@[simp] theorem rxs_setValidity (s : State) (c : Carrier) (v : Nat) :
    (s.setValidity c v).rxs c = { s.rxs c with validity := v } := by
  unfold State.setValidity
  split
  next hsame => rw [← hsame]
  next => rw [rxs_logC, State.rxs_setRx_same]

/-- A record's new validity is logged. -/
theorem setValidity_logs {v : Nat} (h : (s.rxs c).validity ≠ v) : Logged s (s.setValidity c v) 0x5007 (d8 v) := by
  rw [State.setValidity, if_neg h]
  exact (Logged.logC _ _ _ _).since (State.setRx_keep (Keep.refl 1024 s) rfl c _).nextSeq

/-! ## Loss of input (R96) -/

/-- LOSS_OF_INPUT. -/
theorem lossOfInput_logs (c : Carrier) (k : Fin 4) (rms : Nat) (s : State) (hrun : 10 ≤ (s.cv c k).lossRun)
    (hnew : (s.cv c k).loss = false) :
    ∃ t, exec (.lossOfInput c k rms) s = .next t ∧ Logged s t 0x400E (d8 k ++ d8 (rms / 1000)) := by
  refine ⟨_, congrArg Host.Outcome.next (if_pos ⟨hrun, hnew⟩), ?_⟩
  extract_lets lost logged gone stopped failed
  have hlogged : Logged s logged 0x400E (d8 k ++ d8 (rms / 1000)) :=
    (Logged.logC _ _ _ _).since (State.setCv_keep (Keep.refl 256 s) rfl c k _).nextSeq
  have hfailed : Keep 1373 logged failed :=
    State.raiseSignalFail_keep (State.rotationState_keep (State.setRx_keep (Keep.refl _ logged) rfl c _) rfl c) rfl c 2
  exact hlogged.keep (Keep.ite (State.setLock_keep (State.release_keep hfailed rfl _ _) rfl c 1) hfailed) rfl

/-! ## The frequency of the local oscillator (R121, R583) -/

/-- The static filter brought within the limit of the symbol rate, as a restart of acquisition leaves it. -/
def clipStatic (s : State) (c : Carrier) : State :=
  s.put (on c Obj.cdStatic) 0 (max (-(s.cdLimit c * 10)) (min (s.cdLimit c * 10) (s.i (on c Obj.cdStatic))))

theorem lock_clipStatic (s : State) (c : Carrier) : (clipStatic s c).lock c = s.lock c :=
  State.u_put_other s _ (by cases c <;> decide)

/-- A restart of acquisition clips the static filter and logs the setting, and with the receiver off does no more. -/
theorem restartAcq_eq (s : State) (c : Carrier) (setting old new : Nat) (k : AcqKind) :
    s.restartAcq c setting old new k =
      if s.lock c = 0 then (clipStatic s c).logC c 0x500C (d8 setting ++ d32 old ++ d32 new)
      else (((clipStatic s c).logC c 0x500C (d8 setting ++ d32 old ++ d32 new)).loseFrameLock c 1).startAcq c k := by
  have hlock : ((clipStatic s c).logC c 0x500C (d8 setting ++ d32 old ++ d32 new)).lock c = s.lock c := by
    rw [lock_logC, lock_clipStatic]
  rw [← hlock]
  rfl

theorem restartAcq_logs (s : State) (c : Carrier) (setting old new : Nat) (k : AcqKind) :
    Logged s (s.restartAcq c setting old new k) 0x500C (d8 setting ++ d32 old ++ d32 new) := by
  have hlog := (Logged.logC (clipStatic s c) c 0x500C (d8 setting ++ d32 old ++ d32 new)).since
    (State.put_keep (Keep.refl 1 s) rfl _ _ _).nextSeq
  rw [restartAcq_eq]
  split
  · exact hlog
  · exact hlog.keep (M := 2013) (State.startAcq_keep (State.loseFrameLock_keep (Keep.refl _ _) rfl c 1) rfl c k) rfl

/-- `LoFrequency` with a new value, in force in the receiver. -/
def retuned (s : State) (c : Carrier) (f : Nat) : State :=
  (s.put (on c Obj.loFrequency) 0 f).setRx c (fun x => { x with lo := f, loBase := f })

theorem loFrequencyEffect_eq (s : State) (c : Carrier) (f : Nat) :
    s.loFrequencyEffect c f = ({}, (retuned s c f).restartAcq c 2 (s.u (on c Obj.loFrequency)) f .cold) := rfl

theorem lock_retuned (s : State) (c : Carrier) (f : Nat) : (retuned s c f).lock c = s.lock c :=
  (lock_setRx _ c _).trans (State.u_put_other s _ (by cases c <;> decide))

/-- The new value stands in the object and in the receiver, and with the receiver off the restart leaves it there. -/
theorem restartAcq_retuned_off {f old : Nat} (hoff : s.lock c = 0) :
    ((retuned s c f).restartAcq c 2 old f .cold).u (on c Obj.loFrequency) = f ∧
      (((retuned s c f).restartAcq c 2 old f .cold).rxs c).loBase = f := by
  rw [restartAcq_eq, if_pos ((lock_retuned s c f).trans hoff)]
  refine ⟨?_, ?_⟩
  · rw [State.u_logC _ _ _ _ (by cases c <;> decide)]
    refine (State.u_put_other _ _ (by cases c <;> decide)).trans ?_
    exact (State.u_put_same s (on c Obj.loFrequency) 0 f).trans (Int.toNat_natCast f)
  · rw [rxs_logC]
    exact congrArg EqSt.loBase (State.rxs_setRx_same (s.put (on c Obj.loFrequency) 0 f) c _)

/-- LO_FREQUENCY_WRITE. -/
theorem loFrequencyWrite_retunes (w : Requester) (c : Carrier) (f n : Nat) (s s' : State)
    (h : Admitted s s' w 2 (on c Obj.loFrequency) 0 (.num f) (.num n)) :
    Accepts (.loFrequencyWrite w c f) s w 2 (on c Obj.loFrequency) 0 (fun x =>
      Logged s x 0x500C (d8 2 ++ d32 (s'.u (on c Obj.loFrequency)) ++ d32 n) ∧
      (s'.lock c = 0 → x.u (on c Obj.loFrequency) = n ∧ (x.rxs c).loBase = n)) := by
  refine accepts_of_effect rfl h (loFrequencyEffect_eq s' c n) rfl ⟨?_, restartAcq_retuned_off⟩
  have hretuned : Keep 67108863 s (retuned s' c n) := State.setRx_keep (State.put_keep h.keep rfl _ _ _) rfl c _
  exact (restartAcq_logs (retuned s' c n) c 2 _ n .cold).since hretuned.nextSeq

/-! ## The steps of an acquisition (R114, R115, R584) -/

/-- The next step of an acquisition begins now. -/
def nextStep (s : State) (c : Carrier) (n : Nat) : State :=
  (s.setRx c (fun x => { x with stepStart := s.clk.sfn, pilots := 0 })).setLock c n

theorem lock_nextStep (s : State) (c : Carrier) (n : Nat) : (nextStep s c n).lock c = n := lock_setLock _ c n

theorem rxs_nextStep (s : State) (c : Carrier) (n : Nat) :
    (nextStep s c n).rxs c = { s.rxs c with stepStart := s.clk.sfn, pilots := 0 } := by
  rw [nextStep, rxs_setLock, State.rxs_setRx_same]

/-- ACQUISITION_STEP_COMPLETE of state 3. -/
theorem stepComplete_three (c : Carrier) (r : AcqResult) (s : State) (hlock : s.lock c = 3)
    (hwait : (s.rxs c).waitUntil = none) (htime : s.clk.sfn ≤ (s.rxs c).stepStart + 10)
    (hoffset : r.offset.natAbs ≤ 3600000) (hwindow : (s.searchWindow c).1 ≤ (s.searchWindow c).2) :
    ∃ t, exec (.acquisitionStepComplete c r) s = .next t ∧ t.lock c = 4 ∧ (t.rxs c).offset = r.offset ∧
      (t.rxs c).stepStart = s.clk.sfn := by
  have hlate := late_not s c (by rwa [bound3 s c hlock])
  have hexec : exec (.acquisitionStepComplete c r) s =
      .next (nextStep (s.setRx c (fun x => { x with offset := r.offset })) c 4) := by
    show execAcquisitionStepComplete c r s = _
    simp [execAcquisitionStepComplete, hlock, hwait, hlate, Nat.not_lt.mpr hoffset, Int.not_lt.mpr hwindow, nextStep]
  refine ⟨_, hexec, lock_nextStep _ c 4, ?_, ?_⟩
  · rw [rxs_nextStep, State.rxs_setRx_same]
  · rw [rxs_nextStep, State.setRx_clk]

/-- ACQUISITION_STEP_COMPLETE of state 4. -/
theorem stepComplete_four (c : Carrier) (r : AcqResult) (s : State) (hlock : s.lock c = 4)
    (hwait : (s.rxs c).waitUntil = none) (htime : s.clk.sfn ≤ (s.rxs c).stepStart + 140)
    (hlo : (s.searchWindow c).1 < s.searchResult c r) (hhi : s.searchResult c r < (s.searchWindow c).2) :
    ∃ t, exec (.acquisitionStepComplete c r) s = .next t ∧ t.lock c = 5 ∧
      t.i (on c Obj.cdStatic) = s.searchResult c r * 10 ∧ (t.rxs c).stepStart = s.clk.sfn := by
  have hlate := late_not s c (by rwa [bound4 s c hlock])
  have hexec : exec (.acquisitionStepComplete c r) s =
      .next (nextStep (s.put (on c Obj.cdStatic) 0 (s.searchResult c r * 10)) c 5) := by
    show execAcquisitionStepComplete c r s = _
    simp [execAcquisitionStepComplete, hlock, hwait, hlate, Int.not_lt.mpr (Int.le_of_lt (Int.lt_trans hlo hhi)),
      Int.not_le.mpr hlo, Int.not_le.mpr hhi, nextStep]
  refine ⟨_, hexec, lock_nextStep _ c 5, ?_, ?_⟩
  · refine (State.i_put_other _ _ (by cases c <;> decide)).trans ((State.setRx_i _ c _ _ 0).trans ?_)
    exact State.i_put_same s _ 0 _
  · rw [rxs_nextStep, State.put_clk]

/-- ACQUISITION_STEP_COMPLETE of state 5. -/
theorem stepComplete_five (c : Carrier) (r : AcqResult) (s : State) (hlock : s.lock c = 5)
    (hwait : (s.rxs c).waitUntil = none) (htime : s.clk.sfn ≤ (s.rxs c).stepStart + 200) :
    ∃ t, exec (.acquisitionStepComplete c r) s = .next t ∧ t.lock c = 6 ∧ (t.rxs c).stepStart = s.clk.sfn ∧
      (t.rxs c).pilots = 0 := by
  have hlate := late_not s c (by rwa [bound5 s c hlock])
  have hexec : exec (.acquisitionStepComplete c r) s = .next (nextStep s c 6) := by
    show execAcquisitionStepComplete c r s = _
    simp [execAcquisitionStepComplete, hlock, hwait, hlate, nextStep]
  refine ⟨_, hexec, lock_nextStep s c 6, ?_⟩
  rw [rxs_nextStep]
  exact ⟨rfl, rfl⟩

/-- ACQUISITION_STEP_COMPLETE of state 6 with one window that shows the pilots. -/
theorem stepComplete_six (c : Carrier) (r : AcqResult) (w : PilotWin) (s : State) (hlock : s.lock c = 6)
    (hwait : (s.rxs c).waitUntil = none) (hlate : s.stepLate c = false) (hwindows : r.windows = [w])
    (hpattern : w.pattern = true) (hsnr : (s.u (on c Obj.sfThreshold) : Int) * 100 + 1000 ≤ w.snr)
    (hmute : s.muteSeen c w = false) (hpilots : 1 ≤ (s.rxs c).pilots) :
    ∃ t, exec (.acquisitionStepComplete c r) s = .next t ∧ t.lock c = 7 ∧
      t.u (on c Obj.acqTimeLast) = s.clk.sfn - (s.rxs c).acqStart ∧ t.i (on c Obj.freqOffset) = (s.rxs c).offset ∧
      (t.rxs c).fails = 0 := by
  have hexec : exec (.acquisitionStepComplete c r) s = .next (s.pilotWindow c w) := by
    show execAcquisitionStepComplete c r s = _
    simp [execAcquisitionStepComplete, hlock, hwait, hlate, hwindows]
  exact ⟨_, hexec, windowSix c w s hlock hlate hpattern hsnr hmute hpilots⟩

/-- PILOT_SNR_WINDOW of state 6, the second that shows the pilots. -/
theorem pilotWindowEnd_found (c : Carrier) (w : PilotWin) (s : State) (hlock : s.lock c = 6)
    (hlate : s.stepLate c = false) (hpattern : w.pattern = true)
    (hsnr : (s.u (on c Obj.sfThreshold) : Int) * 100 + 1000 ≤ w.snr) (hmute : s.muteSeen c w = false)
    (hpilots : 1 ≤ (s.rxs c).pilots) :
    ∃ t, exec (.pilotWindowEnd c w) s = .next t ∧ t.lock c = 7 ∧
      t.u (on c Obj.acqTimeLast) = s.clk.sfn - (s.rxs c).acqStart ∧ t.i (on c Obj.freqOffset) = (s.rxs c).offset ∧
      (t.rxs c).fails = 0 :=
  ⟨_, rfl, windowSix c w s hlock hlate hpattern hsnr hmute hpilots⟩

/-! ## Failed steps and waits (R116, R120, R129) -/

/-- The pilot search of a warm start goes back. -/
theorem stepFailed_of_warm (reason : Nat) (hlock : s.lock c = 6) (hkind : (s.rxs c).kind = .warmPilots) :
    s.stepFailed c reason =
      (s.setRx c (fun x => { x with kind := .warmFull, stepStart := s.clk.sfn, pilots := 0 })).setLock c 5 := by
  simp only [State.stepFailed, hlock, hkind]

/-- Of every other start the attempt has failed. -/
theorem stepFailed_of_not_warm (reason : Nat) (hkind : (s.rxs c).kind ≠ .warmPilots) :
    s.stepFailed c reason = s.attemptFailed c reason := by
  unfold State.stepFailed
  split
  next hwarm _ => exact absurd hwarm hkind
  next => rfl

/-- After the fourth failure in a row the carrier waits. -/
theorem attemptFailed_fourth (reason : Nat) (hfails : 3 ≤ (s.rxs c).fails) :
    (s.attemptFailed c reason).lock c = 3 ∧
      ((s.attemptFailed c reason).rxs c).waitUntil = some (s.clk.sfn + sfPerSecond) := by
  unfold State.attemptFailed
  extract_lets x state logNow counted logged waiting
  rw [if_pos (Nat.succ_le_succ hfails)]
  have hclk : logged.clk = s.clk := by
    unfold logged
    split
    · rw [State.logC_clk, State.setRx_clk]
    · rw [State.setRx_clk]
  refine ⟨by rw [lock_setRx, lock_setLock], ?_⟩
  rw [State.rxs_setRx_same, State.setLock_clk, ← hclk]
  rfl

/-- ACQUISITION_STEP_FAILED of a warm start. -/
theorem stepFailed_warm (c : Carrier) (reason : Fin 5) (s : State) (hlock : s.lock c = 6)
    (hwait : (s.rxs c).waitUntil = none) (hkind : (s.rxs c).kind = .warmPilots) :
    ∃ t, exec (.acquisitionStepFailed c reason) s = .next t ∧ t.lock c = 5 ∧ (t.rxs c).kind = .warmFull := by
  refine ⟨_, congrArg Host.Outcome.next (if_pos ⟨by omega, by omega, hwait⟩), ?_⟩
  rw [stepFailed_of_warm reason hlock hkind, rxs_setLock, State.rxs_setRx_same]
  exact ⟨lock_setLock _ c 5, rfl⟩

/-- ACQUISITION_STEP_FAILED for the fourth time. -/
theorem stepFailed_fourth (c : Carrier) (reason : Fin 5) (s : State) (hlo : 3 ≤ s.lock c) (hhi : s.lock c ≤ 6)
    (hwait : (s.rxs c).waitUntil = none) (hkind : (s.rxs c).kind ≠ .warmPilots) (hfails : 3 ≤ (s.rxs c).fails) :
    ∃ t, exec (.acquisitionStepFailed c reason) s = .next t ∧ t.lock c = 3 ∧
      (t.rxs c).waitUntil = some (s.clk.sfn + sfPerSecond) := by
  refine ⟨_, congrArg Host.Outcome.next (if_pos ⟨hlo, hhi, hwait⟩), ?_⟩
  rw [stepFailed_of_not_warm reason hkind]
  exact attemptFailed_fourth reason hfails

/-- ACQUISITION_WAIT_END. -/
theorem waitEnd_starts (c : Carrier) (t0 : Nat) (s : State) (hlock : s.lock c = 3)
    (hwait : (s.rxs c).waitUntil = some t0) (htime : t0 ≤ s.clk.sfn) :
    ∃ t, exec (.acquisitionWaitEnd c) s = .next t ∧ t.lock c =
      (if s.noInput c = true then 1
       else if s.holds Act.acq c.toNat ≠ 0 ∨ s.judge Act.acq c.toNat acqCost = 0 then 3 else 2) := by
  have hexec : exec (.acquisitionWaitEnd c) s =
      .next ((s.setRx c (fun x => { x with waitUntil := none })).startAcq c .cold) := by
    show execAcquisitionWaitEnd c s = _
    simp only [execAcquisitionWaitEnd, hwait, if_pos (And.intro hlock htime)]
  have hstart := startAcq_lock (s.setRx c (fun x => { x with waitUntil := none })) c .cold
  rw [if_pos (Or.inr rfl)] at hstart
  exact ⟨_, hexec, hstart⟩

/-- ACQUISITION_LEDGER_RETRY. -/
theorem ledgerRetry_starts (c : Carrier) (s : State) (hlock : s.lock c = 2) (hretry : (s.rxs c).retryAt ≤ s.clk.sfn) :
    ∃ t, exec (.acquisitionLedgerRetry c) s = .next t ∧ t.lock c =
      (if s.noInput c = true then 1
       else if s.holds Act.acq c.toNat ≠ 0 ∨ s.judge Act.acq c.toNat acqCost = 0 then
         (if s.goneLong c = true ∨ (s.rxs c).kind = .cold then 3 else 6) else 2) :=
  ⟨_, congrArg Host.Outcome.next (if_pos ⟨hlock, hretry⟩), startAcq_lock s c (s.rxs c).kind⟩

/-! ## Signal fail and loss of lock (R117, R119) -/

/-- A window counts towards signal fail (R117). -/
def badWindow (s : State) (c : Carrier) (w : PilotWin) : Bool :=
  decide (w.snr < (s.u (on c Obj.sfThreshold) : Int) * 100) || s.muteSeen c w

/-- A window of tracking is noted: its SNR, and the run of bad windows that it continues or ends (R117). -/
def noteWindow (s : State) (c : Carrier) (w : PilotWin) (bad : Bool) : State :=
  (s.setRx c (fun x => { x with pilotSnr := w.snr })).setRx c (fun x => { x with bad := if bad then x.bad + 1 else 0 })

theorem lock_noteWindow (s : State) (c : Carrier) (w : PilotWin) (bad : Bool) :
    (noteWindow s c w bad).lock c = s.lock c := by
  rw [noteWindow, lock_setRx, lock_setRx]

/-- In tracking the second bad window in a row raises signal fail, and any other is noted alone. -/
theorem pilotWindow_tracking (w : PilotWin) (hlock : s.lock c = 7) :
    s.pilotWindow c w = if badWindow s c w && decide (1 ≤ (s.rxs c).bad) then
        (noteWindow s c w (badWindow s c w)).raiseSignalFail c
          (if w.snr < (s.u (on c Obj.sfThreshold) : Int) * 100 then 0 else 1)
      else noteWindow s c w (badWindow s c w) := by
  simp only [State.pilotWindow, lock_setRx, hlock, State.rxs_setRx_same, Nat.reduceEqDiff, if_false, if_true]
  rfl

/-- Signal fail raised in tracking. -/
theorem raiseSignalFail_tracking (cause : Nat) (hlock : s.lock c = 7) :
    (s.raiseSignalFail c cause).lock c = 8 ∧ ((s.raiseSignalFail c cause).rxs c).sfRaised = true ∧
      ((s.raiseSignalFail c cause).rxs c).sfSince = s.now := by
  unfold State.raiseSignalFail
  rw [if_pos hlock]
  extract_lets raised shown
  have hshown : shown.lock c = 8 := by rw [lock_logC, lock_setLock]
  have hrxs : shown.rxs c = raised.rxs c := by rw [rxs_logC, rxs_setLock]
  have hraised : (raised.rxs c).sfRaised = true ∧ (raised.rxs c).sfSince = s.now := by
    rw [State.rxs_setRx_same]
    exact ⟨rfl, rfl⟩
  rw [← hrxs] at hraised
  split
  · rw [lock_setValidity, rxs_setValidity]
    exact ⟨hshown, hraised⟩
  · exact ⟨hshown, hraised⟩

/-- PILOT_SNR_WINDOW in tracking, at or above the threshold. -/
theorem pilotWindowEnd_good (c : Carrier) (w : PilotWin) (s : State) (hlock : s.lock c = 7)
    (hsnr : (s.u (on c Obj.sfThreshold) : Int) * 100 ≤ w.snr) (hmute : s.muteSeen c w = false) :
    ∃ t, exec (.pilotWindowEnd c w) s = .next t ∧ (t.rxs c).bad = 0 ∧ (t.rxs c).pilotSnr = w.snr ∧ t.lock c = 7 := by
  have hgood : badWindow s c w = false := by
    rw [badWindow, hmute, decide_eq_false (Int.not_lt.mpr hsnr), Bool.or_self]
  have hexec : exec (.pilotWindowEnd c w) s = .next (noteWindow s c w false) := by
    show execPilotWindowEnd c w s = _
    rw [execPilotWindowEnd, pilotWindow_tracking w hlock, hgood, Bool.false_and, if_neg Bool.false_ne_true]
  refine ⟨_, hexec, ?_, ?_, (lock_noteWindow s c w false).trans hlock⟩
  · rw [noteWindow, State.rxs_setRx_same, if_neg Bool.false_ne_true]
  · rw [noteWindow, State.rxs_setRx_same, State.rxs_setRx_same]

/-- PILOT_SNR_WINDOW in tracking, the second in a row below the threshold. -/
theorem pilotWindowEnd_fails (c : Carrier) (w : PilotWin) (s : State) (hlock : s.lock c = 7)
    (hlow : w.snr < (s.u (on c Obj.sfThreshold) : Int) * 100 ∨ s.muteSeen c w = true) (hrun : 1 ≤ (s.rxs c).bad) :
    ∃ t, exec (.pilotWindowEnd c w) s = .next t ∧ t.lock c = 8 ∧ (t.rxs c).sfRaised = true ∧
      (t.rxs c).sfSince = s.now := by
  have hbad : badWindow s c w = true := by
    rw [badWindow, Bool.or_eq_true, decide_eq_true_eq]
    exact hlow
  have hsecond : (badWindow s c w && decide (1 ≤ (s.rxs c).bad)) = true := by
    rw [hbad, Bool.true_and, decide_eq_true_eq]
    exact hrun
  refine ⟨_, congrArg Host.Outcome.next ((pilotWindow_tracking w hlock).trans (if_pos hsecond)), ?_⟩
  exact raiseSignalFail_tracking _ ((lock_noteWindow s c w _).trans hlock)

/-- LOSS_OF_LOCK. -/
theorem lossOfLock_logs (c : Carrier) (s : State) (hlock : s.lock c = 8) (hlong : s.signalFailLong c = true) :
    ∃ t, exec (.lossOfLock c) s = .next t ∧ Logged s t 0x5004 (be 4 (f32OfRat (s.rxs c).pilotSnr 1000)) := by
  refine ⟨_, congrArg Host.Outcome.next (if_pos ⟨hlock, hlong⟩), ?_⟩
  have hlog := (Logged.logC (s.bump (on c Obj.lockLossCount)) c 0x5004 (be 4 (f32OfRat (s.rxs c).pilotSnr 1000))).since
    (State.bump_keep (Keep.refl 1 s) rfl _ 0).nextSeq
  exact hlog.keep (M := 2013) (State.startAcq_keep (State.loseFrameLock_keep (State.setRx_keep (Keep.refl _ _) rfl c _) rfl
    c 1) rfl c .warmPilots) rfl

/-! ## The dispersion record (R124) -/

/-- DISPERSION_RECORD_VALID. -/
theorem recordValid_shows (c : Carrier) (s : State) (hlock : s.lock c = 7) (hnew : (s.rxs c).validity ≠ 1)
    (htime : (s.rxs c).trackedFrom + (s.rxs c).needed ≤ s.clk.sfn) (hbound : s.cdBound c ≤ 200) :
    ∃ t, exec (.recordValid c) s = .next t ∧ (t.rxs c).validity = 1 ∧
      t.i (on c Obj.cdEstimate) = s.cdNow c ∧ t.u (on c Obj.cdUncertainty) = s.cdBound c ∧ Logged s t 0x5007 (d8 1) := by
  refine ⟨_, congrArg Host.Outcome.next (if_pos ⟨hlock, hnew, htime, hbound⟩), ?_⟩
  extract_lets held
  have hrxs : held.rxs c = { s.rxs c with validity := 1, cdHeld := s.cdNow c, uHeld := s.cdBound c } := by
    rw [State.rxs_setRx_same, rxs_setValidity]
  have hnow : held.cdNow c = s.cdNow c := by rw [State.cdNow, hrxs, State.cdNow]
  have hlog : Logged s held 0x5007 (d8 1) :=
    (setValidity_logs hnew).keep (State.setRx_keep (Keep.refl 1024 _) rfl c _) rfl
  refine ⟨?_, ?_, ?_, hlog.keep (State.put_keep (State.put_keep (Keep.refl 1 held) rfl _ _ _) rfl _ _ _) rfl⟩
  · rw [State.rxs_congr (State.put_eq ..), State.rxs_congr (State.put_eq ..), hrxs]
  · rw [State.i_put_other _ _ (by cases c <;> decide), State.i_put_same, hnow]
  · rw [State.u_put_same, Int.toNat_natCast]

end Receiver

/-- Settles O33: each command completes in the state that its rule above names. -/
theorem receiverLocks : Obligations.ReceiverLocks :=
  ⟨lossOfInput_logs, loFrequencyWrite_retunes, stepComplete_three, stepComplete_four, stepComplete_five, stepComplete_six,
    pilotWindowEnd_found,
    stepFailed_warm, stepFailed_fourth, waitEnd_starts, ledgerRetry_starts, pilotWindowEnd_good, pilotWindowEnd_fails,
    lossOfLock_logs, recordValid_shows⟩

end Sys2Proof.Proofs.LineConverters
end

section
/-! The statements on subcarrier loading (05_subcarrier_loading.md): the core that leaves step V7, the one of a trial decode
where only that passes its check (R158, R173), and what the receiver does with a valid one (R204, R213, R217) and with one
that is not valid (R212). -/

namespace Sys2Proof.Proofs.SubcarrierLoading

open Sys2Proof.Machine Sys2Proof.Claims Sys2Proof.Laws.OfFootpath

variable {c : Carrier} {s : State}

/-! ## A core that is not valid (R212) -/

theorem exec_coreInvalid_of_awake (hawake : s.awake Dn.frm = true) :
    exec (.coreInvalid c) s = .next (s.coreInvalid c) :=
  congrArg Host.Outcome.next (if_pos hawake)

theorem coreInvalidCount_invalidOne (h : s.u (on c Obj.coreInvalidCount) < 4294967295) :
    (invalidOne s c).u (on c Obj.coreInvalidCount) = s.u (on c Obj.coreInvalidCount) + 1 := by
  unfold invalidOne
  rw [State.setFr_u, State.u_bump_same _ _ _ (by rw [State.setFr_u]; omega), State.setFr_u]

/-- One of the first seven invalid cores in a row while locked. -/
theorem coreInvalid_counts (c : Carrier) (s : State) (hawake : s.awake Dn.frm = true)
    (hlock : s.u (on c Obj.frameLock) ≠ 0) (hrun : (s.fr c).invalidRun < 7)
    (hcount : s.u (on c Obj.coreInvalidCount) < 4294967295) :
    ∃ t, exec (.coreInvalid c) s = .next t ∧ t.u (on c Obj.coreInvalidCount) = s.u (on c Obj.coreInvalidCount) + 1 ∧
      (t.fr c).invalidRun = (s.fr c).invalidRun + 1 ∧ (t.fr c).jumpRun = 0 ∧
      t.u (on c Obj.frameLock) = s.u (on c Obj.frameLock) := by
  obtain ⟨hnext, hjump, -, hstays⟩ := invalidOne_f s c
  have heq : s.coreInvalid c = invalidOne s c := by
    rw [coreInvalid_eq s c hlock, if_neg (by omega)]
  exact ⟨invalidOne s c, heq ▸ exec_coreInvalid_of_awake hawake, coreInvalidCount_invalidOne hcount, hnext, hjump, hstays⟩

/-- Nothing that follows the record of a lost frame lock removes it. -/
theorem loseFrameLock_logs (hlock : s.u (on c Obj.frameLock) ≠ 0) (cause : Nat) :
    Logged s (s.loseFrameLock c cause) 0x7002 (d8 cause) := by
  unfold State.loseFrameLock
  rw [if_neg hlock]
  extract_lets counted unlocked logged faulted
  have hbefore : Keep 129 s unlocked :=
    State.setFr_keep (State.bump_keep (State.put_keep (Keep.refl _ _) rfl _ _ _) rfl _ _) rfl _ _
  have hafter : Keep 477 (unlocked.logC c 0x7002 (d8 cause)) ((faulted.rotationCount c false).missOverdue c) :=
    State.missOverdue_keep (State.rotationCount_keep (Keep.foldl (State.setFr_keep (Keep.refl _ _) rfl _ _)
      (fun _ _ h => State.egressFault_keep h rfl _ _) _) rfl _ _) rfl _
  exact ((Logged.logC unlocked c 0x7002 (d8 cause)).since hbefore.nextSeq).keep hafter rfl

/-- The eighth invalid core in a row while locked. -/
theorem coreInvalid_eighth_logs (c : Carrier) (s : State) (hawake : s.awake Dn.frm = true)
    (hlock : s.u (on c Obj.frameLock) ≠ 0) (hrun : 7 ≤ (s.fr c).invalidRun) :
    ∃ t, exec (.coreInvalid c) s = .next t ∧ Logged s t 0x7002 (d8 0) := by
  obtain ⟨hnext, -, hseq, hstays⟩ := invalidOne_f s c
  have heq : s.coreInvalid c = (invalidOne s c).loseFrameLock c 0 := by
    rw [coreInvalid_eq s c hlock, if_pos (by omega)]
  exact ⟨_, heq ▸ exec_coreInvalid_of_awake hawake, (loseFrameLock_logs (hstays ▸ hlock) 0).since hseq⟩

/-- Neither the core of group 0 nor that of a trial decode passes its check. -/
theorem coreArrives_of_not_valid (c : Carrier) (s : State) (hawake : s.awake Dn.frm = true)
    (hown : Core.valid (s.heldCore c false) = false) (htrial : Core.valid (s.heldCore c true) = false) :
    exec (.coreArrives c) s = .next (s.coreInvalid c) := by
  show execCoreArrives c s = _
  unfold execCoreArrives
  dsimp only
  rw [hown, if_neg Bool.false_ne_true, htrial, hawake]
  rfl

/-! ## A valid core (R204, R212, R213) -/

/-- Without frame lock, and outside frame search, a valid core moves no count and none of its other fields is acted on. -/
theorem judgeCore_of_not_searching (hlock : s.u (on c Obj.frameLock) = 0) (hsearch : s.lock c ≠ 7) (k : Core) :
    s.judgeCore c k = (false, s) := by
  unfold State.judgeCore
  rw [if_pos hlock, if_pos hsearch]

/-- A valid core of the counted superframe is acted on, and ends both runs that could lose or move the count. -/
theorem judgeCore_of_counted (hlock : s.u (on c Obj.frameLock) ≠ 0) {k : Core} (hsfn : k.sfn = s.u (on c Obj.rxSfn)) :
    s.judgeCore c k = (true, (s.setFr c (fun f => { f with invalidRun := 0 })).setFr c (fun f => { f with jumpRun := 0 })) := by
  unfold State.judgeCore
  rw [if_neg hlock]
  dsimp only
  rw [if_pos (hsfn.trans (State.setFr_u ..).symm)]

/-- The core is kept and gives the remote defect, without frame lock too. -/
theorem coreArrives_shows_defect (c : Carrier) (s : State) (hawake : s.awake Dn.frm = true)
    (hvalid : Core.valid (s.heldCore c false) = true) (hlock : s.u (on c Obj.frameLock) = 0) (hsearch : s.lock c ≠ 7) :
    ∃ t, exec (.coreArrives c) s = .next t ∧ (t.fr c).core = s.heldCore c false ∧
      t.u (on c Obj.remoteDefect) = b2n (bit (Core.word (s.heldCore c false) 5) 6) := by
  obtain ⟨hcore, hdefect, hlock', hstate, -⟩ := coreKept_f s c (s.heldCore c false)
  have hjudge := judgeCore_of_not_searching (hlock'.trans hlock) (hstate ▸ hsearch) (s.heldCore c false)
  refine ⟨_, coreArrives_eq s c hawake hvalid, ?_⟩
  rw [hjudge]
  exact ⟨hcore, hdefect⟩

theorem coreArrives_of_counted (c : Carrier) (s : State) (hawake : s.awake Dn.frm = true)
    (hvalid : Core.valid (s.heldCore c false) = true) (hlock : s.u (on c Obj.frameLock) ≠ 0)
    (hsfn : Core.sfn (s.heldCore c false) = s.u (on c Obj.rxSfn)) :
    exec (.coreArrives c) s = .next ((((coreKept s c (s.heldCore c false)).setFr c
      (fun f => { f with invalidRun := 0 })).setFr c (fun f => { f with jumpRun := 0 })).actCore c (s.heldCore c false)) := by
  obtain ⟨-, -, hlock', -, hcount⟩ := coreKept_f s c (s.heldCore c false)
  rw [coreArrives_eq s c hawake hvalid, judgeCore_of_counted (hlock' ▸ hlock) (hsfn.trans hcount.symm)]
  rfl

/-- Settles O29: what CORE_INVALID and CORE_RECEIVED leave is what R212 asks of a core that is not valid and R204, R212
and R213 ask of one that is; the remote defect needs no frame lock (log entry 28). -/
theorem coresArrive : Obligations.CoresArrive :=
  ⟨coreInvalid_counts, coreInvalid_eighth_logs, coreArrives_shows_defect, coreArrives_of_counted, coreArrives_of_not_valid⟩

end Sys2Proof.Proofs.SubcarrierLoading
end

section
/-! The statements on the line frame and its clients (07_line_frame_and_client_mapping.md): the host lanes, whose clients'
blocks are matched to the frame (R219; R237 to R252 of 08_host_lanes.md), what the frame carries of a client's blocks, of
the message channel and of PTP (R210 to R230), and the link cipher that seals its cells, with the Grotto's completions
(R269 to R280, R298 to R301). The number of a `Keep` is the set of parts of the state that may have changed, as
Laws/Keep.lean writes it. -/

namespace Sys2Proof.Proofs.LineFrame

open Sys2Proof.Machine Sys2Proof.Claims Sys2Proof.Proofs.Superframe

section Lanes

open Sys2Proof.Laws.OfLanes

variable {s : State}

/-! ## The settings of lanes and clients (R239, R241 to R243, R251) -/

theorem lane_putLane_same (s : State) (o l n : Nat) : (s.putLane o l n).lane o l = n :=
  (State.u_put_same ..).trans (Int.toNat_natCast n)

theorem lane_putLane_other (s : State) {o o' : Nat} (l : Nat) (v : Int) (h : o ≠ o') :
    (s.putLane o' l v).lane o l = s.lane o l :=
  State.u_put_other s v (okey_ne (by omega) (by omega) (.inl (by omega)))

/-- The access that an admitted write notes changes neither a lane's client nor what the ledger grants the lane. -/
theorem laneRoom_of_noted {s' : State} (h : s' = s ∨ ∃ d, s' = s.touch d) (l cost : Nat) :
    s'.clientOn l = s.clientOn l ∧ s'.holds Act.lane l = s.holds Act.lane l ∧
      s'.judge Act.lane l cost = s.judge Act.lane l cost := by
  rcases h with rfl | ⟨d, rfl⟩ <;> exact ⟨rfl, rfl, rfl⟩

/-- A rate just written stands while the lane starts afresh and the clients are judged. -/
theorem laneRate_judgeLanes (z : State) (l : Fin 32) (n v : Nat) (p : Prop) [Decidable p] :
    ((if p then z.putLane Obj.laneRate l n else (z.putLane Obj.laneRate l n).laneState l v).judgeLanes).lane Obj.laneRate l
      = n := by
  have hput := lane_putLane_same z Obj.laneRate l n
  refine (judge_u (lk_lr l) (ne_lr l) _).trans ?_
  split
  · exact hput
  · exact (ls_u l v (lk_lr l) (ne_lrls l) _).trans hput

/-- A rate for a free lane whose cost the ledger grants. -/
theorem laneRateEffect_of_room {l : Fin 32} {n : Nat} (hfree : s.clientOn l = none)
    (hroom : laneCost n ≤ s.holds Act.lane l ∨ s.judge Act.lane l (laneCost n - s.holds Act.lane l) = 0) :
    ∃ y, s.laneRateEffect l n = ({}, y) ∧ y.lane Obj.laneRate l = n := by
  have hgrant : (if laneCost n - s.holds Act.lane l = 0 then 0
      else s.judge Act.lane l (laneCost n - s.holds Act.lane l)) = 0 := by
    split
    · rfl
    · exact hroom.resolve_left (by omega)
  simp only [State.laneRateEffect, hfree, hgrant, Option.isSome_none, Bool.false_eq_true, ne_eq, not_true_eq_false, if_false]
  exact ⟨_, rfl, laneRate_judgeLanes _ l n _ _⟩

/-- LANE_RATE_WRITE. -/
theorem laneRateWrite_stores (w : Requester) (l : Fin 32) (v n : Nat) (s s' : State)
    (h : Admitted s s' w 2 (Obj.laneRate + 256 * (l.val / 8)) (l.val % 8) (.num v) (.num n)) (hfree : s'.clientOn l = none)
    (hroom : laneCost n ≤ s'.holds Act.lane l ∨ s'.judge Act.lane l (laneCost n - s'.holds Act.lane l) = 0) :
    Accepts (.laneRateWrite w l v) s w 2 (Obj.laneRate + 256 * (l.val / 8)) (l.val % 8)
      (fun x => x.lane Obj.laneRate l = n) := by
  obtain ⟨hclient, hholds, hjudge⟩ := laneRoom_of_noted h.noted l (laneCost n - s'.holds Act.lane l)
  obtain ⟨y, heff, hy⟩ := laneRateEffect_of_room hfree hroom
  rw [hclient] at hfree
  rw [hjudge, hholds] at hroom
  obtain ⟨_, heff₀, -⟩ := laneRateEffect_of_room hfree hroom
  exact accepts_of_effect (eff := fun x s => s.laneRateEffect l x.nat) rfl h heff (congrArg (·.1.code) heff₀) hy

/-- CLIENT_LANES_WRITE. -/
theorem clientLanesWrite_stores (w : Requester) (y : Fin 64) (v n : Nat) (s s' : State)
    (h : Admitted s s' w 2 Obj.clientLanes y (.num v) (.num n)) :
    Accepts (.clientLanesWrite w y v) s w 2 Obj.clientLanes y (fun x => x.u Obj.clientLanes y = n) := by
  refine accepts_of_effect rfl h rfl rfl ?_
  rw [judge_u (lk_cl y) (ne_cl y), State.u_put_same]
  exact Int.toNat_natCast n

/-- The state that a lane takes leaves the objects of its test. -/
theorem lane_laneState_other (s : State) (l : Fin 32) (v : Nat) {o : Nat}
    (ho : o = Obj.laneTest ∨ o = Obj.laneCheckBits ∨ o = Obj.laneCheckErrors) :
    (s.laneState l v).lane o l = s.lane o l := by
  rcases ho with rfl | rfl | rfl <;> exact ls_u l v (by revert l; decide) (by revert l; decide) s

/-- A test is stored, its counts are cleared, and the checker has no sync. -/
def testStored (s : State) (l n : Nat) : State :=
  (((s.putLane Obj.laneTest l n).putLane Obj.laneCheckBits l 0).putLane Obj.laneCheckErrors l 0).setLane l
    (fun y => { y with sync := false })

theorem lane_testStored (s : State) (l : Fin 32) (n : Nat) :
    (testStored s l n).lane Obj.laneTest l = n ∧ (testStored s l n).lane Obj.laneCheckBits l = 0 ∧
      (testStored s l n).lane Obj.laneCheckErrors l = 0 := by
  refine ⟨?_, ?_, ?_⟩
  · refine (lane_putLane_other _ l 0 (by decide)).trans ((lane_putLane_other _ l 0 (by decide)).trans ?_)
    exact lane_putLane_same s Obj.laneTest l n
  · exact (lane_putLane_other _ l 0 (by decide)).trans (lane_putLane_same _ Obj.laneCheckBits l 0)
  · exact lane_putLane_same _ Obj.laneCheckErrors l 0

/-- LANE_TEST_WRITE. -/
theorem laneTestWrite_stores (w : Requester) (l : Fin 32) (v n : Nat) (s s' : State)
    (h : Admitted s s' w 2 (Obj.laneTest + 256 * (l.val / 8)) (l.val % 8) (.num v) (.num n)) :
    Accepts (.laneTestWrite w l v) s w 2 (Obj.laneTest + 256 * (l.val / 8)) (l.val % 8) (fun x =>
      x.lane Obj.laneTest l = n ∧ x.lane Obj.laneCheckBits l = 0 ∧ x.lane Obj.laneCheckErrors l = 0) := by
  refine accepts_of_effect (eff := fun x s => s.laneTestEffect l x.nat)
    (y := (testStored s' l n).laneState l ((testStored s' l n).laneStart l)) rfl h rfl rfl ?_
  rw [lane_laneState_other _ l _ (.inl rfl), lane_laneState_other _ l _ (.inr (.inl rfl)),
    lane_laneState_other _ l _ (.inr (.inr rfl))]
  exact lane_testStored s' l n

/-! ## The states of lanes and the faults of clients (R246, R247) -/

/-- A change that is allowed where its state is not `k` needs what `k` needs. -/
theorem bne_or_of_imp {v k : Fin 7} {b : Bool} (h : v = k → b = true) : (v != k || b) = true :=
  Bool.or_eq_true_iff.mpr ((Decidable.em (v = k)).symm.imp bne_iff_ne.mpr h)

/-- LANE_STATE_CHANGE: a lane that runs outside a test may change to state 4 with a client and to state 6 without. -/
theorem exec_laneStateChange {l : Fin 32} {v : Fin 7} (hon : s.lane Obj.laneState l ≠ 0)
    (hrun : s.lane Obj.laneState l ≠ 5) (hv0 : v ≠ 0) (hv5 : v ≠ 5) (hclient : v = 4 → (s.clientOn l).isSome = true)
    (hfree : v = 6 → s.clientOn l = none) :
    exec (.laneStateChange l v) s = .next ((s.laneState l v).leaveFaults) := by
  have h4 : (v != 4 || (s.clientOn l).isSome) = true := bne_or_of_imp hclient
  have h6 : (v != 6 || (s.clientOn l).isNone) = true := bne_or_of_imp fun hv => by rw [hfree hv]; rfl
  refine congrArg Host.Outcome.next (if_pos ?_)
  simp only [bne_iff_ne.mpr hon, bne_iff_ne.mpr hrun, bne_iff_ne.mpr hv0, bne_iff_ne.mpr hv5, h4, h6, Bool.and_self]

/-- LANE_STATE_CHANGE. -/
theorem laneStateChange_logs (l : Fin 32) (v : Fin 7) (s : State) (hon : s.lane Obj.laneState l ≠ 0)
    (hrun : s.lane Obj.laneState l ≠ 5) (hnew : s.lane Obj.laneState l ≠ v) (hv0 : v ≠ 0) (hv5 : v ≠ 5)
    (hclient : v = 4 → (s.clientOn l).isSome = true) (hfree : v = 6 → s.clientOn l = none) :
    ∃ t, exec (.laneStateChange l v) s = .next t ∧ t.lane Obj.laneState l = v ∧
      Logged s t 0x7011 (d8 l ++ d8 (s.lane Obj.laneState l) ++ d8 v) := by
  have hchange : s.laneState l v =
      (s.putLane Obj.laneState l v).log 0x7011 (d8 l ++ d8 (s.lane Obj.laneState l) ++ d8 v) := if_neg hnew
  refine ⟨_, exec_laneStateChange hon hrun hv0 hv5 hclient hfree, ?_, ?_⟩
  · refine (leave_u (lk_ls l) (ne_ls l) _).trans ?_
    rw [hchange, State.u_log _ _ _ (lk_ls l)]
    exact lane_putLane_same s Obj.laneState l v
  · rw [hchange]
    exact ((Logged.log _ _ _).since (State.put_keep (Keep.refl 1 s) rfl _ _ _).nextSeq).keep
      (State.leaveFaults_keep (Keep.refl 8265 _) rfl) rfl

/-- A client that is in no fault enters one. -/
theorem enterFault_of_none {x cause l : Nat} (hnone : ∀ f ∈ s.lanes.faults, f.1 ≠ x) :
    s.enterFault x cause l = ((({ s with lanes := { s.lanes with faults := (x, cause, l) :: s.lanes.faults } } : State).put
      Obj.clientLaneState x 2).log 0x7010 (d8 x ++ d8 cause ++ d8 l)) :=
  if_neg fun hany => by
    obtain ⟨f, hf, hfx⟩ := List.any_eq_true.mp hany
    exact hnone f hf (beq_iff_eq.mp hfx)

/-- INGRESS_FAULT. -/
theorem ingressFault_logs (x : Fin 64) (cause : Fin 5) (l : Fin 32) (s : State) (hrate : s.clientRate x ≠ 0)
    (hcons : s.consistent x = true) (hl : l.val ∈ s.runLanes x) (hstate : s.lane Obj.laneState l ≠ 4)
    (hnone : ∀ f ∈ s.lanes.faults, f.1 ≠ x.val) :
    ∃ t, exec (.ingressFault x cause l) s = .next t ∧ t.u Obj.clientLaneState x = 2 ∧
      t.lanes.faults = (x.val, cause.val, l.val) :: s.lanes.faults ∧ Logged s t 0x7010 (d8 x ++ d8 cause ++ d8 l) := by
  refine ⟨s.enterFault x cause l,
    congrArg Host.Outcome.next (if_pos ⟨hrate, hcons, List.contains_iff_mem.mpr hl, hstate⟩), ?_⟩
  rw [enterFault_of_none hnone]
  refine ⟨?_, ?_, (Logged.log _ _ _).since (Nat.le_refl _)⟩
  · rw [State.u_log _ _ _ (lk_cs x), State.u_put_same]
    rfl
  · rw [State.log_lanes, State.put_lanes]

/-! ## The reference of a quad (R237) -/

theorem logKey_quadRefState (q : Fin 4) : logKey (okey (Obj.quadRefState + 256 * q.val) 0) = false := by revert q; decide

/-- A quad's reference is lost or back. -/
def lrefNow (s : State) (q : Fin 4) (lost : Bool) : State :=
  { s with lanes := { s.lanes with lref := setNth s.lanes.lref q lost } }

/-- A quad's new reference is shown and logged. -/
theorem quadRef_logs (s : State) (q : Fin 4) (lost : Bool) (n : Nat) :
    let t := ((lrefNow s q lost).put (Obj.quadRefState + 256 * q) 0 n).log 0x7015 (d8 q)
    t.u (Obj.quadRefState + 256 * q) = n ∧ Logged s t 0x7015 (d8 q) ∧ t.lanes.lref = setNth s.lanes.lref q lost := by
  refine ⟨?_, (Logged.log _ _ _).since (Nat.le_refl _), ?_⟩
  · rw [State.u_log _ _ _ (logKey_quadRefState q), State.u_put_same, Int.toNat_natCast]
  · rw [State.log_lanes, State.put_lanes]
    rfl

/-- LREF_LOST. -/
theorem lrefLost_logs (q : Fin 4) (s : State) (hheld : nth s.lanes.lref q false = false)
    (huse : s.u (Obj.quadRefState + 256 * q) = 1) :
    ∃ t, exec (.lrefLost q) s = .next t ∧ t.u (Obj.quadRefState + 256 * q) = 2 ∧ Logged s t 0x7015 (d8 q) ∧
      t.lanes.lref = setNth s.lanes.lref q true := by
  refine ⟨_, ?_, quadRef_logs s q true 2⟩
  refine congrArg Host.Outcome.next ((if_neg ?_).trans (if_pos huse))
  rw [hheld]
  exact Bool.false_ne_true

/-- LREF_RESTORED. -/
theorem lrefRestored_logs (q : Fin 4) (s : State) (hlost : nth s.lanes.lref q false = true)
    (huse : s.u (Obj.quadRefState + 256 * q) = 2) :
    ∃ t, exec (.lrefRestored q) s = .next t ∧ t.u (Obj.quadRefState + 256 * q) = 1 ∧ Logged s t 0x7015 (d8 q) ∧
      t.lanes.lref = setNth s.lanes.lref q false :=
  ⟨_, congrArg Host.Outcome.next ((if_pos hlost).trans (if_pos huse)), quadRef_logs s q false 1⟩

/-! ## The lane's bit error ratio and its checker (R245, R252) -/

theorem laneSt_setLane_same {l : Nat} (f : LaneSt → LaneSt) (hl : l < s.lanes.lanes.length) :
    (s.setLane l f).laneSt l = f (s.laneSt l) :=
  nth_modNth_same _ f _ hl

/-- A lane's state changes, and that is logged. -/
theorem setLane_logs {l : Nat} (f : LaneSt → LaneSt) (code : Nat) (data : List Byte) (hl : l < s.lanes.lanes.length) :
    ((s.setLane l f).log code data).laneSt l = f (s.laneSt l) ∧ Logged s ((s.setLane l f).log code data) code data := by
  refine ⟨?_, (Logged.log _ _ _).since (Nat.le_refl _)⟩
  rw [State.laneSt, State.log_lanes]
  exact laneSt_setLane_same f hl

theorem lasted_of_le {t0 seconds : Nat} {at? : Option Nat} (hat : at? = some t0)
    (htime : t0 + seconds * sfPerSecond ≤ s.clk.sfn) : s.lasted at? seconds = true := by
  subst hat
  exact decide_eq_true htime

/-- LANE_BER_ALARM of a lane above the threshold. -/
theorem laneBerAlarm_raises (l : Fin 32) (t0 : Nat) (s : State) (hl : l.val < s.lanes.lanes.length)
    (hclear : (s.laneSt l).alarm = false) (hover : (s.laneSt l).overAt = some t0) (htime : t0 + 100000 ≤ s.clk.sfn) :
    ∃ t, exec (.laneBerAlarm l) s = .next t ∧ (t.laneSt l).alarm = true ∧
      Logged s t 0x7013 (d8 l ++ be 4 (s.lane Obj.lanePreFecBer l)) := by
  obtain ⟨hlane, hlog⟩ := setLane_logs (fun y => { y with alarm := true }) 0x7013
    (d8 l ++ be 4 (s.lane Obj.lanePreFecBer l)) hl
  exact ⟨_, congrArg Host.Outcome.next (if_pos ⟨hclear, lasted_of_le hover htime⟩), congrArg LaneSt.alarm hlane, hlog⟩

/-- LANE_BER_ALARM of a lane below it. -/
theorem laneBerAlarm_clears (l : Fin 32) (t0 : Nat) (s : State) (hl : l.val < s.lanes.lanes.length)
    (hraised : (s.laneSt l).alarm = true) (hunder : (s.laneSt l).underAt = some t0) (htime : t0 + 100000 ≤ s.clk.sfn) :
    ∃ t, exec (.laneBerAlarm l) s = .next t ∧ (t.laneSt l).alarm = false ∧
      Logged s t 0x7013 (d8 l ++ be 4 (s.lane Obj.lanePreFecBer l)) := by
  obtain ⟨hlane, hlog⟩ := setLane_logs (fun y => { y with alarm := false }) 0x7013
    (d8 l ++ be 4 (s.lane Obj.lanePreFecBer l)) hl
  have hnot : ¬((s.laneSt l).alarm = false ∧ s.lasted (s.laneSt l).overAt 10 = true) := fun h =>
    Bool.false_ne_true (h.1.symm.trans hraised)
  exact ⟨_, congrArg Host.Outcome.next ((if_neg hnot).trans (if_pos ⟨hraised, lasted_of_le hunder htime⟩)),
    congrArg LaneSt.alarm hlane, hlog⟩

/-- CHECKER_SYNC_LOST. -/
theorem checkerSyncLost_logs (l : Fin 32) (errors : Nat) (s : State) (hl : l.val < s.lanes.lanes.length)
    (hcheck : s.checking l = true) (hsync : (s.laneSt l).sync = true) (herrors : 100 < errors) :
    ∃ t, exec (.checkerSyncLost l errors) s = .next t ∧ (t.laneSt l).sync = false ∧
      Logged s t 0x7016 (d8 l ++ d16 errors) := by
  obtain ⟨hlane, hlog⟩ := setLane_logs (fun y => { y with sync := false }) 0x7016 (d8 l ++ d16 errors) hl
  exact ⟨_, congrArg Host.Outcome.next (if_pos ⟨hcheck, hsync, herrors⟩), congrArg LaneSt.sync hlane, hlog⟩

/-- CHECKER_GAINS_SYNC. -/
theorem checkerGainsSync_syncs (l : Fin 32) (s : State) (hl : l.val < s.lanes.lanes.length) (hcheck : s.checking l = true) :
    ∃ t, exec (.checkerGainsSync l) s = .next t ∧ (t.laneSt l).sync = true :=
  ⟨_, congrArg Host.Outcome.next (if_pos hcheck), congrArg LaneSt.sync (laneSt_setLane_same _ hl)⟩

/-! ## Rate matching (R219, R249, R250) -/

/-- What rate matching counts of a client's blocks at ingress, and the offset that it shows. -/
def matchedIn (s : State) (x : Fin 64) (b : BlockIn) (deleted inserted : Nat) : State :=
  ((((s.add64 Obj.clientDeleteCount x deleted).add64 Obj.clientInsertCount x inserted).put Obj.clientPpm x
    (max (-20000) (min 20000 b.ppm))).add64 Obj.clientFecUncorrected x b.badRs)

/-- A client's values of different objects are apart. -/
theorem okey_client_ne {o o' : Nat} (x : Fin 64) (h : o ≠ o') : okey o x.val ≠ okey o' x.val :=
  okey_ne (by omega) (by omega) (.inl h)

theorem matchedIn_counts {x : Fin 64} (b : BlockIn) {deleted inserted : Nat}
    (hdel : s.u Obj.clientDeleteCount x + deleted < 2 ^ 64) (hins : s.u Obj.clientInsertCount x + inserted < 2 ^ 64) :
    (matchedIn s x b deleted inserted).u Obj.clientDeleteCount x = s.u Obj.clientDeleteCount x + deleted ∧
      (matchedIn s x b deleted inserted).u Obj.clientInsertCount x = s.u Obj.clientInsertCount x + inserted ∧
      (matchedIn s x b deleted inserted).i Obj.clientPpm x = max (-20000) (min 20000 b.ppm) := by
  have hbefore : (s.add64 Obj.clientDeleteCount x deleted).u Obj.clientInsertCount x = s.u Obj.clientInsertCount x :=
    State.u_addTo_other s (okey_client_ne x (by decide))
  refine ⟨?_, ?_, ?_⟩
  · refine (State.u_addTo_other _ (okey_client_ne x (by decide))).trans
      ((State.u_put_other _ _ (okey_client_ne x (by decide))).trans ?_)
    exact (State.u_addTo_other _ (okey_client_ne x (by decide))).trans (State.u_addTo_same s 64 _ _ _ hdel)
  · refine (State.u_addTo_other _ (okey_client_ne x (by decide))).trans
      ((State.u_put_other _ _ (okey_client_ne x (by decide))).trans ?_)
    exact (State.u_addTo_same _ 64 _ _ _ (by rwa [hbefore])).trans (congrArg (· + inserted) hbefore)
  · exact (State.i_addTo_other _ (okey_client_ne x (by decide))).trans (State.i_put_same ..)

/-- HOST_BLOCK_RECEIVED at ingress with idles enough: no frame is cut, and what is deleted and inserted is counted. -/
theorem exec_hostBlockReceived_ingress {x : Fin 64} {b : BlockIn} {want : Nat}
    (hwant : want = 4 * rateBlocks (s.clientRate x) s.clk.sfn) (hin : b.egress = false) (hrate : s.clientRate x ≠ 0)
    (hidles : b.blocks ≤ want + b.idles) :
    ∃ n a, exec (.hostBlockReceived x b) s =
      .next ((matchedIn s x b (b.blocks - want) (want - b.blocks)).occurN 0x7084 n a) := by
  have hmin : min (b.blocks - want) b.idles = b.blocks - want := Nat.min_eq_left (by omega)
  have hblocks : s.blocksWanted x b = want := by
    simp only [State.blocksWanted, hin, if_neg hrate, hwant, Bool.false_eq_true, if_false]
  show ∃ n a, execHostBlockReceived x b s = .next _
  simp only [execHostBlockReceived, hblocks, hmin, hin, Nat.lt_irrefl, Bool.false_eq_true, if_false]
  exact ⟨_, _, rfl⟩

/-- HOST_BLOCK_RECEIVED at ingress. -/
theorem hostBlockReceived_matches (x : Fin 64) (b : BlockIn) (s : State) (hin : b.egress = false)
    (hrate : s.clientRate x ≠ 0) (hidles : b.blocks ≤ 4 * rateBlocks (s.clientRate x) s.clk.sfn + b.idles)
    (hdel : s.u Obj.clientDeleteCount x + (b.blocks - 4 * rateBlocks (s.clientRate x) s.clk.sfn) < 2 ^ 64)
    (hins : s.u Obj.clientInsertCount x + (4 * rateBlocks (s.clientRate x) s.clk.sfn - b.blocks) < 2 ^ 64) :
    ∃ t, exec (.hostBlockReceived x b) s = .next t ∧
      t.u Obj.clientDeleteCount x = s.u Obj.clientDeleteCount x + (b.blocks - 4 * rateBlocks (s.clientRate x) s.clk.sfn) ∧
      t.u Obj.clientInsertCount x = s.u Obj.clientInsertCount x + (4 * rateBlocks (s.clientRate x) s.clk.sfn - b.blocks) ∧
      t.i Obj.clientPpm x = max (-20000) (min 20000 b.ppm) := by
  obtain ⟨n, a, hexec⟩ := exec_hostBlockReceived_ingress rfl hin hrate hidles
  refine ⟨_, hexec, ?_⟩
  rw [State.occurN_u, State.occurN_u, State.occurN_i]
  exact matchedIn_counts b hdel hins

/-- HOST_BLOCK_RECEIVED at egress with too few idles: the rest of a frame is dropped. -/
theorem exec_hostBlockReceived_egress {x : Fin 64} {b : BlockIn} (hout : b.egress = true)
    (hfew : b.wanted + b.idles < b.blocks) :
    ∃ n a, exec (.hostBlockReceived x b) s = .next (((s.occurN 0x7084 n a).bump Obj.rateMatchDrops x).logSecond 0x7014 x 0
      (d8 x ++ d8 1)) := by
  have hdrop : min (b.blocks - b.wanted) b.idles < b.blocks - b.wanted := by omega
  have hblocks : s.blocksWanted x b = b.wanted := by simp only [State.blocksWanted, hout, if_true]
  show ∃ n a, execHostBlockReceived x b s = .next _
  simp only [execHostBlockReceived, hblocks, hout, if_pos hdrop, if_true]
  exact ⟨_, _, rfl⟩

/-- No log record changes `RateMatchDrops`. -/
theorem logKey_rateMatchDrops (x : Fin 64) : logKey (okey Obj.rateMatchDrops x.val) = false := by revert x; decide

/-- HOST_BLOCK_RECEIVED at egress. -/
theorem hostBlockReceived_drops (x : Fin 64) (b : BlockIn) (s : State) (hout : b.egress = true)
    (hfew : b.wanted + b.idles < b.blocks) (hcount : s.u Obj.rateMatchDrops x < 4294967295) :
    ∃ t, exec (.hostBlockReceived x b) s = .next t ∧ t.u Obj.rateMatchDrops x = s.u Obj.rateMatchDrops x + 1 := by
  obtain ⟨n, a, hexec⟩ := exec_hostBlockReceived_egress (s := s) (x := x) hout hfew
  refine ⟨_, hexec, ?_⟩
  rw [State.u_logSecond _ _ _ _ _ (logKey_rateMatchDrops x), State.u_bump_same _ _ _ (by rw [State.occurN_u]; omega),
    State.occurN_u]

end Lanes

/-- Settles O32: each command completes in the state that its rule above names; the octets of the records are log entry 7,
details of the lanes log entry 46. -/
theorem lanesServe : Obligations.LanesServe :=
  ⟨laneRateWrite_stores, clientLanesWrite_stores, laneStateChange_logs, ingressFault_logs, lrefLost_logs, lrefRestored_logs,
    laneBerAlarm_raises, laneBerAlarm_clears, hostBlockReceived_matches, hostBlockReceived_drops, laneTestWrite_stores,
    checkerSyncLost_logs, checkerGainsSync_syncs⟩

section Frames

open Sys2Proof.Laws.OfSlices

variable {c : Carrier} {s : State}

/-! ## Client rates (R230) -/

/-- No log record changes `ClientRate`. -/
theorem logKey_clientRate (y : Fin 64) : logKey (okey Obj.clientRate y.val) = false := by revert y; decide

/-- The judgement of the lanes leaves a rate just written. -/
theorem clientRate_judgeLanes_put (s : State) (y : Fin 64) (n : Nat) :
    ((s.put Obj.clientRate y n).judgeLanes).u Obj.clientRate y = n := by
  rw [judge_u (logKey_clientRate y) (fun x hx => okey_ne (by omega) (by omega) (.inl (by decide))), State.u_put_same]
  exact Int.toNat_natCast n

/-- CLIENT_RATE_WRITE. -/
theorem clientRateWrite_stores (w : Requester) (y : Fin 64) (v n : Nat) (s s' : State)
    (h : Admitted s s' w 2 Obj.clientRate y (.num v) (.num n)) :
    Accepts (.clientRateWrite w y v) s w 2 Obj.clientRate y (fun x =>
      (n ≠ 0 → x.u Obj.clientRate y = n) ∧ (n = 0 → x = ((s'.put Obj.clientRate y n).judgeLanes).removeClient y)) := by
  refine accepts_of_effect rfl h rfl rfl ⟨fun hn => ?_, fun hn => if_pos hn⟩
  exact (congrArg (fun z : State => z.u Obj.clientRate y) (if_neg hn)).trans (clientRate_judgeLanes_put s' y n)

/-- CLIENT_RATE_MISMATCH. -/
theorem clientRateMismatch_logs (c : Carrier) (x : Fin 64) (t0 : Nat) (s : State)
    (hdiff : assocGet (s.fr c).rateDiff x = some t0) (htime : t0 + 10000 ≤ s.clk.sfn)
    (hnew : x.val ∉ (s.fr c).rateLogged) :
    ∃ t, exec (.clientRateMismatch c x) s = .next t ∧ (t.fr c).rateLogged = x.val :: (s.fr c).rateLogged ∧
      ∃ own far, Logged s t 0x7006 (d8 x ++ d8 own ++ d8 far) := by
  have hexec : exec (.clientRateMismatch c x) s = .next (
      let noted := s.setFr c (fun f => { f with rateLogged := x :: f.rateLogged })
      noted.logC c 0x7006 (d8 x ++ d8 (noted.ownSize c x) ++ d8 (noted.farSize c x))) := by
    show execClientRateMismatch c x s = _
    simp only [execClientRateMismatch, hdiff, htime, List.contains_eq_mem, hnew, decide_false, Bool.not_false, and_self,
      if_true]
  refine ⟨_, hexec, ?_, _, _, (Logged.logC _ _ _ _).since (State.setFr_keep (Keep.refl 128 s) rfl c _).nextSeq⟩
  rw [State.fr_congr (State.logC_frame ..), State.fr_setFr_same]

/-! ## Client blocks (R222, R224, R225, R273, R280) -/

/-- The header of a client's block is kept. -/
def keepBlock (s : State) (c : Carrier) (x : Nat) (h : BlockHead) : State :=
  s.setFr c (fun f => { f with blockIn := assocSet f.blockIn x h })

/-- A client's block is dropped. -/
def dropBlock (s : State) (c : Carrier) (x : Nat) : State :=
  (s.egressFault c x).setFr c (fun f => { f with blockIn := assocDel f.blockIn x })

/-- CLIENT_BLOCK_RECEIVED: the four ways of a block. -/
theorem exec_clientBlockReceived (c : Carrier) (x : Fin 64) (h : List Nat) (s : State) :
    exec (.clientBlockReceived c x h) s = .next (
      if !s.blockSound c x (headOf h) then dropBlock (s.bump (on c Obj.clientBlockDrops) x) c x
      else if (headOf h).typ = 1 then (keepBlock s c x (headOf h)).egressFault c x
      else if (headOf h).cipher ∧ (headOf h).parity ≠ ((s.ctx c .rx x).epoch % 2 == 1) then
        dropBlock (s.bump (on c Obj.desyncCount) x) c x
      else keepBlock s c x (headOf h)) := rfl

theorem blockIn_keepBlock (s : State) (c : Carrier) (x : Nat) (h : BlockHead) :
    ((keepBlock s c x h).fr c).blockIn = assocSet (s.fr c).blockIn x h :=
  congrArg FrameSt.blockIn (State.fr_setFr_same s c _)

/-- A dropped block is counted in the object that the drop raises. -/
theorem dropBlock_bump {o : Nat} {x : Fin 64} (hcount : s.u (on c o) x < 4294967295) :
    (dropBlock (s.bump (on c o) x) c x).u (on c o) x = s.u (on c o) x + 1 ∧
      ((dropBlock (s.bump (on c o) x) c x).fr c).blockIn = assocDel (s.fr c).blockIn x := by
  refine ⟨?_, ?_⟩
  · rw [dropBlock, State.setFr_u, u_egressFault, State.u_bump_same _ _ _ (Nat.succ_lt_succ hcount)]
  · rw [dropBlock, State.fr_setFr_same, State.fr_congr (fr_egressFault ..), State.fr_congr (State.bump_frame ..)]

/-- CLIENT_BLOCK_RECEIVED of a sound block. -/
theorem clientBlockReceived_keeps (c : Carrier) (x : Fin 64) (h : List Nat) (s : State)
    (hsound : s.blockSound c x (headOf h) = true) (htyp : (headOf h).typ ≠ 1)
    (hparity : (headOf h).cipher = true → (headOf h).parity = ((s.ctx c .rx x).epoch % 2 == 1)) :
    ∃ t, exec (.clientBlockReceived c x h) s = .next t ∧ (t.fr c).blockIn = assocSet (s.fr c).blockIn x (headOf h) := by
  refine ⟨keepBlock s c x (headOf h), ?_, blockIn_keepBlock s c x _⟩
  rw [exec_clientBlockReceived, hsound, Bool.not_true, if_neg Bool.false_ne_true, if_neg htyp,
    if_neg fun hp => hp.2 (hparity hp.1)]

/-- What the carrier itself keeps of a client's block does not say whether the other delivers the client. -/
theorem otherDelivers_keepBlock (s : State) (c : Carrier) (x y : Nat) (h : BlockHead) :
    (keepBlock s c x h).otherDelivers c y = s.otherDelivers c y := by cases c <;> rfl

/-- CLIENT_BLOCK_RECEIVED of a maintenance block. -/
theorem clientBlockReceived_maintenance (c : Carrier) (x : Fin 64) (h : List Nat) (s : State)
    (hsound : s.blockSound c x (headOf h) = true) (htyp : (headOf h).typ = 1) :
    ∃ t, exec (.clientBlockReceived c x h) s = .next t ∧ (t.fr c).blockIn = assocSet (s.fr c).blockIn x (headOf h) ∧
      (s.otherDelivers c x = false → .egress x .localFault ∈ t.out) := by
  refine ⟨(keepBlock s c x (headOf h)).egressFault c x, ?_, ?_, fun hother => ?_⟩
  · rw [exec_clientBlockReceived, hsound, Bool.not_true, if_neg Bool.false_ne_true, if_pos htyp]
  · rw [State.fr_congr (fr_egressFault ..), blockIn_keepBlock]
  · rw [State.egressFault, otherDelivers_keepBlock, hother, if_neg Bool.false_ne_true]
    exact List.mem_cons_self

/-- CLIENT_BLOCK_RECEIVED of an unsound block. -/
theorem clientBlockReceived_drops (c : Carrier) (x : Fin 64) (h : List Nat) (s : State)
    (hsound : s.blockSound c x (headOf h) = false) (hcount : s.u (on c Obj.clientBlockDrops) x < 4294967295) :
    ∃ t, exec (.clientBlockReceived c x h) s = .next t ∧
      t.u (on c Obj.clientBlockDrops) x = s.u (on c Obj.clientBlockDrops) x + 1 ∧
      (t.fr c).blockIn = assocDel (s.fr c).blockIn x := by
  refine ⟨_, ?_, dropBlock_bump hcount⟩
  rw [exec_clientBlockReceived, hsound, Bool.not_false, if_pos rfl]

/-- CLIENT_BLOCK_RECEIVED of a block of the other epoch parity. -/
theorem clientBlockReceived_desync (c : Carrier) (x : Fin 64) (h : List Nat) (s : State)
    (hsound : s.blockSound c x (headOf h) = true) (htyp : (headOf h).typ ≠ 1) (hcipher : (headOf h).cipher = true)
    (hparity : (headOf h).parity ≠ ((s.ctx c .rx x).epoch % 2 == 1)) (hcount : s.u (on c Obj.desyncCount) x < 4294967295) :
    ∃ t, exec (.clientBlockReceived c x h) s = .next t ∧
      t.u (on c Obj.desyncCount) x = s.u (on c Obj.desyncCount) x + 1 ∧ (t.fr c).blockIn = assocDel (s.fr c).blockIn x := by
  refine ⟨_, ?_, dropBlock_bump hcount⟩
  rw [exec_clientBlockReceived, hsound, Bool.not_true, if_neg Bool.false_ne_true, if_neg htyp, if_pos ⟨hcipher, hparity⟩]

/-! ## The message channel (R210) -/

/-- MOC_RESEND after the timeout. -/
theorem mocResend_resends (c : Carrier) (u : MocUnit) (l : List MocUnit) (s : State) (hunits : (s.fr c).mocUnacked = u :: l)
    (htime : u.sent + s.mocTimeout c ≤ s.clk.sfn) (hcount : s.u (on c Obj.mocResendCount) < 4294967295) :
    ∃ t, exec (.mocResend c) s = .next t ∧ (t.fr c).mocAgain = (u :: l).map (·.seq) ∧
      t.u (on c Obj.mocResendCount) = s.u (on c Obj.mocResendCount) + 1 := by
  have hexec : exec (.mocResend c) s = .next (((s.setFr c (fun f => { f with mocAgain := (u :: l).map (·.seq) })).bump
      (on c Obj.mocResendCount)).logSecond 0x7008 c.toNat c.inst (d8 u.seq)) := by
    show execMocResend c s = _
    simp only [execMocResend, hunits, if_pos htime]
  refine ⟨_, hexec, ?_, ?_⟩
  · rw [State.fr_congr (State.logSecond_frame ..), State.fr_congr (State.bump_frame ..), State.fr_setFr_same]
  · rw [State.u_logSecond _ _ _ _ _ (by cases c <;> decide),
      State.u_bump_same _ _ _ (by rw [State.setFr_u]; exact Nat.succ_lt_succ hcount), State.setFr_u]

/-! ## PTP (R215, R217) -/

/-- A list with room takes the message of a client that the carrier carries. -/
theorem ptp_ptpIngress {x : Nat} (p : PtpIn) (typ : Nat) (hcarried : bit (s.fr c).txMap.carried x = true)
    (hstandby : s.isStandby c = false) (hroom : (s.fr c).ptp.length < 256) :
    ((s.ptpIngress c x p typ).fr c).ptp = (s.fr c).ptp ++
      [{ client := x, block := p.block, octet := p.octet, msgType := typ, ingress := p.ingress }] := by
  simp only [State.ptpIngress, hcarried, hstandby, Bool.not_true, Bool.or_self, Bool.false_eq_true, if_false,
    if_neg (Nat.not_le.mpr hroom)]
  rw [State.fr_congr (State.occur_frame ..), State.fr_setFr_same]

theorem fr_setFr_other (s : State) {c d : Carrier} (f : FrameSt → FrameSt) (h : d ≠ c) : (s.setFr c f).fr d = s.fr d :=
  Pair.get_upd_other _ f h

/-- What a message does on one carrier leaves the other's lists. -/
theorem fr_ptpIngress_other (s : State) {c d : Carrier} (x : Nat) (p : PtpIn) (typ : Nat) (h : d ≠ c) :
    (s.ptpIngress c x p typ).fr d = s.fr d := by
  unfold State.ptpIngress
  split
  · rfl
  · split
    · rw [State.fr_congr (State.logSecond_frame ..), State.fr_congr (State.bump_frame ..), fr_setFr_other s _ h]
    · rw [State.fr_congr (State.occur_frame ..), fr_setFr_other s _ h]

/-- PTP_EVENT_MESSAGE. -/
theorem ptpEventMessage_lists (x : Fin 64) (p : PtpIn) (typ : Nat) (s : State) (htyp : ptpType p.frame = some typ)
    (hcarried : bit (s.fr .a).txMap.carried x = true) (hstandby : s.isStandby .a = false)
    (hroom : (s.fr .a).ptp.length < 256) :
    ∃ t, exec (.ptpEventMessage x p) s = .next t ∧ (t.fr .a).ptp = (s.fr .a).ptp ++
      [{ client := x, block := p.block, octet := p.octet, msgType := typ, ingress := p.ingress }] := by
  refine ⟨(s.ptpIngress .a x p typ).ptpIngress .b x p typ, ?_, ?_⟩
  · show execPtpEventMessage x p s = _
    simp only [execPtpEventMessage, htyp]
  · rw [fr_ptpIngress_other _ _ _ _ (by decide), ptp_ptpIngress p typ hcarried hstandby hroom]

/-- PTP_CORRECTION of a listed message. -/
theorem ptpEgress_corrects (c : Carrier) (x : Fin 64) (p : PtpIn) (typ : Nat) (e : PtpEntry) (s : State)
    (htyp : ptpType p.frame = some typ) (he : (s.fr c).rxPtp.find? (fun e => e.client == x.val) = some e)
    (hblock : e.block = p.block) (hoctet : e.octet = p.octet.val) :
    ∃ t, exec (.ptpEgress c x p) s = .next t ∧ (t.fr c).rxPtp = (s.fr c).rxPtp.erase e ∧
      t.out = .ptp x (ptpCorrected p.frame (p.ingress - e.ingress)) :: s.out := by
  have hexec : exec (.ptpEgress c x p) s = .next (((s.setFr c (fun f => { f with rxPtp := f.rxPtp.erase e })).add64
      (on c Obj.ptpEventCount) 0 1).emit (.ptp x (ptpCorrected p.frame (p.ingress - e.ingress)))) := by
    show execPtpEgress c x p s = _
    simp only [execPtpEgress, htyp, he, hblock, hoctet, Option.isNone_some, Bool.false_eq_true, and_self, if_true, if_false]
  refine ⟨_, hexec, ?_, ?_⟩
  · rw [State.fr_congr (State.emit_frame ..), State.fr_congr (State.add64_frame ..), State.fr_setFr_same]
  · rw [State.emit_out, State.add64_out]
    rfl

/-- PTP_CORRECTION of a message without an entry. -/
theorem ptpEgress_unmatched (c : Carrier) (x : Fin 64) (p : PtpIn) (typ : Nat) (s : State)
    (htyp : ptpType p.frame = some typ) (hnone : (s.fr c).rxPtp.find? (fun e => e.client == x.val) = none)
    (hcount : s.u (on c Obj.ptpUnmatchedCount) < 4294967295) :
    ∃ t, exec (.ptpEgress c x p) s = .next t ∧
      t.u (on c Obj.ptpUnmatchedCount) = s.u (on c Obj.ptpUnmatchedCount) + 1 ∧
      t.out = .ptp x (ptpCorrected p.frame 0) :: s.out := by
  have hexec : exec (.ptpEgress c x p) s =
      .next ((s.bump (on c Obj.ptpUnmatchedCount)).emit (.ptp x (ptpCorrected p.frame 0))) := by
    show execPtpEgress c x p s = _
    simp only [execPtpEgress, htyp, hnone, Option.isNone_some, Bool.false_eq_true, if_false]
  refine ⟨_, hexec, ?_, ?_⟩
  · rw [State.emit_u, State.u_bump_same _ _ _ (Nat.succ_lt_succ hcount)]
  · rw [State.emit_out, State.bump_out]

end Frames

/-- Settles O35: each command completes in the state that its rule above names; the corrected message is that of IEEE 1588
(log entry 80). -/
theorem framesCarryClients : Obligations.FramesCarryClients :=
  ⟨clientRateWrite_stores, clientRateMismatch_logs, clientBlockReceived_keeps, clientBlockReceived_maintenance,
    clientBlockReceived_drops, clientBlockReceived_desync, mocResend_resends, ptpEventMessage_lists, ptpEgress_corrects,
    ptpEgress_unmatched⟩

section Cipher

variable {c : Carrier} {s : State} {u : Fin 4} {r : GReq}

/-! ## The end of a Grotto request (R298, R300, R301) -/

/-- A request leaves the queue. -/
def dequeue (s : State) (r : GReq) : State :=
  s.setGr (fun g => { g with queue := modFirst r (fun _ => []) g.queue })

theorem complete_emits (s : State) (r : GReq) (st : Nat) : .completion r.tag st ∈ (s.complete r st).out :=
  List.mem_cons_self

/-- After a request its slot is settled and the free units take the next ones. -/
theorem settleStart_keep (s : State) (k : Nat) : Keep 32857 s (s.settleSlot k).startUnits :=
  State.startUnits_keep (State.settleSlot_keep (Keep.refl _ s) rfl k) rfl

theorem exec_requestCompletion_plain (hr : s.grot.queue.find? (fun r => decide (r.unit = some u.val)) = some r)
    (huse : r.use = .plain) :
    exec (.requestCompletion u .agree) s = .next ((((dequeue (s.result r).2 r).complete r (s.result r).1).settleSlot
      r.slot).startUnits) := by
  show execRequestCompletion u .agree s = _
  simp only [execRequestCompletion, hr, huse, dequeue]

/-- REQUEST_COMPLETION of a master's own request. -/
theorem requestCompletion_answers (u : Fin 4) (r : GReq) (s : State)
    (hr : s.grot.queue.find? (fun r => decide (r.unit = some u.val)) = some r) (huse : r.use = .plain) :
    ∃ t, exec (.requestCompletion u .agree) s = .next t ∧ .completion r.tag (s.result r).1 ∈ t.out :=
  ⟨_, exec_requestCompletion_plain hr huse, (settleStart_keep _ r.slot).out.subset (complete_emits _ r _)⟩

/-- The two paths of a unit differ: counted and logged. -/
def mismatched (s : State) (u : Fin 4) (r : GReq) : State :=
  (s.bump Obj.compareMismatchCount).log 0x900A (d8 u ++ d8 r.typ ++ d8 r.master)

theorem exec_requestCompletion_differ (hr : s.grot.queue.find? (fun r => decide (r.unit = some u.val)) = some r) :
    exec (.requestCompletion u .differ) s = .next (((((dequeue (mismatched s u r) r).complete r 7).useFailed r
      7).settleSlot r.slot).startUnits) := by
  show execRequestCompletion u .differ s = _
  simp only [execRequestCompletion, hr, dequeue, mismatched]

/-- REQUEST_COMPLETION of two paths that differ. -/
theorem requestCompletion_differs (u : Fin 4) (r : GReq) (s : State)
    (hr : s.grot.queue.find? (fun r => decide (r.unit = some u.val)) = some r) :
    ∃ t, exec (.requestCompletion u .differ) s = .next t ∧ .completion r.tag 7 ∈ t.out ∧
      Logged s t 0x900A (d8 u ++ d8 r.typ ++ d8 r.master) := by
  have hended : Keep 32857 ((dequeue (mismatched s u r) r).complete r 7)
      (((((dequeue (mismatched s u r) r).complete r 7).useFailed r 7).settleSlot r.slot).startUnits) :=
    (State.useFailed_keep (Keep.refl _ _) rfl r 7).trans (settleStart_keep _ r.slot)
  have hlog : Logged s (mismatched s u r) 0x900A (d8 u ++ d8 r.typ ++ d8 r.master) :=
    (Logged.log _ _ _).since (State.bump_keep (Keep.refl 1 s) rfl _ _).nextSeq
  have hleft : Keep 32857 (mismatched s u r) ((dequeue (mismatched s u r) r).complete r 7) :=
    State.complete_keep (State.setGr_keep (Keep.refl _ _) rfl _) rfl r 7
  exact ⟨_, exec_requestCompletion_differ hr, hended.out.subset (complete_emits _ r 7), hlog.keep (hleft.trans hended) rfl⟩

/-! ## Rolls (R269) -/

/-- ROLL_INTERVAL. -/
theorem exec_rollInterval_due (c : Carrier) (k : Fin 65) (s : State)
    (hdue : s.u Obj.rollInterval ≤ (s.ctx c .tx k).carried) (hon : (s.ctx c .tx k).on = true) :
    exec (.rollInterval c k) s = .next (s.armRoll c .tx k 0) :=
  congrArg Host.Outcome.next (if_pos ⟨hdue, hon⟩)

/-- CONTEXT_ROLL. -/
theorem contextRoll_arms (w : Requester) (c : Carrier) (k n : Nat) (s s' : State)
    (h : Admitted s s' w 2 (on c Obj.contextRoll) 0 (.num k) (.num n)) :
    Accepts (.contextRoll w c k) s w 2 (on c Obj.contextRoll) 0 (fun x => x = s'.armRoll c .tx n 2) :=
  accepts_of_effect rfl h rfl rfl rfl

/-! ## Contexts turned on and off (R276) -/

/-- The access that an admitted write notes changes no client's carriers. -/
theorem ctxCarriers_of_noted {s' : State} (h : s' = s ∨ ∃ d, s' = s.touch d) (x : Nat) :
    s'.ctxCarriers x = s.ctxCarriers x := by
  rcases h with rfl | ⟨d, rfl⟩ <;> rfl

/-- The setting of a client that no carrier carries takes effect at once, on both. -/
theorem contextEnableEffect_of_uncarried {x : Nat} (hnone : s.ctxCarriers x = []) (w : Requester) (v : Bool) (tg : Target) :
    s.contextEnableEffect w x v tg = ({}, [Carrier.a, Carrier.b].foldl (fun s c => s.setOn c .tx x v)
      (s.put Obj.contextEnable x (b2n v))) := by
  simp only [State.contextEnableEffect, hnone, List.isEmpty_nil, if_true]

/-- CONTEXT_ENABLE of a client that no carrier carries. -/
theorem contextEnable_atOnce (w : Requester) (x : Fin 64) (v n : Nat) (tg : Target) (s s' : State)
    (h : Admitted s s' w 3 Obj.contextEnable x (.num v) (.num n)) (hnone : s.ctxCarriers x = []) :
    Accepts (.contextEnable w x v tg) s w 3 Obj.contextEnable x (fun y => y =
      [Carrier.a, Carrier.b].foldl (fun s c => s.setOn c .tx x (n == 1)) (s'.put Obj.contextEnable x (b2n (n == 1)))) := by
  have hnone' : s'.ctxCarriers x = [] := (ctxCarriers_of_noted h.noted x).trans hnone
  exact accepts_of_effect rfl h (contextEnableEffect_of_uncarried hnone' w (n == 1) tg)
    (congrArg (·.1.code) (contextEnableEffect_of_uncarried hnone w (n == 1) tg)) rfl

/-- CONTEXT_ENABLE whose proposal waits for its reply. -/
theorem contextEnable_waits (w : Requester) (x : Fin 64) (v n : Nat) (tg : Target) (s s' : State)
    (h : Admitted s s' w 3 Obj.contextEnable x (.num v) (.num n))
    (hcode : (s.contextEnableEffect w x (n == 1) tg).1.code = 0)
    (hwait : (s'.contextEnableEffect w x (n == 1) tg).1 = { wait := true }) :
    exec (.contextEnable w x v tg) s = .next (s'.contextEnableEffect w x (n == 1) tg).2 :=
  congrArg Host.Outcome.next (State.hostWrite_waits h (fun a s => s.contextEnableEffect w x (a.nat == 1) tg)
    (Prod.ext hwait rfl) hcode)

/-! ## The inverse check (R279) -/

/-- Transmission is no longer suspended. -/
def resumed (s : State) (c : Carrier) : State :=
  s.setCi c (fun x => { x with suspended := false, badSf := 0, clean := 0 })

/-- TRANSMIT_RESUME. -/
theorem transmitResume_logs (c : Carrier) (s : State) (hsusp : (s.ciph.get c).suspended = true)
    (hclean : 100 ≤ (s.ciph.get c).clean) :
    ∃ t, exec (.transmitResume c) s = .next t ∧ (t.ciph.get c).suspended = false ∧ (t.ciph.get c).clean = 0 ∧
      Logged s t 0x8006 (d8 0 ++ d8 0 ++ d8 1) := by
  refine ⟨_, congrArg Host.Outcome.next (if_pos ⟨hsusp, hclean⟩), ?_⟩
  have hshown : Keep 1 (resumed s c) (allCtx.foldl (fun s k => s.showCtx c .tx k) (resumed s c)) :=
    Keep.foldl (Keep.refl 1 _) (fun _ k h => State.showCtx_keep h rfl c .tx k) _
  have hciph : ((allCtx.foldl (fun s k => s.showCtx c .tx k) (resumed s c)).logC c 0x8006
      (d8 0 ++ d8 0 ++ d8 1)).ciph.get c = { s.ciph.get c with suspended := false, badSf := 0, clean := 0 } := by
    rw [State.logC_ciph, hshown.ciph rfl]
    exact Pair.get_upd_same ..
  exact ⟨congrArg CipherSt.suspended hciph, congrArg CipherSt.clean hciph, (Logged.logC _ c 0x8006 _).since hshown.nextSeq⟩

/-! ## Seals (R280) -/

/-- A seal that passes is noted in its context; the rest is counted in the Bandstand alone. -/
theorem exec_sealReceived_passes {x : SealIn} {h : BlockHead} (hhead : s.sealHead c x.ctx = some h) (htyp : h.typ ≠ 1)
    (hpass : s.sealPasses c x h = true) :
    ∃ t, exec (.sealReceived c x) s = .next t ∧
      t.ciph = (s.setCtx c .rx x.ctx (fun k => { k with oks := k.oks + 1 })).ciph := by
  show ∃ t, execSealReceived c x s = .next t ∧ _
  simp only [execSealReceived, hhead, if_neg htyp, hpass, if_true]
  refine ⟨_, rfl, ?_⟩
  split
  · rw [State.occur_ciph, State.occurN_ciph]
  · rw [State.occurN_ciph]

/-- SEAL_RECEIVED of a seal that verifies. -/
theorem sealReceived_good (c : Carrier) (x : SealIn) (h : BlockHead) (s : State) (hhead : s.sealHead c x.ctx = some h)
    (htyp : h.typ ≠ 1) (hpass : s.sealPasses c x h = true) (hctx : x.ctx.val < ((s.ciph.get c).rx).length) :
    ∃ t, exec (.sealReceived c x) s = .next t ∧ (t.ctx c .rx x.ctx).oks = (s.ctx c .rx x.ctx).oks + 1 ∧
      (t.ctx c .rx x.ctx).bads = (s.ctx c .rx x.ctx).bads := by
  obtain ⟨t, hexec, hciph⟩ := exec_sealReceived_passes hhead htyp hpass
  refine ⟨t, hexec, ?_⟩
  rw [State.ctx_congr hciph, State.ctx_setCtx_same s c .rx _ hctx]
  exact ⟨rfl, rfl⟩

/-- SEAL_RECEIVED of a seal that does not verify. -/
theorem sealReceived_bad (c : Carrier) (x : SealIn) (h : BlockHead) (s : State) (hhead : s.sealHead c x.ctx = some h)
    (htyp : h.typ ≠ 1) (hpass : s.sealPasses c x h = false) (hstandby : s.rxStandby c = false)
    (hctx : x.ctx.val < ((s.ciph.get c).rx).length) :
    ∃ t, exec (.sealReceived c x) s = .next t ∧ (t.ctx c .rx x.ctx).bads = (s.ctx c .rx x.ctx).bads + 1 ∧
      (t.ctx c .rx x.ctx).oks = (s.ctx c .rx x.ctx).oks := by
  have hexec : exec (.sealReceived c x) s = .next (s.sealFails c x.ctx (s.ctx c .rx x.ctx).on
      (if x.ctx.val = fillCtx then none else some (s.clsOf x.ctx))) := by
    show execSealReceived c x s = _
    simp only [execSealReceived, hhead, if_neg htyp, hpass, hstandby, Bool.false_eq_true, false_and, if_false]
  exact ⟨_, hexec, Sys2Proof.Laws.OfClock.sealFail s c x.ctx _ _ hctx⟩

end Cipher

/-- Settles O39: each command completes in the state that its rule above names; the octets of its records are log entry
7. -/
theorem cipherWorks : Obligations.CipherWorks :=
  ⟨requestCompletion_answers, requestCompletion_differs, exec_rollInterval_due, contextRoll_arms, contextEnable_atOnce,
    contextEnable_waits, transmitResume_logs, sealReceived_good, sealReceived_bad⟩

end Sys2Proof.Proofs.LineFrame
end

section
/-! The statements on the Grotto (10_grotto.md): link key agreement (R309 to R316), the owner's key and the rollback floors
(R320, R321) with the images that they judge (R555 to R557 of 20_domain_assembly.md), and the sessions whose proofs it
verifies (R496 to R509 of 18_object_dictionary.md). The number of a `Keep` is the set of parts of the state that may have
changed, as Laws/Keep.lean writes it. -/

namespace Sys2Proof.Proofs.Grotto

open Sys2Proof.Machine Sys2Proof.Claims Sys2Proof.Proofs.Superframe

section Agreement

open Sys2Proof.Laws.OfAgreement

variable {c : Carrier} {s : State}

/-! ## When an agreement starts (R310, R315, R316) -/

/-- A command that starts an agreement where one can start sends its Offer. -/
theorem exec_offerSent {i : Instr} (hexec : exec i s = .next (s.startAgree c)) (hcan : CanAgree c s) :
    ∃ t, exec i s = .next t ∧ OfferSent c s t :=
  ⟨_, hexec, starts s c hcan⟩

/-- OFFER_WAIT. -/
theorem offerWait_sends (c : Carrier) (t0 : Nat) (s : State) (hwait : (s.rt c).waitFrom = some t0)
    (htime : t0 + 2 * sfPerSecond ≤ s.clk.sfn) (hcur : (s.rt c).cur = none) (hcan : CanAgree c s) :
    ∃ t, exec (.offerWait c) s = .next t ∧ OfferSent c s t := by
  refine exec_offerSent ?_ hcan
  show execOfferWait c s = _
  simp only [execOfferWait, hwait, hcur, htime, Option.isNone_none, and_self, if_true]

/-- AGREEMENT_RETRY. -/
theorem agreementRetry_sends (c : Carrier) (t0 : Nat) (s : State) (hretry : (s.rt c).retryAt = some t0)
    (htime : t0 ≤ s.clk.sfn) (hcan : CanAgree c s) : ∃ t, exec (.agreementRetry c) s = .next t ∧ OfferSent c s t := by
  refine exec_offerSent ?_ hcan
  show execAgreementRetry c s = _
  simp only [execAgreementRetry, hretry, if_pos htime]

/-- LATTICE_RETRY of the end that initiates. -/
theorem latticeRetry_sends (c : Carrier) (t0 : Nat) (s : State) (hask : (s.rt c).askAt = some t0)
    (htime : t0 ≤ s.clk.sfn) (hinit : (s.rt c).initiates = true) (hcan : CanAgree c s) :
    ∃ t, exec (.latticeRetry c) s = .next t ∧ OfferSent c s t := by
  refine exec_offerSent ?_ hcan
  show execLatticeRetry c s = _
  simp only [execLatticeRetry, hask, htime, hcan.1, hinit, and_self, if_true]

/-- ROOT_INTERVAL. -/
theorem rootInterval_sends (c : Carrier) (s : State) (hcur : (s.rt c).cur.isSome = true)
    (htime : (s.rt c).since + s.u Obj.rootInterval ≤ s.clk.sfn) (hlower : s.isLower c = true) (hcan : CanAgree c s) :
    ∃ t, exec (.rootInterval c) s = .next t ∧ OfferSent c s t := by
  refine exec_offerSent ?_ hcan
  show execRootInterval c s = _
  simp only [execRootInterval, hcur, htime, hlower, and_self, if_true]

/-- A write of `RekeyRoot` where the engine has its identity and no root waits. -/
theorem rekeyEffect_starts {n : Nat} (hc : c = if n = 0 then .a else .b) (hid : s.grot.identity = true)
    (hnext : (s.rt c).next = none) : s.rekeyEffect n = ({}, s.startAgree c) := by
  subst hc
  simp only [State.rekeyEffect, hid, hnext, Bool.not_true, Bool.false_eq_true, Option.isSome_none, if_false]

/-- REKEY_ROOT. -/
theorem rekeyRoot_sends (w : Requester) (v n : Nat) (s s' : State)
    (h : Admitted s s' w 2 Obj.rekeyRoot 0 (.num v) (.num n)) (hcan : CanAgree (if n = 0 then .a else .b) s') :
    Accepts (.rekeyRoot w v) s w 2 Obj.rekeyRoot 0 (OfferSent (if n = 0 then .a else .b) s') := by
  obtain ⟨-, hnext, -, hid, -⟩ := id hcan
  have hgrot : s'.grot = s.grot := h.only.grot rfl
  exact accepts_of_effect rfl h (rekeyEffect_starts rfl hid hnext)
    (congrArg (·.1.code) (rekeyEffect_starts rfl (hgrot ▸ hid) (rt_of_grot _ hgrot ▸ hnext))) (starts s' _ hcan)

/-! ## The Answer (R311, R313) -/

/-- A carrier's session as it takes an Offer. -/
abbrev offerTaken (s : State) (c : Carrier) (session : Nat) (body : List Byte) : State :=
  s.setRt c (fun r => { r with part := .answered, initiates := false, session := session, offer := body
                               sentAt := s.clk.sfn, waitFrom := none })

/-- A Fresh Offer takes the current root with both slots of the carrier's roots. -/
def freshTaken (s : State) (c : Carrier) (body : List Byte) : State :=
  if bit (ofBe (body.take 1)) 0 then ((s.eraseSlot (8 + 2 * c.toNat)).eraseSlot (8 + 2 * c.toNat + 1)).rootsGone c else s

theorem freshTaken_frame (s : State) (c : Carrier) (body : List Byte) : (freshTaken s c body).frame = s.frame := by
  unfold freshTaken
  split
  · exact (State.rootsGone_keep (State.eraseSlot_keep (State.eraseSlot_keep (Keep.refl 49225 s) rfl _) rfl _) rfl
      _).frame rfl
  · rfl

/-- What a Fresh Offer takes leaves the session under way. -/
theorem freshTaken_rt (s : State) (c : Carrier) (body : List Byte) :
    ((freshTaken s c body).rt c).part = (s.rt c).part ∧ ((freshTaken s c body).rt c).session = (s.rt c).session ∧
      (bit (ofBe (body.take 1)) 0 = true → ((freshTaken s c body).rt c).cur = none) := by
  unfold freshTaken
  split
  next => simp only [rootsGone_rt, eraseSlot_rt, implies_true, and_self]
  next hold => exact ⟨rfl, rfl, fun hfresh => absurd hfresh hold⟩

/-- The Answer to a right peer's Offer: some octets from which this end derives its root. -/
theorem answerOffer_of_right {session : Nat} {body : List Byte} (hpeer : s.checkPeer c body (body.take 4709) = 0)
    (hid : s.grot.identity = true) (hlattice : ((offerTaken s c session body).askLattice c).1 = true) :
    ∃ (y : State) (answer : List Byte),
      y.rt c = (freshTaken ((offerTaken s c session body).askLattice c).2 c body).rt c ∧ y.frame = s.frame ∧
      s.answerOffer c session body = ((y.deriveRoot c body answer).sendAgree c 2 session answer).agreeState c 2 := by
  have hframe : (freshTaken ((offerTaken s c session body).askLattice c).2 c body).frame = s.frame :=
    (freshTaken_frame _ c body).trans (lattice _ c hlattice).2
  unfold State.answerOffer
  dsimp only
  rw [if_neg (by show ¬(!s.grot.identity) = true; rw [hid]; decide),
    if_neg (by show ¬(s.checkPeer c body (body.take 4709) ≠ 0); rw [hpeer]; decide)]
  generalize (offerTaken s c session body).askLattice c = q at hlattice hframe ⊢
  obtain ⟨ok, z⟩ := q
  dsimp only at hlattice hframe ⊢
  rw [if_neg (by rw [hlattice]; decide)]
  refine ⟨_, _, ?_, ?_, rfl⟩
  · calc _ = _ := rt_of_grot c ((State.showPeer_keep (State.sign_keep (Keep.refl 1 _) rfl _) rfl c body).grot rfl)
      _ = _ := putSlot_rt ..
      _ = (freshTaken z c body).rt c :=
        rt_of_grot c ((State.random_keep (State.random_keep (Keep.refl 0 _) rfl 32) rfl 32).grot rfl)
  · exact ((State.showPeer_keep (State.sign_keep (State.putSlot_keep (State.random_keep (State.random_keep
      (Keep.refl 32769 (freshTaken z c body)) rfl 32) rfl 32) rfl _ _ _) rfl _) rfl c body).frame rfl).trans hframe

/-- An Offer that comes while neither an agreement is under way nor a root waits. -/
theorem exec_offer_of_idle {session : Nat} {body : List Byte} (hpart : (s.rt c).part = .none)
    (hnext : (s.rt c).next = none) : exec (.offer c session body) s = .next (s.answerOffer c session body) := by
  show execOffer c session body s = _
  simp only [execOffer, hpart, hnext, ne_eq, not_true_eq_false, Option.isSome_none, Bool.false_eq_true, false_and,
    if_false]

/-- OFFER from a right peer. -/
theorem offer_answered (c : Carrier) (session : Nat) (body : List Byte) (s z : State) (hpart : (s.rt c).part = .none)
    (hnext : (s.rt c).next = none) (hpeer : s.checkPeer c body (body.take 4709) = 0) (hid : s.grot.identity = true)
    (hz : z = offerTaken s c session body) (hlattice : (z.askLattice c).1 = true) :
    ∃ t, exec (.offer c session body) s = .next t ∧ (t.rt c).part = .answered ∧ (t.rt c).session = session ∧
      (t.rt c).offer = body ∧ t.u (on c Obj.agreementState) = 2 ∧
      (bit (ofBe (body.take 1)) 0 = true → (t.rt c).cur = none) ∧
      (t.fr c).mocOut = (s.fr c).mocOut ++ agreePackets 2 session (t.rt c).answer := by
  subst hz
  obtain ⟨y, answer, hroots, hframe, hanswer⟩ := answerOffer_of_right hpeer hid hlattice
  obtain ⟨hpart', hsession, hfresh⟩ := freshTaken_rt ((offerTaken s c session body).askLattice c).2 c body
  rw [← hroots] at hpart' hsession hfresh
  rw [(lattice _ c hlattice).1, rt_setRt] at hpart' hsession
  obtain ⟨root, hderived⟩ := derived y c body answer
  refine ⟨_, (exec_offer_of_idle hpart hnext).trans (congrArg _ hanswer), ?_⟩
  rw [sent_rt, sent_moc, hderived, fr_of c (deriveFrame y c body answer), fr_of c hframe]
  exact ⟨hpart', hsession, rfl, State.u_put_same .., hfresh, rfl⟩

/-! ## The confirmations (R311) -/

/-- The initiator's root, from the Answer's ciphertext. -/
def decapsulated (s : State) (c : Carrier) (body : List Byte) : State :=
  let secret := fit 32 (Config.prim Config.kemDecap [s.slotData (ephSlot c), slice body 3141 1568])
  ((s.putSlot (secretSlot c) 1 secret).showPeer c body).deriveRoot c (s.rt c).offer body

theorem decapsulated_frame (s : State) (c : Carrier) (body : List Byte) : (decapsulated s c body).frame = s.frame :=
  (State.deriveRoot_keep (State.showPeer_keep (State.putSlot_keep (Keep.refl 32857 s) rfl _ _ _) rfl c body) rfl c _
    body).frame rfl

theorem decapsulated_answer (s : State) (c : Carrier) (body : List Byte) : ((decapsulated s c body).rt c).answer = body := by
  unfold decapsulated
  dsimp only
  generalize State.showPeer _ c body = z
  obtain ⟨root, hderived⟩ := derived z c (s.rt c).offer body
  rw [hderived]

/-- The tag by which the initiator confirms a root over a transcript. -/
def initiatorTag (root t : List Byte) : List Byte := Config.kmac256 32 (root.take 32) t (ascii "TH6400 CONF I")

/-- The initiator names InstallSfn and sends its tag over a transcript. -/
def confirms (z : State) (c : Carrier) (session : Nat) (t : List Byte) : State :=
  ((z.setRt c (fun r => { r with part := .confirming, sfn := z.leadSfn c + 4, sentAt := z.clk.sfn })).sendAgree c 3 session
    (be 8 (z.leadSfn c + 4) ++ initiatorTag (z.rt c).root t)).agreeState c 3

theorem confirms_rt (z : State) (c : Carrier) (session : Nat) (t : List Byte) :
    (confirms z c session t).rt c = { z.rt c with part := .confirming, sfn := z.leadSfn c + 4, sentAt := z.clk.sfn } :=
  (sent_rt ..).trans (rt_setRt ..)

theorem confirms_moc (z : State) (c : Carrier) (session : Nat) (t : List Byte) :
    ((confirms z c session t).fr c).mocOut = (z.fr c).mocOut ++ agreePackets 3 session
      (be 8 ((confirms z c session t).rt c).sfn ++ initiatorTag ((confirms z c session t).rt c).root t) := by
  rw [confirms_rt]
  exact sent_moc ..

theorem exec_answer_of_right {session : Nat} {body : List Byte} (hpart : (s.rt c).part = .offered)
    (hsession : (s.rt c).session = session) (hpeer : s.checkPeer c body ((s.rt c).offer ++ body.take 4709) = 0) :
    exec (.answer c session body) s =
      .next (confirms (decapsulated s c body) c session (transcript (s.rt c).offer body)) := by
  show execAnswer c session body s = _
  simp only [execAnswer, hpart, hsession, hpeer, ne_eq, not_true_eq_false, or_self, if_false]
  rfl

/-- ANSWER from a right peer. -/
theorem answer_confirmed (c : Carrier) (session : Nat) (body : List Byte) (s : State) (hpart : (s.rt c).part = .offered)
    (hsession : (s.rt c).session = session) (hpeer : s.checkPeer c body ((s.rt c).offer ++ body.take 4709) = 0) :
    ∃ t tag, exec (.answer c session body) s = .next t ∧ (t.rt c).part = .confirming ∧ (t.rt c).answer = body ∧
      t.u (on c Obj.agreementState) = 3 ∧
      tag = Config.kmac256 32 ((t.rt c).root.take 32) (transcript (s.rt c).offer body) (ascii "TH6400 CONF I") ∧
      (t.fr c).mocOut = (s.fr c).mocOut ++ agreePackets 3 session (be 8 (t.rt c).sfn ++ tag) := by
  refine ⟨_, _, exec_answer_of_right hpart hsession hpeer, ?_, ?_, State.u_put_same .., rfl, ?_⟩
  · rw [confirms_rt]
  · rw [confirms_rt]
    exact decapsulated_answer s c body
  · rw [← fr_of c (decapsulated_frame s c body)]
    exact confirms_moc ..

/-- A root that has been written ends its session. -/
def rootWritten (s : State) (c : Carrier) (n : Nat) : State := (s.writeRoot c n).setRt c (fun r => { r with part := .none })

theorem rootWritten_rt (s : State) (c : Carrier) (n : Nat) : (rootWritten s c n).rt c = { s.rt c with
    part := .none, next := some (s.freeRoot c, ofBe ((s.rt c).root.drop 48), slice (s.rt c).root 32 16), install := n
    backoff := 0 } := by
  unfold rootWritten
  rw [rt_setRt, wrote]

theorem rootWritten_keep (s : State) (c : Carrier) (n : Nat) : Keep 49241 s (rootWritten s c n) :=
  State.setRt_keep (State.writeRoot_keep (Keep.refl _ s) rfl c n) rfl c _

/-- The tag by which the responder confirms a session's root. -/
def responderTag (r : RootSt) : List Byte :=
  Config.kmac256 32 (r.root.take 32) (transcript r.offer r.answer) (ascii "TH6400 CONF R")

theorem exec_confirmI_of_right {session : Nat} {body : List Byte} (hpart : (s.rt c).part = .answered)
    (hsession : (s.rt c).session = session)
    (htag : body.drop 8 = initiatorTag (s.rt c).root (transcript (s.rt c).offer (s.rt c).answer))
    (hlead : s.leadSfn c ≤ ofBe (body.take 8)) :
    exec (.confirmI c session body) s = .next (((rootWritten s c (ofBe (body.take 8))).sendAgree c 4 session
      (responderTag (s.rt c))).agreeState c 3) := by
  unfold initiatorTag at htag
  show execConfirmI c session body s = _
  simp only [execConfirmI, hpart, hsession, htag, if_neg (Nat.not_lt.mpr hlead), ne_eq, not_true_eq_false, or_self,
    if_false]
  rfl

/-- CONFIRM_I with the right tag and lead. -/
theorem confirmI_installs (c : Carrier) (session : Nat) (body : List Byte) (s : State)
    (hpart : (s.rt c).part = .answered) (hsession : (s.rt c).session = session)
    (htag : body.drop 8 = Config.kmac256 32 ((s.rt c).root.take 32) (transcript (s.rt c).offer (s.rt c).answer)
      (ascii "TH6400 CONF I"))
    (hlead : s.leadSfn c ≤ ofBe (body.take 8)) :
    ∃ t, exec (.confirmI c session body) s = .next t ∧ (t.rt c).part = .none ∧ (t.rt c).install = ofBe (body.take 8) ∧
      (t.rt c).next = some (s.freeRoot c, ofBe ((s.rt c).root.drop 48), slice (s.rt c).root 32 16) ∧
      t.u (on c Obj.agreementState) = 3 ∧
      (t.fr c).mocOut = (s.fr c).mocOut ++ agreePackets 4 session (Config.kmac256 32 ((s.rt c).root.take 32)
        (transcript (s.rt c).offer (s.rt c).answer) (ascii "TH6400 CONF R")) := by
  refine ⟨_, exec_confirmI_of_right hpart hsession htag hlead, ?_⟩
  rw [sent_rt, sent_moc, rootWritten_rt, fr_of c ((rootWritten_keep s c _).frame rfl)]
  exact ⟨rfl, rfl, rfl, State.u_put_same .., rfl⟩

theorem exec_confirmR_of_right {session : Nat} {tag : List Byte} (hpart : (s.rt c).part = .confirming)
    (hsession : (s.rt c).session = session) (htag : tag = responderTag (s.rt c)) (htime : s.clk.sfn + 4 < (s.rt c).sfn) :
    exec (.confirmR c session tag) s = .next ((rootWritten s c (s.rt c).sfn).log 0x9007 (d8 c.inst ++
      d64 (ofBe ((s.rt c).root.drop 48)) ++ fit 16 ((rootWritten s c (s.rt c).sfn).o (on c Obj.peerSerial)) ++
      d64 (s.rt c).sfn)) := by
  unfold responderTag at htag
  show execConfirmR c session tag s = _
  simp only [execConfirmR, hpart, hsession, htag, if_neg (Nat.not_le.mpr htime), ne_eq, not_true_eq_false, or_self,
    if_false]
  rfl

/-- CONFIRM_R with the right tag in time. -/
theorem confirmR_installs (c : Carrier) (session : Nat) (tag : List Byte) (s : State)
    (hpart : (s.rt c).part = .confirming) (hsession : (s.rt c).session = session)
    (htag : tag = Config.kmac256 32 ((s.rt c).root.take 32) (transcript (s.rt c).offer (s.rt c).answer)
      (ascii "TH6400 CONF R"))
    (htime : s.clk.sfn + 4 < (s.rt c).sfn) :
    ∃ t serial, exec (.confirmR c session tag) s = .next t ∧ (t.rt c).part = .none ∧ (t.rt c).install = (s.rt c).sfn ∧
      (t.rt c).next = some (s.freeRoot c, ofBe ((s.rt c).root.drop 48), slice (s.rt c).root 32 16) ∧
      Logged s t 0x9007 (d8 c.inst ++ d64 (ofBe ((s.rt c).root.drop 48)) ++ fit 16 serial ++ d64 (s.rt c).sfn) := by
  refine ⟨_, (rootWritten s c (s.rt c).sfn).o (on c Obj.peerSerial),
    exec_confirmR_of_right hpart hsession htag htime, ?_⟩
  rw [rt_of_grot c (State.log_grot ..), rootWritten_rt]
  exact ⟨rfl, rfl, rfl, (Logged.log _ _ _).since (rootWritten_keep s c _).nextSeq⟩

/-! ## Agreements that end (R312) -/

/-- ABORT. -/
theorem abort_fails (c : Carrier) (session reason : Nat) (s : State) (hsession : (s.rt c).session = session)
    (hpart : (s.rt c).part ≠ .none) :
    ∃ t, exec (.abort c session reason) s = .next t ∧ (t.rt c).part = .none ∧
      Logged s t 0x9008 (d8 c.inst ++ d8 reason ++ d8 1) := by
  have hexec : exec (.abort c session reason) s = .next (s.agreeFail c reason false) := by
    show execAbort c session reason s = _
    simp only [execAbort, hsession, hpart, ne_eq, not_true_eq_false, not_false_eq_true, true_or, if_false, if_true]
  obtain ⟨hnone, hlog, -, -⟩ := failed s c reason false
  exact ⟨_, hexec, hnone, hlog⟩

/-- AGREEMENT_TIMEOUT. -/
theorem agreementTimeout_fails (c : Carrier) (s : State) (hpart : (s.rt c).part ≠ .none)
    (htime : (s.rt c).sentAt + 2000 ≤ s.clk.sfn) :
    ∃ t, exec (.agreementTimeout c) s = .next t ∧ (t.rt c).part = .none ∧
      Logged s t 0x9008 (d8 c.inst ++ d8 6 ++ d8 0) ∧
      t.u (on c Obj.agreementState) = (if (s.rt c).initiates then 5 else 0) ∧
      ((s.rt c).initiates = true → (t.rt c).retryAt =
        some (s.clk.sfn + (if (s.rt c).backoff = 0 then 1 else min 64 (2 * (s.rt c).backoff)) * sfPerSecond)) :=
  ⟨_, congrArg Host.Outcome.next (if_pos ⟨hpart, htime⟩), failed s c 6 true⟩

end Agreement

/-- Settles O45: each command completes in the state that its rule above names; the octets of 9008h are log entry 7, that
messages and their lattice operations are atomic log entry 49. -/
theorem agreementRuns : Obligations.AgreementRuns :=
  ⟨offerWait_sends, agreementRetry_sends, latticeRetry_sends, rootInterval_sends, rekeyRoot_sends, offer_answered,
    answer_confirmed, confirmI_installs, confirmR_installs, abort_fails, agreementTimeout_fails⟩

section Images

open Sys2Proof.Laws.OfImages

variable {s : State} {w : Requester}

/-! ## The owner's key (R320) -/

theorem slot_of_slots {t : State} {l : List GSlot} (h : t.grot.slots = l) (k : Nat) : t.slot k = nth l k GSlot.init :=
  congrArg (nth · k GSlot.init) h

/-- The owner's slot after an operation: emptied by a removal, else written. -/
def ownerSlot (s : State) (op : Nat) (key : List Byte) : State := if op = 3 then s.emptySlot 3 else s.writeSlot 3 4 key

theorem ownerSlot_keep (s : State) (op : Nat) (key : List Byte) : Keep 32768 s (ownerSlot s op key) :=
  Keep.ite (State.emptySlot_keep (Keep.refl _ s) rfl 3) (State.writeSlot_keep (Keep.refl _ s) rfl 3 4 key)

theorem slot_ownerSlot_removed (key : List Byte) (hlen : 3 < s.grot.slots.length) : ((ownerSlot s 3 key).slot 3).typ = 0 :=
  congrArg GSlot.typ (slot_modSlot_same s _ hlen)

theorem slot_ownerSlot_written {op : Nat} (key : List Byte) (hop : op ≠ 3) (hlen : 3 < s.grot.slots.length) :
    ((ownerSlot s op key).slot 3).typ = 4 ∧ ((ownerSlot s op key).slot 3).data = key := by
  unfold ownerSlot
  rw [if_neg hop]
  exact slot_writeSlot_same s 4 key hlen

/-- An enrolment that is taken, before its record: the slot good again, its digest shown, the slot saved. -/
def enrolled (s : State) (op : Nat) (key digest : List Byte) : State :=
  (((ownerSlot s op key).setGr (fun g => { g with ownerBad := false })).putO Obj.ownerKeyDigest 0 digest).saveSlot 3

theorem enrolled_keep (s : State) (op : Nat) (key digest : List Byte) : Keep 32889 s (enrolled s op key digest) :=
  State.saveSlot_keep (State.putO_keep (State.setGr_keep ((ownerSlot_keep s op key).mono rfl) rfl _) rfl _ _ _) rfl 3

theorem enrolled_grot (s : State) (op : Nat) (key digest : List Byte) :
    (enrolled s op key digest).grot = { (ownerSlot s op key).grot with ownerBad := false } :=
  (State.saveSlot_keep (Keep.refl 121 _) rfl 3).grot rfl

/-- OWNER_KEY_ENROL. -/
theorem ownerKeyEnrol_enrols (w : Requester) (value b : List Byte) (op : Nat) (s s' : State)
    (h : Admitted s s' w 2 Obj.ownerKeyEnrol 0 (.octs value) (.octs b)) (hop : ofBe (slice b 0 1) = op)
    (hops : op = 1 ∨ op = 2 ∨ op = 3) (hlen : b.length = nth [0, 1802, 3082, 1289] op 0)
    (hlate : s.clk.sfn ≤ ofBe (slice b 1 8) + 10000) (hearly : ofBe (slice b 1 8) ≤ s.clk.sfn + 10000)
    (hgood : op ≠ 1 → s.grot.ownerBad = false)
    (hheld : if op = 1 then (s.slot 3).typ = 0
      else (s.slot 3).typ ≠ 0 ∧ Config.verdict Config.falconVerify [(s.slot 3).data,
        b.take (b.length - 1280) ++ fit 16 (s.o Obj.deviceSerial), b.drop (b.length - 1280)] = true)
    (himages : op ≠ 3 → ∀ sub ∈ [1, 2, 3, 4, 5, 6], (s.imgSlot (imgIndex sub (s.activeSlot sub))).factory = false ∧
      ownerSigned (slice b 9 1793) (s.imgSlot (imgIndex sub (s.activeSlot sub))).data = true)
    (hshadow : (s.slot 3).shadow = none) (hslots : 3 < s.grot.slots.length) :
    Accepts (.ownerKeyEnrol w value) s w 2 Obj.ownerKeyEnrol 0 (fun t => t.grot.ownerBad = false ∧
      (op = 3 → (t.slot 3).typ = 0) ∧
      (op ≠ 3 → (t.slot 3).typ = 4 ∧ (t.slot 3).data = slice b 9 1793) ∧
      Logged s t 0x9004 (d8 op ++ if op = 3 then List.replicate 64 0 else Config.shake256 64 (slice b 9 1793))) := by
  obtain ⟨key, hkey⟩ : ∃ key, (if op = 3 then [] else slice b 9 1793) = key := ⟨_, rfl⟩
  obtain ⟨digest, hdigest⟩ : ∃ d, (if op = 3 then List.replicate 64 0 else Config.shake256 64 (slice b 9 1793)) = d :=
    ⟨_, rfl⟩
  have hdigest' : (if op = 3 then List.replicate 64 0 else Config.shake256 64 key) = digest := by
    rw [← hdigest, ← hkey]
    split <;> rfl
  have heff : ∀ z, z = s ∨ (∃ d, z = s.touch d) →
      z.ownerKeyEffect b = ({}, (enrolled z op key digest).log 0x9004 (d8 op ++ digest)) := by
    rintro z (rfl | ⟨d, rfl⟩)
    · exact ownerKey_eff z b op hop hops hlen hlate hearly hgood hheld himages hshadow key digest hkey hdigest'
    · exact ownerKey_eff (s.touch d) b op hop hops hlen hlate hearly hgood hheld himages hshadow key digest hkey hdigest'
  refine accepts_of_effect rfl h (heff s' h.noted) (congrArg (·.1.code) (heff s (.inl rfl))) ?_
  have hgrot : ((enrolled s' op key digest).log 0x9004 (d8 op ++ digest)).grot =
      { (ownerSlot s' op key).grot with ownerBad := false } := (State.log_grot ..).trans (enrolled_grot ..)
  have hslots' : 3 < s'.grot.slots.length := by rwa [h.only.grot rfl]
  rw [slot_of_slots (congrArg Grotto.slots hgrot), hgrot, hdigest]
  refine ⟨rfl, ?_, ?_, (Logged.log _ _ _).since ((h.only.mono rfl).trans (enrolled_keep s' op key digest)).nextSeq⟩
  · rintro rfl
    exact slot_ownerSlot_removed key hslots'
  · intro hop3
    rw [if_neg hop3] at hkey
    rw [hkey]
    exact slot_ownerSlot_written key hop3 hslots'

/-! ## Rollback floors (R321) -/

theorem nth_setNth_same {α : Type} (l : List α) {i : Nat} (x d : α) (h : i < l.length) : nth (setNth l i x) i d = x := by
  simp [nth, getElem?_setNth, h]

/-- A floor raised, before its record. -/
def floorRaised (s : State) (sub n : Nat) : State :=
  (s.setGr (fun g => { g with floors := setNth g.floors sub n })).put Obj.rollbackFloor sub n

theorem rollbackEffect_ok {sub n : Nat} (hversion : n = s.imgVersion (imgIndex sub (s.activeSlot sub)))
    (hfloor : nth s.grot.floors sub 0 < n) :
    s.rollbackEffect sub n = ({}, (floorRaised s sub n).log 0x9005 (d8 sub ++ d8 n)) :=
  if_neg (not_or_intro (not_not_intro hversion) (Nat.not_le.mpr hfloor))

/-- No log record changes `RollbackFloor`. -/
theorem logKey_rollbackFloor (sub : Fin 7) : logKey (okey Obj.rollbackFloor sub) = false := by revert sub; decide

/-- ROLLBACK_FLOOR. -/
theorem rollbackFloor_raises (w : Requester) (sub : Fin 7) (v : Int) (n : Nat) (s s' : State)
    (h : Admitted s s' w 2 Obj.rollbackFloor sub (.num v) (.num n))
    (hversion : n = s.imgVersion (imgIndex sub (s.activeSlot sub))) (hfloor : nth s.grot.floors sub.val 0 < n)
    (hsub : sub.val < s.grot.floors.length) :
    Accepts (.rollbackFloor w sub v) s w 2 Obj.rollbackFloor sub (fun t => t.u Obj.rollbackFloor sub = n ∧
      nth t.grot.floors sub.val 0 = n ∧ Logged s t 0x9005 (d8 sub ++ d8 n)) := by
  have heff : ∀ z, z = s ∨ (∃ d, z = s.touch d) →
      z.rollbackEffect sub n = ({}, (floorRaised z sub n).log 0x9005 (d8 sub ++ d8 n)) := by
    rintro z (rfl | ⟨d, rfl⟩) <;> exact rollbackEffect_ok hversion hfloor
  refine accepts_of_effect rfl h (heff s' h.noted) (congrArg (·.1.code) (heff s (.inl rfl))) ⟨?_, ?_, ?_⟩
  · rw [State.u_log _ _ _ (logKey_rollbackFloor sub)]
    exact State.u_put_same ..
  · rw [State.log_grot]
    exact nth_setNth_same _ _ _ (by rwa [h.only.grot rfl])
  · exact (Logged.log _ _ _).since
      (State.put_keep (State.setGr_keep (h.only.mono (N := 32785) rfl) rfl _) rfl _ _ _).nextSeq

/-! ## Writing an image and its record (R555) -/

/-- A slot of an image's octets so far. -/
def slotWritten (s : State) (sub slot off : Nat) (all : List Byte) : State :=
  ((if off = 0 then s.clearSlotBlocks (imgIndex sub slot) else s).setImgSlot (imgIndex sub slot)
    (fun x => { x with opened := some all })).put Obj.imageProgress sub all.length

theorem imgSlot_slotWritten {sub slot : Nat} (off : Nat) (all : List Byte) (hslot : imgIndex sub slot < s.img.slots.length) :
    ((slotWritten s sub slot off all).imgSlot (imgIndex sub slot)).opened = some all := by
  have himg : (if off = 0 then s.clearSlotBlocks (imgIndex sub slot) else s).img = s.img :=
    (Keep.ite (State.clearSlotBlocks_keep (Keep.refl 32 s) rfl _) (Keep.refl 32 s)).img rfl
  unfold slotWritten
  generalize (if off = 0 then s.clearSlotBlocks (imgIndex sub slot) else s) = z at himg ⊢
  exact congrArg ImgSlot.opened (nth_modNth_same z.img.slots _ _ (himg ▸ hslot))

/-- The octets of an image slot that a write leaves. -/
def imageSoFar (s : State) (k off : Nat) (data : List Byte) : List Byte :=
  if off = 0 then data else (s.imgSlot k).opened.getD [] ++ data

theorem imageWriteEffect_ok {b : List Byte} {sub slot off : Nat} (hsub : ofBe (slice b 2 1) = sub)
    (hslot : ofBe (slice b 3 1) = slot) (hoff : ofBe (slice b 4 4) = off)
    (hnext : off = 0 ∨ (s.imgSlot (imgIndex sub slot)).opened.isSome = true ∧
      off = ((s.imgSlot (imgIndex sub slot)).opened.getD []).length)
    (hmax : off + (b.drop 10).length ≤ imageMax) (hactive : s.slotActive sub slot = false)
    (hpending : s.slotPending sub slot = false) (hcommit : s.committing (imgIndex sub slot) = false) :
    s.imageWriteEffect b = ({}, slotWritten s sub slot off (imageSoFar s (imgIndex sub slot) off (b.drop 10))) := by
  have hfits : (off != 0 && (off != ((s.imgSlot (imgIndex sub slot)).opened.getD []).length ||
      (s.imgSlot (imgIndex sub slot)).opened.isNone)) = false := by
    rcases hnext with hzero | ⟨hopen, hnext⟩
    · simp [hzero]
    · rw [← hnext]
      simp [hopen]
  simp only [State.imageWriteEffect, hsub, hslot, hoff, hfits, decide_eq_false (Nat.not_lt.mpr hmax), hactive, hpending,
    hcommit, Bool.or_self, Bool.false_eq_true, if_false]
  refine (if_neg (by decide)).trans ?_
  unfold slotWritten imageSoFar
  by_cases hzero : off = 0
  · simp only [if_pos hzero]
  · simp only [if_neg hzero]

/-- IMAGE_WRITE. -/
theorem imageWrite_writes (w : Requester) (row b : List Byte) (sub slot off : Nat) (s s' : State)
    (h : Admitted s s' w 2 Obj.imageWrite 0 (.octs row) (.octs b)) (hsub : ofBe (slice b 2 1) = sub)
    (hslot : ofBe (slice b 3 1) = slot) (hoff : ofBe (slice b 4 4) = off)
    (hnext : off = 0 ∨ (s.imgSlot (imgIndex sub slot)).opened.isSome = true ∧
      off = ((s.imgSlot (imgIndex sub slot)).opened.getD []).length)
    (hmax : off + (b.drop 10).length ≤ imageMax) (hactive : s.slotActive sub slot = false)
    (hpending : s.slotPending sub slot = false) (hcommit : s.committing (imgIndex sub slot) = false)
    (hindex : imgIndex sub slot < s.img.slots.length) :
    Accepts (.imageWrite w row) s w 2 Obj.imageWrite 0 (fun t =>
      (t.imgSlot (imgIndex sub slot)).opened = some (if off = 0 then b.drop 10
        else (s.imgSlot (imgIndex sub slot)).opened.getD [] ++ b.drop 10) ∧
      t.u Obj.imageProgress sub = (if off = 0 then (b.drop 10).length
        else ((s.imgSlot (imgIndex sub slot)).opened.getD []).length + (b.drop 10).length)) := by
  have heff : ∀ z, z = s ∨ (∃ d, z = s.touch d) → z.imageWriteEffect b =
      ({}, slotWritten z sub slot off (imageSoFar s (imgIndex sub slot) off (b.drop 10))) := by
    rintro z (rfl | ⟨d, rfl⟩)
    · exact imageWriteEffect_ok hsub hslot hoff hnext hmax hactive hpending hcommit
    · exact imageWriteEffect_ok (s := s.touch d) hsub hslot hoff hnext hmax hactive hpending hcommit
  refine accepts_of_effect rfl h (heff s' h.noted) (congrArg (·.1.code) (heff s (.inl rfl)))
    ⟨imgSlot_slotWritten off _ (by rwa [h.only.img rfl]), (State.u_put_same ..).trans ((Int.toNat_natCast _).trans ?_)⟩
  unfold imageSoFar
  split
  · rfl
  · exact List.length_append

theorem imageCommitEffect_ok {b data : List Byte} {sub slot : Nat} (hsub : ofBe (slice b 2 1) = sub)
    (hslot : ofBe (slice b 3 1) = slot) (hdata : (s.imgSlot (imgIndex sub slot)).opened = some data)
    (hlen : data.length = ofBe (slice b 4 4)) (hjudge : s.judgeImage sub data = 1)
    (hactive : s.slotActive sub slot = false) (hpending : s.slotPending sub slot = false)
    (hcommit : s.committing (imgIndex sub slot) = false)
    (hrecord : ((s.accessDom Dn.grt).2.writeRecord 1 1 (imgIndex sub slot) data (some w)).1 = 0) :
    s.imageCommitEffect w b =
      ({ wait := true }, ((s.accessDom Dn.grt).2.writeRecord 1 1 (imgIndex sub slot) data (some w)).2) := by
  simp only [State.imageCommitEffect, hsub, hslot, hdata, hlen, hjudge, hactive, hpending, hcommit, hrecord,
    Option.getD_some, Option.isNone_some, bne_self_eq_false, Bool.or_self, Bool.false_eq_true, if_false, if_true]
  rfl

/-- IMAGE_COMMIT of a sound image: its answer waits for the record's marker. -/
theorem imageCommit_records (w : Requester) (row b data : List Byte) (sub slot : Nat) (s s' : State)
    (h : Admitted s s' w 2 Obj.imageCommit 0 (.octs row) (.octs b)) (hsub : ofBe (slice b 2 1) = sub)
    (hslot : ofBe (slice b 3 1) = slot) (hdata : (s.imgSlot (imgIndex sub slot)).opened = some data)
    (hlen : data.length = ofBe (slice b 4 4)) (hjudge : s.judgeImage sub data = 1)
    (hactive : s.slotActive sub slot = false) (hpending : s.slotPending sub slot = false)
    (hcommit : s.committing (imgIndex sub slot) = false)
    (hrecord : ∀ z ∈ [s, s'], ((z.accessDom Dn.grt).2.writeRecord 1 1 (imgIndex sub slot) data (some w)).1 = 0) :
    exec (.imageCommit w row) s =
      .next ((s'.accessDom Dn.grt).2.writeRecord 1 1 (imgIndex sub slot) data (some w)).2 := by
  have heff : ∀ z, z = s ∨ (∃ d, z = s.touch d) →
      ((z.accessDom Dn.grt).2.writeRecord 1 1 (imgIndex sub slot) data (some w)).1 = 0 → z.imageCommitEffect w b =
      ({ wait := true }, ((z.accessDom Dn.grt).2.writeRecord 1 1 (imgIndex sub slot) data (some w)).2) := by
    rintro z (rfl | ⟨d, rfl⟩) hrecord
    · exact imageCommitEffect_ok hsub hslot hdata hlen hjudge hactive hpending hcommit hrecord
    · exact imageCommitEffect_ok (s := s.touch d) hsub hslot hdata hlen hjudge hactive hpending hcommit hrecord
  exact congrArg Host.Outcome.next (State.hostWrite_waits h (fun x s => s.imageCommitEffect w x.bytes)
    (heff s' h.noted (hrecord s' (by simp))) (congrArg (·.1.code) (heff s (.inl rfl) (hrecord s (by simp)))))

/-! ## Activation (R556) -/

/-- The carriers on which a write of `ImageActivate` changes the slot in force, in order; `none` for a subsystem that
serves both. -/
def activations (s : State) (sub v : Nat) : List (Option Carrier) :=
  let both := if s.u Obj.avenueMode = 2 ∧ s.carrying = some .a then [Carrier.b, Carrier.a] else [.a, .b]
  if sub = 5 then
    ((if v / 2 = 1 then [Carrier.a] else if v / 2 = 2 then [.b] else both).filter
      (fun c => s.img.dsp.get c != v % 2)).map some
  else if s.activeSlot sub = v % 2 then [] else [none]

/-- A slot holds a valid image that nobody writes. -/
def Activatable (s : State) (k : Nat) : Prop :=
  (s.imgSlot k).opened = none ∧ (s.imgSlot k).present = true ∧ s.imageStatus k = 1

/-- What the Sundial answers to an activation, and the machine with its entry. -/
abbrev scheduled (s : State) (w : Requester) (tg : Target) (sub slot : Nat) (c : Option Carrier) : Res × State :=
  (s.accessDom Dn.grt).2.hostSchedule w tg (activationEntry sub slot c)

theorem imageActivateEffect_none {sub v : Nat} (tg : Target) (hcs : activations s sub v = []) :
    s.imageActivateEffect w sub tg v = ({}, s) := by
  unfold activations at hcs
  simp only [State.imageActivateEffect, hcs]

theorem imageActivateEffect_one {sub v : Nat} {tg : Target} {c : Option Carrier} (hcs : activations s sub v = [c])
    (himage : Activatable s (imgIndex sub (v % 2)))
    (hcode : (scheduled s w tg sub (v % 2) c).1.code = 0) :
    s.imageActivateEffect w sub tg v = scheduled s w tg sub (v % 2) c := by
  obtain ⟨hopen, hpresent, hstatus⟩ := himage
  unfold activations at hcs
  simp only [State.imageActivateEffect, hcs, hopen, hpresent, hstatus, hcode, Option.isSome_none, Bool.not_true,
    Bool.or_self, bne_self_eq_false, Bool.false_eq_true, if_false]
  exact if_neg (by decide)

theorem imageActivateEffect_two {sub v : Nat} {tg : Target} {c d : Option Carrier} {y : State}
    (hcs : activations s sub v = [c, d]) (himage : Activatable s (imgIndex sub (v % 2)))
    (hcode : (scheduled s w tg sub (v % 2) c).1.code = 0)
    (hsecond : (scheduled s w tg sub (v % 2) c).2.secondActivation (ofBe (scheduled s w tg sub (v % 2) c).1.value)
      (activationEntry sub (v % 2) d) = some y) :
    s.imageActivateEffect w sub tg v = ((scheduled s w tg sub (v % 2) c).1, y) := by
  obtain ⟨hopen, hpresent, hstatus⟩ := himage
  unfold activations at hcs
  simp only [State.imageActivateEffect, hcs, hopen, hpresent, hstatus, hcode, hsecond, Option.isSome_none,
    Bool.not_true, Bool.or_self, bne_self_eq_false, Bool.false_eq_true, if_false]
  exact if_neg (by decide)

/-- An activation that the Sundial takes is accepted with what the Sundial answers. -/
theorem hostWrite_activated {sub n : Nat} {v : Int} {tg : Target} {s' : State} {r : Res × State}
    (h : Admitted s s' w 3 Obj.imageActivate sub (.num v) (.num n)) (heff : s'.imageActivateEffect w sub tg n = r)
    (hcode : r.1.code = 0) (hwait : r.1.wait = false) (hcode₀ : (s.imageActivateEffect w sub tg n).1.code = 0) :
    s.hostWrite w 3 Obj.imageActivate sub (.num v) (fun x s => s.imageActivateEffect w sub tg x.nat) =
      r.2.accept w 3 0 Obj.imageActivate sub 0 r.1.target r.1.value := by
  subst heff
  exact State.hostWrite_accept h (fun x s => s.imageActivateEffect w sub tg x.nat) hcode hwait hcode₀

/-- An activation on one carrier, or of a subsystem that serves both. -/
theorem imageActivate_arms (w : Requester) (sub : Fin 7) (tg : Target) (v : Int) (n : Nat) (c : Option Carrier)
    (s s' : State) (h : Admitted s s' w 3 Obj.imageActivate sub (.num v) (.num n))
    (hcarrier : sub.val ≠ 5 ∧ c = none ∧ s.activeSlot sub ≠ n % 2 ∨
      sub.val = 5 ∧ n / 2 = 1 ∧ c = some .a ∧ s.img.dsp.a ≠ n % 2 ∨
      sub.val = 5 ∧ n / 2 = 2 ∧ c = some .b ∧ s.img.dsp.b ≠ n % 2)
    (hopen : (s.imgSlot (imgIndex sub (n % 2))).opened = none)
    (hpresent : (s.imgSlot (imgIndex sub (n % 2))).present = true) (hstatus : s.imageStatus (imgIndex sub (n % 2)) = 1)
    (hcode : ∀ z ∈ [s, s'], ((z.accessDom Dn.grt).2.hostSchedule w tg (activationEntry sub (n % 2) c)).1.code = 0) :
    ∃ t, exec (.imageActivate w sub tg v) s = .next t ∧ ∃ e ∈ t.clk.entries, e.kind = .imageActivation ∧ e.carrier = c ∧
      e.mem = sub ∧ e.data = [n % 2] := by
  have hcs : activations s sub n = [c] := by
    unfold activations
    rcases hcarrier with ⟨hsub, rfl, hslot⟩ | ⟨hsub, hn, rfl, hslot⟩ | ⟨hsub, hn, rfl, hslot⟩
    · simp [hsub, hslot]
    · simp [hsub, hn, hslot, Pair.get]
    · simp [hsub, hn, hslot, Pair.get]
  have heff : ∀ z, z = s ∨ (∃ d, z = s.touch d) →
      (scheduled z w tg sub (n % 2) c).1.code = 0 →
      z.imageActivateEffect w sub tg n = scheduled z w tg sub (n % 2) c := by
    rintro z (rfl | ⟨d, rfl⟩) hcode
    · exact imageActivateEffect_one hcs ⟨hopen, hpresent, hstatus⟩ hcode
    · exact imageActivateEffect_one (s := s.touch d) hcs ⟨hopen, hpresent, hstatus⟩ hcode
  have hcode' := hcode s' (by simp)
  have hcode₀ := hcode s (by simp)
  obtain ⟨hwait, e, he, hkind, hcar, -, hmem, -, hdata, -⟩ := State.hostSchedule_done _ w tg _ hcode'
  refine ⟨_, congrArg Host.Outcome.next (hostWrite_activated h (heff s' h.noted hcode') hcode' hwait
    (congrArg (·.1.code) (heff s (.inl rfl) hcode₀) |>.trans hcode₀)), e, ?_, hkind, hcar, hmem, hdata⟩
  rwa [State.accept_clk]

/-- An activation of the slot in force. -/
theorem imageActivate_idle (w : Requester) (sub : Fin 7) (tg : Target) (v : Int) (n : Nat) (s s' : State)
    (h : Admitted s s' w 3 Obj.imageActivate sub (.num v) (.num n)) (hsub : sub.val ≠ 5)
    (hslot : s.activeSlot sub = n % 2) :
    Accepts (.imageActivate w sub tg v) s w 3 Obj.imageActivate sub (fun t => t = s') := by
  have hcs : ∀ z : State, z.img = s.img → activations z sub n = [] := fun z himg => by
    unfold activations
    rw [if_neg hsub, if_pos (show z.activeSlot sub = n % 2 by rwa [State.activeSlot, himg])]
  exact accepts_of_effect (eff := fun x s => s.imageActivateEffect w sub tg x.nat) rfl h
    (imageActivateEffect_none tg (hcs s' (h.only.img rfl)))
    (congrArg (·.1.code) (imageActivateEffect_none tg (hcs s rfl))) rfl

/-- The second entry of an activation on both carriers joins the table behind those in it. -/
theorem secondActivation_stands {num : Nat} {e : Entry} {y : State} (h : s.secondActivation num e = some y) :
    (∀ x ∈ s.clk.entries, x ∈ y.clk.entries) ∧
      ∃ x ∈ y.clk.entries, x.kind = e.kind ∧ x.carrier = e.carrier ∧ x.mem = e.mem ∧ x.data = e.data := by
  unfold State.secondActivation at h
  split at h
  · cases h
  · dsimp only at h
    split at h
    · cases h
    · split at h
      · cases h
      · obtain rfl := Option.some.inj h
        exact ⟨fun x hx => List.mem_append_left _ hx, _, State.addEntry_stands _ _, rfl, rfl, rfl, rfl⟩

/-- An activation of the line converters on both carriers. -/
theorem imageActivate_armsBoth (w : Requester) (tg : Target) (v : Int) (n : Nat) (s s' : State)
    (h : Admitted s s' w 3 Obj.imageActivate 5 (.num v) (.num n)) (hn : n / 2 = 0) (hmode : s.u Obj.avenueMode ≠ 2)
    (ha : s.img.dsp.a ≠ n % 2) (hb : s.img.dsp.b ≠ n % 2) (hopen : (s.imgSlot (imgIndex 5 (n % 2))).opened = none)
    (hpresent : (s.imgSlot (imgIndex 5 (n % 2))).present = true) (hstatus : s.imageStatus (imgIndex 5 (n % 2)) = 1)
    (hsched : ∀ z ∈ [s, s'], ∀ r, r = (z.accessDom Dn.grt).2.hostSchedule w tg (activationEntry 5 (n % 2) (some .a)) →
      r.1.code = 0 ∧ (r.2.secondActivation (ofBe r.1.value) (activationEntry 5 (n % 2) (some .b))).isSome = true) :
    ∃ t, exec (.imageActivate w 5 tg v) s = .next t ∧ ∀ c, ∃ e ∈ t.clk.entries, e.kind = .imageActivation ∧
      e.carrier = some c ∧ e.mem = 5 ∧ e.data = [n % 2] := by
  have hcs : activations s 5 n = [some .a, some .b] := by simp [activations, hn, hmode, ha, hb, Pair.get]
  have heff : ∀ z, z = s ∨ (∃ d, z = s.touch d) → z ∈ [s, s'] → ∃ y,
      (scheduled z w tg 5 (n % 2) (some .a)).2.secondActivation (ofBe (scheduled z w tg 5 (n % 2) (some .a)).1.value)
        (activationEntry 5 (n % 2) (some .b)) = some y ∧
      z.imageActivateEffect w 5 tg n = ((scheduled z w tg 5 (n % 2) (some .a)).1, y) := by
    intro z hz hmem
    obtain ⟨hcode, hsecond⟩ := hsched z hmem _ rfl
    obtain ⟨y, hy⟩ := Option.isSome_iff_exists.mp hsecond
    refine ⟨y, hy, ?_⟩
    rcases hz with rfl | ⟨d, rfl⟩
    · exact imageActivateEffect_two hcs ⟨hopen, hpresent, hstatus⟩ hcode hy
    · exact imageActivateEffect_two (s := s.touch d) hcs ⟨hopen, hpresent, hstatus⟩ hcode hy
  obtain ⟨y, hsecond, heff'⟩ := heff s' h.noted (by simp)
  obtain ⟨_, -, heff₀⟩ := heff s (.inl rfl) (by simp)
  have hcode' := (hsched s' (by simp) _ rfl).1
  have hcode₀ := (hsched s (by simp) _ rfl).1
  obtain ⟨hwait, e, he, hkind, hcar, -, hmem, -, hdata, -⟩ := State.hostSchedule_done _ w tg _ hcode'
  obtain ⟨hstay, f, hf, hkind', hcar', hmem', hdata'⟩ := secondActivation_stands hsecond
  refine ⟨_, congrArg Host.Outcome.next (hostWrite_activated h heff' hcode' hwait
    ((congrArg (·.1.code) heff₀).trans hcode₀)), fun c => ?_⟩
  rw [State.accept_clk]
  cases c
  case a => exact ⟨e, hstay e he, hkind, hcar, hmem, hdata⟩
  case b => exact ⟨f, hf, hkind', hcar', hmem', hdata'⟩

/-! ## Loading and probation (R317, R423, R556, R557) -/

/-- Free units that take requests leave the Grotto's hold. -/
theorem startUnits_hold (s : State) : s.startUnits.grot.hold = s.grot.hold := by
  unfold State.startUnits
  split
  · rw [(State.showDepth_keep (Keep.refl 121 s) rfl).grot rfl]
  · rw [(State.showDepth_keep (Keep.refl 121 _) rfl).grot rfl]
    exact foldl_same (fun s => s.grot.hold) _ (fun s u => startUnit_p Grotto.hold (fun _ _ _ => rfl) s u) _ _

/-- NEW_IMAGE_LOADED. -/
theorem newImageLoaded_ends (sub : Fin 7) (s : State) (hload : s.img.loading.contains sub.val = true) :
    ∃ t, exec (.newImageLoaded sub) s = .next t ∧ t.img.loading = s.img.loading.filter (· != sub.val) ∧
      (sub.val = 2 → t.grot.hold = false) := by
  refine ⟨_, congrArg Host.Outcome.next (if_neg (by rw [hload]; decide)), ?_⟩
  split
  next =>
    refine ⟨?_, fun _ => startUnits_hold _⟩
    rw [(State.startUnits_keep (Keep.refl 32857 _) rfl).img rfl]
    rfl
  next hsub =>
    refine ⟨?_, fun h => absurd h hsub⟩
    split
    · rw [(State.tfeLoaded_keep (Keep.refl 524288 _) rfl).img rfl]
      rfl
    · rfl

theorem onProbation_some {sub : Nat} {c : Option Carrier} {p : Probation} (h : s.onProbation sub c = some p) :
    p.sub = sub ∧ p.carrier = c := by
  simpa using List.find?_some h

/-- A probation that has ended is not found again. -/
theorem onProbation_of_ended {sub : Nat} {c : Option Carrier} {p : Probation} (h : s.onProbation sub c = some p)
    {t : State} (ht : t.img.probation = (s.endProbation p).img.probation) : t.onProbation sub c = none := by
  obtain ⟨rfl, rfl⟩ := onProbation_some h
  unfold State.onProbation
  rw [ht, List.find?_eq_none]
  intro q hq
  exact Bool.eq_false_iff.mp ((Bool.not_eq_true' _).mp (List.mem_filter.mp hq).2)

/-- PROBATION_PASS. -/
theorem probationPass_boots (sub : Fin 7) (c : Option Carrier) (p : Probation) (s : State)
    (hp : s.onProbation sub c = some p) (htime : p.until_ ≤ s.clk.sfn) (hsub : p.sub < s.img.boot.length) :
    ∃ t, exec (.probationPass sub c) s = .next t ∧ nth t.img.boot p.sub 0 = p.slot ∧ t.onProbation sub c = none := by
  have hexec : exec (.probationPass sub c) s =
      .next ((s.endProbation p).setImg (fun x => { x with boot := setNth x.boot p.sub p.slot })) := by
    show execProbationPass sub c s = _
    simp only [execProbationPass, hp, if_neg (Nat.not_lt.mpr htime)]
  exact ⟨_, hexec, nth_setNth_same s.img.boot _ _ hsub, onProbation_of_ended hp rfl⟩

/-- PROBATION_FAIL. -/
theorem probationFail_returns (sub : Fin 7) (c : Option Carrier) (p : Probation) (s : State)
    (hp : s.onProbation sub c = some p) (htime : s.clk.sfn < p.until_) :
    ∃ z, exec (.probationFail sub c) s = .next (z.arm { activationEntry p.sub p.prev p.carrier with
        sfn := z.firstSfn .loc 0, orig := z.firstSfn .loc 0 }).2 ∧ z.clk = s.clk ∧ z.onProbation sub c = none ∧
      Logged s z 0x1012 (d8 p.sub ++ d8 p.sub) := by
  refine ⟨(s.endProbation p).log 0x1012 (d8 p.sub ++ d8 p.sub), ?_, State.log_clk .., ?_,
    (Logged.log _ _ _).since (Nat.le_refl _)⟩
  · show execProbationFail sub c s = _
    simp only [execProbationFail, hp, if_neg (Nat.not_le.mpr htime)]
  · exact onProbation_of_ended hp (congrArg Img.probation (State.log_img ..))

end Images

/-- Settles O46: each command completes in the state that its rule above names; the way back and 1012h's second octet are log
entry 67, images that an enrolment meets log entry 50. -/
theorem imagesChange : Obligations.ImagesChange :=
  ⟨ownerKeyEnrol_enrols, rollbackFloor_raises, imageWrite_writes, imageCommit_records, imageActivate_arms,
    imageActivate_idle, imageActivate_armsBoth, newImageLoaded_ends, probationPass_boots, probationFail_returns⟩

section Sessions

open Sys2Proof.Laws.OfSessions

variable {s : State} {w : Requester}

/-! ## Messages (R304, R496, R501, R504) -/

/-- A message from the UART, or outside recovery, is heard. -/
theorem heard_of_served {t : Fin 5} (h : s.recovering = false ∨ t = 4) : ¬(s.recovering = true ∧ t ≠ 4) := by
  rintro ⟨hrecovering, hport⟩
  rcases h with hserved | huart
  · exact Bool.false_ne_true (hserved.symm.trans hrecovering)
  · exact hport huart

/-- AOP_MESSAGE that is no whole message. -/
theorem aopMessage_dropped (t : Fin 5) (source : BitVec 128) (port : BitVec 16) (b : List Byte) (crc : Bool) (s : State)
    (hserved : s.recovering = false ∨ t = 4) (hbad : (t = 4 ∧ crc = false) ∨ b.length < 20) :
    exec (.aopMessage t source port b crc) s = .next (if t = 4 then s.bump Obj.uartFrameErrors else s) := by
  show execAopMessage t source port b crc s = _
  unfold execAopMessage
  rw [if_neg (heard_of_served hserved)]
  rcases hbad with hcrc | hshort
  · rw [if_pos hcrc, if_pos hcrc.1]
  · rw [if_pos hshort]
    split
    next hcrc => rw [if_pos hcrc.1]
    next => rfl

/-- Of a requester that names no session a request with operations joins the queue. -/
theorem takeRequest_queue {ops : List AopOp} (hw : w.session = 0) (hops : ops ≠ []) (hroom : s.aop.queue.length < 256) :
    (s.takeRequest w (some ops)).aop.queue = s.aop.queue ++ [{ asker := w, left := ops, resp := [] }] := by
  simp only [State.takeRequest, hw, if_true, ne_eq, not_true_eq_false, false_and, Nat.not_lt_zero, if_false,
    Nat.not_le.mpr hroom, List.isEmpty_eq_false_iff.mpr hops, Bool.false_eq_true]
  rfl

theorem badSession_of_zero (s : State) (h : w.session = 0) : s.badSession w = false := by
  simp [State.badSession, h]

/-- A sound request for this device that names no session is taken. -/
theorem takeMessage_request {t : Fin 5} {source port : Nat} {b : List Byte} {ops : List AopOp}
    (hversion : ofBe (slice b 0 1) = 1) (htype : ofBe (slice b 1 1) = 1) (hlength : ofBe (slice b 2 2) = b.length)
    (hlimit : b.length ≤ transportLimit t)
    (htarget : ofBe (slice b 4 2) = 0xFFFF ∨ ofBe (slice b 4 2) = s.u Obj.deviceAddress)
    (hcount : ofBe (slice b 6 2) ≤ 64) (hsession : ofBe (slice b 8 4) = 0)
    (hops : parseOps (ofBe (slice b 6 2)) (b.drop 20) = some ops) :
    ∃ z : State, z.aop = s.aop ∧ s.takeMessage t source port b = z.takeRequest
      { transport := t, source := source, port := port, session := 0, sequence := ofBe (slice b 12 4) } (some ops) := by
  refine ⟨s.occur 0x1082 { master := some (masterOf { transport := t, source := source, port := port, session := 0
                                                      sequence := ofBe (slice b 12 4) }), cls := some 2 },
    State.occur_aop .., ?_⟩
  have hframe : ¬(ofBe (slice b 0 1) ≠ 1 ∨ ofBe (slice b 2 2) ≠ b.length ∨ transportLimit t < b.length ∨
      (1 : Nat) = 0 ∨ (8 : Nat) < 1) := by
    simp [hversion, hlength, hlimit]
  have hhere : ∀ z : State, z.u Obj.deviceAddress = s.u Obj.deviceAddress →
      ¬(ofBe (slice b 4 2) ≠ 0xFFFF ∧ ofBe (slice b 4 2) ≠ z.u Obj.deviceAddress) := fun z hz h =>
    htarget.elim h.1 (hz ▸ h.2)
  simp only [State.takeMessage, htype, hsession, if_neg hframe, if_neg (hhere _ (State.occur_u ..)),
    if_neg (Nat.not_lt.mpr hcount), hops, if_true, if_false,
    show ¬((1 : Nat) = 2 ∨ (1 : Nat) = 3 ∨ (1 : Nat) = 4 ∨ (1 : Nat) = 6) by decide]
  rw [badSession_of_zero _ rfl, if_neg Bool.false_ne_true]

/-- AOP_MESSAGE that holds a sound request. -/
theorem aopMessage_queued (t : Fin 5) (source : BitVec 128) (port : BitVec 16) (b : List Byte) (ops : List AopOp)
    (s : State) (hserved : s.recovering = false ∨ t = 4) (hlong : 20 ≤ b.length) (hversion : ofBe (slice b 0 1) = 1)
    (htype : ofBe (slice b 1 1) = 1) (hlength : ofBe (slice b 2 2) = b.length) (hlimit : b.length ≤ transportLimit t)
    (htarget : ofBe (slice b 4 2) = 0xFFFF ∨ ofBe (slice b 4 2) = s.u Obj.deviceAddress)
    (hcount : ofBe (slice b 6 2) ≤ 64) (hsession : ofBe (slice b 8 4) = 0)
    (hparse : parseOps (ofBe (slice b 6 2)) (b.drop 20) = some ops) (hops : ops ≠ [])
    (hroom : s.aop.queue.length < 256) :
    ∃ x, exec (.aopMessage t source port b true) s = .next x ∧ x.aop.queue = s.aop.queue ++ [{
      asker := { transport := t, source := source.toNat, port := port.toNat, session := 0
                 sequence := ofBe (slice b 12 4) }, left := ops, resp := [] }] := by
  have hexec : exec (.aopMessage t source port b true) s = .next (s.takeMessage t source.toNat port.toNat b) := by
    show execAopMessage t source port b true s = _
    unfold execAopMessage
    rw [if_neg (fun h => Bool.false_ne_true h.2.symm), if_neg (heard_of_served hserved), if_neg (Nat.not_lt.mpr hlong)]
  obtain ⟨z, haop, htaken⟩ := takeMessage_request (source := source.toNat) (port := port.toNat) hversion htype hlength
    hlimit htarget hcount hsession hparse
  exact ⟨_, hexec.trans (congrArg _ htaken), haop ▸ takeRequest_queue rfl hops (haop ▸ hroom)⟩

/-! ## Reads and describes (R130, R196, R469, R502, R503, R505) -/

/-- An object whose read clears it reads 0 afterwards. -/
theorem i_readEffect_cleared {o : Nat} (h : o = Obj.slotsPeak ∨ isObj o Obj.sopRateMax = true) :
    (s.readEffect o).i o 0 = 0 := by
  have hpeak : o ≠ Obj.peakPower := by
    rintro rfl
    exact absurd h (by decide)
  unfold State.readEffect
  rw [if_neg hpeak, if_pos h]
  exact State.i_put_same ..

/-- A read of any other object leaves the values as they are. -/
theorem readEffect_live_of_kept {o : Nat} (h : ¬(o = Obj.slotsPeak ∨ isObj o Obj.sopRateMax = true)) :
    (s.readEffect o).live = s.live := by
  unfold State.readEffect
  rw [if_neg h]
  split <;> rfl

/-- The octets that a read answers: of OCTETS and TABLE those from Offset on that fit, else the value. -/
def readPart (s : State) (w : Requester) (o m offset : Nat) : List Byte :=
  match dictRow o with
  | some r => if r.ty = .octets ∨ r.ty = .table then ((s.valueOctets o m).drop offset).take (s.room w) else s.valueOctets o m
  | none => s.valueOctets o m

theorem readOp_of_ok {o m : Nat} (offset : Nat) (hsession : s.badSession w = false) (hstatus : s.readStatus w o m = 0) :
    s.readOp w o m offset =
      (s.readEffect o).accept w 1 0 o m (s.valueOctets o m).length [] (readPart s w o m offset) := by
  unfold State.readOp
  rw [hsession, if_neg Bool.false_ne_true, hstatus]
  rfl

/-- AOP_READ. -/
theorem aopRead_answers (w : Requester) (o : BitVec 16) (m : BitVec 8) (off : BitVec 32) (s : State)
    (hsession : s.badSession w = false) (hstatus : s.readStatus w o.toNat m.toNat = 0)
    (hqueue : s.aop.queue.find? (fun q => decide (q.asker = w)) = none) :
    ∃ t part, exec (.aopRead w o m off) s = .next t ∧ t.user = s.user ∧
      (¬(o.toNat = Obj.slotsPeak ∨ isObj o.toNat Obj.sopRateMax = true) → t.live = s.live) ∧
      (o.toNat = Obj.slotsPeak ∨ isObj o.toNat Obj.sopRateMax = true → t.i o.toNat 0 = 0) ∧
      Answers w (aopMsg 2 1 w.session w.sequence 0
        (opMsg 1 0 o.toNat m.toNat 0 (s.valueOctets o.toNat m.toNat).length [] part)) t ∧
      part = (match dictRow o.toNat with
        | some r => if r.ty = .octets ∨ r.ty = .table then
            ((s.valueOctets o.toNat m.toNat).drop off.toNat).take (s.room w)
          else s.valueOctets o.toNat m.toNat
        | none => s.valueOctets o.toNat m.toNat) := by
  have haop : (s.readEffect o.toNat).aop = s.aop := (State.readEffect_keep (Keep.refl 17 s) rfl _).aop rfl
  refine ⟨_, _, congrArg Host.Outcome.next (readOp_of_ok off.toNat hsession hstatus), ?_, fun hkept => ?_,
    fun hcleared => ?_, acc_answers _ w 1 0 o.toNat m.toNat _ _ _ (haop ▸ hqueue), rfl⟩
  · rw [State.accept_user]
    exact (State.readEffect_keep (Keep.refl 17 s) rfl _).user rfl
  · rw [State.accept_live]
    exact readEffect_live_of_kept hkept
  · rw [State.accept_i]
    exact i_readEffect_cleared hcleared

/-- DESCRIBE. -/
theorem describe_answers (w : Requester) (o : BitVec 16) (m : BitVec 8) (r : DictRow) (s : State)
    (hsession : s.badSession w = false) (hserved : s.recovering = false) (hrow : dictRow o.toNat = some r)
    (hlo : r.memLo ≤ m.toNat) (hhi : m.toNat ≤ r.memHi)
    (hqueue : s.aop.queue.find? (fun q => decide (q.asker = w)) = none) :
    ∃ t, exec (.describe w o m) s = .next t ∧ t.live = s.live ∧
      Answers w (aopMsg 2 1 w.session w.sequence 0 (opMsg 6 0 o.toNat m.toNat 0 8 []
        (be 1 r.ty.code ++ be 1 r.acc.code ++ be 1 r.rd ++ be 1 r.wr ++ be 2 (r.memHi + 1) ++ be 2 0))) t := by
  have hexec : exec (.describe w o m) s = .next (s.accept w 6 0 o.toNat m.toNat 8 []
      (be 1 r.ty.code ++ be 1 r.acc.code ++ be 1 r.rd ++ be 1 r.wr ++ be 2 (r.memHi + 1) ++ be 2 0)) := by
    show Host.Outcome.next (s.describeOp w o.toNat m.toNat) = _
    simp only [State.describeOp, hsession, hrow, hserved, decide_eq_false (Nat.not_lt.mpr hlo),
      decide_eq_false (Nat.not_lt.mpr hhi), Bool.false_and, Bool.or_self, Bool.false_eq_true, if_false]
  exact ⟨_, hexec, State.accept_live .., acc_answers s w 6 0 o.toNat m.toNat 8 [] _ hqueue⟩

/-! ## Sessions that open (R507, R508, R587) -/

theorem sendTo_answers (s : State) (w : Requester) (m : List Byte) : Answers w m (s.sendTo w m) := List.mem_cons_self

/-- The session that an open begins. -/
def newSession (s : State) (w : Requester) (role slot : Nat) (nonce : List Byte) (id : Nat) (engine : List Byte) :
    Session :=
  { id := id, transport := w.transport, source := w.source, port := w.port, requested := role, keySlot := slot
    hostNonce := nonce, engineNonce := engine, proved := s.uartOwner w slot, role := if s.uartOwner w slot then 3 else 0
    opened := s.clk.sfn, last := s.clk.sfn, highSeq := 0, kept := [] }

/-- A session is open, and logged where it is the Owner's from the start. -/
def opened (s : State) (w : Requester) (x : Session) : State :=
  let z := s.setAop (fun a => { a with sessions := a.sessions ++ [x] })
  if s.uartOwner w x.keySlot then z.log 0x1001 (d32 x.id ++ d8 3 ++ d8 w.transport ++ d8 x.keySlot) else z

theorem opened_sessions (s : State) (w : Requester) (x : Session) :
    (opened s w x).aop.sessions = s.aop.sessions ++ [x] := by
  unfold opened
  dsimp only
  split
  · exact State.log_sessions ..
  · rfl

/-- Free values alone are read before a session opens. -/
theorem openSession_of_room {role slot : Nat} {nonce : List Byte} (hroom : s.aop.sessions.length < 32) :
    ∃ (z : State) (id : Nat) (engine : List Byte), Keep 0 s z ∧ s.openSession w role slot nonce =
      (opened z w (newSession z w role slot nonce id engine)).sendTo w (aopMsg 6 0 id w.sequence 0 engine) := by
  unfold State.openSession
  rw [if_neg (Nat.not_le.mpr hroom)]
  dsimp only
  have hfresh := State.freshNum_keep (Keep.refl 0 s) rfl 1 (2 ^ 32 - 1) (fun i => s.aop.sessions.any (fun x => x.id == i))
  generalize s.freshNum 1 (2 ^ 32 - 1) (fun i => s.aop.sessions.any (fun x => x.id == i)) = n at hfresh ⊢
  have hrandom := State.random_keep hfresh rfl 32
  generalize n.2.random 32 = r at hrandom ⊢
  refine ⟨r.2, n.1.getD 0, r.1, hrandom, ?_⟩
  rw [← hrandom.clk rfl]
  rfl

theorem uartOwner_of_keep {s z : State} (h : Keep 0 s z) (w : Requester) (slot : Nat) :
    z.uartOwner w slot = s.uartOwner w slot := by
  unfold State.uartOwner State.u
  simp only [State.i_congr (h.live rfl) (h.user rfl), slot_congr (h.grot rfl)]

/-- SESSION_OPEN. -/
theorem sessionOpen_opens (w : Requester) (role slot : BitVec 8) (nonce : BitVec 256) (s : State)
    (hroom : s.aop.sessions.length < 32) :
    ∃ (t : State) (x : Session), exec (.sessionOpen w role slot nonce) s = .next t ∧
      t.aop.sessions = s.aop.sessions ++ [x] ∧
      x.transport = w.transport ∧ x.source = w.source ∧ x.port = w.port ∧ x.requested = role.toNat ∧
      x.keySlot = slot.toNat ∧ x.hostNonce = be 32 nonce.toNat ∧ x.proved = s.uartOwner w slot.toNat ∧
      x.role = (if s.uartOwner w slot.toNat = true then 3 else 0) ∧
      Answers w (aopMsg 6 0 x.id w.sequence 0 x.engineNonce) t := by
  obtain ⟨z, id, engine, hkeep, hopen⟩ := openSession_of_room (w := w) (role := role.toNat) (slot := slot.toNat)
    (nonce := be 32 nonce.toNat) hroom
  refine ⟨_, newSession z w role.toNat slot.toNat (be 32 nonce.toNat) id engine, congrArg Host.Outcome.next hopen, ?_,
    rfl, rfl, rfl, rfl, rfl, rfl, uartOwner_of_keep hkeep w _, ?_, sendTo_answers ..⟩
  · exact (opened_sessions ..).trans (by rw [hkeep.aop rfl])
  · rw [← uartOwner_of_keep hkeep]
    rfl

/-- A response to a requester that names no session is kept in none. -/
theorem sendResponse_sessions_of_zero (m : List Byte) (h : w.session = 0) :
    (s.sendResponse w m).aop.sessions = s.aop.sessions := by
  show s.aop.sessions.map _ = s.aop.sessions
  simp [h]

/-- SESSION_OPEN of a thirty-third session. -/
theorem sessionOpen_refused (w : Requester) (role slot : BitVec 8) (nonce : BitVec 256) (s : State)
    (hfull : 32 ≤ s.aop.sessions.length) :
    ∃ t, exec (.sessionOpen w role slot nonce) s = .next t ∧ t.aop.sessions = s.aop.sessions ∧
      Answers w (aopMsg 6 0 0 w.sequence 0x0801 []) t := by
  refine ⟨_, congrArg Host.Outcome.next (if_pos hfull), ?_, List.mem_cons_self⟩
  unfold State.refuseSession
  rw [sendResponse_sessions_of_zero _ rfl, if_pos rfl, State.log_sessions]
  rfl

/-! ## Proofs (R507, R508) -/

/-- A session takes the role that it asked for. -/
def granted (s : State) (x : Session) : State :=
  s.setAop (fun a => { a with sessions := a.sessions.map (fun y =>
    if y.id = x.id then { y with proved := true, role := y.requested, last := s.clk.sfn } else y) })

theorem mem_granted_sessions {x y : Session} (h : y ∈ (granted s x).aop.sessions) (hid : y.id = x.id) :
    y.proved = true ∧ y.role = y.requested := by
  obtain ⟨z, -, rfl⟩ := List.mem_map.mp h
  split at hid
  next hz => rw [if_pos hz]; exact ⟨rfl, rfl⟩
  next hz => exact absurd hid hz

/-- A response that is kept leaves what a session is and may do. -/
theorem mem_sendResponse_sessions {m : List Byte} {y : Session} (h : y ∈ (s.sendResponse w m).aop.sessions) :
    ∃ x ∈ s.aop.sessions, y = { x with kept := y.kept } := by
  obtain ⟨x, hx, rfl⟩ := List.mem_map.mp h
  refine ⟨x, hx, ?_⟩
  split <;> rfl

theorem exec_proof_of_good {sig : List Byte} {x : Session} (hsession : s.badSession w = false)
    (hfind : s.session? w = some x) (hwake : (s.accessDom Dn.grt).1 = 0)
    (hproof : (s.accessDom Dn.grt).2.proofStatus x sig = 0) :
    exec (.proof w sig) s = .next (((granted (s.accessDom Dn.grt).2 x).log 0x1001 (d32 x.id ++ d8 x.requested ++
      d8 w.transport ++ d8 x.keySlot)).sendResponse w (aopMsg 6 0 w.session w.sequence 0 [])) := by
  show Host.Outcome.next (s.prove w sig) = _
  simp only [State.prove, hsession, hfind, hwake, hproof, ne_eq, not_true_eq_false, Bool.false_eq_true, if_false]
  rfl

/-- PROOF that verifies. -/
theorem proof_grants (w : Requester) (sig : List Byte) (x : Session) (s : State) (hsession : s.badSession w = false)
    (hfind : s.session? w = some x) (hwake : (s.accessDom Dn.grt).1 = 0)
    (hproof : (s.accessDom Dn.grt).2.proofStatus x sig = 0) (_hnamed : w.session ≠ 0) :
    ∃ t, exec (.proof w sig) s = .next t ∧ Answers w (aopMsg 6 0 w.session w.sequence 0 []) t ∧
      Logged s t 0x1001 (d32 x.id ++ d8 x.requested ++ d8 w.transport ++ d8 x.keySlot) ∧
      ∀ y ∈ t.aop.sessions, y.id = x.id → y.proved = true ∧ y.role = y.requested := by
  refine ⟨_, exec_proof_of_good hsession hfind hwake hproof, resp_out _ w _, ?_, fun y hy hid => ?_⟩
  · exact (Logged.log (granted (s.accessDom Dn.grt).2 x) _ _).since
      (State.setAop_keep (State.accessDom_keep (Keep.refl 89 s) rfl Dn.grt false) rfl _).nextSeq
  · obtain ⟨z, hz, hyz⟩ := mem_sendResponse_sessions hy
    rw [State.log_sessions] at hz
    rw [hyz] at hid ⊢
    exact mem_granted_sessions (y := z) hz hid

/-! ## Sessions that end (R507, R509) -/

theorem any_session_of_find {id : Nat} {x : Session} (h : s.aop.sessions.find? (fun x => x.id == id) = some x) :
    x.id = id ∧ s.aop.sessions.any (fun x => x.id == id) = true :=
  have hid := List.find?_some h
  ⟨beq_iff_eq.mp hid, List.any_eq_true.mpr ⟨x, List.mem_of_find?_eq_some h, hid⟩⟩

/-- CLOSE. -/
theorem close_ends (w : Requester) (s : State) (hsession : s.badSession w = false) (hnamed : w.session ≠ 0)
    (hopen : s.aop.sessions.any (fun x => x.id == w.session) = true) :
    ∃ t, exec (.close w) s = .next t ∧ t.aop.sessions = s.aop.sessions.filter (fun x => x.id != w.session) ∧
      (∀ b ∈ t.aop.subs, b.session ≠ w.session) ∧ Answers w (aopMsg 2 0 w.session w.sequence 0 []) t ∧
      Logged s t 0x1003 (d32 w.session ++ d8 0) := by
  obtain ⟨hleft, hsubs, hlog⟩ := closed s w.session 0 hopen
  exact ⟨_, congrArg Host.Outcome.next (if_neg (by simp [hsession, hnamed])), hleft, hsubs,
    sendTo_answers .., hlog⟩

/-- SESSION_IDLE. -/
theorem sessionIdle_ends (id : BitVec 32) (x : Session) (s : State)
    (hfind : s.aop.sessions.find? (fun x => x.id == id.toNat) = some x)
    (htime : x.last + s.u Obj.sessionIdle * sfPerSecond ≤ s.clk.sfn) :
    ∃ t, exec (.sessionIdle id) s = .next t ∧ t.aop.sessions = s.aop.sessions.filter (fun y => y.id != id.toNat) ∧
      (∀ b ∈ t.aop.subs, b.session ≠ id.toNat) ∧ Logged s t 0x1003 (d32 id.toNat ++ d8 1) := by
  obtain ⟨hid, hopen⟩ := any_session_of_find hfind
  refine ⟨s.closeSession id.toNat 1, ?_, closed s id.toNat 1 hopen⟩
  show execSessionIdle id s = _
  simp only [execSessionIdle, hfind, if_pos htime, hid]

/-- UNPROVED_SESSION_DISCARD. -/
theorem unprovedSessionDiscard_ends (id : BitVec 32) (x : Session) (s : State)
    (hfind : s.aop.sessions.find? (fun x => x.id == id.toNat) = some x) (hproved : x.proved = false)
    (htime : x.opened + 10 * sfPerSecond ≤ s.clk.sfn) :
    ∃ t status, exec (.unprovedSessionDiscard id) s = .next t ∧
      t.aop.sessions = s.aop.sessions.filter (fun y => y.id != id.toNat) ∧
      Logged s t 0x1002 (d8 x.transport ++ d8 x.keySlot ++ d16 status) := by
  obtain ⟨hid, -⟩ := any_session_of_find hfind
  have hexec : exec (.unprovedSessionDiscard id) s = .next (((s.endSession id.toNat).fresh 16).2.log 0x1002
      (d8 x.transport ++ d8 x.keySlot ++ d16 ((s.endSession id.toNat).fresh 16).1)) := by
    show execUnprovedSessionDiscard id s = _
    simp only [execUnprovedSessionDiscard, hfind, hproved, htime, hid, Bool.not_false, and_self, if_true]
  refine ⟨_, _, hexec, ?_, (Logged.log _ _ _).since (Nat.le_refl _)⟩
  rw [State.log_sessions]
  rfl

theorem sessionCloseEffect_ok {n : Nat} (h : s.aop.sessions.any (fun x => x.id == n) = true) :
    s.sessionCloseEffect n = ({}, s.closeSession n 5) :=
  if_pos h

/-- SESSION_CLOSE of an open session. -/
theorem sessionClose_ends (w : Requester) (v : Int) (n : Nat) (s s' : State)
    (h : Admitted s s' w 2 Obj.sessionClose 0 (.num v) (.num n))
    (hopen : s.aop.sessions.any (fun x => x.id == n) = true) :
    Accepts (.sessionClose w v) s w 2 Obj.sessionClose 0 (fun t =>
      t.aop.sessions = s.aop.sessions.filter (fun x => x.id != n) ∧ Logged s t 0x1003 (d32 n ++ d8 5)) := by
  have haop : s'.aop = s.aop := h.only.aop rfl
  have hopen' : s'.aop.sessions.any (fun x => x.id == n) = true := haop ▸ hopen
  obtain ⟨hleft, -, hlog⟩ := closed s' n 5 hopen'
  exact accepts_of_effect rfl h (sessionCloseEffect_ok hopen') (congrArg (·.1.code) (sessionCloseEffect_ok hopen))
    ⟨haop ▸ hleft, hlog.since h.only.nextSeq⟩

/-- A close leaves the sessions of other numbers, whether one of its number was open or not. -/
theorem closeSession_sessions (s : State) (id cause : Nat) :
    (s.closeSession id cause).aop.sessions = s.aop.sessions.filter (fun x => x.id != id) := by
  by_cases hopen : s.aop.sessions.any (fun x => x.id == id) = true
  · exact (closed s id cause hopen).1
  · unfold State.closeSession
    rw [if_neg hopen, eq_comm, List.filter_eq_self]
    intro x hx
    exact bne_iff_ne.mpr fun hid => hopen (List.any_eq_true.mpr ⟨x, hx, beq_iff_eq.mpr hid⟩)

theorem closeSession_aopPort (s : State) (id cause : Nat) :
    (s.closeSession id cause).u Obj.aopPort = s.u Obj.aopPort := by
  unfold State.closeSession
  split
  · exact State.u_log _ _ _ (by decide)
  · rfl

theorem foldl_closeSession_sessions (cause : Nat) (l : List Session) :
    ∀ z : State, (∀ x ∈ z.aop.sessions, ∃ y ∈ l, y.id = x.id) →
      (l.foldl (fun s x => s.closeSession x.id cause) z).aop.sessions = [] := by
  induction l with
  | nil => exact fun z h => List.eq_nil_iff_forall_not_mem.mpr fun x hx => by simpa using h x hx
  | cons a l ih =>
    intro z h
    refine ih _ fun x hx => ?_
    rw [closeSession_sessions] at hx
    obtain ⟨hx, hne⟩ := List.mem_filter.mp hx
    obtain ⟨y, hy, hid⟩ := h x hx
    rcases List.mem_cons.mp hy with rfl | hy
    · exact absurd hid.symm (bne_iff_ne.mp hne)
    · exact ⟨y, hy, hid⟩

theorem closeAll_sessions (s : State) (cause : Nat) : (s.closeAll cause).aop.sessions = [] :=
  foldl_closeSession_sessions cause _ s fun x hx => ⟨x, hx, rfl⟩

theorem closeAll_aopPort (s : State) (cause : Nat) : (s.closeAll cause).u Obj.aopPort = s.u Obj.aopPort :=
  foldl_same (fun s => s.u Obj.aopPort) (fun s (x : Session) => s.closeSession x.id cause)
    (fun s x => closeSession_aopPort s x.id cause) _ s

/-- AOP_PORT_WRITE of another port. -/
theorem aopPortWrite_ends (w : Requester) (v : Int) (n : Nat) (s s' : State)
    (h : Admitted s s' w 2 Obj.aopPort 0 (.num v) (.num n)) (hport : n ≠ s.u Obj.aopPort) :
    ∃ t, exec (.aopPortWrite w v) s = .next t ∧ t.u Obj.aopPort = n ∧ t.aop.sessions = [] := by
  have hstored : s.hostWrite w 2 Obj.aopPort 0 (.num v) (storeEffect Obj.aopPort 0) =
      (s'.put Obj.aopPort 0 n).accept w 2 0 Obj.aopPort 0 0 [] [] := State.hostWrite_done h _ rfl
  have hnow : ((s'.put Obj.aopPort 0 n).accept w 2 0 Obj.aopPort 0 0 [] []).u Obj.aopPort = n := by
    rw [State.accept_u, State.u_put_same, Int.toNat_natCast]
  refine ⟨_, congrArg (fun z : State => Host.Outcome.next (z.portChange (s.u Obj.aopPort))) hstored, ?_⟩
  unfold State.portChange
  rw [if_neg (fun hsame => hport (hnow.symm.trans hsame))]
  exact ⟨(closeAll_aopPort ..).trans hnow, closeAll_sessions ..⟩

end Sessions

/-- Settles O42: each command completes in the state that its rule above names; the causes of 1003h are log entry 7, the
status of 1002h log entry 1, that the operations of a message run as commands of their own log entry 24. -/
theorem sessionsServe : Obligations.SessionsServe :=
  ⟨aopMessage_dropped, aopMessage_queued, aopRead_answers, describe_answers, sessionOpen_opens, sessionOpen_refused,
    proof_grants, close_ends, sessionIdle_ends, unprovedSessionDiscard_ends, sessionClose_ends, aopPortWrite_ends⟩

end Sys2Proof.Proofs.Grotto
end

section
/-! The statements on Belvedere (11_belvedere_clock_and_time.md): the bandwidth of the frequency loop (R334), hold-off and
qualification of the inputs (R328), their table and forces (R329, R330), the PPS edges with the messages that number them
(R326, R340, R342), and the far end's advertisement (R348). The number of a `Keep` is the set of parts of the state that
may have changed, as Laws/Keep.lean writes it. -/

namespace Sys2Proof.Proofs.Belvedere

open Sys2Proof.Machine Sys2Proof.Claims Sys2Proof.Proofs.Superframe

section Belvedere

variable {s : State}

/-! ## The bandwidth of the frequency loop (R334) -/

/-- The record of a final value leaves the loop as it was set. -/
theorem freqLoop_setRung (s : State) (cls : Nat) (l : LoopSt) : (s.setRung cls l).bel.freqLoop = l := by
  unfold State.setRung
  dsimp only
  split
  · rw [State.log_bel]
    rfl
  · rfl

/-- LOOP_BANDWIDTH_STEP, due, with a rung below the present one. -/
theorem exec_loopBandwidthStep_due {t0 r : Nat} (hsince : s.bel.freqLoop.since = some t0)
    (hclass : loopClass (s.selected 0) ≠ 0) (hfin : s.bel.freqLoop.fin = false) (hmhz : s.bel.freqLoop.mhz ≠ 0)
    (hdue : t0 + ceilDiv 50000000 s.bel.freqLoop.mhz ≤ s.clk.sfn)
    (hrung : ladder.find? (fun r => decide (r < s.bel.freqLoop.mhz)) = some r) :
    exec .loopBandwidthStep s = .next (s.setRung (loopClass (s.selected 0))
      { mhz := r, fin := !s.aboveFinal (loopClass (s.selected 0)) r, since := none }) := by
  have hruns : ¬(loopClass (s.selected 0) = 0 ∨ s.bel.freqLoop.fin = true ∨ s.bel.freqLoop.mhz = 0 ∨
      s.clk.sfn < t0 + ceilDiv 50000000 s.bel.freqLoop.mhz) := by
    simp [hclass, hfin, hmhz, hdue]
  show execLoopBandwidthStep s = _
  simp only [execLoopBandwidthStep, hsince, if_neg hruns, hrung]
  cases s.aboveFinal (loopClass (s.selected 0)) r <;> rfl

/-- LOOP_BANDWIDTH_STEP. -/
theorem loopBandwidthStep_descends (t0 r : Nat) (s : State) (hsince : s.bel.freqLoop.since = some t0)
    (hclass : loopClass (s.selected 0) ≠ 0) (hfin : s.bel.freqLoop.fin = false) (hmhz : s.bel.freqLoop.mhz ≠ 0)
    (hdue : t0 + ceilDiv 50000000 s.bel.freqLoop.mhz ≤ s.clk.sfn)
    (hrung : ladder.find? (fun r => decide (r < s.bel.freqLoop.mhz)) = some r) :
    ∃ t, exec .loopBandwidthStep s = .next t ∧
      t.bel.freqLoop = { mhz := r, fin := !s.aboveFinal (loopClass (s.selected 0)) r, since := none } :=
  ⟨_, exec_loopBandwidthStep_due hsince hclass hfin hmhz hdue hrung, freqLoop_setRung ..⟩

/-! ## Hold-off and qualification (R328) -/

/-- What an input shows does not say what it is. -/
theorem input_showInput (s : State) (i j : Nat) : (s.showInput i).input j = s.input j :=
  State.input_congr (State.put_bel ..) j

/-- A role's hold-off is over. -/
def holdOffOver (s : State) (r : RoleSt) : Bool := r.st == 2 && decide (r.since + sfOfMs (s.u Obj.holdOff) ≤ s.clk.sfn)

/-- A role as the end of its hold-off leaves it. -/
def afterHoldOff (s : State) (causes role : Nat) (r : RoleSt) : RoleSt :=
  if holdOffOver s r then
    (if s.roleLost causes role then { r with st := 1, since := s.clk.sfn, failed := true }
      else { r with st := 4, since := s.clk.sfn })
  else r

/-- The roles of an input that fail at the end of their hold-off. -/
def rolesFailed (s : State) (i : Nat) : List Nat :=
  [0, 1].filter (fun r => holdOffOver s ((s.input i).role r) && s.roleLost (s.input i).causes r)

/-- Both roles of an input as the end of hold-off leaves them. -/
def heldOff (s : State) (i : Nat) : State :=
  s.setInput i (fun x => { x with
    freq := afterHoldOff s (s.input i).causes 0 x.freq
    time := afterHoldOff s (s.input i).causes 1 x.time })

/-- HOLD_OFF_END in the three ways it can go. -/
theorem exec_holdOffEnd (i : Fin 14) (s : State) :
    exec (.holdOffEnd i) s = .next (
      let failed := (rolesFailed s i).foldl (fun s r => s.failRole i r) (heldOff s i)
      if holdOffOver s (s.input i).freq ∨ holdOffOver s (s.input i).time then
        (if (rolesFailed s i).isEmpty then failed
          else failed.log 0x3004 (d8 i ++ d16 (s.input i).causes)).showInput i
      else s) := rfl

theorem holdOffOver_of {r : RoleSt} (hst : r.st = 2) (hdue : r.since + sfOfMs (s.u Obj.holdOff) ≤ s.clk.sfn) :
    holdOffOver s r = true := by
  simp [holdOffOver, hst, hdue]

theorem holdOffOver_of_st_ne {r : RoleSt} (hst : r.st ≠ 2) : holdOffOver s r = false := by
  simp [holdOffOver, hst]

/-- HOLD_OFF_END of a sound input. -/
theorem holdOffEnd_available (i : Fin 14) (s : State) (hi : i.val < s.bel.inputs.length) (hst : (s.input i).freq.st = 2)
    (htime : (s.input i).time.st ≠ 2) (hdue : (s.input i).freq.since + sfOfMs (s.u Obj.holdOff) ≤ s.clk.sfn)
    (hsound : s.roleLost (s.input i).causes 0 = false) :
    ∃ t, exec (.holdOffEnd i) s = .next t ∧ (t.input i).freq.st = 4 ∧ (t.input i).freq.since = s.clk.sfn := by
  have hover := holdOffOver_of hst hdue
  have hnone : rolesFailed s i = [] := by
    simp [rolesFailed, RefSt.role, hsound, holdOffOver_of_st_ne htime]
  have hexec : exec (.holdOffEnd i) s = .next ((heldOff s i).showInput i) := by
    simp only [exec_holdOffEnd, hover, hnone, true_or, if_true, List.isEmpty_nil, List.foldl_nil]
  refine ⟨_, hexec, ?_⟩
  rw [input_showInput, heldOff, State.input_setInput_same s _ hi]
  simp [afterHoldOff, hover, hsound]

/-- The roles that fail at the end of hold-off end their forces; no record is lost. -/
theorem failRoles_keep (s : State) (i : Nat) (l : List Nat) :
    Keep 65609 s (l.foldl (fun s r => s.failRole i r) (heldOff s i)) :=
  Keep.foldl (State.setInput_keep (Keep.refl _ s) rfl i _) (fun _ r h => State.failRole_keep h rfl i r) l

/-- HOLD_OFF_END of an input still bad. -/
theorem holdOffEnd_logs (i : Fin 14) (s : State) (hst : (s.input i).freq.st = 2)
    (hdue : (s.input i).freq.since + sfOfMs (s.u Obj.holdOff) ≤ s.clk.sfn)
    (hlost : s.roleLost (s.input i).causes 0 = true) :
    ∃ t, exec (.holdOffEnd i) s = .next t ∧ Logged s t 0x3004 (d8 i ++ d16 (s.input i).causes) := by
  have hover := holdOffOver_of hst hdue
  have hsome : (rolesFailed s i).isEmpty = false := by
    simp [rolesFailed, RefSt.role, hlost, hover]
  have hexec : exec (.holdOffEnd i) s = .next ((((rolesFailed s i).foldl (fun s r => s.failRole i r) (heldOff s i)).log
      0x3004 (d8 i ++ d16 (s.input i).causes)).showInput i) := by
    simp only [exec_holdOffEnd, hover, hsome, true_or, if_true, Bool.false_eq_true, if_false]
  refine ⟨_, hexec, ?_⟩
  exact ((Logged.log _ _ _).keep (State.showInput_keep (Keep.refl 1 _) rfl i) rfl).since
    (failRoles_keep s i (rolesFailed s i)).nextSeq

/-- A role has been clear for its qualification period. -/
def qualified (s : State) (r : RoleSt) : Bool :=
  r.st == 3 && decide (r.since + (if r.failed then s.u Obj.waitToRestore * 10000 else 100000) ≤ s.clk.sfn)

/-- A role as QUALIFICATION_END leaves it. -/
def afterQualification (s : State) (r : RoleSt) : RoleSt :=
  if qualified s r then { r with st := 4, since := s.clk.sfn } else r

/-- QUALIFICATION_END of a role that is due: both roles are brought up to date, whether or not 3005h is logged. -/
theorem exec_qualificationEnd_due {i : Fin 14} (hdue : qualified s (s.input i).freq = true) :
    ∃ t, exec (.qualificationEnd i) s = .next t ∧ t.bel = (s.setInput i (fun x => { x with
      freq := afterQualification s x.freq, time := afterQualification s x.time })).bel := by
  refine ⟨_, congrArg Host.Outcome.next (if_pos (.inl hdue)), ?_⟩
  dsimp only
  split
  · exact (State.log_bel ..).trans (State.put_bel ..)
  · exact State.put_bel ..

/-- QUALIFICATION_END. -/
theorem qualificationEnd_available (i : Fin 14) (s : State) (hi : i.val < s.bel.inputs.length)
    (hst : (s.input i).freq.st = 3) (hdue : (s.input i).freq.since +
      (if (s.input i).freq.failed = true then s.u Obj.waitToRestore * 10000 else 100000) ≤ s.clk.sfn) :
    ∃ t, exec (.qualificationEnd i) s = .next t ∧ (t.input i).freq.st = 4 ∧ (t.input i).freq.since = s.clk.sfn := by
  have hqualified : qualified s (s.input i).freq = true := by simp [qualified, hst, hdue]
  obtain ⟨t, hexec, hbel⟩ := exec_qualificationEnd_due hqualified
  refine ⟨t, hexec, ?_⟩
  rw [State.input_congr hbel, State.input_setInput_same s _ hi]
  simp [afterQualification, hqualified]

/-! ## The table and the forces (R329, R330) -/

/-- REF_TABLE_WRITE. -/
theorem refTableWrite_stores (w : Requester) (m v : Nat) (n : Int) (s s' : State)
    (h : Admitted s s' w 2 Obj.refTable m (.num v) (.num n)) :
    Accepts (.refTableWrite w m v) s w 2 Obj.refTable m (fun x => x = s'.put Obj.refTable m n) :=
  accepts_of_effect rfl h rfl rfl rfl

/-- No log record changes `ForceRef`. -/
theorem logKey_forceRef {m : Nat} (hm : m < 2) : logKey (okey Obj.forceRef m) = false := by
  have hroles : ∀ role : Fin 2, logKey (okey Obj.forceRef role.val) = false := by decide
  exact hroles ⟨m, hm⟩

/-- FORCE_REF_WRITE. -/
theorem forceRefWrite_logs (w : Requester) (m v n : Nat) (s s' : State)
    (h : Admitted s s' w 2 Obj.forceRef m (.num v) (.num n)) (hm : m < 2) :
    Accepts (.forceRefWrite w m v) s w 2 Obj.forceRef m (fun x => x.u Obj.forceRef m = n ∧
      Logged s x 0x300E (d8 m ++ d8 n)) := by
  refine accepts_of_effect (eff := fun x s => s.forceRefEffect m x.nat) rfl h rfl rfl ⟨?_, ?_⟩
  · rw [State.u_log _ _ _ (logKey_forceRef hm), State.u_put_same]
    exact Int.toNat_natCast n
  · exact (Logged.log _ _ _).since (State.put_keep (h.only.mono (N := 17) rfl) rfl _ _ _).nextSeq

/-! ## PPS edges and their messages (R326, R340, R342) -/

theorem ppsIn_congr {s t : State} (h : t.bel = s.bel) (x : Nat) : t.ppsIn x = s.ppsIn x := by
  unfold State.ppsIn
  rw [h]

/-- The phase of an input is not the number of the one selected. -/
theorem selected_put_inputPhase (s : State) {i : Nat} (v : Int) (hi : i < 256) :
    (s.put Obj.inputPhase i v).selected 0 = s.selected 0 :=
  State.u_put_other s v (okey_ne (by omega) hi (.inl (by decide)))

/-- PPS_EDGE of an input that the frequency loop does not follow, with its second announced. -/
theorem exec_ppsEdge_announced {x : Fin 2} {sec t0 : Nat} (off err : Int) (htod : (s.ppsIn x).tod = some (sec, t0))
    (hsel : s.selected 0 ≠ 5 + x.val) :
    ∃ t p, exec (.ppsEdge x off err) s = .next t ∧ t.bel = { s.bel with pps := setNth s.bel.pps x p } ∧
      p.edge = some s.clk.sfn ∧ p.tod = none ∧ p.prev = some sec ∧
      p.jumps = (if 200000 < err.natAbs then (s.ppsIn x).jumps + 1 else 0) := by
  show ∃ t p, execPpsEdge x off err s = .next t ∧ _
  unfold execPpsEdge
  simp only [htod]
  refine ⟨_, _, congrArg Host.Outcome.next (if_neg fun h => hsel ?_),
    (State.put_bel ..).trans ((State.occur_bel ..).trans rfl), rfl, rfl, rfl, rfl⟩
  rw [← h.1, selected_put_inputPhase _ _ (by omega)]
  rfl

/-- PPS_EDGE. -/
theorem ppsEdge_numbers (x : Fin 2) (off err : Int) (sec t0 : Nat) (s : State) (hx : x.val < s.bel.pps.length)
    (htod : (s.ppsIn x).tod = some (sec, t0)) (hsel : s.selected 0 ≠ 5 + x.val) :
    ∃ t, exec (.ppsEdge x off err) s = .next t ∧ (t.ppsIn x).edge = some s.clk.sfn ∧ (t.ppsIn x).tod = none ∧
      (t.ppsIn x).prev = some sec ∧ (t.ppsIn x).jumps = (if 200000 < err.natAbs then (s.ppsIn x).jumps + 1 else 0) := by
  obtain ⟨t, p, hexec, hbel, hp⟩ := exec_ppsEdge_announced off err htod hsel
  have hpps : t.ppsIn x = p := by
    unfold State.ppsIn
    rw [hbel]
    exact Sys2Proof.Proofs.Grotto.nth_setNth_same _ _ _ hx
  exact ⟨t, hexec, hpps.symm ▸ hp⟩

/-- TOD_MESSAGE that is sound and in time. -/
theorem todMessage_announces (x : Fin 2) (m : TodIn) (e : Nat) (s : State) (hx : x.val < s.bel.pps.length)
    (hedge : (s.ppsIn x).edge = some e) (hearly : e + 1000 ≤ s.clk.sfn) (hlate : s.clk.sfn ≤ e + 9000)
    (hsound : todReason m.octets = 0) :
    ∃ t, exec (.todMessage x m) s = .next t ∧ (t.ppsIn x).tod = some (ofBe (slice m.octets 2 6), s.clk.sfn) := by
  have hannounced : ((s.setBel (fun b => { b with pps := modNth b.pps x (fun p =>
      { p with tod := some (ofBe (slice m.octets 2 6), s.clk.sfn) }) })).ppsIn x).tod =
      some (ofBe (slice m.octets 2 6), s.clk.sfn) :=
    congrArg PpsSt.tod (nth_modNth_same s.bel.pps _ PpsSt.init hx)
  show ∃ t, execTodMessage x m s = .next t ∧ _
  simp only [execTodMessage, hsound, hedge, hearly, hlate, decide_true, Bool.and_self, ne_eq, not_true_eq_false, if_true,
    if_false]
  refine ⟨_, rfl, ?_⟩
  split
  · exact hannounced
  · rw [ppsIn_congr (State.put_bel ..)]
    exact hannounced

/-- TOD_MESSAGE that is not sound. -/
theorem todMessage_dropped (x : Fin 2) (m : TodIn) (s : State) (hbad : todReason m.octets ≠ 0) :
    ∃ t, exec (.todMessage x m) s = .next t ∧ t.bel = s.bel := by
  show ∃ t, execTodMessage x m s = .next t ∧ _
  simp only [execTodMessage, if_pos hbad]
  exact ⟨_, rfl, State.logLimited_bel ..⟩

/-! ## The far end's advertisement (R348) -/

theorem line_congr {s t : State} (h : t.bel = s.bel) (c : Carrier) : t.line c = s.line c := by
  unfold State.line
  rw [h]

theorem line_setLine_same (s : State) (c : Carrier) (f : LineTime → LineTime) : (s.setLine c f).line c = f (s.line c) :=
  Pair.get_upd_same s.bel.lines c f

/-- The request for the far end's next advertisement has gone out. -/
def advertAsked (s : State) (c : Carrier) : State :=
  (s.fresh 32).2.sendMoc c 1 (aopMsg 1 1 0 (s.fresh 32).1 0 (opMsg 1 0 (on c Obj.lineAdvert) 0 0 0 [] []))

theorem advertAsked_keep (s : State) (c : Carrier) : Keep 128 s (advertAsked s c) :=
  State.sendMoc_keep (State.fresh_keep (Keep.refl _ s) rfl 32) rfl c 1 _

/-- ADVERT_READ in its two ways. -/
theorem exec_advertRead (c : Carrier) (status : Nat) (row : List Byte) (s : State) :
    exec (.advertRead c status row) s = .next (
      if status = 0 ∧ row.length = advertOctets then
        (((advertAsked s c).putO (on c Obj.farAdvert) 0 row).put Obj.inputQl (7 + c.toNat) (ofBe (row.take 1))).setLine c
          (fun l => { l with advFails := 0 })
      else ((advertAsked s c).setLine c (fun l => { l with advFails := l.advFails + 1 })).logC c 0x300F
        (d8 c.inst ++ d16 status)) := rfl

/-- ADVERT_READ that succeeds. -/
theorem advertRead_shows (c : Carrier) (row : List Byte) (s : State) (hrow : row.length = 23) :
    ∃ t, exec (.advertRead c 0 row) s = .next t ∧ t.o (on c Obj.farAdvert) = row ∧ (t.line c).advFails = 0 ∧
      t.u Obj.inputQl (7 + c.toNat) = ofBe (row.take 1) := by
  refine ⟨_, (exec_advertRead c 0 row s).trans (congrArg _ (if_pos ⟨rfl, hrow⟩)), ?_, ?_, ?_⟩
  · rw [State.setLine_o, State.o_put, State.o_putO_same]
  · rw [line_setLine_same]
  · rw [State.setLine_u, State.u_put_same, Int.toNat_natCast]

/-- ADVERT_READ that fails. -/
theorem advertRead_fails (c : Carrier) (status : Nat) (row : List Byte) (s : State) (hstatus : status ≠ 0) :
    ∃ t, exec (.advertRead c status row) s = .next t ∧ (t.line c).advFails = (s.line c).advFails + 1 ∧
      Logged s t 0x300F (d8 c.inst ++ d16 status) := by
  refine ⟨_, (exec_advertRead c status row s).trans (congrArg _ (if_neg fun h => hstatus h.1)), ?_, ?_⟩
  · rw [line_congr (State.logC_bel ..), line_setLine_same, line_congr ((advertAsked_keep s c).bel rfl)]
  · exact (Logged.logC _ _ _ _).since (State.setLine_keep ((advertAsked_keep s c).mono (N := 65664) rfl) rfl c _).nextSeq

end Belvedere

/-- Settles O38: each command completes in the state that its rule above names; the octets of 3004h, 300Eh and 300Fh are
log entry 7, when the table and a step of the loop take effect is log entry 60. -/
theorem belvedereRuns : Obligations.BelvedereRuns :=
  ⟨loopBandwidthStep_descends, holdOffEnd_available, holdOffEnd_logs, qualificationEnd_available, refTableWrite_stores,
    forceRefWrite_logs, ppsEdge_numbers, todMessage_announces, todMessage_dropped, advertRead_shows, advertRead_fails⟩

end Sys2Proof.Proofs.Belvedere
end

section
/-! The statements on the Keeper and the avenues (12_avenues_and_keeper.md) with the group bus that carries its frames
(20_domain_assembly.md): windows and frames (R541, R543, R544, R546, R547), the orders of the links (R372, R373), who is
Keeper (R544, R545), who is a member (R546, R547), and how the avenues of a link switch (R354, R363 to R365, R373 to R375,
R378, R397). The number of a `Keep` is the set of parts of the state that may have changed, as Laws/Keep.lean writes it. -/

namespace Sys2Proof.Proofs.Avenues

open Sys2Proof.Machine Sys2Proof.Claims Sys2Proof.Proofs.Superframe

section GroupBus

open Sys2Proof.Laws.OfGroup

variable {s : State}

/-! ## The state of the group under its operations (R538, R546) -/

theorem member_congr {t : State} (h : t.grp.members = s.grp.members) (k : Nat) : t.member k = s.member k := by
  unfold State.member
  rw [h]

theorem member_setMember_same (s : State) {k : Nat} (f : Member → Member) (hk : k < s.grp.members.length) :
    (s.setMember k f).member k = f (s.member k) :=
  nth_modNth_same s.grp.members f Member.init hk

theorem busState_setBus (s : State) (n : Nat) : (s.setBus n).u Obj.groupBusState = n := by
  unfold State.setBus
  rw [State.u_put_other _ _ (by decide), State.u_put_same, Int.toNat_natCast]

theorem validMask_setBus (s : State) (n : Nat) : (s.setBus n).validMask = s.validMask := by
  unfold State.setBus State.validMask
  rw [State.u_put_other _ _ (by decide), State.u_put_other _ _ (by decide)]

theorem address_setValid (s : State) (k : Nat) (v : Bool) : (s.setValid k v).address = s.address :=
  State.u_put_other _ _ (by decide)

theorem address_log (s : State) (code : Nat) (data : List Byte) : (s.log code data).address = s.address :=
  State.u_log _ _ _ (by decide)

theorem address_setDeputy (s : State) : s.setDeputy.address = s.address :=
  setDeputy_u s (by decide) (by decide) (by decide)

theorem admits_setDeputy (s : State) : s.setDeputy.grp.admits = s.grp.admits := by
  unfold State.setDeputy
  split
  · rw [setKeepers_grp]
  · rfl

/-! ## Windows (R541, R544, R547) -/

theorem slotNo_lt (s : State) : s.slotNo < 32 := Nat.mod_lt _ (by decide)

/-- The windows of an engine that has not left and knows them are open. -/
theorem window_open (hsilent : s.grp.silent = false) (htimed : s.timed = true) :
    ¬(s.grp.silent = true ∨ (!s.timed) = true) := by
  simp [hsilent, htimed]

/-- GROUP_WINDOW of an engine that has left or does not know the windows. -/
theorem groupWindow_silent (n : Fin 40) (collision : Bool) (s : State) (h : s.grp.silent = true ∨ s.timed = false) :
    exec (.groupWindow n collision) s = .next s :=
  congrArg Host.Outcome.next (if_pos (by simpa using h))

/-- A beacon goes out under the own address, and four joins are admitted. -/
theorem sendBeacon_sends (s : State) : s.sendBeacon.grp.admits = s.grp.admits.drop 4 ∧
    ∃ cycle body, .group 32 (groupFrame 1 s.address cycle body) ∈ s.sendBeacon.out := by
  unfold State.sendBeacon
  extract_lets now admitted dropped deputed next n handed
  have hadmits : admitted.grp.admits = s.grp.admits :=
    foldl_same (fun s => s.grp.admits) _ (fun _ _ => by rw [State.log_grp]; rfl) now s
  have haddress : admitted.address = s.address :=
    foldl_same State.address _ (fun _ _ => by rw [address_log, address_setValid]; rfl) now s
  have hdeputed : deputed.grp.admits = s.grp.admits.drop 4 ∧ deputed.address = s.address :=
    ⟨(admits_setDeputy dropped).trans (congrArg (List.drop 4) hadmits), (address_setDeputy dropped).trans haddress⟩
  have hhanded : handed.grp.admits = s.grp.admits.drop 4 ∧ handed.address = s.address := by
    unfold handed
    split
    · exact hdeputed
    · exact hdeputed
  rw [← hhanded.2]
  exact ⟨hhanded.1, _, _, List.mem_cons_self⟩

/-- GROUP_WINDOW 32 of the Keeper. -/
theorem groupWindow_beacon (s : State) (hsilent : s.grp.silent = false) (hkeeper : s.isKeeper = true) :
    ∃ t cycle body, exec (.groupWindow 32 false) s = .next t ∧ t.grp.admits = s.grp.admits.drop 4 ∧
      .group 32 (groupFrame 1 s.address cycle body) ∈ t.out := by
  have hexec : exec (.groupWindow 32 false) s = .next s.sendBeacon := by
    show execGroupWindow 32 false s = _
    unfold execGroupWindow
    simp only [if_neg (window_open hsilent (keeper_timed s hkeeper)), hkeeper]
    rfl
  obtain ⟨hadmits, cycle, body, hout⟩ := sendBeacon_sends s
  exact ⟨_, cycle, body, hexec, hadmits, hout⟩

/-- The own window of a member. -/
theorem exec_groupWindow_own {n : Fin 40} {collision : Bool} (hsilent : s.grp.silent = false) (hn : n.val = s.slotNo)
    (hmember : s.isMember = true) (htimed : s.timed = true) :
    exec (.groupWindow n collision) s = .next s.sendOwn := by
  have hlt := slotNo_lt s
  show execGroupWindow n collision s = _
  unfold execGroupWindow
  simp only [if_neg (window_open hsilent htimed), hn, hmember, if_neg (show s.slotNo ≠ 32 by omega),
    if_neg (show s.slotNo ≠ 33 by omega), if_neg (show s.slotNo ≠ 34 by omega), if_true]

/-- GROUP_WINDOW of a member that stays. -/
theorem groupWindow_status (n : Fin 40) (collision : Bool) (s : State) (hsilent : s.grp.silent = false)
    (hn : n.val = s.slotNo) (hmember : s.isMember = true) (hleaving : s.grp.leaving = 0) (htimed : s.timed = true) :
    exec (.groupWindow n collision) s =
      .next (s.emit (.group s.slotNo (groupFrame 2 s.address s.cycle s.statusBody))) :=
  (exec_groupWindow_own hsilent hn hmember htimed).trans (congrArg Host.Outcome.next (if_pos hleaving))

/-- A Leave frame has gone out in the own window. -/
def leaveSent (s : State) : State :=
  (s.sendGroup s.slotNo 5 (fit 16 (s.o Obj.deviceSerial))).setGrp (fun g => { g with leaving := g.leaving - 1 })

/-- With the last of its Leave frames an engine is silent. -/
def silenced (s : State) : State :=
  ((s.setGrp (fun g => { g with silent := true })).setBus 0).setKeepers s.grp.keeper s.grp.deputy

theorem sendOwn_leaving (h : 1 ≤ s.grp.leaving) :
    s.sendOwn = if (leaveSent s).grp.leaving = 0 then silenced (leaveSent s) else leaveSent s :=
  if_neg (Nat.ne_of_gt h)

theorem silenced_grp (s : State) : (silenced s).grp = { s.grp with silent := true } :=
  setKeepers_grp ..

theorem silenced_keep (s : State) : Keep 2097225 s (silenced s) :=
  State.setKeepers_keep (State.setBus_keep (State.setGrp_keep (Keep.refl _ s) rfl _) rfl 0) rfl _ _

theorem silenced_busState (s : State) : (silenced s).u Obj.groupBusState = 0 :=
  (setKeepers_u _ _ _ (by decide) (by decide) (by decide)).trans (busState_setBus _ 0)

/-- GROUP_WINDOW of a member that leaves. -/
theorem groupWindow_leave (n : Fin 40) (collision : Bool) (s : State) (hsilent : s.grp.silent = false)
    (hn : n.val = s.slotNo) (hmember : s.isMember = true) (hleaving : 1 ≤ s.grp.leaving) (htimed : s.timed = true) :
    ∃ t, exec (.groupWindow n collision) s = .next t ∧ t.grp.leaving = s.grp.leaving - 1 ∧
      .group s.slotNo (groupFrame 5 s.address s.cycle (fit 16 (s.o Obj.deviceSerial))) ∈ t.out ∧
      (s.grp.leaving = 1 → t.grp.silent = true ∧ t.u Obj.groupBusState = 0) := by
  have hout : .group s.slotNo (groupFrame 5 s.address s.cycle (fit 16 (s.o Obj.deviceSerial))) ∈ (leaveSent s).out :=
    List.mem_cons_self
  refine ⟨_, exec_groupWindow_own hsilent hn hmember htimed, ?_⟩
  rw [sendOwn_leaving hleaving]
  split
  next =>
    rw [silenced_grp]
    exact ⟨rfl, (silenced_keep _).out.subset hout, fun _ => ⟨rfl, silenced_busState _⟩⟩
  next hmore => exact ⟨rfl, hout, fun hlast => absurd (congrArg (· - 1) hlast) hmore⟩

/-- GROUP_WINDOW 33 of the Keeper. -/
theorem groupWindow_orders (collision : Bool) (s : State) (hsilent : s.grp.silent = false) (hkeeper : s.isKeeper = true) :
    ∃ t, exec (.groupWindow 33 collision) s = .next t ∧
      .group 33 (groupFrame 3 s.address s.cycle (ordersBody ((sendOrder s.grp.orders).take 11))) ∈ t.out := by
  have hexec : exec (.groupWindow 33 collision) s = .next s.sendOrders :=
    congrArg Host.Outcome.next (if_neg (window_open hsilent (keeper_timed s hkeeper)))
  refine ⟨_, hexec, ?_⟩
  unfold State.sendOrders
  rw [if_pos hkeeper]
  exact List.mem_cons_self

/-- GROUP_WINDOW of an engine that joins. -/
theorem groupWindow_join (n : Fin 40) (collision : Bool) (s : State) (hsilent : s.grp.silent = false) (hn : 36 ≤ n.val)
    (hwindow : s.joinWindow n = true) (hbus : s.u Obj.groupBusState = 1) (htimed : s.timed = true) :
    ∃ t, exec (.groupWindow n collision) s = .next t ∧
      .group n (groupFrame 4 s.address s.cycle s.joinBody) ∈ t.out := by
  have hlt := slotNo_lt s
  have hexec : exec (.groupWindow n collision) s =
      .next ((s.sendGroup n 4 s.joinBody).setGrp (fun g => { g with joinDue := false })) := by
    show execGroupWindow n collision s = _
    unfold execGroupWindow
    simp only [if_neg (window_open hsilent htimed), hwindow, hbus, if_neg (show n.val ≠ 32 by omega),
      if_neg (show n.val ≠ 33 by omega), if_neg (show n.val ≠ 34 by omega), if_neg (show n.val ≠ s.slotNo by omega),
      true_or, and_self, if_true]
  exact ⟨_, hexec, List.mem_cons_self⟩

/-! ## Beacons and member status (R543, R544, R546) -/

/-- BEACON. -/
theorem beacon_taken (f : GroupFrame) (s : State) (hcrc : f.crcOk = true) (hown : s.ownGroup f.source.toNat = true)
    (hbody : 94 ≤ f.body.length) (hother : f.source.toNat ≠ s.address) (hstands : s.beaconStands f.source.toNat = true)
    (hsilent : s.grp.silent = false) :
    ∃ t, exec (.beacon f) s = .next t ∧ t.grp.keeper = ofBe (slice f.body 10 2) ∧
      t.grp.deputy = ofBe (slice f.body 12 2) ∧ t.u Obj.groupValidMask = ofBe (slice f.body 14 4) ∧
      t.grp.dup = ofBe (slice f.body 18 4) ∧ t.grp.base = some (f.cycle.toNat, s.clk.sfn) ∧ t.grp.listening = none ∧
      t.grp.handover = (if ofBe (slice f.body 22 2) = 0 then none
        else some (ofBe (slice f.body 22 2), ofBe (slice f.body 24 1) % 32)) := by
  show ∃ t, execBeacon f s = .next t ∧ _
  unfold execBeacon
  rw [takeOk s f 94 hcrc hown hbody hother]
  extract_lets _ _ b a mirrored hc valid dup admitted timed masked st marked judged
  rw [if_neg (show ¬((!true) = true ∨ (!s.beaconStands a) = true ∨ s.grp.silent = true) by simp [a, hstands, hsilent])]
  have hmask : masked.validMask = valid := (State.u_put_same ..).trans (Int.toNat_natCast _)
  have hjudged : judged.validMask = valid ∧ ∃ at_ due, judged.grp = { masked.grp with dupAt := at_, joinDue := due } := by
    unfold judged
    split
    · split
      · exact ⟨hmask, _, _, rfl⟩
      · refine ⟨(State.u_log _ _ _ (by decide)).trans ((validMask_setBus _ 3).trans hmask), s.clk.sfn, false, ?_⟩
        exact State.log_grp ..
    · split
      · exact ⟨(validMask_setBus _ 2).trans hmask, _, _, rfl⟩
      · split
        · exact ⟨hmask, _, _, rfl⟩
        · exact ⟨(validMask_setBus _ 1).trans hmask, _, _, rfl⟩
  obtain ⟨hvalid, at_, due, hgrp⟩ := hjudged
  refine ⟨_, rfl, ?_⟩
  rw [heard_grp, heard_u, setKeepers_grp, setKeepers_u _ _ _ (by decide) (by decide) (by decide), hgrp]
  exact ⟨rfl, rfl, hvalid, rfl, rfl, rfl, rfl⟩

theorem hearOrder_members (s : State) (b : List Byte) (carried : Bool) :
    (s.hearOrder b carried).grp.members = s.grp.members := by
  rw [hear_members]
  rfl

/-- MEMBER_STATUS. -/
theorem memberStatus_taken (f : GroupFrame) (s : State) (hcrc : f.crcOk = true)
    (hown : s.ownGroup f.source.toNat = true) (hbody : 60 ≤ f.body.length) (hother : f.source.toNat ≠ s.address)
    (hslot : f.source.toNat % 32 < s.grp.members.length) :
    ∃ t, exec (.memberStatus f) s = .next t ∧ (t.member (f.source.toNat % 32)).serial = slice f.body 0 16 ∧
      (t.member (f.source.toNat % 32)).boot = ofBe (slice f.body 16 1) ∧
      (t.member (f.source.toNat % 32)).flags = ofBe (slice f.body 17 1) ∧
      (t.member (f.source.toNat % 32)).own = slice f.body 20 16 ∧
      (t.member (f.source.toNat % 32)).far = slice f.body 36 16 ∧
      (t.member (f.source.toNat % 32)).heard = some s.clk.sfn := by
  show ∃ t, execMemberStatus f s = .next t ∧ _
  unfold execMemberStatus
  rw [takeOk s f 60 hcrc hown hbody hother]
  extract_lets _ _ b a n own far flags differ shown ran ordered
  have hmembers : (ordered.keeperHeard a).grp.members = shown.grp.members := by
    rw [heard_grp]
    unfold ordered
    split
    · exact hearOrder_members ..
    · rfl
  refine ⟨_, congrArg Host.Outcome.next (if_neg Bool.false_ne_true), ?_⟩
  rw [member_congr hmembers, member_setMember_same s _ hslot]
  exact ⟨rfl, rfl, rfl, rfl, rfl, rfl⟩

/-! ## Orders (R373) -/

/-- An order stands among those in force, as one that the Keeper has carried if it must be. -/
def Stands (b : List Byte) (carried : Bool) (s : State) : Prop :=
  ∃ o ∈ s.grp.orders, o.octets = b ∧ (carried = true → o.carried = true)

theorem storeOrder_stands (s : State) (b : List Byte) (carried : Bool) : Stands b carried (s.storeOrder b carried) := by
  refine ⟨_, List.mem_append_right _ List.mem_cons_self, rfl, fun h => ?_⟩
  rw [h]
  rfl

/-- An order of another link leaves an order standing. -/
theorem Stands.storeOrder_other {b x : List Byte} {carried : Bool} (h : Stands b carried s)
    (hlink : slice x 2 2 ≠ slice b 2 2) (k : Bool) : Stands b carried (s.storeOrder x k) := by
  obtain ⟨o, ho, rfl, hcarried⟩ := h
  exact ⟨o, List.mem_append_left _ (List.mem_filter.mpr ⟨ho, by simpa using hlink.symm⟩), rfl, hcarried⟩

theorem stands_hearOrder {b x : List Byte} {carried k : Bool} :
    Stands b carried (s.hearOrder x k) ↔ Stands b carried (s.storeOrder x k) := by
  unfold Stands
  rw [hear_members]

/-- The orders of other links leave an order standing. -/
theorem Stands.foldl_hearOrder {b : List Byte} {carried : Bool} {k : State → Bool} {l : List (List Byte)}
    (hl : ∀ x ∈ l, slice x 2 2 ≠ slice b 2 2) (h : Stands b carried s) :
    Stands b carried (l.foldl (fun s x => s.hearOrder x (k s)) s) := by
  induction l generalizing s with
  | nil => exact h
  | cons x l ih =>
    exact ih (fun y hy => hl y (List.mem_cons_of_mem _ hy))
      (stands_hearOrder.mpr (h.storeOrder_other (hl x List.mem_cons_self) (k s)))

theorem hearOrder_keeper (s : State) (b : List Byte) (carried : Bool) :
    (s.hearOrder b carried).grp.keeper = s.grp.keeper := by
  rw [hear_members]
  rfl

/-- Whether the frame of orders comes from the Keeper as now known. -/
def fromKeeper (f : GroupFrame) (s : State) : Bool := f.source.toNat == s.grp.keeper

theorem exec_orders_taken {f : GroupFrame} (hcrc : f.crcOk = true) (hown : s.ownGroup f.source.toNat = true)
    (hbody : 4 ≤ f.body.length) (hother : f.source.toNat ≠ s.address) :
    exec (.orders f) s = .next (((((List.range (min 11 (ofBe (slice f.body 0 1)))).map
      (fun i => slice f.body (4 + 8 * i) 8)).filter (fun b => b.length == 8)).foldl
        (fun s b => s.hearOrder b (fromKeeper f s)) s).keeperHeard f.source.toNat) := by
  show execOrders f s = _
  unfold execOrders
  rw [takeOk s f 4 hcrc hown hbody hother]
  rfl

/-- ORDERS. -/
theorem orders_taken (f : GroupFrame) (l1 l2 : List (List Byte)) (b : List Byte) (s : State) (hcrc : f.crcOk = true)
    (hown : s.ownGroup f.source.toNat = true) (hbody : 4 ≤ f.body.length) (hother : f.source.toNat ≠ s.address)
    (hl : ((List.range (min 11 (ofBe (slice f.body 0 1)))).map (fun i => slice f.body (4 + 8 * i) 8)).filter
      (fun b => b.length == 8) = l1 ++ b :: l2)
    (hnewest : ∀ x ∈ l2, slice x 2 2 ≠ slice b 2 2) :
    ∃ t, exec (.orders f) s = .next t ∧ ∃ o ∈ t.grp.orders, o.octets = b ∧
      (f.source.toNat = s.grp.keeper → o.carried = true) := by
  refine ⟨_, exec_orders_taken hcrc hown hbody hother, ?_⟩
  rw [heard_grp, hl, List.foldl_append, List.foldl_cons]
  have hkeeper : (l1.foldl (fun s b => s.hearOrder b (fromKeeper f s)) s).grp.keeper = s.grp.keeper :=
    foldl_same (fun s => s.grp.keeper) _ (fun s b => hearOrder_keeper s b (fromKeeper f s)) l1 s
  generalize l1.foldl (fun s b => s.hearOrder b (fromKeeper f s)) s = z at hkeeper
  obtain ⟨o, ho, hoctets, hcarried⟩ := Stands.foldl_hearOrder (k := fromKeeper f) hnewest
    (stands_hearOrder.mpr (storeOrder_stands z b (fromKeeper f z)))
  exact ⟨o, ho, hoctets, fun h => hcarried (beq_iff_eq.mpr (h.trans hkeeper.symm))⟩

end GroupBus

/-- Settles O47: each command completes in the state that its rule above names; that an engine does not know the windows
once 50 cycles have passed since the last beacon, and sends nothing then, is log entry 87. -/
theorem groupBusTalks : Obligations.GroupBusTalks :=
  ⟨groupWindow_silent, groupWindow_beacon, groupWindow_status, groupWindow_leave, groupWindow_orders, groupWindow_join,
    beacon_taken, memberStatus_taken, orders_taken⟩

section Keepers

open Sys2Proof.Laws.OfGroup

variable {s : State}

/-! ## Joining (R546) -/

/-- A live member of another serial holds the slot. -/
def slotHeld (s : State) (k : Nat) (serial : List Byte) : Bool :=
  bit s.validMask k && (s.member k).serial != serial &&
    (match (s.member k).heard with
      | some t => decide (s.clk.sfn < t + fiftyCycles)
      | none => false)

theorem slotHeld_of_live {k t0 : Nat} {serial : List Byte} (hvalid : bit s.validMask k = true)
    (hserial : (s.member k).serial ≠ serial) (hheard : (s.member k).heard = some t0) (hlive : s.clk.sfn < t0 + fiftyCycles) :
    slotHeld s k serial = true := by
  simp [slotHeld, hvalid, hserial, hheard, hlive]

theorem slotHeld_of_free {k : Nat} {serial : List Byte} (h : bit s.validMask k = false ∨ (s.member k).serial = serial ∨
      ∀ t0, (s.member k).heard = some t0 → t0 + fiftyCycles ≤ s.clk.sfn) : slotHeld s k serial = false := by
  unfold slotHeld
  rcases h with hfree | rfl | hsilent
  · rw [hfree, Bool.false_and, Bool.false_and]
  · rw [bne_self_eq_false, Bool.and_false, Bool.false_and]
  · cases hheard : (s.member k).heard with
    | none => exact Bool.and_false _
    | some t0 => simp [Nat.not_lt.mpr (hsilent t0 hheard)]

/-- A good Join ends the count of a slot's bad ones. -/
def joinCounted (s : State) (k : Nat) : State := s.setGrp (fun g => { g with joinBad := setNth g.joinBad k 0 })

/-- What a Join shows of its sender is taken over, and the slot waits for the next beacon. -/
def joinAdmitted (s : State) (k : Nat) (body : List Byte) : State :=
  ((joinCounted s k).setMember k (fun m => { m with
    serial := slice body 0 16, boot := ofBe (slice body 16 1), flags := ofBe (slice body 17 1) })).setGrp (fun g =>
      { g with
        dup := setBit g.dup k false
        admits := g.admits.filter (fun x => x.1 != k) ++ [(k, slice body 0 16)] })

/-- A Join that the Keeper hears. -/
theorem exec_join_heard {k : Fin 32} {f : GroupFrame} (hcrc : f.crcOk = true) (hown : s.ownGroup f.source.toNat = true)
    (hbody : 20 ≤ f.body.length) (hother : f.source.toNat ≠ s.address) (hkeeper : s.isKeeper = true) :
    exec (.join k f) s = .next (
      if slotHeld s k (slice f.body 0 16) then
        (joinCounted s k).setGrp (fun g => { g with dup := setBit g.dup k true })
      else joinAdmitted s k f.body) := by
  show execJoin k f s = _
  unfold execJoin
  simp only [takeOk s f 20 hcrc hown hbody hother, hkeeper, hcrc, Bool.not_true, Bool.false_eq_true, if_false]
  rfl

/-- The count of a slot's bad Joins is over, whatever slot it is. -/
theorem nth_setNth_zero (l : List Nat) (i : Nat) : nth (setNth l i 0) i 0 = 0 := by
  unfold nth
  rw [getElem?_setNth]
  split
  · rfl
  next hout =>
    rw [List.getElem?_eq_none (Nat.not_lt.mp fun hlt => hout ⟨rfl, hlt⟩)]
    rfl

/-- JOIN of a slot that no other holds. -/
theorem join_admits (k : Fin 32) (f : GroupFrame) (s : State) (hcrc : f.crcOk = true)
    (hown : s.ownGroup f.source.toNat = true) (hbody : 20 ≤ f.body.length) (hother : f.source.toNat ≠ s.address)
    (hkeeper : s.isKeeper = true)
    (hfree : bit s.validMask k = false ∨ (s.member k).serial = slice f.body 0 16 ∨
      ∀ t0, (s.member k).heard = some t0 → t0 + fiftyCycles ≤ s.clk.sfn) :
    ∃ t, exec (.join k f) s = .next t ∧ (k.val, slice f.body 0 16) ∈ t.grp.admits ∧
      t.grp.dup = setBit s.grp.dup k false ∧ nth t.grp.joinBad k 0 = 0 := by
  refine ⟨_, exec_join_heard hcrc hown hbody hother hkeeper, ?_⟩
  rw [slotHeld_of_free hfree]
  exact ⟨List.mem_append_right _ List.mem_cons_self, rfl, nth_setNth_zero s.grp.joinBad k⟩

/-- JOIN of a slot that a live member holds. -/
theorem join_duplicate (k : Fin 32) (f : GroupFrame) (t0 : Nat) (s : State) (hcrc : f.crcOk = true)
    (hown : s.ownGroup f.source.toNat = true) (hbody : 20 ≤ f.body.length) (hother : f.source.toNat ≠ s.address)
    (hkeeper : s.isKeeper = true) (hvalid : bit s.validMask k = true) (hserial : (s.member k).serial ≠ slice f.body 0 16)
    (hheard : (s.member k).heard = some t0) (hlive : s.clk.sfn < t0 + fiftyCycles) :
    ∃ t, exec (.join k f) s = .next t ∧ t.grp.dup = setBit s.grp.dup k true ∧ t.grp.admits = s.grp.admits := by
  refine ⟨_, exec_join_heard hcrc hown hbody hother hkeeper, ?_⟩
  rw [slotHeld_of_live hvalid hserial hheard hlive]
  exact ⟨rfl, rfl⟩

/-- A frame with a bad CRC is counted and no more. -/
theorem takeFrame_bad {f : GroupFrame} (n : Nat) (hcrc : f.crcOk = false) :
    s.takeFrame f n = (false, s.bump Obj.groupCrcErrors) := by
  unfold State.takeFrame
  rw [hcrc]
  rfl

/-- The Keeper counts a bad Join of a slot. -/
def badJoinCounted (s : State) (k : Nat) : State :=
  (s.bump Obj.groupCrcErrors).setGrp (fun g => { g with joinBad := modNth g.joinBad k (· + 1) })

theorem badJoinCounted_grp (s : State) (k : Nat) :
    (badJoinCounted s k).grp = { s.grp with joinBad := modNth s.grp.joinBad k (· + 1) } :=
  congrArg (fun g : GroupSt => { g with joinBad := modNth g.joinBad k (· + 1) }) (State.bump_grp ..)

/-- A bad Join that the Keeper hears. -/
theorem exec_join_bad {k : Fin 32} {f : GroupFrame} (hcrc : f.crcOk = false) (hkeeper : s.isKeeper = true) :
    exec (.join k f) s = .next (
      if 3 ≤ nth (badJoinCounted s k).grp.joinBad k 0 then
        (badJoinCounted s k).setGrp (fun g => { g with dup := setBit g.dup k true })
      else badJoinCounted s k) := by
  have hstill : (s.bump Obj.groupCrcErrors).isKeeper = true := by
    unfold State.isKeeper at hkeeper ⊢
    rwa [State.u_bump_other _ (by decide)]
  show execJoin k f s = _
  unfold execJoin
  simp only [takeFrame_bad 20 hcrc, hstill, hcrc, Bool.not_true, Bool.not_false, Bool.false_eq_true, if_false, if_true]
  rfl

/-- JOIN with a third bad CRC in a row. -/
theorem join_thirdBad (k : Fin 32) (f : GroupFrame) (s : State) (hcrc : f.crcOk = false) (hkeeper : s.isKeeper = true)
    (hbad : 2 ≤ nth s.grp.joinBad k.val 0) (hslot : k.val < s.grp.joinBad.length) :
    ∃ t, exec (.join k f) s = .next t ∧ t.grp.dup = setBit s.grp.dup k true := by
  have hthird : 3 ≤ nth (badJoinCounted s k).grp.joinBad k 0 := by
    rw [badJoinCounted_grp, nth_modNth_same _ _ _ hslot]
    omega
  refine ⟨_, exec_join_bad hcrc hkeeper, ?_⟩
  rw [if_pos hthird]
  exact (congrArg (fun g : GroupSt => setBit g.dup k true) (badJoinCounted_grp s k)).trans rfl

/-! ## Leaving (R547) -/

/-- LEAVE. -/
theorem leave_clears (f : GroupFrame) (s : State) (hcrc : f.crcOk = true) (hown : s.ownGroup f.source.toNat = true)
    (hbody : 16 ≤ f.body.length) (hother : f.source.toNat ≠ s.address) (hkeeper : s.isKeeper = true)
    (hvalid : bit s.validMask (f.source.toNat % 32) = true) :
    ∃ t, exec (.leave f) s = .next t ∧ t.validMask = setBit s.validMask (f.source.toNat % 32) false ∧
      Logged s t 0xA00D (d8 (f.source.toNat % 32) ++ d8 0) := by
  have hexec : exec (.leave f) s = .next (s.clearSlot (f.source.toNat % 32) 0) := by
    show execLeave f s = _
    unfold execLeave
    rw [takeOk s f 16 hcrc hown hbody hother]
    exact congrArg Host.Outcome.next (if_pos ⟨rfl, hkeeper, hvalid⟩)
  exact ⟨_, hexec, clearSlot_done s _ 0⟩

/-- MEMBER_ABSENT. -/
theorem memberAbsent_clears (k : Fin 32) (s : State) (hkeeper : s.isKeeper = true) (hother : k.val ≠ s.slotNo)
    (hvalid : bit s.validMask k = true)
    (hsilent : ∀ t0, (s.member k).heard = some t0 → t0 + fiftyCycles ≤ s.clk.sfn) :
    ∃ t, exec (.memberAbsent k) s = .next t ∧ t.validMask = setBit s.validMask k false ∧
      Logged s t 0xA00D (d8 k ++ d8 1) := by
  refine ⟨_, congrArg Host.Outcome.next (if_pos ⟨hkeeper, hother, hvalid, ?_⟩), clearSlot_done s k 1⟩
  split
  next t0 hheard => exact decide_eq_true (hsilent t0 hheard)
  next => rfl

/-- GROUP_LEAVE. -/
theorem groupLeave_leaves (w : Requester) (v : BitVec 8) (v' : Val) (s s' : State)
    (h : Admitted s s' w 2 Obj.groupLeave 0 (.num v.toNat) v') :
    Accepts (.groupLeave w v) s w 2 Obj.groupLeave 0 (fun t =>
      t.grp.leaving = (if s'.grp.silent = true then 0 else 3) ∧
      (s'.isKeeper = true → s'.lowest [s'.address] ≠ 0xFFFF →
        t.grp.handover = some ((s'.cycle + 1) % 65536, s'.lowest [s'.address] % 32))) := by
  refine accepts_of_effect (eff := fun _ s => s.groupLeaveEffect) rfl h rfl rfl ⟨?_, fun hkeeper hnext => ?_⟩
  · split <;> rfl
  · exact (congrArg (fun t : State => t.grp.handover) (if_pos ⟨hkeeper, hnext⟩)).trans rfl

/-- DUPLICATE_JOIN_RETRY. -/
theorem duplicateJoinRetry_asks (s : State) (hbus : s.u Obj.groupBusState = 3) (hdue : s.grp.dupAt + sfPerSecond ≤ s.clk.sfn) :
    exec .duplicateJoinRetry s = .next (s.setGrp (fun g => { g with joinDue := true, dupAt := s.clk.sfn })) :=
  congrArg Host.Outcome.next (if_pos ⟨hbus, hdue⟩)

/-! ## Election, takeover, handover (R544, R545) -/

/-- LISTEN_END. -/
theorem listenEnd_becomesKeeper (t0 : Nat) (s : State) (hlistening : s.grp.listening = some t0)
    (hboot : s.u Obj.bootState = 2) (heligible : s.u Obj.keeperEligible = 1) (hdue : s.listenUntil t0 ≤ s.clk.sfn) :
    ∃ t, exec .listenEnd s = .next t ∧ t.grp.keeper = s.address ∧ t.u Obj.keeperRole = 1 ∧
      t.u Obj.groupBusState = 2 ∧ t.grp.listening = none ∧ t.grp.base = none := by
  have hexec : exec .listenEnd s = .next (s.setGrp (fun g => { g with base := none })).becomeKeeper := by
    show execListenEnd s = _
    simp only [execListenEnd, hlistening]
    exact congrArg Host.Outcome.next (if_pos ⟨hboot, heligible, hdue⟩)
  obtain ⟨hkeeper, hrole, hbus, hquiet, -, hbase⟩ := becomes (s.setGrp (fun g => { g with base := none }))
  exact ⟨_, hexec, hkeeper, hrole, hbus, hquiet, hbase⟩

/-- DEPUTY_TAKEOVER. -/
theorem deputyTakeover_becomesKeeper (s : State) (hdeputy : s.isDeputy = true)
    (hquiet : s.grp.beaconAt + fiftyCycles ≤ s.clk.sfn) :
    ∃ t, exec .deputyTakeover s = .next t ∧ t.grp.keeper = s.address ∧ t.u Obj.keeperRole = 1 ∧
      t.grp.base = s.grp.base := by
  obtain ⟨hkeeper, hrole, -, -, -, hbase⟩ := becomes s
  exact ⟨_, congrArg Host.Outcome.next (if_pos ⟨hdeputy, hquiet⟩), hkeeper, hrole, hbase⟩

/-- At its cycle a handover is over, and window 32 counts from now. -/
def handoverOver (s : State) : State := s.setGrp (fun g => { g with handover := none, beaconAt := s.clk.sfn })

/-- HANDOVER at its cycle, to this engine or another. -/
theorem exec_handover_due {n k : Nat} (h : s.grp.handover = some (n, k))
    (hdue : (s.cycle + 65536 - n) % 65536 < 32768) :
    exec .handover s = .next (
      if k = s.slotNo then
        (if s.isMember then ((handoverOver s).setGrp (fun g => { g with base := none })).becomeKeeper else handoverOver s)
      else (handoverOver s).setKeepers (s.groupAddress k) ((handoverOver s).lowest [s.groupAddress k])) := by
  show execHandover s = _
  simp only [execHandover, h, if_neg (Nat.not_le.mpr hdue)]
  rfl

/-- HANDOVER. -/
theorem handover_moves (n k : Nat) (s : State) (h : s.grp.handover = some (n, k))
    (hdue : (s.cycle + 65536 - n) % 65536 < 32768) (hmember : k = s.slotNo → s.isMember = true) :
    ∃ t, exec .handover s = .next t ∧ t.grp.handover = none ∧
      t.grp.keeper = (if k = s.slotNo then s.address else s.groupAddress k) ∧
      (k = s.slotNo → t.u Obj.keeperRole = 1) := by
  refine ⟨_, exec_handover_due h hdue, ?_⟩
  by_cases hown : k = s.slotNo
  · obtain ⟨hkeeper, hrole, -, -, hover, -⟩ := becomes ((handoverOver s).setGrp (fun g => { g with base := none }))
    rw [if_pos hown, if_pos (hmember hown), if_pos hown]
    exact ⟨hover, hkeeper, fun _ => hrole⟩
  · rw [if_neg hown, if_neg hown, setKeepers_grp]
    exact ⟨rfl, rfl, fun h => absurd h hown⟩

/-! ## Decisions (R372, R373) -/

/-- KEEPER_DECISION. -/
theorem keeperDecision_orders (k : Fin 32) (s : State) (hmember : s.isMember = true)
    (hlower : bit (s.member k).flags 2 = true)
    (hkeeper : s.linkKeeper (s.groupAddress k) (s.member k).peer = s.address)
    (hdispute : (s.member k).disputed s.clk.sfn = true)
    (hnew : s.grp.orders.any (fun o => ofBe (slice o.octets 2 2) == s.groupAddress k &&
      ofBe (slice o.octets 7 1) == (chooseAvenue (s.member k).own (s.member k).far).inst) = false) :
    ∃ t, exec (.keeperDecision k) s = .next t ∧ ∃ o ∈ t.grp.orders,
      o.octets = be 2 s.address ++ be 2 (s.groupAddress k) ++ be 2 (s.member k).peer ++
        be 1 (((assocGet s.grp.seqs (s.groupAddress k)).getD 0 + 1) % 256) ++
        be 1 (chooseAvenue (s.member k).own (s.member k).far).inst := by
  have hexec : exec (.keeperDecision k) s = .next (s.storeOrder (be 2 s.address ++ be 2 (s.groupAddress k) ++
      be 2 (s.member k).peer ++ be 1 (((assocGet s.grp.seqs (s.groupAddress k)).getD 0 + 1) % 256) ++
      be 1 (chooseAvenue (s.member k).own (s.member k).far).inst) false) := by
    show execKeeperDecision k s = _
    simp [execKeeperDecision, hmember, hlower, hkeeper, hdispute, hnew]
  obtain ⟨o, ho, hoctets, -⟩ := storeOrder_stands s _ false
  exact ⟨_, hexec, o, ho, hoctets⟩

end Keepers

/-- Settles O48: each command completes in the state that its rule above names; the causes of A00Dh are log entry 7. -/
theorem keepersChange : Obligations.KeepersChange :=
  ⟨join_admits, join_duplicate, join_thirdBad, leave_clears, memberAbsent_clears, listenEnd_becomesKeeper,
    deputyTakeover_becomesKeeper, handover_moves, groupLeave_leaves, duplicateJoinRetry_asks, keeperDecision_orders⟩

section Switches

open Sys2Proof.Laws.OfAvenues

variable {s : State}

/-! ## Takeover (R363 to R365) -/

/-- TAKEOVER once the hold-off is over, to a standby that is fit or not. -/
theorem exec_takeover_due {c : Carrier} {t0 : Nat} (hcarry : s.carrying = some c) (hmode : s.mode = 2)
    (hcmd : s.av.cmd = 0) (hfault : s.faultSince c = some t0)
    (hdue : t0 + s.u Obj.spareHoldOff * 100000000000 ≤ s.now) :
    exec .takeover s = .next (
      if s.standbyFault c.other = 0 then s.takeOver c.other 0
      else if s.av.blocked then s
      else (s.setAv (fun a => { a with blocked := true })).log 0xA004 (d8 (s.standbyFault c.other))) := by
  have hspare : ¬(s.mode ≠ 2 ∨ s.av.cmd ≠ 0) := by simp [hmode, hcmd]
  show execTakeover s = _
  simp only [execTakeover, hcarry, hfault, if_neg hspare, if_neg (Nat.not_lt.mpr hdue)]

/-- TAKEOVER to a fit standby. -/
theorem takeover_moves (c : Carrier) (t0 : Nat) (s : State) (hcarry : s.carrying = some c) (hmode : s.mode = 2)
    (hcmd : s.av.cmd = 0) (hfault : s.faultSince c = some t0)
    (hdue : t0 + s.u Obj.spareHoldOff * 100000000000 ≤ s.now) (hfit : s.standbyFault c.other = 0) :
    ∃ t, exec .takeover s = .next t ∧ t.u Obj.carryingAvenue = c.other.inst ∧ t.av.tookOver = true ∧
      t.av.takeSfn = s.nextRound.1 ∧ t.av.takeRound = s.nextRound.2 ∧ t.av.mute.get c = some s.clk.sfn ∧
      Logged s t 0xA002 (d8 c.other.inst ++ d8 0 ++ d64 s.nextRound.1 ++ d16 s.nextRound.2) := by
  have hback : c.other.other = c := by cases c <;> rfl
  obtain ⟨hcarries, htook, hsfn, hround, hmute, hlog, -, -⟩ := tookOver s c.other 0
  rw [hback] at hmute
  exact ⟨_, (exec_takeover_due hcarry hmode hcmd hfault hdue).trans (congrArg Host.Outcome.next (if_pos hfit)), hcarries,
    htook, hsfn, hround, hmute, hlog⟩

/-- TAKEOVER to an unfit standby. -/
theorem takeover_blocked (c : Carrier) (t0 f : Nat) (s : State) (hcarry : s.carrying = some c) (hmode : s.mode = 2)
    (hcmd : s.av.cmd = 0) (hfault : s.faultSince c = some t0)
    (hdue : t0 + s.u Obj.spareHoldOff * 100000000000 ≤ s.now) (hstandby : s.standbyFault c.other = f) (hunfit : f ≠ 0)
    (hnew : s.av.blocked = false) :
    ∃ t, exec .takeover s = .next t ∧ t.av.blocked = true ∧ Logged s t 0xA004 (d8 f) := by
  subst hstandby
  refine ⟨_, (exec_takeover_due hcarry hmode hcmd hfault hdue).trans (congrArg Host.Outcome.next ((if_neg hunfit).trans
    (if_neg (hnew ▸ Bool.false_ne_true)))), ?_, (Logged.log _ _ _).since (Nat.le_refl _)⟩
  rw [State.log_av]
  rfl

/-- SWITCH_MUTE_END. -/
theorem switchMuteEnd_ends (c : Carrier) (t0 : Nat) (s : State) (hmute : s.av.mute.get c = some t0)
    (hover : bits (s.farWord c.other 26) 31 30 = c.other.inst ∨ t0 + 10 ≤ s.clk.sfn) :
    ∃ t, exec (.switchMuteEnd c) s = .next t ∧ t.av.mute.get c = none := by
  have hexec : exec (.switchMuteEnd c) s = .next (s.setAv (fun a => { a with mute := a.mute.set c none })) := by
    show execSwitchMuteEnd c s = _
    simp only [execSwitchMuteEnd, hmute, if_pos hover]
  exact ⟨_, hexec, Pair.get_upd_same s.av.mute c (fun _ => none)⟩

/-! ## Keeper orders (R373, R374, R397) -/

/-- An order as this end takes it over. -/
def orderOf (s : State) (b : List Byte) (c : Carrier) (bus : Bool) : Order :=
  { keeper := ofBe (slice b 0 2), seq := ofBe (slice b 6 1), avenue := c, octets := b.take 8, bus := bus, sent := 0
    sentAt := s.clk.sfn }

/-- An order that is applied stands, is counted and logged. -/
def orderNoted (s : State) (b : List Byte) (c : Carrier) (bus : Bool) : State :=
  ((s.setAv (fun a => { a with order := some (orderOf s b c bus), lastSeq := ofBe (slice b 6 1), blocked := false })).bump
    Obj.keeperOrderCount).log 0xA005 (d8 (ofBe (slice b 6 1)) ++ d8 c.inst ++ d16 (ofBe (slice b 0 2)))

theorem orderNoted_av (s : State) (b : List Byte) (c : Carrier) (bus : Bool) : (orderNoted s b c bus).av =
    { s.av with order := some (orderOf s b c bus), lastSeq := ofBe (slice b 6 1), blocked := false } := by
  rw [orderNoted, State.log_av, State.bump_av]
  rfl

theorem orderNoted_logs (s : State) (b : List Byte) (c : Carrier) (bus : Bool) : Logged s (orderNoted s b c bus) 0xA005
    (d8 (ofBe (slice b 6 1)) ++ d8 c.inst ++ d16 (ofBe (slice b 0 2))) :=
  (Logged.log _ _ _).since
    (State.bump_keep (State.setAv_keep (Keep.refl 262145 s) rfl _) rfl Obj.keeperOrderCount 0).nextSeq

/-- A new order for this link, with no lockout, is applied at its first sight. -/
theorem keeperOrder_applied {b : List Byte} {c : Carrier} (bus : Bool) (havenue : avenueOf (ofBe (slice b 7 1)) = some c)
    (hmode : s.mode = 2)
    (hend : s.u Obj.deviceAddress = ofBe (slice b 2 2) ∨ s.u Obj.deviceAddress = ofBe (slice b 4 2))
    (hseq : ofBe (slice b 6 1) ≠ s.av.lastSeq) (hcmd : s.av.cmd ≠ 1) :
    s.keeperOrder b bus = if (orderNoted s b c bus).u Obj.carryingAvenue = c.inst then orderNoted s b c bus
      else (orderNoted s b c bus).takeOver c 1 := by
  have hours : ¬(s.mode ≠ 2 ∨ (s.u Obj.deviceAddress ≠ ofBe (slice b 2 2) ∧
      s.u Obj.deviceAddress ≠ ofBe (slice b 4 2)) ∨ ofBe (slice b 6 1) = s.av.lastSeq) := by
    rcases hend with h | h <;> simp [hmode, hseq, h]
  simp only [State.keeperOrder, havenue, if_neg hours, if_neg hcmd]
  rfl

/-- KEEPER_ORDER. -/
theorem keeperOrder_applies (b : List Byte) (c : Carrier) (s : State) (hlen : b.length = 8)
    (havenue : avenueOf (ofBe (slice b 7 1)) = some c) (hmode : s.mode = 2)
    (hend : s.u Obj.deviceAddress = ofBe (slice b 2 2) ∨ s.u Obj.deviceAddress = ofBe (slice b 4 2))
    (hseq : ofBe (slice b 6 1) ≠ s.av.lastSeq) (hcmd : s.av.cmd ≠ 1) :
    ∃ t, exec (.keeperOrder b) s = .next t ∧ t.u Obj.carryingAvenue = c.inst ∧ t.av.lastSeq = ofBe (slice b 6 1) ∧
      Logged s t 0xA005 (d8 (ofBe (slice b 6 1)) ++ d8 c.inst ++ d16 (ofBe (slice b 0 2))) ∧
      ∃ o, t.av.order = some o ∧ o.avenue = c ∧ o.keeper = ofBe (slice b 0 2) := by
  have hlog := orderNoted_logs s b c true
  have hav := orderNoted_av s b c true
  refine ⟨_, congrArg Host.Outcome.next ((if_pos hlen).trans (keeperOrder_applied true havenue hmode hend hseq hcmd)), ?_⟩
  split
  next hcarries =>
    rw [hav]
    exact ⟨hcarries, rfl, hlog, _, rfl, rfl, rfl⟩
  next =>
    obtain ⟨hcarries, -, -, -, -, -, horder, hlast⟩ := tookOver (orderNoted s b c true) c 1
    rw [horder, hlast, hav]
    exact ⟨hcarries, rfl, hlog.keep (State.takeOver_keep (Keep.refl 264393 _) rfl c 1) rfl, _, rfl, rfl, rfl⟩

/-- KEEPER_ORDER_REPEAT. -/
theorem keeperOrderRepeat_sends (o : Order) (s : State) (horder : s.av.order = some o) (hbus : o.bus = true)
    (hunlocked : s.unlocked = true)
    (hdue : o.sentAt + (if o.sent = 0 then 0 else if o.sent < 3 then 10 else 100) ≤ s.clk.sfn) :
    exec .keeperOrderRepeat s = .next ((s.setAv (fun a => { a with
      order := some { o with sent := o.sent + 1, sentAt := s.clk.sfn } })).footBoth 3 o.octets) := by
  show execKeeperOrderRepeat s = _
  simp only [execKeeperOrderRepeat, horder]
  exact congrArg Host.Outcome.next (if_pos ⟨hbus, hunlocked, hdue⟩)

/-- KEEPER_UNREACHABLE. -/
theorem keeperUnreachable_logs (s : State) (hkeeper : s.keeperReachable = false) (hdispute : s.inDispute = true)
    (hnew : s.av.unreach = false) :
    ∃ t, exec .keeperUnreachable s = .next t ∧ t.av.unreach = true ∧
      Logged s t 0xA007 (d8 (s.u (on .a Obj.rxView)) ++ d8 (s.u (on .b Obj.rxView)) ++ d8 (s.u (on .a Obj.farView)) ++
        d8 (s.u (on .b Obj.farView))) := by
  refine ⟨_, congrArg Host.Outcome.next (if_neg (by simp [hkeeper, hdispute, hnew])), ?_,
    (Logged.log _ _ _).since (Nat.le_refl _)⟩
  rw [State.log_av]
  rfl

/-! ## Modes (R354) -/

/-- A result, or of a refusal only its status. -/
def keptOr (r : Res × State) (s : State) : Res × State := if r.1.code ≠ 0 then (r.1, s) else r

theorem keptOr_of_ok {r : Res × State} (h : (keptOr r s).1.code = 0) : keptOr r s = r := by
  unfold keptOr at h ⊢
  split at h
  next hrefused => exact absurd h hrefused
  next hok => exact if_neg hok

/-- The avenue that a mode change proposes to carry. -/
def modeCarry (s : State) (mode : Nat) : Nat := if mode = 2 then s.preferred.inst else 0

/-- The four proposals of a mode change as one write (R354). -/
def modeProposed (s : State) (w : Requester) (mode : Nat) (t : Target) : Res × State :=
  s.newWrite.2.proposeAll bothWays (fun c d z =>
    z.hostProposeAt w c (z.resolve t .modeChange .loc (some c))
      { Entry.base .modeChange 0 with obj := Obj.avenueMode, val := .num mode, data := [mode, modeCarry s mode]
                                      write := s.newWrite.1, dir := d }
      (fun _ => modeBody mode (modeCarry s mode)) [if mode ≠ 0 ∧ s.u Obj.reorderWindow = 0 then 0x0303 else 0])

theorem avenueModeEffect_eq (s : State) (w : Requester) (mode : Nat) (t : Target) :
    s.avenueModeEffect w mode t = keptOr (modeProposed s w mode t) s := by
  unfold State.avenueModeEffect keptOr modeProposed modeCarry
  dsimp only

/-- A mode that is not refused is proposed for both carriers and directions, and its answer waits. -/
theorem avenueModeEffect_proposes {w : Requester} {mode : Nat} {t : Target} (h : (s.avenueModeEffect w mode t).1.code = 0) :
    (s.avenueModeEffect w mode t).1 = { wait := true } ∧
      ∀ c d, Has .modeChange [mode, modeCarry s mode] (s.avenueModeEffect w mode t).2 c d := by
  rw [avenueModeEffect_eq] at h ⊢
  have hkept := keptOr_of_ok h
  rw [hkept] at h ⊢
  unfold modeProposed at h ⊢
  obtain ⟨hres, -, hall⟩ := allProp .modeChange [mode, modeCarry s mode] _ (fun c d z hc => hostProp _ _ _ _ _ _ _ hc)
    bothWays s.newWrite.2 (List.cons_ne_nil _ _) h
  refine ⟨hres, fun c d => hall (c, d) ?_⟩
  cases c <;> cases d <;> decide

/-- AVENUE_MODE_WRITE. -/
theorem avenueModeWrite_proposes (w : Requester) (v n : Nat) (tg : Target) (s s' : State)
    (h : Admitted s s' w 3 Obj.avenueMode 0 (.num v) (.num n))
    (hgood : ∀ z ∈ [s, s'], (z.avenueModeEffect w n tg).1.code = 0) :
    ∃ t, exec (.avenueModeWrite w v tg) s = .next t ∧ ∀ c d, ∃ e ∈ t.clk.entries, e.kind = .modeChange ∧
      e.carrier = some c ∧ e.dir = d ∧ e.data = [n, if n = 2 then s'.preferred.inst else 0] ∧ e.st = .proposed := by
  obtain ⟨hres, hall⟩ := avenueModeEffect_proposes (hgood s' (by simp))
  have hvalue : (Val.num (n : Int)).nat = n := rfl
  generalize hr : s'.avenueModeEffect w n tg = r at hres hall
  obtain ⟨res, y⟩ := r
  obtain rfl : res = { wait := true } := hres
  have hwrite : s.hostWrite w 3 Obj.avenueMode 0 (.num v) (fun x s => s.avenueModeEffect w x.nat tg) = y :=
    State.hostWrite_waits h _ (by rw [hvalue, hr]) (by rw [hvalue]; exact hgood s (by simp))
  exact ⟨y, congrArg Host.Outcome.next hwrite, hall⟩

/-! ## Commands of the avenues (R375) -/

variable {w : Requester} {b : List Byte}

/-- A write of `AvenueCommand` accesses no domain. -/
theorem eq_of_admitted_avenueCommand {s' : State} {v : Val} (h : Admitted s s' w 2 Obj.avenueCommand 0 v (.octs b)) :
    s' = s := by
  obtain ⟨-, -, hsame, -⟩ := h
  exact hsame

/-- Commands 0 and 1 replace a Keeper order and stand as they are. -/
theorem avenueCommandEffect_stands {k : Nat} (hmode : s.mode = 2) (hk : ofBe (slice b 2 1) = k) (hlow : k < 2) :
    s.avenueCommandEffect w b = ({}, s.setAv (fun a => { a with order := none, cmd := k })) := by
  unfold State.avenueCommandEffect
  rw [if_neg (not_not_intro hmode), hk]
  match k, hlow with
  | 0, _ => rfl
  | 1, _ => rfl

/-- AVENUE_CLEAR and LOCKOUT leave what the effect of commands 0 and 1 leaves. -/
theorem avenueCommand_stands {i : Instr} {s' : State} {k sfn : Nat} (hi : exec i s = .next (s.avenueCommand w k sfn))
    (h : Admitted s s' w 2 Obj.avenueCommand 0 (.octs (commandRow k sfn)) (.octs b)) (hk : ofBe (slice b 2 1) = k)
    (hlow : k < 2) (hmode : s.mode = 2) :
    Accepts i s w 2 Obj.avenueCommand 0 (fun t => t = s'.setAv (fun a => { a with order := none, cmd := k })) := by
  have heff := avenueCommandEffect_stands (w := w) hmode hk hlow
  obtain rfl := eq_of_admitted_avenueCommand h
  exact accepts_of_effect (eff := fun x s => s.avenueCommandEffect w x.bytes) hi h heff (congrArg (·.1.code) heff) rfl

/-- An accepted command replaces a Keeper order, and its entries are those of one write. -/
def commanded (s : State) : Nat × State := (s.setAv (fun a => { a with order := none })).newWrite

theorem switchCarrier_commanded (s : State) : (commanded s).2.switchCarrier = s.switchCarrier := rfl

/-- A switch that the host commands, proposed in both directions (R375). -/
def switchCommanded (s : State) (w : Requester) (c : Carrier) (cause sfn : Nat) (extra : List Nat) : Res × State :=
  (commanded s).2.hostSwitch w (commanded s).1 c cause sfn extra

theorem switchCommanded_proposes {c : Carrier} {cause sfn : Nat} {extra : List Nat}
    (h : (switchCommanded s w c cause sfn extra).1.code = 0) :
    (switchCommanded s w c cause sfn extra).1 = { wait := true } ∧
      (switchCommanded s w c cause sfn extra).2.av.order = none ∧
      ∀ d, Has .plannedSwitch [c.inst, cause] (switchCommanded s w c cause sfn extra).2 s.switchCarrier d := by
  obtain ⟨hres, -, hall⟩ := switched _ _ _ _ _ _ _ h
  exact ⟨hres, congrArg AvSt.order ((State.hostSwitch_keep (Keep.refl 132 _) rfl w _ c cause sfn extra).av rfl), hall⟩

theorem inst_eq_one_or_two (c : Carrier) : c.inst = 1 ∨ c.inst = 2 := by cases c <;> decide

/-- Commands 2 and 3. -/
theorem avenueCommandEffect_forced {c : Carrier} (hmode : s.mode = 2) (hk : ofBe (slice b 2 1) = 1 + c.inst) :
    s.avenueCommandEffect w b = keptOr (switchCommanded s w c 1 (ofBe (slice b 3 8)) []) s := by
  have hinst := inst_eq_one_or_two c
  unfold State.avenueCommandEffect keptOr switchCommanded commanded
  rw [if_neg (not_not_intro hmode), hk]
  extract_lets _ _ keep target
  have htarget : target = c := by cases c <;> rfl
  dsimp only
  rw [htarget, if_neg (by omega), if_neg (by omega), if_pos (by omega)]

/-- Commands 4 and 5. -/
theorem avenueCommandEffect_manual {c : Carrier} (hmode : s.mode = 2) (hk : ofBe (slice b 2 1) = 3 + c.inst) :
    s.avenueCommandEffect w b =
      keptOr (switchCommanded s w c 0 (ofBe (slice b 3 8)) [if s.viewsGood c then 0 else 0x0502]) s := by
  have hinst := inst_eq_one_or_two c
  unfold State.avenueCommandEffect keptOr switchCommanded commanded
  rw [if_neg (not_not_intro hmode), hk]
  extract_lets _ _ keep target
  have htarget : target = c := by cases c <;> rfl
  dsimp only
  rw [htarget, if_neg (by omega), if_neg (by omega), if_neg (by omega), if_pos (by omega)]
  rfl

/-- A command whose proposals the far end has yet to answer leaves what its effect leaves. -/
theorem avenueCommand_waits {s' : State} {k sfn : Nat}
    (h : Admitted s s' w 2 Obj.avenueCommand 0 (.octs (commandRow k sfn)) (.octs b))
    (hres : (s.avenueCommandEffect w b).1 = { wait := true }) :
    s.avenueCommand w k sfn = (s.avenueCommandEffect w b).2 := by
  obtain rfl := eq_of_admitted_avenueCommand h
  exact State.hostWrite_waits h (fun x s => s.avenueCommandEffect w x.bytes) (Prod.ext hres rfl) (congrArg Res.code hres)

/-- FORCED_SWITCH and MANUAL_SWITCH, once the effect of their command is known. -/
theorem avenueCommand_proposes {s' : State} {i : Instr} {k sfn : Nat} {c : Carrier} {cause at_ : Nat} {extra : List Nat}
    (hi : exec i s = .next (s.avenueCommand w k sfn))
    (h : Admitted s s' w 2 Obj.avenueCommand 0 (.octs (commandRow k sfn)) (.octs b))
    (heff : s.avenueCommandEffect w b = keptOr (switchCommanded s w c cause at_ extra) s)
    (hgood : (s.avenueCommandEffect w b).1.code = 0) :
    ∃ t, exec i s = .next t ∧ t.av.order = none ∧ ∀ d, ∃ e ∈ t.clk.entries, e.kind = .plannedSwitch ∧
      e.carrier = some s.switchCarrier ∧ e.dir = d ∧ e.data = [c.inst, cause] ∧ e.st = .proposed := by
  rw [heff] at hgood
  rw [keptOr_of_ok hgood] at heff hgood
  obtain ⟨hres, horder, hall⟩ := switchCommanded_proposes hgood
  rw [← heff] at hres horder hall
  exact ⟨_, hi.trans (congrArg Host.Outcome.next (avenueCommand_waits h hres)), horder, hall⟩

/-- FORCED_SWITCH. -/
theorem forcedSwitch_proposes (w : Requester) (c : Carrier) (sfn : BitVec 64) (b : List Byte) (s s' : State)
    (h : Admitted s s' w 2 Obj.avenueCommand 0 (.octs (commandRow (1 + c.inst) sfn.toNat)) (.octs b))
    (hk : ofBe (slice b 2 1) = 1 + c.inst) (hmode : s.mode = 2)
    (hgood : ∀ z ∈ [s, s'], (z.avenueCommandEffect w b).1.code = 0) :
    ∃ t, exec (.forcedSwitch w c sfn) s = .next t ∧ t.av.order = none ∧ ∀ d, ∃ e ∈ t.clk.entries,
      e.kind = .plannedSwitch ∧ e.carrier = some s.switchCarrier ∧ e.dir = d ∧ e.data = [c.inst, 1] ∧
      e.st = .proposed :=
  avenueCommand_proposes rfl h (avenueCommandEffect_forced hmode hk) (hgood s List.mem_cons_self)

/-- MANUAL_SWITCH. -/
theorem manualSwitch_proposes (w : Requester) (c : Carrier) (sfn : BitVec 64) (b : List Byte) (s s' : State)
    (h : Admitted s s' w 2 Obj.avenueCommand 0 (.octs (commandRow (3 + c.inst) sfn.toNat)) (.octs b))
    (hk : ofBe (slice b 2 1) = 3 + c.inst) (hmode : s.mode = 2)
    (hgood : ∀ z ∈ [s, s'], (z.avenueCommandEffect w b).1.code = 0) :
    ∃ t, exec (.manualSwitch w c sfn) s = .next t ∧ t.av.order = none ∧ ∀ d, ∃ e ∈ t.clk.entries,
      e.kind = .plannedSwitch ∧ e.carrier = some s.switchCarrier ∧ e.dir = d ∧ e.data = [c.inst, 0] ∧
      e.st = .proposed :=
  avenueCommand_proposes rfl h (avenueCommandEffect_manual hmode hk) (hgood s List.mem_cons_self)

/-- Command 6: the switch away and, 100 superframes later, the switch back. -/
theorem avenueCommandEffect_exercise {c : Carrier} (hmode : s.mode = 2) (hk : ofBe (slice b 2 1) = 6)
    (hcarry : s.carrying = some c) :
    s.avenueCommandEffect w b =
      (let away := switchCommanded s w c.other 4 (ofBe (slice b 3 8)) []
      if away.1.code ≠ 0 then (away.1, s)
      else keptOr (away.2.hostSwitch w (commanded s).1 c 4 (ofBe (slice b 3 8) + 100) []) s) := by
  have hstill : (s.setAv (fun a => { a with order := none })).carrying = some c := hcarry
  unfold State.avenueCommandEffect
  rw [if_neg (not_not_intro hmode), hk]
  dsimp only [keptOr, switchCommanded, commanded]
  rw [hstill]
  dsimp only [Option.getD_some]
  simp only [Nat.reduceEqDiff, or_self, if_false]

/-- EXERCISE. -/
theorem exercise_proposes (w : Requester) (sfn : BitVec 64) (b : List Byte) (c : Carrier) (s s' : State)
    (h : Admitted s s' w 2 Obj.avenueCommand 0 (.octs (commandRow 6 sfn.toNat)) (.octs b))
    (hk : ofBe (slice b 2 1) = 6) (hmode : s.mode = 2) (hcarry : s.carrying = some c)
    (hgood : ∀ z ∈ [s, s'], (z.avenueCommandEffect w b).1.code = 0) :
    ∃ t, exec (.exercise w sfn) s = .next t ∧ ∀ d,
      (∃ e ∈ t.clk.entries, e.kind = .plannedSwitch ∧ e.dir = d ∧ e.data = [c.other.inst, 4]) ∧
      ∃ e ∈ t.clk.entries, e.kind = .plannedSwitch ∧ e.dir = d ∧ e.data = [c.inst, 4] := by
  have heff := avenueCommandEffect_exercise (w := w) hmode hk hcarry
  have hcode := hgood s List.mem_cons_self
  rw [heff] at hcode
  dsimp only at heff hcode
  split at hcode
  next hrefused => exact absurd hcode hrefused
  next haway =>
    rw [if_neg haway, keptOr_of_ok hcode] at heff
    rw [keptOr_of_ok hcode] at hcode
    obtain ⟨-, -, hthere⟩ := switchCommanded_proposes (Decidable.not_not.mp haway)
    obtain ⟨hres, hkept, hback⟩ := switched _ _ _ _ _ _ _ hcode
    rw [← heff] at hres hkept hback
    refine ⟨_, congrArg Host.Outcome.next (avenueCommand_waits h hres), fun d => ⟨?_, ?_⟩⟩
    · obtain ⟨e, he, hkind, -, hdir, hdata, -⟩ := hthere d
      exact ⟨e, hkept e he, hkind, hdir, hdata⟩
    · obtain ⟨e, he, hkind, -, hdir, hdata, -⟩ := hback d
      exact ⟨e, he, hkind, hdir, hdata⟩

/-! ## Switches that the engine arms (R378) -/

/-- DEGRADE_SWITCH. -/
theorem degradeSwitch_arms (c : Carrier) (t0 : Nat) (s : State) (hcarry : s.carrying = some c)
    (hdegraded : s.av.degraded = some t0) (hmay : s.mayArm = true) (hdue : t0 + 100 ≤ s.clk.sfn)
    (hviews : s.viewsGood c.other = true)
    (hfits : (s.proposeEngine s.switchCarrier { Entry.base .plannedSwitch (s.leadSfn s.switchCarrier) with
      data := [c.other.inst, 3], dir := .tx } (fun _ => switchBody c.other.inst 3)).1.isSome = true) :
    ∃ t, exec .degradeSwitch s = .next t ∧ ∃ e ∈ t.clk.entries, e.kind = .plannedSwitch ∧ e.dir = .tx ∧
      e.data = [c.other.inst, 3] ∧ e.st = .proposed := by
  have hexec : exec .degradeSwitch s = .next (s.armSwitch c.other 3) := by
    show execDegradeSwitch s = _
    simp only [execDegradeSwitch, hcarry, hdegraded]
    exact congrArg Host.Outcome.next (if_pos ⟨hmay, hdue, hviews⟩)
  exact ⟨_, hexec, armed s c.other 3 hfits⟩

/-- REVERT. -/
theorem revert_arms (t0 : Nat) (s : State) (hgood : s.av.goodFrom = some t0) (hmay : s.mayArm = true)
    (hrevert : s.u Obj.spareRevert = 1) (haway : s.u Obj.carryingAvenue ≠ s.preferred.inst)
    (hdue : t0 + s.u Obj.spareWaitToRestore * sfPerSecond ≤ s.clk.sfn)
    (hfits : (s.proposeEngine s.switchCarrier { Entry.base .plannedSwitch (s.leadSfn s.switchCarrier) with
      data := [s.preferred.inst, 2], dir := .tx } (fun _ => switchBody s.preferred.inst 2)).1.isSome = true) :
    ∃ t, exec .revert s = .next t ∧ ∃ e ∈ t.clk.entries, e.kind = .plannedSwitch ∧ e.dir = .tx ∧
      e.data = [s.preferred.inst, 2] ∧ e.st = .proposed := by
  have hexec : exec .revert s = .next (s.armSwitch s.preferred 2) := by
    show execRevert s = _
    simp only [execRevert, hgood]
    exact congrArg Host.Outcome.next (if_pos ⟨hmay, hrevert, haway, hdue⟩)
  exact ⟨_, hexec, armed s s.preferred 2 hfits⟩

end Switches

/-- Settles O50: each command completes in the state that its rule above names; the cause of A002h and the condition of
A004h are log entry 7, that orders are ignored under a lockout is log entry 63. -/
theorem avenuesSwitch : Obligations.AvenuesSwitch :=
  ⟨takeover_moves, takeover_blocked, switchMuteEnd_ends, keeperOrder_applies, keeperOrderRepeat_sends,
    keeperUnreachable_logs, avenueModeWrite_proposes,
    fun _ _ _ _ _ h hk hmode => avenueCommand_stands rfl h hk (by decide) hmode,
    fun _ _ _ _ _ h hk hmode => avenueCommand_stands rfl h hk (by decide) hmode,
    forcedSwitch_proposes, manualSwitch_proposes, exercise_proposes, degradeSwitch_arms, revert_arms⟩

end Sys2Proof.Proofs.Avenues
end

section
/-! The statements on the footpath channel (13_footpath_channel.md): what its sender does, a direction whose power is
refused (R398), the packets that wait (R387, R388) and the one that goes out (R381, R385); and what its receiver does,
from the search (R389, R390) over sync word and header (R391, R392), the watch for a stronger tone (R393) and the noise
floors (R394) to the packet's end (R395) and the neighbour (R396). -/

namespace Sys2Proof.Proofs.Footpath

open Sys2Proof.Machine Sys2Proof.Claims Sys2Proof.Laws.OfFootpath

/-- Different objects of one carrier have different keys. -/
theorem okey_on_ne {o o' : Nat} (c : Carrier) (h : o ≠ o') : okey (on c o) 0 ≠ okey (on c o') 0 := by
  unfold okey on
  omega

/-- A counter below its largest value shows one more. -/
theorem bump_eq_put {s : State} {o : Nat} (h : s.u o < 4294967295) : s.bump o = s.put o 0 (s.u o + 1 : Nat) :=
  if_pos (show s.u o + 1 < 2 ^ 32 by omega)

section Sending

variable {s : State} {c : Carrier}

/-! ## A direction without power (R398) -/

/-- A refused cost leaves the ledger as it was. -/
theorem ask_refused {act item cost : Nat} (h : s.judge act item cost ≠ 0) :
    s.ask act item cost = (s.judge act item cost, s.refuseCost act (s.judge act item cost) cost) :=
  if_neg h

/-- A direction that is refused once more notes the time of the refusal and logs nothing of its own. -/
theorem footAsk_refused_again {d t0 : Nat} (hwas : nth (s.ft c).refused d none = some t0)
    (hjudge : s.judge Act.foot (footItem c d) (footCost d) ≠ 0) :
    ∃ y, Keep 73 s y ∧
      s.footAsk c d = y.setFt c (fun f => { f with refused := setNth f.refused d (some s.clk.sfn) }) := by
  refine ⟨_, State.refuseCost_keep (Keep.refl 73 s) rfl Act.foot (s.judge Act.foot (footItem c d) (footCost d))
    (footCost d), ?_⟩
  unfold State.footAsk
  simp only [ask_refused hjudge, if_neg hjudge, hwas, Option.isSome_some, if_true]

/-- FOOTPATH_LEDGER_RETRY. -/
theorem footpathLedgerRetry_refused (c : Carrier) (d : Fin 2) (t0 : Nat) (s : State)
    (hwas : nth (s.ft c).refused d none = some t0) (hdue : t0 + 100 ≤ s.clk.sfn) (hwanted : s.footWanted c d = true)
    (hoff : s.footOn c d = false) (hjudge : s.judge Act.foot (footItem c d) (footCost d) ≠ 0)
    (hd : d.val < (s.ft c).refused.length) :
    ∃ t, exec (.footpathLedgerRetry c d) s = .next t ∧ nth (t.ft c).refused d none = some s.clk.sfn ∧
      t.pow = s.pow := by
  have hexec : exec (.footpathLedgerRetry c d) s = .next (s.footAsk c d) := by
    show execFootpathLedgerRetry c d s = _
    simp only [execFootpathLedgerRetry, hwas]
    exact congrArg Host.Outcome.next (if_pos ⟨hdue, hwanted, by simp [hoff]⟩)
  obtain ⟨y, hy, hask⟩ := footAsk_refused_again hwas hjudge
  refine ⟨_, hexec, ?_⟩
  rw [hask, State.setFt_pow, State.ft_setFt_same, State.ft_congr (hy.foot rfl)]
  exact ⟨Grotto.nth_setNth_same _ _ _ hd, hy.pow rfl⟩

/-! ## The packet that goes out (R381, R385, R387) -/

/-- The next packet goes out while the transmitter runs, the line is free and no privileged calibration runs. -/
theorem exec_footpathPacketTransmit {p : FootPkt} (hnext : nextPkt (s.ft c).queue = some p) (hon : (s.ft c).txOn = true)
    (hfree : (s.ft c).freeAt ≤ s.now) (hcal : s.calRunning = false) :
    let z := s.put (on c Obj.footpathToneInUse) 0 (s.toneWanted c)
    let y := ((z.emit (.foot c (toneKhz (z.toneWanted c)) (z.u (on c Obj.footpathDepth))
      (dpskPhases false (octetBits (z.footOctets c p))))).bump (on c Obj.txPacketCount)).occur 0xD081
        { carrier := some c, cls := some 3 }
    exec (.footpathPacketTransmit c) s = .next (y.setFt c (fun f => { f with
      queue := f.queue.erase p
      seq := (f.seq + 1) % 256
      freeAt := y.now + (176 + 8 * p.data.length + 32) * 80000000 })) := by
  show execFootpathPacketTransmit c s = _
  simp only [execFootpathPacketTransmit, hnext]
  exact congrArg Host.Outcome.next (if_neg (by simp [hon, hcal, Nat.not_lt.mpr hfree]))

/-- FOOTPATH_PACKET_TRANSMIT. -/
theorem footpathPacketTransmit_sends (c : Carrier) (p : FootPkt) (s : State) (hnext : nextPkt (s.ft c).queue = some p)
    (hon : (s.ft c).txOn = true) (hfree : (s.ft c).freeAt ≤ s.now) (hcal : s.calRunning = false)
    (hcount : s.u (on c Obj.txPacketCount) < 4294967295) :
    let z := s.put (on c Obj.footpathToneInUse) 0 (s.toneWanted c)
    ∃ t, exec (.footpathPacketTransmit c) s = .next t ∧ (t.ft c).queue = (s.ft c).queue.erase p ∧
       (t.ft c).seq = ((s.ft c).seq + 1) % 256 ∧ t.u (on c Obj.footpathToneInUse) = s.toneWanted c ∧
       t.u (on c Obj.txPacketCount) = s.u (on c Obj.txPacketCount) + 1 ∧
       (t.ft c).freeAt = s.now + (176 + 8 * p.data.length + 32) * 80000000 ∧
       t.out = .foot c (toneKhz (z.toneWanted c)) (z.u (on c Obj.footpathDepth))
         (dpskPhases false (octetBits (z.footOctets c p))) :: s.out := by
  have hexec := exec_footpathPacketTransmit hnext hon hfree hcal
  extract_lets z y at hexec
  have hother : z.u (on c Obj.txPacketCount) = s.u (on c Obj.txPacketCount) :=
    State.u_put_other _ _ (okey_on_ne c (by decide))
  have hy : y = ((z.emit _).put (on c Obj.txPacketCount) 0 (z.u (on c Obj.txPacketCount) + 1 : Nat)).occur 0xD081
      { carrier := some c, cls := some 3 } :=
    congrArg (State.occur · 0xD081 _) (bump_eq_put (lt_of_eq_of_lt hother hcount))
  have hft : y.ft c = s.ft c := by rw [hy]; rfl
  have hnow : y.now = s.now := by rw [hy]; rfl
  refine ⟨_, hexec, ?_, ?_, ?_, ?_, ?_, ?_⟩
  · rw [State.ft_setFt_same, hft]
  · rw [State.ft_setFt_same, hft]
  · rw [State.setFt_u, hy, State.occur_u, State.u_put_other _ _ (okey_on_ne c (by decide)), State.emit_u,
      State.u_put_same, Int.toNat_natCast]
  · rw [State.setFt_u, hy, State.occur_u, State.u_put_same, Int.toNat_natCast, hother]
  · rw [State.ft_setFt_same, hnow]
  · rw [hy]; rfl

/-! ## Packets that wait (R387, R388) -/

/-- Into a queue with room a packet always enters. -/
theorem footQueue_enters (p : FootPkt) (hroom : (s.ft c).queue.length < 16) : p ∈ ((s.footQueue c p).ft c).queue := by
  have hfilter := Nat.lt_of_le_of_lt (List.length_filter_le
    (fun x => !(p.typ != 5 && x.typ == p.typ && x.dest == p.dest)) (s.ft c).queue) hroom
  unfold State.footQueue
  rw [if_pos hfilter, State.ft_setFt_same]
  exact List.mem_append_right _ List.mem_cons_self

/-- HELLO. -/
theorem hello_queues (c : Carrier) (s : State) (hon : (s.ft c).txOn = true)
    (hdue : (s.ft c).helloAt + s.helloSf c ≤ s.clk.sfn) :
    ∃ t, exec (.hello c) s = .next t ∧ (t.ft c).helloAt = s.clk.sfn ∧
      ((s.ft c).queue.length < 16 → { typ := 1, dest := 0xFFFF, data := s.helloPayload c } ∈ (t.ft c).queue) := by
  refine ⟨_, congrArg Host.Outcome.next (if_pos ⟨hon, hdue⟩), ?_⟩
  rw [State.ft_setFt_same]
  exact ⟨rfl, footQueue_enters _⟩

/-- While fewer than four of the host's packets wait, the next one joins them. -/
theorem footSendEffect_queues {b : List Byte} (h : ((s.ft c).queue.filter (fun p => p.typ == 5)).length < 4) :
    s.footSendEffect c b = ({}, s.footQueue c { typ := 5, dest := ofBe (slice b 2 2), data := b.drop 6 }) :=
  if_neg (Nat.not_le.mpr h)

/-- FOOTPATH_SEND. -/
theorem footpathSend_queues (w : Requester) (c : Carrier) (row b : List Byte) (s s' : State)
    (h : Admitted s s' w 2 (on c Obj.footpathSend) 0 (.octs row) (.octs b))
    (hfew : ((s'.ft c).queue.filter (fun p => p.typ == 5)).length < 4) :
    Accepts (.footpathSend w c row) s w 2 (on c Obj.footpathSend) 0
      (fun x => x = s'.footQueue c { typ := 5, dest := ofBe (slice b 2 2), data := b.drop 6 }) := by
  have hbefore : (s.footSendEffect c b).1.code = 0 := by
    rw [footSendEffect_queues (by rwa [← State.ft_congr (h.only.foot rfl)])]
  exact ⟨_, congrArg Host.Outcome.next (State.hostWrite_done h _ (footSendEffect_queues hfew) hbefore), rfl⟩

end Sending

/-- Settles O27: each command completes in the state that its rule above names; of
FOOTPATH_LEDGER_RETRY that is a direction refused once more, and the laser's frequency in a Hello is log entry 3. -/
theorem footpathSends : Obligations.FootpathSends :=
  ⟨footpathLedgerRetry_refused, footpathPacketTransmit_sends, hello_queues, footpathSend_queues⟩

section Receiving

variable {s : State} {c : Carrier}

/-! ## The receiver's states (R389) -/

theorem rxState_setRxState (s : State) (c : Carrier) (v : Nat) : (s.setRxState c v).rxState c = v :=
  (State.u_put_same ..).trans (Int.toNat_natCast v)

theorem rxState_setFt (s : State) (c : Carrier) (f : FootSt → FootSt) : (s.setFt c f).rxState c = s.rxState c :=
  State.setFt_u ..

theorem rxState_footSearch (s : State) (c : Carrier) : (s.footSearch c).rxState c = 1 :=
  rxState_setRxState s c 1

/-- A failure is counted and the search goes on. -/
theorem footSearch_counts {o : Nat} (hother : o ≠ Obj.footpathRxState) (hcount : s.u (on c o) < 4294967295) :
    ((s.bump (on c o)).footSearch c).rxState c = 1 ∧
      ((s.bump (on c o)).footSearch c).u (on c o) = s.u (on c o) + 1 := by
  refine ⟨rxState_footSearch _ c, ?_⟩
  unfold State.footSearch State.setRxState
  rw [State.u_put_other _ _ (okey_on_ne c hother)]
  exact State.u_bump_same s _ 0 (Nat.succ_lt_succ hcount)

/-! ## Tones and the sync word (R389 to R391) -/

/-- TONE_DETECTED. -/
theorem toneHeard_starts (c : Carrier) (levels : List (List Int)) (k : Nat) (s : State) (hsearch : s.rxState c = 1)
    (hfound : s.toneFound c levels = some k) :
    ∃ t, exec (.toneHeard c levels) s = .next t ∧ t.rxState c = 2 ∧ (t.ft c).tone = k ∧
      (t.ft c).level = nth (levels.headD []) k (-32768) ∧ (t.ft c).since = s.now := by
  have hexec : exec (.toneHeard c levels) s = .next ((s.setRxState c 2).setFt c (fun f => { f with
      tone := k, level := nth (levels.headD []) k (-32768), since := s.now })) := by
    show execToneHeard c levels s = _
    simp only [execToneHeard, hfound, if_pos hsearch]
  refine ⟨_, hexec, ?_⟩
  rw [rxState_setFt, rxState_setRxState, State.ft_setFt_same]
  exact ⟨rfl, rfl, rfl, rfl⟩

/-- A window that matches, in its two ways: it starts the header, or shows that the header under way was false. -/
theorem exec_syncMatch {window : BitVec 32} (hmatch : s.syncMatches c window = true) (level : Int) :
    exec (.syncMatch c window level) s = .next (
      if s.rxState c = 2 then s.startHeader c (s.ft c).tone level
      else if s.rxState c = 3 then (s.bump (on c Obj.falseDetectCount)).startHeader c (s.ft c).tone level
      else s) :=
  congrArg Host.Outcome.next (if_neg (by simp [hmatch]))

/-- SYNC_MATCH in the search for sync. -/
theorem syncMatch_starts (c : Carrier) (window : BitVec 32) (level : Int) (s : State)
    (hmatch : s.syncMatches c window = true) (hsync : s.rxState c = 2) :
    ∃ t, exec (.syncMatch c window level) s = .next t ∧ t = s.startHeader c (s.ft c).tone level ∧ t.rxState c = 3 ∧
      (t.ft c).level = level ∧ (t.ft c).header = [] := by
  obtain ⟨hstate, hlevel, hheader, -⟩ := startHeader_f s c (s.ft c).tone level
  exact ⟨_, (exec_syncMatch hmatch level).trans (congrArg _ (if_pos hsync)), rfl, hstate, hlevel, hheader⟩

/-- SYNC_MATCH in a header. -/
theorem syncMatch_again (c : Carrier) (window : BitVec 32) (level : Int) (s : State)
    (hmatch : s.syncMatches c window = true) (hheader : s.rxState c = 3) :
    exec (.syncMatch c window level) s =
      .next ((s.bump (on c Obj.falseDetectCount)).startHeader c (s.ft c).tone level) := by
  rw [exec_syncMatch hmatch, if_neg (by omega), if_pos hheader]

/-- FALSE_DETECTION. -/
theorem falseDetection_counts (c : Carrier) (s : State) (hsync : s.rxState c = 2)
    (hdue : (s.ft c).since + 96 * 80000000 ≤ s.now) (hcount : s.u (on c Obj.falseDetectCount) < 4294967295) :
    ∃ t, exec (.falseDetection c) s = .next t ∧ t.rxState c = 1 ∧
      t.u (on c Obj.falseDetectCount) = s.u (on c Obj.falseDetectCount) + 1 :=
  ⟨_, congrArg Host.Outcome.next (if_pos ⟨hsync, hdue⟩), footSearch_counts (by decide) hcount⟩

/-! ## Headers and stronger tones (R392, R393) -/

/-- HEADER_CHECK while a header is read, in its two ways. -/
theorem exec_headerCheck (hheader : s.rxState c = 3) (octets : List Byte) :
    exec (.headerCheck c octets) s = .next (
      if octets.length = 10 ∧ headerCheck octets = ofBe (slice octets 9 1) ∧ ofBe (slice octets 2 2) ≤ 256 then
        (s.setRxState c 4).setFt c (fun f => { f with header := octets })
      else (s.bump (on c Obj.headerFailCount)).footSearch c) :=
  congrArg Host.Outcome.next (if_neg (not_not_intro hheader))

/-- HEADER_CHECK of a sound header. -/
theorem headerCheck_sound (c : Carrier) (octets : List Byte) (s : State) (hheader : s.rxState c = 3)
    (hlen : octets.length = 10) (hcheck : headerCheck octets = ofBe (slice octets 9 1))
    (hpayload : ofBe (slice octets 2 2) ≤ 256) :
    ∃ t, exec (.headerCheck c octets) s = .next t ∧ t.rxState c = 4 ∧ (t.ft c).header = octets := by
  refine ⟨_, (exec_headerCheck hheader octets).trans (congrArg _ (if_pos ⟨hlen, hcheck, hpayload⟩)), ?_⟩
  rw [rxState_setFt, rxState_setRxState, State.ft_setFt_same]
  exact ⟨rfl, rfl⟩

/-- HEADER_CHECK of a header that is not sound. -/
theorem headerCheck_fails (c : Carrier) (octets : List Byte) (s : State) (hheader : s.rxState c = 3)
    (hbad : ¬(octets.length = 10 ∧ headerCheck octets = ofBe (slice octets 9 1) ∧ ofBe (slice octets 2 2) ≤ 256))
    (hcount : s.u (on c Obj.headerFailCount) < 4294967295) :
    ∃ t, exec (.headerCheck c octets) s = .next t ∧ t.rxState c = 1 ∧
      t.u (on c Obj.headerFailCount) = s.u (on c Obj.headerFailCount) + 1 :=
  ⟨_, (exec_headerCheck hheader octets).trans (congrArg _ (if_neg hbad)), footSearch_counts (by decide) hcount⟩

/-- WATCH_MATCH. -/
theorem watchHit_leaves (c : Carrier) (tone : Fin 64) (rise : List Int) (window : BitVec 32) (level : Int) (s : State)
    (hbusy : 2 ≤ s.rxState c) (hmatch : s.syncMatches c window = true) (hrise : ∀ l ∈ rise, (s.ft c).level + 60 ≤ l) :
    ∃ t, exec (.watchHit c tone rise window level) s = .next t ∧
      t = (s.bump (on c Obj.lostToStrongerCount)).startHeader c tone level ∧ t.rxState c = 3 ∧ (t.ft c).tone = tone ∧
      (t.ft c).level = level := by
  have hstronger : rise.all (fun l => decide ((s.ft c).level + 60 ≤ l)) = true :=
    List.all_eq_true.mpr (fun l hl => decide_eq_true (hrise l hl))
  obtain ⟨hstate, hlevel, -, htone⟩ := startHeader_f (s.bump (on c Obj.lostToStrongerCount)) c tone level
  exact ⟨_, congrArg Host.Outcome.next (if_pos ⟨hbusy, hstronger, hmatch⟩), rfl, hstate, htone, hlevel⟩

/-! ## Noise floors (R394) -/

/-- NOISE_FLOOR_WINDOW. -/
theorem noiseFloorWindow_means (c : Carrier) (levels : List Int) (k : Fin 64) (s : State) (hsearch : s.rxState c = 1)
    (hlen : levels.length = 64) :
    ∃ t, exec (.noiseFloorWindow c levels) s = .next t ∧ t.i (on c Obj.noiseFloor) k =
      roundDiv (((nth levels k 0 :: nth (s.ft c).floors k []).take 100).foldl (· + ·) 0)
        ((nth levels k 0 :: nth (s.ft c).floors k []).take 100).length := by
  refine ⟨_, congrArg Host.Outcome.next (if_neg (not_not_intro hsearch)), ?_⟩
  rw [hlen]
  exact (floors_upTo c levels s 64 (Nat.le_refl 64)).2 k k.isLt

/-! ## The neighbour (R396) -/

/-- NEIGHBOUR_LOST. -/
theorem neighbourLost_clears (c : Carrier) (a : Nat) (s : State) (hknown : (s.ft c).neighbour = some a)
    (hdue : (s.ft c).found + 3 * s.helloSf c ≤ s.clk.sfn) :
    ∃ t, exec (.neighbourLost c) s = .next t ∧ t.o (on c Obj.neighbour) = [] ∧
      (t.ft c).neighbour = (if s.u (on c Obj.frameLock) = 1 then some a else none) ∧ Logged s t 0xD004 (d16 a) := by
  have hexec : exec (.neighbourLost c) s = .next (((s.setFt c (fun f => { f with
      neighbour := if s.u (on c Obj.frameLock) == 1 then some a else none
      heard := f.heard.filter (fun x => x.source != a), mismatch := false, found := s.clk.sfn })).putO
        (on c Obj.neighbour) 0 []).logC c 0xD004 (d16 a)) := by
    show execNeighbourLost c s = _
    simp only [execNeighbourLost, hknown, if_pos hdue]
  refine ⟨_, hexec, ?_, ?_, (Logged.logC _ _ _ _).since (Nat.le_refl _)⟩
  · rw [State.o_logC, State.o_putO_same]
  · rw [State.ft_congr (State.logC_foot ..), State.ft_congr (State.putO_foot ..), State.ft_setFt_same]
    simp only [beq_iff_eq]

/-! ## The packet's end (R387, R392, R395) -/

/-- A packet whose CRC is right is counted, and its level and SNR are shown. -/
def packetTaken (s : State) (c : Carrier) (level snr : Int) : State :=
  ((((s.bump (on c Obj.rxPacketCount)).occur 0xD080 { carrier := some c, cls := some 3 }).put (on c Obj.lastRxLevel) 0
    level).put (on c Obj.lastRxSnr) 0 snr)

/-- FOOTPATH_PACKET_END while a packet is read, in its two ways; of a right packet's format, sender and addressee the
first that fails is counted, and the packet is acted on when none does. -/
theorem exec_footpathPacketEnd (hpayload : s.rxState c = 4) (payload : List Byte) (check : BitVec 32) (level snr : Int) :
    let h := (s.ft c).header
    let typ := ofBe (slice h 0 1)
    let source := ofBe (slice h 4 2) % 8192
    let dest := ofBe (slice h 6 2)
    let own := s.u Obj.deviceAddress
    let z := packetTaken s c level snr
    exec (.footpathPacketEnd c payload check level snr) s = .next (
      if payload.length ≠ ofBe (slice h 2 2) ∨ crc32 (h ++ payload) ≠ check.toNat then
        (s.bump (on c Obj.crcFailCount)).footSearch c
      else
        (if !footFormat typ payload.length then z.bump (on c Obj.formatErrorCount)
          else if source = own then z.bump (on c Obj.echoCount)
          else if dest ≠ own ∧ dest ≠ 0xFFFF then z.bump (on c Obj.notForUsCount)
          else z.footAct c typ source payload).footSearch c) :=
  congrArg Host.Outcome.next (if_neg (not_not_intro hpayload))

/-- FOOTPATH_PACKET_END with a right CRC. -/
theorem footpathPacketEnd_right (c : Carrier) (payload : List Byte) (check : BitVec 32) (level snr : Int) (s : State)
    (hpayload : s.rxState c = 4) (hlen : payload.length = ofBe (slice (s.ft c).header 2 2))
    (hcrc : crc32 ((s.ft c).header ++ payload) = check.toNat) :
    let h := (s.ft c).header
    let typ := ofBe (slice h 0 1)
    let source := ofBe (slice h 4 2) % 8192
    let dest := ofBe (slice h 6 2)
    let z := packetTaken s c level snr
    ∃ t, exec (.footpathPacketEnd c payload check level snr) s = .next t ∧ t.rxState c = 1 ∧
      (footFormat typ payload.length = false → t = (z.bump (on c Obj.formatErrorCount)).footSearch c) ∧
      (footFormat typ payload.length = true → source = s.u Obj.deviceAddress →
        t = (z.bump (on c Obj.echoCount)).footSearch c) ∧
      (footFormat typ payload.length = true → source ≠ s.u Obj.deviceAddress →
        (dest = s.u Obj.deviceAddress ∨ dest = 0xFFFF) → t = (z.footAct c typ source payload).footSearch c) ∧
      (footFormat typ payload.length = true → source ≠ s.u Obj.deviceAddress → dest ≠ s.u Obj.deviceAddress →
        dest ≠ 0xFFFF → t = (z.bump (on c Obj.notForUsCount)).footSearch c) := by
  refine ⟨_, (exec_footpathPacketEnd hpayload payload check level snr).trans (congrArg _ (if_neg ?_)),
    rxState_footSearch _ c, fun hformat => ?_, fun hformat hown => ?_, fun hformat hother hfor => ?_,
    fun hformat hother hnot hall => ?_⟩
  · exact not_or.mpr ⟨not_not_intro hlen, not_not_intro hcrc⟩
  · rw [hformat]; rfl
  · rw [hformat, if_neg (by decide), if_pos hown]
  · rw [hformat, if_neg (by decide), if_neg hother, if_neg (fun h => hfor.elim h.1 h.2)]
  · rw [hformat, if_neg (by decide), if_neg hother, if_pos ⟨hnot, hall⟩]

/-- FOOTPATH_PACKET_END with a wrong CRC. -/
theorem footpathPacketEnd_wrong (c : Carrier) (payload : List Byte) (check : BitVec 32) (level snr : Int) (s : State)
    (hpayload : s.rxState c = 4)
    (hwrong : payload.length ≠ ofBe (slice (s.ft c).header 2 2) ∨ crc32 ((s.ft c).header ++ payload) ≠ check.toNat)
    (hcount : s.u (on c Obj.crcFailCount) < 4294967295) :
    ∃ t, exec (.footpathPacketEnd c payload check level snr) s = .next t ∧ t.rxState c = 1 ∧
      t.u (on c Obj.crcFailCount) = s.u (on c Obj.crcFailCount) + 1 :=
  ⟨_, (exec_footpathPacketEnd hpayload payload check level snr).trans (congrArg _ (if_pos hwrong)),
    footSearch_counts (by decide) hcount⟩

end Receiving

/-- Settles O28: each command completes in the state that its rule above names. -/
theorem footpathReceives : Obligations.FootpathReceives :=
  ⟨toneHeard_starts, syncMatch_starts, syncMatch_again, falseDetection_counts, headerCheck_sound, headerCheck_fails,
    watchHit_leaves, noiseFloorWindow_means, neighbourLost_clears, footpathPacketEnd_right, footpathPacketEnd_wrong⟩

end Sys2Proof.Proofs.Footpath
end

section
/-! The statements on the supervisory converters and the filter engine (14_supervisory_converters_and_filters.md): the
case temperature above its limit (R575), the entries of the regular sequence and their words (R405, R406, R412, R413,
R416), the fast comparators (R411), the injected sequence (R408 to R410), the accumulators (R417), and the channels of
the engine with their outputs (R418 to R422), costs (R424) and filters (R421). The number of a `Keep` is the set of parts
of the state that may have changed, as Laws/Keep.lean writes it. -/

namespace Sys2Proof.Proofs.SupervisoryConverters

open Sys2Proof.Machine Sys2Proof.Claims Sys2Proof.Proofs.Superframe Sys2Proof.Laws.OfGrotto

section Converters

variable {s : State}

/-! ## The case temperature (R575) -/

/-- CASE_ABOVE_95. -/
theorem caseAbove95_logs (t0 : Nat) (s : State) (hfrom : s.svc.hotFrom = some t0)
    (hdue : t0 + sfPerSecond ≤ s.clk.sfn) (hcool : s.svc.hot = false) :
    ∃ t, exec .caseAbove95 s = .next t ∧ t.svc.hot = true ∧ t.u Obj.thermalState = 2 ∧
      ∃ temp, Logged s t 0x1015 (i16 temp) := by
  have hexec : exec .caseAbove95 s = .next (((s.setSvc (fun x => { x with hot := true })).put Obj.thermalState 0 2).log
      0x1015 (i16 (s.i Obj.caseTemp))) := by
    show execCaseAbove95 s = _
    simp only [execCaseAbove95, hfrom]
    rw [if_pos ⟨hdue, by rw [hcool]; rfl⟩]
  refine ⟨_, hexec, ?_, ?_, _, (Logged.log _ _ _).since ?_⟩
  · rw [State.log_svc, State.put_svc]; rfl
  · rw [State.u_log _ _ _ (by decide), State.u_put_same]; rfl
  · exact (State.put_keep (State.setSvc_keep (Keep.refl 524289 s) rfl _) rfl _ _ _).nextSeq

/-! ## Entries of the regular sequence (R405, R406, R412, R413, R416) -/

theorem clamp16_of_inRange {v : Int} (hlo : -32768 ≤ v) (hhi : v ≤ 32767) : clamp16 v = v := by
  unfold clamp16
  rw [if_neg (by omega), if_neg (by omega)]

/-- Which entry comes next depends on the entries that a reload holds back alone. -/
theorem nextEntry_congr {s t : State} (h : t.svc.skip = s.svc.skip) (k stop : Nat) :
    t.nextEntry k stop = s.nextEntry k stop := by
  unfold State.nextEntry State.entryRuns
  rw [h]

/-- The regular sequence goes on to its next entry and leaves the result registers. -/
theorem regularNext_of_some {k j : Nat} (h : s.nextEntry (k + 1) (48 + s.svc.userLen) = some j) :
    (s.regularNext k).svc.entry = some j ∧ (s.regularNext k).svc.regs = s.svc.regs := by
  simp only [State.regularNext, h]
  exact ⟨rfl, rfl⟩

/-- The word of entry `k` of the regular sequence with the value `v` in range. -/
def regularWord (s : State) (k : Nat) (v : Int) : Nat :=
  outWord false (s.svc.recover != 0) false false s.cal.suspect 2 k v

/-- Entry `k` of the regular sequence has stored the value `v` in range, and nobody has read it yet. -/
def conversionStored (s : State) (k : Nat) (v : Int) : State :=
  (s.setSvc (fun x => { x with
    recover := x.recover - 1
    regs := setNth x.regs k (regularWord s k v)
    accums := modNth x.accums k (fun a => a.add v false (s.svc.recover != 0) s.clk.sfn) })).occur 0xC080

theorem conversionStored_svc (s : State) (k : Nat) (v : Int) :
    (conversionStored s k v).svc.regs = setNth s.svc.regs k (regularWord s k v) ∧
      (conversionStored s k v).svc.userLen = s.svc.userLen ∧ (conversionStored s k v).svc.skip = s.svc.skip := by
  rw [conversionStored, State.occur_svc]
  exact ⟨rfl, rfl, rfl⟩

/-- SVC2_CONVERSION of an entry of the regular sequence whose result is in range: stored, read, and on to the next. -/
theorem exec_svc2Conversion_inRange {k : Nat} {samples : List Int} (hinj : s.svc.inj = none)
    (hentry : s.svc.entry = some k) (hk : k < 64) (hlen : samples.length = bits (s.entryWord k) 23 16)
    (hon : s.domOff Dn.svc = false) (hlo : -32768 ≤ meanCode samples) (hhi : meanCode samples ≤ 32767) :
    let z := conversionStored s k (meanCode samples)
    exec (.svc2Conversion samples none) s = .next ((z.consume (z.entryInput k) (bits (z.entryWord k) 25 24)
      (meanCode samples) (s.svc.recover != 0)).regularNext k) := by
  show execSvc2Conversion samples none s = _
  unfold execSvc2Conversion
  simp only [hinj, hentry, hlen, hon, clamp16_of_inRange hlo hhi, ne_eq, not_true_eq_false, or_self,
    Bool.false_eq_true, if_false, Option.isSome_none, decide_false, Bool.false_or, Nat.not_le.mpr hk]
  rfl

/-- SVC2_CONVERSION. -/
theorem svc2Conversion_stores (k j : Nat) (samples : List Int) (s : State) (hinj : s.svc.inj = none)
    (hentry : s.svc.entry = some k) (hk : k < 64) (hreg : k < s.svc.regs.length)
    (hlen : samples.length = bits (s.entryWord k) 23 16) (hon : s.domOff Dn.svc = false)
    (hlo : -32768 ≤ meanCode samples) (hhi : meanCode samples ≤ 32767)
    (hnext : s.nextEntry (k + 1) (48 + s.svc.userLen) = some j) :
    ∃ t, exec (.svc2Conversion samples none) s = .next t ∧ t.svc.entry = some j ∧
      nth t.svc.regs k 0 = outWord false (s.svc.recover != 0) false false s.cal.suspect 2 k (meanCode samples) := by
  have hexec := exec_svc2Conversion_inRange hinj hentry hk hlen hon hlo hhi
  dsimp only at hexec
  obtain ⟨hregs, huser, hskip⟩ := conversionStored_svc s k (meanCode samples)
  generalize conversionStored s k (meanCode samples) = z at hexec hregs huser hskip
  obtain ⟨hregs', huser', hskip'⟩ :=
    consume_svc z (z.entryInput k) (bits (z.entryWord k) 25 24) (meanCode samples) (s.svc.recover != 0)
  generalize z.consume _ _ _ _ = y at hexec hregs' huser' hskip'
  have hgoes : y.nextEntry (k + 1) (48 + y.svc.userLen) = some j := by
    rw [huser', huser, nextEntry_congr (hskip'.trans hskip), hnext]
  obtain ⟨hat, hkept⟩ := regularNext_of_some hgoes
  refine ⟨_, hexec, hat, ?_⟩
  rw [hkept, hregs', hregs]
  exact Grotto.nth_setNth_same _ _ _ hreg

/-! ## The fast comparators (R411) -/

/-- A code lies past a comparator's threshold, in the direction that its word `w` gives. -/
def pastThreshold (w : Nat) (code : Int) : Bool :=
  if bit w 30 then decide (ofTwos 16 (bits w 15 0) < code) else decide (code < ofTwos 16 (bits w 15 0))

/-- A code has returned by 328 codes from a comparator's threshold. -/
def backInside (w : Nat) (code : Int) : Bool :=
  if bit w 30 then decide (code ≤ ofTwos 16 (bits w 15 0) - 328) else decide (ofTwos 16 (bits w 15 0) + 328 ≤ code)

/-- A comparator has fired and is counted, and its word is not yet logged. -/
def comparatorCounted (s : State) (k : Fin 4) : State :=
  (s.put Obj.comparatorState k 2).bump Obj.comparatorFireCount k

/-- COMPARATOR_FIRE past the threshold of a comparator that is armed. -/
theorem exec_comparatorFire_armed {k : Fin 4} {code : Int} (hon : bit (s.u Obj.comparator k) 31 = true)
    (harmed : s.u Obj.comparatorState k = 1) (hawake : s.awake Dn.svc = true)
    (hpast : pastThreshold (s.u Obj.comparator k) code = true) :
    ∃ word, exec (.comparatorFire k code) s = .next (((comparatorCounted s k).log 0xC005
      (d8 k ++ d8 (bits (s.u Obj.comparator k) 29 24) ++ d32 word)).injTrigger 0 none) :=
  ⟨_, congrArg Host.Outcome.next (if_pos ⟨hon, harmed, hpast, hawake⟩)⟩

/-- Neither a log record nor a trigger of the injected sequence changes a comparator's state or count. -/
theorem u_logged_triggered (z : State) (code src : Nat) (data : List Byte) (master : Option Nat) (k : Fin 4) {o : Nat}
    (ho : o = Obj.comparatorState ∨ o = Obj.comparatorFireCount) :
    ((z.log code data).injTrigger src master).u o k = z.u o k := by
  have hother : ∀ m : Fin 4, okey o m ≠ okey Obj.injectRunCount 0 ∧ okey o m ≠ okey Obj.injectMissCount 0 ∧
      logKey (okey o m) = false := by
    rcases ho with rfl | rfl <;> decide
  obtain ⟨hrun, hmiss, hlog⟩ := hother k
  rw [injKeeps _ _ _ hrun hmiss hlog, State.u_log _ _ _ hlog]

/-- COMPARATOR_FIRE. -/
theorem comparatorFire_counts (k : Fin 4) (code : Int) (s : State) (hon : bit (s.u Obj.comparator k) 31 = true)
    (harmed : s.u Obj.comparatorState k = 1) (hawake : s.awake Dn.svc = true)
    (hcount : s.u Obj.comparatorFireCount k < 4294967295) (hpast : pastThreshold (s.u Obj.comparator k) code = true) :
    ∃ t word, exec (.comparatorFire k code) s = .next t ∧ t.u Obj.comparatorState k = 2 ∧
      t.u Obj.comparatorFireCount k = s.u Obj.comparatorFireCount k + 1 ∧
      Logged s t 0xC005 (d8 k ++ d8 (bits (s.u Obj.comparator k) 29 24) ++ d32 word) := by
  obtain ⟨word, hexec⟩ := exec_comparatorFire_armed hon harmed hawake hpast
  have hother : okey Obj.comparatorFireCount k ≠ okey Obj.comparatorState k :=
    okey_ne (by omega) (by omega) (.inl (by decide))
  have hput : (s.put Obj.comparatorState k 2).u Obj.comparatorFireCount k = s.u Obj.comparatorFireCount k :=
    State.u_put_other _ _ hother
  refine ⟨_, word, hexec, ?_, ?_, ?_⟩
  · rw [u_logged_triggered _ _ _ _ _ k (.inl rfl), comparatorCounted, State.u_bump_other _ hother.symm, State.u_put_same]
    rfl
  · rw [u_logged_triggered _ _ _ _ _ k (.inr rfl), comparatorCounted, State.u_bump_same _ _ _ (by omega), hput]
  · refine ((Logged.log _ _ _).keep (State.injTrigger_keep (Keep.refl 524361 _) rfl _ _) rfl).since ?_
    exact (State.bump_keep (State.put_keep (Keep.refl 67108863 s) rfl _ _ _) rfl _ _).nextSeq

/-- COMPARATOR_REARM. -/
theorem comparatorRearm_arms (k : Fin 4) (code : Int) (s : State) (hon : bit (s.u Obj.comparator k) 31 = true)
    (hfired : s.u Obj.comparatorState k = 2) (hback : backInside (s.u Obj.comparator k) code = true) :
    exec (.comparatorRearm k code) s = .next (s.put Obj.comparatorState k 1) :=
  congrArg Host.Outcome.next (if_pos ⟨hon, hfired, hback⟩)

/-- COMPARATOR_WRITE. -/
theorem comparatorWrite_arms (w : Requester) (k v n : Nat) (s s' : State)
    (h : Admitted s s' w 2 Obj.comparator k (.num v) (.num n)) :
    Accepts (.comparatorWrite w k v) s w 2 Obj.comparator k (fun x =>
      x = (s'.put Obj.comparator k n).put Obj.comparatorState k (b2n (bit n 31))) :=
  accepts_of_effect rfl h rfl rfl rfl

/-! ## The injected sequence (R408 to R410) -/

/-- A trigger of an empty sequence is missed, and logged with its source. -/
theorem injTrigger_of_empty (hempty : s.u Obj.injectLength = 0) (source : Nat) (master : Option Nat) :
    Logged s (s.injTrigger source master) 0xC003 (d8 source) := by
  rw [State.injTrigger, if_pos (.inl hempty)]
  exact (Logged.log _ _ _).since (State.bump_keep (Keep.refl 67108863 s) rfl _ _).nextSeq

/-- INJECT_NOW. -/
theorem injectNow_triggers (w : Requester) (v : Nat) (v' : Val) (s s' : State)
    (h : Admitted s s' w 2 Obj.injectNow 0 (.num v) v') :
    Accepts (.injectNow w v) s w 2 Obj.injectNow 0 (fun x => x = s'.injTrigger 2 (some (masterOf w)) ∧
      (s'.u Obj.injectLength = 0 → Logged s x 0xC003 (d8 2))) :=
  accepts_of_effect rfl h rfl rfl
    ⟨rfl, fun hempty => (injTrigger_of_empty hempty 2 (some (masterOf w))).since h.keep.nextSeq⟩

/-- `InjectLength` written: the length is stored, and 0 drops what is pending and ends a run after its entry. -/
theorem injectLengthEffect_stores (s : State) (n : Nat) :
    ∃ y, s.injectLengthEffect n = ({}, y) ∧ y.u Obj.injectLength = n ∧
      (n = 0 → y.svc.pending = none ∧ ∀ k, s.svc.inj = some k → y.svc.injLen = k - 63) := by
  have hput : (s.put Obj.injectLength 0 n).u Obj.injectLength = n := (State.u_put_same ..).trans (Int.toNat_natCast n)
  by_cases hn : n = 0
  · refine ⟨_, if_pos hn, (State.setSvc_u ..).trans hput, fun _ => ⟨rfl, fun k hinj => ?_⟩⟩
    simp only [State.setSvc, State.put_svc, hinj]
  · exact ⟨_, if_neg hn, hput, fun h => absurd h hn⟩

/-- INJECT_LENGTH_WRITE. -/
theorem injectLengthWrite_stores (w : Requester) (v n : Nat) (s s' : State)
    (h : Admitted s s' w 2 Obj.injectLength 0 (.num v) (.num n)) :
    Accepts (.injectLengthWrite w v) s w 2 Obj.injectLength 0 (fun x => x.u Obj.injectLength = n ∧
      (n = 0 → x.svc.pending = none ∧ ∀ k, s'.svc.inj = some k → x.svc.injLen = k - 63)) := by
  obtain ⟨y, heff, hy⟩ := injectLengthEffect_stores s' n
  exact accepts_of_effect (eff := fun x s => s.injectLengthEffect x.nat) rfl h heff (injLen_ok s n) hy

/-! ## The accumulators (R417) -/

/-- SVC_ACCUM_CLEAR. -/
theorem svcAccumClear_waits (w : Requester) (v : Nat) (v' : Val) (s s' : State)
    (h : Admitted s s' w 2 Obj.svcAccumClear 0 (.num v) v') :
    Accepts (.svcAccumClear w v) s w 2 Obj.svcAccumClear 0
      (fun x => x = s'.setSvc (fun x => { x with clearDue := true })) :=
  accepts_of_effect rfl h rfl rfl rfl

/-! ## Outputs of the filter engine (R412, R418 to R422) -/

theorem tfe_congr {s t : State} (h : t.svc = s.svc) (j : Nat) : t.tfe j = s.tfe j := by
  unfold State.tfe
  rw [h]

theorem tfe_setTfe_same (s : State) {j : Nat} (f : TfeCh → TfeCh) (hj : j < s.svc.tfe.length) :
    (s.setTfe j f).tfe j = f (s.tfe j) :=
  nth_modNth_same s.svc.tfe f TfeCh.init hj

/-- The detectors of a channel change its window and its envelope alone. -/
theorem tfe_detect {β : Type} (p : TfeCh → β) (hwindow : ∀ t w, p { t with window := w } = p t)
    (henvelope : ∀ t e, p { t with envelope := e } = p t) (s : State) (j : Nat) (out : Option Int) :
    p ((s.detect j out).tfe j) = p (s.tfe j) := by
  have hset : ∀ (z : State) (f : TfeCh → TfeCh), (∀ t, p (f t) = p t) → p ((z.setTfe j f).tfe j) = p (z.tfe j) :=
    fun z f hf => nth_modNth_keep p z.svc.tfe j j f TfeCh.init hf
  unfold State.detect
  extract_lets win s1 good peak sq s2
  have h1 : p (s1.tfe j) = p (s.tfe j) := hset s _ (fun t => hwindow t win)
  have h2 : p (s2.tfe j) = p (s.tfe j) := by
    refine (congrArg p (tfe_congr ?_ j)).trans h1
    show State.svc (ite _ _ _) = _
    split
    · rfl
    · exact (State.put_svc ..).trans (State.put_svc ..)
  cases out with
  | none => exact h2
  | some v => exact (congrArg p (tfe_congr (State.put_svc ..) j)).trans ((hset s2 _ (fun t => henvelope t _)).trans h2)

/-- A channel as it delivers an output of value `v`, with the CIC's outputs `cic` after it. -/
def outputDelivered (j : Nat) (v : Int) (cic : List Int) (t : TfeCh) : TfeCh :=
  { t with
    fed := 0, cic := cic, unsettled := t.unsettled - 1
    word := outWord (t.ovr != 0) (t.recovery != 0) (t.unsettled != 0) false false 3 j v }

/-- What the detectors leave of a channel, a delivery leaves as the output has made it. -/
theorem tfe_tfeDeliver {β : Type} (p : TfeCh → β) (hwindow : ∀ t w, p { t with window := w } = p t)
    (henvelope : ∀ t e, p { t with envelope := e } = p t) {j : Nat} (hj : j < s.svc.tfe.length) (value : Int) :
    p ((s.tfeDeliver j value).tfe j) =
      p (outputDelivered j (s.filterValue j value).1 (s.filterValue j value).2 (s.tfe j)) := by
  unfold State.tfeDeliver
  extract_lets t r unsettled w s1 s2
  have h1 : s1.tfe j = outputDelivered j r.1 r.2 t := tfe_setTfe_same s _ hj
  have h2 : s2.tfe j = s1.tfe j := by
    refine tfe_congr ?_ j
    show State.svc (ite _ _ _) = _
    split
    · exact State.add64_svc ..
    · rfl
  rw [← h1, ← h2]
  split
  · rfl
  · exact tfe_detect p hwindow henvelope s2 j _

/-- TFE_OUTPUT of a channel that runs and has the samples of an output. -/
theorem exec_tfeOutput_fed {j : Fin 8} {x : TfeIn} (hawake : s.awake Dn.svc = true) (hsample : x.sample = none)
    (hruns : s.tfeOn j = true) (hfed : decimation (s.tfeCode j) ≤ (s.tfe j).fed) :
    exec (.tfeOutput j x) s = .next (s.tfeDeliver j x.value) := by
  show execTfeOutput j x s = _
  simp only [execTfeOutput, hawake, hsample, hruns, Nat.not_lt.mpr hfed, Bool.not_true, Bool.false_eq_true, or_self,
    if_false]

/-- TFE_OUTPUT. -/
theorem tfeOutput_delivers (j : Fin 8) (x : TfeIn) (s : State) (hawake : s.awake Dn.svc = true)
    (hsample : x.sample = none) (hruns : s.tfeOn j = true) (hfed : decimation (s.tfeCode j) ≤ (s.tfe j).fed)
    (hj : j.val < s.svc.tfe.length) :
    ∃ t, exec (.tfeOutput j x) s = .next t ∧ (t.tfe j).fed = 0 ∧ (t.tfe j).unsettled = (s.tfe j).unsettled - 1 ∧
      (t.tfe j).word = outWord ((s.tfe j).ovr != 0) ((s.tfe j).recovery != 0) ((s.tfe j).unsettled != 0) false false 3 j
        (s.filterValue j x.value).1 :=
  ⟨_, exec_tfeOutput_fed hawake hsample hruns hfed,
    tfe_tfeDeliver TfeCh.fed (fun _ _ => rfl) (fun _ _ => rfl) hj x.value,
    tfe_tfeDeliver TfeCh.unsettled (fun _ _ => rfl) (fun _ _ => rfl) hj x.value,
    tfe_tfeDeliver TfeCh.word (fun _ _ => rfl) (fun _ _ => rfl) hj x.value⟩

/-- TFE_OUTPUT while SVC sleeps. -/
theorem tfeOutput_asleep (j : Fin 8) (x : TfeIn) (s : State) (hasleep : s.awake Dn.svc = false) :
    exec (.tfeOutput j x) s = .next s :=
  congrArg Host.Outcome.next (if_pos (by rw [hasleep]; rfl))

/-! ## Channels started and stopped (R421, R424) -/

/-- The access that an admitted write notes changes neither a channel's run nor what the ledger grants it. -/
theorem tfeRoom_of_noted {s' : State} (h : s' = s ∨ ∃ d, s' = s.touch d) (j : Nat) :
    s'.u Obj.tfeRun j = s.u Obj.tfeRun j ∧ s'.judge Act.tfe j 100000 = s.judge Act.tfe j 100000 := by
  rcases h with rfl | ⟨d, rfl⟩ <;> exact ⟨rfl, rfl⟩

/-- TFE_RUN_WRITE of 1 within headroom. -/
theorem tfeRunWrite_starts (w : Requester) (j v : Nat) (s s' : State)
    (h : Admitted s s' w 2 Obj.tfeRun j (.num v) (.num 1)) (hstopped : s.u Obj.tfeRun j ≠ 1)
    (hroom : s.judge Act.tfe j 100000 = 0) :
    Accepts (.tfeRunWrite w j v) s w 2 Obj.tfeRun j (fun x => x.u Obj.tfeRun j = 1) := by
  obtain ⟨hrun, hjudge⟩ := tfeRoom_of_noted h.noted j
  refine accepts_of_effect (eff := fun x s => s.tfeRunEffect j x.nat) rfl h
    (tfeStart_ok s' j (by rwa [hrun]) (by rwa [hjudge])) (congrArg (·.1.code) (tfeStart_ok s j hstopped hroom)) ?_
  unfold State.restartTfe State.unsettle
  rw [State.setTfe_u, State.setTfe_u, State.u_put_same]
  rfl

/-- TFE_RUN_WRITE of another value. -/
theorem tfeRunWrite_stops (w : Requester) (j v n : Nat) (s s' : State)
    (h : Admitted s s' w 2 Obj.tfeRun j (.num v) (.num n)) (hn : n ≠ 1) :
    Accepts (.tfeRunWrite w j v) s w 2 Obj.tfeRun j (fun x => x = (s'.put Obj.tfeRun j 0).release Act.tfe j) := by
  have hstop : ∀ z : State, z.tfeRunEffect j n = ({}, (z.put Obj.tfeRun j 0).release Act.tfe j) := fun z => if_neg hn
  exact accepts_of_effect (eff := fun x s => s.tfeRunEffect j x.nat) rfl h (hstop s') (congrArg (·.1.code) (hstop s)) rfl

/-! ## Filters and coefficients (R419, R421) -/

/-- TFE_COEFF_WRITE of a filter. -/
theorem tfeCoeffWrite_stores_filter (w : Requester) (j : Nat) (v n : Nat) (s s' : State)
    (h : Admitted s s' w 2 Obj.tfeFilter j (.num v) (.num n)) (hstopped : s.u Obj.tfeRun j ≠ 1) :
    Accepts (.tfeCoeffWrite w j (.num v)) s w 2 Obj.tfeFilter j (fun x => x = s'.put Obj.tfeFilter j n) := by
  have hstored : ∀ z : State, z.u Obj.tfeRun j ≠ 1 → z.tfeFilterEffect j n = ({}, z.put Obj.tfeFilter j n) :=
    fun z hz => if_neg hz
  exact accepts_of_effect (eff := fun x s => s.tfeFilterEffect j x.nat) rfl h
    (hstored s' (by rwa [(tfeRoom_of_noted h.noted j).1])) (congrArg (·.1.code) (hstored s hstopped)) rfl

/-- A table of coefficients of a stopped channel that has its filter's shape and, for the cascade, its poles within the
limit. -/
theorem tfeCoeffEffect_ok {j : Nat} {b : List Byte} (hstopped : s.u Obj.tfeRun j ≠ 1)
    (hshape : coeffShape (s.tfeCode j) b = true) (hpoles : s.tfeCode j = 5 → biquadOk b = true) :
    s.tfeCoeffEffect j b = ({}, s.putO Obj.tfeCoeff j b) := by
  have hstable : ¬(s.tfeCode j = 5 ∧ (!biquadOk b) = true) := fun ⟨hcascade, hbad⟩ => by simp [hpoles hcascade] at hbad
  simp only [State.tfeCoeffEffect, hshape, if_neg hstable, if_neg hstopped, Bool.not_true, Bool.false_eq_true, if_false]

/-- TFE_COEFF_WRITE of coefficients. -/
theorem tfeCoeffWrite_stores_coefficients (w : Requester) (j : Nat) (v b : List Byte) (s s' : State)
    (h : Admitted s s' w 2 Obj.tfeCoeff j (.octs v) (.octs b)) (hstopped : s.u Obj.tfeRun j ≠ 1)
    (hshape : coeffShape (s.tfeCode j) b = true) (hpoles : s.tfeCode j = 5 → biquadOk b = true) :
    Accepts (.tfeCoeffWrite w j (.octs v)) s w 2 Obj.tfeCoeff j (fun x => x = s'.putO Obj.tfeCoeff j b) := by
  have hcode : s'.tfeCode j = s.tfeCode j := by
    rcases h.noted with rfl | ⟨d, rfl⟩ <;> rfl
  exact accepts_of_effect (eff := fun x s => s.tfeCoeffEffect j x.bytes) rfl h
    (tfeCoeffEffect_ok (by rwa [(tfeRoom_of_noted h.noted j).1]) (by rwa [hcode]) (by rwa [hcode]))
    (congrArg (·.1.code) (tfeCoeffEffect_ok hstopped hshape hpoles)) rfl

end Converters

/-- Settles O41: each command completes in the state that its rule above names. A comparator's word
shows the code that fired it (log entry 68); the octets of C003h and C005h are those of log entry 7. -/
theorem serviceConverters : Obligations.ServiceConverters :=
  ⟨caseAbove95_logs, svc2Conversion_stores, comparatorFire_counts, comparatorRearm_arms, comparatorWrite_arms,
    injectNow_triggers, injectLengthWrite_stores, svcAccumClear_waits, tfeOutput_delivers, tfeOutput_asleep,
    tfeRunWrite_starts, tfeRunWrite_stops, tfeCoeffWrite_stores_filter, tfeCoeffWrite_stores_coefficients⟩

end Sys2Proof.Proofs.SupervisoryConverters
end

section
/-! The statements on the machine as a whole, which the chapters on memory (17_memory_and_icehouse.md: R471), the event
log (19_bandstand_counters.md: R534, R535) and the pins (21_pins_and_electrical.md: R571, R572) cite: what holds at reset,
what every step keeps, and which parts of the state a command may change. -/

namespace Sys2Proof.Proofs.WholeMachine

open Sys2Proof.Machine Sys2Proof.Proofs.Superframe

/-! ## At reset (R18, R471, R534, R571) -/

/-- Of an object that neither layer of values names, the factory default is in force. -/
theorem reset_values (o m : Nat) :
    State.reset.i o m = factoryNum (okey o m) ∧ State.reset.o o m = factoryOcts (okey o m) := ⟨rfl, rfl⟩

/-- The receiver of a carrier is unlocked and at the rate of the factory setting. -/
theorem reset_receiver (c : Carrier) : State.reset.u (on c Obj.lockState) = 0 ∧ State.reset.u (on c Obj.frameLock) = 0 ∧
    State.reset.u (on c Obj.symbolRate) = 330 := by
  cases c <;> decide

theorem reset_regs (i : Nat) : State.reset.svc.regs[i]? = if i < 72 then some 0 else none :=
  List.getElem?_replicate

/-- Settles O3: the second layer of values is empty, so are the lists, and `BootState`, `TimeQuality`, the lock states
and the frame locks have factory default 0. What starts empty without a rule of its own is log entry 10; that the queue
and the outputs are the interface's, log entries 14 and 15. -/
theorem resetLeaves : Obligations.ResetLeaves :=
  ⟨⟨rfl, rfl, rfl, rfl, rfl, rfl, rfl, by decide, by decide, reset_receiver, reset_regs⟩, reset_values⟩

theorem reset_memoryOk : State.reset.memoryOk := ⟨rfl, fun _ h => absurd h List.not_mem_nil⟩

theorem reset_eventsOk : State.reset.eventsOk :=
  ⟨Nat.zero_le _, fun _ h => absurd h List.not_mem_nil, List.Pairwise.nil⟩

/-- Settles O4: there is nothing in the SRAM and no record in the ring. -/
theorem invariantsAtReset : Obligations.InvariantsAtReset := ⟨reset_memoryOk, reset_eventsOk⟩

/-! ## Every step -/

/-- Settles O1: it is how a step is defined on a queue that is not empty. -/
theorem stepRunsTheFront : Obligations.StepRunsTheFront := fun _ _ _ => rfl

/-- An idle step moves the tick at most. -/
theorem idle_eq (s : State) : ∃ k, s.idle = { s with clk := { s.clk with tick := k } } := by
  unfold State.idle
  split
  · exact ⟨s.clk.tick, rfl⟩
  · exact ⟨_, rfl⟩

/-- Whatever does not look at the queue or at the tick and is kept by every command is kept by every step. -/
theorem step_keeps {P : State → State → Prop} (hexec : ∀ i s t, exec i s = .next t → P s t)
    (hqueue : ∀ s l t, P { s with pending := l } t → P s t) (htick : ∀ s k, P s { s with clk := { s.clk with tick := k } })
    {s t : State} (h : step s = .next t) : P s t := by
  cases hq : s.pending with
  | nil =>
    rw [step_of_pending_nil hq] at h
    cases h
    obtain ⟨k, hk⟩ := idle_eq s
    exact hk ▸ htick s k
  | cons i rest =>
    have hrun : exec i { s with pending := rest } = .next t := by
      rw [← h]
      unfold step
      rw [hq]
    exact hqueue s rest t (hexec i _ t hrun)

/-- Settles O5: the law of what each command keeps holds the SRAM's form, which neither the queue nor the tick enters. -/
theorem memoryStaysCanonical : Obligations.MemoryStaysCanonical := fun _ _ hok h =>
  step_keeps (P := fun s t => s.memoryOk → t.memoryOk) (fun i s t h => (exec_keep i s t h).memory)
    (fun _ _ _ hk => hk) (fun _ _ hk => hk) h hok

/-- Settles O6: the same law holds the ring's order and the count of sequence numbers. -/
theorem eventsStayInOrder : Obligations.EventsStayInOrder := fun _ _ hok h =>
  step_keeps (P := fun s t => s.eventsOk → t.eventsOk ∧ s.diag.nextSeq ≤ t.diag.nextSeq)
    (fun i s t h hok => ⟨(exec_keep i s t h).events hok, (exec_keep i s t h).nextSeq⟩)
    (fun _ _ _ hk => hk) (fun _ _ hk => ⟨hk, Nat.le_refl _⟩) h hok

/-! ## What a command may change -/

theorem mem_zones (z : Zone) : z ∈ Laws.OfMachine.zones := by cases z <;> decide

/-- A part of the state that a command's list does not name lies outside the command's number. -/
theorem keepMask_of_notMem_touched {i : Instr} {z : Zone} (h : z ∉ touched i) : Nat.land (keepMask i) z.bit = 0 := by
  have hlisted := List.all_eq_true.mp (Laws.OfMachine.touched_mask i) z (mem_zones z)
  rcases Bool.or_eq_true_iff.mp hlisted with hin | hout
  · exact absurd (List.contains_iff_mem.mp hin) h
  · exact beq_iff_eq.mp hout

/-- Settles O7: the parts outside a command's list are outside the number that its law keeps. -/
theorem frameOfEveryCommand : Obligations.FrameOfEveryCommand := fun i s t h z hz =>
  (exec_keep i s t h).same z (keepMask_of_notMem_touched hz)

/-- Settles O8: the same law for the queue and the outputs, which are the interface's (log entries 14 and 15), the count
of free values (log entry 1) and the sequence numbers of R534. -/
theorem whatNoCommandUndoes : Obligations.WhatNoCommandUndoes := fun i s t h =>
  have hkeep := exec_keep i s t h
  ⟨hkeep.pending, hkeep.out, hkeep.free, hkeep.nextSeq⟩

/-- The commands beside the restarts that write octets of the SRAM (log entries 18 and 23). -/
def WritesSram (i : Instr) : Prop :=
  (∃ u x, i = .requestCompletion u x) ∨ (∃ d b, i = .domainWakeComplete d b) ∨ (∃ d, i = .sleepEntryDone d) ∨
    (∃ p, i = .thermalTrip p) ∨ (∃ x, i = .localBoundary x) ∨ (∃ c d a x, i = .receivedBoundary c d a x) ∨
    ∃ k n, i = .sundialEntryRun k n

/-- The commands beside the restarts that take event records from those that wait. -/
def TakesRecords (i : Instr) : Prop :=
  (∃ x, i = .localBoundary x) ∨ (∃ d b, i = .domainWakeComplete d b) ∨ i = .logWrite

/-- The commands beside the restarts that change what powers the engine. -/
def ChangesSupply (i : Instr) : Prop :=
  i = .overVoltageLatchOff ∨ i = .aonLost ∨ (∃ p, i = .thermalTrip p) ∨ (∃ x, i = .localBoundary x) ∨
    (∃ c d a x, i = .receivedBoundary c d a x) ∨ ∃ k n, i = .sundialEntryRun k n

theorem isRestart_or_writesSram_or_keepMask (i : Instr) :
    IsRestart i ∨ WritesSram i ∨ Nat.land (keepMask i) 8388608 = 0 := by
  cases i with
  | powerOn | resetn | brownOut | latchOffRestart | keepAliveExit => exact .inl (by simp [IsRestart])
  | requestCompletion | domainWakeComplete | sleepEntryDone | thermalTrip | localBoundary | receivedBoundary
  | sundialEntryRun => exact .inr (.inl (by simp [WritesSram]))
  | _ => exact .inr (.inr (by simp only [keepMask]; rfl))

theorem isRestart_or_takesRecords_or_keepMask (i : Instr) :
    IsRestart i ∨ TakesRecords i ∨ Nat.land (keepMask i) 67108864 = 0 := by
  cases i with
  | powerOn | resetn | brownOut | latchOffRestart | keepAliveExit => exact .inl (by simp [IsRestart])
  | localBoundary | domainWakeComplete | logWrite => exact .inr (.inl (by simp [TakesRecords]))
  | _ => exact .inr (.inr (by simp only [keepMask]; rfl))

theorem isRestart_or_changesSupply_or_keepMask (i : Instr) :
    IsRestart i ∨ ChangesSupply i ∨ Nat.land (keepMask i) 33554432 = 0 := by
  cases i with
  | powerOn | resetn | brownOut | latchOffRestart | keepAliveExit => exact .inl (by simp [IsRestart])
  | overVoltageLatchOff | aonLost | thermalTrip | localBoundary | receivedBoundary | sundialEntryRun =>
    exact .inr (.inl (by simp [ChangesSupply]))
  | _ => exact .inr (.inr (by simp only [keepMask]; rfl))

/-- Settles O10: of every command that none of the three lists names, the law keeps the part in question. Which commands
write octets of the SRAM is log entries 18 and 23. -/
theorem fewCommandsWriteMemory : Obligations.FewCommandsWriteMemory := by
  refine ⟨fun i s t h hne => ?_, fun i s t h hne => ?_, fun i s t h hne => ?_⟩
  · have hcase := (isRestart_or_writesSram_or_keepMask i).imp_right
      (·.resolve_right fun hmask => hne ((exec_keep i s t h).sram hmask))
    simpa only [IsRestart, WritesSram, or_assoc] using hcase
  · have hcase := (isRestart_or_takesRecords_or_keepMask i).imp_right
      (·.resolve_right fun hmask => hne ((exec_keep i s t h).waits hmask))
    simpa only [IsRestart, TakesRecords, or_assoc] using hcase
  · have hcase := (isRestart_or_changesSupply_or_keepMask i).imp_right
      (·.resolve_right fun hmask => hne ((exec_keep i s t h).supply hmask))
    simpa only [IsRestart, ChangesSupply, or_assoc] using hcase

end Sys2Proof.Proofs.WholeMachine
end

section
/-! The statements on power (16_power_and_allotment.md) with the pins that carry it (21_pins_and_electrical.md): the
restarts (R468, R570 to R572), VIN outside its range (R566, R567), and the power domains asleep and awake with the
operations that stall on them (R450 to R453, R481, R506). -/

namespace Sys2Proof.Proofs.Power

open Sys2Proof.Machine Sys2Proof.Claims Sys2Proof.Laws.OfRestart Sys2Proof.Laws.OfPower Sys2Proof.Proofs.Superframe

section Restarts

/-! ## Restarts (R468, R469, R571) -/

/-- A restart leaves the engine on, with its cause, without SRAM contents or sessions, and with the Icehouse's records. -/
theorem restart_leaves (s : State) (k : Nat) :
    (s.restart k).pow.on = true ∧ (s.restart k).u Obj.resetCause = k ∧ (s.restart k).u Obj.bootState = 0 ∧
      (s.restart k).mem.sram = [] ∧ (s.restart k).mem.recs = s.mem.recs ∧ (s.restart k).aop.sessions = [] := by
  obtain ⟨hon, hmem, hsessions⟩ := restart_f s k
  obtain ⟨hboot, hcause, -⟩ := restart_u s k
  obtain ⟨-, hsram, hrecs, -, -⟩ := restarted_f s
  exact ⟨hon, hcause, hboot, by rw [hmem, hsram], by rw [hmem, hrecs], hsessions⟩

/-- A power-on begins with no latch. -/
theorem restart_one_latched (s : State) : (s.restart 1).pow.latched = false := rfl

/-- POWER_ON with AON off. -/
theorem powerOn_restarts (s : State) (hoff : s.pow.on = false) (hlatch : s.pow.latched = false)
    (haon : s.pow.aonOn = false) :
    ∃ t, exec .powerOn s = .next t ∧ t.pow.on = true ∧ t.u Obj.resetCause = 1 ∧ t.u Obj.bootState = 0 ∧
      t.mem.sram = [] ∧ t.mem.recs = s.mem.recs ∧ t.aop.sessions = [] := by
  refine ⟨s.restart 1, ?_, restart_leaves s 1⟩
  simp [exec, execPowerOn, hoff, hlatch, haon]

/-- POWER_ON with AON still supplied, which ends a brown-out of case 4. -/
theorem powerOn_keepsCause (s : State) (hoff : s.pow.on = false) (hlatch : s.pow.latched = false)
    (haon : s.pow.aonOn = true) :
    ∃ t, exec .powerOn s = .next t ∧ t.pow.on = true ∧ t.u Obj.resetCause = s.u Obj.resetCause ∧
      t.mem.recs = s.mem.recs := by
  obtain ⟨hon, hcause, -, -, hrecs, -⟩ := restart_leaves s (s.u Obj.resetCause)
  refine ⟨s.restart (s.u Obj.resetCause), ?_, hon, hcause, hrecs⟩
  simp [exec, execPowerOn, hoff, hlatch, haon]

/-- RESETN of 1 µs or more. -/
theorem resetn_restarts (ns : Nat) (s : State) (hlong : 1000 ≤ ns) (hon : s.pow.on = true) :
    ∃ t, exec (.resetn ns) s = .next t ∧ t.u Obj.resetCause = 2 ∧ t.u Obj.brownOutCount = s.u Obj.brownOutCount ∧
      t.u Obj.bootState = 0 ∧ t.mem.sram = [] ∧ t.mem.recs = s.mem.recs ∧ t.aop.sessions = [] := by
  obtain ⟨-, hcause, hrest⟩ := restart_leaves s 2
  obtain ⟨-, -, hcount⟩ := restart_u s 2
  refine ⟨s.restart 2, ?_, hcause, hcount (by decide), hrest⟩
  simp [exec, execResetn, Nat.not_lt.mpr hlong, hon]

/-- A shorter RESETN. -/
theorem resetn_short (ns : Nat) (s : State) (hshort : ns < 1000) : exec (.resetn ns) s = .next s :=
  congrArg Host.Outcome.next (if_pos (.inl hshort))

/-- A brown-out as it is recorded: its cause set and counted. -/
def brownOutNoted (s : State) (k : Nat) : State := (s.bump Obj.brownOutCount).put Obj.resetCause 0 (k + 3 : Nat)

theorem brownOutNoted_counts {s : State} (k : Nat) (h : s.u Obj.brownOutCount < 4294967295) :
    (brownOutNoted s k).u Obj.brownOutCount = s.u Obj.brownOutCount + 1 := by
  rw [brownOutNoted, State.u_put_other _ _ (by decide)]
  exact s.u_bump_same _ _ (Nat.succ_lt_succ h)

/-- The supply goes and AON keeps its own or not: no domain but AON stays on, and the objects stand. -/
theorem powerDown_leaves (s : State) (aon : Bool) : (s.powerDown aon).pow.on = false ∧
    (s.powerDown aon).pow.aonOn = aon ∧ (s.powerDown aon).mem = s.mem ∧
    ∀ o m, (s.powerDown aon).u o m = s.u o m := ⟨rfl, rfl, rfl, fun _ _ => rfl⟩

theorem powerDown_dom_off (s : State) (d : Nat) : ((s.powerDown false).dom d).st = .off := by
  unfold State.dom State.powerDown nth
  simp only [List.getElem?_map, Bool.false_and, Bool.false_eq_true, if_false]
  cases (List.range 25)[d]? <;> rfl

/-- BROWN_OUT of each case: the last one leaves AON alone with supply. -/
theorem brownOut_notes (k : Fin 4) (s : State) (hon : s.pow.on = true) (hcase : k.val < 2 → s.pow.keepAlive = true)
    (hcount : s.u Obj.brownOutCount < 4294967295) :
    ∃ t, exec (.brownOut k) s = .next t ∧ t.u Obj.resetCause = k.val + 3 ∧
      t.u Obj.brownOutCount = s.u Obj.brownOutCount + 1 ∧ t.mem.recs = s.mem.recs ∧
      (k.val = 3 → t.pow.on = false ∧ t.pow.aonOn = true) ∧ (k.val ≠ 3 → t.pow.on = true ∧ t.mem.sram = []) := by
  have hruns : ¬(s.pow.on = false ∨ (k.val < 2 ∧ s.pow.keepAlive = false)) := by
    rintro (hoff | ⟨hlow, hka⟩)
    · exact Bool.noConfusion (hoff.symm.trans hon)
    · exact Bool.noConfusion (hka.symm.trans (hcase hlow))
  have hexec : exec (.brownOut k) s = .next (if k.val = 3 then (brownOutNoted s k).powerDown true
      else (brownOutNoted s k).restart (k.val + 3)) := congrArg Host.Outcome.next (if_neg hruns)
  have hcounted := brownOutNoted_counts k.val hcount
  have hrecs : (brownOutNoted s k).mem.recs = s.mem.recs := by simp [brownOutNoted]
  refine ⟨_, hexec, ?_⟩
  by_cases hk : k.val = 3
  · rw [if_pos hk]
    obtain ⟨hoff, haon, hmem, hu⟩ := powerDown_leaves (brownOutNoted s k) true
    refine ⟨?_, (hu _ _).trans hcounted, by rw [hmem, hrecs], fun _ => ⟨hoff, haon⟩, fun hne => absurd hk hne⟩
    rw [hu, brownOutNoted, State.u_put_same]
    exact Int.toNat_natCast _
  · rw [if_neg hk]
    obtain ⟨hon', hcause, -, hsram, hrecs', -⟩ := restart_leaves (brownOutNoted s k) (k.val + 3)
    obtain ⟨-, -, hkept⟩ := restart_u (brownOutNoted s k) (k.val + 3)
    exact ⟨hcause, (hkept (by omega)).trans hcounted, hrecs'.trans hrecs, fun h => absurd h hk, fun _ => ⟨hon', hsram⟩⟩

/-- AON_LOST. -/
theorem aonLost_leaves (s : State) : ∃ t, exec .aonLost s = .next t ∧ t.pow.on = false ∧ t.pow.aonOn = false ∧
    ∀ d, d < 25 → (t.dom d).st = .off :=
  ⟨s.powerDown false, rfl, rfl, rfl, fun d _ => powerDown_dom_off s d⟩

end Restarts

/-- Settles O19: each command completes in the state that its rule above names. -/
theorem restartsBegin : Obligations.RestartsBegin :=
  ⟨powerOn_restarts, powerOn_keepsCause, resetn_restarts, resetn_short, brownOut_notes, aonLost_leaves⟩

section Vin

/-! ## VIN outside its range (R566, R567) -/

/-- VIN_ABOVE_60. -/
theorem vinAbove60_notes (mv : Nat) (s : State) (hon : s.pow.on = true) (hin : s.pow.vinState = 0) :
    ∃ t, exec (.vinAbove60 mv) s = .next t ∧ t.pow.vinState = 2 ∧ t.pow.vinExtreme = mv ∧ t.pow.vinSince = s.clk.sfn ∧
      (s.awake Dn.ctl = true → Logged s t 0x1017 (d32 mv ++ d32 0)) :=
  ⟨s.vinOut 2 mv, rfl, vinOut_f s 2 mv hon hin (.inr rfl)⟩

/-- VIN_BELOW_6. -/
theorem vinBelow6_notes (mv : Nat) (s : State) (hon : s.pow.on = true) (hin : s.pow.vinState = 0) :
    ∃ t, exec (.vinBelow6 mv) s = .next t ∧ t.pow.vinState = 1 ∧ t.pow.vinExtreme = mv ∧ t.pow.vinSince = s.clk.sfn ∧
      (s.awake Dn.ctl = true → Logged s t 0x1018 (d32 mv ++ d32 0)) :=
  ⟨s.vinOut 1 mv, rfl, vinOut_f s 1 mv hon hin (.inl rfl)⟩

/-- What is said of VIN is logged while CTL is awake, and what powers the engine stays. -/
theorem logVin_logs (s : State) (side mv ms : Nat) : (s.logVin side mv ms).pow = s.pow ∧
    (s.awake Dn.ctl = true → Logged s (s.logVin side mv ms) (if side = 2 then 0x1017 else 0x1018) (d32 mv ++ d32 ms)) := by
  unfold State.logVin
  split
  · exact ⟨s.log_pow _ _, fun _ => Logged.log ..⟩
  next hasleep => exact ⟨rfl, fun h => absurd h hasleep⟩

/-- VIN is noted to be back inside its range. -/
def vinInside (s : State) : State := { s with pow := { s.pow with vinState := 0 } }

/-- VIN_BACK. -/
theorem vinBack_ends (extreme : Nat) (s : State) (hout : s.pow.vinState = 1 ∨ s.pow.vinState = 2) :
    ∃ t, exec (.vinBack extreme) s = .next t ∧ t.pow.vinState = 0 ∧
      (s.awake Dn.ctl = true → Logged s t (if s.pow.vinState = 2 then 0x1017 else 0x1018)
        (d32 extreme ++ d32 ((s.clk.sfn - s.pow.vinSince) / 10))) := by
  have hne : s.pow.vinState ≠ 0 := by rcases hout with h | h <;> rw [h] <;> decide
  obtain ⟨hpow, hlog⟩ := logVin_logs (vinInside s) s.pow.vinState extreme ((s.clk.sfn - s.pow.vinSince) / 10)
  exact ⟨_, congrArg Host.Outcome.next (if_neg hne), congrArg Power.vinState hpow, hlog⟩

/-- OVER_VOLTAGE_LATCH_OFF. -/
theorem overVoltageLatchOff_latches (s : State) : ∃ t, exec .overVoltageLatchOff s = .next t ∧ t.pow.on = false ∧
    t.pow.aonOn = false ∧ t.pow.latched = true ∧ ∀ d, d < 25 → (t.dom d).st = .off :=
  ⟨_, rfl, rfl, rfl, rfl, fun d _ => powerDown_dom_off s d⟩

/-- LATCH_OFF_RESTART. -/
theorem latchOffRestart_starts (s : State) (hlatch : s.pow.latched = true) :
    ∃ t, exec .latchOffRestart s = .next t ∧ t.pow.on = true ∧ t.pow.latched = false ∧ t.u Obj.resetCause = 1 ∧
      t.mem.sram = [] ∧ t.mem.recs = s.mem.recs := by
  obtain ⟨hon, hcause, -, hsram, hrecs, -⟩ := restart_leaves s 1
  exact ⟨s.restart 1, congrArg Host.Outcome.next (if_pos hlatch), hon, restart_one_latched s, hcause, hsram, hrecs⟩

end Vin

/-- Settles O20: each command completes in the state that its rule above names. The widths and units of 1017h and 1018h
are those of log entry 7. -/
theorem supplyLeavesAndReturns : Obligations.SupplyLeavesAndReturns :=
  ⟨vinAbove60_notes, vinBelow6_notes, vinBack_ends, overVoltageLatchOff_latches, latchOffRestart_starts⟩

section Domains

variable {d : Fin 25} {s : State}

/-! ## Sleep (R450 to R452) -/

/-- A domain that is not off has an entry. -/
theorem lt_doms_length_of_st {d : Nat} (h : (s.dom d).st ≠ .off) : d < s.pow.doms.length := by
  refine Nat.lt_of_not_le fun hout => h ?_
  rw [State.dom, nth, List.getElem?_eq_none hout]
  rfl

theorem setDom_length (s : State) (d : Nat) (f : Dom → Dom) : (s.setDom d f).pow.doms.length = s.pow.doms.length :=
  Laws.OfAgreement.modNth_length f s.pow.doms d

/-- A domain's supply goes off with its ledger cost. -/
theorem supplyOff_leaves (s : State) (d : Nat) : ((s.supplyOff d).dom d).st = .off ∧
    ∀ x ∈ (s.supplyOff d).pow.ledger, ¬(x.act = Act.domain ∧ x.item = d) := by
  refine ⟨dom_setDom_st _ _ _ _ (fun _ => rfl) (.inl rfl), fun x hx => ?_⟩
  rintro ⟨hact, hitem⟩
  simpa [hact, hitem] using (List.mem_filter.mp hx).2

/-- SLEEP_ENTRY_DONE that no access waits for. -/
theorem sleepEntryDone_turnsOff (d : Fin 25) (s : State) (hst : (s.dom d).st = .entering)
    (hwake : (s.dom d).wakeNext = false) :
    ∃ t, exec (.sleepEntryDone d) s = .next t ∧ (t.dom d).st = .off ∧
      ∀ x ∈ t.pow.ledger, ¬(x.act = Act.domain ∧ x.item = d.val) := by
  refine ⟨s.supplyOff d, ?_, supplyOff_leaves s d⟩
  simp [exec, execSleepEntryDone, hst, hwake]

/-- IDLE_TIMER_EXPIRE once the domain's idle time has passed is an attempt at sleep. -/
theorem exec_idleTimerExpire_due (hawake : s.awake d = true) (hidle : neverIdle d = false)
    (hset : s.u Obj.idleTimer d ≠ 0xFFFFFFFF) (hdue : (s.dom d).access + sfOfMs (s.u Obj.idleTimer d) ≤ s.clk.sfn) :
    exec (.idleTimerExpire d) s = .next (s.trySleep d) :=
  congrArg Host.Outcome.next (if_pos ⟨hawake, hidle, hset, hdue⟩)

/-- IDLE_TIMER_EXPIRE that nothing refuses. -/
theorem idleTimerExpire_sleeps (d : Fin 25) (s : State) (hawake : s.awake d = true) (hidle : neverIdle d = false)
    (hset : s.u Obj.idleTimer d ≠ 0xFFFFFFFF) (hdue : (s.dom d).access + sfOfMs (s.u Obj.idleTimer d) ≤ s.clk.sfn)
    (hfree : s.refuser d = 0) : exec (.idleTimerExpire d) s = .next (s.beginSleep d false) :=
  (exec_idleTimerExpire_due hawake hidle hset hdue).trans (congrArg Host.Outcome.next (if_pos hfree))

/-- IDLE_TIMER_EXPIRE that is refused. -/
theorem idleTimerExpire_refused (d : Fin 25) (s : State) (hawake : s.awake d = true) (hidle : neverIdle d = false)
    (hset : s.u Obj.idleTimer d ≠ 0xFFFFFFFF) (hdue : (s.dom d).access + sfOfMs (s.u Obj.idleTimer d) ≤ s.clk.sfn)
    (hrefused : s.refuser d ≠ 0) :
    ∃ t, exec (.idleTimerExpire d) s = .next t ∧ (t.dom d).st = .awake ∧ (t.dom d).access = s.clk.sfn := by
  have hst : (s.dom d).st = .awake := of_decide_eq_true hawake
  have hlt : d.val < s.pow.doms.length := lt_doms_length_of_st (by rw [hst]; decide)
  refine ⟨_, (exec_idleTimerExpire_due hawake hidle hset hdue).trans (congrArg Host.Outcome.next (if_neg hrefused)), ?_, ?_⟩
  · rw [State.dom_touch_st]
    exact (nth_modNth_keep Dom.st s.pow.doms d d (fun x => { x with refused := modNth x.refused (s.refuser d - 1) (· + 1) })
      Dom.init fun _ => rfl).trans hst
  · exact congrArg Dom.access (nth_modNth_same _ _ _ (by rwa [setDom_length]))

/-! ## Accesses (R450, R452) -/

/-- DOMAIN_ACCESS of an awake domain. -/
theorem domainAccess_notes (d : Fin 25) (s : State) (hd : d.val ≠ 0) (hst : (s.dom d).st = .awake) :
    ∃ t, exec (.domainAccess d) s = .next t ∧ (t.dom d).st = .awake ∧ t = s.touch d := by
  refine ⟨s.touch d, ?_, (s.dom_touch_st d d).trans hst, rfl⟩
  simp only [exec, execDomainAccess, if_neg hd, s.accessDom_awake d hst]

/-- DOMAIN_HOLD_WRITE. -/
theorem domainHoldWrite_stores (w : Requester) (d : Fin 25) (v n : Int) (s s' : State)
    (h : Admitted s s' w 2 Obj.domainHold d (.num v) (.num n)) :
    Accepts (.domainHoldWrite w d v) s w 2 Obj.domainHold d (fun x => x = s'.put Obj.domainHold d n) :=
  accepts_of_effect rfl h rfl rfl rfl

/-! ## The end of a wake (R453, R473, R481) -/

/-- A slow wake is logged and no more. -/
theorem slowWake_keeps (s : State) (d : Nat) : (s.slowWake d).pow = s.pow ∧ (s.slowWake d).mem = s.mem ∧
    (s.slowWake d).aop.stalls = s.aop.stalls := by
  dsimp only [State.slowWake]
  split
  · exact ⟨s.log_pow _ _, s.log_mem _ _, s.log_stalls _ _⟩
  · exact ⟨rfl, rfl, rfl⟩

/-- Banks that hold no contents are not checked. -/
theorem retentionCheck_none {d : Nat} (bad : List Nat) (h : ∀ r ∈ s.retBanksOf d, (s.ret r).state ≠ 1) :
    s.retentionCheck d bad = ([], [], s) := by
  have hnone : (s.retBanksOf d).filter (fun r => (s.ret r).state == 1) = [] :=
    List.filter_eq_nil_iff.mpr fun r hr => by simpa using h r hr
  simp only [State.retentionCheck, hnone, List.filter_nil, List.map_nil, List.foldl_nil]

/-- The domains whose chapter acts at the end of their wake. -/
def wakeActs : List Nat :=
  [Dn.ctl, Dn.grt, Dn.svc, Dn.hla, Dn.hla + 1, Dn.hla + 2, Dn.hla + 3, Dn.dpa, Dn.dpa + 1, Dn.dpa + 2, Dn.dpa + 3,
    Dn.tx .a, Dn.tx .b, Dn.rx .a, Dn.rx .b]

/-- Of every other domain no chapter does. -/
theorem woken_eq_self {d : Nat} (h : d ∉ wakeActs) (held lost : List Nat) : s.woken d held lost = s := by
  simp only [wakeActs, List.mem_cons, List.not_mem_nil, or_false, not_or] at h
  obtain ⟨hctl, hgrt, hsvc, h0, h1, h2, h3, b0, b1, b2, b3, hta, htb, hra, hrb⟩ := h
  unfold State.woken
  rw [if_neg hctl, if_neg hgrt, if_neg hsvc, if_neg (by omega), if_neg (by omega), if_neg hta, if_neg htb, if_neg hra,
    if_neg hrb]

/-- A domain's wake ends with its access noted, where nothing is retained, no chapter acts and no operation stalls. -/
def wakeEnded (s : State) (d : Nat) : State :=
  (((s.setDom d (fun x => { x with st := .awake })).touch d).applyHeld d).setAop
    (fun a => { a with stalls := a.stalls.filter (fun x => x.dom != d) })

/-- With no setting held for the domain, it is awake and the memory as it was. -/
theorem wakeEnded_leaves {d : Nat} (hlt : d < s.pow.doms.length) (hheld : ∀ h ∈ s.pow.held, h.dom ≠ d) :
    ((wakeEnded s d).dom d).st = .awake ∧ (wakeEnded s d).mem = s.mem := by
  obtain ⟨-, hdoms, hmem⟩ := applyHeld_none ((s.setDom d (fun x => { x with st := .awake })).touch d) d hheld
  refine ⟨?_, hmem⟩
  have hst := (State.dom_touch_st (s.setDom d (fun x => { x with st := .awake })) d d).trans
    (dom_setDom_st s d (fun x => { x with st := .awake }) .awake (fun _ => rfl) (.inr hlt))
  rw [State.dom, ← hdoms] at hst
  exact hst

/-- Stored settings and stalled operations of a domain that has none. -/
theorem runs_nothing {d : Nat} (hheld : ∀ h ∈ s.pow.held, h.dom ≠ d) (hstall : ∀ x ∈ s.aop.stalls, x.dom ≠ d) :
    (((s.setDom d (fun x => { x with st := .awake })).touch d).applyHeld d).runStalls d = wakeEnded s d := by
  obtain ⟨haop, -, -⟩ := applyHeld_none ((s.setDom d (fun x => { x with st := .awake })).touch d) d hheld
  exact runStalls_none _ _ (by rwa [haop])

theorem finishWake_quiet {d : Nat} {bad : List Nat} (hquiet : d ∉ wakeActs)
    (hret : ∀ r ∈ ((s.slowWake d).clearDomainSram d).retBanksOf d, (((s.slowWake d).clearDomainSram d).ret r).state ≠ 1)
    (hheld : ∀ h ∈ ((s.slowWake d).clearDomainSram d).pow.held, h.dom ≠ d)
    (hstall : ∀ x ∈ ((s.slowWake d).clearDomainSram d).aop.stalls, x.dom ≠ d) :
    s.finishWake d bad = wakeEnded ((s.slowWake d).clearDomainSram d) d := by
  rw [← runs_nothing hheld hstall]
  simp only [State.finishWake, retentionCheck_none bad hret, woken_eq_self hquiet]

theorem retBanks_congr {t : State} (h : t.mem.ret = s.mem.ret) (d : Nat) :
    t.retBanksOf d = s.retBanksOf d ∧ ∀ r, t.ret r = s.ret r := by
  have hbank : ∀ r, t.ret r = s.ret r := fun r => by rw [State.ret, State.ret, h]
  exact ⟨by simp only [State.retBanksOf, hbank], hbank⟩

/-- DOMAIN_WAKE_COMPLETE of a domain whose chapter does not act, with nothing retained, held or stalled for it. -/
theorem domainWakeComplete_wakes (d : Fin 25) (bad : List (Fin 16)) (s : State) (hst : (s.dom d).st = .waking)
    (hquiet : d.val ∉ wakeActs) (hret : ∀ r ∈ s.retBanksOf d, (s.ret r).state ≠ 1) (hheld : ∀ h ∈ s.pow.held, h.dom ≠ d.val)
    (hstall : ∀ x ∈ s.aop.stalls, x.dom ≠ d.val) :
    ∃ t, exec (.domainWakeComplete d bad) s = .next t ∧ (t.dom d).st = .awake ∧
      ∀ p ∈ t.mem.sram, 1408 * bankSize ≤ p.1 ∨ bankDomain (p.1 / bankSize) ≠ d.val := by
  have hlt : d.val < s.pow.doms.length := lt_doms_length_of_st (by rw [hst]; decide)
  have hexec : exec (.domainWakeComplete d bad) s = .next (s.finishWake d (bad.map (·.val))) :=
    by simp only [exec, execDomainWakeComplete, hst, ne_eq, not_true_eq_false, if_false]
  obtain ⟨hpow, hmem, hstalls⟩ := slowWake_keeps s d
  obtain ⟨hstalls', hpow', hret', hsram⟩ := clear_f (s.slowWake d) d
  obtain ⟨hbanks, hbank⟩ := retBanks_congr (hret'.trans (congrArg Mem.ret hmem)) d
  rw [finishWake_quiet hquiet (by simpa only [hbanks, hbank] using hret) (by rwa [hpow', hpow])
    (by rwa [hstalls', hstalls])] at hexec
  obtain ⟨hawake, hmem'⟩ := wakeEnded_leaves (by rwa [hpow', hpow]) (by rwa [hpow', hpow])
  exact ⟨_, hexec, hawake, by rwa [hmem']⟩

/-! ## Operations that stall on a wake (R453, R506, R511) -/

/-- The message of progress that a stalled operation is owed. -/
def progressMsg (x : Stall) : Output :=
  .aop x.asker.transport x.asker.source x.asker.port (aopMsg 3 1 x.asker.session x.asker.sequence 0
    (opMsg x.op.op 0 x.op.obj x.op.mem 0x0401 0 [] []))

/-- The stalled operation has been told of progress now. -/
def stallTold (s : State) (i : Nat) (x : Stall) : State :=
  s.setAop (fun a => { a with stalls := setNth a.stalls i { x with told := some s.clk.sfn } })

theorem stallTold_stalls {i : Nat} {x : Stall} (hx : s.aop.stalls[i]? = some x) :
    (stallTold s i x).aop.stalls[i]? = some { x with told := some s.clk.sfn } := by
  obtain ⟨hlt, -⟩ := List.getElem?_eq_some_iff.mp hx
  exact (getElem?_setNth _ _ _ _).trans (if_pos ⟨rfl, hlt⟩)

/-- WAKE_STALL_PROGRESS when it is due; the first time the violation log takes it. -/
theorem exec_wakeStallProgress_due {i : Nat} {x : Stall} (hx : s.aop.stalls[i]? = some x)
    (hdue : x.told.getD x.since + progressSf ≤ s.clk.sfn) :
    exec (.wakeStallProgress i) s = .next ((if x.told.isNone then
      (stallTold s i x).violate x.asker x.op.op x.op.obj x.op.mem 0x0401 else stallTold s i x).emit (progressMsg x)) := by
  simp only [exec, execWakeStallProgress, hx, if_neg (Nat.not_lt.mpr hdue)]
  rfl

/-- WAKE_STALL_PROGRESS. -/
theorem wakeStallProgress_tells (i : Nat) (x : Stall) (s : State) (hx : s.aop.stalls[i]? = some x)
    (hdue : x.told.getD x.since + progressSf ≤ s.clk.sfn) :
    ∃ t, exec (.wakeStallProgress i) s = .next t ∧ t.aop.stalls[i]? = some { x with told := some s.clk.sfn } ∧
      t.out = progressMsg x :: s.out ∧ (x.told = none → t.aop.violCount = s.aop.violCount + 1) := by
  refine ⟨_, exec_wakeStallProgress_due hx hdue, ?_⟩
  cases htold : x.told.isNone with
  | true => exact ⟨stallTold_stalls hx, rfl, fun _ => rfl⟩
  | false => exact ⟨stallTold_stalls hx, rfl, fun hnone => by rw [hnone] at htold; cases htold⟩

/-- A refusal leaves the operations that stall as they are. -/
theorem refuse_stalls (s : State) (w : Requester) (op o m code : Nat) :
    (s.refuse w op o m code).aop.stalls = s.aop.stalls := by
  unfold State.refuse State.respond
  split
  · rfl
  · dsimp only
    split <;> rfl

/-- STALL_LIMIT. -/
theorem stallLimit_ends (i : Nat) (x : Stall) (s : State) (hx : s.aop.stalls[i]? = some x)
    (hdue : x.since + 600000 ≤ s.clk.sfn) :
    ∃ t, exec (.stallLimit i) s = .next t ∧ t.aop.stalls = s.aop.stalls.eraseIdx i ∧
      Logged s t 0x200B (d8 x.dom) ∧ t.pow = s.pow := by
  have hexec : exec (.stallLimit i) s = .next (((s.setAop (fun a => { a with stalls := a.stalls.eraseIdx i })).log 0x200B
      (d8 x.dom)).refuse x.asker x.op.op x.op.obj x.op.mem 0x0801) := by
    simp only [exec, execStallLimit, hx, if_neg (Nat.not_lt.mpr hdue)]
  refine ⟨_, hexec, ?_, ?_, ?_⟩
  · rw [refuse_stalls, State.log_stalls]
    rfl
  · exact ((Logged.log (s.setAop (fun a => { a with stalls := a.stalls.eraseIdx i })) _ _).since (Nat.le_refl _)).mono
      (State.refuse_waits ..)
  · rw [State.refuse_pow, State.log_pow]
    rfl

end Domains

/-- Settles O23: each command completes in the state that its rule above names. Where the title says progress goes out
once a second, R453 and R506 give every 100 ms, which is what `progressSf` counts. The octet of 200Bh is that of log
entry 7. -/
theorem domainsSleepAndWake : Obligations.DomainsSleepAndWake :=
  ⟨sleepEntryDone_turnsOff, idleTimerExpire_sleeps, idleTimerExpire_refused, domainAccess_notes, domainHoldWrite_stores,
    domainWakeComplete_wakes, wakeStallProgress_tells, stallLimit_ends⟩

end Sys2Proof.Proofs.Power
end

section
/-! The statements on the object dictionary (18_object_dictionary.md): describes (R503), and writes of any object (R502,
R505, R512) with the acknowledgement of the alert line (21_pins_and_electrical.md: R573). -/

namespace Sys2Proof.Proofs.ObjectDictionary

open Sys2Proof.Machine Sys2Proof.Claims Sys2Proof.Proofs.Superframe

section Describes

/-! ## Describes (R503) -/

/-- A describe of an object and member that exist, where the object is served. -/
theorem describe_accepted (w : Requester) (o : BitVec 16) (m : BitVec 8) (r : DictRow) (s : State)
    (hsession : s.badSession w = false) (hrow : dictRow o.toNat = some r)
    (hserved : s.recovering = false ∨ servedInRecovery o.toNat = true) (hlo : r.memLo ≤ m.toNat) (hhi : m.toNat ≤ r.memHi) :
    exec (.describe w o m) s = .next (s.accept w 6 0 o.toNat m.toNat 8 []
      (be 1 r.ty.code ++ be 1 r.acc.code ++ be 1 r.rd ++ be 1 r.wr ++ be 2 (r.memHi + 1) ++ be 2 0)) := by
  have hopen : (s.recovering && !servedInRecovery o.toNat) = false := by
    rcases hserved with h | h <;> simp [h]
  have hmember : (decide (m.toNat < r.memLo) || decide (r.memHi < m.toNat)) = false := by
    simp [Nat.not_lt.mpr hlo, Nat.not_lt.mpr hhi]
  refine congrArg Host.Outcome.next ?_
  simp only [State.describeOp, hsession, hrow, hopen, hmember, Bool.false_eq_true, if_false]

/-- The roles of a row are codes of R503: 0 to 4, or 255 for none. -/
def rolesCoded (r : DictRow) : Bool :=
  (decide (r.rd ≤ 4) || decide (r.rd = 255)) && (decide (r.wr ≤ 4) || decide (r.wr = 255))

theorem dictOf_rolesCoded (k : Nat) : (dictOf k).all rolesCoded = true := by
  unfold dictOf
  split <;> decide

theorem dictRow_rolesCoded (o : Nat) (r : DictRow) (h : dictRow o = some r) :
    (r.rd ≤ 4 ∨ r.rd = 255) ∧ (r.wr ≤ 4 ∨ r.wr = 255) := by
  have hcoded := List.all_eq_true.mp (dictOf_rolesCoded (o / 4096)) r (List.mem_of_find?_eq_some h)
  simpa only [rolesCoded, Bool.and_eq_true, Bool.or_eq_true, decide_eq_true_eq] using hcoded

end Describes

/-- Settles O18: the role enters no branch of a describe, and every row of the dictionary shows its roles in their
codes. -/
theorem describesAnswerEightOctets : Obligations.DescribesAnswerEightOctets :=
  ⟨describe_accepted, rfl, rfl, rfl, rfl, rfl, dictRow_rolesCoded⟩

section Writes

variable {s s' y : State} {w : Requester}

/-! ## The alert line (R573) -/

theorem alertAckEffect_releases {q r : Nat} (halert : s.diag.alerting = some r) (h : r ≤ q) :
    s.alertAckEffect q = ({}, { s with diag := { s.diag with alerting := none } }.put Obj.alertState 0 0) := by
  simp only [State.alertAckEffect, halert, if_pos h]

theorem alertAckEffect_early {q r : Nat} (halert : s.diag.alerting = some r) (h : q < r) :
    s.alertAckEffect q = ({}, s) := by
  simp only [State.alertAckEffect, halert, if_neg (Nat.not_le.mpr h)]

/-- ALERT_ACK comes to the effect of the record that it names. -/
theorem alertAck_accepts {v : Int} {q : Nat} {P : State → Prop} (h : Admitted s s' w 2 Obj.alertAck 0 (.num v) (.num q))
    (heff : s'.alertAckEffect q = ({}, y)) (hP : P y) : Accepts (.alertAck w v) s w 2 Obj.alertAck 0 P :=
  accepts_of_effect (eff := fun x s => s.alertAckEffect x.nat) rfl h heff (Laws.OfCounters.alertAck_ok s q) hP

/-- ALERT_ACK while a record alerts. -/
theorem alertAck_alerting (w : Requester) (v : Int) (q r : Nat) (s s' : State)
    (h : Admitted s s' w 2 Obj.alertAck 0 (.num v) (.num q)) (halert : s'.diag.alerting = some r) :
    Accepts (.alertAck w v) s w 2 Obj.alertAck 0 (fun x =>
      (r ≤ q → x = { s' with diag := { s'.diag with alerting := none } }.put Obj.alertState 0 0) ∧ (q < r → x = s')) := by
  rcases Nat.lt_or_ge q r with hlt | hle
  · exact alertAck_accepts h (alertAckEffect_early halert hlt) ⟨fun hle => absurd hlt (Nat.not_lt.mpr hle), fun _ => rfl⟩
  · exact alertAck_accepts h (alertAckEffect_releases halert hle) ⟨fun _ => rfl, fun hlt => absurd hlt (Nat.not_lt.mpr hle)⟩

/-- ALERT_ACK with nothing alerting. -/
theorem alertAck_quiet (w : Requester) (v : Int) (q : Nat) (s s' : State)
    (h : Admitted s s' w 2 Obj.alertAck 0 (.num v) (.num q)) (hquiet : s'.diag.alerting = none) :
    Accepts (.alertAck w v) s w 2 Obj.alertAck 0 (fun x => x = s') := by
  refine alertAck_accepts h ?_ rfl
  simp only [State.alertAckEffect, hquiet]

/-! ## Immediate writes (R502, R505) -/

/-- AOP_WRITE of a value that comes whole runs the effect that the object's owner gives. -/
theorem exec_aopWrite_whole {o : BitVec 16} {offset : BitVec 32} (hwhole : offset = 0 ∨ longType o.toNat = false)
    (hport : o.toNat ≠ Obj.aopPort) (m : BitVec 8) (v : Val) : exec (.aopWrite w o m offset v) s =
      .next (s.hostWrite w 2 o.toNat m.toNat v (fun x s => s.ownerEffect w o.toNat m.toNat Target.next x)) := by
  have hpart : ¬(offset ≠ 0 ∧ longType o.toNat = true ∧ (!s.badSession w) = true) := by
    rintro ⟨hne, hlong, -⟩
    rcases hwhole with h | h
    · exact hne h
    · exact Bool.noConfusion (h.symm.trans hlong)
  exact congrArg Host.Outcome.next ((if_neg hpart).trans (if_neg hport))

/-- AOP_WRITE of any object but the port. -/
theorem aopWrite_owner (w : Requester) (o : BitVec 16) (m : BitVec 8) (offset : BitVec 32) (v v' : Val) (s s' y : State)
    (h : Admitted s s' w 2 o.toNat m.toNat v v') (hwhole : offset = 0 ∨ longType o.toNat = false)
    (hport : o.toNat ≠ Obj.aopPort) (hcode : (s.ownerEffect w o.toNat m.toNat Target.next v').1.code = 0)
    (heff : s'.ownerEffect w o.toNat m.toNat Target.next v' = ({}, y)) :
    Accepts (.aopWrite w o m offset v) s w 2 o.toNat m.toNat (fun x => x = y) :=
  accepts_of_effect (exec_aopWrite_whole hwhole hport m v) h heff hcode rfl

theorem ownerEffect_rw {o m : Nat} {row : DictRow} (hrow : dictRow o = some row) (hacc : row.acc = .rw) (t : Target)
    (v : Val) : s.ownerEffect w o m t v = s.settingEffect o m v := by
  simp only [State.ownerEffect, hrow, hacc]

/-- AOP_WRITE of a setting with no further effect. -/
theorem aopWrite_stores (w : Requester) (o : BitVec 16) (m : BitVec 8) (v n : Int) (row : DictRow) (s s' : State)
    (h : Admitted s s' w 2 o.toNat m.toNat (.num v) (.num n)) (hrow : dictRow o.toNat = some row) (hacc : row.acc = .rw)
    (hport : o.toNat ≠ Obj.aopPort) (hstore : ∀ z : State, z = s ∨ z = s' →
      z.settingEffect o.toNat m.toNat (.num n) = storeEffect o.toNat m.toNat (.num n) z) :
    Accepts (.aopWrite w o m 0 (.num v)) s w 2 o.toNat m.toNat (fun x => x = s'.put o.toNat m.toNat n) := by
  have heff : ∀ z : State, z = s ∨ z = s' →
      z.ownerEffect w o.toNat m.toNat Target.next (.num n) = ({}, z.put o.toNat m.toNat n) :=
    fun z hz => (ownerEffect_rw hrow hacc _ _).trans (hstore z hz)
  exact aopWrite_owner w o m 0 _ _ s s' _ h (.inl rfl) hport (congrArg (·.1.code) (heff s (.inl rfl))) (heff s' (.inr rfl))

/-! ## Scheduled writes (R512) -/

/-- An RWS object with no kind of entry of its own is scheduled where its owner and the table take the entry. -/
theorem ownerEffect_schedules {o m : Nat} {tg : Target} {v : Val} {row : DictRow} (hrow : dictRow o = some row)
    (hacc : row.acc = .rws) (hmode : o ≠ Obj.avenueMode) (hctx : o ≠ Obj.contextEnable) (himg : o ≠ Obj.imageActivate)
    (hstatus : s.scheduledStatus o v.nat = 0) (hcode : (s.hostSchedule w tg (scheduledEntry o m v)).1.code = 0) :
    s.ownerEffect w o m tg v = s.hostSchedule w tg (scheduledEntry o m v) := by
  simp only [State.ownerEffect, hrow, hacc, State.scheduleEffect, if_neg hmode, if_neg hctx, if_neg himg, hstatus, hcode]
  exact if_neg (not_not_intro rfl)

/-- SCHEDULED_WRITE. -/
theorem scheduledWrite_enters (w : Requester) (o : BitVec 16) (m : BitVec 8) (tg : Target) (v v' : Val) (row : DictRow)
    (s s' : State) (h : Admitted s s' w 3 o.toNat m.toNat v v') (hrow : dictRow o.toNat = some row) (hacc : row.acc = .rws)
    (hmode : o.toNat ≠ Obj.avenueMode) (hctx : o.toNat ≠ Obj.contextEnable) (himg : o.toNat ≠ Obj.imageActivate)
    (hok : ∀ z : State, z = s ∨ z = s' → z.scheduledStatus o.toNat v'.nat = 0 ∧
      (z.hostSchedule w tg (scheduledEntry o.toNat m.toNat v')).1.code = 0) :
    ∃ t, exec (.scheduledWrite w o m tg v) s = .next t ∧
      ∃ e ∈ t.clk.entries, e.obj = o.toNat ∧ e.mem = m.toNat ∧ e.val = v' ∧ e.role = some (s'.roleOf w) := by
  have heff : ∀ z : State, z = s ∨ z = s' → z.ownerEffect w o.toNat m.toNat tg v' =
      z.hostSchedule w tg (scheduledEntry o.toNat m.toNat v') :=
    fun z hz => ownerEffect_schedules hrow hacc hmode hctx himg (hok z hz).1 (hok z hz).2
  obtain ⟨hdone, e, he, -, -, hobj, hmem, hval, -, hrole, -⟩ := s'.hostSchedule_done w tg _ (hok s' (.inr rfl)).2
  have haccept := State.hostWrite_accept h (fun x s => s.ownerEffect w o.toNat m.toNat tg x)
    (by simp only [heff s' (.inr rfl), (hok s' (.inr rfl)).2]) (by simp only [heff s' (.inr rfl), hdone])
    (by simp only [heff s (.inl rfl), (hok s (.inl rfl)).2])
  refine ⟨_, congrArg Host.Outcome.next haccept, e, ?_, hobj, hmem, hval, hrole⟩
  simpa only [State.accept_clk, heff s' (.inr rfl)] using he

end Writes

/-- Settles O37: each command completes in the state that its rule above names. -/
theorem writesOfAnyObject : Obligations.WritesOfAnyObject :=
  ⟨alertAck_alerting, alertAck_quiet, aopWrite_stores, aopWrite_owner, scheduledWrite_enters⟩

end Sys2Proof.Proofs.ObjectDictionary
end

section
/-! The statement on the counters of the Bandstand (19_bandstand_counters.md): where a counter's value and its select word
stand in the dictionary (R522). -/

namespace Sys2Proof.Proofs.Bandstand

open Sys2Proof.Machine

/-- The object of a block's counter values: one of the eight instances of `CounterValue`. -/
def valueObject (b : Fin 8) : Nat := 0xF700 + b * 0x0100 + 0x10

/-- A counter's block and its member in the block. -/
def counterBlock (n : Fin 2048) : Fin 8 := ⟨n / 256, by omega⟩

theorem dictRow_valueObject (b : Fin 8) : ∃ r, dictRow (valueObject b) = some r ∧ r.ty.numeric = true := by
  have hrow : ∀ b, dictRow (valueObject b) = some ⟨Obj.counterValue, 8, 1, 0, 255, .u64, .ro, 0, 255, [0], 0,
      18446744073709551615, false⟩ := by decide
  exact ⟨_, hrow b, rfl⟩

theorem isObj_valueObject : ∀ b, isObj (valueObject b) Obj.counterValue = true := by decide

/-- The objects that a read forms from the machine's parts before it comes to the counters. -/
theorem valueObject_ne : ∀ b, ∀ o ∈ [Obj.sfnNow, Obj.entriesFree, Obj.imageStatus, Obj.tfeSettling, Obj.calSetState,
    Obj.reserveFree, Obj.violationNext, Obj.violationCount, Obj.eventRecentNext], valueObject b ≠ o := by decide

theorem viewNum_valueObject (s : State) (b : Fin 8) (m : Nat) :
    s.viewNum (valueObject b) m = some (((s.ctr (b * 256 + m)).word : Nat) : Int) := by
  have hblock : valueObject b / 256 - 0xF7 = b := by unfold valueObject; omega
  have hne := valueObject_ne b
  simp only [List.forall_mem_cons] at hne
  obtain ⟨h1, h2, h3, h4, h5, h6, h7, h8, h9, -⟩ := hne
  unfold State.viewNum
  rw [if_neg h1, if_neg h2, if_neg h3, if_neg h4, if_neg h5, if_neg h6, if_neg h7, if_neg h8, if_neg h9,
    if_pos (isObj_valueObject b), hblock]

/-- The value of a counter stands at its member of its block's object. -/
theorem valueOf_counter (n : Fin 2048) (s : State) :
    s.valueOf (0xF700 + n / 256 * 0x0100 + 0x10) (n % 256) = .num (s.ctr n).word := by
  obtain ⟨r, hrow, hnumeric⟩ := dictRow_valueObject (counterBlock n)
  have hnumber : (counterBlock n).val * 256 + n % 256 = n := Nat.div_add_mod' n 256
  show s.valueOf (valueObject (counterBlock n)) (n % 256) = _
  simp only [State.valueOf, hrow, hnumeric, if_true, viewNum_valueObject, hnumber, Option.getD_some]

/-- The select word of a counter stands one item after its value. -/
theorem selectObj_eq (n : Nat) : selectObj n = (0xF700 + n / 256 * 0x0100 + 0x11, n % 256) := by
  unfold selectObj
  congr 1
  omega

theorem exec_counterSelectWrite (w : Requester) (n : Fin 2048) (v : Int) (s : State) : exec (.counterSelectWrite w n v) s =
    .next (s.hostWrite w 2 (0xF700 + n / 256 * 0x0100 + 0x11) (n % 256) (.num v)
      (fun x s => s.counterSelectEffect n x.nat)) := by
  simp only [exec, execCounterSelectWrite, selectObj_eq]

/-- The first and the last block. -/
theorem counter_outerBlocks (n : Fin 2048) :
    (n.val < 256 → 0xF700 + n.val / 256 * 0x0100 + 0x10 = 0xF710 ∧ 0xF700 + n.val / 256 * 0x0100 + 0x11 = 0xF711) ∧
      (1792 ≤ n.val → 0xF700 + n.val / 256 * 0x0100 + 0x10 = 0xFE10 ∧ 0xF700 + n.val / 256 * 0x0100 + 0x11 = 0xFE11) := by
  omega

/-- Settles O15: the eight objects of the values are none that a read forms otherwise, and block and member give the
number back. -/
theorem countersHaveTwoObjects : Obligations.CountersHaveTwoObjects :=
  ⟨valueOf_counter, exec_counterSelectWrite, counter_outerBlocks⟩

end Sys2Proof.Proofs.Bandstand
end

section
/-! The statements on the assembly of the domain (20_domain_assembly.md): frames of another group (R539), claims and the
registration of rolls (R549, R550), and the domain roll, carriers without traffic and neighbour discovery (R497, R551,
R553). -/

namespace Sys2Proof.Proofs.DomainAssembly

open Sys2Proof.Machine Sys2Proof.Claims Sys2Proof.Laws.OfDomain

section Strays

variable {f : GroupFrame} {s : State}

/-! ## Frames of another group (R539) -/

/-- A frame of another group is counted, and its source is logged when it is new. -/
def strayCounted (s : State) (a : Nat) : State :=
  if a ∈ s.grp.strays then s.bump Obj.groupMisstrapCount
  else ((s.bump Obj.groupMisstrapCount).setGrp (fun g => { g with strays := a :: g.strays })).log 0xA00F (d16 a)

theorem takeFrame_stray (n : Nat) (hcrc : f.crcOk = true) (hother : f.source.toNat / 32 ≠ s.address / 32) :
    s.takeFrame f n = (false, strayCounted s f.source.toNat) := by
  have hout : s.ownGroup f.source.toNat = false := beq_eq_false_iff_ne.mpr hother
  simp only [State.takeFrame, strayCounted, hcrc, hout, State.bump_grp, Bool.not_true, Bool.not_false,
    Bool.false_eq_true, if_false, if_true, List.contains_iff_mem]
  split <;> rfl

/-- None of the five frames does more with it. -/
theorem exec_stray (k : Fin 32) (i : Instr) (hcrc : f.crcOk = true) (hother : f.source.toNat / 32 ≠ s.address / 32)
    (hi : i ∈ [.beacon f, .memberStatus f, .orders f, .join k f, .leave f]) :
    exec i s = .next (strayCounted s f.source.toNat) := by
  have htake := fun n => takeFrame_stray (s := s) n hcrc hother
  simp only [List.mem_cons, List.not_mem_nil, or_false] at hi
  rcases hi with rfl | rfl | rfl | rfl | rfl
  · simp only [exec, execBeacon, htake, Bool.not_false, true_or, if_true]
  · simp only [exec, execMemberStatus, htake, Bool.not_false, if_true]
  · simp only [exec, execOrders, htake, Bool.not_false, if_true]
  · simp only [exec, execJoin, htake, hcrc, Bool.not_true, Bool.not_false, Bool.false_eq_true, if_false, if_true, ite_self]
  · simp only [exec, execLeave, htake, Bool.false_eq_true, false_and, if_false]

end Strays

/-- Settles O17: the frame is not fit to be taken, and none of the five commands then does more. -/
theorem misstrappedFramesAreIgnored : Obligations.MisstrappedFramesAreIgnored :=
  ⟨fun _ k i _ hcrc hother hi => exec_stray k i hcrc hother hi, fun s h => s.u_bump_same _ _ h⟩

section Rolls

variable {s : State}

/-! ## Registrations and roles under the domain's operations (R549, R550) -/

theorem reg_setReg_same (s : State) (site : Bool) (f : RegSt → RegSt) : (s.setReg site f).reg site = f (s.reg site) := by
  cases site <;> rfl

theorem reg_congr {t : State} (h : t.dmn = s.dmn) (site : Bool) : t.reg site = s.reg site := by
  unfold State.reg
  rw [h]

/-- The random delay of a registration lies in its window. -/
theorem dueIn_within (s : State) (site : Bool) (start window : Nat) : ∃ n, n ≤ window ∧
    (s.dueIn site start window).reg site = { s.reg site with dueAt := some (start + n) } :=
  ⟨(s.uniform window).1, Nat.le_of_lt_succ (Nat.mod_lt _ (Nat.succ_pos window)), reg_setReg_same (s.uniform window).2 site _⟩

/-- What a Keeper shows of its roles changes `DomainRole` alone of the objects. -/
theorem roleRun_u {o m : Nat} (h : okey o m ≠ okey Obj.domainRole 0) : s.roleRun.u o m = s.u o m := by
  unfold State.roleRun
  split
  · split
    · rfl
    · exact setRole_other s 0 true h
  · rw [setRole_other _ _ _ h, setRole_other _ _ _ h, setRole_other _ _ _ h]

theorem setLead_other_role (s : State) (role a : Nat) : (s.setLead role a).u Obj.domainRole = s.u Obj.domainRole :=
  setLead_other s role a (by decide) (by decide) (by decide)

/-! ## Announces (R549) -/

/-- ANNOUNCE_TIMER of a Keeper, when it is due. -/
theorem announceTimer_sends (s : State) (hin : s.inDomain = true) (hkeeper : s.roleBit 0 = true)
    (hdue : s.dmn.announceAt + sfPerSecond ≤ s.clk.sfn) :
    ∃ t, exec .announceTimer s = .next t ∧ t.dmn.announceAt = s.clk.sfn ∧ t.dmn.txSeq = (s.dmn.txSeq + 1) % 2 ^ 32 ∧
      .domain none (domainMessage s 1 0 (be 1 s.ownRoles ++ be 1 (s.u Obj.timeQuality) ++ be 2 0 ++ be 4 s.validMask)) ∈
        t.out := by
  have hexec : exec .announceTimer s = .next ((s.sendDomain 1 0 none (be 1 s.ownRoles ++ be 1 (s.u Obj.timeQuality) ++
      be 2 0 ++ be 4 s.validMask)).setDmn (fun d => { d with announceAt := s.clk.sfn })) := by
    simp only [exec, execAnnounceTimer, runs s hin hkeeper, hin, hdue, and_self, if_true]
  exact ⟨_, hexec, rfl, rfl, sentDomain ..⟩

/-- A claim is noted, and the quiet of a role that a lower claimant contests begins again. -/
def claimNoted (s : State) (a : Nat) (body : List Byte) : State :=
  s.setDmn (fun d => { d with
    claims := d.claims.filter (fun x => x.addr != a) ++
      [{ addr := a, roles := ofBe (slice body 0 1), valid := ofBe (slice body 4 4), heard := s.clk.sfn }]
    leadQuiet := if siteOf a == siteOf s.address && decide (a < s.address) then s.clk.sfn else d.leadQuiet
    regQuiet := if decide (a < s.address) then s.clk.sfn else d.regQuiet })

/-- A claim of the site lead's role is taken where it is lower, or no own claim stands against it. -/
def leadTaken (s : State) (a : Nat) (lower claims : Bool) : State :=
  if claims && (lower || !s.roleBit 1) then (s.setRole 1 false).setLead 1 a else s

/-- So is a claim of the registrar's role. -/
def registrarTaken (s : State) (a : Nat) (lower claims : Bool) : State :=
  if claims && (lower || !s.roleBit 2) then (s.setRole 2 false).setLead 2 a else s

theorem leadTaken_dmn (s : State) (a : Nat) (lower claims : Bool) : (leadTaken s a lower claims).dmn = s.dmn := by
  unfold leadTaken
  split
  · exact setLead_dmn ..
  · rfl

theorem registrarTaken_dmn (s : State) (a : Nat) (lower claims : Bool) : (registrarTaken s a lower claims).dmn = s.dmn := by
  unfold registrarTaken
  split
  · exact setLead_dmn ..
  · rfl

theorem leadTaken_lower (s : State) (a : Nat) : (leadTaken s a true true).u Obj.siteLeadAddress = a :=
  (setLead_one (s.setRole 1 false) a).1

theorem registrarTaken_lower (s : State) (a : Nat) : (registrarTaken s a true true).u Obj.registrarAddress = a :=
  (setLead_two (s.setRole 2 false) a).1

theorem registrarTaken_lead (s : State) (a : Nat) (lower claims : Bool) :
    (registrarTaken s a lower claims).u Obj.siteLeadAddress = s.u Obj.siteLeadAddress := by
  unfold registrarTaken
  split
  · exact (setLead_two _ a).2.trans (setRole_other s 2 false (by decide))
  · rfl

theorem exec_announce_heard {b body : List Byte} {status a seq : Nat} (hread : readDomain 1 8 b = some (status, a, seq, body))
    (hother : a ≠ s.roleRun.address) : exec (.announce b) s = .next (registrarTaken (leadTaken
      (claimNoted s.roleRun a body) a (decide (a < s.roleRun.address))
        (siteOf a == siteOf s.roleRun.address && bit (ofBe (slice body 0 1)) 1))
      a (decide (a < s.roleRun.address)) (bit (ofBe (slice body 0 1)) 2)).startRegs := by
  show execAnnounce b s = _
  unfold execAnnounce
  rw [hread]
  exact congrArg Host.Outcome.next (if_neg hother)

/-- ANNOUNCE of another engine. -/
theorem announce_claims (b body : List Byte) (status a seq : Nat) (s : State)
    (hread : readDomain 1 8 b = some (status, a, seq, body)) (hother : a ≠ s.address) :
    ∃ t, exec (.announce b) s = .next t ∧ { addr := a, roles := ofBe (slice body 0 1), valid := ofBe (slice body 4 4)
                                            heard := s.clk.sfn } ∈ t.dmn.claims ∧
      (siteOf a = siteOf s.address → bit (ofBe (slice body 0 1)) 1 = true → a < s.address →
        t.u Obj.siteLeadAddress = a) ∧
      (bit (ofBe (slice body 0 1)) 2 = true → a < s.address → t.u Obj.registrarAddress = a) := by
  have haddress : s.roleRun.address = s.address := roleRun_u (by decide)
  have hsfn : s.roleRun.clk.sfn = s.clk.sfn := (State.roleRun_keep (Keep.refl 4194305 s) rfl).sfn rfl
  refine ⟨_, exec_announce_heard hread (by rwa [haddress]), ?_, fun hsite hlead hlower => ?_, fun hreg hlower => ?_⟩
  · rw [starts_p (fun d => d.claims) (fun _ _ _ => rfl), registrarTaken_dmn, leadTaken_dmn, ← hsfn]
    exact List.mem_append_right _ List.mem_cons_self
  · rw [startsU, registrarTaken_lead, haddress, hsite, hlead, beq_self_eq_true, decide_eq_true hlower]
    exact leadTaken_lower _ _
  · rw [startsU, haddress, hreg, decide_eq_true hlower]
    exact registrarTaken_lower _ _

/-! ## Claims after a quiet time (R549) -/

/-- The Keeper takes the site lead's role and registers its own group. -/
def leadClaimed (s : State) : State :=
  ((s.setRole 1 true).setLead 1 s.address).setDmn (fun d => { d with
    settled := some ((s.setRole 1 true).setLead 1 s.address).clk.sfn })

theorem leadClaimed_u {o m : Nat} (hrole : okey o m ≠ okey Obj.domainRole 0) (hlead : okey o m ≠ okey Obj.siteLeadAddress 0)
    (hreg : okey o m ≠ okey Obj.registrarAddress 0) (hlog : logKey (okey o m) = false) :
    (leadClaimed s).u o m = s.u o m :=
  (setLead_other _ 1 s.address hlead hreg hlog).trans (setRole_other s 1 true hrole)

theorem exec_settleEnd_lead (hin : s.inDomain = true) (hkeeper : s.roleBit 0 = true) (hlead : s.roleBit 1 = false)
    (hquiet : s.dmn.leadQuiet + sfOfMs (s.u Obj.settleTime) ≤ s.clk.sfn) : exec (.settleEnd false) s =
      .next (((leadClaimed s).registerGroup (leadClaimed s).ownRoll).startRegs) := by
  show execSettleEnd false s = _
  unfold execSettleEnd
  simp only [runs s hin hkeeper, hin, hlead, Bool.not_true, Bool.false_eq_true, if_false, false_or,
    if_neg (Nat.not_lt.mpr hquiet)]
  rfl

/-- SETTLE_END of the site lead's role. -/
theorem settleEnd_takesLead (s : State) (hin : s.inDomain = true) (hkeeper : s.roleBit 0 = true) (hlead : s.roleBit 1 = false)
    (hquiet : s.dmn.leadQuiet + sfOfMs (s.u Obj.settleTime) ≤ s.clk.sfn) :
    ∃ t, exec (.settleEnd false) s = .next t ∧ t.u Obj.domainRole = setBit (s.u Obj.domainRole) 1 true ∧
      t.u Obj.siteLeadAddress = s.address ∧ t.dmn.settled = some s.clk.sfn ∧
      ∃ r ∈ t.dmn.groupRolls, r.keeper = s.address ∧ r.valid = s.validMask := by
  obtain ⟨hroll, hsettled, -, hu⟩ := regGroup (leadClaimed s) (leadClaimed s).ownRoll
  have hsfn : ((s.setRole 1 true).setLead 1 s.address).clk.sfn = s.clk.sfn :=
    (State.setLead_keep (State.setRole_keep (Keep.refl 73 s) rfl 1 true) rfl 1 s.address).sfn rfl
  refine ⟨_, exec_settleEnd_lead hin hkeeper hlead hquiet, ?_, ?_, ?_, (leadClaimed s).ownRoll, ?_, ?_, ?_⟩
  · rw [startsU, hu _ _ (by decide)]
    exact (setLead_other_role _ 1 _).trans (setRole_u s 1 true)
  · rw [startsU, hu _ _ (by decide)]
    exact (setLead_one _ _).1
  · rw [starts_p (fun d => d.settled) (fun _ _ _ => rfl), hsettled]
    exact congrArg some hsfn
  · rw [starts_p (fun d => d.groupRolls) (fun _ _ _ => rfl)]
    exact hroll
  · exact leadClaimed_u (by decide) (by decide) (by decide) (by decide)
  · exact leadClaimed_u (by decide) (by decide) (by decide) (by decide)

/-- SETTLE_END of the registrar's role. -/
theorem settleEnd_takesRegistrar (s : State) (hin : s.inDomain = true) (hkeeper : s.roleBit 0 = true)
    (hlead : s.roleBit 1 = true) (hreg : s.roleBit 2 = false)
    (hquiet : s.dmn.regQuiet + sfOfMs (s.u Obj.settleTime) ≤ s.clk.sfn) :
    ∃ t, exec (.settleEnd true) s = .next t ∧ t.u Obj.domainRole = setBit (s.u Obj.domainRole) 2 true ∧
      t.u Obj.registrarAddress = s.address := by
  have hexec : exec (.settleEnd true) s = .next ((s.setRole 2 true).setLead 2 s.address).startRegs := by
    show execSettleEnd true s = _
    unfold execSettleEnd
    simp only [runs s hin hkeeper, hin, hlead, hreg, Bool.not_true, Bool.false_eq_true, if_true, if_false, false_or,
      if_neg (Nat.not_lt.mpr hquiet), or_self]
  refine ⟨_, hexec, ?_, ?_⟩
  · rw [startsU, setLead_other_role, setRole_u]
  · rw [startsU]
    exact (setLead_two _ _).1

/-! ## Rolls that are sent (R550) -/

/-- What a registration sends: the group's roll, or the site's. -/
def rollBody (s : State) (site : Bool) : List Byte :=
  if site then s.siteBody
  else be 2 s.ownRoll.keeper ++ be 2 s.ownRoll.deputy ++ be 4 s.ownRoll.valid ++ s.ownRoll.serials

/-- A registration that has been sent waits for its Ack. -/
def regSent (s : State) (g : RegSt) : RegSt :=
  { g with attempt := g.attempt + 1, dueAt := none, seq := s.dmn.txSeq
           ackBy := some (s.clk.sfn + sfOfMs (s.u Obj.ackTimeout)) }

/-- A roll has gone out. -/
def rollSent (s : State) (site : Bool) : State :=
  let z := s.sendDomain (if site then 3 else 2) 0 (some (s.regDest site)) (rollBody s site)
  (if site then z else z.setDmn (fun d => { d with sentRoll := some s.ownRoll })).setReg site (regSent s)

/-- ROLL_BACKOFF_END of an engine that sends its roll to another. -/
theorem exec_rollBackoffEnd_due {site : Bool} {t0 : Nat} (hin : s.inDomain = true) (hkeeper : s.roleBit 0 = true)
    (hlead : s.roleBit 1 = site) (hdest : s.regDest site ≠ 0xFFFF) (hother : site = true → s.regDest true ≠ s.address)
    (hdue : (s.reg site).dueAt = some t0) (ht : t0 ≤ s.clk.sfn) :
    exec (.rollBackoffEnd site) s = .next (rollSent s site) := by
  show execRollBackoffEnd site s = _
  unfold execRollBackoffEnd
  cases site with
  | false =>
    simp only [runs s hin hkeeper, hdue, hin, hlead, bne_iff_ne.mpr hdest, Bool.false_eq_true, if_false, Bool.not_false,
      Bool.and_self, Bool.not_true, false_or, if_neg (Nat.not_lt.mpr ht), false_and]
    rfl
  | true =>
    simp only [runs s hin hkeeper, hdue, hin, hlead, bne_iff_ne.mpr hdest, Bool.false_eq_true, if_true, Bool.and_self,
      Bool.not_true, false_or, if_neg (Nat.not_lt.mpr ht), hother rfl, and_false, if_false]
    rfl

/-- ROLL_BACKOFF_END of a group's roll. -/
theorem rollBackoffEnd_sendsGroup (t0 : Nat) (s : State) (hin : s.inDomain = true) (hkeeper : s.roleBit 0 = true)
    (hlead : s.roleBit 1 = false) (hdest : s.regDest false ≠ 0xFFFF) (hdue : (s.reg false).dueAt = some t0)
    (ht : t0 ≤ s.clk.sfn) :
    ∃ t, exec (.rollBackoffEnd false) s = .next t ∧ t.dmn.sentRoll = some s.ownRoll ∧
      t.dmn.group = { s.dmn.group with attempt := s.dmn.group.attempt + 1, dueAt := none, seq := s.dmn.txSeq
                                       ackBy := some (s.clk.sfn + sfOfMs (s.u Obj.ackTimeout)) } ∧
      .domain (some (s.regDest false)) (domainMessage s 2 0 (be 2 s.ownRoll.keeper ++ be 2 s.ownRoll.deputy ++
        be 4 s.ownRoll.valid ++ s.ownRoll.serials)) ∈ t.out :=
  ⟨rollSent s false, exec_rollBackoffEnd_due hin hkeeper hlead hdest (fun h => nomatch h) hdue ht, rfl, rfl, sentDomain ..⟩

/-- ROLL_BACKOFF_END of a site's roll. -/
theorem rollBackoffEnd_sendsSite (t0 : Nat) (s : State) (hin : s.inDomain = true) (hkeeper : s.roleBit 0 = true)
    (hlead : s.roleBit 1 = true) (hdest : s.regDest true ≠ 0xFFFF) (hother : s.regDest true ≠ s.address)
    (hdue : (s.reg true).dueAt = some t0) (ht : t0 ≤ s.clk.sfn) :
    ∃ t, exec (.rollBackoffEnd true) s = .next t ∧
      t.dmn.site = { s.dmn.site with attempt := s.dmn.site.attempt + 1, dueAt := none, seq := s.dmn.txSeq
                                     ackBy := some (s.clk.sfn + sfOfMs (s.u Obj.ackTimeout)) } ∧
      .domain (some (s.regDest true)) (domainMessage s 3 0 s.siteBody) ∈ t.out :=
  ⟨rollSent s true, exec_rollBackoffEnd_due hin hkeeper hlead hdest (fun _ => hother) hdue ht, rfl, sentDomain ..⟩

/-! ## Rolls that are registered (R550, R551) -/

/-- The roll that a GroupRoll carries. -/
def rollOf (a : Nat) (body : List Byte) : Roll :=
  { group := groupOf a, keeper := ofBe (slice body 0 2), deputy := ofBe (slice body 2 2)
    valid := ofBe (slice body 4 4), serials := slice body 8 512 }

/-- GROUP_ROLL at an engine that is no lead of its sender's site. -/
theorem groupRoll_notLead (b body : List Byte) (status a seq : Nat) (s : State)
    (hread : readDomain 2 520 b = some (status, a, seq, body)) (hno : s.roleBit 1 = false ∨ siteOf a ≠ siteOf s.address) :
    exec (.groupRoll b) s = .next (s.sendDomain 4 1 (some a) (be 4 seq)) := by
  have hrefused : (!s.roleBit 1) = true ∨ siteOf a ≠ siteOf s.address := hno.imp_left fun h => by rw [h]; rfl
  show execGroupRoll b s = _
  unfold execGroupRoll
  rw [hread]
  exact congrArg Host.Outcome.next (if_pos hrefused)

/-- GROUP_ROLL at the lead comes to the roll that stands for the group. -/
theorem exec_groupRoll_lead {b body : List Byte} {status a seq : Nat}
    (hread : readDomain 2 520 b = some (status, a, seq, body)) (hlead : s.roleBit 1 = true)
    (hsite : siteOf a = siteOf s.address) :
    exec (.groupRoll b) s = .next (match s.dmn.groupRolls.find? (fun x => x.group == groupOf a) with
      | some x =>
        if x.keeper ≠ (rollOf a body).keeper then s.sendDomain 4 2 (some a) (be 4 seq)
        else if x = rollOf a body then s.sendDomain 4 0 (some a) (be 4 seq)
        else (s.registerGroup (rollOf a body)).sendDomain 4 0 (some a) (be 4 seq)
      | none => (s.registerGroup (rollOf a body)).sendDomain 4 0 (some a) (be 4 seq)) := by
  have haccepted : ¬((!s.roleBit 1) = true ∨ siteOf a ≠ siteOf s.address) := by simp [hlead, hsite]
  show execGroupRoll b s = _
  unfold execGroupRoll
  rw [hread]
  exact congrArg Host.Outcome.next (if_neg haccepted)

/-- The Ack of a roll that has been registered reads as one from before. -/
theorem registered_acks (r : Roll) (a seq : Nat) :
    .domain (some a) (domainMessage s 4 0 (be 4 seq)) ∈ ((s.registerGroup r).sendDomain 4 0 (some a) (be 4 seq)).out ∧
      r ∈ ((s.registerGroup r).sendDomain 4 0 (some a) (be 4 seq)).dmn.groupRolls := by
  obtain ⟨hroll, -, hseq, hu⟩ := regGroup s r
  have haddress : (s.registerGroup r).address = s.address := hu _ _ (by decide)
  have hmsg : domainMessage (s.registerGroup r) 4 0 (be 4 seq) = domainMessage s 4 0 (be 4 seq) := by
    unfold domainMessage
    rw [haddress, hseq]
  exact ⟨hmsg ▸ sentDomain (s.registerGroup r) 4 0 (some a) (be 4 seq), hroll⟩

/-- GROUP_ROLL at the lead. -/
theorem groupRoll_registers (b body : List Byte) (status a seq : Nat) (s : State)
    (hread : readDomain 2 520 b = some (status, a, seq, body)) (hlead : s.roleBit 1 = true)
    (hsite : siteOf a = siteOf s.address)
    (hkeeper : ∀ x ∈ s.dmn.groupRolls, x.group = groupOf a → x.keeper = ofBe (slice body 0 2)) :
    ∃ t, exec (.groupRoll b) s = .next t ∧ .domain (some a) (domainMessage s 4 0 (be 4 seq)) ∈ t.out ∧
      { group := groupOf a, keeper := ofBe (slice body 0 2), deputy := ofBe (slice body 2 2)
        valid := ofBe (slice body 4 4), serials := slice body 8 512 } ∈ t.dmn.groupRolls := by
  refine ⟨_, exec_groupRoll_lead hread hlead hsite, ?_⟩
  cases hx : s.dmn.groupRolls.find? (fun x => x.group == groupOf a) with
  | none => exact registered_acks _ _ _
  | some x =>
    have hmem := List.mem_of_find?_eq_some hx
    have hsame : x.keeper = (rollOf a body).keeper := hkeeper x hmem
      (beq_iff_eq.mp (List.find?_some (p := fun x : Roll => x.group == groupOf a) hx))
    dsimp only
    rw [if_neg (not_not_intro hsame)]
    split
    next hroll => exact ⟨sentDomain .., (hroll ▸ hmem : rollOf a body ∈ s.dmn.groupRolls)⟩
    · exact registered_acks _ _ _

/-- GROUP_ROLL of a group whose roll another Keeper holds. -/
theorem groupRoll_duplicate (b body : List Byte) (status a seq : Nat) (x : Roll) (s : State)
    (hread : readDomain 2 520 b = some (status, a, seq, body)) (hlead : s.roleBit 1 = true)
    (hsite : siteOf a = siteOf s.address) (hx : s.dmn.groupRolls.find? (fun x => x.group == groupOf a) = some x)
    (hother : x.keeper ≠ ofBe (slice body 0 2)) :
    exec (.groupRoll b) s = .next (s.sendDomain 4 2 (some a) (be 4 seq)) := by
  rw [exec_groupRoll_lead hread hlead hsite, hx]
  exact congrArg Host.Outcome.next (if_pos hother)

/-- SITE_ROLL at the registrar. -/
theorem siteRoll_registers (b body : List Byte) (status a seq : Nat) (s : State)
    (hread : readDomain 3 8324 b = some (status, a, seq, body)) (hreg : s.roleBit 2 = true)
    (hkeeper : ∀ r ∈ rollsOf (ofBe (slice body 0 1) % 16) (ofBe (slice body 2 2)) body, ∀ x ∈ s.dmn.siteRolls,
      x.group = r.group → x.keeper = r.keeper) :
    ∃ t z, exec (.siteRoll b) s = .next t ∧ z.address = s.address ∧
      .domain (some a) (domainMessage z 4 0 (be 4 seq)) ∈ t.out ∧
      ∀ r ∈ rollsOf (ofBe (slice body 0 1) % 16) (ofBe (slice body 2 2)) body, r ∈ t.dmn.siteRolls := by
  obtain ⟨haddress, hrolls⟩ := regSite s (ofBe (slice body 0 1) % 16) (ofBe (slice body 2 2))
    (rollsOf (ofBe (slice body 0 1) % 16) (ofBe (slice body 2 2)) body)
  have hfree : ¬(rollsOf (ofBe (slice body 0 1) % 16) (ofBe (slice body 2 2)) body).any
      (fun r => s.dmn.siteRolls.any (fun x => x.group == r.group && x.keeper != r.keeper)) = true := by
    intro h
    obtain ⟨r, hr, hany⟩ := List.any_eq_true.mp h
    obtain ⟨x, hx, hboth⟩ := List.any_eq_true.mp hany
    obtain ⟨hgroup, hne⟩ := Bool.and_eq_true_iff.mp hboth
    exact bne_iff_ne.mp hne (hkeeper r hr x hx (beq_iff_eq.mp hgroup))
  have hexec : exec (.siteRoll b) s = .next ((s.registerSite (ofBe (slice body 0 1) % 16) (ofBe (slice body 2 2))
      (rollsOf (ofBe (slice body 0 1) % 16) (ofBe (slice body 2 2)) body)).sendDomain 4 0 (some a) (be 4 seq)) := by
    show execSiteRoll b s = _
    unfold execSiteRoll
    rw [hread]
    exact congrArg Host.Outcome.next ((if_neg (by simp [hreg])).trans (if_neg hfree))
  refine ⟨_, _, hexec, haddress, sentDomain .., fun r hr => ?_⟩
  rw [sendDomain_rolls, hrolls]
  exact List.mem_append_right _ hr

/-- SITE_ROLL at any other engine. -/
theorem siteRoll_notRegistrar (b body : List Byte) (status a seq : Nat) (s : State)
    (hread : readDomain 3 8324 b = some (status, a, seq, body)) (hreg : s.roleBit 2 = false) :
    exec (.siteRoll b) s = .next (s.sendDomain 4 1 (some a) (be 4 seq)) := by
  show execSiteRoll b s = _
  unfold execSiteRoll
  rw [hread]
  exact congrArg Host.Outcome.next (if_pos (by rw [hreg]; rfl))

/-! ## Acks and their absence (R550) -/

/-- A registration as an Ack with a status leaves it. -/
def ackedReg (s : State) (status : Nat) (g : RegSt) : RegSt :=
  { g with ackBy := none, attempt := 0, retryAt := if status = 2 then some (s.clk.sfn + 600000) else none
           done := g.done || status == 0 }

/-- The Keeper that stands for the own group, as it was heard to announce, or one that is not known. -/
def standingKeeper (s : State) : Nat × State :=
  match s.dmn.claims.find? (fun c : Claim => groupOf c.addr == groupOf s.address) with
  | some c => (c.addr, s)
  | none => s.fresh 13

theorem standingKeeper_state (s : State) : (standingKeeper s).2 = s ∨ (standingKeeper s).2 = (s.fresh 13).2 := by
  unfold standingKeeper
  split
  · exact .inl rfl
  · exact .inr rfl

section Acks

variable {b body : List Byte} {status a seq t0 : Nat} {site : Bool}

theorem exec_ack_duplicate (hread : readDomain 4 4 b = some (2, a, seq, body)) (hfirst : site = false → s.dmn.site.ackBy = none)
    (hwaits : (s.reg site).ackBy = some t0) (hseq : (s.reg site).seq = ofBe (slice body 0 4)) (hdest : s.regDest site = a) :
    exec (.ack b) s = .next (((standingKeeper (s.setReg site (ackedReg s 2))).2.setRole 3 true).log 0x1013
      (d8 (groupOf s.address) ++ d16 (standingKeeper (s.setReg site (ackedReg s 2))).1)) := by
  obtain ⟨z, hz, hexec⟩ := ackOf b body 2 a seq t0 site s hread hfirst hwaits hseq hdest
  have hz' : z = s.setReg site (ackedReg s 2) := hz.trans (if_neg fun h => absurd h.1 (by decide))
  subst hz'
  exact hexec

theorem exec_ack_forgets (hread : readDomain 4 4 b = some (1, a, seq, body)) (hfirst : site = false → s.dmn.site.ackBy = none)
    (hwaits : (s.reg site).ackBy = some t0) (hseq : (s.reg site).seq = ofBe (slice body 0 4)) (hdest : s.regDest site = a) :
    exec (.ack b) s = .next ((s.setReg site (ackedReg s 1)).setLead (if site then 2 else 1) 0xFFFF) := by
  obtain ⟨z, hz, hexec⟩ := ackOf b body 1 a seq t0 site s hread hfirst hwaits hseq hdest
  have hz' : z = s.setReg site (ackedReg s 1) := hz.trans (if_neg fun h => absurd h.1 (by decide))
  subst hz'
  exact hexec

theorem ackedReg_zero (s : State) : ackedReg s 0 =
    fun g => { g with ackBy := none, attempt := 0, retryAt := none, done := true } := by
  funext g
  simp [ackedReg]

/-- ACK with status 0. -/
theorem ack_ends (b body : List Byte) (a seq t0 : Nat) (site : Bool) (s y : State)
    (hread : readDomain 4 4 b = some (0, a, seq, body)) (hfirst : site = false → s.dmn.site.ackBy = none)
    (hwaits : (s.reg site).ackBy = some t0) (hseq : (s.reg site).seq = ofBe (slice body 0 4)) (hdest : s.regDest site = a)
    (hy : y = s.setReg site (fun g => { g with ackBy := none, attempt := 0, retryAt := none, done := true })) :
    exec (.ack b) s = .next (if site then y else y.setRole 3 false) := by
  obtain ⟨z, hz, hexec⟩ := ackOf b body 0 a seq t0 site s hread hfirst hwaits hseq hdest
  rw [← ackedReg_zero s] at hy
  have hz' : z = if site then y else y.setRole 3 false := by
    subst hy
    cases site <;> exact hz
  rw [← hz']
  exact hexec

/-- ACK with status 1. -/
theorem ack_forgets (b body : List Byte) (a seq t0 : Nat) (site : Bool) (s : State)
    (hread : readDomain 4 4 b = some (1, a, seq, body)) (hfirst : site = false → s.dmn.site.ackBy = none)
    (hwaits : (s.reg site).ackBy = some t0) (hseq : (s.reg site).seq = ofBe (slice body 0 4))
    (hdest : s.regDest site = a) :
    ∃ t, exec (.ack b) s = .next t ∧
      t.u (if site = true then Obj.registrarAddress else Obj.siteLeadAddress) = 0xFFFF ∧ (t.reg site).ackBy = none ∧
      (t.reg site).done = (s.reg site).done := by
  have hreg : ((s.setReg site (ackedReg s 1)).setLead (if site then 2 else 1) 0xFFFF).reg site =
      ackedReg s 1 (s.reg site) := (reg_congr (setLead_dmn ..) site).trans (reg_setReg_same ..)
  refine ⟨_, exec_ack_forgets hread hfirst hwaits hseq hdest, ?_, congrArg RegSt.ackBy hreg,
    (congrArg RegSt.done hreg).trans (Bool.or_false _)⟩
  cases site with
  | false => exact (setLead_one _ _).1
  | true => exact (setLead_two _ _).1

/-- ACK with status 2. -/
theorem ack_duplicate (b body : List Byte) (a seq t0 : Nat) (site : Bool) (s : State)
    (hread : readDomain 4 4 b = some (2, a, seq, body)) (hfirst : site = false → s.dmn.site.ackBy = none)
    (hwaits : (s.reg site).ackBy = some t0) (hseq : (s.reg site).seq = ofBe (slice body 0 4))
    (hdest : s.regDest site = a) :
    ∃ t k, exec (.ack b) s = .next t ∧ t.u Obj.domainRole = setBit (s.u Obj.domainRole) 3 true ∧
      (t.reg site).ackBy = none ∧ (t.reg site).retryAt = some (s.clk.sfn + 600000) ∧
      Logged s t 0x1013 (d8 (groupOf s.address) ++ d16 k) := by
  refine ⟨_, (standingKeeper (s.setReg site (ackedReg s 2))).1, exec_ack_duplicate hread hfirst hwaits hseq hdest, ?_⟩
  have hstate := standingKeeper_state (s.setReg site (ackedReg s 2))
  generalize (standingKeeper (s.setReg site (ackedReg s 2))).2 = z at hstate ⊢
  have hdmn : z.dmn = (s.setReg site (ackedReg s 2)).dmn := by rcases hstate with rfl | rfl <;> rfl
  have hrole : z.u Obj.domainRole = s.u Obj.domainRole := by rcases hstate with rfl | rfl <;> rfl
  have hdiag : z.diag = s.diag := by rcases hstate with rfl | rfl <;> rfl
  have hreg : ∀ d, ((z.setRole 3 true).log 0x1013 d).reg site = ackedReg s 2 (s.reg site) := fun d => by
    rw [reg_congr (State.log_dmn (z.setRole 3 true) 0x1013 d), ← reg_setReg_same s site (ackedReg s 2)]
    exact reg_congr hdmn site
  refine ⟨?_, congrArg RegSt.ackBy (hreg _), congrArg RegSt.retryAt (hreg _), ?_⟩
  · rw [State.u_log _ _ _ (by decide), setRole_u, hrole]
  · exact (Logged.log (z.setRole 3 true) _ _).since (Nat.le_of_eq (congrArg Diag.nextSeq hdiag.symm))

end Acks

/-- ACK_TIMEOUT once it has come. -/
theorem exec_ackTimeout_due {site : Bool} {t0 : Nat} (hwaits : (s.reg site).ackBy = some t0) (ht : t0 ≤ s.clk.sfn) :
    exec (.ackTimeout site) s = .next (
      if (s.reg site).attempt < s.u Obj.rollAttempts then
        (s.setReg site (fun g => { g with ackBy := none })).dueIn site s.clk.sfn (s.backoff site * 2 ^ (s.reg site).attempt)
      else ((s.setReg site (fun g => { g with ackBy := none })).setReg site
        (fun g => { g with attempt := 0, retryAt := some (s.clk.sfn + 600000) })).log 0x100E
          (d8 (if site then 3 else 2) ++ d16 (s.regDest site))) := by
  show execAckTimeout site s = _
  unfold execAckTimeout
  simp only [hwaits, if_neg (Nat.not_lt.mpr ht)]
  rfl

/-- ACK_TIMEOUT with attempts left. -/
theorem ackTimeout_retries (site : Bool) (t0 : Nat) (s : State) (hwaits : (s.reg site).ackBy = some t0)
    (ht : t0 ≤ s.clk.sfn) (hleft : (s.reg site).attempt < s.u Obj.rollAttempts) :
    ∃ t n, exec (.ackTimeout site) s = .next t ∧ n ≤ s.backoff site * 2 ^ (s.reg site).attempt ∧
      t.reg site = { s.reg site with ackBy := none, dueAt := some (s.clk.sfn + n) } := by
  obtain ⟨n, hn, hreg⟩ := dueIn_within (s.setReg site (fun g => { g with ackBy := none })) site s.clk.sfn
    (s.backoff site * 2 ^ (s.reg site).attempt)
  rw [reg_setReg_same] at hreg
  exact ⟨_, n, (exec_ackTimeout_due hwaits ht).trans (congrArg Host.Outcome.next (if_pos hleft)), hn, hreg⟩

/-- ACK_TIMEOUT of the last attempt. -/
theorem ackTimeout_exhausted (site : Bool) (t0 : Nat) (s : State) (hwaits : (s.reg site).ackBy = some t0)
    (ht : t0 ≤ s.clk.sfn) (hlast : s.u Obj.rollAttempts ≤ (s.reg site).attempt) :
    ∃ t, exec (.ackTimeout site) s = .next t ∧ (t.reg site).ackBy = none ∧
      (t.reg site).retryAt = some (s.clk.sfn + 600000) ∧
      Logged s t 0x100E (d8 (if site = true then 3 else 2) ++ d16 (s.regDest site)) := by
  refine ⟨_, (exec_ackTimeout_due hwaits ht).trans (congrArg Host.Outcome.next (if_neg (Nat.not_lt.mpr hlast))), ?_, ?_,
    (Logged.log _ _ _).since (Nat.le_refl _)⟩
  · rw [reg_congr (State.log_dmn ..), reg_setReg_same, reg_setReg_same]
  · rw [reg_congr (State.log_dmn ..), reg_setReg_same]

/-- REGISTRATION_RETRY. -/
theorem registrationRetry_begins (site : Bool) (t0 : Nat) (s : State) (hretry : (s.reg site).retryAt = some t0)
    (ht : t0 ≤ s.clk.sfn) :
    ∃ t n, exec (.registrationRetry site) s = .next t ∧ n ≤ s.backoff site ∧
      t.reg site = { s.reg site with retryAt := none, dueAt := some (s.clk.sfn + n) } := by
  obtain ⟨n, hn, hreg⟩ := dueIn_within (s.setReg site (fun g => { g with retryAt := none })) site s.clk.sfn
    (s.backoff site)
  rw [reg_setReg_same] at hreg
  refine ⟨_, n, ?_, hn, hreg⟩
  show execRegistrationRetry site s = _
  unfold execRegistrationRetry
  simp only [hretry, if_neg (Nat.not_lt.mpr ht)]

end Rolls

/-- Settles O51: each command completes in the state that its rule above names. The retry after an Ack with status 2 and
the standing Keeper of 1013h are those of log entry 83, the octets of 100Eh those of log entries 7 and 65. -/
theorem rollsRegister : Obligations.RollsRegister :=
  ⟨announceTimer_sends, announce_claims, settleEnd_takesLead, settleEnd_takesRegistrar, rollBackoffEnd_sendsGroup,
    rollBackoffEnd_sendsSite, groupRoll_notLead, groupRoll_registers, groupRoll_duplicate, siteRoll_registers,
    siteRoll_notRegistrar, ack_ends, ack_forgets, ack_duplicate, ackTimeout_retries, ackTimeout_exhausted,
    registrationRetry_begins⟩

section Watches

variable {s : State}

/-! ## The domain roll (R551, R553) -/

/-- Of an object's members written one after another, each holds its own value. -/
theorem u_foldl_put {o k : Nat} (v : Nat → Nat) (hk : k < 256) {l : List Nat} (hl : ∀ m ∈ l, m < 256) (s : State) :
    (l.foldl (fun s m => s.put o m (v m : Nat)) s).u o k = if k ∈ l then v k else s.u o k := by
  induction l generalizing s with
  | nil => rfl
  | cons m l ih =>
    rw [List.foldl_cons, ih fun x hx => hl x (List.mem_cons_of_mem m hx)]
    by_cases hkl : k ∈ l
    · rw [if_pos hkl, if_pos (List.mem_cons_of_mem m hkl)]
    · rw [if_neg hkl]
      by_cases hkm : k = m
      · subst hkm
        rw [if_pos List.mem_cons_self, State.u_put_same]
        exact Int.toNat_natCast _
      · rw [if_neg (by simp [hkm, hkl]), State.u_put_other _ _ (okey_ne hk (hl m List.mem_cons_self) (.inr hkm))]

/-- DOMAIN_ROLL. -/
theorem domainRoll_shows (b body : List Byte) (status a seq : Nat) (g : Fin 256) (s : State)
    (hread : readDomain 5 1028 b = some (status, a, seq, body)) :
    ∃ t, exec (.domainRoll b) s = .next t ∧ t.u Obj.domainRollMasks g = ofBe (slice body (4 + 4 * g) 4) := by
  have hexec : exec (.domainRoll b) s = .next ((List.range 256).foldl
      (fun s g => s.put Obj.domainRollMasks g (ofBe (slice body (4 + 4 * g) 4) : Nat)) s) := by
    show execDomainRoll b s = _
    unfold execDomainRoll
    rw [hread]
  refine ⟨_, hexec, ?_⟩
  rw [u_foldl_put (fun g => ofBe (slice body (4 + 4 * g) 4)) g.isLt fun m hm => List.mem_range.mp hm]
  exact if_pos (List.mem_range.mpr g.isLt)

theorem sendRoll_sends (s : State) : s.sendRoll.dmn.rollAt = s.clk.sfn ∧
    ∃ body, .domain none (domainMessage s 5 0 body) ∈ s.sendRoll.out := ⟨rfl, _, sentDomain ..⟩

/-- DOMAIN_ROLL_TIMER of a registrar whose roll is complete, when it is due. -/
theorem domainRollTimer_sends (s : State) (hreg : s.roleBit 2 = true) (hcomplete : s.dmn.complete = true)
    (hdue : s.dmn.rollAt + 100000 ≤ s.clk.sfn) :
    ∃ t body, exec .domainRollTimer s = .next t ∧ t.dmn.rollAt = s.clk.sfn ∧
      .domain none (domainMessage s 5 0 body) ∈ t.out := by
  obtain ⟨hat, body, hsent⟩ := sendRoll_sends s
  exact ⟨_, body, congrArg Host.Outcome.next (if_pos ⟨hreg, hcomplete, hdue⟩), hat, hsent⟩

/-- ROLL_INCOMPLETE. -/
theorem rollIncomplete_logs (s : State) (hreg : s.roleBit 2 = true) (hincomplete : s.dmn.complete = false)
    (hlate : s.dmn.late = false) (hdue : s.dmn.powerAt + 450000 ≤ s.clk.sfn) :
    ∃ t, exec .rollIncomplete s = .next t ∧ t.dmn.late = true ∧
      Logged s t 0x100D ((s.missing.map groupOf).flatMap d8) := by
  have hruns : s.roleBit 2 = true ∧ (!s.dmn.complete) = true ∧ (!s.dmn.late) = true ∧ s.dmn.powerAt + 450000 ≤ s.clk.sfn :=
    ⟨hreg, by rw [hincomplete]; rfl, by rw [hlate]; rfl, hdue⟩
  refine ⟨_, congrArg Host.Outcome.next (if_pos hruns), ?_, (Logged.log _ _ _).since (Nat.le_refl _)⟩
  rw [State.log_dmn]
  rfl

/-! ## Carriers without traffic (R553) -/

/-- A carrier's traffic has been judged. -/
def trafficJudged (s : State) (c : Carrier) : State := s.setDmn (fun d => { d with noTraffic := d.noTraffic.set c true })

theorem trafficJudged_get (s : State) (c : Carrier) : (trafficJudged s c).dmn.noTraffic.get c = true := by cases c <;> rfl

/-- CARRIER_WITHOUT_TRAFFIC of a carrier with clients that carries none. -/
theorem carrierWithoutTraffic_logs (c : Carrier) (s : State) (hfirst : s.dmn.noTraffic.get c = false)
    (hdue : s.dmn.powerAt + 600000 ≤ s.clk.sfn) (hclients : (List.range 64).any (fun x => s.configured c x) = true)
    (hnone : (s.fr c).txMap.carried = 0) :
    ∃ t, exec (.carrierWithoutTraffic c) s = .next t ∧ t.dmn.noTraffic.get c = true ∧
      Logged s t 0x100F (d8 c.inst ++ d8 (s.trafficStage c)) := by
  have hruns : ¬(s.dmn.noTraffic.get c = true ∨ s.clk.sfn < s.dmn.powerAt + 600000) := by
    rintro (hjudged | hearly)
    · exact Bool.noConfusion (hfirst.symm.trans hjudged)
    · omega
  have hexec : exec (.carrierWithoutTraffic c) s = .next ((trafficJudged s c).logC c 0x100F
      (d8 c.inst ++ d8 (s.trafficStage c))) :=
    congrArg Host.Outcome.next ((if_neg hruns).trans (if_pos ⟨hclients, hnone⟩))
  refine ⟨_, hexec, ?_, (Logged.logC _ _ _ _).since (Nat.le_refl _)⟩
  rw [State.logC_dmn]
  exact trafficJudged_get s c

/-! ## Neighbour discovery (R497) -/

variable {p : Fin 2} {addr : BitVec 128} {a : MgAddr}

/-- An address of a port that is found stands in the table for that port. -/
theorem mgAddr_of_find (h : s.aop.mgAddrs.find? (fun a => a.port == p.val && a.addr == addr.toNat) = some a) :
    a ∈ s.aop.mgAddrs ∧ a.port = p.val ∧ a.addr = addr.toNat := by
  have hboth := List.find?_some (p := fun a : MgAddr => a.port == p.val && a.addr == addr.toNat) h
  obtain ⟨hport, haddr⟩ := Bool.and_eq_true_iff.mp hboth
  exact ⟨List.mem_of_find?_eq_some h, beq_iff_eq.mp hport, beq_iff_eq.mp haddr⟩

/-- An entry of the table changed stands in it as the change makes it. -/
theorem mem_setAddress {port addr : Nat} (f : MgAddr → MgAddr) (ha : a ∈ s.aop.mgAddrs) (hport : a.port = port)
    (haddr : a.addr = addr) : f a ∈ (s.setAddress port addr f).aop.mgAddrs :=
  List.mem_map.mpr ⟨a, ha, if_pos ⟨hport, haddr⟩⟩

/-- NEIGHBOUR_DISCOVERY of a solicitation for an assigned address. -/
theorem neighbourDiscovery_answers (p : Fin 2) (addr src : BitVec 128) (a : MgAddr) (s : State)
    (hown : s.aop.mgAddrs.find? (fun a => a.port == p.val && a.addr == addr.toNat) = some a)
    (hassigned : a.tentative = false) (hunique : a.duplicate = false) :
    exec (.neighbourDiscovery p (.solicit addr src)) s = .next (s.emit (.neighbour p true addr.toNat)) := by
  simp only [exec, execNeighbourDiscovery, hown, hassigned, hunique, Bool.false_eq_true, if_false]

/-- NEIGHBOUR_DISCOVERY of a solicitation that contests an address under detection. -/
theorem neighbourDiscovery_duplicate (p : Fin 2) (addr src : BitVec 128) (a : MgAddr) (s : State)
    (hown : s.aop.mgAddrs.find? (fun a => a.port == p.val && a.addr == addr.toNat) = some a)
    (htentative : a.tentative = true) (hsrc : src = 0) :
    ∃ t, exec (.neighbourDiscovery p (.solicit addr src)) s = .next t ∧
      ∃ x ∈ t.aop.mgAddrs, x.port = p.val ∧ x.addr = addr.toNat ∧ x.duplicate = true := by
  obtain ⟨hmem, hport, haddr⟩ := mgAddr_of_find hown
  have hexec : exec (.neighbourDiscovery p (.solicit addr src)) s = .next (s.setAddress p addr.toNat
      (fun a => if a.tentative then { a with duplicate := true } else a)) := by
    simp only [exec, execNeighbourDiscovery, hown, htentative, if_true, hsrc]
  refine ⟨_, hexec, _, mem_setAddress _ hmem hport haddr, ?_⟩
  rw [if_pos htentative]
  exact ⟨hport, haddr, rfl⟩

/-- NEIGHBOUR_DISCOVERY of an advertisement of another engine's address. -/
theorem neighbourDiscovery_learns (p : Fin 2) (addr : BitVec 128) (link : BitVec 48) (s : State)
    (hother : s.aop.mgAddrs.find? (fun a => a.port == p.val && a.addr == addr.toNat) = none) :
    ∃ t, exec (.neighbourDiscovery p (.advert addr link)) s = .next t ∧
      t.aop.neighbours = assocSet s.aop.neighbours addr.toNat link.toNat := by
  refine ⟨{ s with aop := { s.aop with neighbours := assocSet s.aop.neighbours addr.toNat link.toNat } }, ?_, rfl⟩
  simp only [exec, execNeighbourDiscovery, hother]

/-- NEIGHBOUR_DISCOVERY at the end of an address's detection. -/
theorem neighbourDiscovery_assigns (p : Fin 2) (addr : BitVec 128) (a : MgAddr) (s : State) (ha : a ∈ s.aop.mgAddrs)
    (hport : a.port = p.val) (haddr : a.addr = addr.toNat) :
    ∃ t, exec (.neighbourDiscovery p (.timer addr)) s = .next t ∧ { a with tentative := false } ∈ t.aop.mgAddrs :=
  ⟨_, rfl, mem_setAddress (fun a => { a with tentative := false }) ha hport haddr⟩

end Watches

/-- Settles O52: each command completes in the state that its rule above names. The stage of 100Fh is that of log entry
66, the groups of 100Dh those of log entry 65, and the events of neighbour discovery those of log entry 56. -/
theorem domainWatches : Obligations.DomainWatches :=
  ⟨domainRoll_shows, domainRollTimer_sends, rollIncomplete_logs, carrierWithoutTraffic_logs, neighbourDiscovery_answers,
    neighbourDiscovery_duplicate, neighbourDiscovery_learns, neighbourDiscovery_assigns⟩

end Sys2Proof.Proofs.DomainAssembly
end
